-- ==== Sys2Proof/Word.lean ====
section
/-! DEFINITION. The words of the CH8128 (spec 00 R4, R5): 32-bit host registers, their bit fields, the
24-bit and 48-bit values they carry, and the saturating counts that the register tables use. -/

namespace Sys2Proof

/-- A host-visible register or message word (R4). -/
abbrev Word := BitVec 32
abbrev Byte := BitVec 8

/-- Guests G0 to G15 (R10). -/
abbrev Guest := Fin 16
/-- Vehicle ports VP0 to VP7 (R20). -/
abbrev Port := Fin 8
/-- Sensor links SL0 to SL23 (R20). -/
abbrev SLink := Fin 24

/-- The bits [hi:lo] of a word as a number. -/
def Word.fld (w : Word) (hi lo : Nat) : Nat := (w.toNat / 2 ^ lo) % 2 ^ (hi + 1 - lo)

/-- One bit of a word. -/
def Word.bit (w : Word) (i : Nat) : Bool := w.getLsbD i

/-- A word built from fields, each written (hi, lo, value); a value too large for its field keeps its low bits. -/
def pack (fs : List (Nat × Nat × Nat)) : Word :=
  BitVec.ofNat 32 (fs.foldr (fun f a => a + (f.2.2 % 2 ^ (f.1 + 1 - f.2.1)) * 2 ^ f.2.1) 0)

/-- A plain number as a word. -/
def w32 (n : Nat) : Word := BitVec.ofNat 32 n

/-- A signed value in a word: right-aligned and sign-extended (R4). -/
def wInt (i : Int) : Word := BitVec.ofInt 32 i

/-- A Boolean as a field. -/
def b1 (b : Bool) : Nat := if b then 1 else 0

/-- A word with one bit set. -/
def oneBit (i : Nat) : Word := BitVec.ofNat 32 (2 ^ i)

/-- A word with bit i set for each true entry of a list, entry 0 at bit 0. -/
def flagWord : List Bool → Nat
  | [] => 0
  | b :: bs => b1 b + 2 * flagWord bs

/-- The two words of a 48-bit value, low first (R5). -/
def pair48 (n : Nat) : List Word := [w32 n, w32 ((n / 2 ^ 32) % 2 ^ 16)]

/-- The two words of a signed 48-bit value, low first, the high one sign-extended (R5). -/
def pairInt (i : Int) : List Word := [w32 (i % 2 ^ 32).toNat, wInt (i / 2 ^ 32)]

/-- The signed value of the low n bits of a number, two's complement. -/
def sext (n : Nat) (v : Nat) : Int :=
  if v % 2 ^ n < 2 ^ (n - 1) then (v % 2 ^ n : Int) else (v % 2 ^ n : Int) - (2 : Int) ^ n

/-- A saturating increment. -/
def satInc (max n : Nat) : Nat := if n < max then n + 1 else max

/-- A saturating sum. -/
def satAdd (max n k : Nat) : Nat := min max (n + k)

/-- n rounded up to a multiple of k. -/
def roundUp (n k : Nat) : Nat := ((n + k - 1) / k) * k

/-- Sixteen bytes or more in words, byte 0 in bits 7..0 of the first word (R113). -/
def bytesToWords : List Byte → List Word
  | a :: b :: c :: d :: rest =>
      (d.toNat * 2 ^ 24 + c.toNat * 2 ^ 16 + b.toNat * 2 ^ 8 + a.toNat : Nat) |> w32 |> (· :: bytesToWords rest)
  | [] => []
  | rest => [w32 (rest.foldr (fun b acc => acc * 256 + b.toNat) 0)]

/-- The bytes of words, low byte first (R113). -/
def wordsToBytes : List Word → List Byte
  | [] => []
  | w :: ws => (w.extractLsb' 0 8) :: (w.extractLsb' 8 8) :: (w.extractLsb' 16 8) :: (w.extractLsb' 24 8)
      :: wordsToBytes ws

/-- A number little-endian in n bytes. -/
def leBytes : Nat → Nat → List Byte
  | 0, _ => []
  | n + 1, v => BitVec.ofNat 8 v :: leBytes n (v / 256)

/-- The number that bytes spell little-endian. -/
def leNat : List Byte → Nat
  | [] => 0
  | b :: bs => b.toNat + 256 * leNat bs

/-- A number big-endian in n bytes. -/
def beBytes (n v : Nat) : List Byte := (leBytes n v).reverse

/-- The characters of an ASCII text as bytes. -/
def ascii (t : String) : List Byte := t.toList.map fun c => BitVec.ofNat 8 c.toNat

/-- n bytes: a list cut or padded with zeros. -/
def padTo (n : Nat) (l : List Byte) : List Byte := (l ++ List.replicate n 0).take n

/-- A quotient rounded to nearest, ties to even. -/
def roundEven (num : Int) (den : Nat) : Int :=
  let q := num / den
  let r := num % den
  if 2 * r < den then q else if (den : Int) < 2 * r then q + 1 else if q % 2 = 0 then q else q + 1

/-- The largest number of 32 bits whose square is at most n. -/
def isqrt (n : Nat) : Nat := (List.range 32).foldr (fun i r => if (r + 2 ^ i) * (r + 2 ^ i) ≤ n then r + 2 ^ i else r) 0

/-- A value clamped to 24 bits signed, and whether it was clamped (R235). -/
def sat24 (x : Int) : Int × Bool :=
  if 8388607 < x then (8388607, true) else if x < -8388608 then (-8388608, true) else (x, false)

/-- A signed value saturated to n bits. -/
def satInt (n : Nat) (x : Int) : Int :=
  if (2 : Int) ^ (n - 1) - 1 < x then 2 ^ (n - 1) - 1 else if x < -(2 : Int) ^ (n - 1) then -(2 : Int) ^ (n - 1) else x

/-- A signed value in a field of n bits, two's complement. -/
def fldInt (n : Nat) (x : Int) : Nat := (x % (2 : Int) ^ n).toNat

/-- Entry i of a vector. -/
def ix {α : Type} {n : Nat} (v : Vector α n) (i : Fin n) : α := v[i.1]'i.2

/-- Change one entry of a vector. -/
def upd {α : Type} {n : Nat} (v : Vector α n) (i : Fin n) (f : α → α) : Vector α n :=
  v.set i.1 (f (ix v i)) i.2

/-- The list of all numbers below n as indices. -/
def idx (n : Nat) : List (Fin n) := List.finRange n

/-- Apply a function to every entry of a vector. -/
def vmap {α β : Type} {n : Nat} (f : α → β) (v : Vector α n) : Vector β n := Vector.ofFn fun i => f (ix v i)
/-- Whether every, and whether some, entry of a vector has a property. -/
def vall {α : Type} {n : Nat} (p : α → Bool) (v : Vector α n) : Bool := (idx n).all fun i => p (ix v i)
def vany {α : Type} {n : Nat} (p : α → Bool) (v : Vector α n) : Bool := (idx n).any fun i => p (ix v i)

/-- Change entry i of a list, none where there is no entry i. -/
def updAt {α : Type} : List α → Nat → (α → α) → List α
  | [], _, _ => []
  | a :: as, 0, f => f a :: as
  | a :: as, i + 1, f => a :: updAt as i f

/-- The length of a run: the last n entries of a list. -/
def lastN {α : Type} (n : Nat) (l : List α) : List α := l.drop (l.length - n)

/-- Whether x lies in lo … hi, both ends included (R3). -/
def inRange (lo hi x : Nat) : Bool := lo ≤ x && x ≤ hi

end Sys2Proof
end

