-- ==== Sys2Proof/Syntax.lean ====
section
/-! DEFINITION. The commands the CH8128 takes from outside: one constructor of Instr per row of the
operation and event table, with the operands the rules give that row. A host command row carries the request
message (Req); an event row carries what is received, measured or sensed. -/

namespace Sys2Proof

/-- The two paths of a guest to the device (R48, R63). -/
inductive Path where
  | pcie | gln
  deriving DecidableEq, Repr

/-- A descriptor found at a ring's head: ADDR, LEN, TAG, CTRL, STATUS and DONE_LEN, with the buffer's bytes where the device
reads it (R95). -/
structure Desc where
  addr : Nat := 0
  tag : Nat := 0
  own : Bool := true
  /-- DIR = 1: device to host. -/
  toHost : Bool := false
  last : Bool := true
  irq : Bool := false
  len : Nat := 1
  status : Nat := 0
  doneLen : Nat := 0
  data : List Byte := []
  deriving DecidableEq, Repr

/-- A request message with its sender (R85, R86) and the descriptors its ring holds (R96). -/
structure Req where
  guest : Guest
  path : Path := .pcie
  mbx : Fin 8 := 0
  words : List Word
  descs : List Desc := []
  deriving DecidableEq, Repr

/-- The power-module links PMA (0) and PMB (1). -/
abbrev PmIdx := Fin 2
/-- The chain ports CHE (0) and CHW (1). -/
abbrev ChPort := Fin 2

/-- The Service blocks with a clock of their own that commands use (R27, R610). -/
inductive Blk where
  | core | crypto | vehModem (p : Port) | meshModem | stor | display
  deriving DecidableEq, Repr

/-- What Safety's start-up (step 4) finds, its table's validation apart, which the table itself decides (R351, R359). -/
inductive InitOutcome where
  /-- The digest and the start-up self-tests pass. -/
  | done
  | digestFail
  /-- A diagnostic or an execution fault of R340, by its code. -/
  | safeStop (code : Nat)
  | safeHalt (code : Nat)
  deriving DecidableEq, Repr

/-- What the checks of R146 find in a presented contract chain. -/
structure ChainChecks where
  /-- Every signature up to the root named verifies. -/
  signatures : Bool
  /-- Key usage, basic constraints and the eMAID format are correct. -/
  usage : Bool
  /-- The vehicle's signature over the challenge verifies. -/
  challenge : Bool
  /-- A certificate lies outside its validity period by the wall-clock label. -/
  expired : Bool
  deriving DecidableEq, Repr

/-- What a vehicle states over its protocol (R191, R203): voltage in 10 mV, current in mA, powers in W. -/
structure VehTarget where
  v : Int
  i : Int
  vPre : Int := 0
  vMax : Nat := 0
  iMax : Nat := 0
  pMax : Nat := 0
  pDis : Int := 0
  slewUp : Option Nat := none
  slewDn : Option Nat := none
  deriving DecidableEq, Repr

/-- A STATUS frame's contents (R187). tTx and tRx are chain times in ns. -/
structure PmStatus where
  applied : Nat
  tTx : Nat
  tRx : Nat
  residence : Nat
  v : Int
  i : Int
  flags : Nat
  deriving DecidableEq, Repr

/-- A LIMITS frame's contents (R187). -/
structure PmLimits where
  vMax : Int
  iMax : Int
  iMin : Int
  pMax : Int
  pMin : Int
  slewUp : Nat
  slewDn : Nat
  bidir : Bool
  deriving DecidableEq, Repr

/-- A candidate key (R416): ROLE, INCUMBENT, WEST_END and the module serial. -/
structure ChKey where
  role : Nat
  incumbent : Bool
  west : Bool
  serial : Nat
  deriving DecidableEq, Repr

/-- The header of a received chain frame (R420) and the chain port it arrived on, none where the mesh brought it
(R456). -/
structure ChHdr where
  port : Option ChPort := some 0
  level : Nat := 3
  rep : Bool := false
  dst : Nat := 255
  src : Nat := 0
  hops : Nat := 255
  viaMesh : Bool := false
  seq : Nat := 0
  epoch : Nat := 0
  deriving DecidableEq, Repr

/-- The header of a SLEEP_ABORT and the failing guard that it names, with the unit's address above it; 0 where a wake event ends the
entry (R41, R42). -/
structure AbortHdr extends ChHdr where
  why : Nat := 0
  deriving DecidableEq, Repr

/-- HELLO of a neighbour (R421): the serial of the head it names, none where it knows none. -/
structure Hello where
  serial : Nat
  addr : Nat
  head : Option Nat
  key : ChKey
  /-- Key of the head it names, none where it knows none. -/
  headKey : Option ChKey := none
  port : Nat
  link : Nat
  deriving DecidableEq, Repr

/-- Site-scoped items (R431): SITE_ID, SITE_LIMIT in kW and EXPECT_UNITS. -/
structure SiteItems where
  siteId : Nat
  limit : Nat
  expect : Nat
  deriving DecidableEq, Repr

/-- REPORT of a unit (R430), and the SITE_ID the head knows the unit by. -/
structure ReportFrame where
  serial : Nat
  demand : Nat
  held : Nat
  missed : Nat := 0
  levelMin : Nat := 1
  levelMax : Nat := 3
  locked : Bool := false
  staged : Bool := false
  service : Bool := false
  floor : Nat := 0
  weight : Nat := 1
  digest : Nat
  /-- Bytes 0 to 3 of the active SERVICE, LEGAL and SAFETY digests and of the staged one. -/
  act : List Nat := []
  stagedTag : Nat := 0
  offset : Int := 0
  siteId : Nat := 0
  deriving DecidableEq, Repr

/-- An entry of GRANT (R430). -/
structure GrantEntry where
  addr : Nat
  fenced : Bool := false
  causes : Nat := 0
  quorate : Bool := false
  kw : Nat
  held : Nat := 0
  deriving DecidableEq, Repr

/-- GRANT of the head for one epoch (R430), and the head's site digest. -/
structure GrantFrame where
  epoch : Nat
  limit : Nat
  level : Nat
  entries : List GrantEntry
  digest : Nat := 0
  deriving DecidableEq, Repr

/-- An activation that is proposed, withdrawn or committed (R432, R536): class, digest (0 withdraws), the target epoch of a
proposal or T_act in ns of a commit, and the address of the only unit in scope, 0 for site scope. -/
structure ActItem where
  cls : Nat
  digest : Nat
  at_ : Nat := 0
  unit : Nat := 0
  deriving DecidableEq, Repr

/-- One frame of the address table (R417): the rows, serial and address, of the 60 addresses from `first` up. -/
structure TableFrame where
  first : Nat
  rows : List (Nat × Nat)
  deriving DecidableEq, Repr

/-- A frame that fails R420 on a chain link: whether a symbol of it was in error, whether its CRC is the complement of the correct one, so that
another unit found the failure, and its bytes up to the CRC where it is being forwarded cut-through (R422). -/
structure ChainBad where
  symbol : Bool
  ended : Bool := false
  through : Option (List Byte) := none
  deriving DecidableEq, Repr

/-- What a chain frame carries (R421). -/
inductive ChBody where
  | hello (x : Hello)
  | delayReq (t1 : Nat)
  | delayRsp (t1 t2 t3 : Nat)
  | tripAdvice (origin cause ports row time : Nat)
  | reduce (f seconds : Nat)
  | reduceReq (limit seconds : Nat)
  | sync (origin : Nat) (corr : Int)
  | candidate (k : ChKey)
  | headClaim (k : ChKey)
  | topology (blocked closed : Bool)
  | linkDown (unit : Nat) (port : ChPort)
  | sleep (sub arg : Nat)
  | wake (src : Nat)
  | report (r : ReportFrame)
  | grant (g : GrantFrame)
  | join (serial : Nat)
  | assign (serial addr : Nat)
  | table (x : TableFrame)
  | siteConfig (epoch : Nat) (x : SiteItems)
  | configAck (reason : Nat)
  | actPropose (a : ActItem)
  | actCommit (a : ActItem)
  | actQuery (a : ActItem) (answer : Option Bool)
  | walk (next : Nat)
  | mirror (entry : List Byte)
  | fwOffer (header : List Byte)
  | fwBlock (tag off : Nat) (data : List Byte)
  | fwNack (tag off len : Nat)
  | fwReq
  deriving DecidableEq, Repr

/-- The header of a received mesh frame (R449, R450): LINK_SRC and LINK_DST of frame control, and the payload header. -/
structure MHdr where
  linkSrc : Nat
  linkDst : Nat := 255
  src : Nat
  dst : Nat := 255
  hops : Nat := 6
  route : List Nat := []
  idx : Nat := 0
  seq : Nat := 0
  deriving DecidableEq, Repr

/-- One segment of a tone map (R452): the loadings of the data carriers, and the code rate, 0 for 1/2, 1 for 16/21, 2 for
16/18. -/
structure ToneSeg where
  load : List Nat
  rate : Fin 3 := 0
  deriving DecidableEq, Repr

/-- PHASE of a unit (R459). -/
structure PhaseFrame where
  epoch : Nat
  t0 : Nat
  off1 : Nat := 0xFFFFFFFF
  off2 : Nat := 0xFFFFFFFF
  period : Nat
  refPhase : Nat := 0
  negative : Bool := false
  deriving DecidableEq, Repr

/-- A head's registers (R242). -/
structure HeadRegs where
  id : Nat := 0
  serial : Nat := 0
  range : Nat := 0
  rangeHi : Nat := 0
  kref : Nat := 0
  temp : Nat := 0
  stat : Nat := 0
  deriving DecidableEq, Repr

/-- A symbol of an upstream frame as the 8b/10b decoder gives it (R228, R230): a data byte, the comma K28.5, or a code group that is
invalid or breaks the running disparity. -/
inductive UpSym where
  | data (b : Byte)
  | comma
  | bad
  deriving DecidableEq, Repr

/-- A sample of the seal loop: its resistance, and the least resistance of either ball to GND, in ohms (R300, R595). -/
structure LoopRead where
  ohm : Nat
  gnd : Nat
  deriving DecidableEq, Repr

/-- What drive initialisation finds at STOR (R481, R482): namespace size in bytes, and whether the superblocks are
absent (0), this module's (1) or another module's (2). -/
structure DriveInfo where
  size : Nat
  format : Nat
  deriving DecidableEq, Repr

/-- A block of the continuous stream: its head and its number in the run (R486). -/
structure StreamBlock where
  head : SLink
  num : Nat
  deriving DecidableEq, Repr

/-- What the Safety sequencer reads at a port in one cycle (R338): auxiliary contact levels (true closed), voltages
across the contactors in mV, coil currents in mA, residual currents in 0.1 mA with the sensor's health, and the lock feedback
contact (true closed). -/
structure PortSense where
  aux : Vector Bool 2
  across : Vector Nat 2
  coil : Vector Nat 2
  rcmDc : Nat := 0
  rcmAc : Nat := 0
  rcmFault : Bool := false
  lockFb : Bool := false
  deriving DecidableEq, Repr

/-- A comparator's self-test (R340): 0 insulation, 1 residual current, 2 PE, 3 CP of a port, and whether it passed. -/
structure ComparatorTest where
  comp : Fin 4
  port : Port
  ok : Bool
  deriving DecidableEq, Repr

/-- A switch of a driver: of a coil, a brake or a SAFE_OUT, the sequencer's (0) or the drive die's (1) (R337, R340). -/
inductive Driver where
  | coil (p : Port) (k sw : Fin 2)
  | brake (b sw : Fin 2)
  | out (k : Fin 8) (sw : Fin 2)
  deriving DecidableEq, Repr

/-- A driver off-test of one switch, and whether it passed (R340). -/
structure DriverTest where
  driver : Driver
  ok : Bool
  deriving DecidableEq, Repr

/-- One cycle of the sequencer (R338): the ports, the read-back of coils (bit 2p + n), SAFE_OUTs and brakes, the
program-flow signature and whether a correct watchdog answer was given in this cycle. -/
structure CycleSense where
  port : Vector PortSense 8
  coils : Nat
  outs : Nat
  brakes : Nat
  flow : Bool := true
  answer : Bool := true
  deriving DecidableEq, Repr

/-- A card that answers a poll (R553, R554): type B, part 4, UID or PUPI, ATQA or application data, and SAK. -/
structure CardInfo where
  typeB : Bool := false
  isoDep : Bool := false
  uid : List Byte
  atqa : Nat := 0
  sak : Nat := 0
  deriving DecidableEq, Repr

/-- What comes of an APDU sent to a card (R578): its answer, no answer within FWT after two retransmissions, or a card
removed or a protocol error. -/
inductive CardAnswer where
  | answer (bytes : List Byte)
  | silent
  | error
  deriving DecidableEq, Repr

/-- The frames of ISO/IEC 14443-3 and -4 that reach the tag before an APDU (R557). -/
inductive TagFrame where
  | reqa | wupa | select | rats | hlta
  deriving DecidableEq, Repr
/-- The commands, in the order of the table. -/
inductive Instr where
  /-- R87: The host writes GO in the MBC of a host-to-device mailbox; FULL sets and the message is handed to the device. -/
  | mbxGo (path : Path) (g : Guest) (n : Fin 8)
  /-- R87: The device fetches a host-to-device message once its refusal slot is free, runs the pre-admission checks and admits or refuses it. -/
  | messageFetch (g : Guest) (n : Fin 8)
  /-- R150: An admitted command starts on its queue; a command that names its claimant has the claim checked again and gives REFUSED if the claim has ended. -/
  | commandStart (g : Guest) (q : Nat)
  /-- R89: An admitted command's response is written into its reserved completion slot; its cost and queue entry are released and the queue may unbind. -/
  | commandComplete (g : Guest) (q : Nat)
  /-- R88: A response or notice moves from the completion store into the lowest free device-to-host mailbox of the right path. -/
  | responseToMailbox (path : Path) (g : Guest)
  /-- R84: The host reads the last data register of a device-to-host message; FULL clears and the credit or notice slot is released. -/
  | mbxResponseRead (path : Path) (g : Guest) (n : Fin 8)
  /-- R83: A write of 1 clears ABORT in a host-to-device mailbox control register. -/
  | mbxAbortClear (path : Path) (g : Guest) (n : Fin 8)
  /-- R118: The final outcome of a command that completed with ACCEPTED is written as a notice with CLASS 7 into its reserved completion slot. -/
  | finalNotice (g : Guest)
  /-- R8: A write to a register field that has no row of its own sets the field according to its access code. -/
  | registerWrite (path : Path) (g : Guest) (off : Nat) (v : Word)
  /-- R6: A read of the low register of a 48-bit pair latches the high half for the reading guest. -/
  | pairLowRead (g : Guest) (off : Nat)
  /-- R65: A GLN read of the low word of a register or pair latches the remaining words for GLN. -/
  | glnLowWordRead (off : Nat)
  /-- R71: An access outside the guest's permitted space is blocked and answered according to its path and kind. -/
  | accessViolation (path : Path) (g : Guest) (off : Nat) (write : Bool) (be : Nat) (shape : Bool)
  /-- R50: A received poisoned TLP is discarded, reported under AER and counted as host error of that guest. -/
  | poisonedTlp (g : Guest)
  /-- R48: A write of NumVFs sets the number of virtual functions while VF Enable is clear, and is ignored otherwise. -/
  | numvfsWrite (n : Fin 16)
  /-- R75: Clearing VF Enable removes every virtual function and triggers a guest reset of every guest. -/
  | vfEnableClear
  /-- R75: A Function Level Reset of a virtual function resets its guest, and one of the physical function resets every guest. -/
  | flr (g : Guest)
  /-- R75: Assertion of PERST# triggers a guest reset of every guest. -/
  | perstAssert
  /-- R75: The HOST link going down triggers a guest reset of every guest. -/
  | hostLinkDown
  /-- R51: The HOST endpoint reaches L0 and answers configuration requests with Request Retry Status until the Service image has started. -/
  | hostLinkTrained
  /-- R62: Any write to SYS_GUEST_HB starts or restarts the guest's heartbeat timer. -/
  | sysGuestHbWrite (path : Path) (g : Guest)
  /-- R75: A running guest heartbeat timer reaches its timeout and triggers a guest reset. -/
  | heartbeatExpiry (g : Guest)
  /-- R76: A guest is reset: mailboxes, queue entries, leases and interrupt state are cleared in the stated order within 5 ms. -/
  | guestReset (g : Guest)
  /-- R70: A write of 1 to bits of SYS_IRQ_STATUS clears the pending sources. -/
  | irqStatusClear (path : Path) (g : Guest) (bits : Word)
  /-- R78: A write of ARM = 1 makes every pending and enabled source live at once. -/
  | irqArm (path : Path) (g : Guest)
  /-- R70: Unmasking an MSI-X vector sends the message held pending in the PBA. -/
  | msixVectorUnmask (g : Guest) (v : Fin 64)
  /-- R72: A write of 1 to SYS_VIOL_CLR bit 0 clears the violation log, the count and VIOL_PEND. -/
  | sysViolClr (g : Guest)
  /-- R79: Setting SNAP copies all 32 live counters of the guest at one clock edge. -/
  | pfcSnap (g : Guest)
  /-- R79: Setting CHIP_SNAP in the system guest copies all 16 guests' counters at one clock edge. -/
  | pfcChipSnap (g : Guest)
  /-- R79: Writing FREEZE stops or restarts all 32 counters of the guest at one clock edge. -/
  | pfcFreeze (g : Guest) (on : Bool)
  /-- R79: A write to PFC_CNTn presets that counter. -/
  | pfcPreset (g : Guest) (c : Fin 32) (v : Word)
  /-- R80: A write of 1 to bits of PFC_OVF clears the counters' wrap flags. -/
  | pfcOvfClear (g : Guest) (bits : Word)
  /-- R94: The host sets a bit of QUE_DB_H2D to announce new descriptors on a ring. -/
  | queDbH2d (g : Guest) (bits : Word)
  /-- R94: A write of 1 clears bits of QUE_DB_D2H. -/
  | queDbD2hClear (g : Guest) (bits : Word)
  /-- R123: An open configuration transaction that receives no item for 60 s is discarded. -/
  | txnTimeout (g : Guest)
  /-- R151: A read of VP_EVENT(p) returns and clears the reading guest's copy. -/
  | vpEventRead (path : Path) (g : Guest) (p : Port)
  /-- R177: A read of SES_EVENT(p) returns and clears the reading guest's copy. -/
  | sesEventRead (path : Path) (g : Guest) (p : Port)
  /-- R217: A read of PWR_EVENT(p) returns and clears the reading guest's copy. -/
  | pwrEventRead (path : Path) (g : Guest) (p : Port)
  /-- R253: A read of MET_EVENT(p) returns and clears the reading guest's copy. -/
  | metEventRead (path : Path) (g : Guest) (p : Port)
  /-- R282: A read of NRG_EVENT(p) returns and clears the reading guest's copy. -/
  | nrgEventRead (path : Path) (g : Guest) (p : Port)
  /-- R307: A read of BIL_EVENT(p) returns and clears the reading guest's copy. -/
  | bilEventRead (path : Path) (g : Guest) (p : Port)
  /-- R308: A read of BIL_UNIT_EVENT returns and clears the reading guest's copy. -/
  | bilUnitEventRead (path : Path) (g : Guest)
  /-- R329: A read of PQ_EVENT(p) returns and clears the reading guest's copy. -/
  | pqEventRead (path : Path) (g : Guest) (p : Port)
  /-- R330: A read of PQ_SITE_EVENT returns and clears the reading guest's copy. -/
  | pqSiteEventRead (path : Path) (g : Guest)
  /-- R363: A read of SAF_SITE_EVENT returns and clears the reading guest's copy. -/
  | safSiteEventRead (path : Path) (g : Guest)
  /-- R364: A read of SAF_EVENT(p) returns and clears the reading guest's copy. -/
  | safEventRead (path : Path) (g : Guest) (p : Port)
  /-- R385: A read of IMD_EVENT(p) returns and clears the reading guest's copy. -/
  | imdEventRead (path : Path) (g : Guest) (p : Port)
  /-- R386: A read of BRK_EVENT returns and clears the reading guest's copy. -/
  | brkEventRead (path : Path) (g : Guest)
  /-- R405: A read of LS_EVENT returns and clears the reading guest's copy. -/
  | lsEventRead (path : Path) (g : Guest)
  /-- R441: A read of CHN_EVENT returns and clears the reading guest's copy. -/
  | chnEventRead (path : Path) (g : Guest)
  /-- R464: A read of MSH_EVENT returns and clears the reading guest's copy. -/
  | mshEventRead (path : Path) (g : Guest)
  /-- R495: A read of JNL_EVENT returns and clears the reading guest's copy. -/
  | jnlEventRead (path : Path) (g : Guest)
  /-- R495: A read of CAV_EVENT returns and clears the reading guest's copy. -/
  | cavEventRead (path : Path) (g : Guest)
  /-- R521: A read of KEY_EVENT returns and clears the reading guest's copy. -/
  | keyEventRead (path : Path) (g : Guest)
  /-- R547: A read of UPD_EVENT returns and clears the reading guest's copy. -/
  | updEventRead (path : Path) (g : Guest)
  /-- R574: A read of NFC_EVENT returns and clears the reading guest's copy. -/
  | nfcEventRead (path : Path) (g : Guest)
  /-- R575: A read of DSP_EVENT returns and clears the reading guest's copy. -/
  | dspEventRead (path : Path) (g : Guest)
  /-- R120: Returns part, stepping, BI level, firmware version, active banks, chain address and serial. -/
  | getDeviceInfo (r : Req)
  /-- R120: Returns validity, activity, rollback counter and digest of a named image bank. -/
  | getImageDigest (r : Req)
  /-- R120: Returns words 2 to LEN-1 unchanged with DONE. -/
  | echo (r : Req)
  /-- R120: Returns the epochs in force and committed, and the sender's transaction and pending state. -/
  | getConfigState (r : Req)
  /-- R120: Opens a configuration transaction for the sender. -/
  | beginConfig (r : Req)
  /-- R123: Validates every item of the open transaction and journals it as one record with a new epoch, or refuses and discards it. -/
  | commitConfig (r : Req)
  /-- R120: Discards the sender's open transaction. -/
  | abortConfig (r : Req)
  /-- R120: Configuration item that selects the TREF inputs in use. -/
  | setTrefMode (r : Req)
  /-- R38: Authorises on the head one slew of chain time to a faulted TREF phase. -/
  | acceptTrefPhase (r : Req)
  /-- R41: Requests a site sleep with an entry delay; the head runs the two-phase agreement and a final notice follows. -/
  | requestSiteSleep (r : Req)
  /-- R120: The system guest's command that starts a chip reset within 10 us of admission, with no response. -/
  | resetChip (r : Req)
  /-- R121: Returns an opcode's declared cost, present start latency and fastest class. -/
  | getCommandCost (r : Req)
  /-- R121: Returns the binding, class and outstanding count of a queue of the sender. -/
  | getQueueState (r : Req)
  /-- R125: Configuration item that sets a guest's queue range, applied after its queues leaving the range drain. -/
  | setQueueRange (r : Req)
  /-- R122: Returns a guest's capability mask, rights, queue range, shares and credits. -/
  | getGuestConfig (r : Req)
  /-- R59: Configuration item that sets a guest's query and control groups, ports and special rights. -/
  | setGuestCaps (r : Req)
  /-- R125: Configuration item that sets a guest's class shares and credit limit, with drain preconditions for decreases. -/
  | setGuestQos (r : Req)
  /-- R122: Configuration item that sets a guest's heartbeat timeout. -/
  | setGuestHeartbeat (r : Req)
  /-- R66: Configuration item that binds GLN to a guest or to none from the next reset. -/
  | setGlnBind (r : Req)
  /-- R122: Triggers a guest reset of the sender or, from the system guest, of a named guest. -/
  | resetGuest (r : Req)
  /-- R92: Places a copy of the payload in a target guest's store under the notice-slot rules. -/
  | relayMessage (r : Req)
  /-- R153: Returns the port's VP block without clearing VP_EVENT. -/
  | getPortStatus (r : Req)
  /-- R153: Returns the vehicle's limits, protocol, mode, eMAID and contract chain results. -/
  | getVehicleInfo (r : Req)
  /-- R153: Returns the port's MAC address and link frame, SNR and attenuation statistics. -/
  | getLinkStats (r : Req)
  /-- R147: Copies the pending vehicle certificate request body to a ring. -/
  | getCertRequest (r : Req)
  /-- R154: Gives the sender the claim on a port, or with FORCE from the system guest takes it over. -/
  | claimPort (r : Req)
  /-- R150: Ends the holder's claim on a port. -/
  | releasePort (r : Req)
  /-- R154: Session-bound configuration item for connector type, enable, protocols, link and lock settings of a port. -/
  | setPortConfig (r : Req)
  /-- R134: Sets the advertised AC current of a BASIC AC port and the resulting duty. -/
  | setAcCurrent (r : Req)
  /-- R148: Drives a lock or unlock between sessions; a final notice reports the result. -/
  | driveLock (r : Req)
  /-- R32: Resets the port's service state at once when idle, or in two steps after a controlled end. -/
  | resetPort (r : Req)
  /-- R154: Unit-level configuration item that fills or empties a trust store slot. -/
  | loadTrustAnchor (r : Req)
  /-- R147: Supplies the host's response to a pending vehicle certificate request. -/
  | certExchangeReply (r : Req)
  /-- R179: Returns the port's session block without clearing SES_EVENT. -/
  | getSessionStatus (r : Req)
  /-- R179: Returns the open or last session's number, end, energies, credit and identifier tag. -/
  | getSessionSummary (r : Req)
  /-- R159: Decides authorisation at the identification point, or holds a pre-authorisation on an idle port. -/
  | authoriseSession (r : Req)
  /-- R174: Raises the energy or time credit of the open session. -/
  | addCredit (r : Req)
  /-- R180: Ends the open session by a controlled end, rejects an authorisation or cancels a pre-authorisation. -/
  | stopSession (r : Req)
  /-- R180: Leaves FAULTED when no contactor fault is latched. -/
  | clearFault (r : Req)
  /-- R179: Session-bound configuration item for authorisation mode, billing, unlock and session timers. -/
  | setSessionConfig (r : Req)
  /-- R220: Returns the port's power block without clearing PWR_EVENT. -/
  | getPowerStatus (r : Req)
  /-- R220: Returns the unit lease, floor, draw, epoch, link and site registers. -/
  | getLeaseStatus (r : Req)
  /-- R220: Returns the port converter's latest LIMITS values. -/
  | getConverterLimits (r : Req)
  /-- R220: Returns frame, error, recall and delay statistics of PMA or PMB. -/
  | getPmLinkStats (r : Req)
  /-- R221: Session-bound configuration item for link mapping, step period, slews and port limits. -/
  | setPowerConfig (r : Req)
  /-- R221: Sets host charge and discharge caps and the dynamic-mode target of a port. -/
  | setPortLimit (r : Req)
  /-- R221: Unit-level configuration item for the floor, AUX_KW and weight of the unit. -/
  | setLeaseConfig (r : Req)
  /-- R221: Unit-level and site-scoped configuration item that sets SITE_LIMIT. -/
  | setSitePower (r : Req)
  /-- R221: Unit-level configuration item that enables or disables PMA or PMB. -/
  | setPmLinkConfig (r : Req)
  /-- R214: Sets a temporary site limit for a duration, or clears it. -/
  | reduceSitePower (r : Req)
  /-- R255: Returns the port's metrology block without clearing MET_EVENT. -/
  | getMetrologyStatus (r : Req)
  /-- R255: Returns mean, RMS, peak and validity of a channel path over the last latch period. -/
  | getChannelReading (r : Req)
  /-- R255: Returns pilot amplitudes, deviation and verification state of a path. -/
  | getVerification (r : Req)
  /-- R255: Returns a head's serial, identity, ranges, reference, temperature and bound serial. -/
  | getHeadInfo (r : Req)
  /-- R255: Returns a path's coefficients in force or pending. -/
  | getCalCoeff (r : Req)
  /-- R256: Session-bound configuration item for RATED_I and PHASES, restarting the port's links. -/
  | setMetrologyConfig (r : Req)
  /-- R249: Opens a pending coefficient set for an OFF port in SERVICE. -/
  | beginCalibration (r : Req)
  /-- R249: Changes a path's coefficients in the pending set. -/
  | setCalCoeff (r : Req)
  /-- R251: Starts an energy, offset or overlap measurement; a final notice carries the results. -/
  | calMeasure (r : Req)
  /-- R249: Checks the overlap measurements and starts the pilot capture that closes calibration. -/
  | endCalibration (r : Req)
  /-- R250: Discards the pending set and ends any running measurement. -/
  | abortCalibration (r : Req)
  /-- R285: Returns the port's energy block. -/
  | getEnergyStatus (r : Req)
  /-- R285: Returns one page of six billing registers from one latch. -/
  | getRegisters (r : Req)
  /-- R285: Returns the accumulator remainder, pulse state and pulse-source remainder. -/
  | getAccumulator (r : Req)
  /-- R285: Returns supply, pulse input and interruption state with the last save. -/
  | getSupplyStatus (r : Req)
  /-- R286: Session-bound configuration item for latch cycles and pulse output. -/
  | setEnergyConfig (r : Req)
  /-- R286: Unit-level configuration item for a pulse input's role, port, constant and mode. -/
  | setPulseInput (r : Req)
  /-- R286: Unit-level configuration item for hold-up, PFW and the site reference. -/
  | setSupplyConfig (r : Req)
  /-- R276: Turns pulse-source mode on or off from the port's session boundary. -/
  | setPulseSource (r : Req)
  /-- R275: Starts a cross-check against a check-role input; a final notice reports it. -/
  | runCrossCheck (r : Req)
  /-- R310: Returns the port's billing block without clearing BIL_EVENT. -/
  | getBillingStatus (r : Req)
  /-- R310: Returns the newest interval index and its digest. -/
  | getChainHead (r : Req)
  /-- R311: Copies a sealed session record held by Legal to a ring. -/
  | getSessionRecord (r : Req)
  /-- R310: Returns the seal, label and legal run registers. -/
  | getSealStatus (r : Req)
  /-- R310: Returns the legal public key and its image tag. -/
  | getLegalPubkey (r : Req)
  /-- R311: Session-bound configuration item that sets INTERVAL_S. -/
  | setBillingConfig (r : Req)
  /-- R294: Session-bound configuration item that sets the port's tariff schedule. -/
  | setTariffSchedule (r : Req)
  /-- R295: Requests a tariff slot for the open session at the next interval boundary. -/
  | switchTariff (r : Req)
  /-- R293: Hands Legal a wall-clock label. -/
  | setWallClock (r : Req)
  /-- R303: Issues a new 16-byte reseal challenge in SERVICE. -/
  | getSealChallenge (r : Req)
  /-- R301: Checks a reseal token and the loop, and moves SERVICE to FIELD. -/
  | reseal (r : Req)
  /-- R313: Returns the optical port state and counts. -/
  | getOpticalStatus (r : Req)
  /-- R313: Unit-level configuration item for the optical port. -/
  | setOpticalConfig (r : Req)
  /-- R332: Returns port or site power quality state, last event, sequence and drops. -/
  | getPqStatus (r : Req)
  /-- R332: Returns the port's tamper state, counts and last difference. -/
  | getTamperStatus (r : Req)
  /-- R333: Copies the newest PQ event records of a source to a ring. -/
  | getPqEvents (r : Req)
  /-- R333: Copies one of the 16 newest tamper records of a port to a ring. -/
  | getTamperRecord (r : Req)
  /-- R333: Configuration item for the voltage thresholds of a port or of the site detector. -/
  | setPqConfig (r : Req)
  /-- R366: Returns the site safety registers without clearing the event register. -/
  | getSafetyStatus (r : Req)
  /-- R366: Returns the port safety block and the close guards that fail now. -/
  | getPortSafety (r : Req)
  /-- R367: Copies the newest trip log entries to a ring. -/
  | getTripLog (r : Req)
  /-- R366: Returns the safety table identity and active bank. -/
  | getSafetyTableInfo (r : Req)
  /-- R347: Gives the remote reset of MANUAL latches when REMOTE_RESET is 1. -/
  | resetTrip (r : Req)
  /-- R355: Starts a site or port safety restart; a final notice reports it. -/
  | requestSafetyRestart (r : Req)
  /-- R348: Sets the held requests of requestable SAFE_OUT outputs. -/
  | requestSafeOut (r : Req)
  /-- R388: Returns the port's insulation, residual-current and PE state. -/
  | getEarthStatus (r : Req)
  /-- R388: Returns the port's IMD group members, injector and network results. -/
  | getImdGroup (r : Req)
  /-- R389: Starts or defers the insulation self-test of a port. -/
  | runInsulationSelftest (r : Req)
  /-- R388: Returns contactor, lock, self-test and brake state of a port. -/
  | getActuatorStatus (r : Req)
  /-- R389: Starts or defers the weld test of a port. -/
  | runWeldTest (r : Req)
  /-- R389: Starts or defers the brake test of a port's brake. -/
  | runBrakeTest (r : Req)
  /-- R381: Requests release of the port's brake, after a brake test where MODE is 1. -/
  | releaseBrake (r : Req)
  /-- R381: Withdraws the release request and applies the port's brake within 2 ms. -/
  | applyBrake (r : Req)
  /-- R409: Returns the unit-level load switch registers. -/
  | getLsStatus (r : Req)
  /-- R409: Returns one channel's state, configuration, peak current and burst count. -/
  | getLsChannel (r : Req)
  /-- R409: Returns a lock bridge's state and configuration. -/
  | getLkStatus (r : Req)
  /-- R391: Sets the commanded states of named channels, or refuses as a whole. -/
  | setLsOutput (r : Req)
  /-- R393: Clears overcurrent or thermal latches of named channels. -/
  | clearLsFault (r : Req)
  /-- R392: Unit-level configuration item for one load switch channel. -/
  | setLsConfig (r : Req)
  /-- R399: Unit-level configuration item that sets V_NOM. -/
  | setLsSupplyConfig (r : Req)
  /-- R401: Session-bound configuration item for a lock bridge's frequency, timing, voltage and limit. -/
  | setLkConfig (r : Req)
  /-- R443: Returns the chain registers. -/
  | getChainStatus (r : Req)
  /-- R443: Copies the address table entries to a ring. -/
  | getChainMembers (r : Req)
  /-- R443: Returns the error and frame counters of CHE or CHW. -/
  | getLinkCounters (r : Req)
  /-- R444: Copies the head's newest mirrored entries to a ring. -/
  | getMirroredEvents (r : Req)
  /-- R444: Unit-level configuration item for chain enable, role, level and site-scoped fields. -/
  | setChainConfig (r : Req)
  /-- R417: Removes a serial from the head's address table and frees its address. -/
  | removeUnit (r : Req)
  /-- R440: Queues a TRIP_ADVICE on both chain ports for the host. -/
  | sendTripAdvice (r : Req)
  /-- R444: Clears the named chain link counters. -/
  | clearLinkCounters (r : Req)
  /-- R466: Returns the mesh registers. -/
  | getMeshStatus (r : Req)
  /-- R466: Copies one entry per listed neighbour to a ring. -/
  | getMeshNeighbours (r : Req)
  /-- R467: Copies a neighbour's 16-segment tone map to a ring. -/
  | getToneMap (r : Req)
  /-- R466: Copies the phase results held to a ring. -/
  | getPhaseMap (r : Req)
  /-- R467: Unit-level configuration item for mesh enable, PSD, key and head phase reference. -/
  | setMeshConfig (r : Req)
  /-- R453: Unit-level configuration item for the coexistence attenuations and notches. -/
  | setCoexMask (r : Req)
  /-- R466: Clears MSH_TX, MSH_RX and MSH_ERR. -/
  | clearMeshCounters (r : Req)
  /-- R497: Returns the journal registers. -/
  | getJournalStatus (r : Req)
  /-- R497: Returns the Cave registers. -/
  | getCaveStatus (r : Req)
  /-- R484: Finds and copies matching Cave records to a ring. -/
  | findCaveRecord (r : Req)
  /-- R487: Copies continuous or window waveform blocks of chosen heads to a ring. -/
  | readWaveform (r : Req)
  /-- R497: Copies raw Cave bytes from a byte address to a ring. -/
  | readCaveRaw (r : Req)
  /-- R498: Unit-level configuration item for Cave enable, capture and window triggers. -/
  | setCaveConfig (r : Req)
  /-- R498: Writes new superblocks and empties the Cave regions. -/
  | formatCave (r : Req)
  /-- R489: Triggers a full-rate window now. -/
  | markWindow (r : Req)
  /-- R523: Returns the Rind and key registers. -/
  | getKeyStatus (r : Req)
  /-- R523: Vault command that returns a slot's attribute words at T_FIX. -/
  | getSlotInfo (r : Req)
  /-- R523: Vault command that writes a slot's public key to a ring. -/
  | getPublicKey (r : Req)
  /-- R519: Vault command that writes a signed attestation record and certificate. -/
  | getAttestation (r : Req)
  /-- R518: Copies the newest audit entries to the service guest in SERVICE. -/
  | getAuditLog (r : Req)
  /-- R514: Vault command that generates a key into a free slot. -/
  | generateKey (r : Req)
  /-- R514: Vault command that imports a wrapped or public key into a slot. -/
  | importKey (r : Req)
  /-- R523: Vault command that writes an exportable slot's key as a blob. -/
  | exportKey (r : Req)
  /-- R514: Vault command that empties a slot. -/
  | deleteKey (r : Req)
  /-- R523: Vault command that signs a digest with a slot or session key. -/
  | signDigest (r : Req)
  /-- R523: Vault command that verifies a signature over a digest. -/
  | verifySignature (r : Req)
  /-- R515: Vault command that derives an ephemeral session key into a session register. -/
  | openKeySession (r : Req)
  /-- R515: Vault command that ends a key session. -/
  | closeKeySession (r : Req)
  /-- R506: Sets or clears the real-time counter alarm. -/
  | setRtcAlarm (r : Req)
  /-- R520: Generates a new root while the root is absent, effective at the next power-on reset. -/
  | renewRoot (r : Req)
  /-- R507: Moves SERVICE to RETIRED, zeroing the root and every slot. -/
  | retireDevice (r : Req)
  /-- R549: Returns the update registers. -/
  | getUpdateStatus (r : Req)
  /-- R531: Starts staging an image into a class's inactive bank from a source. -/
  | beginStaging (r : Req)
  /-- R535: Ends a running staging, leaving the bank not VALID. -/
  | abortStaging (r : Req)
  /-- R536: Proposes a site or unit activation of a VALID inactive bank. -/
  | scheduleActivation (r : Req)
  /-- R550: Withdraws an open, uncommitted activation proposal. -/
  | cancelActivation (r : Req)
  /-- R550: Unit-level configuration item for chain staging, serving and ACT_WAIT. -/
  | setUpdateConfig (r : Req)
  /-- R577: Returns the contactless registers. -/
  | getNfcStatus (r : Req)
  /-- R578: Unit-level configuration item for reader, tag, energy harvesting and polling. -/
  | setNfcConfig (r : Req)
  /-- R578: Exchanges one APDU with the held part-4 card. -/
  | transceiveApdu (r : Req) (x : CardAnswer)
  /-- R555: Ends the hold of the current card. -/
  | releaseCard (r : Req)
  /-- R578: Writes the operator text into both copies of tag page 0. -/
  | setTagPublic (r : Req)
  /-- R578: Stores the tag password digest and key K. -/
  | setTagSecrets (r : Req)
  /-- R560: Clears the tag VERIFY lock and failure count. -/
  | resetTagLock (r : Req)
  /-- R581: Returns the display registers. -/
  | getDisplayStatus (r : Req)
  /-- R582: Unit-level configuration item for panel geometry, timing, current, owner and legal rows. -/
  | setDisplayConfig (r : Req)
  /-- R570: Unit-level configuration item that loads the 256 x 256 overdrive table. -/
  | loadOverdrive (r : Req)
  /-- R569: Writes a rectangle into a region's pending buffer. -/
  | updateRegion (r : Req)
  /-- R571: Turns panel driving off or on, keeping the frame memory. -/
  | setPanelPower (r : Req)
  /-- R568: Asks Legal to show a view in the legal region. -/
  | selectLegalView (r : Req)
  /-- R23: VSYS falls below the assert threshold or PORST_N goes low; outputs go to Dormant after any early-warning save. -/
  | powerOnReset (cause : Fin 3)
  /-- R35: Power-on reset is released and the domains begin the start-up sequence in parallel. -/
  | porRelease
  /-- R351: Safety finishes verifying its table and start-up self-tests and enters RUN, TABLE_FAIL or SAFE_STOP. -/
  | safetyInitDone (outcome : InitOutcome)
  /-- R278: Legal finishes verifying its image, deriving keys and recovering its journal, restoring registers and sealing interrupted sessions. -/
  | legalStartDone (verified : Bool) (candidate : Bool) (torn : Nat)
  /-- R542: The Service image starts from its active bank, or after failed starts reverts or enters ROM recovery. -/
  | serviceImageStart (verified : Bool)
  /-- R127: The configuration journal is recovered and replayed, restoring the configuration in force and pending transactions. -/
  | configJournalReplay (candidate : Bool) (torn : Nat)
  /-- R35: The chain join completes and the lease above the floor becomes available. -/
  | chainJoinDone
  /-- R30: SRST_N low or a chip reset command resets Service, its fabric, every guest and the Service PHYs. -/
  | chipReset
  /-- R30: The Service watchdog expires and causes a chip reset. -/
  | serviceWatchdogExpiry
  /-- R30: An uncorrectable ECC error in Service memory causes a chip reset. -/
  | eccUncorrectable
  /-- R29: The system reference deviates beyond 100 ppm for 10 ms and causes a chip reset with cause CLK. -/
  | clockDeviation
  /-- R41: At 110 ms the head broadcasts SLEEP_COMMIT if every answer was READY, else SLEEP_ABORT. -/
  | sleepAnswerTimeout
  /-- R23: At t_p the unit begins its Doze entry actions. -/
  | sleepPointOfNoReturn
  /-- R23: At t_e the unit is in Doze with fast clocks stopped and HOST in L1.2. -/
  | dozeEntry
  /-- R23: A wake event in Doze, or one latched during entry, starts fast clocks and restarts Service. -/
  | dozeWake (src : Fin 6)
  /-- R37: A 1PPS edge is judged as disciplining, candidate or glitch and steers the clock or a candidate run. -/
  | trefPpsEdge (off : Int) (rate : Int)
  /-- R39: No valid 1PPS edge for 2 s puts the device into holdover. -/
  | trefPpsTimeout
  /-- R39: No 10 MHz edge for 1 us puts the device into holdover. -/
  | tref10mLoss
  /-- R40: The reference stays within 200 ppm for 10 s; RATE_FAULT clears and reacquisition starts. -/
  | rateFaultClear
  /-- R131: Each CP PWM period or 1 ms window yields plateaus that are classified and counted toward a new CP state. -/
  | cpPeriod (p : Port) (hi lo : Int)
  /-- R131: Gap periods persisting for 100 ms report INVALID and raise FAULT. -/
  | cpInvalidTimeout (p : Port)
  /-- R135: The PP resistance is measured every 1 ms and a code accepted after five agreeing measurements. -/
  | ppMeasurement (p : Port) (ohm : Nat)
  /-- R141: A SLAC parameter request with a new RunID starts matching on an eligible port. -/
  | cmSlacParmReq (p : Port) (run : Nat) (mac : Nat)
  /-- R140: The vehicle's start of attenuation characterisation is taken on the port. -/
  | cmStartAttenChar (p : Port) (run : Nat)
  /-- R140: A sounding frame is received and its attenuation accumulated. -/
  | cmMnbcSound (p : Port) (run : Nat) (dB : Nat)
  /-- R142: Sounding ends and CM_ATTEN_CHAR.IND is sent under the sibling rule. -/
  | soundingComplete (run : Nat)
  /-- R140: A validation exchange with BCB toggles is handled. -/
  | cmValidate (p : Port) (run : Nat) (ok : Bool)
  /-- R142: The match request is answered with a fresh NMK and CM_SET_KEY to the local modem, or refused. -/
  | cmSlacMatchReq (p : Port) (run : Nat)
  /-- R137: The local modem confirms the key; LINK_UP and LINKED follow. -/
  | cmSetKeyCnf (p : Port)
  /-- R137: An ISO 15118-3 timer expires and MATCHING returns to PLUGGED. -/
  | slacTimerExpiry (p : Port)
  /-- R137: SLAC_INIT elapses without a match and the port retries, falls to BASIC or faults. -/
  | slacInitTimeout (p : Port)
  /-- R137: The 4 s of state F ends and CP returns to +12 V with 5 % PWM. -/
  | linkRetryEnd (p : Port)
  /-- R137: The 3 s with PWM off ends and nominal duty starts in BASIC. -/
  | basicFallbackEnd (p : Port)
  /-- R143: The first vehicle frame with a link-local source brings a T1S link up. -/
  | t1sFirstFrame (p : Port) (linkLocal : Bool) (mac : Nat)
  /-- R144: An SDP request on UDP 15118 is answered on its own port. -/
  | sdpRequest (p : Port) (tls : Bool)
  /-- R145: The protocol is chosen from the port's priority list and the port becomes CONNECTED, or fails. -/
  | supportedAppProtocol (p : Port) (offers : List Nat) (mode : Nat) (dynamic : Bool)
  /-- R137: The TCP connection closes and CONNECTED returns to LINKED. -/
  | tcpClosed (p : Port)
  /-- R137: A protocol sequence timeout expires and CONNECTED returns to LINKED. -/
  | protocolSequenceTimeout (p : Port)
  /-- R158: The vehicle's first authorisation request is the identification point; the port enters AUTHORISING. -/
  | authorizationReq (p : Port)
  /-- R146: The vehicle presents a contract chain and the device starts checking it. -/
  | contractChainPresented (p : Port) (chain : List Byte) (emaid : List Byte) (root : List Byte) (chk : ChainChecks)
  /-- R146: The contract chain result is ready within 150 ms. -/
  | contract (p : Port)
  /-- R147: A vehicle certificate installation or update request is held and CERT_REQ raised. -/
  | certInstallRequest (p : Port) (body : List Byte)
  /-- R147: At 4.5 s without a reply the vehicle receives a failure response. -/
  | certReplyTimeout (p : Port)
  /-- R163: The vehicle's cable check request leads to the insulation test request. -/
  | cableCheckReq (p : Port)
  /-- R191: The vehicle states a new target, limit or precharge value and the target current is recomputed. -/
  | vehicleTarget (p : Port) (t : VehTarget)
  /-- R162: The vehicle pauses and the port ramps down and opens into PAUSED. -/
  | vehiclePause (p : Port)
  /-- R162: The vehicle resumes and PAUSED returns to PREPARING. -/
  | vehicleResume (p : Port)
  /-- R168: The vehicle's stop request ends the session by a controlled end. -/
  | vehicleStop (p : Port)
  /-- R148: A lock drive pulse ends and the feedback wait begins. -/
  | lockPulseEnd (p : Port)
  /-- R148: 200 ms after the pulse the feedback is judged; a final failure sets LOCK FAULT. -/
  | lockFeedbackTimeout (p : Port)
  /-- R148: The 500 ms between lock attempts elapses and the next attempt starts. -/
  | lockAttemptTimer (p : Port)
  /-- R156: Legal acknowledges a session open request and assigns a session number. -/
  | legalSessionOpen (p : Port)
  /-- R159: No decision within AUTH_TIMEOUT answers the vehicle with failure and returns to PLUGGED. -/
  | authTimeout (p : Port)
  /-- R160: PREAUTH_HOLD expires and the pre-authorisation lapses. -/
  | preauthLapsed (p : Port)
  /-- R162: Precharge is not within 20 V after PRECHARGE_MAX and the session ends. -/
  | prechargeTimeout (p : Port)
  /-- R169: T_END elapses during ramp-down and the open is requested anyway. -/
  | rampTimeout (p : Port)
  /-- R168: PAUSED lasts longer than PAUSE_MAX and the session ends. -/
  | pauseLimit (p : Port)
  /-- R168: LINK_LOST without return to CONNECTED within 2 s ends the session. -/
  | linkLostGrace (p : Port)
  /-- R176: 23 h after a test's last pass the device starts it at the first allowed moment. -/
  | selftestDue (p : Port) (code : Nat)
  /-- R176: SELFTEST_AGE reaches 1 440 minutes and BLK_SELFTEST is set. -/
  | selftestOverdue (p : Port)
  /-- R162: Legal's sealed report leaves SEALING; unlock, session-bound items and due self-tests follow. -/
  | sealedReport (p : Port)
  /-- R270: Service receives Legal's billing stop report and ends the session with cause LEGAL_GAP. -/
  | legalGap (p : Port)
  /-- R173: Service receives OUT and starts the ramp-down within 5 ms. -/
  | creditOut (p : Port)
  /-- R14: Service receives Legal register values, used among others to judge I_END. -/
  | legalReading (p : Port)
  /-- R14: Service receives a change of Legal state or seal state. -/
  | legalState
  /-- R197: At each step instant the ramp limiter plans step k+H and its SETPOINT is sent. -/
  | stepInstant (p : Port)
  /-- R199: A change of target, cap, limit or lease is replanned and a RECALL with a new GEN sent. -/
  | runAheadReplan (p : Port)
  /-- R184: An unacknowledged RECALL, HALT or ENABLE is repeated 8 us later. -/
  | recallRepeat (p : Port)
  /-- R187: The converter acknowledges a RECALL, HALT or ENABLE. -/
  | pmAck (l : PmIdx) (ch : Fin 8) (seq : Nat) (w1 : Nat) (w2 : Nat)
  /-- R188: A converter STATUS frame updates applied values and the link delay estimate. -/
  | pmStatus (l : PmIdx) (ch : Fin 8) (seq : Nat) (st : PmStatus)
  /-- R187: A converter LIMITS frame updates caps and slews and brings a retrained link up. -/
  | pmLimits (l : PmIdx) (ch : Fin 8) (seq : Nat) (lim : PmLimits)
  /-- R206: A converter FAULT frame is a port protocol fault for the ports mapped to it. -/
  | pmFault (l : PmIdx) (ch : Fin 8) (seq : Nat) (code : Nat) (off : Bool)
  /-- R185: A frame of wrong length, CRC or type is discarded and counted, more than 16 in 1 ms being a link fault. -/
  | pmBadFrame (l : PmIdx)
  /-- R188: A SYNC is sent after 20 us without a frame and at least every 100 us. -/
  | pmSyncSend (l : PmIdx)
  /-- R190: No valid converter frame for 200 us declares a link fault. -/
  | pmRxSilence (l : PmIdx)
  /-- R202: A RECALL, HALT or ENABLE unacknowledged within L_LINK declares a link fault. -/
  | pmAckTimeout (p : Port)
  /-- R190: After 1 ms of silence following a link fault the link retrains. -/
  | pmLinkRetrain (l : PmIdx)
  /-- R429: A power epoch begins; lease renewal is judged and unit-level configuration may apply. -/
  | powerEpochStart
  /-- R429: At its slot the unit sends REPORT to the head. -/
  | reportSend
  /-- R212: At 40 ms the head computes the grants for the next epoch, with quorum and fencing. -/
  | grantCompute
  /-- R429: At 50 ms the head broadcasts GRANT. -/
  | grantBroadcast
  /-- R430: The head receives a unit's REPORT. -/
  | report (h : ChHdr) (rep : ReportFrame)
  /-- R209: A unit receives GRANT as its renewal and fencing decision for the next epoch. -/
  | grant (h : ChHdr) (gr : GrantFrame)
  /-- R214: A unit receiving a REDUCE frame lowers its lease at once. -/
  | reduce (h : ChHdr) (f : Nat) (seconds : Nat)
  /-- R421: The head receives a unit's request for a temporary site limit. -/
  | reduceReq (h : ChHdr) (limit : Nat) (seconds : Nat)
  /-- R214: The duration of a temporary site limit ends and the head returns to SITE_LIMIT. -/
  | reduceEnd
  /-- R226: Downstream frame n is sent on every configured sensor link at one legal-clock edge. -/
  | sampleFrameSend
  /-- R230: An upstream frame from a head is received and checked. -/
  | upstreamFrame (l : SLink) (first : UpSym) (body : List UpSym) (crc : List UpSym)
  /-- R230: An upstream frame not accepted within 3 frame periods is lost, invalidating 59 samples. -/
  | upstreamFrameLate (l : SLink)
  /-- R232: 8 consecutive lost frames move a RUN link to STALLED. -/
  | slLostFramesLimit (l : SLink)
  /-- R232: 64 consecutive good frames move TRAINING to IDENT or start STALLED recovery. -/
  | slGoodFrameRun (l : SLink)
  /-- R232: 100 ms without 64 good frames counts LINK_ERR and stays in TRAINING. -/
  | slTrainingTimeout (l : SLink)
  /-- R232: 1 s in STALLED returns the link to TRAINING. -/
  | slStallTimeout (l : SLink)
  /-- R232: The head's registers have been read; type and serial decide RUN, FAULT or not in service. -/
  | headRegistersRead (l : SLink) (regs : HeadRegs)
  /-- R242: Once per second the device polls a RUN head's temperature, status, identity and serial. -/
  | headPoll (l : SLink) (order : List Nat)
  /-- R258: Legal holds sample n of every channel and forms calibrated samples and sample energy. -/
  | sampleProcess (n : Nat)
  /-- R315: 640 samples without a refresh give a substituted half-cycle value. -/
  | pqSubstitutedRefresh (src : Option Port) (ch : Fin 3)
  /-- R324: A run of disagreeing or agreeing units reaches its length and BYPASS or NEUTRAL starts or ends. -/
  | tamperPersistence (p : Port) (kind : Fin 3)
  /-- R241: A 1 s pilot window ends and pilot ratios and interference are computed for every path. -/
  | pilotWindowEnd (p : Port) (w : Nat)
  /-- R243: 10 min continuously SUSPENDED latches FAIL on the path. -/
  | verifySuspendTimeout (p : Port) (path : Fin 24)
  /-- R248: A 10 s legal clock comparison window ends and sets or clears CLK_FAULT. -/
  | legalClockWindow (dev : Int)
  /-- R255: The duration of an offset or overlap measurement ends and its notice follows. -/
  | calMeasureDurationEnd (p : Port)
  /-- R256: No first edge within 60 s, or a 60 s gap between edges, ends CAL_MEASURE with TIMEOUT. -/
  | calMeasureTimeout (p : Port)
  /-- R249: 16 usable windows captured; the calibration record is written and the pending set put in force. -/
  | pilotCaptureDone (p : Port)
  /-- R256: 16 usable windows not found within 30 s; END_CALIBRATION ends with FAULT. -/
  | pilotCaptureTimeout (p : Port)
  /-- R260: At a periodic boundary whole mWh move from the accumulator into the billing registers. -/
  | latch (p : Port)
  /-- R265: No crossing within 1 280 samples ends a substituted line cycle. -/
  | substitutedCycle (p : Port)
  /-- R267: No site-reference crossing in range ends a DC tick at 1 024 samples. -/
  | dcTickTimeout (p : Port)
  /-- R259: Legal receives Safety's close notice and opens the metering window. -/
  | closeNotice (p : Port)
  /-- R259: Legal receives Safety's open confirmation and closes the metering window. -/
  | openConfirmation (p : Port)
  /-- R270: A gap or uncovered run exceeds its limit; a forced latch is made and billing stops. -/
  | billingStop (p : Port)
  /-- R272: An owed energy pulse is emitted once the spacing limit allows. -/
  | pulseOutputEmit (p : Port)
  /-- R274: A filtered active edge on PI0 or PI1 is counted and used by its role. -/
  | pulseInputEdge (k : Fin 2) (high : Bool)
  /-- R286: No edge for 3 600 s ends a cross-check with TIMEOUT. -/
  | crossCheckTimeout (k : Fin 2)
  /-- R280: The supply-fail comparator trips and early-warning saves begin. -/
  | supplyFailTrip
  /-- R280: PFW is recognised and early-warning saves begin. -/
  | pfwAssert
  /-- R280: Every 500 us another early-warning save is written. -/
  | earlyWarningSaveRepeat
  /-- R281: VSYS recovers and PFW releases before reset; early-warning saves stop. -/
  | supplyRecovered
  /-- R593: PFW asserted for 1 s with VSYS healthy is treated as stuck. -/
  | pfwStuck
  /-- R593: PFW released for 10 ms is honoured again. -/
  | pfwRelease
  /-- R298: Legal seals the session record and appends it to the legal journal. -/
  | sessionSeal (p : Port)
  /-- R300: Rind samples the seal loop resistance. -/
  | sealLoopSample (x : LoopRead)
  /-- R304: A sign-on arrives on the optical port at 300 Bd. -/
  | signOn (addressed : Bool)
  /-- R304: The identification message is sent 200 to 300 ms after the sign-on. -/
  | optIdentification
  /-- R304: The acknowledgement selects the rate and the snapshot is taken. -/
  | optAcknowledgement (z : Nat) (opt : Nat)
  /-- R304: No acknowledgement within 1.5 s returns the port to waiting. -/
  | optAckTimeout
  /-- R306: The data message starts 200 to 300 ms after the acknowledgement. -/
  | optDataMessage
  /-- R304: The data message ends and the port returns to 300 Bd. -/
  | optDataMessageDone
  /-- R338: The 100 us sequencer cycle reads inputs, evaluates trips and port functions, writes and reads back outputs. -/
  | safetyCycle (c : CycleSense)
  /-- R344: A SAFE_IN change, after its filter, puts the input or pair in or out of demand. -/
  | safeInEdge (k : Fin 16) (level : Bool)
  /-- R344: A pair differing longer than DISC_MS latches INPUT_FAULT. -/
  | discrepancyTimeout (k : Fin 8)
  /-- R344: Each 50 ms period a contact input must show its own test pattern, else INPUT_FAULT. -/
  | inputPatternCheck (k : Fin 16) (seen : Nat)
  /-- R340: A 10 s scrub of safety memory corrects and counts errors or finds an execution fault. -/
  | safetyEccScrub (corrected : Nat) (uncorrectable : Bool)
  /-- R340: Every 10 min the table bank digest is checked. -/
  | tableDigestCheck (ok : Bool)
  /-- R340: The drive die watchdog asks its 1 ms question. -/
  | watchdogQuestion
  /-- R340: No correct answer in the window drops the enable line. -/
  | watchdogWindowExpiry
  /-- R340: The safety clock deviates beyond 5 % for 1 ms. -/
  | oscillatorFault
  /-- R336: A safety island rail leaves its limits and outputs fall to the safe state in hardware. -/
  | railFault
  /-- R340: Every 10 s a comparator is tested by reference injection. -/
  | comparatorSelftest (t : ComparatorTest)
  /-- R340: Every 1 s each switch of each energised driver receives a dark pulse. -/
  | driverOffTest (t : DriverTest)
  /-- R603: Die temperatures refresh every 100 ms, setting THERM_WARN or a safety diagnostic fault. -/
  | dieTempCheck (main meas drive : Nat)
  /-- R350: No valid Service message for 20 ms declares Service loss. -/
  | serviceLossTimeout
  /-- R350: Safety receives a Service heartbeat, ending Service loss. -/
  | heartbeat
  /-- R352: Safety grants or refuses a close request and on grant sends the close notice and energises the coils. -/
  | closeReq (p : Port)
  /-- R352: Safety turns a port's coil drive off. -/
  | openReq (p : Port)
  /-- R349: Safety receives Service's ramp-down complete notice. -/
  | rampDone (p : Port)
  /-- R383: Safety starts a requested pre-close or between-session test. -/
  | selftestReq (p : Port) (code : Nat)
  /-- R381: Safety grants or refuses a brake release. -/
  | brakeReleaseReq (b : Fin 2)
  /-- R348: Safety takes a new request mask for requestable outputs. -/
  | outReq (mask : Nat)
  /-- R347: Safety receives a remote reset. -/
  | resetReq (q : Option Port)
  /-- R355: Safety starts a site or port restart if its guards hold. -/
  | restartReq (q : Option Port)
  /-- R349: Service receives the site safety state and acts on DEGRADED. -/
  | siteState
  /-- R349: Service receives a port's safety state and safety current. -/
  | portState (p : Port)
  /-- R205: Service receives a trip, sends HALT, ends the session and may send trip advice. -/
  | trip (p : Port) (cause row : Nat)
  /-- R349: Service receives contact, voltage and lock feedback. -/
  | feedback (p : Port)
  /-- R349: Service receives insulation and residual-current values. -/
  | readings (p : Port)
  /-- R360: Service receives a trip log entry for the Cave. -/
  | logEntry (entry : List Byte)
  /-- R354: Service receives the result of a Safety request. -/
  | answer (type : Nat) (p : Port) (granted : Bool)
  /-- R353: T_DEG elapses in a window and the coil drive is forced off. -/
  | windowDeadline (p : Port)
  /-- R165: A close not confirmed within 100 ms is a contactor fault. -/
  | closeConfirmTimeout (p : Port)
  /-- R165: An opening not confirmed within 500 ms is a contactor fault. -/
  | openConfirmTimeout (p : Port)
  /-- R166: Auxiliaries and across-voltage disagreeing for 20 ms latch a contactor fault. -/
  | contactDisagreeTimeout (p : Port)
  /-- R355: The restart procedure passes or fails. -/
  | safetyRestartDone (ok : Bool) (item : Nat)
  /-- R371: Safety classifies CP and sets or clears PE_OK, tripping on loss while closed. -/
  | safetyCpPeriod (p : Port) (pwm : Bool) (hi lo : Int)
  /-- R372: An insulation half-period gives an R_iso and C_e result that is judged. -/
  | imdHalfPeriodEnd (p : Port) (ohm : Option Nat) (ce : Nat)
  /-- R374: Every 60 s the injection slot passes to the next closed port. -/
  | imdSlotRotate (g : Fin 8)
  /-- R375: The pre-close insulation test ends with PASS or FAIL. -/
  | precloseTestEnd (p : Port)
  /-- R376: A residual current persists for its trip time and trips the port. -/
  | rcmTrip (p : Port)
  /-- R380: Lock feedback held LOCKED for LOCK_FILTER verifies the lock, or away from it trips the port. -/
  | lockFilterExpiry (p : Port)
  /-- R379: Coil current outside its window for 10 ms is a contactor fault. -/
  | coilCurrentFault (p : Port)
  /-- R382: A brake test phase elapses: torque on, supervision, torque off, or PASS. -/
  | brakeTestTimer (b : Fin 2)
  /-- R383: A weld test phase elapses for one contactor. -/
  | weldTestTimer (p : Port)
  /-- R383: The insulation self-test ends with its reference reading judged. -/
  | insulationSelftestEnd (p : Port) (kohm : Nat)
  /-- R393: A channel held at I_LIM for t_OC turns off and starts or continues a retry burst. -/
  | lsOvercurrent (c : Fin 40)
  /-- R393: The retry off time ends and the channel switches on again. -/
  | lsRetryTimer (c : Fin 40)
  /-- R393: 10 ms on without I_LIM ends the burst in success. -/
  | lsBurstSuccess (c : Fin 40)
  /-- R393: The 50 ms burst window expires. -/
  | lsBurstWindowEnd (c : Fin 40)
  /-- R394: A channel's thermal shutdown turns it off. -/
  | lsThermalTrip (c : Fin 40)
  /-- R394: The junction cools by the hysteresis and a restart channel switches on again. -/
  | lsThermalCooled (c : Fin 40)
  /-- R395: Total current over 32 A for 10 ms sheds one channel per 1 ms. -/
  | lsShed
  /-- R396: VAUX below 6.0 V holds outputs and stops lock drives. -/
  | vauxLow
  /-- R396: VAUX below 4.5 V turns every drive die output off. -/
  | vauxUv
  /-- R396: VAUX at or above 6.5 V for 1 ms clears LOW and UV and starts the restore. -/
  | vauxRecovered
  /-- R600: VAUX above 38 V for 10 us is treated as UV. -/
  | vauxOvervoltage
  /-- R396: The next group of eight commanded channels switches on 1 ms after the last. -/
  | lsRestoreGroup
  /-- R397: Every 1 ms a conducting channel's current is sampled for open load. -/
  | lsOpenLoadSample (c : Fin 40) (mA : Nat)
  /-- R398: A rising edge on an LSPWM input ends a period and starts regenerated output periods. -/
  | lspwmEdge (k : Fin 8) (t tIn vaux : Nat)
  /-- R398: An input at one level for 25 ms becomes static. -/
  | lspwmStatic (k : Fin 8) (level : Bool)
  /-- R401: A lock bridge drive period starts with its conduction request. -/
  | lkPeriod (p : Port) (vaux mA : Nat)
  /-- R403: LOCK_PULSE elapses and the bridge brakes the motor. -/
  | lkDriveEnd (p : Port)
  /-- R403: Bridge current above LK_ILIM for 2 ms ends the drive. -/
  | lkStall (p : Port)
  /-- R403: Bridge thermal shutdown ends the drive. -/
  | lkThermal (p : Port)
  /-- R403: 100 ms of braking ends and the bridge turns off. -/
  | lkBrakeEnd (p : Port)
  /-- R413: Every 100 us HELLO is sent on each UP or TRAINING link. -/
  | helloSend (k : ChPort)
  /-- R421: A neighbour's HELLO is received. -/
  | hello (k : ChPort) (x : Hello)
  /-- R413: 1 s of clean HELLO exchange brings the link UP. -/
  | chainLinkTrained (k : ChPort)
  /-- R420: A failing frame is discarded and counted, 32 in 10 ms making the link DEGRADED. -/
  | chainBadFrame (k : ChPort) (x : ChainBad)
  /-- R413: 1 s in DEGRADED ends and the link returns to TRAINING. -/
  | chainDegradedEnd (k : ChPort)
  /-- R413: No valid frame for 300 us declares the link DOWN. -/
  | chainLinkSilence (k : ChPort)
  /-- R412: The physical link comes up or fails master-slave resolution. -/
  | chainPhyUp (k : ChPort) (miswired : Bool)
  /-- R413: The physical link is lost. -/
  | chainPhyDown (k : ChPort)
  /-- R414: Every 10 ms DELAY_REQ is sent to measure the link delay. -/
  | delayMeasure (k : ChPort)
  /-- R414: A DELAY_REQ is answered with DELAY_RSP. -/
  | delayReq (k : ChPort) (t1 t2 t3 : Nat)
  /-- R414: A DELAY_RSP completes a link delay measurement. -/
  | delayRsp (k : ChPort) (t1 t2 t3 t4 : Nat)
  /-- R423: A frame finishes on a port and the next queued frame is served by priority. -/
  | chainTxDone (k : ChPort)
  /-- R424: A priority-0 original is repeated at 1 ms and 4 ms. -/
  | p0Repeat
  /-- R440: A TRIP_ADVICE is consumed once, mirrored and raised. -/
  | tripAdvice (h : ChHdr) (origin cause ports row time : Nat)
  /-- R415: The head receives LINK_DOWN and lifts its CHW block. -/
  | linkDown (h : ChHdr) (unit : Nat) (port : ChPort)
  /-- R421: A TOPOLOGY frame with block and ring state is received. -/
  | topology (h : ChHdr) (blocked closed : Bool)
  /-- R415: All links UP for 1 s; the head restores its block. -/
  | ringRestore
  /-- R416: No SYNC for 10 ms, or a better key seen, starts a head election. -/
  | electionStart
  /-- R416: A CANDIDATE frame updates the best known key. -/
  | candidate (h : ChHdr) (key : ChKey)
  /-- R416: The best key unchanged for 20 ms makes its holder broadcast HEAD_CLAIM. -/
  | headClaimTimer
  /-- R416: A HEAD_CLAIM ends the election with a new head. -/
  | headClaim (h : ChHdr) (key : ChKey)
  /-- R417: An unaddressed unit takes the next free address from WALK and passes it on. -/
  | walk (h : ChHdr) (next : Nat)
  /-- R417: The head answers an unaddressed unit's JOIN with ASSIGN, or raises ADDR_FULL. -/
  | join (h : ChHdr) (serial : Nat)
  /-- R417: An unaddressed unit takes the address given. -/
  | assign (h : ChHdr) (serial addr : Nat)
  /-- R417: A unit journals a received address table and takes its own address from it. -/
  | table (h : ChHdr) (x : TableFrame)
  /-- R417: Every 1 s the head broadcasts the address table. -/
  | tableBroadcast
  /-- R418: An unaddressed unit repeats JOIN every 1 s. -/
  | joinRetry
  /-- R426: Every 1 ms the head sends SYNC out of both ports. -/
  | syncSend
  /-- R426: A SYNC disciplines the unit's chain time, slewing or stepping under R428. -/
  | sync (h : ChHdr) (origin : Nat) (corr : Int)
  /-- R427: No SYNC for 2 s makes the unit UNSYNC. -/
  | timeUnsync
  /-- R431: A unit validates site-scoped items and answers CONFIG_ACK. -/
  | siteConfig (h : ChHdr) (epoch : Nat) (x : SiteItems)
  /-- R431: The head receives a unit's answer to SITE_CONFIG. -/
  | configAck (h : ChHdr) (reason : Nat)
  /-- R431: 200 ms before E the head applies, postpones or forces the site items. -/
  | siteConfigDeadline
  /-- R432: A unit receives an activation proposal. -/
  | actPropose (h : ChHdr) (a : ActItem)
  /-- R432: A unit receives a committed activation with T_act and records it. -/
  | actCommit (h : ChHdr) (a : ActItem)
  /-- R543: The head answers whether an activation was committed. -/
  | actQuery (h : ChHdr) (a : ActItem) (answer : Option Bool)
  /-- R537: At T_act the unit re-measures the bank and swaps. -/
  | activationTime (intact : Bool)
  /-- R538: The new Service image accepts commands 20 ms after T_act. -/
  | serviceSwapDone
  /-- R542: A Service image on trial runs 60 s and the rollback floor rises. -/
  | trialPassed
  /-- R536: ACT_WAIT elapses without every unit STAGED_OK and the proposal lapses. -/
  | activationWaitTimeout
  /-- R439: The head stores mirrored event entries. -/
  | mirror (h : ChHdr) (entry : List Byte)
  /-- R438: A unit lacking the offered image checks its header and accepts it. -/
  | fwOffer (h : ChHdr) (header : List Byte)
  /-- R438: An image block is written into the staging bank. -/
  | fwBlock (h : ChHdr) (tag off : Nat) (data : List Byte)
  /-- R438: The server resends missing ranges. -/
  | fwNack (h : ChHdr) (tag off len : Nat)
  /-- R438: A neighbour serves its active Service image to a unit in ROM recovery. -/
  | fwReq (k : ChPort)
  /-- R545: Every 10 s ROM recovery sends FW_REQ out of each UP chain port. -/
  | romFwReq
  /-- R41: A unit judges its sleep guards and answers READY or NOT_READY. -/
  | sleepPrepare (h : ChHdr) (te : Nat)
  /-- R41: The head receives a READY answer. -/
  | sleepReady (h : ChHdr)
  /-- R41: The head receives a NOT_READY answer with its guard. -/
  | sleepNotReady (h : ChHdr) (guard : Nat)
  /-- R41: A unit commits to enter Doze at t_e. -/
  | sleepCommit (h : ChHdr) (te : Nat)
  /-- R42: A unit before its t_p stays in Run. -/
  | sleepAbort (h : AbortHdr)
  /-- R42: The head receives a unit's cancel and broadcasts SLEEP_ABORT. -/
  | sleepCancel (h : ChHdr)
  /-- R43: The head receives a unit's chain wake and wakes. -/
  | wake (h : ChHdr) (src : Nat)
  /-- R456: A chain frame carried on the mesh is consumed or forwarded onto the chain by the gateway. -/
  | meshChainFrame (m : MHdr) (h : ChHdr) (b : ChBody)
  /-- R457: A unit without chain SYNC takes chain time from MSYNC. -/
  | msync (m : MHdr) (origin : Nat) (corr : Int)
  /-- R457: Every 10 ms the head broadcasts MSYNC. -/
  | msyncSend
  /-- R457: No MSYNC for 100 ms raises MSYNC_LOST. -/
  | msyncLost
  /-- R455: A neighbour's NBR frame updates the link table. -/
  | nbr (m : MHdr) (l : List (Nat × Nat))
  /-- R455: Every 2 s the unit broadcasts NBR. -/
  | nbrSend
  /-- R452: A transmitter receives one segment of a new tone map generation. -/
  | tmap (m : MHdr) (gen : Nat) (seg : Fin 16) (x : ToneSeg)
  /-- R452: The receiver sends a new map generation on an SNR change or every 30 s. -/
  | tmapSend (nbr : Nat) (segs : Vector ToneSeg 16)
  /-- R452: A map not refreshed for 60 s expires and the link returns to ROBO. -/
  | meshMapExpiry (nbr : Nat)
  /-- R460: A PHASE frame is classified into a phase result. -/
  | phase (m : MHdr) (x : PhaseFrame)
  /-- R459: Every 10 s the unit timestamps its zero crossings and broadcasts PHASE. -/
  | phaseSend
  /-- R451: No PHASE from a receiver for 30 s puts its link on the uniform map. -/
  | phaseFrameTimeout (nbr : Nat)
  /-- R457: A DELAY exchange frame measures a mesh link delay. -/
  | meshDelay (m : MHdr) (t1 t2 t3 t4 : Nat)
  /-- R457: Every 1 s a DELAY exchange is started. -/
  | meshDelaySend
  /-- R454: A unicast frame is acknowledged. -/
  | meshAck (src : Nat) (seq : Nat)
  /-- R454: An unacknowledged unicast is retried or rerouted after four retries. -/
  | meshAckTimeout
  /-- R450: A frame failing CRC or MIC is discarded and counted. -/
  | meshBadFrame
  /-- R454: Priority resolution and backoff end and the unit transmits its frame. -/
  | meshContention
  /-- R447: A zero-crossing edge on SPL_ZCn is timestamped. -/
  | splZcEdge (k : Fin 3) (t : Nat)
  /-- R447: No edge for 25 ms makes the input absent. -/
  | splZcAbsent (k : Fin 3)
  /-- R453: 1 ms after a link-state change the coexistence mask becomes active or inactive. -/
  | coexMaskChange
  /-- R474: COMPLETE is written and the new half becomes active. -/
  | ripeningComplete (legal : Bool)
  /-- R474: The old half is zeroed and may serve as standby. -/
  | halfZeroed (legal : Bool)
  /-- R477: At most once a second Legal writes a CAVE_ACK record. -/
  | caveAckWrite
  /-- R477: Legal releases held records up to the confirmed SEQ. -/
  | caveConfirm (seq : Nat)
  /-- R490: The Cave writer takes an offered record when its queue part has room. -/
  | caveRecordTake
  /-- R485: The Cave writer receives stream samples and queues blocks, shedding by fill. -/
  | caveStreamSamples (b : StreamBlock)
  /-- R490: An NVMe write completes; a legal record write sends its confirmation. -/
  | nvmeWriteComplete
  /-- R490: Every 1 s the writer issues Flush. -/
  | caveFlush
  /-- R482: Every 60 s the writer rewrites a superblock copy. -/
  | superblockWrite
  /-- R492: A command not complete in 5 s is aborted and the controller reset. -/
  | nvmeTimeout
  /-- R492: A controller fatal status puts the Cave in FAULT. -/
  | nvmeControllerFatal
  /-- R492: The STOR link goes down and the Cave enters FAULT. -/
  | storLinkDown
  /-- R492: Every 60 s in FAULT a controller reset is retried and the Records tail recovered. -/
  | caveFaultRetry (ok : Bool)
  /-- R489: A trigger starts or extends a full-rate window. -/
  | caveWindowTrigger (src : Option Port) (kind : Fin 4)
  /-- R489: The post-time of a window ends and its record is written. -/
  | caveWindowEnd (num last : Nat)
  /-- R503: A sensor alarm zeroes the root, counts and logs, and clears derived keys. -/
  | tamperEvent (sensor : Fin 5)
  /-- R502: Sampled tamper sensors are read every 1 ms or 7.8125 ms. -/
  | tamperSensorSample (mesh light temp lid : Bool)
  /-- R504: VBAT below retention without VSYS loses the root and counter, treated as a seal break. -/
  | batteryLoss
  /-- R500: VBAT below the BAT_LOW threshold sets BAT_LOW. -/
  | vbatLow
  /-- R506: The counter reaches the alarm; RTC_ALARM and a wake follow. -/
  | rtcAlarmExpiry
  /-- R515: A key session unused for 60 s ends. -/
  | keySessionIdleExpiry (g : Guest) (h : Fin 8)
  /-- R516: T_FIX after a vault command starts its response is placed. -/
  | vaultFixedTime (g : Guest)
  /-- R532: Image bytes written to the staging window are consumed into the staging bank. -/
  | stagingWindowWrite (g : Guest) (off : Nat) (bytes : List Byte)
  /-- R530: The last body byte arrives; body checks run and the bank becomes VALID or fails. -/
  | stagingBodyComplete (c : Fin 3) (readback : Bool)
  /-- R532: A staging that consumes no byte for 10 s ends with TIMEOUT. -/
  | stagingTimeout (c : Fin 3)
  /-- R554: At a poll slot the reader listens, switches its field on and polls for cards. -/
  | nfcPoll (ext : Bool) (cards : List CardInfo)
  /-- R555: Every 100 ms the held card's presence is checked. -/
  | nfcPresenceCheck (present : Bool)
  /-- R555: 30 s without TRANSCEIVE_APDU ends the card hold. -/
  | nfcHoldTimeout
  /-- R558: An external field appears and the tag becomes ready with a new UID. -/
  | tagFieldOn
  /-- R559: The field is lost and the tag returns to OPEN. -/
  | tagFieldLost
  /-- R559: The tag application is selected. -/
  | select (aid : List Byte)
  /-- R563: The tag returns a page from its newest valid copy. -/
  | readPage (page : Nat)
  /-- R560: The tag checks a password and enters SECURED or counts a failure. -/
  | verify (pw : List Byte)
  /-- R559: The tag returns a 16-byte challenge. -/
  | getChallenge
  /-- R561: The tag authenticates the reader with K and enters SECURED. -/
  | mutualAuth (data : List Byte)
  /-- R559: The tag returns to OPEN. -/
  | deselect
  /-- R563: Every 60 s, or within 1 s of a listed event, Service rewrites both tag pages. -/
  | tagPageRewrite
  /-- R569: Pending regions are copied into frame memory in ascending order. -/
  | frameBoundary
  /-- R568: Legal redraws its view from the newest latch. -/
  | legalViewRefresh
  /-- R568: Every 3 s the two lines of a view alternate in a 16-row region. -/
  | legalLineAlternate
  /-- R568: Every 5 s the cycle view moves to the next port with an open session. -/
  | legalViewCycle
  /-- R48: Setting VF Enable creates the virtual functions up to NumVFs and gives guests G1 to GNumVFs their PCIe path. -/
  | vfEnableSet
  /-- R37: An edge on TREF_10M is judged for glitches, disciplines the clock and feeds the rate check, and ends a 10 MHz holdover. -/
  | tref10mEdge (glitch : Bool) (rate : Int)
  /-- R592: VBAT rises above the BAT_LOW threshold again, for example when a cell is fitted, and BAT_LOW clears. -/
  | vbatRestored
  /-- R592: GLN_VIO is removed; GLN outputs go to high impedance and GLN inputs are ignored. -/
  | glnVioLoss
  /-- R592: GLN_VIO returns and the Glance port serves accesses again. -/
  | glnVioReturn
  /-- R600: VAUX stays below 36.5 V for 1 ms after an overvoltage, and the restore of R396 runs. -/
  | vauxOvervoltageEnd
  /-- R397: On an off channel with OFF_DIAG = 1, the output stays above 3.0 V for 10 ms and OFF_OPEN sets, or it clears. -/
  | offOpen (c : Fin 40) (open_ : Bool)
  /-- R495: The drive reports a SMART critical warning or new health values, updating CAV_DRIVE and raising DRIVE_WARNING. -/
  | driveWarning (temp used : Nat) (warning : Bool)
  /-- R493: Drive initialisation, superblock reading and Records-tail recovery complete at start, and the Cave leaves INIT for READY, BLANK, FOREIGN, FULL or ABSENT. -/
  | caveInitDone (drive : Option DriveInfo)
  /-- R531: Image data that the device reads from a descriptor ring for a RING-source staging arrives and is checked and written to the bank. -/
  | stagingRingRead (c : Fin 3) (bytes : List Byte) (d : Desc)
  /-- R507: Skovgil's provisioning at manufacture generates the root, derives DEVICE_ID and moves BLANK to FACTORY. -/
  | provisioning
  /-- R507: Skovgil's final test blows the fuse, sets the seal count to 0, moves the root to the ship copy and enters FIELD. -/
  | finalTest
  /-- R93: The host reads MBX_MBD0 of a device-to-host message, after which a withdrawn relayed copy can no longer be overwritten by its notice. -/
  | mbxMbd0Read (path : Path) (g : Guest) (n : Fin 8)
  /-- R27: An idle Service block without admitted D0 work has its clock gated. -/
  | clockGated (b : Blk)
  /-- R102: A block's clock start, begun by a request or by a refusal for start latency, completes after its R27 latency and the block is running. -/
  | clockStarted (b : Blk)
  /-- R148: VPp_LOCK_FB changes as read by Service under LOCK_FB, setting LOCK and raising LOCK_DONE when the target is reached. -/
  | lockFbChange (p : Port) (closed : Bool)
  /-- R168: The vehicle protocol task ends on an internal error, and the port's session ends as interrupted with cause PROTOCOL_ERROR through a port service-state reset. -/
  | protocolError (p : Port)
  /-- R14: A message on an inter-domain channel fails its length, type, sequence or CRC check and is discarded and counted in the receiving domain. -/
  | badChannelMessage (dom : Fin 3)
  /-- R16: An access that crosses an island firewall is blocked and counted in the domain that owns the target. -/
  | firewallAccess (dom : Fin 4)
  /-- R557: A reader's REQA, WUPA, anticollision, RATS or HLTA frame reaches the tag and is answered under ISO/IEC 14443-3 and -4. -/
  | reqa (f : TagFrame)
  deriving DecidableEq, Repr

end Sys2Proof
end

