-- ==== Sys2Proof/Config.lean ====
section
/-! DEFINITION. Free values: what the spec leaves open, or states only as the output of a cryptographic
function or a random generator. None has a body, so nothing proves a value of one. -/

namespace Sys2Proof.Config

/-- A word the spec leaves unpredictable (R73 host error) or unstated, by the model's index of free values. -/
opaque freeWord : Nat → Word
/-- A number drawn by one of the device's random generators, or left open, by index. DESIGN CHOICE (log 162). -/
opaque freeNat : Nat → Nat
/-- A signed quantity left open, by index. -/
opaque freeInt : Nat → Int
/-- SHA-384 of a byte string, as a number of 384 bits (R296, R509, R528). DESIGN CHOICE (log 161). -/
opaque sha384 : List Byte → Nat
/-- The signature under the named vault slot of a byte string (R296, R519). DESIGN CHOICE (log 161). -/
opaque sign : Nat → List Byte → List Byte
/-- Whether a signature under a public key (named by slot and its key value) verifies (R303, R523, R530). DESIGN CHOICE (log 161). -/
opaque verify : Nat → List Byte → List Byte → Bool
/-- HKDF-SHA-384 of a secret, salt and info to a number of bytes, taken big-endian (R510, R515). DESIGN CHOICE (log 161). -/
opaque hkdf : Nat → List Byte → List Byte → Nat → Nat
/-- AES-GCM under a key with a nonce and additional data: the ciphertext with its tag, and the plaintext of one, none where
authentication fails (R523). DESIGN CHOICE (log 161). -/
opaque gcmSeal : Nat → List Byte → List Byte → List Byte → List Byte
/-- DESIGN CHOICE (log 161). -/
opaque gcmOpen : Nat → List Byte → List Byte → List Byte → Option (List Byte)
/-- The public half of a private key, as bytes of a SEC1 point (R523). DESIGN CHOICE (log 162). -/
opaque publicKey : Nat → List Byte
/-- AES-128-CBC with a zero IV (R561). DESIGN CHOICE (log 161). -/
opaque aesCbc : Nat → List Byte → List Byte
/-- DESIGN CHOICE (log 161). -/
opaque aesCbcDec : Nat → List Byte → List Byte
/-- The answer to select of the tag, whose bytes the spec does not list (R557). DESIGN CHOICE (log 113). -/
opaque tagAts : List Byte

/-- The level of an LSPWM pin between its edges, by pin and safety time (R405). DESIGN CHOICE (log 207). -/
opaque pinLevel : Nat → Nat → Bool
/-- The PCI-SIG vendor identifier of the device, which the spec gives no number (R48). DESIGN CHOICE (log 206). -/
opaque vendorId : Nat

/-- The network identifier that HomePlug Green PHY derives from a membership key, whose text the spec does not hold (R140). DESIGN CHOICE (log 189). -/
opaque nidOf : Nat → Nat

/-- Whether bytes parse as a DER X.509 v3 certificate; whether that certificate is self-signed with a permitted key type;
whether it is a leaf; whether its public key is the SEC1 point given (R155). DESIGN CHOICE (log 163). -/
opaque certParses : List Byte → Bool
/-- DESIGN CHOICE (log 163). -/
opaque certRootOk : List Byte → Bool
/-- DESIGN CHOICE (log 163). -/
opaque certIsLeaf : List Byte → Bool
opaque certKeyIs : List Byte → List Byte → Bool

/-- The root secret of a random draw (R501, R520). DESIGN CHOICE (log 162). -/
opaque rootSecret : Nat → Nat
/-- A ship copy of a root fails its authentication (R505). DESIGN CHOICE (log 228). -/
opaque shipCopyFails : Nat → Bool
/-- The public half of a private key, SEC1 compressed (R296, R310). DESIGN CHOICE (log 162). -/
opaque publicCompressed : Nat → List Byte
/-- The SHA-384 digest of the stepping's boot ROM (R509). DESIGN CHOICE (log 162). -/
opaque romDigest : List Byte
/-- The three-letter manufacturer identification that the manufacturer holds (R304). DESIGN CHOICE (log 140). -/
opaque manufacturer : List Byte
/-- The certificate that the manufacturer issued for slot 0 (R519). DESIGN CHOICE (log 162). -/
opaque deviceCert : List Byte
/-- The public keys written at manufacture into slots 5 to 9, as SEC1 points (R507, R511). DESIGN CHOICE (log 162). -/
opaque factoryKey : Nat → List Byte
/-- A byte of the drive whose content the spec does not lay out (R482, R497), by index. DESIGN CHOICE (log 139). -/
opaque freeByte : Nat → Byte
/-- The length of a CHECKPOINT of the configuration journal, which R471 does not state. DESIGN CHOICE (log 234). -/
opaque confCheckpointLen : Nat
/-- The kind-specific bytes of a mirrored entry of kinds 2 to 7, which R439 does not lay out, by the kind and what the event says. DESIGN CHOICE (log 232). -/
opaque mirrorBytes : Nat → List Nat → List Byte
/-- The payload of a chain frame type, and of a mesh KIND, whose fields R421 and R450 name without their places, by its fields. DESIGN CHOICE (log 196). -/
opaque chainPayload : Nat → List Nat → List Byte
/-- DESIGN CHOICE (log 196). -/
opaque meshPayload : Nat → List Nat → List Byte
/-- AES-128-CCM under a key: nonce, authenticated header and payload, to the encrypted payload and its MIC (R450). DESIGN CHOICE (log 161). -/
opaque aesCcm : Nat → List Byte → List Byte → List Byte → List Byte

/-- A raw sample delayed by PHASE: the coefficients of the 8-tap interpolator of R235 are not given. Index of the
sample, channel, PHASE and raw sample. DESIGN CHOICE (log 155). -/
opaque delayed : Nat → Nat → Int → Int → Int
/-- The free taps of the decimation filters (R233), which the spec does not list: every other tap of the half-band filter on one side,
and one half of the 95-tap filter with its middle. DESIGN CHOICE (log 192). -/
opaque halfBandTap : Nat → Int
/-- DESIGN CHOICE (log 192). -/
opaque firTap : Nat → Int
/-- The taps of the 128-tap linear-phase filter of the stream samples (R485), one half. DESIGN CHOICE (log 198). -/
opaque streamTap : Nat → Int
/-- The payload of a Service event in the Cave (R483), whose fields the spec does not place, by kind, port, bits and chain time. DEDUCED (log 137). -/
opaque servicePayload : Nat → Nat → Nat → Nat → List Byte
/-- A bit of the device's sigma-delta modulator (R240): sign and phase in turns of 1/2 048 of the sine that it carries, and the
modulator cycle. DESIGN CHOICE (log 191). -/
opaque sigmaDelta : Int → Nat → Nat → Bool
/-- Modulator cycles by which the drive leads the pilot (R240). DESIGN CHOICE (log 191). -/
opaque pilotLead : Nat
/-- The pilot ratio where the reference amplitude is 0 (R241). DESIGN CHOICE (log 154). -/
opaque ratioAtZero : Nat → Nat
/-- The error of the safety current, in mA, for a mean over 1 ms, within the bound of R339. DESIGN CHOICE (log 221). -/
opaque safetyError : Int → Int
/-- How many messages the channel from Safety to Service holds (R108). DESIGN CHOICE (log 184). -/
opaque safetyChannel : Nat
/-- Gaps in SEQ of the frames that the device sends on a link, as the converter sees them (R189), by link and chain time. DESIGN CHOICE (log 187). -/
opaque converterGaps : Nat → Nat → Nat
/-- Floor in kW of a unit whose report never reached the head (R213), by address. DESIGN CHOICE (log 92). -/
opaque unitFloor : Nat → Nat
/-- The MAC address of a port (R144), which the spec does not state. DESIGN CHOICE (log 69). -/
opaque portMac : Nat → Nat
/-- Whether a quotient whose rounding the spec does not state is rounded up. DESIGN CHOICE (log 153). -/
opaque roundUp : Int → Nat → Bool
/-- Whether a square root whose rounding the spec does not state is rounded up. DESIGN CHOICE (log 153). -/
opaque rootUp : Nat → Nat → Bool

end Sys2Proof.Config

namespace Sys2Proof

/-- A quotient whose rounding the spec does not state: one of the two integers next to it. DESIGN CHOICE (log 153). -/
def quot (num : Int) (den : Nat) : Int :=
  if num % (den : Int) = 0 then num / den else if Config.roundUp num den then num / den + 1 else num / den

/-- A root mean square whose rounding the spec does not state. DESIGN CHOICE (log 153). -/
def rms (sq n : Nat) : Nat :=
  if n = 0 then 0
  else
    let r := isqrt (sq / n)
    if r * r * n = sq then r else if Config.rootUp sq n then r + 1 else r

end Sys2Proof
end

