-- ==== Sys2Proof/Machine/Cose.lean ====
section
/-! DEFINITION. The frame checks CRC-16 and CRC-32, deterministic CBOR (RFC 8949) and the COSE_Sign1 structure of the legal records (spec 11 R296). -/

namespace Sys2Proof.Machine

/-- CRC-32 with the IEEE 802.3 polynomial, initial value all ones, final complement, LSB first (R185). -/
def crc32 (l : List Byte) : Nat :=
  let step (c : BitVec 32) : BitVec 32 := if c.getLsbD 0 then (c >>> 1) ^^^ 0xEDB88320#32 else c >>> 1
  let c := l.foldl (fun c b => (List.range 8).foldl (fun d _ => step d) (c ^^^ b.setWidth 32)) (BitVec.allOnes 32)
  (~~~ c).toNat

/-- The low n bits of a number, least significant first. -/
def lsbBits (n v : Nat) : List Bool := (List.range n).map fun i => v.testBit i

/-- CRC-16 with polynomial 0x1021 and initial value 0xFFFF, no final complement, over bits in the order in which they are sent. DEDUCED (log 190). -/
def crc16 (bits : List Bool) : Nat :=
  (bits.foldl (fun (c : BitVec 16) b => if c.getMsbD 0 != b then (c <<< 1) ^^^ 0x1021#16 else c <<< 1) (BitVec.allOnes 16)).toNat

/-- The head of a CBOR item: major type and argument in the shortest form. -/
def cborHead (major n : Nat) : List Byte :=
  let m := major * 32
  if n < 24 then leBytes 1 (m + n)
  else if n < 2 ^ 8 then leBytes 1 (m + 24) ++ beBytes 1 n
  else if n < 2 ^ 16 then leBytes 1 (m + 25) ++ beBytes 2 n
  else if n < 2 ^ 32 then leBytes 1 (m + 26) ++ beBytes 4 n
  else leBytes 1 (m + 27) ++ beBytes 8 n

def cborNat (n : Nat) : List Byte := cborHead 0 n
def cborInt (i : Int) : List Byte := if 0 ≤ i then cborHead 0 i.toNat else cborHead 1 (-1 - i).toNat
def cborBytes (b : List Byte) : List Byte := cborHead 2 b.length ++ b
def cborText (t : String) : List Byte := cborHead 3 (ascii t).length ++ ascii t
def cborArray (l : List (List Byte)) : List Byte := cborHead 4 l.length ++ l.flatten
/-- A map with integer keys, given in ascending order. -/
def cborMap (l : List (Nat × List Byte)) : List Byte :=
  cborHead 5 l.length ++ (l.map fun e => cborNat e.1 ++ e.2).flatten
def cborNull : List Byte := [0xF6]
def cborBool (b : Bool) : List Byte := [if b then 0xF5 else 0xF4]

/-- kid: bytes 0 to 7 of SHA-384 over the compressed public key. -/
def kid (key : Nat) : List Byte := (beBytes 48 (Config.sha384 (Config.publicCompressed key))).take 8

/-- The protected header: algorithm ES384 (−35) and kid. -/
def coseHeader (key : Nat) : List Byte := cborMap [(1, cborInt (-35)), (4, cborBytes (kid key))]

/-- COSE_Sign1 over a payload under a private key, tagged 18, with an empty unprotected header and a 96-byte
signature over the Sig_structure. -/
def coseSign1 (key : Nat) (payload : List Byte) : List Byte :=
  let hdr := coseHeader key
  let sig := padTo 96 (Config.sign key
    (cborArray [cborText "Signature1", cborBytes hdr, cborBytes [], cborBytes payload]))
  cborHead 6 18 ++ cborArray [cborBytes hdr, cborMap [], cborBytes payload, cborBytes sig]

end Sys2Proof.Machine
end

