-- ==== Sys2Proof/Machine/StateLs.lean ====
section
/-! DEFINITION. The state of the drive die: load switches, their PWM inputs, VAUX supervision and lock bridges
(spec 15). Default field values are the reset values. -/

namespace Sys2Proof.Machine

/-- SET_LS_CONFIG (R409); factory values. -/
structure LsCfg where
  mode : Nat := 0
  src : Nat := 0
  lamp : Bool := false
  thermLatch : Bool := false
  bootOn : Bool := false
  retryMax : Nat := 15
  shedPrio : Nat := 0
  owner : Nat := 0
  any : Bool := true
  offDiag : Bool := false
  olFine : Bool := false
  iNom : Nat := 2500
  olThresh : Nat := 0
  deriving DecidableEq, Repr

/-- SET_LK_CONFIG (R409); factory values. -/
structure LkCfg where
  freq : Nat := 20000
  dead : Nat := 10
  minOn : Nat := 20
  vDrive : Nat := 1200
  iLim : Nat := 75
  deriving DecidableEq, Repr

/-- A load switch channel (R391 to R400, R406). -/
structure LsCh where
  commanded : Bool := false
  /-- A retry burst runs, waiting (off) or on; its 50 ms have ended; retries made in the present or last burst. -/
  burst : Bool := false
  waiting : Bool := false
  windowOver : Bool := false
  retries : Nat := 0
  bursts : Nat := 0
  /-- Turned off by the thermal protection until cooled; the junction has not yet cooled; trips' times of the last 60 s. -/
  thermalWait : Bool := false
  hot : Bool := false
  trips : List Nat := []
  thermal : Bool := false
  overcurrent : Bool := false
  /-- Off under UV until the restore reaches the channel. -/
  uvOff : Bool := false
  openLoad : Bool := false
  olRun : Nat := 0
  offOpen : Bool := false
  compLimit : Bool := false
  /-- PWM (R398 to R400): carry and the pulse of the present period, in 0.1 µs, and when it last emitted one of 200 µs. -/
  carry : Int := 0
  pulse : Nat := 0
  lastPulse : Nat := 0
  /-- A configuration came while a pulse was in progress: the pin whose period it ends with (R404). -/
  hold : Option Nat := none
  /-- Current samples of the last 10 ms, newest first, and those of the last second that no newer one reaches: safety time
  and mA. -/
  near : List (Nat × Nat) := []
  peaks : List (Nat × Nat) := []
  deriving DecidableEq, Repr

/-- An LSPWM input (R398): the level while static, the safety time of the last valid period's end, BAD, static, and the previous
period's high time. -/
structure LsPwm where
  level : Bool := false
  validAt : Option Nat := none
  bad : Bool := false
  static : Bool := true
  tIn : Option Nat := none
  deriving DecidableEq, Repr

/-- The drive die's switches as a whole (R405). DESIGN CHOICE (log 2). PRESUMED (log 130). -/
structure Ls where
  ch : Vector LsCh 40 := Vector.replicate 40 {}
  pwm : Vector LsPwm 8 := Vector.replicate 8 {}
  /-- V_AUX mean in 10 mV. -/
  vAux : Nat := 2400
  low : Bool := false
  uv : Bool := false
  /-- The restore runs: first channel of the next group. -/
  restore : Option Nat := none
  uvEvents : Nat := 0
  /-- The channels with BOOT_ON have been commanded on since the last power-on reset (R392). -/
  booted : Bool := false
  /-- Those channels come on now, group by group, and whether a module overload sheds (R395). -/
  booting : Bool := false
  shedding : Bool := false
  ev : Vector Word 16 := Vector.replicate 16 0
  deriving DecidableEq, Repr

/-- STATE of LK_STAT (R407). -/
inductive LkState where
  | off | lock | unlock | braking | thermalWait
  deriving DecidableEq, Repr

def LkState.code : LkState → Nat
  | .off => 0 | .lock => 1 | .unlock => 2 | .braking => 3 | .thermalWait => 4

/-- A lock bridge (R401 to R403, R407). -/
structure Lk where
  state : LkState := .off
  /-- Direction of the last drive, true to lock, and its start in safety time. -/
  dir : Bool := true
  startAt : Nat := 0
  carry : Int := 0
  /-- Conduction of the present period, in 0.1 µs. -/
  pulse : Nat := 0
  /-- The conduction interval commanded for it, DEAD longer (R402). -/
  gate : Nat := 0
  blocked : Bool := false
  uvAbort : Bool := false
  stall : Bool := false
  thermal : Bool := false
  peak : Nat := 0
  length : Nat := 0
  /-- The 100 ms after a drive run. -/
  rest : Bool := false
  /-- The last drive ended as a failed attempt (R403). -/
  failed : Bool := false
  /-- Direction of a drive that waits for the bridge to come to rest. -/
  want : Option Bool := none
  deriving DecidableEq, Repr

end Sys2Proof.Machine
end

