-- ==== Sys2Proof/Machine/StateNfc.lean ====
section
/-! DEFINITION. The state of the contactless reader, the dead-post tag and the display (spec 21). Default field values are
the reset values. -/

namespace Sys2Proof.Machine

/-- SET_NFC_CONFIG (R577); factory values. -/
structure NfcCfg where
  reader : Bool := true
  tag : Bool := true
  eh : Bool := false
  owner : Guest := 0
  pollMs : Nat := 250
  deriving DecidableEq, Repr

/-- Where the tag is under ISO/IEC 14443-3 and -4 (R557): no field, waiting for REQA, in anticollision, selected, exchanging
APDUs, halted. -/
inductive TagPhase where
  | off | idle | ready | active | proto | halt
  deriving DecidableEq, Repr

/-- The dead-post tag (R557 to R564). Key, password and pages live in its MRAM. DEDUCED (log 230). -/
structure Tag where
  phase : TagPhase := .off
  selected : Bool := false
  secured : Bool := false
  uid : List Byte := []
  /-- Rind's counter, in µs, when the field was last lost (R558). -/
  lostAt : Option Nat := none
  /-- RndT of the challenge that stands. -/
  challenge : Option (List Byte) := none
  key : Option Nat := none
  salt : List Byte := []
  pwDigest : Option Nat := none
  fails : Nat := 0
  locked : Bool := false
  text : List Byte := List.replicate 48 0
  /-- Two alternating copies of each page, and the newest. -/
  page0 : Vector (List Byte) 2 := Vector.replicate 2 (1 :: List.replicate 63 0)
  page1 : Vector (List Byte) 2 := Vector.replicate 2 (1 :: List.replicate 223 0)
  newest : Fin 2 := 0
  seq : Nat := 0
  reads : Nat := 0
  deriving DecidableEq, Repr

/-- The reader and the tag. DESIGN CHOICE (log 2). -/
structure Nfc where
  card : Option CardInfo := none
  /-- A released card and the tick at which it was last in the field (R555). -/
  released : Option (List Byte × Nat) := none
  multiple : Bool := false
  /-- The last poll slot found an external field. -/
  paused : Bool := false
  /-- An external field that serves the tag is present at the antenna, and EXT_FIELD as Service last found it (R557, R574). -/
  ext : Bool := false
  seen : Bool := false
  tag : Tag := {}
  /-- Bytes 64 to 95 of page 1: the last sealed session (R562). -/
  lastSes : List Byte := List.replicate 32 0
  ev : Vector Word 16 := Vector.replicate 16 0
  deriving DecidableEq, Repr

/-- SET_DISPLAY_CONFIG (R581); factory values. -/
structure DspCfg where
  width : Nat := 256
  height : Nat := 64
  frameHz : Nat := 120
  iCol : Nat := 40
  od : Bool := false
  owner : Guest := 0
  legalRows : Nat := 1
  deriving DecidableEq, Repr

/-- A rectangle in a pending buffer (R569). -/
structure Rect where
  x : Nat
  y : Nat
  w : Nat
  h : Nat
  data : List Byte
  deriving DecidableEq, Repr

/-- The display. The frame memory is a list of (index, level) in ascending order, an unlisted pixel being 0; `boost` holds
the overdrive levels of the present frame. The legal region is held as the text of its lines. DESIGN CHOICE (log 2, 110). DEDUCED (log 111). -/
structure Dsp where
  on : Bool := true
  /-- Geometry and drive in force since the last frame boundary. -/
  cfg : DspCfg := {}
  frame : List (Nat × Byte) := []
  boost : List (Nat × Byte) := []
  pending : Vector (Option Rect) 8 := Vector.replicate 8 none
  view : Nat := 0
  viewPort : Nat := 0
  /-- Lines that Legal has drawn, those shown since the last frame boundary, and which alternates and cycles now. -/
  next : List (List Byte) := []
  shown : List (List Byte) := []
  alternate : Bool := false
  cycle : Nat := 0
  applied : Nat := 0
  superseded : Nat := 0
  ev : Vector Word 16 := Vector.replicate 16 0
  deriving DecidableEq, Repr

end Sys2Proof.Machine
end

