-- ==== Sys2Proof/Machine/StateCfg.lean ====
section
/-! DEFINITION. The configuration in force (spec 05 R112, R123 to R128, and the configuration items of every
command group) and the transactions that change it. Default field values are the factory configuration. -/

namespace Sys2Proof.Machine

/-- A guest's capability mask, rights, queues, shares, credits and heartbeat (R54 to R60, R122). -/
structure GuestCfg where
  query : Word := 0
  ctrl : Word := 0
  ports : Word := 0
  audit : Bool := false
  staging : Bool := false
  bulk : Bool := false
  queFirst : Nat := 0
  queCount : Nat := 512
  share : Vector Nat 5 := Vector.replicate 5 4
  creditLimit : Nat := 256
  hbMs : Nat := 0
  deriving DecidableEq, Repr

/-- The initial configuration of a guest (R59). DESIGN CHOICE (log 51). -/
def GuestCfg.initial (g : Nat) : GuestCfg :=
  if g = 0 then
    { query := w32 0x3FFFFF, ctrl := w32 0x3FFFFF, ports := w32 0xFF, staging := true, bulk := true,
      queFirst := 0, share := Vector.replicate 5 40 }
  else { queFirst := 512 * g }

/-- A configuration item: the opcode, the message it came in and the bytes its ring held (R112). -/
structure Item where
  opcode : Nat
  words : List Word
  data : List Byte := []
  deriving DecidableEq, Repr

/-- A committed transaction that has not applied in full (R124, R126). -/
structure Txn where
  epoch : Nat
  /-- The unit-level items, none once they have applied. -/
  unit : List Item
  unitApplied : Bool := false
  /-- Session-bound items not yet applied, with their port. -/
  sess : List (Port × Item) := []
  /-- Site-scoped items of a head wait for the agreement of R431: true until they may apply. -/
  siteWait : Bool := false
  /-- The site-scoped items that a member took over from its head. -/
  site : Option SiteItems := none
  /-- The first epoch at which those may apply (R431). -/
  since : Nat := 0
  deriving DecidableEq, Repr

/-- SET_PORT_CONFIG (R153); factory values. -/
structure PortCfg where
  connType : Nat := 1
  enable : Bool := false
  acHlc : Bool := false
  pnc : Bool := false
  slacValidate : Bool := false
  protocols : Nat := 4
  attenMax : Nat := 50
  linkRetries : Nat := 1
  acMax : Nat := 320
  lockFb : Nat := 1
  lockPresent : Bool := true
  lockPulse : Nat := 200
  slacInit : Nat := 50
  priority : Nat := 3
  deriving DecidableEq, Repr

/-- An entry of the trust store (R145, R153): certificate type, DER bytes and, for a leaf, its vault slot. -/
structure TrustEntry where
  kind : Nat
  der : List Byte
  keySlot : Nat
  deriving DecidableEq, Repr

/-- SET_SESSION_CONFIG (R179); factory values. -/
structure SesCfg where
  autoMode : Bool := false
  autoBilled : Bool := true
  freeOk : Bool := false
  unlockOnEnd : Bool := true
  authTimeout : Nat := 60
  preauthHold : Nat := 60
  tEnd : Nat := 50
  pauseMax : Nat := 600
  prechargeMax : Nat := 7
  deriving DecidableEq, Repr

/-- SET_POWER_CONFIG (R220); factory values. No link is mapped until one is configured. -/
structure PwrCfg where
  map : Option (PmIdx × Nat) := none
  period : Nat := 4
  bidirOk : Bool := false
  priority : Nat := 1
  prechargeI : Nat := 20
  slewUp : Nat := 200
  slewDn : Nat := 600
  iMax : Nat := 500000
  vMax : Nat := 100000
  exportMax : Nat := 0
  deriving DecidableEq, Repr

/-- SET_LEASE_CONFIG (R220). -/
structure LeaseCfg where
  floor : Nat := 0
  auxKw : Nat := 0
  weight : Nat := 1
  deriving DecidableEq, Repr

/-- SET_METROLOGY_CONFIG (R255): RATED_I in mA and PHASES. -/
structure MetCfg where
  ratedI : Nat
  phases : Nat
  deriving DecidableEq, Repr

/-- SET_ENERGY_CONFIG (R285). -/
structure EnergyCfg where
  cycles : Nat := 10
  poEn : Bool := false
  poExport : Bool := false
  cPo : Nat := 1000
  poWidth : Nat := 10
  deriving DecidableEq, Repr

/-- SET_PULSE_INPUT (R285): ROLE 0 none, 1 calibration, 2 check, 3 source. -/
structure PulseCfg where
  role : Nat := 0
  port : Nat := 0
  mech : Bool := false
  activeLow : Bool := false
  cPi : Nat := 1000
  pulses : Nat := 1000
  deriving DecidableEq, Repr

/-- SET_SUPPLY_CONFIG (R285). -/
structure SupplyCfg where
  holdupUs : Nat := 0
  pfwEn : Bool := false
  siteRef : Nat := 0xF
  deriving DecidableEq, Repr

/-- SET_TARIFF_SCHEDULE (R310): INIT_SLOT and the entries as OFFSET and SLOT. -/
structure SchedCfg where
  init : Nat := 0
  entries : List (Nat × Nat) := []
  deriving DecidableEq, Repr

/-- SET_OPTICAL_CONFIG (R313). -/
structure OptCfg where
  enable : Bool := true
  maxBaud : Nat := 6
  ports : Nat := 0xFF
  deriving DecidableEq, Repr

/-- SET_PQ_CONFIG (R332). -/
structure PqCfg where
  uDin : Nat := 2300
  sag : Nat := 90
  swell : Nat := 110
  intr : Nat := 10
  hyst : Nat := 2
  deriving DecidableEq, Repr

/-- SET_CAVE_CONFIG (R497); PRE_MS and POST_MS in units of 10 ms. -/
structure CaveCfg where
  enable : Bool := true
  capture : Bool := true
  windows : Bool := true
  pre : Nat := 10
  post : Nat := 50
  trig : Nat := 0xF
  deriving DecidableEq, Repr

/-- SET_UPDATE_CONFIG (R549). -/
structure UpdCfg where
  chainAccept : Bool := true
  serve : Bool := true
  actWait : Nat := 60
  deriving DecidableEq, Repr

/-- SET_CHAIN_CONFIG (R443); factory values. ROLE 0 automatic, 1 head, 2 never. -/
structure ChainCfg where
  enable : Bool := false
  role : Nat := 0
  levelCap : Nat := 3
  p0Mesh : Bool := true
  adviceOut : Bool := true
  siteId : Nat := 0
  expect : Nat := 1
  mirrorMask : Nat := 0x7F
  deriving DecidableEq, Repr

/-- SET_MESH_CONFIG and SET_COEX_MASK (R466); factory values. No key slot is named. DESIGN CHOICE (log 106). -/
structure MeshCfg where
  enable : Bool := true
  psd : Nat := 60
  key : Nat := 0
  refPhase : Nat := 1
  negative : Bool := false
  coex : Vector Nat 16 := Vector.replicate 16 12
  notch : Nat := 0
  deriving DecidableEq, Repr

/-- The configuration in force. -/
structure Cfg where
  guests : Vector GuestCfg 16 := #v[.initial 0, .initial 1, .initial 2, .initial 3, .initial 4, .initial 5,
    .initial 6, .initial 7, .initial 8, .initial 9, .initial 10, .initial 11, .initial 12, .initial 13,
    .initial 14, .initial 15]
  trefMode : Nat := 0
  /-- GLN binding journalled; in force from the next reset (R66). -/
  glnBind : Option Guest := none
  port : Vector PortCfg 8 := Vector.replicate 8 {}
  ses : Vector SesCfg 8 := Vector.replicate 8 {}
  pwr : Vector PwrCfg 8 := Vector.replicate 8 {}
  lease : LeaseCfg := {}
  siteLimit : Nat := 0
  pmEnable : Vector Bool 2 := Vector.replicate 2 false
  trust : Vector (Option TrustEntry) 40 := Vector.replicate 40 none
  met : Vector (Option MetCfg) 8 := Vector.replicate 8 none
  energy : Vector EnergyCfg 8 := Vector.replicate 8 {}
  pulse : Vector PulseCfg 2 := Vector.replicate 2 {}
  supply : SupplyCfg := {}
  /-- SET_BILLING_CONFIG: INTERVAL_S (R310). -/
  interval : Vector Nat 8 := Vector.replicate 8 15
  sched : Vector SchedCfg 8 := Vector.replicate 8 {}
  opt : OptCfg := {}
  pq : Vector PqCfg 8 := Vector.replicate 8 {}
  pqSite : PqCfg := {}
  cave : CaveCfg := {}
  upd : UpdCfg := {}
  ls : Vector LsCfg 40 := Vector.replicate 40 {}
  vNom : Nat := 2400
  lk : Vector LkCfg 8 := Vector.replicate 8 {}
  chain : ChainCfg := {}
  mesh : MeshCfg := {}
  nfc : NfcCfg := {}
  dsp : DspCfg := {}
  /-- The overdrive table (R570), none until one is loaded. -/
  od : Option (List Byte) := none
  deriving DecidableEq, Repr

/-- The transactions around the configuration (R123 to R128). DESIGN CHOICE (log 2, 51). DEDUCED (log 18). -/
structure CfgSt where
  cfg : Cfg := {}
  /-- Each guest's open transaction. -/
  opens : Vector (Option (List Item)) 16 := Vector.replicate 16 none
  /-- Committed transactions that have not applied in full, oldest first. -/
  committed : List Txn := []
  activeEpoch : Nat := 0
  commitEpoch : Nat := 0
  deriving DecidableEq, Repr

end Sys2Proof.Machine
end

