-- ==== Sys2Proof/Machine/StateChain.lean ====
section
/-! DEFINITION. The state of the Herril chain on this unit: its two links, address, role, ring, election, chain time,
fencing, site configuration and mirrored events (spec 16). Default field values are the reset values. -/

namespace Sys2Proof.Machine

/-- Link states (R413). -/
inductive ChState where
  | off | training | up | degraded | down | miswired
  deriving DecidableEq, Repr

def ChState.code : ChState → Nat
  | .off => 0 | .training => 1 | .up => 2 | .degraded => 3 | .down => 4 | .miswired => 5

/-- A frame to be sent (R420): the sender's fields of the header and what it carries. -/
structure TxFrame where
  level : Nat
  rep : Bool := false
  dst : Nat
  src : Nat
  hops : Nat := 255
  viaMesh : Bool := false
  seq : Nat
  epoch : Nat
  body : ChBody
  deriving DecidableEq, Repr

/-- A chain link (R413, R414, R423, R443). -/
structure ChLink where
  state : ChState := .off
  /-- The physical link is up. -/
  phys : Bool := false
  neighbour : Nat := 0
  /-- Chain times of the failing frames of the last 10 ms. -/
  bad : List Nat := []
  /-- Link delay measurements, newest first, at most 64, in ns. -/
  delays : List Int := []
  /-- Transmit queues by priority, and the frame in progress. -/
  queue : Vector (List TxFrame) 8 := Vector.replicate 8 []
  busy : Option TxFrame := none
  tx : Nat := 0
  rx : Nat := 0
  crc : Nat := 0
  symbol : Nat := 0
  hopsExpired : Nat := 0
  dropped : Nat := 0
  degradedN : Nat := 0
  downN : Nat := 0
  deriving DecidableEq, Repr

/-- CHN_STAT.TIME (R427, R428, R441). -/
inductive ChTime where
  | free | acquiring | locked | unsync | pending
  deriving DecidableEq, Repr

def ChTime.code : ChTime → Nat
  | .free => 0 | .acquiring => 1 | .locked => 2 | .unsync => 3 | .pending => 4

/-- A site configuration epoch that the head runs (R431): its proposed epoch, the items, the units asked that have not
answered DONE, and how often the epoch has been moved. -/
structure SiteProp where
  epoch : Nat
  items : SiteItems
  waiting : List Nat
  moves : Nat := 0
  agreed : Bool := false
  deriving DecidableEq, Repr

/-- The chain. DESIGN CHOICE (log 2). DEDUCED (log 50). -/
structure Chn where
  links : Vector ChLink 2 := Vector.replicate 2 {}
  addr : Nat := 0
  /-- The address table: serial and address, ascending by address. -/
  table : List (Nat × Nat) := []
  /-- Head: serials that leave the table at the next TABLE broadcast (R444). -/
  removing : List Nat := []
  /-- This unit is head of the chain. -/
  head : Bool := false
  headSerial : Option Nat := none
  headAddr : Nat := 0
  headKey : Option ChKey := none
  electing : Bool := false
  best : Option ChKey := none
  /-- The ring is closed; this unit blocks its CHW; a closed ring was broken and has not been restored. -/
  ring : Bool := false
  blocking : Bool := false
  broken : Bool := false
  /-- The head's walk out of CHW is still to come (R417). -/
  walkWest : Bool := false
  seq : Nat := 0
  /-- (SRC, SEQ, time) of frames consumed (R424), oldest first. -/
  seen : List (Nat × Nat × Nat) := []
  /-- Repeats that are due: due time and frame. -/
  repeats : List (Nat × TxFrame) := []
  p0Rx : Nat := 0
  p0Dropped : Nat := 0
  err : Nat := 0
  time : ChTime := .free
  /-- SYNC frames applied in a row within ±1 µs. -/
  syncRun : Nat := 0
  /-- The copy of the newest SYNC that was applied: SEQ, HOPS and whether it came by CHW. -/
  syncCopy : Option (Nat × Nat × Bool) := none
  /-- Count of the 1 µs ticks at the last SYNC. -/
  syncAt : Option Nat := none
  offset : Int := 0
  /-- Correction still to be slewed in, in ns. -/
  slew : Int := 0
  level : Nat := 3
  levelNext : Option Nat := none
  /-- Fence causes [3:0] in force (R436, R441) and those the last GRANT brings at the next epoch. -/
  fence : Nat := 0
  fenceNext : Option Nat := none
  fenceEpochs : Nat := 0
  headDigest : Word := 0
  quorate : Bool := false
  /-- Head: units reporting and units fenced. -/
  reporting : Nat := 0
  fencedUnits : Nat := 0
  /-- Site items accepted from the head and the epoch they apply at. -/
  siteHeld : Option (Nat × SiteItems) := none
  prop : Option SiteProp := none
  /-- Entries of GRANT as last received or sent. -/
  granted : List GrantEntry := []
  /-- Site safety state, Legal state with the seal state, as last mirrored. -/
  mirSite : Nat := 0
  mirLegal : Nat := 0
  /-- Head: mirrored entries, newest first, at most 1 024. -/
  mirror : List (List Byte) := []
  ev : Vector Word 16 := Vector.replicate 16 0
  deriving DecidableEq, Repr

end Sys2Proof.Machine
end

