-- ==== Sys2Proof/Machine/StateHost.lean ====
section
/-! DEFINITION. The state of the system block and of the host side: power, clocks, resets and TREF
(spec 02), guests, interrupts, violations, counters and GLN (spec 03), mailboxes, stores, rings and
queues (spec 04). Default field values are the reset values. -/

namespace Sys2Proof.Machine

/-- Power states of R23. -/
inductive PowerState where
  | dormant | doze | run
  deriving DecidableEq, Repr

/-- TREF_STATE of SYS_TREF_STAT (R46). -/
inductive TrefState where
  | noRef | acquire | locked | holdover | fault
  deriving DecidableEq, Repr

def TrefState.code : TrefState → Nat
  | .noRef => 0 | .acquire => 1 | .locked => 2 | .holdover => 3 | .fault => 4

/-- The time reference (R37 to R40, R596). -/
structure Tref where
  state : TrefState := .noRef
  glitchCnt : Nat := 0
  rateFault : Bool := false
  phase : Int := 0
  rate : Int := 0
  /-- Tick of the model's clock at which the current holdover began. -/
  holdSince : Option Nat := none
  /-- Straps TREF_EN0 and TREF_EN1 as sampled at power-on reset release. -/
  strap10M : Bool := true
  strapPps : Bool := true
  /-- Offset of the first edge of the candidate run, in ns, and how many consecutive edges agree on it (R37, R38). -/
  cand : Option Int := none
  candRun : Nat := 0
  /-- Offset of the last edge where it was a candidate, against which the next edge is judged (R37). -/
  prev : Option Int := none
  /-- The phase of a run beyond ±100 µs that waits for ACCEPT_TREF_PHASE. -/
  faultPhase : Option Int := none
  /-- Phase still to be slewed out, in ns. -/
  slew : Int := 0
  deriving DecidableEq, Repr

/-- Phase of the site sleep shown in SYS_SLEEP_STAT (R46). -/
inductive SleepPhase where
  | none | prepared | committed | pastTp | aborted
  deriving DecidableEq, Repr

def SleepPhase.code : SleepPhase → Nat
  | .none => 0 | .prepared => 1 | .committed => 2 | .pastTp => 3 | .aborted => 4

/-- Site sleep (R41 to R44). On the head the answers are gathered until the deadline. -/
structure Sleep where
  phase : SleepPhase := .none
  /-- Reason of the last NOT_READY, in the guard order of R41. -/
  reason : Nat := 0
  te : Nat := 0
  /-- Head: answers are gathered. -/
  asking : Bool := false
  /-- Epoch of the last wake (R433). -/
  wakeEpoch : Option Nat := none
  /-- Chain addresses that answered READY, and the first NOT_READY as (guard, address). -/
  ready : List Nat := []
  notReady : Option (Nat × Nat) := none
  /-- The REQUEST_SITE_SLEEP whose final notice is due. -/
  cmd : Option Req := none
  /-- Wake sources latched (R43, R44). -/
  latched : Word := 0
  wakeSrc : Word := 0
  deriving DecidableEq, Repr

/-- Clock of a block (R27): running, gated, or PLL stopped. -/
inductive ClockState where
  | running | gated | stopped
  deriving DecidableEq, Repr

/-- Clock states of the Service blocks that commands use (R27, R610), and the blocks whose start is under way. DESIGN CHOICE (log 148). -/
structure Clocks where
  core : ClockState := .running
  crypto : ClockState := .gated
  vehModem : Vector ClockState 8 := Vector.replicate 8 .gated
  meshModem : ClockState := .gated
  stor : ClockState := .gated
  display : ClockState := .gated
  starting : List Blk := []
  deriving DecidableEq, Repr

/-- System power, reset and start-up state (R23, R34, R35, R46, R603). DESIGN CHOICE (log 2, 52, 174). DEDUCED (log 165). -/
structure Sys where
  power : PowerState := .run
  /-- Steps 1 … 10 of the start-up sequence that have been reached. -/
  steps : List Nat := [1]
  romRecovery : Bool := false
  clkFault : Bool := false
  /-- Step 4 reached with the site entering RUN (SAFETY_RDY). -/
  safetyRdy : Bool := false
  chipCause : Nat := 0
  porCause : Nat := 0
  chipResets : Nat := 0
  porResets : Nat := 1
  serial : Nat := 0
  fwMinor : Nat := 0
  fwBuild : Nat := 0
  tref : Tref := {}
  sleep : Sleep := {}
  clocks : Clocks := {}
  /-- Die temperatures, °C + 64, of SYS_TEMP, and THERM_WARN (R603). -/
  tempMain : Nat := 0
  tempMeas : Nat := 0
  tempDrive : Nat := 0
  thermWarn : Bool := false
  /-- Messages discarded by each domain's channel checks (R14) and accesses blocked at its firewall (R16). -/
  chanErrLegal : Nat := 0
  chanErrSafety : Nat := 0
  chanErrService : Nat := 0
  fwBlockLegal : Nat := 0
  fwBlockSafety : Nat := 0
  fwBlockRind : Nat := 0
  fwBlockService : Nat := 0
  /-- A wall-clock label has been set since the last chip reset (R146). -/
  wallSet : Bool := false
  /-- Sequence number of Service's messages to Safety (R349). -/
  svcSeq : Nat := 0
  /-- Requests to Safety that it has yet to answer, oldest first: type, port and sequence number (R349). -/
  svcAsked : List (Nat × Nat × Nat) := []
  deriving DecidableEq, Repr

/-- The clocks of the block as counts: chain time in ns, the legal clock in µs, safety time in µs and the
count of ticks. DESIGN CHOICE (log 2, 19). -/
structure Time where
  chain : Nat := 0
  legalUs : Nat := 0
  safetyUs : Nat := 0
  deriving DecidableEq, Repr

/-- What a stored or delivered message is, so that its reading frees the right resource (R88, R90, R92). -/
inductive MsgKind where
  /-- A response that ends its command: its reading releases the credit. -/
  | response
  /-- An ACCEPTED response whose final notice follows: its reading releases nothing. -/
  | accepted
  /-- A final notice (R118): its reading releases the credit. -/
  | final
  /-- A refusal of host-to-device mailbox n (R90). -/
  | refusal (n : Fin 8)
  /-- A relayed copy from the guest and mailbox named (R92). -/
  | relay (src : Guest) (n : Fin 8) (tag : Nat)
  /-- The ABORTED notice of a withdrawn copy (R93). -/
  | aborted
  deriving DecidableEq, Repr

/-- A message of the completion store or of a device-to-host mailbox. -/
structure OutMsg where
  kind : MsgKind
  path : Path
  words : List Word
  /-- Chain time of the GO that asked for it, for the round-trip counters (R81). -/
  goAt : Nat := 0
  deriving DecidableEq, Repr

/-- The refusal slot of a host-to-device mailbox (R90). -/
inductive RefusalSlot where
  | free | occupied
  deriving DecidableEq, Repr

/-- Host-to-device mailbox (R82, R83). -/
structure H2D where
  mbd : Vector Word 16 := Vector.replicate 16 0
  abort : Bool := false
  full : Bool := false
  slot : RefusalSlot := .free
  path : Path := .pcie
  /-- A relay request holds FULL until its copy is read (R92). -/
  relaying : Bool := false
  goAt : Nat := 0
  deriving DecidableEq, Repr

/-- Device-to-host mailbox (R84): the message present, and whether its MBX_MBD0 has been read (R93). -/
structure D2H where
  msg : Option OutMsg := none
  mbd0Read : Bool := false
  deriving DecidableEq, Repr

/-- A descriptor ring's registers (R94). -/
structure RingRegs where
  baseLo : Word := 0
  baseHi : Word := 0
  log2size : Nat := 0
  en : Bool := false
  head : Nat := 0
  tail : Nat := 0
  deriving DecidableEq, Repr

/-- Interrupt registers of a guest (R62, R68 to R70). DEDUCED (log 38). PRESUMED (log 39). -/
structure Irq where
  status : Word := 0
  enable : Word := 0
  arm : Bool := false
  maps : Vector Word 8 := Vector.replicate 8 0
  /-- MSI-X vector masks and the pending bit array. -/
  mask : BitVec 64 := BitVec.allOnes 64
  pba : BitVec 64 := 0
  deriving DecidableEq, Repr

/-- One entry of the violation log (R72). -/
structure Viol where
  addr : Word := 0
  info : Word := 0
  tag : Word := 0
  time : Word := 0
  deriving DecidableEq, Repr

structure ViolLog where
  count : Nat := 0
  newest : Nat := 0
  overwritten : Bool := false
  pend : Bool := false
  used : Nat := 0
  entries : Vector Viol 8 := Vector.replicate 8 {}
  deriving DecidableEq, Repr

/-- Performance counters of a guest (R79, R80). -/
structure Pfc where
  cnt : Vector Word 32 := Vector.replicate 32 0
  sel : Vector Word 8 := Vector.replicate 8 0
  freeze : Bool := false
  view : Nat := 0
  chipGuest : Nat := 0
  chain : Word := 0
  ovf : Word := 0
  snap : Vector Word 32 := Vector.replicate 32 0
  snapTime : Nat := 0
  chipTime : Nat := 0
  deriving DecidableEq, Repr

/-- A value that a read of a lower half or lower word left for the first read of an offset (R6, R65). -/
structure ReadLatch where
  offset : Nat
  word : Word
  deriving DecidableEq, Repr

/-- The state of one guest (R52 to R97). DESIGN CHOICE (log 31). DEDUCED (log 173). -/
structure GuestSt where
  rstBusy : Bool := false
  /-- Cause of the reset in progress, and the commands RESET_GUEST of the system guest that wait for its end. -/
  rstPending : Nat := 0
  rstCmds : List Req := []
  rstCause : Nat := 0
  rstCount : Nat := 0
  hbRunning : Bool := false
  /-- Non-fatal errors reported under AER, and the count of host errors (R50). -/
  aerErrors : Nat := 0
  hostErrors : Nat := 0
  irq : Irq := {}
  viol : ViolLog := {}
  pfc : Pfc := {}
  h2d : Vector H2D 8 := Vector.replicate 8 {}
  d2h : Vector D2H 8 := Vector.replicate 8 {}
  /-- Responses, refusals, notices and relayed copies in completion order (R88). -/
  store : List OutMsg := []
  /-- Credits held (R88) and notice slots occupied (R92). -/
  credits : Nat := 0
  notices : Nat := 0
  dbH2d : Word := 0
  dbD2h : Word := 0
  rings : Vector RingRegs 8 := Vector.replicate 8 {}
  /-- Backlog admitted against the guest's share, per class (R104). -/
  own : Vector Nat 5 := Vector.replicate 5 0
  /-- Values latched for PCIe reads (R6) and for GLN reads (R65), one for each offset. -/
  latch : List ReadLatch := []
  glnLatch : List ReadLatch := []
  deriving DecidableEq, Repr

/-- Where an admitted command's cost is booked (R104). -/
inductive PoolKind where
  | own | pool
  deriving DecidableEq, Repr

/-- The rights that stand beside a guest's mask (R59, R60). -/
structure Rights where
  audit : Bool := false
  staging : Bool := false
  bulk : Bool := false
  deriving DecidableEq, Repr

/-- An admitted, uncompleted command (R97, R104). -/
structure Admitted where
  req : Req
  cost : Nat
  pool : PoolKind
  started : Bool := false
  /-- The sender was reset after the start: the response is discarded (R76 step 4). -/
  orphan : Bool := false
  admittedAt : Nat := 0
  goAt : Nat := 0
  /-- Bytes reserved for it in the configuration journal (R104). -/
  space : Nat := 0
  /-- The rights its guest had at admission, under which it completes (R59). -/
  rights : Rights := {}
  /-- A relay that a reset of its sender or target has ended (R93). -/
  ended : Bool := false
  deriving DecidableEq, Repr

/-- The result of an executed command that waits for COMMAND_COMPLETE, or the final outcome of an accepted
one that waits for FINAL_NOTICE. -/
structure Answer where
  req : Req
  code : Nat
  words : List Word
  /-- A final notice follows this ACCEPTED response. -/
  more : Bool := false
  deriving DecidableEq, Repr

/-- The host side as a whole. DESIGN CHOICE (log 2, 14). -/
structure HostSt where
  guests : Vector GuestSt 16 := Vector.replicate 16 {}
  /-- The guest that holds the claim on each vehicle port (R150). -/
  claim : Vector (Option Guest) 8 := Vector.replicate 8 none
  numVFs : Nat := 0
  vfEnable : Bool := false
  linkUp : Bool := false
  /-- The link rests in L1.2 (R23). -/
  l12 : Bool := false
  /-- Configuration requests are answered with Request Retry Status until step 7 (R51). -/
  rrs : Bool := true
  /-- GLN binding in force: guest, none while unbound (R66); and its I/O supply (R592). -/
  gln : Option Guest := none
  glnVio : Bool := true
  /-- Admission pool backlog per class (R104). -/
  pool : Vector Nat 5 := Vector.replicate 5 0
  admitted : List Admitted := []
  answers : List Answer := []
  finals : List Answer := []
  /-- Commands answered ACCEPTED whose final notice is due. -/
  awaiting : List Req := []
  /-- Snapshot of every guest's counters (R79). -/
  chipSnap : Vector (Vector Word 32) 16 := Vector.replicate 16 (Vector.replicate 32 0)
  deriving DecidableEq, Repr

end Sys2Proof.Machine
end

