-- ==== Sys2Proof/Machine/StateKeys.lean ====
section
/-! DEFINITION. Rind, the key vault and the firmware banks (spec 19, 20). Default field values are the reset values:
the module has left Skovgil in FIELD with seal count 0 and its first start has restored its root (R505, R507). -/

namespace Sys2Proof.Machine

/-- Rind: root, life cycle, seal monitor, tamper sensors and real-time counter (R500 to R507, R521). -/
structure Rind where
  rootPresent : Bool := true
  /-- The model's index of the root's random draw. -/
  root : Nat := 0
  rootGen : Nat := 0
  certified : Bool := true
  /-- A renewed root that takes effect at the next power-on reset (R520). -/
  renewed : Bool := false
  /-- 0 BLANK, 1 FACTORY, 2 FIELD, 3 SERVICE, 4 RETIRED. -/
  lifecycle : Nat := 2
  /-- The root rests in the ship copy (R505). -/
  shipCopy : Bool := false
  sealCount : Nat := 0
  sealSerial : List Byte := List.replicate 16 0
  loopOpen : Bool := false
  /-- Samples in a row that disagree with loopOpen, and legal µs at which the loop was last found closed (R300). -/
  loopRun : Nat := 0
  closedAt : Nat := 0
  loopChanges : Nat := 0
  /-- A seal record that waits for Legal to run (R301). -/
  sealDue : Bool := false
  armed : Bool := true
  /-- Sensors in alarm now: mesh, lid, light, temperature, glitch; and alarm samples in a row of sampled ones. -/
  alarm : Vector Bool 5 := Vector.replicate 5 false
  alarmRun : Vector Nat 5 := Vector.replicate 5 0
  lastCause : Nat := 0
  /-- Mesh, lid, light, temperature, glitch and battery-loss counts. -/
  tamper : Vector Nat 6 := Vector.replicate 6 0
  batLow : Bool := false
  /-- VBAT fell below retention while VSYS was absent: handled at the next start (R504). -/
  batteryLost : Bool := false
  /-- Real-time counter in µs, and RTC_LOST (R506). -/
  rtcUs : Nat := 0
  rtcLost : Bool := false
  alarmS : Nat := 0
  deriving DecidableEq, Repr

/-- The real-time counter in periods of 1 / 32 768 s (R506). -/
def Rind.rtc (r : Rind) : Nat := r.rtcUs * 32768 / 1000000 % 2 ^ 48

/-- A vault slot (R512): attribute words, the secret or private value, public bytes, and RM_SERVICE when filled. -/
structure Slot where
  attrA : Word
  attrB : Word
  key : Nat := 0
  pub : List Byte := []
  rm : Nat := 0
  deriving DecidableEq, Repr

/-- Attribute words of the fixed public-only slots 5 to 9 (R511, R512): ECDSA P-384, domain SERVICE, verify. -/
def publicAttrA (n : Nat) : Word := if n = 5 then 0 else oneBit 21
def publicAttrB : Word := pack [(3, 0, 2), (5, 4, 2), (8, 6, 7), (11, 11, 1), (16, 15, 3), (19, 19, 1), (20, 20, 1)]

/-- The image keys that provisioning writes into slots 6 and 7 (R507, R526). DESIGN CHOICE (log 142). -/
def factorySlots : List (Nat × Slot) :=
  [6, 7].map fun n => (n, { attrA := publicAttrA n, attrB := publicAttrB, key := leNat (Config.factoryKey n), pub := Config.factoryKey n })

/-- A key session (R515). -/
structure KSes where
  alg : Nat
  uses : Nat
  key : Nat
  deriving DecidableEq, Repr

/-- A vault command in progress: its result, placed at T_FIX (R516). -/
structure VaultOp where
  req : Req
  code : Nat
  words : List Word := []
  ring : Nat := 0
  data : List Byte := []
  toRing : Bool := false
  slot : Nat := 0xFF
  reason : Nat := 0
  /-- Its guest was reset: it completes unseen (R521, R525). -/
  orphan : Bool := false
  deriving DecidableEq, Repr

/-- An audit entry (R518). -/
structure Audit where
  rtc : Nat
  kind : Nat
  guest : Nat := 0xFF
  opcode : Nat := 0
  slot : Nat := 0xFF
  result : Nat := 0
  reason : Nat := 0
  detail : List Byte := []
  deriving DecidableEq, Repr

/-- The vault and the audit log. -/
structure Keys where
  /-- Filled slots 5 to 9 and 16 to 255, ascending by number; the derived slots are computed. -/
  slots : List (Nat × Slot) := factorySlots
  sessions : Vector (Vector (Option KSes) 8) 16 := Vector.replicate 16 (Vector.replicate 8 none)
  ops : List VaultOp := []
  log : List Audit := []
  rindLog : List Audit := []
  /-- Measurements of the running images (R509): SERVICE, LEGAL, SAFETY. -/
  measured : Vector (List Byte) 3 := Vector.replicate 3 []
  ev : Vector Word 16 := Vector.replicate 16 0
  deriving DecidableEq, Repr

/-- A firmware bank (R526, R527). DESIGN CHOICE (log 90). -/
structure Bank where
  valid : Bool := false
  header : List Byte := []
  digest : List Byte := []
  rollback : Nat := 0
  version : Nat := 0
  body : List Byte := []
  deriving DecidableEq, Repr

/-- The bank of an image as the module left Skovgil with it. -/
def Bank.factory : Bank := { valid := true, digest := List.replicate 48 0 }

/-- STATE of UPD_STG (R547). -/
inductive StgState where
  | idle | header | body | checking | valid | refused | cancelled | failed
  deriving DecidableEq, Repr

def StgState.code : StgState → Nat
  | .idle => 0 | .header => 1 | .body => 2 | .checking => 3 | .valid => 4 | .refused => 5 | .cancelled => 6
  | .failed => 7

/-- Staging of a class (R531 to R535). -/
structure Stg where
  state : StgState := .idle
  source : Nat := 0
  reason : Nat := 0
  owner : Guest := 0
  pos : Nat := 0
  ring : Nat := 0
  hdr : List Byte := []
  body : List Byte := []
  cmd : Option Req := none
  /-- Digest tag of a CHAIN staging. -/
  tag : Nat := 0
  /-- Bytes read of the descriptor at HEAD of a RING staging. -/
  got : Nat := 0
  /-- Its descriptor with LAST is consumed. -/
  lastRead : Bool := false
  deriving DecidableEq, Repr

/-- STATE of UPD_ACT (R547). -/
inductive ActState where
  | none | proposed | committed | swapping | done | reverted
  deriving DecidableEq, Repr

def ActState.code : ActState → Nat
  | .none => 0 | .proposed => 1 | .committed => 2 | .swapping => 3 | .done => 4 | .reverted => 5

/-- The activation on this unit (R536 to R543). -/
structure Act where
  state : ActState := .none
  cls : Nat := 0
  /-- Address of the only unit in scope, 0 for site scope (R536). -/
  unit : Nat := 0
  digest : List Byte := []
  /-- T_act in chain ns. -/
  tAct : Nat := 0
  pendingStart : Bool := false
  cmd : Option Req := none
  deriving DecidableEq, Repr

/-- The firmware banks and what runs. -/
structure Upd where
  banks : Vector (Vector Bank 2) 3 := Vector.replicate 3 #v[.factory, {}]
  active : Vector (Fin 2) 3 := Vector.replicate 3 0
  floor : Vector Nat 3 := Vector.replicate 3 0
  stg : Vector Stg 3 := Vector.replicate 3 {}
  act : Act := {}
  trial : Vector Bool 3 := Vector.replicate 3 false
  failedStarts : Nat := 0
  /-- Ports whose open session stays on the old legal bank (R540), and slot 2 in use. -/
  oldLegal : Vector Bool 8 := Vector.replicate 8 false
  slot2 : Bool := false
  /-- Image bytes still to be served on the chain (R438): digest tag, offset and the image. -/
  serving : Option (Nat × Nat × List Byte) := none
  ev : Vector Word 16 := Vector.replicate 16 0
  deriving DecidableEq, Repr

end Sys2Proof.Machine
end

