-- ==== Sys2Proof/Machine/StateLegal.lean ====
section
/-! DEFINITION. The state of Legal: sensor links and calibration (spec 09), energy (10), billing (11), power quality
and tamper (12). Default field values are the reset values. Channels and paths of a port are numbered
8 × ROLE + 2 × CH + PATH. -/

namespace Sys2Proof.Machine

/-! ### Sensor links (spec 09) -/

/-- State of a sensor link (R232). -/
inductive SlState where
  | down | training | ident | run | stalled | fault
  deriving DecidableEq, Repr

def SlState.code : SlState → Nat
  | .down => 0 | .training => 1 | .ident => 2 | .run => 3 | .stalled => 4 | .fault => 5

/-- The link carries frames. -/
def SlState.active : SlState → Bool
  | .training | .ident | .run | .stalled => true
  | .down | .fault => false

/-- An upstream frame that was received: its index, STATUS, and the bits of the eight streams and the reference (R228). -/
structure UpFrame where
  m : Nat
  status : Nat
  data : List Byte
  deriving DecidableEq, Repr

/-- A sensor link and the head on it. -/
structure SLinkSt where
  state : SlState := .down
  /-- Frames in a row not lost, and lost. -/
  good : Nat := 0
  bad : Nat := 0
  /-- Lost frames of the second in progress and of the last full one. -/
  lostNow : Nat := 0
  lostSec : Nat := 0
  /-- Next upstream frame expected. -/
  frame : Nat := 0
  regs : HeadRegs := {}
  /-- The head's registers are being read to leave STALLED, and polled in RUN (R232). -/
  reread : Bool := false
  poll : Bool := false
  /-- Registers still to be read, HD_CTRL where it is still to be written, and what the reads have answered (R242). -/
  want : List Nat := []
  wr : Option Nat := none
  buf : HeadRegs := {}
  /-- Serial differs from the identity record. -/
  foreign : Bool := false
  /-- Samples below this index are invalid: the decimator fills (R232). -/
  validFrom : Nat := 0
  /-- Frames lost, and frames received, that samples still to be processed draw on, oldest first (R231, R233). -/
  lost : List Nat := []
  frames : List UpFrame := []
  /-- A verification FAIL takes the head out of service (R245). -/
  failed : Bool := false
  deriving DecidableEq, Repr

/-- A coefficient set (R235) with PILOT_REF in 2^−30 units. DESIGN CHOICE (log 152). -/
structure Coef where
  ofs : Int := 0
  gain : Nat := 0
  phase : Int := 0
  pref : Nat := 2 ^ 30
  deriving DecidableEq, Repr

/-- The nominal coefficients of a channel path (R235). -/
def Coef.nominal (i : Nat) : Coef :=
  if i < 8 then {} else if i % 2 = 0 then { gain := 102400000 } else { gain := 2560000000 }

/-- Verification state (R243, R253). -/
inductive Verify where
  | ok | warn | fail | suspended
  deriving DecidableEq, Repr

def Verify.code : Verify → Nat
  | .ok => 0 | .warn => 1 | .fail => 2 | .suspended => 3

/-- The correlator of a stream over a pilot window (R241): sums of s(n) x and of x by n mod 16, the sum of x, and samples. -/
structure Corr where
  s : Vector Int 16 := Vector.replicate 16 0
  u : Vector Int 16 := Vector.replicate 16 0
  sum : Int := 0
  n : Nat := 0
  deriving DecidableEq, Repr

/-- Overlap sums of a current channel over a window (R244): Σ x_lo·x_hi, Σ x_lo², samples. -/
structure OvlSum where
  xy : Int := 0
  xx : Int := 0
  n : Nat := 0
  deriving DecidableEq, Repr

/-- A pilot window of a port (R241, R243, R244): a correlator for each path and each head's reference stream, the samples in which a
path was not in overload, whether a head's pilot drive failed, and the overlap sums. -/
structure PilotWin where
  path : Vector Corr 24 := Vector.replicate 24 {}
  ref : Vector Corr 3 := Vector.replicate 3 {}
  clear : Vector Nat 24 := Vector.replicate 24 0
  drive : Vector Bool 3 := Vector.replicate 3 false
  ovl : Vector OvlSum 8 := Vector.replicate 8 {}
  deriving DecidableEq, Repr

/-- A path under pilot verification (R241 to R245). -/
structure PathV where
  state : Verify := .ok
  latched : Bool := false
  /-- Pilot ratios of the last usable windows in 2^−30 units, newest first, at most 16. -/
  ratios : List Nat := []
  /-- Results of the last window: Â, Â_R and Â_U in 10 µA, and the sums that give I and Q. -/
  amp : Nat := 0
  ampR : Nat := 0
  ampU : Nat := 0
  sums : Vector Int 16 := Vector.replicate 16 0
  /-- Windows in a row that were not usable. -/
  unusable : Nat := 0
  /-- A power-on reset has passed since FAIL latched, and windows in a row judged OK since (R245). -/
  recheck : Bool := false
  okRun : Nat := 0
  deriving DecidableEq, Repr

/-- The overlap check of a current channel (R244): last mismatch in ppm and windows in a row beyond the limit. -/
structure Ovl where
  last : Int := 0
  run : Nat := 0
  deriving DecidableEq, Repr

/-- Sums of a channel path over a latch period (R255). -/
structure Acc where
  sum : Int := 0
  sq : Nat := 0
  n : Nat := 0
  peak : Nat := 0
  invalid : Nat := 0
  hi : Nat := 0
  deriving DecidableEq, Repr

/-- A running CAL_MEASURE (R251, R255). -/
structure CalMeas where
  req : Req
  mode : Nat
  pi : Fin 2
  force : Nat
  element : Nat
  path : Nat
  pulses : Nat
  const : Nat
  seconds : Nat
  edges : Nat := 0
  /-- Sample index of the first edge, or of the start of MODE 1 and 2; and of the last edge. -/
  start : Option Nat := none
  lastEdge : Nat := 0
  e : Int := 0
  sum : Int := 0
  sq : Int := 0
  xy : Int := 0
  xx : Int := 0
  n : Nat := 0
  deriving DecidableEq, Repr

/-- The metrology of a port. DESIGN CHOICE (log 152). -/
structure Met where
  coef : Vector Coef 24 := Vector.ofFn fun i => .nominal i.1
  pendSet : Option (Vector Coef 24) := none
  calCount : Nat := 0
  /-- Identity record: serials of voltage, main and check head. -/
  bound : Vector (Option Nat) 3 := Vector.replicate 3 none
  /-- Channel uses its high path (R237): main 0 to 3, check 0 to 3. -/
  selHi : Vector Bool 8 := Vector.replicate 8 false
  path : Vector PathV 24 := Vector.replicate 24 {}
  ovl : Vector Ovl 8 := Vector.replicate 8 {}
  /-- The pilot window in progress, and the one that has ended and is still to be judged. -/
  win : PilotWin := {}
  ended : Option PilotWin := none
  /-- Overlap measured in this calibration, in ppm. -/
  calOvl : Vector (Option Int) 8 := Vector.replicate 8 none
  meas : Option CalMeas := none
  /-- Pilot capture of END_CALIBRATION: the request and the windows captured. -/
  capture : Option (Req × Nat) := none
  headChanged : Bool := false
  /-- Readings: sums of the period in progress and of the last period, and its last index. -/
  acc : Vector Acc 24 := Vector.replicate 24 {}
  last : Vector Acc 24 := Vector.replicate 24 {}
  lastIdx : Nat := 0
  /-- Sums of u (or u_1) and of the main current (or L1) for MET_U and MET_I, and the values at the last latch. -/
  accU : Acc := {}
  accI : Acc := {}
  regU : Int := 0
  regI : Int := 0
  ev : Vector Word 16 := Vector.replicate 16 0
  deriving DecidableEq, Repr

/-! ### Energy (spec 10) -/

/-- A delivered sample of a port: voltages and main currents by phase, none where invalid, a current with its path (high path true). -/
structure Snap where
  u : Vector (Option Int) 3 := Vector.replicate 3 none
  i : Vector (Option (Int × Bool)) 3 := Vector.replicate 3 none
  deriving DecidableEq, Repr

/-- What a sample adds to the accumulator and to the period's marks. -/
structure Contrib where
  idx : Nat
  e : Int
  subst : Bool := false
  unc : Bool := false
  /-- Valid voltage inside the metering window, for the DC substitute. -/
  u : Option Int := none
  metered : Bool := false
  /-- The sample saturated (R289). -/
  ovl : Bool := false
  deriving DecidableEq, Repr

/-- A boundary at which a periodic latch is due (R265 to R267): its index, whether the site reference set it, and
whether the period held a substituted cycle or internal tick. -/
structure Due where
  idx : Nat
  line : Bool := false
  subst : Bool := false
  deriving DecidableEq, Repr

/-- Energy registration of a port. -/
structure Nrg where
  /-- Metering window: first sample, and the sample it ends before (R259). -/
  winFrom : Option Nat := none
  winEnd : Option Nat := none
  /-- The window was open at the last supply loss (R278). -/
  wasOpen : Bool := false
  a : Int := 0
  imp : Vector Nat 8 := Vector.replicate 8 0
  exp : Vector Nat 8 := Vector.replicate 8 0
  impTot : Nat := 0
  expTot : Nat := 0
  sesImp : Nat := 0
  sesExp : Nat := 0
  slot : Nat := 0
  periodStart : Nat := 0
  /-- Length of the last period, and of the last complete periodic one (R269). -/
  period : Nat := 0
  gmax : Option Nat := none
  bridged : Bool := false
  subst : Bool := false
  lineTick : Bool := false
  /-- Marks of the period in progress. -/
  brgNow : Bool := false
  subNow : Bool := false
  overload : Bool := false
  uSum : Int := 0
  uN : Nat := 0
  /-- Mean of u over the valid samples of the last period inside the window, as sum and count. -/
  uLast : Option (Int × Nat) := none
  /-- That mean as it stood when the voltage gap in progress began (R269). -/
  uHeld : Option (Int × Nat) := none
  pLatch : Int := 0
  latchIdx : Nat := 0
  /-- Net energy of the period in progress, for the mean power; and of all samples since power-on, for the cross-check (R275). -/
  eNow : Int := 0
  net : Int := 0
  /-- Lengths of the current gap, voltage gap and run of uncovered samples in progress. -/
  iGap : Nat := 0
  uGap : Nat := 0
  uncRun : Nat := 0
  gapLong : Nat := 0
  unc : Nat := 0
  /-- First sample of a billing stop that BILLING_STOP has yet to make, and STOPPED. -/
  stopDue : Option Nat := none
  stopped : Bool := false
  /-- The stop was made with the window closed: it lasts until the session is sealed (R270). -/
  stopSes : Bool := false
  unmetered : Nat := 0
  /-- Recent samples, newest first (R269, R315), and the cycles that substitute during a gap. -/
  hist : List Snap := []
  iSub : Option (Nat × List Snap) := none
  uSub : Option (Nat × List Snap) := none
  /-- Line-cycle detector (R265): u_1 has been below −20 V since the last crossing; start and length of cycles. -/
  armed : Bool := false
  cycStart : Nat := 0
  cycLen : Nat := 0
  cycles : Nat := 0
  /-- The cycle in progress is not counted: a forced latch fell in it (R263). -/
  cycSkip : Bool := false
  tickStart : Nat := 0
  due : List Due := []
  hold : List Contrib := []
  /-- Creep windows per phase, newest first: square of the sample in mA² and Â in 10 µA (R238). -/
  creep : Vector (List (Option (Nat × Nat))) 3 := Vector.replicate 3 []
  pAcc : Int := 0
  pend : Nat := 0
  /-- Legal µs of the last rising pulse edge. -/
  lastEdge : Option Nat := none
  ps : Bool := false
  psNext : Option Bool := none
  b : Nat := 0
  /-- A and B as the last latch left them. -/
  aLatch : Int := 0
  bLatch : Nat := 0
  ev : Vector Word 16 := Vector.replicate 16 0
  deriving DecidableEq, Repr

/-- A cross-check in progress (R275). -/
structure Cross where
  req : Option Req := none
  edges : Nat := 0
  eStart : Int := 0
  deriving DecidableEq, Repr

/-- A pulse input (R274, R283). -/
structure PulseIn where
  level : Bool := false
  cnt : Nat := 0
  cross : Option Cross := none
  /-- 0 not run, 1 pass, 2 fail. -/
  result : Nat := 0
  deriving DecidableEq, Repr

/-- Supply-fail warning and saves (R278 to R283, R593). -/
structure Supply where
  tripped : Bool := false
  pfw : Bool := false
  stuck : Bool := false
  saving : Bool := false
  warnSaves : Nat := 0
  lastStart : Nat := 0
  intr : Nat := 0
  lostPorts : Nat := 0
  lastKind : Nat := 0
  lastSave : Nat := 0
  lostS : Nat := 0
  deriving DecidableEq, Repr

/-! ### Billing (spec 11) -/

/-- A wall-clock label and the sample index at which it arrived (R293). -/
structure Wall where
  ms : Nat
  source : Nat
  at_ : Nat
  deriving DecidableEq, Repr

/-- What Legal holds of an open session for its record (R297) and its credit (R173). -/
structure SesRec where
  no : Nat
  run : Nat
  nOpen : Nat
  ivFirst : Nat
  ivPrev : List Byte
  calCount : Nat
  sealsOpen : Nat
  billed : Bool
  bidir : Bool := false
  source : Nat := 0
  ident : List Byte := []
  hostRef : Nat := 0
  creditE : Nat := 0
  creditT : Nat := 0
  warned : Bool := false
  warnedT : Bool := false
  out : Bool := false
  overE : Nat := 0
  impOpen : Vector Nat 8
  expOpen : Vector Nat 8
  impTotOpen : Nat
  expTotOpen : Nat
  wallOpen : Option (Nat × Nat × Nat) := none
  slotN : Vector Nat 8 := Vector.replicate 8 0
  closed : Nat := 0
  heads : Bool := false
  pulse : Option (Nat × Nat) := none
  bridged : Bool := false
  stopped : Bool := false
  service : Bool := false
  revExport : Bool := false
  /-- The contactor confirmation came, or preparation ended without closing: the record may be sealed (R298). -/
  sealDue : Bool := false
  /-- Legal became VOID in it: sealed at a later start (R299). -/
  deferred : Bool := false
  /-- End class and cause as Service stated them. -/
  endClass : Nat := 0
  endCause : Nat := 0
  escalated : Bool := false
  deriving DecidableEq, Repr

/-- Billing of a port. -/
structure Bil where
  ivOpen : Bool := false
  ivStart : Nat := 0
  /-- Newest closed interval and its digest D_k (R290); with index 0, D_0 is computed. -/
  ivIdx : Nat := 0
  ivDig : List Byte := []
  ivImp : Nat := 0
  ivExp : Nat := 0
  ivFlags : Nat := 0
  ivUnc : Nat := 0
  ivSub : Nat := 0
  sched : List (Nat × Nat) := []
  pend : Option (Req × Nat × Bool) := none
  ses : Option SesRec := none
  lastNo : Nat := 0
  sealedNo : Nat := 0
  sealedImp : Nat := 0
  /-- End class and cause of the last sealed record. -/
  sealedEnd : Nat × Nat := (0, 0)
  ev : Vector Word 16 := Vector.replicate 16 0
  deriving DecidableEq, Repr

/-- Optical port (R304, R308). -/
structure Opt where
  /-- 0 waiting, 1 signed on, 2 identified, 3 acknowledged, 4 data. -/
  state : Nat := 0
  rate : Nat := 0
  /-- The snapshot taken at the acknowledgement (R306). -/
  snap : List Byte := []
  done : Nat := 0
  unanswered : Nat := 0
  deriving DecidableEq, Repr

/-! ### Power quality and tamper (spec 12) -/

/-- A value of a detector: a sum of squares over n samples (AC), or a sum over n samples (DC), in 10 mV. -/
inductive PqVal where
  | rms (sq : Nat) (n : Nat)
  | mean (sum : Int) (n : Nat)
  deriving DecidableEq, Repr

/-- The samples of a window in progress: their squares, their number, and whether one is invalid. -/
structure CycSum where
  sq : Nat := 0
  n : Nat := 0
  bad : Bool := false
  deriving DecidableEq, Repr

/-- A channel of a detector (R315): the crossing detectors with the window since the last accepted crossing of each direction, the
last refresh, none before the detector's first sample, its value and whether that is a substituted one. -/
structure PqCh where
  posArmed : Bool := false
  negArmed : Bool := false
  pos : Option Nat := none
  neg : Option Nat := none
  posWin : CycSum := {}
  negWin : CycSum := {}
  refresh : Option Nat := none
  val : Option PqVal := none
  subst : Bool := false
  deriving DecidableEq, Repr

/-- An active voltage event (R317 to R319). -/
structure PqEv where
  start : Nat
  channels : Nat := 0
  flags : Nat := 0
  /-- Values were skipped for an invalid sample during the event. -/
  skipped : Bool := false
  extreme : PqVal
  extCh : Nat
  /-- Reference (10 mV × 2^16) and thresholds it started under. -/
  ref : Int
  sag : Nat
  swell : Nat
  intr : Nat
  hyst : Nat
  deriving DecidableEq, Repr

/-- A voltage detector. -/
structure PqDet where
  ch : Vector PqCh 3 := Vector.replicate 3 {}
  sag : Option PqEv := none
  swell : Option PqEv := none
  intr : Option PqEv := none
  /-- Sliding reference of a DC port, 10 mV with 16 fractional bits (R316). -/
  usr : Option Int := none
  /-- Recent voltages, newest first. -/
  hist : List (Vector (Option Int) 3) := []
  /-- Last closed event: kind, per mille, ms. -/
  lastKind : Nat := 0
  lastPm : Nat := 0
  lastMs : Nat := 0
  deriving DecidableEq, Repr

/-- Persistence of a tamper condition (R324, R325): lengths in samples and number of units of the run of disagreeing
and of agreeing units, the condition, and the largest difference while active. -/
structure Persist where
  bad : Nat := 0
  badN : Nat := 0
  good : Nat := 0
  active : Bool := false
  units : Nat := 0
  worst : Nat := 0
  v1 : Int := 0
  v2 : Int := 0
  at_ : Nat := 0
  deriving DecidableEq, Repr

/-- Reversed-polarity check (R323): qualifying and opposite units, and the last unit's values. -/
structure RevPol where
  n : Nat := 0
  opp : Nat := 0
  deriving DecidableEq, Repr

/-- Sums of a comparison unit in progress (R323 to R325). -/
structure Unit12 where
  n : Nat := 0
  /-- It began where a line cycle began, and so is a whole one on an AC port. -/
  whole : Bool := false
  /-- An invalid sample of the voltage, main and check head fell in it (R321). -/
  badV : Bool := false
  badM : Bool := false
  badC : Bool := false
  mainSum : Int := 0
  checkSum : Int := 0
  sq : Vector Nat 3 := Vector.replicate 3 0
  power : Vector Int 3 := Vector.replicate 3 0
  phaseSq : Nat := 0
  allSq : Nat := 0
  resSq : Nat := 0
  nSq : Nat := 0
  xnSq : Nat := 0
  deriving DecidableEq, Repr

/-- Power quality and tamper detection of a port. DEDUCED (log 24). -/
structure Pq where
  det : PqDet := {}
  unit : Unit12 := {}
  bypass : Persist := {}
  neutV : Persist := {}
  neutI : Persist := {}
  rev : Vector RevPol 3 := Vector.replicate 3 {}
  revPol : Bool := false
  revExport : Bool := false
  suspended : Bool := false
  mark : Bool := false
  bidir : Bool := false
  diff : Int := 0
  /-- Counts of REV_EXPORT, REV_POLARITY, BYPASS, NEUTRAL_V, NEUTRAL_I. -/
  counts : Vector Nat 5 := Vector.replicate 5 0
  ev : Vector Word 16 := Vector.replicate 16 0
  deriving DecidableEq, Repr

/-- A PQ event record (R319). -/
structure PqRec where
  seq : Nat
  source : Nat
  bytes : List Byte
  taken : Bool := false
  deriving DecidableEq, Repr

/-! ### Legal as a whole -/

/-- Why Legal does not meter or sign. -/
inductive LegalState where
  /-- Not yet started (before step 6). -/
  | starting
  | run
  | void
  deriving DecidableEq, Repr

/-- The unit-level state of Legal. DESIGN CHOICE (log 2). -/
structure Legal where
  state : LegalState := .starting
  /-- Index of the next frame to send (R224) and of the next sample to process (R258). -/
  idx : Nat := 0
  proc : Nat := 0
  run : Nat := 0
  wall : Option Wall := none
  clkFault : Bool := false
  clkBad : Nat := 0
  clkGood : Nat := 0
  pi : Vector PulseIn 2 := Vector.replicate 2 {}
  supply : Supply := {}
  opt : Opt := {}
  /-- Challenge and the legal µs of its issue (R303). -/
  challenge : Option (List Byte × Nat) := none
  site : PqDet := {}
  pqRing : List PqRec := []
  pqSeq : Nat := 0
  pqDropped : Nat := 0
  bilEv : Vector Word 16 := Vector.replicate 16 0
  pqEv : Vector Word 16 := Vector.replicate 16 0
  deriving DecidableEq, Repr

end Sys2Proof.Machine
end

