-- ==== Sys2Proof/Machine/StateMesh.lean ====
section
/-! DEFINITION. The state of the Glohar mesh on this unit (spec 17). Default field values are the reset values. -/

namespace Sys2Proof.Machine

/-- What a mesh frame carries (R450): KIND 1 to 6. -/
inductive MBody where
  | chain (f : TxFrame)
  | msync (origin : Nat) (corr : Int)
  | nbr (l : List (Nat × Nat))
  | tmap (gen : Nat) (seg : Fin 16) (x : ToneSeg)
  | phase (x : PhaseFrame)
  | delay (t1 : Nat)
  deriving DecidableEq, Repr

/-- A mesh frame that waits or is in the air. -/
structure MFrame where
  src : Nat
  dst : Nat
  hops : Nat := 6
  route : List Nat := []
  idx : Nat := 0
  seq : Nat
  /-- Retries made toward the next hop. -/
  tries : Nat := 0
  body : MBody
  deriving DecidableEq, Repr

/-- What this unit holds of another unit that it hears directly (R451, R452, R455, R457). -/
structure MshNbr where
  addr : Nat
  /-- Time of the first frame and of the last NBR frame decoded, and which of its last 5 NBR frames were, newest first. -/
  since : Nat
  lastNbr : Nat := 0
  hist : List Bool := []
  listed : Bool := false
  /-- Map toward it: generation in use, its segments, and the time it was last refreshed. -/
  gen : Option Nat := none
  segs : List ToneSeg := []
  refreshed : Nat := 0
  /-- The generation being received. -/
  newGen : Nat := 0
  newSegs : Vector (Option ToneSeg) 16 := Vector.replicate 16 none
  /-- The map this unit keeps for frames from it. -/
  rxGen : Nat := 0
  rxSegs : List ToneSeg := []
  /-- Unicast attempts toward it of the last 10 s: time, and whether each was acknowledged. -/
  tries : List (Nat × Bool) := []
  delay : Nat := 0
  /-- One map for every segment: its zero crossings are not known (R451). -/
  uniform : Bool := true
  deriving DecidableEq, Repr

/-- The phase result of a unit (R460). Classes: 0 unknown, 1 same, 2 lag 120, 3 lag 240. -/
structure PhaseRes where
  addr : Nat
  epoch : Nat := 0
  delta : Nat := 0
  cls : Nat := 0
  reversed : Bool := false
  rotation : Nat := 0
  a : Nat := 0
  b : Nat := 0
  c : Nat := 0
  stands : Bool := false
  /-- Class, REVERSED and rotation of the last result that stood. -/
  stood : Option (Nat × Bool × Nat) := none
  deriving DecidableEq, Repr

/-- The mesh. DESIGN CHOICE (log 2). -/
structure Msh where
  /-- The frames that wait, and the unicast frame that waits for its ACK. -/
  queue : List MFrame := []
  air : Option MFrame := none
  seq : Nat := 0
  /-- (SRC, SEQ, time) of broadcasts received (R455). -/
  seen : List (Nat × Nat × Nat) := []
  nbrs : List MshNbr := []
  /-- The newest NBR frame of each unit: address, and its list of neighbours and costs. -/
  tables : List (Nat × List (Nat × Nat)) := []
  /-- Head: addresses of mesh-only members. -/
  only : List Nat := []
  /-- Zero-crossing inputs: time of the last accepted edge, none while absent; SPL_ZC0 periods, newest first, at most 64. -/
  zc : Vector (Option Nat) 3 := Vector.replicate 3 none
  periods : List Nat := []
  /-- First edges since the start of the last epoch of R459. -/
  first : Vector (Option Nat) 3 := Vector.replicate 3 none
  /-- PHASE frame of the head as last heard, or sent. -/
  headPhase : Option PhaseFrame := none
  /-- PHASE frames as last heard, by address, this unit's own among them. -/
  raw : List (Nat × PhaseFrame) := []
  phases : List PhaseRes := []
  /-- This unit's own result. -/
  own : PhaseRes := { addr := 0 }
  /-- Counts of the 1 µs ticks at the last MSYNC. -/
  msyncAt : Option Nat := none
  meshTime : Bool := false
  mask : Bool := false
  tx : Nat := 0
  rx : Nat := 0
  errCrc : Nat := 0
  errAbandon : Nat := 0
  sleeping : Bool := false
  ev : Vector Word 16 := Vector.replicate 16 0
  deriving DecidableEq, Repr

end Sys2Proof.Machine
end

