-- ==== Sys2Proof/Machine/StateOut.lean ====
section
/-! DEFINITION. What the block sends out: one entry per message, frame or answer that leaves it, in the order
sent. The list is the model's own record of outputs; nothing in the block reads it. -/

namespace Sys2Proof.Machine

/-- What Legal reports to Service about a port (R14). -/
inductive LegalMsg where
  | creditWarn | creditOut | legalGap | sealed | reading
  deriving DecidableEq, Repr

/-- An output of the block. -/
inductive Out where
  /-- An MSI-X message of a guest on a vector (R70). -/
  | msix (g : Guest) (vector : Nat)
  /-- A completion with Unsupported Request or Completer Abort (R71). -/
  | unsupported (g : Guest)
  | completerAbort (g : Guest)
  /-- A configuration request answered with Request Retry Status (R51). -/
  | retryStatus (g : Guest)
  /-- A non-fatal error of a function reported under AER (R50). -/
  | aerNonFatal (g : Guest)
  /-- The data returned for a register read. -/
  | readData (path : Path) (g : Guest) (off : Nat) (w : Word)
  /-- A GLN read answered with 0xFFFF (R66, R71). -/
  | glnFFFF
  /-- Bytes written to a guest's ring buffers in host memory (R96). -/
  | ringData (g : Guest) (ring : Nat) (bytes : List Byte)
  /-- The 32 bytes written back to a descriptor of a guest's ring (R95, R96). -/
  | descriptor (g : Guest) (ring index : Nat) (bytes : List Byte)
  /-- A downstream frame on a sensor link: its index, and bits 4 to 255 in the order in which they are sent, after SYNC (R226). -/
  | sensorFrame (l : SLink) (n : Nat) (bits : List Bool)
  /-- A message of Legal to Service about a port (R14): its kind and value. -/
  | legalMsg (p : Port) (m : LegalMsg)
  /-- A pulse on an output, with its width in µs (R272). -/
  | pulse (p : Port) (width : Nat)
  /-- Bytes sent on the optical port (R304). -/
  | optical (bytes : List Byte)
  /-- The Cave writer's confirmation of a legal SEQ to Legal (R477). -/
  | caveConfirm (seq : Nat)
  /-- A command to the drive: 0 flush, 1 superblock, 2 controller reset (R482, R490, R492). -/
  | nvme (cmd : Nat)
  /-- A frame begun on a chain port, and its bytes in the order in which they go out (R420, R423). -/
  | chainFrame (k : ChPort) (f : TxFrame) (bytes : List Byte)
  /-- The bytes of a cut-through frame that was received with a failing CRC, ended with the complement of its correct one (R422). -/
  | chainBroken (k : ChPort) (bytes : List Byte)
  /-- A frame of the chain ended in progress under R413. -/
  | chainCut (k : ChPort)
  /-- The bytes of a frame on a power-module link, in the order in which they go out (R185 to R187). -/
  | pmFrame (l : PmIdx) (bytes : List Byte)
  /-- An applied set-point passed to Legal and Safety (R192). -/
  | applied (p : Port) (v i pw : Int)
  /-- A message to the vehicle: 0 stop, 1 authorisation refused, 2 maximum current, 3 failure of a certificate request,
  4 authorisation ongoing, 5 accepted, 6 CM_SLAC_PARM.CNF, 7 CM_ATTEN_CHAR.IND, 9 match refused, 10 SDP response with the
  transport security offered, 11 protocol chosen, 12 no common protocol, 14 CM_VALIDATE.CNF, 15 MeterInfo in mWh (R140 to R147,
  R158, R159, R169, R208). -/
  | toVehicle (p : Port) (kind : Nat) (value : Nat)
  /-- The response to a certificate request of the vehicle, as the backend supplied it (R147, R154). -/
  | certResponse (p : Port) (body : List Byte)
  /-- An APDU sent to the held card; an answer of the tag: its frames of part 3 and 4, and APDU responses (R559, R578). -/
  | apdu (bytes : List Byte)
  | tagFrame (bytes : List Byte)
  | tagAnswer (bytes : List Byte)
  /-- A mesh frame transmitted: next hop, map generation in use (none for ROBO), whether the mask is applied, what it carries,
  its frame control, its payload's bytes, and by how many dB each group of carriers is lowered (none: it sends nothing); and an
  ACK with its frame control (R449, R450, R453, R454). -/
  | meshFrame (hop : Nat) (gen : Option Nat) (coex : Bool) (f : MFrame) (fc : Nat) (bytes : List Byte) (groups : List (Option Nat))
  | meshAck (dst seq fc : Nat)
  /-- The 32 bytes of a message of Safety to Service (R349). -/
  | safeMsg (bytes : List Byte)
  /-- CM_SET_KEY to a port's modem, and CM_SLAC_MATCH.CNF for a RunID to the vehicle, with the network membership key and the
  network identifier (R140). -/
  | setKey (p : Port) (nmk nid : Nat)
  | slacMatch (p : Port) (run nmk nid : Nat)
  /-- A session open request of Service to Legal (R156). -/
  | openReq (p : Port)
  /-- The 32 bytes of a message of Service to Safety (R349). -/
  | svcMsg (bytes : List Byte)
  /-- A close notice or an open confirmation of Safety to Legal (R259, R352). -/
  | closeNotice (p : Port)
  | openConfirm (p : Port)
  deriving DecidableEq, Repr

end Sys2Proof.Machine
end

