-- ==== Sys2Proof/Machine/StatePwr.lean ====
section
/-! DEFINITION. The state of power delivery: ramps and run-ahead of a port, the power-module links, and the unit's
and the site's leases (spec 08). Default field values are the reset values. -/

namespace Sys2Proof.Machine

/-- PWR_STAT.STATE (R217). -/
inductive PwrState where
  | off | precharge | active | rampdown | halted | linkFault
  deriving DecidableEq, Repr

def PwrState.code : PwrState → Nat
  | .off => 0 | .precharge => 1 | .active => 2 | .rampdown => 3 | .halted => 4 | .linkFault => 5

/-- Why a current falls: it selects the slew of R193, step by step. -/
inductive FallCause where
  | vehicle | cap | degraded
  deriving DecidableEq, Repr

/-- A staged step at the converter (R187, R197): index, VALID_AT in ns, set-point and generation. -/
structure StagedStep where
  step : Nat
  validAt : Nat
  v : Int
  i : Int
  p : Int
  gen : Nat
  deriving DecidableEq, Repr

/-- A RECALL, HALT or ENABLE that waits for its ACK (R184). -/
structure AckWait where
  type : Nat
  w1 : Nat
  gen : Nat
  /-- SEQ of each copy sent, and the chain time of the first. -/
  seqs : List Nat
  at_ : Nat
  deriving DecidableEq, Repr

/-- The converter's LIMITS (R187). -/
structure Limits where
  vMax : Int := 0
  iMax : Int := 0
  iMin : Int := 0
  pMax : Int := 0
  pMin : Int := 0
  slewUp : Nat := 0
  slewDn : Nat := 0
  bidir : Bool := false
  deriving DecidableEq, Repr

/-- Power delivery on one port. DESIGN CHOICE (log 2). -/
structure Pwr where
  state : PwrState := .off
  gen : Nat := 0
  /-- The channel is enabled at the converter. -/
  enabled : Bool := false
  /-- What the vehicle asks for: voltage in 10 mV, current in mA, its limits and stated slews. -/
  vTgt : Int := 0
  iTgt : Int := 0
  vPre : Int := 0
  evSlewUp : Option Nat := none
  evSlewDn : Option Nat := none
  /-- The controlled end or a safe-degraded ramp holds the target at zero. -/
  toZero : Bool := false
  /-- The ramp to zero is that of safe-degraded (R205). -/
  degraded : Bool := false
  /-- The ramp limiter (R194). -/
  planned : Int := 0
  acc : Nat := 0
  lastFalling : Bool := false
  atSlew : Bool := false
  nextStep : Nat := 0
  /-- VALID_AT of the last planned step, in chain ns. -/
  lastAt : Nat := 0
  staged : List StagedStep := []
  /-- What waits for an ACK, oldest first. -/
  acks : List AckWait := []
  /-- A change waits for a replan (R199). -/
  replan : Bool := false
  /-- Last step reported applied (R192). -/
  applStep : Nat := 0
  vAppl : Int := 0
  iAppl : Int := 0
  pAppl : Int := 0
  /-- Current of the last step applied since ENABLE, from which a replan starts where none is committed. -/
  since : Int := 0
  vMeas : Int := 0
  iMeas : Int := 0
  flags : Nat := 0
  limits : Limits := {}
  /-- Port power cap in W (R215). -/
  cap : Nat := 0
  chargeCap : Nat := 0xFFFFFF
  dischargeCap : Nat := 0xFFFFFF
  dynTarget : Option Int := none
  prechargeDone : Bool := false
  /-- Want in W at the last division (R215), and whether AT_TARGET has been raised for the present target. -/
  wantAt : Nat := 0
  atTarget : Bool := true
  ev : Vector Word 16 := Vector.replicate 16 0
  deriving DecidableEq, Repr

/-- State of a power-module link (R218). -/
inductive PmState where
  | down | training | up | fault
  deriving DecidableEq, Repr

def PmState.code : PmState → Nat
  | .down => 0 | .training => 1 | .up => 2 | .fault => 3

/-- A power-module link: sequence numbers, delay estimate and counters (R185 to R190, R220). -/
structure PmLink where
  state : PmState := .down
  txSeq : Nat := 0
  rxSeq : Option Nat := none
  tx : Nat := 0
  rx : Nat := 0
  crcErr : Nat := 0
  /-- Chain times of the frames that failed R185 in the last 1 ms. -/
  bad : List Nat := []
  seqGap : Nat := 0
  recalls : Nat := 0
  repeats : Nat := 0
  /-- Sum and number of delay estimates since the last average, and LINK_DELAY in ns. -/
  estSum : Int := 0
  estN : Nat := 0
  delay : Int := 0
  faults : Nat := 0
  deriving DecidableEq, Repr

/-- STATE of PWR_LEASE_STAT (R218). -/
inductive LeaseState where
  | standalone | granted | floor | reduced
  deriving DecidableEq, Repr

def LeaseState.code : LeaseState → Nat
  | .standalone => 0 | .granted => 1 | .floor => 2 | .reduced => 3

/-- What the head knows of a unit from its reports (R210 to R213, R434 to R436). -/
structure UnitRep where
  addr : Nat
  /-- Epoch of the last report, and what it said. -/
  epoch : Nat
  rep : ReportFrame
  /-- Fence causes the head decided, and the grant. -/
  causes : Nat := 0
  kw : Nat := 0
  /-- Epoch at which the site items last sent to it apply (R431). -/
  heal : Nat := 0
  deriving DecidableEq, Repr

/-- The unit's lease, and on the head the site's. -/
structure Lease where
  lease : Nat := 0
  state : LeaseState := .standalone
  missed : Nat := 0
  /-- Grant received for the coming epoch. -/
  next : Option Nat := none
  epoch : Nat := 0
  /-- Temporary site limit in force. -/
  tmp : Option Nat := none
  /-- Chain time at which its stated duration ends. -/
  tmpEnd : Nat := 0
  overcommit : Bool := false
  /-- Head: reports and the number of epochs since this unit became head. -/
  reports : List UnitRep := []
  headEpochs : Nat := 0
  deriving DecidableEq, Repr

end Sys2Proof.Machine
end

