-- ==== Sys2Proof/Machine/StateSafety.lean ====
section
/-! DEFINITION. The state of Safety: the safety table (spec 13 R356 to R358, 14 R368), the site and its diagnostics
(13), the ports with their earth-fault functions and contactors (14), and the brakes. Default field values are the
reset values. -/

namespace Sys2Proof.Machine

/-! ### The safety table -/

/-- An input record (R357). -/
structure InRec where
  type : Nat := 0
  pair : Nat := 0
  testSrc : Nat := 0
  role : Nat := 0
  discMs : Nat := 0
  filterUs : Nat := 0
  manual : Bool := false
  deriving DecidableEq, Repr

/-- An output record (R357). -/
structure OutRec where
  type : Nat := 0
  dark : Bool := false
  deriving DecidableEq, Repr

/-- A trip matrix row (R358). DEDUCED (log 118). -/
structure RowRec where
  source : Nat := 0
  index : Nat := 0
  manual : Bool := false
  ports : Nat := 0
  outs : Nat := 0
  brakes : Nat := 0
  deriving DecidableEq, Repr

/-- A port record (R357) with its function parameters (R368). -/
structure PortRec where
  enable : Bool := false
  connType : Nat := 0
  tDeg : Nat := 0
  brake : Nat := 0
  auxPol : Nat := 0
  uRef : Nat := 0
  imdTrip : Nat := 0
  imdWarn : Nat := 0
  group : Nat := 0
  cLimit : Nat := 0
  rcmMode : Nat := 0
  resetMode : Nat := 0
  lockVerify : Nat := 0
  lockFilter : Nat := 0
  coilMin : Nat := 0
  coilMax : Nat := 0
  kDiv : Nat := 0
  weldHold : Nat := 0
  vProof : Nat := 0
  deriving DecidableEq, Repr

/-- A brake record (R368). -/
structure BrkRec where
  enable : Bool := false
  torqueOut : Nat := 0
  posIn : Nat := 0
  mode : Nat := 0
  settleMs : Nat := 0
  testMs : Nat := 0
  deriving DecidableEq, Repr

/-- A safety table (R356). DEDUCED (log 116). -/
structure SafTable where
  remoteReset : Bool := false
  integrator : List Byte := List.replicate 16 0
  validation : List Byte := List.replicate 16 0
  version : Nat := 0
  ports : Vector PortRec 8 := Vector.replicate 8 {}
  inputs : Vector InRec 16 := Vector.replicate 16 {}
  outputs : Vector OutRec 8 := Vector.replicate 8 {}
  rows : Vector RowRec 64 := Vector.replicate 64 {}
  brakes : Vector BrkRec 2 := Vector.replicate 2 {}
  deriving DecidableEq, Repr

/-! ### The site -/

/-- STATE of SAF_SITE_STAT (R351, R363). -/
inductive SiteState where
  | init | run | degraded | safeStop | restarting | safeHalt | tableFail
  deriving DecidableEq, Repr

def SiteState.code : SiteState → Nat
  | .init => 0 | .run => 1 | .degraded => 2 | .safeStop => 3 | .restarting => 4 | .safeHalt => 5 | .tableFail => 6

/-- A SAFE_IN (R344, R347): filtered level, its fault latch, whether its own test pattern fails, the safety time since
which the fault's cause is absent and since which it is high. DEDUCED (log 117). -/
structure SafeIn where
  level : Bool := false
  fault : Bool := false
  badPattern : Bool := false
  okSince : Option Nat := none
  highSince : Nat := 0
  deriving DecidableEq, Repr

/-- A trip matrix row (R347, R358): latched, and the safety time since which its source is out of demand. -/
structure SafeRow where
  latched : Bool := false
  since : Option Nat := none
  deriving DecidableEq, Repr

/-- A trip log entry (R360). -/
structure TripEntry where
  seq : Nat
  time : Nat
  kind : Nat
  source : Nat
  ports : Nat := 0
  outs : Nat := 0
  detail : Nat := 0
  deriving DecidableEq, Repr

/-- A restart in progress (R355): the port, none for the site, and the command that waits for its notice. -/
structure Restart where
  port : Option Port
  cmd : Option Req
  deriving DecidableEq, Repr

/-- A message of Safety to Service (R349): type, port (0xFF the site), sequence number and payload words. -/
structure SafMsg where
  type : Nat
  port : Nat
  seq : Nat
  ws : List Word
  deriving DecidableEq, Repr

/-- The site's safety state. DESIGN CHOICE (log 2). DEDUCED (log 116, 117). -/
structure Saf where
  state : SiteState := .init
  /-- The safety tables of banks A and B. -/
  tables : Vector SafTable 2 := Vector.replicate 2 {}
  /-- The first offset at which a bank's table fails validation, none where it passes (R359): an empty bank has no FORMAT. -/
  fails : Vector (Option Nat) 2 := Vector.replicate 2 (some 0)
  /-- SAF_DIAG: code and first failing offset; CAUSE of SAF_SITE_STAT. -/
  diag : Nat := 0
  failAt : Nat := 0
  cause : Nat := 0
  /-- The diagnostic faults that are present now (R355): code, and the comparator or driver concerned. -/
  present : List (Nat × Nat) := []
  haltLock : Bool := false
  /-- Safety time of each SAFE_HALT of the last 24 h. -/
  halts : List Nat := []
  serviceLost : Bool := true
  /-- The drive die's enable line is active (R337). -/
  enable : Bool := false
  /-- A watchdog question is open, by the safety time of its asking (R340). -/
  question : Option Nat := none
  /-- The safe wires act: from step 3 of the start-up (R35). -/
  wires : Bool := false
  inputs : Vector SafeIn 16 := Vector.replicate 16 {}
  rows : Vector SafeRow 64 := Vector.replicate 64 {}
  /-- SAFE_OUT: requests held, commanded, read back, faults and consecutive read-back failures (R340, R363). -/
  requests : Nat := 0
  outs : Nat := 0
  readBack : Nat := 0
  outFault : Nat := 0
  outMiss : Vector Nat 8 := Vector.replicate 8 0
  ecc : Nat := 0
  restarts : Nat := 0
  forced : Nat := 0
  restart : Option Restart := none
  log : List TripEntry := []
  logSeq : Nat := 0
  /-- Sequence number of the messages to Service (R349). -/
  txSeq : Nat := 0
  /-- Messages that wait in the channel to Service, oldest first, those dropped (R108), and the safety time of the last repeated
  status. -/
  chan : List SafMsg := []
  dropped : Nat := 0
  statusAt : Nat := 0
  /-- SAF_SITE_STAT as last sent (R349). -/
  shown : Word := 0
  /-- Per bus group: the injector, the network's last result and the half-periods since the slot passed (R374). -/
  injector : Vector (Option Port) 8 := Vector.replicate 8 none
  netR : Vector (Option Nat) 8 := Vector.replicate 8 none
  netC : Vector Nat 8 := Vector.replicate 8 0
  slotAt : Vector Nat 8 := Vector.replicate 8 0
  ev : Vector Word 16 := Vector.replicate 16 0
  brkEv : Vector Word 16 := Vector.replicate 16 0
  deriving DecidableEq, Repr

/-! ### A port -/

/-- STATE of SAF_PORT_STAT (R352, R364). -/
inductive PortState where
  | open_ | closing | closed | opening | tripped | contactorFault | blocked
  deriving DecidableEq, Repr

def PortState.code : PortState → Nat
  | .open_ => 0 | .closing => 1 | .closed => 2 | .opening => 3 | .tripped => 4 | .contactorFault => 5 | .blocked => 6

/-- What Safety last read at a port: nothing energised, no current, contacts open. -/
def restSense : PortSense :=
  { aux := Vector.replicate 2 false, across := Vector.replicate 2 0, coil := Vector.replicate 2 0 }

/-- The pre-close test in progress (R375): usable results (ohm, none above range; nF), newest last, whether its
minimum length has ended, and the further half-periods since. -/
structure PreClose where
  results : List (Option Nat × Nat) := []
  late : Bool := false
  extra : Nat := 0
  deriving DecidableEq, Repr

/-- The phase of a weld test on one contactor (R383). -/
inductive WeldPhase where
  | close | hold | open_
  deriving DecidableEq, Repr

/-- A self-test that runs on a port (R383), with the command that waits for its notice. -/
structure PortTest where
  code : Nat
  cmd : Option Req := none
  /-- Weld test: contactor and phase. -/
  weldK : Fin 2 := 0
  weldPhase : WeldPhase := .close
  deriving DecidableEq, Repr

/-- A port of Safety. -/
structure SafPort where
  state : PortState := .open_
  /-- SAF_PORT_STAT and SAF_PORT_TRIP as last sent (R349). -/
  shown : Word × Nat := (0, 0)
  /-- The safety current (R339): its value in mA, the sum of the high path's bits since the last refresh with their number, and the
  safety time of that refresh. -/
  current : Option Int := none
  curSum : Int := 0
  curN : Nat := 0
  curAt : Nat := 0
  /-- SAF_PORT_TRIP and LAST_CAUSE (R364). -/
  causes : Nat := 0
  last : Nat := 0
  mismatch : Bool := false
  forcedOpen : Bool := false
  /-- A window runs (R353), with its I_0, none where it was unknown. -/
  window : Option (Option Int) := none
  /-- Drive of the two coils. -/
  coils : Vector Bool 2 := Vector.replicate 2 false
  /-- Output fault of each coil driver, and consecutive read-back failures (R340). -/
  coilFault : Vector Bool 2 := Vector.replicate 2 false
  coilMiss : Vector Nat 2 := Vector.replicate 2 0
  /-- The contactors are confirmed open (R165), and the safety time of coil drive off. -/
  confirmed : Bool := true
  offAt : Nat := 0
  openMs : Nat := 0
  /-- V_PROOF reached since coil drive off, and WELD_V_PROVEN of the last opening (R378). -/
  proofSeen : Bool := false
  weldProven : Bool := false
  sense : PortSense := restSense
  /-- PE continuity (R371): PE_OK, agreeing periods against it, and whether CP class A is what Safety sees. -/
  peOk : Bool := false
  peRun : Nat := 0
  unplugged : Bool := true
  /-- Insulation (R372 to R375): last result, consecutive low results, WARN and the results at or above it. -/
  rIso : Option Nat := none
  cE : Nat := 0
  measured : Bool := false
  low : Nat := 0
  warn : Bool := false
  warnClear : Nat := 0
  belowTrip : Bool := false
  capHigh : Bool := false
  groupTrip : Bool := false
  location : Nat := 0
  locate : Nat := 0
  pass : Bool := false
  contaminated : Bool := false
  pre : Option PreClose := none
  /-- The pre-close test of this session failed. -/
  preFail : Bool := false
  /-- Safety time since which the cause of an IMD or RCM latch is absent (R377). -/
  imdOk : Option Nat := none
  rcmOk : Option Nat := none
  /-- Lock (R380): the lock is verified. -/
  lockVerified : Bool := false
  /-- Self-tests (R383): in progress, last, ages as safety times of the last pass, INS_FAIL, WELD_DUE and the weld test's failure. -/
  test : Option PortTest := none
  lastTest : Nat := 0
  lastResult : Nat := 0
  insAt : Nat := 0
  weldAt : Nat := 0
  brakeAt : Nat := 0
  insFail : Bool := false
  weldDue : Bool := false
  weldFail : Bool := false
  /-- Tests asked for while a session was open, with their commands (R175). -/
  deferred : List (Nat × Option Req) := []
  ev : Vector Word 16 := Vector.replicate 16 0
  imdEv : Vector Word 16 := Vector.replicate 16 0
  deriving DecidableEq, Repr

/-! ### A brake -/

/-- Phases of a brake test (R382): before torque, torque settling, supervised, and after torque. -/
inductive BrakePhase where
  | settle | torque | supervise | release
  deriving DecidableEq, Repr

/-- A brake (R381, R382, R386). -/
structure Brake where
  /-- BRKb energised: released. -/
  released : Bool := false
  /-- A release request is held. -/
  held : Bool := false
  fault : Bool := false
  passSince : Bool := false
  phase : Option BrakePhase := none
  /-- The RELEASE_BRAKE or RUN_BRAKE_TEST that waits for the test, and whether a release follows a pass. -/
  cmd : Option Req := none
  thenRelease : Bool := false
  /-- Level of POS_IN at the start of supervision, its start and when it changed, in safety time. -/
  pos : Bool := false
  superviseAt : Nat := 0
  outMiss : Nat := 0
  outFault : Bool := false
  deriving DecidableEq, Repr

end Sys2Proof.Machine
end

