-- ==== Sys2Proof/Machine/StateSes.lean ====
section
/-! DEFINITION. The session engine's state of a port (spec 07). Default field values are the reset values. -/

namespace Sys2Proof.Machine

/-- SES_STAT.STATE (R162, R177). -/
inductive SesState where
  | idle | plugged | authorising | preparing | closing | charging | paused | rampdown | opening | sealing | ended
  | faulted | off
  deriving DecidableEq, Repr

def SesState.code : SesState → Nat
  | .idle => 0 | .plugged => 1 | .authorising => 2 | .preparing => 3 | .closing => 4 | .charging => 5
  | .paused => 6 | .rampdown => 7 | .opening => 8 | .sealing => 9 | .ended => 10 | .faulted => 11 | .off => 12

/-- A decision to authorise (R159 to R161, R179). -/
structure Decision where
  source : Nat
  billed : Bool
  hostRef : Nat := 0
  creditE : Nat := 0
  creditT : Nat := 0
  ident : List Byte := []
  deriving DecidableEq, Repr

/-- How far preparation has come (R163): lock, then insulation test, then precharge. -/
inductive PrepStage where
  | lock | insulation | precharge | ready
  deriving DecidableEq, Repr

/-- The session engine on one port. DESIGN CHOICE (log 2). DEDUCED (log 64). -/
structure Ses where
  state : SesState := .off
  endClass : Nat := 0
  endCause : Nat := 0
  /-- Cause and billing of the open or last session. -/
  decision : Option Decision := none
  preauth : Option (Decision × Guest) := none
  /-- The decision for which Legal is asked to open a session. -/
  asked : Option Decision := none
  /-- The session was rebuilt after a reset of Service (R171). -/
  restarted : Bool := false
  /-- A session open request waits for Legal's acknowledgement, and the AUTHORISE_SESSION it answers. -/
  openReq : Bool := false
  authCmd : Option Req := none
  /-- Legal has the session open (R156), or it runs unbilled under a VOID Legal (R161). -/
  sesOpen : Bool := false
  voidRun : Bool := false
  sesNo : Nat := 0
  ending : Bool := false
  rampTimeout : Bool := false
  escalated : Bool := false
  sealDeferred : Bool := false
  prep : PrepStage := .lock
  /-- The vehicle has asked for the cable check, and Service has asked Safety for the insulation test (R163). -/
  cableCheck : Bool := false
  insAsked : Bool := false
  /-- The session resumed from PAUSED: the insulation test is not repeated. -/
  resumed : Bool := false
  /-- Main-head current in mA as Legal last reported it, and I_END of the ramp-down (R169). -/
  current : Int := 0
  iEnd : Nat := 5000
  /-- LINK_LOST waits for its 2 s (R168). -/
  linkLost : Bool := false
  /-- Legal's credit state as reported: WARN of the energy and of the time credit (R173, R174). -/
  warnE : Bool := false
  warnT : Bool := false
  overE : Nat := 0
  /-- Session import and export as Legal last reported them. -/
  imp : Nat := 0
  exp : Nat := 0
  /-- Legal-clock seconds of the last ended session, open and closed (R179). -/
  openS : Nat := 0
  closedS : Nat := 0
  openedAt : Nat := 0
  stopCmds : List Req := []
  /-- SES_AVAIL [7:0] as last shown, for AVAIL_CHANGE. -/
  availShown : Nat := 0x0E
  /-- The 1 ms step in which the end began, and the rank of its trigger (R164). -/
  endStep : Nat := 0
  endRank : Nat := 0
  /-- The unlock of R167 waits for Safety's open confirmation (R171). -/
  unlockDue : Bool := false
  /-- Chip reset: the session that was open is rebuilt at step 8 (R171). -/
  rebuild : Bool := false
  ev : Vector Word 16 := Vector.replicate 16 0
  deriving DecidableEq, Repr

end Sys2Proof.Machine
end

