-- ==== Sys2Proof/Machine/StateStore.lean ====
section
/-! DEFINITION. The two journals, the Cave writer and the drive (spec 18). Default field values are the reset
values. -/

namespace Sys2Proof.Machine

/-- Content of a save record (R277, R290). -/
structure SaveRec where
  early : Bool
  idx : Nat
  a : Int
  slot : Nat
  reg : Nat
  tot : Nat
  sesImp : Nat
  sesExp : Nat
  ses : Nat
  pAcc : Int
  pend : Nat
  b : Nat
  ivIdx : Nat
  ivDig : List Byte
  /-- The port was metering, and the real-time counter, at the save (R278). -/
  metering : Bool
  rtc : Nat
  deriving DecidableEq, Repr

/-- A complete journal record (R470): TYPE, SEQ, payload length, HELD, the port or other source it belongs to, the
key under which it is looked for, its payload where the payload leaves the journal, and a save's content. -/
structure JRec where
  type : Nat
  seq : Nat := 0
  len : Nat
  held : Bool := false
  src : Nat := 0xFF
  key : Nat := 0
  data : List Byte := []
  save : Option SaveRec := none
  deriving DecidableEq, Repr

/-- Length of a record in the journal: header, payload, CRC and padding (R470). -/
def JRec.size (r : JRec) : Nat := roundUp (20 + r.len) 8

/-- HALF and COMPLETE as the factory writes them (R473). The payload length of COMPLETE is the generation and the
number of records copied, four bytes each. -/
def JRec.half : JRec := { type := 0x01, len := 12 }
def JRec.complete : JRec := { type := 0x02, len := 8 }

/-- A journal: the records of the active half in order, and a Ripening run (R469 to R476). DESIGN CHOICE (log 156). -/
structure Journal where
  recs : List JRec := [.half, .complete]
  seq : Nat := 0
  activeHalf : Nat := 0
  gen : Nat := 1
  /-- A run in progress: the records it copied, and the SEQ of the active half when it started. -/
  run : Option (List JRec × Nat) := none
  /-- A run waits for early-warning saves to stop. -/
  deferred : Bool := false
  standbyClean : Bool := true
  ripenings : Nat := 0
  torn : Nat := 0
  deriving DecidableEq, Repr

/-- Bytes used in the active half. -/
def Journal.used (j : Journal) : Nat := (j.recs.map JRec.size).sum

/-- The journals as a whole. DESIGN CHOICE (log 156). DEDUCED (log 157). -/
structure Jnl where
  legal : Journal := {}
  conf : Journal := {}
  /-- Highest legal SEQ that the Cave confirmed, and the CAVE_ACK that records it (R477). -/
  confirmed : Nat := 0
  acked : Nat := 0
  holdHigh : Bool := false
  holdMax : Bool := false
  ev : Vector Word 16 := Vector.replicate 16 0
  deriving DecidableEq, Repr

/-- STATE of CAV_STAT (R495). -/
inductive CaveState where
  | disabled | absent | init | ready | foreign | blank | full | fault
  deriving DecidableEq, Repr

def CaveState.code : CaveState → Nat
  | .disabled => 0 | .absent => 1 | .init => 2 | .ready => 3 | .foreign => 4 | .blank => 5 | .full => 6 | .fault => 7

/-- Whose format the superblocks of the drive bear (R482). -/
inductive DriveFormat where
  | blank | own | foreign
  deriving DecidableEq, Repr

/-- The drive at STOR: namespace size in bytes, what its superblocks say, SMART values. -/
structure Drive where
  size : Nat
  format : DriveFormat
  temp : Nat := 0
  used : Nat := 0
  warning : Bool := false
  deriving DecidableEq, Repr

/-- A Cave record (R483): KIND, SOURCE, CAVE_SEQ, payload, the key of FIND_CAVE_RECORD, and for a legal record its
legal SEQ, for an absence record its head and run. -/
structure CaveRec where
  kind : Nat
  source : Nat := 0xFF
  seq : Nat := 0
  data : List Byte := []
  key : Nat := 0
  legalSeq : Nat := 0
  head : Nat := 0
  run : Nat := 0
  deriving DecidableEq, Repr

/-- Length of a record in the Cave. -/
def CaveRec.size (r : CaveRec) : Nat := roundUp (20 + r.data.length) 8

/-- A block of samples of one head (R486), with its number within the run (continuous) or window. -/
structure Blk336 where
  head : Nat
  /-- Slot of the Waveform region (R487). -/
  slot : Nat := 0
  window : Bool := false
  num : Nat
  first : Nat
  run : Nat
  gen : Nat
  flags : Nat := 0
  valid : List Bool := []
  data : List Byte := []
  deriving DecidableEq, Repr

/-- An entry of the write queue (R490). -/
inductive QItem where
  | legal (r : CaveRec)
  | other (r : CaveRec)
  | block (b : Blk336)
  deriving DecidableEq, Repr

def QItem.size : QItem → Nat
  | .legal r => r.size
  | .other r => r.size
  | .block _ => 4096

/-- A full-rate window in progress (R489): number, source, trigger kind, first full-rate index, and the index at
which it ends. -/
structure Win where
  num : Nat
  source : Nat
  trigger : Nat
  first : Nat
  last : Nat
  /-- Shedding ended it (R491). -/
  truncated : Bool := false
  deriving DecidableEq, Repr

/-- A full-rate sample of a head in the ring: its index, and its four channels where it is valid (R489). -/
structure RingS where
  n : Nat
  x : Option (Vector Int 4)
  deriving DecidableEq, Repr

/-- The Cave. -/
structure Cave where
  state : CaveState := .init
  drive : Option Drive := none
  gen : Nat := 0
  recs : List CaveRec := []
  recUsed : Nat := 0
  /-- Entries of the Index region, 128 bytes each, one for each chunk of the Records region that has filled (R484). -/
  index : List (List Byte) := []
  nextSeq : Nat := 0
  /-- Highest legal SEQ in the Records region (R493). -/
  legalSeq : Nat := 0
  blocks : List Blk336 := []
  windows : List Win := []
  window : Nat := 0
  /-- Where the next window goes in the Windows region. -/
  winPos : Nat := 0
  /-- The newest 200 ms of full-rate samples of each head, newest first (R489). -/
  ring : Vector (List RingS) 24 := Vector.replicate 24 []
  open_ : List Win := []
  /-- Records that sources offer and the queue has no room for yet, in order. -/
  offered : List CaveRec := []
  queue : List QItem := []
  /-- 0 none, 1 continuous, 2 continuous and windows (R491). -/
  shed : Nat := 0
  shedCount : Nat := 0
  winRefused : Nat := 0
  paused : Bool := false
  /-- Waveform base of the run and saved position (R487), update count of the superblocks. -/
  p0 : Nat := 0
  pos : Nat := 0
  saved : Nat := 0
  updates : Nat := 0
  resets : Nat := 0
  resetFails : Nat := 0
  /-- Spans of samples not written, per head: first and last index, and cause (R488). -/
  absent : Vector (Option (Nat × Nat × Nat)) 24 := Vector.replicate 24 none
  ev : Vector Word 16 := Vector.replicate 16 0
  deriving DecidableEq, Repr

end Sys2Proof.Machine
end

