-- ==== Sys2Proof/Machine/StateVeh.lean ====
section
/-! DEFINITION. The state of a vehicle port's Service side: CP, PP, the vehicle link, Plug & Charge and the
cable lock (spec 06). Default field values are the reset values. -/

namespace Sys2Proof.Machine

/-- CP_STATE of VP_STAT (R151). -/
inductive CpState where
  | a | b | c | d | e | f | invalid
  deriving DecidableEq, Repr

def CpState.code : CpState → Nat
  | .a => 0 | .b => 1 | .c => 2 | .d => 3 | .e => 4 | .f => 5 | .invalid => 6

/-- PP_CODE of VP_STAT (R135, R151). -/
inductive PpCode where
  | absent | a13 | a20 | a32 | a63 | present | invalid
  deriving DecidableEq, Repr

def PpCode.code : PpCode → Nat
  | .absent => 0 | .a13 => 1 | .a20 => 2 | .a32 => 3 | .a63 => 4 | .present => 5 | .invalid => 6

/-- LINK_STATE of VP_STAT (R137, R151). -/
inductive LinkState where
  | off | idle | plugged | matching | linked | connected | basic | retry | fault
  deriving DecidableEq, Repr

def LinkState.code : LinkState → Nat
  | .off => 0 | .idle => 1 | .plugged => 2 | .matching => 3 | .linked => 4 | .connected => 5 | .basic => 6
  | .retry => 7 | .fault => 8

/-- What the CP generator drives (R129, R133, R134). -/
inductive CpDrive where
  /-- Constant +12 V, PWM off. -/
  | high
  /-- PWM at 5 %, high-level communication. -/
  | hlc
  /-- PWM at a nominal duty in 0.1 %. -/
  | nominal (duty : Nat)
  /-- Constant −12 V. -/
  | f
  deriving DecidableEq, Repr

/-- CP sensing (R130 to R132). -/
structure Cp where
  state : CpState := .a
  hi : Int := 0
  lo : Int := 0
  /-- Class of the last periods and how many agree. -/
  cand : CpState := .a
  agree : Nat := 0
  /-- The last period fell in the gap. -/
  gap : Bool := false
  diodeOk : Bool := false
  diodeIn : Nat := 0
  diodeOut : Nat := 0
  drive : CpDrive := .f
  /-- The drive went to F within the PWM period in progress, whose plateaus are those of the drive before (R138). -/
  fNow : Bool := false
  deriving DecidableEq, Repr

/-- PP sensing (R135). -/
structure Pp where
  code : PpCode := .absent
  cand : PpCode := .absent
  agree : Nat := 0
  deriving DecidableEq, Repr

/-- SLAC on a port (R140 to R142). -/
structure Slac where
  /-- RunID of the match in progress. -/
  run : Option Nat := none
  /-- Attenuations of the sounds received, in dB. -/
  sounds : List Nat := []
  /-- CM_ATTEN_CHAR.IND sent on this port. -/
  indSent : Bool := false
  /-- CM_VALIDATE is required before the match, and has succeeded (R142). -/
  needValidate : Bool := false
  validated : Bool := false
  /-- The match request was answered and CM_SET_KEY sent to the local modem. -/
  keySent : Bool := false
  /-- The RunID left to a sibling: its match request is refused. -/
  refused : Option Nat := none
  /-- RunID of the match that stands, and its attenuation. -/
  matched : Option Nat := none
  atten : Nat := 0
  /-- Network membership key of the match, a random draw, and the network identifier derived from it (R140). -/
  nmk : Nat := 0
  nid : Nat := 0
  /-- CP has been B, C or D for longer than SLAC_INIT (R141). -/
  initOver : Bool := false
  deriving DecidableEq, Repr

/-- What the vehicle presented under Plug & Charge and the results of the checks (R146, R153). -/
structure Contract where
  presented : Bool := false
  checking : Bool := false
  ready : Bool := false
  emaid : List Byte := []
  chainOk : Bool := false
  sigOk : Bool := false
  usageOk : Bool := false
  expired : Bool := false
  timeUnchecked : Bool := false
  root : Nat := 0
  tag : Nat := 0
  deriving DecidableEq, Repr

/-- LOCK of VP_STAT (R148, R151). -/
inductive LockState where
  | none | unlocked | locking | locked | unlocking | fault
  deriving DecidableEq, Repr

def LockState.code : LockState → Nat
  | .none => 0 | .unlocked => 1 | .locking => 2 | .locked => 3 | .unlocking => 4 | .fault => 5

/-- Phase of a lock or unlock drive (R148). -/
inductive LockPhase where
  | idle | pulse | feedback | pause
  deriving DecidableEq, Repr

/-- Cable lock as Service drives and reads it (R148, R149). -/
structure Lock where
  state : LockState := .unlocked
  phase : LockPhase := .idle
  /-- Direction wanted: true to lock. -/
  target : Bool := false
  attempt : Nat := 0
  /-- The drive stops at the end of its pulse (R149). -/
  stopping : Bool := false
  /-- A lock or unlock of the session engine that waits for the drive in progress. -/
  next : Option Bool := none
  /-- Feedback contact closed. -/
  fbClosed : Bool := false
  /-- The DRIVE_LOCK that waits for its final notice. -/
  cmd : Option Req := none
  deriving DecidableEq, Repr

/-- A pending vehicle certificate request (R147). -/
structure CertReq where
  body : List Byte := []
  pending : Bool := false
  /-- The 4.5 s have passed and the vehicle was answered with failure. -/
  late : Bool := false
  /-- A second request replaced one that the host may still answer. -/
  replaced : Bool := false
  deriving DecidableEq, Repr

/-- Frames sent and received and PLC retransmissions since link up (R153). -/
structure LinkStats where
  tx : Nat := 0
  rx : Nat := 0
  retrans : Nat := 0
  deriving DecidableEq, Repr

/-- A vehicle port. DESIGN CHOICE (log 2, 69). DEDUCED (log 66). -/
structure Veh where
  link : LinkState := .off
  cp : Cp := {}
  pp : Pp := {}
  slac : Slac := {}
  retries : Nat := 0
  protocol : Nat := 0
  mode : Nat := 0
  dynamic : Bool := false
  tls : Bool := false
  /-- SDP answered on this port since LINKED (R144). -/
  sdp : Bool := false
  evccid : Nat := 0
  linkUpAt : Nat := 0
  stats : LinkStats := {}
  /-- A FAULT trigger of the PWM period in progress, and the copies of VP_EVENT at its start (R138). -/
  faultNow : Bool := false
  evWas : Vector Word 16 := Vector.replicate 16 0
  /-- SET_AC_CURRENT's value, in 0.1 A, none until one is given in this BASIC. -/
  acCmd : Option Nat := none
  /-- The PWM is held off in BASIC: no authorisation, or a controlled end (R157, R169). -/
  pwmHeld : Bool := false
  evVmax : Nat := 0
  evImax : Nat := 0
  evPmax : Nat := 0
  evPdis : Int := 0
  contract : Contract := {}
  cert : CertReq := {}
  lock : Lock := {}
  /-- PWM off for 3 s before BASIC (R137). -/
  fallback : Bool := false
  /-- RESET_PORT commands that wait for the two-step reset (R32). -/
  resetCmds : List Req := []
  resetting : Bool := false
  ev : Vector Word 16 := Vector.replicate 16 0
  deriving DecidableEq, Repr

end Sys2Proof.Machine
end

