-- ==== Sys2Proof/Machine/State.lean ====
section
/-! DEFINITION. The state of the CH8128 as plain data, its reset, and the reasons a step can stop. -/

namespace Sys2Proof.Machine

/-- Why a command stops the block: none does; every fault of the CH8128 is a state it goes on in. DESIGN CHOICE (log 6). -/
inductive Fault where
  /-- Raised by no meaning: kept so that the type is inhabited. Safe. -/
  | none
  deriving DecidableEq, Repr

/-- Why a command has no meaning. DESIGN CHOICE (log 6). -/
inductive Refusal where
  /-- Raised by exec's arm of a command without a meaning, by its mnemonic. Safe: nothing is claimed of it. -/
  | notModelled (mnemonic : String)
  deriving DecidableEq, Repr

/-- The state of the block. DESIGN CHOICE (log 1, 9). -/
structure State where
  sys : Sys := {}
  time : Time := {}
  host : HostSt := {}
  conf : CfgSt := {}
  veh : Vector Veh 8 := Vector.replicate 8 {}
  ses : Vector Ses 8 := Vector.replicate 8 {}
  pwr : Vector Pwr 8 := Vector.replicate 8 {}
  pm : Vector PmLink 2 := Vector.replicate 2 {}
  lease : Lease := {}
  legal : Legal := {}
  sl : Vector SLinkSt 24 := Vector.replicate 24 {}
  met : Vector Met 8 := Vector.replicate 8 {}
  nrg : Vector Nrg 8 := Vector.replicate 8 {}
  bil : Vector Bil 8 := Vector.replicate 8 {}
  pq : Vector Pq 8 := Vector.replicate 8 {}
  jnl : Jnl := {}
  cave : Cave := {}
  rind : Rind := {}
  keys : Keys := {}
  fw : Upd := {}
  saf : Saf := {}
  sp : Vector SafPort 8 := Vector.replicate 8 {}
  brk : Vector Brake 2 := Vector.replicate 2 {}
  ls : Ls := {}
  lk : Vector Lk 8 := Vector.replicate 8 {}
  chn : Chn := {}
  msh : Msh := {}
  nfc : Nfc := {}
  dsp : Dsp := {}
  /-- What the block has sent. -/
  sent : List Out := []
  /-- The model's own index of the next free value. -/
  free : Nat := 0
  /-- Commands that wait, first in, first out. -/
  pending : List Instr := []
  deriving DecidableEq, Repr

/-- DESIGN CHOICE (log 2, 4, 27). -/
def State.reset : State := {}

end Sys2Proof.Machine
end

