-- ==== Sys2Proof/Machine/Fields.lean ====
section
/-! DEFINITION. One updater per part of the state: every effect on the state is a chain of these. -/

namespace Sys2Proof.Machine

/-- Change sys. -/
def State.modSys (s : State) (f : Sys → Sys) : State := { s with sys := f s.sys }

/-- Change time. -/
def State.modTime (s : State) (f : Time → Time) : State := { s with time := f s.time }

/-- Change host. -/
def State.modHost (s : State) (f : HostSt → HostSt) : State := { s with host := f s.host }

/-- Change conf. -/
def State.modConf (s : State) (f : CfgSt → CfgSt) : State := { s with conf := f s.conf }

/-- Entry i of veh. -/
def State.vehAt (s : State) (i : Port) : Veh := ix s.veh i

/-- Change entry i of veh. -/
def State.modVeh (s : State) (i : Port) (f : Veh → Veh) : State := { s with veh := upd s.veh i f }

/-- Entry i of ses. -/
def State.sesAt (s : State) (i : Port) : Ses := ix s.ses i

/-- Change entry i of ses. -/
def State.modSes (s : State) (i : Port) (f : Ses → Ses) : State := { s with ses := upd s.ses i f }

/-- Entry i of pwr. -/
def State.pwrAt (s : State) (i : Port) : Pwr := ix s.pwr i

/-- Change entry i of pwr. -/
def State.modPwr (s : State) (i : Port) (f : Pwr → Pwr) : State := { s with pwr := upd s.pwr i f }

/-- Entry i of pm. -/
def State.pmAt (s : State) (i : Fin 2) : PmLink := ix s.pm i

/-- Change entry i of pm. -/
def State.modPm (s : State) (i : Fin 2) (f : PmLink → PmLink) : State := { s with pm := upd s.pm i f }

/-- Change lease. -/
def State.modLease (s : State) (f : Lease → Lease) : State := { s with lease := f s.lease }

/-- Change legal. -/
def State.modLegal (s : State) (f : Legal → Legal) : State := { s with legal := f s.legal }

/-- Entry i of sl. -/
def State.slAt (s : State) (i : SLink) : SLinkSt := ix s.sl i

/-- Change entry i of sl. -/
def State.modSl (s : State) (i : SLink) (f : SLinkSt → SLinkSt) : State := { s with sl := upd s.sl i f }

/-- Entry i of met. -/
def State.metAt (s : State) (i : Port) : Met := ix s.met i

/-- Change entry i of met. -/
def State.modMet (s : State) (i : Port) (f : Met → Met) : State := { s with met := upd s.met i f }

/-- Entry i of nrg. -/
def State.nrgAt (s : State) (i : Port) : Nrg := ix s.nrg i

/-- Change entry i of nrg. -/
def State.modNrg (s : State) (i : Port) (f : Nrg → Nrg) : State := { s with nrg := upd s.nrg i f }

/-- Entry i of bil. -/
def State.bilAt (s : State) (i : Port) : Bil := ix s.bil i

/-- Change entry i of bil. -/
def State.modBil (s : State) (i : Port) (f : Bil → Bil) : State := { s with bil := upd s.bil i f }

/-- Entry i of pq. -/
def State.pqAt (s : State) (i : Port) : Pq := ix s.pq i

/-- Change entry i of pq. -/
def State.modPq (s : State) (i : Port) (f : Pq → Pq) : State := { s with pq := upd s.pq i f }

/-- Change jnl. -/
def State.modJnl (s : State) (f : Jnl → Jnl) : State := { s with jnl := f s.jnl }

/-- Change cave. -/
def State.modCave (s : State) (f : Cave → Cave) : State := { s with cave := f s.cave }

/-- Change rind. -/
def State.modRind (s : State) (f : Rind → Rind) : State := { s with rind := f s.rind }

/-- Change keys. -/
def State.modKeys (s : State) (f : Keys → Keys) : State := { s with keys := f s.keys }

/-- Change fw. -/
def State.modFw (s : State) (f : Upd → Upd) : State := { s with fw := f s.fw }

/-- Change saf. -/
def State.modSaf (s : State) (f : Saf → Saf) : State := { s with saf := f s.saf }

/-- Entry i of sp. -/
def State.spAt (s : State) (i : Port) : SafPort := ix s.sp i

/-- Change entry i of sp. -/
def State.modSp (s : State) (i : Port) (f : SafPort → SafPort) : State := { s with sp := upd s.sp i f }

/-- Entry i of brk. -/
def State.brkAt (s : State) (i : Fin 2) : Brake := ix s.brk i

/-- Change entry i of brk. -/
def State.modBrk (s : State) (i : Fin 2) (f : Brake → Brake) : State := { s with brk := upd s.brk i f }

/-- Change ls. -/
def State.modLs (s : State) (f : Ls → Ls) : State := { s with ls := f s.ls }

/-- Entry i of lk. -/
def State.lkAt (s : State) (i : Port) : Lk := ix s.lk i

/-- Change entry i of lk. -/
def State.modLk (s : State) (i : Port) (f : Lk → Lk) : State := { s with lk := upd s.lk i f }

/-- Change chn. -/
def State.modChn (s : State) (f : Chn → Chn) : State := { s with chn := f s.chn }

/-- Change msh. -/
def State.modMsh (s : State) (f : Msh → Msh) : State := { s with msh := f s.msh }

/-- Change nfc. -/
def State.modNfc (s : State) (f : Nfc → Nfc) : State := { s with nfc := f s.nfc }

/-- Change dsp. -/
def State.modDsp (s : State) (f : Dsp → Dsp) : State := { s with dsp := f s.dsp }

/-- Change sent. -/
def State.modSent (s : State) (f : List Out → List Out) : State := { s with sent := f s.sent }

/-- Change free. -/
def State.modFree (s : State) (f : Nat → Nat) : State := { s with free := f s.free }

end Sys2Proof.Machine
end

