-- ==== Sys2Proof/Machine/Operands.lean ====
section
/-! DEFINITION. The operand forms of host commands: the fields of a request message (spec 04 R86, 05 R111 to
R114) and the descriptors of its ring (04 R95, R96). -/

namespace Sys2Proof

/-- PATH of SYS_VIOL_INFO (R72). -/
def Path.code : Path → Nat
  | .pcie => 0
  | .gln => 1

/-! ### Request fields (R86, R111 to R114) -/

/-- Message word i. -/
def Req.word (r : Req) (i : Nat) : Word := r.words.getD i 0
def Req.fld (r : Req) (i hi lo : Nat) : Nat := (r.word i).fld hi lo
def Req.bit (r : Req) (i b : Nat) : Bool := (r.word i).bit b
def Req.opcode (r : Req) : Nat := r.fld 0 31 16
def Req.len (r : Req) : Nat := r.fld 0 15 8
def Req.flags (r : Req) : Nat := r.fld 0 7 0
def Req.txn (r : Req) : Bool := r.bit 0 0
def Req.queue (r : Req) : Nat := r.fld 1 31 19
def Req.cls (r : Req) : Nat := r.fld 1 18 16
def Req.tag (r : Req) : Nat := r.fld 1 15 0
/-- The port field (R111). -/
def Req.portField (r : Req) : Nat := r.fld 2 7 0
/-- The port named, VP0 where the field holds no port. -/
def Req.port (r : Req) : Port := ⟨r.portField % 8, by omega⟩
def Req.namesPort (r : Req) : Bool := r.portField < 8
/-- The port a command names, none for 0xFF. -/
def Req.portOpt (r : Req) : Option Port := if r.namesPort then some r.port else none
/-- A signed 24-bit field of word i (R4, R113). -/
def Req.int24 (r : Req) (i : Nat) : Int := sext 24 (r.fld i 23 0)
/-- A 48-bit value in words i and i + 1 (R113). -/
def Req.nat48 (r : Req) (i : Nat) : Nat := (r.word i).toNat + 2 ^ 32 * (r.fld (i + 1) 15 0)
/-- n bytes from word i on (R113). -/
def Req.bytes (r : Req) (i n : Nat) : List Byte := (wordsToBytes ((r.words.drop i) ++ List.replicate 16 0)).take n

/-- Whether two requests are the same command: its guest, queue and tag (R86). -/
def Req.same (a b : Req) : Bool := a.guest == b.guest && a.word 0 == b.word 0 && a.word 1 == b.word 1

def Req.fromSystem (r : Req) : Bool := r.guest == 0

/-! ### Descriptor rings (R96) -/

/-- The descriptors a command consumes: all up to the first with LAST; none of those after one that the host
still owns. -/
def takeDescs : List Desc → List Desc × Bool
  | [] => ([], false)
  | d :: ds =>
    if d.own then
      if d.last then ([d], true) else let r := takeDescs ds; (d :: r.1, r.2)
    else ([], false)

/-- The 32 bytes of a descriptor (R95). -/
def Desc.bytes (d : Desc) : List Byte :=
  leBytes 8 d.addr ++ leBytes 4 d.len ++ leBytes 2 d.tag ++
    leBytes 1 (b1 d.own + 2 * b1 d.toHost + 4 * b1 d.last + 8 * b1 d.irq) ++ leBytes 1 d.status ++ leBytes 4 d.doneLen ++ leBytes 12 0

/-- Consumed descriptors as they are written back, with a result code and the bytes given to their device-to-host buffers:
STATUS, DONE_LEN and OWN = 0 (R96). -/
def writeBack (code : Nat) : List Desc → List Byte → List Desc
  | [], _ => []
  | d :: ds, out =>
    let n := if d.toHost then min d.len out.length else d.data.length
    { d with own := false, status := code, doneLen := n } :: writeBack code ds (if d.toHost then out.drop n else out)

/-- The bytes that the consumed host-to-device descriptors hold. -/
def Req.ringIn (r : Req) : List Byte := ((takeDescs r.descs).1.filter (! ·.toHost)).flatMap (·.data)
/-- The room in the consumed device-to-host descriptors. -/
def Req.ringRoom (r : Req) : Nat := (((takeDescs r.descs).1.filter (·.toHost)).map (·.len)).sum
/-- Whether a descriptor with LAST was reached before one that the host owns. -/
def Req.ringOk (r : Req) : Bool := (takeDescs r.descs).2

/-- The ports a request's port field names, for its vehicle modem (R610). -/
def Req.modemPorts (r : Req) : List Port := if r.namesPort then [r.port] else idx 8

/-- The guest that word 2 names (R122). -/
def Req.target (r : Req) : Guest := ⟨r.fld 2 3 0 % 16, by omega⟩

/-- ROLE, CH and PATH of word i from bit lo: the path, none where the fields name none. -/
def Req.pathAt (r : Req) (i lo : Nat) : Option (Fin 24) :=
  let role := r.fld i (lo + 1) lo
  let ch := r.fld i (lo + 5) (lo + 4)
  let hi := r.fld i (lo + 8) (lo + 8)
  if role = 3 ∨ (role = 0 ∧ hi = 1) then none else some ⟨(8 * role + 2 * ch + hi) % 24, by omega⟩

/-! ### Chain and mesh frames -/

/-- TYPE and PRIO of a frame (R421); link-local frames have no priority. -/
def ChBody.type : ChBody → Nat
  | .hello _ => 0x01 | .delayReq _ => 0x02 | .delayRsp .. => 0x03 | .tripAdvice .. => 0x08 | .reduce .. => 0x09
  | .reduceReq .. => 0x0A | .sync .. => 0x10 | .candidate _ => 0x11 | .headClaim _ => 0x12 | .topology .. => 0x13
  | .linkDown .. => 0x14 | .sleep .. => 0x15 | .wake _ => 0x16 | .report _ => 0x20 | .grant _ => 0x21
  | .join _ => 0x30 | .assign .. => 0x31 | .table _ => 0x32 | .siteConfig .. => 0x33 | .configAck _ => 0x34
  | .actPropose _ => 0x35 | .actCommit _ => 0x36 | .actQuery .. => 0x37 | .walk _ => 0x38 | .mirror _ => 0x40
  | .fwOffer _ => 0x60 | .fwBlock .. => 0x61 | .fwNack .. => 0x62 | .fwReq => 0x63

def ChBody.linkLocal (b : ChBody) : Bool := b.type < 4 || b.type == 0x63

def ChBody.prio (b : ChBody) : Nat :=
  let t := b.type
  if t < 0x10 then 0 else if t < 0x20 then 1 else if t < 0x30 then 2 else if t < 0x40 then 3 else if t < 0x60 then 4
  else 6

/-- Whether a type is defined at a level (R435). -/
def ChBody.definedAt (b : ChBody) (level : Nat) : Bool :=
  if b.type == 0x40 then 3 ≤ level else if 0x60 ≤ b.type then 2 ≤ level else 1 ≤ level

/-- Key a is better than key b, field by field (R416). -/
def ChKey.better (a b : ChKey) : Bool :=
  if a.role ≠ b.role then b.role < a.role
  else if a.incumbent ≠ b.incumbent then a.incumbent
  else if a.west ≠ b.west then a.west
  else a.serial < b.serial

/-- Information bits of a symbol under a segment's map, times 126, the common denominator of the code rates (R448). -/
def ToneSeg.bits126 (x : ToneSeg) : Nat := x.load.sum * ([63, 96, 112].getD x.rate.1 0)

end Sys2Proof
end

