-- ==== Sys2Proof/Machine/Ops.lean ====
section
/-! DEFINITION. The named operations that the meanings share: interrupts, counters, violations, answers, the
clock of the model and free values (spec 03 R68 to R81, 04 R88 to R90, 05 R117, R118). -/

namespace Sys2Proof.Machine

/-- The outcome of a command. -/
abbrev Res := Host.Outcome State Fault Refusal

/-- Fold an operation over all indices. -/
def State.each {n : Nat} (s : State) (f : Fin n → State → State) : State := (idx n).foldl (fun t i => f i t) s

/-- Apply f where c holds. -/
def State.whenB (s : State) (c : Bool) (f : State → State) : State := if c then f s else s

/-- Send an output. DESIGN CHOICE (log 8, 9). -/
def State.emit (s : State) (o : Out) : State := s.modSent (· ++ [o])

/-- Take a free value's index. -/
def State.useFree (s : State) : State := s.modFree (· + 1)

/-! ### Guests -/

def State.guest (s : State) (g : Guest) : GuestSt := ix s.host.guests g

def State.modGuest (s : State) (g : Guest) (f : GuestSt → GuestSt) : State :=
  s.modHost fun h => { h with guests := upd h.guests g f }

def State.gcfg (s : State) (g : Guest) : GuestCfg := ix s.conf.cfg.guests g

/-- The configuration in force. -/
def State.cfg (s : State) : Cfg := s.conf.cfg

def State.modCfg (s : State) (f : Cfg → Cfg) : State := s.modConf fun c => { c with cfg := f c.cfg }

def GuestCfg.rights (c : GuestCfg) : Rights := { audit := c.audit, staging := c.staging, bulk := c.bulk }

/-- The rights under which a command runs: those its guest had at its admission, whatever has been taken from it since (R59). -/
def State.rightsOf (s : State) (r : Req) : Rights :=
  match s.host.admitted.find? (·.req.same r) with
  | some a => a.rights
  | none => (s.gcfg r.guest).rights

/-- Whether a guest may see and name a port (R54). -/
def State.seesPort (s : State) (g : Guest) (p : Port) : Bool := (s.gcfg g).ports.bit p

/-- Whether a guest holds the claim on a port (R150). -/
def State.claims (s : State) (g : Guest) (p : Port) : Bool := ix s.host.claim p == some g

/-- The ports a guest claims, as a mask. -/
def State.claimMask (s : State) (g : Guest) : Nat := flagWord ((idx 8).map fun p => s.claims g p)

/-- Whether a guest reaches its window over a path now: its function exists (R48), GLN is bound to it and has
its I/O supply (R63, R592), and no reset of it discards its writes (R76 step 1). -/
def State.canWrite (s : State) (path : Path) (g : Guest) : Bool :=
  !(s.guest g).rstBusy &&
  match path with
  | .pcie => g == 0 || (s.host.vfEnable && g.1 ≤ s.host.numVFs)
  | .gln => s.host.gln == some g && s.host.glnVio

/-! ### Performance counters (R79 to R81) -/

/-- Event selected by counter c. -/
def Pfc.selOf (p : Pfc) (c : Fin 32) : Nat := (ix p.sel ⟨c.1 / 4, by omega⟩).fld (8 * (c.1 % 4) + 7) (8 * (c.1 % 4))

/-- Whether counter 2k + 1 is chained to counter 2k. -/
def Pfc.chained (p : Pfc) (c : Fin 32) : Bool := p.chain.bit (c.1 / 2)

/-- Add n to counter c: wraps of an unchained counter, or of the odd counter of a chained pair, set its
PFC_OVF bit; a wrap of the even counter of a chained pair raises the odd one (R80). DEDUCED (log 30). -/
def Pfc.add (p : Pfc) (c : Fin 32) (n : Nat) : Pfc :=
  let sum := (ix p.cnt c).toNat + n
  let wraps := sum / 2 ^ 32
  let p1 := { p with cnt := upd p.cnt c fun _ => w32 sum }
  if wraps = 0 then p1
  else if p.chained c ∧ c.1 % 2 = 0 then
    let d : Fin 32 := ⟨c.1 / 2 * 2 + 1, by omega⟩
    let sum2 := (ix p1.cnt d).toNat + wraps
    { p1 with cnt := upd p1.cnt d fun _ => w32 sum2,
              ovf := if sum2 < 2 ^ 32 then p1.ovf else p1.ovf ||| oneBit d }
  else { p1 with ovf := p1.ovf ||| oneBit c }

/-- Count n of an event on every counter that selects it, unless frozen (R79). -/
def Pfc.count (p : Pfc) (code n : Nat) : Pfc :=
  if p.freeze then p
  else (idx 32).foldl (fun q c =>
    if q.selOf c = code ∧ ¬ (q.chained c ∧ c.1 % 2 = 1) then q.add c n else q) p

/-! ### Interrupts (R68 to R70) -/

/-- The sources that are live: pending, enabled and armed. -/
def Irq.live (i : Irq) : Word := if i.arm then i.status &&& i.enable else 0

/-- The route byte of a source (R69). -/
def Irq.route (i : Irq) (src : Nat) : Nat :=
  if h : src / 4 < 8 then (ix i.maps ⟨src / 4, h⟩).fld (8 * (src % 4) + 7) (8 * (src % 4)) else 0

/-- Count an interrupt message or assertion; a wrap makes PFC_OVF pending (R68, R81). -/
def GuestSt.countIrq (x : GuestSt) : GuestSt :=
  let p := x.pfc.count 0x0C 1
  { x with pfc := p, irq := { x.irq with
    status := if p.ovf = x.pfc.ovf then x.irq.status else x.irq.status ||| oneBit 18 } }

/-- Whether a guest's live sources drive GLN_IRQk: their route bytes have bit 7 set and k in bits [1:0] (R69, R70). -/
def Irq.drives (i : Irq) (k : Fin 4) : Bool :=
  (List.range 31).any fun src => i.live.bit src && i.route src / 128 == 1 && i.route src % 4 == k.1

/-- The level of GLN_IRQk: that of the guest bound to GLN, whose I/O supply is there; a route of any other guest is ignored
(R69, R70, R592). -/
def State.glnIrq (s : State) (k : Fin 4) : Bool :=
  match s.host.gln with
  | some g => s.host.glnVio && (s.guest g).irq.drives k
  | none => false

/-- A source of a guest with an MSI-X route becomes live: one message on its vector, held in the PBA while masked (R70). -/
def State.fireIrq (s : State) (g : Guest) (src : Nat) : State :=
  let r := (s.guest g).irq.route src
  if r / 128 = 1 then s
  else
    let v := r % 64
    if (s.guest g).irq.mask.getLsbD v then
      s.modGuest g fun x => { x with irq := { x.irq with pba := x.irq.pba ||| BitVec.ofNat 64 (2 ^ v) } }
    else (s.modGuest g GuestSt.countIrq).emit (.msix g v)

/-- Change a guest's interrupt registers: every source that becomes live by it is fired, each GLN_IRQ line that rises is counted,
and so is a PFC_OVF that a counter's wrap makes live on the way (R68, R70, R81). -/
def State.setIrq (s : State) (g : Guest) (f : Irq → Irq) : State :=
  let old := (s.guest g).irq
  let new := f old
  let born := new.live &&& ~~~ old.live
  let s1 := (List.range 31).foldl (fun t src => if born.bit src then t.fireIrq g src else t)
    (s.modGuest g fun x => { x with irq := new })
  let s2 := (idx 4).foldl (fun t k => if t.glnIrq k && !s.glnIrq k then t.modGuest g GuestSt.countIrq else t) s1
  if (s2.guest g).irq.live.bit 18 && !new.live.bit 18 then s2.fireIrq g 18 else s2

/-- Make a source pending in one guest. -/
def State.irq (s : State) (g : Guest) (src : Nat) : State :=
  s.setIrq g fun i => { i with status := i.status ||| oneBit src }

/-- Make a source pending in every guest. -/
def State.irqAll (s : State) (src : Nat) : State := s.each (n := 16) fun g t => t.irq g src

/-- PORTp becomes pending in every guest whose mask holds the port (R68). -/
def State.irqPort (s : State) (p : Port) : State :=
  s.each (n := 16) fun g t => if t.seesPort g p then t.irq g (19 + p.1) else t

/-- Count an event for a guest, making PFC_OVF pending where a counter wrapped (R68, R80). DEDUCED (log 30). -/
def State.count (s : State) (g : Guest) (code n : Nat) : State :=
  let old := (s.guest g).pfc
  let new := old.count code n
  let t := s.modGuest g fun x => { x with pfc := new }
  if new.ovf = old.ovf then t else t.irq g 18

/-- Count a port's event for every guest that sees the port (R79). -/
def State.countPort (s : State) (p : Port) (code n : Nat) : State :=
  s.each (n := 16) fun g t => if t.seesPort g p then t.count g code n else t

/-- Count an event of a command group for every guest with the group's query bit (R79). -/
def State.countGroup (s : State) (bit code n : Nat) : State :=
  s.each (n := 16) fun g t => if (t.gcfg g).query.bit bit then t.count g code n else t

def irqSystem : Nat := 27
def irqSafety : Nat := 28
def irqLegal : Nat := 29

/-- The safety state of a port changed: SAFETY pending in every guest that sees the port (R68). -/
def State.irqSafe (s : State) (p : Port) : State :=
  s.each (n := 16) fun g t => if t.seesPort g p then t.irq g irqSafety else t

/-! ### Event registers: one copy per guest -/

/-- Set bits in every guest's copy of an event register. -/
def raiseAll (ev : Vector Word 16) (bits : Word) : Vector Word 16 := vmap (· ||| bits) ev

/-- Offer a record of Service to the Cave writer (R490). -/
def State.offer (s : State) (r : CaveRec) : State := s.modCave fun c => { c with offered := c.offered ++ [r] }

/-- A Service event for the Cave (R483): 1 link, 2 session, 3 claim, 4 fencing, with chain time. DEDUCED (log 137). -/
def State.service (s : State) (kind source bits : Nat) : State :=
  s.offer { kind := 10, source, run := s.legal.run, data := Config.servicePayload kind source bits s.time.chain }

/-- Clear one guest's copy, as its reading does (R8 RC). -/
def clearOne (ev : Vector Word 16) (g : Guest) : Vector Word 16 := upd ev g fun _ => 0

/-! ### Violations (R71, R72) -/

/-- Write an entry to a guest's violation log and make VIOLATION pending. The first entry after reset or SYS_VIOL_CLR is entry 0. DESIGN CHOICE (log 176). -/
def State.violation (s : State) (g : Guest) (addr info tag : Word) : State :=
  let v := (s.guest g).viol
  let i : Fin 8 := if v.used = 0 then 0 else ⟨(v.newest + 1) % 8, by omega⟩
  let e : Viol := { addr, info, tag, time := w32 (s.time.chain / 1000) }
  ((s.modGuest g fun x => { x with viol :=
      { count := satInc 0xFFFF v.count, newest := i.1, overwritten := v.overwritten || v.used == 8, pend := true,
        used := min 8 (v.used + 1), entries := upd v.entries i fun _ => e } }).count g 0x11 1).irq g 17

/-! ### Answers to commands (R86, R117, R118) -/

namespace Code
def done := 0x00
def accepted := 0x01
def refused := 0x10
def busy := 0x11
def refusedLoad := 0x12
def stageBusy := 0x13
def shortBuffer := 0x14
def wrongState := 0x15
def outOfRange := 0x16
def aborted := 0x20
def cancelled := 0x21
def timeout := 0x22
def fenced := 0x30
def badHeader := 0x40
def void := 0x50
def fault := 0x60
end Code

/-- The response of an executed command: its result code and its words from word 2 on. It waits for
COMMAND_COMPLETE. DESIGN CHOICE (log 11). -/
def State.answer (s : State) (r : Req) (code : Nat) (ws : List Word := []) : State :=
  s.modHost fun h => { h with answers := h.answers ++ [{ req := r, code := code, words := ws }] }

/-- The ACCEPTED response of a command whose final notice follows. -/
def State.accept (s : State) (r : Req) : State :=
  s.modHost fun h => { h with answers := h.answers ++ [{ req := r, code := Code.accepted, words := [], more := true }] }

/-- The final outcome of an accepted command: it waits for FINAL_NOTICE (R118). -/
def State.final (s : State) (r : Req) (code : Nat) (ws : List Word := []) : State :=
  s.modHost fun h => { h with finals := h.finals ++ [{ req := r, code := code, words := ws }] }

/-- The final outcome of a command held in an optional slot, if one is there. -/
def State.finalOpt (s : State) (r : Option Req) (code : Nat) (ws : List Word := []) : State :=
  match r with
  | some q => s.final q code ws
  | none => s

/-! ### Descriptor rings (R96) -/

/-- Descriptors that a ring holds between HEAD and TAIL: none while it is disabled, by EN or by its size (R94, R96). -/
def RingRegs.filled (q : RingRegs) : Nat :=
  if q.en && inRange 4 12 q.log2size then (q.tail % 2 ^ q.log2size + 2 ^ q.log2size - q.head) % 2 ^ q.log2size else 0

/-- A request with the descriptors that the ring it names holds (R94, R96). DEDUCED (log 175). -/
def State.withRing (s : State) (r : Req) (ring : Nat) : Req :=
  { r with descs := if h : ring < 8 then r.descs.take (ix (s.guest r.guest).rings ⟨ring, h⟩).filled else [] }

/-- Consume the descriptors of a command from a ring and write each back with the command's result and the bytes moved: HEAD
moves past them, and a write-back with IRQ sets the ring's bit in QUE_DB_D2H and makes DOORBELL pending (R94, R96). -/
def State.useRing (s : State) (r : Req) (ring code : Nat) (out : List Byte := []) : State :=
  if h : ring < 8 then
    let taken := (takeDescs r.descs).1
    let q := ix (s.guest r.guest).rings ⟨ring, h⟩
    let s1 := s.modGuest r.guest fun x => { x with
      dbH2d := x.dbH2d &&& ~~~ oneBit ring,
      rings := upd x.rings ⟨ring, h⟩ fun q => { q with head := (q.head + taken.length) % 2 ^ q.log2size } }
    let s2 := s1.modSent fun l => l ++ (writeBack code taken out).zipIdx.map fun d =>
      Out.descriptor r.guest ring ((q.head + d.2) % 2 ^ q.log2size) d.1.bytes
    if taken.any (·.irq) then
      ((s2.modGuest r.guest fun x => { x with dbD2h := x.dbD2h ||| oneBit ring }).count r.guest 0x0B 1).irq r.guest 16
    else s2
  else s

/-- A command that read its ring ends with a code. DEDUCED (log 175). -/
def State.endRing (s : State) (r : Req) (ring code : Nat) (ws : List Word := []) : State := (s.useRing r ring code).answer r code ws

/-- Write bytes to a command's ring: DONE with BYTES where they fit, SHORT_BUFFER where the ring ran out. DEDUCED (log 168). -/
def State.answerRing (s : State) (q : Req) (ring : Nat) (bytes : List Byte) (ws : List Word) : State :=
  let r := s.withRing q ring
  if r.ringOk && bytes.length ≤ r.ringRoom then
    ((s.emit (.ringData r.guest ring bytes)).useRing r ring Code.done bytes).answer q Code.done ws
  else s.endRing r ring Code.shortBuffer

/-! ### Configuration items (R112) -/

def Item.word (it : Item) (i : Nat) : Word := it.words.getD i 0
def Item.fld (it : Item) (i hi lo : Nat) : Nat := (it.word i).fld hi lo
/-- DEDUCED (log 12). -/
def Item.names (it : Item) (g : Guest) : Bool := it.fld 2 3 0 == g.1

def Item.bit (it : Item) (i b : Nat) : Bool := (it.word i).bit b
/-- The port a configuration item names (R111). -/
def Item.port (it : Item) : Port := ⟨it.fld 2 7 0 % 8, by omega⟩
/-- The first reason whose condition holds (R611 and the like). -/
def firstReason (l : List (Nat × Bool)) : Option Nat := (l.find? (·.2)).map (·.1)

/-! ### System notices -/

/-- SYS_PWR_STATE, TREF_STATE or the sleep phase changed: SYSTEM pending in every guest (R68). DEDUCED (log 13). -/
def State.sysChanged (s : State) : State := s.irqAll irqSystem

/-- Change the system block. -/
def State.modTref (s : State) (f : Tref → Tref) : State := s.modSys fun y => { y with tref := f y.tref }
def State.modSleep (s : State) (f : Sleep → Sleep) : State := s.modSys fun y => { y with sleep := f y.sleep }

/-- Whether a start-up step has been reached (R35). DESIGN CHOICE (log 4). -/
def Sys.reached (y : Sys) (n : Nat) : Bool := y.steps.contains n

/-- Mark a start-up step as reached, with step 9 as soon as steps 4, 6 and 8 are (R35). -/
def State.reach (s : State) (n : Nat) : State :=
  let add (l : List Nat) (k : Nat) := if l.contains k then l else l ++ [k]
  let l1 := add s.sys.steps n
  let l2 := if l1.contains 4 && l1.contains 6 && l1.contains 8 then add l1 9 else l1
  if l2 = s.sys.steps then s else (s.modSys fun y => { y with steps := l2 }).sysChanged

/-- BOOT_STAGE of SYS_PWR_STATE (R46). -/
def Sys.bootStage (y : Sys) : Nat :=
  if y.clkFault then 0xF1
  else if y.romRecovery then 0xF0
  else ((List.range 11).filter fun n => 1 ≤ n && (List.range (n + 1)).all fun k => k == 0 || y.reached k).length

end Sys2Proof.Machine
end

