-- ==== Sys2Proof/Machine/Journal.lean ====
section
/-! DEFINITION. The journals: appending, Ripening and held records (spec 18 R469 to R479). -/

namespace Sys2Proof.Machine

/-- Raise JNL_EVENT bits in every guest's copy (R495). -/
def State.jnlRaise (s : State) (bits : Word) : State := s.modJnl fun j => { j with ev := raiseAll j.ev bits }

/-- Half sizes and Ripening thresholds in bytes (R469). -/
def legalHalf : Nat := 1280 * 1024
def legalRipe : Nat := 960 * 1024
def confHalf : Nat := 1024 * 1024
def confRipe : Nat := 768 * 1024

/-- Append a record with the next SEQ (R472). DEDUCED (log 157). -/
def Journal.append (j : Journal) (r : JRec) : Journal :=
  { j with recs := j.recs ++ [{ r with seq := j.seq + 1 }], seq := j.seq + 1 }

/-- No newer record of a list takes the place of a record. -/
def newest (l : List JRec) (same : JRec → JRec → Bool) (r : JRec) : Bool :=
  !(l.any fun q => r.seq < q.seq && same q r)

/-- CHECKPOINT of the legal journal (R471). DEDUCED (log 137). -/
def legalCheckpoint : JRec := { type := 0x0D, len := 436 }
/-- CHECKPOINT of the configuration journal; its length, at most that of a payload, is open. DEDUCED (log 137). DESIGN CHOICE (log 234). -/
def confCheckpoint : JRec := { type := 0x25, len := min 262144 Config.confCheckpointLen }

/-- The records of the legal journal that a Ripening keeps (R475), in ascending SEQ. -/
def keptLegal (confirmed : Nat) (l : List JRec) : List JRec :=
  legalCheckpoint :: l.filter fun r =>
    (r.held && confirmed < r.seq) ||
    match r.type with
    | 0x03 | 0x04 => newest l (fun a b => (a.type == 3 || a.type == 4) && a.src == b.src) r
    | 0x09 => newest l (fun a b => a.type == 9 && a.src == b.src) r
    | 0x08 | 0x0B | 0x0C => newest l (fun a b => a.type == b.type) r
    | 0x0A => newest l (fun a b => a.type == 0x0A && a.key == b.key) r
    | 0x07 => (l.filter fun q => q.type == 7 && q.src == r.src && r.seq < q.seq).length < 16
    | _ => false

/-- The records of the configuration journal that a Ripening keeps (R475): transactions that have not applied in
full, the newest ADDRESS_TABLE, and activations not carried out. -/
def keptConf (open_ : List Nat) (acting : Bool) (l : List JRec) : List JRec :=
  confCheckpoint :: l.filter fun r =>
    match r.type with
    | 0x21 => open_.contains r.key
    | 0x23 => newest l (fun a b => a.type == b.type) r
    | 0x24 => acting && newest l (fun a b => a.type == b.type) r
    | _ => false

/-- Early-warning saves are under way (R280). -/
def State.saving (s : State) : Bool := s.legal.supply.saving

/-- CAVE_ACK for what the Cave has confirmed (R477). -/
def State.putAck (s : State) : State :=
  s.modJnl fun j => { j with acked := j.confirmed, legal := j.legal.append { type := 0x0C, len := 8, key := j.confirmed } }
def State.writeAck (s : State) : State := if s.jnl.acked < s.jnl.confirmed then s.putAck else s

/-- Start a Ripening of the legal journal, which writes a CAVE_ACK (R477), or defer it while early-warning saves run (R474, R476). -/
def State.ripenLegal (s : State) : State :=
  if s.saving then s.modJnl fun j => { j with legal := { j.legal with deferred := true } }
  else if !s.jnl.legal.standbyClean || s.jnl.legal.run.isSome then s
  else s.putAck.modJnl fun j => { j with
    legal := { j.legal with deferred := false, run := some (keptLegal j.confirmed j.legal.recs, j.legal.seq) } }

/-- Transactions whose parts have not all applied (R475). -/
def State.openEpochs (s : State) : List Nat := s.conf.committed.map (·.epoch)

/-- Start a Ripening of the configuration journal (R474, R476). -/
def State.ripenConf (s : State) : State :=
  if s.saving then s.modJnl fun j => { j with conf := { j.conf with deferred := true } }
  else if !s.jnl.conf.standbyClean || s.jnl.conf.run.isSome then s
  else s.modJnl fun j => { j with
    conf := { j.conf with deferred := false,
                          run := some (keptConf s.openEpochs (s.fw.act.state == .committed || s.fw.act.state == .swapping) j.conf.recs, j.conf.seq) } }

/-- Bytes of held records not yet confirmed (R477). -/
def Jnl.heldRecs (j : Jnl) : List JRec := j.legal.recs.filter fun r => r.held && j.confirmed < r.seq
def Jnl.held (j : Jnl) : Nat := (j.heldRecs.map JRec.size).sum

/-- HOLD_HIGH and HOLD_MAX from the held bytes (R478). -/
def State.holdLevel (s : State) : State :=
  let h := s.jnl.held
  let high := 393216 ≤ h || (327680 ≤ h && s.jnl.holdHigh)
  let max := 524288 ≤ h || (327680 ≤ h && s.jnl.holdMax)
  let bits := pack [(2, 2, b1 (high && !s.jnl.holdHigh)), (3, 3, b1 (max && !s.jnl.holdMax)),
    (4, 4, b1 (!high && s.jnl.holdHigh))]
  (s.modJnl fun j => { j with holdHigh := high, holdMax := max }).jnlRaise bits

/-- Append a legal record; the hold levels follow, and a Ripening starts at 75 % (R472, R474, R478). -/
def State.appendLegal (s : State) (r : JRec) : State :=
  let t := (s.modJnl fun j => { j with legal := j.legal.append r }).holdLevel
  if legalRipe ≤ t.jnl.legal.used && !t.jnl.legal.deferred then t.ripenLegal else t

/-- Append a configuration record (R472, R474). -/
def State.appendConf (s : State) (r : JRec) : State :=
  let t := s.modJnl fun j => { j with conf := j.conf.append r }
  if confRipe ≤ t.jnl.conf.used && !t.jnl.conf.deferred then t.ripenConf else t

/-- COMPLETE is written: the new half becomes active (R474 steps 3 and 4). -/
def Journal.complete (j : Journal) : Journal :=
  match j.run with
  | none => j
  | some (copied, at_) =>
    { j with
      recs := .half :: copied ++ j.recs.filter (fun r => at_ < r.seq) ++ [.complete]
      activeHalf := 1 - j.activeHalf, gen := j.gen + 1, run := none, standbyClean := false,
      ripenings := satInc 255 j.ripenings }

/-- RIPENING_COMPLETE. -/
def execRipeningComplete (legal : Bool) (s : State) : Res :=
  .next (if legal then
    if s.jnl.legal.run.isSome then (s.modJnl fun j => { j with legal := j.legal.complete }).jnlRaise 1 else s
  else if s.jnl.conf.run.isSome then (s.modJnl fun j => { j with conf := j.conf.complete }).jnlRaise 2 else s)

/-- HALF_ZEROED: the old half may serve as standby; a run that waited for it starts (R474 step 5). -/
def execHalfZeroed (legal : Bool) (s : State) : Res :=
  .next (if legal then
    let t := s.modJnl fun j => { j with legal := { j.legal with standbyClean := true } }
    if legalRipe ≤ t.jnl.legal.used || t.jnl.legal.deferred then t.ripenLegal else t
  else
    let t := s.modJnl fun j => { j with conf := { j.conf with standbyClean := true } }
    if confRipe ≤ t.jnl.conf.used || t.jnl.conf.deferred then t.ripenConf else t)

/-- A supply-fail trip or PFW aborts the runs in progress; they start again once the saves stop (R476). -/
def State.abortRipening (s : State) : State :=
  let stop (j : Journal) : Journal :=
    if j.run.isSome then { j with run := none, deferred := true, standbyClean := false } else j
  let t := s.modJnl fun j => { j with legal := stop j.legal, conf := stop j.conf }
  if s.jnl.legal.run.isSome || s.jnl.conf.run.isSome then t.jnlRaise 0x20 else t

/-- The saves have stopped: deferred runs start (R476). -/
def State.resumeRipening (s : State) : State :=
  let t := if s.jnl.legal.deferred then s.ripenLegal else s
  if t.jnl.conf.deferred then t.ripenConf else t

/-- Whether a TRANSACTION record of a length fits (R479). DEDUCED (log 45). -/
def State.txnFits (s : State) (len : Nat) : Bool :=
  roundUp (20 + len) 8 ≤ 262144 && s.jnl.conf.used + roundUp (20 + len) 8 ≤ confHalf && s.jnl.conf.run.isNone

/-- A commit whose TRANSACTION record did not fit starts a Ripening where the journal was full, not where the record alone is too
long (R479). -/
def State.ripenFor (s : State) (len : Nat) : State := if roundUp (20 + len) 8 ≤ 262144 then s.ripenConf else s

end Sys2Proof.Machine
end

