-- ==== Sys2Proof/Machine/KeyOps.lean ====
section
/-! DEFINITION. Rennet measurement, derived keys, Rind's counts and audit entries (spec 19 R503, R509 to R511, R518). -/

namespace Sys2Proof.Machine

/-- The number that bytes spell, the first the most significant. -/
def beNat (l : List Byte) : Nat := leNat l.reverse

/-- The 16-byte module serial (R290, R527). -/
def State.serialBytes (s : State) : List Byte := leBytes 16 s.sys.serial

/-- RM_c over an image digest (R509). -/
def rennet (c : Nat) (digest : List Byte) : List Byte :=
  beBytes 48 (Config.sha384 (ascii "RENNET" ++ Config.romDigest ++ leBytes 1 c ++ digest))

/-- RM_ROM (R509). -/
def rennetRom : List Byte := beBytes 48 (Config.sha384 (ascii "RENNET" ++ Config.romDigest))

/-- OKM of R510 for a domain, measurement and label, of L bytes. -/
def State.derive (s : State) (domain : Nat) (rm : List Byte) (label : String) (len : Nat) : Nat :=
  Config.hkdf (Config.rootSecret s.rind.root) s.serialBytes
    (ascii "CRARUS-KEY" ++ leBytes 1 domain ++ rm ++ ascii label) len % 2 ^ (8 * len)

/-- The order of P-384. PRESUMED (log 199). -/
def orderP384 : Nat :=
  0xFFFFFFFFFFFFFFFFFFFFFFFFFFFFFFFFFFFFFFFFFFFFFFFFC7634D81F4372DDF581A0DB248B0A77AECEC196ACCC52973

/-- The private scalar of P-384 from 56 bytes of output (R510). -/
def State.deriveP384 (s : State) (domain : Nat) (rm : List Byte) (label : String) : Nat :=
  s.derive domain rm label 56 % (orderP384 - 1) + 1

/-- The legal key of a legal image digest (slots 1 and 2, R511). -/
def State.legalKey (s : State) (digest : List Byte) : Nat := s.deriveP384 0 (rennet 1 digest) "LEGAL-SIGN"

/-- DEVICE_ID (slot 0, R511). -/
def State.deviceKey (s : State) : Nat := s.deriveP384 2 rennetRom "DEVICE-ID"

/-- A bank of a class (R526). -/
def State.bank (s : State) (c : Fin 3) (b : Fin 2) : Bank := ix (ix s.fw.banks c) b

/-- The active and the inactive bank of a class. -/
def State.activeBank (s : State) (c : Fin 3) : Bank := s.bank c (ix s.fw.active c)
def State.otherBank (s : State) (c : Fin 3) : Bank := s.bank c (1 - ix s.fw.active c)

/-- The digest of the legal image under which a port is metered (R540). -/
def State.legalDigest (s : State) (p : Port) : List Byte :=
  if ix s.fw.oldLegal p then (s.otherBank 1).digest else (s.activeBank 1).digest

/-- A slot holds only a public key. -/
def Slot.publicOnly (k : Slot) : Bool := k.attrB.bit 20

/-- The public key of a slot as a SEC1 point. -/
def Slot.public (k : Slot) : List Byte := if k.publicOnly then k.pub else Config.publicKey k.key

/-- Raise KEY_EVENT bits (R521). -/
def State.keyRaise (s : State) (bits : Word) : State := s.modKeys fun k => { k with ev := raiseAll k.ev bits }

/-- Write an audit entry; Rind keeps the 16 newest of kinds 2 to 4 (R518). DEDUCED (log 141). -/
def State.audit (s : State) (a : Audit) : State :=
  s.modKeys fun k => { k with
    log := (a :: k.log).take 1024
    rindLog := if 2 ≤ a.kind then (a :: k.rindLog).take 16 else k.rindLog }

/-- The five tamper counts, low bytes: DETAIL of kinds 2 to 4 (R518). -/
def State.tamperBytes (s : State) : List Byte :=
  padTo 16 ((s.rind.tamper.toList.take 5).map fun n => BitVec.ofNat 8 n)

/-- An entry of kind 2 to 4 by the device (R518). -/
def State.auditRind (s : State) (kind reason : Nat) : State :=
  s.audit { rtc := s.rind.rtc, kind, reason, detail := s.tamperBytes }

/-- The device is in SERVICE, or RETIRED (R507). -/
def State.inService (s : State) : Bool := s.rind.lifecycle == 3
def State.retired (s : State) : Bool := s.rind.lifecycle == 4

end Sys2Proof.Machine
end

