-- ==== Sys2Proof/Machine/LegalOps.lean ====
section
/-! DEFINITION. What Legal does at a latch, at an interval boundary, at a billing stop and with its records (spec 10
R258 to R277, 11 R288 to R295, 12 R326), and the events of its parts. -/

namespace Sys2Proof.Machine

/-! ### Events -/

/-- PORTp becomes pending in every guest that sees the port and in whose copy a bit becomes set (R68). -/
def State.pendPort (s : State) (p : Port) (old : Vector Word 16) (bits : Word) : State :=
  s.each (n := 16) fun g t =>
    if t.seesPort g p && (ix old g &&& bits) != bits then t.irq g (19 + p.1) else t

/-- A source becomes pending in every guest in whose copy a bit becomes set (R68). -/
def State.pendAll (s : State) (src : Nat) (old : Vector Word 16) (bits : Word) : State :=
  s.each (n := 16) fun g t => if (ix old g &&& bits) != bits then t.irq g src else t

def State.metRaise (s : State) (p : Port) (bits : Word) : State :=
  (s.modMet p fun m => { m with ev := raiseAll m.ev bits }).pendPort p (s.metAt p).ev bits
def State.nrgRaise (s : State) (p : Port) (bits : Word) : State :=
  (s.modNrg p fun m => { m with ev := raiseAll m.ev bits }).pendPort p (s.nrgAt p).ev bits
def State.bilRaise (s : State) (p : Port) (bits : Word) : State :=
  (s.modBil p fun m => { m with ev := raiseAll m.ev bits }).pendPort p (s.bilAt p).ev bits
def State.pqRaise (s : State) (p : Port) (bits : Word) : State :=
  (s.modPq p fun m => { m with ev := raiseAll m.ev bits }).pendPort p (s.pqAt p).ev bits
def State.bilUnitRaise (s : State) (bits : Word) : State :=
  (s.modLegal fun l => { l with bilEv := raiseAll l.bilEv bits }).pendAll irqLegal s.legal.bilEv bits
def State.pqSiteRaise (s : State) (bits : Word) : State :=
  (s.modLegal fun l => { l with pqEv := raiseAll l.pqEv bits }).pendAll irqLegal s.legal.pqEv bits

/-! ### The port's configuration and its heads -/

/-- The connector type in force is AC Type 2 (R20). -/
def State.isAc (s : State) (p : Port) : Bool := (ix s.cfg.port p).connType == 0
def State.metCfg (s : State) (p : Port) : Option MetCfg := ix s.cfg.met p
def State.ratedI (s : State) (p : Port) : Nat := ((s.metCfg p).map (·.ratedI)).getD 0
/-- Phases that carry energy: one on a DC port. -/
def State.phases (s : State) (p : Port) : Nat :=
  if s.isAc p then ((s.metCfg p).map (·.phases)).getD 1 else 1

/-- Legal meters and signs. DEDUCED (log 10). -/
def State.legalRun (s : State) : Bool := s.legal.state == .run
def State.legalVoid (s : State) : Bool := s.legal.state == .void
/-- The legal clock counts samples, but in Doze: from Legal's start, and under a VOID Legal, whose open windows wait for their end and
from whose links Safety takes its current (R23, R224, R270, R339). -/
def State.legalClock (s : State) : Bool := s.sys.power != .doze && s.legal.state != .starting

/-- Sensor link of a port's head (R22). -/
def linkOf (p : Port) (role : Fin 3) : SLink := ⟨3 * p.1 + role.1, by omega⟩
def portOf (l : SLink) : Port := ⟨l.1 / 3, by omega⟩
def roleOf (l : SLink) : Fin 3 := ⟨l.1 % 3, by omega⟩

/-- A head is in service (R232, R245, R248). DEDUCED (log 151). -/
def State.headOk (s : State) (p : Port) (role : Fin 3) : Bool :=
  let l := s.slAt (linkOf p role)
  l.state == .run && !l.failed && !s.legal.clkFault && ix (s.metAt p).bound role == some l.regs.serial &&
    (s.metCfg p).isSome

/-- A sample of a head is valid (R231). -/
def State.sampleOk (s : State) (p : Port) (role : Fin 3) (n : Nat) : Bool :=
  let l := s.slAt (linkOf p role)
  l.state == .run && l.validFrom ≤ n && !l.lost.any fun m => m ≤ n && n ≤ m + 58

/-- METERING_READY (R246). -/
def State.meteringReady (s : State) (p : Port) : Bool :=
  (s.nrgAt p).ps || (s.headOk p 0 && s.headOk p 1)

/-- The input in pulse-source mode for a port, and its C_PI (R276). -/
def State.sourceOf (s : State) (p : Port) : Option (Fin 2 × Nat) :=
  (idx 2).findSome? fun k =>
    let c := ix s.cfg.pulse k
    if c.role = 3 ∧ c.port = p.1 then some (k, c.cPi) else none

/-- A billed session is open on the port (R161). -/
def State.billedOpen (s : State) (p : Port) : Bool := ((s.bilAt p).ses.map (·.billed)).getD false
def State.sesIsOpen (s : State) (p : Port) : Bool := (s.bilAt p).ses.isSome

/-- Energy of one milliwatt-hour in units of sample energy (R258). -/
def unitK : Nat := 18432000000

/-! ### Labels and records -/

/-- The wall-clock label with its age in whole seconds (R293), null where none has come. -/
def State.wallNow (s : State) : Option (Nat × Nat × Nat) :=
  s.legal.wall.map fun w => (w.ms, (s.legal.proc - w.at_) / 51200, w.source)

def cborWall : Option (Nat × Nat × Nat) → List Byte
  | some (ms, age, src) => cborArray [cborNat ms, cborNat age, cborNat src]
  | none => cborNull

/-- The seal record of R301 and R471. -/
def State.sealRecord (s : State) : JRec :=
  let w := s.wallNow
  { type := 0x08, len := 48, held := true
    data := leBytes 4 s.rind.sealCount ++ leBytes 1 s.rind.lifecycle ++ leBytes 1 ((w.map (·.2.2)).getD 0) ++
      leBytes 2 0 ++ padTo 16 s.rind.sealSerial ++ leBytes 4 s.legal.run ++ leBytes 6 s.legal.proc ++ leBytes 2 0 ++
      leBytes 8 ((w.map (·.1)).getD 0) ++ leBytes 4 ((w.map (·.2.1)).getD 0xFFFFFFFF) }

/-- The digest D of a port's newest interval, D_0 before the first (R290). -/
def State.chainHead (s : State) (p : Port) : List Byte :=
  let b := s.bilAt p
  if b.ivIdx = 0 then beBytes 48 (Config.sha384 (ascii "CRARUS-IV" ++ s.serialBytes ++ leBytes 1 p.1)) else b.ivDig

/-- A save of a port as it stands, with the registers of a slot; an early one holds A up to its sample, with what waits for a boundary
(R277, R280). -/
def State.saveRecord (s : State) (p : Port) (early : Bool) (boundary slotNo : Nat) (isExp : Bool) : JRec :=
  let n := s.nrgAt p
  let b := s.bilAt p
  let slot : Fin 8 := ⟨slotNo % 8, by omega⟩
  { type := if early then 0x04 else 0x03, len := 132, src := p.1
    save := some {
      early, idx := boundary, a := if early then n.a + (n.hold.map (·.e)).sum else n.a, slot := slotNo, reg := if isExp then ix n.exp slot else ix n.imp slot
      tot := if isExp then n.expTot else n.impTot, sesImp := n.sesImp, sesExp := n.sesExp
      ses := (b.ses.map (·.no)).getD 0, pAcc := n.pAcc, pend := n.pend, b := n.b, ivIdx := b.ivIdx, ivDig := s.chainHead p
      metering := n.winFrom.isSome && n.winEnd != some boundary, rtc := s.rind.rtc } }

/-! ### Tamper records (R326, R327) -/

/-- Sign and append a tamper record; TAMPER_START or TAMPER_END, the port's count and its mark follow. kind is the
code of R321, edge 0 start, 1 end, 2 single. -/
def State.tamperRecord (s : State) (p : Port) (kind : Fin 5) (edge : Nat) (n : Nat) (v1 v2 : Int)
    (windowEnd restored : Bool := false) : State :=
  let s1 := if edge = 1 then s else s.modPq p fun q => { q with counts := upd q.counts kind (satInc 0xFFFF), mark := true }
  let b := s1.bilAt p
  let count := ix (s1.pqAt p).counts kind
  let payload := cborMap [(0, cborNat 1), (1, cborBytes s1.serialBytes), (2, cborNat p.1), (3, cborNat (kind.1 + 1)),
    (4, cborNat edge), (5, cborNat s1.legal.run), (6, cborNat n), (7, cborNat ((b.ses.map (·.no)).getD 0)),
    (8, cborNat (if b.ivOpen then b.ivIdx + 1 else b.ivIdx)), (9, cborArray [cborInt v1, cborInt v2]),
    (10, cborNat count), (11, cborNat s1.rind.sealCount), (12, cborBytes (s1.legalDigest p)),
    (13, cborWall s1.wallNow),
    (14, cborNat (b1 restored + 2 * b1 (s1.nrgAt p).ps + 4 * b1 windowEnd))]
  let rec_ := coseSign1 (s1.legalKey (s1.legalDigest p)) payload
  (s1.appendLegal { type := 0x07, len := rec_.length, held := true, src := p.1, key := count, data := rec_ }).pqRaise p
    (if edge = 1 then 0x80 else 0x40)

/-! ### Intervals and the tariff (R288 to R295) -/

/-- The interval record IR_k (R289). -/
def State.intervalRecord (s : State) (p : Port) (nEnd : Nat) (restored : Bool) : List Byte :=
  let n := s.nrgAt p
  let b := s.bilAt p
  let pi := if n.ps then s.sourceOf p else none
  let flags := (b.ivFlags ||| b1 n.ps * 4) ||| (b1 restored * 16 ||| b1 s.inService * 32)
  leBytes 6 (b.ivIdx + 1) ++ leBytes 1 p.1 ++ leBytes 1 flags ++ leBytes 4 ((b.ses.map (·.no)).getD 0) ++
    leBytes 4 ((b.ses.map (·.run)).getD s.legal.run) ++ leBytes 6 b.ivStart ++ leBytes 6 nEnd ++ leBytes 1 n.slot ++
    leBytes 1 ((pi.map (·.1.1)).getD 0xFF) ++ leBytes 2 0 ++ leBytes 6 b.ivImp ++ leBytes 6 b.ivExp ++
    leBytes 6 n.impTot ++ leBytes 6 n.expTot ++ leBytes 4 ((pi.map (·.2)).getD 0) ++ leBytes 4 (min 0xFFFFFFFF b.ivUnc) ++
    leBytes 4 (min 0xFFFFFFFF b.ivSub) ++ leBytes 4 s.rind.sealCount ++ (padTo 8 (s.legalDigest p))

/-- A slot's new value at an interval boundary: the schedule entries that have become due, then the pending request
(R295); with the entries left. -/
def tariffAt (slot : Nat) (sched : List (Nat × Nat)) (elapsed : Nat) (pend : Option Nat) : Nat × List (Nat × Nat) :=
  let due := sched.takeWhile fun e => e.1 * 51200 ≤ elapsed
  let rest := sched.dropWhile fun e => e.1 * 51200 ≤ elapsed
  ((due.foldl (fun _ e => e.2) slot |> fun x => pend.getD x), rest)

/-- Close the open interval at a boundary: its record is appended and the digest chain advances (R288 to R291). -/
def State.closeInterval (s : State) (p : Port) (nEnd : Nat) (restored : Bool := false) : State :=
  let b := s.bilAt p
  if !b.ivOpen then s
  else
    let ir := s.intervalRecord p nEnd restored
    let dig := beBytes 48 (Config.sha384 (s.chainHead p ++ ir))
    let slot : Fin 8 := ⟨(s.nrgAt p).slot % 8, by omega⟩
    let s1 := s.modBil p fun x => { x with
      ivOpen := false, ivIdx := x.ivIdx + 1, ivDig := dig
      ses := x.ses.map fun r => { r with slotN := upd r.slotN slot (· + (nEnd - b.ivStart)),
                                         service := r.service || s.inService } }
    (s1.appendLegal { type := 0x05, len := 80, held := true, src := p.1, key := b.ivIdx + 1, data := ir }).bilRaise p 1

/-- Open the next interval at a boundary: TARIFF_APPLY sets its slot (R295). -/
def State.openInterval (s : State) (p : Port) (n : Nat) : State :=
  let b := s.bilAt p
  match b.ses with
  | none => s
  | some r =>
    let t := tariffAt (s.nrgAt p).slot b.sched (n - r.nOpen) (b.pend.map (·.2.1))
    let s1 := s.modBil p fun x => { x with
      ivOpen := true, ivStart := n, ivImp := 0, ivExp := 0, ivFlags := 0, ivUnc := 0, ivSub := 0, sched := t.2, pend := none }
    let s2 := s1.modNrg p fun x => { x with slot := t.1 }
    let s3 := match b.pend with
      | some (q, _, _) => s2.final q Code.done (pair48 (b.ivIdx + 1))
      | none => s2
    if t.1 = (s.nrgAt p).slot then s3 else s3.bilRaise p 2

/-- The interval closes at a latch with boundary n (R288). -/
def Bil.closesAt (b : Bil) (n intervalS : Nat) : Bool :=
  b.ivOpen && (b.ivStart + intervalS * 51200 ≤ n || ((b.pend.map (·.2.2)).getD false))

/-! ### The latch (R260) -/

/-- Add what a sample contributes to the accumulator and the marks of the period and interval. -/
def Nrg.absorb (x : Nrg) (c : Contrib) : Nrg :=
  { x with
    a := x.a + c.e, eNow := x.eNow + c.e, brgNow := x.brgNow || c.subst || c.unc, overload := x.overload || c.ovl
    uSum := x.uSum + c.u.getD 0, uN := x.uN + b1 c.u.isSome }

def Bil.absorb (x : Bil) (c : Contrib) : Bil :=
  { x with
    ivUnc := x.ivUnc + b1 c.unc, ivSub := x.ivSub + b1 c.subst
    ses := x.ses.map fun r => { r with closed := r.closed + b1 c.metered } }

/-- Whole mWh of the accumulator, toward zero (R260). -/
def wholeMwh (a : Int) : Int := a.tdiv unitK

/-- Registers after q mWh: modulo 2^48; WRAPPED where a register wrapped (R261). -/
def Nrg.register (x : Nrg) (q : Int) (inSes : Bool) : Nrg × Bool :=
  let slot : Fin 8 := ⟨x.slot % 8, by omega⟩
  if 0 < q then
    let k := q.toNat
    ({ x with imp := upd x.imp slot fun v => (v + k) % 2 ^ 48, impTot := (x.impTot + k) % 2 ^ 48,
              sesImp := if inSes then x.sesImp + k else x.sesImp },
      decide (2 ^ 48 ≤ ix x.imp slot + k) || decide (2 ^ 48 ≤ x.impTot + k))
  else if q < 0 then
    let k := (-q).toNat
    ({ x with exp := upd x.exp slot fun v => (v + k) % 2 ^ 48, expTot := (x.expTot + k) % 2 ^ 48,
              sesExp := if inSes then x.sesExp + k else x.sesExp },
      decide (2 ^ 48 ≤ ix x.exp slot + k) || decide (2 ^ 48 ≤ x.expTot + k))
  else (x, false)

/-- Mean power in W of energy over a number of samples, to nearest with ties to even (R282). -/
def meanPower (e : Int) (samples : Nat) : Int :=
  if samples = 0 then 0 else roundEven e (samples * 100000)

/-- CREDIT_EVALUATION at a latch (R173). -/
def State.creditAt (s : State) (p : Port) (n : Nat) (imported : Nat) : State :=
  match (s.bilAt p).ses with
  | none => s
  | some r =>
    let usedE := (s.nrgAt p).sesImp
    let usedT := (n - r.nOpen) / 51200
    let warnE := r.creditE != 0 && decide (9 * r.creditE ≤ 10 * usedE)
    let warnT := r.creditT != 0 && decide (9 * r.creditT ≤ 10 * usedT)
    let out := (r.creditE != 0 && decide (r.creditE ≤ usedE)) || (r.creditT != 0 && decide (r.creditT ≤ usedT))
    let s1 := s.modBil p fun b => { b with ses := some { r with
      warned := r.warned || warnE, warnedT := r.warnedT || warnT, out := r.out || out
      overE := if r.out then r.overE + imported else r.overE } }
    let s2 := if (warnE && !r.warned) || (warnT && !r.warnedT) then s1.emit (.legalMsg p .creditWarn) else s1
    if out && !r.out then s2.emit (.legalMsg p .creditOut) else s2

/-- REV_EXPORT (R322): a session that is not bidirectional reaches 10 mWh of export, once per session. -/
def State.revExportAt (s : State) (p : Port) (n : Nat) : State :=
  match (s.bilAt p).ses with
  | none => s
  | some r =>
    if r.bidir || r.revExport || (s.nrgAt p).ps || (s.nrgAt p).sesExp < 10 then s
    else
      ((s.modBil p fun b => { b with ses := some { r with revExport := true } }).modPq p
        fun q => { q with revExport := true }).tamperRecord p 0 2 n (s.nrgAt p).sesExp 0

/-- Readings of the period become the readings of the last latch (R253, R255). -/
def Met.closePeriod (m : Met) (ac : Bool) (last : Nat) : Met :=
  { m with
    last := m.acc, acc := Vector.replicate 24 {}, lastIdx := last, accU := {}, accI := {}
    regU := if ac then rms m.accU.sq m.accU.n else if m.accU.n = 0 then 0 else quot m.accU.sum m.accU.n
    regI := if ac then
        let sq (i : Fin 24) (n : Nat) : Nat := (ix m.path i).amp * (ix m.path i).amp * n
        rms (m.accI.sq - (sq 8 (m.accI.n - m.accI.hi) + sq 9 m.accI.hi) / 20000) m.accI.n
            else if m.accI.n = 0 then 0 else quot m.accI.sum m.accI.n }

/-- The sliding reference after a DC tick (R316): the first tick sets it, later ones move it by 1 / 3 000 of the
difference, truncated, while no event is active. -/
def PqDet.tick (d : PqDet) (sum : Int) (n : Nat) : PqDet :=
  if n = 0 then d
  else
    let u := (sum * 65536).tdiv n
    match d.usr with
    | none => { d with usr := some u }
    | some r =>
      if d.sag.isSome || d.swell.isSome || d.intr.isSome then d else { d with usr := some (r + (u - r).tdiv 3000) }

/-- One latch with boundary n (R260, R263, R276): periodic says that the period ended at a periodic boundary, restored that a restore
makes it (R278). -/
def State.latchAt (s : State) (p : Port) (n : Nat) (periodic line subst : Bool) (restored : Bool := false) : State :=
  let x := s.nrgAt p
  let early := x.hold.filter fun c => c.idx < n
  let late := x.hold.filter fun c => n ≤ c.idx
  let x1 := early.foldl Nrg.absorb { x with hold := [] }
  let s1 := s.modBil p fun b => early.foldl Bil.absorb b
  let cPi := ((s.sourceOf p).map (·.2)).getD 1
  let q : Int := if x1.ps then ((x1.b / cPi : Nat) : Int) else wholeMwh x1.a
  let inSes := s.sesIsOpen p
  let reg := x1.register q inSes
  let x2 := { reg.1 with
    a := if x1.ps then x1.a else x1.a - q * unitK
    b := if x1.ps then x1.b % cPi else x1.b
    aLatch := if x1.ps then x1.a else x1.a - q * unitK, bLatch := if x1.ps then x1.b % cPi else x1.b
    pLatch := meanPower (if x1.ps then q * unitK else x1.eNow) (n - x.periodStart), latchIdx := n, eNow := 0
    period := n - x.periodStart, periodStart := n
    gmax := if periodic then some (n - x.periodStart) else x.gmax
    bridged := x1.brgNow, subst := x1.subNow || subst, lineTick := if periodic then line else x1.lineTick, brgNow := false, subNow := false
    uLast := if x1.uN = 0 then none else some (x1.uSum, x1.uN), uSum := 0, uN := 0 }
  let s2 := s1.modNrg p fun _ => x2
  let flags := b1 x2.bridged ||| b1 x2.subst * 8 ||| b1 x1.overload * 64
  let s3 := s2.modBil p fun b => { b with
    ivImp := b.ivImp + q.toNat, ivExp := b.ivExp + (-q).toNat, ivFlags := b.ivFlags ||| flags
    ses := b.ses.map fun r => { r with
      bridged := r.bridged || x2.bridged, heads := r.heads || !x.ps
      pulse := if x.ps then (s.sourceOf p).map fun k => (k.1.1, k.2) else r.pulse } }
  let s4 := (s3.modMet p fun m => m.closePeriod (s.isAc p) (n - 1)).whenB (periodic && !s.isAc p && x.winFrom.isSome)
    fun t => t.modPq p fun q => { q with det := q.det.tick x1.uSum x1.uN }
  let s5 := s4.creditAt p n q.toNat
  let s6 := if (s5.bilAt p).closesAt n (ix s.cfg.interval p) then (s5.closeInterval p n restored).openInterval p n else s5
  let s7 := (s6.appendLegal (s6.saveRecord p false n x.slot (decide (q < 0)))).revExportAt p n
  let s8 := s7.nrgRaise p (pack [(0, 0, b1 x2.bridged), (6, 6, b1 reg.2)])
  if x.due.isEmpty then
    (s8.modNrg p fun y => late.foldl Nrg.absorb { y with overload := false }).modBil p fun b => late.foldl Bil.absorb b
  else s8.modNrg p fun y => { y with overload := false, hold := late }

/-- Make every periodic latch that is due, oldest first. -/
def State.latchDue (s : State) (p : Port) : State :=
  (s.nrgAt p).due.foldl (fun t d =>
    (t.modNrg p fun x => { x with due := x.due.drop 1 }).latchAt p d.idx true d.line d.subst) s

/-- The periodic latches that are due up to n; a later boundary found since gives way to the forced latch at n (R263). -/
def State.latchUpTo (s : State) (p : Port) (n : Nat) : State :=
  (s.modNrg p fun x => { x with due := x.due.filter fun d => decide (d.idx ≤ n) }).latchDue p

/-- A forced latch (R263): the next period starts at its boundary. -/
def State.forcedLatch (s : State) (p : Port) (n : Nat) : State :=
  ((s.latchUpTo p n).latchAt p n false false false).modNrg p fun y =>
    { y with cycles := 0, cycSkip := true, tickStart := n }

/-! ### Billing stop (R270) -/

/-- Make a billing stop on a port: a forced latch at its boundary while metering, STOPPED, the interval closes, and
LEGAL_GAP goes to Service. -/
def State.stopBilling (s : State) (p : Port) (n : Nat) : State :=
  let x := s.nrgAt p
  if x.stopped || x.ps then s
  else
    let s0 := if x.winFrom.isSome then s.latchUpTo p n else s
    let s1 := s0.modBil p fun b => { b with
      ivFlags := b.ivFlags ||| 2, ses := b.ses.map fun r => { r with stopped := true } }
    let s2 := if x.winFrom.isSome then s1.forcedLatch p n else s1
    let s3 := if x.winFrom.isSome && (s2.bilAt p).ivStart != n then (s2.closeInterval p n).openInterval p n else s2
    ((s3.modNrg p fun y => { y with stopped := true, stopSes := x.winFrom.isNone, stopDue := none }).nrgRaise p 4).emit
      (.legalMsg p .legalGap)

/-- HOLD_MAX and zeroisation stop billing on every port with an open billed session, at the boundary just after the
newest sample held (R270, R478, R503). -/
def State.stopAllBilled (s : State) : State :=
  s.each (n := 8) fun p t => if t.billedOpen p then t.stopBilling p t.legal.proc else t

/-- HOLD_MAX takes effect after the appends of a step (R478). -/
def State.holdStop (s : State) : State := if s.jnl.holdMax then s.stopAllBilled else s

/-- LATCH: the first periodic boundary that is due on the port (R260, R265 to R267). -/
def execLatch (p : Port) (s : State) : Res :=
  .next (match (s.nrgAt p).due with
  | [] => s
  | d :: ds =>
    if !s.legalRun then s
    else ((s.modNrg p fun x => { x with due := ds }).latchAt p d.idx true d.line d.subst).holdStop)

end Sys2Proof.Machine
end

