-- ==== Sys2Proof/Machine/CaveOps.lean ====
section
/-! DEFINITION. The Cave's operations: the drive's regions, the queue and its shedding, the ring of full-rate samples, blocks, windows
and absences (spec 18 R481 to R491). -/

namespace Sys2Proof.Machine

/-! ### Sizes (R481, R490) -/

def mib : Nat := 1048576

/-- C: the part of the namespace that the Cave uses. -/
def Cave.capacity (c : Cave) : Nat := match c.drive with | some d => min (2 ^ 45) (d.size / mib * mib) | none => 0
def Cave.recBytes (c : Cave) : Nat := c.capacity / 64 / mib * mib
def Cave.winBytes (c : Cave) : Nat := c.capacity / 16 / mib * mib
def Cave.recBase : Nat := 66 * mib
def Cave.waveBase (c : Cave) : Nat := 66 * mib + c.recBytes + c.winBytes
/-- Slots of the Waveform region. -/
def Cave.nslot (c : Cave) : Nat := (c.capacity - c.waveBase) / 4096

/-- Bytes of a part of the queue: legal, other, blocks. -/
def Cave.legalPart (c : Cave) : Nat := (c.queue.map fun | .legal r => r.size | _ => 0).sum
def Cave.otherPart (c : Cave) : Nat := (c.queue.map fun | .other r => r.size | _ => 0).sum
def Cave.queued (c : Cave) : Nat := (c.queue.map QItem.size).sum

/-- The Cave is in use. DEDUCED (log 138). -/
def CaveState.usable : CaveState → Bool
  | .ready | .full => true
  | _ => false

/-- Raise CAV_EVENT bits in every guest's copy (R495). -/
def State.caveRaise (s : State) (bits : Word) : State := s.modCave fun c => { c with ev := raiseAll c.ev bits }

/-- Enter a state of CAV_STAT. -/
def State.setCave (s : State) (x : CaveState) : State :=
  if s.cave.state = x then s else (s.modCave fun c => { c with state := x }).caveRaise 1

/-! ### Records (R483, R488, R489) -/

/-- A record as stored: envelope, payload, CRC and padding. -/
def CaveRec.bytes (r : CaveRec) : List Byte :=
  let l := leBytes 2 0xCA7E ++ leBytes 1 r.kind ++ leBytes 1 r.source ++ leBytes 2 r.data.length ++ leBytes 2 0 ++
    leBytes 8 r.seq ++ r.data
  padTo r.size (l ++ leBytes 4 (crc32 l))

/-- A legal journal record whole: header, payload, CRC and padding (R470). -/
def JRec.bytes (r : JRec) : List Byte :=
  let l := leBytes 2 0x4A4C ++ leBytes 1 r.type ++ leBytes 1 (b1 r.held) ++ leBytes 4 r.len ++ leBytes 8 r.seq ++
    padTo r.len r.data
  padTo r.size (l ++ leBytes 4 (crc32 l))

/-- The Cave record of a legal record: KIND 1 to 7 for the types 0x05 to 0x0B. -/
def JRec.toCave (r : JRec) : CaveRec :=
  { kind := r.type - 4, source := if r.type = 8 || r.type = 0x0B then 0xFF else r.src, data := r.bytes, key := r.key, legalSeq := r.seq }

/-- The absence record of a span of a head (R488). -/
def State.absence (s : State) (h : Nat) (stream first last cause : Nat) : State :=
  (s.offer { kind := 11, head := h, run := s.legal.run, key := first
             data := leBytes 1 h ++ leBytes 1 stream ++ leBytes 4 s.legal.run ++ leBytes 6 first ++ leBytes 6 last ++
               leBytes 1 cause }).caveRaise 8

/-- End a head's span. -/
def State.endAbsence (s : State) (h : SLink) : State :=
  match ix s.cave.absent h with
  | some (a, b, c) => (s.absence h.1 0 a b c).modCave fun x => { x with absent := upd x.absent h fun _ => none }
  | none => s

/-- A span of a head: it lengthens the one in progress where it follows it under the same cause, else it ends that one. -/
def State.takeSpan (s : State) (h : SLink) (a b c : Nat) : State :=
  let put (t : State) (x : Nat × Nat × Nat) : State := t.modCave fun y => { y with absent := upd y.absent h fun _ => some x }
  match ix s.cave.absent h with
  | some (a0, b0, c0) => if c0 = c && b0 + 8 = a then put s (a0, b, c) else put (s.endAbsence h) (a, b, c)
  | none => put s (a, b, c)

/-- The spans of a block of a head in order; the last goes on only where it reaches the block's last sample. -/
def State.spans (s : State) (h : SLink) (l : List (Nat × Nat × Nat)) (last : Nat) : State :=
  let t := l.foldl (fun t x => t.takeSpan h x.1 x.2.1 x.2.2) s
  if (l.getLast?.map (·.2.1)) = some last then t else t.endAbsence h

/-- Runs of samples with one cause, from a number on: first, last and cause. -/
def causeRuns : Nat → List (Option Nat) → List (Nat × Nat × Nat)
  | _, [] => []
  | i, none :: l => causeRuns (i + 1) l
  | i, some c :: l => match causeRuns (i + 1) l with
    | (a, b, d) :: r => if a = i + 1 && d = c then (i, b, c) :: r else (i, i, c) :: (a, b, d) :: r
    | [] => [(i, i, c)]

/-- The run record, when a run starts: P0 is the saved position plus 1 200 (R487). -/
def State.runRecord (s : State) : State :=
  let p0 := s.cave.saved + 1200
  (s.modCave fun c => { c with p0 }).offer {
    kind := 12, run := s.legal.run
    data := leBytes 4 s.legal.run ++ leBytes 8 p0 ++ leBytes 8 s.time.chain }

/-! ### Windows (R489) -/

/-- Heads that a window of a source captures: those of the port, or all. -/
def headsOf (source : Nat) : List SLink := (idx 24).filter fun h => source == 0xFF || h.1 / 3 == source

/-- Bytes of a window in the Windows region: a header block and its data blocks. -/
def Win.size (w : Win) : Nat := 4096 * (1 + (headsOf w.source).length * ((w.last + 336 - w.first) / 336))

/-- Validity of a head's samples in a window's blocks, in order. -/
def Cave.winValid (c : Cave) (w : Win) (h : SLink) : List Bool :=
  let l := c.blocks ++ c.queue.filterMap fun | .block b => some b | _ => none
  (l.filter fun b => b.window && b.num == w.num && b.head == h.1).flatMap (·.valid)

/-- Indices of a window's samples that are invalid, as runs, one absence record each (R488). -/
def State.winAbsences (s : State) (w : Win) : State :=
  (headsOf w.source).foldl (fun t h =>
    (causeRuns 0 (((s.cave.winValid w h).take (w.last + 1 - w.first)).map fun v => if v then none else some 1)).foldl (fun t x =>
      t.absence h.1 1 (w.first + x.1) (w.first + x.2.1) 1) t) s

/-- End a window: its record, and its place in the Windows region, which is circular. DEDUCED (log 136). -/
def State.closeWin (s : State) (w : Win) : State :=
  let c := s.cave
  let len := w.last + 1 - w.first
  let s1 := (s.winAbsences w).modCave fun c => { c with
    open_ := c.open_.filter (·.num != w.num), windows := c.windows ++ [w], winPos := (c.winPos + w.size) % max 1 c.winBytes }
  (s1.offer { kind := 13, source := w.source, key := w.num, run := s.legal.run
              data := leBytes 4 w.num ++ leBytes 6 (Cave.recBase + c.recBytes + c.winPos) ++ leBytes 1 w.trigger ++ leBytes 1 w.source ++
                leBytes 4 s.legal.run ++ leBytes 6 w.first ++ leBytes 4 len ++ leBytes 1 (b1 w.truncated * 16) }).caveRaise
    (if w.truncated then 0x30 else 0x10)

/-- The shed level that a fill of the queue leads to (R491). -/
def shedLevel (now fill : Nat) : Nat :=
  if 75 * 16 * mib ≤ 100 * fill then 2
  else if 50 * 16 * mib ≤ 100 * fill then max now 1
  else if 25 * 16 * mib ≤ 100 * fill then min now 1
  else 0

/-- Shedding ends a window with the blocks in progress, the last of which bear TRUNCATED (R486, R491). DESIGN CHOICE (log 198). -/
def Win.truncate (n : Nat) (w : Win) : Win :=
  if w.truncated then w else { w with truncated := true, last := min w.last (w.first + ((n - w.first) / 336 + 1) * 336 - 1) }

/-- Shed and resume by the queue's fill; windows in progress end with TRUNCATED at level 2. -/
def State.shed (s : State) : State :=
  let old := s.cave.shed
  let new := shedLevel old s.cave.queued
  if new = old then s
  else
    let s1 := s.modCave fun c => { c with shed := new }
    if old < new then
      let s2 := ((s1.modCave fun c => { c with shedCount := satAdd 0xFFFF c.shedCount (new - old) }).caveRaise 2).countGroup 16 0x10
        (new - old)
      if new = 2 then
        s2.modCave fun c => { c with
          winRefused := satAdd 0xFFFF c.winRefused (c.open_.filter (! ·.truncated)).length, open_ := c.open_.map (Win.truncate s.legal.proc) }
      else s2
    else s1.caveRaise 4

/-! ### Blocks (R485, R486, R489) -/

/-- The four channels of a head at a sample of the ring, none where it is invalid or no longer there. -/
def Cave.ringAt (c : Cave) (h : SLink) (n : Nat) : Option (Vector Int 4) := ((ix c.ring h).find? (·.n == n)).bind (·.x)

/-- A sample of a head enters the ring, which holds 10 240 of them. -/
def Cave.pushRing (c : Cave) (h : SLink) (n : Nat) (x : Option (Vector Int 4)) : Cave :=
  { c with ring := upd c.ring h fun l => ({ n, x } :: l).take 10240 }

/-- The symmetric taps of the stream filter. -/
def streamTap (i : Nat) : Int := Config.streamTap (min i (127 - i))

/-- Stream sample m of a head: the 128-tap filter over the samples 8m - 127 to 8m, valid only if all of them are (R485). DESIGN CHOICE (log 198). -/
def Cave.streamAt (c : Cave) (h : SLink) (m : Nat) : Option (Vector Int 4) :=
  let gain := ((List.range 128).map streamTap).sum.natAbs
  ((List.range 128).mapM fun i => if i ≤ 8 * m then c.ringAt h (8 * m - i) else none).map fun l =>
    Vector.ofFn fun ch => (sat24 (roundEven (l.mapIdx fun i x => streamTap i * ix x ch).sum gain)).1

/-- SAMPLE of a block: 12 bytes a sample, 0 where VALID is clear. -/
def sampleBytes (l : List (Option (Vector Int 4))) : List Byte :=
  l.flatMap fun
    | some x => (idx 4).flatMap fun ch => leBytes 3 (fldInt 24 (ix x ch))
    | none => leBytes 12 0

/-- FLAGS of a block (R486): GAPS, NOT_IN_SERVICE and CAL. -/
def State.blockFlags (s : State) (h : SLink) (valid : List Bool) : Nat :=
  b1 (!valid.all id) * 2 + b1 (!s.headOk (portOf h) (roleOf h)) * 4 + b1 (s.metAt (portOf h)).pendSet.isSome * 8

/-- Block k of a window of a head, as far as the ring holds it. -/
def State.winBlock (s : State) (w : Win) (k : Nat) (h : SLink) : QItem :=
  let first := w.first + 336 * k
  let l := (List.range 336).map fun i => if first + i ≤ w.last then s.cave.ringAt h (first + i) else none
  let valid := l.map (·.isSome)
  .block { head := h.1, window := true, num := w.num, first, run := s.legal.run, gen := s.cave.gen, valid, data := sampleBytes l
           flags := s.blockFlags h valid + b1 (w.truncated && w.last < first + 336) * 16 }

/-- Block k of a window of every head it captures is queued (R489, R490). -/
def State.winBlocks (s : State) (w : Win) (k : Nat) : State :=
  if !s.cave.state.usable then s
  else (s.modCave fun c => { c with queue := c.queue ++ (headsOf w.source).map (s.winBlock w k) }).shed

/-- The windows in progress after sample n: a block that fills, or the last of its window, is queued. -/
def State.fillWins (s : State) (n : Nat) : State :=
  s.cave.open_.foldl (fun t w =>
    if w.first ≤ n && n ≤ w.last && ((n + 1 - w.first) % 336 = 0 || n = w.last) then t.winBlocks w ((n - w.first) / 336) else t) s

/-- Start or extend a full-rate window; the number of the window, none where it is refused. What precedes the trigger comes from the ring. -/
def State.startWin (s : State) (source trigger : Nat) : State × Option Nat :=
  let c := s.cfg.cave
  let n := s.legal.proc
  let stop := n + c.post * 512
  if !c.windows || !s.cave.state.usable || s.legalVoid then (s, none)
  else if s.cave.shed = 2 then (s.modCave fun x => { x with winRefused := satInc 0xFFFF x.winRefused }, none)
  else match s.cave.open_.find? fun w => w.source == source && n ≤ w.last && !w.truncated with
    | some w =>
      let last := min stop (w.first + 511999)
      (s.modCave fun x => { x with open_ := x.open_.map fun v => if v.num = w.num then { v with last := max v.last last } else v },
        some w.num)
    | none =>
      let num := s.cave.window + 1
      let w : Win := { num, source, trigger, first := n - c.pre * 512, last := stop }
      ((List.range ((n - w.first) / 336)).foldl (fun t k => t.winBlocks w k) (s.modCave fun x => { x with window := num, open_ := x.open_ ++ [w] }),
        some num)

end Sys2Proof.Machine
end

