-- ==== Sys2Proof/Machine/Sensor.lean ====
section
/-! DEFINITION. The sensor link's frames, the pilot, the decimation of a head's bit streams and the pilot correlators (spec 09
R226 to R234, R240, R241, R321). -/

namespace Sys2Proof.Machine

/-! ### Downstream frames (R226, R240, R242) -/

/-- s(n) of R240. -/
def pilotSign (n : Nat) : Int := if n / 1600 % 2 = 0 then 1 else -1

/-- The phase of the pilot at modulator cycle c, in turns of 1/2 048: 2π · 3 (c / 128) / 16. -/
def pilotPhase (c : Nat) : Nat := 3 * c % 2048

/-- A bit of the drive: a sigma-delta stream that carries s · sin at half of full scale, ahead by what brings the winding current
to p[n] (R240). The modulator and the lead are the device's own. DESIGN CHOICE (log 191). -/
def pilotBit (cycle : Nat) : Bool :=
  let c := cycle + Config.pilotLead
  Config.sigmaDelta (pilotSign (c / 128)) (pilotPhase c) cycle

/-- The head register command of the next frame: the write that is owed, else the read whose turn it is (R226, R242). -/
def SLinkSt.command (y : SLinkSt) : Nat :=
  match y.wr, y.want with
  | some v, _ => 2 * 2 ^ 28 + 0x10 * 2 ^ 16 + v
  | none, a :: _ => 2 ^ 28 + a * 2 ^ 16
  | none, [] => 0

/-- Bits 4 to 255 of downstream frame n on a link: FTYPE, IDX, PILOT of frame n + 1 to a current head, CMD and CRC. -/
def State.downBits (s : State) (l : SLink) (n : Nat) : List Bool :=
  let body := lsbBits 4 5 ++ lsbBits 8 (n % 256) ++ ((List.range 128).map fun j => roleOf l != 0 && pilotBit (128 * (n + 1) + j)) ++
    lsbBits 32 (s.slAt l).command ++ List.replicate 64 false
  body ++ lsbBits 16 (crc16 body)

/-- A read goes to the back of those still wanted, until its answer comes. -/
def SLinkSt.sentCommand (y : SLinkSt) : SLinkSt :=
  match y.wr, y.want with
  | none, a :: l => { y with want := l ++ [a] }
  | _, _ => y

/-! ### Upstream frames (R228, R230, R242) -/

/-- What an upstream frame carries: IDX, STATUS, the eight streams with the reference stream, and RSP. -/
structure UpMsg where
  idx : Nat
  status : Nat
  data : List Byte
  rsp : Nat

/-- The data byte of a symbol. -/
def symByte : UpSym → Option Byte
  | .data b => some b
  | .comma | .bad => none

/-- Decode a frame from S0, S1 to S251, and S252 to S255: a comma first and nowhere else, every other symbol a valid data byte, and the
CRC right. -/
def decodeUp (first : UpSym) (body crc : List UpSym) : Option UpMsg :=
  match body.mapM symByte, crc.mapM symByte with
  | some b, some c =>
    if first == .comma && b.length == 251 && c.length == 4 && crc32 b == leNat c then
      some { idx := (b.getD 1 0).toNat, status := (b.getD 2 0).toNat, data := (b.drop 3).take 144, rsp := leNat ((b.drop 147).take 4) }
    else none
  | _, _ => none

/-- The sum of the 128 bits of channel 0's high path, ±1 each (R229). -/
def UpMsg.high (u : UpMsg) : Int :=
  (((u.data.drop 16).take 16).map fun b => 2 * (((List.range 8).filter fun i => b.getLsbD i).length : Int) - 8).sum

/-- Frames up to m are lost: each makes 59 samples invalid (R231). DEDUCED (log 151). -/
def SLinkSt.loseTo (y : SLinkSt) (m : Nat) : SLinkSt :=
  if m ≤ y.frame then y
  else
    let k := m - y.frame
    { y with good := 0, bad := y.bad + k, lostNow := y.lostNow + k, lost := y.lost ++ (List.range k).map (y.frame + ·), frame := m }

/-- The expected frame is lost. -/
def SLinkSt.lose (y : SLinkSt) : SLinkSt := y.loseTo (y.frame + 1)

/-- Write an answered register into the head's registers (R242). -/
def putReg (r : HeadRegs) (a d : Nat) : HeadRegs :=
  let half (v i : Nat) : Nat := v / 2 ^ (16 * (i + 1)) * 2 ^ (16 * (i + 1)) + d * 2 ^ (16 * i) + v % 2 ^ (16 * i)
  match a with
  | 0 => { r with id := d }
  | 9 => { r with range := d }
  | 10 => { r with rangeHi := d }
  | 11 => { r with kref := half r.kref 0 }
  | 12 => { r with kref := half r.kref 1 }
  | 13 => { r with temp := d }
  | 14 => { r with stat := d }
  | _ => if inRange 1 8 a then { r with serial := half r.serial (a - 1) } else r

/-- The response to a command: of a read that is wanted, or of the write (R228, R230). -/
def SLinkSt.answered (y : SLinkSt) (rsp : Nat) : SLinkSt :=
  let a := rsp / 2 ^ 16 % 2 ^ 12
  match rsp / 2 ^ 28 with
  | 1 => if y.want.contains a then { y with want := y.want.erase a, buf := putReg y.buf a (rsp % 2 ^ 16) } else y
  | 2 => if a = 0x10 then { y with wr := none } else y
  | _ => y

/-- A good frame m: those before it that did not come are lost. -/
def SLinkSt.take (y : SLinkSt) (m : Nat) (u : UpMsg) : SLinkSt :=
  let z := y.loseTo m
  let z1 := { z with good := z.good + 1, bad := 0, frames := z.frames ++ [{ m, status := u.status, data := u.data }], frame := m + 1 }
  if u.status.testBit 5 then z1.answered u.rsp else z1

/-- The frame that an IDX names: one that is expected and whose 3 frame periods are not over (R230). DEDUCED (log 151). -/
def SLinkSt.names (y : SLinkSt) (idxNow idx : Nat) : Option Nat :=
  [3, 2, 1].findSome? fun k => if k ≤ idxNow && y.frame ≤ idxNow - k && (idxNow - k) % 256 == idx then some (idxNow - k) else none

/-! ### Streams and decimation (R229, R233) -/

/-- Stream of a channel and path of a head, and the reference stream. -/
def streamOf (role : Fin 3) (ch : Fin 4) (hi : Bool) : Nat := 2 * ch.1 + b1 (hi && role != 0)
def refStream : Nat := 8

/-- The modulator bit of a cycle: +1 or −1; 0 where the frame was not received. -/
def SLinkSt.cycle (y : SLinkSt) (stream : Nat) (c : Int) : Int :=
  if c < 0 then 0
  else
    let j := c.toNat % 128
    match y.frames.find? fun f => f.m == c.toNat / 128 with
    | some f => if (f.data.getD (16 * stream + j / 8) 0).getLsbD (j % 8) then 1 else -1
    | none => 0

/-- A moving sum of 32 modulator cycles, and the fourth-order sinc of stage 1. -/
def box (x : Int → Int) (c : Int) : Int := ((List.range 32).map fun i => x (c - i)).sum
def sinc4 (x : Int → Int) : Int → Int := box (box (box (box x)))

/-- A finite impulse response of n taps over samples a number of modulator cycles apart. -/
def fir (taps : Nat → Int) (n step : Nat) (x : Int → Int) (c : Int) : Int :=
  ((List.range n).map fun i => taps i * x (c - (i * step : Nat))).sum

/-- The 31 taps of stage 2, half-band and symmetric: every second one 0 but the middle one, which is half of the sum; and the 95
of stage 3. DESIGN CHOICE (log 192). -/
def tap2 (i : Nat) : Int :=
  if i = 15 then 2 * ((List.range 8).map Config.halfBandTap).sum
  else if i % 2 = 1 then 0 else Config.halfBandTap (min i (30 - i) / 2)
/-- DESIGN CHOICE (log 192). -/
def tap3 (i : Nat) : Int := Config.firTap (min i (94 - i))

/-- The gain of the three stages to a constant, and the newest modulator cycle that a sample draws on: the stages delay by 62, 480
and 3 008 cycles, and sample n stands 3 552 cycles before the start of frame n (R224, R233). -/
def decimGain : Nat := (2 ^ 20 * ((List.range 31).map tap2).sum * ((List.range 95).map tap3).sum).natAbs
/-- DEDUCED (log 219). -/
def newestCycle (n : Nat) : Int := 128 * n - 3552 + (62 + 480 + 3008)

/-- The raw sample r[n] of a stream: the three stages computed exactly, scaled to 2^23 at full scale, rounded to nearest with ties
to even and saturated to 24 bits. A link that holds no frame gives 0. -/
def SLinkSt.raw (y : SLinkSt) (stream n : Nat) : Int :=
  if y.frames.isEmpty then 0
  else (sat24 (roundEven (fir tap3 95 64 (fir tap2 31 32 (sinc4 (y.cycle stream))) (newestCycle n) * 2 ^ 23) decimGain)).1

/-- STATUS of frame n, 0 where it was not received. -/
def SLinkSt.statusAt (y : SLinkSt) (n : Nat) : Nat := ((y.frames.find? (·.m == n)).map (·.status)).getD 0

/-- Every link that carries frames has received or lost frame n: sample n of every channel is held (R231, R258). -/
def State.samplesHeld (s : State) (n : Nat) : Bool :=
  (idx 24).all fun l => !(s.slAt l).state.active || n < (s.slAt l).frame

/-- What of a link's frames samples from n on still draw on. -/
def SLinkSt.prune (y : SLinkSt) (n : Nat) : SLinkSt :=
  { y with frames := y.frames.filter fun f => n ≤ f.m + 58, lost := y.lost.filter fun m => n ≤ m + 58 }

/-! ### Correlators (R240, R241)

c and q repeat after 16 samples, so a window is held as 16 sums, and I² + Q² is their cyclic autocorrelation weighted with
cosines of multiples of 3π/8. -/

/-- Count a sample into a correlator. -/
def Corr.take (c : Corr) (x : Int) (n : Nat) : Corr :=
  let k : Fin 16 := ⟨n % 16, by omega⟩
  { s := upd c.s k (· + pilotSign n * x), u := upd c.u k (· + x), sum := c.sum + x, n := c.n + 1 }

/-- The integer square root of a number below 4^bits. -/
def isqrtN (bits n : Nat) : Nat := (List.range bits).foldr (fun i r => if (r + 2 ^ i) * (r + 2 ^ i) ≤ n then r + 2 ^ i else r) 0

/-- √(1/2), cos(π/8) and sin(π/8) in units of 2^−512. -/
def halfRoot : Nat := isqrtN 512 (2 ^ 1023)
def cosEighth : Nat := isqrtN 512 (2 ^ 1023 + halfRoot * 2 ^ 511)
def sinEighth : Nat := isqrtN 512 (2 ^ 1023 - halfRoot * 2 ^ 511)

/-- cos(2π · 3d / 16) in units of 2^−512. DESIGN CHOICE (log 154). -/
def pilotCos (d : Nat) : Int :=
  match d % 16 with
  | 0 => 2 ^ 512
  | 1 | 15 => sinEighth
  | 2 | 14 => -halfRoot
  | 3 | 13 => -cosEighth
  | 5 | 11 => cosEighth
  | 6 | 10 => halfRoot
  | 7 | 9 => -sinEighth
  | 8 => -2 ^ 512
  | _ => 0

/-- I² + Q² of 16 sums, in units of 2^−512. -/
def pilotPower (v : Vector Int 16) : Nat :=
  ((idx 16).map fun d => pilotCos d.1 * ((idx 16).map fun k => ix v k * ix v ⟨(k.1 + d.1) % 16, by omega⟩).sum).sum.toNat

/-- The square root of num / den, rounded down or up. -/
def rootOf (num den : Nat) : Nat :=
  if den = 0 then 0
  else
    let r := isqrtN 320 (num / den)
    if r * r * den = num then r else if Config.rootUp num den then r + 1 else r

/-- Â in 10 µA of a path in mA: (2 / W) √(I² + Q²) × 100 with W = 51 200. -/
def ampOf (power : Nat) : Nat := rootOf power (2 ^ 512 * 65536)
/-- Â_R in 10 µA of a reference stream in raw units, scaled by HD_KREF in µA at full scale. -/
def refAmpOf (power kref : Nat) : Nat := rootOf (power * kref ^ 2) (2 ^ 512 * 25600 ^ 2 * 100 * 2 ^ 46)
/-- The pilot ratio R = Â / Â_R in units of 2^−30; where Â_R is 0 it is free. DESIGN CHOICE (log 154). -/
def ratioOf (power powerR kref : Nat) : Nat :=
  if powerR * kref = 0 then Config.ratioAtZero power else rootOf (power * 10 ^ 6 * 2 ^ 106) (powerR * kref ^ 2)
/-- Â_U > 0.05 A: the window is interfered. -/
def interfered (powerU : Nat) : Bool := decide (2500 * 51200 ^ 2 * 2 ^ 512 < 4 * powerU)

/-- The pilot that a path's latest window gives at sample n: s(n) (2 / W) (I cos + Q sin), in mA (R321). -/
def pilotHat (v : Vector Int 16) (n : Nat) : Int :=
  quot (pilotSign n * ((idx 16).map fun k => ix v k * pilotCos (n % 16 + 16 - k.1)).sum) (25600 * 2 ^ 512)

end Sys2Proof.Machine
end

