-- ==== Sys2Proof/Machine/Sample.lean ====
section
/-! DEFINITION. SAMPLE_PROCESS: one sample of every channel (spec 09 R231 to R238, R244; 10 R258, R265 to R272; 12 R315,
R317, R323 to R325), port by port, each part in its own function. -/

namespace Sys2Proof.Machine

/-! ### Calibrated samples (R234 to R237) -/

/-- A path of a channel at a sample: the calibrated value, the overload of the path, and whether it saturated. -/
structure PathX where
  x : Int
  ovr : Bool
  sat : Bool
  raw : Int
  deriving DecidableEq, Repr

/-- Coefficients that measure now: the pending set while calibration is open (R249). -/
def Met.coefs (m : Met) : Vector Coef 24 := m.pendSet.getD m.coef

/-- Number of a path within its port: 8 × ROLE + 2 × CH + PATH. -/
def pathIx (role : Fin 3) (ch : Fin 4) (hi : Bool) : Fin 24 := ⟨8 * role.1 + 2 * ch.1 + b1 hi, by cases hi <;> simp [b1] <;> omega⟩

/-- The calibrated sample of a path (R235), with the overload of R234. -/
def State.pathX (s : State) (p : Port) (role : Fin 3) (ch : Fin 4) (hi : Bool) (n : Nat) : PathX :=
  let y := s.slAt (linkOf p role)
  let raw := y.raw (streamOf role ch hi) n
  let i := pathIx role ch hi
  let k := ix (s.metAt p).coefs i
  let d := if k.phase = 0 then raw else Config.delayed n (24 * p.1 + i.1) k.phase raw
  let v := sat24 (roundEven ((d - k.ofs) * (k.gain : Int)) (2 ^ 32))
  { x := v.1, sat := v.2, raw, ovr := decide (8220836 ≤ raw.natAbs) || (y.statusAt n).testBit (b1 hi) }

/-- choose of R237: the current of a channel and whether it is the high path's. -/
def choose (sel lowFailed : Bool) (lo hi : PathX) : Bool :=
  if lowFailed || lo.ovr then true
  else if !sel && 120000 ≤ hi.x.natAbs then true
  else if sel && hi.x.natAbs < 108000 then false
  else sel

/-- Everything that one sample of a port delivers. -/
structure PortX where
  n : Nat
  /-- Channels of the voltage head, and u_k (R236). -/
  v : Vector (Option Int) 4
  u : Vector (Option Int) 3
  /-- Main channels and check channel 0 after R237: value and high path. -/
  main : Vector (Option (Int × Bool)) 4
  check : Option (Int × Bool)
  sel : Vector Bool 8
  /-- Both paths of each current channel: main 0 to 3, check 0 to 3. -/
  lo : Vector PathX 8
  hi : Vector PathX 8
  volt : Vector PathX 4
  /-- The reference stream of each head in raw units, and the pilot drive fault of its STATUS (R228, R241). -/
  ref : Vector Int 3
  drive : Vector Bool 3
  valid : Vector Bool 3
  sat : Bool

/-- The current channels as roles and channels. -/
def curRole (j : Fin 8) : Fin 3 := ⟨1 + j.1 / 4, by omega⟩
def curCh (j : Fin 8) : Fin 4 := ⟨j.1 % 4, by omega⟩

/-- The samples of a port at index n. DESIGN CHOICE (log 155). -/
def State.portX (s : State) (p : Port) (n : Nat) : PortX :=
  let m := s.metAt p
  let valid : Vector Bool 3 := Vector.ofFn fun r => s.sampleOk p r n
  let volt : Vector PathX 4 := Vector.ofFn fun c => s.pathX p 0 c false n
  let lo : Vector PathX 8 := Vector.ofFn fun j => s.pathX p (curRole j) (curCh j) false n
  let hi : Vector PathX 8 := Vector.ofFn fun j => s.pathX p (curRole j) (curCh j) true n
  let sel : Vector Bool 8 := Vector.ofFn fun j =>
    if ix valid (curRole j) then
      choose (ix m.selHi j) (ix m.path (pathIx (curRole j) (curCh j) false)).latched (ix lo j) (ix hi j)
    else ix m.selHi j
  let cur (j : Fin 8) : Option (Int × Bool) :=
    if ix valid (curRole j) then some (if ix sel j then (ix hi j).x else (ix lo j).x, ix sel j) else none
  let v : Vector (Option Int) 4 := Vector.ofFn fun c => if ix valid 0 then some (ix volt c).x else none
  let diff (a b : Fin 4) : Option Int := do (← ix v a) - (← ix v b)
  { n, valid, volt, lo, hi, sel, v
    ref := Vector.ofFn fun r => (s.slAt (linkOf p r)).raw refStream n
    drive := Vector.ofFn fun r => ((s.slAt (linkOf p r)).statusAt n).testBit 2
    u := if s.isAc p then #v[diff 0 3, diff 1 3, diff 2 3] else #v[diff 0 1, none, none]
    main := #v[cur 0, cur 1, cur 2, cur 3], check := cur 4
    sat := (ix valid 0 && volt.toList.any (·.sat)) ||
      (idx 8).any fun j => ix valid (curRole j) && ((ix lo j).sat || (ix hi j).sat) }

/-! ### Readings, verification sums and calibration (R244, R251, R255) -/

/-- Count a value into sums. -/
def Acc.take (a : Acc) (v : Option Int) (hi : Bool) : Acc :=
  match v with
  | some x => { a with sum := a.sum + x, sq := a.sq + x.natAbs * x.natAbs, n := a.n + 1, peak := max a.peak x.natAbs,
                       hi := a.hi + b1 hi }
  | none => { a with invalid := a.invalid + 1 }

/-- The value of a path at a sample, none where its head's sample is invalid. -/
def PortX.path (x : PortX) (i : Fin 24) : Option PathX :=
  if h : i.1 < 8 then
    if ix x.valid 0 then some (ix x.volt ⟨i.1 / 2, by omega⟩) else none
  else
    let j : Fin 8 := ⟨(i.1 - 8) / 2, by omega⟩
    if ix x.valid (curRole j) then some (if i.1 % 2 = 1 then ix x.hi j else ix x.lo j) else none

/-- Whether a channel delivered its high path: counted in both its paths' readings. -/
def PortX.hiUsed (x : PortX) (i : Fin 24) : Bool :=
  if h : i.1 < 8 then false else ix x.sel ⟨(i.1 - 8) / 2, by omega⟩

/-- Overlap sums take a sample whose high-path value lies within ±150 A and neither path of which is in overload. -/
def OvlSum.take (o : OvlSum) (lo hi : PathX) : OvlSum :=
  if hi.x.natAbs ≤ 150000 && !lo.ovr && !hi.ovr then
    { xy := o.xy + lo.x * hi.x, xx := o.xx + lo.x * lo.x, n := o.n + 1 } else o

/-- A pilot window takes a sample; an invalid sample of a head adds nothing. DESIGN CHOICE (log 154). -/
def PilotWin.take (w : PilotWin) (x : PortX) : PilotWin :=
  { path := Vector.ofFn fun i => match x.path i with
      | some v => (ix w.path i).take v.x x.n
      | none => ix w.path i
    ref := Vector.ofFn fun r => if ix x.valid r then (ix w.ref r).take (ix x.ref r) x.n else ix w.ref r
    clear := Vector.ofFn fun i => match x.path i with
      | some v => ix w.clear i + b1 (!v.ovr)
      | none => ix w.clear i
    drive := Vector.ofFn fun r => ix w.drive r || ix x.drive r
    ovl := Vector.ofFn fun j => if ix x.valid (curRole j) then (ix w.ovl j).take (ix x.lo j) (ix x.hi j) else ix w.ovl j }

/-- The readings, verification sums and range selection after a sample; a pilot window starts at a multiple of 51 200 (R241). -/
def Met.sample (m : Met) (x : PortX) : Met :=
  let start : Bool := x.n % 51200 == 0
  { m with
    selHi := x.sel
    acc := Vector.ofFn fun i => (ix m.acc i).take ((x.path i).map (·.x)) (x.hiUsed i)
    win := (if start then {} else m.win).take x
    ended := if start && x.n != 0 then some m.win else m.ended
    accU := m.accU.take (ix x.u 0) false
    accI := m.accI.take ((ix x.main 0).map (·.1)) ((ix x.main 0).any (·.2)) }

/-- The main-head current of a phase with R237 overridden by FORCE_PATH (R251). -/
def PortX.forced (x : PortX) (force : Nat) (k : Fin 3) : Option Int :=
  let j : Fin 8 := ⟨k.1, by omega⟩
  if ix x.valid 1 then
    match force with
    | 1 => some (ix x.lo j).x
    | 2 => some (ix x.hi j).x
    | _ => (ix x.main ⟨k.1, by omega⟩).map (·.1)
  else none

/-- Sample energy of phases under FORCE_PATH: one phase, or the first n. -/
def PortX.calEnergy (x : PortX) (force element phases : Nat) : Int :=
  ((idx 3).map fun k =>
    if (element = 0 ∧ k.1 < phases) ∨ element = k.1 + 1 then
      match ix x.u k, x.forced force k with
      | some u, some i => u * i
      | _, _ => 0
    else 0).sum

/-- A running measurement takes a sample (R251, R255). -/
def CalMeas.sample (c : CalMeas) (x : PortX) (phases : Nat) : CalMeas :=
  match c.start with
  | none => c
  | some _ =>
    match c.mode with
    | 0 => { c with e := c.e + x.calEnergy c.force c.element phases, n := c.n + 1 }
    | 1 =>
      match x.path ⟨c.path % 24, by omega⟩ with
      | some v => { c with sum := c.sum + v.raw, sq := c.sq + v.raw * v.raw, n := c.n + 1 }
      | none => c
    | _ =>
      let j : Fin 8 := ⟨(c.path - 8) / 2 % 8, by omega⟩
      if ix x.valid (curRole j) && (ix x.hi j).x.natAbs ≤ 150000 && !(ix x.lo j).ovr && !(ix x.hi j).ovr then
        { c with xy := c.xy + (ix x.lo j).x * (ix x.hi j).x, xx := c.xx + (ix x.lo j).x * (ix x.lo j).x, n := c.n + 1 }
      else c

/-! ### Line cycles and DC ticks (R265 to R267) -/

/-- A positive-going crossing, and one that ends a line cycle: 800 to 1 280 samples after its start. -/
def Nrg.posCross (x : Nrg) (u1 : Option Int) : Bool :=
  match u1 with
  | some u => x.armed && decide (0 ≤ u)
  | none => false
def Nrg.crosses (x : Nrg) (u1 : Option Int) (n : Nat) : Bool :=
  x.posCross u1 && decide (x.cycStart + 800 ≤ n) && decide (n ≤ x.cycStart + 1280)

/-- End a line cycle at a boundary: after LATCH_CYCLES cycles a latch is due. -/
def Nrg.endCycle (x : Nrg) (n cycles : Nat) (subst : Bool) : Nrg :=
  let len := n - x.cycStart
  let k := if x.cycSkip then 0 else x.cycles + 1
  let x1 := { x with cycStart := n, cycLen := len, cycSkip := false, subNow := x.subNow || (subst && x.due.isEmpty) }
  if cycles ≤ k then { x1 with cycles := 0, due := x1.due ++ [{ idx := n, subst }] } else { x1 with cycles := k }

/-- The line-cycle detector of an AC port at a sample: arming below −20 V, and the crossing. -/
def Nrg.line (x : Nrg) (u1 : Option Int) (n cycles : Nat) : Nrg :=
  let c := x.crosses u1 n
  let low := match u1 with | some u => decide (u < -2000) | none => false
  let high := match u1 with | some u => decide (0 ≤ u) | none => false
  let x1 := { x with armed := if low then true else if high then false else x.armed }
  if c then x1.endCycle n cycles false else x1

/-- A DC tick ends at a crossing of the site reference 975 to 1 075 samples after it began (R267). -/
def Nrg.tick (x : Nrg) (crossed : Bool) (n : Nat) : Nrg :=
  if crossed && x.tickStart + 975 ≤ n && n ≤ x.tickStart + 1075 then
    { x with tickStart := n, due := x.due ++ [{ idx := n, line := true }] } else x

/-- Whether a sample's contribution must wait for a boundary not yet known or not yet latched. -/
def Nrg.mustHold (x : Nrg) (ac : Bool) (n : Nat) : Bool :=
  !x.due.isEmpty || (if ac then decide (x.cycStart + 1280 ≤ n) else decide (x.tickStart + 1024 ≤ n))

/-! ### Creep, gaps and sample energy (R238, R258, R269, R270) -/

/-- Below the creep threshold: mean of x² − Â²/2 over the samples of the window, against (0.001 × RATED_I)². -/
def creepBelow (w : List (Option (Nat × Nat))) (rated : Nat) : Bool :=
  let l := w.filterMap id
  if l.isEmpty then true
  else
    let sq := (l.map (·.1)).sum
    let am := (l.map fun e => e.2 * e.2).sum
    decide (Int.ofNat (20000000000 * sq) - Int.ofNat (1000000 * am) < Int.ofNat (l.length * 20000 * (rated * rated)))

/-- The energy-path current of a phase: value, Â in 10 µA, and whether it is substituted. -/
structure Cur where
  i : Int
  amp : Nat
  subst : Bool

/-- What the sample of a gap is computed from on an AC port: the last complete line cycle before the gap (R269). -/
def substAt {α : Type} (sub : Option (Nat × List Snap)) (n : Nat) (get : Snap → Option α) : Option α :=
  match sub with
  | some (g, l) => if l.isEmpty then none else (l[(n - g) % l.length]?).bind get
  | none => none

/-- The cycle of samples that a gap beginning at n repeats: the last L of the history, oldest first. -/
def Nrg.cycleBefore (x : Nrg) (n : Nat) : Option (Nat × List Snap) :=
  if x.cycLen = 0 then none else some (n, (x.hist.take x.cycLen).reverse)

/-- Energy registration of a sample while the metering window is open. -/
structure Metered where
  contrib : Contrib
  nrg : Nrg
  /-- An uncovered sample occurred. -/
  unc : Bool

/-- Gap lengths, substitutes and the window's samples for a sample (R258, R269, R270). -/
def State.meter (s : State) (p : Port) (x : PortX) (y : Nrg) : Metered :=
  let ac := s.isAc p
  let k := s.phases p
  let m := s.metAt p
  let iBad := !(ix x.valid 1 && s.headOk p 1)
  let uBad := !(ix x.valid 0 && s.headOk p 0)
  let g := y.gmax.getD (if ac then (ix s.cfg.energy p).cycles * 1024 else 1024)
  let iGap := if iBad then y.iGap + 1 else 0
  let uGap := if uBad then y.uGap + 1 else 0
  let iSub := if iBad then (if y.iGap = 0 then y.cycleBefore x.n else y.iSub) else none
  let uSub := if uBad then (if y.uGap = 0 then y.cycleBefore x.n else y.uSub) else none
  let uHeld := if uBad then (if y.uGap = 0 then y.uLast else y.uHeld) else none
  let amp (role : Fin 3) (ch : Fin 4) (hi : Bool) : Nat := (ix m.path (pathIx role ch hi)).amp
  let cur (j : Fin 3) : Option Cur :=
    let ch : Fin 4 := ⟨j.1, by omega⟩
    if !iBad then (ix x.main ch).map fun v => { i := v.1, amp := amp 1 ch v.2, subst := false }
    else if ac then (substAt iSub x.n fun e => ix e.i j).map fun v => { i := v.1, amp := amp 1 ch v.2, subst := true }
    else if s.headOk p 2 then x.check.map fun v => { i := v.1, amp := amp 2 0 v.2, subst := true } else none
  let volt (j : Fin 3) : Option Int :=
    if !uBad then ix x.u j
    else if ac then substAt uSub x.n fun e => ix e.u j
    else uHeld.map fun q => quot q.1 q.2
  let ks := (idx 3).filter fun j => j.1 < k
  let creep : Vector (List (Option (Nat × Nat))) 3 := Vector.ofFn fun j =>
    (((cur j).map fun c => (c.i.natAbs * c.i.natAbs, c.amp)) :: ix y.creep j).take 1024
  let parts := ks.map fun j => match volt j, cur j with
    | some u, some c => some (if creepBelow (ix y.creep j) (s.ratedI p) then 0 else u * c.i)
    | _, _ => none
  let covered := parts.all (·.isSome)
  let dead := y.stopped || y.stopDue.isSome || y.ps
  let e := if covered && !dead then (parts.map fun v => v.getD 0).sum else 0
  let unc := !covered && !dead
  let uncRun := if covered then 0 else y.uncRun + 1
  let past := !y.ps && !y.stopped && (decide (g < iGap) || decide (g < uGap) || decide (1024 < uncRun))
  let stopDue := if y.stopDue.isSome then y.stopDue else if past then some x.n else none
  let stop := y.stopped || stopDue.isSome
  let e1 := if stop then 0 else e
  { unc := unc && !stop
    contrib := { idx := x.n, e := e1, subst := !stop && !y.ps && covered && (iBad || uBad), unc := unc && !stop,
                 u := if uBad then none else ix x.u 0, metered := true, ovl := x.sat }
    nrg := { y with
      iGap, uGap, iSub, uSub, uHeld, uncRun, creep, stopDue
      gapLong := min 0xFFFF (max y.gapLong (max iGap uGap)), unc := if unc && !stop then satInc 0xFFFF y.unc else y.unc
      unmetered := if stop && !y.ps then y.unmetered + 1 else y.unmetered } }

/-- The pulse generator's sum for a sample (R272): P_acc, PEND and the pulses lost at saturation. -/
def Nrg.pulse (x : Nrg) (e : Int) (cPo : Nat) : Nrg × Bool :=
  let q : Int := 1000000 * unitK
  let acc := max (x.pAcc + e * cPo) (-q)
  let k := if q ≤ acc then (acc / q).toNat else 0
  ({ x with pAcc := acc - k * q, pend := min 65535 (x.pend + k) }, decide (65535 < x.pend + k))

/-- Whether a sample lies in the metering window (R259). -/
def Nrg.inWindow (x : Nrg) (n : Nat) : Bool :=
  match x.winFrom with
  | some a => decide (a ≤ n) && (match x.winEnd with | some b => decide (n < b) | none => true)
  | none => false

/-- The creep windows after a sample outside the metering window: the main head's samples, where it is in service (R238). -/
def State.creepX (s : State) (p : Port) (x : PortX) (y : Nrg) : Vector (List (Option (Nat × Nat))) 3 :=
  let ok := ix x.valid 1 && s.headOk p 1
  Vector.ofFn fun j =>
    let ch : Fin 4 := ⟨j.1, by omega⟩
    let c := if ok then (ix x.main ch).map fun v => (v.1.natAbs * v.1.natAbs, (ix (s.metAt p).path (pathIx 1 ch v.2)).amp) else none
    (c :: ix y.creep j).take 1024

/-- Energy of a port for a sample: the window's accumulation and pulses, or the end of a gap outside it. -/
def State.energyX (s : State) (p : Port) (x : PortX) : State :=
  let y := s.nrgAt p
  let snap : Snap := { u := x.u, i := #v[ix x.main 0, ix x.main 1, ix x.main 2] }
  let keep (z : Nrg) : Nrg := { z with hist := (snap :: z.hist).take 1280 }
  if y.inWindow x.n then
    let r := s.meter p x y
    let c := ix s.cfg.energy p
    let po := if c.poEn && !y.ps && !(r.nrg.stopped || r.nrg.stopDue.isSome) then
      r.nrg.pulse (if c.poExport then -r.contrib.e else r.contrib.e) c.cPo else (r.nrg, false)
    let hold := y.mustHold (s.isAc p) x.n
    let z := if hold then { po.1 with hold := po.1.hold ++ [r.contrib] } else po.1.absorb r.contrib
    let s1 := s.modNrg p fun _ => { keep z with net := y.net + r.contrib.e }
    let s2 := if hold then s1 else s1.modBil p fun b => b.absorb r.contrib
    s2.nrgRaise p (pack [(1, 1, b1 r.unc), (3, 3, b1 (decide (256 < po.1.pend) && !decide (256 < y.pend))), (4, 4, b1 po.2)])
  else s.modNrg p fun z => keep { z with
      iGap := 0, uGap := 0, uncRun := 0, iSub := none, uSub := none, uHeld := none, creep := s.creepX p x y
      overload := z.overload || x.sat }

/-! ### Voltage detectors (R315 to R320) -/

/-- A value against a percentage of a reference in 10 mV × 2^16. -/
def PqVal.below (v : PqVal) (pct : Nat) (ref : Int) : Bool :=
  match v with
  | .rms sq n => decide ((sq : Int) * 10000 * 2 ^ 32 < (pct : Int) * pct * ref * ref * n)
  | .mean sum n => decide (sum * 100 * 65536 < (pct : Int) * ref * n)
def PqVal.above (v : PqVal) (pct : Nat) (ref : Int) : Bool :=
  match v with
  | .rms sq n => decide ((pct : Int) * pct * ref * ref * n < (sq : Int) * 10000 * 2 ^ 32)
  | .mean sum n => decide ((pct : Int) * ref * n < sum * 100 * 65536)
def PqVal.less (a b : PqVal) : Bool :=
  match a, b with
  | .rms x n, .rms y m => decide (x * m < y * n)
  | .mean x n, .mean y m => decide (x * m < y * n)
  | _, _ => false
/-- A value in 10 mV, and in per mille of a reference, to nearest. -/
def PqVal.out : PqVal → Int
  | .rms sq n => (Sys2Proof.rms sq n : Int)
  | .mean sum n => if n = 0 then 0 else quot sum n
def PqVal.perMille (v : PqVal) (ref : Int) : Nat :=
  if ref ≤ 0 then 0 else ((v.out * 65536 * 2000 + ref) / (2 * ref)).toNat

/-- Thresholds and reference of a detector. -/
structure PqRef where
  cfg : PqCfg
  ref : Int
  deriving DecidableEq, Repr

/-- The value of a channel, with its number and whether it is substituted. -/
structure PqPoint where
  ch : Nat
  val : PqVal
  subst : Bool

/-- Start or follow an event on the values of the channels present. -/
def PqEv.follow (e : PqEv) (lowest : Bool) (vals : List PqPoint) (part : PqVal → Bool) : PqEv :=
  let best := vals.foldl (fun (b : PqVal × Nat) c =>
    if (if lowest then c.val.less b.1 else b.1.less c.val) then (c.val, c.ch) else b) (e.extreme, e.extCh)
  { e with extreme := best.1, extCh := best.2, flags := e.flags ||| b1 (vals.any (·.subst))
           channels := vals.foldl (fun a c => if part c.val then a ||| 2 ^ c.ch else a) e.channels }

/-- The event record of R319. -/
def pqRecord (kind source : Nat) (e : PqEv) (n run ses seq flags : Nat) : List Byte :=
  let ext := e.extreme.out
  leBytes 1 kind ++ leBytes 1 source ++ leBytes 1 e.channels ++ leBytes 1 (e.flags ||| flags) ++ leBytes 4 run ++
    leBytes 6 e.start ++ leBytes 6 n ++ leBytes 4 ((n - e.start) * 1953125 / 100000) ++ leBytes 4 (fldInt 32 ext) ++
    leBytes 1 e.extCh ++ leBytes 2 (e.extreme.perMille e.ref) ++ leBytes 1 0 ++ leBytes 4 ses ++ leBytes 4 seq

/-- The detector of a source: a port's, or the site's. -/
def State.detOf (s : State) : Option Port → PqDet
  | some p => (s.pqAt p).det
  | none => s.legal.site
def State.modDet (s : State) (src : Option Port) (f : PqDet → PqDet) : State :=
  match src with
  | some p => s.modPq p fun q => { q with det := f q.det }
  | none => s.modLegal fun l => { l with site := f l.site }
def State.pqEvent (s : State) (src : Option Port) (bits : Word) : State :=
  match src with
  | some p => s.pqRaise p bits
  | none => s.pqSiteRaise bits

/-- Close an event: its record goes to the ring of 64, the oldest that Service has not taken being dropped (R320). -/
def State.pqClose (s : State) (src : Option Port) (kind : Nat) (e : PqEv) (n flags : Nat) : State :=
  let ses := match src with | some p => (((s.bilAt p).ses.map (·.no)).getD 0) | none => 0
  let fl := (flags ||| 2 * b1 e.skipped) ||| (if ses = 0 then 0 else 4)
  let seq := (s.legal.pqSeq + 1) % 2 ^ 32
  let source := match src with | some p => p.1 | none => 0xFF
  let rec_ : PqRec := { seq, source, bytes := pqRecord kind source e n s.legal.run ses seq fl }
  let ring := s.legal.pqRing ++ [rec_]
  let s1 := s.modLegal fun l => { l with
    pqSeq := seq, pqRing := ring.drop (ring.length - 64)
    pqDropped := if 64 < ring.length && !((ring.headD rec_).taken) then satInc 0xFFFFFFFF l.pqDropped else l.pqDropped }
  let s2 := s1.modDet src fun d => { d with
    lastKind := kind, lastPm := min 4095 (e.extreme.perMille e.ref)
    lastMs := min 65535 ((n - e.start) * 1953125 / 100000000) }
  s2.pqEvent src (oneBit (2 * kind - 1))

/-- An event is active. -/
def PqDet.active (d : PqDet) : Bool := d.sag.isSome || d.swell.isSome || d.intr.isSome

/-- A value of a detector was skipped for an invalid sample: its active events keep the mark (R315, R319). -/
def PqDet.skip (d : PqDet) : PqDet :=
  let mark (e : PqEv) : PqEv := { e with skipped := true }
  { d with sag := d.sag.map mark, swell := d.swell.map mark, intr := d.intr.map mark }

/-- Judge the values of the channels at a refresh (R317). A channel that holds no value yet meets no condition, so what is asked of
every channel waits for it. -/
def State.pqJudge (s : State) (src : Option Port) (r : PqRef) (channels : Nat) (vals : List PqPoint) (n : Nat) : State :=
  if vals.isEmpty then s
  else
    let d := s.detOf src
    let every (f : PqVal → Bool) : Bool := vals.length == channels && vals.all fun c => f c.val
    let fresh (c : PqPoint) : PqEv :=
      { start := n, extreme := c.val, extCh := c.ch, ref := r.ref, sag := r.cfg.sag, swell := r.cfg.swell, intr := r.cfg.intr,
        hyst := r.cfg.hyst }
    -- sag
    let s1 := match d.sag with
      | some e =>
        let e1 := e.follow true vals (·.below e.sag e.ref)
        if every fun v => !v.below (e.sag + e.hyst) e.ref then
          (s.modDet src fun x => { x with sag := none }).pqClose src 1 e1 n 0
        else s.modDet src fun x => { x with sag := some e1 }
      | none =>
        match vals.find? fun c => c.val.below r.cfg.sag r.ref with
        | some c => (s.modDet src fun x => { x with
            sag := some ((fresh c).follow true vals (·.below r.cfg.sag r.ref)) }).pqEvent src 1
        | none => s
    -- swell
    let s2 := match d.swell with
      | some e =>
        let e1 := e.follow false vals (·.above e.swell e.ref)
        if every fun v => !v.above (e.swell - e.hyst) e.ref then
          (s1.modDet src fun x => { x with swell := none }).pqClose src 2 e1 n 0
        else s1.modDet src fun x => { x with swell := some e1 }
      | none =>
        match vals.find? fun c => c.val.above r.cfg.swell r.ref with
        | some c => (s1.modDet src fun x => { x with
            swell := some ((fresh c).follow false vals (·.above r.cfg.swell r.ref)) }).pqEvent src 4
        | none => s1
    -- interruption
    match d.intr with
      | some e =>
        let e1 := e.follow true vals (·.below e.intr e.ref)
        if vals.any fun c => !c.val.below (e.intr + e.hyst) e.ref then
          (s2.modDet src fun x => { x with intr := none }).pqClose src 3 e1 n 0
        else s2.modDet src fun x => { x with intr := some e1 }
      | none =>
        if every (·.below r.cfg.intr r.ref) then
          match vals with
          | c :: _ => (s2.modDet src fun x => { x with
              intr := some ((fresh c).follow true vals (·.below r.cfg.intr r.ref)) }).pqEvent src 0x10
          | [] => s2
        else s2

/-- Close every active event of a detector with flags (R318, R319). -/
def State.pqEndAll (s : State) (src : Option Port) (n cause : Nat) : State :=
  let d := s.detOf src
  let s1 := match d.sag with | some e => s.pqClose src 1 e n cause | none => s
  let s2 := match d.swell with | some e => s1.pqClose src 2 e n cause | none => s1
  let s3 := match d.intr with | some e => s2.pqClose src 3 e n cause | none => s2
  s3.modDet src fun x => { x with sag := none, swell := none, intr := none }

/-- The RMS over the newest samples of a channel of the history, none where one is invalid. -/
def rmsOver (hist : List (Vector (Option Int) 3)) (k : Fin 3) (count : Nat) : Option PqVal :=
  let l := (hist.take count).map fun v => ix v k
  if l.all (·.isSome) && !l.isEmpty then
    some (.rms ((l.filterMap id).map fun v => v.natAbs * v.natAbs).sum l.length) else none

/-- A window takes a sample, none where it is invalid; and its value. -/
def CycSum.take (w : CycSum) (u : Option Int) : CycSum :=
  match u with
  | some v => { w with sq := w.sq + v.natAbs * v.natAbs, n := w.n + 1 }
  | none => { w with n := w.n + 1, bad := true }
def CycSum.rms (w : CycSum) : Option PqVal := if w.bad || w.n = 0 then none else some (.rms w.sq w.n)

/-- What a sample did to a channel of a detector. -/
inductive PqStep where
  | none | formed | skipped
  deriving DecidableEq, Repr

/-- A refresh at an accepted crossing, over the window since the last one of its direction. A value not formed leaves the last one. -/
def PqCh.refreshed (c : PqCh) (n : Nat) (prev : Option Nat) (w : CycSum) : PqCh × PqStep :=
  let c1 := { c with refresh := some n }
  match prev, w.rms with
  | none, _ => (c1, .none)
  | some _, some v => ({ c1 with val := some v, subst := false }, .formed)
  | some _, none => (c1, .skipped)

/-- A channel of an AC detector at a sample (R315): the channel after it, and what became of its value. -/
def PqCh.sample (c : PqCh) (u : Option Int) (n : Nat) : PqCh × PqStep :=
  let c0 := { c with posWin := c.posWin.take u, negWin := c.negWin.take u, refresh := some (c.refresh.getD n) }
  match u with
  | none => (c0, .none)
  | some v =>
    let up := c.posArmed && decide (0 ≤ v) && (match c.pos with | some a => decide (a + 800 ≤ n) | none => true)
    let dn := c.negArmed && decide (v ≤ 0) && (match c.neg with | some a => decide (a + 800 ≤ n) | none => true)
    let c1 := { c0 with
      posArmed := if v < -2000 then true else if 0 ≤ v then false else c.posArmed
      negArmed := if 2000 < v then true else if v ≤ 0 then false else c.negArmed }
    if up then { c1 with pos := some n, posWin := {} }.refreshed n c.pos c0.posWin
    else if dn then { c1 with neg := some n, negWin := {} }.refreshed n c.neg c0.negWin
    else (c1, .none)

/-- The channels of a detector that have a value. -/
def PqDet.vals (d : PqDet) (channels : Nat) : List PqPoint :=
  (idx 3).filterMap fun k =>
    if k.1 < channels then (ix d.ch k).val.map fun v => { ch := k.1, val := v, subst := (ix d.ch k).subst } else none

/-- An AC detector takes a sample. -/
def State.pqAc (s : State) (src : Option Port) (r : PqRef) (u : Vector (Option Int) 3) (channels n : Nat) : State :=
  let d := s.detOf src
  let hist := (u :: d.hist).take 1280
  let res : Vector (PqCh × PqStep) 3 := Vector.ofFn fun k =>
    if k.1 < channels then (ix d.ch k).sample (ix u k) n else (ix d.ch k, .none)
  let any (x : PqStep) : Bool := (idx 3).any fun k => (ix res k).2 == x
  let d1 := { d with hist, ch := vmap (·.1) res }
  let d2 := if any .skipped then d1.skip else d1
  let s1 := s.modDet src fun _ => d2
  if any .formed then s1.pqJudge src r channels (d2.vals channels) n else s1

/-- A port's DC detector takes a sample (R316): a value every 256 samples once the first tick has set U_sr. -/
def State.pqDc (s : State) (p : Port) (cfg : PqCfg) (u : Vector (Option Int) 3) (n : Nat) : State :=
  let d := (s.pqAt p).det
  let hist := (u :: d.hist).take 1280
  let s1 := s.modDet (some p) fun x => { x with hist := hist }
  match d.usr with
  | none => s1
  | some ref =>
    if n % 256 = 0 && 512 ≤ d.hist.length then
      let l := (d.hist.take 512).map fun v => ix v 0
      if l.all (·.isSome) then
        s1.pqJudge (some p) { cfg, ref } 1 [{ ch := 0, val := .mean ((l.filterMap id).sum) 512, subst := false }] n
      else s1.modDet (some p) PqDet.skip
    else s1

/-- Reference of an AC source: U_din in 10 mV with 16 fractional bits. -/
def PqCfg.acRef (c : PqCfg) : PqRef := { cfg := c, ref := c.uDin * 10 * 65536 }

/-- The port detector at a sample (R314): only inside the metering window. -/
def State.pqPort (s : State) (p : Port) (x : PortX) : State :=
  if !(s.nrgAt p).inWindow x.n then s
  else if s.isAc p then s.pqAc (some p) (ix s.cfg.pq p).acRef x.u (s.phases p) x.n
  else s.pqDc p (ix s.cfg.pq p) x.u x.n

/-- The port that is site reference, while its voltage head is in service (R267, R314). -/
def State.siteRef (s : State) : Option Port :=
  if h : s.cfg.supply.siteRef < 8 then
    let p : Port := ⟨s.cfg.supply.siteRef, h⟩
    if s.headOk p 0 then some p else none
  else none

/-! ### Tamper units (R323 to R325) -/

/-- A delivered current with its pilot removed sample by sample (R321). -/
def State.noPilot (s : State) (p : Port) (role : Fin 3) (ch : Fin 4) (v : Int × Bool) (n : Nat) : Int :=
  v.1 - pilotHat (ix (s.metAt p).path (pathIx role ch v.2)).sums n

/-- A comparison unit takes a sample. -/
def State.unitX (s : State) (p : Port) (x : PortX) (w : Unit12) : Unit12 :=
  let main (c : Fin 4) : Option Int := (ix x.main c).map fun v => s.noPilot p 1 c v x.n
  let check : Option Int := x.check.map fun v => s.noPilot p 2 0 v x.n
  let i1 := (main 0).getD 0
  let i2 := (main 1).getD 0
  let i3 := (main 2).getD 0
  let iN := (main 3).getD 0
  let ph := if s.phases p = 3 then i1 + i2 + i3 else i1
  let all := i1 + i2 + i3 + iN
  let r := check.getD 0
  let sqr (v : Int) : Nat := v.natAbs * v.natAbs
  let pw (k : Fin 3) (i : Int) : Int := ((ix x.u k).getD 0) * i
  { n := w.n + 1, whole := w.whole
    badV := w.badV || !ix x.valid 0, badM := w.badM || !ix x.valid 1, badC := w.badC || !ix x.valid 2
    mainSum := w.mainSum + i1, checkSum := w.checkSum + r
    sq := #v[ix w.sq 0 + sqr i1, ix w.sq 1 + sqr i2, ix w.sq 2 + sqr i3]
    power := #v[ix w.power 0 + pw 0 i1, ix w.power 1 + pw 1 i2, ix w.power 2 + pw 2 i3]
    phaseSq := w.phaseSq + sqr ph, allSq := w.allSq + sqr all, resSq := w.resSq + sqr r, nSq := w.nSq + sqr iN
    xnSq := w.xnSq + sqr ((ix x.v 3).getD 0) }

/-- A unit of a persistence (R324): a disagreeing one lengthens the run of disagreement, an agreeing one that of
agreement, and each ends the other. -/
def Persist.unit (c : Persist) (bad : Bool) (len worst : Nat) (v1 v2 : Int) (n : Nat) : Persist :=
  if bad then { c with bad := c.bad + len, badN := c.badN + 1, good := 0, units := c.units + 1, v1, v2, at_ := n
                       worst := max c.worst worst }
  else { c with good := c.good + len, bad := 0, badN := 0, at_ := n, units := if c.active then c.units + 1 else 0
                worst := if c.active then max c.worst worst else 0 }

/-- Sign of a quantity, for the comparison of R323. -/
def sgn (i : Int) : Int := if i < 0 then -1 else if i = 0 then 0 else 1

/-- One qualifying unit of the polarity check of a phase; the tenth decides. -/
def State.revUnit (s : State) (p : Port) (k : Fin 3) (opposite : Bool) (n : Nat) (v1 v2 : Int) : State :=
  let r := ix (s.pqAt p).rev k
  if 10 ≤ r.n then s
  else
    let r1 : RevPol := { n := r.n + 1, opp := r.opp + b1 opposite }
    let s1 := s.modPq p fun q => { q with rev := upd q.rev k fun _ => r1 }
    if r1.n = 10 && 8 ≤ r1.opp then
      (s1.modPq p fun q => { q with revPol := true }).tamperRecord p 1 2 n v1 v2 else s1

/-- max(1 A, 0.01 × RATED_I) in 10 µA (R323). -/
def State.qualify (s : State) (p : Port) : Nat := max 100000 (s.ratedI p)

/-- The end of a DC unit of 512 samples. -/
def State.dcUnitEnd (s : State) (p : Port) (w : Unit12) (n : Nat) : State :=
  if w.badM || w.badC || w.n < 512 || !s.headOk p 1 || !s.headOk p 2 then s
  else
    let m := w.mainSum
    let c := w.checkSum
    let q := s.qualify p * 512
    let d := (m - c).natAbs
    let lim := 2 * max m.natAbs c.natAbs + 100 * 1000 * 512
    let v (i : Int) : Int := quot i 512
    let s1 := if q ≤ 100 * m.natAbs && q ≤ 100 * c.natAbs then s.revUnit p 0 (decide (sgn m ≠ sgn c)) n (v m) (v c) else s
    s1.modPq p fun y => { y with
      diff := v (m - c)
      bypass := y.bypass.unit (decide (lim < 100 * d)) 512 (v (m - c)).natAbs (v m) (v c) n }

/-- The end of an AC unit: one line cycle of u_1. What ran from the opening of the window to the first crossing is none. -/
def State.acUnitEnd (s : State) (p : Port) (w : Unit12) (n : Nat) : State :=
  if w.n = 0 || !w.whole then s
  else
    let k := w.n
    let okV := s.headOk p 0 && !w.badV
    let okM := s.headOk p 1 && !w.badM
    let okC := s.headOk p 2 && !w.badC
    let ks := (idx 3).filter fun j => j.1 < s.phases p
    let total := (ks.map fun j => ix w.power j).sum
    let s1 := if s.phases p = 3 && okM && okV then
        ks.foldl (fun t j =>
          if s.qualify p * s.qualify p * k ≤ 10000 * ix w.sq j then
            t.revUnit p j (decide (sgn (ix w.power j) = -sgn total) && decide (total ≠ 0)) n (j.1 + 1) (quot (ix w.power j) (k * 100000))
          else t) s
      else s
    let a := rms w.allSq k
    let r := rms w.resSq k
    let big := (ks.map fun j => rms (ix w.sq j) k).foldl max 0
    let d : Int := (a : Int) - r
    let s2 := if okM && okC then
        s1.modPq p fun y => { y with
          diff := d, bypass := y.bypass.unit (decide (2 * big + 100 * 1000 < 100 * d.natAbs)) k d.natAbs a r n }
      else s1
    let uDin := (ix s.cfg.pq p).uDin * 10
    let s3 := if okV then
        s2.modPq p fun y => { y with
          neutV := y.neutV.unit (decide (uDin * uDin * k < 25 * w.xnSq)) k 0 (rms w.xnSq k) uDin n }
      else s2
    if okM then
      s3.modPq p fun y => { y with
        neutI := y.neutI.unit (decide (2000 * 2000 * k ≤ w.phaseSq) && decide (100 * w.nSq < w.phaseSq)) k 0
          (rms w.phaseSq k) (rms w.nSq k) n }
    else s3

/-- Tamper detection of a port at a sample, inside the window; crossed tells that a line cycle of u_1 ended at it. DEDUCED (log 146). -/
def State.tamperX (s : State) (p : Port) (x : PortX) (crossed : Bool) : State :=
  if !(s.nrgAt p).inWindow x.n then s
  else
    let w := (s.pqAt p).unit
    if s.isAc p then
      let s1 := if crossed then (s.acUnitEnd p w x.n).modPq p fun q => { q with unit := { whole := true } } else s
      s1.modPq p fun q => { q with unit := s1.unitX p x q.unit }
    else
      let s1 := if x.n % 512 = 0 then (s.dcUnitEnd p w x.n).modPq p fun q => { q with unit := {} } else s
      s1.modPq p fun q => { q with unit := s1.unitX p x q.unit }

/-! ### The sample as a whole -/

/-- The line cycles and ticks of a port at a sample. -/
def State.lineX (s : State) (p : Port) (x : PortX) (site : Bool) : State :=
  if s.isAc p then s.modNrg p fun y => y.line (ix x.u 0) x.n (ix s.cfg.energy p).cycles
  else s.modNrg p fun y => y.tick site x.n

/-- A port that a metrology configuration names takes a sample. DEDUCED (log 133). -/
def State.sampleX (s : State) (p : Port) (x : PortX) (crossed site : Bool) : State :=
  let k := s.phases p
  let s1 := s.modMet p fun m =>
    let m1 := m.sample x
    { m1 with meas := m1.meas.map fun c => c.sample x k }
  let s2 := if x.sat then s1.metRaise p 0x100 else s1
  ((((s2.lineX p x site).energyX p x).pqPort p x).tamperX p x crossed)

/-- The end of a window in the registration: gaps end, and STOPPED clears (R259, R270). -/
def Nrg.endWindow (y : Nrg) : Nrg :=
  { y with
    winFrom := none, winEnd := none, stopDue := none, iGap := 0, uGap := 0, uncRun := 0, stopped := y.stopped && y.stopSes }

/-- The window ends with the sample whose frame was in progress at the open confirmation: the closing latch (R259,
R263). Events and conditions still active end with it (R318, R321). DEDUCED (log 146). -/
def State.closeWindow (s : State) (p : Port) (n : Nat) : State :=
  let s0 := match (s.nrgAt p).stopDue with
    | some m => s.stopBilling p m
    | none => s
  let s1 := s0.forcedLatch p n
  let s2 := s1.pqEndAll (some p) n 8
  let endOne (t : State) (k : Fin 5) (c : Persist) (v1 v2 : Int) : State :=
    if c.active then t.tamperRecord p k 1 n v1 v2 true else t
  let q := s2.pqAt p
  let s3 := endOne s2 2 q.bypass q.bypass.worst q.bypass.units
  let s4 := endOne s3 3 q.neutV q.neutV.v1 q.neutV.v2
  let s5 := endOne s4 4 q.neutI q.neutI.v1 q.neutI.v2
  (s5.modPq p fun y => { y with
      bypass := {}, neutV := {}, neutI := {}, unit := {}, rev := Vector.replicate 3 {}
      det := { y.det with ch := Vector.replicate 3 {}, hist := [], usr := none } }).modNrg p Nrg.endWindow

/-- What a head delivers for the Cave at a sample: calibrated voltages, or the currents of the paths in use before the creep rule
(R485). -/
def PortX.stream (x : PortX) (role : Fin 3) : Option (Vector Int 4) :=
  if !ix x.valid role then none
  else if role = 0 then some (Vector.ofFn fun c => (ix x.volt c).x)
  else some (Vector.ofFn fun c =>
    let j : Fin 8 := ⟨(4 * (role.1 - 1) + c.1) % 8, by omega⟩
    if ix x.sel j then (ix x.hi j).x else (ix x.lo j).x)

/-- The sample of every head goes to the Cave's ring, and from there into the windows in progress (R489). -/
def State.ringX (s : State) (xs : Vector PortX 8) (n : Nat) : State :=
  (s.modCave fun c => (idx 24).foldl (fun c h => c.pushRing h n ((ix xs (portOf h)).stream (roleOf h))) c).fillWins n

/-- Close the windows that end before the next sample. -/
def State.closeEnded (s : State) : State :=
  s.each (n := 8) fun p t =>
    match (t.nrgAt p).winEnd with
    | some e => if t.legal.proc < e then t else if t.legalRun then t.closeWindow p e else t.modNrg p Nrg.endWindow
    | none => t

/-- A sample while Legal is VOID: counted unmetered in the windows still open, until they end (R270, R503). -/
def State.voidSample (s : State) (n : Nat) : State :=
  ((s.each (n := 8) fun p t => if (t.nrgAt p).inWindow n && !(t.nrgAt p).ps then
    t.modNrg p fun x => { x with unmetered := x.unmetered + 1 } else t).modLegal fun l => { l with proc := n + 1 }).closeEnded

/-- SAMPLE_PROCESS: Legal holds sample n, the next, of every channel, its frames having come or been lost (R231, R258, R262). -/
def execSampleProcess (n : Nat) (s : State) : Res :=
  .next (if !s.legalClock || s.legal.idx ≤ s.legal.proc || !s.samplesHeld s.legal.proc || n != s.legal.proc then s
  else if !s.legalRun then s.voidSample n
  else
    let xs : Vector PortX 8 := Vector.ofFn fun p => s.portX p n
    let crossed (p : Port) : Bool := s.isAc p && (s.metCfg p).isSome && (s.nrgAt p).crosses (ix (ix xs p).u 0) n
    let site := match s.siteRef with
      | some p => s.isAc p && (s.metCfg p).isSome && (s.nrgAt p).posCross (ix (ix xs p).u 0)
      | none => false
    let s1 := s.each (n := 8) fun p t => if (t.metCfg p).isSome then t.sampleX p (ix xs p) (crossed p) site else t
    let s2 := match s.siteRef with
      | some p => s1.pqAc none s.cfg.pqSite.acRef (ix xs p).u (if s.phases p = 3 then 3 else 1) n
      | none => s1
    let s3 := (s2.modLegal fun l => { l with proc := n + 1 }).each (n := 24) fun l t =>
      t.modSl l fun y => y.prune (n + 1)
    ((s3.ringX xs n).closeEnded).holdStop)

end Sys2Proof.Machine
end

