-- ==== Sys2Proof/Machine/Metrology.lean ====
section
/-! DEFINITION. Metrology: sensor links, verification, clock supervision, calibration and the commands of group 0x20
(spec 09). -/

namespace Sys2Proof.Machine

/-! ### Sensor links (R226 to R232, R242) -/

/-- The site detector stops: its events end with a flag and its half-cycle values go (R314, R319, R328). -/
def State.stopSite (s : State) (cause : Nat) : State :=
  (s.pqEndAll none s.legal.proc cause).modDet none fun d => { d with ch := Vector.replicate 3 {}, hist := [] }

/-- What follows where heads leave service between two states: the comparison stops and an active BYPASS ends with the
check head, voltage events with the voltage head (R319, R324). -/
def State.headsFrom (t s : State) : State :=
  t.each (n := 8) fun p x =>
    let x1 := if s.headOk p 2 && !t.headOk p 2 then
        (if (x.pqAt p).bypass.active then
          x.tamperRecord p 2 1 x.legal.proc (x.pqAt p).bypass.worst (x.pqAt p).bypass.units else x).modPq p
          fun q => { q with bypass := {} }
      else x
    let x2 := if s.headOk p 0 && !t.headOk p 0 then
        let y := x1.pqEndAll (some p) x1.legal.proc 0x10
        if s.siteRef = some p then y.stopSite 0x10 else y
      else x1
    x2

/-- A running CAL_MEASURE ends with a result; its notice has the length of R254. (R250, R256). -/
def State.endMeasure (s : State) (p : Port) (code : Nat) : State :=
  match (s.metAt p).meas with
  | some c => (s.final c.req code (List.replicate 8 0)).modMet p fun m => { m with meas := none }
  | none => s

/-- A head leaves RUN: a CAL_MEASURE of its port ends with FAULT (R250). -/
def State.leaveRun (s : State) (l : SLink) (x : SlState) : State :=
  (((s.modSl l fun y => { y with state := x, good := 0, reread := false, poll := false, want := [] }).endMeasure (portOf l) Code.fault).headsFrom s)

/-- The head type that a link's role needs (R22, R242). -/
def headTypeOk (l : SLink) (regs : HeadRegs) : Bool := regs.id / 4096 % 16 == (if (roleOf l) = 0 then 1 else 2)

/-- HEAD_CHANGED where a serial differs from the identity record. -/
def State.judgeSerial (s : State) (l : SLink) (regs : HeadRegs) : State :=
  let bad := ix (s.metAt (portOf l)).bound (roleOf l) != some regs.serial
  let s1 := s.modSl l fun y => { y with foreign := bad }
  if bad && !(s.slAt l).foreign then (s1.modMet (portOf l) fun m => { m with headChanged := true }).metRaise (portOf l) 0x20 else s1

/-- SAMPLE_FRAME_SEND: frame n goes out on every configured link at one edge; a link in DOWN enters TRAINING; each second the lost
frames of the last one are shown (R224, R226, R232, R253). -/
def execSampleFrameSend (s : State) : Res :=
  .next (if !s.legalClock then s
  else
    let n := s.legal.idx
    let named (l : SLink) : Bool := (s.metCfg (portOf l)).isSome
    let out := ((idx 24).filter named).map fun l => Out.sensorFrame l n (s.downBits l n)
    let s1 := (s.modSent (· ++ out)).modLegal fun x => { x with idx := n + 1 }
    s1.each (n := 24) fun l t => t.modSl l fun y =>
      let y1 := if n % 51200 = 0 then { y with lostSec := min 1023 y.lostNow, lostNow := 0 } else y
      let y2 := if named l then y1.sentCommand else y1
      if named l && y2.state == .down then { y2 with state := .training, frame := n, good := 0, bad := 0 } else y2)

/-- The poll's registers have all been answered: a serial or a type that changed is found (R232, R242). -/
def State.pollDone (s : State) (l : SLink) : State :=
  let y := s.slAt l
  if !y.poll || !y.want.isEmpty || y.state != .run then s
  else
    let regs : HeadRegs := { y.regs with id := y.buf.id, serial := y.buf.serial, temp := y.buf.temp, stat := y.buf.stat }
    let s1 := s.modSl l fun y => { y with regs, poll := false }
    if !headTypeOk l regs then s1.leaveRun l .fault else (s1.judgeSerial l regs).headsFrom s

/-- The bits of the main head's high path go to Safety too (R339). -/
def State.toSafety (s : State) (l : SLink) (u : UpMsg) : State :=
  if roleOf l != 1 then s
  else s.modSp (portOf l) fun x => { x with curSum := x.curSum + u.high, curN := x.curN + 128 }

/-- UPSTREAM_FRAME: a frame that is whole and names an expected frame is taken; another is lost in the place of the one expected
(R228, R230). -/
def execUpstreamFrame (l : SLink) (first : UpSym) (body : List UpSym) (crc : List UpSym) (s : State) : Res :=
  let y := s.slAt l
  .next (if !y.state.active then s
  else match (decodeUp first body crc).bind fun u => (y.names s.legal.idx u.idx).map fun m => (m, u) with
    | some (m, u) => ((s.modSl l fun y => y.take m u).toSafety l u).pollDone l
    | none => if y.frame < s.legal.idx && s.legal.idx ≤ y.frame + 3 then s.modSl l SLinkSt.lose else s)

/-- UPSTREAM_FRAME_LATE: the expected frame did not come within 3 frame periods (R230). -/
def execUpstreamFrameLate (l : SLink) (s : State) : Res :=
  let y := s.slAt l
  .next (if y.state.active && y.frame + 4 ≤ s.legal.idx then s.modSl l SLinkSt.lose else s)

/-- SL_LOST_FRAMES_LIMIT (R232). -/
def execSlLostFramesLimit (l : SLink) (s : State) : Res :=
  .next (if (s.slAt l).state == .run && 8 ≤ (s.slAt l).bad then (s.leaveRun l .stalled).metRaise (portOf l) 1 else s)

/-- Ask for every register of a head, and set MOD_EN and, on a current head, PILOT_EN (R242). -/
def State.readHead (s : State) (l : SLink) : State :=
  s.modSl l fun y => { y with want := List.range 15, wr := some (if (roleOf l) = 0 then 2 else 3), buf := {}, poll := false }

/-- SL_GOOD_FRAME_RUN: 64 good frames in a row (R232). -/
def execSlGoodFrameRun (l : SLink) (s : State) : Res :=
  let y := s.slAt l
  .next (if y.good < 64 then s
  else match y.state with
    | .training => (s.modSl l fun y => { y with state := .ident }).readHead l
    | .stalled => if y.reread then s else (s.modSl l fun y => { y with reread := true }).readHead l
    | _ => s)

/-- SL_TRAINING_TIMEOUT: LINK_ERR counts (R232). -/
def execSlTrainingTimeout (l : SLink) (s : State) : Res :=
  .next (if (s.slAt l).state == .training && (s.slAt l).good < 64 then
    s.modSl l fun y => { y with lostNow := y.lostNow + 1, good := 0 } else s)

/-- SL_STALL_TIMEOUT (R232). -/
def execSlStallTimeout (l : SLink) (s : State) : Res :=
  .next (if (s.slAt l).state == .stalled then
    s.modSl l fun y => { y with state := .training, good := 0, bad := 0, reread := false, want := [] } else s)

/-- HEAD_REGISTERS_READ: every register has been answered, with the values regs, in IDENT or on recovery from STALLED (R232, R242). -/
def execHeadRegistersRead (l : SLink) (regs : HeadRegs) (s : State) : Res :=
  let y := s.slAt l
  .next (if (y.state == .ident || (y.state == .stalled && y.reread)) && y.want.isEmpty && y.buf == regs then
    let s1 := s.modSl l fun y => { y with regs := y.buf, reread := false }
    if !headTypeOk l y.buf then s1.modSl l fun y => { y with state := .fault }
    else
      let s2 := s1.modSl l fun y => { y with state := .run, bad := 0, validFrom := max y.validFrom (s.legal.idx + 59), foreign := false }
      let s3 := s2.judgeSerial l y.buf
      if y.state == .stalled then s3.metRaise (portOf l) 2 else s3
  else s)

/-- The registers of the poll: HD_ID, HD_SERIAL, HD_TEMP and HD_STAT. -/
def polledRegs : List Nat := [0, 1, 2, 3, 4, 5, 6, 7, 8, 13, 14]

/-- HEAD_POLL: temperature, status, identity and serial are asked for, once per second, in an order of the device's choosing (R232,
R242). -/
def execHeadPoll (l : SLink) (order : List Nat) (s : State) : Res :=
  .next (if (s.slAt l).state == .run && order.isPerm polledRegs then
    s.modSl l fun y => { y with want := order, buf := y.regs, poll := true }
  else s)

/-! ### Verification (R241 to R245) -/

/-- Sum and count of the ratios, against PILOT_REF: |δ̄| beyond k units of 10⁻⁴. -/
def PathV.beyond (v : PathV) (pref k : Nat) : Bool :=
  let n := v.ratios.length
  decide (n ≠ 0) && decide (k * (n * pref) < 10000 * ((v.ratios.sum : Int) - (n * pref : Nat)).natAbs)

/-- δ̄ in 0.001 % (R253). -/
def PathV.dev (v : PathV) (pref : Nat) : Int :=
  let n := v.ratios.length
  if n * pref = 0 then 0 else quot (((v.ratios.sum : Int) - (n * pref : Nat)) * 100000) (n * pref)

/-- State of a path from its mean deviation. -/
def PathV.judge (v : PathV) (pref : Nat) : Verify :=
  if v.beyond pref 10 then .fail else if v.beyond pref 5 then .warn else .ok

/-- The current paths that a port's type uses (R249). -/
def State.usedPath (s : State) (p : Port) (i : Fin 24) : Bool :=
  if i.1 < 8 then false
  else if i.1 < 16 then s.isAc p || i.1 < 10
  else i.1 < 18

/-- The correlators' results for a path: Â, Â_R and Â_U in 10 µA, the pilot ratio, and whether the window is interfered (R241). -/
structure PilotResult where
  amp : Nat
  ampR : Nat
  ampU : Nat
  ratio : Nat
  noisy : Bool
  sums : Vector Int 16

/-- The results of a path's window against the reference stream of its head. -/
def pilotResult (c r : Corr) (kref : Nat) : PilotResult :=
  let p := pilotPower c.s
  let pu := pilotPower c.u
  let pr := pilotPower r.s
  { amp := ampOf p, ampR := refAmpOf pr kref, ampU := ampOf pu, ratio := ratioOf p pr kref, noisy := interfered pu, sums := c.s }

/-- What a window adds to a current path (R243). -/
def PathV.window (v : PathV) (w : PilotResult) (pref : Nat) (usable : Bool) : PathV :=
  let v1 := { v with amp := w.amp, ampR := w.ampR, ampU := w.ampU, sums := w.sums }
  if usable then
    let v2 := { v1 with ratios := (w.ratio :: v.ratios).take 16, unusable := 0 }
    let j := v2.judge pref
    let okRun := if v.recheck && j == .ok then v.okRun + 1 else 0
    if v.latched then
      if 16 ≤ okRun then { v2 with latched := false, recheck := false, okRun := 0, state := .ok }
      else { v2 with state := .fail, okRun }
    else { v2 with state := j, latched := j == .fail }
  else
    let v2 := { v1 with unusable := v.unusable + 1, okRun := 0 }
    if v.latched then v2 else if 16 ≤ v2.unusable then { v2 with state := .suspended } else v2

/-- The window of the voltage head's reference: its mean within ±0.03 % of HD_KREF (R241). -/
def PathV.refWindow (v : PathV) (c : Corr) (kref : Nat) : PathV :=
  if c.n = 0 then v
  else
    let mean := (quot c.sum c.n).toNat
    let bad := decide (3 * kref * c.n < 10000 * (c.sum - (kref * c.n : Nat)).natAbs)
    let v1 := { v with amp := mean, ratios := (mean :: v.ratios).take 16 }
    let okRun := if v.recheck && !bad then v.okRun + 1 else 0
    if bad then { v1 with state := .fail, latched := true, okRun := 0 }
    else if v.latched && 16 ≤ okRun then { v1 with latched := false, recheck := false, okRun := 0, state := .ok }
    else { v1 with okRun }

/-- A FAIL takes a head out of service: the gap is taken to have begun earlier, so billing stops at the sample at
which FAIL is raised (R245, R271). -/
def State.failHead (s : State) (p : Port) (role : Fin 3) : State :=
  let s1 := s.modSl (linkOf p role) fun y => { y with failed := true }
  let n := s.legal.proc
  if role = 2 then s1
  else s1.modNrg p fun x =>
    if !x.inWindow n then x
    else
      let gap := n - max (51200 * ((n - 1) / 51200 - 1)) (x.winFrom.getD n)
      { x with
        iGap := if role = 1 then max x.iGap gap else x.iGap, uGap := if role = 0 then max x.uGap gap else x.uGap
        gapLong := min 0xFFFF (max x.gapLong gap)
        stopDue := if x.stopped || x.ps then x.stopDue else some (x.stopDue.getD n) }

/-- A path latches FAIL (R245). -/
def State.latchFail (s : State) (p : Port) (i : Fin 24) : State :=
  let s1 := (s.modMet p fun m => { m with path := upd m.path i fun v => { v with state := .fail, latched := true } }).metRaise p 8
  if i.1 < 8 then s1.failHead p 0
  else if i.1 % 2 = 0 then s1
  else s1.failHead p (if i.1 < 16 then 1 else 2)

/-- A latched FAIL that takes a head out of service stands: on a high path of a current head, or on the voltage head's reference (R245). -/
def Met.headFails (m : Met) (role : Fin 3) : Bool :=
  if role = 0 then (ix m.path 0).latched else (idx 24).any fun i => i.1 / 8 == role.1 && i.1 % 2 == 1 && (ix m.path i).latched

/-- One path at a window's end: its state, its events, and FAIL where it latches. -/
def State.pathWindow (s : State) (p : Port) (i : Fin 24) (w : PilotWin) : State :=
  let role : Fin 3 := ⟨i.1 / 8 % 3, by omega⟩
  let l := s.slAt (linkOf p role)
  let v := ix (s.metAt p).path i
  if l.state != .run then s
  else
    let r := pilotResult (ix w.path i) (ix w.ref role) l.regs.kref
    let usable := !r.noisy && !(l.regs.stat.testBit 2 || ix w.drive role) && (i.1 % 2 == 1 || 46080 ≤ ix w.clear i)
    let v1 := if i.1 = 0 then v.refWindow (ix w.ref 0) l.regs.kref else v.window r (ix (s.metAt p).coefs i).pref usable
    let s1 := s.modMet p fun m => { m with path := upd m.path i fun _ => v1 }
    let s2 := if v1.state == .warn && v.state != .warn then s1.metRaise p 4 else s1
    let s3 := if v1.state == .suspended && v.state != .suspended then s2.metRaise p 0x80 else s2
    let s4 := if v1.latched && !v.latched then s3.latchFail p i else s3
    if !v1.latched && v.latched then s4.modSl (linkOf p role) fun y => { y with failed := (s4.metAt p).headFails role } else s4

/-- The overlap mismatch of a channel at a window's end (R244). -/
def State.overlapWindow (s : State) (p : Port) (j : Fin 8) (o : OvlSum) : State :=
  let low : Fin 24 := ⟨8 + 2 * j.1, by omega⟩
  if o.n < 5000 || o.xx ≤ 0 then s
  else
    let bad := 500 * o.xx < 1000000 * ((o.xy - o.xx).natAbs : Int)
    let run := if bad then (ix (s.metAt p).ovl j).run + 1 else 0
    let s1 := s.modMet p fun m => { m with
      ovl := upd m.ovl j fun _ => { last := satInt 16 (quot ((o.xy - o.xx) * 1000000) o.xx.toNat), run } }
    if run = 8 || (8 < run && !(ix (s.metAt p).path low).latched) then (s1.metRaise p 0x10).latchFail p low else s1

/-- PILOT_WINDOW_END: GAIN_VERIFY and OVERLAP_CHECK of a port, on window w, which has ended: samples 51 200 w to 51 200 (w + 1) − 1
(R241, R243 to R245). DESIGN CHOICE (log 154). -/
def execPilotWindowEnd (p : Port) (w : Nat) (s : State) : Res :=
  .next (match (s.metAt p).ended with
  | none => s
  | some x =>
    if w + 1 != (s.legal.proc - 1) / 51200 then s else
    let paths := (idx 24).filter fun i => i == 0 || s.usedPath p i
    let s1 := paths.foldl (fun t i => t.pathWindow p i x) s
    let s2 := s1.each (n := 8) fun j t => t.overlapWindow p j (ix x.ovl j)
    let s3 := s2.modMet p fun m => { m with ended := none, capture := m.capture.map fun c => (c.1, c.2 + 1) }
    s3.headsFrom s)

/-- VERIFY_SUSPEND_TIMEOUT: 10 min continuously SUSPENDED (R243). -/
def execVerifySuspendTimeout (p : Port) (path : Fin 24) (s : State) : Res :=
  .next (if (ix (s.metAt p).path path).state == .suspended then (s.latchFail p path).headsFrom s else s)

/-- LEGAL_CLOCK_WINDOW: the deviation of a 10 s window in 0.001 ppm (R248). -/
def execLegalClockWindow (dev : Int) (s : State) : Res :=
  let l := s.legal
  .next (if 100000 < dev.natAbs then
    let s1 := s.modLegal fun l => { l with clkBad := l.clkBad + 1, clkGood := 0, clkFault := l.clkFault || 1 ≤ l.clkBad }
    if s1.legal.clkFault && !l.clkFault then (s1.each (n := 8) fun p t => t.metRaise p 0x200).headsFrom s else s1
  else if dev.natAbs ≤ 50000 then
    s.modLegal fun l => { l with clkBad := 0, clkGood := l.clkGood + 1, clkFault := l.clkFault && l.clkGood + 1 < 6 }
  else s.modLegal fun l => { l with clkBad := 0, clkGood := 0 })

/-! ### Registers (R253) -/

/-- Worst path of a current head: FAIL, then SUSPENDED, then WARN. -/
def Met.worst (m : Met) (role : Nat) : Nat :=
  let l := ((idx 24).filter fun i => i.1 / 8 = role).map fun i => (ix m.path i).state
  if l.contains .fail then 2 else if l.contains .suspended then 3 else if l.contains .warn then 1 else 0

/-- A low path of a current head has latched FAIL. -/
def Met.rangeLocked (m : Met) : Bool := (idx 24).any fun i => 8 ≤ i.1 && i.1 % 2 == 0 && (ix m.path i).latched

/-- MET_STAT(p). -/
def State.metStat (s : State) (p : Port) : Word :=
  let m := s.metAt p
  let st (r : Fin 3) := (s.slAt (linkOf p r)).state.code
  pack [(31, 29, st 0), (28, 26, st 1), (25, 23, st 2),
    (22, 20, flagWord [s.headOk p 0, s.headOk p 1, s.headOk p 2]), (19, 18, m.worst 1), (17, 16, m.worst 2),
    (15, 15, b1 (ix m.selHi 0)), (14, 14, b1 m.rangeLocked), (13, 13, b1 m.pendSet.isSome), (12, 12, b1 m.headChanged),
    (11, 11, b1 s.legal.clkFault), (10, 10, b1 (s.nrgAt p).ps), (9, 9, b1 (s.meteringReady p))]

/-- The block MET_STAT … MET_EVENT of a port as a guest reads it. -/
def State.metBlock (s : State) (g : Guest) (p : Port) : List Word :=
  let m := s.metAt p
  let lost (r : Fin 3) := (s.slAt (linkOf p r)).lostSec
  let dev (i : Fin 24) := fldInt 16 (satInt 16 ((ix m.path i).dev (ix m.coefs i).pref))
  [s.metStat p, wInt m.regU, wInt m.regI, pack [(15, 0, dev 9), (31, 16, dev 17)],
    pack [(15, 0, fldInt 16 (ix m.ovl 0).last), (31, 16, fldInt 16 (ix m.ovl 4).last)],
    pack [(9, 0, lost 0), (19, 10, lost 1), (29, 20, lost 2)], pack [(15, 0, m.calCount)], ix m.ev g]

/-! ### Commands of group 0x20 (R254 to R256) -/

/-- VOID where Legal is VOID, else the command's own answer (R254, R284, R309, R331). -/
def State.unlessVoid (s : State) (r : Req) (f : State → State) : State :=
  if s.legalVoid then s.answer r Code.void else f s

def execGetMetrologyStatus (r : Req) (s : State) : Res :=
  .next (s.unlessVoid r fun s => s.answer r Code.done (s.metBlock r.guest r.port))

def execGetChannelReading (r : Req) (s : State) : Res :=
  .next (s.unlessVoid r fun s =>
    match r.pathAt 3 0 with
    | none => s.answer r Code.outOfRange
    | some i =>
      let m := s.metAt r.port
      let a := ix m.last i
      let amp := (ix m.path i).amp
      let sq := if i.1 < 8 then a.sq else a.sq - amp * amp * a.n / 20000
      s.answer r Code.done ([wInt (if a.n = 0 then 0 else quot a.sum a.n), pack [(23, 0, rms sq a.n)],
        pack [(23, 0, a.peak)]] ++ pair48 m.lastIdx ++ [pack [(15, 0, min 0xFFFF a.invalid), (31, 16, min 0xFFFF (a.hi / 16))]]))

def execGetVerification (r : Req) (s : State) : Res :=
  .next (s.unlessVoid r fun s =>
    match r.pathAt 3 0 with
    | none => s.answer r Code.outOfRange
    | some i0 =>
      let m := s.metAt r.port
      let i : Fin 24 := if i0.1 < 8 then 0 else i0
      let v := ix m.path i
      let pref := if i.1 < 8 then (s.slAt (linkOf r.port 0)).regs.kref else (ix m.coefs i).pref
      s.answer r Code.done [pack [(23, 0, v.amp)], pack [(23, 0, v.ampR)], wInt (v.dev pref), pack [(23, 0, v.ampU)],
        pack [(1, 0, v.state.code), (15, 8, v.ratios.length)], if i.1 < 8 then 0 else w32 (ix m.coef i).pref])

/-- The four words of a 128-bit serial (R113). -/
def serialWords (n : Nat) : List Word := bytesToWords (leBytes 16 n)

def execGetHeadInfo (r : Req) (s : State) : Res :=
  .next (s.unlessVoid r fun s =>
    if h : r.fld 3 1 0 < 3 then
      let role : Fin 3 := ⟨r.fld 3 1 0, h⟩
      let x := (s.slAt (linkOf r.port role)).regs
      let b := (ix (s.metAt r.port).bound role).getD 0
      s.answer r Code.done (serialWords x.serial ++ [pack [(15, 0, x.id), (31, 16, x.range)], pack [(15, 0, x.rangeHi)],
        w32 x.kref, pack [(15, 0, x.temp)], pack [(15, 0, x.stat)]] ++ (serialWords b).take 3)
    else s.answer r Code.outOfRange)

def execGetCalCoeff (r : Req) (s : State) : Res :=
  .next (s.unlessVoid r fun s =>
    match r.pathAt 3 0 with
    | none => s.answer r Code.outOfRange
    | some i =>
      let m := s.metAt r.port
      let out (c : Coef) : State := s.answer r Code.done [wInt c.ofs, w32 c.gain, wInt c.phase,
        if i.1 < 8 then 0 else w32 c.pref, pack [(15, 0, m.calCount)]]
      if r.bit 3 12 then match m.pendSet with
        | some v => out (ix v i)
        | none => s.answer r Code.wrongState
      else out (ix m.coef i))

def execBeginCalibration (r : Req) (s : State) : Res :=
  .next (s.unlessVoid r fun s =>
    let p := r.port
    if !s.inService || (s.sesAt p).state != .off || (s.metAt p).pendSet.isSome then s.answer r Code.wrongState
    else (s.modMet p fun m => { m with pendSet := some m.coef, calOvl := Vector.replicate 8 none }).answer r Code.done)

def execSetCalCoeff (r : Req) (s : State) : Res :=
  .next (s.unlessVoid r fun s =>
    let p := r.port
    match (s.metAt p).pendSet, r.pathAt 3 0 with
    | none, _ => s.answer r Code.wrongState
    | some _, none => s.answer r Code.outOfRange
    | some v, some i =>
      let phase := sext 16 (r.fld 6 15 0)
      if phase = -32768 then s.answer r Code.outOfRange
      else (s.modMet p fun m => { m with
          pendSet := some (upd v i fun c => { c with ofs := r.int24 4, gain := (r.word 5).toNat, phase })
          calOvl := if h : 8 ≤ i.1 then upd m.calOvl ⟨(i.1 - 8) / 2, by omega⟩ fun _ => none else m.calOvl }).answer r Code.done)

/-- The element exists on the port's type: L1 to L3 on AC, whatever PHASES says (R255, R256). -/
def State.elementOk (s : State) (p : Port) (e : Nat) : Bool := if s.isAc p then e ≤ 3 else e == 0

/-- The error of sample energies e against a number of pulses of a meter constant, in ppm, from the exact quotients (R251, R275). -/
def pulseErr (e : Int) (pulses c : Nat) : Int :=
  let ref := pulses * 1000000000 * unitK
  roundEven ((e * 1000 * c - ref) * 1000000) (max 1 ref)

def execCalMeasure (r : Req) (s : State) : Res :=
  .next (s.unlessVoid r fun s =>
    let p := r.port
    let mode := r.fld 3 1 0
    let c := r.fld 5 23 0
    let path := r.pathAt 3 16
    let ok := r.fld 3 9 8 < 3 && s.elementOk p (r.fld 3 13 12) && match mode with
      | 0 => inRange 100 1000000 (r.fld 4 23 0) && inRange 1000 10000000 c
      | 1 => path.isSome && inRange 1 600 (r.fld 6 11 0)
      | 2 => (match path with | some i => 8 ≤ i.1 | none => false) && inRange 1 600 (r.fld 6 11 0)
      | _ => false
    if (s.metAt p).pendSet.isNone || (s.metAt p).meas.isSome then s.answer r Code.wrongState
    else if !ok then s.answer r Code.outOfRange
    else (s.modMet p fun m => { m with meas := some {
        req := r, mode, pi := ⟨r.fld 3 4 4 % 2, by omega⟩, force := r.fld 3 9 8, element := r.fld 3 13 12
        path := (path.map (·.1)).getD 0, pulses := r.fld 4 23 0, const := c, seconds := r.fld 6 11 0
        start := if mode = 0 then none else some s.legal.proc } }).accept r)

/-- The notice of a CAL_MEASURE (R255): E_DEV, E_REF, ERR, DURATION_MS, MEAN_RAW, RMS_RAW. -/
def calNotice (eDev eRef : Nat) (err : Int) (ms : Nat) (mean : Int) (rmsRaw : Nat) : List Word :=
  pair48 eDev ++ pair48 eRef ++ [wInt (satInt 24 err), pack [(23, 0, ms)], wInt mean, pack [(23, 0, rmsRaw)]]

/-- CAL_MEASURE_DURATION_END: MODE 1 gives mean and RMS raw, MODE 2 the overlap mismatch (R255). -/
def execCalMeasureDurationEnd (p : Port) (s : State) : Res :=
  .next (match (s.metAt p).meas with
  | some c =>
    if c.mode = 1 then
      let mean := if c.n = 0 then 0 else quot c.sum c.n
      let var := (c.n * c.sq - c.sum * c.sum).toNat
      (s.final c.req Code.done (calNotice 0 0 0 (c.seconds * 1000) mean (rms var (c.n * c.n)))).modMet p fun m => { m with meas := none }
    else if c.mode = 2 then
      let err := if c.xx ≤ 0 then 0 else quot ((c.xy - c.xx) * 1000000) c.xx.toNat
      (s.final c.req Code.done (calNotice 0 0 err (c.seconds * 1000) 0 0)).modMet p fun m => { m with
        meas := none, calOvl := upd m.calOvl ⟨(c.path - 8) / 2 % 8, by omega⟩ fun _ => if c.xx ≤ 0 then none else some err }
    else s
  | none => s)

/-- CAL_MEASURE_TIMEOUT: no first edge, or a gap of 60 s between edges (R256). -/
def execCalMeasureTimeout (p : Port) (s : State) : Res :=
  .next (match (s.metAt p).meas with
  | some c => if c.mode = 0 then s.endMeasure p Code.timeout else s
  | none => s)

/-- A reference pulse for a MODE 0 measurement: the first edge starts the integration, edge N ends it (R251). -/
def State.calEdge (s : State) (p : Port) (k : Fin 2) : State :=
  match (s.metAt p).meas with
  | some c =>
    if c.mode != 0 || c.pi != k then s
    else match c.start with
      | none => s.modMet p fun m => { m with meas := some { c with start := some s.legal.proc, lastEdge := s.legal.proc, e := 0, n := 0 } }
      | some _ =>
        let n := c.edges + 1
        if n < c.pulses then s.modMet p fun m => { m with meas := some { c with edges := n, lastEdge := s.legal.proc } }
        else
          let eRef : Int := quot (c.pulses * 1000000000) c.const
          let eDev := quot (c.e * 1000) unitK
          let err := pulseErr c.e c.pulses c.const
          (s.final c.req Code.done (calNotice (fldInt 48 eDev) eRef.toNat err (c.n * 1000 / 51200) 0 0)).modMet p
            fun m => { m with meas := none }
  | none => s

/-- The current channels whose overlap must have passed (R249). -/
def State.calChannels (s : State) (p : Port) : List (Fin 8) := if s.isAc p then [0, 1, 2, 3, 4] else [0, 4]

/-- The first check of END_CALIBRATION that fails: REASON and WHERE. -/
def State.calFail (s : State) (p : Port) : Option (Nat × Nat) :=
  let m := s.metAt p
  let wh (j : Fin 8) : Nat := (curRole j).1 + 16 * (curCh j).1
  match (s.calChannels p).find? fun j => (ix m.calOvl j).isNone with
  | some j => some (1, wh j)
  | none =>
    match (s.calChannels p).find? fun j => (match ix m.calOvl j with | some e => decide (200 < e.natAbs) | none => false) with
    | some j => some (2, wh j)
    | none => if m.meas.isSome then some (3, 0) else none

/-- DEDUCED (log 144). -/
def execEndCalibration (r : Req) (s : State) : Res :=
  .next (s.unlessVoid r fun s =>
    let p := r.port
    let m := s.metAt p
    if m.pendSet.isNone || m.capture.isSome then s.answer r Code.wrongState
    else match s.calFail p with
      | some (reason, wh) => s.answer r Code.refused [w32 reason, w32 wh]
      | none => (s.modMet p fun m => { m with
          capture := some (r, 0)
          path := Vector.ofFn fun i => if i.1 < 8 then ix m.path i else { ix m.path i with ratios := [] } }).accept r)

/-- Discard the pending set: the measurement and the capture end with CANCELLED (R250). -/
def State.discardCal (s : State) (p : Port) : State :=
  let s1 := s.endMeasure p Code.cancelled
  (s1.finalOpt ((s1.metAt p).capture.map (·.1)) Code.cancelled).modMet p fun m => { m with pendSet := none, capture := none }

def execAbortCalibration (r : Req) (s : State) : Res :=
  .next (s.unlessVoid r fun s =>
    if (s.metAt r.port).pendSet.isNone then s.answer r Code.wrongState
    else (s.discardCal r.port).answer r Code.done)

/-- The calibration record of R471. -/
def State.calRecord (s : State) (p : Port) (m : Met) : JRec :=
  let entry (i : Fin 24) : List Byte :=
    let c := ix m.coef i
    leBytes 4 (fldInt 32 c.ofs) ++ leBytes 4 c.gain ++ leBytes 2 (fldInt 16 c.phase) ++ leBytes 2 0 ++
      leBytes 4 (if i.1 < 8 then 0 else c.pref)
  let order := ((idx 24).filter fun i => i.1 < 8 && i.1 % 2 == 0) ++ (idx 24).filter fun i => 8 ≤ i.1
  { type := 0x09, len := 384, held := true, src := p.1
    data := leBytes 1 p.1 ++ leBytes 1 0 ++ leBytes 2 m.calCount ++ leBytes 4 s.legal.run ++ leBytes 6 s.legal.proc ++
      leBytes 2 0 ++ order.flatMap entry ++ m.bound.toList.flatMap fun b => leBytes 16 (b.getD 0) }

/-- PILOT_CAPTURE_DONE: PILOT_REF captured from 16 usable windows of every current path in use; the calibration record
is written and the pending set put in force (R249). -/
def execPilotCaptureDone (p : Port) (s : State) : Res :=
  let m := s.metAt p
  .next (match m.capture, m.pendSet with
  | some (q, _), some v =>
    if ((idx 24).filter fun i => s.usedPath p i).all fun i => 16 ≤ (ix m.path i).ratios.length then
      let coef : Vector Coef 24 := Vector.ofFn fun i =>
        let c := ix v i
        if s.usedPath p i then { c with pref := (quot ((ix m.path i).ratios.sum) 16).toNat } else c
      let m1 := { m with
        coef, pendSet := none, capture := none, calCount := (m.calCount + 1) % 65536, headChanged := false
        bound := Vector.ofFn fun r => some (s.slAt (linkOf p r)).regs.serial
        path := vmap (fun x => { x with latched := false, recheck := false, okRun := 0, state := if x.latched then .ok else x.state }) m.path }
      let s1 := (s.modMet p fun _ => m1).appendLegal (s.calRecord p m1)
      let s2 := s1.each (n := 3) fun r t => t.modSl (linkOf p r) fun y => { y with foreign := false, failed := false }
      (s2.metRaise p 0x40).final q Code.done
    else s
  | _, _ => s)

/-- PILOT_CAPTURE_TIMEOUT: the pending set is kept and calibration stays open (R256). -/
def execPilotCaptureTimeout (p : Port) (s : State) : Res :=
  .next (match (s.metAt p).capture with
  | some (q, _) => (s.final q Code.fault).modMet p fun m => { m with capture := none }
  | none => s)

end Sys2Proof.Machine
end

