-- ==== Sys2Proof/Machine/Energy.lean ====
section
/-! DEFINITION. Energy registration: the metering window, internal cycles and ticks, billing stops, pulses, the
cross-check, supply loss and the commands of group 0x21 (spec 10). -/

namespace Sys2Proof.Machine

/-! ### The metering window (R259) -/

/-- CLOSE_NOTICE: energy accumulates from the first frame sent after it. The voltage detectors of the port begin. -/
def execCloseNotice (p : Port) (s : State) : Res :=
  .next (if !s.legalRun || (s.nrgAt p).winFrom.isSome then s
  else
    let n := s.legal.idx
    (s.modNrg p fun x => { x with winFrom := some n, winEnd := none }).modPq p fun q => { q with
      rev := Vector.replicate 3 {}, unit := {} })

/-- Service has not reached step 7 of its start (R35): Legal then seals on Safety's word alone (R171, R298). -/
def State.serviceDown (s : State) : Bool := !s.sys.reached 7

/-- OPEN_CONFIRMATION: the sample whose frame is in progress is the last of the window; then the closing latch. DEDUCED (log 201). -/
def execOpenConfirmation (p : Port) (s : State) : Res :=
  .next (if !s.legalClock then s
  else
    let s1 := if (s.nrgAt p).winFrom.isSome && (s.nrgAt p).winEnd.isNone then
        s.modNrg p fun x => { x with winEnd := some s.legal.idx } else s
    let s2 := if s.serviceDown || (s.sesAt p).rebuild then
        s1.modBil p fun b => { b with ses := b.ses.map fun r => { r with sealDue := true } } else s1
    s2.closeEnded.holdStop)

/-! ### Cycles, ticks and stops (R265 to R271) -/

/-- SUBSTITUTED_CYCLE: no crossing within 1 280 samples; the comparison unit of the tamper checks ends with it. -/
def execSubstitutedCycle (p : Port) (s : State) : Res :=
  let x := s.nrgAt p
  .next (if s.legalRun && s.isAc p && x.cycStart + 1280 ≤ s.legal.proc then
    let n := x.cycStart + 1280
    let s1 := s.modNrg p fun y => y.endCycle n (ix s.cfg.energy p).cycles true
    if x.inWindow n then (s1.acUnitEnd p (s.pqAt p).unit n).modPq p fun q => { q with unit := { whole := true } } else s1
  else s)

/-- DC_TICK_TIMEOUT: the tick ends 1 024 samples after it began where no crossing of the site reference came in range. -/
def execDcTickTimeout (p : Port) (s : State) : Res :=
  let x := s.nrgAt p
  let late := if s.siteRef.isSome then x.tickStart + 1075 < s.legal.proc else x.tickStart + 1024 ≤ s.legal.proc
  .next (if s.legalRun && !s.isAc p && late then
    s.modNrg p fun y => { y with tickStart := y.tickStart + 1024, due := y.due ++ [{ idx := y.tickStart + 1024, subst := true }] }
  else s)

/-- BILLING_STOP: the stop that a gap or a run of uncovered samples has made due. -/
def execBillingStop (p : Port) (s : State) : Res :=
  .next (match (s.nrgAt p).stopDue with
  | some n => if s.legalRun then (s.stopBilling p n).holdStop else s
  | none => s)

/-! ### Pulses (R272 to R276) -/

/-- PULSE_OUTPUT_EMIT: one owed pulse once the spacing allows. -/
def execPulseOutputEmit (p : Port) (s : State) : Res :=
  let x := s.nrgAt p
  let gap := max 25 (2 * (ix s.cfg.energy p).poWidth)
  let free := match x.lastEdge with | some t => decide (t + gap ≤ s.time.legalUs) | none => true
  .next (if 0 < x.pend && free && !x.ps then
    (s.modNrg p fun y => { y with pend := y.pend - 1, lastEdge := some s.time.legalUs }).emit (.pulse p (ix s.cfg.energy p).poWidth)
  else s)

/-- Port of a pulse input's configuration. -/
def State.inputPort (s : State) (k : Fin 2) : Port := ⟨(ix s.cfg.pulse k).port % 8, by omega⟩

/-- Change a pulse input. -/
def State.modInput (s : State) (k : Fin 2) (f : PulseIn → PulseIn) : State :=
  s.modLegal fun l => { l with pi := upd l.pi k f }

/-- End a cross-check: its record, its event, and the notice of a command (R275, R286). DEDUCED (log 134). -/
def State.crossEnd (s : State) (k : Fin 2) (c : Cross) (edges : Nat) : State :=
  let p := s.inputPort k
  let cPi := (ix s.cfg.pulse k).cPi
  let e := (s.nrgAt p).net - c.eStart
  let eDev := quot (e * 1000) unitK
  let eRef := quot (edges * 1000000000) cPi
  let pass := decide (1000 * (e * 1000 * cPi - edges * 1000000000 * unitK).natAbs ≤ (5 * edges * 1000000000 + 1000 * 1000000000) * unitK)
  let err := satInt 24 (pulseErr e edges cPi)
  let rec_ : JRec := { type := 0x0A, len := 32, held := true, src := p.1, key := k.1
                       data := leBytes 1 k.1 ++ leBytes 1 p.1 ++ leBytes 1 (if pass then 1 else 2) ++ leBytes 1 0 ++
                         leBytes 4 edges ++ leBytes 8 (fldInt 64 eDev) ++ leBytes 8 eRef.toNat ++
                         leBytes 6 s.legal.proc ++ leBytes 2 0 }
  let s1 := s.modInput k fun i => { i with cross := none, result := if pass then 1 else 2 }
  let s2 := if pass then s1 else s1.appendLegal rec_
  (s2.nrgRaise p (if pass then 0x80 else 0x180)).finalOpt c.req (if pass then Code.done else Code.fault)
    (pairInt eDev ++ pair48 eRef.toNat ++ [wInt err, pack [(23, 0, edges)]])

/-- A cross-check takes an active edge: the first starts the sums, edge XCHK_PULSES ends them. DEDUCED (log 134). -/
def State.crossEdge (s : State) (k : Fin 2) : State :=
  match (ix s.legal.pi k).cross with
  | none => s
  | some c =>
    if c.edges = 0 then
      s.modInput k fun i => { i with cross := some { c with edges := 1, eStart := (s.nrgAt (s.inputPort k)).net } }
    else if c.edges + 1 < (ix s.cfg.pulse k).pulses then
      s.modInput k fun i => { i with cross := some { c with edges := c.edges + 1 } }
    else s.crossEnd k c (c.edges + 1)

/-- PULSE_INPUT_EDGE: the filtered level of the pin is now high or low; an edge to the active level is counted and serves the
input's role (R274). -/
def execPulseInputEdge (k : Fin 2) (high : Bool) (s : State) : Res :=
  let active := high != (ix s.cfg.pulse k).activeLow
  .next (if !s.legalRun || active == (ix s.legal.pi k).level then s
  else if !active then s.modInput k fun i => { i with level := false }
  else
    let s1 := s.modInput k fun i => { i with level := true, cnt := (i.cnt + 1) % 2 ^ 32 }
    let s2 := s1.each (n := 8) fun p t => t.calEdge p k
    let c := ix s.cfg.pulse k
    let p := s.inputPort k
    if c.role = 2 then s2.crossEdge k
    else if c.role = 3 && (s.nrgAt p).ps && (s.nrgAt p).inWindow s.legal.proc then
      s2.modNrg p fun x => { x with b := x.b + 1000000 }
    else s2)

/-- CROSS_CHECK_TIMEOUT: no edge for 3 600 s (R286). -/
def execCrossCheckTimeout (k : Fin 2) (s : State) : Res :=
  .next (match (ix s.legal.pi k).cross with
  | some c => (s.modInput k fun i => { i with cross := none }).finalOpt c.req Code.timeout
  | none => s)

/-! ### Supply loss (R279 to R281) -/

/-- An early-warning save of every metering port, taken at the newest sample held (R280). -/
def State.earlySaves (s : State) : State :=
  s.each (n := 8) fun p t =>
    if (s.nrgAt p).winFrom.isSome then t.appendLegal (t.saveRecord p true s.legal.proc (s.nrgAt p).slot false) else t

/-- The comparator has tripped or PFW is recognised: running Ripenings abort and the saves begin, where HOLDUP_US is
declared at 2 000 µs or more. -/
def State.beginSaves (s : State) : State :=
  if s.legal.supply.saving || !s.legalRun then s
  else if s.cfg.supply.holdupUs < 2000 then s.abortRipening
  else ((s.modLegal fun l => { l with supply := { l.supply with saving := true } }).abortRipening).earlySaves

/-- DEDUCED (log 158). -/
def execSupplyFailTrip (s : State) : Res :=
  .next (s.modLegal fun l => { l with supply := { l.supply with tripped := true } }).beginSaves

/-- PFW_ASSERT: ignored while PFW_EN is 0 (R279). DEDUCED (log 20). -/
def execPfwAssert (s : State) : Res :=
  let t := s.modLegal fun l => { l with supply := { l.supply with pfw := true } }
  .next (if s.cfg.supply.pfwEn && !s.legal.supply.stuck then t.beginSaves else t)

/-- DEDUCED (log 158). -/
def execEarlyWarningSaveRepeat (s : State) : Res :=
  .next (if s.legal.supply.saving && s.legalRun then s.earlySaves else s)

/-- SUPPLY_RECOVERED: VSYS is above the threshold and PFW is released; the dip is counted (R281). -/
def execSupplyRecovered (s : State) : Res :=
  let t := s.modLegal fun l => { l with
    supply := { l.supply with tripped := false, pfw := false, saving := false
                              warnSaves := if l.supply.tripped || (s.cfg.supply.pfwEn && l.supply.pfw) then satInc 255 l.supply.warnSaves
                                else l.supply.warnSaves } }
  .next t.resumeRipening

/-- PFW_STUCK: asserted for 1 s with VSYS healthy while PFW_EN is 1: the saves stop and Ripening is allowed again (R593). -/
def execPfwStuck (s : State) : Res :=
  let y := s.legal.supply
  .next (if !(s.cfg.supply.pfwEn && y.pfw && !y.tripped && !y.stuck) then s
  else (s.modLegal fun l => { l with supply := { l.supply with stuck := true, saving := false } }).resumeRipening)

/-- PFW_RELEASE: released for 10 ms (R593). -/
def execPfwRelease (s : State) : Res :=
  .next (s.modLegal fun l => { l with supply := { l.supply with pfw := false, stuck := false } })

/-! ### Registers (R282, R283) -/

/-- NRG_STAT(p). -/
def State.nrgStat (s : State) (p : Port) : Word :=
  let x := s.nrgAt p
  pack [(31, 30, if x.ps then 2 else b1 (s.metCfg p).isSome), (29, 27, x.slot), (26, 26, b1 x.winFrom.isSome),
    (25, 25, b1 (decide (0 < x.iGap) || decide (0 < x.uGap))), (24, 24, b1 x.bridged), (23, 23, b1 x.stopped),
    (22, 22, b1 x.subst), (21, 21, b1 x.lineTick), (20, 20, b1 (decide (256 < x.pend))), (15, 0, min 0xFFFF x.period)]

/-- NRG_STAT … NRG_GAP. -/
def State.nrgBlock (s : State) (p : Port) : List Word :=
  let x := s.nrgAt p
  [s.nrgStat p] ++ pair48 x.impTot ++ pair48 x.expTot ++ pair48 x.sesImp ++ pair48 x.sesExp ++ [wInt x.pLatch] ++
    pair48 x.latchIdx ++ [pack [(15, 0, x.pend)], pack [(15, 0, x.gapLong), (31, 16, x.unc)]]

/-- NRG_PI_STATk. -/
def State.piStat (s : State) (k : Fin 2) : Word :=
  let c := ix s.cfg.pulse k
  let i := ix s.legal.pi k
  pack [(1, 0, c.role), (6, 4, c.port), (8, 8, b1 i.level), (9, 9, b1 i.cross.isSome), (11, 10, i.result),
    (12, 12, b1 (c.role == 3 && (s.nrgAt (s.inputPort k)).ps))]

/-- NRG_SUPPLY_STAT … NRG_INTR. -/
def State.supplyBlock (s : State) : List Word :=
  let y := s.legal.supply
  let c := s.cfg.supply
  [pack [(23, 16, y.warnSaves), (7, 7, b1 (decide (2000 ≤ c.holdupUs))), (6, 6, b1 c.pfwEn), (5, 5, b1 y.pfw),
      (4, 4, b1 y.tripped), (3, 3, b1 y.saving), (1, 0, y.lastStart)],
    pack [(16, 0, c.holdupUs), (20, 20, b1 c.pfwEn), (27, 24, c.siteRef)], s.piStat 0, s.piStat 1,
    w32 (ix s.legal.pi 0).cnt, w32 (ix s.legal.pi 1).cnt,
    pack [(15, 0, y.intr), (23, 16, y.lostPorts), (25, 24, y.lastKind)]]

/-! ### Commands of group 0x21 (R285, R286) -/

def execGetEnergyStatus (r : Req) (s : State) : Res :=
  .next (s.unlessVoid r fun s => s.answer r Code.done (s.nrgBlock r.port))

def execGetRegisters (r : Req) (s : State) : Res :=
  .next (s.unlessVoid r fun s =>
    let x := s.nrgAt r.port
    let page := r.fld 3 1 0
    let regs := x.imp.toList ++ x.exp.toList ++ [x.impTot, x.expTot]
    if page = 3 then s.answer r Code.outOfRange
    else s.answer r Code.done (((regs.drop (6 * page)).take 6).flatMap pair48 ++ pair48 x.latchIdx))

def execGetAccumulator (r : Req) (s : State) : Res :=
  .next (s.unlessVoid r fun s =>
    let x := s.nrgAt r.port
    let a := fldInt 96 x.aLatch
    let q := fldInt 64 x.pAcc
    s.answer r Code.done ([w32 a, w32 (a / 2 ^ 32), w32 (a / 2 ^ 64)] ++ pair48 x.latchIdx ++ [w32 q, w32 (q / 2 ^ 32),
      pack [(15, 0, x.pend)], pack [(23, 0, x.bLatch)]]))

def execGetSupplyStatus (r : Req) (s : State) : Res :=
  .next (s.unlessVoid r fun s =>
    s.answer r Code.done (s.supplyBlock ++ pair48 s.legal.supply.lastSave ++ [w32 s.legal.supply.lostS]))

/-- No session is open on a port: it is at its session boundary (R156). -/
def State.atBoundary (s : State) (p : Port) : Bool := !s.sesIsOpen p

/-- Pulse-source mode as last set takes effect (R276). -/
def State.applySource (s : State) (p : Port) : State :=
  match (s.nrgAt p).psNext with
  | some on =>
    let s1 := s.modNrg p fun x => { x with ps := on, psNext := none }
    if on = (s.nrgAt p).ps then s1 else s1.nrgRaise p 0x20
  | none => s

def execSetPulseSource (r : Req) (s : State) : Res :=
  .next (s.unlessVoid r fun s =>
    let p := r.port
    if (s.sourceOf p).isNone then s.answer r Code.wrongState
    else
      let s1 := s.modNrg p fun x => { x with psNext := some (r.bit 3 0) }
      (if s1.atBoundary p then s1.applySource p else s1).answer r Code.done)

def execRunCrossCheck (r : Req) (s : State) : Res :=
  .next (if !r.fromSystem then s.answer r Code.refused
  else s.unlessVoid r fun s =>
    let k : Fin 2 := ⟨r.fld 3 0 0 % 2, by omega⟩
    if (ix s.cfg.pulse k).role != 2 || (ix s.legal.pi k).cross.isSome then s.answer r Code.wrongState
    else (s.modInput k fun i => { i with cross := some { req := some r } }).accept r)

end Sys2Proof.Machine
end

