-- ==== Sys2Proof/Machine/Billing.lean ====
section
/-! DEFINITION. Billing: sessions as Legal holds them, sealed records, the seal, optical readout and the commands of
groups 0x22 and 0x92 (spec 11). -/

namespace Sys2Proof.Machine

/-! ### Opening a session (R156, R288, R294) -/

/-- Legal opens a session on a port for a decision: interval 1 opens at the first frame sent after it; the marks and
sums of the last session clear. DEDUCED (log 136). -/
def State.legalOpen (s : State) (p : Port) (d : Decision) (bidir : Bool) : State :=
  let b := s.bilAt p
  let x := s.nrgAt p
  let n := s.legal.idx
  let c := ix s.cfg.sched p
  let r : SesRec := {
    no := (b.lastNo + 1) % 2 ^ 32, run := s.legal.run, nOpen := n, ivFirst := b.ivIdx + 1, ivPrev := s.chainHead p
    calCount := (s.metAt p).calCount, sealsOpen := s.rind.sealCount, billed := d.billed, bidir, source := d.source
    ident := d.ident, hostRef := d.hostRef, creditE := d.creditE, creditT := d.creditT, impOpen := x.imp
    expOpen := x.exp, impTotOpen := x.impTot, expTotOpen := x.expTot, wallOpen := s.wallNow, service := s.inService }
  let s1 := s.modBil p fun y => { y with ses := some r, lastNo := r.no, sched := c.entries, pend := none }
  let s2 := s1.modNrg p fun y => { y with
    sesImp := 0, sesExp := 0, gapLong := 0, unc := 0, unmetered := 0, slot := c.init, stopped := false, stopSes := false }
  let s3 := s2.modPq p fun y => { y with mark := false, revPol := false, revExport := false, bidir }
  s3.openInterval p n

/-! ### The sealed record (R296 to R299) -/

/-- The payload of R297. DEDUCED (log 136). -/
def State.sessionPayload (s : State) (p : Port) (r : SesRec) (n : Nat) (restored : Bool) : List Byte :=
  let b := s.bilAt p
  let x := s.nrgAt p
  let flags := flagWord [r.heads || !x.ps, r.pulse.isSome, r.bridged, r.stopped, restored, !r.billed,
    decide (0 < r.overE), r.sealsOpen != s.rind.sealCount, r.service || s.inService, r.escalated]
  let slot (k : Fin 8) : List Byte := cborArray [
    cborNat ((Int.ofNat (ix x.imp k) - Int.ofNat (ix r.impOpen k)) % 2 ^ 48).toNat,
    cborNat ((Int.ofNat (ix x.exp k) - Int.ofNat (ix r.expOpen k)) % 2 ^ 48).toNat, cborNat (ix r.slotN k)]
  cborMap [(0, cborNat 1), (1, cborBytes s.serialBytes), (2, cborNat p.1), (3, cborNat r.no), (4, cborNat r.run),
    (5, cborNat r.nOpen), (6, cborNat n), (7, cborNat s.legal.run), (8, cborNat r.ivFirst), (9, cborNat b.ivIdx),
    (10, cborBytes (s.chainHead p)), (11, cborBytes (s.legalDigest p)), (12, cborNat r.calCount),
    (13, cborNat r.sealsOpen), (14, cborNat s.rind.sealCount), (15, cborNat flags), (16, cborNat x.sesImp),
    (17, cborNat x.sesExp), (18, cborArray ((idx 8).map slot)), (19, cborNat r.impTotOpen), (20, cborNat x.impTot),
    (21, cborNat r.expTotOpen), (22, cborNat x.expTot), (23, cborNat r.overE), (24, cborNat x.unmetered),
    (25, cborNat r.closed), (26, cborArray [cborNat r.endClass, cborNat r.endCause]),
    (27, cborArray [cborNat r.source, cborBytes r.ident, cborNat r.hostRef]),
    (28, cborArray [cborNat r.creditE, cborNat r.creditT]), (29, cborWall r.wallOpen), (30, cborWall s.wallNow),
    (31, match r.pulse with | some (k, c) => cborArray [cborNat k, cborNat c] | none => cborNull),
    (32, cborBytes r.ivPrev)]

/-- Class and cause of a session that Service has not ended: LEGAL_GAP after a billing stop, else interrupted
(R171, R299). -/
def SesRec.ending (r : SesRec) : SesRec :=
  if r.endClass ≠ 0 then r
  else if r.stopped then { r with endClass := 2, endCause := 0x17 } else { r with endClass := 3, endCause := 0x20 }

/-- Once no port is metered under the old legal image, slot 2 is left (R540). -/
def State.rebind (s : State) (p : Port) : State :=
  s.modFw fun u =>
    let old := upd u.oldLegal p fun _ => false
    { u with oldLegal := old, slot2 := u.slot2 && old.toList.any id }

/-- Seal a session: last interval record, signature, append; the open session ends with it (R298). nEnd is the
boundary of the last interval. -/
def State.sealSession (s : State) (p : Port) (nEnd : Nat) (restored : Bool) : State :=
  if !s.sesIsOpen p then s
  else
    let s1 := s.closeInterval p nEnd restored
    match (s1.bilAt p).ses with
    | none => s
    | some r0 =>
      let r := if restored then { r0 with endClass := 0 }.ending else r0.ending
      let rec_ := coseSign1 (s1.legalKey (s1.legalDigest p)) (s1.sessionPayload p r s1.legal.proc restored)
      let s2 := s1.appendLegal { type := 0x06, len := rec_.length, held := true, src := p.1, key := r.no, data := rec_ }
      let s3 := match (s1.bilAt p).pend with
        | some (q, _, _) => (s2.final q Code.cancelled).bilRaise p 8
        | none => s2
      let s4 := s3.modBil p fun b => { b with
        ses := none, pend := none, sched := [], sealedNo := r.no, sealedImp := (s1.nrgAt p).sesImp, sealedEnd := (r.endClass, r.endCause) }
      let s5 := s4.modNrg p fun x => { x with stopped := x.stopped && !x.stopSes, stopSes := false }
      let s6 := s5.modSes p fun x => { x with
        imp := (s1.nrgAt p).sesImp, exp := (s1.nrgAt p).sesExp, overE := r.overE, closedS := r.closed / 51200
        openS := (s1.legal.proc - r.nOpen) / 51200 }
      ((s6.bilRaise p 4).rebind p).emit (.legalMsg p .sealed)

/-- SESSION_SEAL: the contactors are confirmed open, or preparation ended without closing; the window has closed. -/
def execSessionSeal (p : Port) (s : State) : Res :=
  .next (match (s.bilAt p).ses with
  | some r =>
    if s.legalRun && r.sealDue && (s.nrgAt p).winFrom.isNone then (s.sealSession p s.legal.proc false).holdStop else s
  | none => s)

/-! ### Restore after supply loss (R278, R299) -/

/-- Newest complete save of a port. -/
def State.newestSave (s : State) (p : Port) : Option SaveRec :=
  (s.jnl.legal.recs.reverse.find? fun r => (r.type == 3 || r.type == 4) && r.src == p.1).bind (·.save)

/-- What of a port's registration survives a loss, from its newest save. -/
def Nrg.restore (x : Nrg) (v : Option SaveRec) : Nrg :=
  let y : Nrg := { imp := x.imp, exp := x.exp, impTot := x.impTot, expTot := x.expTot, sesImp := x.sesImp, sesExp := x.sesExp,
                   slot := x.slot, ps := x.ps, psNext := x.psNext, unmetered := x.unmetered
                   wasOpen := x.winFrom.isSome || x.wasOpen }
  match v with
  | some r => { y with a := r.a, pAcc := r.pAcc, pend := r.pend, b := r.b, aLatch := r.a, bLatch := r.b }
  | none => y

/-- One port's part of the restore: the closing latch from the restored A where it was metering, tamper conditions
still active end, and the open session is sealed. DEDUCED (log 135). -/
def State.restorePort (s : State) (p : Port) : State :=
  let v := s.newestSave p
  let n := (v.map (·.idx)).getD 0
  let q := s.pqAt p
  let s1 := (s.modNrg p fun x => x.restore v).modMet p fun m => { m with
    acc := Vector.replicate 24 {}, accU := {}, accI := {}, meas := none, capture := none, pendSet := none }
  let s2 := if s.sesIsOpen p && (s.nrgAt p).wasOpen then
      ((s1.modNrg p fun x => { x with periodStart := n }).latchAt p n false false false true) else s1
  let endOne (t : State) (k : Fin 5) (c : Persist) (v1 v2 : Int) : State :=
    if c.active then t.tamperRecord p k 1 n v1 v2 false true else t
  let s3 := endOne (endOne (endOne s2 2 q.bypass q.bypass.worst q.bypass.units) 3 q.neutV q.neutV.v1 q.neutV.v2) 4 q.neutI
    q.neutI.v1 q.neutI.v2
  let s4 := s3.modPq p fun y => { ({} : Pq) with
    revPol := y.revPol, revExport := y.revExport, mark := y.mark, bidir := y.bidir, counts := y.counts, ev := y.ev }
  let s5 := s4.modNrg p fun x => { x with periodStart := 0, latchIdx := 0, wasOpen := false }
  (if s.sesIsOpen p then (s5.sealSession p n true).nrgRaise p 0x200 else s5).applySource p

/-- The interruption record of R278 and R471. DEDUCED (log 135). -/
def State.interruptionRecord (s : State) (prevRun rtcSave : Nat) : JRec :=
  let port (p : Port) : List Byte :=
    let v := s.newestSave p
    leBytes 6 ((v.map (·.idx)).getD 0) ++ leBytes 1 (match v with | some r => if r.early then 2 else 1 | none => 0) ++
      leBytes 1 0 ++ leBytes 4 (((s.bilAt p).ses.map (·.no)).getD 0) ++ leBytes 4 0
  { type := 0x0B, len := 152, held := true
    data := leBytes 4 prevRun ++ leBytes 4 s.legal.run ++ leBytes 6 rtcSave ++ leBytes 6 s.rind.rtc ++ leBytes 4 0 ++
      (idx 8).flatMap port }

/-- Recovery at step 6 of a start at which Legal is not VOID: the run number rises, indices restart, every port is
restored, and an interruption record is written where a port was metering or a session was open (R278, R292). -/
def State.legalRecover (s : State) : State :=
  let saves := (idx 8).filterMap fun p => s.newestSave p
  let newestRtc := (saves.map (·.rtc)).foldl max 0
  let metering := (idx 8).filter fun p => s.sesIsOpen p && (s.nrgAt p).wasOpen
  let early := metering.any fun p => ((s.newestSave p).map (·.early)).getD false
  let kind := if saves.isEmpty then 0 else if early then 2 else 1
  let open_ := (idx 8).any fun p => s.sesIsOpen p
  let prev := s.legal.run
  let s1 := s.modLegal fun l => { l with
    run := (l.run + 1) % 2 ^ 32, idx := 0, proc := 0, clkFault := false, clkBad := 0, clkGood := 0, site := {}, pqRing := []
    supply := { l.supply with
      saving := false, warnSaves := 0
      lastStart := if saves.isEmpty && metering.isEmpty then 0 else if metering.isEmpty then 1 else if early then 2 else 3
      lostPorts := flagWord ((idx 8).map fun p => metering.contains p), lastKind := kind
      lastSave := (saves.map (·.idx)).foldl max 0, lostS := (s.rind.rtc - newestRtc) / 32768
      intr := if open_ then satInc 0xFFFF l.supply.intr else l.supply.intr } }
  let rec_ := (s1.interruptionRecord prev newestRtc)
  let s2 := s1.each (n := 8) fun p t => t.restorePort p
  let s3 := if open_ then s2.appendLegal rec_ else s2
  let s4 := if s3.rind.sealDue then (s3.appendLegal s3.sealRecord).modRind fun r => { r with sealDue := false } else s3
  (idx 2).foldl (fun t k => t.modInput k fun i => { i with
    cross := if (ix s.cfg.pulse k).role = 2 then some {} else none, result := 0 }) s4

/-! ### The seal (R300 to R303) -/

/-- A loop opening in FIELD: count, record, event, SERVICE. -/
def State.sealBreak (s : State) : State :=
  if s.rind.lifecycle ≠ 2 then s
  else
    let s1 := s.modRind fun r => { r with sealCount := satInc 0xFFFFFFFF r.sealCount, lifecycle := 3 }
    let s2 := if s1.legalRun then s1.appendLegal s1.sealRecord else s1.modRind fun r => { r with sealDue := true }
    ((((s2.auditRind 3 3).keyRaise 2).bilUnitRaise 1).irqAll irqLegal).holdStop

/-- A sample reads the loop open, or closed: by its resistance, and open while either ball has less than 100 kΩ to GND (R300, R595). -/
def loopReadsOpen (x : LoopRead) : Bool := decide (10000 < x.ohm) || decide (x.gnd < 100000)
def loopReadsClosed (x : LoopRead) : Bool := decide (x.ohm < 1000) && decide (100000 ≤ x.gnd)

/-- SEAL_LOOP_SAMPLE: two samples in a row beyond 10 kΩ open the loop, two below 1 kΩ close it. -/
def execSealLoopSample (x : LoopRead) (s : State) : Res :=
  let r := s.rind
  let against := if r.loopOpen then loopReadsClosed x else loopReadsOpen x
  .next (if !against then s.modRind fun r => { r with loopRun := 0 }
  else if r.loopRun = 0 then s.modRind fun r => { r with loopRun := 1 }
  else
    let s1 := s.modRind fun r => { r with
      loopRun := 0, loopOpen := !r.loopOpen, closedAt := if r.loopOpen then s.time.legalUs else r.closedAt }
    if r.lifecycle = 3 then
      (s1.modRind fun r => { r with loopChanges := satInc 255 r.loopChanges }).bilUnitRaise 4
    else if !r.loopOpen then s1.sealBreak else s1)

/-- The loop has been closed for at least 1 s. -/
def State.loopClosed (s : State) : Bool := !s.rind.loopOpen && decide (s.rind.closedAt + 1000000 ≤ s.time.legalUs)

/-- The first check of a reseal token that fails (R303, R310). -/
def State.resealReason (s : State) (t : List Byte) : Option Nat :=
  firstReason [
    (1, !s.loopClosed),
    (2, match s.legal.challenge with
      | some (c, at_) => (t.drop 20).take 16 != c || decide (at_ + 300000000 ≤ s.time.legalUs)
      | none => true),
    (3, t.take 16 != s.serialBytes || leNat ((t.drop 16).take 4) != s.rind.sealCount),
    (4, match s.keys.slots.find? (·.1 == 5) with
      | some (_, k) => !Config.verify k.key (t.take 56) ((t.drop 56).take 96)
      | none => true)]

/-- RESEAL: the challenge serves this one, whatever its result (R303). -/
def execReseal (r : Req) (s : State) : Res :=
  .next (if !(s.rightsOf r).audit then s.answer r Code.refused
  else s.unlessVoid r fun s =>
    let ring := r.fld 3 2 0
    let s2 := s.modLegal fun l => { l with challenge := none }
    if !s.inService || (idx 8).any fun p => (s.metAt p).pendSet.isSome then s2.answer r Code.wrongState
    else
      let q := s.withRing r ring
      if !q.ringOk || q.ringIn.length < 152 then s2.endRing q ring Code.shortBuffer
      else
        let t := q.ringIn.take 152
        match s.resealReason t with
        | some k => s2.answer r Code.refused [w32 k]
        | none =>
          let s3 := (s2.useRing q ring Code.done).each (n := 8) fun p x => x.modBil p fun b => { b with
            ivFlags := if b.ivOpen then b.ivFlags ||| 32 else b.ivFlags
            ses := b.ses.map fun e => { e with service := true } }
          let s4 := s3.modRind fun q => { q with lifecycle := 2, sealSerial := (t.drop 36).take 16, loopChanges := 0 }
          (((((s4.appendLegal s4.sealRecord).auditRind 3 2).keyRaise 2).bilUnitRaise 2).irqAll irqLegal).answer r Code.done)

/-! ### Optical readout (R304 to R306) -/

/-- A digit character. -/
def digit (n : Nat) : Byte := BitVec.ofNat 8 (0x30 + n)
/-- Decimal digits of a fixed count. -/
def decimal : Nat → Nat → List Byte
  | 0, _ => []
  | k + 1, v => decimal k (v / 10) ++ [digit (v % 10)]
/-- Hexadecimal digits of bytes. DESIGN CHOICE (log 140). -/
def hexBytes (l : List Byte) : List Byte :=
  l.flatMap fun b => [b.toNat / 16, b.toNat % 16].map fun d => if d < 10 then digit d else BitVec.ofNat 8 (0x37 + d)
def crlf : List Byte := [0x0D, 0x0A]
/-- A data line: code and value. -/
def obisLine (code : List Byte) (v : List Byte) : List Byte := code ++ ascii "(" ++ v ++ ascii ")" ++ crlf
/-- An energy value in kWh: 12 digits, a point, 3 digits, from mWh with the last digit 1 mWh (R305). DEDUCED (log 114). -/
def energyText (mwh : Nat) : List Byte := decimal 12 (mwh / 1000) ++ ascii "." ++ decimal 3 (mwh % 1000) ++ ascii "*kWh"

/-- The 20 lines of a port. -/
def State.opticalPort (s : State) (p : Port) : List Byte :=
  let x := s.nrgAt p
  let b := s.bilAt p
  let code (t : String) : List Byte := ascii "1-" ++ [digit (p.1 + 1)] ++ ascii t
  let regs (t : String) (tot : Nat) (v : Vector Nat 8) : List Byte :=
    obisLine (code t ++ ascii ".0") (energyText tot) ++
      (idx 8).flatMap fun k => obisLine (code t ++ ascii "." ++ [digit (k.1 + 1)]) (energyText (ix v k))
  regs ":1.8" x.impTot x.imp ++ regs ":2.8" x.expTot x.exp ++ obisLine (code ":128.1.0") (decimal 10 b.sealedNo) ++
    obisLine (code ":128.2.0") (energyText b.sealedImp)

/-- The data block as it stands (R305, R306). -/
def State.opticalBlock (s : State) : List Byte :=
  let line1 := obisLine (ascii "0-0:96.1.0") (hexBytes s.serialBytes)
  if s.legalVoid then line1 ++ ascii "F.F(00000001)" ++ crlf
  else
    line1 ++ obisLine (ascii "1-0:0.2.0") (hexBytes ((s.activeBank 1).digest.take 8)) ++
      obisLine (ascii "0-0:128.0.0") (decimal 10 s.rind.sealCount) ++
      obisLine (ascii "0-0:128.0.1") (ascii (if s.inService then "S" else "F") ++ s.rind.sealSerial.filter (· != 0)) ++
      ((idx 8).filter fun p => s.cfg.opt.ports / 2 ^ p.1 % 2 = 1).flatMap s.opticalPort

/-- The data message: STX, the block, "!" CR LF, ETX and the block check character. -/
def opticalMessage (block : List Byte) : List Byte :=
  let body := block ++ ascii "!" ++ crlf ++ [0x03]
  [(0x02 : Byte)] ++ body ++ [body.foldl (· ^^^ ·) 0]

def State.modOpt (s : State) (f : Opt → Opt) : State := s.modLegal fun l => { l with opt := f l.opt }

/-- SIGN_ON. -/
def execSignOn (addressed : Bool) (s : State) : Res :=
  .next (if s.legal.state == .starting then s
  else if !addressed && s.cfg.opt.enable && s.legal.opt.state = 0 then s.modOpt fun o => { o with state := 1 }
  else s.modOpt fun o => { o with unanswered := satInc 0xFFFF o.unanswered })

/-- OPT_IDENTIFICATION. -/
def execOptIdentification (s : State) : Res :=
  .next (if s.legal.opt.state = 1 then
    (s.modOpt fun o => { o with state := 2 }).emit (.optical (ascii "/" ++ Config.manufacturer ++
      [digit s.cfg.opt.maxBaud] ++ ascii "CH8128-B0" ++ crlf))
  else s)

/-- OPT_ACKNOWLEDGEMENT: the rate character Z' and the option character, as digits. -/
def execOptAcknowledgement (z opt : Nat) (s : State) : Res :=
  .next (if s.legal.opt.state != 2 then s
  else if opt = 0 && z ≤ s.cfg.opt.maxBaud then s.modOpt fun o => { o with state := 3, rate := z, snap := s.opticalBlock }
  else s.modOpt fun o => { o with state := 0 })

/-- OPT_ACK_TIMEOUT. -/
def execOptAckTimeout (s : State) : Res :=
  .next (if s.legal.opt.state = 2 then s.modOpt fun o => { o with state := 0 } else s)

/-- OPT_DATA_MESSAGE. -/
def execOptDataMessage (s : State) : Res :=
  .next (if s.legal.opt.state = 3 then
    (s.modOpt fun o => { o with state := 4 }).emit (.optical (opticalMessage s.legal.opt.snap))
  else s)

/-- OPT_DATA_MESSAGE_DONE. -/
def execOptDataMessageDone (s : State) : Res :=
  .next (if s.legal.opt.state = 4 then
    s.modOpt fun o => { o with state := 0, rate := 0, snap := [], done := satInc 0xFFFF o.done }
  else s)

/-! ### Registers (R307, R308) -/

/-- Records of a type that a port has held for the Cave (R291). -/
def State.heldCount (s : State) (p : Port) (type : Nat) : Nat :=
  min 0xFFFF (s.jnl.heldRecs.filter fun r => r.type == type && r.src == p.1).length

/-- The interval and the schedule that a port shows: those of a session that this run of Legal meters, not of one that a supply loss
ended and Legal has still to restore. -/
def State.ivShown (s : State) (p : Port) : Bool :=
  s.legal.state != .starting && ((s.bilAt p).ses.map fun r => r.run == s.legal.run).getD false

/-- BIL_STAT … BIL_EVENT as a guest reads them. -/
def State.bilBlock (s : State) (g : Guest) (p : Port) : List Word :=
  let b := if s.ivShown p then s.bilAt p else { s.bilAt p with ivOpen := false, sched := [] }
  let stat := pack [(31, 29, (s.nrgAt p).slot), (28, 26, (b.pend.map (·.2.1)).getD 0), (25, 25, b1 b.pend.isSome),
    (24, 24, b1 ((b.pend.map (·.2.2)).getD false)), (23, 20, b.sched.length), (19, 19, b1 b.ivOpen),
    (13, 8, ix s.cfg.interval p)]
  [stat] ++ pair48 (if b.ivOpen then b.ivIdx + 1 else b.ivIdx) ++ [w32 (leNat ((s.chainHead p).take 4)),
    pack [(23, 0, if b.ivOpen then s.legal.proc - b.ivStart else 0)], w32 b.sealedNo,
    pack [(15, 0, s.heldCount p 6), (31, 16, s.heldCount p 5)], ix b.ev g]

/-- An unused challenge is valid (R303). -/
def State.challengeValid (s : State) : Bool :=
  match s.legal.challenge with | some (_, at_) => decide (s.time.legalUs < at_ + 300000000) | none => false

/-- BIL_SEAL_STAT … BIL_LEGAL_RUN. -/
def State.sealBlock (s : State) : List Word :=
  let r := s.rind
  [pack [(15, 8, r.loopChanges), (6, 4, r.lifecycle), (3, 3, b1 s.challengeValid), (2, 2, b1 r.loopOpen)],
    w32 r.sealCount] ++ bytesToWords (padTo 16 r.sealSerial) ++
    [match s.wallNow with | some (_, age, _) => w32 age | none => w32 0xFFFFFFFF, w32 s.legal.run]

/-- OPT_STAT and OPT_COUNT. -/
def State.optWords (s : State) : List Word :=
  let o := s.legal.opt
  let c := s.cfg.opt
  [pack [(0, 0, b1 c.enable), (3, 1, c.maxBaud), (6, 4, if o.state = 0 then 0 else if o.state ≤ 2 then 1 else 2),
    (10, 8, o.rate), (23, 16, c.ports)], pack [(15, 0, o.done), (31, 16, o.unanswered)]]

/-! ### Commands of groups 0x22 and 0x92 (R309 to R313) -/

def execGetBillingStatus (r : Req) (s : State) : Res :=
  .next (s.unlessVoid r fun s => s.answer r Code.done (s.bilBlock r.guest r.port))

def execGetChainHead (r : Req) (s : State) : Res :=
  .next (s.unlessVoid r fun s =>
    s.answer r Code.done (pair48 (s.bilAt r.port).ivIdx ++ bytesToWords (padTo 48 (s.chainHead r.port))))

def execGetSessionRecord (r : Req) (s : State) : Res :=
  .next (s.unlessVoid r fun s =>
    let no := if r.word 3 = 0 then (s.bilAt r.port).sealedNo else (r.word 3).toNat
    match s.jnl.legal.recs.find? fun j => j.type == 6 && j.src == r.port.1 && j.key == no with
    | some j => s.answerRing r (r.fld 4 2 0) j.data [pack [(15, 0, j.len)]]
    | none => s.answer r Code.wrongState)

def execGetSealStatus (r : Req) (s : State) : Res := .next (s.answer r Code.done s.sealBlock)

def execGetLegalPubkey (r : Req) (s : State) : Res :=
  .next (s.unlessVoid r fun s =>
    let d := (s.activeBank 1).digest
    s.answer r Code.done (bytesToWords (padTo 52 (Config.publicCompressed (s.legalKey d))) ++ [w32 (leNat (d.take 4))]))

def execSwitchTariff (r : Req) (s : State) : Res :=
  .next (s.unlessVoid r fun s =>
    let p := r.port
    if !s.sesIsOpen p then s.answer r Code.wrongState
    else
      let s1 := match (s.bilAt p).pend with
        | some (q, _, _) => (s.final q Code.cancelled).bilRaise p 8
        | none => s
      (s1.modBil p fun b => { b with pend := some (r, r.fld 3 2 0, r.bit 3 8) }).accept r)

def execSetWallClock (r : Req) (s : State) : Res :=
  .next (if !r.fromSystem then s.answer r Code.refused
  else s.unlessVoid r fun s =>
    ((s.modLegal fun l => { l with
      wall := some { ms := (r.word 3).toNat + 2 ^ 32 * (r.word 4).toNat, source := r.fld 5 3 0, at_ := l.proc } }).modSys
        fun y => { y with wallSet := true }).bilUnitRaise 8 |>.answer r Code.done)

def execGetSealChallenge (r : Req) (s : State) : Res :=
  .next (if !(s.rightsOf r).audit then s.answer r Code.refused
  else s.unlessVoid r fun s =>
    if !s.inService then s.answer r Code.wrongState
    else
      let c := leBytes 16 (Config.freeNat s.free)
      ((s.modLegal fun l => { l with challenge := some (c, s.time.legalUs) }).useFree).answer r Code.done (bytesToWords c))

def execGetOpticalStatus (r : Req) (s : State) : Res := .next (s.answer r Code.done s.optWords)

end Sys2Proof.Machine
end

