-- ==== Sys2Proof/Machine/Quality.lean ====
section
/-! DEFINITION. Power quality and tamper: substituted half-cycle values, the persistence of the tamper conditions, the
registers and the commands of group 0x23 (spec 12). -/

namespace Sys2Proof.Machine

/-- Whether a detector runs, its reference and the channels it covers (R314). -/
def State.acDetector (s : State) : Option Port → Option (PqRef × Nat)
  | some p => if s.isAc p && (s.nrgAt p).winFrom.isSome then some ((ix s.cfg.pq p).acRef, s.phases p) else none
  | none => s.siteRef.map fun p => (s.cfg.pqSite.acRef, if s.phases p = 3 then 3 else 1)

/-- PQ_SUBSTITUTED_REFRESH: 640 samples without a refresh of a channel give a value over the last 1 280, marked
substituted; it is not formed where one of them is invalid (R315). -/
def execPqSubstitutedRefresh (src : Option Port) (ch : Fin 3) (s : State) : Res :=
  .next (match s.acDetector src with
  | none => s
  | some (r, channels) =>
    let d := s.detOf src
    match (ix d.ch ch).refresh with
    | none => s
    | some a =>
      if !s.legalRun || channels ≤ ch.1 || s.legal.proc < a + 640 then s
      else
        let n := a + 640
        let at_ (f : PqCh → PqCh) : State := s.modDet src fun x => { x with ch := upd x.ch ch fun y => f { y with refresh := some n } }
        if d.hist.length < 1280 then at_ id
        else match rmsOver d.hist ch 1280 with
          | none => (at_ id).modDet src PqDet.skip
          | some v =>
            let s1 := at_ fun y => { y with val := some v, subst := true }
            s1.pqJudge src r channels ((s1.detOf src).vals channels) n)

/-- The persistence that a code of TAMPER_PERSISTENCE names, and its kind (R321). -/
def Pq.persist (q : Pq) (kind : Fin 3) : Persist :=
  match kind with
  | 0 => q.bypass
  | 1 => q.neutV
  | 2 => q.neutI

def Pq.setPersist (q : Pq) (kind : Fin 3) (c : Persist) : Pq :=
  match kind with
  | 0 => { q with bypass := c }
  | 1 => { q with neutV := c }
  | 2 => { q with neutI := c }

/-- TAMPER_PERSISTENCE: a run of disagreeing units beyond 51 200 samples starts the condition, a run of agreeing units
of 5 120 ends it (R324, R325). -/
def execTamperPersistence (p : Port) (kind : Fin 3) (s : State) : Res :=
  let c := (s.pqAt p).persist kind
  let k : Fin 5 := ⟨kind.1 + 2, by omega⟩
  .next (if !s.legalRun then s
  else if !c.active && 51200 < c.bad then
    ((s.modPq p fun q => q.setPersist kind { c with active := true, units := c.badN }).tamperRecord p k 0 c.at_ c.v1 c.v2).holdStop
  else if c.active && 5120 ≤ c.good then
    let v : Int × Int := if kind = 0 then (c.worst, c.units) else (c.v1, c.v2)
    ((s.modPq p fun q => q.setPersist kind {}).tamperRecord p k 1 c.at_ v.1 v.2).holdStop
  else s)

/-! ### Registers (R329, R330) -/

/-- Bits [23:0] of PQ_STAT for a detector. -/
def pqStat (d : PqDet) (ref : Int) (sliding : Bool) : Nat :=
  let act := [d.sag, d.swell, d.intr].filterMap id
  let ch := act.foldl (fun a e => a ||| e.channels) 0
  (pack [(23, 8, (ref / 655360).toNat), (7, 7, b1 sliding), (6, 4, ch), (2, 2, b1 d.intr.isSome),
    (1, 1, b1 d.swell.isSome), (0, 0, b1 d.sag.isSome)]).toNat

def PqDet.last (d : PqDet) : Word := pack [(1, 0, d.lastKind), (15, 4, d.lastPm), (31, 16, d.lastMs)]

def State.pqStatOf (s : State) (p : Port) : Word :=
  let d := (s.pqAt p).det
  if s.isAc p then w32 (pqStat d (if (s.nrgAt p).winFrom.isSome then (ix s.cfg.pq p).acRef.ref else 0) false)
  else w32 (pqStat d (d.usr.getD 0) d.usr.isSome)

def State.pqSiteStat (s : State) : Word :=
  if s.legal.state == .starting then 0 else
  let base := pqStat s.legal.site (if s.siteRef.isSome then s.cfg.pqSite.acRef.ref else 0) false
  pack [(23, 0, base), (27, 24, s.cfg.supply.siteRef), (28, 28, b1 (s.siteRef.isSome && s.legalRun))]

/-- TMP_STAT … TMP_DIFF, 0 until Legal has started. BIDIR: the open session is bidirectional. CHECK_SUSPENDED: the comparison stopped
because the check head left service. A condition that waits for its end record under a VOID Legal is not active (R327, R328). -/
def State.tmpBlock (s : State) (p : Port) : List Word :=
  if s.legal.state == .starting then List.replicate 5 0 else
  let q := if s.legalVoid then { s.pqAt p with bypass := {}, neutV := {}, neutI := {} } else s.pqAt p
  [pack [(15, 8, min 255 q.bypass.badN), (7, 7, b1 (q.bidir && s.sesIsOpen p)),
      (6, 6, b1 ((s.nrgAt p).winFrom.isSome && !s.headOk p 2)), (5, 5, b1 q.mark), (4, 4, b1 q.revPol),
      (3, 3, b1 q.revExport), (2, 2, b1 q.neutI.active), (1, 1, b1 q.neutV.active), (0, 0, b1 q.bypass.active)],
    pack [(15, 0, ix q.counts 0), (31, 16, ix q.counts 1)], pack [(15, 0, ix q.counts 2), (31, 16, ix q.counts 3)],
    pack [(15, 0, ix q.counts 4)], wInt q.diff]

/-! ### Commands of group 0x23 (R331 to R333) -/

def execGetPqStatus (r : Req) (s : State) : Res :=
  .next (s.unlessVoid r fun s =>
    let a := if r.namesPort then [s.pqStatOf r.port, (s.pqAt r.port).det.last] else [s.pqSiteStat, s.legal.site.last]
    s.answer r Code.done (a ++ [w32 s.legal.pqSeq, w32 s.legal.pqDropped]))

def execGetTamperStatus (r : Req) (s : State) : Res :=
  .next (s.unlessVoid r fun s => s.answer r Code.done (s.tmpBlock r.port))

def execGetPqEvents (r : Req) (s : State) : Res :=
  .next (s.unlessVoid r fun s =>
    let n := r.fld 3 14 8
    if n = 0 ∨ 64 < n then s.answer r Code.outOfRange
    else
      let src := if r.namesPort then r.port.1 else 0xFF
      let recs := (s.legal.pqRing.reverse.filter (·.source == src)).take n
      let bytes := recs.flatMap (·.bytes)
      s.answerRing r (r.fld 3 2 0) bytes [pack [(15, 0, bytes.length)]])

def execGetTamperRecord (r : Req) (s : State) : Res :=
  .next (s.unlessVoid r fun s =>
    let l := (s.jnl.legal.recs.reverse.filter fun j => j.type == 7 && j.src == r.port.1).take 16
    match l[r.fld 3 3 0]? with
    | some j => s.answerRing r (r.fld 3 10 8) j.data [pack [(15, 0, j.len)]]
    | none => s.answer r Code.wrongState)

end Sys2Proof.Machine
end

