-- ==== Sys2Proof/Machine/Cave.lean ====
section
/-! DEFINITION. The Cave's rows: windows, capture, the drive's states, the Index, the journal's confirmations, and the commands of group 0x60 (spec 18). -/

namespace Sys2Proof.Machine

/-! ### Windows (R489) -/

/-- CAVE_WINDOW_TRIGGER: 0 PQ event, 1 tamper record, 2 safety trip, 3 billing stop; each enabled in WIN_TRIG. -/
def execCaveWindowTrigger (src : Option Port) (kind : Fin 4) (s : State) : Res :=
  let source := match src with | some p => p.1 | none => 0xFF
  .next (if s.cfg.cave.trig / 2 ^ kind.1 % 2 = 1 then (s.startWin source kind.1).1 else s)

/-- CAVE_WINDOW_END: the post-time of a window has passed with sample last, and its record is written. -/
def execCaveWindowEnd (num last : Nat) (s : State) : Res :=
  .next (match s.cave.open_.find? (·.num == num) with
  | some w => if w.last != last || s.legal.proc ≤ last then s else s.closeWin w
  | none => s)

/-! ### Capture (R485 to R488, R490, R491) -/

/-- Why a head's stream is not written now: 3 shed, 4 Doze, 6 storage fault. -/
def State.notWritten (s : State) : Option Nat :=
  if s.cave.paused then some 4
  else if s.cave.state == .fault then some 6
  else if s.cave.shed != 0 then some 3
  else none

/-- CAVE_STREAM_SAMPLES: a block of a head in the continuous stream, its last sample having come: it is queued with what is invalid
recorded, or not written. -/
def execCaveStreamSamples (b : StreamBlock) (s : State) : Res :=
  let p : Port := portOf b.head
  let m0 := 336 * b.num
  .next (if !s.cfg.cave.capture || !s.cfg.cave.enable || s.legalVoid || !(s.cave.state.usable || s.cave.state == .fault) ||
      s.legal.proc ≤ 8 * (m0 + 335) then s
  else match s.notWritten with
    | some c => s.spans b.head [(8 * m0, 8 * (m0 + 335), c)] (8 * (m0 + 335))
    | none =>
      let l := (List.range 336).map fun i => s.cave.streamAt b.head (m0 + i)
      let valid := l.map (·.isSome)
      let out := !s.headOk p (roleOf b.head)
      let blk : Blk336 := { head := b.head.1, num := b.num, first := 8 * m0, run := s.legal.run, gen := s.cave.gen, flags := s.blockFlags b.head valid
                            slot := (24 * (s.cave.p0 + b.num) + b.head.1) % max 1 s.cave.nslot, valid, data := sampleBytes l }
      let runs := causeRuns m0 (valid.map fun v => if !v then some 1 else if out then some 2 else none)
      ((s.modCave fun c => { c with queue := c.queue ++ [.block blk] }).spans b.head (runs.map fun x => (8 * x.1, 8 * x.2.1, x.2.2))
        (8 * (m0 + 335))).shed)

/-- Highest legal SEQ that the writer has in the queue or in the Records region. -/
def Cave.legalTop (c : Cave) : Nat :=
  c.queue.foldl (fun a q => match q with | .legal r => max a r.legalSeq | _ => a) c.legalSeq

/-- CAVE_RECORD_TAKE: the next legal record that Legal offers, else the next other record, where its part of the queue has
room. A legal record that the Records region holds is confirmed again without being written (R493). -/
def execCaveRecordTake (s : State) : Res :=
  let c := s.cave
  .next (if c.state != .ready then s
  else match s.jnl.heldRecs.find? fun r => r.seq ≤ c.legalSeq with
    | some _ => s.emit (.caveConfirm c.legalSeq)
    | none =>
      match s.jnl.heldRecs.find? fun r => c.legalTop < r.seq with
      | some r =>
        if c.legalPart + r.toCave.size ≤ mib then
          (s.modCave fun c => { c with queue := c.queue ++ [.legal r.toCave] }).shed else s
      | none =>
        match c.offered with
        | r :: rest =>
          if c.otherPart + r.size ≤ mib then
            (s.modCave fun c => { c with offered := rest, queue := c.queue ++ [.other r] }).shed else s
        | [] =>
          match s.legal.pqRing.find? fun r => !r.taken with
          | some r =>
            let k : CaveRec := { kind := 8, source := r.source, data := r.bytes, key := r.seq }
            if c.otherPart + k.size ≤ mib then
              ((s.modCave fun c => { c with queue := c.queue ++ [.other k] }).modLegal fun l => { l with
                pqRing := l.pqRing.map fun x => if x.seq = r.seq then { x with taken := true } else x }).shed
            else s
          | none => s)

/-- Records with the offsets in the Records region at which they start. -/
def recStarts : Nat → List CaveRec → List (Nat × CaveRec)
  | _, [] => []
  | a, r :: l => (a, r) :: recStarts (a + r.size) l

/-- The records of a chunk of 1 MiB: those that start in it. DEDUCED (log 193). -/
def Cave.chunkRecs (c : Cave) (k : Nat) : List CaveRec := ((recStarts 0 c.recs).filter fun x => x.1 / mib == k).map (·.2)

/-- The highest key of a kind and a source among records. -/
def highKey (l : List CaveRec) (kind source : Nat) : Nat :=
  ((l.filter fun r => r.kind == kind && r.source == source).map (·.key)).foldl max 0

/-- The Index entry of a chunk (R484). -/
def indexEntry (l : List CaveRec) : List Byte :=
  let b := leBytes 8 ((l.head?.map (·.seq)).getD 0) ++ leBytes 4 ((l.head?.map (·.run)).getD 0) ++ leBytes 4 ((l.getLast?.map (·.run)).getD 0) ++
    ((List.range 8).flatMap fun p => leBytes 4 (highKey l 2 p) ++ leBytes 6 (highKey l 1 p)) ++
    leBytes 4 (((l.filter (·.kind == 8)).map (·.key)).foldl max 0) ++ leBytes 24 0
  b ++ leBytes 4 (crc32 b)

/-- Write the entries of the chunks that have filled. -/
def Cave.writeIndex (c : Cave) : Cave :=
  let filled := c.recUsed / mib
  { c with index := c.index ++ (List.range (filled - c.index.length)).map fun i => indexEntry (c.chunkRecs (c.index.length + i)) }

/-- A record goes to the Records region, and the Index gets its entry where a chunk fills; or the region is full (R484, R492). DEDUCED (log 193). -/
def State.storeRec (s : State) (r : CaveRec) : State :=
  let c := s.cave
  if c.recBytes < c.recUsed + r.size then
    (s.modCave fun c => { c with queue := c.queue.filter fun | .block _ => true | _ => false }).setCave .full
  else
    let run := if r.run = 0 then s.legal.run else r.run
    s.modCave fun c => Cave.writeIndex { c with
      recs := c.recs ++ [{ r with seq := c.nextSeq + 1, run }], nextSeq := c.nextSeq + 1, recUsed := c.recUsed + r.size
      legalSeq := max c.legalSeq r.legalSeq }

/-- Windows still held: the newest whose blocks fit the Windows region. -/
def keepWindows (room : Nat) : List Win → List Win
  | [] => []
  | w :: ws => if ((w :: ws).map Win.size).sum ≤ room then w :: ws else keepWindows room ws

/-- NVME_WRITE_COMPLETE: the oldest entry of the queue is on the drive; a legal record is confirmed (R477, R490). -/
def execNvmeWriteComplete (s : State) : Res :=
  .next (if !s.cave.state.usable then s
  else match s.cave.queue with
    | [] => s
    | q :: rest =>
      let s1 := s.modCave fun c => { c with queue := rest, resetFails := 0 }
      (match q with
      | .legal r =>
        let t := s1.storeRec r
        if t.cave.state == CaveState.ready then t.emit (.caveConfirm r.legalSeq) else t
      | .other r => s1.storeRec r
      | .block b => s1.modCave fun c =>
          let kept := c.blocks.filter fun (x : Blk336) => x.window || b.window || x.slot != b.slot
          let wins := keepWindows c.winBytes c.windows
          { c with
            blocks := (kept.filter fun (x : Blk336) => !x.window || (wins ++ c.open_).any fun w => w.num == x.num) ++ [b], windows := wins
            pos := if b.window then c.pos else max c.pos (c.p0 + b.num) }).shed)

/-! ### The drive (R482, R492, R493, R495) -/

/-- CAVE_FLUSH. -/
def execCaveFlush (s : State) : Res := .next (if s.cave.state.usable then s.emit (.nvme 0) else s)

/-- SUPERBLOCK_WRITE: the copies alternate by the update count. -/
def execSuperblockWrite (s : State) : Res :=
  .next (if s.cave.state.usable then
    (s.modCave fun c => { c with updates := c.updates + 1, saved := max c.saved c.pos }).emit (.nvme 1)
  else s)

/-- The blocks of a head that the queue held are not written: a span of cause 6 (R488, R492). -/
def State.discardBlocks (s : State) (q : List QItem) (h : SLink) : State :=
  let l := q.filterMap fun | .block b => if !b.window && b.head == h.1 then some b.first else none | _ => none
  match l.head?, l.getLast? with
  | some a, some b => s.takeSpan h a (b + 2680) 6
  | _, _ => s

/-- FAULT: queued blocks and other records are discarded, and the windows in progress with them; legal records remain in the legal
journal (R492). DESIGN CHOICE (log 198). -/
def State.caveFault (s : State) : State :=
  match s.cave.state with
  | .ready | .full | .init | .blank | .foreign =>
    ((s.modCave fun c => { c with queue := [], open_ := [], resetFails := 0 }).each (n := 24) fun h t =>
      t.discardBlocks s.cave.queue h).setCave .fault |>.shed
  | _ => s

/-- NVME_TIMEOUT: the command is aborted and the controller reset; the third in a row with none completed between
puts the Cave in FAULT. -/
def execNvmeTimeout (s : State) : Res :=
  .next (match s.cave.state with
  | .disabled | .absent | .fault => s
  | _ =>
    let t := ((s.modCave fun c => { c with resets := satInc 255 c.resets, resetFails := c.resetFails + 1 }).caveRaise 0x80).emit
      (.nvme 2)
    if 3 ≤ t.cave.resetFails then t.caveFault else t)

def execNvmeControllerFatal (s : State) : Res := .next s.caveFault
def execStorLinkDown (s : State) : Res := .next s.caveFault

/-- READY, or FULL where the Records region has no room for another record. -/
def Cave.readyState (c : Cave) : CaveState := if c.recBytes < c.recUsed + 24 then .full else .ready

/-- The state that the superblocks give a drive when the Cave leaves FAULT (R482, R493). DEDUCED (log 235). -/
def Cave.backState (c : Cave) : CaveState :=
  match (c.drive.map fun d => d.format : Option DriveFormat) with
  | none => .init
  | some .blank => .blank
  | some .foreign => .foreign
  | some .own => c.readyState

/-- CAVE_FAULT_RETRY: the controller reset succeeds, and the spans of cause 6 are recorded, or it fails (R492). DEDUCED (log 235). -/
def execCaveFaultRetry (ok : Bool) (s : State) : Res :=
  .next (if s.cave.state != .fault then s
  else
    let t := ((s.modCave fun c => { c with resets := satInc 255 c.resets }).caveRaise 0x80).emit (.nvme 2)
    if ok then (t.each (n := 24) fun h u => match ix u.cave.absent h with
      | some (_, _, 6) => u.endAbsence h
      | _ => u).setCave t.cave.backState else t)

/-- DRIVE_WARNING: new health values; a critical warning raises the event. -/
def execDriveWarning (temp used : Nat) (warning : Bool) (s : State) : Res :=
  .next (match s.cave.drive with
  | none => s
  | some d =>
    let t := s.modCave fun c => { c with drive := some { d with temp, used, warning } }
    if warning then t.caveRaise 0x40 else t)

/-- The spans that a chip reset left are recorded up to the newest sample (R488, R494). -/
def State.resetSpans (s : State) : State :=
  s.each (n := 24) fun h t => match ix t.cave.absent h with
    | some (a, b, 5) => (t.modCave fun c => { c with
        absent := upd c.absent h fun _ => some (a, max b (t.legal.proc - 1), 5) }).endAbsence h
    | _ => t

/-- CAVE_INIT_DONE: what stands at STOR and what its superblocks say: 0 blank, 1 this module's, else another's. -/
def execCaveInitDone (drive : Option DriveInfo) (s : State) : Res :=
  .next (if s.cave.state != .init then s
  else if !s.cfg.cave.enable then s.setCave .disabled
  else match drive with
    | none => (s.modCave fun c => { c with drive := none }).setCave .absent
    | some d =>
      let f : DriveFormat := if d.format = 0 then .blank else if d.format = 1 then .own else .foreign
      let t := s.modCave fun c => { c with drive := some { size := d.size, format := f } }
      if t.cave.capacity < 128 * 1024 * mib then t.setCave .absent
      else match f with
        | .blank => t.setCave .blank
        | .foreign => t.setCave .foreign
        | .own => ((if t.legalRun then t.runRecord else t).resetSpans).setCave t.cave.readyState)

/-! ### Confirmations (R477, R478) -/

/-- CAVE_CONFIRM: Legal releases every held record up to the confirmed SEQ. -/
def execCaveConfirm (seq : Nat) (s : State) : Res :=
  .next (s.modJnl fun j => { j with confirmed := max j.confirmed (min seq j.legal.seq) }).holdLevel

/-- CAVE_ACK_WRITE. -/
def execCaveAckWrite (s : State) : Res := .next (if s.legalRun then s.writeAck else s)

/-! ### Registers (R495) -/

/-- A journal's status word. -/
def Journal.stat (j : Journal) (half : Nat) (hold : Nat) : Word :=
  pack [(31, 24, j.ripenings), (17, 17, j.activeHalf), (16, 14, hold + 4 * b1 j.deferred), (13, 13, b1 j.run.isSome),
    (9, 0, min 1000 (j.used * 1000 / half))]

/-- JNL_LEGAL_STAT … JNL_EVENT as a guest reads them. -/
def State.jnlBlock (s : State) (g : Guest) : List Word :=
  let j := s.jnl
  [Journal.stat { j.legal with deferred := j.legal.deferred && s.saving } legalHalf (2 * b1 j.holdMax + b1 j.holdHigh), pack [(20, 0, j.held)]] ++ pair48 j.legal.seq ++
    [({ j.conf with deferred := false }).stat confHalf 0, pack [(7, 0, min 255 j.legal.torn), (15, 8, min 255 j.conf.torn)], ix j.ev g]

/-- Full-rate index of the oldest continuous block of the current run that is still held. -/
def State.waveOldest (s : State) : Nat :=
  match (s.cave.blocks.filter fun b => !b.window && b.run == s.legal.run && b.gen == s.cave.gen).map (·.first) with
  | [] => 0
  | a :: l => l.foldl min a

/-- CAV_STAT … CAV_WINDOW. -/
def State.caveBlock (s : State) : List Word :=
  let c := s.cave
  [pack [(31, 28, c.state.code), (27, 26, c.shed), (25, 25, b1 c.paused), (14, 8, c.queued * 100 / (16 * mib))]] ++
    pair48 c.capacity ++ pair48 c.recUsed ++ pair48 s.waveOldest ++
    [pack [(7, 0, (c.drive.map (·.temp)).getD 0), (15, 8, (c.drive.map (·.used)).getD 0),
        (16, 16, b1 ((c.drive.map (·.warning)).getD false)), (31, 24, c.resets)],
      pack [(15, 0, c.shedCount), (31, 16, c.winRefused)], w32 c.window]

/-! ### Commands of group 0x60 (R496 to R498) -/

def execGetJournalStatus (r : Req) (s : State) : Res := .next (s.answer r Code.done (s.jnlBlock r.guest))
def execGetCaveStatus (r : Req) (s : State) : Res :=
  .next (s.answer r Code.done (s.caveBlock ++ [ix s.cave.ev r.guest]))

/-- The highest key that an Index entry holds of a kind and a source; none of a kind that it does not carry. -/
def entryHigh (e : List Byte) (kind source : Nat) : Option Nat :=
  match kind with
  | 1 => if source < 8 then some (leNat ((e.drop (20 + 10 * source)).take 6)) else none
  | 2 => if source < 8 then some (leNat ((e.drop (16 + 10 * source)).take 4)) else none
  | 8 => some (leNat ((e.drop 96).take 4))
  | _ => none

/-- The chunk that FIND_CAVE_RECORD reads: of the kinds that the Index carries, the first whose entry reaches the key, else the one
still open; of another kind, the one of the first match (R484). DEDUCED (log 193). -/
def Cave.chunkFor (c : Cave) (kind source key : Nat) (hit : CaveRec → Bool) : Nat :=
  if (entryHigh [] kind source).isSome then
    (c.index.findIdx? fun e => (entryHigh e kind source).any (key ≤ ·)).getD c.index.length
  else (((recStarts 0 c.recs).find? fun x => hit x.2).map (·.1 / mib)).getD 0

/-- FIND_CAVE_RECORD reads one chunk (R484, R497). -/
def execFindCaveRecord (r : Req) (s : State) : Res :=
  let kind := r.fld 3 3 0
  let key := (r.word 4).toNat + 2 ^ 32 * (r.word 5).toNat
  let count := r.fld 7 7 0
  let ring := r.fld 3 10 8
  .next (if !s.cave.state.usable then s.answer r Code.wrongState
  else if !([1, 2, 3, 8, 11, 13].contains kind) || count = 0 || (kind == 11 && 24 ≤ r.fld 3 20 16) then s.answer r Code.outOfRange
  else
    let hit (x : CaveRec) : Bool := x.kind == kind && decide (key ≤ x.key) &&
      (if kind = 11 then x.head == r.fld 3 20 16 && x.run == (r.word 6).toNat else x.source == r.portField || kind == 13)
    let l := ((s.cave.chunkRecs (s.cave.chunkFor kind r.portField key hit)).filter hit).take count
    let bytes := l.flatMap (·.bytes)
    s.answerRing r ring bytes [pack [(7, 0, l.length), (31, 8, bytes.length)]])

/-- A block as it lies on the drive (R486). -/
def Blk336.bytes (b : Blk336) : List Byte :=
  let map := (List.range 42).map fun i => BitVec.ofNat 8 (flagWord ((List.range 8).map fun j => b.valid.getD (8 * i + j) true))
  let head := leBytes 1 0xA7 ++ leBytes 1 b.head ++ leBytes 1 (b.flags ||| b1 b.window) ++ leBytes 1 0 ++ leBytes 4 b.gen ++
    leBytes 6 b.first ++ leBytes 4 b.run ++ map
  let data := padTo 4032 b.data
  head ++ leBytes 4 (crc32 (head ++ data)) ++ data

def execReadWaveform (r : Req) (s : State) : Res :=
  let win := r.bit 3 0
  let heads := (idx 3).filter fun k => r.bit 3 (1 + k.1)
  let blocks := r.fld 7 10 0
  let from_ := r.nat48 5
  .next (if !s.cave.state.usable then s.answer r Code.wrongState
  else if !inRange 1 1024 blocks || heads.isEmpty then s.answer r Code.outOfRange
  else
    let start := if win then (((s.cave.windows ++ s.cave.open_).find? (·.num == from_)).map (·.first)).getD 0 else from_ / 2688 * 2688
    let step := if win then 336 else 2688
    let want := (List.range blocks).flatMap fun i => heads.map fun k => (start + step * i, 3 * r.port.1 + k.1)
    let got := want.map fun (w : Nat × Nat) => s.cave.blocks.find? fun b =>
      b.window == win && b.first == w.1 && b.head == w.2 && b.gen == s.cave.gen &&
        (if win then b.num == from_ else b.run == (r.word 4).toNat)
    let bytes := got.flatMap fun | some b => b.bytes | none => List.replicate 4096 0
    s.answerRing r (r.fld 3 10 8) bytes [pack [(15, 0, want.length)], pack [(15, 0, (got.filter (·.isNone)).length)]])

/-- A byte of the drive: the Index, Records and Waveform regions as laid out, the rest open. DESIGN CHOICE (log 139). -/
def State.caveByte (s : State) (a : Nat) : Byte :=
  let c := s.cave
  let open_ := Config.freeByte (s.free * 2 ^ 46 + a)
  if c.state == .foreign then open_
  else if 2 * mib ≤ a && a < Cave.recBase then
    ((c.index[(a - 2 * mib) / 128]?).bind fun e => e[(a - 2 * mib) % 128]?).getD open_
  else if Cave.recBase ≤ a && a < Cave.recBase + c.recUsed then
    ((c.recs.flatMap (·.bytes))[a - Cave.recBase]?).getD open_
  else if c.waveBase ≤ a then
    match c.blocks.find? fun b => !b.window && b.slot == (a - c.waveBase) / 4096 with
    | some b => (b.bytes[(a - c.waveBase) % 4096]?).getD open_
    | none => open_
  else open_

def execReadCaveRaw (r : Req) (s : State) : Res :=
  let off := (r.word 4).toNat + 2 ^ 32 * (r.word 5).toNat
  let len := r.fld 6 12 0
  .next (if !r.fromSystem then s.answer r Code.refused
  else if !(s.cave.state.usable || s.cave.state == .foreign) then s.answer r Code.wrongState
  else if off % 4096 ≠ 0 || !inRange 1 4096 len || s.cave.capacity < off + 4096 * len then s.answer r Code.outOfRange
  else
    let bytes := (List.range (4096 * len)).map fun i => s.caveByte (off + i)
    s.useFree.answerRing r (r.fld 3 2 0) bytes [])

/-- DEDUCED (log 138). -/
def execFormatCave (r : Req) (s : State) : Res :=
  let force := r.bit 4 0
  .next (if !r.fromSystem then s.answer r Code.refused
  else if r.word 3 ≠ 0x0000CA7E then s.answer r Code.outOfRange
  else
    let ok := match s.cave.state with
      | .blank => true
      | .ready | .full | .foreign => force && s.inService
      | _ => false
    if !ok then s.answer r Code.wrongState
    else
      let s1 := s.modCave fun c => { c with
        gen := c.gen + 1, recs := [], recUsed := 0, index := [], nextSeq := 0, legalSeq := 0, blocks := [], windows := [], window := 0, winPos := 0
        open_ := [], offered := [], queue := [], saved := 0, pos := 0, updates := 0
        drive := c.drive.map fun d => { d with format := .own } }
      ((if s1.legalRun then s1.runRecord else s1).setCave .ready).shed.answer r Code.done)

def execMarkWindow (r : Req) (s : State) : Res :=
  .next (if !r.namesPort && !r.fromSystem then s.answer r Code.refused
  else
    let t := s.startWin (if r.namesPort then r.port.1 else 0xFF) 4
    match t.2 with
    | some n => t.1.answer r Code.done [w32 n]
    | none => t.1.answer r Code.wrongState)

end Sys2Proof.Machine
end

