-- ==== Sys2Proof/Machine/CfgVehicle.lean ====
section
/-! DEFINITION. Configuration items of groups 0x10 and 0x11: validation (spec 06 R155, 07 R181) and what they
set (R153, R179). -/

namespace Sys2Proof.Machine

/-- The port configuration that a SET_PORT_CONFIG spells (R153). -/
def Item.portCfg (it : Item) : PortCfg :=
  { connType := it.fld 3 1 0, enable := it.bit 3 2, acHlc := it.bit 3 3, pnc := it.bit 3 4,
    slacValidate := it.bit 3 5, protocols := it.fld 3 10 8, attenMax := it.fld 3 23 16,
    linkRetries := it.fld 3 25 24, acMax := it.fld 4 9 0, lockFb := it.fld 4 17 16, lockPresent := it.bit 4 18,
    lockPulse := it.fld 5 9 0, slacInit := it.fld 5 21 16, priority := it.fld 6 11 0 }

/-- The session configuration that a SET_SESSION_CONFIG spells (R179). -/
def Item.sesCfg (it : Item) : SesCfg :=
  { autoMode := it.bit 3 0, autoBilled := it.bit 3 1, freeOk := it.bit 3 2, unlockOnEnd := it.bit 3 3,
    authTimeout := it.fld 3 15 8, preauthHold := it.fld 4 8 0, tEnd := it.fld 4 23 16, pauseMax := it.fld 5 11 0,
    prechargeMax := it.fld 5 23 16 }

/-- The protocol codes of a PRIORITY list, up to its end (R153). -/
def priorityList (w : Nat) : List Nat :=
  let a := w % 16
  let b := w / 16 % 16
  let c := w / 256 % 16
  if a = 0 then [] else if b = 0 then [a] else if c = 0 then [a, b] else [a, b, c]

/-- Whether a protocol code is enabled: bit code − 1 of PROTOCOLS. -/
def protoEnabled (protocols code : Nat) : Bool := 1 ≤ code && code ≤ 3 && (protocols / 2 ^ (code - 1)) % 2 == 1

def applyVehicle (c : Cfg) (it : Item) : Cfg :=
  match it.opcode with
  | 0x1082 => { c with port := upd c.port it.port fun _ => it.portCfg }
  | 0x1184 => { c with ses := upd c.ses it.port fun _ => it.sesCfg }
  | 0x1086 =>
    let slot := it.fld 3 5 0
    if h : slot < 40 then
      { c with trust := c.trust.set slot (if it.bit 3 12 then none else
          some { kind := it.fld 3 9 8, der := it.data, keySlot := it.fld 4 7 0 }) h }
    else c
  | _ => c

/-- Validation of an item of groups 0x10 and 0x11. What only the parsing of a certificate tells is a free function
of its bytes. A leaf's key must be that of the slot it names as the vault holds it now; an empty slot matches none. A field outside its range (REASON 7) includes the CONN_TYPE and LOCK_FB codes that the table does not
list. DEDUCED (log 46, 53). -/
def validateVehicle (s : State) (_c : Cfg) (it : Item) : Option Nat :=
  match it.opcode with
  | 0x1082 =>
    let k := it.portCfg
    let has (n : Nat) := protoEnabled k.protocols n
    let l := priorityList k.priority
    firstReason [(1, k.connType == 2 && 2 ≤ it.port.1),
      (2, k.protocols == 0 && (k.connType == 1 || k.connType == 2)),
      (3, (k.connType == 2 && (has 1 || has 2)) || (k.connType == 0 && has 1)),
      (4, k.connType == 2 && !has 3),
      (5, k.pnc && !has 2 && !has 3),
      (6, l.any (fun n => !has n) || !(l.eraseDups == l)),
      (7, k.connType == 3 || !inRange 10 70 k.attenMax || !inRange 60 630 k.acMax || k.lockFb == 3 ||
          !inRange 50 1000 k.lockPulse || !inRange 20 50 k.slacInit),
      (8, k.lockPresent && k.lockFb == 0)]
  | 0x1184 =>
    let k := it.sesCfg
    firstReason [(1, !inRange 10 120 k.authTimeout), (2, !inRange 10 300 k.preauthHold), (3, !inRange 5 100 k.tEnd),
      (4, !inRange 10 3600 k.pauseMax || !inRange 1 30 k.prechargeMax),
      (5, k.autoMode && !k.autoBilled && !k.freeOk)]
  | 0x1086 =>
    let kind := it.fld 3 9 8
    let keySlot := it.fld 4 7 0
    if it.bit 3 12 then none
    else firstReason [(9, 2048 < it.data.length || !Config.certParses it.data),
      (10, kind < 3 && !Config.certRootOk it.data),
      (11, kind == 3 && Config.certIsLeaf it.data && !((s.keys.slots.find? (·.1 == keySlot)).any fun k => Config.certKeyIs it.data k.2.public))]
  | _ => none

end Sys2Proof.Machine
end

