-- ==== Sys2Proof/Machine/CfgPower.lean ====
section
/-! DEFINITION. Configuration items of group 0x12: validation (spec 08 R222) and what they set (R220). -/

namespace Sys2Proof.Machine

/-- The power configuration that a SET_POWER_CONFIG spells (R220). -/
def Item.pwrCfg (it : Item) : PwrCfg :=
  { map := some (⟨it.fld 3 0 0 % 2, by omega⟩, it.fld 3 3 1), period := it.fld 3 8 4, bidirOk := it.bit 3 9,
    priority := it.fld 3 11 10, prechargeI := it.fld 3 20 16, slewUp := it.fld 4 15 0, slewDn := it.fld 4 31 16,
    iMax := it.fld 5 23 0, vMax := it.fld 6 23 0, exportMax := it.fld 7 23 0 }

def Item.link (it : Item) : PmIdx := ⟨it.fld 3 0 0 % 2, by omega⟩

/-- DEDUCED (log 48). -/
def applyPower (c : Cfg) (it : Item) : Cfg :=
  match it.opcode with
  | 0x1280 => { c with pwr := upd c.pwr it.port fun _ => it.pwrCfg }
  | 0x1282 => { c with lease := { floor := it.fld 3 15 0, auxKw := it.fld 3 31 16, weight := it.fld 4 3 0 } }
  | 0x1283 => { c with siteLimit := it.fld 3 15 0 }
  | 0x1284 => { c with pmEnable := upd c.pmEnable it.link fun _ => it.bit 3 1 }
  | _ => c

/-- Current limit in mA and voltage limit in 10 mV of a connector type (R20). An AC type states no voltage. -/
def connLimits (connType : Nat) : Nat × Nat :=
  match connType with
  | 0 => (63000, 0xFFFFFF)
  | 1 => (500000, 100000)
  | _ => (3000000, 125000)

/-- The reason against a SITE_LIMIT in kW (R222). -/
def siteLimitReason (kw : Nat) : Option Nat := firstReason [(7, !inRange 1 65000 kw)]

def validatePower (s : State) (c : Cfg) (it : Item) : Option Nat :=
  match it.opcode with
  | 0x1280 =>
    let k := it.pwrCfg
    let pc := ix c.port it.port
    firstReason [
      (1, !inRange 1 20 k.period || !inRange 5 20 k.prechargeI || k.slewUp == 0 || k.slewDn == 0),
      (2, (connLimits pc.connType).1 < k.iMax || (connLimits pc.connType).2 < k.vMax),
      (3, k.bidirOk && !protoEnabled pc.protocols 3),
      (4, !ix c.pmEnable it.link),
      (5, (idx 8).any fun q => q != it.port && (ix c.pwr q).map == k.map)]
  | 0x1282 => firstReason [(6, c.siteLimit < it.fld 3 15 0 + it.fld 3 31 16 || it.fld 4 3 0 == 0)]
  | 0x1283 => siteLimitReason (it.fld 3 15 0)
  | 0x1284 =>
    firstReason [(8, !it.bit 3 1 && (idx 8).any fun q =>
      ((ix c.pwr q).map.map (·.1)) == some it.link || ((ix s.cfg.pwr q).map.map (·.1)) == some it.link)]
  | _ => none

end Sys2Proof.Machine
end

