-- ==== Sys2Proof/Machine/CfgLegal.lean ====
section
/-! DEFINITION. Configuration items of groups 0x20 to 0x23 and 0x92: validation (spec 09 R257, 10 R273 and R287, 11 R312,
12 R334) and what they set (R255, R285, R310, R313, R332). -/

namespace Sys2Proof.Machine

def Item.metCfg (it : Item) : MetCfg := { ratedI := it.fld 3 23 0, phases := it.fld 4 1 0 }

def Item.energyCfg (it : Item) : EnergyCfg :=
  { cycles := it.fld 3 7 0, poEn := it.bit 3 8, poExport := it.bit 3 9, cPo := it.fld 4 19 0, poWidth := it.fld 5 16 0 }

def Item.pulseCfg (it : Item) : PulseCfg :=
  { role := it.fld 3 2 1, port := it.fld 3 6 4, mech := it.bit 3 8, activeLow := it.bit 3 9, cPi := it.fld 4 23 0
    pulses := it.fld 5 16 0 }
def Item.pulseIn (it : Item) : Fin 2 := ⟨it.fld 3 0 0 % 2, by omega⟩

def Item.supplyCfg (it : Item) : SupplyCfg := { holdupUs := it.fld 3 16 0, pfwEn := it.bit 3 20, siteRef := it.fld 4 3 0 }

def Item.schedCfg (it : Item) : SchedCfg :=
  { init := it.fld 3 2 0, entries := (List.range (min 8 (it.fld 3 11 8))).map fun i => (it.fld (4 + i) 23 0, it.fld (4 + i) 26 24) }

def Item.optCfg (it : Item) : OptCfg := { enable := it.bit 3 0, maxBaud := it.fld 3 6 4, ports := it.fld 3 15 8 }

def Item.pqCfg (it : Item) : PqCfg :=
  { uDin := it.fld 3 15 0, sag := it.fld 4 7 0, swell := it.fld 4 15 8, intr := it.fld 4 23 16, hyst := it.fld 4 31 24 }

def applyLegal (c : Cfg) (it : Item) : Cfg :=
  match it.opcode with
  | 0x2080 => { c with met := upd c.met it.port fun _ => some it.metCfg }
  | 0x2180 => { c with energy := upd c.energy it.port fun _ => it.energyCfg }
  | 0x2181 => { c with pulse := upd c.pulse it.pulseIn fun _ => it.pulseCfg }
  | 0x2182 => { c with supply := it.supplyCfg }
  | 0x2280 => { c with interval := upd c.interval it.port fun _ => it.fld 3 5 0 }
  | 0x2281 => { c with sched := upd c.sched it.port fun _ => it.schedCfg }
  | 0x9280 => { c with opt := it.optCfg }
  | 0x2380 => if it.fld 2 7 0 = 0xFF then { c with pqSite := it.pqCfg } else { c with pq := upd c.pq it.port fun _ => it.pqCfg }
  | _ => c

/-- The rated power P_R of a port in W (R273). -/
def ratedPower (c : Cfg) (p : Port) : Nat :=
  let k := ix c.port p
  if k.connType = 0 then ((ix c.met p).map (·.phases)).getD 1 * k.acMax * 2645 / 100
  else (ix c.pwr p).vMax * (ix c.pwr p).iMax / 100000

/-- A port's pulse constant is too high for its rated power (R273). -/
def pulseTooFast (c : Cfg) (p : Port) : Bool :=
  let e := ix c.energy p
  let w := ratedPower c p
  decide (144000000000 < e.cPo * w) || decide (3600000000000 < e.cPo * w * 2 * e.poWidth)

/-- REASON 0x2103 of an item of another group that would raise P_R (R273). -/
def raisesPower (c d : Cfg) (p : Port) : Bool := decide (ratedPower c p < ratedPower d p) && pulseTooFast d p

/-- The offsets of a schedule are strictly ascending. -/
def ascending : List Nat → Bool
  | a :: b :: l => decide (a < b) && ascending (b :: l)
  | _ => true

def validateLegal (s : State) (c : Cfg) (it : Item) : Option Nat :=
  let service := s.rind.lifecycle == 3
  match it.opcode with
  | 0x2080 =>
    let k := ix c.port it.port
    let m := it.metCfg
    firstReason [(1, !(if k.connType = 0 then inRange 1000 (k.acMax * 100) m.ratedI
        else inRange 5000 (connLimits k.connType).1 m.ratedI)),
      (2, if k.connType = 0 then m.phases != 1 && m.phases != 3 else m.phases != 0),
      (0x2103, raisesPower c (applyLegal c it) it.port)]
  | 0x2180 =>
    let e := it.energyCfg
    firstReason [(1, !service), (2, e.cycles == 0 || !inRange 1000 1000000 e.cPo || !inRange 10 100000 e.poWidth),
      (3, pulseTooFast (applyLegal c it) it.port)]
  | 0x2181 =>
    let k := it.pulseCfg
    let other := ix c.pulse (1 - it.pulseIn)
    firstReason [(1, !service), (4, !inRange 1000 10000000 k.cPi || !inRange 100 100000 k.pulses),
      (5, k.role == 3 && other.role == 3 && other.port == k.port)]
  | 0x2182 =>
    let k := it.supplyCfg
    firstReason [(1, !service), (6, k.holdupUs != 0 && !inRange 2000 100000 k.holdupUs),
      (7, k.siteRef != 0xF && (7 < k.siteRef || (ix c.port ⟨k.siteRef % 8, by omega⟩).connType != 0))]
  | 0x2280 => firstReason [(1, !service), (2, !inRange 1 60 (it.fld 3 5 0))]
  | 0x2281 =>
    let n := it.fld 3 11 8
    let k := it.schedCfg
    firstReason [(3, decide (8 < n)),
      (4, (k.entries.any fun e => decide (604800 < e.1)) || !ascending (k.entries.map (·.1)) ||
        (List.range 8).any fun i => decide (n ≤ i) && it.word (4 + i) != 0)]
  | 0x9280 => firstReason [(1, !service), (2, decide (6 < it.fld 3 6 4))]
  | 0x2380 =>
    let k := it.pqCfg
    let dc := it.fld 2 7 0 != 0xFF && (ix c.port it.port).connType != 0
    firstReason [(1, (!dc && !inRange 1000 4800 k.uDin) || !inRange 70 95 k.sag || !inRange 105 120 k.swell ||
        !inRange 1 10 k.intr || !inRange 1 5 k.hyst),
      (2, decide (100 ≤ k.sag + k.hyst) || decide (k.swell ≤ 100 + k.hyst) || decide (k.sag ≤ k.intr + k.hyst))]
  | _ => none

end Sys2Proof.Machine
end

