-- ==== Sys2Proof/Machine/CfgUnit.lean ====
section
/-! DEFINITION. Configuration items of groups 0x40, 0x60 and 0x80: validation (spec 15 R411, 18 R499, 20 R551) and what
they set (R409, R497, R549). -/

namespace Sys2Proof.Machine

def Item.lsCfg (it : Item) : LsCfg :=
  { mode := it.fld 4 1 0, src := it.fld 4 4 2, lamp := it.bit 4 5, thermLatch := it.bit 4 6, bootOn := it.bit 4 7
    retryMax := it.fld 4 11 8, shedPrio := it.fld 4 13 12, owner := it.fld 4 19 16, any := it.bit 4 20
    offDiag := it.bit 4 21, olFine := it.bit 4 22, iNom := it.fld 5 11 0, olThresh := it.fld 5 20 16 }
def Item.lsCh (it : Item) : Fin 40 := ⟨it.fld 3 5 0 % 40, by omega⟩

def Item.lkCfg (it : Item) : LkCfg :=
  { freq := it.fld 3 15 0, dead := it.fld 4 7 0, minOn := it.fld 4 15 8, vDrive := it.fld 5 15 0, iLim := it.fld 5 23 16 }

def Item.caveCfg (it : Item) : CaveCfg :=
  { enable := it.bit 3 0, capture := it.bit 3 1, windows := it.bit 3 2, pre := it.fld 3 15 8, post := it.fld 3 31 16
    trig := it.fld 4 3 0 }

def Item.updCfg (it : Item) : UpdCfg := { chainAccept := it.bit 3 0, serve := it.bit 3 1, actWait := it.fld 3 15 4 }

def applyUnit (c : Cfg) (it : Item) : Cfg :=
  match it.opcode with
  | 0x4082 => { c with ls := upd c.ls it.lsCh fun _ => it.lsCfg }
  | 0x4083 => { c with vNom := it.fld 3 15 0 }
  | 0x4084 => { c with lk := upd c.lk it.port fun _ => it.lkCfg }
  | 0x6080 => { c with cave := it.caveCfg }
  | 0x8084 => { c with upd := it.updCfg }
  | _ => c

/-- DEDUCED (log 53). -/
def validateUnit (c : Cfg) (it : Item) : Option Nat :=
  match it.opcode with
  | 0x4082 =>
    let k := it.lsCfg
    let boot := ((idx 40).map fun ch =>
      let x := if ch = it.lsCh then k else ix c.ls ch
      if x.bootOn then x.iNom else 0).sum
    firstReason [(1, decide (39 < it.fld 3 5 0) || !inRange 1 2500 k.iNom || k.mode == 3), (2, k.lamp && k.mode != 2),
      (3, k.olFine && !inRange 1 20 k.olThresh), (4, decide (32000 < boot))]
  | 0x4083 => firstReason [(5, !inRange 1200 3600 (it.fld 3 15 0))]
  | 0x4084 =>
    let k := it.lkCfg
    firstReason [(6, !inRange 1000 20000 k.freq || !inRange 5 100 k.dead || !inRange 10 200 k.minOn ||
      !inRange 300 3600 k.vDrive || !inRange 25 150 k.iLim || decide (10000000 < 2 * (k.dead + k.minOn) * k.freq))]
  | 0x6080 => firstReason [(1, decide (20 < it.fld 3 15 8) || decide (200 < it.fld 3 31 16))]
  | 0x8084 => firstReason [(1, !inRange 1 1440 (it.fld 3 15 4))]
  | _ => none

end Sys2Proof.Machine
end

