-- ==== Sys2Proof/Machine/SafeTable.lean ====
section
/-! DEFINITION. The safety table: its reading from the body of a SAFETY image and its validation (spec 13 R356 to R359,
14 R368, R369). -/

namespace Sys2Proof.Machine

/-- Byte at an offset of the body. -/
def tb (b : List Byte) (i : Nat) : Nat := (b.getD i 0).toNat
/-- A little-endian 16-bit field. -/
def tw (b : List Byte) (i : Nat) : Nat := tb b i + 256 * tb b (i + 1)

/-! ### Reading (R356 to R358, R368) -/

def readInput (b : List Byte) (k : Nat) : InRec :=
  let o := 0x280 + 16 * k
  { type := tb b o, pair := tb b (o + 1), testSrc := tb b (o + 2), role := tb b (o + 3), discMs := tw b (o + 4)
    filterUs := tw b (o + 6), manual := tb b (o + 8) == 1 }

def readOutput (b : List Byte) (k : Nat) : OutRec :=
  { type := tb b (0x380 + 16 * k), dark := tb b (0x381 + 16 * k) == 1 }

/-- DEDUCED (log 118). -/
def readRow (b : List Byte) (r : Nat) : RowRec :=
  let o := 0x400 + 16 * r
  { source := tb b o, index := tb b (o + 1), manual := tb b (o + 2) == 1, ports := tb b (o + 3), outs := tb b (o + 4)
    brakes := tb b (o + 5) }

def readPort (b : List Byte) (p : Nat) : PortRec :=
  let o := 0x80 + 64 * p
  let f := 0x800 + 64 * p
  { enable := tb b o == 1, connType := tb b (o + 1), tDeg := tw b (o + 2), brake := tb b (o + 4), auxPol := tb b (o + 5)
    uRef := tw b f, imdTrip := tw b (f + 2), imdWarn := tw b (f + 4), group := tb b (f + 6), cLimit := tb b (f + 7)
    rcmMode := tb b (f + 8), resetMode := tb b (f + 9), lockVerify := tb b (f + 10), lockFilter := tb b (f + 11)
    coilMin := tw b (f + 12), coilMax := tw b (f + 14), kDiv := tw b (f + 16), weldHold := tw b (f + 18)
    vProof := tw b (f + 20) }

def readBrake (b : List Byte) (k : Nat) : BrkRec :=
  let o := 0xA00 + 32 * k
  { enable := tb b o == 1, torqueOut := tb b (o + 1), posIn := tb b (o + 2), mode := tb b (o + 3)
    settleMs := tw b (o + 4), testMs := tw b (o + 6) }

/-- The table that a body spells. -/
def readTable (b : List Byte) : SafTable :=
  { remoteReset := tb b 0x40 == 1, integrator := padTo 16 (b.drop 4), validation := padTo 16 (b.drop 20)
    version := leNat (padTo 4 (b.drop 36))
    ports := Vector.ofFn fun p => readPort b p.1, inputs := Vector.ofFn fun k => readInput b k.1
    outputs := Vector.ofFn fun k => readOutput b k.1, rows := Vector.ofFn fun r => readRow b r.1
    brakes := Vector.ofFn fun k => readBrake b k.1 }

/-! ### Validation (R359, R369) -/

/-- Offsets of non-zero bytes among n from offset o. -/
def nonZero (b : List Byte) (o n : Nat) : List Nat := ((List.range n).map (· + o)).filter fun i => tb b i != 0

/-- Offset o where the condition holds. -/
def bad (c : Bool) (o : Nat) : List Nat := if c then [o] else []

def inputIdx (k : Nat) : Fin 16 := ⟨k % 16, by omega⟩
def outIdx (k : Nat) : Fin 8 := ⟨k % 8, by omega⟩

def badInput (b : List Byte) (t : SafTable) (k : Fin 16) : List Nat :=
  let o := 0x280 + 16 * k.1
  let r := ix t.inputs k
  if r.type = 0 then nonZero b o 16
  else
    let q := ix t.inputs (inputIdx r.pair)
    bad (3 < r.type) o ++
    bad (r.pair != 0xFF && (15 < r.pair || r.pair / 2 != k.1 / 2 || r.pair == k.1 || q.pair != k.1 || q.type != r.type)) (o + 1) ++
    bad (if r.type = 1 then 7 < r.testSrc || (ix t.outputs (outIdx r.testSrc)).type != 2 else r.testSrc != 0xFF) (o + 2) ++
    bad (3 < r.role) (o + 3) ++ bad (r.pair != 0xFF && !inRange 10 500 r.discMs) (o + 4) ++
    bad (!inRange 100 300 r.filterUs) (o + 6) ++ bad (1 < tb b (o + 8)) (o + 8) ++ nonZero b (o + 9) 7

def badOutput (b : List Byte) (t : SafTable) (k : Fin 8) : List Nat :=
  let o := 0x380 + 16 * k.1
  if (ix t.outputs k).type = 0 then nonZero b o 16
  else bad (3 < (ix t.outputs k).type) o ++ bad (1 < tb b (o + 1)) (o + 1) ++ nonZero b (o + 2) 14

/-- DESIGN CHOICE (log 123). -/
def badRow (b : List Byte) (t : SafTable) (n : Fin 64) : List Nat :=
  let o := 0x400 + 16 * n.1
  let r := ix t.rows n
  if r.source = 0 then nonZero b o 16
  else
    let i := ix t.inputs (inputIdx r.index)
    bad (3 < r.source) o ++
    bad (r.source == 1 && (15 < r.index || i.type == 0 || (i.pair != 0xFF && i.pair < r.index))) (o + 1) ++
    bad (1 < tb b (o + 2)) (o + 2) ++
    bad ((idx 8).any fun k => (r.outs / 2 ^ k.1) % 2 == 1 && ((ix t.outputs k).type == 0 || (ix t.outputs k).type == 2)) (o + 4) ++
    bad (3 < r.brakes) (o + 5) ++ nonZero b (o + 6) 10

/-- R_trip in ohm (R368). -/
def PortRec.rTrip (r : PortRec) : Nat := r.uRef * r.imdTrip
def PortRec.rWarn (r : PortRec) : Nat := r.uRef * r.imdWarn

/-- DESIGN CHOICE (log 123). -/
def badPort (b : List Byte) (t : SafTable) (p : Fin 8) : List Nat :=
  let o := 0x80 + 64 * p.1
  let f := 0x800 + 64 * p.1
  let r := ix t.ports p
  let dc := r.connType != 0
  let others := (idx 8).filter fun q => q != p && (ix t.ports q).enable
  bad (1 < tb b o) o ++ bad (2 < r.connType) (o + 1) ++
  if !r.enable then []
  else
    bad (!inRange 50 500 r.tDeg) (o + 2) ++
    bad (r.brake != 0xFF && (1 < r.brake || !(ix t.brakes ⟨r.brake % 2, by omega⟩).enable ||
      others.any fun q => (ix t.ports q).brake == r.brake)) (o + 4) ++
    bad (3 < r.auxPol) (o + 5) ++ nonZero b (o + 6) 58 ++
    bad (if dc then !inRange 50 1500 r.uRef else r.uRef != 0) f ++
    bad (if dc then !inRange 50 500 r.imdTrip else r.imdTrip != 0) (f + 2) ++
    bad (r.imdWarn != 0 && (!dc || !inRange r.imdTrip 5000 r.imdWarn)) (f + 4) ++
    bad (r.group != 0xFF && (!dc || 7 < r.group || others.any fun q => (ix t.ports q).group == r.group &&
      ((ix t.ports q).rTrip != r.rTrip || (ix t.ports q).cLimit != r.cLimit || (ix t.ports q).connType == 0))) (f + 6) ++
    bad (if dc then !inRange 1 100 r.cLimit || 1000000 < r.rTrip * r.cLimit else r.cLimit != 0) (f + 7) ++
    bad (2 < r.rcmMode || (if dc then r.rcmMode != 0 else r.rcmMode == 0)) (f + 8) ++
    bad (3 < r.resetMode) (f + 9) ++ bad (2 < r.lockVerify || (dc && r.lockVerify == 0)) (f + 10) ++
    bad (!inRange 20 200 r.lockFilter) (f + 11) ++ bad (!inRange 20 2000 r.coilMin) (f + 12) ++
    bad (!inRange r.coilMin 3000 r.coilMax) (f + 14) ++ bad (!inRange 100 2000 r.kDiv) (f + 16) ++
    bad (!inRange 50 500 r.weldHold) (f + 18) ++ bad (!inRange 20 100 r.vProof) (f + 20) ++ nonZero b (f + 22) 42

def badBrake (b : List Byte) (t : SafTable) (k : Fin 2) : List Nat :=
  let o := 0xA00 + 32 * k.1
  let r := ix t.brakes k
  bad (1 < tb b o) o ++
  if !r.enable then []
  else
    bad (7 < r.torqueOut || (ix t.outputs (outIdx r.torqueOut)).type != 1) (o + 1) ++
    bad (15 < r.posIn || (ix t.inputs (inputIdx r.posIn)).type == 0 || (ix t.inputs (inputIdx r.posIn)).role != 3) (o + 2) ++
    bad (1 < r.mode) (o + 3) ++ bad (!inRange 50 1000 r.settleMs) (o + 4) ++ bad (!inRange 500 5000 r.testMs) (o + 6) ++
    nonZero b (o + 8) 24

/-- Every failing offset of a body. A rule over several fields fails at the field that the rule names of the record
it judges. DESIGN CHOICE: the spec does not say at which byte such a rule fails. -/
def tableFailures (b : List Byte) : List Nat :=
  let t := readTable b
  bad (tw b 0 != 1) 0 ++ nonZero b 2 2 ++ nonZero b 40 24 ++ bad (1 < tb b 0x40) 0x40 ++ nonZero b 0x41 63 ++
  ((idx 8).flatMap (badPort b t)) ++ ((idx 16).flatMap (badInput b t)) ++ ((idx 8).flatMap (badOutput b t)) ++
  ((idx 64).flatMap (badRow b t)) ++ ((idx 2).flatMap (badBrake b t)) ++ nonZero b 0xA40 (0x1800 - 0xA40) ++
  nonZero b 0x1800 (b.length - 0x1800)

/-- The first failing offset of a body, none where it passes (R359). DESIGN CHOICE (log 123). -/
def tableFailAt (b : List Byte) : Option Nat := (tableFailures b).min?

/-! ### The table in use -/

/-- The active safety table (R351). -/
def State.table (s : State) : SafTable := ix s.saf.tables (ix s.fw.active 2)
def State.portRec (s : State) (p : Port) : PortRec := ix s.table.ports p
def State.inRec (s : State) (k : Fin 16) : InRec := ix s.table.inputs k
def State.brkRec (s : State) (b : Fin 2) : BrkRec := ix s.table.brakes b

/-- The half-period H of a port in ms (R372). -/
def PortRec.halfMs (r : PortRec) : Nat := max 100 (2 * r.rTrip * r.cLimit / 10000)

/-- A direct-current or megawatt port that may close. -/
def PortRec.isDc (r : PortRec) : Bool := r.enable && r.connType != 0

/-- The brake that a port names, and the port that names a brake (R357, R386). -/
def State.brakeOf (s : State) (p : Port) : Option (Fin 2) :=
  let r := s.portRec p
  if r.enable && r.brake < 2 then some ⟨r.brake % 2, by omega⟩ else none
def State.brakePort (s : State) (b : Fin 2) : Option Port := (idx 8).find? fun p => s.brakeOf p == some b

end Sys2Proof.Machine
end

