-- ==== Sys2Proof/Machine/Avail.lean ====
section
/-! DEFINITION. What makes a port available for a new session, and the event of its change (spec 07 R157, R176, R177). -/

namespace Sys2Proof.Machine

def State.chainOn (s : State) : Bool := s.cfg.chain.enable
/-- The unit is fenced (R436). -/
def State.fenced (s : State) : Bool := s.chainOn && s.chn.fence != 0

/-- A cause of SAF_PORT_TRIP is latched (R364). -/
def SafPort.has (x : SafPort) (bit : Nat) : Bool := (x.causes / 2 ^ bit) % 2 == 1

/-- The configuration of a port that is in force (R153). -/
def State.portCfg (s : State) (p : Port) : PortCfg := ix s.cfg.port p

/-- Raise SES_EVENT bits (R177). -/
def State.sesRaise (s : State) (p : Port) (bits : Word) : State :=
  ((s.modSes p fun x => { x with ev := raiseAll x.ev bits }).service 2 p.1 bits.toNat).pendPort p (s.sesAt p).ev bits

/-- The port needs the test (R383). -/
def State.needsTest (s : State) (p : Port) (code : Nat) : Bool :=
  match code with
  | 2 => (s.portRec p).isDc
  | 3 => (s.portRec p).enable
  | 4 => match s.brakeOf p with
    | some b => (s.brkRec b).enable && (s.brkRec b).mode == 0
    | none => false
  | _ => false

/-- The self-tests a port needs with the safety time of their last pass (R383). -/
def State.testPasses (s : State) (p : Port) : List Nat :=
  let x := s.spAt p
  ([(2, x.insAt), (3, x.weldAt), (4, x.brakeAt)].filter fun t => s.needsTest p t.1).map (·.2)
/-- SELFTEST_AGE in minutes. DEDUCED (log 62). -/
def State.selftestAge (s : State) (p : Port) : Nat :=
  min 0xFFFF (((s.testPasses p).map fun t => (s.time.safetyUs - t) / 60000000).foldl max 0)
/-- A needed self-test is overdue or has failed. -/
def State.testBlocked (s : State) (p : Port) : Bool :=
  1440 ≤ s.selftestAge p || (s.spAt p).insFail || (s.spAt p).weldFail ||
    ((s.brakeOf p).map fun b => (s.brkAt b).fault).getD false

def State.blkSafety (s : State) : Bool := s.saf.state != .run
def State.blkLegal (s : State) (p : Port) : Bool := !s.legalRun || !s.meteringReady p || s.jnl.holdHigh
def State.blkContactor (s : State) (p : Port) : Bool := (s.spAt p).has 5

/-- SES_AVAIL [7:0]. DEDUCED (log 10). -/
def State.avail (s : State) (p : Port) : Nat :=
  let l := [!(s.portCfg p).enable, s.blkSafety, s.blkLegal p, s.fenced, s.testBlocked p, (s.sesAt p).state == .faulted,
    s.blkContactor p]
  flagWord ((!(l.any id)) :: l)

/-- AVAIL_CHANGE when SES_AVAIL [7:0] has changed since it was last raised. -/
def State.availPoll (s : State) (p : Port) : State :=
  let a := s.avail p
  if a = (s.sesAt p).availShown then s
  else (s.modSes p fun x => { x with availShown := a }).sesRaise p 0x4000
def State.availAll (s : State) : State := s.each (n := 8) fun p t => t.availPoll p

end Sys2Proof.Machine
end

