-- ==== Sys2Proof/Machine/MeshTx.lean ====
section
/-! DEFINITION. Sending on the Glohar mesh: link costs, routes and the transmit queue (spec 17 R449, R454 to R456). -/

namespace Sys2Proof.Machine

/-- A mesh member has chain ENABLE = 1 and MESH_ENABLE = 1 (R456). -/
def State.meshMember (s : State) : Bool := s.cfg.mesh.enable && s.cfg.chain.enable

/-- A member whose CHE and CHW are both not UP (R456). -/
def State.meshOnly (s : State) : Bool := s.meshMember && vall (·.state != .up) s.chn.links

/-- Bits of MSH_EVENT; it makes no interrupt source pending (R464). -/
def State.mshRaise (s : State) (bit : Nat) : State := s.modMsh fun m => { m with ev := raiseAll m.ev (oneBit bit) }

def Msh.nbr (m : Msh) (a : Nat) : Option MshNbr := m.nbrs.find? (·.addr == a)

def State.modNbr (s : State) (a : Nat) (f : MshNbr → MshNbr) : State :=
  s.modMsh fun m => { m with nbrs := m.nbrs.map fun n => if n.addr = a then f n else n }

/-- Mean information bits of a symbol toward a neighbour over the 16 segments, times 2 016; ROBO carries 480 (R449,
R455). -/
def MshNbr.bits2016 (n : MshNbr) : Nat := if n.gen.isSome then (n.segs.map ToneSeg.bits126).sum else 480 * 2016

/-- Mean PHY rate toward a neighbour in 0.01 Mb/s: bits of a symbol in 128 µs. DEDUCED (log 101). -/
def MshNbr.rate (n : MshNbr) : Nat := (quot (n.bits2016 * 100) (2016 * 128)).toNat

/-- Attempts and acknowledgements of the last 10 s before a time in ns. -/
def MshNbr.recent (n : MshNbr) (now : Nat) : Nat × Nat :=
  let l := n.tries.filter fun t => now ≤ t.1 + 10000000000
  (l.length, (l.filter (·.2)).length)

/-- Loss in ‰, capped at 900 (R455). DEDUCED (log 101). -/
def MshNbr.loss (n : MshNbr) (now : Nat) : Nat :=
  let r := n.recent now
  if r.1 = 0 then 0 else min 900 (quot ((r.1 - r.2) * 1000) r.1).toNat

/-- Link cost in µs: the airtime of 1 000 bytes at the mean rate over one minus the loss (R455). DEDUCED (log 101). -/
def MshNbr.cost (n : MshNbr) (now : Nat) : Nat :=
  let r := n.recent now
  let air := 8000 * 128 * 2016
  if n.bits2016 = 0 then 0xFFFFFFFF
  else if r.1 = 0 then (quot air n.bits2016).toNat
  else if 10 * r.2 < r.1 then (quot (air * 10) n.bits2016).toNat
  else (quot (air * r.1) (n.bits2016 * r.2)).toNat

/-- The neighbours that NBR frames list, with their costs (R455). -/
def State.nbrList (s : State) : List (Nat × Nat) :=
  (s.msh.nbrs.filter (·.listed)).map fun n => (n.addr, n.cost s.time.chain)

/-- One round of relaxation over links (from, to, cost): the least-cost path to each unit reached so far. -/
def relax (links : List (Nat × Nat × Nat)) (best : List (Nat × Nat × List Nat)) : List (Nat × Nat × List Nat) :=
  links.foldl (fun acc l =>
    match best.find? (·.1 == l.1) with
    | some b =>
      let c := b.2.1 + l.2.2
      match acc.find? (·.1 == l.2.1) with
      | some o => if c < o.2.1 then acc.map fun x => if x.1 = l.2.1 then (l.2.1, c, b.2.2 ++ [l.2.1]) else x else acc
      | none => acc ++ [(l.2.1, c, b.2.2 ++ [l.2.1])]
    | none => acc) best

/-- The path of least total cost from this unit over at most n hops, its last entry the destination (R455). DEDUCED (log 103). -/
def State.meshPath (s : State) (dst n : Nat) : Option (List Nat) :=
  let links := (s.nbrList.map fun x => (s.chn.addr, x.1, x.2)) ++
    s.msh.tables.flatMap fun t => if t.1 = s.chn.addr then [] else t.2.map fun x => (t.1, x.1, x.2)
  let best := (List.range n).foldl (fun b _ => relax links b) [(s.chn.addr, 0, [])]
  (best.find? (·.1 == dst)).map (·.2.2)

/-- Access class of a frame (R454); chain frames by their priority. -/
def MBody.cls : MBody → Nat
  | .chain f => let p := f.body.prio; if p ≤ 1 then 3 else if p ≤ 3 then 2 else if p ≤ 4 then 1 else 0
  | .msync .. => 3
  | .tmap .. | .phase _ | .delay _ => 1
  | .nbr _ => 0

/-- SLEEP and WAKE, the chain frames that a sleeping unit sends and hears (R463). -/
def MBody.ofSleep : MBody → Bool
  | .chain c => c.body.type == 0x15 || c.body.type == 0x16
  | _ => false

/-- Originate a mesh frame, none but SLEEP and WAKE in Doze: ROUTE is the least-cost path, the destination itself where no path is known (R450, R455). -/
def State.meshSend (s : State) (dst : Nat) (b : MBody) : State :=
  if !s.meshMember || (s.sys.power == .doze && !b.ofSleep) then s
  else
    let route := if dst = 255 then [] else ((s.meshPath dst 6).getD []).dropLast
    let f : MFrame := { src := s.chn.addr, dst, route, seq := s.msh.seq, body := b }
    s.modMsh fun m => { m with seq := (m.seq + 1) % 2 ^ 16, queue := m.queue ++ [f] }

end Sys2Proof.Machine
end

