-- ==== Sys2Proof/Machine/ChainTx.lean ====
section
/-! DEFINITION. Sending on the Herril chain (spec 16 R415, R416, R421, R423, R424, R434, R439) and the wake events
that use it (spec 02 R42 to R44). -/

namespace Sys2Proof

open Machine

/-! ### The bytes of a frame (R420, R421, R430, R439) -/

def ActItem.fields (a : ActItem) : List Nat := [a.cls, a.digest, a.at_, a.unit]
def ChKey.fields (k : ChKey) : List Nat := [k.role, b1 k.incumbent, b1 k.west, k.serial]

/-- REPORT's 96 bytes (R430). -/
def ReportFrame.bytes (r : ReportFrame) : List Byte :=
  leBytes 16 r.serial ++ leBytes 2 r.demand ++ leBytes 2 r.held ++ leBytes 1 r.missed ++ leBytes 1 r.levelMin ++
    leBytes 1 r.levelMax ++ leBytes 1 (flagWord [r.locked, r.staged, r.service]) ++ leBytes 2 r.floor ++ leBytes 1 r.weight ++
    leBytes 1 0 ++ beBytes 48 r.digest ++ padTo 12 (r.act.flatMap (leBytes 4)) ++ leBytes 4 r.stagedTag ++ leBytes 4 (fldInt 32 r.offset)

/-- GRANT's prefix and entries (R430). -/
def GrantFrame.bytes (g : GrantFrame) : List Byte :=
  leBytes 4 g.epoch ++ leBytes 2 g.limit ++ leBytes 1 g.level ++ leBytes 1 g.entries.length ++ g.entries.flatMap fun e =>
    leBytes 1 e.addr ++ leBytes 1 (b1 e.fenced + 2 * (e.causes % 16) + 32 * b1 e.quorate) ++ leBytes 2 e.kw ++ leBytes 2 e.held ++ leBytes 2 0

/-- What a frame carries, as bytes: R430, R438 and R439 give the places of REPORT, GRANT, MIRROR, FW_OFFER and FW_BLOCK. DESIGN CHOICE (log 196). -/
def ChBody.content (b : ChBody) : List Byte :=
  let open_ (l : List Nat) : List Byte := Config.chainPayload b.type l
  match b with
  | .report r => r.bytes
  | .grant g => g.bytes
  | .mirror e => padTo 32 e
  | .fwOffer h => padTo 512 h
  | .fwBlock tag off data => leBytes 4 tag ++ leBytes 4 off ++ data
  | .hello x => open_ ([x.serial, x.addr, x.head.getD 0] ++ x.key.fields ++ ((x.headKey.map ChKey.fields).getD []) ++ [x.port, x.link])
  | .delayReq t1 => open_ [t1]
  | .delayRsp t1 t2 t3 => open_ [t1, t2, t3]
  | .tripAdvice origin cause ports row time => open_ [origin, cause, ports, row, time]
  | .reduce f seconds => open_ [f, seconds]
  | .reduceReq limit seconds => open_ [limit, seconds]
  | .sync origin corr => open_ [origin, fldInt 64 corr]
  | .candidate k | .headClaim k => open_ k.fields
  | .topology blocked closed => open_ [b1 blocked, b1 closed]
  | .linkDown unit port => open_ [unit, port.1]
  | .sleep sub arg => open_ [sub, arg]
  | .wake src => open_ [src]
  | .join serial => open_ [serial]
  | .assign serial addr => open_ [serial, addr]
  | .table x => open_ (x.first :: x.rows.flatMap fun r => [r.1, r.2])
  | .siteConfig epoch x => open_ [epoch, x.siteId, x.limit, x.expect]
  | .configAck reason => open_ [reason]
  | .actPropose a | .actCommit a => open_ a.fields
  | .actQuery a answer => open_ (a.fields ++ (answer.map b1).toList)
  | .walk next => open_ [next]
  | .fwNack tag off len => open_ [tag, off, len]
  | .fwReq => open_ []

/-- A payload is 0 to 1 024 bytes in whole words. -/
def ChBody.payload (b : ChBody) : List Byte :=
  let l := b.content.take 1024
  padTo (roundUp l.length 4) l

/-- SLEEP and WAKE, the frames that a sleeping unit sends (R433, R463). -/
def ChBody.ofSleep (b : ChBody) : Bool := b.type == 0x15 || b.type == 0x16

end Sys2Proof

namespace Sys2Proof.Machine

/-- A frame's bytes: header words W0 to W3, the payload and the CRC-32, words least significant byte first (R420). -/
def TxFrame.bytes (f : TxFrame) : List Byte :=
  let pay := f.body.payload
  let words : List Word := [
    pack [(31, 28, f.level), (27, 25, f.body.prio), (24, 24, b1 f.rep), (23, 16, f.body.type), (15, 8, f.dst), (7, 0, f.src)],
    pack [(31, 16, pay.length), (15, 8, f.hops), (0, 0, b1 f.viaMesh)], w32 f.seq, w32 f.epoch]
  let b := wordsToBytes words ++ pay
  b ++ leBytes 4 (crc32 b)

/-- This unit holds the site's decisions: head of its chain, or standalone (R209). -/
def State.isHead (s : State) : Bool := !s.chainOn || s.chn.head
def State.chLink (s : State) (k : ChPort) : ChLink := ix s.chn.links k
def State.modChLink (s : State) (k : ChPort) (f : ChLink → ChLink) : State :=
  s.modChn fun c => { c with links := upd c.links k f }
def che : ChPort := 0
def chw : ChPort := 1
def otherPort (k : ChPort) : ChPort := if k = 0 then 1 else 0

/-- Bits of CHN_EVENT; it makes no interrupt source pending (R441). -/
def State.chnRaise (s : State) (bit : Nat) : State := s.modChn fun c => { c with ev := raiseAll c.ev (oneBit bit) }

/-- Power epoch m of a chain time (R429). -/
def State.epochNow (s : State) : Nat := s.time.chain / 100000000

/-- Queue depth of a priority, in frames (R423). -/
def queueDepth (prio : Nat) : Nat := [16, 32, 64, 32, 64, 0, 8, 0].getD prio 0

/-- A frame as it begins: SYNC of this unit carries the chain time of its start-frame delimiter (R426). -/
def State.stamped (s : State) (f : TxFrame) : TxFrame :=
  match f.body with
  | .sync _ c => if f.src = s.chn.addr && f.hops = 255 then { f with body := .sync s.time.chain c } else f
  | _ => f

/-- Begin a frame on a port. -/
def State.beginFrame (s : State) (k : ChPort) (g : TxFrame) : State :=
  let f := s.stamped g
  (s.modChLink k fun l => { l with busy := some f, tx := satInc 0xFFFFFFFF l.tx }).emit (.chainFrame k f f.bytes)

/-- A frame is discarded at a port: DROPPED, and P0_DROPPED where its priority is 0 (R423, R441). -/
def State.dropFrame (s : State) (k : ChPort) (prio : Nat) : State :=
  let t := s.modChLink k fun l => { l with dropped := satInc 0xFFFFFFFF l.dropped }
  if prio = 0 then (t.modChn fun c => { c with p0Dropped := satInc 0xFFFF c.p0Dropped }).chnRaise 11 else t

/-- Queue a frame on a port: it begins at once on an idle link; with its queue full it is discarded (R423). A port that is
not UP carries none but the link-local frames (R413). -/
def State.queueFrame (s : State) (k : ChPort) (f : TxFrame) : State :=
  let l := s.chLink k
  let n := f.body.prio
  if l.state ≠ .up then s
  else if l.busy.isNone then s.beginFrame k f
  else if h : n < 8 then
    if (ix l.queue ⟨n, h⟩).length < queueDepth n then
      s.modChLink k fun x => { x with queue := upd x.queue ⟨n, h⟩ (· ++ [f]) }
    else s.dropFrame k n
  else s

/-- The frame of an original of this unit. -/
def State.newFrame (s : State) (dst : Nat) (b : ChBody) : TxFrame :=
  { level := s.chn.level, dst, src := s.chn.addr, seq := s.chn.seq, epoch := s.epochNow % 2 ^ 32, body := b }

/-- Whether a frame that this unit originates goes onto the mesh: every frame of a mesh-only member; of the head as
gateway, those with DST 255 but SYNC and those for mesh-only members (R456); and the originals of priority 0 with
P0_MESH = 1 (R458). DESIGN CHOICE (log 44). -/
def State.goesToMesh (s : State) (dst : Nat) (b : ChBody) : Bool :=
  if s.meshOnly then b.type != 0x10
  else (s.chn.head && ((dst == 255 && b.type != 0x10) || s.msh.only.contains dst)) ||
    (b.prio == 0 && s.cfg.chain.p0Mesh)

/-- Originate a frame out of both ports (R415) and onto the mesh, with the repeats of priority 0 planned (R424). A type
that the site level lacks is not sent (R435), and in Doze none but SLEEP and WAKE (R433). -/
def State.originate (s : State) (dst : Nat) (b : ChBody) : State :=
  if !s.chainOn || !b.definedAt s.chn.level || (s.sys.power == .doze && !b.ofSleep) then s
  else
    let f := s.newFrame dst b
    let s1 := (s.modChn fun c => { c with seq := (c.seq + 1) % 2 ^ 32 }).queueFrame che f |>.queueFrame chw f
    let s2 := if s.goesToMesh dst b then s1.meshSend (if b.prio = 0 then 255 else dst) (.chain f) else s1
    if b.prio = 0 then
      let g := { f with rep := true }
      s2.modChn fun c => { c with repeats := c.repeats ++ [(s.time.chain + 1000000, g), (s.time.chain + 4000000, g)] }
    else s2

/-- Send a link-local frame, which is never queued (R421), on a TRAINING or UP link; none in the low-power idle of Doze (R433). -/
def State.sendLocal (s : State) (k : ChPort) (b : ChBody) : State :=
  let l := s.chLink k
  if (l.state = .up || l.state = .training) && s.sys.power != .doze then
    (s.modChLink k fun x => { x with tx := satInc 0xFFFFFFFF x.tx }).emit (.chainFrame k (s.newFrame 0 b) (s.newFrame 0 b).bytes)
  else s

/-- Bytes 0 to 3 of a 384-bit digest, byte 0 in bits 7 to 0 (R113). -/
def tagOf (digest : Nat) : Word := w32 (leNat ((beBytes 48 digest).take 4))

/-- The site digest (R434). -/
def siteDigest (c : Cfg) : Nat :=
  Config.sha384 (ascii "HERRIL-SITE" ++ leBytes 4 c.chain.siteId ++ leBytes 4 c.siteLimit ++ leBytes 4 c.chain.expect)

/-- This unit's candidate key (R416), none for ROLE = never. -/
def State.ownKey (s : State) : Option ChKey :=
  if s.cfg.chain.role = 2 then none
  else
    let w := (s.chLink chw).state
    some { role := if s.cfg.chain.role = 1 then 2 else 1, incumbent := s.chn.head, serial := s.sys.serial
           west := (w == .down || w == .off) && !s.chn.ring }

def betterOpt : Option ChKey → Option ChKey → Bool
  | some a, some b => a.better b
  | some _, none => true
  | none, _ => false

/-- Store a mirrored entry on the head: the newest 1 024 are kept, and MIRROR is raised (R439). DESIGN CHOICE (log 80). -/
def State.storeMirror (s : State) (e : List Byte) : State :=
  (s.modChn fun c => { c with mirror := (e :: c.mirror).take 1024 }).chnRaise 10

/-- Mirror an event of a kind in MIRROR_MASK to the head (R439). The head keeps its own events with the rest. DESIGN CHOICE (log 233). -/
def State.mirrorBody (s : State) (kind port : Nat) (body : List Byte) : State :=
  if s.chainOn && s.cfg.chain.mirrorMask.testBit (kind - 1) then
    let e := leBytes 1 s.chn.addr ++ leBytes 1 kind ++ leBytes 1 port ++ leBytes 1 0 ++ leBytes 8 s.time.chain ++ padTo 20 body
    if s.chn.head then s.storeMirror e else s.originate s.chn.headAddr (.mirror e)
  else s

/-- Mirror an event of kinds 2 to 7, whose kind-specific bytes are free. DESIGN CHOICE (log 232). -/
def State.mirrorEv (s : State) (kind port : Nat) (what : List Nat) : State :=
  s.mirrorBody kind port (Config.mirrorBytes kind what)

/-- A unit stays in Run. -/
def State.stayAwake (s : State) : State :=
  ((s.modSleep fun x => { x with phase := .aborted, asking := false, cmd := none }).modMsh fun m => { m with sleeping := false }).sysChanged

/-- A wake event of R44, by its bit in SYS_WAKE_SRC: it is latched in Doze and after t_p, and cancels an entry before
t_p with SLEEP_CANCEL to the head, or SLEEP_ABORT from the head itself (R42, R43). -/
def State.wakeEvent (s : State) (src : Nat) : State :=
  match s.sys.power with
  | .dormant => s
  | .doze => s.modSleep fun x => { x with latched := x.latched ||| oneBit src }
  | .run =>
    match s.sys.sleep.phase with
    | .pastTp => s.modSleep fun x => { x with latched := x.latched ||| oneBit src ||| oneBit 8 }
    | .prepared | .committed =>
      let t := ((s.modSleep fun x => { x with phase := .aborted, asking := false, cmd := none }).finalOpt s.sys.sleep.cmd
        Code.cancelled).modMsh (fun m => { m with sleeping := false }) |>.sysChanged
      if s.isHead then t.originate 255 (.sleep 5 0) else t.originate s.chn.headAddr (.sleep 6 0)
    | _ => s

end Sys2Proof.Machine
end

