-- ==== Sys2Proof/Machine/Keys.lean ====
section
/-! DEFINITION. Rind and the key vault: tamper events and zeroisation, the life cycle, slots, sessions, fixed-time vault
commands, the audit log, attestation and root renewal (spec 19). -/

namespace Sys2Proof.Machine

/-! ### Zeroisation (R503, R508) -/

/-- Legal becomes VOID: billed sessions meet a billing stop, every session waits for a later start, and
what runs under Legal's commands ends (R161, R172, R299, R503). DEDUCED (log 144). -/
def State.voidLegal (s : State) : State :=
  if s.legal.state == .void then s
  else
    let s1 := if s.legalRun then s.stopAllBilled else s
    let s2 := s1.each (n := 8) fun p t =>
      ((t.discardCal p).modNrg p fun x => { x with
        stopDue := none, due := [], hold := [] }).modBil p fun b => { b with
          ses := b.ses.map fun r => { r with deferred := true } }
    let idle (d : PqDet) : PqDet := { lastKind := d.lastKind, lastPm := d.lastPm, lastMs := d.lastMs }
    let s2 := (s2.each (n := 8) fun p t => t.modPq p fun q => { q with det := idle q.det }).modLegal fun l => { l with site := idle l.site }
    let s3 := s2.each (n := 2) fun k t =>
      (t.modInput k fun i => { i with cross := none }).finalOpt ((ix s2.legal.pi k).cross.bind (·.req)) Code.void
    (s3.modLegal fun l => { l with state := .void, challenge := none }).irqAll irqLegal

/-- The vault loses every derived key, every slot that is not public-only and every key session; commands in progress
end with REFUSED at T_FIX (R503, R525). -/
def State.clearVault (s : State) : State :=
  s.modKeys fun k => { k with
    slots := k.slots.filter (·.2.publicOnly), sessions := Vector.replicate 16 (Vector.replicate 8 none)
    ops := k.ops.map fun o => { o with code := Code.refused, words := [], data := [], toRing := false, reason := 10 } }

/-- Vehicle TLS connections end with their keys (R503). -/
def State.dropTls (s : State) : State := s.each (n := 8) fun p t => t.modVeh p fun v => { v with tls := false }

/-- The tag island clears K, marks every copy of both pages ZEROISED and leaves SECURED; the password digest stays
(R564). -/
def State.tagZeroise (s : State) : State :=
  let mark (i : Nat) (l : List Byte) : List Byte := updAt l i (· ||| 8)
  s.modNfc fun n => { n with tag := { n.tag with
    key := none, secured := false, page0 := vmap (mark 1) n.tag.page0, page1 := vmap (mark 2) n.tag.page1 } }

/-- Rind holds no root any more. DEDUCED (log 229). -/
def State.rootLost (s : State) : State :=
  s.modRind fun r => { r with rootPresent := false, renewed := false, certified := false }

/-- The root is zeroed with VSYS present: the vault, Legal and the tag island are told (R503). -/
def State.zeroise (s : State) : State := ((s.rootLost.clearVault).dropTls.keyRaise 1).voidLegal.tagZeroise

/-- A tamper event of a sensor (R503): counted and logged; the root is zeroed where one is held. In Dormant the vault and the tag
island hear of it at the next start (R525). DEDUCED (log 229). -/
def State.tamperEvent (s : State) (k : Fin 5) : State :=
  if !s.rind.armed || s.retired then s
  else
    let k6 : Fin 6 := ⟨k.1, by omega⟩
    let s1 := s.modRind fun r => { r with
      tamper := upd r.tamper k6 (satInc 0xFFFF), lastCause := k.1 + 1, alarm := upd r.alarm k fun _ => true }
    let s2 := s1.auditRind 2 (k.1 + 1)
    if !s.rind.rootPresent then s2
    else if s.sys.power == .dormant then s2.rootLost
    else s2.zeroise

/-- TAMPER_EVENT: mesh, lid, light, temperature or glitch. -/
def execTamperEvent (sensor : Fin 5) (s : State) : Res := .next (s.tamperEvent sensor)

/-- A sampled sensor: two alarm samples in a row are an alarm (R502). DEDUCED (log 145). -/
def State.tamperSample (s : State) (k : Fin 5) (bad : Bool) : State :=
  if !bad then s.modRind fun r => { r with alarm := upd r.alarm k fun _ => false, alarmRun := upd r.alarmRun k fun _ => 0 }
  else
    let n := ix s.rind.alarmRun k + 1
    let s1 := s.modRind fun r => { r with alarmRun := upd r.alarmRun k fun _ => n }
    if n = 2 then s1.tamperEvent k else s1

/-- TAMPER_SENSOR_SAMPLE: the sampled sensors, and whether the lid contact is open now. -/
def execTamperSensorSample (mesh light temp lid : Bool) (s : State) : Res :=
  .next (if !s.rind.armed then s
  else (((s.modRind fun r => { r with alarm := upd (upd r.alarm 4 fun _ => false) 1 fun a => a && lid }).tamperSample 0
    mesh).tamperSample 2 light).tamperSample 3 temp)

/-- BATTERY_LOSS: without VSYS the root and the counter are lost; the next start records it (R504). In ship state nothing
is lost (R505). -/
def execBatteryLoss (s : State) : Res :=
  .next (if s.sys.power != .dormant || s.rind.shipCopy then s
  else s.modRind fun r => { r with rootPresent := false, renewed := false, certified := false, rtcUs := 0, rtcLost := true, batteryLost := true })

/-- What a start makes of a battery loss: counted, and treated as a seal break (R504). -/
def State.batteryStart (s : State) : State :=
  if !s.rind.batteryLost then s
  else
    let s1 := s.modRind fun r => { r with batteryLost := false, lastCause := 6, tamper := upd r.tamper 5 (satInc 0xFFFF) }
    (s1.auditRind 2 6).sealBreak

/-- A start that finds no root proceeds as after zeroisation (R503, R504); a BLANK module never had one. DEDUCED (log 229). -/
def State.rootlessStart (s : State) : State :=
  if s.rind.rootPresent || s.rind.lifecycle == 0 then s else s.clearVault.tagZeroise

/-- At the first start the root comes back from the ship copy, which is erased; the sensors arm and the counter starts. A copy
that fails its authentication is a battery loss (R505). DESIGN CHOICE (log 228). -/
def State.shipRestore (s : State) : State :=
  if s.rind.shipCopy then
    let t := s.modRind fun r => { r with shipCopy := false, rootPresent := true, armed := true, rtcUs := 0, rtcLost := false }
    if Config.shipCopyFails s.rind.root then t.rootLost.modRind fun r => { r with rtcLost := true, batteryLost := true } else t
  else s

/-- VBAT_LOW (R500, R521). -/
def execVbatLow (s : State) : Res := .next ((s.modRind fun r => { r with batLow := true }).keyRaise 4)

/-- VBAT_RESTORED: VBAT is above the BAT_LOW threshold again (R592). -/
def execVbatRestored (s : State) : Res := .next (s.modRind fun r => { r with batLow := false })

/-- RTC_ALARM_EXPIRY: the counter's whole seconds reach the alarm; the expiry is a wake event (R44, R506). DEDUCED (log 143). -/
def execRtcAlarmExpiry (s : State) : Res :=
  .next (if s.rind.alarmS ≠ 0 && s.rind.alarmS ≤ s.rind.rtc / 32768 then (s.keyRaise 8).wakeEvent 5 else s)

/-- PROVISIONING (R507): the root is generated, DEVICE_ID certified, the public-only slots written. -/
def execProvisioning (s : State) : Res :=
  .next (if s.rind.lifecycle ≠ 0 then s
  else
    let s1 := (s.modRind fun r => { r with
      lifecycle := 1, rootPresent := true, root := s.free, certified := true, armed := true, rtcUs := 0, rtcLost := false }).useFree
    ((s1.modKeys fun k => { k with slots := factorySlots }).auditRind 3 1).keyRaise 2)

/-- FINAL_TEST (R505, R507): with the loop closed, FIELD, seal count 0, and the root rests in the ship copy. DEDUCED (log 160). -/
def execFinalTest (s : State) : Res :=
  .next (if s.rind.lifecycle ≠ 1 || s.rind.loopOpen then s
  else ((s.modRind fun r => { r with
      lifecycle := 2, sealCount := 0, shipCopy := r.rootPresent, rootPresent := false, armed := r.armed && !r.rootPresent }).auditRind
        3 2).keyRaise 2)

/-! ### Slots (R511 to R514) -/

/-- The root that the vault and Legal derive from; a renewed root serves from the next power-on reset on (R520). -/
def State.rootUsable (s : State) : Bool := s.rind.rootPresent && !s.rind.renewed && !s.retired

/-- RM_SERVICE of the running image, fixed when it started (R509). -/
def State.rmService (s : State) : List Byte := ix s.keys.measured 0

/-- A slot's content: 0 to 3 are derived, the others stored; slot 4 by SET_TAG_SECRETS alone (R511, R578). -/
def State.slotAt (s : State) (n : Nat) : Option Slot :=
  match n with
  | 0 => some { attrA := oneBit 22, attrB := pack [(3, 0, 2), (5, 4, 2), (8, 6, 7), (10, 10, 1), (16, 15, 1), (19, 19, 1)]
                key := s.deviceKey }
  | 1 => some { attrA := oneBit 16, attrB := pack [(3, 0, 2), (5, 4, 0), (8, 6, 7), (10, 10, 1), (16, 15, 1), (19, 19, 1)]
                key := s.legalKey (s.activeBank 1).digest }
  | 2 => if s.fw.slot2 then
      some { attrA := oneBit 16, attrB := pack [(3, 0, 2), (5, 4, 0), (8, 6, 7), (10, 10, 1), (16, 15, 1), (19, 19, 1)]
             key := s.legalKey (s.otherBank 1).digest } else none
  | 3 => some { attrA := 0, attrB := pack [(3, 0, 6), (5, 4, 2), (8, 6, 7), (13, 13, 1), (16, 15, 1), (19, 19, 1)]
                key := s.derive 2 rennetRom "VAULT-STORE" 32 }
  | _ => (s.keys.slots.find? (·.1 == n)).map (·.2)

/-- Fill and empty a stored slot. -/
def State.putSlot (s : State) (n : Nat) (k : Slot) : State :=
  s.modKeys fun x => { x with slots := (x.slots.filter (·.1 < n)) ++ [(n, k)] ++ x.slots.filter (n < ·.1) }
def State.dropSlot (s : State) (n : Nat) : State := s.modKeys fun x => { x with slots := x.slots.filter (·.1 != n) }

/-- The number by which verification names a slot's public key. -/
def Slot.verifyKey (k : Slot) : Nat := leNat k.public

def Slot.alg (k : Slot) : Nat := k.attrB.fld 3 0
/-- USES bits: 0 sign, 1 verify, 2 derive, 3 wrap, 4 TLS. -/
def Slot.may (k : Slot) (use : Nat) : Bool := k.attrB.bit (10 + use)
/-- An elliptic-curve algorithm. -/
def isEc (alg : Nat) : Bool := inRange 1 4 alg
/-- Bytes of a signature or tag. -/
def sigLen : Nat → Nat
  | 1 => 64
  | 2 => 96
  | 3 => 132
  | 4 => 114
  | _ => 48

/-- Why nothing of the vault serves: 11 RETIRED, 10 root absent. -/
def State.vaultDown (s : State) : Option Nat :=
  if s.retired then some 11 else if s.rootUsable then none else some 10

/-- The life-cycle state permits a slot (R512). -/
def State.stateOk (s : State) (k : Slot) : Bool := inRange 1 3 s.rind.lifecycle && k.attrB.bit (5 + s.rind.lifecycle)

/-- A slot for a caller and a use, or the reason it is refused (R517, R518). -/
def State.slotFor (s : State) (g : Guest) (n : Nat) (use : Option Nat) : Except Nat Slot :=
  match s.vaultDown with
  | some r => .error r
  | none =>
    match s.slotAt n with
    | none => .error 1
    | some k =>
      if !k.attrA.bit g.1 then .error 2
      else if !s.stateOk k then .error 4
      else if (match use with | some u => !k.may u | none => false) then .error 5
      else if k.attrB.bit 17 && k.rm != leNat s.rmService then .error 6
      else .ok k

/-! ### Fixed time (R516, R517) -/

/-- A vault command's result, placed at T_FIX. -/
def State.vault (s : State) (o : VaultOp) : State := s.modKeys fun k => { k with ops := k.ops ++ [o] }
def State.vaultRefuse (s : State) (r : Req) (slot reason : Nat) : State :=
  s.vault { req := r, code := Code.refused, slot, reason }
def State.vaultDone (s : State) (r : Req) (slot : Nat) (ws : List Word) : State :=
  s.vault { req := r, code := Code.done, words := ws, slot }
/-- Data for the command's ring, with its response words. -/
def State.vaultRing (s : State) (r : Req) (slot ring : Nat) (data : List Byte) (ws : List Word) : State :=
  s.vault { req := r, code := Code.done, words := ws, ring, data, toRing := true, slot }

/-- Kind 1 entry of a command (R518). -/
def State.auditCmd (s : State) (r : Req) (slot result reason : Nat) : State :=
  s.audit { rtc := s.rind.rtc, kind := 1, guest := r.guest.1, opcode := r.opcode, slot, result, reason
            detail := padTo 16 (leBytes 2 r.tag ++ leBytes 2 r.queue) }

/-- VAULT_FIXED_TIME: the oldest vault command of a guest reaches T_FIX; its response is placed and audited. -/
def execVaultFixedTime (g : Guest) (s : State) : Res :=
  .next (match s.keys.ops.find? (·.req.guest == g) with
  | none => s
  | some o =>
    let s1 := s.modKeys fun k => { k with ops := k.ops.erase o }
    if o.toRing then
      let q := s.withRing o.req o.ring
      let ok := q.ringOk && decide (o.data.length ≤ q.ringRoom)
      (s1.answerRing o.req o.ring o.data o.words).auditCmd o.req o.slot (if ok then Code.done else Code.shortBuffer) 0
    else (s1.answer o.req o.code o.words).auditCmd o.req o.slot o.code o.reason)

/-! ### Vault commands (R522, R523) -/

/-- A slot with an attribute pair a guest may create (R514): domain GUEST naming only itself with no engine, or for the
system guest domain SERVICE or GUEST. -/
def mayCreate (g : Guest) (a b : Word) : Bool :=
  let dom := b.fld 5 4
  if g = 0 then 2 ≤ dom else dom == 3 && a.fld 15 0 == 2 ^ g.1 && a.fld 22 16 == 0

/-- The attribute word of a new slot with its origin; reserved bits read 0 (R512). -/
def newAttrB (b : Word) (origin : Nat) : Word :=
  pack [(8, 0, b.fld 8 0), (14, 10, b.fld 14 10), (16, 15, origin), (18, 17, b.fld 18 17), (20, 20, b.fld 20 20)]
def newAttrA (a : Word) : Word := pack [(22, 0, a.toNat)]

def execGetSlotInfo (r : Req) (s : State) : Res :=
  let n := r.fld 3 7 0
  .next (match s.vaultDown, s.slotAt n with
  | some k, _ => s.vaultRefuse r n k
  | none, none => s.vaultRefuse r n 1
  | none, some k =>
    if r.fromSystem || k.attrA.bit r.guest.1 then s.vaultDone r n [k.attrA, k.attrB] else s.vaultRefuse r n 2)

def execGetPublicKey (r : Req) (s : State) : Res :=
  let n := r.fld 3 7 0
  .next (match s.slotFor r.guest n none with
  | .error k => s.vaultRefuse r n k
  | .ok k =>
    if isEc k.alg then s.vaultRing r n (r.fld 3 10 8) k.public [pack [(15, 0, k.public.length)]] else s.vaultRefuse r n 5)

/-- The attestation record of R519 over a nonce. -/
def State.attestation (s : State) (nonce : List Byte) : List Byte :=
  let rm (c : Fin 3) := cborBytes (rennet c.1 (s.activeBank c).digest)
  coseSign1 s.deviceKey (cborMap [(0, cborNat 1), (1, cborBytes s.serialBytes), (2, cborBytes nonce),
    (3, cborNat s.rind.rootGen), (4, cborNat s.rind.lifecycle), (5, cborNat s.rind.sealCount),
    (6, cborArray (s.rind.tamper.toList.map cborNat)), (7, rm 0), (8, if s.legalVoid then cborNull else rm 1), (9, rm 2),
    (10, cborBytes (Config.publicCompressed (s.legalKey (s.activeBank 1).digest))), (11, cborBool s.rind.certified)])

def execGetAttestation (r : Req) (s : State) : Res :=
  .next (match s.vaultDown with
  | some k => s.vaultRefuse r 0 k
  | none =>
    let rec_ := s.attestation (r.bytes 4 16)
    s.vaultRing r 0 (r.fld 3 2 0) (rec_ ++ Config.deviceCert)
      [pack [(15, 0, rec_.length), (31, 16, Config.deviceCert.length)]])

/-- DEDUCED (log 13). -/
def execGenerateKey (r : Req) (s : State) : Res :=
  let n := r.fld 3 7 0
  let a := r.word 4
  let b := r.word 5
  .next (match s.vaultDown with
  | some k => s.vaultRefuse r n k
  | none =>
    if !inRange 16 255 n || !mayCreate r.guest a b then s.vaultRefuse r n 3
    else if (s.slotAt n).isSome then s.vaultRefuse r n 7
    else if !([1, 2, 3, 5, 6, 7, 8].contains (b.fld 3 0)) || b.bit 20 then s.vaultRefuse r n 5
    else
      let k : Slot := { attrA := newAttrA a, attrB := newAttrB b 2, key := Config.freeNat s.free, rm := leNat s.rmService }
      (s.putSlot n k).useFree.vaultDone r n [])

/-- Bytes of the key material of an algorithm: a private scalar or a raw key (R523). A secret of ALG 8 has 48. PRESUMED (log 199). -/
def keyLen : Nat → Nat
  | 1 => 32
  | 2 => 48
  | 3 => 66
  | 5 => 16
  | 6 => 32
  | _ => 48

/-- A key blob: nonce, ciphertext and tag; and what one holds (R523). -/
def keyBlob (kek : Nat) (nonce aad material : List Byte) : List Byte :=
  nonce ++ padTo (material.length + 16) (Config.gcmSeal kek nonce aad material)
def blobKey (kek : Nat) (aad blob : List Byte) : Option Nat :=
  if blob.length < 28 then none else (Config.gcmOpen kek (blob.take 12) aad (blob.drop 12)).map beNat

/-- Additional data of a key blob (R523). -/
def State.blobAad (s : State) (a b : Word) : List Byte := leBytes 4 a.toNat ++ leBytes 4 b.toNat ++ s.serialBytes

def execImportKey (r : Req) (s : State) : Res :=
  let n := r.fld 3 7 0
  let kek := r.fld 3 15 8
  let ring := r.fld 3 18 16
  let a := r.word 4
  let b := r.word 5
  let q := s.withRing r ring
  let s1 := s.useRing q ring Code.done
  .next (match s.vaultDown with
  | some k => s.vaultRefuse r n k
  | none =>
    if !q.ringOk || 256 < q.ringIn.length then
      (s.useRing q ring Code.shortBuffer).vault { req := r, code := Code.shortBuffer, slot := n }
    else
      let fixed := inRange 5 9 n
      if fixed then
        if !r.fromSystem then s.vaultRefuse r n 2
        else if s.rind.lifecycle ≠ 1 ∧ s.rind.lifecycle ≠ 3 then s.vaultRefuse r n 4
        else if (s.slotAt n).isSome then s.vaultRefuse r n 7
        else if kek ≠ 0xFF then s.vaultRefuse r n 5
        else (s1.putSlot n { attrA := publicAttrA n, attrB := publicAttrB, key := leNat q.ringIn, pub := q.ringIn }).vaultDone r n []
      else if n < 16 || !mayCreate r.guest a b then s.vaultRefuse r n 3
      else if (s.slotAt n).isSome then s.vaultRefuse r n 7
      else if kek = 0xFF then
        if b.bit 20 && isEc (b.fld 3 0) then
          (s1.putSlot n { attrA := newAttrA a, attrB := newAttrB b 3, key := leNat q.ringIn, pub := q.ringIn
                          rm := leNat s.rmService }).vaultDone r n []
        else s.vaultRefuse r n 5
      else match s.slotFor r.guest kek (some 3) with
        | .error k => s.vaultRefuse r n k
        | .ok w =>
          match blobKey w.key (s.blobAad a b) q.ringIn with
          | none => s.vaultRefuse r n 8
          | some key => (s1.putSlot n { attrA := newAttrA a, attrB := newAttrB b 3, key, rm := leNat s.rmService }).vaultDone r n [])

def execExportKey (r : Req) (s : State) : Res :=
  let n := r.fld 3 7 0
  let kek := r.fld 3 15 8
  let ring := r.fld 3 18 16
  .next (match s.slotFor r.guest n none with
  | .error k => s.vaultRefuse r n k
  | .ok k =>
    if !k.attrB.bit 18 then s.vaultRefuse r n 5
    else if kek = 0xFF then
      if k.publicOnly then s.vaultRing r n ring k.pub [pack [(15, 0, k.pub.length)]] else s.vaultRefuse r n 5
    else match s.slotFor r.guest kek (some 3) with
      | .error e => s.vaultRefuse r n e
      | .ok w =>
        let blob := keyBlob w.key (leBytes 12 (Config.freeNat s.free)) (s.blobAad k.attrA k.attrB) (beBytes (keyLen k.alg) k.key)
        s.useFree.vaultRing r n ring blob [pack [(15, 0, blob.length)]])

def execDeleteKey (r : Req) (s : State) : Res :=
  let n := r.fld 3 7 0
  .next (match s.vaultDown, s.slotAt n with
  | some k, _ => s.vaultRefuse r n k
  | none, none => s.vaultRefuse r n 1
  | none, some k =>
    if n < 16 || !(r.fromSystem || k.attrA.bit r.guest.1) then s.vaultRefuse r n 2
    else (s.dropSlot n).vaultDone r n [])

/-- A guest's session register. -/
def State.keySes (s : State) (g : Guest) (h : Fin 8) : Option KSes := ix (ix s.keys.sessions g) h
def State.setKeySes (s : State) (g : Guest) (h : Fin 8) (x : Option KSes) : State :=
  s.modKeys fun k => { k with sessions := upd k.sessions g fun v => upd v h fun _ => x }

def execSignDigest (r : Req) (s : State) : Res :=
  let n := r.fld 3 7 0
  let ring := r.fld 3 14 12
  let digest := r.bytes 4 48
  let out (key alg : Nat) : State :=
    let d := if alg = 1 then digest.take 32 else digest
    s.vaultRing r (if r.bit 3 8 then 0xFF else n) ring (padTo (sigLen alg) (Config.sign key d)) [pack [(15, 0, sigLen alg)]]
  .next (if r.bit 3 8 then
    match s.vaultDown, s.keySes r.guest ⟨r.fld 3 11 9 % 8, by omega⟩ with
    | some k, _ => s.vaultRefuse r 0xFF k
    | none, none => s.vaultRefuse r 0xFF 1
    | none, some x => if x.uses % 2 = 1 && x.alg == 7 then out x.key 7 else s.vaultRefuse r 0xFF 5
  else match s.slotFor r.guest n (some 0) with
    | .error k => s.vaultRefuse r n k
    | .ok k => if [1, 2, 3, 7].contains k.alg then out k.key k.alg else s.vaultRefuse r n 5)

def execVerifySignature (r : Req) (s : State) : Res :=
  let n := r.fld 3 7 0
  let ring := r.fld 3 10 8
  let q := s.withRing r ring
  .next (match s.slotFor r.guest n (some 1) with
  | .error k => s.vaultRefuse r n k
  | .ok k =>
    if !q.ringOk then (s.useRing q ring Code.shortBuffer).vault { req := r, code := Code.shortBuffer, slot := n }
    else
      (s.useRing q ring Code.done).vaultDone r n [pack [(0, 0, b1 (Config.verify (if isEc k.alg then k.verifyKey else k.key) (q.ringIn.take 48) (q.ringIn.drop 48)))]])

def execOpenKeySession (r : Req) (s : State) : Res :=
  let n := r.fld 3 7 0
  let alg := r.fld 3 11 8
  let len := r.fld 4 5 0
  .next (match s.slotFor r.guest n (some 2) with
  | .error k => s.vaultRefuse r n k
  | .ok k =>
    if (alg ≠ 6 ∧ alg ≠ 7) ∨ 32 < len then s.vaultRefuse r n 5
    else match (idx 8).find? fun h => (s.keySes r.guest h).isNone with
      | none => s.vaultRefuse r n 9
      | some h =>
        let key := Config.hkdf k.key s.rmService (ascii "CRARUS-SES" ++ leBytes 1 r.guest.1 ++ (r.bytes 5 32).take len) (keyLen alg)
        (s.setKeySes r.guest h (some { alg, uses := r.fld 3 13 12, key })).vaultDone r n [w32 h.1])

def execCloseKeySession (r : Req) (s : State) : Res :=
  let h : Fin 8 := ⟨r.fld 3 2 0 % 8, by omega⟩
  .next (match s.vaultDown, s.keySes r.guest h with
  | some k, _ => s.vaultRefuse r 0xFF k
  | none, none => s.vaultRefuse r 0xFF 1
  | none, some _ => (s.setKeySes r.guest h none).vaultDone r 0xFF [])

/-- KEY_SESSION_IDLE_EXPIRY: 60 s without a command that names it (R515). -/
def execKeySessionIdleExpiry (g : Guest) (h : Fin 8) (s : State) : Res :=
  .next (if (s.keySes g h).isSome then
    (s.setKeySes g h none).modKeys fun k => { k with ev := upd k.ev g (· ||| 0x10) } else s)

/-! ### Other commands of group 0x70 -/

/-- KEY_RIND_STAT … KEY_STAT as a guest reads them (R521). -/
def State.keyBlock (s : State) (g : Guest) : List Word :=
  let r := s.rind
  let t (i : Fin 6) := ix r.tamper i
  let ops := (s.keys.ops.filter fun o => o.req.guest == g && !o.orphan).length
  [pack [(31, 24, min 255 r.rootGen), (20, 16, flagWord r.alarm.toList), (15, 12, r.lastCause), (11, 11, b1 r.batLow),
      (10, 8, r.lifecycle), (1, 1, b1 r.rtcLost), (0, 0, b1 r.rootPresent)],
    pack [(15, 0, t 0), (31, 16, t 1)], pack [(15, 0, t 2), (31, 16, t 3)], pack [(15, 0, t 4), (31, 16, t 5)]] ++
    pair48 r.rtc ++ [w32 r.alarmS,
      pack [(15, 8, flagWord ((idx 8).map fun h => (s.keySes g h).isSome)), (7, 4, min 15 ops), (0, 0, b1 (0 < ops))]]

def execGetKeyStatus (r : Req) (s : State) : Res :=
  .next (s.answer r Code.done (s.keyBlock r.guest ++ [ix s.keys.ev r.guest]))

/-- An audit entry as read (R518). -/
def Audit.bytes (a : Audit) : List Byte :=
  leBytes 6 a.rtc ++ leBytes 1 a.kind ++ leBytes 1 a.guest ++ leBytes 2 a.opcode ++ leBytes 1 a.slot ++ leBytes 1 a.result ++
    leBytes 1 a.reason ++ leBytes 3 0 ++ padTo 16 a.detail

/-- DEDUCED (log 141). -/
def execGetAuditLog (r : Req) (s : State) : Res :=
  let n := r.fld 3 18 8
  .next (if !(s.rightsOf r).audit || !s.inService then s.answer r Code.refused
  else if !inRange 1 1024 n then s.answer r Code.outOfRange
  else
    let all := s.keys.log ++ s.keys.rindLog.filter fun a => !s.keys.log.contains a
    let bytes := (all.take n).flatMap (·.bytes)
    s.answerRing r (r.fld 3 2 0) bytes [pack [(15, 0, bytes.length)]])

def execSetRtcAlarm (r : Req) (s : State) : Res :=
  .next (if !r.fromSystem then s.answer r Code.refused
  else (s.modRind fun x => { x with alarmS := (r.word 3).toNat }).answer r Code.done)

def execRenewRoot (r : Req) (s : State) : Res :=
  let end_ (t : State) (code : Nat) : State := (t.answer r code).auditCmd r 0xFF code 0
  .next (if !r.fromSystem then end_ s Code.refused
  else if s.rind.rootPresent || !s.inService || s.rind.alarm.toList.any id then end_ s Code.wrongState
  else if r.word 3 ≠ 0x00005EED then end_ s Code.outOfRange
  else
    let s1 := (s.modRind fun x => { x with
      rootPresent := true, renewed := true, root := s.free, rootGen := x.rootGen + 1, certified := false
      rtcUs := 0, rtcLost := false, armed := true }).useFree
    end_ (s1.auditRind 4 (min 255 s1.rind.rootGen)) Code.done)

def execRetireDevice (r : Req) (s : State) : Res :=
  let end_ (t : State) (code : Nat) : State := (t.answer r code).auditCmd r 0xFF code 0
  .next (if !(s.rightsOf r).audit then end_ s Code.refused
  else if !s.inService || (idx 8).any s.sesIsOpen then end_ s Code.wrongState
  else if r.word 3 ≠ 0x8128DEAD then end_ s Code.outOfRange
  else
    let s1 := s.modRind fun x => { x with
      lifecycle := 4, rootPresent := false, renewed := false, certified := false, armed := false, lastCause := 7 }
    let s2 := (s1.clearVault.modKeys fun k => { k with slots := [], rindLog := [] }).dropTls
    end_ ((s2.keyRaise 3).voidLegal.tagZeroise.auditRind 3 4) Code.done)

end Sys2Proof.Machine
end

