-- ==== Sys2Proof/Machine/CfgChain.lean ====
section
/-! DEFINITION. Configuration items of groups 0x50 and 0x51: validation (spec 16 R445, 17 R468) and what they set (R443,
R466). -/

namespace Sys2Proof.Machine

def Item.chainCfg (it : Item) : ChainCfg :=
  { enable := it.bit 3 0, role := it.fld 3 2 1, levelCap := it.fld 3 7 4, p0Mesh := it.bit 3 8, adviceOut := it.bit 3 9
    siteId := (it.word 4).toNat, expect := it.fld 5 7 0, mirrorMask := it.fld 6 7 0 }

def Item.coex (it : Item) (g : Fin 16) : Nat := it.fld (3 + g.1 / 4) (8 * (g.1 % 4) + 7) (8 * (g.1 % 4))

def applyChain (c : Cfg) (it : Item) : Cfg :=
  match it.opcode with
  | 0x5080 => { c with chain := it.chainCfg }
  | 0x5180 => { c with mesh := { c.mesh with
      enable := it.bit 3 0, psd := it.fld 3 15 8, key := it.fld 3 23 16, refPhase := it.fld 4 1 0, negative := it.bit 4 2 } }
  | 0x5181 => { c with mesh := { c.mesh with coex := Vector.ofFn it.coex, notch := it.fld 7 15 0 } }
  | _ => c

/-- The mesh key is a filled slot of domain SERVICE with use wrap (R468). -/
def State.meshKeyOk (s : State) (n : Nat) : Bool :=
  match s.slotAt n with
  | some k => k.attrB.fld 5 4 == 2 && k.may 3
  | none => false

/-- The reason against a chain configuration (R445). -/
def chainReason (k : ChainCfg) : Option Nat :=
  firstReason [(1, !inRange 1 3 k.levelCap || !inRange 1 254 k.expect), (2, k.role == 1 && !k.enable)]

def validateChain (s : State) (it : Item) : Option Nat :=
  match it.opcode with
  | 0x5080 => chainReason it.chainCfg
  | 0x5180 => firstReason [(1, !inRange 55 85 (it.fld 3 15 8) || !inRange 1 3 (it.fld 4 1 0)), (2, !s.meshKeyOk (it.fld 3 23 16))]
  | 0x5181 => firstReason [(3, (idx 16).any fun g => 30 < it.coex g), (4, it.fld 7 15 0 == 0xFFFF)]
  | _ => none

end Sys2Proof.Machine
end

