-- ==== Sys2Proof/Machine/CfgFront.lean ====
section
/-! DEFINITION. Configuration items of groups 0x90 and 0x91: validation (spec 21 R579, R583) and what they set (R577,
R581). -/

namespace Sys2Proof.Machine

def Item.nfcCfg (it : Item) : NfcCfg :=
  { reader := it.bit 3 0, tag := it.bit 3 1, eh := it.bit 3 2, owner := ⟨it.fld 3 11 8 % 16, by omega⟩, pollMs := it.fld 3 25 16 }

def Item.dspCfg (it : Item) : DspCfg :=
  { width := it.fld 3 8 0, height := it.fld 3 22 16, frameHz := it.fld 4 7 0, iCol := it.fld 4 15 8, od := it.bit 4 16
    owner := ⟨it.fld 4 23 20 % 16, by omega⟩, legalRows := it.fld 4 29 28 }

def applyFront (c : Cfg) (it : Item) : Cfg :=
  match it.opcode with
  | 0x9080 => { c with nfc := it.nfcCfg }
  | 0x9180 => { c with dsp := it.dspCfg }
  | 0x9181 => { c with od := some it.data }
  | _ => c

def validateFront (s : State) (c : Cfg) (it : Item) : Option Nat :=
  match it.opcode with
  | 0x9080 => firstReason [(1, !inRange 100 1000 it.nfcCfg.pollMs)]
  | 0x9180 =>
    let k := it.dspCfg
    firstReason [
      (1, !inRange 192 256 k.width || k.width % 8 != 0 || !inRange 16 64 k.height || !inRange 1 2 k.legalRows ||
        decide (k.height < 16 * k.legalRows) || !inRange 60 240 k.frameHz || !inRange 5 160 k.iCol || k.iCol % 5 != 0),
      (2, k.legalRows != c.dsp.legalRows && !s.inService)]
  | 0x9181 => firstReason [(3, it.data.length != 65536)]
  | _ => none

end Sys2Proof.Machine
end

