-- ==== Sys2Proof/Machine/CfgHost.lean ====
section
/-! DEFINITION. Configuration items of groups 0x01 to 0x03: their validation (spec 05 R611) and what they set
(R120 to R122). -/

namespace Sys2Proof.Machine

/-- Guest that an item of groups 0x02 and 0x03 names. -/
def Item.guest (it : Item) : Guest := ⟨it.fld 2 3 0 % 16, by omega⟩

/-- The shares that a SET_GUEST_QOS asks for (R122). -/
def Item.shares (it : Item) : Vector Nat 5 :=
  #v[it.fld 3 7 0, it.fld 3 15 8, it.fld 3 23 16, it.fld 3 31 24, it.fld 4 7 0]

/-- Set what an item of groups 0x01 to 0x03 names. SET_GUEST_CAPS keeps SYSTEM fixed (R54, R57). -/
def applyHost (c : Cfg) (it : Item) : Cfg :=
  let modG (f : GuestCfg → GuestCfg) : Cfg := { c with guests := upd c.guests it.guest f }
  match it.opcode with
  | 0x0183 => { c with trefMode := it.fld 2 1 0 }
  | 0x0280 => modG fun x => { x with queFirst := it.fld 3 12 0, queCount := it.fld 3 29 16 }
  | 0x0380 => modG fun x => { x with
      query := it.word 3, ctrl := it.word 4, ports := it.word 5 &&& 0xFF,
      audit := it.bit 5 16, staging := it.bit 5 17, bulk := it.bit 5 18 }
  | 0x0381 => modG fun x => { x with share := it.shares, creditLimit := it.fld 4 28 16 }
  | 0x0382 => modG fun x => { x with hbMs := it.fld 3 23 0 }
  | 0x0383 => { c with glnBind := if it.bit 2 4 then some it.guest else none }
  | _ => c

/-- Two queue ranges share a queue; an empty range shares none. -/
def overlap (f1 n1 f2 n2 : Nat) : Bool := n1 != 0 && n2 != 0 && f1 < f2 + n2 && f2 < f1 + n1

/-- Validation of an item of groups 0x01 to 0x03 (R611), against the configuration that will be in force. -/
def validateHost (s : State) (c : Cfg) (it : Item) : Option Nat :=
  let others := (idx 16).filter (· != it.guest)
  match it.opcode with
  | 0x0183 =>
    let m := it.fld 2 1 0
    firstReason [(9, (m % 2 == 1 && !s.sys.tref.strap10M) || (2 ≤ m && !s.sys.tref.strapPps))]
  | 0x0280 =>
    let f := it.fld 3 12 0
    let n := it.fld 3 29 16
    firstReason [(4, 8192 < n || 8192 < f + n),
      (5, others.any fun g => overlap f n (ix c.guests g).queFirst (ix c.guests g).queCount)]
  | 0x0380 =>
    firstReason [(1, it.word 4 &&& ~~~ it.word 3 != 0 || (it.word 3 ||| it.word 4) &&& ~~~ w32 0x3FFFFF != 0),
      (2, it.bit 5 16 && others.any fun g => (ix c.guests g).audit),
      (3, it.guest == 0 && !it.bit 4 2)]
  | 0x0381 =>
    let d := applyHost c it
    firstReason [(6, (idx 5).any fun k => 100 < ((idx 16).map fun g => ix (ix d.guests g).share k).sum),
      (7, !inRange 1 4096 (it.fld 4 28 16))]
  | 0x0382 => firstReason [(8, it.fld 3 23 0 != 0 && !inRange 10 60000 (it.fld 3 23 0))]
  | _ => none

end Sys2Proof.Machine
end

