-- ==== Sys2Proof/Machine/Activation.lean ====
section
/-! DEFINITION. Firmware activations: proposals, commits and their ends (spec 16 R432; 20 R536 to R543, R546). -/

namespace Sys2Proof.Machine

/-- Raise bits of UPD_EVENT; it makes no interrupt source pending (R547). -/
def State.updRaise (s : State) (bits : Word) : State := s.modFw fun f => { f with ev := raiseAll f.ev bits }

def State.modAct (s : State) (f : Act → Act) : State := s.modFw fun u => { u with act := f u.act }
def State.act (s : State) : Act := s.fw.act

/-- Bytes 0 to 3 of a digest, as a word. -/
def tagBytes (digest : List Byte) : Word := w32 (leNat (digest.take 4))

def Act.clsIdx (a : Act) : Fin 3 := ⟨a.cls % 3, by omega⟩

/-- The activation as a frame carries it (R432). -/
def Act.item (a : Act) (at_ : Nat) : ActItem := { cls := a.cls, digest := beNat a.digest, at_, unit := a.unit }

/-- An activation ends on this unit with a result of its notice; the result of one that was committed is mirrored (R439). DEDUCED (log 95). -/
def State.actEnd (s : State) (code : Nat) (st : ActState := .none) : State :=
  let t := (s.modAct fun a => { a with state := st, cmd := none, pendingStart := false }).finalOpt s.act.cmd code
  if s.act.state == .committed || s.act.state == .swapping then t.mirrorEv 7 0xFF [s.act.cls, code] else t

/-- A swap has completed: ACTIVATED and DONE (R547, R550). -/
def State.activated (s : State) : State := (s.actEnd Code.done .done).updRaise 8

/-- An open, uncommitted proposal is withdrawn on this unit; a CHAIN staging of its digest ends (R535, R546). No digest is
left, so that one left with state none is of a commit. -/
def State.dropProposal (s : State) (code : Nat) : State :=
  if s.act.state != .proposed then s
  else
    let c := s.act.clsIdx
    let g := ix s.fw.stg c
    let running := g.source == 2 && (g.state == .header || g.state == .body) && g.tag == (tagBytes s.act.digest).toNat
    let s1 := if running then
      (s.modFw fun f => { f with stg := upd f.stg c fun x => { x with state := .cancelled, cmd := none, body := [] } }).finalOpt g.cmd
        Code.cancelled [0, 0]
      else s
    (s1.actEnd code).modAct fun a => { a with digest := [] }

/-- Make the inactive bank of a class the active one (R537). -/
def State.switchBank (s : State) (c : Fin 3) : State :=
  s.modFw fun f => { f with active := upd f.active c fun b => 1 - b, trial := upd f.trial c fun _ => true }

/-- A class passes its trial: its floor rises to the image's ROLLBACK (R529, R542). DEDUCED (log 89). -/
def State.passTrial (s : State) (c : Fin 3) : State :=
  if ix s.fw.trial c then
    (s.modFw fun f => { f with
      trial := upd f.trial c fun _ => false, floor := upd f.floor c fun x => max x (s.activeBank c).rollback }).updRaise 0x20
  else s

/-- A session is open on some port (R536). -/
def State.anySession (s : State) : Bool := vany (·.ses.isSome) s.bil

/-- STAGED_OK: the inactive bank is VALID with the digest of the activation and its conditions hold (R536). -/
def State.stagedOk (s : State) : Bool :=
  let a := s.act
  let b := s.otherBank a.clsIdx
  a.state == .proposed && b.valid && b.digest == a.digest && (a.cls != 1 || s.inService) && (a.cls != 2 || !s.anySession)

/-- Commit the activation at T_act on this unit: recorded in the configuration journal (R471, R536). -/
def State.commitAct (s : State) (tAct : Nat) : State :=
  ((s.modAct fun a => { a with state := .committed, tAct }).appendConf { type := 0x24, len := 57, key := tAct }).updRaise 4

/-- A unit's reports have not stopped (R211). -/
def State.reporting (s : State) (u : UnitRep) : Bool := s.epochNow ≤ u.epoch + 1

/-- Whether an activation names this unit; an unaddressed unit of a chain takes part in none (R418). DEDUCED (log 226). -/
def State.inScope (s : State) (unit : Nat) : Bool := !s.chainOn || (s.chn.addr != 0 && (unit == 0 || unit == s.chn.addr))

end Sys2Proof.Machine
end

