-- ==== Sys2Proof/Machine/ChainOps.lean ====
section
/-! DEFINITION. Receiving on the Herril chain, its links and the discipline of chain time (spec 16 R413 to R415, R420 to
R428). -/

namespace Sys2Proof.Machine

/-- Link delay in ns: the mean of the last 64 measurements (R414). -/
def ChLink.delay (l : ChLink) : Int := if l.delays.isEmpty then 0 else quot l.delays.sum l.delays.length

/-- The head lifts its block and raises RING_BROKEN (R415). -/
def State.liftBlock (s : State) : State :=
  ((s.modChn fun c => { c with ring := false, blocking := false, broken := true }).chnRaise 5).originate 255 (.topology false false)

/-- The head's CHW no longer brings its own serial: the ring is not closed, and nothing is blocked (R415). DEDUCED (log 78). -/
def State.openRing (s : State) : State :=
  (s.modChn fun c => { c with ring := false, blocking := false }).originate 255 (.topology false false)

/-- The head closes the ring: its CHW is blocked, and the others are told (R415). DEDUCED (log 78). -/
def State.closeRing (s : State) : State :=
  (s.modChn fun c => { c with ring := true, blocking := true, broken := false }).originate 255 (.topology true true)

/-- The frames queued for a link are discarded, those of priority 0 among them counted in P0_DROPPED (R425). -/
def State.flushLink (s : State) (k : ChPort) : State :=
  let n := (ix (s.chLink k).queue 0).length
  let t := s.modChLink k fun l => { l with queue := Vector.replicate 8 [], busy := none }
  if n = 0 then t else (t.modChn fun c => { c with p0Dropped := satAdd 0xFFFF c.p0Dropped n }).chnRaise 11

/-- A link changes state: LINK_CHANGE and a mirrored event; a link that leaves UP loses its queues, and in a closed ring its
end sends LINK_DOWN, the head lifting its block where its own CHW failed (R413, R415, R425, R439). -/
def State.setLink (s : State) (k : ChPort) (st : ChState) : State :=
  let old := (s.chLink k).state
  if old = st then s
  else
    let s1 := (s.modChLink k fun l => { l with state := st, bad := [] }).chnRaise 4
    let s2 := if old = .up then s1.flushLink k else s1
    let s3 := if old = .up && s.chn.ring then s2.originate 255 (.linkDown s.chn.addr k) else s2
    let s4 := if old = .up && s.chn.ring && s.chn.head && k = chw then s3.liftBlock else s3
    s4.mirrorEv 4 0xFF [k.1, st.code]

/-- A frame that fails R420 on a link: discarded and counted; more than 32 within 10 ms make the link DEGRADED, with its
queues discarded and its frame in progress ended (R413, R420). DEDUCED (log 167). -/
def State.badFrame (s : State) (k : ChPort) : State :=
  let l := s.chLink k
  let bad := (l.bad.filter fun t => s.time.chain < t + 10000000) ++ [s.time.chain]
  let s1 := ((s.modChLink k fun x => { x with crc := satInc 0xFFFFFFFF x.crc, bad }).modChn
    fun c => { c with err := satInc 0xFFFFFFFF c.err }).countGroup 14 0x0E 1
  if (l.state = .up || l.state = .training) && decide (32 < bad.length) then
    let s2 := if l.busy.isSome then s1.emit (.chainCut k) else s1
    (s2.modChLink k fun x => { x with degradedN := satInc 0xFFFFFFFF x.degradedN, queue := x.queue }).setLink k .degraded
  else s1

/-- Whether a frame may go out of the other port (R422): not what is addressed to this unit or comes from it, and not in or out through a blocked port. -/
def State.forwards (s : State) (dst src : Nat) : Bool :=
  let own (a : Nat) : Bool := a != 0 && a == s.chn.addr
  !(own dst || own src || s.chn.blocking)

/-- A frame at HOPS 1 goes no further (R422). -/
def State.hopsOver (s : State) (k : ChPort) : State := s.modChLink k fun l => { l with hopsExpired := satInc 0xFFFFFFFF l.hopsExpired }

/-- The copy of a cut-through frame that turns out to fail its CRC: it goes on with one hop less and ends with the complement of its correct CRC, where
the other port is free (R422). DEDUCED (log 225). -/
def State.cutThrough (s : State) (k : ChPort) (b : List Byte) : State :=
  let byte (n : Nat) : Nat := (b.getD n 0).toNat
  let o := otherPort k
  if (s.chLink k).state ≠ .up || byte 2 < 8 || 4 ≤ byte 3 % 16 || !s.forwards (byte 1) (byte 0) then s
  else if byte 5 ≤ 1 then s.hopsOver k
  else if (s.chLink o).state ≠ .up || (s.chLink o).busy.isSome then s
  else
    let out := b.set 5 (BitVec.ofNat 8 (byte 5 - 1))
    (s.modChLink o fun l => { l with tx := satInc 0xFFFFFFFF l.tx }).emit
      (.chainBroken o (out ++ leBytes 4 (2 ^ 32 - 1 - crc32 out)))

/-- Forward a received frame out of the other port (R422), not at HOPS 1. CORR of SYNC takes in the link delay and the residence time, which is free
(R426). DESIGN CHOICE (log 82). -/
def State.forward (s : State) (k : ChPort) (h : ChHdr) (b : ChBody) : State :=
  if !s.forwards h.dst h.src then s
  else if h.hops ≤ 1 then s.hopsOver k
  else
    let b' := match b with
      | .sync o c => ChBody.sync o (c + ((s.chLink k).delay + Config.freeNat s.free) * 65536)
      | x => x
    s.useFree.queueFrame (otherPort k) { level := h.level, rep := h.rep, dst := h.dst, src := h.src, hops := h.hops - 1,
                                         viaMesh := h.viaMesh, seq := h.seq, epoch := h.epoch, body := b' }

/-- Whether this unit is addressed by a frame (R422): by its address, by 255, or, while unaddressed, by DST 0 with its
serial in the payload. -/
def State.addressed (s : State) (h : ChHdr) (b : ChBody) : Bool :=
  h.dst == 255 || (s.chn.addr != 0 && h.dst == s.chn.addr) ||
    (s.chn.addr == 0 && h.dst == 0 && match b with
      | .assign serial _ => serial == s.sys.serial
      | .walk _ => true
      | _ => false)

/-- Consume a frame once: its (SRC, SEQ) is kept, of each source the last 64 for 100 ms (R424). A unit does not consume
what it sent itself. -/
def State.consume (s : State) (h : ChHdr) (b : ChBody) (eat : State → State) : State :=
  let live := s.chn.seen.filter fun x => s.time.chain ≤ x.2.2 + 100000000
  let dup := live.any fun x => x.1 == h.src && x.2.1 == h.seq
  if !s.addressed h b || (h.src != 0 && h.src == s.chn.addr) then s
  else match b with
  | .sync .. => eat s
  | _ =>
    if dup then s
    else
      let mine := live.filter (·.1 == h.src)
      let kept := if mine.length < 64 then live
        else live.eraseP (·.1 == h.src)
      let s1 := s.modChn fun c => { c with
        seen := kept ++ [(h.src, h.seq, s.time.chain)]
        p0Rx := if b.prio = 0 then satInc 0xFFFF c.p0Rx else c.p0Rx }
      eat s1

/-- A frame received on the chain: on a link that is UP, checked by level, counted, forwarded and consumed (R420, R422);
a frame from the mesh is consumed alone (R456, R458). In Doze all but SLEEP and WAKE is discarded (R433). -/
def State.chainRx (s : State) (h : ChHdr) (b : ChBody) (eat : State → State) : State :=
  if !s.chainOn || (s.sys.power == .doze && !(b.type == 0x15 || b.type == 0x16)) then s
  else match h.port with
  | none => s.consume h b eat
  | some k =>
    if (s.chLink k).state ≠ .up then s
    else if s.cfg.chain.levelCap < h.level || !b.definedAt h.level then s.badFrame k
    else
      let s1 := s.modChLink k fun l => { l with rx := satInc 0xFFFFFFFF l.rx }
      let s2 := match b with
        | .walk _ => s1
        | _ => s1.forward k h b
      let s3 := if s.chn.head && s.msh.only.contains h.dst then s2.meshSend h.dst (.chain
        { level := h.level, rep := h.rep, dst := h.dst, src := h.src, hops := h.hops, seq := h.seq, epoch := h.epoch, body := b })
        else s2
      s3.consume h b eat

/-- Every port is in PWR_STAT state OFF (R428). -/
def State.allPwrOff (s : State) : Bool := vall (·.state == .off) s.pwr

/-- Take in the head's chain time (R427, R428): an offset up to 1 µs is disciplined, up to 100 µs slewed; a larger one is
stepped while no port delivers, and otherwise waits. DEDUCED (log 81). -/
def State.applyTime (s : State) (headNow : Int) (mesh : Bool) : State :=
  let off : Int := (s.time.chain : Int) - headNow
  let near := off.natAbs ≤ 1000
  let far := 100000 < off.natAbs
  if far && s.allPwrOff then
    (s.modChn fun c => { c with offset := 0, slew := 0, syncRun := 0, time := .acquiring }).modTime
      fun t => { t with chain := headNow.toNat }
  else
    s.modChn fun c =>
      let run := if near && !mesh then c.syncRun + 1 else 0
      { c with
        offset := off, syncRun := run, slew := if far then c.slew else -off
        time := if far then .pending else if mesh then .acquiring else if 64 ≤ run then .locked
                else if near && c.time = .locked then .locked else .acquiring }

/-- Start an election, or go on with one, with the best key known: CANDIDATE floods it (R416). -/
def State.elect (s : State) (k : Option ChKey) : State :=
  let cur := if s.chn.electing then s.chn.best else s.ownKey
  let best := if betterOpt k cur then k else cur
  let changed := !s.chn.electing || best != s.chn.best
  let s1 := s.modChn fun c => { c with electing := true, best }
  match best with
  | some b => if changed then s1.originate 255 (.candidate b) else s1
  | none => s1

/-- An election ends with a head (R416). The unit that becomes head goes on with its own chain time, and grants no increase
in its first three epochs, and counts the reports that it takes from now on (R213); an uncommitted activation is withdrawn (R546). -/
def State.endElection (s : State) (k : ChKey) (addr : Nat) : State :=
  let mine := k.serial == s.sys.serial
  let s1 := (s.modChn fun c => { c with
    electing := false, best := none, headSerial := some k.serial, headKey := some { k with incumbent := true }, headAddr := addr
    head := mine, ring := c.ring && mine && c.head, blocking := c.blocking && mine && c.head, prop := none
    time := if mine then .free else .acquiring, syncRun := 0, syncCopy := none, reporting := 0, fencedUnits := 0
    quorate := false, removing := if mine then c.removing else [] }).chnRaise 0 |>.dropProposal Code.cancelled
  if mine then s1.modLease fun l => { l with
    reports := l.reports.map fun u => { u with causes := 0, kw := 0, heal := 0 }, headEpochs := 0 } else s1

/-- The lowest address from 1 to 254 that the table does not hold (R417). -/
def freeAddr (t : List (Nat × Nat)) : Option Nat :=
  ((List.range 254).map (· + 1)).find? fun a => t.all (·.2 != a)

/-- Put a serial into the address table. -/
def tablePut (t : List (Nat × Nat)) (serial addr : Nat) : List (Nat × Nat) :=
  (t.filter fun x => x.1 != serial && x.2 < addr) ++ (serial, addr) :: t.filter fun x => x.1 != serial && addr < x.2

/-- Send WALK out of one port (R417). DEDUCED (log 83). -/
def State.sendWalk (s : State) (k : ChPort) (next : Nat) : State :=
  (s.modChn fun c => { c with seq := (c.seq + 1) % 2 ^ 32 }).queueFrame k (s.newFrame 255 (.walk next))

/-- This unit holds the best key and becomes head; with an empty table it takes address 1 and walks the chain, else its table's address for its
own serial (R416, R417). It asks every unit for its activation state (R546). -/
def State.becomeHead (s : State) (k : ChKey) : State :=
  let fresh := s.chn.table.isEmpty
  let addr := if fresh then 1 else match s.chn.table.find? (·.1 == s.sys.serial) with
    | some x => x.2
    | none => if s.chn.addr ≠ 0 then s.chn.addr else (freeAddr s.chn.table).getD 0
  let s1 := (s.endElection k addr).modChn fun c => { c with
    addr, table := tablePut c.table s.sys.serial addr, walkWest := fresh }
  let s2 := ((s1.modAct fun a => { a with pendingStart := false }).originate 255 (.headClaim k)).originate 255
    (.actQuery { cls := 0, digest := 0 } none)
  if fresh then s2.sendWalk che 2 else s2

end Sys2Proof.Machine
end

