-- ==== Sys2Proof/Machine/Chain.lean ====
section
/-! DEFINITION. The events of the Herril chain: links, delays, queues, ring, election, addresses and time (spec 16 R412 to
R428, R439, R440). -/

namespace Sys2Proof.Machine

/-! ### Links (R412 to R414) -/

/-- DEDUCED (log 79). -/
def ChLink.trains (l : ChLink) : Bool := l.state == .up || l.state == .training

/-- The candidate key of the present head, as this unit knows it. -/
def State.keyOfHead (s : State) : Option ChKey := if s.chn.head then s.ownKey else s.chn.headKey

/-- HELLO of this unit for a port (R421). -/
def State.hello (s : State) (k : ChPort) : Hello :=
  { serial := s.sys.serial, addr := s.chn.addr, head := s.chn.headSerial, headKey := s.keyOfHead, port := k.1
    key := s.ownKey.getD { role := 0, incumbent := false, west := false, serial := s.sys.serial }
    link := (s.chLink k).state.code }

/-- HELLO_SEND: on each UP or TRAINING link (R413). -/
def execHelloSend (k : ChPort) (s : State) : Res := .next (s.sendLocal k (.hello (s.hello k)))

/-- What a neighbour's HELLO says of the head: a unit that knows no head takes it; a better key than the present head's
starts an election (R416); a neighbour of the same head brings its present key. On the head, its own serial at CHW closes the ring, and another
one opens it (R415). DEDUCED (log 78, 79). -/
def State.heardHello (s : State) (k : ChPort) (x : Hello) : State :=
  let same := !s.chn.head && s.chn.headSerial.isSome && x.head == s.chn.headSerial && x.headKey.isSome
  let s0 := (s.modChLink k fun l => { l with neighbour := x.addr }).modChn fun c => { c with
    headKey := if same then x.headKey else c.headKey }
  let s1 := if s.chn.head && k = chw && s.chn.ring && x.head != some s.sys.serial then s0.openRing else s0
  let up := (s.chLink k).state = .up
  if !up then s1
  else if s.chn.head && k = chw && x.head = some s.sys.serial && !s.chn.ring && !s.chn.broken then s1.closeRing
  else if s.chn.electing then s1
  else if betterOpt (some x.key) s1.keyOfHead && s.chn.headSerial.isSome && x.key.role ≠ 0 then s1.elect (some x.key)
  else if s.chn.headSerial.isSome && x.head ≠ s.chn.headSerial && betterOpt x.headKey s1.keyOfHead then s1.elect x.headKey
  else if s.chn.headSerial.isNone && x.head.isSome then
    s1.modChn fun c => { c with headSerial := x.head, headKey := x.headKey, time := .acquiring }
  else s1

/-- HELLO: a neighbour's HELLO, which is discarded in Doze (R433). One that reaches a link held DOWN while its cable is up starts its training again. DEDUCED (log 78). -/
def execHello (k : ChPort) (x : Hello) (s : State) : Res :=
  let l := s.chLink k
  .next (if !s.chainOn || s.sys.power == .doze then s
  else if l.state = .down && l.phys then (s.setLink k .training).modChLink k fun y => { y with neighbour := x.addr }
  else if l.trains then (s.modChLink k fun y => { y with rx := satInc 0xFFFFFFFF y.rx }).heardHello k x
  else s)

/-- CHAIN_LINK_TRAINED: 1 s of HELLO exchange with no failing frame (R413). -/
def execChainLinkTrained (k : ChPort) (s : State) : Res :=
  .next (if (s.chLink k).state = .training then s.setLink k .up else s)

/-- CHAIN_BAD_FRAME: forwarded as a broken frame where it was going through, and counted by the unit that found the failure alone (R413, R420, R422);
nothing of it in Doze (R433). DEDUCED (log 225). -/
def execChainBadFrame (k : ChPort) (x : ChainBad) (s : State) : Res :=
  let t := if x.symbol then s.modChLink k fun l => { l with symbol := satInc 0xFFFFFFFF l.symbol } else s
  let u := match x.through with
    | some b => t.cutThrough k b
    | none => t
  .next (if !(s.chLink k).trains || s.sys.power == .doze then s else if x.ended then u else u.badFrame k)

/-- CHAIN_DEGRADED_END: after 1 s, TRAINING (R413). -/
def execChainDegradedEnd (k : ChPort) (s : State) : Res :=
  .next (if (s.chLink k).state = .degraded then s.setLink k .training else s)

/-- A link is DOWN (R413). -/
def State.linkLost (s : State) (k : ChPort) : State :=
  (s.modChLink k fun l => { l with downN := satInc 0xFFFFFFFF l.downN }).setLink k .down

/-- CHAIN_LINK_SILENCE: no valid frame for 300 µs (R413). In the low-power idle of Doze a link stays up (R433). -/
def execChainLinkSilence (k : ChPort) (s : State) : Res :=
  .next (if (s.chLink k).trains && s.sys.power != .doze then s.linkLost k else s)

/-- CHAIN_PHY_UP: TRAINING, or MISWIRED where master-slave resolution failed (R412, R413). -/
def execChainPhyUp (k : ChPort) (miswired : Bool) (s : State) : Res :=
  let t := s.modChLink k fun l => { l with phys := !miswired }
  .next (if !s.chainOn then t
  else if miswired then t.setLink k .miswired
  else if (s.chLink k).state = .down || (s.chLink k).state = .miswired then t.setLink k .training
  else t)

/-- CHAIN_PHY_DOWN (R413). -/
def execChainPhyDown (k : ChPort) (s : State) : Res :=
  let t := s.modChLink k fun l => { l with phys := false }
  .next (if (s.chLink k).state = .off || (s.chLink k).state = .down then t else t.linkLost k)

/-- DELAY_MEASURE: every 10 ms at each end of an UP or TRAINING link (R414). -/
def execDelayMeasure (k : ChPort) (s : State) : Res := .next (s.sendLocal k (.delayReq s.time.chain))

/-- DELAY_REQ: answered with the times of its arrival and of the answer (R414). -/
def execDelayReq (k : ChPort) (t1 t2 t3 : Nat) (s : State) : Res := .next (s.sendLocal k (.delayRsp t1 t2 t3))

/-- DELAY_RSP: one measurement, ((t4 − t1) − (t3 − t2)) / 2, of which the last 64 are averaged (R414). -/
def execDelayRsp (k : ChPort) (t1 t2 t3 t4 : Nat) (s : State) : Res :=
  let d := quot (((t4 : Int) - t1) - ((t3 : Int) - t2)) 2
  .next (if (s.chLink k).trains && s.sys.power != .doze then s.modChLink k fun l => { l with delays := (d :: l.delays).take 64 } else s)

/-- P0_REPEAT: the repeat that is due next goes out of both ports (R424), but not in Doze (R433). -/
def execP0Repeat (s : State) : Res :=
  .next (match s.chn.repeats with
  | [] => s
  | r :: rs =>
    let first := rs.foldl (fun (a : Nat × TxFrame) b => if b.1 < a.1 then b else a) r
    let t := s.modChn fun c => { c with repeats := c.repeats.eraseP (· == first) }
    if s.sys.power == .doze then t else (t.queueFrame che first.2).queueFrame chw first.2)

/-! ### Trip advice (R440) -/

/-- Advice is consumed once and raised, and its mirrored copy kept; nothing else changes. R439 gives advice no kind, so the
kind byte is free. DESIGN CHOICE (log 80). -/
def State.eatAdvice (s : State) (origin cause ports row time : Nat) : State :=
  let t := s.chnRaise 7
  let rest := [origin, cause, ports, row].map (BitVec.ofNat 8 ·) ++ leBytes 8 time
  let e := leBytes 1 s.chn.addr ++ [Config.freeByte s.free] ++ leBytes 1 0xFF ++ leBytes 1 0 ++ leBytes 8 s.time.chain ++ padTo 20 rest
  let u := t.useFree
  if s.chn.head then u.storeMirror e else u.originate s.chn.headAddr (.mirror e)

def execTripAdvice (h : ChHdr) (origin cause ports row time : Nat) (s : State) : Res :=
  .next (s.chainRx h (.tripAdvice origin cause ports row time) (·.eatAdvice origin cause ports row time))

/-- Send TRIP_ADVICE on both ports (R440). -/
def State.sendAdvice (s : State) (cause ports row : Nat) : State :=
  s.originate 255 (.tripAdvice s.chn.addr cause ports row s.time.chain)

/-! ### Ring (R415) -/

def State.eatLinkDown (s : State) : State := if s.chn.head && s.chn.ring then s.liftBlock else s
def State.eatTopology (s : State) (closed : Bool) : State := if s.chn.head then s else s.modChn fun c => { c with ring := closed }

def execLinkDown (h : ChHdr) (unit : Nat) (port : ChPort) (s : State) : Res :=
  .next (s.chainRx h (.linkDown unit port) (·.eatLinkDown))

def execTopology (h : ChHdr) (blocked closed : Bool) (s : State) : Res :=
  .next (s.chainRx h (.topology blocked closed) (·.eatTopology closed))

/-- RING_RESTORE: every link has been UP for 1 s; the head restores its block (R415). -/
def execRingRestore (s : State) : Res :=
  .next (if s.chainOn && s.chn.head && s.chn.broken && vall (·.state == .up) s.chn.links then s.closeRing.chnRaise 6 else s)

/-! ### Election (R416) -/

/-- ELECTION_START: no SYNC for 10 ms, which stops in Doze (R433). MSYNC from the present head counts as SYNC (R457). -/
def execElectionStart (s : State) : Res :=
  let heard : Bool := match s.msh.msyncAt with
    | some t => decide (s.time.legalUs ≤ t + 10000)
    | none => false
  .next (if s.chainOn && !s.chn.head && !s.chn.electing && !heard && s.sys.power != .doze then s.elect none else s)

def State.eatCandidate (s : State) (k : ChKey) : State := s.elect (some k)

def execCandidate (h : ChHdr) (key : ChKey) (s : State) : Res :=
  .next (s.chainRx h (.candidate key) (·.eatCandidate key))

/-- HEAD_CLAIM_TIMER: the best key has stood for 20 ms; its holder claims. -/
def execHeadClaimTimer (s : State) : Res :=
  .next (if s.chainOn && s.chn.electing then
    match s.chn.best with
    | some k => if k.serial = s.sys.serial then s.becomeHead k else s
    | none => s
  else s)

def State.eatHeadClaim (s : State) (src : Nat) (k : ChKey) : State := s.endElection k src

def execHeadClaim (h : ChHdr) (key : ChKey) (s : State) : Res :=
  .next (s.chainRx h (.headClaim key) (·.eatHeadClaim h.src key))

/-! ### Addresses (R417, R418) -/

/-- WALK: an unaddressed unit takes the next free address; the walk goes on out of the other port. At the head's own CHW it
ends, and the head walks out of CHW in the same way. DEDUCED (log 83). -/
def State.eatWalk (s : State) (k : ChPort) (next : Nat) : State :=
  if s.chn.head then s
  else if s.chn.addr = 0 && next ≤ 254 then
    (s.modChn fun c => { c with addr := next }).sendWalk (otherPort k) (next + 1)
  else s.sendWalk (otherPort k) next

def execWalk (h : ChHdr) (next : Nat) (s : State) : Res :=
  .next (s.chainRx h (.walk next) fun t => t.eatWalk (h.port.getD che) next)

/-- JOIN at the head: the address the table holds for the serial, or the lowest free one; with none, ADDR_FULL and no
ASSIGN. At most 64 mesh-only members (R417, R418, R456). -/
def State.eatJoin (s : State) (viaMesh : Bool) (serial : Nat) : State :=
  if !s.chn.head then s
  else
    let known := (s.chn.table.find? (·.1 == serial)).map (·.2)
    let addr := match known with
      | some a => some a
      | none => freeAddr s.chn.table
    match addr with
    | none => s.chnRaise 12
    | some a =>
      if viaMesh && !s.msh.only.contains a && decide (64 ≤ s.msh.only.length) then s.mshRaise 5
      else
        let s1 := s.modChn fun c => { c with table := tablePut c.table serial a }
        let s2 := if viaMesh && !s.msh.only.contains a then s1.modMsh fun m => { m with only := m.only ++ [a] } else s1
        if viaMesh then (s2.originate 0 (.assign serial a)).meshSend 255 (.chain (s2.newFrame 0 (.assign serial a)))
        else s2.originate 0 (.assign serial a)

def execJoin (h : ChHdr) (serial : Nat) (s : State) : Res :=
  .next (s.chainRx h (.join serial) (·.eatJoin h.viaMesh serial))

/-- ASSIGN: an unaddressed unit takes the address given (R417). -/
def State.eatAssign (s : State) (serial addr : Nat) : State :=
  if s.chn.addr = 0 && serial = s.sys.serial then s.modChn fun c => { c with addr } else s

def execAssign (h : ChHdr) (serial addr : Nat) (s : State) : Res :=
  .next (s.chainRx h (.assign serial addr) (·.eatAssign serial addr))

/-- ADDRESS_TABLE: a table that differs from the newest one of the configuration journal is appended (R417, R471). DEDUCED (log 170). -/
def State.keepTable (s : State) : State :=
  let d := s.chn.table.flatMap fun x => leBytes 16 x.1 ++ leBytes 1 x.2
  let last := ((s.jnl.conf.recs.filter (·.type == 0x23)).getLast?).map (·.data)
  if last = some d then s else s.appendConf { type := 0x23, len := d.length, data := d }

/-- The serials that REMOVE_UNIT named leave the table, and their addresses are free (R417, R444). -/
def State.dropRemoved (s : State) : State :=
  if s.chn.removing.isEmpty then s
  else
    let gone := (s.chn.table.filter fun x => s.chn.removing.contains x.1).map (·.2)
    ((s.modChn fun c => { c with table := c.table.filter (fun x => !c.removing.contains x.1), removing := [] }).modMsh
      fun m => { m with only := m.only.filter (!gone.contains ·) }).modLease
      fun l => { l with reports := l.reports.filter fun u => !gone.contains u.addr }

/-- A table in which a frame's rows stand for the addresses that it speaks of, and each serial once. DESIGN CHOICE (log 224). -/
def tableMerge (t : List (Nat × Nat)) (x : TableFrame) : List (Nat × Nat) :=
  let rest := t.filter fun r => x.rows.all (·.1 != r.1)
  rest.filter (·.2 < x.first) ++ x.rows ++ rest.filter (x.first + 60 ≤ ·.2)

/-- TABLE: journalled; a unit listed under another address takes it and raises ADDR_CHANGED (R417). -/
def State.eatTable (s : State) (x : TableFrame) : State :=
  let s1 := (s.modChn fun c => { c with table := tableMerge c.table x }).keepTable
  match x.rows.find? (·.1 == s.sys.serial) with
  | some x => if x.2 = s.chn.addr then s1 else (s1.modChn fun c => { c with addr := x.2 }).chnRaise 1
  | none => s1

def execTable (h : ChHdr) (x : TableFrame) (s : State) : Res :=
  .next (s.chainRx h (.table x) fun t => if t.chn.head then t else t.eatTable x)

/-- The head's table goes out in frames of 60 addresses, so that none is longer than 1 024 bytes (R417, R420). DESIGN CHOICE (log 224). -/
def State.sendTable (s : State) : State :=
  [1, 61, 121, 181, 241].foldl (fun t first =>
    t.originate 255 (.table { first, rows := s.chn.table.filter fun r => first ≤ r.2 && r.2 < first + 60 })) s

/-- TABLE_BROADCAST: every 1 s, after the units that were removed have left the table; the walk out of CHW follows once the first walk's units are in the table (R417). -/
def execTableBroadcast (s : State) : Res :=
  .next (if s.chainOn && s.chn.head then
    let s1 := s.dropRemoved.keepTable
    let t := s1.sendTable
    if s.chn.walkWest then
      let u := t.modChn fun c => { c with walkWest := false }
      match freeAddr s1.chn.table with
      | some a => u.sendWalk chw a
      | none => u
    else t
  else s)

/-- JOIN_RETRY: an unaddressed unit repeats JOIN every 1 s (R417, R418). -/
def execJoinRetry (s : State) : Res :=
  .next (if s.chainOn && !s.chn.head && s.chn.addr = 0 then s.originate s.chn.headAddr (.join s.sys.serial) else s)

/-- CHAIN_JOIN_DONE: step 10 of the start-up (R35). -/
def execChainJoinDone (s : State) : Res :=
  .next (if s.sys.reached 8 && (!s.chainOn || s.chn.addr ≠ 0) then s.reach 10 else s)

/-! ### Chain time (R426 to R428) -/

/-- SYNC_SEND: the head's chain time out of both ports; T_ORIGIN is that of the delimiter (`State.stamped`). -/
def execSyncSend (s : State) : Res :=
  .next (if s.chainOn && s.chn.head then s.originate 255 (.sync s.time.chain 0) else s)

/-- SYNC: the copy with the most HOPS left, the CHW copy on a tie. DEDUCED (log 81). -/
def State.eatSync (s : State) (h : ChHdr) (origin : Nat) (corr : Int) : State :=
  let west := h.port == some chw
  let takes : Bool := match s.chn.syncCopy with
    | some (q, hops, w) => q != h.seq || decide (hops < h.hops) || (hops == h.hops && west && !w)
    | none => true
  if s.chn.head || !takes then s
  else
    let delay := match h.port with
      | some k => (s.chLink k).delay
      | none => 0
    let s1 := s.modChn fun c => { c with syncCopy := some (h.seq, h.hops, west), headAddr := h.src, syncAt := some s.time.legalUs }
    (s1.modMsh fun m => { m with meshTime := false }).applyTime (origin + corr / 65536 + delay) false

def execSync (h : ChHdr) (origin : Nat) (corr : Int) (s : State) : Res :=
  .next (s.chainRx h (.sync origin corr) (·.eatSync h origin corr))

/-- TIME_UNSYNC: no SYNC for 2 s (R427). -/
def execTimeUnsync (s : State) : Res :=
  .next (if s.chainOn && !s.chn.head && s.chn.time ≠ .unsync && s.sys.power != .doze then
    (s.modChn fun c => { c with time := .unsync, syncRun := 0 }).chnRaise 9 else s)

/-! ### Mirrored events (R439) -/

def State.eatMirror (s : State) (e : List Byte) : State := if s.chn.head then s.storeMirror (padTo 32 e) else s

def execMirror (h : ChHdr) (entry : List Byte) (s : State) : Res :=
  .next (s.chainRx h (.mirror entry) (·.eatMirror entry))

/-! ### Configuration of the chain (R413, R443) -/

/-- SET_CHAIN_CONFIG has applied: ENABLE set starts both links in TRAINING and the unit as a member; ENABLE cleared turns the
ports off, with what was queued discarded, and makes the unit standalone (R425). The address table stays journalled. -/
def State.chainApplied (s : State) (was : Bool) : State :=
  let now := s.cfg.chain.enable
  if now && !was then
    let t := s.modChn fun c => { c with head := false, headSerial := none, headKey := none, time := .acquiring, level := s.cfg.chain.levelCap }
    (t.setLink che .training).setLink chw .training
  else if was && !now then
    let drop (u : State) (k : ChPort) : State := if (u.chLink k).state = .up then u.flushLink k else u
    let t := (drop (drop s che) chw).modChn fun c => { c with
      links := vmap (fun l => { l with state := .off, queue := Vector.replicate 8 [], busy := none, neighbour := 0 }) c.links
      addr := 0, head := false, headSerial := none, headKey := none, headAddr := 0, electing := false, best := none
      ring := false, blocking := false, broken := false, walkWest := false, removing := [], repeats := [], time := .free, offset := 0, slew := 0
      syncRun := 0, syncCopy := none, fence := 0, fenceNext := none, quorate := false, reporting := 0, fencedUnits := 0
      headDigest := 0, siteHeld := none, prop := none, granted := [], level := s.cfg.chain.levelCap, levelNext := none }
    ((t.chnRaise 4).modLease fun l => { l with reports := [], next := none, missed := 0 }).reach 10
  else if now then s.modChn fun c => { c with level := min c.level s.cfg.chain.levelCap }
  else s.modChn fun c => { c with level := s.cfg.chain.levelCap }

end Sys2Proof.Machine
end

