-- ==== Sys2Proof/Machine/Catalog.lean ====
section
/-! DEFINITION. The command tables: for each opcode its fastest class, lengths, cost, port field, rights and the
blocks it uses (spec 05 R110, R111, R120 to R122, and the command table of every group; 04 R610). -/

namespace Sys2Proof.Machine

/-- What the port field of a command may hold (R111). -/
inductive PortUse where
  | free | must | none | either
  deriving DecidableEq, Repr

/-- Whether a command is a configuration item, and of which level (R112, R124). -/
inductive ItemKind where
  | no | unit | session | site
  deriving DecidableEq, Repr

/-- The block of R27 a command uses beside a service core (R610). -/
inductive BlkUse where
  | none | crypto | vehModem | meshModem | stor | display
  deriving DecidableEq, Repr

/-- One row of a command table. -/
structure OpInfo where
  opcode : Nat
  fastest : Nat
  lenLo : Nat
  lenHi : Nat
  /-- Response length, 0 for the length of the request. -/
  rsp : Nat
  cost : Nat
  port : PortUse := .none
  bulk : Bool := false
  /-- The command names its claimant as issuer (R58). -/
  claim : Bool := false
  item : ItemKind := .no
  blk : BlkUse := .none
  deriving DecidableEq, Repr

/-- A row with one request length. -/
def row (opcode fastest len rsp cost : Nat) (port : PortUse := .none) (bulk claim : Bool := false)
    (item : ItemKind := .no) (blk : BlkUse := .none) : OpInfo :=
  { opcode, fastest, lenLo := len, lenHi := len, rsp, cost, port, bulk, claim, item, blk }

/-- Group 0x01 (R120). -/
def ops01 : List OpInfo :=
  [ row 0x0100 1 8 10 4 .free, row 0x0101 2 8 15 6 .free (blk := .crypto),
    { row 0x0102 0 8 0 2 .free with lenHi := 16 }, row 0x0103 1 8 8 3 .free,
    row 0x0180 1 8 8 5 .free, row 0x0181 2 8 8 900 .free, row 0x0182 1 8 8 5 .free,
    row 0x0183 1 8 8 6 .free (item := .unit), row 0x0184 1 8 8 8 .free, row 0x0185 2 8 8 20 .free,
    row 0x0186 1 8 8 2 .free ]

/-- Group 0x02 (R121). -/
def ops02 : List OpInfo :=
  [ row 0x0200 1 8 8 4 .free, row 0x0201 1 8 8 3 .free, row 0x0280 1 8 8 6 .free (item := .unit) ]

/-- Group 0x03 (R122). -/
def ops03 : List OpInfo :=
  [ row 0x0300 1 8 8 4 .free, row 0x0380 1 8 8 6 .free (item := .unit), row 0x0381 1 8 8 6 .free (item := .unit),
    row 0x0382 1 8 8 4 .free (item := .unit), row 0x0383 1 8 8 4 .free (item := .unit),
    row 0x0384 2 8 8 10 .free, { row 0x0385 1 8 8 8 .free with lenHi := 16 } ]

/-- Group 0x10 (R152). -/
def ops10 : List OpInfo :=
  [ row 0x1000 1 8 10 3 .must, row 0x1001 2 8 16 40 .must, row 0x1002 2 8 12 10 .must (blk := .vehModem),
    row 0x1003 2 8 8 80 .must true true, row 0x1080 1 8 8 5 .must, row 0x1081 1 8 8 4 .must false true,
    row 0x1082 1 8 8 12 .must false true .session, row 0x1083 1 8 8 6 .must false true,
    row 0x1084 2 8 8 30 .must false true, row 0x1085 2 8 8 20 .must false true,
    row 0x1086 3 8 8 400 .none true false .unit, row 0x1087 2 8 8 120 .must true true .no .vehModem ]

/-- Group 0x11 (R178). -/
def ops11 : List OpInfo :=
  [ row 0x1100 1 8 10 3 .must, row 0x1101 2 8 16 20 .must, row 0x1180 1 13 8 40 .must false true,
    row 0x1181 1 8 8 20 .must false true, row 0x1182 1 8 8 10 .must false true, row 0x1183 1 8 8 8 .must false true,
    row 0x1184 1 8 8 10 .must false true .session ]

/-- Group 0x12 (R219). SET_SITE_POWER is site-scoped on the chain (R431). -/
def ops12 : List OpInfo :=
  [ row 0x1200 1 8 10 3 .must, row 0x1201 1 8 9 4 .none, row 0x1202 1 8 9 4 .must, row 0x1203 2 8 10 8 .none,
    row 0x1280 1 8 8 12 .must false true .session, row 0x1281 0 8 8 8 .must false true,
    row 0x1282 1 8 8 6 .none false false .unit, row 0x1283 1 8 8 6 .none false false .site,
    row 0x1284 1 8 8 6 .none false false .unit, row 0x1285 1 8 8 20 .none ]

/-- Group 0x20 (R254). -/
def ops20 : List OpInfo :=
  [ row 0x2000 1 8 10 3 .must, row 0x2001 2 8 12 25 .must, row 0x2002 2 8 12 20 .must, row 0x2003 2 8 14 20 .must,
    row 0x2004 2 8 12 15 .must, row 0x2080 1 8 8 10 .must false true .session, row 0x2081 2 8 8 30 .must false true,
    row 0x2082 2 8 8 30 .must false true, row 0x2083 2 8 8 40 .must false true, row 0x2084 2 8 8 50 .must false true,
    row 0x2085 2 8 8 20 .must false true ]

/-- Group 0x21 (R284). -/
def ops21 : List OpInfo :=
  [ row 0x2100 1 8 16 4 .must, row 0x2101 2 8 16 15 .must, row 0x2102 2 8 12 10 .must, row 0x2103 1 8 12 4,
    row 0x2180 1 8 8 10 .must false true .session, row 0x2181 1 8 8 8 .none false false .unit,
    row 0x2182 1 8 8 8 .none false false .unit, row 0x2183 2 8 8 20 .must false true, row 0x2184 2 8 8 20 ]

/-- Group 0x22 (R309). -/
def ops22 : List OpInfo :=
  [ row 0x2200 1 8 10 3 .must, row 0x2201 2 8 16 10 .must, row 0x2202 2 8 8 100 .must true, row 0x2203 1 8 10 4,
    row 0x2204 2 8 16 10, row 0x2280 1 8 8 10 .must false true .session, row 0x2281 1 12 8 20 .must false true .session,
    row 0x2282 1 8 8 8 .must false true, row 0x2283 1 8 8 6, row 0x2284 2 8 8 20, row 0x2285 3 8 8 400 .none true ]

/-- Group 0x92 (R313). -/
def ops92 : List OpInfo :=
  [ row 0x9200 1 8 8 3, row 0x9280 1 8 8 6 .none false false .unit ]

/-- Group 0x23 (R331). SET_PQ_CONFIG is session-bound for a port and unit-level for 0xFF. -/
def ops23 : List OpInfo :=
  [ row 0x2300 1 8 8 3 .either, row 0x2301 1 8 8 3 .must, row 0x2302 3 8 8 60 .either true, row 0x2303 2 8 8 80 .must true,
    row 0x2380 1 8 8 8 .either false true .session ]

/-- Group 0x60 (R496). -/
def ops60 : List OpInfo :=
  [ row 0x6000 1 8 9 4, row 0x6001 1 8 13 4, row 0x6002 4 8 8 20000 .either true false .no .stor,
    row 0x6003 4 8 8 40000 .must true false .no .stor, row 0x6004 4 8 8 20000 .none true false .no .stor,
    row 0x6080 1 8 8 6 .none false false .unit, row 0x6081 4 8 8 50000 .none false false .no .stor,
    row 0x6082 2 8 8 20 .either false true ]

/-- Group 0x70 (R522). -/
def ops70 : List OpInfo :=
  [ row 0x7000 1 8 11 4, row 0x7001 1 8 8 250 (blk := .crypto), row 0x7002 1 8 8 350 .none true (blk := .crypto),
    row 0x7003 2 8 8 3100 .none true (blk := .crypto), row 0x7004 3 8 8 500 .none true,
    row 0x7080 3 8 8 12000 (blk := .crypto), row 0x7081 2 8 8 3600 .none true (blk := .crypto),
    row 0x7082 2 8 8 3600 .none true (blk := .crypto), row 0x7083 2 8 8 600 (blk := .crypto),
    row 0x7084 2 16 8 3100 .none true (blk := .crypto), row 0x7085 2 8 8 3600 .none true (blk := .crypto),
    row 0x7086 2 16 8 600 (blk := .crypto), row 0x7087 1 8 8 250 (blk := .crypto), row 0x7088 1 8 8 6,
    row 0x7089 3 8 8 20000, row 0x708A 3 8 8 20000 ]

/-- Group 0x80 (R548). -/
def ops80 : List OpInfo :=
  [ row 0x8000 1 8 11 4, row 0x8080 2 8 8 20 (blk := .crypto), row 0x8081 1 8 8 6, row 0x8082 2 8 8 30, row 0x8083 1 8 8 10,
    row 0x8084 1 8 8 6 .none false false .unit ]

/-- Group 0x30 (R365). -/
def ops30 : List OpInfo :=
  [ row 0x3000 1 8 10 3, row 0x3001 1 8 8 3 .must, row 0x3002 3 8 8 60 .none true, row 0x3003 2 8 12 10,
    row 0x3080 1 8 8 8 .either false true, row 0x3081 2 8 8 20 .either, row 0x3082 1 8 8 6 ]

/-- Groups 0x31 and 0x32 (R387). -/
def ops31 : List OpInfo :=
  [ row 0x3100 1 8 8 3 .must, row 0x3101 2 8 8 6 .must, row 0x3180 2 8 8 10 .must false true, row 0x3200 1 8 8 3 .must,
    row 0x3280 2 8 8 10 .must false true, row 0x3281 2 8 8 10 .must false true, row 0x3282 1 8 8 8 .must false true,
    row 0x3283 1 8 8 4 .must false true ]

/-- Group 0x40 (R408). -/
def ops40 : List OpInfo :=
  [ row 0x4000 1 8 10 3, row 0x4001 1 8 8 3, row 0x4002 1 8 8 3 .must, row 0x4080 1 8 8 6, row 0x4081 1 8 8 6,
    row 0x4082 1 8 8 6 .none false false .unit, row 0x4083 1 8 8 4 .none false false .unit,
    row 0x4084 1 8 8 6 .must false true .session ]

/-- Group 0x50 (R442). SITE_ID and EXPECT_UNITS of SET_CHAIN_CONFIG are site-scoped (R431). -/
def ops50 : List OpInfo :=
  [ row 0x5000 1 8 15 4, row 0x5001 3 8 8 80 .none true, row 0x5002 2 8 11 8, row 0x5003 3 8 8 80 .none true,
    row 0x5080 1 8 8 8 .none false false .site, row 0x5081 2 8 8 20, row 0x5082 1 8 8 6, row 0x5083 2 8 8 4 ]

/-- Group 0x51 (R465). -/
def ops51 : List OpInfo :=
  [ row 0x5100 1 8 10 4, row 0x5101 3 8 8 60 .none true false .no .meshModem,
    row 0x5102 3 8 8 120 .none true false .no .meshModem, row 0x5103 3 8 8 80 .none true false .no .meshModem,
    row 0x5180 1 8 8 8 .none false false .unit, row 0x5181 1 12 8 10 .none false false .unit, row 0x5182 2 8 8 4 ]

/-- Group 0x90 (R576). -/
def ops90 : List OpInfo :=
  [ row 0x9000 1 8 10 3, row 0x9080 1 8 8 6 .none false false .unit, row 0x9081 4 8 8 6000 .none true, row 0x9082 1 8 8 20,
    row 0x9083 2 16 8 40, row 0x9084 2 8 8 3600 .none true (blk := .crypto), row 0x9085 1 8 8 10 ]

/-- Group 0x91 (R580). -/
def ops91 : List OpInfo :=
  [ row 0x9100 1 8 8 3, row 0x9180 1 8 8 6 .none false false .unit, row 0x9181 3 8 8 2000 .none true false .unit .display,
    row 0x9182 2 8 8 200 .none true (blk := .display),
    row 0x9183 1 8 8 6 (blk := .display), row 0x9184 1 8 8 10 .either ]

/-- Every command defined at BI-3. -/
def catalog : List OpInfo := ops01 ++ ops02 ++ ops03 ++ ops10 ++ ops11 ++ ops12 ++ ops20 ++ ops21 ++ ops22 ++ ops23 ++ ops30 ++ ops31 ++ ops40 ++ ops50 ++ ops51 ++ ops60 ++ ops70 ++ ops80 ++ ops90 ++ ops91 ++ ops92

/-- The row of an opcode. -/
def opInfo (opcode : Nat) : Option OpInfo := catalog.find? (·.opcode == opcode)

/-- Bit of a group in SYS_CAP_QUERY and SYS_CAP_CTRL (R55). -/
def groupBit (group : Nat) : Option Nat :=
  ([0x01, 0x02, 0x03, 0x10, 0x11, 0x12, 0x20, 0x21, 0x22, 0x23, 0x30, 0x31, 0x32, 0x40, 0x50, 0x51, 0x60, 0x70,
    0x80, 0x90, 0x91, 0x92].zipIdx.find? (·.1 == group)).map (·.2)

/-- Kind of a command from its opcode: control where the low byte is 0x80 or more (R110). -/
def isControl (opcode : Nat) : Bool := 128 ≤ opcode % 256

/-- The vault commands of R516: group 0x70 but for the five named there. -/
def isVault (opcode : Nat) : Bool :=
  opcode / 256 == 0x70 && !([0x7000, 0x7004, 0x7088, 0x7089, 0x708A].contains opcode)

/-- The opcodes that ROM recovery serves (R520, R544). -/
def romServes (opcode : Nat) : Bool :=
  [0x0100, 0x0101, 0x0102, 0x8000, 0x8080, 0x8081, 0x7000, 0x7089].contains opcode

end Sys2Proof.Machine
end

