-- ==== Sys2Proof/Machine/Hooks.lean ====
section
/-! DEFINITION. What admission asks of other parts of the block: the SERVICE swap (spec 20 R538, R539) and the
output space of the configuration journal (spec 04 R104, 18 R479). -/

namespace Sys2Proof.Machine

/-- Steps 2 and 3 of a SERVICE swap are under way (R538). DEDUCED (log 150). -/
def State.swapping (s : State) : Bool := s.fw.act.state == .swapping && s.fw.act.cls == 0

/-- µs until the next committed SERVICE swap, none while none is committed (R539). -/
def State.swapIn (s : State) : Option Nat :=
  if s.fw.act.state == .committed && s.fw.act.cls == 0 && s.time.chain ≤ s.fw.act.tAct then
    some ((s.fw.act.tAct - s.time.chain) / 1000)
  else none

/-- Payload bytes of the TRANSACTION record of a list of items (R471): the epoch, and each item's message and ring data. -/
def txnBytes (items : List Item) : Nat := 4 + (items.map fun it => 4 * it.words.length + it.data.length).sum

/-- Bytes that the ring of an item holds, which admission reserves before they are read: the overdrive table, and the longest trust
anchor (R471). DEDUCED (log 204). -/
def ringBytes (opcode : Nat) : Nat := if opcode = 0x9181 then 65536 else if opcode = 0x1086 then 2048 else 0

/-- Payload bytes of the record that a command writes to the configuration journal, none where it writes none: COMMIT_CONFIG, and
an item that is committed alone (R112, R123). -/
def State.recordLen (s : State) (op : OpInfo) (r : Req) : Option Nat :=
  if op.opcode = 0x0181 then
    match ix s.conf.opens r.guest with
    | some (it :: l) => some (txnBytes (it :: l))
    | _ => none
  else if op.item != .no && !r.txn then some (txnBytes [{ opcode := r.opcode, words := r.words }] + ringBytes op.opcode)
  else none

/-- Bytes that admitted commands which have no result yet hold reserved in the configuration journal (R104, R107). -/
def State.spaceHeld (s : State) : Nat :=
  ((s.host.admitted.filter fun a => !s.host.answers.any (·.req == a.req)).map (·.space)).sum

/-- Room for a command's record stands in the configuration journal beside what is reserved there (R104, R479). -/
def State.journalFree (s : State) (op : OpInfo) (r : Req) : Bool :=
  match s.recordLen op r with
  | none => true
  | some n => s.txnFits n && s.jnl.conf.used + roundUp (20 + n) 8 + s.spaceHeld ≤ confHalf

/-- Output space for a command can be reserved (R104): its record, and the Cave for a command that uses STOR, which has none
while it sheds. DEDUCED (log 183). -/
def State.outputsFree (s : State) (op : OpInfo) (r : Req) : Bool :=
  s.journalFree op r && (op.blk != .stor || s.cave.shed == 0)

end Sys2Proof.Machine
end

