-- ==== Sys2Proof/Machine/Mailbox.lean ====
section
/-! DEFINITION. Mailboxes, the pre-admission checks, the Colander, completion and notices (spec 04; 05 R115 to
R118). -/

namespace Sys2Proof.Machine

/-- The path that owns mailbox n of a guest (R64). -/
def State.mbxPath (s : State) (g : Guest) (n : Fin 8) : Path :=
  if s.host.gln = some g ∧ 6 ≤ n.1 then .gln else .pcie

def State.modH2d (s : State) (g : Guest) (n : Fin 8) (f : H2D → H2D) : State :=
  s.modGuest g fun x => { x with h2d := upd x.h2d n f }

def State.modD2h (s : State) (g : Guest) (n : Fin 8) (f : D2H → D2H) : State :=
  s.modGuest g fun x => { x with d2h := upd x.d2h n f }

/-- The words of a message to the host: header with result and LEN, word 1 as given, then the payload padded
with zeros (R86, R113). -/
def msgWords (w0 w1 : Word) (len code : Nat) (payload : List Word) : List Word :=
  pack [(31, 16, w0.fld 31 16), (15, 8, len), (7, 0, code)] :: w1 :: (payload ++ List.replicate 14 0).take (len - 2)

/-- A response given without admission goes to the refusal slot of its mailbox with LEN 8 (R90). -/
def State.refuse (s : State) (g : Guest) (n : Fin 8) (code : Nat) (detail : Word := 0) : State :=
  let m := ix (s.guest g).h2d n
  let msg : OutMsg := {
    kind := .refusal n, path := m.path, goAt := m.goAt,
    words := msgWords (ix m.mbd 0) (ix m.mbd 1) 8 code [detail] }
  ((s.modH2d g n fun x => { x with slot := .occupied }).modGuest g fun x => { x with store := x.store ++ [msg] }).count g
    (if code = Code.refusedLoad then 0x02 else 0x03) 1

/-- The header checks 1 to 6 of R115: the reason of the first that fails. -/
def State.headerFail (s : State) (g : Guest) (w0 w1 : Word) : Option Nat :=
  let len := w0.fld 15 8
  let q := w1.fld 31 19
  let c := s.gcfg g
  if !inRange 8 16 len then some 1
  else if 4 < w1.fld 18 16 then some 2
  else if !(c.queFirst ≤ q && q < c.queFirst + c.queCount) then some 3
  else match opInfo (w0.fld 31 16) with
    | none => some 4
    | some op =>
      if s.sys.romRecovery && !romServes op.opcode then some 4
      else if !inRange op.lenLo op.lenHi len then some 5
      else if w0.fld 7 1 != 0 || (w0.bit 0 && op.item == .no) then some 6
      else none

/-- Whether a command names host memory (R58): one whose table asks for BULK, and BEGIN_STAGING from a ring (R531). -/
def OpInfo.namesMemory (op : OpInfo) (r : Req) : Bool :=
  op.bulk || (op.opcode == 0x8080 && r.fld 3 5 4 == 1)

/-- Check 7 of R115: the violation kind of R72 a command commits (R58), none if it commits none. -/
def State.capKind (s : State) (op : OpInfo) (r : Req) : Option Nat :=
  let c := s.gcfg r.guest
  let portField := r.portField
  let groupOk := match groupBit (op.opcode / 256) with
    | some b => if isControl op.opcode then c.ctrl.bit b else c.query.bit b
    | none => false
  let portOk := match op.port with
    | .free => true
    | .none => portField == 0xFF
    | .must => portField < 8 && c.ports.bit portField
    | .either => portField == 0xFF || (portField < 8 && c.ports.bit portField)
  if !groupOk then some 6
  else if !portOk then some 7
  else if op.namesMemory r && !c.bulk then some 8
  else none

/-- The claim check of R58 and R150. -/
def State.claimOk (s : State) (op : OpInfo) (r : Req) : Bool :=
  !op.claim || !r.namesPort || s.claims r.guest r.port

/-- Backlog caps B of R99, in units. -/
def backlogCap (k : Nat) : Nat := [36, 392, 3980, 39960, 3999600].getD k 0

/-- Bound T of R99, in µs. -/
def classBound (k : Nat) : Nat := [100, 1000, 10000, 100000, 10000000].getD k 0

/-- The cap while a SERVICE swap lies within T_k: the 20 ms without service are taken out (R539). -/
def State.capNow (s : State) (k : Nat) : Nat :=
  match s.swapIn with
  | some d => if d ≤ classBound k then
      (if k ≤ 2 then 0 else [0, 0, 0, 31960, 3991600].getD k 0) else backlogCap k
  | none => backlogCap k

/-- Clock state of a block (R27). -/
def Clocks.of (c : Clocks) : Blk → ClockState
  | .core => c.core
  | .crypto => c.crypto
  | .vehModem p => ix c.vehModem p
  | .meshModem => c.meshModem
  | .stor => c.stor
  | .display => c.display

def Clocks.set (c : Clocks) (b : Blk) (x : ClockState) : Clocks :=
  match b with
  | .core => { c with core := x }
  | .crypto => { c with crypto := x }
  | .vehModem p => { c with vehModem := upd c.vehModem p fun _ => x }
  | .meshModem => { c with meshModem := x }
  | .stor => { c with stor := x }
  | .display => { c with display := x }

/-- The blocks given are running. -/
def Clocks.runAll (c : Clocks) (bs : List Blk) : Clocks :=
  bs.foldl (fun d b => { d.set b .running with starting := d.starting.filter (· != b) }) c

/-- Start latency of a block in its present state, in µs (R27). The STOR root port has one value, from L1.2. DESIGN CHOICE (log 148). -/
def Clocks.latency (c : Clocks) (b : Blk) : Nat :=
  match c.of b, b with
  | .running, _ => 0
  | .gated, .core => 2
  | .gated, .crypto => 2
  | .gated, .vehModem _ => 10
  | .gated, .meshModem => 10
  | .gated, .stor => 70
  | .gated, .display => 5
  | .stopped, .core => 45
  | .stopped, .crypto => 45
  | .stopped, .vehModem _ => 180
  | .stopped, .meshModem => 180
  | .stopped, .stor => 70
  | .stopped, .display => 45

/-- The blocks a command uses, with the vehicle modems of the ports given (R610). -/
def OpInfo.blocks (op : OpInfo) (ports : List Port) : List Blk :=
  .core :: match op.blk with
    | .none => []
    | .crypto => [.crypto]
    | .vehModem => ports.map .vehModem
    | .meshModem => [.meshModem]
    | .stor => [.stor]
    | .display => [.display]

/-- start_latency(m) of R102: the largest latency among the blocks used. -/
def State.startLatency (s : State) (op : OpInfo) (ports : List Port) : Nat :=
  ((op.blocks ports).map s.sys.clocks.latency).foldl max 0

/-- Items that wait for their unit-level part to apply. -/
def State.waitingItems (s : State) : List Item :=
  (s.conf.committed.filter (! ·.unitApplied)).flatMap (·.unit)

/-- The share in percent that admission uses: the smallest of the one in force and every pending one (R125). -/
def State.share (s : State) (g : Guest) (k : Fin 5) : Nat :=
  let pend := (s.waitingItems.filter fun it => it.opcode == 0x0381 && it.names g).map fun it =>
    if k.1 < 4 then it.fld 3 (8 * k.1 + 7) (8 * k.1) else it.fld 4 7 0
  pend.foldl min (ix (s.gcfg g).share k)

/-- The credit limit that R61 uses, under the same rule. -/
def State.limit (s : State) (g : Guest) : Nat :=
  let pend := (s.waitingItems.filter fun it => it.opcode == 0x0381 && it.names g).map (·.fld 4 28 16)
  pend.foldl min (s.gcfg g).creditLimit

/-- A queue that a pending SET_QUEUE_RANGE takes from its guest (R125). -/
def State.leaving (s : State) (g : Guest) (q : Nat) : Bool :=
  s.waitingItems.any fun it => it.opcode == 0x0280 && it.names g &&
    !(it.fld 3 12 0 ≤ q && q < it.fld 3 12 0 + it.fld 3 29 16)

/-- Sum of the shares of a class over all guests, in percent. -/
def State.shareSum (s : State) (k : Fin 5) : Nat := ((idx 16).map fun g => ix (s.gcfg g).share k).sum

/-- Where R104 books a cost c of class k for a guest: its own share, the pool, or nowhere. -/
def State.place (s : State) (g : Guest) (k : Fin 5) (c : Nat) : Option PoolKind :=
  let b := s.capNow k.1
  if (ix (s.guest g).own k + c) * 100 ≤ s.share g k * b then some .own
  else if (ix s.host.pool k + c) * 100 ≤ (100 - s.shareSum k) * b then some .pool
  else none

/-- The admission test of R104 with a start latency: where the cost is booked, none for REFUSED_LOAD. -/
def State.admits (s : State) (op : OpInfo) (r : Req) (lat : Nat) : Option PoolKind :=
  let k : Fin 5 := ⟨r.cls % 5, by omega⟩
  let c := op.cost + lat
  if s.capNow k.1 < c then none
  else if s.limit r.guest < (s.guest r.guest).credits + 1 then none
  else if s.host.admitted.any fun a => a.req.queue == r.queue && a.req.cls != r.cls then none
  else if s.leaving r.guest r.queue then none
  else if !s.outputsFree op r then none
  else s.place r.guest k c

/-- Start the clocks of blocks that are not running (R27, R102). -/
def State.startClocks (s : State) (bs : List Blk) : State :=
  s.modSys fun y => { y with clocks := { y.clocks with starting := y.clocks.starting ++
      (bs.filter fun b => y.clocks.of b != .running && !y.clocks.starting.contains b) } }

/-- Admission: credit, cost, queue entry and completion slot are taken (R104). -/
def State.enrol (s : State) (op : OpInfo) (r : Req) (pk : PoolKind) (lat goAt : Nat) : State :=
  let k : Fin 5 := ⟨r.cls % 5, by omega⟩
  let c := op.cost + lat
  let s1 := s.modGuest r.guest fun x => { x with
    credits := x.credits + 1,
    own := if pk = .own then upd x.own k (· + c) else x.own }
  let s2 := s1.modHost fun h => { h with
    pool := if pk = .pool then upd h.pool k (· + c) else h.pool,
    admitted := h.admitted ++ [{
      req := r, cost := c, pool := pk, admittedAt := s.time.chain, goAt
      space := match s.recordLen op r with | some n => roundUp (20 + n) 8 | none => 0
      rights := (s.gcfg r.guest).rights }] }
  (s2.startClocks (op.blocks r.modemPorts)).count r.guest 0x01 1

/-- RELAY_MESSAGE's target and its free notice slot (R92). -/
def isRelay (op : OpInfo) : Bool := op.opcode == 0x0385

/-- The decision on a fetched message whose header is good and which no BUSY span answers (R115 checks 7 to 9). DESIGN CHOICE (log 176, 177). -/
def State.verdict (s : State) (n : Fin 8) (op : OpInfo) (r : Req) (goAt : Nat) : State :=
  match s.capKind op r with
  | some kind =>
    (s.violation r.guest (pack [(31, 16, op.opcode), (7, 0, if op.port = .free then 0 else r.portField)])
      (pack [(31, 28, kind), (27, 24, 2), (3, 0, r.guest.1)]) (pack [(28, 16, r.queue), (15, 0, r.tag)])).refuse
      r.guest n Code.refused
  | none =>
    if !s.claimOk op r then s.refuse r.guest n Code.refused
    else if r.cls < op.fastest then s.refuse r.guest n Code.refused
    else if isRelay op && 8 ≤ (s.guest r.target).notices then s.refuse r.guest n Code.busy
    else
      let lat := s.startLatency op r.modemPorts
      match s.admits op r lat with
      | some pk =>
        let t := s.enrol op r pk lat goAt
        if isRelay op then
          (t.modGuest r.target fun x => { x with notices := x.notices + 1 }).modH2d r.guest n
            fun x => { x with full := true, relaying := true }
        else t
      | none =>
        let t := (s.refuse r.guest n Code.refusedLoad).whenB (!s.journalFree op r) (·.ripenFor ((s.recordLen op r).getD 0))
        if (s.admits op r 0).isSome then t.startClocks (op.blocks r.modemPorts) else t

/-- The message that stands in a host-to-device mailbox: its first LEN registers (R85, R86). -/
def State.message (s : State) (g : Guest) (n : Fin 8) : Req :=
  let m := ix (s.guest g).h2d n
  { guest := g, path := m.path, mbx := n, words := m.mbd.toList.take (min 16 ((ix m.mbd 0).fld 15 8)) }

/-- MESSAGE_FETCH: the device reads the message, clears FULL and admits or refuses it (R87, R90, R115). -/
def execMessageFetch (g : Guest) (n : Fin 8) (s : State) : Res :=
  let m := ix (s.guest g).h2d n
  .next (if !m.full || m.slot == .occupied || m.relaying || (s.guest g).rstBusy then s
  else
    let w0 := ix m.mbd 0
    let w1 := ix m.mbd 1
    let s1 := s.modH2d g n fun x => { x with full := false }
    let r := s.message g n
    let t := match s.headerFail g w0 w1, opInfo (w0.fld 31 16) with
      | some reason, _ => s1.refuse g n Code.badHeader (w32 reason)
      | none, none => s1.refuse g n Code.badHeader 4
      | none, some op =>
        if s.swapping || (!s.sys.reached 8 && !s.sys.romRecovery) then s1.refuse g n Code.busy
        else s1.verdict n op r m.goAt
    if (ix (t.guest g).h2d n).full then t else t.irq g (8 + n.1))

/-- The admitted commands of a queue of a guest, in admission order (R97). -/
def State.onQueue (s : State) (g : Guest) (q : Nat) : List Admitted :=
  s.host.admitted.filter fun a => a.req.guest == g && a.req.queue == q

/-- Change the first admitted command that satisfies a test. -/
def updFirst {α : Type} (l : List α) (test : α → Bool) (f : α → α) : List α :=
  match l with
  | [] => []
  | a :: as => if test a then f a :: as else a :: updFirst as test f

/-- Within a class commands are served in admission order: none of a command's class admitted before it still waits (R101). DEDUCED (log 178). -/
def State.itsTurn (s : State) (a : Admitted) : Bool :=
  match s.host.admitted.find? fun b => !b.started && b.req.cls == a.req.cls with
  | some b => b.req.same a.req
  | none => false

/-- COMMAND_START: the next command of a queue starts once it is its class's turn; its blocks run; a claim that has ended gives
REFUSED (R97, R101, R58, R150). -/
def execCommandStart (g : Guest) (q : Nat) (s : State) : Res :=
  .next (match (s.onQueue g q).find? fun a => !a.started with
  | none => s
  | some a =>
    if !s.itsTurn a then s
    else
    let s1 := s.modHost fun h => { h with
      admitted := updFirst h.admitted (fun b => b.req == a.req && !b.started) (fun b => { b with started := true }) }
    match opInfo a.req.opcode with
    | none => s1
    | some op =>
      let s2 := s1.modSys fun y => { y with
        clocks := y.clocks.runAll (op.blocks a.req.modemPorts) }
      if s.claimOk op a.req then s2 else s2.answer a.req Code.refused)

/-- Response length of a request (R114). DEDUCED (log 149). -/
def rspLen (r : Req) : Nat :=
  match opInfo r.opcode with
  | some op => if op.rsp = 0 then r.len else op.rsp
  | none => 8

/-- Count a completion by its margin (R81): codes 0x04 to 0x07. -/
def marginCode (bound used : Nat) : Nat :=
  let m := bound - used
  if bound ≤ 2 * m then 0x04 else if bound ≤ 4 * m then 0x05 else if bound ≤ 10 * m then 0x06 else 0x07

/-- Release an admitted command's cost (R104). -/
def State.releaseCost (s : State) (a : Admitted) : State :=
  let k : Fin 5 := ⟨a.req.cls % 5, by omega⟩
  match a.pool with
  | .own => s.modGuest a.req.guest fun x => { x with own := upd x.own k (· - a.cost) }
  | .pool => s.modHost fun h => { h with pool := upd h.pool k (· - a.cost) }

/-- COMMAND_COMPLETE: the answer of the oldest command of a queue goes to its completion slot; cost and queue
entry are released (R88, R89, R97, R104). DESIGN CHOICE (log 11). -/
def execCommandComplete (g : Guest) (q : Nat) (s : State) : Res :=
  .next (match (s.onQueue g q).head? with
  | none => s
  | some a =>
    match s.host.answers.find? (·.req.same a.req) with
    | none => s
    | some ans =>
      if !a.started then s
      else
        let s1 := (s.modHost fun h => { h with
          admitted := h.admitted.eraseP (· == a),
          answers := h.answers.eraseP (· == ans) }).releaseCost a
        if a.orphan then s1
        else
          let msg : OutMsg := {
            kind := if ans.more then .accepted else .response, path := a.req.path, goAt := a.goAt,
            words := msgWords (a.req.word 0) (a.req.word 1) (rspLen a.req) ans.code ans.words }
          let s2 := if ans.more then s1.modHost fun h => { h with awaiting := h.awaiting ++ [a.req] } else s1
          (s2.modGuest g fun x => { x with store := x.store ++ [msg] }).count g
            (marginCode (classBound a.req.cls) ((s.time.chain - a.admittedAt) / 1000)) 1)

/-- The final outcomes of a guest's commands that a reset has orphaned are discarded (R76 step 4). -/
def HostSt.dropFinals (h : HostSt) (g : Guest) : HostSt :=
  { h with finals := h.finals.filter fun ans => ans.req.guest != g || h.awaiting.any ans.req.same ||
      h.admitted.any fun a => a.req.same ans.req && !a.orphan }

/-- FINAL_NOTICE: the final outcome of an accepted command is written with CLASS 7 (R118). DESIGN CHOICE (log 11). DEDUCED (log 149). -/
def execFinalNotice (g : Guest) (s : State) : Res :=
  .next (match s.host.finals.find? fun ans => ans.req.guest == g && s.host.awaiting.any ans.req.same with
  | none => s.modHost fun h => h.dropFinals g
  | some ans =>
    let w1 := pack [(31, 19, ans.req.queue), (18, 16, 7), (15, 0, ans.req.tag)]
    let msg : OutMsg := {
      kind := .final, path := ans.req.path,
      words := msgWords (ans.req.word 0) w1 (max 8 (min 16 (ans.words.length + 2))) ans.code ans.words }
    (s.modHost fun h => { h with
      finals := h.finals.eraseP (· == ans), awaiting := h.awaiting.eraseP ans.req.same }).modGuest g
      fun x => { x with store := x.store ++ [msg] })

/-- RESPONSE_TO_MAILBOX: the oldest stored message of a path moves into the lowest free mailbox of that path, and
DMB_FULL becomes pending (R84, R88). -/
def execResponseToMailbox (path : Path) (g : Guest) (s : State) : Res :=
  let x := s.guest g
  .next (match x.store.find? (·.path == path),
      (idx 8).find? fun n => s.mbxPath g n == path && (ix x.d2h n).msg.isNone with
  | some m, some n =>
    let s1 := (s.modGuest g fun y => { y with store := y.store.eraseP (· == m) }).modD2h g n
      fun _ => { msg := some m }
    let s2 := match m.kind with
      | .response | .accepted | .refusal _ =>
        (s1.count g 0x08 1).count g 0x09 ((s.time.chain - m.goAt) / 1000)
      | .aborted => s1.count g 0x0A 1
      | _ => s1
    s2.irq g n.1
  | _, _ => s)

/-- What the reading of a message's last register frees (R88, R90, R92). -/
def State.freeBy (s : State) (g : Guest) : MsgKind → State
  | .response => s.modGuest g fun x => { x with credits := x.credits - 1 }
  | .accepted => s
  | .final => s.modGuest g fun x => { x with credits := x.credits - 1 }
  | .refusal n => s.modH2d g n fun x => { x with slot := .free }
  | .relay src n _ =>
    ((s.modGuest g fun x => { x with notices := x.notices - 1 }).modH2d src n
      fun x => { x with full := false, relaying := false }).irq src (8 + n.1)
  | .aborted => s.modGuest g fun x => { x with notices := x.notices - 1 }

end Sys2Proof.Machine
end

