-- ==== Sys2Proof/Machine/Nfc.lean ====
section
/-! DEFINITION. The contactless reader and the dead-post tag (spec 21 R552 to R564, R574 to R578). -/

namespace Sys2Proof.Machine

def State.nfcRaise (s : State) (bits : Word) : State := s.modNfc fun n => { n with ev := raiseAll n.ev bits }
def State.modTag (s : State) (f : Tag → Tag) : State := s.modNfc fun n => { n with tag := f n.tag }
def State.tag (s : State) : Tag := s.nfc.tag

/-- Back to OPEN. -/
def Tag.open_ (t : Tag) : Tag := { t with selected := false, secured := false, challenge := none }

/-! ### Reader (R552 to R555) -/

/-- The field was gone for less than 10 ms, by Rind's counter, which runs in Dormant as well: the tag keeps its UID (R558). DEDUCED (log 230). -/
def State.shortGap (s : State) : Bool := s.tag.lostAt.any fun t => decide (t ≤ s.rind.rtcUs ∧ s.rind.rtcUs < t + 10000)

/-- The tag takes power from an external field: a new UID, 0x08 and three random bytes, after at least 10 ms without one (R557,
R558). -/
def State.tagPower (s : State) : State :=
  if !s.cfg.nfc.tag then s
  else if s.shortGap then s.modTag fun t => { t.open_ with phase := .idle }
  else
    let uid : List Byte := [0x08, Config.freeByte s.free, Config.freeByte (s.free + 1), Config.freeByte (s.free + 2)]
    (s.modFree (· + 3)).modTag fun t => { t.open_ with phase := .idle, uid }

/-- The card held leaves: REMOVED, and the field goes off; the tag answers an external field that is present (R552). -/
def State.dropCard (s : State) : State :=
  if s.nfc.card.isSome then
    let t := (s.modNfc fun n => { n with card := none }).nfcRaise 2
    if t.nfc.ext then t.tagPower else t
  else s

/-- The hold ends by release: the card is not reported again until it has been absent for 1 s (R555). -/
def State.releaseHeld (s : State) : State :=
  match s.nfc.card with
  | some k => (s.modNfc fun n => { n with released := some (k.uid, s.time.legalUs) }).dropCard
  | none => s

/-- NFC_POLL, while Service runs: the field found while listening, and the cards that answer: Type A first, Type B where no Type A did. DESIGN CHOICE (log 107). -/
def execNfcPoll (ext : Bool) (cards : List CardInfo) (s : State) : Res :=
  let a := cards.filter (! ·.typeB)
  let found := if a.isEmpty then cards else a
  .next (if !s.cfg.nfc.reader || s.nfc.card.isSome || s.sys.power != .run || !s.sys.reached 7 || s.sys.romRecovery then s
  else if ext then
    (s.modNfc fun n => { n with paused := true, seen := true }).nfcRaise 0x40
  else
    let t := s.modNfc fun n => { n with paused := false, seen := false, multiple := 2 ≤ found.length }
    match found with
    | [] => t
    | [k] =>
      match s.nfc.released with
      | some (uid, at_) =>
        if uid = k.uid && s.time.legalUs < at_ + 1000000 then t.modNfc fun n => { n with released := some (uid, s.time.legalUs) }
        else (t.modNfc fun n => { n with card := some k, released := none }).nfcRaise 1
      | none => (t.modNfc fun n => { n with card := some k }).nfcRaise 1
    | _ => t.nfcRaise 4)

def execNfcPresenceCheck (present : Bool) (s : State) : Res := .next (if present then s else s.dropCard)

/-- NFC_HOLD_TIMEOUT: 30 s without TRANSCEIVE_APDU. -/
def execNfcHoldTimeout (s : State) : Res := .next s.releaseHeld

/-- DEDUCED (log 115). -/
def State.readerOwner (s : State) (r : Req) : Bool := r.guest == s.cfg.nfc.owner

/-- TRANSCEIVE_APDU: one APDU with the held part 4 card. DESIGN CHOICE (log 107). -/
def execTransceiveApdu (r : Req) (x : CardAnswer) (s : State) : Res :=
  let ring := r.fld 3 2 0
  let q := s.withRing r ring
  .next (if !s.readerOwner r then s.answer r Code.refused
  else if !((s.nfc.card.map (·.isoDep)).getD false) then s.answer r Code.wrongState
  else if !q.ringOk || q.ringIn.length < 4 then s.endRing q ring Code.shortBuffer
  else
    let t := s.emit (.apdu q.ringIn)
    match x with
    | .answer b => t.answerRing r ring b [w32 b.length]
    | .silent => t.endRing q ring Code.timeout
    | .error => t.endRing q ring Code.fault)

def execReleaseCard (r : Req) (s : State) : Res :=
  .next (if !s.readerOwner r then s.answer r Code.refused
  else if s.nfc.card.isNone then s.answer r Code.wrongState
  else s.releaseHeld.answer r Code.done)

/-! ### Tag (R557 to R561, R563) -/

/-- The tag is in an activation. -/
def Tag.serving (t : Tag) : Bool := t.phase == .proto

/-- TAG_FIELD_ON: a new UID, 0x08 and three random bytes; a field at NFC is a wake event (R44, R558). The device's own field
is never answered (R552). -/
def execTagFieldOn (s : State) : Res :=
  let s1 := s.modNfc fun n => { n with ext := true, seen := true }
  .next (if s.nfc.card.isSome then s1
  else
    s1.tagPower.wakeEvent 1)

/-- TAG_FIELD_LOST. -/
def execTagFieldLost (s : State) : Res :=
  .next ((s.modNfc fun n => { n with ext := false, seen := false }).modTag fun t => { t.open_ with
    phase := .off, lostAt := if t.phase = .off then t.lostAt else some s.rind.rtcUs })

/-- REQA and the frames that follow it: ATQA 0x0004, the UID with SAK 0x20, the answer to select. A halted tag answers WUPA
alone. DESIGN CHOICE (log 113). -/
def execReqa (f : TagFrame) (s : State) : Res :=
  let t := s.tag
  let go (ph : TagPhase) (b : List Byte) : State := (s.modTag fun x => { x.open_ with phase := ph }).emit (.tagFrame b)
  .next (match f, t.phase with
  | .reqa, .idle => go .ready [0x04, 0x00]
  | .wupa, .idle => go .ready [0x04, 0x00]
  | .wupa, .halt => go .ready [0x04, 0x00]
  | .select, .ready => go .active (t.uid ++ [0x20])
  | .rats, .active => go .proto Config.tagAts
  | .hlta, .active => s.modTag fun x => { x.open_ with phase := .halt }
  | .reqa, .ready => s.modTag fun x => { x with phase := .idle }
  | .wupa, .ready => s.modTag fun x => { x with phase := .idle }
  | .rats, .ready => s.modTag fun x => { x with phase := .idle }
  | .hlta, .ready => s.modTag fun x => { x with phase := .idle }
  | .reqa, .active => s.modTag fun x => { x with phase := .idle }
  | .wupa, .active => s.modTag fun x => { x with phase := .idle }
  | .select, .active => s.modTag fun x => { x with phase := .idle }
  | _, _ => s)

/-- Answer an APDU. -/
def State.tagSays (s : State) (b : List Byte) : State := s.emit (.tagAnswer b)

/-- An APDU that needs SELECT first, else 69 85 (R559). -/
def State.selected (s : State) (f : State → State) : State :=
  if !s.tag.serving then s else if !s.tag.selected then s.tagSays [0x69, 0x85] else f s

def tagAid : List Byte := [0xF0, 0x43, 0x52, 0x41, 0x52, 0x55, 0x53, 0x01]

/-- SELECT. Another identifier selects nothing; the status words for it are not stated and are free. DESIGN CHOICE (log 108). -/
def execSelect (aid : List Byte) (s : State) : Res :=
  .next (if !s.tag.serving then s
  else if aid = tagAid then (s.modTag fun t => { t with selected := true }).tagSays [0x90, 0x00]
  else (s.modFree (· + 2)).tagSays [Config.freeByte s.free, Config.freeByte (s.free + 1)])

/-- READ_PAGE: page 0 in either state, page 1 in SECURED, wholly from the newest copy. DEDUCED (log 109). -/
def execReadPage (page : Nat) (s : State) : Res :=
  let t := s.tag
  .next (s.selected fun s =>
    if page = 0 then (s.tagSays (ix t.page0 t.newest ++ [0x90, 0x00])).nfcRaise 8
    else if page = 1 then
      if t.secured then
        ((s.modTag fun x => { x with reads := satInc 0xFFFF x.reads }).tagSays (ix t.page1 t.newest ++ [0x90, 0x00])).nfcRaise 8
      else s.tagSays [0x69, 0x82]
    else s.tagSays [0x6A, 0x83])

/-- The salted digest of a password (R560). -/
def pwHash (salt pw : List Byte) : Nat := Config.sha384 (salt ++ pw)

/-- VERIFY: five consecutive wrong passwords lock it (R559, R560). -/
def execVerify (pw : List Byte) (s : State) : Res :=
  let t := s.tag
  .next (s.selected fun s =>
    match t.pwDigest with
    | none => s.tagSays [0x69, 0x84]
    | some d =>
      if t.locked then s.tagSays [0x69, 0x83]
      else if pwHash t.salt pw = d then
        ((s.modTag fun x => { x with fails := 0, secured := true }).tagSays [0x90, 0x00]).nfcRaise 0x10
      else
        let n := t.fails + 1
        let s1 := (s.modTag fun x => { x with fails := min 5 n, locked := 5 ≤ n }).tagSays [0x63, BitVec.ofNat 8 (0xC0 + (5 - n))]
        if 5 ≤ n then s1.nfcRaise 0x20 else s1)

/-- GET_CHALLENGE: 16 random bytes. -/
def execGetChallenge (s : State) : Res :=
  let rnd := (List.range 16).map fun i => Config.freeByte (s.free + i)
  .next (s.selected fun s =>
    ((s.modFree (· + 16)).modTag fun t => { t with challenge := some rnd }).tagSays (rnd ++ [0x90, 0x00]))

/-- Rotate left by one byte (R561). -/
def rotl1 : List Byte → List Byte
  | [] => []
  | b :: bs => bs ++ [b]

/-- MUTUAL_AUTH: the challenge serves one attempt (R561). -/
def execMutualAuth (data : List Byte) (s : State) : Res :=
  let t := s.tag
  .next (s.selected fun s =>
    match t.key, t.challenge with
    | none, _ => s.tagSays [0x69, 0x84]
    | some _, none => s.tagSays [0x69, 0x85]
    | some k, some rnd =>
      let s1 := s.modTag fun x => { x with challenge := none }
      let plain := Config.aesCbcDec k data
      if data.length = 32 && plain.drop 16 = rotl1 rnd then
        ((s1.modTag fun x => { x with secured := true }).tagSays (Config.aesCbc k (rotl1 (plain.take 16)) ++ [0x90, 0x00])).nfcRaise 0x10
      else s1.tagSays [0x63, 0x00])

/-- DESELECT: back to OPEN, and halted under ISO/IEC 14443-4. -/
def execDeselect (s : State) : Res :=
  .next (if s.tag.serving then s.modTag fun t => { t.open_ with phase := .halt } else s)

/-- SET_TAG_PUBLIC: the text is written into both copies of page 0. -/
def execSetTagPublic (r : Req) (s : State) : Res :=
  let text := r.bytes 3 48
  let put (l : List Byte) : List Byte := l.take 8 ++ text ++ l.drop 56
  .next (if !r.fromSystem then s.answer r Code.refused
  else (s.modTag fun t => { t with text, page0 := vmap put t.page0 }).answer r Code.done)

/-- SET_TAG_SECRETS: the password digest, and K from its key blob into slot 4 and the tag island (R578). -/
def execSetTagSecrets (r : Req) (s : State) : Res :=
  let setPw := r.bit 3 0
  let setKey := r.bit 3 1
  let pwLen := r.fld 3 12 8
  let a := oneBit 20
  let b := pack [(3, 0, 5), (5, 4, 2), (8, 6, 7), (12, 12, 1), (16, 15, 3), (19, 19, 1)]
  let ring := r.fld 3 26 24
  let q := s.withRing r ring
  let s0 := if setKey then s.useRing q ring Code.done else s
  let key : Option Nat := match s.slotFor r.guest (r.fld 3 23 16) (some 3) with
    | .ok w => blobKey w.key (s.blobAad a b) q.ringIn
    | .error _ => none
  .next (if !r.fromSystem then s.answer r Code.refused
  else if !s.inService then s.answer r Code.wrongState
  else if setPw && !inRange 6 16 pwLen then s.answer r Code.outOfRange
  else if setKey && !q.ringOk then s.endRing q ring Code.shortBuffer
  else if setKey && (key.isNone || r.fld 3 23 16 == 0xFF) then s.answer r Code.refused
  else
    let salt := (List.range 16).map fun i => Config.freeByte (s.free + i)
    let s1 := if setPw then (s0.modFree (· + 16)).modTag fun t => { t with salt, pwDigest := some (pwHash salt (r.bytes 4 pwLen)) } else s0
    let s2 := match setKey, key with
      | true, some k => (s1.putSlot 4 { attrA := a, attrB := b, key := k }).modTag fun t => { t with key := some k }
      | _, _ => s1
    s2.answer r Code.done)

def execResetTagLock (r : Req) (s : State) : Res :=
  .next (if !r.fromSystem then s.answer r Code.refused
  else if !s.tag.locked then s.answer r Code.wrongState
  else (s.modTag fun t => { t with locked := false, fails := 0 }).answer r Code.done)

/-! ### Registers (R574) -/

def NfcCfg.word (c : NfcCfg) : Word :=
  pack [(0, 0, b1 c.reader), (1, 1, b1 c.tag), (2, 2, b1 c.eh), (11, 8, c.owner.1), (25, 16, c.pollMs)]

def State.nfcBlock (s : State) (g : Guest) : List Word :=
  let n := s.nfc
  let c := s.cfg.nfc
  let t := n.tag
  let reader := if !c.reader then 0 else if n.card.isSome then 2 else if n.paused then 3 else 1
  let kind := match n.card with
    | some k => if k.typeB then 2 else 1
    | none => 0
  let uid := padTo 12 ((n.card.map (·.uid)).getD [])
  [ pack [(31, 28, reader), (27, 26, kind), (25, 25, b1 ((n.card.map (·.isoDep)).getD false)), (24, 24, b1 n.multiple),
      (23, 20, c.owner.1), (19, 19, b1 n.seen), (18, 18, b1 t.serving), (17, 17, b1 t.secured), (16, 16, b1 (c.eh && t.phase != .off)),
      (15, 12, ((n.card.map (·.uid.length)).getD 0)), (11, 8, t.fails), (7, 7, b1 t.locked), (6, 6, b1 t.key.isSome),
      (5, 5, b1 t.pwDigest.isSome)] ] ++ bytesToWords uid ++
  [ pack [(15, 0, (n.card.map (·.atqa)).getD 0), (23, 16, (n.card.map (·.sak)).getD 0)],
    pack [(15, 0, t.seq), (31, 16, t.reads)], c.word, ix n.ev g ]

def execGetNfcStatus (r : Req) (s : State) : Res := .next (s.answer r Code.done (s.nfcBlock r.guest))

end Sys2Proof.Machine
end

