-- ==== Sys2Proof/Machine/SafeOps.lean ====
section
/-! DEFINITION. What Safety does: its messages and log, trips and latches, contactors, windows, brakes, the trip matrix and
the site's faults (spec 13 R335 to R360, 14 R374 to R384). -/

namespace Sys2Proof.Machine

/-! ### Events, messages and the trip log -/

def State.safRaise (s : State) (bits : Word) : State :=
  (s.modSaf fun x => { x with ev := raiseAll x.ev bits }).pendAll irqSafety s.saf.ev bits
def State.brkRaise (s : State) (bits : Word) : State :=
  (s.modSaf fun x => { x with brkEv := raiseAll x.brkEv bits }).pendAll irqSafety s.saf.brkEv bits
def State.sevRaise (s : State) (p : Port) (bits : Word) : State :=
  (s.modSp p fun x => { x with ev := raiseAll x.ev bits }).pendPort p (s.spAt p).ev bits
def State.imdRaise (s : State) (p : Port) (bits : Word) : State :=
  (s.modSp p fun x => { x with imdEv := raiseAll x.imdEv bits }).pendPort p (s.spAt p).imdEv bits

/-- A message's 32 bytes: type, port, sequence number, 24 bytes of payload and their CRC-32 (R349). -/
def SafMsg.bytes (m : SafMsg) : List Byte :=
  let b := leBytes 1 m.type ++ leBytes 1 m.port ++ leBytes 2 m.seq ++ padTo 24 (wordsToBytes m.ws)
  b ++ leBytes 4 (crc32 b)

/-- A message that repeats in the channel: status of a port or the site that a newer message brings again, unchanged where a
change of state is what it tells (R108, R349). -/
def SafMsg.repeated (m : SafMsg) (newer : List SafMsg) : Bool :=
  [0x81, 0x82, 0x84, 0x85].contains m.type && newer.any fun x => x.type == m.type && x.port == m.port && (0x84 ≤ m.type || x.ws == m.ws)

/-- A channel without its oldest repeated status message, none where it holds none. -/
def dropRepeated : List SafMsg → Option (List SafMsg)
  | [] => none
  | m :: l => if m.repeated l then some l else (dropRepeated l).map (m :: ·)

/-- Put a message into the channel: Safety waits for nothing, and a channel that is full loses its oldest repeated status message
(R108). DESIGN CHOICE (log 184). -/
def Saf.put (x : Saf) (m : SafMsg) : Saf :=
  let l := x.chan ++ [m]
  if l.length ≤ Config.safetyChannel then { x with chan := l }
  else match dropRepeated l with
    | some k => { x with chan := k, dropped := x.dropped + 1 }
    | none => { x with chan := l }

/-- Service reads the channel from Safety: it runs, and the unit is not in Doze (R35, R108). -/
def State.serviceReads (s : State) : Bool := s.sys.power == .run && s.sys.reached 8

/-- Send a message to Service (R349). -/
def State.safeSend (s : State) (type port : Nat) (ws : List Word) : State :=
  let m : SafMsg := { type, port, seq := s.saf.txSeq, ws }
  let t := s.modSaf fun x => { x with txSeq := (x.txSeq + 1) % 2 ^ 16 }
  if s.serviceReads then t.emit (.safeMsg m.bytes) else t.modSaf (·.put m)

/-- Service sends Safety a message (R349). DEDUCED (log 195). -/
def State.askSafety (s : State) (type port : Nat) (ws : List Word := []) : State :=
  let m : SafMsg := { type, port, seq := s.sys.svcSeq, ws }
  (s.modSys fun y => { y with
    svcSeq := (y.svcSeq + 1) % 2 ^ 16, svcAsked := lastN 64 (y.svcAsked ++ [(type, port, y.svcSeq)]) }).emit (.svcMsg m.bytes)

/-- Service takes what waits in the channel, oldest first. -/
def State.readSafety (s : State) : State :=
  (s.modSent fun l => l ++ s.saf.chan.map fun m => .safeMsg m.bytes).modSaf fun x => { x with chan := [] }

/-- The 16 bytes of a trip log entry (R360). -/
def TripEntry.bytes (e : TripEntry) : List Byte :=
  padTo 16 (leBytes 4 e.seq ++ leBytes 6 e.time ++ leBytes 1 e.kind ++ leBytes 1 e.source ++ leBytes 1 e.ports ++
    leBytes 1 e.outs ++ leBytes 1 e.detail)

/-- Write a trip log entry: the newest 256 are kept and each is sent as LOG_ENTRY (R360). -/
def State.tripLog (s : State) (kind source : Nat) (ports outs : Nat := 0) : State :=
  let e : TripEntry := { seq := s.saf.logSeq + 1, time := s.time.safetyUs % 2 ^ 48, kind, source, ports, outs }
  (s.modSaf fun x => { x with logSeq := x.logSeq + 1, log := (e :: x.log).take 256 }).safeSend 0x86 0xFF
    (bytesToWords e.bytes)

def portMask (p : Port) : Nat := 2 ^ p.1

/-! ### A port's readings -/

def SafPort.coil (x : SafPort) : Bool := ix x.coils 0 || ix x.coils 1

/-- The main contacts of contactor k are closed by its auxiliary contact under AUX_POL (R357). -/
def State.mainClosed (s : State) (p : Port) (k : Fin 2) : Bool :=
  ix (s.spAt p).sense.aux k == ((s.portRec p).auxPol / 2 ^ k.1 % 2 == 1)
def State.auxOpen (s : State) (p : Port) : Bool := !s.mainClosed p 0 && !s.mainClosed p 1

/-- The safety current in mA, none while the main head's link is not RUN (R339). -/
def State.safeCurrent (s : State) (p : Port) : Option Int :=
  if (s.slAt (linkOf p 1)).state == .run then (s.spAt p).current else none

/-- A value with an error of at most 1 % of it and 5 A (R339). DESIGN CHOICE (log 221). -/
def withError (i e : Int) : Int := let b := ((i.natAbs / 100 + 5000 : Nat) : Int); i + max (-b) (min b e)

/-- Once per 1 ms the mean of the high path's bits, 5 000 A at full scale, becomes the safety current (R339). DESIGN CHOICE (log 221). -/
def State.refreshCurrent (s : State) (p : Port) : State :=
  s.modSp p fun x =>
    if s.time.safetyUs < x.curAt + 1000 then x
    else
      let mean : Int := quot (5000000 * x.curSum) x.curN
      { x with
        current := if x.curN = 0 then none else some (withError mean (Config.safetyError mean))
        curSum := 0, curN := 0, curAt := s.time.safetyUs }

/-- The port's contactors are moving or closed. -/
def PortState.active : PortState → Bool
  | .closing | .closed | .opening => true
  | _ => false

/-- The drive is off and the opening confirmed. -/
def State.openOk (s : State) (p : Port) : Bool := (s.spAt p).confirmed && !(s.spAt p).coil

/-- The weld check's conditions hold now: coil currents below 5 mA and both contacts open (R378). -/
def State.weldOk (s : State) (p : Port) : Bool :=
  s.auxOpen p && ix (s.spAt p).sense.coil 0 < 5 && ix (s.spAt p).sense.coil 1 < 5

/-- The unlock direction of LKp is blocked (R380). -/
def State.unlockBlocked (s : State) (p : Port) : Bool :=
  match (s.spAt p).state with
  | .closing | .closed | .opening | .contactorFault => true
  | .tripped => !s.openOk p
  | .open_ | .blocked => false

/-! ### The rows of the trip matrix (R344, R347, R358) -/

/-- The partner of a paired input. -/
def State.partner (s : State) (k : Fin 16) : Option (Fin 16) :=
  let r := s.inRec k
  if r.type != 0 && r.pair < 16 then some (inputIdx r.pair) else none
/-- The inputs of a pair, or the one input. -/
def State.inputsOf (s : State) (k : Fin 16) : List (Fin 16) := k :: (s.partner k).toList
/-- An input or pair is low; has a fault; is in demand (R344). DEDUCED (log 133). -/
def State.inLow (s : State) (k : Fin 16) : Bool := (s.inputsOf k).any fun j => !(ix s.saf.inputs j).level
def State.inFault (s : State) (k : Fin 16) : Bool := (s.inputsOf k).any fun j => (ix s.saf.inputs j).fault
def State.demand (s : State) (k : Fin 16) : Bool := s.inLow k || s.inFault k

/-- DEGRADED or worse (R358). -/
def SiteState.worse : SiteState → Bool
  | .degraded | .safeStop | .restarting | .safeHalt | .tableFail => true
  | .init | .run => false

/-- An input fault whose own cause is there, or which clears with its cause: not a MANUAL one that waits for a reset alone (R347). -/
def State.faultCause (s : State) (k : Fin 16) : Bool :=
  (s.inputsOf k).any fun j => (ix s.saf.inputs j).fault && (!(s.inRec j).manual || (ix s.saf.inputs j).okSince.isNone)

/-- The source of a row is in demand; the cause of its latch is there: a fault that only waits for the same reset is none. DEDUCED (log 118). -/
def State.rowSource (s : State) (r : RowRec) : Bool :=
  match r.source with
  | 1 => s.saf.wires && s.demand (inputIdx r.index)
  | 2 => s.saf.state.worse
  | 3 => s.saf.serviceLost
  | _ => false
def State.rowCauseNow (s : State) (r : RowRec) : Bool :=
  match r.source with
  | 1 => s.saf.wires && (s.inLow (inputIdx r.index) || s.faultCause (inputIdx r.index))
  | _ => s.rowSource r

def State.rowActive (s : State) (n : Fin 64) : Bool := s.rowSource (ix s.table.rows n)
/-- A row is active or latched. -/
def State.rowHeld (s : State) (n : Fin 64) : Bool :=
  (ix s.table.rows n).source != 0 && (s.rowActive n || (ix s.saf.rows n).latched)
def State.heldRows (s : State) : List (Fin 64) := (idx 64).filter s.rowHeld

/-- TRIPPED of SAF_SITE_STAT. -/
def State.siteTripped (s : State) : Bool := s.heldRows.any fun n => (ix s.table.rows n).source == 1

/-! ### Close guards (R352, R370) -/

/-- The preconditions of R370. -/
def State.preconditions (s : State) (p : Port) : Bool :=
  let x := s.spAt p
  let r := s.portRec p
  x.peOk && (r.lockVerify == 0 || x.lockVerified) && (r.connType == 0 || (x.pass && !x.has 1 && !x.insFail)) &&
    (r.rcmMode == 0 || (!x.sense.rcmFault && x.sense.rcmDc < 30 && x.sense.rcmAc < 150)) && s.auxOpen p &&
    !ix x.coilFault 0 && !ix x.coilFault 1

/-- BLOCKERS of GET_PORT_SAFETY (R366). -/
def State.blockers (s : State) (p : Port) : Nat :=
  let x := s.spAt p
  flagWord [s.saf.state != .run,
    x.state == .tripped || x.causes - x.causes / 32 % 2 * 32 != 0 ||
      s.heldRows.any fun n => ((ix s.table.rows n).ports / 2 ^ p.1) % 2 == 1,
    x.state == .contactorFault, x.state == .blocked, !s.preconditions p]

/-- PERMIT: a close request would now be granted (R352, R364). -/
def State.permit (s : State) (p : Port) : Bool :=
  (s.spAt p).state == .open_ && s.blockers p == 0 && (s.spAt p).test.isNone && (s.spAt p).pre.isNone &&
    !((s.brakeOf p).map fun b => (s.brkAt b).phase.isSome).getD false

/-! ### Registers of a port (R364) -/

def State.safPortStat (s : State) (p : Port) : Word :=
  let x := s.spAt p
  pack [(23, 16, x.last), (15, 8, (s.portRec p).tDeg / 10), (7, 7, b1 x.mismatch), (6, 6, b1 x.forcedOpen),
    (5, 5, b1 x.window.isSome), (4, 4, b1 (s.permit p)), (3, 0, x.state.code)]

/-! ### Bus groups (R374) -/

/-- The bus group of a port, none for a bus of its own. -/
def State.groupOf (s : State) (p : Port) : Option (Fin 8) :=
  let r := s.portRec p
  if r.isDc && r.group < 8 then some ⟨r.group % 8, by omega⟩ else none
def State.members (s : State) (g : Fin 8) : List Port := (idx 8).filter fun p => s.groupOf p == some g
/-- A port whose contactors join it to its bus. -/
def State.joined (s : State) (p : Port) : Bool :=
  (s.spAt p).state == .closed || (s.spAt p).state == .closing || (!(s.spAt p).confirmed)
def State.closedOf (s : State) (g : Fin 8) : List Port := (s.members g).filter s.joined

/-- The ports of the measured network that a port belongs to: its group's joined ports, or itself. DEDUCED (log 128). -/
def State.network (s : State) (p : Port) : List Port :=
  match s.groupOf p with
  | some g => if s.joined p then s.closedOf g else [p]
  | none => [p]

/-- The network changed: the half-period in progress of the port and of the ports joined to its bus is contaminated (R372), and the slot passes to the lowest closed
port where its holder is no longer closed (R374). -/
def State.busChanged (s : State) (p : Port) : State :=
  match s.groupOf p with
  | none => s.modSp p fun x => { x with contaminated := true }
  | some g =>
    let t := ((s.members g).filter fun q => q == p || s.joined q).foldl (fun u q => u.modSp q fun x => { x with contaminated := true }) s
    let closed := t.closedOf g
    match ix t.saf.injector g with
    | some i => if closed.contains i then t else
        t.modSaf fun x => { x with injector := upd x.injector g fun _ => closed.head?, slotAt := upd x.slotAt g fun _ => t.time.safetyUs }
    | none => t.modSaf fun x => { x with injector := upd x.injector g fun _ => closed.head?, slotAt := upd x.slotAt g fun _ => t.time.safetyUs }

/-! ### Port state (R352) -/

/-- SAF_PORT_STAT, SAF_PORT_I and SAF_PORT_TRIP as PORT_STATE carries them (R349). -/
def State.portMsg (s : State) (p : Port) : State :=
  (s.modSp p fun x => { x with shown := (s.safPortStat p, x.causes) }).safeSend 0x82 p.1 [s.safPortStat p, wInt ((s.safeCurrent p).getD (-8388608)), w32 (s.spAt p).causes]

def State.setPort (s : State) (p : Port) (x : PortState) : State :=
  if (s.spAt p).state = x then s else ((s.modSp p fun y => { y with state := x }).irqSafe p).portMsg p

/-- Turn both coil drives of a port off: the weld check and its 500 ms begin, a window ends (R353, R378). -/
def State.coilsOff (s : State) (p : Port) : State :=
  if !(s.spAt p).coil then s
  else (s.modSp p fun x => { x with
    coils := Vector.replicate 2 false, confirmed := false, offAt := s.time.safetyUs, window := none, forcedOpen := false
    proofSeen := false, imdOk := none }).busChanged p

/-- TRIPPED is left once no cause is latched and the opening is confirmed (R352). -/
def State.settle (s : State) (p : Port) : State :=
  let x := s.spAt p
  if x.state = .tripped ∧ x.causes = 0 ∧ s.openOk p then s.setPort p .open_ else s

/-- Clear a latched cause. A contactor fault clears only by restart (R347). -/
def State.clearCause (s : State) (p : Port) (bit : Nat) : State :=
  if bit = 5 ∨ !(s.spAt p).has bit then s
  else ((((s.modSp p fun x => { x with causes := x.causes - 2 ^ bit }).sevRaise p 8).tripLog 2 bit (portMask p)).portMsg p).settle p

/-! ### Tests that end early (R384) -/

/-- The final outcome of a test's command. -/
def State.testNotice (s : State) (r : Option Req) (code measured : Nat) : State := s.finalOpt r code [w32 measured]

/-- A test of R383 ended on a port: 1 pass, 2 fail, 3 aborted. SELFTEST_DONE in both event registers, and what it makes
of the port's availability (R175, R177, R385). -/
def State.testEnded (s : State) (p : Port) (code result : Nat) : State :=
  (((s.modSp p fun x => { x with lastTest := code, lastResult := result }).imdRaise p 0x100).sesRaise p 0x2000).availPoll p

/-! ### Lock drives (R336, R401) -/

def LkState.driving : LkState → Bool
  | .lock | .unlock => true
  | _ => false

/-- A drive is over after its length in ms. -/
def Lk.over (x : Lk) (now : Nat) (st : LkState) : Lk :=
  { x with state := st, carry := 0, pulse := 0, gate := 0, rest := true, length := min 0xFFFF ((now - x.startAt) / 1000) }

/-- End a drive: the bridge brakes the motor. -/
def State.endDrive (s : State) (p : Port) (f : Lk → Lk) : State :=
  if (s.lkAt p).state.driving then s.modLk p fun x => f (x.over s.time.safetyUs .braking) else s

/-- Apply a brake: it is de-energised and its release request lapses (R381). -/
def State.applyBrake (s : State) (b : Fin 2) : State :=
  if !(s.brkAt b).released && !(s.brkAt b).held then s
  else
    let was := (s.brkAt b).released
    (s.modBrk b fun x => { x with released := false, held := false, passSince := x.passSince && !was }).whenB was
      fun t => t.brkRaise (oneBit (4 * b.1))

/-- Abort the brake test of a brake, uncounted (R384). -/
def State.abortBrake (s : State) (b : Fin 2) : State :=
  match (s.brkAt b).phase with
  | none => s
  | some _ =>
    let t := s.modBrk b fun x => { x with phase := none, cmd := none, thenRelease := false }
    let t2 := t.testNotice (s.brkAt b).cmd Code.cancelled 0
    match s.brakePort b with
    | some p => (t2.testEnded p 4 3).brkRaise (oneBit (4 * b.1 + 2))
    | none => t2

/-- Abort the tests of a port, uncounted: contactors open, brake applied, torque off (R384). -/
def State.abortTests (s : State) (p : Port) : State :=
  let s1 := match (s.spAt p).pre with
    | some _ => s.modSp p fun x => { x with pre := none, lastTest := 1, lastResult := 3 }
    | none => s
  let s2 := match (s1.spAt p).test with
    | some t => (((s1.modSp p fun x => { x with test := none, coils := if t.code = 3 then Vector.replicate 2 false else x.coils }).testNotice
        t.cmd Code.cancelled 0).testEnded p t.code 3)
    | none => s1
  match s.brakeOf p with
  | some b => s2.abortBrake b
  | none => s2

/-! ### Trips, contactor faults and windows (R352 to R354) -/

/-- Trip a port: its coil drive goes off, the cause latches, its brake is applied, its tests abort. The source is the
trip matrix row with its outputs, or the cause. -/
def State.tripPort (s : State) (p : Port) (bit source : Nat) (outs : Nat := 0) : State :=
  let new := !(s.spAt p).has bit
  let s1 := (s.abortTests p).modSp p fun x => { x with causes := if new then x.causes + 2 ^ bit else x.causes, last := bit + 1 }
  let s2 := match (s.spAt p).state with
    | .closing | .closed | .opening => (s1.coilsOff p).setPort p .tripped
    | .open_ => s1.setPort p .tripped
    | .tripped | .contactorFault | .blocked => s1.whenB new fun t => t.portMsg p
  let s3 := match s.brakeOf p with
    | some b => s2.applyBrake b
    | none => s2
  if new then ((s3.sevRaise p 4).tripLog 1 source (portMask p) outs).safeSend 0x83 p.1 [w32 (portMask p), w32 bit, w32 source]
  else s3

/-- Latch a contactor fault: both coil drives off (R165, R166, R379). DEDUCED (log 119). -/
def State.contactorFault (s : State) (p : Port) : State :=
  if (s.spAt p).state = .contactorFault then s
  else
    let s1 := ((s.abortTests p).coilsOff p).modSp p fun x => { x with
      causes := if x.has 5 then x.causes else x.causes + 32, last := 6 }
    let s2 := match s.brakeOf p with
      | some b => s1.applyBrake b
      | none => s1
    ((s2.setPort p .contactorFault).sevRaise p 0x20).tripLog 8 5 (portMask p)

/-- A weld test fails at a contactor for a reason: 1 auxiliary, 2 coil current, 3 other auxiliary moved. -/
def State.failWeld (s : State) (p : Port) (t : PortTest) (reason : Nat) : State :=
  let s1 := s.modSp p fun x => { x with test := none, weldFail := true, coils := Vector.replicate 2 false }
  ((s1.testNotice t.cmd Code.fault (t.weldK.1 + 1 + 16 * reason)).testEnded p 3 2).contactorFault p

/-- The coil drive goes off without a trip: an open request, a window's end, a fault of the driver. -/
def State.openPort (s : State) (p : Port) : State :=
  match (s.spAt p).state with
  | .closing | .closed => (s.coilsOff p).setPort p .opening
  | _ => s

/-- Start a port's window, or turn a closing port off at once (R350, R351, R353). -/
def State.startWindow (s : State) (p : Port) : State :=
  match (s.spAt p).state, (s.spAt p).window with
  | .closing, _ => s.openPort p
  | .closed, none =>
    match s.safeCurrent p with
    | some i => if i.natAbs < 10000 then s.openPort p else (s.modSp p fun x => { x with window := some (some i) }).portMsg p
    | none => (s.modSp p fun x => { x with window := some none }).portMsg p
  | _, _ => s

/-! ### The trip matrix (R344, R347, R358) -/

/-- A test source is low now: 200 µs every 50 ms, source k at 6.25 k ms into the period (R345). -/
def State.testPulse (s : State) (k : Fin 8) : Bool := let t := s.time.safetyUs % 50000; 6250 * k.1 ≤ t && t < 6250 * k.1 + 200

/-- SAFE_OUTs commanded on, none without VAUX (R345, R348, R358, R592): TORQUE_OUT only while a brake test energises it (R382). DEDUCED (log 132). -/
def State.outsWanted (s : State) : Nat :=
  let named (k : Fin 8) := s.heldRows.any fun n => ((ix s.table.rows n).outs / 2 ^ k.1) % 2 == 1
  let torque (k : Fin 8) := (idx 2).any fun b => (s.brkRec b).enable && (s.brkRec b).torqueOut == k.1
  let torqueOn (k : Fin 8) := (idx 2).any fun b => (s.brkRec b).enable && (s.brkRec b).torqueOut == k.1 &&
    ((s.brkAt b).phase == some .torque || (s.brkAt b).phase == some .supervise)
  let on (k : Fin 8) : Bool :=
    s.saf.enable && s.saf.wires && !s.ls.uv && !((s.saf.outFault / 2 ^ k.1) % 2 == 1) &&
    match (ix s.table.outputs k).type with
    | 1 => !named k && (!torque k || torqueOn k)
    | 2 => !s.testPulse k
    | 3 => !named k && (s.saf.requests / 2 ^ k.1) % 2 == 1
    | _ => false
  match s.saf.state with
  | .safeHalt | .tableFail => 0
  | _ => flagWord ((idx 8).map on)

def State.writeOuts (s : State) : State := s.modSaf fun x => { x with outs := s.outsWanted }

/-- The causes that rows put on a port, each with its lowest row (R358, R364): 0 site row, 6 degraded, 7 Service loss,
8 input fault. -/
def State.rowCause (s : State) (p : Port) (bit : Nat) : Option (Fin 64) :=
  s.heldRows.find? fun n =>
    let r := ix s.table.rows n
    (r.ports / 2 ^ p.1) % 2 == 1 &&
    match bit with
    | 0 => r.source == 1
    | 6 => r.source == 2
    | 7 => r.source == 3
    | _ => r.source == 1 && s.inFault (inputIdx r.index)

/-- Give a port the trips of its rows, and take back those that no row holds. -/
def State.portRows (s : State) (p : Port) : State :=
  [0, 6, 7, 8].foldl (fun t bit =>
    match s.rowCause p bit with
    | some n => if (t.spAt p).has bit then t else t.tripPort p bit n.1 (ix t.table.rows n).outs
    | none => t.clearCause p bit) s

/-- SAF_SITE_STAT of the present state, as SITE_STATE carries it. -/
def State.siteStat (s : State) : Word :=
  pack [(15, 8, s.saf.cause), (7, 7, b1 s.saf.haltLock), (6, 6, b1 s.table.remoteReset), (5, 5, b1 s.saf.serviceLost),
    (4, 4, b1 s.siteTripped), (3, 0, s.saf.state.code)]

/-- SITE_STATE, sent on a change (R349). -/
def State.siteMsg (s : State) : State := (s.modSaf fun x => { x with shown := s.siteStat }).safeSend 0x81 0xFF [s.siteStat]

/-- SITE_STATE and PORT_STATE where what they carry has changed since they were last sent (R349). DEDUCED (log 222). -/
def State.sendChanges (s : State) : State :=
  (s.whenB (s.siteStat != s.saf.shown) State.siteMsg).each (n := 8) fun p t =>
    t.whenB ((t.spAt p).shown != (t.safPortStat p, (t.spAt p).causes)) fun u => u.portMsg p

/-- Evaluate the trip matrix: latches, the ports' trips, the brakes and the outputs (R338, R347, R358). -/
def State.evalRows (s : State) : State :=
  let had := s.siteTripped
  let now := s.time.safetyUs
  let s1 := s.modSaf fun x => { x with rows := Vector.ofFn fun n =>
    let r := ix s.table.rows n
    let y := ix x.rows n
    { latched := r.source != 0 && (s.rowActive n || (y.latched && r.manual)),
      since := if s.rowCauseNow r then none else some (y.since.getD now) } }
  let fresh := (idx 64).filter fun n => s.rowActive n && (ix s.table.rows n).source != 0 && !(ix s.saf.rows n).latched
  let s1 := fresh.foldl (fun t n => let r := ix s.table.rows n; if r.ports % 256 = 0 then t.tripLog 1 n.1 0 r.outs else t) s1
  let s2 := s1.each (n := 8) fun p t => t.portRows p
  let s3 := s2.each (n := 2) fun b t =>
    if t.heldRows.any fun n => ((ix t.table.rows n).brakes / 2 ^ b.1) % 2 == 1 then t.applyBrake b else t
  let newTrip := fresh.any fun n => (ix s.table.rows n).source == 1
  let s4 := s3.whenB newTrip fun t => t.safRaise 2
  ((s4.whenB (had && !s4.siteTripped) fun t => t.safRaise 4).writeOuts).whenB (had != s4.siteTripped) State.siteMsg

/-! ### The site (R351, R355) -/

/-- Enter a site state: event, log entry, message, and the rows that watch it. -/
def State.siteTo (s : State) (x : SiteState) : State :=
  if s.saf.state = x then s
  else
    let s1 := s.modSaf fun y => { y with state := x, cause := if y.state = .run ∧ x.worse then y.diag else y.cause }
    let s2 := (((s1.irqAll irqSafety).safRaise 1).tripLog 4 x.code).evalRows
    s2.siteMsg

/-- The status that Safety repeats every 10 ms: the site's state, and each port's with its feedback and readings (R349). DESIGN CHOICE (log 184). -/
def State.repeatStatus (s : State) : State :=
  ((s.modSaf fun x => { x with statusAt := s.time.safetyUs }).siteMsg).each (n := 8) fun p t =>
    let x := t.spAt p
    ((t.portMsg p).safeSend 0x84 p.1 [pack [(0, 0, b1 (ix x.sense.aux 0)), (1, 1, b1 (ix x.sense.aux 1)), (2, 2, b1 x.sense.lockFb)],
      w32 (ix x.sense.across 0), w32 (ix x.sense.across 1)]).safeSend 0x85 p.1
      [w32 ((x.rIso.getD 0xFFFFFFFF)), w32 x.cE, w32 x.sense.rcmDc, w32 x.sense.rcmAc]

/-- Fail a restart that runs: SAF_DIAG has the item (R355, R367). -/
def State.failRestart (s : State) (item : Nat) : State :=
  match s.saf.restart with
  | none => s
  | some r => (s.modSaf fun x => { x with restart := none }).finalOpt r.cmd Code.fault [w32 item]

/-- DEGRADED becomes SAFE_STOP when every window has ended and every coil drive is off; brakes are applied (R351). -/
def State.checkStop (s : State) : State :=
  if s.saf.state = .degraded ∧ (idx 8).all fun p => !(s.spAt p).coil && (s.spAt p).window.isNone then
    (s.siteTo .safeStop).each (n := 2) fun b t => t.applyBrake b
  else s

/-- Record a fault: code, event and log entry (R340, R360). -/
def State.recordFault (s : State) (code : Nat) : State :=
  ((s.modSaf fun x => { x with diag := code }).safRaise 0x20).tripLog 3 code

/-- An execution fault: the enable line drops, every output is in its safe state, SAFE_HALT; the third within 24 h sets
HALT_LOCK (R337, R341, R351, R355). -/
def State.execFault (s : State) (code : Nat) : State :=
  let s1 := (s.recordFault code).modSaf fun x => { x with enable := false }
  match s.saf.state with
  | .safeHalt | .tableFail => s1.writeOuts
  | _ =>
    let recent := s.saf.halts.filter fun t => s.time.safetyUs < t + 86400000000
    let s2 := (s1.failRestart code).modSaf fun x => { x with
      halts := s.time.safetyUs :: recent, haltLock := x.haltLock || 2 ≤ recent.length }
    let s3 := s2.each (n := 8) fun p t => (((t.abortTests p).openPort p).coilsOff p).endDrive p fun x => { x with failed := true, want := none }
    (s3.siteTo .safeHalt).each (n := 2) fun b t => t.applyBrake b

/-- The active table passes validation (R351, R359). -/
def State.tableFails (s : State) : Option Nat := ix s.saf.fails (ix s.fw.active 2)

/-- A diagnostic fault, of the comparator or driver concerned (R341, R351). In INIT it acts where the table is valid. -/
def State.diagFault (s : State) (code : Nat) (unit : Nat := 0) : State :=
  let s1 := (s.recordFault code).modSaf fun x => { x with present := x.present.insert (code, unit) }
  match s.saf.state with
  | .init => if s.tableFails.isSome then s1 else (s1.siteTo .safeStop).each (n := 2) fun b t => t.applyBrake b
  | .run =>
    let s2 := (s1.siteTo .degraded).each (n := 8) fun p t => (t.abortTests p).startWindow p
    s2.checkStop
  | .restarting => ((s1.failRestart code).siteTo .safeStop).each (n := 2) fun b t => t.applyBrake b
  | .degraded | .safeStop | .safeHalt | .tableFail => s1

/-- A diagnostic finds its fault gone. -/
def State.diagGone (s : State) (code : Nat) (unit : Nat := 0) : State :=
  s.modSaf fun x => { x with present := x.present.filter (· != (code, unit)) }

/-! ### Service loss (R350) -/

/-- Declare Service loss and apply its rule to every port. -/
def State.serviceLoss (s : State) : State :=
  if s.saf.serviceLost then s
  else
    let s1 := (s.modSaf fun x => { x with serviceLost := true, requests := 0 }).safRaise 0x80
    let s2 := s1.each (n := 8) fun p t => (t.abortTests p).startWindow p
    (s2.each (n := 2) fun b t => t.applyBrake b).evalRows.siteMsg.checkStop

/-- A valid message of Service: Service loss ends. DEDUCED (log 121). -/
def State.heartbeat (s : State) : State :=
  if s.saf.serviceLost then (s.modSaf fun x => { x with serviceLost := false }).evalRows.siteMsg else s

/-! ### Ports that may not close (R360) -/

/-- BLOCKED by the table: its ENABLE is 0 or its type differs from the type in force. -/
def State.typeDiffers (s : State) (p : Port) : Bool := (s.portRec p).connType != (ix s.cfg.port p).connType
def State.mustBlock (s : State) (p : Port) : Bool := s.typeDiffers p || !(s.portRec p).enable

/-- A port that must be blocked is, once no coil is energised, whatever its state (R352, R360). -/
def State.toBlocked (s : State) (p : Port) : State :=
  if s.mustBlock p && !(s.spAt p).coil then (s.modSp p fun x => { x with mismatch := s.typeDiffers p }).setPort p .blocked else s

/-- Judge a port's blocking at its session boundary, where it also ends (R360). -/
def State.checkBlocked (s : State) (p : Port) : State :=
  let s1 := (s.toBlocked p).modSp p fun x => { x with mismatch := s.typeDiffers p }
  let x := s.spAt p
  if !s.mustBlock p && x.state == .blocked then
    s1.setPort p (if x.has 5 then .contactorFault else if x.causes = 0 then .open_ else .tripped)
  else s1

/-! ### Brakes (R381, R382) -/

def State.posOk (s : State) (b : Fin 2) : Bool := !s.demand (inputIdx (s.brkRec b).posIn)

/-- The guards of a release, MODE 1 aside. -/
def State.releaseOk (s : State) (b : Fin 2) : Bool :=
  s.saf.state == .run && (s.brkRec b).enable && !(s.brkAt b).fault && !(s.brkAt b).outFault && !s.saf.serviceLost &&
    (!s.heldRows.any fun n => ((ix s.table.rows n).brakes / 2 ^ b.1) % 2 == 1) &&
    match s.brakePort b with
    | some p => !((s.spAt p).state == .tripped || (s.spAt p).state == .contactorFault || (s.spAt p).state == .blocked) &&
        (s.spAt p).window.isNone && (s.spAt p).causes == 0
    | none => true

/-- Energise a brake: it releases. -/
def State.releaseBrake (s : State) (b : Fin 2) : State :=
  (s.modBrk b fun x => { x with released := true, held := true }).brkRaise (oneBit (4 * b.1 + 1))

/-- Start a brake test (R382): the brake is de-energised; POS_IN in demand cancels it. -/
def State.startBrakeTest (s : State) (b : Fin 2) (cmd : Option Req) (thenRelease : Bool) : State :=
  let s1 := s.applyBrake b
  if s1.posOk b then s1.modBrk b fun x => { x with phase := some .settle, cmd, thenRelease }
  else
    let s2 := s1.testNotice cmd Code.cancelled 0
    match s.brakePort b with
    | some p => s2.testEnded p 4 3
    | none => s2

end Sys2Proof.Machine
end

