-- ==== Sys2Proof/Machine/SafeIo.lean ====
section
/-! DEFINITION. The events of Safety's inputs, diagnostics and cycle, its messages from Service and its restart (spec 13
R338 to R360). -/

namespace Sys2Proof.Machine

/-! ### Latches of the port functions (R347, R377) -/

/-- Clear the latches of a port that may clear: at an unplug, or at a reset of MANUAL latches (R377). None clears while
the opening is unconfirmed. DEDUCED (log 120). -/
def State.clearLatches (s : State) (p : Port) (reset : Bool) : State :=
  if !s.openOk p then s
  else
    let x := s.spAt p
    let r := s.portRec p
    let now := s.time.safetyUs
    let second (t : Option Nat) : Bool := match t with | some u => u + 1000000 ≤ now | none => false
    let may (manual : Bool) (t : Option Nat) : Bool := if manual then reset && second t else x.unplugged && t.isSome
    let s1 := if may (r.resetMode % 2 == 1) x.imdOk || (r.resetMode % 2 == 0 && x.groupTrip && x.location == 2) then
        (s.clearCause p 1).modSp p fun y => { y with groupTrip := false } else s
    let s2 := if may (r.resetMode / 2 % 2 == 1) x.rcmOk then s1.clearCause p 2 else s1
    if x.unplugged then (s2.clearCause p 3).clearCause p 4 else s2

/-! ### Inputs (R344, R347) -/

/-- Judge the fault cause of an input and its partner after a change: an AUTO fault clears with its cause, and the time
since which a MANUAL one could clear. -/
def State.inputCheck (s : State) (k : Fin 16) : State :=
  let pair := s.inputsOf k
  let low := pair.any fun j => !(ix s.saf.inputs j).level
  let differ := low && pair.any fun j => (ix s.saf.inputs j).level
  let paired := (s.partner k).isSome
  let anyBad := pair.any fun j => (ix s.saf.inputs j).badPattern
  pair.foldl (fun t j => t.modSaf fun x => { x with inputs := upd x.inputs j fun i =>
    let cause := differ || i.badPattern
    let healthy := !cause && (!paired || (!low && !anyBad))
    { i with
      okSince := if healthy then some (i.okSince.getD s.time.safetyUs) else none
      fault := i.fault && (cause || (s.inRec j).manual) } }) s

/-- Latch INPUT_FAULT. -/
def State.inputFault (s : State) (k : Fin 16) : State :=
  if (ix s.saf.inputs k).fault then s
  else (((s.modSaf fun x => { x with inputs := upd x.inputs k fun i => { i with fault := true, okSince := none } }).safRaise 8).tripLog
    6 k.1)

/-- A reset (R347): latches whose conditions hold clear, of every row and input or of those that name the port. DEDUCED (log 120). -/
def State.giveReset (s : State) (q : Option Port) : State :=
  let now := s.time.safetyUs
  let mine (n : Fin 64) : Bool := match q with
    | none => true
    | some p => ((ix s.table.rows n).ports / 2 ^ p.1) % 2 == 1
  let inScope (k : Fin 16) : Bool := q.isNone || (idx 64).any fun n =>
    let r := ix s.table.rows n
    r.source == 1 && mine n && (s.inputsOf (inputIdx r.index)).contains k
  let second (t : Option Nat) : Bool := match t with | some u => u + 1000000 ≤ now | none => false
  let s1 := s.modSaf fun x => { x with inputs := Vector.ofFn fun k =>
    let i := ix x.inputs k
    { i with fault := i.fault && !(inScope k && second i.okSince) } }
  let s2 := s1.modSaf fun x => { x with rows := Vector.ofFn fun n =>
    let y := ix x.rows n
    let r := ix s.table.rows n
    { y with latched := y.latched && !(mine n && second y.since && !(r.source == 1 && s1.inFault (inputIdx r.index))) } }
  let s3 := s2.each (n := 8) fun p t => if q.isNone || q == some p then t.clearLatches p true else t
  (s3.whenB (s.siteTripped && !s3.siteTripped) fun t => (t.safRaise 4).siteMsg).evalRows

/-- A brake test fails: BRAKE_FAULT, the brake stays applied, TORQUE_OUT off (R382). -/
def State.failBrakeTest (s : State) (b : Fin 2) : State :=
  let ms := (s.time.safetyUs - (s.brkAt b).superviseAt) / 1000
  let s1 := (s.modBrk b fun x => { x with phase := none, fault := true, cmd := none, thenRelease := false }).brkRaise
    (pack [(4 * b.1 + 2, 4 * b.1 + 2, 1), (4 * b.1 + 3, 4 * b.1 + 3, 1)])
  let s2 := s1.testNotice (s.brkAt b).cmd Code.fault ms
  (match s.brakePort b with
  | some p => s2.testEnded p 4 2
  | none => s2).writeOuts

/-- SAFE_IN_EDGE: a change of an input's filtered level. A falling edge of a reset input that was high for 100 ms to 2 s
gives a reset; a change of POS_IN during supervision fails the brake test. -/
def execSafeInEdge (k : Fin 16) (level : Bool) (s : State) : Res :=
  let was := ix s.saf.inputs k
  let now := s.time.safetyUs
  let s1 := (s.modSaf fun x => { x with inputs := upd x.inputs k fun i =>
    { i with level, highSince := if level && !i.level then now else i.highSince } })
  if was.level = level ∨ !s.saf.wires then .next s1
  else
    let r := s.inRec k
    let s2 := (s1.inputCheck k).evalRows
    let reset := r.type != 0 && r.role == 1 && !level && inRange 100000 2000000 (now - was.highSince)
    let s3 := s2.whenB reset fun t => t.giveReset none
    let s4 := s3.each (n := 2) fun b t =>
      if (t.brkRec b).enable && (t.brkRec b).posIn == k.1 && (t.brkAt b).phase == some .supervise then t.failBrakeTest b else t
    .next (s4.checkStop.wakeEvent 4)

/-- DISCREPANCY_TIMEOUT: the inputs of a pair have differed for DISC_MS. -/
def execDiscrepancyTimeout (k : Fin 8) (s : State) : Res :=
  let a := inputIdx (2 * k.1)
  let b := inputIdx (2 * k.1 + 1)
  .next (if s.partner a == some b && (ix s.saf.inputs a).level != (ix s.saf.inputs b).level then
    (((s.inputFault a).inputFault b).inputCheck a).evalRows.checkStop
  else s)

/-- INPUT_PATTERN_CHECK: a contact input must have seen its own source's pulses in the last 50 ms, and no other's. -/
def execInputPatternCheck (k : Fin 16) (seen : Nat) (s : State) : Res :=
  let r := s.inRec k
  .next (if r.type = 1 then
    let good := seen % 256 == 2 ^ r.testSrc
    let s1 := s.modSaf fun x => { x with inputs := upd x.inputs k fun i => { i with badPattern := !good } }
    ((if good then s1 else s1.inputFault k).inputCheck k).evalRows.checkStop
  else s)

/-! ### Diagnostics (R340) -/

def execSafetyEccScrub (corrected : Nat) (uncorrectable : Bool) (s : State) : Res :=
  let s1 := s.modSaf fun x => { x with ecc := satAdd 0xFFFF x.ecc corrected }
  .next (if uncorrectable then s1.execFault 1 else s1)

def execTableDigestCheck (ok : Bool) (s : State) : Res := .next (if ok then s.diagGone 2 else s.diagFault 2)

/-- WATCHDOG_QUESTION: the drive die's question opens; the cycle answers it. DESIGN CHOICE (log 126). -/
def execWatchdogQuestion (s : State) : Res := .next (s.modSaf fun x => { x with question := some s.time.safetyUs })

/-- WATCHDOG_WINDOW_EXPIRY: the question's window ends without a correct answer. -/
def execWatchdogWindowExpiry (s : State) : Res :=
  .next (if s.saf.question.isSome then (s.modSaf fun x => { x with question := none }).execFault 4 else s)

def execOscillatorFault (s : State) : Res := .next (s.execFault 5)
def execRailFault (s : State) : Res := .next (s.execFault 6)
/-- COMPARATOR_SELFTEST: a pass clears the fault of that comparator alone. -/
def execComparatorSelftest (t : ComparatorTest) (s : State) : Res :=
  let n := 4 * t.port.1 + t.comp.1
  .next (if t.ok then s.diagGone 7 n else s.diagFault 7 n)

/-- Number of a switch of a driver. -/
def driverNum : Driver → Nat
  | .coil p k sw => 4 * p.1 + 2 * k.1 + sw.1
  | .brake b sw => 32 + 2 * b.1 + sw.1
  | .out k sw => 36 + 2 * k.1 + sw.1

/-- The driver is energised and takes the off-test: of the SAFE_OUTs those of type trip line or requestable whose dark test is on
(R340, R345). -/
def State.offTested (s : State) : Driver → Bool
  | .coil p k _ => ix (s.spAt p).coils k
  | .brake b _ => (s.brkAt b).released
  | .out k _ =>
    let r := ix s.table.outputs k
    (s.saf.outs / 2 ^ k.1) % 2 == 1 && r.dark && (r.type == 1 || r.type == 3)

/-- DRIVER_OFF_TEST: a pass clears the fault of that switch alone. -/
def execDriverOffTest (t : DriverTest) (s : State) : Res :=
  .next (if t.ok then s.diagGone 8 (driverNum t.driver) else if s.offTested t.driver then s.diagFault 8 (driverNum t.driver) else s)

/-- DIE_TEMP_CHECK (R603): temperatures as °C + 64. DEDUCED (log 122). -/
def execDieTempCheck (main meas drive : Nat) (s : State) : Res :=
  let warm := 174 ≤ main || 169 ≤ meas || 209 ≤ drive
  let s1 := s.modSys fun y => { y with
    tempMain := min 255 main, tempMeas := min 255 meas, tempDrive := min 255 drive, thermWarn := warm }
  let s2 := s1.whenB (warm && !s.sys.thermWarn) fun t => t.irqAll irqSystem
  .next (if 174 < meas then s2.diagFault 11 else s2.diagGone 11)

/-! ### The cycle (R338) -/

/-- Confirm a port's opening (R165, R378): OPENED, the open confirmation to Legal, WELD_V_PROVEN or WELD_UNPROVEN; the
insulation PASS ends with an ended session (R375). -/
def State.confirmOpen (s : State) (p : Port) : State :=
  let x := s.spAt p
  let past := (s.sesAt p).ending || !((s.sesAt p).sesOpen || (s.sesAt p).voidRun)
  let s1 := ((s.modSp p fun y => { y with
    confirmed := true, openMs := min 0xFFFF ((s.time.safetyUs - y.offAt) / 1000), weldProven := y.proofSeen
    weldDue := y.weldDue || !y.proofSeen, pass := y.pass && !past
    locate := if y.groupTrip && y.has 1 then 4 else 0, low := 0 }).emit (.openConfirm p)).sevRaise p 2
  let s2 := s1.whenB (!x.proofSeen) fun t => t.imdRaise p 0x80
  let s3 := if x.state = .opening then s2.setPort p .open_ else s2
  (((s3.busChanged p).modSp p fun y => { y with contaminated := false }).settle p).whenB x.unplugged fun t => t.clearLatches p false

/-- A weld test whose other contactor's auxiliary moves fails at once (R383). -/
def State.weldMoved (s : State) (p : Port) : State :=
  match (s.spAt p).test with
  | some t => if t.code = 3 && s.mainClosed p (1 - t.weldK) then s.failWeld p t 3 else s
  | none => s

/-- One port in one cycle: readings, residual current sensor, confirmations and the window's threshold. -/
def State.portCycle (s : State) (p : Port) (i : PortSense) : State :=
  let r := s.portRec p
  let locked := r.lockVerify != 0 && i.lockFb == (r.lockVerify == 1)
  let rcmGood := !i.rcmFault && i.rcmDc < 30 && i.rcmAc < 150
  let s1 := (s.refreshCurrent p).modSp p fun x => { x with
    sense := i, lockVerified := x.lockVerified && locked
    proofSeen := x.proofSeen || (!x.confirmed && (r.vProof * 1000 ≤ ix i.across 0 || r.vProof * 1000 ≤ ix i.across 1))
    rcmOk := if rcmGood then some (x.rcmOk.getD s.time.safetyUs) else none }
  let s2 := (if r.rcmMode != 0 && i.rcmFault && (s1.spAt p).state.active then (s1.imdRaise p 0x10).tripPort p 2 2 else s1).weldMoved p
  let s2 := s2.toBlocked p
  let x := s2.spAt p
  let low := ix i.across 0 ≤ 10000 && ix i.across 1 ≤ 10000
  if x.state = .closing ∧ s2.mainClosed p 0 ∧ s2.mainClosed p 1 ∧ low then (s2.setPort p .closed).sevRaise p 1
  else if !x.coil && !x.confirmed && x.state != .contactorFault && s2.weldOk p then s2.confirmOpen p
  else
    match x.window, s2.safeCurrent p with
    | some (some i0), some i1 => if i1.natAbs * 20 < i0.natAbs then s2.openPort p else s2
    | _, _ => s2

/-- Consecutive read-back failures of an output, and whether this is the third. -/
def missed (n : Nat) (wrong : Bool) : Nat := if wrong then min 3 (n + 1) else 0

/-- Read back every output (R340): at the third failure in a row the other switch is opened, an output fault. -/
def State.readBack (s : State) (c : CycleSense) : State :=
  let coilWrong (p : Port) (k : Fin 2) : Bool := ix (s.spAt p).coils k != ((c.coils / 2 ^ (2 * p.1 + k.1)) % 2 == 1)
  let outWrong (k : Fin 8) : Bool := ((s.saf.outs / 2 ^ k.1) % 2 == 1) != ((c.outs / 2 ^ k.1) % 2 == 1)
  let brkWrong (b : Fin 2) : Bool := (s.brkAt b).released != ((c.brakes / 2 ^ b.1) % 2 == 1)
  let newOuts := (idx 8).filter fun k => missed (ix s.saf.outMiss k) (outWrong k) == 3 && !((s.saf.outFault / 2 ^ k.1) % 2 == 1)
  let newCoils := (idx 8).filter fun p => (idx 2).any fun k =>
    missed (ix (s.spAt p).coilMiss k) (coilWrong p k) == 3 && !ix (s.spAt p).coilFault k
  let newBrks := (idx 2).filter fun b => missed (s.brkAt b).outMiss (brkWrong b) == 3 && !(s.brkAt b).outFault
  let s1 := s.modSaf fun x => { x with
    readBack := c.outs % 256, outMiss := Vector.ofFn fun k => missed (ix x.outMiss k) (outWrong k)
    outFault := newOuts.foldl (fun a k => a + 2 ^ k.1) x.outFault }
  let s2 := s1.each (n := 8) fun p t => t.modSp p fun x => { x with
    coilMiss := Vector.ofFn fun k => missed (ix x.coilMiss k) (coilWrong p k)
    coilFault := Vector.ofFn fun k => ix x.coilFault k || missed (ix x.coilMiss k) (coilWrong p k) == 3 }
  let s3 := s2.each (n := 2) fun b t => t.modBrk b fun x => { x with
    outMiss := missed x.outMiss (brkWrong b), outFault := x.outFault || missed x.outMiss (brkWrong b) == 3 }
  let s4 := newCoils.foldl (fun t p => (t.openPort p).coilsOff p) s3
  let s5 := newBrks.foldl (fun t b => t.applyBrake b) s4
  if newOuts.isEmpty && newCoils.isEmpty && newBrks.isEmpty then
    if ((idx 8).all fun k => !outWrong k && (idx 2).all fun j => !coilWrong k j) && (idx 2).all fun b => !brkWrong b then s5.diagGone 9 else s5
  else
    (((s5.safRaise 0x10).tripLog 7 9 (newCoils.foldl (fun a p => a + portMask p) 0)
      (newOuts.foldl (fun a k => a + 2 ^ k.1) 0)).writeOuts).diagFault 9

/-- SAFETY_CYCLE: inputs, trip matrix and port functions, outputs, read-back and the program-flow signature. The first
cycle is step 3 of the start-up (R35): the safe wires act and the enable line is up. DESIGN CHOICE (log 126). -/
def execSafetyCycle (c : CycleSense) (s : State) : Res :=
  if s.sys.power = .dormant then .next s
  else
    let s1 := if s.saf.wires then s else
      ((s.reach 2).reach 3).modSaf fun x => { x with wires := true, enable := x.enable || x.state == .init }
    if !c.flow then .next (s1.execFault 3)
    else
      let inWindow := match s1.saf.question with
        | some t => c.answer && inRange 400 900 (s1.time.safetyUs - t)
        | none => false
      let s2 := s1.whenB inWindow fun t => t.modSaf fun x => { x with question := none }
      let s3 := s2.evalRows
      let s4 := s3.each (n := 8) fun p t => t.portCycle p (ix c.port p)
      let s5 := (s4.writeOuts.readBack c).checkStop.sendChanges
      .next (if s5.saf.statusAt + 10000 ≤ s5.time.safetyUs then s5.repeatStatus else s5)

/-! ### Confirmations and windows (R165, R166, R353, R379) -/

def execCloseConfirmTimeout (p : Port) (s : State) : Res :=
  .next (if (s.spAt p).state = .closing then (s.contactorFault p).checkStop else s)

/-- OPEN_CONFIRM_TIMEOUT: the weld check fails unless its conditions hold now (R378). -/
def execOpenConfirmTimeout (p : Port) (s : State) : Res :=
  let x := s.spAt p
  .next (if x.coil || x.confirmed || x.state == .contactorFault then s
  else if s.weldOk p then s.confirmOpen p else s.contactorFault p)

def execContactDisagreeTimeout (p : Port) (s : State) : Res :=
  .next (if (s.spAt p).state = .closed then (s.contactorFault p).checkStop else s)

def execCoilCurrentFault (p : Port) (s : State) : Res :=
  .next (match (s.spAt p).test with
  | some t => if t.code = 3 && (s.spAt p).coil then s.failWeld p t 2 else if (s.spAt p).coil then (s.contactorFault p).checkStop else s
  | none => if (s.spAt p).coil then (s.contactorFault p).checkStop else s)

/-- WINDOW_DEADLINE: T_DEG elapses; the coil drive is forced off and counted. -/
def execWindowDeadline (p : Port) (s : State) : Res :=
  .next (if (s.spAt p).window.isSome then
    ((((s.openPort p).modSp p fun x => { x with forcedOpen := true }).modSaf fun x => { x with forced := satInc 255 x.forced }).sevRaise p 0x10
      |>.tripLog 5 p.1 (portMask p)).checkStop
  else s)

/-! ### Service loss and start (R350, R351) -/

def execServiceLossTimeout (s : State) : Res := .next s.serviceLoss
def execHeartbeat (s : State) : Res := .next s.heartbeat

/-- A SAFETY image passes its trial when its site reaches RUN, and its activation is done (R529, R541, R542). -/
def State.safetyProven (s : State) : State :=
  let s1 := (s.modKeys fun k => { k with measured := upd k.measured 2 fun _ => rennet 2 (s.activeBank 2).digest }).passTrial 2
  if s1.act.state == .swapping && s1.act.cls == 2 then s1.activated else s1

/-- A SAFETY activation that does not reach RUN ends with FAULT (R541). -/
def State.safetyUnproven (s : State) : State :=
  if s.act.state == .swapping && s.act.cls == 2 then s.actEnd Code.fault else s

/-- SAFETY_INIT_DONE: step 4, whose outcome is RUN, TABLE_FAIL where the active table fails its digest or its validation, SAFE_STOP
or SAFE_HALT. -/
def execSafetyInitDone (outcome : InitOutcome) (s : State) : Res :=
  if s.saf.state != .init then .next s
  else
    let s1 := (((s.reach 2).reach 3).reach 4).modSaf fun x => { x with wires := true, enable := true }
    let failed (off : Nat) : State := (s1.safetyUnproven.modSaf fun x => { x with failAt := off, enable := false }).siteTo .tableFail
    .next (match outcome, s.tableFails with
    | .safeHalt code, _ => s1.safetyUnproven.execFault code
    | .digestFail, _ => failed 0
    | _, some off => failed off
    | .safeStop code, none => s1.safetyUnproven.diagFault code
    | .done, none =>
      let s2 := ((s1.modSys fun y => { y with safetyRdy := true }).safetyProven).siteTo .run
      s2.each (n := 8) fun p t => t.checkBlocked p)

/-! ### Requests of Service (R349, R352, R355) -/

/-- ANSWER: the request's type, 1 where it was granted, the sequence number of the oldest such request not yet answered, and the port's
state (R349, R352). DEDUCED (log 195). -/
def State.safeAnswer (s : State) (port type : Nat) (granted : Bool) : State :=
  let mine (a : Nat × Nat × Nat) : Bool := a.1 == type && a.2.1 == port
  let seq := ((s.sys.svcAsked.find? mine).map (·.2.2)).getD ((s.sys.svcSeq + 0xFFFF) % 2 ^ 16)
  (s.modSys fun y => { y with svcAsked := y.svcAsked.eraseP mine }).safeSend 0x87 port ([w32 type, w32 (b1 granted), w32 seq] ++ (if h : port < 8 then [w32 (s.spAt ⟨port, h⟩).state.code] else []))

/-- CLOSE_REQ: granted, the close notice goes to Legal before the coils are energised. -/
def execCloseReq (p : Port) (s : State) : Res :=
  let s1 := s.heartbeat
  .next (if s1.permit p then
    (((s1.emit (.closeNotice p)).modSp p fun x => { x with coils := Vector.replicate 2 true }).setPort p .closing
      |>.busChanged p).safeAnswer p.1 2 true
  else s1.safeAnswer p.1 2 false)

/-- OPEN_REQ is never refused. -/
def execOpenReq (p : Port) (s : State) : Res := .next (((s.heartbeat.openPort p).checkStop).safeAnswer p.1 3 true)

/-- RAMP_DONE: a valid message; it opens nothing by itself. -/
def execRampDone (_p : Port) (s : State) : Res := .next s.heartbeat

/-- OUT_REQ: the new request mask for requestable outputs (R348). -/
def State.requestable (s : State) : Nat := flagWord ((idx 8).map fun k => (ix s.table.outputs k).type == 3)
def execOutReq (mask : Nat) (s : State) : Res :=
  .next (((s.heartbeat.modSaf fun x => { x with requests := mask &&& s.requestable }).writeOuts).safeAnswer 0xFF 7 true)

def execResetReq (q : Option Port) (s : State) : Res :=
  let s1 := s.heartbeat
  .next (if s1.table.remoteReset then (s1.giveReset q).safeAnswer 0xFF 8 true else s1.safeAnswer 0xFF 8 false)

/-- A session holds the contactors of the port: CLOSING to OPENING. -/
def SesState.holdsContactors : SesState → Bool
  | .closing | .charging | .paused | .rampdown | .opening => true
  | _ => false

/-- The guards of a restart (R355). -/
def State.restartOk (s : State) (q : Option Port) : Bool :=
  s.saf.restart.isNone &&
  match q with
  | none => (s.saf.state == .safeStop || s.saf.state == .safeHalt) && !s.saf.haltLock && s.saf.present.isEmpty &&
      (idx 8).all fun p => !(s.spAt p).coil
  | some p => s.saf.state == .run && !(s.spAt p).coil && !(s.sesAt p).state.holdsContactors &&
      ((s.spAt p).state == .open_ || (s.spAt p).state == .tripped || (s.spAt p).state == .contactorFault)

/-- Start a restart whose guards hold. -/
def State.startRestart (s : State) (q : Option Port) (cmd : Option Req) : State :=
  let s1 := s.modSaf fun x => { x with restart := some { port := q, cmd } }
  match q with
  | none => (s1.modSaf fun x => { x with enable := true, question := none }).siteTo .restarting
  | some _ => s1

def execRestartReq (q : Option Port) (s : State) : Res :=
  let s1 := s.heartbeat
  .next (if s1.restartOk q then (s1.startRestart q none).safeAnswer 0xFF 9 true else s1.safeAnswer 0xFF 9 false)

/-- A port whose weld check passed leaves CONTACTOR_FAULT, its opening now confirmed; its trip latches stay. -/
def State.leaveFault (s : State) (p : Port) : State :=
  if (s.spAt p).state = .contactorFault ∧ s.weldOk p then
    let s1 := s.modSp p fun x => { x with
      causes := if x.has 5 then x.causes - 32 else x.causes, coilFault := Vector.replicate 2 false }
    let s2 := if (s.spAt p).confirmed then s1 else s1.confirmOpen p
    s2.setPort p (if (s2.spAt p).causes = 0 then .open_ else .tripped)
  else s.modSp p fun x => { x with coilFault := Vector.replicate 2 false }

/-- SAFETY_RESTART_DONE: the procedure passes, or fails at an item (R355, R367). DEDUCED (log 125). -/
def execSafetyRestartDone (ok : Bool) (item : Nat) (s : State) : Res :=
  .next (match s.saf.restart with
  | none => s
  | some r =>
    let s1 := s.modSaf fun x => { x with restart := none }
    if ok then
      let s2 := (s1.modSaf fun x => { x with restarts := satInc 255 x.restarts }).safRaise 0x40
      let s3 := match r.port with
        | some p => (s2.leaveFault p).checkBlocked p
        | none =>
          let t := (s2.modSaf fun x => { x with outFault := 0 }).each (n := 2) fun b u => u.modBrk b fun x => { x with outFault := false }
          ((t.siteTo .run).each (n := 8) fun p u => u.leaveFault p).each (n := 8) fun p u => u.checkBlocked p
      s3.finalOpt r.cmd Code.done [0]
    else
      let s2 := match r.port with
        | some _ => s1
        | none => (s1.modSaf fun x => { x with diag := item }).siteTo .safeStop
      s2.finalOpt r.cmd Code.fault [w32 item])

end Sys2Proof.Machine
end

