-- ==== Sys2Proof/Machine/Earth.lean ====
section
/-! DEFINITION. Earth faults and safe actuators: PE continuity, insulation, residual current, the lock, the brakes and
the self-tests of Safety (spec 14 R370 to R384). -/

namespace Sys2Proof.Machine

/-! ### PE continuity (R371) -/

/-- Class of a high plateau by the windows of R130, in 10 mV. -/
def cpClass (hi : Int) : CpState :=
  if 1100 ≤ hi ∧ hi ≤ 1300 then .a else if 800 ≤ hi ∧ hi ≤ 1000 then .b else if 500 ≤ hi ∧ hi ≤ 700 then .c
  else if 200 ≤ hi ∧ hi ≤ 400 then .d else if -100 ≤ hi ∧ hi ≤ 100 then .e else .invalid

/-- SAFETY_CP_PERIOD: one period, or 1 ms window without PWM, at Safety's own comparator. Three in a row change PE_OK; its
loss trips a port that is closing, closed or opening; class A is the unplug of R377. -/
def execSafetyCpPeriod (p : Port) (pwm : Bool) (hi lo : Int) (s : State) : Res :=
  let cls := cpClass hi
  let ok := (cls == .b || cls == .c || cls == .d) && (!pwm || (-1300 ≤ lo && lo ≤ -1100))
  let x := s.spAt p
  let run := if ok == x.peOk then 0 else x.peRun + 1
  let s1 := s.modSp p fun y => { y with
    peOk := if run = 3 then ok else y.peOk, peRun := if run = 3 then 0 else run
    unplugged := if cls == .a then true else if cls == .b || cls == .c || cls == .d then false else y.unplugged
    pass := y.pass && cls != .a }
  let s2 := if run = 3 ∧ !ok ∧ x.state.active then (s1.imdRaise p 0x20).tripPort p 3 3 else s1
  .next ((if cls == .a then s2.clearLatches p false else s2).checkStop)

/-! ### Insulation (R372 to R375) -/

/-- Leakage capacitance limit in nF. -/
def PortRec.cLimitNf (r : PortRec) : Nat := r.cLimit * 100

/-- The monitor of a port gives results of its own: it injects on its own side or holds the slot of its network. -/
def State.injects (s : State) (p : Port) : Bool :=
  let x := s.spAt p
  (s.portRec p).isDc &&
  (if s.joined p then
    match s.groupOf p with
    | some g => ix s.saf.injector g == some p
    | none => true
  else x.pre.isSome || (x.state == .open_ && x.pass) || (x.state == .tripped && x.has 1))

/-- A result above range counts as more than 10 MΩ. -/
def ohms (r : Option Nat) : Nat := r.getD 10000001

/-- Trip a network for insulation: every port of it, with GROUP_TRIP where ports are joined (R373, R374). DEDUCED (log 128). -/
def State.imdTrip (s : State) (p : Port) : State :=
  let net := s.network p
  let grouped := (s.groupOf p).isSome && s.joined p
  net.foldl (fun t q =>
    let x := t.spAt q
    let t1 := match x.pre with
      | some _ => (t.modSp q fun y => { y with pre := none, preFail := true, lastTest := 1, lastResult := 2 }).imdRaise q 8
      | none => t
    let t2 := if x.has 1 then t1 else t1.imdRaise q 2
    (t2.modSp q fun y => { y with
      pass := false, groupTrip := if x.has 1 then y.groupTrip else grouped, location := if x.has 1 then y.location else 0
      locate := if x.has 1 then y.locate else 0 }).tripPort q 1 1) s

/-- Take a network's result at one of its ports: WARN, BELOW_TRIP, the PASS and the run of low results. DESIGN CHOICE (log 127). -/
def State.imdResult (s : State) (q : Port) (r : Option Nat) (ce : Nat) : State :=
  let rec_ := s.portRec q
  let x := s.spAt q
  let below := ohms r < rec_.rTrip
  let warnLow := rec_.imdWarn != 0 && ohms r < rec_.rWarn
  let clear := x.warn && !warnLow && x.warnClear + 1 == 4
  let ownOk := !below && ce ≤ rec_.cLimitNf
  let s1 := s.modSp q fun y => { y with
    rIso := r, cE := ce, measured := true, belowTrip := below, capHigh := rec_.cLimitNf < ce
    low := if below then y.low + 1 else 0, pass := y.pass && !below
    warn := warnLow || (y.warn && !clear), warnClear := if warnLow || clear then 0 else if y.warn then y.warnClear + 1 else 0
    imdOk := if y.state == .tripped && s.openOk q && ownOk then some (y.imdOk.getD s.time.safetyUs) else none
    pre := y.pre.map fun t => { t with results := lastN 4 (t.results ++ [(r, ce)]) } }
  let s2 := s1.whenB (warnLow && !x.warn) fun t => t.imdRaise q 1
  if x.locate = 0 ∨ !s.openOk q then s2
  else
    let s3 := s2.modSp q fun y => { y with locate := y.locate - 1 }
    if x.locate = 1 then
      (s3.modSp q fun y => { y with location := if ownOk then 2 else 1 }).imdRaise q 0x200
    else s3

/-- End the pre-close test: PASS, or a FAIL that trips the port (R375). -/
def State.endPreclose (s : State) (p : Port) (t : PreClose) : State :=
  let l := t.results
  let sum := (l.map fun x => ohms x.1).sum
  if 4 ≤ l.length && 4 * (s.portRec p).rTrip ≤ sum && l.all fun x => x.2 ≤ (s.portRec p).cLimitNf then
    (s.modSp p fun y => { y with pre := none, pass := true, lastTest := 1, lastResult := 1 }).imdRaise p 4
  else s.imdTrip p

/-- Judge a pre-close test whose minimum length has ended: with four usable results, or after 10 further
half-periods. -/
def State.judgePreclose (s : State) (p : Port) : State :=
  match (s.spAt p).pre with
  | none => s
  | some t => if t.late && (4 ≤ t.results.length || 10 ≤ t.extra) then s.endPreclose p t else s

/-- IMD_HALF_PERIOD_END: a contaminated half-period gives no result; a listener's port takes its injector's. Two low
results in a row, or C_e above C_LIMIT, trip the network. -/
def execImdHalfPeriodEnd (p : Port) (ohm : Option Nat) (ce : Nat) (s : State) : Res :=
  let ohm := ohm.filter fun v => v ≤ 10000000
  if !s.injects p then .next s
  else
    let dirty := (s.spAt p).contaminated
    let net := s.network p
    let s1 := s.modSp p fun x => { x with contaminated := false, pre := x.pre.map fun t => { t with extra := t.extra + b1 t.late } }
    if dirty then .next (s1.judgePreclose p)
    else
      let s2 := net.foldl (fun t q => t.imdResult q ohm ce) s1
      let s3 := match s.groupOf p with
        | some g => if s.joined p then s2.modSaf fun x => { x with
            netR := upd x.netR g fun _ => ohm, netC := upd x.netC g fun _ => ce } else s2
        | none => s2
      let trip := (s.portRec p).cLimitNf < ce || 2 ≤ (s3.spAt p).low
      let s4 := if trip && net.any fun q => !(s3.spAt q).has 1 then s3.imdTrip p else s3.judgePreclose p
      .next ((s4.clearLatches p false).checkStop)

/-- IMD_SLOT_ROTATE: the slot passes to the next closed port in ascending order (R374). -/
def execImdSlotRotate (g : Fin 8) (s : State) : Res :=
  let closed := s.closedOf g
  .next (match ix s.saf.injector g with
  | none => s
  | some i =>
    match (closed.find? fun q => i < q).or closed.head? with
    | none => s
    | some q =>
      let s1 := s.modSaf fun x => { x with injector := upd x.injector g fun _ => some q, slotAt := upd x.slotAt g fun _ => s.time.safetyUs }
      if q = i then s1 else closed.foldl (fun t k => t.modSp k fun x => { x with contaminated := true }) s1)

/-- PRECLOSE_TEST_END: the minimum length of the test has ended (R375). -/
def execPrecloseTestEnd (p : Port) (s : State) : Res :=
  .next ((s.modSp p fun x => { x with pre := x.pre.map fun t => { t with late := true } }).judgePreclose p)

/-! ### Residual current and lock (R376, R380) -/

/-- A residual current that the monitor may trip on: never below 3 mA DC, nor below 15 mA AC, and with RCM_MODE 1 on DC alone. -/
def State.residual (s : State) (p : Port) : Bool :=
  let x := (s.spAt p).sense
  match (s.portRec p).rcmMode with
  | 0 => false
  | 1 => 30 ≤ x.rcmDc
  | _ => 30 ≤ x.rcmDc || 150 ≤ x.rcmAc

/-- RCM_TRIP: a residual current lasts for its trip time. -/
def execRcmTrip (p : Port) (s : State) : Res :=
  .next (if s.residual p && (s.spAt p).state.active then
    (((s.imdRaise p 0x10).modSp p fun x => { x with rcmOk := none }).tripPort p 2 2).checkStop else s)

/-- LOCK_FILTER_EXPIRY: the feedback has shown LOCKED, or has been away from it, for LOCK_FILTER. -/
def execLockFilterExpiry (p : Port) (s : State) : Res :=
  let r := s.portRec p
  .next (if r.lockVerify = 0 then s
  else if (s.spAt p).sense.lockFb == (r.lockVerify == 1) then s.modSp p fun x => { x with lockVerified := true }
  else
    let s1 := s.modSp p fun x => { x with lockVerified := false }
    if (s.spAt p).state.active then ((s1.imdRaise p 0x40).tripPort p 4 4).checkStop else s1)

/-! ### Self-tests (R375, R383) -/

def State.brakeTesting (s : State) (p : Port) : Bool := ((s.brakeOf p).map fun b => (s.brkAt b).phase.isSome).getD false
/-- Code of the test that runs on a port, 0 none (R385). -/
def State.testRunning (s : State) (p : Port) : Nat :=
  let x := s.spAt p
  if x.pre.isSome then 1 else match x.test with
    | some t => t.code
    | none => if s.brakeTesting p then 4 else 0

/-- A between-session test may start now (R175, R382, R383). -/
def State.testAllowed (s : State) (p : Port) (code : Nat) : Bool :=
  let st := (s.sesAt p).state
  s.saf.state == .run && !s.saf.serviceLost && s.openOk p && s.testRunning p == 0 &&
    ((st == .idle && (code != 3 || (s.spAt p).state == .open_)) || (code != 3 && st == .ended))

/-- Start a test of R383. The weld test first closes contactor 1 alone. -/
def State.startTest (s : State) (p : Port) (code : Nat) (cmd : Option Req) : State :=
  match code with
  | 2 => s.modSp p fun x => { x with test := some { code := 2, cmd } }
  | 3 => s.modSp p fun x => { x with test := some { code := 3, cmd }, coils := #v[true, false] }
  | _ => match s.brakeOf p with
    | some b => s.startBrakeTest b cmd false
    | none => s

/-- Start the first deferred test that may start: one that must wait holds up no other (R175, R176). DEDUCED (log 124). -/
def State.runDeferred (s : State) (p : Port) : State :=
  match (s.spAt p).deferred.find? (s.testAllowed p ·.1) with
  | none => s
  | some t => (s.modSp p fun x => { x with deferred := x.deferred.filter (·.1 != t.1) }).startTest p t.1 t.2

/-- SELFTEST_REQ: the pre-close test of an open port, or a between-session test. -/
def execSelftestReq (p : Port) (code : Nat) (s : State) : Res :=
  let s1 := s.heartbeat
  .next (if code = 1 then
    if (s1.portRec p).isDc && s1.saf.state == .run && (s1.spAt p).state == .open_ && s1.openOk p && s1.testRunning p == 0 then
      (s1.modSp p fun x => { x with pre := some {}, preFail := false, contaminated := false, low := 0 }).safeAnswer p.1 5 true
    else s1.safeAnswer p.1 5 false
  else if s1.needsTest p code && s1.testAllowed p code then (s1.startTest p code none).safeAnswer p.1 5 true
  else s1.safeAnswer p.1 5 false)

/-- INSULATION_SELFTEST_END: the reference must read 85 to 115 kΩ. -/
def execInsulationSelftestEnd (p : Port) (kohm : Nat) (s : State) : Res :=
  .next (match (s.spAt p).test with
  | some t =>
    if t.code = 2 then
      let good := inRange 85 115 kohm
      let s1 := s.modSp p fun x => { x with
        test := none, insFail := !good, insAt := if good then s.time.safetyUs else x.insAt }
      ((s1.testNotice t.cmd (if good then Code.done else Code.fault) kohm).testEnded p 2 (if good then 1 else 2)).runDeferred p
    else s
  | none => s)

/-- WELD_TEST_TIMER: 100 ms to close, WELD_HOLD, 500 ms to open, for each contactor in turn. -/
def execWeldTestTimer (p : Port) (s : State) : Res :=
  .next (match (s.spAt p).test with
  | none => s
  | some t =>
    if t.code != 3 then s
    else
      let r := s.portRec p
      let k := t.weldK
      let i := ix (s.spAt p).sense.coil k
      let moved := s.mainClosed p (1 - k)
      let amps := inRange r.coilMin r.coilMax i
      match t.weldPhase with
      | .close =>
        if !s.mainClosed p k then s.failWeld p t 1 else if !amps then s.failWeld p t 2 else if moved then s.failWeld p t 3
        else s.modSp p fun x => { x with test := some { t with weldPhase := .hold } }
      | .hold =>
        if !s.mainClosed p k then s.failWeld p t 1 else if !amps then s.failWeld p t 2 else if moved then s.failWeld p t 3
        else s.modSp p fun x => { x with test := some { t with weldPhase := .open_ }, coils := Vector.replicate 2 false }
      | .open_ =>
        if s.mainClosed p k then s.failWeld p t 1 else if moved then s.failWeld p t 3
        else if k = 0 then
          s.modSp p fun x => { x with test := some { t with weldK := 1, weldPhase := .close }, coils := #v[false, true] }
        else
          let s1 := s.modSp p fun x => { x with test := none, weldAt := s.time.safetyUs, weldDue := false, weldFail := false }
          ((s1.testNotice t.cmd Code.done 0).testEnded p 3 1).runDeferred p)

/-! ### Brakes (R381, R382) -/

/-- A release request: its result code, DONE, ACCEPTED where a test runs first, or REFUSED. -/
def State.requestRelease (s : State) (b : Fin 2) (cmd : Option Req) : State × Nat :=
  let idle : Bool := ((s.brakePort b).map fun p => (s.sesAt p).state == .idle || (s.sesAt p).state == .ended).getD false
  if !s.releaseOk b || (s.brkAt b).phase.isSome then (s, Code.refused)
  else if (s.brkRec b).mode = 1 ∧ !(s.brkAt b).passSince then
    if idle then (s.startBrakeTest b cmd true, Code.accepted) else (s, Code.refused)
  else (s.releaseBrake b, Code.done)

def execBrakeReleaseReq (b : Fin 2) (s : State) : Res :=
  let a := s.heartbeat.requestRelease b none
  .next (a.1.safeAnswer (match s.brakePort b with | some p => p.1 | none => 0xFF) 6 (a.2 != Code.refused))

/-- BRAKE_TEST_TIMER: SETTLE, SETTLE with torque, TEST with supervision, SETTLE without torque, then PASS. -/
def execBrakeTestTimer (b : Fin 2) (s : State) : Res :=
  let x := s.brkAt b
  .next (match x.phase with
  | none => s
  | some .settle => (s.modBrk b fun y => { y with phase := some .torque }).writeOuts
  | some .torque => s.modBrk b fun y => { y with
      phase := some .supervise, superviseAt := s.time.safetyUs, pos := s.posOk b }
  | some .supervise => (s.modBrk b fun y => { y with phase := some .release }).writeOuts
  | some .release =>
    let s1 := (s.modBrk b fun y => { y with phase := none, fault := false, passSince := true, cmd := none, thenRelease := false }).brkRaise
      (oneBit (4 * b.1 + 2))
    let s2 := match s.brakePort b with
      | some p => (s1.modSp p fun y => { y with brakeAt := s.time.safetyUs }).testEnded p 4 1
      | none => s1
    let s3 := if !x.thenRelease then s2.testNotice x.cmd Code.done 0
      else if s2.releaseOk b then (s2.releaseBrake b).testNotice x.cmd Code.done 0
      else s2.testNotice x.cmd Code.cancelled 0
    match s.brakePort b with
    | some p => s3.runDeferred p
    | none => s3)

/-! ### Registers (R385, R386) -/

/-- IMD_STATE: FAULT while C_e stays above C_LIMIT under a latch. -/
def State.imdState (s : State) (p : Port) : Nat :=
  let x := s.spAt p
  if x.pre.isSome then 4 else if (x.test.map (·.code)) == some 2 then 5
  else if x.capHigh && x.has 1 then 6
  else if !(s.portRec p).isDc then 0
  else if s.joined p then (if s.injects p then 2 else 3)
  else b1 (s.injects p)

def State.imdStat (s : State) (p : Port) : Word :=
  let x := s.spAt p
  let r := s.portRec p
  let rcm := if r.rcmMode == 0 || !x.state.active && !x.has 2 && !x.sense.rcmFault then 0
    else if x.sense.rcmFault then 3 else if x.has 2 then 2 else 1
  pack [(31, 28, s.imdState p), (27, 24, ((s.groupOf p).map (·.1)).getD 0xF), (23, 23, b1 x.pass), (22, 22, b1 x.warn),
    (21, 21, b1 x.belowTrip), (20, 20, b1 x.capHigh), (19, 19, b1 x.groupTrip), (18, 17, x.location), (15, 14, rcm),
    (13, 13, b1 x.peOk), (11, 4, if r.isDc then r.halfMs else 0)]

/-- R_iso in kΩ, 0xFF_FFFF above range or none. DESIGN CHOICE (log 127). -/
def kOhm (measured : Bool) (r : Option Nat) : Nat :=
  match r with
  | some v => if measured then min 0xFFFFFF (v / 1000) else 0xFFFFFF
  | none => 0xFFFFFF

def State.earthBlock (s : State) (p : Port) : List Word :=
  let x := s.spAt p
  [s.imdStat p, w32 (kOhm x.measured x.rIso), pack [(15, 0, min 0xFFFF x.cE), (31, 16, min 0xFFFF ((s.portRec p).rTrip / 1000))],
    pack [(15, 0, min 0xFFFF x.sense.rcmDc), (31, 16, min 0xFFFF x.sense.rcmAc)]]

/-- SAF_ACT. COIL_OK is 0 until the first cycle has measured the coils. -/
def State.safAct (s : State) (p : Port) : Word :=
  let x := s.spAt p
  let r := s.portRec p
  let lock := if r.lockVerify = 0 then 2 else b1 x.lockVerified
  let ok (k : Fin 2) := if ix x.coils k then inRange r.coilMin r.coilMax (ix x.sense.coil k) else decide (ix x.sense.coil k < 5)
  pack [(31, 16, x.openMs), (12, 12, b1 (s.unlockBlocked p)), (11, 10, lock), (9, 8, if s.saf.wires then b1 (ok 0) + 2 * b1 (ok 1) else 0),
    (7, 6, b1 (10000 < ix x.sense.across 0) + 2 * b1 (10000 < ix x.sense.across 1)), (5, 5, b1 x.weldProven),
    (1, 0, b1 (!s.mainClosed p 0) + 2 * b1 (!s.mainClosed p 1))]

/-- µs of 23 h and of 24 h since the last pass (R176). DEDUCED (log 124). -/
def due23 : Nat := 82800000000
def testAge (s : State) (at_ : Nat) : Nat := min 255 ((s.time.safetyUs - at_) / 600000000)

def State.safTest (s : State) (p : Port) : Word :=
  let x := s.spAt p
  let old (t : Nat) := due23 ≤ s.time.safetyUs - t
  pack [(14, 14, b1 (s.needsTest p 4 && old x.brakeAt)), (13, 13, b1 (x.weldDue || (s.needsTest p 3 && old x.weldAt))),
    (12, 12, b1 x.insFail), (9, 8, x.lastResult), (7, 4, x.lastTest), (3, 0, s.testRunning p)]

def State.safTestAge (s : State) (p : Port) : Word :=
  let x := s.spAt p
  pack [(7, 0, testAge s x.insAt), (15, 8, testAge s x.weldAt), (23, 16, testAge s x.brakeAt)]

def State.actBlock (s : State) (p : Port) : List Word := [s.safAct p, s.safTest p, s.safTestAge p]

def State.brkStat (s : State) (b : Fin 2) : Word :=
  let x := s.brkAt b
  let port := s.brakePort b
  let st := if !(s.brkRec b).enable then 0 else if x.phase.isSome then 3 else if x.fault then 4 else if x.released then 2 else 1
  pack [(19, 19, b1 port.isSome), (18, 16, (port.map (·.1)).getD 0),
    (15, 8, match port with | some p => testAge s (s.spAt p).brakeAt | none => 255),
    (6, 6, b1 x.passSince), (5, 5, b1 (s.posOk b)), (4, 4, b1 x.held), (3, 0, st)]

end Sys2Proof.Machine
end

