-- ==== Sys2Proof/Machine/LoadSwitch.lean ====
section
/-! DEFINITION. The drive die: load switches with their protection, PWM regeneration, supply dips and shedding, the lock
bridges, and the commands of group 0x40 (spec 15, 23 R600). -/

namespace Sys2Proof.Machine

abbrev LsIdx := Fin 40

def State.lsCh (s : State) (c : LsIdx) : LsCh := ix s.ls.ch c
def State.modLsCh (s : State) (c : LsIdx) (f : LsCh → LsCh) : State := s.modLs fun l => { l with ch := upd l.ch c f }
def State.lsCfg (s : State) (c : LsIdx) : LsCfg := ix s.cfg.ls c

/-- LS_EVENT has no interrupt source (R405). -/
def State.lsRaise (s : State) (bits : Word) : State := s.modLs fun l => { l with ev := raiseAll l.ev bits }

/-- A burst and its wait, and the carry, end (R400, R404). -/
def LsCh.quiet (x : LsCh) : LsCh := { x with burst := false, waiting := false, windowOver := false, carry := 0, pulse := 0 }

/-- The commanded state is cleared by the device: the channel turns off. -/
def LsCh.drop (x : LsCh) : LsCh := { x.quiet with commanded := false, thermalWait := false }

/-- The channel is commanded on: under UV it waits for the restore, and while its junction is hot for the cooling (R391,
R394, R396). -/
def LsCh.turnOn (x : LsCh) (uv : Bool) (now : Nat) : LsCh :=
  if x.commanded then { x with uvOff := x.uvOff || uv }
  else { x with commanded := true, uvOff := x.uvOff || uv, thermalWait := x.hot, lastPulse := now }

/-- Nothing holds the channel off: commanded on, no protection, no UV. -/
def LsCh.permitted (x : LsCh) : Bool :=
  x.commanded && !x.waiting && !x.thermalWait && !x.thermal && !x.overcurrent && !x.uvOff

/-- The channel conducts now (R391, R398). -/
def State.lsOn (s : State) (c : LsIdx) : Bool :=
  let x := s.lsCh c
  let k := s.lsCfg c
  x.permitted && !s.ls.uv &&
  if x.hold.isSome then decide (0 < x.pulse)
  else match k.mode with
  | 1 => true
  | 2 =>
    let w := ix s.ls.pwm ⟨k.src % 8, by omega⟩
    !w.bad && (if w.static then w.level else decide (0 < x.pulse))
  | _ => false

/-- OFF_OPEN is of an off channel with OFF_DIAG: it goes once the channel conducts or the diagnosis ends (R397). -/
def State.lsSettle (s : State) : State :=
  s.modLs fun l => { l with ch := Vector.ofFn fun c =>
    let x := ix l.ch c
    { x with offOpen := x.offOpen && (s.lsCfg c).offDiag && !s.lsOn c } }

/-! ### Overcurrent, thermal protection and shedding (R393 to R395) -/

/-- LS_OVERCURRENT: held at I_LIM for t_OC the channel turns off; a burst starts or goes on, or OVERCURRENT latches. -/
def execLsOvercurrent (c : Fin 40) (s : State) : Res :=
  let x := s.lsCh c
  let k := s.lsCfg c
  .next (if !x.permitted || k.mode == 0 || s.ls.uv then s
  else
    let made := if x.burst then x.retries else 0
    if made < k.retryMax && !(x.burst && x.windowOver) then
      s.modLsCh c fun y => { y with
        burst := true, waiting := true, windowOver := y.burst && y.windowOver, carry := 0, pulse := 0, retries := made
        bursts := if y.burst then y.bursts else satInc 0xFFFF y.bursts }
    else
      (s.modLsCh c fun y => { y.drop with
        overcurrent := true, retries := made, bursts := if y.burst then y.bursts else satInc 0xFFFF y.bursts }).lsRaise 8)

/-- LS_RETRY_TIMER: the off time ends; the channel switches on again, or the burst ends without success. -/
def execLsRetryTimer (c : Fin 40) (s : State) : Res :=
  let x := s.lsCh c
  .next (if !x.waiting then s
  else if !x.commanded then s.modLsCh c LsCh.quiet
  else if x.windowOver || (s.lsCfg c).retryMax ≤ x.retries then (s.modLsCh c fun y => { y.drop with overcurrent := true }).lsRaise 8
  else (s.modLsCh c fun y => { y with waiting := false, retries := y.retries + 1 }).lsSettle)

def execLsBurstSuccess (c : Fin 40) (s : State) : Res :=
  let x := s.lsCh c
  .next (if x.burst && !x.waiting then s.modLsCh c fun y => { y with burst := false, windowOver := false, retries := 0 } else s)

def execLsBurstWindowEnd (c : Fin 40) (s : State) : Res :=
  .next (if (s.lsCh c).burst then s.modLsCh c fun y => { y with windowOver := true } else s)

/-- LS_THERMAL_TRIP: off at once, any burst ends; THERMAL latches under THERM_LATCH or at the 32nd trip within 60 s. -/
def execLsThermalTrip (c : Fin 40) (s : State) : Res :=
  let now := s.time.safetyUs
  let recent := now :: (s.lsCh c).trips.filter fun t => now < t + 60000000
  .next (if (s.lsCfg c).thermLatch || 32 ≤ recent.length then
    (s.modLsCh c fun y => { y.drop with thermal := true, hot := true, trips := recent }).lsRaise 8
  else s.modLsCh c fun y => { y.quiet with thermalWait := true, hot := true, trips := recent })

def execLsThermalCooled (c : Fin 40) (s : State) : Res :=
  .next (s.modLsCh c fun y => { y with hot := false, thermalWait := false }).lsSettle

/-- Channels that conduct or are held by protection, in shedding order: lowest SHED_PRIO, then the highest number. -/
def State.shedNext (s : State) : Option LsIdx :=
  let on := (idx 40).filter fun c => (s.lsCh c).commanded
  (List.range 4).findSome? fun prio => (on.filter fun c => (s.lsCfg c).shedPrio == prio).getLast?

/-- The sum of the currents of the channels that conduct, by their newest samples, in mA. -/
def State.loadNow (s : State) : Nat :=
  ((idx 40).map fun c => if s.lsOn c then ((s.lsCh c).near.head?.map (·.2)).getD 0 else 0).sum

/-- LS_SHED: the sum has exceeded 32.0 A for 10 ms, or a millisecond of shedding has passed: one channel turns off and its commanded
state is cleared, until the sum is 30.0 A or less. -/
def execLsShed (s : State) : Res :=
  .next (if s.loadNow ≤ (if s.ls.shedding then 30000 else 32000) then s.modLs fun l => { l with shedding := false }
  else match s.shedNext with
  | some c => ((s.modLsCh c LsCh.drop).modLs fun l => { l with shedding := true }).lsRaise 4
  | none => s)

/-! ### Lock bridges (R401 to R403) -/

/-- Start a drive (R148, R401): it waits for the end of the 100 ms after another; it fails where the direction is blocked, under LOW or
UV, and on a bridge that has yet to cool (R403). -/
def State.startDrive (s : State) (p : Port) (lock : Bool) : State :=
  let x := s.lkAt p
  if x.rest || x.state.driving then s.modLk p fun y => { y with want := some lock }
  else
    let blocked := !lock && s.unlockBlocked p
    let fresh : Lk := { dir := lock, startAt := s.time.safetyUs, blocked, uvAbort := s.ls.low || s.ls.uv, thermal := x.thermal }
    if blocked || s.ls.low || s.ls.uv || x.state = .thermalWait then s.modLk p fun _ => { fresh with state := x.state, failed := true }
    else s.modLk p fun _ => { fresh with state := if lock then .lock else .unlock }

/-- The pulse of one period: what is too short is carried, what leaves too short a gap conducts the whole period
(R400). -/
def emit (t period a b : Nat) (carry : Int) : Nat × Int :=
  let w : Int := t + carry
  let on : Nat := if w < a then 0 else if (period : Int) - b < w then period else w.toNat
  let left : Int := w - on
  (on, if (period : Int) < left then period else if left < -(period : Int) then -(period : Int) else left)

/-- LK_PERIOD: a period of a drive with V_AUX in 10 mV and the bridge current in mA. The unlock direction does not
conduct while Safety blocks it. DESIGN CHOICE (log 131). -/
def execLkPeriod (p : Port) (vaux mA : Nat) (s : State) : Res :=
  let x := s.lkAt p
  let k := ix s.cfg.lk p
  .next (if !x.state.driving then s
  else if x.state = .unlock ∧ s.unlockBlocked p then s.endDrive p fun y => { y with blocked := true, failed := true }
  else
    let period := 10000000 / max 1 k.freq
    let want := if vaux = 0 then period else min period (period * k.vDrive / vaux)
    let e := emit want period k.minOn k.minOn x.carry
    (s.modLs fun l => { l with vAux := vaux }).modLk p fun y => { y with
      pulse := e.1, gate := if e.1 = 0 then 0 else e.1 + k.dead, carry := e.2, peak := max y.peak (min 255 (mA / 20)) })

def execLkDriveEnd (p : Port) (s : State) : Res := .next (s.endDrive p id)
def execLkStall (p : Port) (s : State) : Res := .next (s.endDrive p fun x => { x with stall := true })

/-- LK_THERMAL: the bridge's thermal shutdown; THERMAL until it has cooled. DEDUCED (log 129). -/
def execLkThermal (p : Port) (s : State) : Res := .next (s.endDrive p fun x => { x with thermal := true, failed := true })

/-- LK_BRAKE_END: the 100 ms are over: every switch off, or the bridge waits to cool; a drive that waited starts. DEDUCED (log 129). -/
def execLkBrakeEnd (p : Port) (s : State) : Res :=
  let x := s.lkAt p
  let t := if x.rest then s.modLk p fun y => { y with
      rest := false, want := none, state := if y.state = .braking then (if y.thermal then .thermalWait else .off) else y.state }
    else if x.state = .thermalWait then s.modLk p fun y => { y with state := .off, thermal := false } else s
  .next (match x.want with
  | some d => if x.rest then t.startDrive p d else t
  | none => t)

/-! ### Supply dips (R396, R600) -/

/-- VAUX_LOW: open-load detection is suspended; a lock drive ends as a failed attempt. -/
def execVauxLow (s : State) : Res :=
  .next ((s.modLs fun l => { l with low := true }).each (n := 8) fun p t => t.endDrive p fun x => { x with uvAbort := true, failed := true })

/-- What hangs on VAUX at Safety goes off with it: a coil that loses its current is a contactor fault, or fails its weld test; a
brake is applied; a SAFE_OUT is off (R336, R379, R592). DEDUCED (log 172). -/
def State.auxLost (s : State) : State :=
  let s1 := s.each (n := 8) fun p t =>
    if !(t.spAt p).coil then t
    else match (t.spAt p).test with
      | some w => if w.code = 3 then t.failWeld p w 2 else t.contactorFault p
      | none => t.contactorFault p
  ((s1.each (n := 2) fun b t => if (t.brkAt b).released then t.applyBrake b else t).writeOuts).checkStop

/-- Every output of the drive die off; commanded states stay; bursts and carries end. DEDUCED (log 172). -/
def State.underVoltage (s : State) : State :=
  if s.ls.uv then s
  else
    let s1 := (s.modLs fun l => { l with
      uv := true, restore := none, booting := false, uvEvents := satInc 255 l.uvEvents
      ch := vmap (fun x => { x.quiet with uvOff := true, retries := 0, thermalWait := false }) l.ch }).lsRaise 1
    s1.auxLost.each (n := 8) fun p t => (t.endDrive p fun x => { x with uvAbort := true, failed := true }).modLk p fun x => { x with
      state := if x.thermal then .thermalWait else .off }

def execVauxUv (s : State) : Res := .next s.underVoltage

/-- The restore has reached every channel; RESTORED is of a supply dip, not of BOOT_ON (R392, R405). -/
def State.restoreEnd (s : State) : State :=
  let t := (s.modLs fun l => { l with restore := none, booting := false, ch := vmap (fun x => { x with uvOff := false }) l.ch }).lsSettle
  if s.ls.booting then t else t.lsRaise 2

/-- The restore's next group of eight channels that are commanded on (R396). -/
def State.restoreGroup (s : State) (from_ : Nat) : State :=
  let next := ((idx 40).filter fun c => from_ ≤ c.1 && (s.lsCh c).uvOff && (s.lsCh c).commanded).take 8
  let s1 := (next.foldl (fun t c => t.modLsCh c fun x => { x with uvOff := false, burst := false, retries := 0 }) s).lsSettle
  match next.getLast? with
  | some c =>
    if (idx 40).any fun d => c < d && (s.lsCh d).uvOff && (s.lsCh d).commanded then s1.modLs fun l => { l with restore := some (c.1 + 1) }
    else s1.restoreEnd
  | none => s1.restoreEnd

/-- VAUX_RECOVERED: LOW and UV clear; after UV the restore runs. -/
def execVauxRecovered (s : State) : Res :=
  let s1 := s.modLs fun l => { l with low := false, uv := false }
  .next (if s.ls.uv then s1.restoreGroup 0 else s1)

def execLsRestoreGroup (s : State) : Res :=
  .next (match s.ls.restore with
  | some n => s.restoreGroup n
  | none => s)

/-- VAUX_OVERVOLTAGE: above 38 V acts as UV; VAUX_OVERVOLTAGE_END starts the restore (R600). -/
def execVauxOvervoltage (s : State) : Res := .next s.underVoltage
def execVauxOvervoltageEnd (s : State) : Res :=
  .next (if s.ls.uv then (s.modLs fun l => { l with uv := false }).restoreGroup 0 else s)

/-! ### Open load (R397) -/

/-- A current sample of 1 ms is kept for 10 ms, and for a second while no newer one reaches it (R406, R409). -/
def LsCh.sample (x : LsCh) (now mA : Nat) : LsCh :=
  { x with
    near := (now, mA) :: x.near.filter fun t => now < t.1 + 10000
    peaks := (now, mA) :: x.peaks.filter fun t => now < t.1 + 1000000 && mA < t.2 }

/-- Mean current over the last 10 ms, a millisecond without a sample counting as none; and the last second's peak. -/
def LsCh.mean (x : LsCh) (now : Nat) : Nat := ((x.near.filter fun t => now < t.1 + 10000).map (·.2)).sum / 10
def LsCh.peak (x : LsCh) (now : Nat) : Nat := ((x.peaks.filter fun t => now < t.1 + 1000000).map (·.2)).foldl max 0

/-- LS_OPEN_LOAD_SAMPLE: a sample of a conducting channel's current in mA; ten in a row set or clear OPEN_LOAD. DESIGN CHOICE (log 131). -/
def execLsOpenLoadSample (c : Fin 40) (mA : Nat) (s : State) : Res :=
  let x := s.lsCh c
  let k := s.lsCfg c
  let s1 := s.modLsCh c fun y => y.sample s.time.safetyUs mA
  .next (if s.ls.low || s.ls.uv || !s.lsOn c then s1
  else if k.mode == 2 && x.pulse < 2000 && !(ix s.ls.pwm ⟨k.src % 8, by omega⟩).static then
    s1
  else
    let below := mA < (if k.olFine then k.olThresh else 35)
    let run := if below == x.openLoad then 0 else x.olRun + 1
    let set := run == 10
    let s2 := s1.modLsCh c fun y => { y with
      olRun := if set then 0 else run, openLoad := if set then below else y.openLoad }
    if set && below then s2.lsRaise 0x10 else s2)

/-- OL_SUSPENDED: a PWM channel that has emitted no pulse of 200 µs for 100 ms; one that conducts all the time emits (R397). -/
def State.olSuspended (s : State) (c : LsIdx) : Bool :=
  let x := s.lsCh c
  let w := ix s.ls.pwm ⟨(s.lsCfg c).src % 8, by omega⟩
  (s.lsCfg c).mode == 2 && x.commanded && !(w.static && w.level && s.lsOn c) && decide (x.lastPulse + 100000 ≤ s.time.safetyUs)

/-- OFF_OPEN: on an off channel with OFF_DIAG the output stays above 3.0 V for 10 ms, or no longer. -/
def execOffOpen (c : Fin 40) (open_ : Bool) (s : State) : Res :=
  .next (s.modLsCh c fun x => { x with offOpen := open_ && (s.lsCfg c).offDiag && !s.lsOn c })

/-! ### PWM from the input pins (R398 to R400) -/

/-- T_MIN of 50 µs, in 0.1 µs. -/
def lsTMin : Nat := 500

/-- The request of a channel: the lamp's mean power does not depend on VAUX (R399); and whether the period limits it. -/
def lampRequest (lamp : Bool) (tIn period vNom vaux : Nat) : Nat × Bool :=
  if !lamp || vaux = 0 then (min period tIn, false)
  else
    let t := tIn * vNom * vNom / (vaux * vaux)
    (min period t, decide (period < t))

/-- The period of a pin ends, and with it what a channel held of the configuration before (R404); the time for which a static level has
conducted counts as a pulse. -/
def State.endHold (s : State) (k : Fin 8) : State :=
  let w := ix s.ls.pwm k
  s.each (n := 40) fun c u =>
    let x := u.lsCh c
    let u1 := if w.static && w.level && (u.lsCfg c).mode == 2 && (u.lsCfg c).src == k.1 && u.lsOn c then
      u.modLsCh c fun y => { y with lastPulse := s.time.safetyUs } else u
    if x.hold != some k.1 then u1
    else u1.modLsCh c fun y =>
      let z := { y with hold := none, pulse := 0, carry := 0 }
      if (s.lsCfg c).mode = 0 then z.drop else z

/-- LSPWM_EDGE: a rising edge ends a period of length t with high time tIn (0.1 µs); an output period starts on every
channel of the pin from the previous high time, but none in the first period after a static level. V_AUX is the mean in
10 mV. DEDUCED (log 169). -/
def execLspwmEdge (k : Fin 8) (t tIn vaux : Nat) (s : State) : Res :=
  let w := ix s.ls.pwm k
  let valid := inRange 5000 200000 t
  let first := w.static
  let mine (c : LsIdx) : Bool := (s.lsCfg c).mode == 2 && (s.lsCfg c).src == k.1
  let s0 := s.endHold k
  let s1 := s0.modLs fun l => { l with
    vAux := vaux, pwm := upd l.pwm k fun x => { x with
      level := true, static := false, validAt := if valid && !first then some s.time.safetyUs else x.validAt
      bad := !first && !valid, tIn := if valid && !first then some tIn else none } }
  .next (State.lsSettle <| s1.each (n := 40) fun c u =>
    if !mine c then u
    else if first || !valid then u.modLsCh c fun x => { x with pulse := 0, carry := 0, compLimit := false }
    else if !(u.lsCh c).permitted || u.ls.uv then u.modLsCh c fun x => { x with pulse := 0, carry := 0 }
    else
      let q := lampRequest (u.lsCfg c).lamp tIn t u.cfg.vNom vaux
      let e := emit q.1 t lsTMin lsTMin (u.lsCh c).carry
      u.modLsCh c fun x => { x with
        pulse := e.1, carry := e.2, compLimit := q.2, lastPulse := if 2000 ≤ e.1 then u.time.safetyUs else x.lastPulse })

/-- LSPWM_STATIC: one level for 25 ms; no regeneration, carry 0. -/
def execLspwmStatic (k : Fin 8) (level : Bool) (s : State) : Res :=
  let s1 := (s.endHold k).modLs fun l => { l with pwm := upd l.pwm k fun x => { level, static := true, validAt := x.validAt } }
  .next (State.lsSettle <| s1.each (n := 40) fun c u =>
    if (s.lsCfg c).mode == 2 && (s.lsCfg c).src == k.1 then u.modLsCh c fun x => { x with pulse := 0, carry := 0, compLimit := false } else u)

/-! ### Registers (R405 to R407) -/

/-- Σ I_NOM of channels, in mA. -/
def State.nomSum (s : State) (on : LsIdx → Bool) : Nat := ((idx 40).map fun c => if on c then (s.lsCfg c).iNom else 0).sum
def State.currentSum (s : State) : Nat := ((idx 40).map fun c => (s.lsCh c).mean s.time.safetyUs).sum

/-- The level of an input pin: a pin that is not static is read between its edges, where the level is free. DESIGN CHOICE (log 207). -/
def State.pinLevel (s : State) (k : Fin 8) : Bool :=
  let w := ix s.ls.pwm k
  if w.static then w.level else Config.pinLevel k.1 s.time.safetyUs

def State.lsBlock (s : State) (g : Guest) : List Word :=
  let l := s.ls
  let bits (f : LsCh → Bool) := (idx 40).map fun c => f (ix l.ch c)
  let pw (f : LsPwm → Bool) := flagWord ((idx 8).map fun k => f (ix l.pwm k))
  [pack [(15, 0, l.vAux), (16, 16, b1 l.low), (17, 17, b1 l.uv), (18, 18, b1 (l.restore.isSome && !l.booting)), (31, 24, l.uvEvents)],
    pack [(15, 0, min 0xFFFF (s.currentSum / 10)), (31, 16, s.nomSum (fun c => (s.lsCh c).commanded) / 10)],
    w32 (flagWord ((bits (·.commanded)).take 32)), w32 (flagWord ((bits (·.commanded)).drop 32)),
    w32 (flagWord ((bits fun x => x.overcurrent || x.thermal).take 32)), w32 (flagWord ((bits fun x => x.overcurrent || x.thermal).drop 32)),
    pack [(7, 0, flagWord ((idx 8).map s.pinLevel)), (15, 8, pw fun w => w.validAt.any fun t => s.time.safetyUs < t + 25000),
      (23, 16, pw (·.bad))], ix l.ev g]

/-- STATE of LS_CH. -/
def State.lsState (s : State) (c : LsIdx) : Nat :=
  let x := s.lsCh c
  let k := s.lsCfg c
  if k.mode = 0 && x.hold.isNone then 8 else if x.overcurrent || x.thermal then 5 else if !x.commanded then 0 else if s.ls.uv || x.uvOff then 7
  else if x.thermalWait then 4 else if x.burst then 3 else if s.ls.low then 6 else if k.mode = 2 || x.hold.isSome then 2 else 1

def State.lsChWord (s : State) (c : LsIdx) : Word :=
  let x := s.lsCh c
  pack [(31, 28, s.lsState c), (27, 27, b1 x.openLoad), (26, 26, b1 (s.olSuspended c)), (25, 25, b1 x.compLimit), (24, 24, b1 x.thermal),
    (23, 23, b1 x.overcurrent), (22, 22, b1 (x.offOpen && (s.lsCfg c).offDiag && !s.lsOn c)), (21, 18, x.retries),
    (11, 0, min 4095 (x.mean s.time.safetyUs))]

def State.lkStat (s : State) (p : Port) : Word :=
  let x := s.lkAt p
  pack [(31, 28, x.state.code), (27, 27, b1 (s.unlockBlocked p)), (26, 26, b1 x.blocked), (25, 25, b1 x.uvAbort), (24, 24, b1 x.stall),
    (23, 16, x.peak), (15, 0, x.length)]

/-! ### Group 0x40 (R408 to R410) -/

def execGetLsStatus (r : Req) (s : State) : Res := .next (s.answer r Code.done (s.lsBlock r.guest))

/-- CFG_A and CFG_B of GET_LS_CHANNEL, as words 4 and 5 of SET_LS_CONFIG. -/
def LsCfg.wordA (k : LsCfg) : Word :=
  pack [(1, 0, k.mode), (4, 2, k.src), (5, 5, b1 k.lamp), (6, 6, b1 k.thermLatch), (7, 7, b1 k.bootOn), (11, 8, k.retryMax),
    (13, 12, k.shedPrio), (19, 16, k.owner), (20, 20, b1 k.any), (21, 21, b1 k.offDiag), (22, 22, b1 k.olFine)]
def LsCfg.wordB (k : LsCfg) : Word := pack [(11, 0, k.iNom), (20, 16, k.olThresh)]

def execGetLsChannel (r : Req) (s : State) : Res :=
  .next (if h : r.fld 3 5 0 < 40 then
    let c : LsIdx := ⟨r.fld 3 5 0, h⟩
    s.answer r Code.done [s.lsChWord c, (s.lsCfg c).wordA, (s.lsCfg c).wordB,
      pack [(11, 0, min 4095 ((s.lsCh c).peak s.time.safetyUs)), (31, 16, (s.lsCh c).bursts)]]
  else s.answer r Code.outOfRange)

def execGetLkStatus (r : Req) (s : State) : Res :=
  let k := ix s.cfg.lk r.port
  .next (s.answer r Code.done [s.lkStat r.port, w32 k.freq, pack [(7, 0, k.dead), (15, 8, k.minOn)],
    pack [(15, 0, k.vDrive), (23, 16, k.iLim)]])

/-- The channels that MASK names, and the state VALUE gives one. -/
def lsNamed (r : Req) (c : LsIdx) : Bool := if c.1 < 32 then r.bit 3 c.1 else r.bit 4 (c.1 - 32)
def lsValue (r : Req) (c : LsIdx) : Bool := if c.1 < 32 then r.bit 5 c.1 else r.bit 6 (c.1 - 32)

/-- The sender owns a channel (R391). -/
def State.lsOwner (s : State) (g : Guest) (c : LsIdx) : Bool := (s.lsCfg c).any || (s.lsCfg c).owner == g.1

def lsRefused (reason channel : Nat) : List Word := [pack [(7, 0, reason), (13, 8, channel)]]

/-- SET_LS_OUTPUT acts on every channel it names, or on none. -/
def execSetLsOutput (r : Req) (s : State) : Res :=
  let named := (idx 40).filter (lsNamed r)
  let on (c : LsIdx) : Bool := if lsNamed r c then lsValue r c else (s.lsCh c).commanded
  let fails (c : LsIdx) : Option Nat := firstReason [(1, !s.lsOwner r.guest c), (2, (s.lsCfg c).mode == 0),
    (3, lsValue r c && ((s.lsCh c).overcurrent || (s.lsCh c).thermal))]
  .next (match named.findSome? fun c => (fails c).map fun why => (why, c.1) with
  | some (why, c) => s.answer r Code.refused (lsRefused why c)
  | none =>
    if 32000 < s.nomSum on then s.answer r Code.refused (lsRefused 4 0x3F)
    else
      (named.foldl (fun t c => t.modLsCh c fun x =>
        if lsValue r c then x.turnOn s.ls.uv s.time.safetyUs else x.drop) s).lsSettle.answer r Code.done)

/-- CLEAR_LS_FAULT: a thermal latch clears only once the junction has cooled. -/
def execClearLsFault (r : Req) (s : State) : Res :=
  let named := (idx 40).filter (lsNamed r)
  let latched (c : LsIdx) : Bool := (s.lsCh c).overcurrent || (s.lsCh c).thermal
  let fails (c : LsIdx) : Option Nat := firstReason [(1, !s.lsOwner r.guest c), (5, (s.lsCh c).thermal && (s.lsCh c).hot)]
  .next (match named.findSome? fun c => (fails c).map fun why => (why, c.1) with
  | some (why, c) => s.answer r Code.refused (lsRefused why c)
  | none =>
    if !named.any latched then s.answer r Code.wrongState
    else (named.foldl (fun t c => t.modLsCh c fun x => { x with overcurrent := false, thermal := false }) s).answer r Code.done)

end Sys2Proof.Machine
end

