-- ==== Sys2Proof/Machine/VehOps.lean ====
section
/-! DEFINITION. A vehicle port's parts: events, the CP generator and its duty, the cable lock, SLAC's memory and what the
link leaves behind (spec 06 R129 to R151, 08 R208). -/

namespace Sys2Proof.Machine

/-- Raise VP_EVENT bits (R151). -/
def State.vpRaise (s : State) (p : Port) (bits : Word) : State :=
  ((s.modVeh p fun x => { x with ev := raiseAll x.ev bits }).service 1 p.1 bits.toNat).pendPort p (s.vehAt p).ev bits

def State.sesCfg (s : State) (p : Port) : SesCfg := ix s.cfg.ses p
/-- The port's vehicle link runs over 10BASE-T1S (R143). -/
def State.isT1s (s : State) (p : Port) : Bool := (s.portCfg p).connType == 2

/-- A vehicle is connected, by the link state. -/
def LinkState.inUse : LinkState → Bool
  | .plugged | .matching | .linked | .connected | .basic | .retry | .fault => true
  | .off | .idle => false

def CpState.present : CpState → Bool
  | .b | .c | .d => true
  | _ => false
/-- PP neither ABSENT nor INVALID. -/
def PpCode.valid : PpCode → Bool
  | .absent | .invalid => false
  | _ => true

/-! ### Advertised current (R134, R208) -/

/-- duty(x) of R134 for x in 0.1 A; none is PWM off. -/
def dutyOf (x : Nat) : Option Nat :=
  if x = 0 then none
  else if x ≤ 510 then some (x * 10 / 6)
  else
    let d := x * 2 / 5 + 640
    some (if 850 < d then d else 850)

/-- Cable rating by the PP code in 0.1 A. -/
def PpCode.rating : PpCode → Nat
  | .a13 => 130 | .a20 => 200 | .a32 => 320 | .a63 => 630 | _ => 0

/-- The current that a power in W allows an AC port at the voltage that Legal last reported, in 0.1 A; none at 0 V. -/
def State.acOf (s : State) (p : Port) (w : Nat) : Option Nat :=
  let v := (s.metAt p).regU.natAbs
  if v = 0 then none
  else
    let x := w * 1000 / (s.phases p * v)
    some (if x < 60 then 0 else x)
/-- CHARGE_CAP as such a current (R221). DEDUCED (log 76). -/
def State.acHostCap (s : State) (p : Port) : Option Nat :=
  if (s.pwrAt p).chargeCap = 0xFFFFFF then none else s.acOf p (s.pwrAt p).chargeCap

/-- Current before any power cap: the command, AC_MAX and the cable. Before any SET_AC_CURRENT the command bounds nothing. DESIGN CHOICE (log 210). -/
def State.acOffered (s : State) (p : Port) : Nat :=
  let m := min (s.portCfg p).acMax (s.vehAt p).pp.code.rating
  match (s.vehAt p).acCmd with
  | some c => min c m
  | none => m

/-- Current before the port power cap: what is offered, and the host's cap. -/
def State.acWanted (s : State) (p : Port) : Nat :=
  let n := s.acOffered p
  match s.acHostCap p with
  | some x => min x n
  | none => n

/-- The session is in CLOSING to RAMPDOWN: it shares in the division (R215). -/
def State.sharesLease (s : State) (p : Port) : Bool :=
  match (s.sesAt p).state with
  | .closing | .charging | .paused | .rampdown => true
  | _ => false

/-- x of R208, none where no power cap is in force: the port has no part in the division, or no voltage is reported. -/
def State.acCap (s : State) (p : Port) : Option Nat := if s.sharesLease p then s.acOf p (s.pwrAt p).cap else none

/-- Advertised current of an AC port in 0.1 A (R134). DEDUCED (log 55). -/
def State.advertised (s : State) (p : Port) : Nat :=
  match s.acCap p with
  | some x => min x (s.acWanted p)
  | none => s.acWanted p

/-- DEDUCED (log 63). -/
def CpDrive.duty : CpDrive → Nat
  | .hlc => 50
  | .nominal d => d
  | .high | .f => 0
def CpDrive.pwm : CpDrive → Bool
  | .hlc | .nominal _ => true
  | .high | .f => false

/-- Drive CP: without PWM no diode test stands, and in state F nothing is classified (R131 to R133). -/
def State.drive (s : State) (p : Port) (d : CpDrive) : State :=
  s.modVeh p fun x => { x with cp := { x.cp with
    fNow := d == .f && (x.cp.fNow || x.cp.drive != .f)
    drive := d, lo := if d.pwm then x.cp.lo else 0, diodeOk := x.cp.diodeOk && d.pwm
    diodeIn := if d.pwm then x.cp.diodeIn else 0, diodeOut := if d.pwm then x.cp.diodeOut else 0 } }

/-- Bring the duty of a BASIC port to the advertised current; an AC port with a protocol is sent the same current. -/
def State.refreshPwm (s : State) (p : Port) : State :=
  let x := s.vehAt p
  if !s.isAc p then s
  else
    match x.link with
    | .basic =>
      let d := if x.pwmHeld then CpDrive.high else match dutyOf (s.advertised p) with
        | some n => .nominal n
        | none => .high
      if x.cp.drive = d then s else s.drive p d
    | .connected => s.emit (.toVehicle p 2 (s.advertised p))
    | _ => s

/-! ### The cable lock (R148, R149) -/

/-- What the feedback contact shows under LOCK_FB. -/
def State.fbLocked (s : State) (p : Port) : Bool := (s.vehAt p).lock.fbClosed == ((s.portCfg p).lockFb == 1)
def State.modLock (s : State) (p : Port) (f : Lock → Lock) : State := s.modVeh p fun x => { x with lock := f x.lock }
/-- The position that the feedback shows. -/
def State.lockShown (s : State) (p : Port) : LockState := if s.fbLocked p then .locked else .unlocked

/-- Begin an attempt: LKp is driven in the wanted direction. -/
def State.lockAttempt (s : State) (p : Port) : State :=
  let k := (s.vehAt p).lock
  (s.modLock p fun x => { x with
    state := if k.target then .locking else .unlocking, phase := .pulse, attempt := k.attempt + 1 }).startDrive p k.target

/-- Start a lock or unlock; while another runs, it waits for that one's end. Service unlocks nothing while the contactors
are not open and confirmed (R149). DEDUCED (log 65). -/
def State.startLock (s : State) (p : Port) (lock : Bool) (cmd : Option Req) : State :=
  if !(s.portCfg p).lockPresent || (!lock && !s.openOk p) then s
  else if (s.vehAt p).lock.phase != .idle then s.modLock p fun x => { x with next := some lock }
  else (s.modLock p fun x => { x with target := lock, attempt := 0, stopping := false, cmd }).lockAttempt p

/-- A lock or unlock ends with a result: LOCK shows the feedback, or FAULT. DEDUCED (log 65). -/
def State.lockEnd (s : State) (p : Port) (code : Nat) : State :=
  let cmd := (s.vehAt p).lock.cmd
  let s1 := s.modLock p fun x => { x with
    phase := .idle, stopping := false, cmd := none, next := none
    state := if code = Code.fault then .fault else s.lockShown p }
  let s2 := if code = Code.done then s1.vpRaise p 0x200 else if code = Code.fault then s1.vpRaise p 0x400 else s1
  let s3 := s2.finalOpt cmd code
  match (s.vehAt p).lock.next with
  | some d => s3.startLock p d none
  | none => s3

/-- RESET_PORT or UNPLUG during a drive: it runs to the end of its pulse, and no drive that waits for it follows (R149). -/
def State.stopLock (s : State) (p : Port) : State :=
  let t := s.modLock p fun x => { x with next := none }
  match (s.vehAt p).lock.phase with
  | .idle => t
  | .pulse =>
    if (s.lkAt p).want.isSome then (t.modLk p fun x => { x with want := none }).lockEnd p Code.cancelled
    else t.modLock p fun x => { x with stopping := true }
  | .feedback | .pause => t.lockEnd p Code.cancelled

/-! ### The link's own state -/

/-- Enter a link state; FAULT raises its event. -/
def State.linkTo (s : State) (p : Port) (l : LinkState) : State :=
  let t := s.modVeh p fun x => { x with link := l }
  if l == .fault then t.vpRaise p 0x100 else t

/-- The connection is gone: protocol, mode and TLS are none. -/
def State.dropProtocol (s : State) (p : Port) : State :=
  s.modVeh p fun x => { x with protocol := 0, mode := 0, dynamic := false, tls := false, sdp := false }

/-- The modem leaves the logical network; the NMK and the vehicle's statements are discarded. -/
def State.clearLink (s : State) (p : Port) : State :=
  (s.dropProtocol p).modVeh p fun x => { x with
    slac := { atten := x.slac.atten }, contract := {}, cert := {}, fallback := false, pwmHeld := false, acCmd := none, evVmax := 0, evImax := 0
    evPmax := 0, evPdis := 0 }

/-- What IDLE clears besides: the retries used and the vehicle's identifier. -/
def State.clearIdle (s : State) (p : Port) : State := (s.clearLink p).modVeh p fun x => { x with retries := 0, evccid := 0 }

/-- The match in progress is discarded. -/
def State.dropMatch (s : State) (p : Port) : State :=
  s.modVeh p fun x => { x with slac := { initOver := x.slac.initOver, refused := x.slac.refused, atten := x.slac.atten } }

/-- Events that a trigger of the PWM period in progress raised, and that a trigger which R138 takes before it makes void. -/
def State.voidNow (s : State) (p : Port) (bits : Word) : State :=
  s.modVeh p fun x => { x with ev := Vector.ofFn fun g => ix x.ev g &&& ~~~ (bits &&& ~~~ ix x.evWas g) }

/-- A port is disabled at its session boundary: CP to F, modem off, OFF; it comes before every other link trigger of its PWM period
(R133, R137, R138, R162). -/
def State.portOff (s : State) (p : Port) : State :=
  if (s.vehAt p).link = .off then s.drive p .f
  else
    let t := (((((s.voidNow p 0x1F3).stopLock p).clearIdle p).linkTo p .off).drive p .f).modVeh p fun x => { x with faultNow := false }
    (t.modVeh p fun x => { x with cp := { x.cp with cand := .a, agree := 0 } }).modSes p fun x => { x with state := .off }

/-- A port is enabled: +12 V without PWM, IDLE. CP is classified anew; PP is measured in every state. -/
def State.portOn (s : State) (p : Port) : State :=
  if (s.vehAt p).link != .off then s
  else
    (((s.linkTo p .idle).modVeh p fun x => { x with cp := { drive := .high } }).modSes p fun x => { x with
      state := if x.state = .off then .idle else x.state })

/-- Link and session follow ENABLE of the configuration in force. -/
def State.followEnable (s : State) (p : Port) : State :=
  if (s.portCfg p).enable then s.portOn p else s.portOff p

/-- Average attenuation over the sounds received, as sum and count. -/
def Slac.avg (x : Slac) : Nat × Nat := (x.sounds.sum, x.sounds.length)
/-- Average attenuation a is within d dB of b. -/
def withinDb (a b : Nat × Nat) (d : Nat) : Bool := a.1 * b.2 ≤ (b.1 + d * b.2) * a.2
/-- Average attenuation is at most d dB. -/
def atMostDb (a : Nat × Nat) (d : Nat) : Bool := a.2 != 0 && a.1 ≤ d * a.2

/-! ### Registers (R151) -/

def State.vpStat (s : State) (p : Port) : Word :=
  let x := s.vehAt p
  let cp := if x.cp.drive = .f then CpState.f else x.cp.state
  let lock := if (s.portCfg p).lockPresent then x.lock.state else .none
  pack [(31, 28, x.link.code), (27, 24, x.protocol), (23, 20, cp.code), (19, 16, x.pp.code.code), (15, 12, x.mode),
    (11, 10, (s.portCfg p).connType), (9, 9, b1 x.cp.drive.pwm), (8, 8, b1 x.cp.diodeOk), (7, 5, lock.code), (4, 4, b1 x.tls),
    (3, 3, b1 x.contract.presented), (1, 1, b1 (s.portCfg p).enable)]

/-- DEDUCED (log 63). -/
def State.vpPwm (s : State) (p : Port) : Word :=
  let x := s.vehAt p
  let adv := match x.cp.drive with
    | .nominal _ => s.advertised p
    | _ => if s.isAc p && x.link == .connected then s.advertised p else 0
  pack [(9, 0, x.cp.drive.duty), (25, 16, adv), (26, 26, b1 (x.cp.drive == .hlc))]

def State.vpLink (s : State) (p : Port) : Word :=
  let c := ix s.host.claim p
  pack [(7, 0, min 255 (s.vehAt p).slac.atten), (15, 8, (s.vehAt p).retries), (19, 16, (c.map (·.1)).getD 0), (20, 20, b1 c.isSome)]

def State.vpBlock (s : State) (g : Guest) (p : Port) : List Word :=
  let x := s.vehAt p
  [s.vpStat p, wInt x.cp.hi, wInt x.cp.lo, s.vpPwm p, s.vpLink p, ix x.ev g] ++ pair48 x.evccid

end Sys2Proof.Machine
end

