-- ==== Sys2Proof/Machine/PowerOps.lean ====
section
/-! DEFINITION. Power delivery: the power-module links, target current, ramp limiter, run-ahead and the division of the lease
(spec 08 R182 to R208, R215). -/

namespace Sys2Proof.Machine

/-- Bits of PWR_EVENT that become set make PORTp pending (R217). -/
def State.pwrRaise (s : State) (p : Port) (bits : Word) : State :=
  let old := (s.pwrAt p).ev
  let t := s.modPwr p fun x => { x with ev := raiseAll x.ev bits }
  s.each (n := 16) (fun g u => if s.seesPort g p && (bits &&& ~~~ ix old g) != 0 then u.irq g (19 + p.1) else u) |> fun u =>
    { u with pwr := t.pwr }

def State.pwrCfg (s : State) (p : Port) : PwrCfg := ix s.cfg.pwr p
def State.pmLink (s : State) (l : PmIdx) : PmLink := ix s.pm l
def State.modPmLink (s : State) (l : PmIdx) (f : PmLink → PmLink) : State := { s with pm := upd s.pm l f }

/-- The port mapped to a channel of a link (R183). -/
def State.portOfCh (s : State) (l : PmIdx) (ch : Nat) : Option Port :=
  (idx 8).find? fun p => (s.pwrCfg p).map == some (l, ch)
/-- Ports mapped to a link. -/
def State.portsOn (s : State) (l : PmIdx) : List Port :=
  (idx 8).filter fun p => ((s.pwrCfg p).map.map (·.1)) == some l

/-- The 36 bytes of a frame: W0 with TYPE, CH, SEQ and GEN, W1 to W7 (0 where not given), and the CRC-32 of those 32 bytes in
W8, each word least significant byte first (R185, R186). -/
def pmBytes (type ch seq gen : Nat) (ws : List Word) : List Byte :=
  let b := padTo 32 (wordsToBytes (pack [(31, 28, type), (26, 24, ch), (23, 16, seq), (15, 8, gen)] :: ws))
  b ++ leBytes 4 (crc32 b)

/-- A link sends frames of this TYPE now: nothing on a link that is down or in a fault; while a link trains, its SYNC frames and
what stops a channel, since no power is delivered before the link is up (R183, R190). -/
def PmLink.sends (k : PmLink) (type : Nat) : Bool :=
  match k.state with
  | .down | .fault => false
  | .training => [3, 4, 6].contains type
  | .up => true

/-- Send a frame on a link (R185, R186). -/
def State.pmSend (s : State) (l : PmIdx) (type ch gen : Nat) (ws : List Word) : State :=
  let k := s.pmLink l
  if k.sends type then
    (s.modPmLink l fun x => { x with txSeq := (x.txSeq + 1) % 256, tx := (x.tx + 1) % 2 ^ 32 }).emit
      (.pmFrame l (pmBytes type ch k.txSeq gen ws))
  else s

/-- Send a frame of a port's channel. -/
def State.portSend (s : State) (p : Port) (type : Nat) (ws : List Word) : State :=
  match (s.pwrCfg p).map with
  | some (l, ch) => s.pmSend l type ch (s.pwrAt p).gen ws
  | none => s

/-- The frames that wait for an ACK once another is sent: a RECALL supersedes an earlier one (R200). -/
def ackQueue (l : List AckWait) (a : AckWait) : List AckWait :=
  (if a.type = 2 then l.filter (·.type ≠ 2) else l) ++ [a]

/-- Send a RECALL (2), HALT (4) or ENABLE (5) and wait for its ACK (R184). -/
def State.sendAcked (s : State) (p : Port) (type w1 : Nat) : State :=
  match (s.pwrCfg p).map with
  | none => s
  | some (l, _) =>
    let k := s.pmLink l
    if k.sends type then
      let a : AckWait := { type, w1, gen := (s.pwrAt p).gen, seqs := [k.txSeq], at_ := s.time.chain }
      let t := (s.portSend p type [w32 w1]).modPwr p fun x => { x with acks := ackQueue x.acks a }
      if type = 2 then t.modPmLink l fun k => { k with recalls := (k.recalls + 1) % 2 ^ 32 } else t
    else s

/-- The copy that goes out next: 8 µs and 16 µs after the first, of the frame whose turn comes first (R184). -/
def nextRepeat (l : List AckWait) : Option AckWait :=
  let due (a : AckWait) : Nat := a.at_ + 8000 * a.seqs.length
  (l.filter (·.seqs.length < 3)).foldl (fun b a => match b with
    | some x => if due a < due x then some a else b
    | none => some a) none

/-! ### Target current (R191, R195, R207) -/

/-- A power in W as a current in mA at a voltage in 10 mV, rounded toward zero; none at 0 V. -/
def mAof (w : Int) (v : Int) : Option Int := if v ≤ 0 then none else some (Int.tdiv (w * 100000) v)

def minOpt (a : Int) (b : Option Int) : Int := match b with
  | some x => min a x
  | none => a
/-- A limit that the vehicle states as 0 is not stated. DEDUCED (log 72). -/
def stated (n : Nat) : Option Int := if n = 0 then none else some n

/-- Connector limits: mA and 10 mV (R20). -/
def State.connMax (s : State) (p : Port) : Nat × Nat :=
  match (ix s.cfg.port p).connType with
  | 0 => (63000, 0xFFFFFF)
  | 1 => (500000, 100000)
  | _ => (3000000, 125000)

/-- V_SET: the vehicle's target voltage under the caps of R191. -/
def State.vSet (s : State) (p : Port) : Int :=
  let x := s.pwrAt p
  let v := minOpt (min x.vTgt (min x.limits.vMax (s.pwrCfg p).vMax)) (stated (s.vehAt p).evVmax)
  max 0 v

/-- I_CAP of R195 in mA. -/
def State.iCap (s : State) (p : Port) : Int := 5000 * (min (s.pwrAt p).limits.slewDn (s.pwrCfg p).slewDn : Nat)

/-- Export is allowed: BIDIR_OK, BIDIR of LIMITS, and a bidirectional mode (R207). -/
def State.mayExport (s : State) (p : Port) : Bool :=
  (s.pwrCfg p).bidirOk && !(s.nrgAt p).ps && (s.pwrAt p).limits.bidir && [3, 4, 6].contains (s.vehAt p).mode

/-- What the vehicle asks for, or the dynamic-mode target the host set (R220); zero in a controlled end. -/
def State.asked (s : State) (p : Port) : Int :=
  let x := s.pwrAt p
  let v := s.vSet p
  let i := match x.dynTarget with
    | some w => (mAof w v).getD x.iTgt
    | none => x.iTgt
  if x.toZero then 0 else if i < 0 && !s.mayExport p then 0 else i

/-- A host cap in W, none for 0xFF_FFFF. -/
def hostCap (n : Nat) : Option Int := if n = 0xFFFFFF then none else some n

/-- The caps of R191 on a charging target, each in mA: all but the port power cap, the host's and I_CAP; those three. DEDUCED (log 72). -/
def State.chargeCaps (s : State) (p : Port) : Int × Option Int × Option Int × Int :=
  let x := s.pwrAt p
  let e := s.vehAt p
  let v := s.vSet p
  let base := minOpt (minOpt (minOpt (min x.limits.iMax (min (s.pwrCfg p).iMax (s.connMax p).1)) (stated e.evImax))
    ((stated e.evPmax).bind (mAof · v))) (mAof x.limits.pMax v)
  (base, mAof x.cap v, (hostCap x.chargeCap).bind (mAof · v), s.iCap p)

/-- The mirror-image caps on a discharging target, as magnitudes; the lease does not bound export (R207). -/
def State.dischargeCaps (s : State) (p : Port) : Int × Option Int × Int :=
  let x := s.pwrAt p
  let e := s.vehAt p
  let v := s.vSet p
  let base := minOpt (minOpt (minOpt (minOpt (min (-x.limits.iMin) (min (s.pwrCfg p).iMax (s.connMax p).1)) (stated e.evImax))
    (if e.evPdis = 0 then none else mAof e.evPdis.natAbs v)) (mAof (-x.limits.pMin) v)) (mAof (s.pwrCfg p).exportMax v)
  (base, (hostCap x.dischargeCap).bind (mAof · v), s.iCap p)

/-- The target current with or without the port power cap (R191, R215). -/
def State.targetWith (s : State) (p : Port) (lease : Bool) : Int :=
  let a := s.asked p
  if a < 0 then
    let (base, host, cap) := s.dischargeCaps p
    Neg.neg (max 0 (min (minOpt (min (-a) base) host) cap))
  else
    let (base, pc, host, cap) := s.chargeCaps p
    max 0 (min (minOpt (if lease then minOpt (min a base) pc else min a base) host) cap)

def State.target (s : State) (p : Port) : Int := s.targetWith p true

/-- Which caps bind now: the port power cap, a host cap, I_CAP (R217); on an AC port those on the advertised current (R208). -/
def State.binding (s : State) (p : Port) : Bool × Bool × Bool :=
  let t := s.target p
  let a := s.asked p
  if s.isAc p then
    let n := s.acOffered p
    ((s.acCap p).any (· < s.acWanted p), (s.acHostCap p).any fun x => x < n && (s.acCap p).all (x ≤ ·), false)
  else if a = t then (false, false, false)
  else if a < 0 then
    let (_, host, cap) := s.dischargeCaps p
    (false, host == some (-t), cap == -t)
  else
    let (_, pc, host, cap) := s.chargeCaps p
    (pc == some t, host == some t, cap == t)

/-- P_LIM: the smallest of the power caps, with the sign of the target, not of the step on its way there (R191). DESIGN CHOICE (log 214). -/
def State.pLim (s : State) (p : Port) : Int :=
  let x := s.pwrAt p
  let e := s.vehAt p
  if s.asked p < 0 then
    Neg.neg (max 0 (minOpt (minOpt (min (-x.limits.pMin) (s.pwrCfg p).exportMax) (if e.evPdis = 0 then none else some (e.evPdis.natAbs : Int)))
      (hostCap x.dischargeCap)))
  else max 0 (minOpt (minOpt (min x.limits.pMax x.cap) (stated e.evPmax)) (hostCap x.chargeCap))

/-! ### Ramp limiter (R193, R194) -/

def State.slewUp (s : State) (p : Port) : Nat :=
  let x := s.pwrAt p
  min (min x.limits.slewUp (s.pwrCfg p).slewUp) (x.evSlewUp.getD 0xFFFFFFFF)

/-- Why the magnitude falls from a planned current: the vehicle lowered its target, or a cap, a lease, a host limit or a controlled
end holds it lower than the caps leave room for (R193). DEDUCED (log 73). -/
def State.fallCause (s : State) (p : Port) (prev : Int) : FallCause :=
  let x := s.pwrAt p
  let room : Int := if prev < 0 then
      let (base, host, cap) := s.dischargeCaps p
      if s.mayExport p then min (minOpt base host) cap else 0
    else
      let (base, pc, host, cap) := s.chargeCaps p
      min (minOpt (minOpt base pc) host) cap
  if x.degraded then .degraded
  else if x.toZero || x.dynTarget.isSome || max 0 room < prev.natAbs then .cap
  else .vehicle

def State.slewDown (s : State) (p : Port) : Nat :=
  let x := s.pwrAt p
  match s.fallCause p x.planned with
  | .vehicle => min (min x.limits.slewDn (s.pwrCfg p).slewDn) (x.evSlewDn.getD 0xFFFFFFFF)
  | .cap => min x.limits.slewDn (s.pwrCfg p).slewDn
  | .degraded => x.limits.slewDn

/-- Step period in µs and run-ahead depth H (R197). -/
def State.periodUs (s : State) (p : Port) : Nat := 50 * (s.pwrCfg p).period
def State.depth (s : State) (p : Port) : Nat := min 16 (2000 / max 1 (s.periodUs p))

def signOf (x : Int) : Int := if x < 0 then -1 else if x = 0 then 0 else 1

/-- The limiter's state after one step: current, remainder, direction, and whether the slew bound it. -/
def nextStep (tgt prev : Int) (acc : Nat) (lastFalling : Bool) (up down period : Nat) : Int × Nat × Bool × Bool :=
  if tgt = prev then (prev, 0, lastFalling, false)
  else
    let falling := prev != 0 && signOf (tgt - prev) != signOf prev
    let acc0 := if falling != lastFalling then 0 else acc
    let acc1 := acc0 + (if falling then down else up) * period
    let d : Int := (acc1 / 1000 : Nat)
    let v0 := if prev < tgt then min (prev + d) tgt else max (prev - d) tgt
    let v := if falling && signOf v0 != signOf prev then 0 else v0
    (v, if v = tgt then 0 else acc1 % 1000, falling, v != tgt)

/-- A change of target, cap, limit or lease waits to be replanned within 10 µs (R199). -/
def State.retarget (s : State) (p : Port) : State := s.modPwr p fun x => { x with replan := true, atTarget := false }

/-! ### The lease and its division (R209, R210, R215) -/

/-- Applied power of a port in W, import only. DEDUCED (log 74). -/
def State.appliedW (s : State) (p : Port) : Nat :=
  if s.isAc p then
    let m := s.metAt p
    if s.sesIsOpen p then ((m.regI.natAbs * m.regU.natAbs * s.phases p) / 100000) else 0
  else if !(s.pwrAt p).enabled then 0
  else (((s.pwrAt p).vAppl * (s.pwrAt p).iAppl) / 100000).toNat

/-- A port's want in W: what its target would draw without the port power cap; nothing outside CLOSING to RAMPDOWN (R215). -/
def State.want (s : State) (p : Port) : Nat :=
  if !s.sharesLease p || (s.isAc p && (s.vehAt p).pwmHeld) then 0
  else if s.isAc p then s.acWanted p * (s.metAt p).regU.natAbs * s.phases p / 1000
  else ((s.targetWith p false * s.vSet p) / 100000).toNat

/-- Share a power among ports of one priority: wants below an equal share are met, the rest share what is left. -/
def shareOut : Nat → Nat → List (Port × Nat) → List (Port × Nat) × Nat
  | 0, left, _ => ([], left)
  | _ + 1, left, [] => ([], left)
  | n + 1, left, ports =>
    let q := left / ports.length
    let met := ports.filter fun x => x.2 ≤ q
    if met.isEmpty then (ports.map fun x => (x.1, q), left - q * ports.length)
    else
      let r := shareOut n (left - (met.map (·.2)).sum) (ports.filter fun x => q < x.2)
      (met ++ r.1, r.2)

/-- The caps that the division of R215 gives, for the ports that it gives any. -/
def State.division (s : State) (w : Nat) : List (Port × Nat) :=
  let inDiv := (idx 8).filter fun p => 0 < s.want p
  ([3, 2, 1, 0].foldl (fun (acc : List (Port × Nat) × Nat) pr =>
    let ports := (inDiv.filter fun p => (s.pwrCfg p).priority == pr).map fun p => (p, s.want p)
    let r := shareOut 9 acc.2 ports
    (acc.1 ++ r.1, r.2)) ([], w)).1

/-- The lease that bounds the ports now: a lower grant already received starts its ramps on receipt (R209). -/
def Lease.bound (l : Lease) : Nat := match l.next with
  | some n => min l.lease n
  | none => l.lease

/-- Set a port's cap: CAP_CHANGED, and a replan. DEDUCED (log 150). -/
def State.setCap (s : State) (p : Port) (w : Nat) : State :=
  if (s.pwrAt p).cap = w then s
  else (((s.modPwr p fun x => { x with cap := w }).pwrRaise p 8).retarget p).refreshPwm p

/-- Divide the lease: falls at once; a rise is held to what the other ports' caps and applied power leave. -/
def State.divide (s : State) : State :=
  let w := (s.lease.bound - s.cfg.lease.auxKw) * 1000
  let d := s.division w
  let new (p : Port) : Nat := ((d.find? (·.1 == p)).map (·.2)).getD 0
  let s1 := s.each (n := 8) fun p t => if new p < (s.pwrAt p).cap then t.setCap p (new p) else t
  let s2 := s1.each (n := 8) fun p t =>
    if (t.pwrAt p).cap < new p then
      let others := (((idx 8).filter (· != p)).map fun q => max (t.pwrAt q).cap (t.appliedW q)).sum
      t.setCap p (max (t.pwrAt p).cap (min (new p) (w - others)))
    else t
  s2.each (n := 8) fun p t => t.modPwr p fun x => { x with wantAt := t.want p }

/-- A change of want that exceeds 1 kW divides the lease anew. -/
def State.wantChanged (s : State) (p : Port) : State :=
  let old := (s.pwrAt p).wantAt
  let now := s.want p
  if old + 1000 < now || now + 1000 < old then s.divide else s

/-! ### Run-ahead (R197 to R203) -/

/-- SETPOINT of a step (R187). -/
def State.sendSetpoint (s : State) (p : Port) (x : StagedStep) (pre : Bool) : State :=
  s.portSend p 1 [w32 x.step, w32 x.validAt, w32 (x.validAt / 2 ^ 32), wInt x.v, wInt x.i, wInt x.p, pack [(0, 0, 1), (1, 1, b1 pre)]]

/-- L_LINK in ns (R184). -/
def lLink : Nat := 25000

/-- ENABLE with FIRST_STEP, once the port's link is up (R183, R203). -/
def State.enable (s : State) (p : Port) : State :=
  if ((s.pwrCfg p).map.map fun m => (s.pmLink m.1).sends 5) == some true then
    (s.modPwr p fun x => { x with enabled := true }).sendAcked p 5 (s.pwrAt p).nextStep
  else s

/-- Begin the precharge: ENABLE with a fresh FIRST_STEP and GEN 0 (R203). DEDUCED (log 96). -/
def State.beginPrecharge (s : State) (p : Port) : State :=
  (s.modPwr p fun x => { x with
    state := .precharge, enabled := false, gen := 0, staged := [], planned := 0, acc := 0, lastFalling := false, toZero := false
    degraded := false, prechargeDone := false, since := 0, atTarget := false }).enable p

/-- Delivery begins once the contactors are closed. DEDUCED (log 73). -/
def State.beginDelivery (s : State) (p : Port) : State :=
  if (s.pwrAt p).state == .precharge then ((s.modPwr p fun x => { x with state := .active }).retarget p).wantChanged p else s

/-- Ramp to zero: a controlled end, or safe-degraded at the converter's down-slew alone (R204, R205). -/
def State.rampDown (s : State) (p : Port) (degraded : Bool) : State :=
  let x := s.pwrAt p
  if x.state == .active || x.state == .precharge || x.state == .rampdown then
    ((s.modPwr p fun y => { y with state := .rampdown, toZero := true, degraded }).retarget p).wantChanged p
  else s

/-- HALT on the port's channel: every staged step is discarded, committed ones included; a step whose instant has passed was applied
and may still be reported (R192, R205). The steps that it discards count as squashed. DEDUCED (log 77). DESIGN CHOICE (log 216). -/
def State.halt (s : State) (p : Port) : State :=
  if (s.pwrAt p).enabled && (s.pwrAt p).state != .halted then
    let n := ((s.pwrAt p).staged.filter fun x => s.time.chain < x.validAt).length
    let t := (s.modPwr p fun x => { x with
      state := .halted, staged := x.staged.filter fun y => y.validAt ≤ s.time.chain, replan := false, planned := 0, acc := 0 }).countPort p 0x0F n
    (t.sendAcked p 4 0).pwrRaise p 0x40
  else s

/-- DISABLE after the opening is confirmed (R203); what was applied stays as the last STATUS said it (R217). A frame that waits for its ACK goes on being repeated (R184). -/
def State.disable (s : State) (p : Port) : State :=
  let t := if (s.pwrAt p).enabled then s.portSend p 6 [] else s
  t.modPwr p fun x => { x with
    state := .off, enabled := false, staged := x.staged.filter fun y => y.validAt ≤ s.time.chain, planned := 0, acc := 0, toZero := false, degraded := false
    replan := false, since := 0, dynTarget := none, prechargeDone := false, atSlew := false, atTarget := true }

/-! ### Draw and demand of the unit (R210) -/

/-- kW of a power in W, rounded up. -/
def kwUp (w : Nat) : Nat := (w + 999) / 1000

/-- Present draw of the unit in kW, and DEMAND and HELD of its report (R210). DEDUCED (log 74). -/
def State.drawKw (s : State) : Nat := kwUp ((((idx 8).map fun p => s.appliedW p).sum) + s.cfg.lease.auxKw * 1000)
def State.demandKw (s : State) : Nat :=
  kwUp ((((idx 8).map fun p => s.want p).sum) + s.cfg.lease.auxKw * 1000)
def State.heldKw (s : State) : Nat := max s.lease.lease s.drawKw

/-! ### Registers (R217, R218) -/

def State.pwrStat (s : State) (p : Port) : Word :=
  let x := s.pwrAt p
  let m := (s.pwrCfg p).map
  let b := s.binding p
  pack [(31, 28, x.state.code), (27, 27, ((m.map (·.1.1)).getD 0)), (26, 24, ((m.map (·.2)).getD 0)), (23, 19, s.depth p),
    (18, 14, (s.pwrCfg p).period), (13, 13, b1 x.atSlew), (12, 12, b1 b.1), (11, 11, b1 b.2.1), (10, 10, b1 b.2.2),
    (9, 9, b1 (x.iAppl < 0))]

def State.pwrBlock (s : State) (g : Guest) (p : Port) : List Word :=
  let x := s.pwrAt p
  [s.pwrStat p, wInt x.vAppl, wInt x.iAppl, wInt x.pAppl, wInt (s.target p), pack [(15, 0, min 0xFFFF (s.slewUp p)),
    (31, 16, min 0xFFFF (s.slewDown p))], pack [(23, 0, x.cap)], ix x.ev g]

def State.leaseBlock (s : State) : List Word :=
  let l := s.lease
  let en (k : PmIdx) : Nat := b1 (ix s.cfg.pmEnable k)
  [ pack [(23, 23, b1 (l.overcommit && s.isHead)), (22, 22, b1 s.isHead), (21, 20, l.state.code), (17, 16, min 3 l.missed), (15, 0, l.lease)],
    pack [(15, 0, l.next.getD 0), (16, 16, b1 l.next.isSome)], pack [(15, 0, s.cfg.lease.floor), (31, 16, s.cfg.lease.auxKw)],
    pack [(15, 0, s.drawKw), (31, 16, s.heldKw)], w32 s.epochNow,
    pack [(1, 0, (s.pmLink 0).state.code), (9, 8, (s.pmLink 1).state.code), (2, 2, en 0), (10, 10, en 1)],
    pack [(15, 0, s.cfg.siteLimit), (31, 16, l.tmp.getD 0)] ]

end Sys2Proof.Machine
end

