-- ==== Sys2Proof/Machine/ConfigTxn.lean ====
section
/-! DEFINITION. Configuration transactions: items, commits, and how a committed transaction applies (spec 05 R112, R120,
R123 to R128; 16 R431; 18 R471). -/

namespace Sys2Proof.Machine

/-! ### Items -/

/-- Set what an item names. -/
def applyItem (c : Cfg) (it : Item) : Cfg :=
  match it.opcode / 256 with
  | 0x01 | 0x02 | 0x03 => applyHost c it
  | 0x10 | 0x11 => applyVehicle c it
  | 0x12 => applyPower c it
  | 0x20 | 0x21 | 0x22 | 0x23 | 0x92 => applyLegal c it
  | 0x40 | 0x60 | 0x80 => applyUnit c it
  | 0x50 | 0x51 => applyChain c it
  | _ => applyFront c it

/-- The first reason against an item under a configuration: its group's own, then that of a pulse constant (R123, R273). -/
def State.itemReason (s : State) (c : Cfg) (it : Item) : Option Nat :=
  let own := match it.opcode / 256 with
    | 0x01 | 0x02 | 0x03 => validateHost s c it
    | 0x10 | 0x11 => validateVehicle s c it
    | 0x12 => validatePower s c it
    | 0x20 | 0x21 | 0x22 | 0x23 | 0x92 => validateLegal s c it
    | 0x40 | 0x60 | 0x80 => validateUnit c it
    | 0x50 | 0x51 => validateChain s it
    | _ => validateFront s c it
  match own with
  | some n => some n
  | none => if (idx 8).any fun p => raisesPower c (applyItem c it) p then some 0x2103 else none

/-- A session-bound item (R124); SET_PQ_CONFIG of the site detector is unit-level (R331). -/
def Item.sessionBound (it : Item) : Bool :=
  ((opInfo it.opcode).map (·.item)) == some .session && !(it.opcode == 0x2380 && it.fld 2 7 0 == 0xFF)
/-- An item with site-scoped fields (R431). -/
def Item.siteScoped (it : Item) : Bool := ((opInfo it.opcode).map (·.item)) == some .site

/-- Apply site-scoped values. -/
def Cfg.withSite (c : Cfg) (x : SiteItems) : Cfg :=
  { c with siteLimit := x.limit, chain := { c.chain with siteId := x.siteId, expect := x.expect } }

/-- The configuration once every committed transaction has applied (R123). -/
def State.projected (s : State) : Cfg :=
  s.conf.committed.foldl (fun c t =>
    let u := if t.unitApplied then c else t.unit.foldl applyItem (match t.site with | some x => c.withSite x | none => c)
    (t.sess.map (·.2)).foldl applyItem u) s.cfg

/-- Index and reason of the first item that fails, each judged after the earlier ones (R123). DEDUCED (log 45). -/
def State.firstFail (s : State) : Cfg → List Item → Nat → Option (Nat × Nat)
  | _, [], _ => none
  | c, it :: l, i =>
    match s.itemReason c it with
    | some n => some (i, n)
    | none => s.firstFail (applyItem c it) l (i + 1)

/-! ### Site-scoped items on the head (R431) -/

def Cfg.site (c : Cfg) : SiteItems := { siteId := c.chain.siteId, limit := c.siteLimit, expect := c.chain.expect }

/-- The units in the table that the head does not fence. -/
def State.unfencedUnits (s : State) : List Nat :=
  (s.chn.table.map (·.2)).filter fun a => a != s.chn.addr && !(s.lease.reports.any fun r => r.addr == a && r.causes != 0)

/-- First epoch that starts at least 1 s from now. -/
def State.epochIn1s (s : State) : Nat := (s.time.chain + 1000000000 + 99999999) / 100000000

/-- Put the items of a proposal to every unit that is asked. -/
def State.sendSite (s : State) (x : SiteProp) : State :=
  x.waiting.foldl (fun t a => t.originate a (.siteConfig x.epoch x.items)) s

/-- The head proposes the site items of the oldest transaction that waits for them. DEDUCED (log 50, 91, 95). -/
def State.propose (s : State) : State :=
  if s.chn.prop.isSome || !s.chn.head then s
  else
    match s.conf.committed.find? (fun t => t.siteWait && !t.unitApplied) with
    | none => s
    | some t =>
      let items := (t.unit.foldl applyItem s.cfg).site
      let x : SiteProp := { epoch := s.epochIn1s, items, waiting := s.unfencedUnits }
      (s.modChn fun c => { c with prop := some x }).sendSite x

/-! ### Commit (R123, R126, R127) -/

/-- Journal a transaction whose items pass. -/
def State.record (s : State) (items : List Item) : State :=
  let e := (s.conf.commitEpoch + 1) % 2 ^ 31
  let t : Txn := {
    epoch := e, unit := items.filter (! ·.sessionBound), sess := (items.filter (·.sessionBound)).map fun it => (it.port, it)
    siteWait := s.chainOn && s.chn.head && items.any (·.siteScoped) }
  let s1 := s.appendConf { type := 0x21, len := txnBytes items, key := e }
  (s1.modConf fun c => { c with commitEpoch := e, committed := c.committed ++ [t] }).propose

/-- Commit items as one transaction and answer with the result (R120, R123, R479): refused for want of space, it changes
nothing. -/
def State.commit (s : State) (r : Req) (items : List Item) : State :=
  if items.isEmpty then s.answer r Code.done [0]
  else if !s.txnFits (txnBytes items) then (s.answer r Code.refusedLoad).ripenFor (txnBytes items)
  else
    match s.firstFail s.projected items 0 with
    | some (i, reason) => s.answer r Code.refused [pack [(15, 0, i)], pack [(15, 0, reason)]]
    | none =>
      let t := s.record items
      t.answer r Code.done [pack [(30, 0, t.conf.commitEpoch)]]

def State.setOpen (s : State) (g : Guest) (x : Option (List Item)) : State :=
  s.modConf fun c => { c with opens := upd c.opens g fun _ => x }

/-- A configuration item, its sender in order: added to the open transaction with TXN = 1, committed alone with TXN = 0
(R112, R123). -/
def State.addItem (s : State) (r : Req) (it : Item) : State :=
  if r.txn then
    match ix s.conf.opens r.guest with
    | none => s.answer r Code.wrongState
    | some l => if 256 ≤ l.length then s.answer r Code.outOfRange else (s.setOpen r.guest (some (l ++ [it]))).answer r Code.done
  else s.commit r [it]

/-- An item that reads no ring. -/
def State.plainItem (s : State) (r : Req) (allowed : Bool) : State :=
  if allowed then s.addItem r { opcode := r.opcode, words := r.words } else s.answer r Code.refused

/-- The newest answer of a command is DONE. -/
def State.wasDone (s : State) : Bool := s.host.answers.getLast?.any (·.code == Code.done)

/-- An item whose bytes stand in a ring (R96): its descriptors are consumed where it is taken, and where they run out; another
result changes nothing (R117). -/
def State.ringItem (s : State) (r : Req) (ring : Nat) : State :=
  if r.txn && (ix s.conf.opens r.guest).isNone then s.answer r Code.wrongState
  else
    let q := s.withRing r ring
    if q.ringOk then
      let t := s.addItem r { opcode := r.opcode, words := r.words, data := q.ringIn }
      if t.wasDone then t.useRing q ring Code.done else t
    else s.endRing q ring Code.shortBuffer

/-! ### Claims (R150) -/

/-- A claim ends: CLAIM_LOST for its former holder; a pre-authorisation that it gave stands. -/
def State.endClaim (s : State) (p : Port) : State :=
  match ix s.host.claim p with
  | none => s
  | some g =>
    let old := ix (s.vehAt p).ev g
    let t := ((s.modHost fun h => { h with claim := upd h.claim p fun _ => none }).service 3 p.1 0).modVeh p fun x => { x with
      ev := upd x.ev g (· ||| 0x2000) }
    if (old &&& 0x2000) = 0 && s.seesPort g p then t.irq g (19 + p.1) else t

/-! ### Applying (R59, R124 to R126) -/

/-- A cross-check in progress on an input ends with CANCELLED (R286). -/
def State.cancelCross (s : State) (k : Fin 2) : State :=
  match (ix s.legal.pi k).cross with
  | some c => (s.modInput k fun i => { i with cross := none }).finalOpt c.req Code.cancelled
  | none => s

/-- What an item does besides setting its values, once it has applied over the configuration given. DEDUCED (log 48). -/
def State.itemEffect (s : State) (was : Cfg) (it : Item) : State :=
  match it.opcode with
  | 0x0183 => if it.fld 2 1 0 = was.trefMode then s else (s.modTref fun t => { t with
      state := if s.cfg.trefMode = 0 then .noRef else .acquire, cand := none, candRun := 0, prev := none, faultPhase := none, holdSince := none
      rateFault := false }).sysChanged
  | 0x0380 => s.each (n := 8) fun p t =>
      if t.claims it.guest p && !t.seesPort it.guest p then t.endClaim p else t
  | 0x0382 => if (ix was.guests it.guest).hbMs = (s.gcfg it.guest).hbMs then s else s.modGuest it.guest fun x => { x with hbRunning := false }
  | 0x1082 => ((s.followEnable it.port).refreshPwm it.port).checkBlocked it.port
  | 0x1280 =>
    if (ix was.pwr it.port).map = (s.pwrCfg it.port).map then s
    else s.modPwr it.port fun x => { x with limits := {}, applStep := 0, nextStep := 0 }
  | 0x1284 =>
    let on := ix s.cfg.pmEnable it.link
    if ix was.pmEnable it.link = on then s
    else s.modPmLink it.link fun k => if on then { k with state := .training } else { k with state := .down, rxSeq := none, bad := [] }
  | 0x2080 =>
    let s1 := (idx 3).foldl (fun t r => t.modSl (linkOf it.port r) fun y => { failed := y.failed }) s
    s1.endMeasure it.port Code.fault
  | 0x2181 => if ix was.pulse it.pulseIn = ix s.cfg.pulse it.pulseIn then s else s.cancelCross it.pulseIn
  | 0x4082 =>
    let a := ix was.ls it.lsCh
    let b := s.lsCfg it.lsCh
    let x := s.lsCh it.lsCh
    let busy : Bool := x.permitted && !s.ls.uv && decide (0 < x.pulse) && (x.hold.isSome || (a.mode = 2 && a.src < 8))
    let t := if a.mode = b.mode && a.src = b.src then s
      else if busy then s.modLsCh it.lsCh fun y => { y with hold := some (y.hold.getD a.src), lastPulse := s.time.safetyUs }
      else if b.mode = 0 then s.modLsCh it.lsCh (·.drop)
      else s.modLsCh it.lsCh fun y => { y with carry := 0, pulse := 0, lastPulse := s.time.safetyUs }
    t.lsSettle
  | 0x5080 => s.chainApplied was.chain.enable
  | 0x6080 =>
    if !s.cfg.cave.enable then s.setCave .disabled
    else if s.cave.state == .disabled then s.setCave .init else s
  | 0x9080 =>
    let t := if s.cfg.nfc.reader then s else s.releaseHeld
    if s.cfg.nfc.tag then t else t.modTag fun x => { x.open_ with phase := .off }
  | _ => s

/-- Apply items in order. -/
def State.applyItems (s : State) (items : List Item) : State :=
  items.foldl (fun t it => (t.modCfg fun c => applyItem c it).itemEffect t.cfg it) s

/-- The drain precondition of a unit-level item (R125). -/
def State.drained (s : State) (it : Item) : Bool :=
  match it.opcode with
  | 0x0280 => !s.host.admitted.any fun a => a.req.guest == it.guest &&
      !(it.fld 3 12 0 ≤ a.req.queue && a.req.queue < it.fld 3 12 0 + it.fld 3 29 16)
  | 0x0381 =>
    ((idx 5).all fun k => ix (s.gcfg it.guest).share k ≤ ix it.shares k ||
      (ix (s.guest it.guest).own k) * 100 ≤ ix it.shares k * backlogCap k.1) &&
    ((s.gcfg it.guest).creditLimit ≤ it.fld 4 28 16 || (s.guest it.guest).credits ≤ it.fld 4 28 16)
  | _ => true

/-- The transactions that have applied in full leave the list. -/
def State.dropApplied (s : State) : State :=
  s.modConf fun c => { c with committed := c.committed.filter fun t => !t.unitApplied || !t.sess.isEmpty }

/-- No session is open on a port and none is being opened: it is at its session boundary (R126, R156). -/
def SesState.inSession : SesState → Bool
  | .preparing | .closing | .charging | .paused | .rampdown | .opening | .sealing => true
  | _ => false
/-- DEDUCED (log 49). -/
def State.idlePort (s : State) (p : Port) : Bool :=
  !(s.sesAt p).state.inSession && !(s.sesAt p).openReq && !(s.sesAt p).rebuild

/-- Items that would enable a port wait while calibration is open on it, and the port's set waits with them, for its items
apply together (R126, R249). DEDUCED (log 49). -/
def State.calHolds (s : State) (p : Port) (ready : List Txn) : Bool :=
  let items := ((ready.flatMap (·.sess)).filter fun x => x.1 == p && x.2.opcode == 0x1082).map (·.2)
  (s.metAt p).pendSet.isSome && (match items.getLast? with | some it => it.fld 3 2 2 == 1 | none => false)

/-- A port applies its session-bound items of every transaction whose unit-level part has applied, together (R126). DEDUCED (log 49). -/
def State.applyPort (s : State) (p : Port) : State :=
  let ready := s.conf.committed.filter fun t => t.unitApplied && t.sess.any (·.1 == p)
  if ready.isEmpty || s.calHolds p ready then s
  else
    let items := (ready.flatMap (·.sess)).filter (·.1 == p) |>.map (·.2)
    let s1 := (s.applyItems items).modConf fun c => { c with
      committed := c.committed.map fun t => if t.unitApplied then { t with sess := t.sess.filter (·.1 != p) } else t }
    let s2 := ready.foldl (fun t x => t.appendConf { type := 0x22, len := 5, key := x.epoch, src := 2 ^ p.1 }) s1
    (s2.dropApplied).vpRaise p 0x4000

/-- Apply unit-level parts in commit order, up to the first that must wait (R124). -/
def State.applyUnits (s : State) : List Txn → State
  | [] => s
  | t :: l =>
    if t.unitApplied then s.applyUnits l
    else if t.siteWait || s.epochNow < t.since || !t.unit.all s.drained then s
    else
      let s0 := match t.site with
        | some x => (s.modCfg (·.withSite x)).chnRaise 8
        | none => s
      let s1 := (s0.applyItems t.unit).modConf fun c => { c with
        activeEpoch := t.epoch, committed := c.committed.map fun x => if x.epoch = t.epoch then { x with unitApplied := true } else x }
      (s1.appendConf { type := 0x22, len := 5, key := t.epoch }).applyUnits l

/-- A power epoch boundary: unit-level parts, then the session-bound parts of idle ports (R124, R126). -/
def State.applyBoundary (s : State) : State :=
  let s1 := s.applyUnits s.conf.committed
  let s2 := s1.each (n := 8) fun p t => if t.idlePort p then t.applyPort p else t
  s2.dropApplied

/-! ### Status (R128) -/

/-- Session-bound items of a port that have not applied, as their epochs. -/
def State.pendingEpochs (s : State) (p : Port) : List Nat :=
  (s.conf.committed.filter fun t => t.sess.any (·.1 == p)).map (·.epoch)
def State.unapplied (s : State) : Nat := (s.conf.committed.filter (! ·.unitApplied)).length
/-- PORT_PENDING as a guest sees it. -/
def State.portPending (s : State) (g : Guest) : Nat :=
  flagWord ((idx 8).map fun p => s.seesPort g p && !(s.pendingEpochs p).isEmpty)

/-- SYS_CFG_PORT_ACT: the epoch before the oldest pending one, and not beyond the unit's. -/
def State.cfgPortAct (s : State) (p : Port) : Word :=
  pack [(30, 0, match (s.pendingEpochs p).min? with
    | some e => min (e - 1) s.conf.activeEpoch
    | none => s.conf.activeEpoch)]
def State.cfgPortPnd (s : State) (p : Port) : Word :=
  match (s.pendingEpochs p).max? with
  | some e => pack [(30, 0, e), (31, 31, 1)]
  | none => 0
def State.cfgStat (s : State) (g : Guest) : Word :=
  pack [(23, 16, s.portPending g), (15, 8, min 255 s.unapplied), (1, 1, b1 (ix s.conf.opens g).isSome), (0, 0, b1 (s.unapplied != 0))]

/-! ### Commands of group 0x01 and the timer (R120, R123) -/

def execGetConfigState (r : Req) (s : State) : Res :=
  let l := ix s.conf.opens r.guest
  .next (s.answer r Code.done [pack [(30, 0, s.conf.activeEpoch)], pack [(30, 0, s.conf.commitEpoch)],
    pack [(15, 0, (l.getD []).length), (16, 16, b1 l.isSome), (17, 17, b1 (s.unapplied != 0)), (31, 24, s.portPending r.guest)]])

def execBeginConfig (r : Req) (s : State) : Res :=
  .next (if (ix s.conf.opens r.guest).isSome then s.answer r Code.wrongState
  else (s.setOpen r.guest (some [])).answer r Code.done)

/-- DEDUCED (log 13, 45). -/
def execCommitConfig (r : Req) (s : State) : Res :=
  .next (match ix s.conf.opens r.guest with
  | none => s.answer r Code.wrongState
  | some l => if l.isEmpty || s.txnFits (txnBytes l) then (s.setOpen r.guest none).commit r l else s.commit r l)

def execAbortConfig (r : Req) (s : State) : Res :=
  .next (if (ix s.conf.opens r.guest).isNone then s.answer r Code.wrongState
  else (s.setOpen r.guest none).answer r Code.done)

/-- TXN_TIMEOUT: 60 s without BEGIN_CONFIG or an added item. -/
def execTxnTimeout (g : Guest) (s : State) : Res := .next (s.setOpen g none)

end Sys2Proof.Machine
end

