-- ==== Sys2Proof/Machine/CfgCmds.lean ====
section
/-! DEFINITION. The configuration items of every group as commands: who may send each, and what it joins (spec 05 R112, R116
and the command table of each group). -/

namespace Sys2Proof.Machine

/-- An item that only the system guest sends. DEDUCED (log 12, 47). -/
def State.systemItem (s : State) (r : Req) : State := s.plainItem r r.fromSystem

/-! ### System, queues and guests (R120 to R122) -/

def execSetTrefMode (r : Req) (s : State) : Res := .next (s.systemItem r)
def execSetQueueRange (r : Req) (s : State) : Res := .next (s.systemItem r)
def execSetGuestCaps (r : Req) (s : State) : Res := .next (s.systemItem r)
def execSetGuestQos (r : Req) (s : State) : Res := .next (s.systemItem r)
/-- SET_GUEST_HEARTBEAT: a guest may name itself. -/
def execSetGuestHeartbeat (r : Req) (s : State) : Res := .next (s.plainItem r (r.fromSystem || r.target == r.guest))
def execSetGlnBind (r : Req) (s : State) : Res := .next (s.systemItem r)

/-! ### Vehicle port, session and power (R153, R179, R220) -/

def execSetPortConfig (r : Req) (s : State) : Res := .next (s.plainItem r true)
/-- LOAD_TRUST_ANCHOR: DELETE reads no ring. DEDUCED (log 46). -/
def execLoadTrustAnchor (r : Req) (s : State) : Res :=
  .next (if !r.fromSystem then s.answer r Code.refused
  else if 39 < r.fld 3 5 0 then s.answer r Code.outOfRange
  else if r.bit 3 12 then s.plainItem r true else s.ringItem r (r.fld 3 18 16))
def execSetSessionConfig (r : Req) (s : State) : Res := .next (s.plainItem r true)
def execSetPowerConfig (r : Req) (s : State) : Res := .next (s.plainItem r true)
def execSetLeaseConfig (r : Req) (s : State) : Res := .next (s.systemItem r)
def execSetSitePower (r : Req) (s : State) : Res := .next (s.systemItem r)
def execSetPmLinkConfig (r : Req) (s : State) : Res := .next (s.systemItem r)

/-! ### Legal (R255, R285, R310, R313, R332): VOID while Legal is VOID, but for the optical port -/

def execSetMetrologyConfig (r : Req) (s : State) : Res := .next (s.unlessVoid r fun t => t.plainItem r true)
def execSetEnergyConfig (r : Req) (s : State) : Res := .next (s.unlessVoid r fun t => t.plainItem r true)
/-- An item of the system guest for Legal. DEDUCED (log 47). -/
def State.legalSystemItem (s : State) (r : Req) : State :=
  if r.fromSystem then s.unlessVoid r fun t => t.plainItem r true else s.answer r Code.refused
def execSetPulseInput (r : Req) (s : State) : Res := .next (s.legalSystemItem r)
def execSetSupplyConfig (r : Req) (s : State) : Res := .next (s.legalSystemItem r)
def execSetBillingConfig (r : Req) (s : State) : Res := .next (s.unlessVoid r fun t => t.plainItem r true)
def execSetTariffSchedule (r : Req) (s : State) : Res := .next (s.unlessVoid r fun t => t.plainItem r true)
def execSetOpticalConfig (r : Req) (s : State) : Res := .next (s.systemItem r)
/-- SET_PQ_CONFIG: the claimant for a port, the system guest for the site. -/
def execSetPqConfig (r : Req) (s : State) : Res :=
  .next (if r.namesPort then s.unlessVoid r fun t => t.plainItem r true else s.legalSystemItem r)

/-! ### Load switches, chain, mesh, Cave, update, contactless and display -/

def execSetLsConfig (r : Req) (s : State) : Res := .next (s.systemItem r)
def execSetLsSupplyConfig (r : Req) (s : State) : Res := .next (s.systemItem r)
def execSetLkConfig (r : Req) (s : State) : Res := .next (s.plainItem r true)
def execSetChainConfig (r : Req) (s : State) : Res := .next (s.systemItem r)
def execSetMeshConfig (r : Req) (s : State) : Res := .next (s.systemItem r)
def execSetCoexMask (r : Req) (s : State) : Res := .next (s.systemItem r)
def execSetCaveConfig (r : Req) (s : State) : Res := .next (s.systemItem r)
def execSetUpdateConfig (r : Req) (s : State) : Res := .next (s.systemItem r)
def execSetNfcConfig (r : Req) (s : State) : Res := .next (s.systemItem r)
def execSetDisplayConfig (r : Req) (s : State) : Res := .next (s.systemItem r)
def execLoadOverdrive (r : Req) (s : State) : Res :=
  .next (if r.fromSystem then s.ringItem r (r.fld 3 2 0) else s.answer r Code.refused)

end Sys2Proof.Machine
end

