-- ==== Sys2Proof/Machine/Update.lean ====
section
/-! DEFINITION. Firmware images: staging and its checks, activation, trial and revert, and image distribution on the chain
(spec 16 R432, R438; 20 R526 to R551). -/

namespace Sys2Proof.Machine

def State.stg (s : State) (c : Fin 3) : Stg := ix s.fw.stg c
def State.modStg (s : State) (c : Fin 3) (f : Stg → Stg) : State := s.modFw fun u => { u with stg := upd u.stg c f }
/-- The inactive bank of a class. -/
def State.idleBank (s : State) (c : Fin 3) : Fin 2 := 1 - ix s.fw.active c
def State.modIdleBank (s : State) (c : Fin 3) (f : Bank → Bank) : State :=
  let b := s.idleBank c
  s.modFw fun u => { u with banks := upd u.banks c fun v => upd v b f }

/-- A staging runs (R534, R547): header, body or checking. -/
def Stg.running (g : Stg) : Bool := g.state == .header || g.state == .body || g.state == .checking

/-! ### The header (R527 to R530) -/

/-- Header fields. -/
def hdrLe (h : List Byte) (o n : Nat) : Nat := leNat ((h.drop o).take n)
def hdrTag (h : List Byte) : List Byte := beBytes 48 (Config.sha384 (h.take 416))
def hdrLength (h : List Byte) : Nat := hdrLe h 20 4
/-- Largest body of a class (R526), and the least (R527). -/
def bodyMax (c : Fin 3) : Nat := [3145216, 523776, 261632].getD c.1 0
def bodyMin (c : Fin 3) : Nat := if c = 2 then 6144 else 16

/-- KEY_SLOT is permitted for the class, filled, and a verify slot of the image verifier (R526, R530). DEDUCED (log 85). -/
def State.imageSlot (s : State) (c : Fin 3) (n : Nat) : Option Slot :=
  let allowed := match c with
    | 0 => n == 6
    | 1 => n == 7
    | _ => n == 8 || n == 9
  match s.slotAt n with
  | some k => if allowed && k.may 1 && k.attrA.bit 21 then some k else none
  | none => none

/-- The header checks of R530 in order: REASON of the first that fails. -/
def State.hdrReason (s : State) (c : Fin 3) (h : List Byte) : Option Nat :=
  let lock := hdrLe h 28 16
  let k := s.imageSlot c (hdrLe h 11 1)
  firstReason [
    (1, h.take 4 != ascii "KRTX" || hdrLe h 4 2 != 1),
    (2, hdrLe h 6 2 != 0x0C01 || hdrLe h 8 2 != 0x8128),
    (3, hdrLe h 10 1 != c.1),
    (4, hdrLe h 16 4 % 2 != 1 || (lock != 0 && lock != s.sys.serial)),
    (5, hdrLength h % 16 != 0 || !inRange (bodyMin c) (bodyMax c) (hdrLength h)),
    (6, hdrLe h 14 2 != 1),
    (7, ((h.drop 132).take 284).any (· != 0)),
    (8, k.isNone),
    (9, hdrLe h 12 2 < ix s.fw.floor c),
    (10, match k with
      | some x => !Config.verify x.verifyKey (h.take 416) ((h.drop 416).take 96)
      | none => true)]

/-! ### Staging (R531 to R535) -/

/-- A staging ends: its state, reason and notice (R549, R550). -/
def State.stgEnd (s : State) (c : Fin 3) (st : StgState) (code reason : Nat) (detail : Word) : State :=
  let cmd := (s.stg c).cmd
  let s1 := s.modStg c fun g => { g with state := st, reason, cmd := none, body := [] }
  let s2 := if st = .refused || st = .failed then s1.updRaise 2 else s1
  s2.finalOpt cmd code [w32 reason, detail]

/-- Cancel a running staging (R535). -/
def State.stgCancel (s : State) (c : Fin 3) : State :=
  if (s.stg c).running then s.stgEnd c .cancelled Code.cancelled 0 0 else s

/-- Start a staging: the inactive bank is not VALID and its image is lost (R531). DEDUCED (log 87). -/
def State.stgBegin (s : State) (c : Fin 3) (source : Nat) (owner : Guest) (ring : Nat) (cmd : Option Req) (tag : Nat) : State :=
  (s.modStg c fun _ => { state := .header, source, owner, ring, cmd, tag }).modIdleBank c fun _ => {}

/-- Image bytes arrive in order: the header is judged at its 512th byte, and the body is taken up to LENGTH (R530). -/
def State.stgFeed (s : State) (c : Fin 3) (bytes : List Byte) : State :=
  let g := s.stg c
  let h := g.hdr ++ bytes.take (512 - g.hdr.length)
  let s1 := s.modStg c fun x => { x with hdr := h, pos := x.pos + (min bytes.length (512 - g.hdr.length)) }
  let rest := bytes.drop (512 - g.hdr.length)
  if h.length < 512 then s1
  else
    let judged := if g.hdr.length < 512 then s.hdrReason c h else none
    match judged with
    | some r => s1.stgEnd c .refused Code.refused r 0
    | none =>
      let body := g.body ++ rest.take (hdrLength h - g.body.length)
      s1.modStg c fun x => { x with
        body, pos := 512 + body.length, state := if body.length = hdrLength h then .checking else .body }

/-- What refuses a staging request before anything changes (R534). -/
def State.stgBlocked (s : State) (c : Fin 3) : Option (Nat × Nat) :=
  let a := s.act
  if (s.stg c).running then some (Code.stageBusy, 0)
  else if (a.state == .committed || a.state == .swapping) && a.clsIdx == c then some (Code.wrongState, 1)
  else if c = 1 && s.fw.slot2 then some (Code.wrongState, 2)
  else if c = 2 && s.saf.state == .tableFail && !s.inService then some (Code.wrongState, 3)
  else none

def classOf (n : Nat) : Fin 3 := ⟨n % 3, by omega⟩

/-- BEGIN_STAGING. ROM recovery stages class SERVICE alone (R544). DEDUCED (log 87). -/
def execBeginStaging (r : Req) (s : State) : Res :=
  let cls := r.fld 3 1 0
  let src := r.fld 3 5 4
  let c := classOf cls
  let right : Bool := match src with
    | 0 => (s.rightsOf r).staging
    | 1 => (s.rightsOf r).bulk
    | _ => true
  .next (if !r.fromSystem || !right || (s.sys.romRecovery && cls != 0) then s.answer r Code.refused
  else if cls = 3 || src = 3 then s.answer r Code.outOfRange
  else match s.stgBlocked c with
  | some (code, why) => s.answer r code [w32 why]
  | none => (s.stgBegin c src r.guest (r.fld 3 10 8) (some r) 0).accept r)

/-- ABORT_STAGING: by the owner or the system guest. -/
def execAbortStaging (r : Req) (s : State) : Res :=
  let cls := r.fld 3 1 0
  let c := classOf cls
  .next (if cls = 3 || !(s.stg c).running then
    (if r.fromSystem then s.answer r Code.wrongState else s.answer r Code.refused)
  else if !(r.fromSystem || r.guest == (s.stg c).owner) then s.answer r Code.refused
  else (s.stgCancel c).answer r Code.done)

/-- The class whose WINDOW staging a guest feeds: the lowest one it began that still takes bytes. -/
def State.windowClass (s : State) (g : Guest) : Option (Fin 3) :=
  (idx 3).find? fun c =>
    let x := s.stg c
    x.source == 0 && x.owner == g && (x.state == .header || x.state == .body) && x.cmd.isSome

/-- STAGING_RING_READ: a part of the buffer of the descriptor at HEAD, which is given with it. A ring that is empty or disabled, and a
descriptor that the host owns, give no byte, and the staging then ends with STAGING_TIMEOUT. Image bytes are taken while
the staging takes any; a descriptor all of which is read, or whose bytes the image no longer needs, is written back with the
staging's result, and the ring is read on until LAST (R96, R531). DESIGN CHOICE (log 205). -/
def execStagingRingRead (c : Fin 3) (bytes : List Byte) (d : Desc) (s : State) : Res :=
  let g := s.stg c
  .next (match g.cmd with
  | none => s
  | some q =>
    let part := bytes.take (d.data.length - g.got)
    let r := s.withRing { q with descs := [{ d with data := d.data.take (g.got + part.length) }] } g.ring
    if g.source ≠ 1 || !(g.state == .header || g.state == .body) || g.lastRead || r.descs.isEmpty || !d.own || d.toHost then s
    else
      let t := (s.stgFeed c part).modStg c fun x => { x with got := g.got + part.length }
      let x := t.stg c
      if x.state == .refused then t.useRing r g.ring Code.refused
      else if d.data.length ≤ g.got + part.length || x.state == .checking then
        (t.modStg c fun y => { y with got := 0, lastRead := d.last }).useRing r g.ring Code.done
      else t)

/-- STAGING_TIMEOUT: 10 s without a byte (R532). -/
def execStagingTimeout (c : Fin 3) (s : State) : Res :=
  let g := s.stg c
  .next (if g.state == .header || g.state == .body then s.stgEnd c .failed Code.timeout 0 0 else s)

/-- STAGING_BODY_COMPLETE: the body checks, after which the bank is VALID (R530). In ROM recovery the bank becomes the
active one, and its image is started on trial (R545). -/
def execStagingBodyComplete (c : Fin 3) (readback : Bool) (s : State) : Res :=
  let g := s.stg c
  .next (if g.state != .checking then s
  else if Config.sha384 g.body ≠ beNat ((g.hdr.drop 44).take 48) then s.stgEnd c .failed Code.fault 11 0
  else match (if c = 2 then tableFailAt g.body else none) with
  | some off => s.stgEnd c .failed Code.fault 12 (w32 off)
  | none =>
    if !readback then s.stgEnd c .failed Code.fault 13 0
    else
      let digest := hdrTag g.hdr
      let b := s.idleBank c
      let s1 := s.modIdleBank c fun _ => {
        valid := true, header := g.hdr, digest, rollback := hdrLe g.hdr 12 2, version := hdrLe g.hdr 24 4, body := g.body }
      let s2 := if c = 2 then s1.modSaf fun x => { x with
        tables := upd x.tables b fun _ => readTable g.body, fails := upd x.fails b fun _ => none } else s1
      let s3 := (s2.stgEnd c .valid Code.done 0 (tagBytes digest)).updRaise 1
      if s.sys.romRecovery && c = 0 then (s3.switchBank 0).modFw fun f => { f with failedStarts := 0 } else s3)

/-! ### Distribution on the chain (R438, R533, R545) -/

/-- The unit serves and takes images at chain level 2 and above with SERVE or CHAIN_ACCEPT (R533, R549). -/
def State.mayServe (s : State) : Bool := s.cfg.upd.serve && 2 ≤ s.chn.level

/-- A CHAIN staging that BEGIN_STAGING began takes the next offer of its class. A unit takes an offered image that it lacks while the head's open proposal names it; a unit in ROM recovery takes a
SERVICE image from its neighbour (R533, R545). The checks of the header come before any block. -/
def State.eatOffer (s : State) (header : List Byte) : State :=
  let c := classOf (hdrLe header 10 1)
  let digest := hdrTag header
  let wanted := if s.sys.romRecovery then c == 0
    else s.cfg.upd.chainAccept && 2 ≤ s.chn.level && s.act.state == .proposed && s.act.digest == digest && s.act.clsIdx == c
  let asked := (s.stg c).source == 2 && (s.stg c).state == .header && (s.stg c).hdr.isEmpty && (s.stg c).cmd.isSome
  let held := ((s.otherBank c).valid && (s.otherBank c).digest == digest) || ((s.activeBank c).digest == digest && !s.sys.romRecovery)
  if asked && 2 ≤ s.chn.level && header.length == 512 then
    (s.modStg c fun g => { g with tag := (tagBytes digest).toNat }).stgFeed c header
  else if wanted && !held && (s.stgBlocked c).isNone && header.length == 512 then
    (s.stgBegin c 2 0 0 none (tagBytes digest).toNat).stgFeed c header
  else s

def execFwOffer (h : ChHdr) (header : List Byte) (s : State) : Res :=
  .next (s.chainRx h (.fwOffer header) (·.eatOffer header))

/-- A block of a running CHAIN staging: the next bytes are taken; a gap is asked for with FW_NACK (R438). DEDUCED (log 85). -/
def State.eatBlock (s : State) (src tag off : Nat) (data : List Byte) : State :=
  match (idx 3).find? fun c => (s.stg c).source == 2 && (s.stg c).tag == tag && (s.stg c).state == .body with
  | none => s
  | some c =>
    let pos := (s.stg c).pos
    if pos < off then s.originate src (.fwNack tag pos (off - pos))
    else s.stgFeed c (data.drop (pos - off))

def execFwBlock (h : ChHdr) (tag off : Nat) (data : List Byte) (s : State) : Res :=
  .next (s.chainRx h (.fwBlock tag off data) (·.eatBlock h.src tag off data))

/-- The image bytes of a bank with a digest tag. DESIGN CHOICE (log 90). -/
def State.imageOf (s : State) (tag : Nat) : Option (List Byte) :=
  ((idx 3).flatMap fun c => [s.activeBank c, s.otherBank c]).find? (fun b => b.valid && (tagBytes b.digest).toNat == tag)
    |>.map fun b => b.header ++ b.body

/-- Begin to serve an image from an offset: its blocks go out as the chain ports have room (R438). -/
def State.serveFrom (s : State) (tag off : Nat) : State :=
  match s.imageOf tag with
  | some image => if s.mayServe then s.modFw fun f => { f with serving := some (tag, off, image.drop off) } else s
  | none => s

/-- Send the next block of 1 016 bytes. -/
def State.serveBlock (s : State) : State :=
  match s.fw.serving with
  | none => s
  | some (tag, off, rest) =>
    let b := rest.take 1016
    let more := rest.drop 1016
    (s.modFw fun f => { f with serving := if more.isEmpty then none else some (tag, off + b.length, more) }).originate 255
      (.fwBlock tag off b)

/-- The next frame of a port: strict priority, lowest number first (R423). -/
def ChLink.nextPrio (l : ChLink) : Option (Fin 8) := (idx 8).find? fun p => !(ix l.queue p).isEmpty

/-- CHAIN_TX_DONE: the frame in progress ends and the next is served; an image being served sends its next block where nothing waits (R423, R438). -/
def execChainTxDone (k : ChPort) (s : State) : Res :=
  let l := s.chLink k
  .next (if l.busy.isNone then s
  else
    let t := s.modChLink k fun x => { x with busy := none }
    match l.nextPrio with
    | some p =>
      match ix l.queue p with
      | f :: rest => (t.modChLink k fun x => { x with queue := upd x.queue p fun _ => rest }).beginFrame k f
      | [] => t
    | none => t.serveBlock)

def State.eatNack (s : State) (tag off : Nat) : State := (s.serveFrom tag off).serveBlock

def execFwNack (h : ChHdr) (tag off len : Nat) (s : State) : Res :=
  .next (s.chainRx h (.fwNack tag off len) (·.eatNack tag off))

/-- Offer an image and begin its blocks after the header (R438). -/
def State.offerImage (s : State) (b : Bank) : State :=
  if s.mayServe && b.valid then
    ((s.originate 255 (.fwOffer b.header)).serveFrom (tagBytes b.digest).toNat 512).serveBlock
  else s

/-- FW_REQ: a neighbour in ROM recovery asks on a link; the active SERVICE image is served to it (R438, R545). -/
def execFwReq (k : ChPort) (s : State) : Res :=
  .next (if (s.chLink k).state = .up && !s.sys.romRecovery && s.sys.power != .doze then s.offerImage (s.activeBank 0) else s)

/-- ROM_FW_REQ: every 10 s out of each UP chain port while no staging from HOST runs (R545). -/
def execRomFwReq (s : State) : Res :=
  let hostStages := (s.stg 0).running && (s.stg 0).source ≠ 2
  let ask (t : State) (k : ChPort) : State := if (s.chLink k).state = .up then t.sendLocal k .fwReq else t
  .next (if s.sys.romRecovery && s.chainOn && !hostStages then ask (ask s che) chw else s)

/-! ### Activation (R432, R536 to R543) -/

/-- A proposal opens on this unit. -/
def State.openProposal (s : State) (cls unit : Nat) (digest : List Byte) (cmd : Option Req) : State :=
  s.modAct fun _ => { state := .proposed, cls, unit, digest, cmd }

/-- SCHEDULE_ACTIVATION. On a member it is carried to the head; from an unaddressed unit, which takes part in no activation, one of unit scope
is not, and lapses after ACT_WAIT (R418, R536). DEDUCED (log 226). -/
def execScheduleActivation (r : Req) (s : State) : Res :=
  let cls := r.fld 3 1 0
  let c := classOf cls
  let siteScope := !r.bit 3 4
  let b := s.otherBank c
  let open_ := s.act.state == .proposed || s.act.state == .committed || s.act.state == .swapping
  .next (if !r.fromSystem then s.answer r Code.refused
  else if cls = 3 || !b.valid || tagBytes b.digest != r.word 4 || open_ || (cls = 2 && siteScope) || (cls = 1 && !s.inService) then
    s.answer r Code.wrongState
  else if s.fenced then s.answer r Code.fenced
  else
    let unit := if siteScope then 0 else s.chn.addr
    let s1 := (s.openProposal cls unit b.digest (some r)).accept r
    let s2 := if s.chainOn && s.chn.addr = 0 && !siteScope then s1 else s1.originate (if s.chn.head then 255 else s.chn.headAddr) (.actPropose (s1.act.item (s.epochNow + 1)))
    if siteScope then s2.offerImage b else s2)

/-- Tell every unit that the open proposal is withdrawn: ACT_PROPOSE with digest 0. DEDUCED (log 86). -/
def State.withdraw (s : State) (code : Nat) : State :=
  let it : ActItem := { cls := s.act.cls, digest := 0 }
  if s.act.state != .proposed then s
  else (s.dropProposal code).originate (if s.chn.head then 255 else s.chn.headAddr) (.actPropose it)

/-- CANCEL_ACTIVATION: a commit is never withdrawn (R550). -/
def execCancelActivation (r : Req) (s : State) : Res :=
  .next (if !r.fromSystem then s.answer r Code.refused
  else if s.act.state == .proposed then (s.withdraw Code.cancelled).answer r Code.done
  else s.answer r Code.wrongState)

/-- ACTIVATION_WAIT_TIMEOUT: ACT_WAIT elapses before every unit in scope is STAGED_OK, at the head or at the unit that asked (R536). -/
def execActivationWaitTimeout (s : State) : Res :=
  .next (if s.isHead || s.act.cmd.isSome then s.withdraw Code.timeout else s)

/-- ACT_PROPOSE: at the head a member's request, taken where none is open and passed on to all; at a member the head's
proposal or its withdrawal. DEDUCED (log 86). -/
def State.eatPropose (s : State) (a : ActItem) : State :=
  let d := beBytes 48 a.digest
  let open_ := s.act.state == .proposed
  let busy := s.act.state == .committed || s.act.state == .swapping
  if a.digest = 0 then
    let t := s.dropProposal Code.cancelled
    if s.chn.head && open_ then t.originate 255 (.actPropose a) else t
  else if busy || s.fenced || s.chn.addr = 0 then s
  else if s.chn.head then
    if open_ then s else (s.openProposal a.cls a.unit d none).originate 255 (.actPropose a)
  else if open_ && s.act.digest == d then s
  else (s.dropProposal Code.cancelled).openProposal a.cls a.unit d none

def execActPropose (h : ChHdr) (a : ActItem) (s : State) : Res :=
  .next (s.chainRx h (.actPropose a) (·.eatPropose a))

/-- ACT_COMMIT: a unit in scope records the commit; a fenced or unaddressed unit takes no part (R418, R432, R436). DEDUCED (log 226). -/
def State.eatCommit (s : State) (a : ActItem) : State :=
  if s.chn.head || s.chn.addr = 0 then s
  else if !s.inScope a.unit then s.dropProposal Code.cancelled
  else if s.fenced then s.dropProposal Code.cancelled
  else
    let d := beBytes 48 a.digest
    let s1 := if s.act.digest == d then s else s.openProposal a.cls a.unit d none
    s1.commitAct a.at_

def execActCommit (h : ChHdr) (a : ActItem) (s : State) : Res :=
  .next (s.chainRx h (.actCommit a) (·.eatCommit a))

/-- The head's commit with GRANT: every reporting unit in scope that is not fenced is STAGED_OK, and no site sleep is prepared
or committed. T_act is the first epoch boundary at least 500 ms later (R432, R536). -/
def State.tryCommit (s : State) : State :=
  let a := s.act
  let asleep := s.sys.sleep.phase == .prepared || s.sys.sleep.phase == .committed
  let tag := (tagBytes a.digest).toNat
  let others := s.lease.reports.all fun u =>
    !s.reporting u || u.causes != 0 || !(a.unit == 0 || a.unit == u.addr) || u.addr == s.chn.addr || (u.rep.staged && u.rep.stagedTag == tag)
  let here := !s.inScope a.unit || s.stagedOk
  if !s.isHead || a.state != .proposed || asleep || !others || !here then s
  else
    let tAct := roundUp (s.time.chain + 500000000) 100000000
    let s1 := s.originate 255 (.actCommit (a.item tAct))
    if s.inScope a.unit then s1.commitAct tAct else s1.actEnd Code.done

/-- Bind the ports to the new legal bank: those with an open session stay on the old one until it is sealed (R540). A Legal that is
VOID with a root present starts the new image as at step 6 (R526). DEDUCED (log 88, 227). -/
def State.swapLegal (s : State) : State :=
  let old := vmap (·.ses.isSome) s.bil
  let t := ((s.switchBank 1).modFw fun f => { f with oldLegal := old, slot2 := old.toList.any id }).modKeys fun k => { k with
    measured := upd k.measured 1 fun _ => rennet 1 (s.otherBank 1).digest }
  if s.legalVoid && s.rootUsable then t.modLegal fun l => { l with state := .starting } else t.passTrial 1

/-- ACTIVATION_TIME: the bank is measured again; a class swaps as R538 to R541 say. DEDUCED (log 88). -/
def execActivationTime (intact : Bool) (s : State) : Res :=
  let a := s.act
  .next (if a.state != .committed || a.pendingStart then s
  else if s.fenced then s.actEnd Code.cancelled
  else if a.cls = 1 && !s.inService then s.actEnd Code.refused
  else if !intact then s.actEnd Code.fault
  else match a.cls with
  | 0 => s.modAct fun x => { x with state := .swapping }
  | 1 => if s.saving then s else s.swapLegal.activated
  | _ =>
    if s.saf.state == .tableFail then (s.switchBank 2).activated
    else ((s.modAct fun x => { x with state := .swapping }).switchBank 2).siteTo .init)

/-- SERVICE_SWAP_DONE: 20 ms after T_act the new image serves, on trial, with the old bank as its fallback (R538, R542). -/
def execServiceSwapDone (s : State) : Res :=
  .next (if s.act.state == .swapping && s.act.cls == 0 then
    let t := s.switchBank 0
    (t.modKeys fun k => { k with measured := upd k.measured 0 fun _ => rennet 0 (t.activeBank 0).digest }).activated
  else s)

/-- TRIAL_PASSED: a SERVICE image on trial has run 60 s. DEDUCED (log 89). -/
def execTrialPassed (s : State) : Res := .next (if s.sys.romRecovery then s else s.passTrial 0)

/-- A SERVICE image fails its trial: the fallback bank starts next, where it is VALID (R542). -/
def State.revert (s : State) : State :=
  if ix s.fw.trial 0 && (s.otherBank 0).valid then
    (((s.modFw fun f => { f with
      active := upd f.active 0 fun b => 1 - b, trial := upd f.trial 0 fun _ => false }).modAct fun a => { a with
        state := if a.cls = 0 && a.state == .done then .reverted else a.state }).updRaise 0x10).mirrorEv 7 0xFF [0, 1]
  else s

/-- A head learns of a commit that another unit holds and keeps it (R546). DEDUCED (log 171). -/
def State.keepCommit (s : State) (a : ActItem) : State :=
  let d := beBytes 48 a.digest
  if s.act.state == .committed || s.act.state == .swapping || s.act.digest == d then s
  else
    let t := (s.dropProposal Code.cancelled).openProposal a.cls a.unit d none
    if s.inScope a.unit then t.commitAct a.at_ else t.actEnd Code.done

/-- ACT_QUERY: the head answers from what it holds, a commit in which it has no part among it; the asking unit swaps on a yes
and discards its record on a no (R432, R543). A new head's question is answered by a unit that holds a commit (R546). DEDUCED (log 171). -/
def State.eatQuery (s : State) (src : Nat) (a : ActItem) (answer : Option Bool) : State :=
  match answer with
  | none =>
    if s.chn.head then
      let held := s.act.digest == beBytes 48 a.digest && s.act.state != .proposed
      s.originate src (.actQuery a (some held))
    else if s.act.state == .committed then s.originate src (.actQuery (s.act.item s.act.tAct) (some true))
    else s
  | some yes =>
    if s.act.pendingStart then
      if yes then s.modAct fun x => { x with pendingStart := false, tAct := max x.tAct s.time.chain }
      else s.actEnd Code.cancelled
    else if s.chn.head && yes then s.keepCommit a
    else s

def execActQuery (h : ChHdr) (a : ActItem) (answer : Option Bool) (s : State) : Res :=
  .next (s.chainRx h (.actQuery a answer) (·.eatQuery h.src a answer))

/-- At step 8 of a start an ACTIVATION record asks the head; a standalone unit needs no answer (R543). A member's own clock does
not tell yet whether T_act has passed, so it always asks. DEDUCED (log 203). -/
def State.resumeActivation (s : State) : State :=
  if s.act.state == .committed then
    if s.isHead then s.modAct fun a => { a with pendingStart := false }
    else (s.modAct fun a => { a with pendingStart := true }).originate s.chn.headAddr (.actQuery (s.act.item s.act.tAct) none)
  else s

/-! ### Status (R547 to R549) -/

def State.updBlock (s : State) (g : Guest) : List Word :=
  let a : Act := if s.sys.reached 8 || s.sys.romRecovery then s.act else {}
  ((idx 3).map fun c =>
    let x := s.stg c
    pack [(31, 28, x.state.code), (27, 26, x.source), (23, 16, x.reason), (15, 12, x.owner.1), (8, 8, (s.idleBank c).1)]) ++
  ((idx 3).map fun c => w32 (s.stg c).pos) ++
  [ pack [(31, 16, leNat (a.digest.take 2)), (7, 7, b1 (ix s.fw.trial 0)), (6, 6, b1 a.pendingStart), (5, 4, a.cls), (3, 0, a.state.code)],
    pack [(5, 0, ix s.fw.floor 0), (13, 8, ix s.fw.floor 1), (21, 16, ix s.fw.floor 2), (24, 24, b1 s.fw.slot2)],
    ix s.fw.ev g ]

def execGetUpdateStatus (r : Req) (s : State) : Res := .next (s.answer r Code.done (s.updBlock r.guest))

end Sys2Proof.Machine
end

