-- ==== Sys2Proof/Machine/ChainCmds.lean ====
section
/-! DEFINITION. The chain registers and commands (spec 16 R441 to R444). -/

namespace Sys2Proof.Machine

/-- CHN_LINK_E and CHN_LINK_W. -/
def State.chnLinkWord (s : State) (k : ChPort) : Word :=
  let l := s.chLink k
  pack [(31, 16, min 0xFFFF l.delay.toNat), (15, 8, l.neighbour), (3, 3, b1 (k == chw && s.chn.blocking)), (2, 0, l.state.code)]

/-- Units of an activation that have not staged it: the reporting units in scope but those STAGED_OK. -/
def State.unstaged (s : State) : Nat :=
  (s.lease.reports.filter fun u => s.reporting u && u.causes == 0 && u.addr != s.chn.addr && (s.act.unit == 0 || s.act.unit == u.addr) &&
    !(u.rep.staged && u.rep.stagedTag == (tagBytes s.act.digest).toNat)).length + b1 (s.inScope s.act.unit && !s.stagedOk)

/-- CHN_ACT: a proposal whose units are not all staged is waiting for units. -/
def State.chnAct (s : State) : Word :=
  let a := s.act
  let st := match a.state with
    | .none | .reverted => 0
    | .proposed => if s.isHead && s.unstaged != 0 then 2 else 1
    | .committed | .swapping => 3
    | .done => 4
  pack [(3, 0, st), (15, 8, if a.state == .proposed then min 255 s.unstaged else 0),
    (31, 16, if a.state == .committed then min 0xFFFF ((a.tAct - s.time.chain) / 1000000000) else 0)]

/-- CHN_STAT to CHN_ERR as in the shadow (R441). CHN_OFFSET is sign-extended as R4 has every signed value, though R441 calls its
other bits reserved. DEDUCED (log 81). DESIGN CHOICE (log 185). -/
def State.chnBlock (s : State) : List Word :=
  let c := s.chn
  let role := if !s.chainOn then 0 else if c.head then 2 else 1
  [ pack [(31, 24, c.addr), (23, 20, c.level), (19, 16, s.cfg.chain.levelCap), (13, 12, role), (11, 11, b1 c.quorate),
      (10, 10, b1 c.ring), (9, 9, b1 c.blocking), (8, 8, b1 s.fenced), (7, 5, if s.isHead then 0 else c.time.code),
      (4, 4, b1 c.electing)],
    pack [(7, 0, c.headAddr), (15, 8, if s.sys.reached 8 then c.table.length else 0), (23, 16, c.reporting), (31, 24, c.fencedUnits)],
    pack [(3, 0, c.fence), (15, 8, c.fenceEpochs)], w32 s.time.chain, w32 (s.time.chain / 2 ^ 32),
    wInt (sat24 c.offset).1, s.chnLinkWord che, s.chnLinkWord chw, tagOf (siteDigest s.cfg), c.headDigest,
    s.chnAct, pack [(15, 0, c.p0Rx), (31, 16, c.p0Dropped)], w32 c.err ]

def execGetChainStatus (r : Req) (s : State) : Res := .next (s.answer r Code.done s.chnBlock)

/-- GET_CHAIN_MEMBERS: what a member does not learn from GRANT reads 0. -/
def execGetChainMembers (r : Req) (s : State) : Res :=
  let entry (x : Nat × Nat) : List Byte :=
    let u := s.lease.reports.find? (·.addr == x.2)
    let g := s.chn.granted.find? (·.addr == x.2)
    let causes := (g.map (·.causes)).getD 0
    leBytes 16 x.1 ++ leBytes 1 x.2 ++
      leBytes 1 (flagWord [u.any s.reporting, (g.map (·.fenced)).getD false, s.chn.head && x.2 == s.chn.addr, (g.map (·.quorate)).getD false]) ++
      leBytes 1 causes ++ leBytes 1 ((u.map (·.rep.levelMax)).getD 0) ++ leBytes 2 ((g.map (·.held)).getD 0) ++
      leBytes 2 ((g.map (·.kw)).getD 0) ++ leBytes 2 ((u.map (·.rep.floor)).getD 0) ++
      leBytes 4 ((u.map fun y => (tagOf y.rep.digest).toNat).getD 0) ++ leBytes 2 0
  let bytes := s.chn.table.flatMap entry
  .next (s.answerRing r (r.fld 3 2 0) bytes [w32 bytes.length])

def execGetLinkCounters (r : Req) (s : State) : Res :=
  let l := s.chLink (if r.bit 3 0 then chw else che)
  .next (s.answer r Code.done ([l.tx, l.rx, l.crc, l.symbol, l.hopsExpired, l.dropped, l.degradedN, l.downN].map w32 ++
    [w32 (min 0xFFFF l.delay.toNat)]))

def execGetMirroredEvents (r : Req) (s : State) : Res :=
  let n := r.fld 3 18 8
  let bytes := (s.chn.mirror.take n).flatten
  .next (if !(s.chainOn && s.chn.head) then s.answer r Code.wrongState
  else if !inRange 1 1024 n then s.answer r Code.outOfRange
  else s.answerRing r (r.fld 3 2 0) bytes [w32 bytes.length])

/-- REMOVE_UNIT: the serial leaves the table at the next TABLE broadcast (R417, R444). -/
def execRemoveUnit (r : Req) (s : State) : Res :=
  let serial := leNat (r.bytes 3 16)
  .next (if !r.fromSystem then s.answer r Code.refused
  else if !(s.chainOn && s.chn.head) then s.answer r Code.wrongState
  else match s.chn.table.find? (·.1 == serial) with
  | none => s.answer r Code.outOfRange
  | some x =>
    if s.lease.reports.any (fun u => u.addr == x.2 && s.reporting u) || x.2 == s.chn.addr then s.answer r Code.wrongState
    else (s.modChn fun c => { c with removing := x.1 :: c.removing }).answer r Code.done)

def execSendTripAdvice (r : Req) (s : State) : Res :=
  .next (if !r.fromSystem then s.answer r Code.refused
  else if !s.chainOn then s.answer r Code.wrongState
  else (s.sendAdvice 0 (r.fld 3 7 0) 0xFF).answer r Code.done)

def execClearLinkCounters (r : Req) (s : State) : Res :=
  let clear (t : State) (k : ChPort) : State := t.modChLink k fun l => { l with
    tx := 0, rx := 0, crc := 0, symbol := 0, hopsExpired := 0, dropped := 0, degradedN := 0, downN := 0 }
  let s1 := if r.bit 3 0 then clear s che else s
  let s2 := if r.bit 3 1 then clear s1 chw else s1
  .next (if !r.fromSystem then s.answer r Code.refused else s2.answer r Code.done)

end Sys2Proof.Machine
end

