-- ==== Sys2Proof/Machine/Display.lean ====
section
/-! DEFINITION. The display: frame memory, regions, overdrive and the legal region (spec 21 R566 to R572, R575, R580 to
R582). -/

namespace Sys2Proof.Machine

def State.dspRaise (s : State) (bits : Word) : State := s.modDsp fun d => { d with ev := raiseAll d.ev bits }

/-! ### Frame memory: cells in ascending order, none equal to 0 -/

/-- The canonical form of a sparse memory: addresses strictly rising, no entry equal to 0. -/
def cellsWf : List (Nat × Byte) → Bool
  | [] => true
  | [c] => c.2 != 0
  | c :: d :: rest => c.2 != 0 && decide (c.1 < d.1) && cellsWf (d :: rest)

/-- The level of a pixel. -/
def cellAt : List (Nat × Byte) → Nat → Byte
  | [], _ => 0
  | c :: cs, i => if c.1 = i then c.2 else cellAt cs i

/-- Write a pixel. Writing 0 removes its entry. -/
def cellPut : List (Nat × Byte) → Nat → Byte → List (Nat × Byte)
  | [], i, v => if v = 0 then [] else [(i, v)]
  | c :: cs, i, v =>
    if c.1 < i then c :: cellPut cs i v
    else if c.1 = i then (if v = 0 then cs else (i, v) :: cs)
    else (if v = 0 then c :: cs else (i, v) :: c :: cs)

/-- The pixels of a rectangle as (index, level), row-major (R581). -/
def Rect.cells (q : Rect) (width : Nat) : List (Nat × Byte) :=
  (List.range (q.w * q.h)).map fun i => ((q.y + i / q.w) * width + q.x + i % q.w, q.data.getD i 0)

/-- Rows of the legal region (R567, R581). -/
def DspCfg.legalRowsN (c : DspCfg) : Nat := 16 * c.legalRows

/-! ### Legal views (R568) -/

/-- Decimal digits of a number, n of them. -/
def digits : Nat → Nat → List Byte
  | 0, _ => []
  | n + 1, v => digits n (v / 10) ++ [BitVec.ofNat 8 (48 + v % 10)]

/-- The tag of an image digest: bytes 0 to 3 in hexadecimal. -/
def hexTag (l : List Byte) : List Byte :=
  let h (n : Nat) : Byte := BitVec.ofNat 8 (if n < 10 then 48 + n else 55 + n)
  (l.take 4).flatMap fun b => [h (b.toNat / 16), h (b.toNat % 16)]

def vpText (p : Nat) : List Byte := ascii "VP" ++ digits 1 p

/-- Line of a 48-bit register: its last digits in mWh with a point before the last three (R568, R305). DEDUCED (log 114). -/
def kwh (n mWh : Nat) : List Byte :=
  digits n (mWh / 1000) ++ ascii "." ++ digits 3 mWh ++ ascii " kWh"

/-- The lines of view 1 and view 2 of a port. -/
def State.sessionView (s : State) (p : Port) : List (List Byte) :=
  let b := s.bilAt p
  [ vpText p.1 ++ ascii " " ++ kwh 6 (min 0xFFFFFFFFFFFF (s.nrgAt p).sesImp % 1000000000),
    ascii "SES " ++ digits 10 ((b.ses.map (·.no)).getD b.sealedNo) ]

def State.totalsView (s : State) (p : Port) : List (List Byte) :=
  [ vpText p.1 ++ ascii " +" ++ kwh 9 ((s.nrgAt p).impTot % 1000000000000),
    vpText p.1 ++ ascii " -" ++ kwh 9 ((s.nrgAt p).expTot % 1000000000000) ]

def State.unitView (s : State) : List (List Byte) :=
  [ ascii "SEAL " ++ ascii (if s.inService then "S" else "F") ++ ascii " " ++ digits 9 s.rind.sealCount,
    ascii "IMG " ++ hexTag (s.activeBank 1).digest ]

/-- Ports with an open session, ascending. -/
def State.openPorts (s : State) : List Port := (idx 8).filter fun p => (s.bilAt p).ses.isSome

/-- Ports whose tamper mark shows (R327). -/
def State.markedPorts (s : State) : List Port := (idx 8).filter fun p => (s.pqAt p).mark

/-- Put the mark "!" and the port digit into cells 22 and 23; several marks take turns each second. -/
def State.withMark (s : State) (l : List Byte) : List Byte :=
  match s.markedPorts[s.time.legalUs / 1000000 % (max 1 s.markedPorts.length)]? with
  | some p => (l ++ List.replicate 24 0x20).take 22 ++ ascii "!" ++ digits 1 p.1 ++ l.drop 24
  | none => l

/-- The lines Legal shows now: VOID and starting override every view. DESIGN CHOICE (log 110). -/
def State.legalLines (s : State) : List (List Byte) :=
  match s.legal.state with
  | .void => [ascii "NOT LEGAL FOR TRADE"]
  | .starting => [ascii "LEGAL STARTING"]
  | .run =>
    let d := s.dsp
    let port (n : Nat) : Port := ⟨n % 8, by omega⟩
    let l := match d.view with
      | 0 => s.unitView
      | 1 => s.sessionView (port d.viewPort)
      | 2 => s.totalsView (port d.viewPort)
      | _ => match s.openPorts[d.cycle % (max 1 s.openPorts.length)]? with
        | some p => s.sessionView p
        | none => s.unitView
    match l with
    | a :: rest => s.withMark a :: rest
    | [] => []

/-- The lines that fit: both in 32 rows, one of the two in 16. -/
def State.fitLines (s : State) (l : List (List Byte)) : List (List Byte) :=
  if s.dsp.cfg.legalRows = 2 then l else if s.dsp.alternate then (l.drop 1 ++ l).take 1 else l.take 1

/-- Legal's rows as its view has them now. In Doze the legal region keeps its last content (R571). -/
def State.drawLegal (s : State) : State :=
  if s.sys.power = .run then s.modDsp fun d => { d with next := s.fitLines s.legalLines } else s

/-- LEGAL_VIEW_REFRESH: Legal draws its view from the newest latch. -/
def execLegalViewRefresh (s : State) : Res := .next s.drawLegal

/-- LEGAL_LINE_ALTERNATE: every 3 s in a region of 16 rows. -/
def execLegalLineAlternate (s : State) : Res :=
  .next (s.modDsp fun d => { d with alternate := d.cfg.legalRows == 1 && !d.alternate }).drawLegal

/-- LEGAL_VIEW_CYCLE: every 5 s the cycle view moves to the next port with an open session. -/
def execLegalViewCycle (s : State) : Res :=
  let t := s.modDsp fun d => { d with cycle := if s.openPorts.isEmpty then 0 else (d.cycle + 1) % s.openPorts.length }
  .next (if s.dsp.view = 3 then t.drawLegal else t)

/-! ### Frame boundary (R569, R570) -/

/-- Take over a changed geometry; what the frame memory then holds is not stated and is free. DEDUCED (log 111). -/
def State.takeGeometry (s : State) : State :=
  let c := s.cfg.dsp
  if c = s.dsp.cfg then s
  else
    let resized := c.width != s.dsp.cfg.width || c.height != s.dsp.cfg.height
    let n := c.width * c.height
    let fresh := (List.range n).foldl (fun m i => cellPut m i (Config.freeByte (s.free + i))) []
    let t := s.modDsp fun d => { d with cfg := c, frame := if resized then fresh else d.frame }
    (if resized then t.modFree (· + n) else t).dspRaise 8

/-- FRAME_BOUNDARY: every pending region is copied as a whole, in ascending order; a pixel that changes is overdriven for the
first frame after it; the text of a VOID Legal replaces its view (R573). -/
def execFrameBoundary (s : State) : Res :=
  let s0 := s.takeGeometry
  let d := s0.dsp
  let rects := d.pending.toList.filterMap id
  let cells := rects.flatMap (·.cells d.cfg.width)
  let frame := cells.foldl (fun m c => cellPut m c.1 c.2) d.frame
  let boost := match d.cfg.od, s.cfg.od with
    | true, some od => cells.foldl (fun m c =>
        let a := cellAt d.frame c.1
        let b := cellAt frame c.1
        if a = b then m else cellPut m c.1 (od.getD (256 * a.toNat + b.toNat) 0)) []
    | _, _ => []
  let s1 := s0.modDsp fun x => { x with
    frame, boost, pending := Vector.replicate 8 none, applied := satAdd 0xFFFF x.applied rects.length
    shown := if s0.legalVoid then s0.fitLines s0.legalLines else x.next }
  .next (if rects.isEmpty then s1 else s1.dspRaise 1)

/-! ### Commands (R580 to R582) -/

/-- DISPLAY_OWNER as in force since the last frame boundary (R582). DEDUCED (log 115). -/
def State.displayOwner (s : State) (r : Req) : Bool := r.guest == s.dsp.cfg.owner

/-- UPDATE_REGION: the rectangle goes into its region's pending buffer; the latest wins. -/
def execUpdateRegion (r : Req) (s : State) : Res :=
  let c := s.dsp.cfg
  let q : Rect := { x := r.fld 4 8 0, y := r.fld 4 22 16, w := r.fld 5 8 0, h := r.fld 5 22 16, data := (s.withRing r (r.fld 3 2 0)).ringIn }
  let n : Fin 8 := ⟨r.fld 3 6 4 % 8, by omega⟩
  let ring := r.fld 3 2 0
  let d := s.withRing r ring
  let full := (ix s.dsp.pending n).isSome
  .next (if !s.displayOwner r then s.answer r Code.refused
  else if q.w = 0 || q.h = 0 || c.width < q.x + q.w || c.height < q.y + q.h || q.y < c.legalRowsN then s.answer r Code.outOfRange
  else if !d.ringOk || q.data.length < q.w * q.h then s.endRing d ring Code.shortBuffer
  else
    let s2 := (s.useRing d ring Code.done).modDsp fun d => { d with
      pending := upd d.pending n fun _ => some q, superseded := if full then satInc 0xFFFF d.superseded else d.superseded }
    (if full then s2.dspRaise 2 else s2).answer r Code.done [w32 (b1 full)])

def execSetPanelPower (r : Req) (s : State) : Res :=
  let on := r.bit 3 0
  .next (if !s.displayOwner r then s.answer r Code.refused
  else
    let t := s.modDsp fun d => { d with on }
    (if on = s.dsp.on then t else t.dspRaise 8).answer r Code.done)

/-- SELECT_LEGAL_VIEW: views 1 and 2 name a port. -/
def execSelectLegalView (r : Req) (s : State) : Res :=
  let v := r.fld 3 1 0
  let wants := v == 1 || v == 2
  .next (if !s.displayOwner r then s.answer r Code.refused
  else if s.legal.state == .void then s.answer r Code.void
  else if wants != r.namesPort then s.answer r Code.outOfRange
  else
    let t := s.modDsp fun d => { d with view := v, viewPort := if wants then r.port.1 else 0, alternate := false, cycle := 0 }
    (t.drawLegal.dspRaise 4).answer r Code.done)

def State.dspBlock (s : State) (g : Guest) : List Word :=
  let d := s.dsp
  let c := d.cfg
  [ pack [(31, 31, b1 d.on), (30, 30, b1 c.od), (29, 24, c.legalRowsN), (23, 16, c.frameHz),
      (15, 8, flagWord (d.pending.toList.map (·.isSome))), (7, 4, d.view), (3, 0, c.owner.1)],
    pack [(8, 0, c.width), (22, 16, c.height), (31, 24, c.iCol)], pack [(15, 0, d.applied), (31, 16, d.superseded)], ix d.ev g ]

def execGetDisplayStatus (r : Req) (s : State) : Res := .next (s.answer r Code.done (s.dspBlock r.guest))

end Sys2Proof.Machine
end

