-- ==== Sys2Proof/Machine/HostEvents.lean ====
section
/-! DEFINITION. Host-side events: functions and links (spec 03 R48 to R51), reset triggers (R75), interrupts
(R68 to R70, R78), the violation log's clearing (R72), counters (R79, R80), doorbells (04 R94), GLN supply
(22 R592) and clocks (02 R27, R28). -/

namespace Sys2Proof.Machine

/-- Whether a guest reaches its window over a path to read: reads go on during its reset (R48, R63, R76, R592). -/
def State.canRead (s : State) (path : Path) (g : Guest) : Bool :=
  match path with
  | .pcie => g == 0 || (s.host.vfEnable && g.1 ≤ s.host.numVFs)
  | .gln => s.host.gln == some g && s.host.glnVio

/-- A pair of base address registers: the first, the size it asks for, and its kind (R48). -/
structure Bar where
  index : Nat
  size : Nat
  bits64 : Bool := true
  prefetchable : Bool := false
  deriving DecidableEq, Repr

/-- BAR0 and BAR1: the guest's 64 KiB window; BAR2 and BAR3: 4 KiB for MSI-X (R48). -/
def guestBars : List Bar := [{ index := 0, size := 65536 }, { index := 2, size := 4096 }]

/-- The SR-IOV capability of the physical function, past the PCI-SIG identity of the capability itself (R48). -/
structure Sriov where
  totalVFs : Nat := 15
  initialVFs : Nat := 15
  numVFs : Nat
  vfEnable : Bool
  firstVfOffset : Nat := 1
  vfStride : Nat := 1
  vfDeviceId : Nat := 0x8129
  vfBars : List Bar := guestBars
  deriving DecidableEq, Repr

/-- What the configuration space of a function says of it beside what published standards fix (R48). -/
structure CfgSpace where
  vendorId : Nat
  deviceId : Nat
  bars : List Bar := []
  classCode : Nat := 0x0B4000
  sriov : Option Sriov := none
  deriving DecidableEq, Repr

/-- A read of a function's configuration space: none where it gets Request Retry Status or no function answers (R48, R51). DESIGN CHOICE (log 206). -/
def State.cfgSpace (s : State) (g : Guest) : Option CfgSpace :=
  if s.host.rrs || !s.canRead .pcie g then none
  else if g = 0 then some {
    vendorId := Config.vendorId, deviceId := 0x8128, bars := guestBars, sriov := some { numVFs := s.host.numVFs, vfEnable := s.host.vfEnable } }
  else some { vendorId := Config.vendorId, deviceId := 0x8129 }


/-- HOST link activity is a wake event (R44): every access and every event of the link and its functions that the host makes. DEDUCED (log 179). -/
def State.hostActive (s : State) (path : Path) : State := if path = .pcie then s.wakeEvent 3 else s

/-- A write of a register by a guest over a path: discarded where it has none and during its reset (R48, R76). -/
def State.hostWrite (s : State) (path : Path) (g : Guest) (f : State → State) : State :=
  (if s.canWrite path g then f s else s).hostActive path

/-- A configuration request of a function: before step 7 it is answered with Request Retry Status and does nothing (R51). -/
def State.cfgRequest (s : State) (g : Guest) (f : State → State) : State :=
  (if s.host.rrs then s.emit (.retryStatus g) else f s).hostActive .pcie

/-- POISONED_TLP: discarded, reported under AER for the function addressed and counted as host error of its guest (R50). DESIGN CHOICE (log 31). -/
def execPoisonedTlp (g : Guest) (s : State) : Res :=
  .next (((s.modGuest g fun x => { x with aerErrors := x.aerErrors + 1, hostErrors := x.hostErrors + 1 }).emit (.aerNonFatal g)).hostActive .pcie)

/-- NUMVFS_WRITE: ignored while VF Enable is set (R48); held at 0 in ROM recovery (20 R544). -/
def execNumvfsWrite (n : Fin 16) (s : State) : Res :=
  .next (s.cfgRequest 0 fun s => if s.host.vfEnable || s.sys.romRecovery then s else s.modHost fun h => { h with numVFs := n.1 })

/-- VF_ENABLE_SET: G1 to GNumVFs get their PCIe path (R48). -/
def execVfEnableSet (s : State) : Res :=
  .next (s.cfgRequest 0 fun s => s.modHost fun h => { h with vfEnable := true })

/-- A reset trigger: RST_BUSY sets and the cause is held; a trigger during a reset is absorbed (R75, R76). -/
def State.trigger (s : State) (g : Guest) (cause : Nat) : State :=
  if (s.guest g).rstBusy then s else s.modGuest g fun x => { x with rstBusy := true, rstPending := cause }

/-- VF_ENABLE_CLEAR: every virtual function goes; every guest is reset with cause 2 (R75). -/
def execVfEnableClear (s : State) : Res :=
  .next (s.cfgRequest 0 fun s => (s.modHost fun h => { h with vfEnable := false }).each (n := 16) fun g t => t.trigger g 2)

/-- FLR: of a virtual function, its guest with cause 1; of the physical function, G0 with cause 1 and every other
guest with cause 2; VF Enable and NumVFs stay as they are (R62, R75). DESIGN CHOICE (log 202). -/
def execFlr (g : Guest) (s : State) : Res :=
  .next (s.cfgRequest g fun s =>
    if !s.canRead .pcie g then s
    else if g = 0 then s.each (n := 16) fun k t => t.trigger k (if k = 0 then 1 else 2) else s.trigger g 1)

/-- The HOST link goes down under every function: each guest is reset with cause 3 (R75), and the link itself is active (R44). VF
Enable and NumVFs stay. DESIGN CHOICE (log 202). -/
def State.hostGone (s : State) : State :=
  ((s.modHost fun h => { h with linkUp := false }).each (n := 16) fun g t => t.trigger g 3).hostActive .pcie

/-- PERST_ASSERT: every guest is reset with cause 3 (R75); it is no chip reset (R31). VF Enable and NumVFs stay as they are. DESIGN CHOICE (log 202). -/
def execPerstAssert (s : State) : Res :=
  .next (s.hostGone)

/-- HOST_LINK_DOWN: every guest is reset with cause 3 (R75). DESIGN CHOICE (log 202). -/
def execHostLinkDown (s : State) : Res :=
  .next (s.hostGone)

/-- HOST_LINK_TRAINED: L0 is step 5 of the start-up; Request Retry Status until step 7 (R35, R51). -/
def execHostLinkTrained (s : State) : Res :=
  .next (((s.modHost fun h => { h with linkUp := true, l12 := false, rrs := !s.sys.reached 7 }).hostActive .pcie).reach 5)

/-- SYS_GUEST_HB_WRITE: the timer starts or restarts (R62). -/
def execSysGuestHbWrite (path : Path) (g : Guest) (s : State) : Res :=
  .next (s.hostWrite path g fun s => s.modGuest g fun x => { x with hbRunning := true })

/-- HEARTBEAT_EXPIRY: needs a configured timeout and a running timer (R75). -/
def execHeartbeatExpiry (g : Guest) (s : State) : Res :=
  .next (if (s.guest g).hbRunning && (s.gcfg g).hbMs != 0 then s.trigger g 6 else s)

/-- IRQ_STATUS_CLEAR: a write of 1 clears a pending source (R70). -/
def execIrqStatusClear (path : Path) (g : Guest) (bits : Word) (s : State) : Res :=
  .next (s.hostWrite path g fun s => s.setIrq g fun i => { i with status := i.status &&& ~~~ bits })

/-- IRQ_ARM: every pending and enabled source becomes live (R78). -/
def execIrqArm (path : Path) (g : Guest) (s : State) : Res :=
  .next (s.hostWrite path g fun s => s.setIrq g fun i => { i with arm := true })

/-- Mask an MSI-X vector, or unmask it, which sends the message held in the PBA (R70). -/
def State.maskVector (s : State) (g : Guest) (v : Fin 64) (on : Bool) : State :=
  let i := (s.guest g).irq
  let b : BitVec 64 := BitVec.ofNat 64 (2 ^ v.1)
  if on then s.modGuest g fun x => { x with irq := { x.irq with mask := x.irq.mask ||| b } }
  else
    let t := s.modGuest g fun x => { x with irq := { x.irq with mask := x.irq.mask &&& ~~~ b, pba := x.irq.pba &&& ~~~ b } }
    if i.pba.getLsbD v.1 then (t.emit (.msix g v.1)).count g 0x0C 1 else t

/-- MSIX_VECTOR_UNMASK: a write to the guest's MSI-X table. DEDUCED (log 38). -/
def execMsixVectorUnmask (g : Guest) (v : Fin 64) (s : State) : Res := .next (s.hostWrite .pcie g (·.maskVector g v false))

/-- SYS_VIOL_CLR: log, count and VIOL_PEND clear (R72). -/
def execSysViolClr (g : Guest) (s : State) : Res :=
  .next (s.hostWrite .pcie g fun s => s.modGuest g fun x => { x with viol := {} })

def State.modPfc (s : State) (g : Guest) (f : Pfc → Pfc) : State := s.modGuest g fun x => { x with pfc := f x.pfc }

/-- PFC_SNAP: the 32 live counters are copied (R79). -/
def execPfcSnap (g : Guest) (s : State) : Res :=
  .next (s.hostWrite .pcie g fun s => s.modPfc g fun p => { p with snap := p.cnt, snapTime := s.time.chain })

/-- PFC_CHIP_SNAP: the system guest's write copies every guest's counters; others' writes are ignored (R79). -/
def execPfcChipSnap (g : Guest) (s : State) : Res :=
  .next (s.hostWrite .pcie g fun s =>
    if g = 0 then (s.modHost fun h => { h with chipSnap := vmap (·.pfc.cnt) h.guests }).modPfc 0 fun p => { p with
      chipTime := s.time.chain } else s)

/-- PFC_FREEZE: all 32 counters stop or go on (R79). -/
def execPfcFreeze (g : Guest) (on : Bool) (s : State) : Res :=
  .next (s.hostWrite .pcie g fun s => s.modPfc g fun p => { p with freeze := on })

/-- PFC_PRESET: a write presets the counter (R79). -/
def execPfcPreset (g : Guest) (c : Fin 32) (v : Word) (s : State) : Res :=
  .next (s.hostWrite .pcie g fun s => s.modPfc g fun p => { p with cnt := upd p.cnt c fun _ => v })

/-- PFC_OVF_CLEAR: a write of 1 clears a wrap flag (R79, R80). -/
def execPfcOvfClear (g : Guest) (bits : Word) (s : State) : Res :=
  .next (s.hostWrite .pcie g fun s => s.modPfc g fun p => { p with ovf := p.ovf &&& ~~~ bits })

/-- QUE_DB_H2D: the host sets bits; the device clears one when it reads the ring's pointer for a command
(State.useRing). The doorbell write is counted (R81, R94). -/
def execQueDbH2d (g : Guest) (bits : Word) (s : State) : Res :=
  .next (s.hostWrite .pcie g fun s => if (bits &&& 0xFF) != 0 then
    (s.modGuest g fun x => { x with dbH2d := x.dbH2d ||| (bits &&& 0xFF) }).count g 0x0B 1 else s)

/-- QUE_DB_D2H_CLEAR: a write of 1 clears a bit (R94). -/
def execQueDbD2hClear (g : Guest) (bits : Word) (s : State) : Res :=
  .next (s.hostWrite .pcie g fun s => s.modGuest g fun x => { x with dbD2h := x.dbD2h &&& ~~~ bits })

/-- GLN_VIO_LOSS and GLN_VIO_RETURN: without its supply GLN neither drives nor listens (R592). DEDUCED (log 43). -/
def execGlnVioLoss (s : State) : Res := .next (s.modHost fun h => { h with glnVio := false })
def execGlnVioReturn (s : State) : Res := .next (s.modHost fun h => { h with glnVio := true })

/-- Whether a block holds admitted work of class D0 (R28). -/
def State.holdsD0 (s : State) (b : Blk) : Bool :=
  s.host.admitted.any fun a => a.req.cls == 0 &&
    match opInfo a.req.opcode with
    | some op => (op.blocks a.req.modemPorts).contains b
    | none => false

/-- CLOCK_GATED: an idle block without D0 work is gated (R27, R28). -/
def execClockGated (b : Blk) (s : State) : Res :=
  .next (if s.holdsD0 b || s.sys.clocks.of b != .running then s
  else s.modSys fun y => { y with clocks := y.clocks.set b .gated })

/-- CLOCK_STARTED: a start under way completes and the block runs (R27, R102). -/
def execClockStarted (b : Blk) (s : State) : Res :=
  .next (if s.sys.clocks.starting.contains b then s.modSys fun y => { y with clocks := y.clocks.runAll [b] } else s)

end Sys2Proof.Machine
end

