-- ==== Sys2Proof/Machine/SafeCmds.lean ====
section
/-! DEFINITION. The registers of Safety and the commands of groups 0x30, 0x31 and 0x32 (spec 13 R363 to R367, 14 R385 to
R389). -/

namespace Sys2Proof.Machine

/-! ### Registers (R363, R364) -/

def State.safBlock (s : State) (g : Guest) : List Word :=
  let x := s.saf
  let held (lo : Nat) := flagWord ((List.range 32).map fun i => (s.heldRows.map (·.1)).contains (lo + i))
  [s.siteStat,
    pack [(15, 0, flagWord ((idx 16).map fun k => (ix x.inputs k).level)), (31, 16, flagWord ((idx 16).map fun k => (ix x.inputs k).fault))],
    pack [(7, 0, x.outs), (15, 8, x.readBack), (23, 16, x.outFault), (31, 24, x.requests)],
    pack [(7, 0, x.diag), (31, 16, x.failAt)], w32 (held 0), w32 (held 32),
    pack [(15, 0, x.ecc), (23, 16, x.restarts), (31, 24, x.forced)], ix x.ev g]

def State.safPortBlock (s : State) (p : Port) (g : Guest) : List Word :=
  [s.safPortStat p, wInt ((s.safeCurrent p).map (satInt 24) |>.getD (-8388608)), w32 (s.spAt p).causes, ix (s.spAt p).ev g]

/-! ### Group 0x30 (R365 to R367) -/

def execGetSafetyStatus (r : Req) (s : State) : Res := .next (s.answer r Code.done (s.safBlock r.guest))

def execGetPortSafety (r : Req) (s : State) : Res :=
  .next (s.answer r Code.done (s.safPortBlock r.port r.guest ++ [w32 (s.blockers r.port)]))

def execGetTripLog (r : Req) (s : State) : Res :=
  let count := r.fld 3 16 8
  .next (if !inRange 1 256 count then s.answer r Code.outOfRange
  else
    let bytes := (s.saf.log.take count).flatMap TripEntry.bytes
    s.answerRing r (r.fld 3 2 0) bytes [w32 bytes.length])

def execGetSafetyTableInfo (r : Req) (s : State) : Res :=
  .next (s.answer r Code.done (bytesToWords (padTo 16 s.table.integrator) ++ bytesToWords (padTo 16 s.table.validation) ++
    [w32 s.table.version, w32 (ix s.fw.active 2).1]))

def execResetTrip (r : Req) (s : State) : Res :=
  let latched := match r.portOpt with
    | some p => (s.spAt p).causes != 0 || s.heldRows.any fun n => ((ix s.table.rows n).ports / 2 ^ p.1) % 2 == 1
    | none => !s.heldRows.isEmpty || ((idx 16).any fun k => (ix s.saf.inputs k).fault) || (idx 8).any fun p => (s.spAt p).causes != 0
  .next (if !r.namesPort && !r.fromSystem then s.answer r Code.refused
  else if s.saf.state = .init then s.answer r Code.busy
  else if !s.table.remoteReset then s.answer r Code.refused
  else if !latched then s.answer r Code.wrongState
  else
    let s1 := (((s.askSafety 8 r.portField).heartbeat).giveReset r.portOpt).safeAnswer r.portField 8 true
    s1.answer r Code.done [match r.portOpt with
      | some p => w32 (s1.spAt p).causes
      | none => w32 (b1 s1.siteTripped)])

def execRequestSafetyRestart (r : Req) (s : State) : Res :=
  .next (if !r.fromSystem then s.answer r Code.refused
  else if s.saf.state = .init then s.answer r Code.busy
  else if s.restartOk r.portOpt then ((((s.accept r).askSafety 9 r.portField).heartbeat).startRestart r.portOpt (some r)).safeAnswer r.portField 9 true
  else s.answer r Code.wrongState)

def execRequestSafeOut (r : Req) (s : State) : Res :=
  let mask := r.fld 3 7 0
  let value := r.fld 3 15 8
  .next (if !r.fromSystem then s.answer r Code.refused
  else if s.saf.state = .init then s.answer r Code.busy
  else if mask &&& s.requestable != mask then s.answer r Code.refused
  else
    let held := (s.saf.requests - (s.saf.requests &&& mask)) + (value &&& mask)
    let s1 := ((((s.askSafety 7 0xFF [w32 held]).heartbeat).modSaf fun x => { x with requests := held }).writeOuts).safeAnswer 0xFF 7 true
    s1.answer r Code.done [w32 s1.saf.outs])

/-! ### Groups 0x31 and 0x32 (R387 to R389) -/

def execGetEarthStatus (r : Req) (s : State) : Res :=
  .next (s.answer r Code.done (s.earthBlock r.port ++ [ix (s.spAt r.port).imdEv r.guest]))

/-- GET_IMD_GROUP. A port with a bus of its own is its only member. -/
def execGetImdGroup (r : Req) (s : State) : Res :=
  let p := r.port
  let mask (l : List Port) := l.foldl (fun a q => a + portMask q) 0
  let x := s.spAt p
  .next (s.answer r Code.done (match s.groupOf p with
  | some g =>
    [pack [(7, 0, mask (s.members g)), (15, 8, mask (s.closedOf g)), (19, 16, ((ix s.saf.injector g).map (·.1)).getD 0xF)],
      w32 (kOhm true (ix s.saf.netR g)), w32 (min 0xFFFF (ix s.saf.netC g)),
      w32 (if (ix s.saf.injector g).isNone then 0 else 60000 - min 60000 ((s.time.safetyUs - ix s.saf.slotAt g) / 1000))]
  | none =>
    [pack [(7, 0, portMask p), (15, 8, if s.joined p then portMask p else 0), (19, 16, if s.injects p then p.1 else 0xF)],
      w32 (kOhm x.measured x.rIso), w32 (min 0xFFFF x.cE), 0]))

def execGetActuatorStatus (r : Req) (s : State) : Res :=
  let b := match s.brakeOf r.port with
    | some b => s.brkStat b
    | none => 0
  .next (s.answer r Code.done (s.actBlock r.port ++ [b]))

/-- A requested self-test: it starts at once, or is deferred to the next transition into an allowed state (R175). -/
def State.runSelftest (s : State) (r : Req) (code : Nat) : State :=
  let p := r.port
  if s.saf.state = .init then s.answer r Code.busy
  else if !s.needsTest p code || s.testRunning p == code || ((s.spAt p).deferred.map (·.1)).contains code || s.saf.state != .run then
    s.answer r Code.wrongState
  else if s.testAllowed p code then ((((s.accept r).askSafety 5 p.1 [w32 code]).heartbeat).startTest p code (some r)).safeAnswer p.1 5 true
  else (s.accept r).modSp p fun x => { x with deferred := x.deferred ++ [(code, some r)] }

def execRunInsulationSelftest (r : Req) (s : State) : Res := .next (s.runSelftest r 2)
def execRunWeldTest (r : Req) (s : State) : Res := .next (s.runSelftest r 3)
def execRunBrakeTest (r : Req) (s : State) : Res := .next (s.runSelftest r 4)

def execReleaseBrake (r : Req) (s : State) : Res :=
  .next (if s.saf.state = .init then s.answer r Code.busy
  else match s.brakeOf r.port with
  | none => s.answer r Code.wrongState
  | some b =>
    let s1 := (s.askSafety 6 r.port.1 [w32 b.1]).heartbeat
    match (s1.requestRelease b none).2 with
    | 0x01 => (((s1.accept r).requestRelease b (some r)).1).safeAnswer r.port.1 6 true
    | code => (((s1.requestRelease b none).1).safeAnswer r.port.1 6 (code != Code.refused)).answer r code)

/-- A release request that waits for its brake test is withdrawn; the test goes on (R384, R389). DEDUCED (log 223). -/
def State.withdrawRelease (s : State) (b : Fin 2) : State :=
  let x := s.brkAt b
  if x.phase.isSome && x.thenRelease then
    (s.modBrk b fun y => { y with cmd := none, thenRelease := false }).testNotice x.cmd Code.cancelled 0
  else s

/-- DEDUCED (log 223). -/
def execApplyBrake (r : Req) (s : State) : Res :=
  .next (if s.saf.state = .init then s.answer r Code.busy
  else match s.brakeOf r.port with
  | none => s.answer r Code.wrongState
  | some b => ((s.withdrawRelease b).applyBrake b).answer r Code.done)

end Sys2Proof.Machine
end

