-- ==== Sys2Proof/Machine/SesOps.lean ====
section
/-! DEFINITION. The session engine's operations: availability, authorisation, preparation, ends and the session boundary
(spec 07; 04 R30, R32). -/

namespace Sys2Proof.Machine

def State.sesTo (s : State) (p : Port) (x : SesState) : State := s.modSes p fun y => { y with state := x }

/-- Tell the vehicle something of the protocol in force. -/
def State.sayVehicle (s : State) (p : Port) (kind v : Nat) : State :=
  if (s.vehAt p).link == .connected then s.emit (.toVehicle p kind v) else s

/-- A SAFETY activation is committed and its swap not complete: no session is authorised (R536). -/
def State.safetySwap (s : State) : Bool := (s.fw.act.state == .committed || s.fw.act.state == .swapping) && s.fw.act.cls == 2

/-- The result against a new session, none where the port is available for it (R157, R161, R167, R508, R536, R544): with no decision, the
conditions that block all sessions. DEDUCED (log 10). -/
def State.judge (s : State) (p : Port) (d : Option Decision) : Option Nat :=
  let billed : Bool := (d.map (·.billed)).getD false
  let credit : Bool := (d.map fun x => x.creditE != 0 || x.creditT != 0).getD false
  firstReason [
    (Code.refused, s.retired || s.sys.romRecovery),
    (Code.busy, s.saf.state == .init || s.legal.state == .starting || s.safetySwap),
    (Code.wrongState, !(s.portCfg p).enable || (s.sesAt p).state == .faulted),
    (Code.refused, s.blkSafety || s.blkContactor p || (s.vehAt p).lock.state == .fault),
    (Code.void, s.legalVoid && (billed || credit)),
    (Code.refused, (billed && (!s.meteringReady p || s.jnl.holdHigh)) || (d.isSome && !billed && !(s.sesCfg p).freeOk)),
    (Code.fenced, s.fenced),
    (Code.refused, s.testBlocked p)]

/-! ### Preparation (R162, R163) -/

/-- Insulation PASS of this session. -/
def State.insulationOk (s : State) (p : Port) : Bool :=
  (s.sesAt p).resumed || ((s.sesAt p).insAsked && (s.spAt p).pass && (s.spAt p).pre.isNone)

/-- The lock, then the insulation test request. -/
def State.prepLock (s : State) (p : Port) : State :=
  if (s.sesAt p).prep == .lock && (!(s.portCfg p).lockPresent || (s.vehAt p).lock.state == .locked) then
    s.modSes p fun x => { x with prep := .insulation }
  else s
def State.prepInsulation (s : State) (p : Port) : State :=
  let x := s.sesAt p
  if x.prep != .insulation then s
  else if s.isAc p || s.insulationOk p then s.modSes p fun y => { y with prep := .precharge }
  else if x.cableCheck && !x.insAsked then (s.modSes p fun y => { y with insAsked := true }).askSafety 5 p.1 [1]
  else s
/-- The precharge, and its 20 V test (R163, R203). -/
def State.prepPrecharge (s : State) (p : Port) : State :=
  let x := s.pwrAt p
  if (s.sesAt p).prep != .precharge then s
  else if s.isAc p || x.prechargeDone then s.modSes p fun y => { y with prep := .ready }
  else if x.state == .off && 0 < x.vPre then s.beginPrecharge p
  else s
/-- While the close waits, an output that leaves the 20 V window, or a new precharge target, takes the condition back (R163). -/
def State.leaveWindow (s : State) (p : Port) : State :=
  let x := s.pwrAt p
  if x.state == .precharge && x.prechargeDone && 2000 < (x.vMeas - x.vPre).natAbs then
    (s.modPwr p fun y => { y with prechargeDone := false }).modSes p fun y => { y with
      prep := if y.prep == .ready then .precharge else y.prep }
  else s
/-- The close request, once every condition of R163 holds and no self-test runs (R175). -/
def State.prepClose (s : State) (p : Port) : State :=
  let locked : Bool := !(s.portCfg p).lockPresent || (s.vehAt p).lock.state == .locked
  let ready : Bool := if s.isAc p then (s.vehAt p).cp.state == .c else s.insulationOk p && (s.pwrAt p).prechargeDone
  if (s.sesAt p).prep == .ready && locked && ready && s.testRunning p == 0 then
    ((s.sesTo p .closing).askSafety 2 p.1).divide
  else s

/-- Preparation goes on as far as it can. -/
def State.advance (s : State) (p : Port) : State :=
  if (s.sesAt p).state != .preparing then s
  else (((s.prepLock p).prepInsulation p).prepPrecharge p).prepClose p

/-- Preparation begins: the lock is started first. -/
def State.startPrep (s : State) (p : Port) : State :=
  (if (s.vehAt p).lock.state == .locked then s else s.startLock p true none).advance p

/-! ### Authorisation (R158 to R161) -/

/-- A port is refused: the protocol's failure response; in BASIC the PWM stays off (R157). -/
def State.refuseVehicle (s : State) (p : Port) : State :=
  ((s.sayVehicle p 1 0).modVeh p fun x => { x with pwmHeld := x.link == .basic }).refreshPwm p

/-- A session has opened, with a record at Legal or without one under a VOID Legal. -/
def State.opened (s : State) (p : Port) (no : Nat) (rec_ : Bool) : State :=
  let cmd := (s.sesAt p).authCmd
  let s1 := s.modSes p fun y => { y with
    state := .preparing, decision := y.asked, asked := none, openReq := false, authCmd := none, sesOpen := rec_, voidRun := !rec_, sesNo := no, unlockDue := false, endClass := 0
    endCause := 0, ending := false, rampTimeout := false, escalated := false, sealDeferred := false, prep := .lock
    cableCheck := false, insAsked := false, resumed := false, linkLost := false, warnE := false, warnT := false, overE := 0, imp := 0
    exp := 0, openS := 0, closedS := 0, openedAt := s.time.legalUs, current := 0 }
  let s1b := s1.modSp p fun y => { y with preFail := false }
  let s2 := match cmd with
    | some r => s1b.answer r Code.done [w32 no]
    | none => s1b
  ((((s2.sesRaise p 2).sayVehicle p 5 0).modVeh p fun x => { x with pwmHeld := false }).refreshPwm p).startPrep p

/-- An accepting decision: the session open request to Legal, or a session under Safety alone (R161). DEDUCED (log 54). -/
def State.openWith (s : State) (p : Port) (d : Decision) (cmd : Option Req) : State :=
  let s1 := s.modSes p fun x => { x with asked := some d, preauth := none, authCmd := cmd }
  if s.legalVoid then s1.opened p 0 false
  else (s1.modSes p fun x => { x with openReq := true }).emit (.openReq p)

/-- A rejection, or a decision that cannot be taken: back to PLUGGED (R159). DEDUCED (log 55). -/
def State.reject (s : State) (p : Port) : State :=
  ((s.sesTo p .plugged).modSes p fun x => { x with preauth := none, openReq := false, asked := none }).refuseVehicle p

/-- The automatic decision: no identifier, and the EVCCID as the label (R159, R179). -/
def State.autoDecision (s : State) (p : Port) : Decision :=
  { source := 5, billed := (s.sesCfg p).autoBilled, hostRef := (s.vehAt p).evccid }

/-- The identification point (R158): AUTHORISING, and what decides at once. -/
def State.identify (s : State) (p : Port) : State :=
  let x := s.sesAt p
  if x.state != .plugged && x.state != .ended then s
  else if (s.judge p none).isSome then s.refuseVehicle p
  else
    let s1 := ((s.sesTo p .authorising).sesRaise p 1).sayVehicle p 4 0
    let d := match x.preauth with
      | some (d, _) => some d
      | none => if (s.sesCfg p).autoMode then some (s.autoDecision p) else none
    match d with
    | some d => if (s1.judge p (some d)).isSome then s1.reject p else s1.openWith p d none
    | none => s1

/-! ### The session boundary (R162, R167, R171, R172) -/

/-- Clear a port's service state, PLUGGED where CP is B, C or D whatever PP says: link, protocol and staged set-points (R30, R137). DEDUCED (log 70). -/
def State.portClear (s : State) (p : Port) : State :=
  let plugged := (s.vehAt p).cp.state.present
  let s0 := match (s.sesAt p).authCmd with
    | some r => s.answer r Code.wrongState
    | none => s
  let s1 := ((s0.stopLock p).clearIdle p).disable p
  let s2 := s1.modVeh p fun x => { x with link := if x.link = .off then .off else if plugged then .plugged else .idle }
  let s3 := if (s2.vehAt p).link = .off then s2 else s2.drive p (if plugged then .hlc else .high)
  s3.modSes p fun x => { x with
    preauth := none, openReq := false, authCmd := none, asked := none
    state := match x.state with
      | .off | .faulted | .sealing => x.state
      | _ => if plugged then .plugged else .idle }

/-- A port is reset: the RESET_PORT commands that waited get DONE (R32, R154). DEDUCED (log 59). -/
def State.portReset (s : State) (p : Port) : State :=
  let cmds := (s.vehAt p).resetCmds
  let s1 := (s.portClear p).modVeh p fun x => { x with resetCmds := [], resetting := false }
  cmds.foldl (fun t r => t.final r Code.done) s1

/-- Bytes 64 to 95 of tag page 1 (R562). DEDUCED (log 64). -/
def State.sealedEntry (s : State) (p : Port) : List Byte :=
  let x := s.sesAt p
  padTo 32 (leBytes 1 p.1 ++ leBytes 1 x.endClass ++ leBytes 1 x.endCause ++ leBytes 1 0 ++ leBytes 4 x.sesNo ++ leBytes 6 x.imp ++
    leBytes 6 x.exp ++ (s.chainHead p).take 4 ++ leBytes 4 s.legal.run)

/-- Result code of STOP_SESSION's notice by the class (R180). -/
def endCode (cls : Nat) : Nat := if cls = 1 then Code.done else if cls = 2 then Code.fault else Code.cancelled

/-- Leave SEALING, after a restart by what Safety saw of the plug (R171), with the record sealed or without one (R162, R172): the port's session boundary. DEDUCED (log 56, 59). DESIGN CHOICE (log 233). -/
def State.leaveSealing (s : State) (p : Port) (sealed : Bool) : State :=
  let x := s.sesAt p
  let next : SesState := if x.restarted then (if x.endClass = 2 then .faulted else if (s.spAt p).unplugged then .idle else .ended)
    else if !(s.vehAt p).link.inUse then .idle else if x.endClass = 2 then .faulted else .ended
  let bits : Word := (if sealed then 0x40 else 0) ||| 0x80 ||| (if next = .faulted then 0x100 else 0)
  let s1 := (s.modSes p fun y => { y with
    state := next, restarted := false, sesOpen := false, voidRun := false, ending := false, decision := y.decision, stopCmds := []
    sealDeferred := !sealed && y.sesOpen, prep := .lock, cableCheck := false, insAsked := false }).sesRaise p bits
  let s2 := x.stopCmds.foldl (fun t r => t.final r (endCode x.endClass) [w32 x.endCause, w32 x.sesNo]) s1
  let s3 := if sealed then (s2.modNfc fun n => { n with lastSes := s2.sealedEntry p }).mirrorBody 1 p.1
      (leBytes 4 x.sesNo ++ leBytes 1 x.endClass ++ leBytes 1 x.endCause ++ leBytes 6 x.imp) else s2
  let s4 := if (s.sesCfg p).unlockOnEnd then s3.startLock p false none else s3
  ((((s4.applyPort p).applySource p).checkBlocked p).runDeferred p).divide.availPoll p

/-- The unlock that a restart owes is driven once the contactors are confirmed open (R171). -/
def State.dueUnlock (s : State) (p : Port) : State :=
  if (s.sesAt p).unlockDue && s.openOk p then (s.modSes p fun x => { x with unlockDue := false }).startLock p false none else s

/-- What a port in SEALING does once the contactors are confirmed open: a reset that waits clears the port; under a VOID
Legal no record is waited for (R32, R172). -/
def State.sealCheck (s : State) (p : Port) : State :=
  if (s.sesAt p).state != .sealing || !s.openOk p then s
  else
    let s1 := if (s.vehAt p).resetting then s.portReset p else s
    if (s1.sesAt p).voidRun || s1.legalVoid then s1.leaveSealing p false else s1

/-- Enter SEALING: Legal gets the end's class and cause (R162, R298). -/
def State.toSealing (s : State) (p : Port) : State :=
  let x := s.sesAt p
  let s1 := (s.sesTo p .sealing).modBil p fun b => { b with ses := b.ses.map fun r => { r with
    endClass := x.endClass, endCause := x.endCause, escalated := x.escalated, sealDue := true } }
  (s1.wantChanged p).sealCheck p

/-! ### Ends (R168 to R170) -/

/-- The class of a cause: 1 completed, 2 faulted, 3 interrupted. -/
def causeClass (c : Nat) : Nat := if c / 16 = 0 then 1 else if c / 16 = 1 then 2 else 3
/-- Severity of a class: completed, interrupted, faulted (R170). DEDUCED (log 56). -/
def severity (cls : Nat) : Nat := if cls = 2 then 2 else if cls = 3 then 1 else 0

/-- Begin the ramp-down of a closed port (R169): I_END from the current at its start; on AC the PWM goes off. -/
def State.ramp (s : State) (p : Port) (degraded : Bool) : State :=
  let s1 := s.rampDown p degraded
  if (s.sesAt p).state == .rampdown then s1
  else
    let i := (s.metAt p).regI.natAbs
    let s2 := (s1.sesTo p .rampdown).modSes p fun x => { x with iEnd := max 5000 (i / 100), rampTimeout := false }
    if s.isAc p then (s2.modVeh p fun x => { x with pwmHeld := true }).refreshPwm p else s2

/-- Ask Safety to open (R162): the ramp-down is complete. -/
def State.askOpen (s : State) (p : Port) : State :=
  (((s.sesTo p .opening).askSafety 4 p.1).askSafety 3 p.1).wantChanged p

/-- Actions of a trip, a contactor fault or UNPLUG: staged steps are recalled, and the engine follows Safety (R169). A contactor
fault leads to SEALING at once, from CLOSING by way of OPENING (R162). -/
def State.endAbrupt (s : State) (p : Port) (cause : Nat) : State :=
  let s1 := s.halt p
  let s2 := if cause = 0x10 then (s1.stopLock p).askSafety 3 p.1 else s1
  if s.openOk p then (s2.disable p).toSealing p
  else if cause = 0x13 && (s.sesAt p).state != .closing then s2.toSealing p
  else (s2.sesTo p .opening).wantChanged p

/-- Actions of safe-degraded: the ramp at the converter's down-slew (R205). -/
def State.endDegraded (s : State) (p : Port) : State :=
  match (s.sesAt p).state with
  | .preparing | .paused => ((s.stopLock p).disable p).toSealing p
  | .closing | .charging | .rampdown => s.ramp p true
  | _ => s

/-- Actions of a controlled end (R169). -/
def State.endControlled (s : State) (p : Port) : State :=
  let s1 := s.sayVehicle p 0 (s.sesAt p).endCause
  match (s.sesAt p).state with
  | .preparing | .paused => ((s1.stopLock p).disable p).toSealing p
  | .charging => s1.ramp p false
  | _ => s1

/-- The place in R164's order of the trigger that a cause names. -/
def causeRank (c : Nat) : Nat :=
  match c with
  | 0x11 | 0x12 => 1
  | 0x10 => 2
  | 0x13 => 3
  | 0x17 => 4
  | 0x03 => 5
  | 0x02 | 0x21 => 6
  | 0x01 | 0x22 => 7
  | _ => 8

/-- The 1 ms step of the session engine (R164). DESIGN CHOICE (log 188). -/
def State.sesStep (s : State) : Nat := s.time.chain / 1000000

/-- The class and cause of an end that Legal already has are put right. -/
def State.reseal (s : State) (p : Port) : State :=
  let x := s.sesAt p
  s.modBil p fun b => { b with ses := b.ses.map fun r => { r with endClass := x.endClass, endCause := x.endCause, escalated := x.escalated } }

/-- End a session with a cause (R168, R170). The actions of a trip, UNPLUG, a contactor fault or safe-degraded follow whatever end
runs before the contactors open (R162); a class once reached is never lowered. A cause that comes before the one that began the end in the order of R164, within the
same step, is the one that begins it. DEDUCED (log 56, 71). DESIGN CHOICE (log 188). -/
def State.endSession (s : State) (p : Port) (cause : Nat) : State :=
  let x := s.sesAt p
  let cls := causeClass cause
  let first : Bool := !x.ending || (x.endStep == s.sesStep && causeRank cause < x.endRank)
  let worse : Bool := decide (severity cls ≤ severity x.endClass)
  if !x.state.inSession || (!first && worse && (x.state == .opening || x.state == .sealing || 4 ≤ causeRank cause)) then s
  else
    let s1 := s.modSes p fun y =>
      let z := if first then { y with ending := true, endCause := cause, endStep := s.sesStep, endRank := causeRank cause } else y
      if !x.ending then { z with endClass := cls, escalated := false }
      else if severity cls < severity x.endClass then { z with escalated := x.escalated || first }
      else { z with endClass := cls, escalated := (x.escalated && !first) || (!first && severity x.endClass < severity cls) }
    if x.state == .sealing then (if first then s1.reseal p else s)
    else match cause with
    | 0x10 | 0x11 | 0x13 => s1.endAbrupt p cause
    | 0x12 => s1.endDegraded p
    | _ => s1.endControlled p

/-- UNPLUG or the loss of PP (R162): a session ends; otherwise the port is idle again. DEDUCED (log 58). -/
def State.sesUnplug (s : State) (p : Port) : State :=
  match (s.sesAt p).state with
  | .plugged | .ended | .faulted =>
    if (s.sesAt p).state == .faulted && s.blkContactor p then s else ((s.sesTo p .idle).runDeferred p).availPoll p
  | .authorising =>
    let s1 := match (s.sesAt p).authCmd with
      | some r => s.answer r Code.wrongState
      | none => s
    (s1.modSes p fun x => { x with state := .idle, openReq := false, authCmd := none, asked := none }).runDeferred p
  | _ => s.endSession p 0x10

/-- A port protocol fault, or RESET_PORT without a command: the port is reset at once, or after its session's end (R30, R32,
R206). DEDUCED (log 60). -/
def State.resetPort (s : State) (p : Port) (cause : Nat) : State :=
  if (s.sesAt p).state.inSession then
    (s.modVeh p fun x => { x with resetting := true }).endSession p cause |>.sealCheck p
  else s.portReset p

/-! ### Registers (R177) -/

/-- CONTACTOR of SES_STAT. DEDUCED (log 57). -/
def State.contactorCode (s : State) (p : Port) : Nat :=
  let x := s.spAt p
  if x.state == .contactorFault then 3 else if x.state == .closed then 2 else if s.openOk p then 0 else 1

def State.sesStat (s : State) (p : Port) : Word :=
  let x := s.sesAt p
  let src := (x.decision.map (·.source)).getD 0
  let billed : Bool := (x.decision.map (·.billed)).getD false
  pack [(31, 28, x.state.code), (27, 26, x.endClass), (25, 24, s.contactorCode p), (23, 16, x.endCause), (15, 13, src),
    (12, 12, b1 billed), (11, 11, b1 x.preauth.isSome), (10, 10, b1 x.ending), (9, 9, b1 (x.warnE || x.warnT)), (8, 8, b1 (x.overE != 0)),
    (7, 7, b1 x.rampTimeout), (6, 6, b1 x.escalated), (5, 5, b1 ((s.spAt p).pre.isNone && s.testRunning p != 0)),
    (4, 4, b1 ((s.spAt p).deferred.any (·.2.isSome))), (3, 3, b1 x.sealDeferred)]

def State.sesAvail (s : State) (p : Port) : Word := pack [(23, 8, s.selftestAge p), (7, 0, s.avail p)]

/-- Remaining credit of the open session: energy, time, and which kinds it carries. -/
def State.creditLeft (s : State) (p : Port) : Nat × Nat × Bool × Bool :=
  match (s.bilAt p).ses with
  | none => (0, 0, false, false)
  | some r => (r.creditE - (s.nrgAt p).sesImp, r.creditT - (s.legal.proc - r.nOpen) / 51200, r.creditE != 0, r.creditT != 0)

/-- Seconds since the session opened. -/
def State.elapsed (s : State) (p : Port) : Nat :=
  if (s.sesAt p).state.inSession then min 0xFFFFFF ((s.time.legalUs - (s.sesAt p).openedAt) / 1000000) else 0

def State.sesBlock (s : State) (g : Guest) (p : Port) : List Word :=
  let c := s.creditLeft p
  [s.sesStat p, w32 (s.sesAt p).sesNo, s.sesAvail p, ix (s.sesAt p).ev g] ++ pair48 c.1 ++
    [pack [(23, 0, c.2.1), (24, 24, b1 c.2.2.1), (25, 25, b1 c.2.2.2)], w32 (s.elapsed p)]

end Sys2Proof.Machine
end

