-- ==== Sys2Proof/Machine/Leases.lean ====
section
/-! DEFINITION. Power epochs: reports, grants, leases, reductions, fencing and site configuration epochs (spec 08 R209 to R214;
16 R419, R429 to R437). -/

namespace Sys2Proof.Machine

/-! ### Reports (R210, R211, R430, R431) -/

/-- This unit's REPORT. -/
def State.ownReport (s : State) : ReportFrame :=
  { serial := s.sys.serial, demand := s.demandKw, held := s.heldKw, missed := min 3 s.lease.missed, levelMax := s.cfg.chain.levelCap
    locked := s.chn.time == .locked, staged := s.stagedOk, service := s.inService, floor := s.cfg.lease.floor
    weight := s.cfg.lease.weight, digest := siteDigest s.cfg, act := (idx 3).map fun c => leNat ((s.activeBank c).digest.take 4)
    stagedTag := if s.act.state == .proposed && (s.otherBank s.act.clsIdx).valid && (s.otherBank s.act.clsIdx).digest == s.act.digest then
      (tagBytes s.act.digest).toNat else 0
    offset := s.chn.offset, siteId := s.cfg.chain.siteId }

/-- REPORT_SEND: a member's report, at 10 ms and 100 µs for each address; a question about an activation that was missed goes with
it until the head answers (R543). DEDUCED (log 171). -/
def execReportSend (s : State) : Res :=
  .next (if s.chainOn && !s.chn.head && s.chn.addr != 0 then
    let t := s.originate s.chn.headAddr (.report s.ownReport)
    if s.act.pendingStart then t.originate s.chn.headAddr (.actQuery (s.act.item s.act.tAct) none) else t
  else s)

/-- Put a report into the head's record of its unit. -/
def State.putReport (s : State) (addr : Nat) (r : ReportFrame) : State :=
  let old := s.lease.reports.find? (·.addr == addr)
  let u : UnitRep := {
    addr, epoch := s.epochNow, rep := r, causes := (old.map (·.causes)).getD 0, kw := (old.map (·.kw)).getD 0
    heal := (old.map (·.heal)).getD 0 }
  s.modLease fun l => { l with
    reports := (l.reports.filter (·.addr < addr)) ++ u :: l.reports.filter (addr < ·.addr) }

/-- First epoch that starts at least 200 ms from now. -/
def State.epochIn200ms (s : State) : Nat := (s.time.chain + 200000000 + 99999999) / 100000000

/-- A unit whose digest differs under an equal SITE_ID gets the head's items, once for each healing. DEDUCED (log 91). -/
def State.healUnit (s : State) (addr : Nat) (r : ReportFrame) : State :=
  let u := (s.lease.reports.find? (·.addr == addr)).map (·.heal) |>.getD 0
  if r.siteId = s.cfg.chain.siteId && r.digest != siteDigest s.cfg && s.chn.prop.isNone && u ≤ s.epochNow then
    let e := s.epochIn200ms
    (s.originate addr (.siteConfig e s.cfg.site)).modLease fun l => { l with
      reports := l.reports.map fun x => if x.addr = addr then { x with heal := e } else x }
  else s

/-- A serial that the table lacks comes in under the address that it reports from; one that the table holds keeps its address (R417). DEDUCED (log 84). -/
def State.eatReport (s : State) (src : Nat) (r : ReportFrame) : State :=
  if !s.chn.head || src = 0 then s
  else
    let s1 := s.modChn fun c => if c.table.any (fun x => x.2 == src || x.1 == r.serial) then c else { c with table := tablePut c.table r.serial src }
    (s1.putReport src r).healUnit src r

def execReport (h : ChHdr) (rep : ReportFrame) (s : State) : Res :=
  .next (s.chainRx h (.report rep) (·.eatReport h.src rep))

/-! ### Grants (R212, R213, R419, R435, R436) -/

/-- A unit as the head's grant sees it. -/
structure GrantUnit where
  addr : Nat
  /-- Its report came in this epoch. -/
  here : Bool
  floor : Nat
  weight : Nat
  want : Nat
  held : Nat
  g : Nat
  deriving DecidableEq, Repr

/-- The site limit in force on the head. DESIGN CHOICE (log 92). -/
def State.siteL (s : State) : Nat := s.lease.tmp.getD s.cfg.siteLimit

/-- Fence causes of a unit: DIGEST, LEVEL, TIME, SITE_ID. The head is never fenced. DESIGN CHOICE (log 92). -/
def State.fenceOf (s : State) (level : Nat) (u : UnitRep) : Nat :=
  if u.addr = s.chn.addr then 0
  else
    let r := u.rep
    flagWord [r.siteId == s.cfg.chain.siteId && r.digest != siteDigest s.cfg, level < r.levelMin || r.levelMax < 1,
      100000 < r.offset.natAbs, r.siteId != s.cfg.chain.siteId]

/-- What the head counts of a unit: its last HELD, or its floor once T_RELEASE has passed or where no report has arrived since this
unit became head (R211, R213). The floor of a unit that never reported is free. A unit whose report did not arrive in this epoch
wants nothing of the water-fill. DESIGN CHOICE (log 92, 217). -/
def State.grantUnit (s : State) (causes : Nat → Nat) (addr : Nat) : GrantUnit :=
  match s.lease.reports.find? (·.addr == addr) with
  | none =>
    let f := Config.unitFloor addr
    { addr, here := false, floor := f, weight := 1, want := 0, held := f, g := f }
  | some u =>
    let here := u.epoch = s.epochNow
    let r := u.rep
    { addr, here, floor := r.floor, weight := max 1 r.weight
      want := if here && causes addr = 0 then r.demand - r.floor else 0
      held := if u.epoch + 65 ≤ s.epochNow || u.epoch + s.lease.headEpochs < s.epochNow then r.floor else r.held, g := r.floor }

/-- The weighted water-fill of R212. -/
def waterFill : Nat → Nat → List GrantUnit → List GrantUnit
  | 0, _, l => l
  | n + 1, left, l =>
    let w := ((l.filter fun u => 0 < u.want).map (·.weight)).sum
    let q := if w = 0 then 0 else left / w
    if q = 0 then l
    else
      let give (u : GrantUnit) : Nat := min u.want (q * u.weight)
      waterFill n (left - (l.map give).sum) (l.map fun u => { u with g := u.g + give u, want := u.want - give u })

/-- Increases only from the room that nobody holds, in ascending address. -/
def fromRoom : Nat → List GrantUnit → List GrantUnit
  | _, [] => []
  | room, u :: l =>
    if u.held < u.g then
      let inc := min (u.g - u.held) room
      { u with g := u.held + inc } :: fromRoom (room - inc) l
    else u :: fromRoom room l

/-- Quorum of R419. -/
def State.quorum (s : State) (here : List Nat) : Bool :=
  let n := max s.chn.table.length s.cfg.chain.expect
  let low := (s.chn.table.map (·.2)).min?
  n < 2 * here.length || (2 * here.length == n && (low.map here.contains).getD false)

/-- GRANT_COMPUTE: at 40 ms the head decides levels, fencing, quorum and the grants of the next epoch. A standalone unit is its own
head, and its floor alone may exceed the limit (R209, R212). -/
def execGrantCompute (s0 : State) : Res :=
  if !s0.chainOn then .next (s0.modLease fun l => { l with overcommit := s0.siteL < s0.cfg.lease.floor })
  else if !s0.chn.head then .next s0
  else
    let s := s0.putReport s0.chn.addr s0.ownReport
    let now := s.lease.reports.filter fun u => u.epoch = s.epochNow
    let here := now.map (·.addr)
    let level := (now.filter fun u => 1 ≤ u.rep.levelMax).foldl (fun a u => min a u.rep.levelMax) s.cfg.chain.levelCap
    let causes (a : Nat) : Nat := ((now.find? (·.addr == a)).map (s.fenceOf level)).getD 0
    let units := (s.chn.table.map (·.2)).map (s.grantUnit causes)
    let l := s.siteL
    let floors := (units.map (·.floor)).sum
    let past := l < floors
    let quorate := s.quorum here
    let room := if past || s.lease.headEpochs < 3 then 0 else l - (units.map (·.held)).sum
    let filled := if quorate then fromRoom room (waterFill (2 * units.length + 2) (l - floors) units) else units
    let entries : List GrantEntry := (filled.filter (·.here)).map fun u =>
      { addr := u.addr, fenced := causes u.addr != 0, causes := causes u.addr, quorate, kw := u.g, held := u.held }
    let s1 := s.modLease fun x => { x with
      overcommit := past
      reports := x.reports.map fun u => { u with
        causes := if u.epoch = s.epochNow then causes u.addr else u.causes
        kw := ((filled.find? (·.addr == u.addr)).map (·.g)).getD u.kw } }
    .next (s1.modChn fun c => { c with
      granted := entries, quorate, reporting := here.length, fencedUnits := (entries.filter (·.fenced)).length
      levelNext := some level, headDigest := tagOf (siteDigest s.cfg) })

/-- Split a list into frames of at most n entries. -/
def chunks (n : Nat) : Nat → List GrantEntry → List (List GrantEntry)
  | 0, _ => []
  | f + 1, l => if l.isEmpty then [] else l.take n :: chunks n f (l.drop n)

/-- A grant for the coming epoch (R209, R210): a decrease starts its ramps now. DEDUCED (log 84). -/
def State.takeGrant (s : State) (e : GrantEntry) : State :=
  (s.modLease fun l => { l with next := some e.kw, missed := 0 }).divide

/-- GRANT_BROADCAST: at 50 ms, in as many frames as it needs; the head takes its own grant, and commits an activation that is
staged everywhere. -/
def execGrantBroadcast (s : State) : Res :=
  if !s.chainOn then .next s.tryCommit
  else if !s.chn.head then .next s
  else
    let frame (l : List GrantEntry) : ChBody := .grant {
      epoch := (s.epochNow + 1) % 2 ^ 32, limit := s.siteL, level := s.chn.levelNext.getD s.chn.level, entries := l
      digest := siteDigest s.cfg }
    let s1 := (chunks 127 (s.chn.granted.length + 1) s.chn.granted).foldl (fun t l => t.originate 255 (frame l)) s
    let s2 := match s.chn.granted.find? (·.addr == s.chn.addr) with
      | some e => s1.takeGrant e
      | none => s1
    .next s2.tryCommit

/-- GRANT at a member: until 90 ms, for the coming epoch. -/
def State.eatGrant (s : State) (g : GrantFrame) : State :=
  if s.chn.head || g.epoch != (s.epochNow + 1) % 2 ^ 32 || 90000000 < s.time.chain % 100000000 then s
  else
    let others := s.chn.granted.filter fun e => !g.entries.any (·.addr == e.addr)
    let s1 := s.modChn fun c => { c with
      granted := others ++ g.entries, levelNext := some g.level, headDigest := tagOf g.digest }
    let s2 := s1.modLease fun l => { l with tmp := if g.limit = s.cfg.siteLimit then none else some g.limit }
    match g.entries.find? (·.addr == s.chn.addr) with
    | some e =>
      (s2.modChn fun c => { c with fenceNext := some (if e.fenced then e.causes else 0), quorate := e.quorate }).takeGrant e
    | none => s2

def execGrant (h : ChHdr) (gr : GrantFrame) (s : State) : Res :=
  .next (s.chainRx h (.grant gr) (·.eatGrant gr))

/-! ### Reductions (R214, R221) -/

/-- The lease falls at once to f per mille of itself, and not below the floor. -/
def State.reduceLease (s : State) (f : Nat) : State :=
  let new := max s.cfg.lease.floor (s.lease.lease * f / 1000)
  let s1 := s.modLease fun l => { l with lease := new, state := .reduced }
  (if new = s.lease.lease then s1 else s1.each (n := 8) fun p t => t.pwrRaise p 0x80).divide

/-- f of a temporary limit. -/
def State.perMille (s : State) (limit : Nat) : Nat := min 1000 (limit * 1000 / s.cfg.siteLimit)

/-- The head, or a standalone unit, takes a temporary limit, or returns to SITE_LIMIT. -/
def State.reduceSite (s : State) (limit seconds : Nat) : State :=
  if seconds = 0 then s.modLease fun l => { l with tmp := none }
  else
    let f := s.perMille limit
    let s1 := s.modLease fun l => { l with
      tmp := some (min limit s.cfg.siteLimit), tmpEnd := s.time.chain + seconds * 1000000000 }
    (s1.originate 255 (.reduce f seconds)).reduceLease f

/-- DEDUCED (log 93). -/
def State.eatReduce (s : State) (f : Nat) : State := s.reduceLease (min 1000 f)
def execReduce (h : ChHdr) (f : Nat) (seconds : Nat) (s : State) : Res :=
  .next (s.chainRx h (.reduce f seconds) (·.eatReduce f))

/-- DEDUCED (log 75). -/
def State.eatReduceReq (s : State) (limit seconds : Nat) : State := if s.chn.head then s.reduceSite limit seconds else s
def execReduceReq (h : ChHdr) (limit : Nat) (seconds : Nat) (s : State) : Res :=
  .next (s.chainRx h (.reduceReq limit seconds) (·.eatReduceReq limit seconds))

/-- REDUCE_END: the stated duration is over. -/
def execReduceEnd (s : State) : Res := .next (if s.isHead then s.modLease fun l => { l with tmp := none } else s)

/-- REDUCE_SITE_POWER. A member applies the reduction and sends it to the head. DEDUCED (log 75). -/
def execReduceSitePower (r : Req) (s : State) : Res :=
  let limit := r.fld 3 15 0
  let seconds := r.fld 3 27 16
  .next (if !r.fromSystem then s.answer r Code.refused
  else if s.fenced then s.answer r Code.fenced
  else if s.cfg.siteLimit < limit || 3600 < seconds then s.answer r Code.outOfRange
  else if s.isHead then (s.reduceSite limit seconds).answer r Code.done
  else
    let s1 := s.originate s.chn.headAddr (.reduceReq limit seconds)
    (if seconds = 0 then s1 else s1.reduceLease (s.perMille limit)).answer r Code.done)

/-! ### Site configuration epochs (R431) -/

/-- The reason of the item that a unit refuses, 0 where it refuses none: SET_SITE_POWER, then SET_CHAIN_CONFIG over the unit's other fields as they will be in
force (R123). DEDUCED (log 94). -/
def State.siteReason (s : State) (x : SiteItems) : Nat :=
  match siteLimitReason x.limit with
  | some n => n
  | none => (chainReason (s.projected.withSite x).chain).getD 0

/-- SITE_CONFIG at a member: items that pass are held until its deadline; they take the place of those of an epoch still to come, which the head has moved. DEDUCED (log 94). -/
def State.eatSiteConfig (s : State) (src epoch : Nat) (x : SiteItems) : State :=
  if s.chn.head then s
  else
    let r := s.siteReason x
    (if r = 0 then
      ((s.modConf fun c => { c with committed := c.committed.filter fun t => t.site.isNone || t.since ≤ s.epochNow }).modChn fun c => { c with
        siteHeld := some (epoch, x) })
    else s).originate src (.configAck r)

def execSiteConfig (h : ChHdr) (epoch : Nat) (x : SiteItems) (s : State) : Res :=
  .next (s.chainRx h (.siteConfig epoch x) (·.eatSiteConfig h.src epoch x))

def State.eatConfigAck (s : State) (src reason : Nat) : State :=
  if s.chn.head && reason = 0 then
    s.modChn fun c => { c with prop := c.prop.map fun x => { x with waiting := x.waiting.erase src } }
  else s

def execConfigAck (h : ChHdr) (reason : Nat) (s : State) : Res :=
  .next (s.chainRx h (.configAck reason) (·.eatConfigAck h.src reason))

/-- A member journals the items that it holds as a transaction of its own, which applies at E (R431). DEDUCED (log 94). -/
def State.journalHeld (s : State) : State :=
  match s.chn.siteHeld with
  | none => s
  | some (e, x) =>
    let k := (s.conf.commitEpoch + 1) % 2 ^ 31
    ((s.appendConf { type := 0x21, len := 68, key := k }).modConf fun c => { c with
      commitEpoch := k, committed := c.committed ++ [{ epoch := k, unit := [], site := some x, since := e }] }).modChn fun c => { c with siteHeld := none }

/-- SITE_CONFIG_DEADLINE: 200 ms before E. A member journals what it holds. At the head, E moves on by 1 s up to 8 times; then it stands whatever the
answers, and the digests of the units that did not agree fence them. DEDUCED (log 94). -/
def execSiteConfigDeadline (s : State) : Res :=
  .next (match s.chn.prop with
  | none => if s.chn.head then s else s.journalHeld
  | some x =>
    if !s.chn.head || x.agreed then s
    else if x.waiting.isEmpty || x.moves = 8 then s.modChn fun c => { c with prop := some { x with agreed := true } }
    else
      let y := { x with epoch := x.epoch + 10, moves := x.moves + 1 }
      (s.modChn fun c => { c with prop := some y }).sendSite { y with waiting := s.unfencedUnits })

/-- Start of E on a member: items still held, whose deadline did not come, are journalled now. DEDUCED (log 94). -/
def State.applyHeld (s : State) : State :=
  match s.chn.siteHeld with
  | none => s
  | some (e, _) => if s.epochNow < e then s else s.journalHeld

/-- Start of E on the head: its transaction may apply now. -/
def State.releaseSite (s : State) : State :=
  if !(s.chainOn && s.chn.head) then
    (s.modConf fun c => { c with committed := c.committed.map fun t => { t with siteWait := false } }).modChn fun c => { c with prop := none }
  else match s.chn.prop with
  | none => s.propose
  | some x =>
    if !x.agreed || s.epochNow < x.epoch then s
    else
      let first := (s.conf.committed.find? fun t => t.siteWait && !t.unitApplied).map (·.epoch)
      ((s.modConf fun c => { c with
        committed := c.committed.map fun t => if first = some t.epoch then { t with siteWait := false } else t }).modChn fun c => { c with
          prop := none }).chnRaise 8

/-! ### The epoch boundary (R124, R209, R210, R436) -/

/-- The lease of the epoch that starts: the grant received, or the lease kept with a miss counted; the third miss expires it. -/
def State.renewLease (s : State) : State :=
  if !s.chainOn then s.modLease fun l => { l with
    lease := match l.tmp with
      | some t => max s.cfg.lease.floor t
      | none => s.cfg.siteLimit
    state := .standalone, missed := 0, next := none }
  else match s.lease.next with
  | some w => s.modLease fun l => { l with lease := w, state := .granted, missed := 0, next := none }
  | none =>
    let asleep : Bool := match s.sys.sleep.wakeEpoch with
      | some e => s.epochNow ≤ e + 1
      | none => false
    let m := if asleep then s.lease.missed else min 3 (s.lease.missed + 1)
    s.modLease fun l => { l with
      missed := m, lease := if m = 3 then s.cfg.lease.floor else l.lease, state := if m = 3 then .floor else l.state }

/-- Fencing of the last GRANT takes effect. A unit that is fenced leaves a committed activation. DEDUCED (log 97). -/
def State.renewFence (s : State) : State :=
  let new := if s.chainOn && !s.chn.head then s.chn.fenceNext.getD s.chn.fence else 0
  let old := s.chn.fence
  let s1 := s.modChn fun c => { c with
    fence := new, fenceNext := none, fenceEpochs := if new = 0 then 0 else satInc 0xFF c.fenceEpochs }
  if (old = 0) = (new = 0) then s1
  else
    let s2 := ((s1.chnRaise (if new = 0 then 3 else 2)).service 4 0xFF new).mirrorEv 3 0xFF [new]
    let s3 := if new != 0 && s.act.state == .committed then s2.actEnd Code.cancelled else s2
    if new != 0 && (s.sys.sleep.phase == .prepared || s.sys.sleep.phase == .committed) then
      s3.stayAwake.finalOpt s.sys.sleep.cmd Code.cancelled
    else s3

/-- POWER_EPOCH_START. In Doze nothing of it happens (R433). -/
def execPowerEpochStart (s : State) : Res :=
  if s.sys.power != .run then .next s
  else
    let s1 := (s.renewLease.modLease fun l => { l with epoch := s.epochNow, headEpochs := l.headEpochs + 1 }).renewFence
    let s2 := s1.modChn fun c => { c with level := c.levelNext.getD c.level, levelNext := none }
    let s3 := if s2.sys.reached 8 then (s2.applyHeld.releaseSite).applyBoundary else s2
    let s4 := if s3.chainOn then s3 else s3.renewLease
    .next (s4.propose.divide.availAll)

end Sys2Proof.Machine
end

