-- ==== Sys2Proof/Machine/MeshBits.lean ====
section
/-! DEFINITION. The bits of a mesh frame: frame control, payload header, MIC and checks, the symbols it takes under the link's
tone map, and the coexistence mask (spec 17 R449 to R453). -/

namespace Sys2Proof.Machine

/-- Next hop of a frame. DEDUCED (log 103). -/
def MFrame.hop (f : MFrame) : Nat := if f.dst = 255 then 255 else f.route.getD f.idx f.dst

/-- The link map of a neighbour may be used: a map is held, and the link is older than 1 s (R449). -/
def State.mapToward (s : State) (a : Nat) : Option Nat :=
  match s.msh.nbr a with
  | some n => if n.since + 1000000000 ≤ s.time.chain then n.gen else none
  | none => none

/-! ### Tone maps and the mask (R451, R453) -/

/-- A segment's map as the mask leaves it: a notched group carries nothing, and with the mask active a carrier of group g loses
a bit for each 3 dB of COEX_DB(g) (R453). -/
def maskSeg (x : ToneSeg) (c : MeshCfg) (mask : Bool) : ToneSeg :=
  { x with load := x.load.mapIdx fun d b =>
      let g : Fin 16 := ⟨d / 120 % 16, by omega⟩
      if c.notch.testBit g.1 then 0 else if mask then b - ix c.coex g / 3 else b }

/-- By how many dB each group of carriers is lowered, none where it is notched (R453). -/
def MeshCfg.groups (c : MeshCfg) (mask : Bool) : List (Option Nat) :=
  (idx 16).map fun g => if c.notch.testBit g.1 then none else some (if mask then ix c.coex g else 0)

/-- The segment of a neighbour's mains cycle that a chain time falls into, as its last PHASE frame projects; segment 0 of a uniform
map (R451). -/
def State.segmentAt (s : State) (n : MshNbr) (t : Nat) : Nat :=
  match s.msh.raw.find? (·.1 == n.addr) with
  | some (_, x) => if n.uniform || x.period = 0 then 0 else ((((t : Int) - x.t0) % (x.period : Int)).toNat * 16 / x.period) % 16
  | none => 0

/-- Symbols that bits (times 126) take from a chain time on, each 128 µs under the map of its own segment (R451). -/
def State.symbols (s : State) (n : MshNbr) : Nat → Nat → Nat → Nat
  | 0, _, _ => 0
  | k + 1, bits, t =>
    if bits = 0 then 0
    else
      let x := maskSeg (n.segs.getD (s.segmentAt n t) { load := [] }) s.cfg.mesh s.msh.mask
      s.symbols n k (bits - x.bits126) (t + 128000) + 1

/-- Payload symbols of a frame of some bytes: 480 bits a symbol in ROBO, else by the maps, at most 21 (R449, R451). -/
def State.nsym (s : State) (hop : Nat) (gen : Option Nat) (len : Nat) : Nat :=
  match gen, s.msh.nbr hop with
  | some _, some n => s.symbols n 21 (8 * len * 126) (s.time.chain + 291840)
  | _, _ => min 21 ((8 * len + 479) / 480)

/-! ### Frame control (R449) -/

/-- The 64 bits of frame control. DESIGN CHOICE (log 196). -/
def frameControl (type src dst : Nat) (gen : Option Nat) (coex : Bool) (nsym ack : Nat) : Nat :=
  let v := type % 16 + src % 256 * 2 ^ 4 + dst % 256 * 2 ^ 12 + b1 gen.isSome * 2 ^ 20 + b1 coex * 2 ^ 21 + gen.getD 0 % 16 * 2 ^ 22 +
    nsym % 32 * 2 ^ 26 + ack % 2 ^ 16 * 2 ^ 31
  v + crc16 (lsbBits 48 v) * 2 ^ 48

/-- Frame control of an ACK to a unit for a SEQ. -/
def State.controlAck (s : State) (dst seq : Nat) : Nat := frameControl 2 s.chn.addr dst none s.msh.mask 0 seq

/-! ### The payload (R450, R452, R459) -/

/-- The 961 bytes of a segment (R452): two loadings a byte, the lower carrier in the low half, then the code rate. DESIGN CHOICE (log 102). -/
def segBytes (x : ToneSeg) : List Byte :=
  ((List.range 960).map fun i => BitVec.ofNat 8 (x.load.getD (2 * i) 0 % 16 + 16 * (x.load.getD (2 * i + 1) 0 % 16))) ++
    [BitVec.ofNat 8 x.rate.1]

/-- KIND of a frame (R450). -/
def MBody.kind : MBody → Nat
  | .chain _ => 1
  | .msync .. => 2
  | .nbr _ => 3
  | .tmap .. => 4
  | .phase _ => 5
  | .delay _ => 6

/-- What a frame carries, as bytes. DESIGN CHOICE (log 196). -/
def MBody.content : MBody → List Byte
  | .chain f => f.bytes
  | .msync origin corr => Config.meshPayload 2 [origin, fldInt 64 corr]
  | .nbr l => Config.meshPayload 3 (l.flatMap fun x => [x.1, x.2])
  | .tmap gen seg x => Config.meshPayload 4 [gen, seg.1] ++ segBytes x
  | .phase x => leBytes 4 x.epoch ++ leBytes 8 x.t0 ++ leBytes 4 x.off1 ++ leBytes 4 x.off2 ++ leBytes 4 x.period ++
      leBytes 1 (x.refPhase % 4 + 4 * b1 x.negative)
  | .delay t1 => Config.meshPayload 6 [t1]

/-- The key of slot MESH_KEY. -/
def State.meshKey (s : State) : Nat := ((s.slotAt s.cfg.mesh.key).map (·.key)).getD 0

/-- The payload's bytes: the header, the content encrypted and authenticated with an 8-byte MIC under a nonce of SRC, SEQ and the
epoch, which is 0 for MSYNC, and a CRC-32 (R450). -/
def State.meshBytes (s : State) (f : MFrame) : List Byte :=
  let data := f.body.content.take 1056
  let head := leBytes 1 (1 + 16 * f.body.kind) ++ leBytes 1 f.src ++ leBytes 1 f.dst ++ leBytes 1 f.hops ++
    padTo 6 (f.route.map (BitVec.ofNat 8)) ++ leBytes 1 f.idx ++ leBytes 1 f.body.cls ++ leBytes 2 f.seq ++ leBytes 2 data.length
  let epoch := if f.body.kind = 2 then 0 else s.epochNow
  let nonce := padTo 13 (leBytes 1 f.src ++ leBytes 2 f.seq ++ leBytes 4 epoch)
  let b := head ++ padTo (data.length + 8) (Config.aesCcm s.meshKey nonce head data)
  b ++ leBytes 4 (crc32 b)

/-- A frame as it goes out now (R449). -/
def State.meshOut (s : State) (f : MFrame) : Out :=
  let hop := f.hop
  let gen := if hop = 255 then none else s.mapToward hop
  let bytes := s.meshBytes f
  .meshFrame hop gen s.msh.mask f (frameControl 1 s.chn.addr hop gen s.msh.mask (s.nsym hop gen bytes.length) 0) bytes
    (s.cfg.mesh.groups s.msh.mask)

end Sys2Proof.Machine
end

