-- ==== Sys2Proof/Machine/Mesh.lean ====
section
/-! DEFINITION. The Glohar mesh: receiving, access, repeaters, tone maps, time and phase detection (spec 17 R447 to
R463). -/

namespace Sys2Proof.Machine

/-! ### Receiving (R450, R454, R455) -/

/-- A neighbour heard for the first time. -/
def State.knowNbr (s : State) (a : Nat) : State :=
  if (s.msh.nbr a).isSome then s
  else s.modMsh fun m => { m with nbrs := m.nbrs ++ [{ addr := a, since := s.time.chain }] }

/-- A frame that this unit passes on: a broadcast once with HOPS − 1, a unicast frame to the next entry of ROUTE. -/
def State.meshPass (s : State) (m : MHdr) (b : MBody) : State :=
  if m.hops ≤ 1 then s
  else
    let f : MFrame := { src := m.src, dst := m.dst, hops := m.hops - 1, route := m.route, seq := m.seq, body := b
                        idx := if m.dst = 255 then m.idx else m.idx + 1 }
    s.modMsh fun x => { x with queue := x.queue ++ [f] }

/-- A mesh frame received: acknowledged where it is unicast, kept by (SRC, SEQ) for 100 ms where it is a broadcast, passed on
where this unit repeats it, and consumed where it is for this unit. The body given is the one a repeater sends. -/
def State.meshRx (s : State) (m : MHdr) (b : MBody) (eat : State → State) : State :=
  let own := s.chn.addr
  if !s.meshMember || (s.sys.power == .doze && !b.ofSleep) || !(m.linkDst == 255 || m.linkDst == own) || (m.src != 0 && m.src == own) then s
  else
    let s1 := (s.knowNbr m.linkSrc).modMsh fun x => { x with rx := satInc 0xFFFFFFFF x.rx }
    let s2 := if m.linkDst = 255 then s1 else s1.emit (.meshAck m.linkSrc m.seq (s.controlAck m.linkSrc m.seq))
    if m.dst = 255 then
      let live := s2.msh.seen.filter fun x => s.time.chain ≤ x.2.2 + 100000000
      if live.any fun x => x.1 == m.src && x.2.1 == m.seq then s2
      else
        let s3 := s2.modMsh fun x => { x with seen := live ++ [(m.src, m.seq, s.time.chain)] }
        (eat s3).meshPass m b
    else if m.dst = own then eat s2
    else s2.meshPass m b

def execMeshBadFrame (s : State) : Res :=
  .next (if s.meshMember then s.modMsh fun m => { m with errCrc := satInc 0xFFFF m.errCrc } else s)

/-! ### Access (R454, R455) -/

/-- MESH_CONTENTION: the unit's first frame of its highest class goes out, under the link map or in ROBO. -/
def execMeshContention (s : State) : Res :=
  let ready := s.msh.queue.filter fun f => !s.msh.sleeping || f.body.ofSleep
  let top := (ready.map (·.body.cls)).foldl max 0
  .next (match ready.find? (·.body.cls == top) with
  | none => s
  | some f =>
    if !s.meshMember || s.msh.air.isSome then s
    else
      let hop := f.hop
      (s.modMsh fun m => { m with
        queue := m.queue.erase f, air := if hop = 255 then none else some f, tx := satInc 0xFFFFFFFF m.tx }).emit
        (s.meshOut f))

/-- Count a unicast attempt toward a neighbour. DEDUCED (log 100). -/
def State.countTry (s : State) (a : Nat) (ok : Bool) : State :=
  s.modNbr a fun n => { n with tries := (n.tries.filter fun t => s.time.chain ≤ t.1 + 10000000000) ++ [(s.time.chain, ok)] }

def execMeshAck (src seq : Nat) (s : State) : Res :=
  .next (match s.msh.air with
  | some f => if f.hop = src && f.seq = seq then (s.countTry src true).modMsh fun m => { m with air := none } else s
  | none => s)

/-- MESH_ACK_TIMEOUT: retried up to four times; then a repeater takes its own least-cost path in the hops left where it
leads another way, and otherwise the frame is abandoned (R455). DEDUCED (log 100). -/
def execMeshAckTimeout (s : State) : Res :=
  .next (match s.msh.air with
  | none => s
  | some f =>
    let s1 := (s.countTry f.hop false).modMsh fun m => { m with air := none }
    if f.tries < 4 then s1.modMsh fun m => { m with queue := { f with tries := f.tries + 1 } :: m.queue }
    else
      let other := if f.src = s.chn.addr then none else s1.meshPath f.dst f.hops
      match other with
      | some path =>
        if path.head? = some f.hop then s1.modMsh fun m => { m with errAbandon := satInc 0xFFFF m.errAbandon }
        else s1.modMsh fun m => { m with
          queue := { f with route := path.dropLast, idx := 0, tries := 0 } :: m.queue }
      | none => s1.modMsh fun m => { m with errAbandon := satInc 0xFFFF m.errAbandon })

/-! ### Neighbours (R455) -/

/-- Which of a neighbour's last 5 NBR frames were decoded, its silence since counted as misses; one is due every 2 s. -/
def MshNbr.heard (n : MshNbr) (now : Nat) : List Bool :=
  let missed := (now + 1000000000 - n.lastNbr) / 2000000000 - 1
  (List.replicate (min 5 missed) false ++ n.hist).take 5

/-- List the neighbours decoded in at least 3 of their last 5 NBR frames. -/
def State.relist (s : State) : State :=
  let new := s.msh.nbrs.map fun n => { n with listed := 3 ≤ ((n.heard s.time.chain).filter id).length }
  let changed := new.map (·.listed) != s.msh.nbrs.map (·.listed)
  let t := s.modMsh fun m => { m with nbrs := new }
  if changed then t.mshRaise 0 else t

/-- A neighbour's NBR frame: heard directly it counts for its link; its list serves the routes. -/
def State.eatNbr (s : State) (m : MHdr) (l : List (Nat × Nat)) : State :=
  let s1 := s.modMsh fun x => { x with tables := (m.src, l) :: x.tables.filter (·.1 != m.src) }
  if m.linkSrc = m.src then
    (s1.modNbr m.src fun n => { n with
      hist := (true :: (if n.hist.isEmpty then [] else n.heard s.time.chain)).take 5, lastNbr := s.time.chain }).relist
  else s1

def execNbr (m : MHdr) (l : List (Nat × Nat)) (s : State) : Res := .next (s.meshRx m (.nbr l) (·.eatNbr m l))

/-- NBR_SEND: every 2 s. -/
def execNbrSend (s : State) : Res :=
  .next (if s.meshMember then let t := s.relist; t.meshSend 255 (.nbr t.nbrList) else s)

/-! ### Tone maps (R451, R452) -/

/-- One segment of a new generation; with all 16 the transmitter moves to it. -/
def State.eatTmap (s : State) (src gen : Nat) (seg : Fin 16) (x : ToneSeg) : State :=
  (s.knowNbr src).modNbr src fun n =>
    let segs := upd (if n.newGen = gen then n.newSegs else Vector.replicate 16 none) seg fun _ => some x
    if segs.toList.all (·.isSome) then
      { n with newGen := gen, newSegs := segs, gen := some gen, segs := segs.toList.filterMap id, refreshed := s.time.chain }
    else { n with newGen := gen, newSegs := segs }

def execTmap (m : MHdr) (gen : Nat) (seg : Fin 16) (x : ToneSeg) (s : State) : Res :=
  .next (s.meshRx m (.tmap gen seg x) (·.eatTmap m.src gen seg x))

/-- TMAP_SEND: the receiver sends all 16 segments of a new generation of its map for a neighbour. -/
def execTmapSend (nbr : Nat) (segs : Vector ToneSeg 16) (s : State) : Res :=
  .next (match s.msh.nbr nbr with
  | some n =>
    if !s.meshMember then s
    else
      let gen := (n.rxGen + 1) % 16
      let s1 := s.modNbr nbr fun x => { x with rxGen := gen, rxSegs := segs.toList }
      (idx 16).foldl (fun t i => t.meshSend nbr (.tmap gen i (ix segs i))) s1
  | none => s)

/-- MESH_MAP_EXPIRY: a map not refreshed for 60 s; the link returns to ROBO. -/
def execMeshMapExpiry (nbr : Nat) (s : State) : Res :=
  .next (match s.msh.nbr nbr with
  | some n => if n.gen.isSome then (s.modNbr nbr fun x => { x with gen := none, segs := [] }).mshRaise 3 else s
  | none => s)

/-! ### Delay and time (R457) -/

/-- MESH_DELAY: t4 of 0 is a neighbour's request, which is answered; a full exchange measures the link. DEDUCED (log 105). -/
def State.eatDelay (s : State) (src t1 t2 t3 t4 : Nat) : State :=
  if t4 = 0 then s.meshSend src (.delay t1)
  else s.modNbr src fun n => { n with delay := (quot (((t4 : Int) - t1) - ((t3 : Int) - t2)) 2).toNat }

def execMeshDelay (m : MHdr) (t1 t2 t3 t4 : Nat) (s : State) : Res :=
  .next (s.meshRx m (.delay t1) (·.eatDelay m.src t1 t2 t3 t4))

/-- MESH_DELAY_SEND: every 1 s with each neighbour. -/
def execMeshDelaySend (s : State) : Res :=
  .next ((s.msh.nbrs.filter (·.listed)).foldl (fun t n => t.meshSend n.addr (.delay s.time.chain)) s)

/-- MSYNC: it counts as SYNC for elections, and is this unit's time where no chain SYNC came for 10 ms. DESIGN CHOICE (log 82). -/
def State.eatMsync (s : State) (m : MHdr) (origin : Nat) (corr : Int) : State :=
  if s.chn.head then s
  else
    let chainSync : Bool := match s.chn.syncAt with
      | some t => decide (s.time.legalUs ≤ t + 10000)
      | none => false
    let s1 := s.modMsh fun x => { x with msyncAt := some s.time.legalUs }
    if chainSync then s1
    else
      let delay := ((s.msh.nbr m.linkSrc).map (·.delay)).getD 0
      ((s1.modMsh fun x => { x with meshTime := true }).modChn fun c => { c with headAddr := m.src }).applyTime
        (origin + corr / 65536 + delay) true

/-- A repeater adds its residence time, which is free, and the delay of the link the frame came by. -/
def execMsync (m : MHdr) (origin : Nat) (corr : Int) (s : State) : Res :=
  let delay : Int := ((s.msh.nbr m.linkSrc).map (·.delay)).getD 0
  let t := s.useFree
  .next (t.meshRx m (.msync origin (corr + (delay + Config.freeNat s.free) * 65536)) (·.eatMsync m origin corr))

/-- MSYNC_SEND: the head every 10 ms. -/
def execMsyncSend (s : State) : Res :=
  .next (if s.chainOn && s.chn.head then s.meshSend 255 (.msync s.time.chain 0) else s)

/-- MSYNC_LOST: none for 100 ms. -/
def execMsyncLost (s : State) : Res :=
  .next (if s.meshMember && !s.chn.head && s.msh.msyncAt.isSome then
    (s.modMsh fun m => { m with msyncAt := none, meshTime := false }).mshRaise 1 else s)

/-! ### Zero crossings and phases (R447, R459, R460) -/

/-- SPL_ZC_EDGE: an edge less than 15 ms after the previous one is a glitch. In an epoch of R459 the first edge is kept. -/
def execSplZcEdge (k : Fin 3) (t : Nat) (s : State) : Res :=
  let prev := ix s.msh.zc k
  let glitch : Bool := match prev with
    | some p => decide (t < p + 15000000)
    | none => false
  .next (if glitch then s
  else s.modMsh fun m => { m with
    zc := upd m.zc k fun _ => some t
    periods := match prev with
      | some p => if k = 0 then ((t - p) :: m.periods).take 64 else m.periods
      | none => m.periods
    first := if (t / 100000000) % 100 = 0 then
      upd m.first k fun f => if f.any (· / 100000000 == t / 100000000) then f else some t else m.first })

/-- SPL_ZC_ABSENT: no edge for 25 ms. -/
def execSplZcAbsent (k : Fin 3) (s : State) : Res :=
  .next (s.modMsh fun m => { m with zc := upd m.zc k fun _ => none, periods := if k = 0 then [] else m.periods })

/-- T: the mean of the last 64 cycles (R451). -/
def Msh.period (m : Msh) : Nat := if m.periods.isEmpty then 0 else (quot m.periods.sum m.periods.length).toNat

/-- The PHASE frame of this unit (R459). DEDUCED (log 197). -/
def State.phaseFrame (s : State) : PhaseFrame :=
  let edge (k : Fin 3) : Option Nat := (ix s.msh.first k).filter (· / 100000000 == s.epochNow)
  let off (k : Fin 3) : Nat := match edge 0, edge k with
    | some a, some b => if a ≤ b then b - a else b + s.msh.period - a
    | _, _ => 0xFFFFFFFF
  { epoch := s.epochNow % 2 ^ 32, t0 := (edge 0).getD 0, off1 := off 1, off2 := off 2, period := s.msh.period
    refPhase := if s.chn.head then s.cfg.mesh.refPhase else 0, negative := s.chn.head && s.cfg.mesh.negative }

/-- Whether an angle of d / T cycles lies within 20° of a number of degrees. -/
def within20 (d period deg : Nat) : Bool :=
  let x := d * 360
  let y := deg * period
  let gap := if x < y then y - x else x - y
  decide (gap ≤ 20 * period) || decide (360 * period ≤ gap + 20 * period)

/-- Class and REVERSED of an angle (R460): 1 same, 2 lag 120, 3 lag 240, 0 unknown. -/
def phaseClass (d period : Nat) : Nat × Bool :=
  if within20 d period 0 then (1, false) else if within20 d period 120 then (2, false)
  else if within20 d period 240 then (3, false) else if within20 d period 180 then (1, true)
  else if within20 d period 300 then (2, true) else if within20 d period 60 then (3, true) else (0, false)

/-- Local rotation of a unit (R460): 0 unknown, 1 positive, 2 negative. -/
def rotationOf (x : PhaseFrame) : Nat :=
  if x.off1 = 0xFFFFFFFF || x.off2 = 0xFFFFFFFF || x.period = 0 || x.t0 = 0 then 0
  else if within20 x.off1 x.period 120 && within20 x.off2 x.period 240 then 1
  else if within20 x.off1 x.period 240 && within20 x.off2 x.period 120 then 2
  else 0

/-- The phase k steps after a phase in the site sequence (R460). -/
def phaseAfter (negative : Bool) (ph k : Nat) : Nat := (ph - 1 + (if negative then 2 * k else k)) % 3 + 1

/-- The result of a unit's PHASE frame, its chain time being good, against the head's of the same epoch; it stands after two agreeing epochs. DEDUCED (log 104). -/
def classify (timed : Bool) (old : PhaseRes) (h x : PhaseFrame) : PhaseRes :=
  let known := timed && x.t0 != 0 && h.t0 != 0 && h.period != 0
  let d := (((x.t0 : Int) - h.t0) % (h.period : Int)).toNat
  let (cls, rev) := if known then phaseClass d h.period else (0, false)
  let rot := rotationOf x
  let a := if cls = 0 then 0 else phaseAfter h.negative h.refPhase (cls - 1)
  let full := cls != 0 && rot != 0
  let agree := cls != 0 && old.epoch + 100 == x.epoch && old.cls == cls && old.reversed == rev && old.rotation == rot
  { addr := old.addr, epoch := x.epoch, delta := if known then (quot (d * 36000) h.period).toNat % 36000 else 0, cls
    reversed := rev, rotation := rot, a, stands := agree
    b := if full then phaseAfter h.negative a rot else 0, c := if full then phaseAfter h.negative a (2 * rot) else 0
    stood := if agree then some (cls, rev, rot) else old.stood }

/-- Classify the frame held of a unit, where the head's of the same epoch is held. -/
def State.classifyUnit (s : State) (a : Nat) : State :=
  match s.msh.headPhase, s.msh.raw.find? (·.1 == a) with
  | some h, some (_, x) =>
    if h.epoch ≠ x.epoch then s
    else if a = s.chn.addr then
      let new := classify (s.chn.head || s.chn.time == .locked || s.msh.meshTime) s.msh.own h x
      let t := s.modMsh fun m => { m with own := { new with addr := a } }
      if new.stood ≠ s.msh.own.stood then t.mshRaise 4 else t
    else
      let old := (s.msh.phases.find? (·.addr == a)).getD { addr := a }
      s.modMsh fun m => { m with phases := (m.phases.filter (·.addr < a)) ++ [classify true old h x] ++ m.phases.filter (a < ·.addr) }
  | _, _ => s

/-- Hold a PHASE frame; the head's lets every frame of its epoch be classified. -/
def State.holdPhase (s : State) (a : Nat) (x : PhaseFrame) (ofHead : Bool) : State :=
  let s1 := s.modMsh fun m => { m with
    raw := (a, x) :: m.raw.filter (·.1 != a), headPhase := if ofHead then some x else m.headPhase }
  if ofHead then (s1.msh.raw.map (·.1)).foldl (fun t b => t.classifyUnit b) s1 else s1.classifyUnit a

/-- DEDUCED (log 104, 197). -/
def State.eatPhase (s : State) (src : Nat) (x : PhaseFrame) : State :=
  (s.modNbr src fun n => { n with uniform := x.t0 == 0 }).holdPhase src x (src == s.chn.headAddr)

def execPhase (m : MHdr) (x : PhaseFrame) (s : State) : Res := .next (s.meshRx m (.phase x) (·.eatPhase m.src x))

/-- PHASE_SEND: every 10 s, within the epoch of its edges. DEDUCED (log 197). -/
def execPhaseSend (s : State) : Res :=
  .next (if s.meshMember then
    let x := s.phaseFrame
    ((s.meshSend 255 (.phase x)).holdPhase s.chn.addr x s.chn.head).modMsh fun m => { m with first := Vector.replicate 3 none }
  else s)

/-- PHASE_FRAME_TIMEOUT: none from a receiver for 30 s; its link takes the uniform map. -/
def execPhaseFrameTimeout (nbr : Nat) (s : State) : Res := .next (s.modNbr nbr fun n => { n with uniform := true })

/-! ### Coexistence (R453) -/

/-- The mask is to be active: a port of a PLC connector type has a link state of R453. MCS alone uses T1S. -/
def State.maskDue (s : State) : Bool :=
  (idx 8).any fun p => (ix s.cfg.port p).connType != 2 && match (s.vehAt p).link with
    | .plugged | .matching | .linked | .connected => true
    | _ => false

/-- COEX_MASK_CHANGE: 1 ms after a link-state change. -/
def execCoexMaskChange (s : State) : Res :=
  .next (if s.maskDue == s.msh.mask then s else (s.modMsh fun m => { m with mask := s.maskDue }).mshRaise 2)

/-! ### Commands (R464 to R467) -/

def State.mshStatus (s : State) (g : Guest) : List Word :=
  let m := s.msh
  let c := s.cfg.mesh
  let o := m.own
  let hopTo := ((s.meshPath s.chn.headAddr 6).getD []).head?
  let rate := (hopTo.bind m.nbr).map MshNbr.rate |>.getD 0
  let st := if !c.enable then 0 else if m.sleeping then 3 else if s.meshMember then 2 else 1
  [ pack [(23, 16, c.psd), (11, 11, b1 (s.meshMember && s.chn.head)), (10, 10, b1 s.meshOnly), (9, 9, b1 m.meshTime),
      (8, 8, b1 m.msyncAt.isSome), (7, 5, flagWord (m.zc.toList.map (·.isSome))), (3, 0, st)],
    pack [(31, 16, o.delta), (9, 8, o.rotation), (7, 7, b1 o.reversed), (6, 6, b1 o.stands), (5, 4, o.c), (3, 2, o.b), (1, 0, o.a)],
    pack [(15, 0, rate), (23, 16, (m.nbrs.filter (·.listed)).length), (31, 24, m.only.length)],
    pack [(15, 0, c.notch), (16, 16, b1 m.mask)], w32 m.tx, w32 m.rx, pack [(15, 0, m.errCrc), (31, 16, m.errAbandon)], ix m.ev g ]

def execGetMeshStatus (r : Req) (s : State) : Res := .next (s.answer r Code.done (s.mshStatus r.guest))

def execGetMeshNeighbours (r : Req) (s : State) : Res :=
  let entry (n : MshNbr) : List Byte :=
    leBytes 1 n.addr ++ leBytes 1 ((n.heard s.time.chain).filter id).length ++ leBytes 1 (n.gen.getD 0) ++ leBytes 1 0 ++
      leBytes 4 (n.cost s.time.chain) ++ leBytes 2 n.rate ++ leBytes 2 (n.loss s.time.chain) ++ leBytes 4 0
  let bytes := (s.msh.nbrs.filter (·.listed)).flatMap entry
  .next (s.answerRing r (r.fld 3 2 0) bytes [w32 bytes.length])

/-- GET_TONE_MAP (R466). -/
def execGetToneMap (r : Req) (s : State) : Res :=
  .next (match s.msh.nbr (r.fld 3 15 8) with
  | some n =>
    if n.rxSegs.isEmpty then s.answer r Code.wrongState
    else let bytes := n.rxSegs.flatMap segBytes; s.answerRing r (r.fld 3 2 0) bytes [w32 bytes.length]
  | none => s.answer r Code.wrongState)

def PhaseRes.low (o : PhaseRes) : Nat := o.a + 4 * o.b + 16 * o.c + 64 * b1 o.stands + 128 * b1 o.reversed

/-- The results that this unit has classified, its own among them, in order of their addresses (R461, R467). -/
def State.phaseList (s : State) : List PhaseRes :=
  let o := s.msh.own
  if o.addr = 0 then s.msh.phases else s.msh.phases.filter (·.addr < o.addr) ++ [o] ++ s.msh.phases.filter (o.addr < ·.addr)

/-- GET_PHASE_MAP: on the head with HELD of each unit's report. -/
def execGetPhaseMap (r : Req) (s : State) : Res :=
  let entry (o : PhaseRes) : List Byte :=
    let held := ((s.lease.reports.find? (·.addr == o.addr)).map (·.rep.held)).getD 0
    leBytes 1 o.addr ++ leBytes 1 o.low ++ leBytes 1 o.rotation ++ leBytes 2 o.delta ++ leBytes 2 held ++ leBytes 1 0
  let bytes := s.phaseList.flatMap entry
  .next (s.answerRing r (r.fld 3 2 0) bytes [w32 bytes.length])

def execClearMeshCounters (r : Req) (s : State) : Res :=
  .next (if !r.fromSystem then s.answer r Code.refused
  else (s.modMsh fun m => { m with tx := 0, rx := 0, errCrc := 0, errAbandon := 0 }).answer r Code.done)

end Sys2Proof.Machine
end

