-- ==== Sys2Proof/Machine/SleepRows.lean ====
section
/-! DEFINITION. Site sleep: the agreement, the point of no return, Doze and the wake (spec 02 R23, R41 to R44; 05 R120; 16
R433; 17 R463; 12 R328; 18 R494). -/

namespace Sys2Proof.Machine

/-- The first sleep guard of R41 that does not hold, by its number; the request under way is no reason against itself. DEDUCED (log 97). -/
def State.sleepGuard (s : State) : Option Nat :=
  let portIdle (p : Port) : Bool := ((s.sesAt p).state == .idle || (s.sesAt p).state == .off) && s.openOk p
  let quiet (c : Fin 3) : Bool := !(s.stg c).running
  let noAct : Bool := s.act.state == .none || s.act.state == .done || s.act.state == .reverted
  firstReason [(1, !(idx 8).all portIdle), (2, !s.conf.committed.isEmpty || s.chn.prop.isSome || s.chn.siteHeld.isSome),
    (3, !(idx 3).all quiet || !noAct), (4, s.saving || s.jnl.legal.run.isSome || s.jnl.conf.run.isSome),
    (5, !s.cave.queue.isEmpty), (6, s.host.admitted.any fun a => !s.sys.sleep.cmd.any a.req.same)]

/-- Judge the guards for an entry time: prepared, or the reason kept. DEDUCED (log 97). -/
def State.judgeSleep (s : State) (te : Nat) : State :=
  (match s.sleepGuard with
  | none => s.modSleep fun x => { x with phase := .prepared, te }
  | some g => s.modSleep fun x => { x with reason := g, te }).sysChanged

/-- The head asks every unit (R41 step 1), itself included. -/
def State.startSleep (s : State) (te : Nat) (cmd : Option Req) : State :=
  let s1 := (s.modSleep fun x => { x with asking := true, ready := [], notReady := none, cmd, phase := .none }).judgeSleep te
  let own := s1.sleepGuard
  (s1.modSleep fun x => { x with notReady := own.map fun g => (g, s.chn.addr) }).originate 255 (.sleep 1 te)

/-- REQUEST_SITE_SLEEP; a member forwards its delay in ns to the head in a PREPARE. DEDUCED (log 97, 226). -/
def execRequestSiteSleep (r : Req) (s : State) : Res :=
  let ms := r.fld 2 23 0
  let d := ms * 1000000
  .next (if !r.fromSystem then s.answer r Code.refused
  else if s.fenced then s.answer r Code.fenced
  else if !inRange 200 60000 ms then s.answer r Code.outOfRange
  else if s.sys.sleep.cmd.isSome || s.sys.sleep.asking then s.answer r Code.wrongState
  else if s.isHead then (s.accept r).startSleep (s.time.chain + d) (some r)
  else ((s.accept r).modSleep fun x => { x with cmd := some r }).originate s.chn.headAddr (.sleep 1 d))

/-- SLEEP_PREPARE: a unit that is not fenced and has an address answers (R418); at the head it is a member's request, whose delay counts from then. DEDUCED (log 97, 226). -/
def State.eatPrepare (s : State) (te : Nat) : State :=
  if s.chn.head then (if s.sys.sleep.asking || !inRange 200000000 60000000000 te then s else s.startSleep (s.time.chain + te) none)
  else if s.fenced || s.chn.addr = 0 then s
  else
    let s1 := s.judgeSleep te
    s1.originate s.chn.headAddr (match s.sleepGuard with
      | none => .sleep 2 0
      | some g => .sleep 3 g)

def execSleepPrepare (h : ChHdr) (te : Nat) (s : State) : Res :=
  .next (s.chainRx h (.sleep 1 te) (·.eatPrepare te))

def State.eatReady (s : State) (src : Nat) : State :=
  if s.chn.head && s.sys.sleep.asking then s.modSleep fun x => { x with ready := x.ready ++ [src] } else s
def execSleepReady (h : ChHdr) (s : State) : Res := .next (s.chainRx h (.sleep 2 0) (·.eatReady h.src))

def State.eatNotReady (s : State) (src guard : Nat) : State :=
  if s.chn.head && s.sys.sleep.asking && s.sys.sleep.notReady.isNone then
    s.modSleep fun x => { x with notReady := some (guard, src) }
  else s
def execSleepNotReady (h : ChHdr) (guard : Nat) (s : State) : Res :=
  .next (s.chainRx h (.sleep 3 guard) (·.eatNotReady h.src guard))

/-- A unit commits to enter Doze at t_e. DESIGN CHOICE (log 99). -/
def State.commitSleep (s : State) (te : Nat) : State :=
  ((s.modSleep fun x => { x with phase := .committed, te, cmd := none }).modMsh fun m => { m with sleeping := true }).sysChanged

/-- What SLEEP_ABORT for a NOT_READY carries: the first failing unit's guard and its chain address (R120). -/
def abortWord (guard addr : Nat) : Word := pack [(3, 0, guard), (15, 8, addr)]

/-- SLEEP_ANSWER_TIMEOUT: at 110 ms the head commits, or aborts; a missing answer counts as NOT_READY. -/
def execSleepAnswerTimeout (s : State) : Res :=
  let x := s.sys.sleep
  .next (if !s.isHead || !x.asking then s
  else
    let missing := (s.unfencedUnits.filter fun a => !x.ready.contains a).head?
    let bad := match x.notReady with
      | some n => some n
      | none => if s.chainOn then missing.map fun a => (0, a) else none
    let s1 := s.modSleep fun y => { y with asking := false }
    match bad with
    | none =>
      if x.phase == .prepared then ((s1.originate 255 (.sleep 4 x.te)).commitSleep x.te).finalOpt x.cmd Code.done
      else (s1.stayAwake).finalOpt x.cmd Code.cancelled
    | some (g, a) => ((s1.originate 255 (.sleep 5 (abortWord g a).toNat)).stayAwake).finalOpt x.cmd Code.refused [abortWord g a])

/-- SLEEP_COMMIT at a member. An unaddressed unit stays in Run, though what it asked for is done (R120, R418). -/
def State.eatSleepCommit (s : State) (te : Nat) : State :=
  if !s.chn.head && s.chn.addr = 0 then (s.modSleep fun x => { x with cmd := none }).finalOpt s.sys.sleep.cmd Code.done
  else if !s.chn.head && !s.fenced && s.sys.sleep.phase == .prepared then (s.commitSleep te).finalOpt s.sys.sleep.cmd Code.done else s
def execSleepCommit (h : ChHdr) (te : Nat) (s : State) : Res :=
  .next (s.chainRx h (.sleep 4 te) (·.eatSleepCommit te))

/-- SLEEP_ABORT: before t_p the unit stays in Run; after it the chain wake detector latches it. A member's own request ends
REFUSED with what the frame carries, or CANCELLED where it carries nothing: a cancel (R42, R120). DEDUCED (log 98). -/
def State.eatAbort (s : State) (why : Nat) : State :=
  match s.sys.power, s.sys.sleep.phase with
  | .run, .pastTp => s.wakeEvent 2
  | .doze, _ => s.wakeEvent 2
  | .run, p =>
    if p != .prepared && p != .committed && s.sys.sleep.cmd.isNone then s
    else if why = 0 then s.stayAwake.finalOpt s.sys.sleep.cmd Code.cancelled
    else s.stayAwake.finalOpt s.sys.sleep.cmd Code.refused [w32 why]
  | .dormant, _ => s
def execSleepAbort (h : AbortHdr) (s : State) : Res := .next (s.chainRx h.toChHdr (.sleep 5 h.why) (·.eatAbort h.why))

/-- SLEEP_CANCEL at the head: before t_p it broadcasts SLEEP_ABORT. -/
def State.eatCancel (s : State) : State :=
  if !s.chn.head then s
  else match s.sys.power, s.sys.sleep.phase with
  | .run, .pastTp => s.wakeEvent 2
  | .doze, _ => s.wakeEvent 2
  | .run, .prepared | .run, .committed => ((s.originate 255 (.sleep 5 0)).stayAwake).finalOpt s.sys.sleep.cmd Code.cancelled
  | _, _ => s
def execSleepCancel (h : ChHdr) (s : State) : Res := .next (s.chainRx h (.sleep 6 0) (·.eatCancel))

/-- WAKE at the head (R43). -/
def State.eatWake (s : State) : State := if s.chn.head then s.wakeEvent 2 else s
def execWake (h : ChHdr) (src : Nat) (s : State) : Res := .next (s.chainRx h (.wake src) (·.eatWake))

/-- SLEEP_POINT_OF_NO_RETURN: t_p; the guards must still hold, and the unit must not be fenced (R23, R41). -/
def execSleepPointOfNoReturn (s : State) : Res :=
  .next (if s.sys.sleep.phase != .committed then s
  else if s.fenced then s.stayAwake
  else match s.sleepGuard with
  | none => (s.modSleep fun x => { x with phase := .pastTp }).sysChanged
  | some g => (s.modSleep fun x => { x with reason := g }).stayAwake)

/-- What the main die's SRAM outside the retention region holds is lost: the frames that wait in the engines for a medium that
stops, all but SLEEP and WAKE on the chain, the ring of full-rate samples, and the card that the reader holds (R23, R433, R463, R489). DESIGN CHOICE (log 99). -/
def State.loseSram (s : State) : State :=
  let kept (f : TxFrame) : Bool := f.body.type == 0x15 || f.body.type == 0x16
  (((s.modMsh fun m => { m with queue := [], air := none }).modCave fun c => { c with
    ring := Vector.replicate 24 [], open_ := [] }).modNfc fun n => { n with card := none, multiple := false, paused := false }).modChn fun c => { c with
    links := vmap (fun (l : ChLink) => { l with queue := vmap (fun (q : List TxFrame) => q.filter kept) l.queue }) c.links }

/-- The legal island goes into retention: no frame is sent, so the sensor links leave RUN, and train again from the first frame after the
wake (R23, R232, R328). DEDUCED (log 220). -/
def State.linksRest (s : State) : State :=
  s.each (n := 24) fun l t =>
    (if (t.slAt l).state == .run then t.leaveRun l .down else t).modSl l fun y => { failed := y.failed }

/-- DOZE_ENTRY: fast clocks stop, what SRAM does not retain is lost, and the HOST link goes to L1.2; the site detector ends its
events with WINDOW_END, and capture pauses. DESIGN CHOICE (log 99). DEDUCED (log 220). -/
def execDozeEntry (s : State) : Res :=
  .next (if s.sys.power != .run || s.sys.sleep.phase != .pastTp then s
  else
    let off : Clocks := {
      core := .stopped, crypto := .stopped, vehModem := Vector.replicate 8 .stopped, meshModem := .stopped, stor := .stopped
      display := .stopped }
    (((((s.stopSite 8).linksRest.loseSram.modSys fun y => { y with power := .doze, clocks := off }).modCave fun c => { c with
      paused := true }).modHost fun h => { h with l12 := h.linkUp })).sysChanged)

/-- DOZE_WAKE: fast clocks start, HOST leaves L1.2 and Service restarts from its active bank, which Rind measures; the source
that woke the unit and those latched are shown, the latter with bit 8 where one came after t_p, the spans of Doze are recorded, and a member that wakes alone tells the head. -/
def execDozeWake (src : Fin 6) (s : State) : Res :=
  .next (if s.sys.power != .doze then s
  else
    let s1 := (s.modSys fun y => { y with power := .run, clocks := {} }).modSleep fun x => { x with
      phase := .none, wakeSrc := x.latched ||| oneBit src.1, latched := 0, te := 0, wakeEpoch := some s.epochNow }
    let s2 := (((s1.modCave fun c => { c with paused := false }).modMsh fun m => { m with sleeping := false }).modHost fun h =>
      { h with l12 := false }).modKeys fun k => { k with measured := upd k.measured 0 fun _ => rennet 0 (s.activeBank 0).digest }
    let s3 := s2.each (n := 24) fun h t => match ix t.cave.absent h with
      | some (_, _, 4) => t.endAbsence h
      | _ => t
    let s4 := if s.chainOn && !s.chn.head && src.1 != 2 then s3.originate s.chn.headAddr (.wake src.1) else s3
    (s4.readSafety).sysChanged)

end Sys2Proof.Machine
end

