-- ==== Sys2Proof/Machine/MeshChain.lean ====
section
/-! DEFINITION. Chain frames that the mesh brings (spec 17 R456, R458): the gateway and the consumption of each type. -/

namespace Sys2Proof.Machine

/-- What a unit does with a chain frame it consumes, by its type (R421). Link-local frames and WALK never come over the
mesh. -/
def State.eatFrame (s : State) (h : ChHdr) (b : ChBody) : State :=
  match b with
  | .tripAdvice origin cause ports row time => s.eatAdvice origin cause ports row time
  | .reduce f _ => s.eatReduce f
  | .reduceReq limit seconds => s.eatReduceReq limit seconds
  | .sync origin corr => s.eatSync h origin corr
  | .candidate k => s.eatCandidate k
  | .headClaim k => s.eatHeadClaim h.src k
  | .topology _ closed => s.eatTopology closed
  | .linkDown _ _ => s.eatLinkDown
  | .sleep 1 te => s.eatPrepare te
  | .sleep 2 _ => s.eatReady h.src
  | .sleep 3 guard => s.eatNotReady h.src guard
  | .sleep 4 te => s.eatSleepCommit te
  | .sleep 5 a => s.eatAbort a
  | .sleep 6 _ => s.eatCancel
  | .sleep _ _ => s
  | .wake _ => s.eatWake
  | .report r => s.eatReport h.src r
  | .grant g => s.eatGrant g
  | .join serial => s.eatJoin true serial
  | .assign serial addr => s.eatAssign serial addr
  | .table l => if s.chn.head then s else s.eatTable l
  | .siteConfig epoch x => s.eatSiteConfig h.src epoch x
  | .configAck reason => s.eatConfigAck h.src reason
  | .actPropose a => s.eatPropose a
  | .actCommit a => s.eatCommit a
  | .actQuery a answer => s.eatQuery h.src a answer
  | .mirror entry => s.eatMirror entry
  | .fwOffer header => s.eatOffer header
  | .fwBlock tag off data => s.eatBlock h.src tag off data
  | .fwNack tag off _ => s.eatNack tag off
  | .hello _ | .delayReq _ | .delayRsp _ _ _ | .walk _ | .fwReq => s

/-- Whether the gateway puts a frame received over the mesh onto the chain (R456). DESIGN CHOICE (log 44). -/
def State.gatewayTakes (s : State) (h : ChHdr) (b : ChBody) : Bool :=
  s.chn.head && s.msh.only.contains h.src && h.dst != s.chn.addr && !b.linkLocal && !(b.prio == 0 && s.cfg.chain.p0Mesh)

/-- MESH_CHAIN_FRAME. With P0_MESH = 1 an original of priority 0 is forwarded on neither route (R458). -/
def execMeshChainFrame (m : MHdr) (h : ChHdr) (b : ChBody) (s : State) : Res :=
  let f : TxFrame := { level := h.level, rep := h.rep, dst := h.dst, src := h.src, hops := 255, viaMesh := true,
                       seq := h.seq, epoch := h.epoch, body := b }
  .next (s.meshRx m (.chain f) fun t =>
    let t1 := if t.gatewayTakes h b then (t.queueFrame che f).queueFrame chw f else t
    let h' : ChHdr := { h with port := none }
    t1.chainRx h' b (·.eatFrame h' b))

end Sys2Proof.Machine
end

