-- ==== Sys2Proof/Machine/Vehicle.lean ====
section
/-! DEFINITION. The vehicle ports' events: CP and PP sensing, SLAC, the link and its protocols, Plug & Charge, vehicle requests
and the cable lock (spec 06 R129 to R149; 07 R158, R162, R168). -/

namespace Sys2Proof.Machine

/-! ### Ends and pauses that the vehicle asks for (R162) -/

/-- The vehicle pauses: a ramp-down without an end. DEDUCED (log 61). -/
def State.pauseSes (s : State) (p : Port) : State :=
  if (s.sesAt p).state == .charging && !(s.sesAt p).ending then s.ramp p false else s

/-- The vehicle resumes: preparation again, without a second insulation test. -/
def State.resumeSes (s : State) (p : Port) : State :=
  if (s.sesAt p).state == .paused then
    ((s.modSes p fun x => { x with state := .preparing, prep := .lock, resumed := true }).sesRaise p 0x10).advance p
  else s

/-! ### Link transitions shared by CP and PP (R137) -/

/-- FAULT, in every state but OFF: the event, the PWM is off, and a connection is gone (R137). The trigger stands until the PWM
period ends. -/
def State.linkFault (s : State) (p : Port) : State :=
  if (s.vehAt p).link = .off then s
  else (((s.dropProtocol p).linkTo p .fault).drive p .high).modVeh p fun x => { x with faultNow := true }

/-- UNPLUG: the link is idle again and the session follows; a FAULT of the same PWM period comes after it (R138). DEDUCED (log
58, 188). DEDUCED (log 58). -/
def State.unplug (s : State) (p : Port) : State :=
  if (s.vehAt p).link.inUse then
    let t := (((((((s.voidNow p 0xF0).vpRaise p 2).stopLock p).clearIdle p).linkTo p .idle).drive p .high).modVeh p fun x => { x with
      slac := { atten := x.slac.atten } }).sesUnplug p
    if (s.vehAt p).faultNow then t.linkFault p else t
  else s

/-- High-level communication is tried first: always on DC and megawatt ports, and on an AC port with AC_HLC and a protocol for
its type. DESIGN CHOICE (log 209). -/
def State.usesHlc (s : State) (p : Port) : Bool :=
  !s.isAc p || ((s.portCfg p).acHlc && (s.portCfg p).protocols / 2 != 0)

/-- Entry to BASIC: the nominal duty, and the identification point (R158). -/
def State.toBasic (s : State) (p : Port) : State := ((s.linkTo p .basic).refreshPwm p).identify p

/-- PLUG: the guard of R137, then PLUGGED at 5 % or BASIC. -/
def State.plug (s : State) (p : Port) : State :=
  if (s.vehAt p).link != .idle || !(s.vehAt p).cp.state.present || !(s.vehAt p).pp.code.valid then s
  else
    let s1 := (s.vpRaise p 1).modSes p fun x => { x with state := if x.state = .idle then .plugged else x.state }
    if s.usesHlc p then (s1.linkTo p .plugged).drive p .hlc else s1.toBasic p

/-! ### CP (R129 to R133) -/

/-- DIODE_OK over the low plateau of one period. -/
def Cp.diode (x : Cp) (lo : Int) : Cp :=
  if !x.drive.pwm then { x with lo := 0, diodeOk := false, diodeIn := 0, diodeOut := 0 }
  else if (-1300 : Int) ≤ lo && lo ≤ -1100 then
    let n := min 3 (x.diodeIn + 1)
    { x with lo, diodeIn := n, diodeOut := 0, diodeOk := x.diodeOk || n == 3 }
  else
    let n := min 3 (x.diodeOut + 1)
    { x with lo, diodeOut := n, diodeIn := 0, diodeOk := x.diodeOk && n != 3 }

/-- A period's class joins the run of agreeing periods. -/
def Cp.join (x : Cp) (k : CpState) : Cp :=
  { x with gap := false, cand := k, agree := if x.cand = k then min 3 (x.agree + 1) else 1 }
/-- Agreeing periods that accept a class. -/
def CpState.needs : CpState → Nat
  | .a | .e => 2
  | _ => 3

/-- A new CP state is accepted: the link and the session act on it. DEDUCED (log 61). -/
def State.cpAccept (s : State) (p : Port) (k : CpState) : State :=
  let was := (s.vehAt p).cp.state
  let s1 := ((s.modVeh p fun x => { x with cp := { x.cp with state := k } }).vpRaise p 4).wakeEvent 0
  match k with
  | .a => s1.unplug p
  | .e | .invalid => s1.linkFault p
  | .b =>
    let s2 := s1.plug p
    if s.isAc p && (was == .c || was == .d) then s2.pauseSes p else s2
  | .c =>
    let s2 := s1.plug p
    (if s.isAc p then s2.resumeSes p else s2).advance p
  | .d | .f => s1.plug p

/-- A period's plateaus are classified. The device does not classify CP while it drives F; a drive to F within the period comes after
what the period itself shows (R138). DESIGN CHOICE (log 188). -/
def State.cpSample (s : State) (p : Port) (hi lo : Int) : State :=
  let x := s.vehAt p
  if x.link = .off then s
  else if x.cp.drive = .f && !x.cp.fNow then s.modVeh p fun v => { v with cp := { v.cp with agree := 0 } }
  else
    let s1 := s.modVeh p fun v => { v with cp := { (v.cp.diode lo) with hi } }
    let k := cpClass hi
    if k = .invalid then s1.modVeh p fun v => { v with cp := { v.cp with gap := true, agree := 0 } }
    else
      let s2 := s1.modVeh p fun v => { v with cp := v.cp.join k }
      if k.needs ≤ (s2.vehAt p).cp.agree && (s2.vehAt p).cp.state != k then s2.cpAccept p k else s2

/-- CP_PERIOD: one PWM period, or one 1 ms window with the PWM off, ends. -/
def execCpPeriod (p : Port) (hi lo : Int) (s : State) : Res :=
  .next ((s.cpSample p hi lo).modVeh p fun x => { x with faultNow := false, evWas := x.ev, cp := { x.cp with fNow := false } })

/-- CP_INVALID_TIMEOUT: gap periods have lasted 100 ms. -/
def execCpInvalidTimeout (p : Port) (s : State) : Res :=
  .next (if (s.vehAt p).cp.gap && (s.vehAt p).cp.state != .invalid && (s.vehAt p).link != .off then s.cpAccept p .invalid else s)

/-! ### PP (R135, R136) -/

/-- PP code of a resistance in ohm on a port. -/
def State.ppClass (s : State) (p : Port) (ohm : Nat) : PpCode :=
  let c : PpCode := if 4500 < ohm then .absent
    else if 1100 ≤ ohm && ohm ≤ 2460 then .a13
    else if 400 ≤ ohm && ohm ≤ 936 then .a20
    else if 164 ≤ ohm && ohm ≤ 308 then .a32
    else if 80 ≤ ohm && ohm ≤ 140 then .a63
    else .invalid
  if s.isAc p || !c.valid then c else .present

/-- A new PP code is accepted. Safety forgets an insulation PASS when the plug goes (R375). -/
def State.ppAccept (s : State) (p : Port) (c : PpCode) : State :=
  let open_ := (s.sesAt p).state.inSession
  let s1 := ((s.modVeh p fun x => { x with pp := { x.pp with code := c } }).vpRaise p 8).wakeEvent 0
  if c.valid then (s1.refreshPwm p).plug p
  else
    let s2 := s1.modSp p fun x => { x with pass := false }
    if open_ && !s.isAc p then
      let s3 := if c = .absent then (s2.vpRaise p 0x100).unplug p
        else ((s2.vpRaise p 2).linkFault p).endSession p 0x10
      s3
    else if c = .absent || open_ then s2.unplug p
    else s2.linkFault p

/-- PP_MEASUREMENT: one measurement each 1 ms; five agreeing ones are accepted. -/
def execPpMeasurement (p : Port) (ohm : Nat) (s : State) : Res :=
  let c := s.ppClass p ohm
  let s1 := s.modVeh p fun v => { v with pp := { v.pp with
    cand := c, agree := if v.pp.cand = c then min 5 (v.pp.agree + 1) else 1 } }
  .next (if (s1.vehAt p).pp.agree == 5 && (s1.vehAt p).pp.code != c then s1.ppAccept p c else s1)

/-! ### SLAC (R140 to R142) -/

/-- SLAC_INIT has passed without a match (R137): another try, the fallback of an AC port, or FAULT. -/
def State.linkFailed (s : State) (p : Port) : State :=
  let x := s.vehAt p
  if x.retries < (s.portCfg p).linkRetries then
    (((s.vpRaise p 0x80).drive p .f).linkTo p .retry).modVeh p fun v => { v with retries := v.retries + 1 }
  else if s.isAc p then (s.drive p .high).modVeh p fun v => { v with fallback := true }
  else (s.vpRaise p 0x80).linkTo p .fault

/-- The match in progress ends without a link: PLUGGED, or what follows when SLAC_INIT has passed meanwhile. DEDUCED (log 66). -/
def State.unmatch (s : State) (p : Port) : State :=
  let s1 := ((s.dropMatch p).linkTo p .plugged).modVeh p fun x => { x with evccid := 0 }
  if (s.vehAt p).slac.initOver then s1.linkFailed p else s1

/-- A port is left out of a RunID (R142). -/
def State.leftOut (s : State) (p : Port) (run : Nat) : State :=
  ((s.modVeh p fun x => { x with slac := { x.slac with refused := some run } }).vpRaise p 0x8000).unmatch p

/-- A port matches a RunID now. -/
def State.matching (s : State) (p : Port) (run : Nat) : Bool :=
  (s.vehAt p).link == .matching && (s.vehAt p).slac.run == some run
/-- A RunID has matched on another port whose link stands. -/
def State.matchedElse (s : State) (p : Port) (run : Nat) : Bool :=
  (idx 8).any fun q => q != p && (s.vehAt q).slac.matched == some run &&
    ((s.vehAt q).link == .linked || (s.vehAt q).link == .connected)

/-- CM_SLAC_PARM_REQ: answered in PLUGGED and MATCHING within SLAC_INIT; a new RunID starts a match. -/
def execCmSlacParmReq (p : Port) (run : Nat) (mac : Nat) (s : State) : Res :=
  let x := s.vehAt p
  .next (if s.isT1s p || x.slac.initOver || !x.cp.state.present || !(x.link == .plugged || x.link == .matching) then s
  else
    let s1 := s.emit (.toVehicle p 6 run)
    if x.link == .plugged && x.slac.refused != some run then
      (s1.linkTo p .matching).modVeh p fun v => { v with
        evccid := mac % 2 ^ 48
        slac := { v.slac with
          run := some run, sounds := [], indSent := false, needValidate := false, validated := false, keySent := false } }
    else s1)

def execCmStartAttenChar (p : Port) (run : Nat) (s : State) : Res :=
  .next (if s.matching p run then s.modVeh p fun x => { x with slac := { x.slac with sounds := [] } } else s)

/-- CM_MNBC_SOUND: one sound and its attenuation in dB. -/
def execCmMnbcSound (p : Port) (run : Nat) (dB : Nat) (s : State) : Res :=
  .next (if s.matching p run then s.modVeh p fun x => { x with slac := { x.slac with sounds := x.slac.sounds ++ [dB] } } else s)

/-- SOUNDING_COMPLETE: the sibling rule over the ports that heard the RunID. -/
def execSoundingComplete (run : Nat) (s : State) : Res :=
  let avg (p : Port) : Nat × Nat := (s.vehAt p).slac.avg
  let heard := (idx 8).filter fun p => s.matching p run && (avg p).2 != 0 && !(s.vehAt p).slac.indSent
  let near (p : Port) : Bool := heard.all fun q => withinDb (avg p) (avg q) 1
  let answers := heard.filter fun p => near p && atMostDb (avg p) (s.portCfg p).attenMax
  let s1 := answers.foldl (fun t p => (t.modVeh p fun x => { x with slac := { x.slac with
    indSent := true, needValidate := 2 ≤ answers.length && (s.portCfg p).slacValidate } }).emit (.toVehicle p 7 run)) s
  .next ((heard.filter fun p => !near p).foldl (fun t p => t.leftOut p run) s1)

/-- CM_VALIDATE: the BCB toggles of the validation exchange, where SLAC_VALIDATE is set, and its answer (R140). -/
def execCmValidate (p : Port) (run : Nat) (ok : Bool) (s : State) : Res :=
  .next (if s.matching p run && (s.portCfg p).slacValidate then
    (s.modVeh p fun x => { x with slac := { x.slac with validated := ok } }).emit (.toVehicle p 14 (b1 ok))
  else s)

/-- CM_SLAC_MATCH_REQ: confirmed with a fresh NMK and its NID, or refused. SLAC does not run on T1S (R143). -/
def execCmSlacMatchReq (p : Port) (run : Nat) (s : State) : Res :=
  let x := (s.vehAt p).slac
  .next (if s.isT1s p then s
  else if s.matching p run && x.indSent && (!x.needValidate || x.validated) && !s.matchedElse p run then
    let nmk := Config.freeNat s.free % 2 ^ 128
    let nid := Config.nidOf nmk % 2 ^ 54
    ((((s.modVeh p fun v => { v with slac := { v.slac with nmk, nid, keySent := true } }).useFree).emit (.setKey p nmk nid)).emit
      (.slacMatch p run nmk nid))
  else if (s.vehAt p).link.inUse then s.emit (.toVehicle p 9 run) else s)

/-- CM_SET_KEY_CNF: LINKED; the other ports still in the match leave it. -/
def execCmSetKeyCnf (p : Port) (s : State) : Res :=
  let x := (s.vehAt p).slac
  match x.run with
  | none => .next s
  | some run =>
    if (s.vehAt p).link == .matching && x.keySent && !s.matchedElse p run then
      let s1 := ((s.linkTo p .linked).modVeh p fun v => { v with
        linkUpAt := s.time.chain, stats := {}, slac := { v.slac with
          run := none, keySent := false, matched := some run, atten := (quot x.avg.1 x.avg.2).toNat } }).vpRaise p 0x10
      .next (s1.each (n := 8) fun q t => if q != p && t.matching q run then t.leftOut q run else t)
    else .next s

/-- SLAC_TIMER_EXPIRY: a timer of ISO 15118-3 ends the match. -/
def execSlacTimerExpiry (p : Port) (s : State) : Res :=
  .next (if (s.vehAt p).link == .matching then s.unmatch p else s)

/-- SLAC_INIT_TIMEOUT: a match in progress is let finish. -/
def execSlacInitTimeout (p : Port) (s : State) : Res :=
  let x := s.vehAt p
  .next (if x.fallback || x.slac.initOver then s
  else match x.link with
    | .plugged => (s.modVeh p fun v => { v with slac := { v.slac with initOver := true } }).linkFailed p
    | .matching => s.modVeh p fun v => { v with slac := { v.slac with initOver := true } }
    | _ => s)

/-- LINK_RETRY_END: 4 s of state F have passed. -/
def execLinkRetryEnd (p : Port) (s : State) : Res :=
  .next (if (s.vehAt p).link == .retry then
    ((s.linkTo p .plugged).drive p .hlc).modVeh p fun x => { x with slac := { atten := x.slac.atten } }
  else s)

/-- BASIC_FALLBACK_END: 3 s without PWM have passed. -/
def execBasicFallbackEnd (p : Port) (s : State) : Res :=
  .next (if (s.vehAt p).fallback && (s.vehAt p).link == .plugged then
    (s.modVeh p fun x => { x with fallback := false }).toBasic p
  else s)

/-- T1S_FIRST_FRAME: the link of a megawatt port is up (R143). -/
def execT1sFirstFrame (p : Port) (linkLocal : Bool) (mac : Nat) (s : State) : Res :=
  .next (if s.isT1s p && linkLocal && (s.vehAt p).link == .plugged then
    ((s.linkTo p .linked).modVeh p fun x => { x with evccid := mac % 2 ^ 48, linkUpAt := s.time.chain, stats := {} }).vpRaise p 0x10
  else s)

/-! ### Protocols (R144, R145) -/

/-- The transport security that SDP offers to a vehicle that wishes TLS or does not, as the port's protocols have it: DIN SPEC
70121 has none, and ISO 15118-20 nothing but TLS; where ISO 15118-2 is enabled the vehicle's wish decides (R144). DESIGN CHOICE (log 208). -/
def PortCfg.offersTls (c : PortCfg) (wish : Bool) : Bool := c.protocols == 4 || (wish && c.protocols / 2 != 0)

/-- SDP_REQUEST: answered on the port that received it. -/
def execSdpRequest (p : Port) (tls : Bool) (s : State) : Res :=
  let on := (s.portCfg p).offersTls tls
  .next (if (s.vehAt p).link == .linked then (s.modVeh p fun x => { x with sdp := true, tls := on }).emit (.toVehicle p 10 (b1 on))
  else s)

/-- The transport security of a protocol allows the connection: DIN SPEC 70121 has no TLS, ISO 15118-20 has nothing else (R144). -/
def tlsFits (proto : Nat) (tls : Bool) : Bool :=
  match proto with
  | 1 => !tls
  | 3 => tls
  | _ => true

/-- The connector type permits a protocol. -/
def permits (conn proto : Nat) : Bool :=
  match proto with
  | 1 => conn == 1
  | 2 => conn < 2
  | 3 => true
  | _ => false
/-- The energy transfers of R144 by protocol and connector type, as MODE codes. DEDUCED (log 67). -/
def modesOf (conn proto : Nat) : List Nat :=
  if proto = 3 then (if conn = 0 then [1, 3] else if conn = 1 then [2, 4] else [5, 6]) else [conn + 1]

/-- The priority list, up to its end. -/
def PortCfg.priorityList (c : PortCfg) : List Nat :=
  [c.priority % 16, c.priority / 16 % 16, c.priority / 256 % 16].takeWhile (· != 0)

/-- SUPPORTED_APP_PROTOCOL: the first of the port's list that the vehicle offers; an energy transfer that R144 does not list
is none. DEDUCED (log 67). -/
def execSupportedAppProtocol (p : Port) (offers : List Nat) (mode : Nat) (dynamic : Bool) (s : State) : Res :=
  let x := s.vehAt p
  let conn := (s.portCfg p).connType
  .next (if x.link != .linked || !x.sdp then s
  else match (s.portCfg p).priorityList.find? fun k => offers.contains k && permits conn k && tlsFits k x.tls with
    | some k =>
      let s1 := (s.linkTo p .connected).modVeh p fun v => { v with
        protocol := k, mode := if (modesOf conn k).contains mode then mode else 0, dynamic := dynamic && k == 3 }
      (((s1.modSes p fun y => { y with linkLost := false }).emit (.toVehicle p 11 k)).vpRaise p 0x20).refreshPwm p
    | none => ((s.emit (.toVehicle p 12 0)).vpRaise p 0x80).linkTo p .fault)

/-- The connection is lost: LINKED again, and an open session waits 2 s for its return (R168). -/
def State.protocolLost (s : State) (p : Port) : State :=
  if (s.vehAt p).link == .connected then
    (((s.linkTo p .linked).dropProtocol p).vpRaise p 0x40).modSes p fun x => { x with linkLost := x.state.inSession }
  else s

def execTcpClosed (p : Port) (s : State) : Res := .next (s.protocolLost p)
def execProtocolSequenceTimeout (p : Port) (s : State) : Res := .next (s.protocolLost p)
/-- LINK_LOST_GRACE: the 2 s have passed. -/
def execLinkLostGrace (p : Port) (s : State) : Res :=
  .next (if (s.sesAt p).linkLost then (s.modSes p fun x => { x with linkLost := false }).endSession p 0x18 else s)
/-- PROTOCOL_ERROR: the protocol task ended on an internal error (R168). -/
def execProtocolError (p : Port) (s : State) : Res :=
  .next (if (s.vehAt p).link = .off then s else s.resetPort p 0x22)

/-! ### Plug & Charge (R146, R147) -/

/-- The entry of the trust store that a chain's root is, under the protocol in force. -/
def State.rootEntry (s : State) (p : Port) (root : List Byte) : Option Nat :=
  (idx 40).find? (fun k => match ix s.cfg.trust k with
    | some e => e.der == root && (e.kind == 1 || (e.kind == 0 && (s.vehAt p).protocol == 3))
    | none => false) |>.map (·.1)

/-- CONTRACT_CHAIN_PRESENTED: the chain and what its checks find. DESIGN CHOICE (log 163). -/
def execContractChainPresented (p : Port) (chain : List Byte) (emaid : List Byte) (root : List Byte) (chk : ChainChecks) (s : State) : Res :=
  let x := s.vehAt p
  .next (if x.link != .connected || !(s.portCfg p).pnc || x.protocol < 2 then s
  else
    let e := s.rootEntry p root
    s.modVeh p fun v => { v with contract := {
      presented := true, checking := true, ready := false, emaid, chainOk := chk.signatures && e.isSome, sigOk := chk.challenge
      usageOk := chk.usage, expired := s.sys.wallSet && chk.expired, timeUnchecked := !s.sys.wallSet, root := e.getD 0
      tag := leNat ((beBytes 48 (Config.sha384 chain)).take 4) } })

/-- CONTRACT: the chain result is ready; it is an identification point. -/
def execContract (p : Port) (s : State) : Res :=
  .next (if (s.vehAt p).contract.checking then
    ((s.modVeh p fun v => { v with contract := { v.contract with checking := false, ready := true } }).vpRaise p 0x1000).identify p
  else s)

/-- CERT_INSTALL_REQUEST: a second request replaces the first; one that follows a request that timed out takes the next reply. DESIGN CHOICE (log 68, 211). -/
def execCertInstallRequest (p : Port) (body : List Byte) (s : State) : Res :=
  .next (if (s.vehAt p).link == .connected then
    (s.modVeh p fun v => { v with cert := { body, pending := true, late := false, replaced := v.cert.pending && !v.cert.late } }).vpRaise p 0x800
  else s)

/-- CERT_REPLY_TIMEOUT: at 4.5 s the vehicle gets a failure. -/
def execCertReplyTimeout (p : Port) (s : State) : Res :=
  .next (if (s.vehAt p).cert.pending && !(s.vehAt p).cert.late then
    (s.modVeh p fun v => { v with cert := { v.cert with late := true } }).sayVehicle p 3 0
  else s)

/-! ### What the vehicle asks for (R158, R162, R163, R191) -/

/-- AUTHORIZATION_REQ: the identification point, or "ongoing" while a decision is awaited. -/
def execAuthorizationReq (p : Port) (s : State) : Res :=
  .next (if (s.vehAt p).link != .connected then s
  else if (s.sesAt p).state == .authorising then s.sayVehicle p 4 0
  else s.identify p)

/-- CABLE_CHECK_REQ: the insulation test of a DC port may start. -/
def execCableCheckReq (p : Port) (s : State) : Res :=
  .next (if (s.sesAt p).state == .preparing && (s.vehAt p).link == .connected then
    (s.modSes p fun x => { x with cableCheck := true }).advance p
  else s)

/-- What the device tells a vehicle that charges of the energy metered: the port's total import register as Legal reports it (R144). -/
def State.meterInfo (s : State) (p : Port) : State :=
  if (s.sesAt p).state == .charging && 2 ≤ (s.vehAt p).protocol then s.emit (.toVehicle p 15 (s.nrgAt p).impTot) else s

/-- VEHICLE_TARGET: what the vehicle states, asks for and accepts as slew. DEDUCED (log 67). -/
def execVehicleTarget (p : Port) (t : VehTarget) (s : State) : Res :=
  if (s.vehAt p).link != .connected then .next s
  else
    let s1 := s.modVeh p fun x => { x with evVmax := t.vMax, evImax := t.iMax, evPmax := t.pMax, evPdis := t.pDis }
    let s2 := (s1.modPwr p fun x => { x with
      vTgt := t.v, iTgt := t.i, vPre := t.vPre, evSlewUp := t.slewUp, evSlewDn := t.slewDn }).leaveWindow p
    .next (((((if (s.pwrAt p).enabled then s2.retarget p else s2).refreshPwm p).wantChanged p).advance p).meterInfo p)

/-- VEHICLE_PAUSE and VEHICLE_RESUME: the standby request of a DC protocol and its end. -/
def execVehiclePause (p : Port) (s : State) : Res :=
  .next (if (s.vehAt p).link == .connected then s.pauseSes p else s)
def execVehicleResume (p : Port) (s : State) : Res :=
  .next (if (s.vehAt p).link == .connected then s.resumeSes p else s)
/-- VEHICLE_STOP: the stop request of the protocol; in BASIC the vehicle has ended charging with CP C to B (R168). DEDUCED (log 61). -/
def execVehicleStop (p : Port) (s : State) : Res :=
  let x := s.vehAt p
  .next (if x.link == .connected || (x.link == .basic && x.cp.state == .b) then s.endSession p 0x01 else s)

/-! ### The cable lock (R148, R149) -/

/-- A lock or unlock reached its target. -/
def State.lockDone (s : State) (p : Port) : State := (s.lockEnd p Code.done).advance p

/-- An attempt has failed: another in 500 ms, or FAULT after the third; in PREPARING that ends the session. -/
def State.attemptFailed (s : State) (p : Port) : State :=
  if (s.vehAt p).lock.attempt < 3 then s.modLock p fun x => { x with phase := .pause }
  else
    let s1 := s.lockEnd p Code.fault
    if (s.sesAt p).state == .preparing then s1.endSession p 0x15 else s1

/-- LOCK_PULSE_END: the drive ends; the feedback has 200 ms, unless the drive was to stop or has failed (R403). A drive that waits for
the bridge has no pulse yet. -/
def execLockPulseEnd (p : Port) (s : State) : Res :=
  let k := (s.vehAt p).lock
  if k.phase != .pulse then .next s
  else
    let s1 := s.endDrive p id
    .next (if (s.lkAt p).want.isSome && !k.stopping then s
    else if k.stopping then (s1.modLk p fun x => { x with want := none }).lockEnd p Code.cancelled
    else if (s1.lkAt p).failed then s1.attemptFailed p
    else if s.fbLocked p == k.target then s1.lockDone p
    else s1.modLock p fun x => { x with phase := .feedback })

/-- LOCK_FEEDBACK_TIMEOUT: the 200 ms are over, and the attempt has failed. -/
def execLockFeedbackTimeout (p : Port) (s : State) : Res :=
  let k := (s.vehAt p).lock
  .next (if k.phase != .feedback then s else s.attemptFailed p)

/-- LOCK_ATTEMPT_TIMER: the next attempt begins. -/
def execLockAttemptTimer (p : Port) (s : State) : Res :=
  .next (if (s.vehAt p).lock.phase == .pause then s.lockAttempt p else s)

/-- LOCK_FB_CHANGE: the contact as Service reads it under LOCK_FB. -/
def execLockFbChange (p : Port) (closed : Bool) (s : State) : Res :=
  let s1 := s.modLock p fun x => { x with fbClosed := closed }
  let k := (s1.vehAt p).lock
  .next (match k.phase with
  | .feedback => if s1.fbLocked p == k.target then s1.lockDone p else s1
  | .idle => if k.state == .fault then s1 else (s1.modLock p fun x => { x with state := s1.lockShown p }).advance p
  | .pulse | .pause => s1)

end Sys2Proof.Machine
end

