-- ==== Sys2Proof/Machine/Power.lean ====
section
/-! DEFINITION. Power delivery: the run-ahead's events, the power-module links' frames and faults, and the port commands of
group 0x12 (spec 08 R184 to R206, R219 to R221). -/

namespace Sys2Proof.Machine

/-! ### Run-ahead (R197 to R202) -/

/-- The configuration that the next epoch boundary puts in force: the unit-level parts that nothing holds, site items whose epoch it is
among them (R124, R125, R431). -/
def State.bornCfg (s : State) : Cfg :=
  let agreed : Bool := match s.chn.prop with
    | some x => x.agreed && x.epoch ≤ s.epochNow + 1
    | none => !(s.chainOn && s.chn.head)
  let rec go (c : Cfg) (free : Bool) : List Txn → Cfg
    | [] => c
    | t :: l =>
      if t.unitApplied then go c free l
      else if (t.siteWait && !free) || s.epochNow + 1 < t.since || !t.unit.all s.drained then c
      else go (t.unit.foldl applyItem (match t.site with | some x => c.withSite x | none => c)) (free && !t.siteWait) l
  let c := go s.cfg agreed s.conf.committed
  match s.chn.siteHeld with
  | some (e, x) => if e ≤ s.epochNow + 1 then c.withSite x else c
  | none => c

/-- The lease from the start of the next epoch as far as it is known: a standalone unit's limit, or a reduction of it that lasts so long; a
grant received; or, once no grant can come any more, what the third miss leaves (R209, R210, R214). -/
def State.bornLease (s : State) (c : Cfg) : Nat :=
  if !s.chainOn then
    match s.lease.tmp with
    | some t => if (s.epochNow + 1) * 100000000 < s.lease.tmpEnd then max c.lease.floor t else c.siteLimit
    | none => c.siteLimit
  else match s.lease.next with
  | some n => n
  | none => if s.lease.missed = 2 && 90000000 < s.time.chain % 100000000 then c.lease.floor else s.lease.lease

/-- The state whose caps and limits hold at an instant: the present one, or, from the start of the next epoch, the one that the changes
known to take effect then give (R198). DEDUCED (log 73). -/
def State.foresee (s : State) (at_ : Nat) : State :=
  if at_ < (s.epochNow + 1) * 100000000 then s
  else
    let c := s.bornCfg
    ((s.modConf fun x => { x with cfg := c }).modLease fun l => { l with lease := s.bornLease c, next := none }).divide

/-- Plan the next step for an instant and send it. DEDUCED (log 73). -/
def State.planStep (s : State) (p : Port) (step validAt : Nat) : State :=
  let x := s.pwrAt p
  let f := s.foresee validAt
  let pre := x.state == .precharge
  let r := if pre then (x.planned, x.acc, x.lastFalling, false)
    else nextStep (f.target p) x.planned x.acc x.lastFalling (f.slewUp p) (f.slewDown p) (s.periodUs p)
  let st : StagedStep := {
    step, validAt, gen := x.gen, v := if pre then x.vPre else f.vSet p
    i := if pre then ((s.pwrCfg p).prechargeI * 100 : Nat) else r.1, p := f.pLim p }
  (s.modPwr p fun y => { y with
    planned := if pre then 0 else r.1, acc := r.2.1, lastFalling := r.2.2.1, atSlew := r.2.2.2, nextStep := (step + 1) % 2 ^ 32
    lastAt := validAt, staged := y.staged ++ [st] }).sendSetpoint p st pre

/-- Replan: RECALL from the first step that is not committed, with a new generation, and the same instants planned anew from
the last committed step, with the limiter's remainder and direction as they stand (R196, R199 to R202). DESIGN CHOICE (log 215). -/
def State.replan (s : State) (p : Port) : State :=
  let x := s.pwrAt p
  let commit := s.time.chain + lLink
  let keep := x.staged.filter fun t => t.validAt ≤ commit
  let drop := x.staged.filter fun t => commit < t.validAt
  let s1 := s.modPwr p fun y => { y with replan := false }
  match drop with
  | [] => s1
  | d :: _ =>
    let last := (keep.getLast?.map (·.i)).getD x.since
    let s2 := s1.modPwr p fun y => { y with
      gen := (y.gen + 1) % 256, staged := keep, nextStep := d.step, planned := if y.state == .precharge then 0 else last }
    let s3 := (s2.sendAcked p 2 d.step).countPort p 0x0F drop.length
    drop.foldl (fun t e => t.planStep p e.step e.validAt) s3

/-- The engine plans steps on this port. -/
def State.delivers (s : State) (p : Port) : Bool :=
  (s.pwrAt p).enabled && match (s.pwrAt p).state with
  | .precharge | .active | .rampdown => true
  | .off | .halted | .linkFault => false

/-- STEP_INSTANT: at t_k the SETPOINT of step k + H goes out with VALID_AT = t_k + H periods. -/
def execStepInstant (p : Port) (s : State) : Res :=
  .next (if s.delivers p then
    s.planStep p (s.pwrAt p).nextStep (s.time.chain + s.depth p * s.periodUs p * 1000)
  else s)

/-- RUN_AHEAD_REPLAN: one RECALL for the changes of the last 10 µs. -/
def execRunAheadReplan (p : Port) (s : State) : Res :=
  .next (if (s.pwrAt p).replan && s.delivers p then s.replan p else s.modPwr p fun x => { x with replan := false })

/-- Send another copy of a frame that waits for its ACK. -/
def State.sendCopy (s : State) (p : Port) (a : AckWait) (l : PmIdx) (ch : Nat) : State :=
  let seq := (s.pmLink l).txSeq
  ((s.pmSend l a.type ch a.gen [w32 a.w1]).modPwr p fun x => { x with
    acks := x.acks.map fun b => if b = a then { b with seqs := b.seqs ++ [seq] } else b }).modPmLink l
      fun k => { k with repeats := (k.repeats + 1) % 2 ^ 32 }

/-- RECALL_REPEAT: the second and third copy of a RECALL, HALT or ENABLE, 8 µs and 16 µs after the first. -/
def execRecallRepeat (p : Port) (s : State) : Res :=
  .next (match nextRepeat (s.pwrAt p).acks, (s.pwrCfg p).map with
  | some a, some (l, ch) => s.sendCopy p a l ch
  | _, _ => s)

/-! ### Link faults (R190, R206) -/

/-- A link fault: nothing is sent for 1 ms, and every port mapped to the link is reset (R190, R206). DEDUCED (log 96). -/
def State.pmFault (s : State) (l : PmIdx) : State :=
  if (s.pmLink l).state = .down || (s.pmLink l).state = .fault then s
  else
    let s1 := s.modPmLink l fun k => { k with
      state := .fault, faults := satInc 0xFF k.faults, rxSeq := none, bad := [], estSum := 0, estN := 0 }
    (s.portsOn l).foldl (fun t p =>
      let u := (t.pwrRaise p 0x10).modPwr p fun x => { x with
        state := if x.enabled || x.state = .precharge then .linkFault else x.state
        enabled := false, staged := x.staged.filter fun y => y.validAt ≤ s.time.chain, replan := false, acks := [] }
      u.resetPort p 0x21) s1

/-- PM_RX_SILENCE: no valid frame for 200 µs on an enabled link, in training too. DEDUCED (log 96). -/
def execPmRxSilence (l : PmIdx) (s : State) : Res := .next (s.pmFault l)

/-- PM_ACK_TIMEOUT: no ACK of the oldest frame that waits within L_LINK. -/
def execPmAckTimeout (p : Port) (s : State) : Res :=
  .next (match (s.pwrAt p).acks, (s.pwrCfg p).map with
  | a :: _, some (l, _) => (if a.type = 2 then s.pwrRaise p 0x20 else s).pmFault l
  | _, _ => s)

/-- PM_BAD_FRAME: a frame that fails R185; more than 16 within 1 ms are a link fault. -/
def execPmBadFrame (l : PmIdx) (s : State) : Res :=
  let k := s.pmLink l
  .next (if k.state = .down then s
  else
    let bad := (k.bad.filter fun t => s.time.chain < t + 1000000) ++ [s.time.chain]
    let s1 := s.modPmLink l fun x => { x with crcErr := (x.crcErr + 1) % 2 ^ 32, bad }
    if 16 < bad.length then s1.pmFault l else s1)

/-- PM_LINK_RETRAIN: the 1 ms of silence is over. -/
def execPmLinkRetrain (l : PmIdx) (s : State) : Res :=
  .next (if (s.pmLink l).state = .fault then s.modPmLink l fun k => { k with state := .training } else s)

/-- PM_SYNC_SEND: T_TX and LINK_DELAY (R188). -/
def execPmSyncSend (l : PmIdx) (s : State) : Res :=
  .next (s.pmSend l 3 0 0 [0, w32 s.time.chain, w32 (s.time.chain / 2 ^ 32), pack [(23, 0, (s.pmLink l).delay.toNat)]])

/-! ### Frames of the converter (R186 to R192) -/

/-- A valid frame arrives: counted, with its SEQ gap (R189). DEDUCED (log 167). -/
def State.pmRx (s : State) (l : PmIdx) (seq : Nat) : State :=
  s.modPmLink l fun k => { k with
    rx := (k.rx + 1) % 2 ^ 32, rxSeq := some (seq % 256)
    seqGap := match k.rxSeq with
      | some q => if (q + 1) % 256 = seq % 256 then k.seqGap else (k.seqGap + 1) % 2 ^ 32
      | none => k.seqGap }

/-- An ACK is of a frame that waits: W2 names the TYPE and the SEQ of one of its copies, and W1 is echoed (R187). -/
def AckWait.answeredBy (a : AckWait) (w1 w2 : Nat) : Bool :=
  a.type = w2 % 16 && a.seqs.contains (w2 / 256 % 256) && a.w1 % 2 ^ 32 = w1 % 2 ^ 32

/-- PM_ACK: of a RECALL, HALT or ENABLE that waits. -/
def execPmAck (l : PmIdx) (ch : Fin 8) (seq : Nat) (w1 : Nat) (w2 : Nat) (s : State) : Res :=
  .next (if (s.pmLink l).state = .down then s
  else
    let s1 := s.pmRx l seq
    match s.portOfCh l ch.1 with
    | none => s1
    | some p => s1.modPwr p fun x => { x with acks := x.acks.filter fun a => !a.answeredBy w1 w2 })

/-- One delay estimate of R188; each block of 64 of them gives LINK_DELAY anew. DESIGN CHOICE (log 213). -/
def PmLink.estimate (k : PmLink) (st : PmStatus) : PmLink :=
  let sum := k.estSum + ((st.tRx : Int) - st.tTx - st.residence)
  if k.estN + 1 = 64 then { k with estSum := 0, estN := 0, delay := quot sum 128 } else { k with estSum := sum, estN := k.estN + 1 }

/-- Step a is at or before step b in the arithmetic of R187. -/
def stepAtOrBefore (a b : Nat) : Bool := (b + 2 ^ 32 - a % 2 ^ 32) % 2 ^ 32 < 2 ^ 31

/-- A step is reported applied: its set-point goes to Legal and Safety (R192). DEDUCED (log 77). -/
def State.stepApplied (s : State) (p : Port) (step : Nat) : State :=
  let x := s.pwrAt p
  match x.staged.find? fun t => t.step = step with
  | none => s
  | some t =>
    (s.modPwr p fun y => { y with
      applStep := step, vAppl := t.v, iAppl := t.i, pAppl := t.p, since := t.i
      staged := y.staged.filter fun u => !stepAtOrBefore u.step step }).emit (.applied p t.v t.i t.p)

/-- AT_TARGET once for each target reached. -/
def State.checkTarget (s : State) (p : Port) : State :=
  let x := s.pwrAt p
  if !x.atTarget && (x.state == .active || x.state == .rampdown) && x.since = s.target p then
    (s.modPwr p fun y => { y with atTarget := true }).pwrRaise p 2
  else s

/-- The 20 V test of the precharge on V_MEAS (R163, R203). -/
def State.checkPrecharge (s : State) (p : Port) : State :=
  let near : Bool := ((s.pwrAt p).vMeas - (s.pwrAt p).vPre).natAbs ≤ 2000
  let t := s.leaveWindow p
  if (s.pwrAt p).state == .precharge && !(s.pwrAt p).prechargeDone && near then
    ((t.modPwr p fun y => { y with prechargeDone := true }).pwrRaise p 1).advance p
  else t

/-- PM_STATUS. -/
def execPmStatus (l : PmIdx) (ch : Fin 8) (seq : Nat) (st : PmStatus) (s : State) : Res :=
  .next (if (s.pmLink l).state = .down then s
  else
    let s1 := (s.pmRx l seq).modPmLink l fun k => k.estimate st
    match s.portOfCh l ch.1 with
    | none => s1
    | some p =>
      let s2 := s1.modPwr p fun x => { x with vMeas := st.v, iMeas := st.i, flags := st.flags }
      ((s2.stepApplied p (st.applied % 2 ^ 32)).checkTarget p).checkPrecharge p)

/-- PM_LIMITS: the first after training brings the link up. -/
def execPmLimits (l : PmIdx) (ch : Fin 8) (seq : Nat) (lim : PmLimits) (s : State) : Res :=
  .next (if (s.pmLink l).state = .down || (s.pmLink l).state = .fault then s
  else
    let s0 := (s.pmRx l seq).modPmLink l fun k => { k with state := .up }
    let s1 := if (s.pmLink l).state = .up then s0
      else (s.portsOn l).foldl (fun t p => if (t.pwrAt p).state = .precharge && !(t.pwrAt p).enabled then t.enable p else t) s0
    match s.portOfCh l ch.1 with
    | none => s1
    | some p =>
      let new : Limits := {
        vMax := lim.vMax, iMax := lim.iMax, iMin := lim.iMin, pMax := lim.pMax, pMin := lim.pMin, slewUp := lim.slewUp
        slewDn := lim.slewDn, bidir := lim.bidir }
      if (s1.pwrAt p).limits = new then s1
      else
        let s2 := (s1.modPwr p fun x => { x with limits := new }).pwrRaise p 4
        (if (s2.pwrAt p).enabled then s2.retarget p else s2).wantChanged p)

/-- PM_FAULT: of a channel in use, a port protocol fault (R206). -/
def execPmFault (l : PmIdx) (ch : Fin 8) (seq : Nat) (_code : Nat) (_off : Bool) (s : State) : Res :=
  .next (if (s.pmLink l).state = .down then s
  else
    let s1 := s.pmRx l seq
    match s.portOfCh l ch.1 with
    | none => s1
    | some p => if (s1.pwrAt p).enabled then s1.resetPort p 0x21 else s1)

/-! ### Commands (R219 to R221) -/

def execGetPowerStatus (r : Req) (s : State) : Res := .next (s.answer r Code.done (s.pwrBlock r.guest r.port))

def execGetLeaseStatus (r : Req) (s : State) : Res := .next (s.answer r Code.done s.leaseBlock)

def execGetConverterLimits (r : Req) (s : State) : Res :=
  let x := (s.pwrAt r.port).limits
  let f (v : Int) : Word := wInt (sat24 v).1
  .next (s.answer r Code.done [f x.vMax, f x.iMax, f x.iMin, f x.pMax, f x.pMin,
    pack [(15, 0, min 0xFFFF x.slewUp), (31, 16, min 0xFFFF x.slewDn)], pack [(0, 0, b1 x.bidir)]])

/-- GET_PM_LINK_STATS. The gaps in what the device sends are known to the converter alone. DESIGN CHOICE (log 187). -/
def execGetPmLinkStats (r : Req) (s : State) : Res :=
  let l : PmIdx := ⟨r.fld 3 0 0 % 2, by omega⟩
  let k := s.pmLink l
  .next (s.answer r Code.done [w32 k.tx, w32 k.rx, w32 k.crcErr, w32 (k.seqGap + Config.converterGaps l.1 s.time.chain), w32 k.recalls, w32 k.repeats,
    pack [(23, 0, k.delay.toNat)], pack [(7, 0, k.faults)]])

/-- SET_PORT_LIMIT: both caps, and the dynamic-mode target while DYN_VALID is set. DEDUCED (log 76). -/
def execSetPortLimit (r : Req) (s : State) : Res :=
  let p := r.port
  let x := s.vehAt p
  let dyn := r.bit 6 0
  .next (if dyn && !(x.link == .connected && x.protocol == 3 && x.dynamic) then s.answer r Code.wrongState
  else
    let s1 := s.modPwr p fun y => { y with
      chargeCap := r.fld 3 23 0, dischargeCap := r.fld 4 23 0, dynTarget := if dyn then some (r.int24 5) else none }
    let s2 := ((if (s.pwrAt p).enabled then s1.retarget p else s1).refreshPwm p).wantChanged p
    s2.answer r Code.done [wInt (sat24 (s2.target p)).1])

end Sys2Proof.Machine
end

