-- ==== Sys2Proof/Machine/TagPages.lean ====
section
/-! DEFINITION. The pages of the dead-post tag as Service writes them (spec 21 R562, R563). -/

namespace Sys2Proof.Machine

/-- Byte 1 of page 0 and byte 2 of page 1: Legal VOID, Legal starting, SERVICE, ZEROISED. -/
def State.tagFlags (s : State) : Nat :=
  flagWord [s.legal.state == .void, s.legal.state == .starting, s.inService, !s.rind.rootPresent && !s.rind.shipCopy]

/-- Page 0, 64 bytes. DEDUCED (log 112). -/
def State.tagPage0 (s : State) (seq : Nat) : List Byte :=
  padTo 64 (leBytes 1 1 ++ leBytes 1 s.tagFlags ++ leBytes 1 (flagWord ((idx 8).map fun p => s.avail p % 2 == 1)) ++ leBytes 1 0 ++
    leBytes 4 seq ++ padTo 48 s.tag.text)

/-- Page 1, 224 bytes. The label is the last one received (R293). DEDUCED (log 112). -/
def State.tagPage1 (s : State) (seq : Nat) : List Byte :=
  let tamper := s.rind.tamper.toList.flatMap fun n => leBytes 2 n
  padTo 224 (leBytes 2 1 ++ leBytes 1 s.tagFlags ++ leBytes 1 s.rind.lifecycle ++ s.serialBytes ++ leBytes 6 s.rind.rtc ++
    leBytes 8 ((s.legal.wall.map (·.ms)).getD 0) ++ leBytes 4 seq ++ leBytes 4 s.rind.sealCount ++ tamper ++ leBytes 4 s.legal.run ++
    padTo 4 ((s.activeBank 1).digest.take 4) ++ leBytes 1 s.saf.state.code ++ leBytes 1 s.saf.cause ++ padTo 32 s.nfc.lastSes ++
    (s.saf.log.take 8).flatMap TripEntry.bytes)

/-- TAG_PAGE_REWRITE: both pages, into the older copies. DEDUCED (log 112). -/
def execTagPageRewrite (s : State) : Res :=
  .next (if s.sys.power != .run || !s.sys.reached 7 || s.sys.romRecovery then s
  else
    let seq := (s.tag.seq + 1) % 2 ^ 32
    let k : Fin 2 := if s.tag.newest = 0 then 1 else 0
    s.modTag fun t => { t with
      seq, newest := k, page0 := upd t.page0 k fun _ => s.tagPage0 seq, page1 := upd t.page1 k fun _ => s.tagPage1 seq })

end Sys2Proof.Machine
end

