-- ==== Sys2Proof/Machine/Registers.lean ====
section
/-! DEFINITION. The window of a guest as its reads see it: the status shadow, mailboxes, doorbells, counters and the
violation log (spec 02 R46; 03 R52, R53, R55, R62 to R65, R72, R79; 04 R82 to R84, R91, R94; 05 R128 and the register
tables of the later chapters). -/

namespace Sys2Proof.Machine

/-! ### Regions and permission (R52, R55, R64) -/

/-- An offset lies in a region of R52 other than the staging window. -/
def inRegion (off : Nat) : Bool :=
  decide (off < 0x2000) || inRange 0x2000 0x20FF off || inRange 0x3000 0x30FF off || inRange 0x3800 0x38FF off

def inStaging (off : Nat) : Bool := inRange 0x8000 0xFFFF off

/-- The first offset, stride and span of the blocks that belong to VPp (R55 and the register tables). -/
def portBlocks : List (Nat × Nat) :=
  [(0x01C0, 0x08), (0x0240, 0x10), (0x0300, 0x20), (0x0400, 0x20), (0x0500, 0x20), (0x0600, 0x20), (0x0800, 0x20),
    (0x0900, 0x40), (0x0C00, 0x20), (0x0E00, 0x20), (0x0FE0, 0x04)]

/-- The port whose block holds an offset. -/
def blockPort (off : Nat) : Option Port :=
  (portBlocks.find? fun b => b.1 ≤ off && off < b.1 + 8 * b.2).map fun b => ⟨(off - b.1) / b.2 % 8, by omega⟩

/-- The mailbox whose block holds an offset. -/
def mbxOf (off : Nat) : Option (Fin 8) :=
  if inRange 0x1000 0x1FFF off then some ⟨off / 0x100 % 8, by omega⟩ else none

def State.hiddenPort (s : State) (g : Guest) (off : Nat) : Bool :=
  match blockPort off with
  | some p => !s.seesPort g p
  | none => false

def State.otherMbx (s : State) (path : Path) (g : Guest) (off : Nat) : Bool :=
  match mbxOf off with
  | some n => s.mbxPath g n != path
  | none => false

/-! ### The system block (R46, R128, R603) -/

/-- DESIGN CHOICE (log 52). -/
def fwVersion (y : Sys) : Word := pack [(31, 24, 3), (23, 16, y.fwMinor), (15, 0, y.fwBuild)]
def deviceId : Word := pack [(31, 16, 0x8128), (15, 8, 0xB0), (7, 0, 3)]

/-- SYS_ID … SYS_IMG_TAG_SAFETY. DESIGN CHOICE (log 52). -/
def State.idBlock (s : State) : List Word :=
  [deviceId, fwVersion s.sys, tagBytes (s.activeBank 0).digest, if s.legalVoid then 0 else tagBytes (s.activeBank 1).digest,
    tagBytes (s.activeBank 2).digest]

def State.pwrState (s : State) : Word :=
  let y := s.sys
  pack [(15, 8, y.bootStage), (4, 4, b1 (y.reached 8)), (3, 3, b1 (y.reached 6 && s.legal.state == .run)), (2, 2, b1 y.safetyRdy),
    (1, 0, match y.power with | .doze => 1 | .run => 2 | .dormant => 0)]

/-- SYS_PWR_STATE … SYS_TEMP. -/
def State.sysBlock (s : State) : List Word :=
  let y := s.sys
  let t := y.tref
  let held := match t.holdSince with
    | some at_ => (s.time.legalUs - at_) / 1000000
    | none => 0
  [ s.pwrState, pack [(15, 8, y.chipCause), (1, 0, y.porCause)], pack [(31, 16, y.chipResets), (15, 0, y.porResets)],
    pack [(23, 16, t.glitchCnt), (8, 8, b1 t.rateFault), (6, 4, t.state.code), (1, 0, s.cfg.trefMode)],
    wInt (satInt 24 t.phase), wInt (satInt 24 t.rate), w32 held, pack [(2, 0, y.sleep.phase.code), (7, 4, y.sleep.reason)],
    y.sleep.wakeSrc, pack [(7, 0, y.tempMain), (15, 8, y.tempMeas), (23, 16, y.tempDrive), (24, 24, b1 y.thermWarn)] ]

/-! ### Guest and interrupt registers (R62, R66, R91) -/

def GuestCfg.range (c : GuestCfg) : Word := pack [(12, 0, c.queFirst), (29, 16, c.queCount)]
def GuestCfg.share0 (c : GuestCfg) : Word :=
  pack [(7, 0, ix c.share 0), (15, 8, ix c.share 1), (23, 16, ix c.share 2), (31, 24, ix c.share 3)]

def State.guestStat (s : State) (g : Guest) : Word :=
  let x := s.guest g
  let c := s.gcfg g
  pack [(24, 24, b1 x.viol.pend), (23, 16, min 255 x.viol.count), (12, 12, b1 x.rstBusy), (8, 8, b1 c.bulk), (7, 7, b1 c.staging),
    (6, 6, b1 (s.host.gln == some g)), (5, 5, b1 c.audit), (4, 4, b1 (g == 0)), (3, 0, g.1)]

/-- SYS_GUEST_STAT … SYS_GUEST_RST. -/
def State.guestBlock (s : State) (g : Guest) : List Word :=
  let x := s.guest g
  let c := s.gcfg g
  [ s.guestStat g, c.query, c.ctrl, pack [(7, 0, c.ports.toNat), (23, 16, s.claimMask g)], c.range, c.share0,
    pack [(7, 0, ix c.share 4)], pack [(12, 0, c.creditLimit), (28, 16, x.credits)], w32 c.hbMs, 0,
    pack [(3, 0, x.rstCause), (15, 8, x.rstCount)] ]

/-- DEDUCED (log 43). -/
def State.glnBindWord (s : State) : Word :=
  pack [(3, 0, (s.host.gln.map (·.1)).getD 0), (4, 4, b1 s.host.gln.isSome)]

def OutMsg.isResponse (m : OutMsg) : Bool :=
  match m.kind with
  | .response | .accepted | .final => true
  | _ => false

/-- QUE_STORE. -/
def State.queStore (s : State) (g : Guest) : Word :=
  let x := s.guest g
  pack [(27, 24, x.notices), (23, 16, flagWord (x.h2d.toList.map (·.slot == .occupied))),
    (12, 0, (x.store.filter OutMsg.isResponse).length)]

/-! ### Mailboxes, rings, counters and the violation log (R72, R79, R82 to R84, R94) -/

/-- A register of host-to-device mailbox n, by its offset in the block. -/
def H2D.read (m : H2D) (o : Nat) : Word :=
  if h : o / 4 < 16 then ix m.mbd ⟨o / 4, h⟩
  else if o = 0x40 then pack [(16, 16, b1 m.abort), (1, 1, b1 m.full)] else 0

/-- A register of device-to-host mailbox n. -/
def D2H.read (m : D2H) (o : Nat) : Word :=
  let ws := (m.msg.map (·.words)).getD []
  if o < 0x40 then ws.getD (o / 4) 0 else if o = 0x40 then pack [(15, 8, ws.length), (1, 1, b1 m.msg.isSome)] else 0

def RingRegs.read (q : RingRegs) (o : Nat) : Word :=
  [q.baseLo, q.baseHi, pack [(11, 8, q.log2size), (0, 0, b1 q.en)], pack [(28, 16, q.head), (12, 0, q.tail)]].getD (o / 4) 0

/-- Counter c as PFC_CTRL.VIEW shows it. -/
def State.pfcRead (s : State) (g : Guest) (c : Fin 32) : Word :=
  let p := (s.guest g).pfc
  if p.view = 1 then ix p.snap c
  else if p.view = 2 && g == 0 then ix (ix s.host.chipSnap ⟨p.chipGuest % 16, by omega⟩) c
  else ix p.cnt c

/-- SNAP and CHIP_SNAP are done within the step that sets them, and read 0. DEDUCED (log 36). -/
def Pfc.ctrl (p : Pfc) : Word := pack [(11, 8, p.chipGuest), (5, 4, p.view), (0, 0, b1 p.freeze)]

def State.pfcBlock (s : State) (g : Guest) (off : Nat) : Word :=
  let p := (s.guest g).pfc
  let i := (off - 0x3000) / 4
  if h : i < 32 then s.pfcRead g ⟨i, h⟩
  else if h : i - 32 < 8 then ix p.sel ⟨i - 32, h⟩
  else
    let chip := if g = 0 then p.chipTime else 0
    [p.ctrl, p.chain, p.ovf, 0, w32 p.snapTime, w32 (p.snapTime / 2 ^ 32), w32 chip, w32 (chip / 2 ^ 32)].getD (i - 40) 0

def ViolLog.stat (v : ViolLog) : Word := pack [(15, 0, v.count), (18, 16, v.newest), (19, 19, b1 v.overwritten)]

def ViolLog.read (v : ViolLog) (off : Nat) : Word :=
  if off = 0x3800 then v.stat
  else if h : 0x3810 ≤ off ∧ (off - 0x3810) / 16 < 8 then
    let e := ix v.entries ⟨(off - 0x3810) / 16, h.2⟩
    [e.addr, e.info, e.tag, e.time].getD (off % 16 / 4) 0
  else 0

/-! ### The map -/

/-- The word of a block at an offset, given its first offset. -/
def wordAt (base off : Nat) (ws : List Word) : Word := ws.getD ((off - base) / 4) 0

/-- A block of VPp's with its event register at a further offset. -/
def withEvent (ws : List Word) (at_ : Nat) (ev : Word) : List Word := padZero at_ ws ++ [ev]
where
  padZero (n : Nat) (l : List Word) : List Word := (l ++ List.replicate n 0).take n

/-- The block of a port at one of the bases of R55. -/
def State.portBlock (s : State) (g : Guest) (p : Port) (base : Nat) : List Word :=
  match base with
  | 0x01C0 => [s.cfgPortAct p, s.cfgPortPnd p]
  | 0x0240 => s.safPortBlock p g
  | 0x0300 => withEvent (s.earthBlock p ++ s.actBlock p) 7 (ix (s.spAt p).imdEv g)
  | 0x0400 => s.vpBlock g p
  | 0x0500 => s.sesBlock g p
  | 0x0600 => s.pwrBlock g p
  | 0x0800 => s.metBlock g p
  | 0x0900 => withEvent (s.nrgBlock p) 15 (ix (s.nrgAt p).ev g)
  | 0x0C00 => s.bilBlock g p
  | 0x0E00 => withEvent (if s.legal.state == .starting then List.replicate 7 0 else
      [s.pqStatOf p, (s.pqAt p).det.last] ++ s.tmpBlock p) 7 (ix (s.pqAt p).ev g)
  | 0x0FE0 => [s.lkStat p]
  | _ => []

/-- The unit-level blocks of the status shadow: first offset, length in words, and what they read. DEDUCED (log 159). -/
def State.unitBlock (s : State) (g : Guest) (off : Nat) : Word :=
  let i := (s.guest g).irq
  if off < 0x14 then wordAt 0 off s.idBlock
  else if inRange 0x40 0x67 off then wordAt 0x40 off s.sysBlock
  else if inRange 0x80 0xAB off then wordAt 0x80 off (s.guestBlock g)
  else if inRange 0xC0 0xCB off then
    wordAt 0xC0 off [pack [(30, 0, s.conf.activeEpoch)], pack [(30, 0, s.conf.commitEpoch)], s.cfgStat g]
  else if inRange 0x100 0x12F off then wordAt 0x100 off ([i.status, i.enable, w32 (b1 i.arm), 0] ++ i.maps.toList)
  else if off = 0x140 then s.glnBindWord
  else if off = 0x180 then s.queStore g
  else if inRange 0x200 0x21F off then wordAt 0x200 off (s.safBlock g)
  else if inRange 0x2C0 0x2CB off then wordAt 0x2C0 off [s.brkStat 0, s.brkStat 1, ix s.saf.brkEv g]
  else if inRange 0x700 0x71B off then wordAt 0x700 off s.leaseBlock
  else if inRange 0x720 0x73F off then wordAt 0x720 off (s.nfcBlock g)
  else if inRange 0x740 0x74F off then wordAt 0x740 off (s.dspBlock g)
  else if inRange 0x780 0x787 off then wordAt 0x780 off (pair48 (s.legal.proc - 1))
  else if inRange 0xB00 0xB1B off then wordAt 0xB00 off s.supplyBlock
  else if inRange 0xB40 0xB7F off then wordAt 0xB40 off (withEvent s.chnBlock 15 (ix s.chn.ev g))
  else if inRange 0xB80 0xB9F off then wordAt 0xB80 off (s.mshStatus g)
  else if inRange 0xBA0 0xBBB off then wordAt 0xBA0 off (s.jnlBlock g)
  else if inRange 0xBC0 0xBFF off then wordAt 0xBC0 off (withEvent s.caveBlock 15 (ix s.cave.ev g))
  else if inRange 0xD00 0xD23 off then wordAt 0xD00 off (s.sealBlock ++ [ix s.legal.bilEv g])
  else if inRange 0xD40 0xD47 off then wordAt 0xD40 off s.optWords
  else if inRange 0xD60 0xD83 off then wordAt 0xD60 off (s.keyBlock g ++ [ix s.keys.ev g])
  else if inRange 0xDA0 0xDC3 off then wordAt 0xDA0 off (s.updBlock g)
  else if inRange 0xF00 0xF13 off then
    wordAt 0xF00 off [s.pqSiteStat, s.legal.site.last, w32 s.legal.pqSeq, ix s.legal.pqEv g, w32 s.legal.pqDropped]
  else if inRange 0xF20 0xF3F off then wordAt 0xF20 off (s.lsBlock g)
  else if h : 0xF40 ≤ off ∧ (off - 0xF40) / 4 < 40 then s.lsChWord ⟨(off - 0xF40) / 4, h.2⟩
  else 0

/-- A register of a guest's window as it stands now, which a read returns where no latch holds its value (R6, R65); an offset that no chapter assigns reads 0 (R53). DEDUCED (log 36). -/
def State.readReg (s : State) (g : Guest) (off : Nat) : Word :=
  if off < 0x1000 then
    match portBlocks.find? fun b => b.1 ≤ off && off < b.1 + 8 * b.2, blockPort off with
    | some b, some p => wordAt 0 ((off - b.1) % b.2) (s.portBlock g p b.1)
    | _, _ => s.unitBlock g off
  else if off < 0x1800 then (ix (s.guest g).h2d ⟨off / 0x100 % 8, by omega⟩).read (off % 0x100)
  else if off < 0x2000 then (ix (s.guest g).d2h ⟨off / 0x100 % 8, by omega⟩).read (off % 0x100)
  else if off = 0x2000 then (s.guest g).dbH2d
  else if off = 0x2004 then (s.guest g).dbD2h
  else if inRange 0x2080 0x20FF off then (ix (s.guest g).rings ⟨(off - 0x2080) / 16 % 8, by omega⟩).read (off % 16)
  else if inRange 0x3000 0x30FF off then s.pfcBlock g off
  else if inRange 0x3800 0x38FF off then (s.guest g).viol.read off
  else 0

/-- Low registers of pairs (R5, R79, R441, R521): offset within the window, or within a port's block. -/
def pairLow (off : Nat) : Bool :=
  [0x0780, 0x0B4C, 0x0BA8, 0x0BC4, 0x0BCC, 0x0BD4, 0x0D70, 0x30B0, 0x30B8].contains off ||
  match portBlocks.find? fun b => b.1 ≤ off && off < b.1 + 8 * b.2 with
  | some b =>
    let o := (off - b.1) % b.2
    (b.1 == 0x0400 && o == 0x18) || (b.1 == 0x0500 && o == 0x10) || (b.1 == 0x0C00 && o == 4) ||
      (b.1 == 0x0900 && [0x04, 0x0C, 0x14, 0x1C, 0x28].contains o)
  | none => false

end Sys2Proof.Machine
end

