-- ==== Sys2Proof/Machine/RegRows.lean ====
section
/-! DEFINITION. Accesses to the window of a guest: violations, register writes, latched reads and the event registers (spec
02 R6 to R9; 03 R52, R53, R63 to R66, R71 to R73; 04 R82 to R85, R94). -/

namespace Sys2Proof.Machine

/-! ### Violations (R71, R72) -/

/-- The KIND of a violation of an access, none for an access that is none (R72): an offset in no region, a bad size or
alignment, a read of the staging window, a write of it without STAGING, a hidden port block, a mailbox of the other path. DEDUCED (log 35). -/
def State.violKind (s : State) (path : Path) (g : Guest) (off : Nat) (write shape : Bool) : Option Nat :=
  firstReason [
    (1, !inRegion off && !inStaging off),
    (9, inStaging off && !write),
    (4, inStaging off && !(s.gcfg g).staging),
    (3, shape && path == .pcie && !inStaging off),
    (2, s.hiddenPort g off),
    (5, s.otherMbx path g off)]

/-- Answer a violating access (R71). -/
def State.violAnswer (s : State) (path : Path) (g : Guest) (write : Bool) (kind : Nat) : State :=
  if write then s
  else match path with
    | .pcie => s.emit (if kind = 1 then .unsupported g else .completerAbort g)
    | .gln => s.emit .glnFFFF

/-- An access that is a violation: logged and answered; nothing it addressed changes. A write during the guest's reset is
discarded (R76). -/
def State.badAccess (s : State) (path : Path) (g : Guest) (off : Nat) (write : Bool) (be : Nat) (shape : Bool) : State :=
  match s.violKind path g off write shape with
  | none => s
  | some kind =>
    if write && (s.guest g).rstBusy then s
    else
      let be' := if path = .gln then 3 else be
      (s.violation g (w32 off) (pack [(31, 28, kind), (27, 24, path.code), (20, 20, b1 write), (19, 16, be'), (3, 0, g.1)]) 0).violAnswer
        path g write kind

/-- An access to a guest's window over a path, with its byte enables and whether its shape is not that of R53. With GLN bound to
no guest a read gives 0xFFFF and a write is ignored (R66); an access without a path is none; a violation is treated as one. -/
def State.access (s : State) (path : Path) (g : Guest) (off : Nat) (write : Bool) (be : Nat) (shape : Bool) (f : State → State) : State :=
  if path = .gln && s.host.gln.isNone then (if s.host.glnVio && !write then s.emit .glnFFFF else s)
  else
    (if !(if write then s.canWrite path g else s.canRead path g) then s
    else if (s.violKind path g off write shape).isSome then s.badAccess path g off write be shape
    else f s).hostActive path

/-- ACCESS_VIOLATION: over PCIe anything but one aligned DWORD with all byte enables has the wrong shape (R53). -/
def execAccessViolation (path : Path) (g : Guest) (off : Nat) (write : Bool) (be : Nat) (shape : Bool) (s : State) : Res :=
  .next (if off < 0x10000 then s.access path g off write be (shape || be != 0xF || off % 4 != 0) id else s)

/-! ### Register writes (R7 to R9, R52, R62, R79, R82, R94) -/

/-- A read-write register after a write of the bits in a mask. DEDUCED (log 33). -/
def merge (old v mask : Word) : Word := (old &&& ~~~ mask) ||| (v &&& mask)

/-- Write a host-to-device mailbox: data words; ABORT and GO. A data word written while FULL is 1 is host error: it is free
(R73, R83, R85). DEDUCED (log 32). -/
def State.writeMbx (s : State) (path : Path) (g : Guest) (n : Fin 8) (o : Nat) (v mask : Word) : State :=
  let m := ix (s.guest g).h2d n
  if h : o / 4 < 16 then
    let i : Fin 16 := ⟨o / 4, h⟩
    if m.full then s.useFree.modH2d g n fun x => { x with mbd := upd x.mbd i fun _ => Config.freeWord s.free }
    else s.modH2d g n fun x => { x with mbd := upd x.mbd i fun w => merge w v mask }
  else if o = 0x40 then
    let b := v &&& mask
    let s1 := if b.bit 16 then s.modH2d g n fun x => { x with abort := false } else s
    if b.bit 0 && !m.full then s1.modH2d g n fun x => { x with full := true, path, goAt := s.time.chain } else s1
  else s

/-- Write a ring register. EN of a guest without BULK stays 0; a new base or size under EN = 1 is host error: it is free
(R73, R94, R96). DEDUCED (log 32). -/
def State.writeRing (s : State) (g : Guest) (r : Fin 8) (o : Nat) (v mask : Word) : State :=
  let q := ix (s.guest g).rings r
  let set (f : RingRegs → RingRegs) (t : State) : State := t.modGuest g fun x => { x with rings := upd x.rings r f }
  let held (old new : Word) : Bool := q.en && old != new
  if o = 0 then
    let w := merge q.baseLo v mask &&& ~~~ 0x1F
    if held q.baseLo w then set (fun x => { x with baseLo := Config.freeWord s.free &&& ~~~ 0x1F }) s.useFree
    else set (fun x => { x with baseLo := w }) s
  else if o = 4 then
    let w := merge q.baseHi v mask
    if held q.baseHi w then set (fun x => { x with baseHi := Config.freeWord s.free }) s.useFree
    else set (fun x => { x with baseHi := w }) s
  else if o = 8 then
    let w := merge (pack [(11, 8, q.log2size), (0, 0, b1 q.en)]) v mask
    let en := w.bit 0 && (s.gcfg g).bulk
    if q.en && w.fld 11 8 != q.log2size then set (fun x => { x with log2size := Config.freeNat s.free % 16, en }) s.useFree
    else set (fun x => { x with log2size := w.fld 11 8, en }) s
  else set (fun x => { x with tail := (merge (w32 x.tail) v mask).fld 12 0 }) s

/-- Write PFC_CTRL: FREEZE, VIEW and CHIP_GUEST; SNAP and CHIP_SNAP copy the counters (R79). -/
def State.writePfcCtrl (s : State) (g : Guest) (v mask : Word) : State :=
  let w := merge (s.guest g).pfc.ctrl v mask
  let snap := (v &&& mask).bit 1
  let chip := (v &&& mask).bit 16 && g == 0
  let s1 := s.modPfc g fun p => { p with freeze := w.bit 0, view := w.fld 5 4, chipGuest := w.fld 11 8 }
  let s2 := if snap then s1.modPfc g fun p => { p with snap := p.cnt, snapTime := s.time.chain } else s1
  if chip then
    (s2.modHost fun h => { h with chipSnap := vmap (·.pfc.cnt) h.guests }).modPfc 0 fun p => { p with chipTime := s.time.chain }
  else s2

/-- Write a register of the window by its access codes; read-only and unassigned offsets ignore it (R8, R53). Reserved bits
written as one are dropped. DEDUCED (log 33, 37, 166). -/
def State.writeReg (s : State) (path : Path) (g : Guest) (off : Nat) (v mask : Word) : State :=
  let b := v &&& mask
  if off = 0x00A4 then s.modGuest g fun x => { x with hbRunning := true }
  else if off = 0x0100 then s.setIrq g fun i => { i with status := i.status &&& ~~~ b }
  else if off = 0x0104 then s.setIrq g fun i => { i with enable := merge i.enable v mask &&& 0x7FFFFFFF }
  else if off = 0x0108 then s.setIrq g fun i => { i with arm := (merge (w32 (b1 i.arm)) v mask).bit 0 }
  else if h : 0x0110 ≤ off ∧ (off - 0x0110) / 4 < 8 then
    s.setIrq g fun i => { i with maps := upd i.maps ⟨(off - 0x0110) / 4, h.2⟩ fun w => merge w v mask &&& 0xBFBFBFBF }
  else if inRange 0x1000 0x17FF off then s.writeMbx path g ⟨off / 0x100 % 8, by omega⟩ (off % 0x100) v mask
  else if off = 0x2000 then
    if (b &&& 0xFF) != 0 then (s.modGuest g fun x => { x with dbH2d := x.dbH2d ||| (b &&& 0xFF) }).count g 0x0B 1 else s
  else if off = 0x2004 then s.modGuest g fun x => { x with dbD2h := x.dbD2h &&& ~~~ b }
  else if inRange 0x2080 0x20FF off then s.writeRing g ⟨(off - 0x2080) / 16 % 8, by omega⟩ (off % 16) v mask
  else if h : 0x3000 ≤ off ∧ (off - 0x3000) / 4 < 32 then
    s.modPfc g fun p => { p with cnt := upd p.cnt ⟨(off - 0x3000) / 4, h.2⟩ fun w => merge w v mask }
  else if h : 0x3080 ≤ off ∧ (off - 0x3080) / 4 < 8 then
    s.modPfc g fun p => { p with sel := upd p.sel ⟨(off - 0x3080) / 4, h.2⟩ fun w => merge w v mask }
  else if off = 0x30A0 then s.writePfcCtrl g v mask
  else if off = 0x30A4 then s.modPfc g fun p => { p with chain := merge p.chain v mask &&& 0xFFFF }
  else if off = 0x30A8 then s.modPfc g fun p => { p with ovf := p.ovf &&& ~~~ b }
  else if off = 0x3804 then if b.bit 0 then s.modGuest g fun x => { x with viol := {} } else s
  else s

/-- A vector of a guest's MSI-X table: the word at offset 16v + 12 of BAR2, whose bit 0 masks vector v. PRESUMED (log 180). -/
def msixVector (off : Nat) : Option (Fin 64) :=
  if inRange 0x10000 0x103FF off && off % 16 == 12 then some ⟨(off - 0x10000) / 16 % 64, by omega⟩ else none

/-- REGISTER_WRITE: one aligned DWORD over PCIe, one 16-bit half over GLN (R53, R63). An access that is a violation is
treated as one. Offsets from 0x10000 on are those of BAR2. DEDUCED (log 34). -/
def execRegisterWrite (path : Path) (g : Guest) (off : Nat) (v : Word) (s : State) : Res :=
  .next (match path, msixVector off with
  | .pcie, some k => s.hostWrite .pcie g (·.maskVector g k (v.bit 0))
  | .gln, some _ => s
  | .pcie, none =>
    if 0x10000 ≤ off then s.hostActive .pcie
    else s.access .pcie g off true 0xF (off % 4 != 0) fun s => if inStaging off then s else s.writeReg .pcie g off v (w32 0xFFFFFFFF)
  | .gln, none =>
    if 0x2000 ≤ off then s
    else
      let high := off % 4 ≥ 2
      let k := v &&& 0xFFFF
      s.access .gln g off true 3 false fun s =>
        s.writeReg .gln g (off / 4 * 4) (if high then k <<< 16 else k) (if high then 0xFFFF0000 else 0xFFFF))

/-- STAGING_WINDOW_WRITE: without STAGING a violation of kind 4. In ascending order the bytes are consumed; after a refusal they are
discarded. A write out of order is host error: what the device takes of it is free (R71 to R73, R532). -/
def execStagingWindowWrite (g : Guest) (off : Nat) (bytes : List Byte) (s : State) : Res :=
  .next (if !inStaging off then s
  else s.access .pcie g off true 0xF false fun s => match s.windowClass g with
  | none => s
  | some c =>
    if off = 0x8000 + (s.stg c).pos % 32768 then s.stgFeed c bytes
    else
      let free := (List.range bytes.length).map fun i => Config.freeByte (s.free + i)
      (s.modFree (· + bytes.length)).stgFeed c free)

/-! ### Latched reads (R6, R65) -/

/-- Latch values for the first reads of their offsets. DEDUCED (log 173). -/
def latchIn (l : List ReadLatch) (new : List ReadLatch) : List ReadLatch :=
  (l.filter fun x => new.all (·.offset != x.offset)) ++ new

/-- The value latched for an offset, with the latches that remain after its first read. DEDUCED (log 173). -/
def unlatch (l : List ReadLatch) (off : Nat) : Option (Word × List ReadLatch) :=
  (l.find? (·.offset == off)).map fun x => (x.word, l.filter (·.offset != off))

/-- The data of a read, and over GLN its low half with the rest latched (R65). DEDUCED (log 34). -/
def State.returnRead (s : State) (path : Path) (g : Guest) (off : Nat) (w : Word) (more : List Word) : State :=
  match path with
  | .pcie => s.emit (.readData path g off w)
  | .gln =>
    let rest := (w >>> 16) :: more.flatMap fun x => [x &&& 0xFFFF, x >>> 16]
    (s.modGuest g fun x => { x with
      glnLatch := latchIn x.glnLatch (rest.zipIdx.map fun k => { offset := off + 2 + 2 * k.2, word := k.1 }) }).emit
      (.readData path g off (w &&& 0xFFFF))

/-- PAIR_LOW_READ: a PCIe read of a pair's register: the low one latches the high half for the reading guest; the next read of
the high one returns what is latched, else the present value. -/
def execPairLowRead (g : Guest) (off : Nat) (s : State) : Res :=
  .next (if !pairLow off && !(decide (4 ≤ off) && pairLow (off - 4)) then s
  else s.access .pcie g off false 0xF (off % 4 != 0) fun s =>
    match unlatch (s.guest g).latch off with
    | some (w, rest) => (s.modGuest g fun x => { x with latch := rest }).emit (.readData .pcie g off w)
    | none =>
      let t := s.emit (.readData .pcie g off (s.readReg g off))
      if pairLow off then t.modGuest g fun x => { x with
        latch := latchIn x.latch [{ offset := off + 4, word := s.readReg g (off + 4) }] }
      else t)

/-- GLN_LOW_WORD_READ: a GLN read of a word: a latched word is returned once; the low word of a register, or of the low register
of a pair, latches the words that follow; a high word that nothing latched is read as it stands. -/
def execGlnLowWordRead (off : Nat) (s : State) : Res :=
  let g := s.host.gln.getD 0
  .next (if 0x2000 ≤ off || off % 2 != 0 then s
  else s.access .gln g off false 3 false fun s =>
    match unlatch (s.guest g).glnLatch off with
    | some (w, rest) => (s.modGuest g fun x => { x with glnLatch := rest }).emit (.readData .gln g off w)
    | none =>
      if off % 4 = 0 then s.returnRead .gln g off (s.readReg g off) (if pairLow off then [s.readReg g (off + 4)] else [])
      else s.emit (.readData .gln g off (s.readReg g (off - 2) >>> 16)))

/-! ### Mailbox registers with rows of their own (R64, R82 to R84, R87, R93) -/

/-- MBX_GO: FULL sets and the message is the device's (R83, R87). -/
def execMbxGo (path : Path) (g : Guest) (n : Fin 8) (s : State) : Res :=
  .next (s.access path g (0x1040 + 0x100 * n.1) true 0xF false fun s =>
    if (ix (s.guest g).h2d n).full then s else s.modH2d g n fun x => { x with full := true, path, goAt := s.time.chain })

/-- MBX_RESPONSE_READ: the host reads the last data register of a message; FULL clears (R84). -/
def execMbxResponseRead (path : Path) (g : Guest) (n : Fin 8) (s : State) : Res :=
  .next (match (ix (s.guest g).d2h n).msg with
  | some m =>
    let off := 0x1800 + 0x100 * n.1 + 4 * (m.words.length - 1)
    s.access path g off false 0xF false fun s =>
      ((s.modD2h g n fun _ => {}).returnRead path g off (m.words.getLastD 0) []).freeBy g m.kind
  | none => s.access path g (0x1800 + 0x100 * n.1) false 0xF false id)

/-- MBX_MBD0_READ: the host reads MBX_MBD0, after which a withdrawn copy is not overwritten (R93). -/
def execMbxMbd0Read (path : Path) (g : Guest) (n : Fin 8) (s : State) : Res :=
  .next (s.access path g (0x1800 + 0x100 * n.1) false 0xF false fun s =>
    match (ix (s.guest g).d2h n).msg with
    | some m => (s.modD2h g n fun d => { d with mbd0Read := true }).returnRead path g (0x1800 + 0x100 * n.1) (m.words.headD 0) []
    | none => s)

/-- MBX_ABORT_CLEAR: a write of 1 clears ABORT (R83). -/
def execMbxAbortClear (path : Path) (g : Guest) (n : Fin 8) (s : State) : Res :=
  .next (s.access path g (0x1040 + 0x100 * n.1) true 0xF false fun s => s.modH2d g n fun x => { x with abort := false })

/-! ### Event registers (RC) -/

/-- The read of an event register: its value is returned, and the reading guest's copy clears. -/
def State.readEvent (s : State) (path : Path) (g : Guest) (off : Nat) (w : Word) (clear : State → State) : State :=
  s.access path g off false 0xF false fun s => clear (s.returnRead path g off w [])

def execVpEventRead (path : Path) (g : Guest) (p : Port) (s : State) : Res :=
  .next (s.readEvent path g (0x0414 + 0x20 * p.1) (ix (s.vehAt p).ev g) fun t => t.modVeh p fun x => { x with ev := clearOne x.ev g })
def execSesEventRead (path : Path) (g : Guest) (p : Port) (s : State) : Res :=
  .next (s.readEvent path g (0x050C + 0x20 * p.1) (ix (s.sesAt p).ev g) fun t => t.modSes p fun x => { x with ev := clearOne x.ev g })
def execPwrEventRead (path : Path) (g : Guest) (p : Port) (s : State) : Res :=
  .next (s.readEvent path g (0x061C + 0x20 * p.1) (ix (s.pwrAt p).ev g) fun t => t.modPwr p fun x => { x with ev := clearOne x.ev g })
def execMetEventRead (path : Path) (g : Guest) (p : Port) (s : State) : Res :=
  .next (s.readEvent path g (0x081C + 0x20 * p.1) (ix (s.metAt p).ev g) fun t => t.modMet p fun x => { x with ev := clearOne x.ev g })
def execNrgEventRead (path : Path) (g : Guest) (p : Port) (s : State) : Res :=
  .next (s.readEvent path g (0x093C + 0x40 * p.1) (ix (s.nrgAt p).ev g) fun t => t.modNrg p fun x => { x with ev := clearOne x.ev g })
def execBilEventRead (path : Path) (g : Guest) (p : Port) (s : State) : Res :=
  .next (s.readEvent path g (0x0C1C + 0x20 * p.1) (ix (s.bilAt p).ev g) fun t => t.modBil p fun x => { x with ev := clearOne x.ev g })
def execBilUnitEventRead (path : Path) (g : Guest) (s : State) : Res :=
  .next (s.readEvent path g 0x0D20 (ix s.legal.bilEv g) fun t => t.modLegal fun x => { x with bilEv := clearOne x.bilEv g })
def execPqEventRead (path : Path) (g : Guest) (p : Port) (s : State) : Res :=
  .next (s.readEvent path g (0x0E1C + 0x20 * p.1) (ix (s.pqAt p).ev g) fun t => t.modPq p fun x => { x with ev := clearOne x.ev g })
def execPqSiteEventRead (path : Path) (g : Guest) (s : State) : Res :=
  .next (s.readEvent path g 0x0F0C (ix s.legal.pqEv g) fun t => t.modLegal fun x => { x with pqEv := clearOne x.pqEv g })
def execSafSiteEventRead (path : Path) (g : Guest) (s : State) : Res :=
  .next (s.readEvent path g 0x021C (ix s.saf.ev g) fun t => t.modSaf fun x => { x with ev := clearOne x.ev g })
def execSafEventRead (path : Path) (g : Guest) (p : Port) (s : State) : Res :=
  .next (s.readEvent path g (0x024C + 0x10 * p.1) (ix (s.spAt p).ev g) fun t => t.modSp p fun x => { x with ev := clearOne x.ev g })
def execImdEventRead (path : Path) (g : Guest) (p : Port) (s : State) : Res :=
  .next (s.readEvent path g (0x031C + 0x20 * p.1) (ix (s.spAt p).imdEv g) fun t =>
    t.modSp p fun x => { x with imdEv := clearOne x.imdEv g })
def execBrkEventRead (path : Path) (g : Guest) (s : State) : Res :=
  .next (s.readEvent path g 0x02C8 (ix s.saf.brkEv g) fun t => t.modSaf fun x => { x with brkEv := clearOne x.brkEv g })
def execLsEventRead (path : Path) (g : Guest) (s : State) : Res :=
  .next (s.readEvent path g 0x0F3C (ix s.ls.ev g) fun t => t.modLs fun x => { x with ev := clearOne x.ev g })
def execChnEventRead (path : Path) (g : Guest) (s : State) : Res :=
  .next (s.readEvent path g 0x0B7C (ix s.chn.ev g) fun t => t.modChn fun x => { x with ev := clearOne x.ev g })
def execMshEventRead (path : Path) (g : Guest) (s : State) : Res :=
  .next (s.readEvent path g 0x0B9C (ix s.msh.ev g) fun t => t.modMsh fun x => { x with ev := clearOne x.ev g })
def execJnlEventRead (path : Path) (g : Guest) (s : State) : Res :=
  .next (s.readEvent path g 0x0BB8 (ix s.jnl.ev g) fun t => t.modJnl fun x => { x with ev := clearOne x.ev g })
def execCavEventRead (path : Path) (g : Guest) (s : State) : Res :=
  .next (s.readEvent path g 0x0BFC (ix s.cave.ev g) fun t => t.modCave fun x => { x with ev := clearOne x.ev g })
def execKeyEventRead (path : Path) (g : Guest) (s : State) : Res :=
  .next (s.readEvent path g 0x0D80 (ix s.keys.ev g) fun t => t.modKeys fun x => { x with ev := clearOne x.ev g })
def execUpdEventRead (path : Path) (g : Guest) (s : State) : Res :=
  .next (s.readEvent path g 0x0DC0 (ix s.fw.ev g) fun t => t.modFw fun x => { x with ev := clearOne x.ev g })
def execNfcEventRead (path : Path) (g : Guest) (s : State) : Res :=
  .next (s.readEvent path g 0x073C (ix s.nfc.ev g) fun t => t.modNfc fun x => { x with ev := clearOne x.ev g })
def execDspEventRead (path : Path) (g : Guest) (s : State) : Res :=
  .next (s.readEvent path g 0x074C (ix s.dsp.ev g) fun t => t.modDsp fun x => { x with ev := clearOne x.ev g })

end Sys2Proof.Machine
end

