-- ==== Sys2Proof/Machine/Session.lean ====
section
/-! DEFINITION. The session engine's events: Legal's acknowledgements and reports, Safety's messages, and its timers (spec 07
R156 to R176; 13 R349; 16 R439, R440; 18 R485). -/

namespace Sys2Proof.Machine

/-! ### Opening (R156, R161) -/

/-- LEGAL_SESSION_OPEN: Legal acknowledges the session open request, or cannot. -/
def execLegalSessionOpen (p : Port) (s : State) : Res :=
  let x := s.sesAt p
  .next (match x.openReq, x.asked with
  | true, some d =>
    let bidir := (s.pwrCfg p).bidirOk && !(s.nrgAt p).ps && [3, 4, 6].contains (s.vehAt p).mode
    if s.legalRun then
      let t := s.legalOpen p d bidir
      t.opened p (t.bilAt p).lastNo true
    else
      let code := if s.legalVoid then Code.void else Code.busy
      let t := match x.authCmd with
        | some r => s.answer r code
        | none => s
      (t.modSes p fun y => { y with authCmd := none }).reject p
  | _, _ => s)

/-- AUTH_TIMEOUT: no decision came. -/
def execAuthTimeout (p : Port) (s : State) : Res :=
  .next (if (s.sesAt p).state == .authorising && !(s.sesAt p).openReq then (s.sesRaise p 0x1000).reject p else s)

/-- PREAUTH_LAPSED: PREAUTH_HOLD has passed (R160). -/
def execPreauthLapsed (p : Port) (s : State) : Res :=
  .next (if (s.sesAt p).preauth.isSome then (s.modSes p fun x => { x with preauth := none }).sesRaise p 0x800 else s)

/-! ### Timers (R162, R169, R175, R176) -/

/-- PRECHARGE_TIMEOUT: PRECHARGE_MAX has passed without the precharge target. -/
def execPrechargeTimeout (p : Port) (s : State) : Res :=
  .next (if (s.sesAt p).state == .preparing && (s.sesAt p).prep == .precharge then s.endSession p 0x16 else s)

/-- RAMP_TIMEOUT: T_END has passed: the open request goes out anyway. -/
def execRampTimeout (p : Port) (s : State) : Res :=
  .next (if (s.sesAt p).state == .rampdown then (s.modSes p fun x => { x with rampTimeout := true }).askOpen p else s)

/-- PAUSE_LIMIT: PAUSED for PAUSE_MAX. -/
def execPauseLimit (p : Port) (s : State) : Res :=
  .next (if (s.sesAt p).state == .paused then s.endSession p 0x04 else s)

/-- SELFTEST_DUE: 23 h since the test's last pass; it starts at the first allowed moment. -/
def execSelftestDue (p : Port) (code : Nat) (s : State) : Res :=
  .next (if !s.needsTest p code || (s.spAt p).deferred.any (·.1 == code) then s
  else if s.testAllowed p code then s.startTest p code none
  else s.modSp p fun x => { x with deferred := x.deferred ++ [(code, none)] })

/-- SELFTEST_OVERDUE: SELFTEST_AGE has reached 1 440; the age itself is computed. -/
def execSelftestOverdue (p : Port) (s : State) : Res := .next (s.availPoll p)

/-! ### Legal's reports (R162, R168, R172 to R174) -/

/-- SEALED_REPORT: Legal reports the record sealed. -/
def execSealedReport (p : Port) (s : State) : Res :=
  .next (if (s.sesAt p).state == .sealing && (s.sesAt p).sesOpen && (s.bilAt p).ses.isNone then (s.sealCheck p).leaveSealing p true else s)

/-- LEGAL_GAP: Legal has stopped billing on the port. -/
def execLegalGap (p : Port) (s : State) : Res :=
  .next (if (s.nrgAt p).stopped then s.endSession p 0x17 else s)

/-- CREDIT_OUT: a credit is used up. -/
def execCreditOut (p : Port) (s : State) : Res :=
  .next (match (s.bilAt p).ses with
  | some r => if r.out then (s.sesRaise p 0x400).endSession p 0x03 else s
  | none => s)

/-- LEGAL_READING: the main-head current and the session's registers as Legal reports them. -/
def execLegalReading (p : Port) (s : State) : Res :=
  let i := (s.metAt p).regI
  let s1 := s.modSes p fun x => { x with current := i }
  let s2 := match (s.bilAt p).ses with
    | some r =>
      let t := s1.modSes p fun x => { x with
        warnE := r.warned, warnT := r.warnedT, overE := r.overE, imp := (s.nrgAt p).sesImp, exp := (s.nrgAt p).sesExp }
      if (r.warned && !(s.sesAt p).warnE) || (r.warnedT && !(s.sesAt p).warnT) then t.sesRaise p 0x200 else t
    | none => s1
  let s3 := if (s.sesAt p).state == .rampdown && i.natAbs ≤ (s.sesAt p).iEnd then s2.askOpen p else s2
  .next (((if s.isAc p then s3.wantChanged p else s3).refreshPwm p).availPoll p)

/-- LEGAL_STATE: Legal's state changed, VOID among others. -/
def execLegalState (s : State) : Res :=
  let s1 := s.each (n := 8) fun p t => t.sealCheck p
  let v := (if s.legalVoid then 2 else if s.legalRun then 1 else 0) + 4 * s.rind.sealCount
  let s2 := if v = s.chn.mirLegal then s1
    else
      let t := s1.modChn fun c => { c with mirLegal := v }
      let u := if v % 4 = s.chn.mirLegal % 4 then t else t.mirrorEv 5 0xFF [v % 4]
      if v / 4 = s.chn.mirLegal / 4 then u else u.mirrorEv 6 0xFF [v / 4]
  .next s2.availAll

/-! ### Safety's messages (R14, R162, R349) -/

/-- SITE_STATE: safe-degraded or SAFE_HALT ends the open sessions. DEDUCED (log 71). -/
def execSiteState (s : State) : Res :=
  let s1 := match s.saf.state with
    | .degraded | .safeStop => s.each (n := 8) fun p t => t.endSession p 0x12
    | .safeHalt => s.each (n := 8) fun p t => t.endSession p 0x11
    | .init | .run | .restarting | .tableFail => s
  let v := s.saf.state.code
  let s2 := if v = s.chn.mirSite then s1
    else (s1.modChn fun c => { c with mirSite := v }).mirrorEv 2 0xFF [v]
  .next s2.availAll

/-- Safety confirmed the contactors closed (R165). -/
def State.confirmedClosed (s : State) (p : Port) : State :=
  let s1 := ((s.sesTo p .charging).sesRaise p 4).beginDelivery p
  if (s.sesAt p).ending then s1.ramp p false else s1

/-- Safety confirmed the contactors open: the end goes on, or the session pauses. -/
def State.confirmedOpen (s : State) (p : Port) : State :=
  let s1 := (s.sesRaise p 0x20).disable p
  if (s.sesAt p).ending then s1.toSealing p
  else ((((s1.sesTo p .paused).sesRaise p 8).modVeh p fun x => { x with pwmHeld := false }).refreshPwm p).wantChanged p

/-- Safety reports a contactor fault in OPENING: class faulted, and SEALING whatever began the end (R162, R170). -/
def State.openingFault (s : State) (p : Port) : State :=
  ((s.modSes p fun x => if x.ending then { x with endClass := 2, escalated := x.escalated || x.endClass != 2 }
    else { x with ending := true, endClass := 2, endCause := 0x13 }).halt p).toSealing p

/-- What a session does on the port state that Safety reports. DEDUCED (log 57). -/
def State.followSafety (s : State) (p : Port) : State :=
  let st := (s.spAt p).state
  match (s.sesAt p).state with
  | .closing => if st == .contactorFault then s.endSession p 0x13 else if st == .closed then s.confirmedClosed p else s
  | .charging | .rampdown =>
    if st == .contactorFault then s.endSession p 0x13
    else if st == .closed then s
    else
      let t := (if (s.pwrAt p).degraded then s else s.halt p).sesTo p .opening
      if t.openOk p then t.confirmedOpen p else t.wantChanged p
  | .opening => if st == .contactorFault then s.openingFault p else if s.openOk p then s.confirmedOpen p else s
  | .sealing => if st == .closed then s.askSafety 3 p.1 else s.sealCheck p
  | .preparing | .paused =>
    if st == .contactorFault then s.endSession p 0x13 else if st == .closed then s.askSafety 3 p.1 else s
  | .idle | .plugged | .authorising | .ended | .faulted | .off => if st == .closed then s.askSafety 3 p.1 else s

/-- PORT_STATE: the session follows, preparation goes on, and deferred tests start where they now may. -/
def execPortState (p : Port) (s : State) : Res :=
  .next (((((s.followSafety p).advance p).dueUnlock p).runDeferred p).availPoll p)

/-- TRIP: staged set-points are recalled, whatever end runs already (R205), and the session ends; a row named is sent as
TRIP_ADVICE. -/
def execTrip (p : Port) (cause row : Nat) (s : State) : Res :=
  let test : Bool := cause == 1 && (s.sesAt p).state == .preparing && (s.sesAt p).insAsked
  let s0 := if (s.sesAt p).state.inSession then s.halt p else s
  let s1 := s0.endSession p (if test then 0x14 else 0x11)
  .next ((if s.chainOn && s.cfg.chain.adviceOut && row < 64 then s1.sendAdvice cause (2 ^ p.1) row else s1).availPoll p)

/-- FEEDBACK: contacts, voltages and the lock's feedback as Safety reads them; Service acts on its own readings of the lock
and on PORT_STATE. -/
def execFeedback (p : Port) (s : State) : Res := .next (s.advance p)

/-- READINGS: the end of the pre-close test reaches Service. -/
def execReadings (p : Port) (s : State) : Res :=
  .next (if (s.sesAt p).state == .preparing && (s.sesAt p).insAsked && (s.spAt p).pre.isNone && (s.spAt p).preFail then
    s.endSession p 0x14
  else s.advance p)

/-- LOG_ENTRY: the trip log entry goes to the Cave (R485). -/
def execLogEntry (entry : List Byte) (s : State) : Res := .next (s.offer { kind := 9, data := entry })

/-- ANSWER: Safety refused a close, or the pre-close test. -/
def execAnswer (type : Nat) (p : Port) (granted : Bool) (s : State) : Res :=
  .next (if granted then s
  else if type = 2 && (s.sesAt p).state == .closing then
    let t := s.modSes p fun x => if x.ending then x else { x with ending := true, endClass := 2, endCause := 0x11 }
    ((t.halt p).disable p).toSealing p
  else if type = 5 && (s.sesAt p).state == .preparing && (s.spAt p).pre.isNone then
    s.modSes p fun x => { x with insAsked := false }
  else s)

end Sys2Proof.Machine
end

