-- ==== Sys2Proof/Machine/TimeRef.lean ====
section
/-! DEFINITION. The external time reference (spec 02 R37 to R40). -/

namespace Sys2Proof.Machine

/-- Whether SET_TREF_MODE names 1PPS, and 10 MHz (R46). -/
def State.trefPps (s : State) : Bool := 2 ≤ s.cfg.trefMode
def State.tref10M (s : State) : Bool := s.cfg.trefMode % 2 == 1

/-- Write the TREF state; a change of TREF_STATE makes SYSTEM pending (R68). DEDUCED (log 147). -/
def State.setTref (s : State) (t : Tref) : State :=
  let s1 := s.modTref fun _ => t
  if t.state = s.sys.tref.state then s1 else s1.sysChanged

/-- Enter holdover, or stay in it (R39, R40). -/
def Tref.hold (t : Tref) (now : Nat) : Tref :=
  { t with state := .holdover, holdSince := if t.state = .holdover || t.state = .fault then t.holdSince else some now }

/-- The reference is followed again: holdover, candidates and a faulted phase end. -/
def Tref.lock (t : Tref) : Tref :=
  { t with state := .locked, holdSince := none, cand := none, candRun := 0, prev := none, faultPhase := none }

/-- Count a rejected edge (R37). -/
def Tref.glitch (t : Tref) : Tref := { t with glitchCnt := satInc 255 t.glitchCnt }

/-- A rate beyond ±200 ppm, in units of 0.001 ppm (R40). -/
def rateBad (rate : Int) : Bool := 200000 < rate || rate < -200000

/-- Chain time is to slew by c ns more, on the unit that disciplines it: the head, or a standalone unit (R37, R38). DESIGN CHOICE (log 181). -/
def Tref.steer (t : Tref) (head : Bool) (c : Int) : Tref := if head then { t with slew := t.slew + c } else t

/-- The eighth consecutive edge of a candidate run settles it: within ±100 µs it is accepted and slewed out; beyond, it is a fault
that waits for ACCEPT_TREF_PHASE (R38). Each edge is judged against the run's first. -/
def Tref.agree (t : Tref) (c : Int) (head : Bool) (now : Nat) : Tref :=
  let n := t.candRun + 1
  if n < 8 then { t with candRun := n }
  else if c.natAbs ≤ 100000 then t.lock.steer head c
  else { t with state := .fault, candRun := 8, faultPhase := some c,
                holdSince := if t.holdSince.isNone then some now else t.holdSince }

/-- Two edges agree: their offsets lie within ±100 ns of each other (R37). -/
def nearEdge (x : Option Int) (off : Int) : Bool :=
  match x with
  | some c => (off - c).natAbs ≤ 100
  | none => false

/-- A candidate edge that the next edge does not confirm within ±100 ns is rejected and counted (R37). DESIGN CHOICE (log 181). -/
def Tref.reject (t : Tref) (off : Int) : Tref := if t.prev.isSome && !nearEdge t.prev off then t.glitch else t

/-- An edge begins a candidate run. -/
def Tref.begin (t : Tref) (off : Int) : Tref := { t with cand := some off, candRun := 1, prev := some off }

/-- A 1PPS edge (R37): within ±500 ns it disciplines the clock, which is steered by the whole offset; else it
joins the candidate run where it agrees with the run's first edge and with the last, begins one with the last where it agrees with
that alone, or begins one. DEDUCED (log 147). DESIGN CHOICE (log 181). -/
def Tref.edge (t : Tref) (off : Int) (head : Bool) (now : Nat) : Tref :=
  let t1 := t.reject off
  if off.natAbs ≤ 500 then t1.lock.steer head off
  else if !nearEdge t.prev off then t1.begin off
  else match t.cand with
    | some c =>
      let t2 := { t1 with prev := some off }
      if nearEdge (some c) off then t2.agree c head now else { t2 with cand := t.prev, candRun := 2 }
    | none => t1.begin off

/-- A 1PPS edge while the rate is at fault: it is judged and counted, and the device does not follow it (R37, R40). DEDUCED (log 147). DESIGN CHOICE (log 181). -/
def Tref.watch (t : Tref) (off : Int) : Tref :=
  let t1 := t.reject off
  if off.natAbs ≤ 500 then { t1 with cand := none, candRun := 0, prev := none }
  else if !nearEdge t.prev off then t1.begin off
  else if nearEdge t.cand off then { t1 with candRun := min 7 (t.candRun + 1), prev := some off }
  else { t1 with cand := t.prev, candRun := 2, prev := some off }

/-- TREF_PPS_EDGE: judged as disciplining, candidate or glitch (R37, R38, R40). -/
def execTrefPpsEdge (off : Int) (rate : Int) (s : State) : Res :=
  let t := { s.sys.tref with phase := off, rate := rate }
  .next (if !s.trefPps then s
  else if rateBad rate then s.setTref ({ t.watch off with rateFault := true }.hold s.time.legalUs)
  else if t.rateFault then s.setTref (t.watch off)
  else s.setTref (t.edge off s.isHead s.time.legalUs))

/-- TREF_10M_EDGE: a phase shorter than 20 ns is a glitch; otherwise the edge feeds the rate check and ends a
10 MHz holdover (R37, R39, R40). -/
def execTref10mEdge (glitch : Bool) (rate : Int) (s : State) : Res :=
  let t := s.sys.tref
  .next (if !s.tref10M then s
  else if glitch then s.setTref t.glitch
  else if rateBad rate then s.setTref ({ t with rate := rate, rateFault := true }.hold s.time.legalUs)
  else if t.rateFault || t.state == .fault || t.state == .locked then s.setTref { t with rate := rate }
  else if s.trefPps then
    s.setTref { t with rate := rate, state := if t.state = .noRef then .acquire else t.state }
  else s.setTref { t.lock with rate := rate })

/-- TREF_PPS_TIMEOUT: no valid edge for 2 s where 1PPS is configured (R39). -/
def execTrefPpsTimeout (s : State) : Res :=
  .next (if s.trefPps then s.setTref (s.sys.tref.hold s.time.legalUs) else s)

/-- TREF_10M_LOSS: no 10 MHz edge for 1 µs (R39). -/
def execTref10mLoss (s : State) : Res :=
  .next (if s.tref10M then s.setTref (s.sys.tref.hold s.time.legalUs) else s)

/-- RATE_FAULT_CLEAR: within ±200 ppm for 10 s; the device acquires again, and the seconds of the holdover go on until it locks
(R40). DESIGN CHOICE (log 182). -/
def execRateFaultClear (s : State) : Res :=
  .next (if s.sys.tref.rateFault then
    s.setTref { s.sys.tref with rateFault := false, state := .acquire, cand := none, candRun := 0, prev := none } else s)

end Sys2Proof.Machine
end

