-- ==== Sys2Proof/Machine/SysCmds.lean ====
section
/-! DEFINITION. The commands of groups 0x01, 0x02 and 0x03 that are no configuration items (spec 05 R120 to R122), relayed
messages (04 R92, R93), guest reset (03 R75 to R77), and the channels and firewalls between domains (01 R14, R16). -/

namespace Sys2Proof.Machine

/-! ### Group 0x01 (R120) -/

def execGetDeviceInfo (r : Req) (s : State) : Res :=
  let bank (c : Fin 3) : Nat := (ix s.fw.active c).1
  .next (s.answer r Code.done ([deviceId, fwVersion s.sys,
    pack [(0, 0, bank 0), (1, 1, bank 1), (2, 2, bank 2), (8, 8, b1 s.legalVoid), (9, 9, b1 (s.saf.state == .tableFail))],
    pack [(7, 0, s.chn.addr), (8, 8, b1 s.fenced)]] ++ bytesToWords s.serialBytes))

def execGetImageDigest (r : Req) (s : State) : Res :=
  .next (if r.fld 2 1 0 = 3 then s.answer r Code.outOfRange
  else
    let c : Fin 3 := ⟨r.fld 2 1 0 % 3, by omega⟩
    let k : Fin 2 := ⟨r.fld 2 8 8 % 2, by omega⟩
    let b := ix (ix s.fw.banks c) k
    s.answer r Code.done (pack [(0, 0, b1 b.valid), (1, 1, b1 (ix s.fw.active c == k)), (31, 16, b.rollback)] ::
      bytesToWords (if b.valid then padTo 48 b.digest else List.replicate 48 0)))

/-- ECHO: words 2 to LEN − 1 unchanged. -/
def execEcho (r : Req) (s : State) : Res := .next (s.answer r Code.done ((r.words.take r.len).drop 2))

/-- ACCEPT_TREF_PHASE: one slew at 10 ppm to the phase of the faulted run (R38, R113). DESIGN CHOICE (log 218). -/
def execAcceptTrefPhase (r : Req) (s : State) : Res :=
  let t := s.sys.tref
  .next (if !r.fromSystem then s.answer r Code.refused
  else match t.faultPhase with
  | some c =>
    if !s.isHead || t.state != .fault || t.rateFault then s.answer r Code.wrongState
    else (s.setTref (t.lock.steer true c)).answer r Code.done
      [wInt (satInt 24 c), pack [(23, 0, c.natAbs / 10)]]
  | none => s.answer r Code.wrongState)

/-! ### Groups 0x02 and 0x03 (R121, R122) -/

def execGetCommandCost (r : Req) (s : State) : Res :=
  let p := r.portField
  .next (match opInfo (r.fld 2 31 16) with
  | none => s.answer r Code.outOfRange
  | some op =>
    if 8 ≤ p && p != 0xFF then s.answer r Code.outOfRange
    else s.answer r Code.done
      [pack [(23, 0, op.cost)], pack [(23, 0, s.startLatency op r.modemPorts)], pack [(2, 0, op.fastest)]])

def execGetQueueState (r : Req) (s : State) : Res :=
  let q := r.fld 2 12 0
  let c := s.gcfg r.guest
  let l := s.onQueue r.guest q
  .next (if !(c.queFirst ≤ q && q < c.queFirst + c.queCount) then s.answer r Code.outOfRange
  else s.answer r Code.done
    [pack [(0, 0, b1 (!l.isEmpty)), (3, 1, (l.head?.map (·.req.cls)).getD 0), (31, 16, l.length)]])

def execGetGuestConfig (r : Req) (s : State) : Res :=
  let g := r.target
  let c := s.gcfg g
  .next (if !r.fromSystem && g != r.guest then s.answer r Code.refused
  else s.answer r Code.done [c.query, c.ctrl,
    pack [(7, 0, c.ports.toNat), (16, 16, b1 (g == 0)), (17, 17, b1 c.audit), (18, 18, b1 c.staging), (19, 19, b1 c.bulk),
      (20, 20, b1 (s.host.gln == some g))],
    c.range, c.share0, pack [(7, 0, ix c.share 4), (28, 16, c.creditLimit)]])

/-- The sender's own record of a command: its response will be discarded (R119). -/
def State.noResponse (s : State) (r : Req) : State :=
  s.modHost fun h => { h with admitted := h.admitted.map fun a => if a.req.same r then { a with orphan := true } else a }

/-- RESET_GUEST: of itself without a response; by the system guest with DONE at the end of the reset (R122). DEDUCED (log 41). -/
def execResetGuest (r : Req) (s : State) : Res :=
  let g := r.target
  .next (if g = r.guest then ((s.noResponse r).answer r Code.done).trigger g 4
  else if !r.fromSystem then s.answer r Code.refused
  else (s.trigger g 5).modGuest g fun x => { x with rstCmds := x.rstCmds ++ [r] })

/-! ### Relayed messages (R92, R93, R122) -/

/-- The copy a target is given, or the notice that withdraws it. -/
def relayWords (src : Guest) (tag len code : Nat) (payload : List Word) : List Word :=
  msgWords (pack [(31, 16, 0x0385)]) (pack [(18, 16, 7), (15, 0, tag)]) len code (w32 src.1 :: payload)

def abortedMsg (path : Path) (src : Guest) (tag : Nat) : OutMsg :=
  { kind := .aborted, path, words := relayWords src tag 8 Code.aborted [] }

/-- The path a relayed message takes to a guest: PCIe, unless GLN is the only path it has. DEDUCED (log 40). -/
def State.relayPath (s : State) (g : Guest) : Path :=
  if s.host.gln = some g && !s.canRead .pcie g then .gln else .pcie

/-- The relay of a sender's mailbox ends without a reader. -/
def State.endRelay (s : State) (g : Guest) (n : Fin 8) (abort : Bool) : State :=
  let m := ix (s.guest g).h2d n
  if m.relaying then
    let t := (s.modH2d g n fun x => { x with full := false, relaying := false, abort := x.abort || abort }).irq g (8 + n.1)
    if abort then t.count g 0x0A 1 else t
  else s

def State.freeNotice (s : State) (g : Guest) : State := s.modGuest g fun x => { x with notices := x.notices - 1 }

/-- A relay that has placed no copy yet, and that no reset of its sender or target has ended (R93). -/
def Admitted.relays (a : Admitted) (s : State) : Bool :=
  a.req.opcode == 0x0385 && !a.ended && !s.host.answers.any fun x => x.req.same a.req

/-- A relay that runs holds its mailbox still. -/
def State.relayLive (s : State) (r : Req) : Bool := s.host.admitted.any fun a => a.req.same r && !a.ended

/-- RELAY_MESSAGE: the copy goes to the target's store. A target without the query bit of group 0x03 gives REFUSED; a copy
whose target was reset since admission is discarded with that reset. DEDUCED (log 40). -/
def execRelayMessage (r : Req) (s : State) : Res :=
  let g := r.target
  let copy : OutMsg := { kind := .relay r.guest r.mbx r.tag, path := s.relayPath g
                         words := relayWords r.guest r.tag r.len Code.done ((r.words.take r.len).drop 3) }
  .next (if !(s.gcfg g).query.bit 2 then
    (if s.relayLive r then (s.endRelay r.guest r.mbx false).freeNotice g else s).answer r Code.refused
  else if !s.relayLive r then s.answer r Code.accepted
  else (s.modGuest g fun x => { x with store := x.store ++ [copy] }).answer r Code.accepted)

/-! ### Guest reset (R76) -/

def OutMsg.relayFrom (m : OutMsg) (g : Guest) : Option Nat :=
  match m.kind with
  | .relay src _ tag => if src = g then some tag else none
  | _ => none

/-- A stored copy from a reset sender becomes its notice. -/
def OutMsg.withdraw (m : OutMsg) (g : Guest) : OutMsg :=
  match m.relayFrom g with
  | some tag => abortedMsg m.path g tag
  | none => m

/-- Withdraw the copies that a reset sender placed with a guest: the notice takes the copy's notice slot; a copy being read
stays, and its notice follows it (R93). -/
def State.withdrawFrom (s : State) (src g : Guest) : State :=
  let x := s.guest g
  let begun := x.d2h.toList.filterMap fun d => d.msg.bind fun m => if d.mbd0Read then (m.relayFrom src).map fun t => (m.path, t) else none
  let unread := (x.d2h.toList.filter fun d => !d.mbd0Read && (d.msg.any fun m => (m.relayFrom src).isSome)).length
  let s1 := s.modGuest g fun y => { y with
    store := y.store.map (·.withdraw src) ++ begun.map fun b => abortedMsg b.1 src b.2
    d2h := vmap (fun d : D2H =>
      match d.msg with
      | some m =>
        if (m.relayFrom src).isNone then d
        else if d.mbd0Read then { d with msg := some { m with kind := .accepted } }
        else { d with msg := some (m.withdraw src) }
      | none => d) y.d2h }
  if unread = 0 then s1 else s1.count g 0x0A unread

/-- Commands of a guest: those not started leave the Colander with their cost, the others run on without a response (R76
step 4, R104); a relay that has placed no copy yet gives its notice slot back (R92). DEDUCED (log 41). -/
def State.dropAdmitted (s : State) (g : Guest) : State :=
  let gone := s.host.admitted.filter fun a => a.req.guest == g && !a.started
  let s0 := (s.host.admitted.filter fun a => a.req.guest == g && a.relays s).foldl (fun t a => t.freeNotice a.req.target) s
  let s1 := gone.foldl (fun t a => t.releaseCost a) s0
  s1.modHost fun h => { h with
    admitted := (h.admitted.filter fun a => a.req.guest != g || a.started).map fun a =>
      if a.req.guest = g then { a with orphan := true, ended := true } else a
    awaiting := h.awaiting.filter (·.guest != g) }

/-- Relays to a reset target: each sender's mailbox takes ABORT = 1 and FULL = 0 (R93). -/
def State.abortTo (s : State) (g : Guest) : State :=
  let x := s.guest g
  let held := x.store ++ x.d2h.toList.filterMap (·.msg)
  let s1 := held.foldl (fun t m => match m.kind with
    | .relay src n _ => if src = g then t else t.endRelay src n true
    | _ => t) s
  let open_ (a : Admitted) : Bool := a.relays s && a.req.target == g && a.req.guest != g
  ((s.host.admitted.filter open_).foldl (fun t a => t.endRelay a.req.guest a.req.mbx true) s1).modHost fun h => { h with
    admitted := h.admitted.map fun a => if open_ a then { a with ended := true } else a }

/-- A guest's leases end: claims, pre-authorisations it holds, key sessions, stagings, the card of the reader owner, and its
open configuration transaction (R76 step 5, R77, R160, R515, R535, R573). DEDUCED (log 42). -/
def State.dropLeases (s : State) (g : Guest) : State :=
  let s1 := s.each (n := 8) fun p t =>
    let u := if t.claims g p then t.endClaim p else t
    match (u.sesAt p).preauth with
    | some (_, h) => if h = g then u.modSes p fun x => { x with preauth := none } else u
    | none => u
  let s2 := s1.modKeys fun k => { k with
    sessions := upd k.sessions g fun _ => Vector.replicate 8 none
    ops := k.ops.map fun o => if o.req.guest = g then { o with orphan := true } else o }
  let s3 := s2.each (n := 3) fun c t => if (t.stg c).owner == g && (t.stg c).cmd.isSome then t.stgCancel c else t
  let s4 := if g = s3.cfg.nfc.owner then s3.releaseHeld else s3
  s4.setOpen g none

/-- Every event register's copy of a guest clears. -/
def State.clearEvents (s : State) (g : Guest) : State :=
  let s1 := s.each (n := 8) fun p t => (((((((t.modVeh p fun x => { x with ev := clearOne x.ev g }).modSes p fun x => { x with
    ev := clearOne x.ev g }).modPwr p fun x => { x with ev := clearOne x.ev g }).modMet p fun x => { x with
    ev := clearOne x.ev g }).modNrg p fun x => { x with ev := clearOne x.ev g }).modBil p fun x => { x with
    ev := clearOne x.ev g }).modPq p fun x => { x with ev := clearOne x.ev g }).modSp p fun x => { x with
    ev := clearOne x.ev g, imdEv := clearOne x.imdEv g }
  let s2 := (((s1.modLegal fun x => { x with bilEv := clearOne x.bilEv g, pqEv := clearOne x.pqEv g }).modSaf fun x => { x with
    ev := clearOne x.ev g, brkEv := clearOne x.brkEv g }).modLs fun x => { x with ev := clearOne x.ev g }).modChn fun x => { x with
    ev := clearOne x.ev g }
  let s3 := (((s2.modMsh fun x => { x with ev := clearOne x.ev g }).modJnl fun x => { x with ev := clearOne x.ev g }).modCave fun x =>
    { x with ev := clearOne x.ev g }).modKeys fun x => { x with ev := clearOne x.ev g }
  ((s3.modFw fun x => { x with ev := clearOne x.ev g }).modNfc fun x => { x with ev := clearOne x.ev g }).modDsp fun x =>
    { x with ev := clearOne x.ev g }

/-- A guest's own state after its reset: cleared but for the violation log, the masks of MSI-X where the function itself was
not reset, and GUEST_RST pending. -/
def GuestSt.cleared (x : GuestSt) : GuestSt :=
  let function := inRange 1 3 x.rstPending
  { viol := x.viol, aerErrors := x.aerErrors, hostErrors := x.hostErrors, rstCause := x.rstPending, rstCount := satInc 255 x.rstCount, own := x.own
    irq := { status := oneBit 30, mask := if function then BitVec.allOnes 64 else x.irq.mask } }

/-- GUEST_RESET: the reset in progress runs through its steps. DEDUCED (log 42). -/
def execGuestReset (g : Guest) (s : State) : Res :=
  .next (if !(s.guest g).rstBusy then s
  else
    let cmds := (s.guest g).rstCmds
    let s1 := s.each (n := 16) fun k t => if k = g then t else t.withdrawFrom g k
    let s2 := ((s1.abortTo g).dropAdmitted g).dropLeases g
    let s3 := (s2.modGuest g GuestSt.cleared).clearEvents g
    cmds.foldl (fun t r => t.answer r Code.done) s3)

/-! ### Between domains (R14, R16) -/

/-- BAD_CHANNEL_MESSAGE: discarded and counted in the receiving domain: Legal, Safety or Service. DESIGN CHOICE (log 174). -/
def execBadChannelMessage (dom : Fin 3) (s : State) : Res :=
  .next (s.modSys fun y => match dom with
    | 0 => { y with chanErrLegal := y.chanErrLegal + 1 }
    | 1 => { y with chanErrSafety := y.chanErrSafety + 1 }
    | 2 => { y with chanErrService := y.chanErrService + 1 })

/-- FIREWALL_ACCESS: blocked and counted in the domain that owns the target: Legal, Safety, Rind or Service. DESIGN CHOICE (log 174). -/
def execFirewallAccess (dom : Fin 4) (s : State) : Res :=
  .next (s.modSys fun y => match dom with
    | 0 => { y with fwBlockLegal := y.fwBlockLegal + 1 }
    | 1 => { y with fwBlockSafety := y.fwBlockSafety + 1 }
    | 2 => { y with fwBlockRind := y.fwBlockRind + 1 }
    | 3 => { y with fwBlockService := y.fwBlockService + 1 })

end Sys2Proof.Machine
end

