-- ==== Sys2Proof/Machine/Reset.lean ====
section
/-! DEFINITION. The chip reset and the power-on reset with the steps of the start-up sequence that follow them (spec 02 R29 to
R36; 07 R171; 10 R278; 05 R127; 18 R473, R494). -/

namespace Sys2Proof.Machine

/-! ### What a chip reset clears (R30, R109, R494, R535, R573) -/

/-- A guest after a chip reset: cause 7, its count one higher, GUEST_RST pending; everything else as after power-on (R62, R68,
R75, R109). DESIGN CHOICE (log 14). DEDUCED (log 38). -/
def GuestSt.chipReset (x : GuestSt) : GuestSt :=
  { rstCause := 7, rstCount := satInc 255 x.rstCount, irq := { status := oneBit 30 } }

/-- The host side: mailboxes, stores, rings, queues, claims and HOST link; a journalled GLN binding takes effect, in force already or committed (R66, R122). -/
def State.hostReset (s : State) : HostSt :=
  { guests := vmap GuestSt.chipReset s.host.guests, gln := s.projected.glnBind, glnVio := s.host.glnVio }

/-- The cable lock: its drive ends; the bolt stays where it is (R33, R171). DEDUCED (log 16). -/
def Lock.chipReset (x : Lock) (shown : LockState) : Lock :=
  { fbClosed := x.fbClosed
    state := match x.state with
      | .locking | .unlocking => shown
      | y => y }

/-- A vehicle port: the generator holds +12 V without PWM (R133). -/
def Veh.chipReset (x : Veh) (shown : LockState) : Veh := { cp := { drive := .high }, lock := x.lock.chipReset shown }

/-- The session engine keeps what names the open session, one that Legal has opened and not yet acknowledged among them, so that
it is rebuilt at step 8 (R171). -/
def Ses.chipReset (x : Ses) (legal : Option SesRec) : Ses :=
  if x.sesOpen || x.voidRun || x.rebuild then
    { decision := x.decision, sesNo := x.sesNo, voidRun := x.voidRun, sesOpen := x.sesOpen, openedAt := x.openedAt, rebuild := true }
  else match legal with
    | some r => { decision := x.decision, sesNo := r.no, sesOpen := true, rebuild := true }
    | none => { sesNo := x.sesNo }

/-- Running stagings end (R535). DEDUCED (log 17). -/
def Stg.chipReset (x : Stg) : Stg :=
  match x.state with
  | .header | .body | .checking => { state := .cancelled, source := x.source }
  | _ => { x with cmd := none }

/-- What of a staging the banks in MRAM show after a power-on reset: an inactive bank that is VALID (R10, R30, R547). DEDUCED (log 17). -/
def Stg.powerOn (x : Stg) : Stg := if x.state = .valid then { state := .valid } else {}

/-- A proposal is lost; a committed activation survives, one under way among them (R471, R543, R546). DEDUCED (log 17). -/
def Act.chipReset (x : Act) : Act :=
  match x.state with
  | .proposed => {}
  | .swapping => { x with state := .committed, cmd := none }
  | _ => { x with cmd := none }

/-- What of an activation the configuration journal holds: a commit, one under way among them (R10, R471, R543). DEDUCED (log 17). -/
def Act.powerOn (x : Act) : Act :=
  match x.state with
  | .committed | .swapping => { state := .committed, cls := x.cls, unit := x.unit, digest := x.digest, tAct := x.tAct }
  | _ => {}

/-- The Cave writer: its queue is lost; the drive's content stays (R494). -/
def Cave.chipReset (x : Cave) : Cave :=
  { drive := x.drive, gen := x.gen, recs := x.recs, recUsed := x.recUsed, index := x.index, nextSeq := x.nextSeq, legalSeq := x.legalSeq
    blocks := x.blocks, windows := x.windows, window := x.window, winPos := x.winPos, p0 := x.p0, pos := x.pos, saved := x.saved, updates := x.updates }

/-- Full-rate index after the last complete continuous block of a head in this run. -/
def State.afterLast (s : State) (h : SLink) : Nat :=
  (s.cave.blocks.filter fun b => b.head == h.1 && !b.window && b.run == s.legal.run).foldl (fun a b => max a (b.first + 2688)) 0

/-- The head's span since then, with cause 5 (R488, R494). -/
def State.lostSpan (s : State) (h : SLink) : State :=
  let a := s.afterLast h
  if s.legalRun && s.cfg.cave.enable && s.cfg.cave.capture && Nat.blt a s.legal.proc then
    s.modCave fun c => { c with absent := upd c.absent h fun _ => some (a, a, 5) }
  else s

/-- The event registers of Legal, Safety and the drive die that guests read are copies in main-die SRAM (R30). DEDUCED (log 15). -/
def State.clearService (s : State) : State :=
  let z : Vector Word 16 := Vector.replicate 16 0
  { s with
    met := vmap (fun x => { x with ev := z }) s.met
    nrg := vmap (fun x => { x with ev := z }) s.nrg
    bil := vmap (fun x => { x with ev := z }) s.bil
    pq := vmap (fun x => { x with ev := z }) s.pq
    legal := { s.legal with bilEv := z, pqEv := z }
    jnl := { s.jnl with ev := z, confirmed := s.jnl.acked, conf := { s.jnl.conf with run := none, standbyClean := s.jnl.conf.standbyClean && s.jnl.conf.run.isNone } }
    keys := { s.keys with ev := z, sessions := Vector.replicate 16 (Vector.replicate 8 none), ops := [], log := [] }
    saf := { s.saf with ev := z, brkEv := z }
    sp := vmap (fun x => { x with ev := z, imdEv := z }) s.sp
    ls := { s.ls with ev := z }
    lk := vmap (fun x => if x.state.driving then { x.over s.time.safetyUs .off with want := none } else { x with want := none }) s.lk
    nfc := { s.nfc with card := none, released := none, multiple := false, paused := false, seen := false, ev := z }
    dsp := { s.dsp with pending := Vector.replicate 8 none, applied := 0, superseded := 0, ev := z }
    fw := { s.fw with ev := z, stg := vmap Stg.chipReset s.fw.stg, act := s.fw.act.chipReset, serving := none } }

/-- The system block: start-up steps of Rind, Safety and Legal stand; clocks, sleep and TREF start anew (R34, R35). -/
def Sys.chipReset (y : Sys) (cause : Nat) : Sys :=
  { y with
    power := .run, steps := y.steps.filter fun n => [1, 2, 3, 4, 6].contains n, romRecovery := false, clkFault := false
    chipCause := cause, chipResets := satInc 0xFFFF y.chipResets
    tref := { strap10M := y.tref.strap10M, strapPps := y.tref.strapPps }
    sleep := { wakeEpoch := none }, clocks := {}, wallSet := false, svcSeq := 0, svcAsked := [], chanErrService := 0, fwBlockService := 0 }

/-- The lease of a unit that starts: SITE_LIMIT where it is standalone, else its floor, which is always available (R209, R210). -/
def State.startLease (s : State) : Lease :=
  if s.chainOn then { lease := s.cfg.lease.floor, state := .floor } else { lease := s.cfg.siteLimit }

/-- A session whose contactors are confirmed open when Service goes is Legal's to seal, without waiting for Service (R15, R298). DEDUCED (log 201). -/
def State.sealOpen (s : State) (p : Port) : State :=
  if s.legalRun && s.openOk p then s.modBil p fun b => { b with ses := b.ses.map fun r => { r with sealDue := true } } else s

/-- The chip reset (R30): Service, its fabric, every guest and the Service PHYs; Legal, Safety, Rind, MRAM, the load switches
and the displayed frame stay. Safety declares Service loss (R350). An image on trial fails it on causes 2 to 5 (R542). DEDUCED (log 18). -/
def State.chipReset (s : State) (cause : Nat) : State :=
  if s.sys.power == .dormant then s
  else
    let s1 := { s.clearService with
      sys := s.sys.chipReset cause
      time := { s.time with chain := s.rind.rtcUs * 1000 }
      host := s.hostReset
      conf := { s.conf with opens := Vector.replicate 16 none }
      veh := Vector.ofFn fun p => (s.vehAt p).chipReset (s.lockShown p)
      ses := Vector.ofFn fun p => (s.sesAt p).chipReset (s.bilAt p).ses
      pwr := Vector.replicate 8 {}
      pm := vmap (fun (x : PmLink) => { faults := x.faults }) s.pm
      lease := s.startLease
      chn := { table := s.chn.table }
      msh := {}
      cave := s.cave.chipReset }
    let s2 := ((s1.each (n := 24) fun h t => t.lostSpan h).each (n := 8) fun p t => t.sealOpen p).serviceLoss
    if 2 ≤ cause && cause ≤ 5 then s2.revert else s2

/-- RESET_CHIP: acted on at admission, with no response (R120). DEDUCED (log 12). -/
def execResetChip (r : Req) (s : State) : Res :=
  .next (if !r.fromSystem then s.answer r Code.refused
  else if r.word 2 ≠ w32 0x8128 then s.answer r Code.outOfRange
  else s.chipReset 6)

/-- CHIP_RESET: SRST_N low for at least 1 µs (R30, R31). -/
def execChipReset (s : State) : Res := .next (s.chipReset 1)

/-- SERVICE_WATCHDOG_EXPIRY. -/
def execServiceWatchdogExpiry (s : State) : Res := .next (s.chipReset 2)

/-- ECC_UNCORRECTABLE: in Service memory. -/
def execEccUncorrectable (s : State) : Res := .next (s.chipReset 3)

/-- ROM recovery: step 7 is reached with it; no virtual functions (R35, R544). DEDUCED (log 25). -/
def State.enterRom (s : State) : State :=
  (((s.modSys fun y => { y with romRecovery := true }).modHost fun h => { h with numVFs := 0, rrs := false }).reach 7).sysChanged

/-- CLOCK_DEVIATION: a chip reset with cause CLK; still present after it, ROM recovery with CLK_FAULT, in which the device stays
(R29). DEDUCED (log 26). -/
def execClockDeviation (s : State) : Res :=
  .next (if s.sys.clkFault then s
  else if s.sys.chipCause = 5 && !s.sys.reached 7 then (s.modSys fun y => { y with clkFault := true }).enterRom
  else s.chipReset 5)

/-- SERVICE_IMAGE_START: step 7. A start that fails is a chip reset; three in a row, or a root that cannot be used, enter ROM
recovery (R30, R35, R542); a RETIRED device starts, so that its records can be read (R508). DEDUCED (log 25, 200). -/
def execServiceImageStart (verified : Bool) (s : State) : Res :=
  .next (if s.sys.clkFault then s
  else if !s.rootUsable && !s.retired then s.enterRom
  else if verified then
    ((((s.modFw fun f => { f with failedStarts := 0 }).modSys fun y => { y with romRecovery := false }).modHost fun h => { h with
      rrs := false }).modKeys fun k => { k with measured := upd k.measured 0 fun _ => rennet 0 (s.activeBank 0).digest }).reach 7
  else
    let t := (s.modFw fun f => { f with failedStarts := s.fw.failedStarts + 1 }).chipReset 4
    if 3 ≤ t.fw.failedStarts then t.enterRom else t)

/-! ### Power-on reset (R23, R25, R30, R35) -/

/-- Every output in its Dormant state: coils, brakes, SAFE_OUT, LS and LK off (R35 step 1). -/
def State.outputsOff (s : State) : State :=
  { s with
    sp := vmap (fun x => { x with coils := Vector.replicate 2 false }) s.sp
    brk := vmap (fun x => { x with released := false, held := false }) s.brk
    saf := { s.saf with outs := 0, requests := 0, enable := false }
    ls := { s.ls with ch := Vector.replicate 40 {}, restore := none }
    lk := Vector.replicate 8 {} }

/-- POWER_ON_RESET: VSYS low or PORST_N low; 0 stands for the first supply. DESIGN CHOICE (log 27). -/
def execPowerOnReset (cause : Fin 3) (s : State) : Res :=
  .next (if s.sys.power == .dormant then s
  else (s.outputsOff.modLegal fun l => { l with state := .starting }).modSys fun y => { y with power := .dormant, porCause := cause.1 })

/-- What of a port's metrology legal MRAM keeps: calibration, identity record and latched verification failures, which 16
windows in OK may now clear (R245, R249). DEDUCED (log 21). -/
def Met.powerOn (m : Met) : Met :=
  { coef := m.coef, calCount := m.calCount, bound := m.bound
    path := vmap (fun v => if v.latched then { state := v.state, latched := true, recheck := true } else {}) m.path }

/-- What of a port's tamper supervision the records in legal MRAM keep, from which step 6 restores it (R278, R327). -/
def Pq.powerOn (q : Pq) : Pq :=
  { ({} : Pq) with
    bypass := q.bypass, neutV := q.neutV, neutI := q.neutI, revPol := q.revPol, revExport := q.revExport, mark := q.mark
    bidir := q.bidir, counts := q.counts }

/-- Legal before step 6: its run number and supply history are in MRAM (R278, R292). DESIGN CHOICE (log 19, 23). DEDUCED (log 20, 24). -/
def Legal.powerOn (l : Legal) : Legal :=
  { run := l.run, supply := { pfw := l.supply.pfw, stuck := l.supply.pfw, tripped := l.supply.tripped, intr := l.supply.intr } }

/-- The session that was open at the loss is reported as R171 says. DEDUCED (log 22). -/
def Ses.powerOn (x : Ses) (open_ : Bool) : Ses :=
  { sesNo := x.sesNo, decision := if open_ then x.decision else none, sesOpen := open_, rebuild := open_ }

/-- POR_RELEASE: every domain starts from its reset state; MRAM, Rind, the tag island and the drive keep theirs (R30, R35). The
ship copy comes back and a battery loss is recorded before step 2 (R504, R505). DESIGN CHOICE (log 4, 19). DEDUCED (log 18). -/
def execPorRelease (s : State) : Res :=
  if s.sys.power != .dormant then .next s
  else
    let c := s.clearService
    let s1 := { c with
      sys := {
        power := .run, porCause := s.sys.porCause, porResets := satInc 0xFFFF s.sys.porResets, serial := s.sys.serial
        fwMinor := s.sys.fwMinor, fwBuild := s.sys.fwBuild
        tref := { strap10M := s.sys.tref.strap10M, strapPps := s.sys.tref.strapPps } }
      time := { s.time with chain := s.rind.rtcUs * 1000, safetyUs := 0 }
      host := { gln := s.projected.glnBind, glnVio := s.host.glnVio }
      conf := { s.conf with opens := Vector.replicate 16 none }
      veh := Vector.replicate 8 {}
      ses := Vector.ofFn fun p => (s.sesAt p).powerOn (s.sesIsOpen p)
      pwr := Vector.replicate 8 {}
      pm := Vector.replicate 2 {}
      lease := s.startLease
      legal := s.legal.powerOn
      sl := vmap (fun (x : SLinkSt) => { failed := x.failed }) s.sl
      met := vmap Met.powerOn s.met
      nrg := vmap (fun (x : Nrg) => x.restore none) s.nrg
      bil := vmap (fun (x : Bil) => { x with pend := none }) c.bil
      pq := vmap Pq.powerOn c.pq
      jnl := { c.jnl with conf := { c.jnl.conf with ripenings := 0, deferred := false }, legal := { c.jnl.legal with
        run := none, ripenings := 0, deferred := false, standbyClean := c.jnl.legal.standbyClean && c.jnl.legal.run.isNone } }
      cave := s.cave.chipReset
      rind := { s.rind with renewed := false, loopChanges := 0 }
      keys := { c.keys with measured := Vector.replicate 3 [] }
      saf := { tables := s.saf.tables, fails := s.saf.fails }
      sp := Vector.replicate 8 {}
      brk := Vector.replicate 2 {}
      ls := {}
      lk := Vector.replicate 8 {}
      chn := { table := s.chn.table }
      msh := {}
      fw := { c.fw with stg := vmap Stg.powerOn s.fw.stg, act := s.fw.act.powerOn }
      dsp := { cfg := s.cfg.dsp } }
    .next (s1.shipRestore.batteryStart.rootlessStart)

/-- LEGAL_START_DONE: step 6. Legal runs where its image verified, its journal has a candidate half and a root is there; else it
is VOID (R35, R278, R473, R503). DESIGN CHOICE (log 23). -/
def execLegalStartDone (verified : Bool) (candidate : Bool) (torn : Nat) (s : State) : Res :=
  .next (if s.legal.state != .starting then s
  else
    let s1 := s.reach 2
    if verified && candidate && s.rootUsable then
      let s2 := (s1.modJnl fun j => { j with legal := { j.legal with torn } }).modLegal fun l => { l with state := .run }
      let s3 := (s2.legalRecover.passTrial 1).modKeys fun k => { k with
        measured := upd k.measured 1 fun _ => rennet 1 (s.activeBank 1).digest }
      (s3.irqAll irqLegal).reach 6
    else ((s1.modLegal fun l => { l with run := (l.run + 1) % 2 ^ 32 }).voidLegal).reach 6)

/-! ### Step 8 (R127, R171, R392, R543) -/

/-- A fault that Safety recorded at a port: contactor fault, else any trip cause (R171). -/
def State.safetyEnd (s : State) (p : Port) : Option (Nat × Nat) :=
  if s.blkContactor p then some (2, 0x13) else if (s.spAt p).causes != 0 then some (2, 0x11) else none

/-- Class and cause of a session that a reset ended: Legal's own fault, else Safety's, else SERVICE_RESET (R171). DEDUCED (log 28). -/
def State.resetEnd (s : State) (p : Port) : Nat × Nat :=
  let b := s.bilAt p
  let legal : Nat × Nat := match b.ses with
    | some r => if r.stopped then (2, 0x17) else (3, 0x20)
    | none => if b.sealedNo = (s.sesAt p).sesNo && !(s.sesAt p).voidRun then b.sealedEnd else (3, 0x20)
  if legal.1 = 2 then legal else (s.safetyEnd p).getD (3, 0x20)

/-- Rebuild a port whose session a reset ended: sealed, it is ENDED, IDLE or FAULTED with the event ENDED; still open in Legal, it
goes to OPENING or SEALING; one that no record is waited for, under a VOID Legal, leaves SEALING once the opening is confirmed
(R172). The unlock waits for that confirmation too (R171). DEDUCED (log 22). -/
def State.rebuildPort (s : State) (p : Port) : State :=
  let x := s.sesAt p
  if !x.rebuild then s
  else
    let e := s.resetEnd p
    let s1 := s.modSes p fun y => { y with rebuild := false, restarted := true, endClass := e.1, endCause := e.2 }
    if s.sesIsOpen p && s.legalRun then
      let s2 := s1.modSes p fun y => { y with state := .opening, sesOpen := true, ending := true }
      if s.openOk p then s2.toSealing p else s2.askSafety 3 p.1
    else if s.sesIsOpen p || x.voidRun then
      let s2 := s1.modSes p fun y => { y with state := .sealing, sesOpen := s.sesIsOpen p, ending := true }
      if s.openOk p then s2.sealCheck p else s2.askSafety 3 p.1
    else
      let st : SesState := if e.1 = 2 then .faulted else if (s.spAt p).unplugged then .idle else .ended
      let s2 := (s1.modSes p fun y => { y with
        state := st, restarted := false, sesOpen := false, voidRun := false, sealDeferred := false, unlockDue := (s.sesCfg p).unlockOnEnd }).sesRaise p
          (if st = .faulted then 0x180 else 0x80)
      ((s2.applyPort p).applySource p).dueUnlock p

/-- After a power-on reset the channels with BOOT_ON are commanded on, in the restore's order (R392). DEDUCED (log 29). -/
def State.bootOn (s : State) : State :=
  if s.ls.booted then s
  else
    let boot (c : LsIdx) : Bool := (s.lsCfg c).bootOn
    let s1 := s.modLs fun l => { l with booted := true, booting := !l.uv }
    let s2 := s1.each (n := 40) fun c t => if boot c then t.modLsCh c fun x => { x with commanded := true, uvOff := true } else t
    if s2.ls.uv then s2 else s2.restoreGroup 0

/-- CONFIG_JOURNAL_REPLAY: step 8. With no candidate half Service is in ROM recovery (R473). Otherwise the configuration in force
is restored, ports and links start, and pending work resumes. A standalone unit reaches step 10 at once (R35). DEDUCED (log 28). -/
def execConfigJournalReplay (candidate : Bool) (torn : Nat) (s : State) : Res :=
  .next (if !s.sys.reached 7 || s.sys.reached 8 || s.sys.romRecovery then s
  else if !candidate then s.enterRom
  else
    let s1 := s.modJnl fun j => { j with conf := { j.conf with torn } }
    let s2 := s1.bootOn.each (n := 8) fun p t => (t.followEnable p).rebuildPort p
    let s3 := s2.each (n := 2) fun l t =>
      if ix s.cfg.pmEnable l then t.modPmLink l fun k => { k with state := .training } else t
    let s4 := ((s3.chainApplied false).resumeActivation.reach 8).readSafety
    (if s4.chainOn then s4 else s4.reach 10).availAll)

end Sys2Proof.Machine
end

