-- ==== Sys2Proof/Machine/SesCmds.lean ====
section
/-! DEFINITION. The commands of group 0x11, sessions (spec 07 R157 to R161, R174, R178 to R180). -/

namespace Sys2Proof.Machine

def execGetSessionStatus (r : Req) (s : State) : Res := .next (s.answer r Code.done (s.sesBlock r.guest r.port))

/-- GET_SESSION_SUMMARY. ID_TAG is zero where no identifier is recorded. DESIGN CHOICE (log 186). -/
def execGetSessionSummary (r : Req) (s : State) : Res :=
  let p := r.port
  let x := s.sesAt p
  let live := x.state.inSession
  let d := x.decision
  let closed := match (s.bilAt p).ses with
    | some b => b.closed / 51200
    | none => x.closedS
  let tag := match d with
    | some e => if e.ident.isEmpty then List.replicate 8 0 else (beBytes 48 (Config.sha384 e.ident)).take 8
    | none => List.replicate 8 0
  let ref := (d.map (·.hostRef)).getD 0
  .next (s.answer r Code.done ([w32 x.sesNo,
    pack [(27, 26, x.endClass), (23, 16, x.endCause), (15, 13, (d.map (·.source)).getD 0), (12, 12, b1 ((d.map (·.billed)).getD false)),
      (10, 10, b1 live), (8, 8, b1 (x.overE != 0)), (7, 7, b1 x.rampTimeout), (6, 6, b1 x.escalated)]] ++
    pair48 x.imp ++ pair48 x.exp ++ [w32 ref, w32 (ref / 2 ^ 32), pack [(23, 0, if live then s.elapsed p else min 0xFFFFFF x.openS)],
    pack [(23, 0, min 0xFFFFFF closed)]] ++ pair48 x.overE ++ bytesToWords tag))

/-- The decision that an AUTHORISE_SESSION states. -/
def State.decisionOf (s : State) (r : Req) : Decision :=
  let source := r.fld 3 2 0
  { source, billed := r.bit 3 9, hostRef := (r.word 4).toNat + 2 ^ 32 * (r.word 5).toNat, creditE := r.nat48 6
    creditT := r.fld 8 23 0, ident := if source = 2 then (s.vehAt r.port).contract.emaid else r.bytes 9 16 }

/-- A credit or a source outside its range (R179, R180). -/
def Decision.badRange (d : Decision) : Bool :=
  !inRange 1 4 d.source || (d.creditE != 0 && d.creditE < 1000) || (d.creditT != 0 && !inRange 60 604800 d.creditT) ||
    (d.source == 4 && d.creditE == 0 && d.creditT == 0)

/-- AUTHORISE_SESSION (R157, R159, R160, R180). On a plugged port the decision is held for the identification point; one in
BASIC has reached it. DEDUCED (log 54). -/
def execAuthoriseSession (r : Req) (s : State) : Res :=
  let p := r.port
  let x := s.sesAt p
  let d := s.decisionOf r
  .next (if s.retired then s.answer r Code.refused [0, w32 (s.avail p)]
  else if s.saf.state == .init || s.legal.state == .starting || s.safetySwap then s.answer r Code.busy
  else if !(s.portCfg p).enable || !(x.state == .idle || x.state == .plugged || x.state == .authorising) || x.preauth.isSome ||
      x.openReq then s.answer r Code.wrongState
  else if d.badRange then s.answer r Code.outOfRange
  else if !r.bit 3 8 then (if x.state == .authorising then s.reject p else s).answer r Code.done [0]
  else if d.source == 2 && !(s.vehAt p).contract.ready then s.answer r Code.refused [0, w32 (s.avail p)]
  else match s.judge p (some d) with
  | some code => s.answer r code (if code = Code.refused then [0, w32 (s.avail p)] else [])
  | none =>
    if x.state == .authorising then s.openWith p d (some r)
    else if (s.vehAt p).link == .basic then ((s.sesTo p .authorising).sesRaise p 1).openWith p d (some r)
    else (s.modSes p fun y => { y with preauth := some (d, r.guest) }).answer r Code.done [0])

/-- ADD_CREDIT (R174). -/
def execAddCredit (r : Req) (s : State) : Res :=
  let p := r.port
  let addE := r.nat48 3
  let addT := r.fld 5 23 0
  .next (match (s.bilAt p).ses with
  | none => s.answer r Code.wrongState
  | some b =>
    if b.out || !(s.sesAt p).sesOpen then s.answer r Code.wrongState
    else if (addE != 0 && b.creditE = 0) || (addT != 0 && b.creditT = 0) || 2 ^ 48 ≤ b.creditE + addE ||
        604800 < b.creditT + addT then s.answer r Code.outOfRange
    else
      let e := b.creditE + addE
      let t := b.creditT + addT
      let warned := b.warned && 9 * e ≤ 10 * (s.nrgAt p).sesImp
      let warnedT := b.warnedT && 9 * t ≤ 10 * ((s.legal.proc - b.nOpen) / 51200)
      let s1 := (s.modBil p fun y => { y with ses := some { b with creditE := e, creditT := t, warned, warnedT } }).modSes p fun y => { y with
        warnE := warned, warnT := warnedT }
      let left := s1.creditLeft p
      s1.answer r Code.done (pair48 left.1 ++ [pack [(23, 0, left.2.1)]]))

/-- STOP_SESSION (R180). DEDUCED (log 70). -/
def execStopSession (r : Req) (s : State) : Res :=
  let p := r.port
  let x := s.sesAt p
  .next (if x.state.inSession then ((s.accept r).modSes p fun y => { y with stopCmds := y.stopCmds ++ [r] }).endSession p 0x02
  else if x.state == .authorising then
    let s1 := match x.authCmd with
      | some q => s.answer q Code.wrongState
      | none => s
    ((s1.modSes p fun y => { y with authCmd := none }).reject p).answer r Code.done
  else if x.preauth.isSome then (s.modSes p fun y => { y with preauth := none }).answer r Code.done
  else s.answer r Code.wrongState)

/-- CLEAR_FAULT (R162, R166). DEDUCED (log 60). -/
def execClearFault (r : Req) (s : State) : Res :=
  let p := r.port
  .next (if (s.sesAt p).state != .faulted then s.answer r Code.wrongState
  else if s.blkContactor p then s.answer r Code.refused
  else (((s.sesTo p (if (s.vehAt p).link.inUse then .ended else .idle)).runDeferred p).availPoll p).answer r Code.done)

end Sys2Proof.Machine
end

