-- ==== Sys2Proof/Machine/VehCmds.lean ====
section
/-! DEFINITION. The commands of group 0x10, vehicle ports (spec 06 R150, R152 to R154). -/

namespace Sys2Proof.Machine

def execGetPortStatus (r : Req) (s : State) : Res := .next (s.answer r Code.done (s.vpBlock r.guest r.port))

def execGetVehicleInfo (r : Req) (s : State) : Res :=
  let x := s.vehAt r.port
  let c := x.contract
  let lim (n : Nat) : Word := pack [(23, 0, min 0xFFFFFF n)]
  .next (s.answer r Code.done (pair48 x.evccid ++ [lim x.evVmax, lim x.evImax, lim x.evPmax,
    wInt (satInt 24 x.evPdis), pack [(3, 0, x.protocol), (7, 4, x.mode), (8, 8, b1 x.dynamic)]] ++
    bytesToWords (padTo 20 c.emaid) ++
    [pack [(0, 0, b1 c.chainOk), (1, 1, b1 c.sigOk), (2, 2, b1 c.usageOk), (3, 3, b1 c.expired), (4, 4, b1 c.timeUnchecked),
      (13, 8, c.root)], w32 c.tag]))

/-- The modem's counts of a link that is up are brought up to date: frames and, on PLC, retransmissions since the last look are
free, for no event tells of one; each retransmission is an occurrence of 0x0D (R81, R153). DESIGN CHOICE (log 69). -/
def State.updateStats (s : State) (p : Port) : State :=
  let up := (s.vehAt p).link == .linked || (s.vehAt p).link == .connected
  if !up then s
  else
    let more (k : Nat) : Nat := Config.freeNat (s.free + k) % 2 ^ 32
    let n := if s.isT1s p then 0 else more 2
    (((s.useFree.useFree.useFree).modVeh p fun x => { x with stats := {
      tx := (x.stats.tx + more 0) % 2 ^ 32, rx := (x.stats.rx + more 1) % 2 ^ 32, retrans := (x.stats.retrans + n) % 2 ^ 32 } }).countPort
        p 0x0D n)

/-- GET_LINK_STATS. The signal-to-noise ratio that a modem measures is free, and UP_S is 0 while no link is up. DESIGN CHOICE (log 69, 212). -/
def execGetLinkStats (r : Req) (s : State) : Res :=
  let p := r.port
  let t := s.updateStats p
  let x := t.vehAt p
  let up := x.link == .linked || x.link == .connected
  let snr := if s.isT1s p then 0 else Config.freeNat t.free % 256
  .next ((t.useFree).answer r Code.done (pair48 (Config.portMac p.1 % 2 ^ 48) ++ [w32 x.stats.tx, w32 x.stats.rx, w32 x.stats.retrans,
      pack [(7, 0, snr), (15, 8, min 255 x.slac.atten)],
      pack [(23, 0, if up then min 0xFFFFFF ((s.time.chain - x.linkUpAt) / 1000000000) else 0)]]))

/-- GET_CERT_REQUEST: the claimant that reads a request holds the newest. DESIGN CHOICE (log 68). -/
def execGetCertRequest (r : Req) (s : State) : Res :=
  let c := (s.vehAt r.port).cert
  .next (if !c.pending || c.late then s.answer r Code.wrongState
  else (s.modVeh r.port fun x => { x with cert := { x.cert with replaced := false } }).answerRing r (r.fld 3 2 0) c.body
    [pack [(15, 0, c.body.length)]])

/-- CLAIM_PORT. By the guest that already holds the claim it is DONE, with WAS_CLAIMED and the guest itself as PREV. DESIGN CHOICE (log 194). -/
def execClaimPort (r : Req) (s : State) : Res :=
  let p := r.port
  let c := ix s.host.claim p
  let was : Word := pack [(3, 0, (c.map (·.1)).getD 0), (4, 4, b1 c.isSome)]
  let take (t : State) : State := (t.modHost fun h => { h with claim := upd h.claim p fun _ => some r.guest }).service 3 p.1 (1 + r.guest.1)
  .next (if r.bit 3 0 && !r.fromSystem then s.answer r Code.refused
  else match c with
  | none => (take s).answer r Code.done [was]
  | some g =>
    if g = r.guest then s.answer r Code.done [was]
    else if r.bit 3 0 then (take (s.endClaim p)).answer r Code.done [was]
    else s.answer r Code.wrongState)

def execReleasePort (r : Req) (s : State) : Res := .next ((s.endClaim r.port).answer r Code.done)

def execSetAcCurrent (r : Req) (s : State) : Res :=
  let p := r.port
  let c := r.fld 3 9 0
  .next (if !s.isAc p || (s.vehAt p).link != .basic then s.answer r Code.wrongState
  else if c != 0 && !inRange 60 630 c then s.answer r Code.outOfRange
  else
    let s1 := ((s.modVeh p fun x => { x with acCmd := some c }).refreshPwm p).wantChanged p
    s1.answer r Code.done [pack [(9, 0, s1.advertised p), (25, 16, (s1.vehAt p).cp.drive.duty)]])

/-- DRIVE_LOCK: for service use between sessions; a drive in progress is finished first. DEDUCED (log 65). -/
def execDriveLock (r : Req) (s : State) : Res :=
  let p := r.port
  let lock := r.bit 3 0
  .next (if (s.sesAt p).state.inSession || !(s.portCfg p).lockPresent || (s.vehAt p).lock.phase != .idle then
    s.answer r Code.wrongState
  else if !lock && !s.openOk p then s.answer r Code.refused
  else (s.accept r).startLock p lock (some r))

def execResetPort (r : Req) (s : State) : Res :=
  let p := r.port
  .next (if (s.sesAt p).state.inSession then
    ((s.accept r).modVeh p fun x => { x with resetCmds := x.resetCmds ++ [r] }).resetPort p 0x21
  else (s.portReset p).answer r Code.done)

/-- The reply is sent to the vehicle: the body of at most 16 KiB, or failure. A longer body is out of range, and the ring stays
as it was; the spec gives only the maximum. DESIGN CHOICE (log 68). -/
def execCertExchangeReply (r : Req) (s : State) : Res :=
  let p := r.port
  let c := (s.vehAt p).cert
  let clear (t : State) : State := t.modVeh p fun x => { x with cert := {} }
  .next (if !c.pending then s.answer r Code.wrongState
  else if c.replaced then (s.modVeh p fun x => { x with cert := { x.cert with replaced := false } }).answer r Code.wrongState
  else if c.late then (clear s).answer r Code.timeout
  else if r.bit 3 8 then ((clear s).sayVehicle p 3 0).answer r Code.done
  else
    let ring := r.fld 3 2 0
    let d := s.withRing r ring
    if !d.ringOk then s.endRing d ring Code.shortBuffer
    else if 16384 < d.ringIn.length then s.answer r Code.outOfRange
    else ((clear s).emit (.certResponse p d.ringIn)).endRing d ring Code.done)

end Sys2Proof.Machine
end

