-- ==== Sys2Proof/Machine/Dispatch.lean ====
section
/-! DEFINITION. One arm per command, each a direct call of its meaning. -/

namespace Sys2Proof.Machine

def exec (i : Instr) (s : State) : Host.Outcome State Fault Refusal :=
  match i with
  | .mbxGo path g n => Sys2Proof.Machine.execMbxGo path g n s
  | .messageFetch g n => Sys2Proof.Machine.execMessageFetch g n s
  | .commandStart g q => Sys2Proof.Machine.execCommandStart g q s
  | .commandComplete g q => Sys2Proof.Machine.execCommandComplete g q s
  | .responseToMailbox path g => Sys2Proof.Machine.execResponseToMailbox path g s
  | .mbxResponseRead path g n => Sys2Proof.Machine.execMbxResponseRead path g n s
  | .mbxAbortClear path g n => Sys2Proof.Machine.execMbxAbortClear path g n s
  | .finalNotice g => Sys2Proof.Machine.execFinalNotice g s
  | .registerWrite path g off v => Sys2Proof.Machine.execRegisterWrite path g off v s
  | .pairLowRead g off => Sys2Proof.Machine.execPairLowRead g off s
  | .glnLowWordRead off => Sys2Proof.Machine.execGlnLowWordRead off s
  | .accessViolation path g off write be shape => Sys2Proof.Machine.execAccessViolation path g off write be shape s
  | .poisonedTlp g => Sys2Proof.Machine.execPoisonedTlp g s
  | .numvfsWrite n => Sys2Proof.Machine.execNumvfsWrite n s
  | .vfEnableClear => Sys2Proof.Machine.execVfEnableClear s
  | .flr g => Sys2Proof.Machine.execFlr g s
  | .perstAssert => Sys2Proof.Machine.execPerstAssert s
  | .hostLinkDown => Sys2Proof.Machine.execHostLinkDown s
  | .hostLinkTrained => Sys2Proof.Machine.execHostLinkTrained s
  | .sysGuestHbWrite path g => Sys2Proof.Machine.execSysGuestHbWrite path g s
  | .heartbeatExpiry g => Sys2Proof.Machine.execHeartbeatExpiry g s
  | .guestReset g => Sys2Proof.Machine.execGuestReset g s
  | .irqStatusClear path g bits => Sys2Proof.Machine.execIrqStatusClear path g bits s
  | .irqArm path g => Sys2Proof.Machine.execIrqArm path g s
  | .msixVectorUnmask g v => Sys2Proof.Machine.execMsixVectorUnmask g v s
  | .sysViolClr g => Sys2Proof.Machine.execSysViolClr g s
  | .pfcSnap g => Sys2Proof.Machine.execPfcSnap g s
  | .pfcChipSnap g => Sys2Proof.Machine.execPfcChipSnap g s
  | .pfcFreeze g on => Sys2Proof.Machine.execPfcFreeze g on s
  | .pfcPreset g c v => Sys2Proof.Machine.execPfcPreset g c v s
  | .pfcOvfClear g bits => Sys2Proof.Machine.execPfcOvfClear g bits s
  | .queDbH2d g bits => Sys2Proof.Machine.execQueDbH2d g bits s
  | .queDbD2hClear g bits => Sys2Proof.Machine.execQueDbD2hClear g bits s
  | .txnTimeout g => Sys2Proof.Machine.execTxnTimeout g s
  | .vpEventRead path g p => Sys2Proof.Machine.execVpEventRead path g p s
  | .sesEventRead path g p => Sys2Proof.Machine.execSesEventRead path g p s
  | .pwrEventRead path g p => Sys2Proof.Machine.execPwrEventRead path g p s
  | .metEventRead path g p => Sys2Proof.Machine.execMetEventRead path g p s
  | .nrgEventRead path g p => Sys2Proof.Machine.execNrgEventRead path g p s
  | .bilEventRead path g p => Sys2Proof.Machine.execBilEventRead path g p s
  | .bilUnitEventRead path g => Sys2Proof.Machine.execBilUnitEventRead path g s
  | .pqEventRead path g p => Sys2Proof.Machine.execPqEventRead path g p s
  | .pqSiteEventRead path g => Sys2Proof.Machine.execPqSiteEventRead path g s
  | .safSiteEventRead path g => Sys2Proof.Machine.execSafSiteEventRead path g s
  | .safEventRead path g p => Sys2Proof.Machine.execSafEventRead path g p s
  | .imdEventRead path g p => Sys2Proof.Machine.execImdEventRead path g p s
  | .brkEventRead path g => Sys2Proof.Machine.execBrkEventRead path g s
  | .lsEventRead path g => Sys2Proof.Machine.execLsEventRead path g s
  | .chnEventRead path g => Sys2Proof.Machine.execChnEventRead path g s
  | .mshEventRead path g => Sys2Proof.Machine.execMshEventRead path g s
  | .jnlEventRead path g => Sys2Proof.Machine.execJnlEventRead path g s
  | .cavEventRead path g => Sys2Proof.Machine.execCavEventRead path g s
  | .keyEventRead path g => Sys2Proof.Machine.execKeyEventRead path g s
  | .updEventRead path g => Sys2Proof.Machine.execUpdEventRead path g s
  | .nfcEventRead path g => Sys2Proof.Machine.execNfcEventRead path g s
  | .dspEventRead path g => Sys2Proof.Machine.execDspEventRead path g s
  | .getDeviceInfo r => Sys2Proof.Machine.execGetDeviceInfo r s
  | .getImageDigest r => Sys2Proof.Machine.execGetImageDigest r s
  | .echo r => Sys2Proof.Machine.execEcho r s
  | .getConfigState r => Sys2Proof.Machine.execGetConfigState r s
  | .beginConfig r => Sys2Proof.Machine.execBeginConfig r s
  | .commitConfig r => Sys2Proof.Machine.execCommitConfig r s
  | .abortConfig r => Sys2Proof.Machine.execAbortConfig r s
  | .setTrefMode r => Sys2Proof.Machine.execSetTrefMode r s
  | .acceptTrefPhase r => Sys2Proof.Machine.execAcceptTrefPhase r s
  | .requestSiteSleep r => Sys2Proof.Machine.execRequestSiteSleep r s
  | .resetChip r => Sys2Proof.Machine.execResetChip r s
  | .getCommandCost r => Sys2Proof.Machine.execGetCommandCost r s
  | .getQueueState r => Sys2Proof.Machine.execGetQueueState r s
  | .setQueueRange r => Sys2Proof.Machine.execSetQueueRange r s
  | .getGuestConfig r => Sys2Proof.Machine.execGetGuestConfig r s
  | .setGuestCaps r => Sys2Proof.Machine.execSetGuestCaps r s
  | .setGuestQos r => Sys2Proof.Machine.execSetGuestQos r s
  | .setGuestHeartbeat r => Sys2Proof.Machine.execSetGuestHeartbeat r s
  | .setGlnBind r => Sys2Proof.Machine.execSetGlnBind r s
  | .resetGuest r => Sys2Proof.Machine.execResetGuest r s
  | .relayMessage r => Sys2Proof.Machine.execRelayMessage r s
  | .getPortStatus r => Sys2Proof.Machine.execGetPortStatus r s
  | .getVehicleInfo r => Sys2Proof.Machine.execGetVehicleInfo r s
  | .getLinkStats r => Sys2Proof.Machine.execGetLinkStats r s
  | .getCertRequest r => Sys2Proof.Machine.execGetCertRequest r s
  | .claimPort r => Sys2Proof.Machine.execClaimPort r s
  | .releasePort r => Sys2Proof.Machine.execReleasePort r s
  | .setPortConfig r => Sys2Proof.Machine.execSetPortConfig r s
  | .setAcCurrent r => Sys2Proof.Machine.execSetAcCurrent r s
  | .driveLock r => Sys2Proof.Machine.execDriveLock r s
  | .resetPort r => Sys2Proof.Machine.execResetPort r s
  | .loadTrustAnchor r => Sys2Proof.Machine.execLoadTrustAnchor r s
  | .certExchangeReply r => Sys2Proof.Machine.execCertExchangeReply r s
  | .getSessionStatus r => Sys2Proof.Machine.execGetSessionStatus r s
  | .getSessionSummary r => Sys2Proof.Machine.execGetSessionSummary r s
  | .authoriseSession r => Sys2Proof.Machine.execAuthoriseSession r s
  | .addCredit r => Sys2Proof.Machine.execAddCredit r s
  | .stopSession r => Sys2Proof.Machine.execStopSession r s
  | .clearFault r => Sys2Proof.Machine.execClearFault r s
  | .setSessionConfig r => Sys2Proof.Machine.execSetSessionConfig r s
  | .getPowerStatus r => Sys2Proof.Machine.execGetPowerStatus r s
  | .getLeaseStatus r => Sys2Proof.Machine.execGetLeaseStatus r s
  | .getConverterLimits r => Sys2Proof.Machine.execGetConverterLimits r s
  | .getPmLinkStats r => Sys2Proof.Machine.execGetPmLinkStats r s
  | .setPowerConfig r => Sys2Proof.Machine.execSetPowerConfig r s
  | .setPortLimit r => Sys2Proof.Machine.execSetPortLimit r s
  | .setLeaseConfig r => Sys2Proof.Machine.execSetLeaseConfig r s
  | .setSitePower r => Sys2Proof.Machine.execSetSitePower r s
  | .setPmLinkConfig r => Sys2Proof.Machine.execSetPmLinkConfig r s
  | .reduceSitePower r => Sys2Proof.Machine.execReduceSitePower r s
  | .getMetrologyStatus r => Sys2Proof.Machine.execGetMetrologyStatus r s
  | .getChannelReading r => Sys2Proof.Machine.execGetChannelReading r s
  | .getVerification r => Sys2Proof.Machine.execGetVerification r s
  | .getHeadInfo r => Sys2Proof.Machine.execGetHeadInfo r s
  | .getCalCoeff r => Sys2Proof.Machine.execGetCalCoeff r s
  | .setMetrologyConfig r => Sys2Proof.Machine.execSetMetrologyConfig r s
  | .beginCalibration r => Sys2Proof.Machine.execBeginCalibration r s
  | .setCalCoeff r => Sys2Proof.Machine.execSetCalCoeff r s
  | .calMeasure r => Sys2Proof.Machine.execCalMeasure r s
  | .endCalibration r => Sys2Proof.Machine.execEndCalibration r s
  | .abortCalibration r => Sys2Proof.Machine.execAbortCalibration r s
  | .getEnergyStatus r => Sys2Proof.Machine.execGetEnergyStatus r s
  | .getRegisters r => Sys2Proof.Machine.execGetRegisters r s
  | .getAccumulator r => Sys2Proof.Machine.execGetAccumulator r s
  | .getSupplyStatus r => Sys2Proof.Machine.execGetSupplyStatus r s
  | .setEnergyConfig r => Sys2Proof.Machine.execSetEnergyConfig r s
  | .setPulseInput r => Sys2Proof.Machine.execSetPulseInput r s
  | .setSupplyConfig r => Sys2Proof.Machine.execSetSupplyConfig r s
  | .setPulseSource r => Sys2Proof.Machine.execSetPulseSource r s
  | .runCrossCheck r => Sys2Proof.Machine.execRunCrossCheck r s
  | .getBillingStatus r => Sys2Proof.Machine.execGetBillingStatus r s
  | .getChainHead r => Sys2Proof.Machine.execGetChainHead r s
  | .getSessionRecord r => Sys2Proof.Machine.execGetSessionRecord r s
  | .getSealStatus r => Sys2Proof.Machine.execGetSealStatus r s
  | .getLegalPubkey r => Sys2Proof.Machine.execGetLegalPubkey r s
  | .setBillingConfig r => Sys2Proof.Machine.execSetBillingConfig r s
  | .setTariffSchedule r => Sys2Proof.Machine.execSetTariffSchedule r s
  | .switchTariff r => Sys2Proof.Machine.execSwitchTariff r s
  | .setWallClock r => Sys2Proof.Machine.execSetWallClock r s
  | .getSealChallenge r => Sys2Proof.Machine.execGetSealChallenge r s
  | .reseal r => Sys2Proof.Machine.execReseal r s
  | .getOpticalStatus r => Sys2Proof.Machine.execGetOpticalStatus r s
  | .setOpticalConfig r => Sys2Proof.Machine.execSetOpticalConfig r s
  | .getPqStatus r => Sys2Proof.Machine.execGetPqStatus r s
  | .getTamperStatus r => Sys2Proof.Machine.execGetTamperStatus r s
  | .getPqEvents r => Sys2Proof.Machine.execGetPqEvents r s
  | .getTamperRecord r => Sys2Proof.Machine.execGetTamperRecord r s
  | .setPqConfig r => Sys2Proof.Machine.execSetPqConfig r s
  | .getSafetyStatus r => Sys2Proof.Machine.execGetSafetyStatus r s
  | .getPortSafety r => Sys2Proof.Machine.execGetPortSafety r s
  | .getTripLog r => Sys2Proof.Machine.execGetTripLog r s
  | .getSafetyTableInfo r => Sys2Proof.Machine.execGetSafetyTableInfo r s
  | .resetTrip r => Sys2Proof.Machine.execResetTrip r s
  | .requestSafetyRestart r => Sys2Proof.Machine.execRequestSafetyRestart r s
  | .requestSafeOut r => Sys2Proof.Machine.execRequestSafeOut r s
  | .getEarthStatus r => Sys2Proof.Machine.execGetEarthStatus r s
  | .getImdGroup r => Sys2Proof.Machine.execGetImdGroup r s
  | .runInsulationSelftest r => Sys2Proof.Machine.execRunInsulationSelftest r s
  | .getActuatorStatus r => Sys2Proof.Machine.execGetActuatorStatus r s
  | .runWeldTest r => Sys2Proof.Machine.execRunWeldTest r s
  | .runBrakeTest r => Sys2Proof.Machine.execRunBrakeTest r s
  | .releaseBrake r => Sys2Proof.Machine.execReleaseBrake r s
  | .applyBrake r => Sys2Proof.Machine.execApplyBrake r s
  | .getLsStatus r => Sys2Proof.Machine.execGetLsStatus r s
  | .getLsChannel r => Sys2Proof.Machine.execGetLsChannel r s
  | .getLkStatus r => Sys2Proof.Machine.execGetLkStatus r s
  | .setLsOutput r => Sys2Proof.Machine.execSetLsOutput r s
  | .clearLsFault r => Sys2Proof.Machine.execClearLsFault r s
  | .setLsConfig r => Sys2Proof.Machine.execSetLsConfig r s
  | .setLsSupplyConfig r => Sys2Proof.Machine.execSetLsSupplyConfig r s
  | .setLkConfig r => Sys2Proof.Machine.execSetLkConfig r s
  | .getChainStatus r => Sys2Proof.Machine.execGetChainStatus r s
  | .getChainMembers r => Sys2Proof.Machine.execGetChainMembers r s
  | .getLinkCounters r => Sys2Proof.Machine.execGetLinkCounters r s
  | .getMirroredEvents r => Sys2Proof.Machine.execGetMirroredEvents r s
  | .setChainConfig r => Sys2Proof.Machine.execSetChainConfig r s
  | .removeUnit r => Sys2Proof.Machine.execRemoveUnit r s
  | .sendTripAdvice r => Sys2Proof.Machine.execSendTripAdvice r s
  | .clearLinkCounters r => Sys2Proof.Machine.execClearLinkCounters r s
  | .getMeshStatus r => Sys2Proof.Machine.execGetMeshStatus r s
  | .getMeshNeighbours r => Sys2Proof.Machine.execGetMeshNeighbours r s
  | .getToneMap r => Sys2Proof.Machine.execGetToneMap r s
  | .getPhaseMap r => Sys2Proof.Machine.execGetPhaseMap r s
  | .setMeshConfig r => Sys2Proof.Machine.execSetMeshConfig r s
  | .setCoexMask r => Sys2Proof.Machine.execSetCoexMask r s
  | .clearMeshCounters r => Sys2Proof.Machine.execClearMeshCounters r s
  | .getJournalStatus r => Sys2Proof.Machine.execGetJournalStatus r s
  | .getCaveStatus r => Sys2Proof.Machine.execGetCaveStatus r s
  | .findCaveRecord r => Sys2Proof.Machine.execFindCaveRecord r s
  | .readWaveform r => Sys2Proof.Machine.execReadWaveform r s
  | .readCaveRaw r => Sys2Proof.Machine.execReadCaveRaw r s
  | .setCaveConfig r => Sys2Proof.Machine.execSetCaveConfig r s
  | .formatCave r => Sys2Proof.Machine.execFormatCave r s
  | .markWindow r => Sys2Proof.Machine.execMarkWindow r s
  | .getKeyStatus r => Sys2Proof.Machine.execGetKeyStatus r s
  | .getSlotInfo r => Sys2Proof.Machine.execGetSlotInfo r s
  | .getPublicKey r => Sys2Proof.Machine.execGetPublicKey r s
  | .getAttestation r => Sys2Proof.Machine.execGetAttestation r s
  | .getAuditLog r => Sys2Proof.Machine.execGetAuditLog r s
  | .generateKey r => Sys2Proof.Machine.execGenerateKey r s
  | .importKey r => Sys2Proof.Machine.execImportKey r s
  | .exportKey r => Sys2Proof.Machine.execExportKey r s
  | .deleteKey r => Sys2Proof.Machine.execDeleteKey r s
  | .signDigest r => Sys2Proof.Machine.execSignDigest r s
  | .verifySignature r => Sys2Proof.Machine.execVerifySignature r s
  | .openKeySession r => Sys2Proof.Machine.execOpenKeySession r s
  | .closeKeySession r => Sys2Proof.Machine.execCloseKeySession r s
  | .setRtcAlarm r => Sys2Proof.Machine.execSetRtcAlarm r s
  | .renewRoot r => Sys2Proof.Machine.execRenewRoot r s
  | .retireDevice r => Sys2Proof.Machine.execRetireDevice r s
  | .getUpdateStatus r => Sys2Proof.Machine.execGetUpdateStatus r s
  | .beginStaging r => Sys2Proof.Machine.execBeginStaging r s
  | .abortStaging r => Sys2Proof.Machine.execAbortStaging r s
  | .scheduleActivation r => Sys2Proof.Machine.execScheduleActivation r s
  | .cancelActivation r => Sys2Proof.Machine.execCancelActivation r s
  | .setUpdateConfig r => Sys2Proof.Machine.execSetUpdateConfig r s
  | .getNfcStatus r => Sys2Proof.Machine.execGetNfcStatus r s
  | .setNfcConfig r => Sys2Proof.Machine.execSetNfcConfig r s
  | .transceiveApdu r x => Sys2Proof.Machine.execTransceiveApdu r x s
  | .releaseCard r => Sys2Proof.Machine.execReleaseCard r s
  | .setTagPublic r => Sys2Proof.Machine.execSetTagPublic r s
  | .setTagSecrets r => Sys2Proof.Machine.execSetTagSecrets r s
  | .resetTagLock r => Sys2Proof.Machine.execResetTagLock r s
  | .getDisplayStatus r => Sys2Proof.Machine.execGetDisplayStatus r s
  | .setDisplayConfig r => Sys2Proof.Machine.execSetDisplayConfig r s
  | .loadOverdrive r => Sys2Proof.Machine.execLoadOverdrive r s
  | .updateRegion r => Sys2Proof.Machine.execUpdateRegion r s
  | .setPanelPower r => Sys2Proof.Machine.execSetPanelPower r s
  | .selectLegalView r => Sys2Proof.Machine.execSelectLegalView r s
  | .powerOnReset cause => Sys2Proof.Machine.execPowerOnReset cause s
  | .porRelease => Sys2Proof.Machine.execPorRelease s
  | .safetyInitDone outcome => Sys2Proof.Machine.execSafetyInitDone outcome s
  | .legalStartDone verified candidate torn => Sys2Proof.Machine.execLegalStartDone verified candidate torn s
  | .serviceImageStart verified => Sys2Proof.Machine.execServiceImageStart verified s
  | .configJournalReplay candidate torn => Sys2Proof.Machine.execConfigJournalReplay candidate torn s
  | .chainJoinDone => Sys2Proof.Machine.execChainJoinDone s
  | .chipReset => Sys2Proof.Machine.execChipReset s
  | .serviceWatchdogExpiry => Sys2Proof.Machine.execServiceWatchdogExpiry s
  | .eccUncorrectable => Sys2Proof.Machine.execEccUncorrectable s
  | .clockDeviation => Sys2Proof.Machine.execClockDeviation s
  | .sleepAnswerTimeout => Sys2Proof.Machine.execSleepAnswerTimeout s
  | .sleepPointOfNoReturn => Sys2Proof.Machine.execSleepPointOfNoReturn s
  | .dozeEntry => Sys2Proof.Machine.execDozeEntry s
  | .dozeWake src => Sys2Proof.Machine.execDozeWake src s
  | .trefPpsEdge off rate => Sys2Proof.Machine.execTrefPpsEdge off rate s
  | .trefPpsTimeout => Sys2Proof.Machine.execTrefPpsTimeout s
  | .tref10mLoss => Sys2Proof.Machine.execTref10mLoss s
  | .rateFaultClear => Sys2Proof.Machine.execRateFaultClear s
  | .cpPeriod p hi lo => Sys2Proof.Machine.execCpPeriod p hi lo s
  | .cpInvalidTimeout p => Sys2Proof.Machine.execCpInvalidTimeout p s
  | .ppMeasurement p ohm => Sys2Proof.Machine.execPpMeasurement p ohm s
  | .cmSlacParmReq p run mac => Sys2Proof.Machine.execCmSlacParmReq p run mac s
  | .cmStartAttenChar p run => Sys2Proof.Machine.execCmStartAttenChar p run s
  | .cmMnbcSound p run dB => Sys2Proof.Machine.execCmMnbcSound p run dB s
  | .soundingComplete run => Sys2Proof.Machine.execSoundingComplete run s
  | .cmValidate p run ok => Sys2Proof.Machine.execCmValidate p run ok s
  | .cmSlacMatchReq p run => Sys2Proof.Machine.execCmSlacMatchReq p run s
  | .cmSetKeyCnf p => Sys2Proof.Machine.execCmSetKeyCnf p s
  | .slacTimerExpiry p => Sys2Proof.Machine.execSlacTimerExpiry p s
  | .slacInitTimeout p => Sys2Proof.Machine.execSlacInitTimeout p s
  | .linkRetryEnd p => Sys2Proof.Machine.execLinkRetryEnd p s
  | .basicFallbackEnd p => Sys2Proof.Machine.execBasicFallbackEnd p s
  | .t1sFirstFrame p linkLocal mac => Sys2Proof.Machine.execT1sFirstFrame p linkLocal mac s
  | .sdpRequest p tls => Sys2Proof.Machine.execSdpRequest p tls s
  | .supportedAppProtocol p offers mode dynamic => Sys2Proof.Machine.execSupportedAppProtocol p offers mode dynamic s
  | .tcpClosed p => Sys2Proof.Machine.execTcpClosed p s
  | .protocolSequenceTimeout p => Sys2Proof.Machine.execProtocolSequenceTimeout p s
  | .authorizationReq p => Sys2Proof.Machine.execAuthorizationReq p s
  | .contractChainPresented p chain emaid root chk => Sys2Proof.Machine.execContractChainPresented p chain emaid root chk s
  | .contract p => Sys2Proof.Machine.execContract p s
  | .certInstallRequest p body => Sys2Proof.Machine.execCertInstallRequest p body s
  | .certReplyTimeout p => Sys2Proof.Machine.execCertReplyTimeout p s
  | .cableCheckReq p => Sys2Proof.Machine.execCableCheckReq p s
  | .vehicleTarget p t => Sys2Proof.Machine.execVehicleTarget p t s
  | .vehiclePause p => Sys2Proof.Machine.execVehiclePause p s
  | .vehicleResume p => Sys2Proof.Machine.execVehicleResume p s
  | .vehicleStop p => Sys2Proof.Machine.execVehicleStop p s
  | .lockPulseEnd p => Sys2Proof.Machine.execLockPulseEnd p s
  | .lockFeedbackTimeout p => Sys2Proof.Machine.execLockFeedbackTimeout p s
  | .lockAttemptTimer p => Sys2Proof.Machine.execLockAttemptTimer p s
  | .legalSessionOpen p => Sys2Proof.Machine.execLegalSessionOpen p s
  | .authTimeout p => Sys2Proof.Machine.execAuthTimeout p s
  | .preauthLapsed p => Sys2Proof.Machine.execPreauthLapsed p s
  | .prechargeTimeout p => Sys2Proof.Machine.execPrechargeTimeout p s
  | .rampTimeout p => Sys2Proof.Machine.execRampTimeout p s
  | .pauseLimit p => Sys2Proof.Machine.execPauseLimit p s
  | .linkLostGrace p => Sys2Proof.Machine.execLinkLostGrace p s
  | .selftestDue p code => Sys2Proof.Machine.execSelftestDue p code s
  | .selftestOverdue p => Sys2Proof.Machine.execSelftestOverdue p s
  | .sealedReport p => Sys2Proof.Machine.execSealedReport p s
  | .legalGap p => Sys2Proof.Machine.execLegalGap p s
  | .creditOut p => Sys2Proof.Machine.execCreditOut p s
  | .legalReading p => Sys2Proof.Machine.execLegalReading p s
  | .legalState => Sys2Proof.Machine.execLegalState s
  | .stepInstant p => Sys2Proof.Machine.execStepInstant p s
  | .runAheadReplan p => Sys2Proof.Machine.execRunAheadReplan p s
  | .recallRepeat p => Sys2Proof.Machine.execRecallRepeat p s
  | .pmAck l ch seq w1 w2 => Sys2Proof.Machine.execPmAck l ch seq w1 w2 s
  | .pmStatus l ch seq st => Sys2Proof.Machine.execPmStatus l ch seq st s
  | .pmLimits l ch seq lim => Sys2Proof.Machine.execPmLimits l ch seq lim s
  | .pmFault l ch seq code off => Sys2Proof.Machine.execPmFault l ch seq code off s
  | .pmBadFrame l => Sys2Proof.Machine.execPmBadFrame l s
  | .pmSyncSend l => Sys2Proof.Machine.execPmSyncSend l s
  | .pmRxSilence l => Sys2Proof.Machine.execPmRxSilence l s
  | .pmAckTimeout p => Sys2Proof.Machine.execPmAckTimeout p s
  | .pmLinkRetrain l => Sys2Proof.Machine.execPmLinkRetrain l s
  | .powerEpochStart => Sys2Proof.Machine.execPowerEpochStart s
  | .reportSend => Sys2Proof.Machine.execReportSend s
  | .grantCompute => Sys2Proof.Machine.execGrantCompute s
  | .grantBroadcast => Sys2Proof.Machine.execGrantBroadcast s
  | .report h rep => Sys2Proof.Machine.execReport h rep s
  | .grant h gr => Sys2Proof.Machine.execGrant h gr s
  | .reduce h f seconds => Sys2Proof.Machine.execReduce h f seconds s
  | .reduceReq h limit seconds => Sys2Proof.Machine.execReduceReq h limit seconds s
  | .reduceEnd => Sys2Proof.Machine.execReduceEnd s
  | .sampleFrameSend => Sys2Proof.Machine.execSampleFrameSend s
  | .upstreamFrame l first body crc => Sys2Proof.Machine.execUpstreamFrame l first body crc s
  | .upstreamFrameLate l => Sys2Proof.Machine.execUpstreamFrameLate l s
  | .slLostFramesLimit l => Sys2Proof.Machine.execSlLostFramesLimit l s
  | .slGoodFrameRun l => Sys2Proof.Machine.execSlGoodFrameRun l s
  | .slTrainingTimeout l => Sys2Proof.Machine.execSlTrainingTimeout l s
  | .slStallTimeout l => Sys2Proof.Machine.execSlStallTimeout l s
  | .headRegistersRead l regs => Sys2Proof.Machine.execHeadRegistersRead l regs s
  | .headPoll l order => Sys2Proof.Machine.execHeadPoll l order s
  | .sampleProcess n => Sys2Proof.Machine.execSampleProcess n s
  | .pqSubstitutedRefresh src ch => Sys2Proof.Machine.execPqSubstitutedRefresh src ch s
  | .tamperPersistence p kind => Sys2Proof.Machine.execTamperPersistence p kind s
  | .pilotWindowEnd p w => Sys2Proof.Machine.execPilotWindowEnd p w s
  | .verifySuspendTimeout p path => Sys2Proof.Machine.execVerifySuspendTimeout p path s
  | .legalClockWindow dev => Sys2Proof.Machine.execLegalClockWindow dev s
  | .calMeasureDurationEnd p => Sys2Proof.Machine.execCalMeasureDurationEnd p s
  | .calMeasureTimeout p => Sys2Proof.Machine.execCalMeasureTimeout p s
  | .pilotCaptureDone p => Sys2Proof.Machine.execPilotCaptureDone p s
  | .pilotCaptureTimeout p => Sys2Proof.Machine.execPilotCaptureTimeout p s
  | .latch p => Sys2Proof.Machine.execLatch p s
  | .substitutedCycle p => Sys2Proof.Machine.execSubstitutedCycle p s
  | .dcTickTimeout p => Sys2Proof.Machine.execDcTickTimeout p s
  | .closeNotice p => Sys2Proof.Machine.execCloseNotice p s
  | .openConfirmation p => Sys2Proof.Machine.execOpenConfirmation p s
  | .billingStop p => Sys2Proof.Machine.execBillingStop p s
  | .pulseOutputEmit p => Sys2Proof.Machine.execPulseOutputEmit p s
  | .pulseInputEdge k high => Sys2Proof.Machine.execPulseInputEdge k high s
  | .crossCheckTimeout k => Sys2Proof.Machine.execCrossCheckTimeout k s
  | .supplyFailTrip => Sys2Proof.Machine.execSupplyFailTrip s
  | .pfwAssert => Sys2Proof.Machine.execPfwAssert s
  | .earlyWarningSaveRepeat => Sys2Proof.Machine.execEarlyWarningSaveRepeat s
  | .supplyRecovered => Sys2Proof.Machine.execSupplyRecovered s
  | .pfwStuck => Sys2Proof.Machine.execPfwStuck s
  | .pfwRelease => Sys2Proof.Machine.execPfwRelease s
  | .sessionSeal p => Sys2Proof.Machine.execSessionSeal p s
  | .sealLoopSample x => Sys2Proof.Machine.execSealLoopSample x s
  | .signOn addressed => Sys2Proof.Machine.execSignOn addressed s
  | .optIdentification => Sys2Proof.Machine.execOptIdentification s
  | .optAcknowledgement z opt => Sys2Proof.Machine.execOptAcknowledgement z opt s
  | .optAckTimeout => Sys2Proof.Machine.execOptAckTimeout s
  | .optDataMessage => Sys2Proof.Machine.execOptDataMessage s
  | .optDataMessageDone => Sys2Proof.Machine.execOptDataMessageDone s
  | .safetyCycle c => Sys2Proof.Machine.execSafetyCycle c s
  | .safeInEdge k level => Sys2Proof.Machine.execSafeInEdge k level s
  | .discrepancyTimeout k => Sys2Proof.Machine.execDiscrepancyTimeout k s
  | .inputPatternCheck k seen => Sys2Proof.Machine.execInputPatternCheck k seen s
  | .safetyEccScrub corrected uncorrectable => Sys2Proof.Machine.execSafetyEccScrub corrected uncorrectable s
  | .tableDigestCheck ok => Sys2Proof.Machine.execTableDigestCheck ok s
  | .watchdogQuestion => Sys2Proof.Machine.execWatchdogQuestion s
  | .watchdogWindowExpiry => Sys2Proof.Machine.execWatchdogWindowExpiry s
  | .oscillatorFault => Sys2Proof.Machine.execOscillatorFault s
  | .railFault => Sys2Proof.Machine.execRailFault s
  | .comparatorSelftest t => Sys2Proof.Machine.execComparatorSelftest t s
  | .driverOffTest t => Sys2Proof.Machine.execDriverOffTest t s
  | .dieTempCheck main meas drive => Sys2Proof.Machine.execDieTempCheck main meas drive s
  | .serviceLossTimeout => Sys2Proof.Machine.execServiceLossTimeout s
  | .heartbeat => Sys2Proof.Machine.execHeartbeat s
  | .closeReq p => Sys2Proof.Machine.execCloseReq p s
  | .openReq p => Sys2Proof.Machine.execOpenReq p s
  | .rampDone p => Sys2Proof.Machine.execRampDone p s
  | .selftestReq p code => Sys2Proof.Machine.execSelftestReq p code s
  | .brakeReleaseReq b => Sys2Proof.Machine.execBrakeReleaseReq b s
  | .outReq mask => Sys2Proof.Machine.execOutReq mask s
  | .resetReq q => Sys2Proof.Machine.execResetReq q s
  | .restartReq q => Sys2Proof.Machine.execRestartReq q s
  | .siteState => Sys2Proof.Machine.execSiteState s
  | .portState p => Sys2Proof.Machine.execPortState p s
  | .trip p cause row => Sys2Proof.Machine.execTrip p cause row s
  | .feedback p => Sys2Proof.Machine.execFeedback p s
  | .readings p => Sys2Proof.Machine.execReadings p s
  | .logEntry entry => Sys2Proof.Machine.execLogEntry entry s
  | .answer type p granted => Sys2Proof.Machine.execAnswer type p granted s
  | .windowDeadline p => Sys2Proof.Machine.execWindowDeadline p s
  | .closeConfirmTimeout p => Sys2Proof.Machine.execCloseConfirmTimeout p s
  | .openConfirmTimeout p => Sys2Proof.Machine.execOpenConfirmTimeout p s
  | .contactDisagreeTimeout p => Sys2Proof.Machine.execContactDisagreeTimeout p s
  | .safetyRestartDone ok item => Sys2Proof.Machine.execSafetyRestartDone ok item s
  | .safetyCpPeriod p pwm hi lo => Sys2Proof.Machine.execSafetyCpPeriod p pwm hi lo s
  | .imdHalfPeriodEnd p ohm ce => Sys2Proof.Machine.execImdHalfPeriodEnd p ohm ce s
  | .imdSlotRotate g => Sys2Proof.Machine.execImdSlotRotate g s
  | .precloseTestEnd p => Sys2Proof.Machine.execPrecloseTestEnd p s
  | .rcmTrip p => Sys2Proof.Machine.execRcmTrip p s
  | .lockFilterExpiry p => Sys2Proof.Machine.execLockFilterExpiry p s
  | .coilCurrentFault p => Sys2Proof.Machine.execCoilCurrentFault p s
  | .brakeTestTimer b => Sys2Proof.Machine.execBrakeTestTimer b s
  | .weldTestTimer p => Sys2Proof.Machine.execWeldTestTimer p s
  | .insulationSelftestEnd p kohm => Sys2Proof.Machine.execInsulationSelftestEnd p kohm s
  | .lsOvercurrent c => Sys2Proof.Machine.execLsOvercurrent c s
  | .lsRetryTimer c => Sys2Proof.Machine.execLsRetryTimer c s
  | .lsBurstSuccess c => Sys2Proof.Machine.execLsBurstSuccess c s
  | .lsBurstWindowEnd c => Sys2Proof.Machine.execLsBurstWindowEnd c s
  | .lsThermalTrip c => Sys2Proof.Machine.execLsThermalTrip c s
  | .lsThermalCooled c => Sys2Proof.Machine.execLsThermalCooled c s
  | .lsShed => Sys2Proof.Machine.execLsShed s
  | .vauxLow => Sys2Proof.Machine.execVauxLow s
  | .vauxUv => Sys2Proof.Machine.execVauxUv s
  | .vauxRecovered => Sys2Proof.Machine.execVauxRecovered s
  | .vauxOvervoltage => Sys2Proof.Machine.execVauxOvervoltage s
  | .lsRestoreGroup => Sys2Proof.Machine.execLsRestoreGroup s
  | .lsOpenLoadSample c mA => Sys2Proof.Machine.execLsOpenLoadSample c mA s
  | .lspwmEdge k t tIn vaux => Sys2Proof.Machine.execLspwmEdge k t tIn vaux s
  | .lspwmStatic k level => Sys2Proof.Machine.execLspwmStatic k level s
  | .lkPeriod p vaux mA => Sys2Proof.Machine.execLkPeriod p vaux mA s
  | .lkDriveEnd p => Sys2Proof.Machine.execLkDriveEnd p s
  | .lkStall p => Sys2Proof.Machine.execLkStall p s
  | .lkThermal p => Sys2Proof.Machine.execLkThermal p s
  | .lkBrakeEnd p => Sys2Proof.Machine.execLkBrakeEnd p s
  | .helloSend k => Sys2Proof.Machine.execHelloSend k s
  | .hello k x => Sys2Proof.Machine.execHello k x s
  | .chainLinkTrained k => Sys2Proof.Machine.execChainLinkTrained k s
  | .chainBadFrame k x => Sys2Proof.Machine.execChainBadFrame k x s
  | .chainDegradedEnd k => Sys2Proof.Machine.execChainDegradedEnd k s
  | .chainLinkSilence k => Sys2Proof.Machine.execChainLinkSilence k s
  | .chainPhyUp k miswired => Sys2Proof.Machine.execChainPhyUp k miswired s
  | .chainPhyDown k => Sys2Proof.Machine.execChainPhyDown k s
  | .delayMeasure k => Sys2Proof.Machine.execDelayMeasure k s
  | .delayReq k t1 t2 t3 => Sys2Proof.Machine.execDelayReq k t1 t2 t3 s
  | .delayRsp k t1 t2 t3 t4 => Sys2Proof.Machine.execDelayRsp k t1 t2 t3 t4 s
  | .chainTxDone k => Sys2Proof.Machine.execChainTxDone k s
  | .p0Repeat => Sys2Proof.Machine.execP0Repeat s
  | .tripAdvice h origin cause ports row time => Sys2Proof.Machine.execTripAdvice h origin cause ports row time s
  | .linkDown h unit port => Sys2Proof.Machine.execLinkDown h unit port s
  | .topology h blocked closed => Sys2Proof.Machine.execTopology h blocked closed s
  | .ringRestore => Sys2Proof.Machine.execRingRestore s
  | .electionStart => Sys2Proof.Machine.execElectionStart s
  | .candidate h key => Sys2Proof.Machine.execCandidate h key s
  | .headClaimTimer => Sys2Proof.Machine.execHeadClaimTimer s
  | .headClaim h key => Sys2Proof.Machine.execHeadClaim h key s
  | .walk h next => Sys2Proof.Machine.execWalk h next s
  | .join h serial => Sys2Proof.Machine.execJoin h serial s
  | .assign h serial addr => Sys2Proof.Machine.execAssign h serial addr s
  | .table h x => Sys2Proof.Machine.execTable h x s
  | .tableBroadcast => Sys2Proof.Machine.execTableBroadcast s
  | .joinRetry => Sys2Proof.Machine.execJoinRetry s
  | .syncSend => Sys2Proof.Machine.execSyncSend s
  | .sync h origin corr => Sys2Proof.Machine.execSync h origin corr s
  | .timeUnsync => Sys2Proof.Machine.execTimeUnsync s
  | .siteConfig h epoch x => Sys2Proof.Machine.execSiteConfig h epoch x s
  | .configAck h reason => Sys2Proof.Machine.execConfigAck h reason s
  | .siteConfigDeadline => Sys2Proof.Machine.execSiteConfigDeadline s
  | .actPropose h a => Sys2Proof.Machine.execActPropose h a s
  | .actCommit h a => Sys2Proof.Machine.execActCommit h a s
  | .actQuery h a answer => Sys2Proof.Machine.execActQuery h a answer s
  | .activationTime intact => Sys2Proof.Machine.execActivationTime intact s
  | .serviceSwapDone => Sys2Proof.Machine.execServiceSwapDone s
  | .trialPassed => Sys2Proof.Machine.execTrialPassed s
  | .activationWaitTimeout => Sys2Proof.Machine.execActivationWaitTimeout s
  | .mirror h entry => Sys2Proof.Machine.execMirror h entry s
  | .fwOffer h header => Sys2Proof.Machine.execFwOffer h header s
  | .fwBlock h tag off data => Sys2Proof.Machine.execFwBlock h tag off data s
  | .fwNack h tag off len => Sys2Proof.Machine.execFwNack h tag off len s
  | .fwReq k => Sys2Proof.Machine.execFwReq k s
  | .romFwReq => Sys2Proof.Machine.execRomFwReq s
  | .sleepPrepare h te => Sys2Proof.Machine.execSleepPrepare h te s
  | .sleepReady h => Sys2Proof.Machine.execSleepReady h s
  | .sleepNotReady h guard => Sys2Proof.Machine.execSleepNotReady h guard s
  | .sleepCommit h te => Sys2Proof.Machine.execSleepCommit h te s
  | .sleepAbort h => Sys2Proof.Machine.execSleepAbort h s
  | .sleepCancel h => Sys2Proof.Machine.execSleepCancel h s
  | .wake h src => Sys2Proof.Machine.execWake h src s
  | .meshChainFrame m h b => Sys2Proof.Machine.execMeshChainFrame m h b s
  | .msync m origin corr => Sys2Proof.Machine.execMsync m origin corr s
  | .msyncSend => Sys2Proof.Machine.execMsyncSend s
  | .msyncLost => Sys2Proof.Machine.execMsyncLost s
  | .nbr m l => Sys2Proof.Machine.execNbr m l s
  | .nbrSend => Sys2Proof.Machine.execNbrSend s
  | .tmap m gen seg x => Sys2Proof.Machine.execTmap m gen seg x s
  | .tmapSend nbr segs => Sys2Proof.Machine.execTmapSend nbr segs s
  | .meshMapExpiry nbr => Sys2Proof.Machine.execMeshMapExpiry nbr s
  | .phase m x => Sys2Proof.Machine.execPhase m x s
  | .phaseSend => Sys2Proof.Machine.execPhaseSend s
  | .phaseFrameTimeout nbr => Sys2Proof.Machine.execPhaseFrameTimeout nbr s
  | .meshDelay m t1 t2 t3 t4 => Sys2Proof.Machine.execMeshDelay m t1 t2 t3 t4 s
  | .meshDelaySend => Sys2Proof.Machine.execMeshDelaySend s
  | .meshAck src seq => Sys2Proof.Machine.execMeshAck src seq s
  | .meshAckTimeout => Sys2Proof.Machine.execMeshAckTimeout s
  | .meshBadFrame => Sys2Proof.Machine.execMeshBadFrame s
  | .meshContention => Sys2Proof.Machine.execMeshContention s
  | .splZcEdge k t => Sys2Proof.Machine.execSplZcEdge k t s
  | .splZcAbsent k => Sys2Proof.Machine.execSplZcAbsent k s
  | .coexMaskChange => Sys2Proof.Machine.execCoexMaskChange s
  | .ripeningComplete legal => Sys2Proof.Machine.execRipeningComplete legal s
  | .halfZeroed legal => Sys2Proof.Machine.execHalfZeroed legal s
  | .caveAckWrite => Sys2Proof.Machine.execCaveAckWrite s
  | .caveConfirm seq => Sys2Proof.Machine.execCaveConfirm seq s
  | .caveRecordTake => Sys2Proof.Machine.execCaveRecordTake s
  | .caveStreamSamples b => Sys2Proof.Machine.execCaveStreamSamples b s
  | .nvmeWriteComplete => Sys2Proof.Machine.execNvmeWriteComplete s
  | .caveFlush => Sys2Proof.Machine.execCaveFlush s
  | .superblockWrite => Sys2Proof.Machine.execSuperblockWrite s
  | .nvmeTimeout => Sys2Proof.Machine.execNvmeTimeout s
  | .nvmeControllerFatal => Sys2Proof.Machine.execNvmeControllerFatal s
  | .storLinkDown => Sys2Proof.Machine.execStorLinkDown s
  | .caveFaultRetry ok => Sys2Proof.Machine.execCaveFaultRetry ok s
  | .caveWindowTrigger src kind => Sys2Proof.Machine.execCaveWindowTrigger src kind s
  | .caveWindowEnd num last => Sys2Proof.Machine.execCaveWindowEnd num last s
  | .tamperEvent sensor => Sys2Proof.Machine.execTamperEvent sensor s
  | .tamperSensorSample mesh light temp lid => Sys2Proof.Machine.execTamperSensorSample mesh light temp lid s
  | .batteryLoss => Sys2Proof.Machine.execBatteryLoss s
  | .vbatLow => Sys2Proof.Machine.execVbatLow s
  | .rtcAlarmExpiry => Sys2Proof.Machine.execRtcAlarmExpiry s
  | .keySessionIdleExpiry g h => Sys2Proof.Machine.execKeySessionIdleExpiry g h s
  | .vaultFixedTime g => Sys2Proof.Machine.execVaultFixedTime g s
  | .stagingWindowWrite g off bytes => Sys2Proof.Machine.execStagingWindowWrite g off bytes s
  | .stagingBodyComplete c readback => Sys2Proof.Machine.execStagingBodyComplete c readback s
  | .stagingTimeout c => Sys2Proof.Machine.execStagingTimeout c s
  | .nfcPoll ext cards => Sys2Proof.Machine.execNfcPoll ext cards s
  | .nfcPresenceCheck present => Sys2Proof.Machine.execNfcPresenceCheck present s
  | .nfcHoldTimeout => Sys2Proof.Machine.execNfcHoldTimeout s
  | .tagFieldOn => Sys2Proof.Machine.execTagFieldOn s
  | .tagFieldLost => Sys2Proof.Machine.execTagFieldLost s
  | .select aid => Sys2Proof.Machine.execSelect aid s
  | .readPage page => Sys2Proof.Machine.execReadPage page s
  | .verify pw => Sys2Proof.Machine.execVerify pw s
  | .getChallenge => Sys2Proof.Machine.execGetChallenge s
  | .mutualAuth data => Sys2Proof.Machine.execMutualAuth data s
  | .deselect => Sys2Proof.Machine.execDeselect s
  | .tagPageRewrite => Sys2Proof.Machine.execTagPageRewrite s
  | .frameBoundary => Sys2Proof.Machine.execFrameBoundary s
  | .legalViewRefresh => Sys2Proof.Machine.execLegalViewRefresh s
  | .legalLineAlternate => Sys2Proof.Machine.execLegalLineAlternate s
  | .legalViewCycle => Sys2Proof.Machine.execLegalViewCycle s
  | .vfEnableSet => Sys2Proof.Machine.execVfEnableSet s
  | .tref10mEdge glitch rate => Sys2Proof.Machine.execTref10mEdge glitch rate s
  | .vbatRestored => Sys2Proof.Machine.execVbatRestored s
  | .glnVioLoss => Sys2Proof.Machine.execGlnVioLoss s
  | .glnVioReturn => Sys2Proof.Machine.execGlnVioReturn s
  | .vauxOvervoltageEnd => Sys2Proof.Machine.execVauxOvervoltageEnd s
  | .offOpen c open_ => Sys2Proof.Machine.execOffOpen c open_ s
  | .driveWarning temp used warning => Sys2Proof.Machine.execDriveWarning temp used warning s
  | .caveInitDone drive => Sys2Proof.Machine.execCaveInitDone drive s
  | .stagingRingRead c bytes d => Sys2Proof.Machine.execStagingRingRead c bytes d s
  | .provisioning => Sys2Proof.Machine.execProvisioning s
  | .finalTest => Sys2Proof.Machine.execFinalTest s
  | .mbxMbd0Read path g n => Sys2Proof.Machine.execMbxMbd0Read path g n s
  | .clockGated b => Sys2Proof.Machine.execClockGated b s
  | .clockStarted b => Sys2Proof.Machine.execClockStarted b s
  | .lockFbChange p closed => Sys2Proof.Machine.execLockFbChange p closed s
  | .protocolError p => Sys2Proof.Machine.execProtocolError p s
  | .badChannelMessage dom => Sys2Proof.Machine.execBadChannelMessage dom s
  | .firewallAccess dom => Sys2Proof.Machine.execFirewallAccess dom s
  | .reqa f => Sys2Proof.Machine.execReqa f s

end Sys2Proof.Machine
end

