-- ==== Sys2Proof/Machine/Tick.lean ====
section
/-! DEFINITION. What passes with 1 µs of time while no command waits: the clocks of the block (spec 02 R26, 13 R338, 19 R506),
the slewing of chain time (02 R38, 16 R428) and the counters of elapsed time (03 R81). -/

namespace Sys2Proof.Machine

/-- Rind's counter runs from the first root on, with the module out of ship state and Rind supplied (R504 to R506). -/
def Rind.counting (r : Rind) : Bool := r.lifecycle != 0 && !r.shipCopy && !r.batteryLost

/-- One nanosecond of a slew that is due: toward the member's head at 100 ppm, toward a new 1PPS phase at 10 ppm (R38, R428). -/
def slewStep (due : Bool) (x : Int) : Int := if due then x.sign else 0

/-- Chain time advances; no slew exceeds its rate, so that it never runs backward. A positive slew of the chain runs it faster; a
phase that lies c ns after the prediction is met by running c ns slower. DESIGN CHOICE (log 3). -/
def State.tickChain (s : State) : State :=
  let a := slewStep (s.time.legalUs % 10 == 0) s.chn.slew
  let b := slewStep (s.isHead && s.time.legalUs % 100 == 0) s.sys.tref.slew
  ((s.modChn fun c => { c with slew := c.slew - a }).modTref fun t => { t with slew := t.slew - b }).modTime fun t => { t with
    chain := ((t.chain : Int) + 1000 + a - b).toNat }

/-- Elapsed time, code 0x12, counts 1 per µs (R81). DESIGN CHOICE (log 3). -/
def State.tickCounters (s : State) : State := s.each (n := 16) fun g t => t.count g 0x12 1

/-- 1 µs passes. In Dormant only Rind has power. DESIGN CHOICE (log 3). -/
def State.tick (s : State) : State :=
  let s1 := s.modRind fun r => if r.counting then { r with rtcUs := r.rtcUs + 1 } else r
  if s.sys.power == .dormant then s1
  else
    let s2 := s1.modTime fun t => { t with legalUs := t.legalUs + 1, safetyUs := t.safetyUs + 1 }
    s2.tickChain.tickCounters

end Sys2Proof.Machine
end

