-- ==== Sys2Proof/Machine/Pins.lean ====
section
/-! DEFINITION. What the signals of the module carry, read off the state: the outputs that the signal tables list, each in its reset
state until the event that they name (spec 22 R587 to R590). Messages, frames and pulses leave as entries of `sent`. -/

namespace Sys2Proof.Machine

/-- The module has its supply and has reached a step of the start. -/
def State.pinsFrom (s : State) (step : Nat) : Bool := s.sys.power != .dormant && s.sys.reached step

/-! ### Vehicle ports (R587) -/

/-- VPp_CP: high impedance until step 8, then what the generator drives. DEDUCED (log 231). -/
def State.cpPin (s : State) (p : Port) : Option CpDrive := if s.pinsFrom 8 then some (s.vehAt p).cp.drive else none

/-- The wetting currents of VPp_LOCK_FB and VPp_AUX1, 2 flow from step 3, out of VAUX. DEDUCED (log 231). -/
def State.wetting (s : State) : Bool := s.pinsFrom 3 && !s.ls.uv

/-- The switches of a coil, VPp_KnA and VPp_KnB, are closed. DEDUCED (log 231). -/
def State.coilPin (s : State) (p : Port) (k : Fin 2) : Bool := s.sys.power != .dormant && ix (s.spAt p).coils k

/-- VPp_IMD: the port is the injector of a bus group. DEDUCED (log 231). -/
def State.imdPin (s : State) (p : Port) : Bool := s.sys.power != .dormant && s.saf.injector.toList.contains (some p)

/-! ### Centre and right regions (R588, R589) -/

/-- STOR_PERST_N is low, and STOR_REFCLK off, until step 8. DEDUCED (log 231). -/
def State.storReset (s : State) : Bool := !s.pinsFrom 8

/-- GLN_IRQk is high: high impedance without GLN_VIO. DEDUCED (log 231). -/
def State.glnIrqPin (s : State) (k : Fin 4) : Option Bool :=
  if s.sys.power == .dormant || !s.host.glnVio then none else some (s.glnIrq k)

/-- SLk_DN carries frames: idle until a metrology configuration names the link, and in Doze. DEDUCED (log 231). -/
def State.dnPin (s : State) (l : SLink) : Bool := s.sys.power == .run && (ix s.sl l).state != .down

/-- SAFE_OUTk is on. DEDUCED (log 231). -/
def State.safeOutPin (s : State) (k : Fin 8) : Bool := s.sys.power != .dormant && (s.saf.outs / 2 ^ k.1) % 2 == 1

/-! ### Bottom and top regions (R590) -/

/-- LSc conducts. DEDUCED (log 231). -/
def State.lsPin (s : State) (c : LsIdx) : Bool := s.sys.power != .dormant && s.lsOn c

/-- The bridge of LKp: off, or the direction in which it drives. DEDUCED (log 231). -/
def State.lkPin (s : State) (p : Port) : LkState := if s.sys.power == .dormant then .off else (s.lkAt p).state

/-- BRKb is energised: the brake is released. DEDUCED (log 231). -/
def State.brakePin (s : State) (b : Fin 2) : Bool := s.sys.power != .dormant && (s.brkAt b).released

/-- DSP_VCOL is up from step 6; the columns source what the frame memory holds while the panel is on. DEDUCED (log 231). -/
def State.vcolPin (s : State) : Bool := s.pinsFrom 6
/-- DEDUCED (log 231). -/
def State.panelPin (s : State) : Bool := s.vcolPin && s.dsp.on

end Sys2Proof.Machine
end

