-- ==== Sys2Proof/Machine/Writes.lean ====
section
/-! DEFINITION. The parts of the state a command writes, one arm a command: what the frame statements are said in. -/

namespace Sys2Proof.Machine

/-- The parts of the state, one for each field. -/
inductive Part where
  | sys | time | host | conf | veh | ses | pwr | pm | lease | legal | sl | met | nrg | bil | pq | jnl | cave | rind | keys | fw | saf
  | sp | brk | ls | lk | chn | msh | nfc | dsp | sent | free | pending
  deriving DecidableEq, Repr

/-- A part is the same in two states. -/
def sameAt (s t : State) : Part → Prop
  | .sys => t.sys = s.sys
  | .time => t.time = s.time
  | .host => t.host = s.host
  | .conf => t.conf = s.conf
  | .veh => t.veh = s.veh
  | .ses => t.ses = s.ses
  | .pwr => t.pwr = s.pwr
  | .pm => t.pm = s.pm
  | .lease => t.lease = s.lease
  | .legal => t.legal = s.legal
  | .sl => t.sl = s.sl
  | .met => t.met = s.met
  | .nrg => t.nrg = s.nrg
  | .bil => t.bil = s.bil
  | .pq => t.pq = s.pq
  | .jnl => t.jnl = s.jnl
  | .cave => t.cave = s.cave
  | .rind => t.rind = s.rind
  | .keys => t.keys = s.keys
  | .fw => t.fw = s.fw
  | .saf => t.saf = s.saf
  | .sp => t.sp = s.sp
  | .brk => t.brk = s.brk
  | .ls => t.ls = s.ls
  | .lk => t.lk = s.lk
  | .chn => t.chn = s.chn
  | .msh => t.msh = s.msh
  | .nfc => t.nfc = s.nfc
  | .dsp => t.dsp = s.dsp
  | .sent => t.sent = s.sent
  | .free => t.free = s.free
  | .pending => t.pending = s.pending

/-- No part beside ps differs. -/
def State.sameBut (s : State) (ps : List Part) (t : State) : Prop := ∀ p, p ∉ ps → sameAt s t p

/-- The parts that a command may write; every other part it leaves as it was. -/
def writes : Instr → List Part
  | .mbxGo _ _ _ => [.sys, .host, .chn, .msh, .sent]
  | .messageFetch _ _ => [.sys, .host, .jnl, .sent]
  | .commandStart _ _ => [.sys, .host]
  | .commandComplete _ _ => [.host, .sent]
  | .responseToMailbox _ _ => [.host, .sent]
  | .mbxResponseRead _ _ _ => [.sys, .host, .chn, .msh, .sent]
  | .mbxAbortClear _ _ _ => [.sys, .host, .chn, .msh, .sent]
  | .finalNotice _ => [.host]
  | .registerWrite _ _ _ _ => [.sys, .host, .chn, .msh, .sent, .free]
  | .pairLowRead _ _ => [.sys, .host, .chn, .msh, .sent]
  | .glnLowWordRead _ => [.sys, .host, .chn, .msh, .sent]
  | .accessViolation _ _ _ _ _ _ => [.sys, .host, .chn, .msh, .sent]
  | .poisonedTlp _ => [.sys, .host, .chn, .msh, .sent]
  | .numvfsWrite _ => [.sys, .host, .chn, .msh, .sent]
  | .vfEnableClear => [.sys, .host, .chn, .msh, .sent]
  | .flr _ => [.sys, .host, .chn, .msh, .sent]
  | .perstAssert => [.sys, .host, .chn, .msh, .sent]
  | .hostLinkDown => [.sys, .host, .chn, .msh, .sent]
  | .hostLinkTrained => [.sys, .host, .chn, .msh, .sent]
  | .sysGuestHbWrite _ _ => [.sys, .host, .chn, .msh, .sent]
  | .heartbeatExpiry _ => [.host]
  | .guestReset _ => [.host, .conf, .veh, .ses, .pwr, .legal, .met, .nrg, .bil, .pq, .jnl, .cave, .keys, .fw, .saf, .sp, .ls,
    .chn, .msh, .nfc, .dsp, .sent, .free]
  | .irqStatusClear _ _ _ => [.sys, .host, .chn, .msh, .sent]
  | .irqArm _ _ => [.sys, .host, .chn, .msh, .sent]
  | .msixVectorUnmask _ _ => [.sys, .host, .chn, .msh, .sent]
  | .sysViolClr _ => [.sys, .host, .chn, .msh, .sent]
  | .pfcSnap _ => [.sys, .host, .chn, .msh, .sent]
  | .pfcChipSnap _ => [.sys, .host, .chn, .msh, .sent]
  | .pfcFreeze _ _ => [.sys, .host, .chn, .msh, .sent]
  | .pfcPreset _ _ _ => [.sys, .host, .chn, .msh, .sent]
  | .pfcOvfClear _ _ => [.sys, .host, .chn, .msh, .sent]
  | .queDbH2d _ _ => [.sys, .host, .chn, .msh, .sent]
  | .queDbD2hClear _ _ => [.sys, .host, .chn, .msh, .sent]
  | .txnTimeout _ => [.conf]
  | .vpEventRead _ _ _ => [.sys, .host, .veh, .chn, .msh, .sent]
  | .sesEventRead _ _ _ => [.sys, .host, .ses, .chn, .msh, .sent]
  | .pwrEventRead _ _ _ => [.sys, .host, .pwr, .chn, .msh, .sent]
  | .metEventRead _ _ _ => [.sys, .host, .met, .chn, .msh, .sent]
  | .nrgEventRead _ _ _ => [.sys, .host, .nrg, .chn, .msh, .sent]
  | .bilEventRead _ _ _ => [.sys, .host, .bil, .chn, .msh, .sent]
  | .bilUnitEventRead _ _ => [.sys, .host, .legal, .chn, .msh, .sent]
  | .pqEventRead _ _ _ => [.sys, .host, .pq, .chn, .msh, .sent]
  | .pqSiteEventRead _ _ => [.sys, .host, .legal, .chn, .msh, .sent]
  | .safSiteEventRead _ _ => [.sys, .host, .saf, .chn, .msh, .sent]
  | .safEventRead _ _ _ => [.sys, .host, .sp, .chn, .msh, .sent]
  | .imdEventRead _ _ _ => [.sys, .host, .sp, .chn, .msh, .sent]
  | .brkEventRead _ _ => [.sys, .host, .saf, .chn, .msh, .sent]
  | .lsEventRead _ _ => [.sys, .host, .ls, .chn, .msh, .sent]
  | .chnEventRead _ _ => [.sys, .host, .chn, .msh, .sent]
  | .mshEventRead _ _ => [.sys, .host, .chn, .msh, .sent]
  | .jnlEventRead _ _ => [.sys, .host, .jnl, .chn, .msh, .sent]
  | .cavEventRead _ _ => [.sys, .host, .cave, .chn, .msh, .sent]
  | .keyEventRead _ _ => [.sys, .host, .keys, .chn, .msh, .sent]
  | .updEventRead _ _ => [.sys, .host, .fw, .chn, .msh, .sent]
  | .nfcEventRead _ _ => [.sys, .host, .chn, .msh, .nfc, .sent]
  | .dspEventRead _ _ => [.sys, .host, .chn, .msh, .dsp, .sent]
  | .getDeviceInfo _ => [.host]
  | .getImageDigest _ => [.host]
  | .echo _ => [.host]
  | .getConfigState _ => [.host]
  | .beginConfig _ => [.host, .conf]
  | .commitConfig _ => [.host, .conf, .jnl, .chn, .msh, .sent]
  | .abortConfig _ => [.host, .conf]
  | .setTrefMode _ => [.host, .conf, .jnl, .chn, .msh, .sent]
  | .acceptTrefPhase _ => [.sys, .host, .sent]
  | .requestSiteSleep _ => [.sys, .host, .chn, .msh, .sent]
  | .resetChip _ => [.sys, .time, .host, .conf, .veh, .ses, .pwr, .pm, .lease, .legal, .met, .nrg, .bil, .pq, .jnl, .cave,
    .keys, .fw, .saf, .sp, .brk, .ls, .lk, .chn, .msh, .nfc, .dsp, .sent]
  | .getCommandCost _ => [.host]
  | .getQueueState _ => [.host]
  | .setQueueRange _ => [.host, .conf, .jnl, .chn, .msh, .sent]
  | .getGuestConfig _ => [.host]
  | .setGuestCaps _ => [.host, .conf, .jnl, .chn, .msh, .sent]
  | .setGuestQos _ => [.host, .conf, .jnl, .chn, .msh, .sent]
  | .setGuestHeartbeat _ => [.host, .conf, .jnl, .chn, .msh, .sent]
  | .setGlnBind _ => [.host, .conf, .jnl, .chn, .msh, .sent]
  | .resetGuest _ => [.host]
  | .relayMessage _ => [.host, .sent]
  | .getPortStatus _ => [.host]
  | .getVehicleInfo _ => [.host]
  | .getLinkStats _ => [.host, .veh, .sent, .free]
  | .getCertRequest _ => [.host, .veh, .sent]
  | .claimPort _ => [.host, .veh, .cave, .sent]
  | .releasePort _ => [.host, .veh, .cave, .sent]
  | .setPortConfig _ => [.host, .conf, .jnl, .chn, .msh, .sent]
  | .setAcCurrent _ => [.host, .veh, .pwr, .sent]
  | .driveLock _ => [.host, .veh, .lk]
  | .resetPort _ => [.sys, .host, .conf, .veh, .ses, .pwr, .pm, .lease, .legal, .sl, .met, .nrg, .bil, .jnl, .cave, .saf, .sp,
    .brk, .ls, .lk, .chn, .msh, .nfc, .sent, .free]
  | .loadTrustAnchor _ => [.host, .conf, .jnl, .chn, .msh, .sent]
  | .certExchangeReply _ => [.host, .veh, .sent]
  | .getSessionStatus _ => [.host]
  | .getSessionSummary _ => [.host]
  | .authoriseSession _ => [.sys, .host, .veh, .ses, .pwr, .pm, .cave, .sp, .lk, .sent]
  | .addCredit _ => [.host, .ses, .bil]
  | .stopSession _ => [.sys, .host, .conf, .veh, .ses, .pwr, .pm, .lease, .legal, .sl, .met, .nrg, .bil, .jnl, .cave, .saf,
    .sp, .brk, .ls, .lk, .chn, .msh, .nfc, .sent, .free]
  | .clearFault _ => [.host, .ses, .cave, .saf, .sp, .brk, .sent]
  | .setSessionConfig _ => [.host, .conf, .jnl, .chn, .msh, .sent]
  | .getPowerStatus _ => [.host]
  | .getLeaseStatus _ => [.host]
  | .getConverterLimits _ => [.host]
  | .getPmLinkStats _ => [.host]
  | .setPowerConfig _ => [.host, .conf, .jnl, .chn, .msh, .sent]
  | .setPortLimit _ => [.host, .veh, .pwr, .sent]
  | .setLeaseConfig _ => [.host, .conf, .jnl, .chn, .msh, .sent]
  | .setSitePower _ => [.host, .conf, .jnl, .chn, .msh, .sent]
  | .setPmLinkConfig _ => [.host, .conf, .jnl, .chn, .msh, .sent]
  | .reduceSitePower _ => [.host, .veh, .pwr, .lease, .chn, .msh, .sent]
  | .getMetrologyStatus _ => [.host]
  | .getChannelReading _ => [.host]
  | .getVerification _ => [.host]
  | .getHeadInfo _ => [.host]
  | .getCalCoeff _ => [.host]
  | .setMetrologyConfig _ => [.host, .conf, .jnl, .chn, .msh, .sent]
  | .beginCalibration _ => [.host, .met]
  | .setCalCoeff _ => [.host, .met]
  | .calMeasure _ => [.host, .met]
  | .endCalibration _ => [.host, .met]
  | .abortCalibration _ => [.host, .met]
  | .getEnergyStatus _ => [.host]
  | .getRegisters _ => [.host]
  | .getAccumulator _ => [.host]
  | .getSupplyStatus _ => [.host]
  | .setEnergyConfig _ => [.host, .conf, .jnl, .chn, .msh, .sent]
  | .setPulseInput _ => [.host, .conf, .jnl, .chn, .msh, .sent]
  | .setSupplyConfig _ => [.host, .conf, .jnl, .chn, .msh, .sent]
  | .setPulseSource _ => [.host, .nrg, .sent]
  | .runCrossCheck _ => [.host, .legal]
  | .getBillingStatus _ => [.host]
  | .getChainHead _ => [.host]
  | .getSessionRecord _ => [.host, .sent]
  | .getSealStatus _ => [.host]
  | .getLegalPubkey _ => [.host]
  | .setBillingConfig _ => [.host, .conf, .jnl, .chn, .msh, .sent]
  | .setTariffSchedule _ => [.host, .conf, .jnl, .chn, .msh, .sent]
  | .switchTariff _ => [.host, .bil, .sent]
  | .setWallClock _ => [.sys, .host, .legal, .sent]
  | .getSealChallenge _ => [.host, .legal, .free]
  | .reseal _ => [.host, .legal, .bil, .jnl, .rind, .keys, .sent]
  | .getOpticalStatus _ => [.host]
  | .setOpticalConfig _ => [.host, .conf, .jnl, .chn, .msh, .sent]
  | .getPqStatus _ => [.host]
  | .getTamperStatus _ => [.host]
  | .getPqEvents _ => [.host, .sent]
  | .getTamperRecord _ => [.host, .sent]
  | .setPqConfig _ => [.host, .conf, .jnl, .chn, .msh, .sent]
  | .getSafetyStatus _ => [.host]
  | .getPortSafety _ => [.host]
  | .getTripLog _ => [.host, .sent]
  | .getSafetyTableInfo _ => [.host]
  | .resetTrip _ => [.sys, .host, .ses, .cave, .saf, .sp, .brk, .sent]
  | .requestSafetyRestart _ => [.sys, .host, .ses, .cave, .saf, .sp, .brk, .sent]
  | .requestSafeOut _ => [.sys, .host, .ses, .cave, .saf, .sp, .brk, .sent]
  | .getEarthStatus _ => [.host]
  | .getImdGroup _ => [.host]
  | .runInsulationSelftest _ => [.sys, .host, .ses, .cave, .saf, .sp, .brk, .sent]
  | .getActuatorStatus _ => [.host]
  | .runWeldTest _ => [.sys, .host, .ses, .cave, .saf, .sp, .brk, .sent]
  | .runBrakeTest _ => [.sys, .host, .ses, .cave, .saf, .sp, .brk, .sent]
  | .releaseBrake _ => [.sys, .host, .ses, .cave, .saf, .sp, .brk, .sent]
  | .applyBrake _ => [.host, .saf, .brk, .sent]
  | .getLsStatus _ => [.host]
  | .getLsChannel _ => [.host]
  | .getLkStatus _ => [.host]
  | .setLsOutput _ => [.host, .ls]
  | .clearLsFault _ => [.host, .ls]
  | .setLsConfig _ => [.host, .conf, .jnl, .chn, .msh, .sent]
  | .setLsSupplyConfig _ => [.host, .conf, .jnl, .chn, .msh, .sent]
  | .setLkConfig _ => [.host, .conf, .jnl, .chn, .msh, .sent]
  | .getChainStatus _ => [.host]
  | .getChainMembers _ => [.host, .sent]
  | .getLinkCounters _ => [.host]
  | .getMirroredEvents _ => [.host, .sent]
  | .setChainConfig _ => [.host, .conf, .jnl, .chn, .msh, .sent]
  | .removeUnit _ => [.host, .chn]
  | .sendTripAdvice _ => [.host, .chn, .msh, .sent]
  | .clearLinkCounters _ => [.host, .chn]
  | .getMeshStatus _ => [.host]
  | .getMeshNeighbours _ => [.host, .sent]
  | .getToneMap _ => [.host, .sent]
  | .getPhaseMap _ => [.host, .sent]
  | .setMeshConfig _ => [.host, .conf, .jnl, .chn, .msh, .sent]
  | .setCoexMask _ => [.host, .conf, .jnl, .chn, .msh, .sent]
  | .clearMeshCounters _ => [.host, .msh]
  | .getJournalStatus _ => [.host]
  | .getCaveStatus _ => [.host]
  | .findCaveRecord _ => [.host, .sent]
  | .readWaveform _ => [.host, .sent]
  | .readCaveRaw _ => [.host, .sent, .free]
  | .setCaveConfig _ => [.host, .conf, .jnl, .chn, .msh, .sent]
  | .formatCave _ => [.host, .cave, .sent]
  | .markWindow _ => [.host, .cave, .sent]
  | .getKeyStatus _ => [.host]
  | .getSlotInfo _ => [.keys]
  | .getPublicKey _ => [.keys]
  | .getAttestation _ => [.keys]
  | .getAuditLog _ => [.host, .sent]
  | .generateKey _ => [.keys, .free]
  | .importKey _ => [.host, .keys, .sent]
  | .exportKey _ => [.keys, .free]
  | .deleteKey _ => [.keys]
  | .signDigest _ => [.keys]
  | .verifySignature _ => [.host, .keys, .sent]
  | .openKeySession _ => [.keys]
  | .closeKeySession _ => [.keys]
  | .setRtcAlarm _ => [.host, .rind]
  | .renewRoot _ => [.host, .rind, .keys, .free]
  | .retireDevice _ => [.host, .veh, .legal, .met, .nrg, .bil, .pq, .jnl, .rind, .keys, .nfc, .sent]
  | .getUpdateStatus _ => [.host]
  | .beginStaging _ => [.host, .fw]
  | .abortStaging _ => [.host, .fw]
  | .scheduleActivation _ => [.host, .fw, .chn, .msh, .sent]
  | .cancelActivation _ => [.host, .fw, .chn, .msh, .sent]
  | .setUpdateConfig _ => [.host, .conf, .jnl, .chn, .msh, .sent]
  | .getNfcStatus _ => [.host]
  | .setNfcConfig _ => [.host, .conf, .jnl, .chn, .msh, .sent]
  | .transceiveApdu _ _ => [.host, .sent]
  | .releaseCard _ => [.host, .nfc, .free]
  | .setTagPublic _ => [.host, .nfc]
  | .setTagSecrets _ => [.host, .keys, .nfc, .sent, .free]
  | .resetTagLock _ => [.host, .nfc]
  | .getDisplayStatus _ => [.host]
  | .setDisplayConfig _ => [.host, .conf, .jnl, .chn, .msh, .sent]
  | .loadOverdrive _ => [.host, .conf, .jnl, .chn, .msh, .sent]
  | .updateRegion _ => [.host, .dsp, .sent]
  | .setPanelPower _ => [.host, .dsp]
  | .selectLegalView _ => [.host, .dsp]
  | .powerOnReset _ => [.sys, .legal, .saf, .sp, .brk, .ls, .lk]
  | .porRelease => [.sys, .time, .host, .conf, .veh, .ses, .pwr, .pm, .lease, .legal, .sl, .met, .nrg, .bil, .pq, .jnl, .cave,
    .rind, .keys, .fw, .saf, .sp, .brk, .ls, .lk, .chn, .msh, .nfc, .dsp, .sent]
  | .safetyInitDone _ => [.sys, .host, .ses, .cave, .keys, .fw, .saf, .sp, .brk, .lk, .chn, .msh, .sent]
  | .legalStartDone _ _ _ => [.sys, .host, .ses, .legal, .met, .nrg, .bil, .pq, .jnl, .rind, .keys, .fw, .sent]
  | .serviceImageStart _ => [.sys, .time, .host, .conf, .veh, .ses, .pwr, .pm, .lease, .legal, .met, .nrg, .bil, .pq, .jnl,
    .cave, .keys, .fw, .saf, .sp, .brk, .ls, .lk, .chn, .msh, .nfc, .dsp, .sent]
  | .configJournalReplay _ _ => [.sys, .host, .conf, .veh, .ses, .pwr, .pm, .lease, .legal, .sl, .met, .nrg, .bil, .jnl, .cave,
    .fw, .saf, .sp, .brk, .ls, .lk, .chn, .msh, .nfc, .sent, .free]
  | .chainJoinDone => [.sys, .host, .sent]
  | .chipReset => [.sys, .time, .host, .conf, .veh, .ses, .pwr, .pm, .lease, .legal, .met, .nrg, .bil, .pq, .jnl, .cave, .keys,
    .fw, .saf, .sp, .brk, .ls, .lk, .chn, .msh, .nfc, .dsp, .sent]
  | .serviceWatchdogExpiry => [.sys, .time, .host, .conf, .veh, .ses, .pwr, .pm, .lease, .legal, .met, .nrg, .bil, .pq, .jnl,
    .cave, .keys, .fw, .saf, .sp, .brk, .ls, .lk, .chn, .msh, .nfc, .dsp, .sent]
  | .eccUncorrectable => [.sys, .time, .host, .conf, .veh, .ses, .pwr, .pm, .lease, .legal, .met, .nrg, .bil, .pq, .jnl, .cave,
    .keys, .fw, .saf, .sp, .brk, .ls, .lk, .chn, .msh, .nfc, .dsp, .sent]
  | .clockDeviation => [.sys, .time, .host, .conf, .veh, .ses, .pwr, .pm, .lease, .legal, .met, .nrg, .bil, .pq, .jnl, .cave,
    .keys, .fw, .saf, .sp, .brk, .ls, .lk, .chn, .msh, .nfc, .dsp, .sent]
  | .sleepAnswerTimeout => [.sys, .host, .chn, .msh, .sent]
  | .sleepPointOfNoReturn => [.sys, .host, .msh, .sent]
  | .dozeEntry => [.sys, .host, .legal, .sl, .met, .pq, .jnl, .cave, .chn, .msh, .nfc, .sent]
  | .dozeWake _ => [.sys, .host, .cave, .keys, .saf, .chn, .msh, .sent]
  | .trefPpsEdge _ _ => [.sys, .host, .sent]
  | .trefPpsTimeout => [.sys, .host, .sent]
  | .tref10mLoss => [.sys, .host, .sent]
  | .rateFaultClear => [.sys, .host, .sent]
  | .cpPeriod _ _ _ => [.sys, .host, .conf, .veh, .ses, .pwr, .pm, .lease, .legal, .sl, .met, .nrg, .bil, .jnl, .cave, .saf,
    .sp, .brk, .ls, .lk, .chn, .msh, .nfc, .sent, .free]
  | .cpInvalidTimeout _ => [.sys, .host, .conf, .veh, .ses, .pwr, .pm, .lease, .legal, .sl, .met, .nrg, .bil, .jnl, .cave,
    .saf, .sp, .brk, .ls, .lk, .chn, .msh, .nfc, .sent, .free]
  | .ppMeasurement _ _ => [.sys, .host, .conf, .veh, .ses, .pwr, .pm, .lease, .legal, .sl, .met, .nrg, .bil, .jnl, .cave, .saf,
    .sp, .brk, .ls, .lk, .chn, .msh, .nfc, .sent, .free]
  | .cmSlacParmReq _ _ _ => [.host, .veh, .cave, .sent]
  | .cmStartAttenChar _ _ => [.veh]
  | .cmMnbcSound _ _ _ => [.veh]
  | .soundingComplete _ => [.host, .veh, .cave, .sent]
  | .cmValidate _ _ _ => [.veh, .sent]
  | .cmSlacMatchReq _ _ => [.veh, .sent, .free]
  | .cmSetKeyCnf _ => [.host, .veh, .cave, .sent]
  | .slacTimerExpiry _ => [.host, .veh, .cave, .sent]
  | .slacInitTimeout _ => [.host, .veh, .cave, .sent]
  | .linkRetryEnd _ => [.host, .veh, .cave, .sent]
  | .basicFallbackEnd _ => [.sys, .host, .veh, .ses, .pwr, .pm, .cave, .sp, .lk, .sent]
  | .t1sFirstFrame _ _ _ => [.host, .veh, .cave, .sent]
  | .sdpRequest _ _ => [.veh, .sent]
  | .supportedAppProtocol _ _ _ _ => [.host, .veh, .ses, .cave, .sent]
  | .tcpClosed _ => [.host, .veh, .ses, .cave, .sent]
  | .protocolSequenceTimeout _ => [.host, .veh, .ses, .cave, .sent]
  | .authorizationReq _ => [.sys, .host, .veh, .ses, .pwr, .pm, .cave, .sp, .lk, .sent]
  | .contractChainPresented _ _ _ _ _ => [.veh]
  | .contract _ => [.sys, .host, .veh, .ses, .pwr, .pm, .cave, .sp, .lk, .sent]
  | .certInstallRequest _ _ => [.host, .veh, .cave, .sent]
  | .certReplyTimeout _ => [.veh, .sent]
  | .cableCheckReq _ => [.sys, .host, .veh, .ses, .pwr, .pm, .sent]
  | .vehicleTarget _ _ => [.sys, .host, .veh, .ses, .pwr, .pm, .sent]
  | .vehiclePause _ => [.host, .veh, .ses, .pwr, .sent]
  | .vehicleResume _ => [.sys, .host, .veh, .ses, .pwr, .pm, .cave, .sent]
  | .vehicleStop _ => [.sys, .host, .conf, .veh, .ses, .pwr, .pm, .lease, .legal, .sl, .met, .nrg, .bil, .jnl, .cave, .saf,
    .sp, .brk, .ls, .lk, .chn, .msh, .nfc, .sent, .free]
  | .lockPulseEnd _ => [.sys, .host, .conf, .veh, .ses, .pwr, .pm, .lease, .legal, .sl, .met, .nrg, .bil, .jnl, .cave, .saf,
    .sp, .brk, .ls, .lk, .chn, .msh, .nfc, .sent, .free]
  | .lockFeedbackTimeout _ => [.sys, .host, .conf, .veh, .ses, .pwr, .pm, .lease, .legal, .sl, .met, .nrg, .bil, .jnl, .cave,
    .saf, .sp, .brk, .ls, .lk, .chn, .msh, .nfc, .sent, .free]
  | .lockAttemptTimer _ => [.veh, .lk]
  | .legalSessionOpen _ => [.sys, .host, .veh, .ses, .pwr, .pm, .nrg, .bil, .pq, .cave, .sp, .lk, .sent]
  | .authTimeout _ => [.host, .veh, .ses, .cave, .sent]
  | .preauthLapsed _ => [.host, .ses, .cave, .sent]
  | .prechargeTimeout _ => [.sys, .host, .conf, .veh, .ses, .pwr, .pm, .lease, .legal, .sl, .met, .nrg, .bil, .jnl, .cave,
    .saf, .sp, .brk, .ls, .lk, .chn, .msh, .nfc, .sent, .free]
  | .rampTimeout _ => [.sys, .host, .veh, .ses, .pwr, .sent]
  | .pauseLimit _ => [.sys, .host, .conf, .veh, .ses, .pwr, .pm, .lease, .legal, .sl, .met, .nrg, .bil, .jnl, .cave, .saf, .sp,
    .brk, .ls, .lk, .chn, .msh, .nfc, .sent, .free]
  | .linkLostGrace _ => [.sys, .host, .conf, .veh, .ses, .pwr, .pm, .lease, .legal, .sl, .met, .nrg, .bil, .jnl, .cave, .saf,
    .sp, .brk, .ls, .lk, .chn, .msh, .nfc, .sent, .free]
  | .selftestDue _ _ => [.host, .ses, .cave, .saf, .sp, .brk, .sent]
  | .selftestOverdue _ => [.host, .ses, .cave, .sent]
  | .sealedReport _ => [.sys, .host, .conf, .veh, .ses, .pwr, .pm, .lease, .legal, .sl, .met, .nrg, .jnl, .cave, .saf, .sp,
    .brk, .ls, .lk, .chn, .msh, .nfc, .sent, .free]
  | .legalGap _ => [.sys, .host, .conf, .veh, .ses, .pwr, .pm, .lease, .legal, .sl, .met, .nrg, .bil, .jnl, .cave, .saf, .sp,
    .brk, .ls, .lk, .chn, .msh, .nfc, .sent, .free]
  | .creditOut _ => [.sys, .host, .conf, .veh, .ses, .pwr, .pm, .lease, .legal, .sl, .met, .nrg, .bil, .jnl, .cave, .saf, .sp,
    .brk, .ls, .lk, .chn, .msh, .nfc, .sent, .free]
  | .legalReading _ => [.sys, .host, .veh, .ses, .pwr, .cave, .sent]
  | .legalState => [.sys, .host, .conf, .veh, .ses, .pwr, .pm, .lease, .legal, .sl, .met, .nrg, .jnl, .cave, .saf, .sp, .brk,
    .ls, .lk, .chn, .msh, .nfc, .sent, .free]
  | .stepInstant _ => [.host, .conf, .veh, .pwr, .pm, .lease, .sent]
  | .runAheadReplan _ => [.host, .conf, .veh, .pwr, .pm, .lease, .sent]
  | .recallRepeat _ => [.pwr, .pm, .sent]
  | .pmAck _ _ _ _ _ => [.pwr, .pm]
  | .pmStatus _ _ _ _ => [.sys, .host, .veh, .ses, .pwr, .pm, .sent]
  | .pmLimits _ _ _ _ => [.host, .veh, .pwr, .pm, .sent]
  | .pmFault _ _ _ _ _ => [.sys, .host, .conf, .veh, .ses, .pwr, .pm, .lease, .legal, .sl, .met, .nrg, .bil, .jnl, .cave, .saf,
    .sp, .brk, .ls, .lk, .chn, .msh, .nfc, .sent, .free]
  | .pmBadFrame _ => [.sys, .host, .conf, .veh, .ses, .pwr, .pm, .lease, .legal, .sl, .met, .nrg, .bil, .jnl, .cave, .saf, .sp,
    .brk, .ls, .lk, .chn, .msh, .nfc, .sent, .free]
  | .pmSyncSend _ => [.pm, .sent]
  | .pmRxSilence _ => [.sys, .host, .conf, .veh, .ses, .pwr, .pm, .lease, .legal, .sl, .met, .nrg, .bil, .jnl, .cave, .saf,
    .sp, .brk, .ls, .lk, .chn, .msh, .nfc, .sent, .free]
  | .pmAckTimeout _ => [.sys, .host, .conf, .veh, .ses, .pwr, .pm, .lease, .legal, .sl, .met, .nrg, .bil, .jnl, .cave, .saf,
    .sp, .brk, .ls, .lk, .chn, .msh, .nfc, .sent, .free]
  | .pmLinkRetrain _ => [.pm]
  | .powerEpochStart => [.sys, .host, .conf, .veh, .ses, .pwr, .pm, .lease, .legal, .sl, .met, .jnl, .cave, .fw, .saf, .sp,
    .ls, .lk, .chn, .msh, .nfc, .sent, .free]
  | .reportSend => [.chn, .msh, .sent]
  | .grantCompute => [.lease, .chn]
  | .grantBroadcast => [.host, .veh, .pwr, .lease, .jnl, .fw, .chn, .msh, .sent]
  | .report _ _ => [.host, .lease, .chn, .msh, .sent, .free]
  | .grant _ _ => [.host, .veh, .pwr, .lease, .chn, .msh, .sent, .free]
  | .reduce _ _ _ => [.host, .veh, .pwr, .lease, .chn, .msh, .sent, .free]
  | .reduceReq _ _ _ => [.host, .veh, .pwr, .lease, .chn, .msh, .sent, .free]
  | .reduceEnd => [.lease]
  | .sampleFrameSend => [.legal, .sl, .sent]
  | .upstreamFrame _ _ _ _ => [.host, .legal, .sl, .met, .pq, .jnl, .sp, .sent]
  | .upstreamFrameLate _ => [.sl]
  | .slLostFramesLimit _ => [.host, .legal, .sl, .met, .pq, .jnl, .sent]
  | .slGoodFrameRun _ => [.sl]
  | .slTrainingTimeout _ => [.sl]
  | .slStallTimeout _ => [.sl]
  | .headRegistersRead _ _ => [.host, .sl, .met, .sent]
  | .headPoll _ _ => [.sl]
  | .sampleProcess _ => [.host, .legal, .sl, .met, .nrg, .bil, .pq, .jnl, .cave, .sent]
  | .pqSubstitutedRefresh _ _ => [.host, .legal, .pq, .sent]
  | .tamperPersistence _ _ => [.host, .met, .nrg, .bil, .pq, .jnl, .sent]
  | .pilotWindowEnd _ _ => [.host, .legal, .sl, .met, .nrg, .pq, .jnl, .sent]
  | .verifySuspendTimeout _ _ => [.host, .legal, .sl, .met, .nrg, .pq, .jnl, .sent]
  | .legalClockWindow _ => [.host, .legal, .met, .pq, .jnl, .sent]
  | .calMeasureDurationEnd _ => [.host, .met]
  | .calMeasureTimeout _ => [.host, .met]
  | .pilotCaptureDone _ => [.host, .sl, .met, .jnl, .sent]
  | .pilotCaptureTimeout _ => [.host, .met]
  | .latch _ => [.host, .met, .nrg, .bil, .pq, .jnl, .sent]
  | .substitutedCycle _ => [.host, .nrg, .pq, .jnl, .sent]
  | .dcTickTimeout _ => [.nrg]
  | .closeNotice _ => [.nrg, .pq]
  | .openConfirmation _ => [.host, .legal, .met, .nrg, .bil, .pq, .jnl, .sent]
  | .billingStop _ => [.host, .met, .nrg, .bil, .pq, .jnl, .sent]
  | .pulseOutputEmit _ => [.nrg, .sent]
  | .pulseInputEdge _ _ => [.host, .legal, .met, .nrg, .jnl, .sent]
  | .crossCheckTimeout _ => [.host, .legal]
  | .supplyFailTrip => [.legal, .jnl]
  | .pfwAssert => [.legal, .jnl]
  | .earlyWarningSaveRepeat => [.jnl]
  | .supplyRecovered => [.legal, .jnl]
  | .pfwStuck => [.legal, .jnl]
  | .pfwRelease => [.legal]
  | .sessionSeal _ => [.host, .ses, .met, .nrg, .bil, .pq, .jnl, .fw, .sent]
  | .sealLoopSample _ => [.host, .legal, .met, .nrg, .bil, .pq, .jnl, .rind, .keys, .sent]
  | .signOn _ => [.legal]
  | .optIdentification => [.legal, .sent]
  | .optAcknowledgement _ _ => [.legal]
  | .optAckTimeout => [.legal]
  | .optDataMessage => [.legal, .sent]
  | .optDataMessageDone => [.legal]
  | .safetyCycle _ => [.sys, .host, .ses, .cave, .saf, .sp, .brk, .lk, .sent]
  | .safeInEdge _ _ => [.sys, .host, .ses, .cave, .saf, .sp, .brk, .chn, .msh, .sent]
  | .discrepancyTimeout _ => [.host, .ses, .cave, .saf, .sp, .brk, .sent]
  | .inputPatternCheck _ _ => [.host, .ses, .cave, .saf, .sp, .brk, .sent]
  | .safetyEccScrub _ _ => [.host, .ses, .cave, .saf, .sp, .brk, .lk, .sent]
  | .tableDigestCheck _ => [.host, .ses, .cave, .saf, .sp, .brk, .sent]
  | .watchdogQuestion => [.saf]
  | .watchdogWindowExpiry => [.host, .ses, .cave, .saf, .sp, .brk, .lk, .sent]
  | .oscillatorFault => [.host, .ses, .cave, .saf, .sp, .brk, .lk, .sent]
  | .railFault => [.host, .ses, .cave, .saf, .sp, .brk, .lk, .sent]
  | .comparatorSelftest _ => [.host, .ses, .cave, .saf, .sp, .brk, .sent]
  | .driverOffTest _ => [.host, .ses, .cave, .saf, .sp, .brk, .sent]
  | .dieTempCheck _ _ _ => [.sys, .host, .ses, .cave, .saf, .sp, .brk, .sent]
  | .serviceLossTimeout => [.host, .ses, .cave, .saf, .sp, .brk, .sent]
  | .heartbeat => [.host, .ses, .cave, .saf, .sp, .brk, .sent]
  | .closeReq _ => [.sys, .host, .ses, .cave, .saf, .sp, .brk, .sent]
  | .openReq _ => [.sys, .host, .ses, .cave, .saf, .sp, .brk, .sent]
  | .rampDone _ => [.host, .ses, .cave, .saf, .sp, .brk, .sent]
  | .selftestReq _ _ => [.sys, .host, .ses, .cave, .saf, .sp, .brk, .sent]
  | .brakeReleaseReq _ => [.sys, .host, .ses, .cave, .saf, .sp, .brk, .sent]
  | .outReq _ => [.sys, .host, .ses, .cave, .saf, .sp, .brk, .sent]
  | .resetReq _ => [.sys, .host, .ses, .cave, .saf, .sp, .brk, .sent]
  | .restartReq _ => [.sys, .host, .ses, .cave, .saf, .sp, .brk, .sent]
  | .siteState => [.sys, .host, .conf, .veh, .ses, .pwr, .pm, .lease, .legal, .sl, .met, .nrg, .bil, .jnl, .cave, .saf, .sp,
    .brk, .ls, .lk, .chn, .msh, .nfc, .sent, .free]
  | .portState _ => [.sys, .host, .conf, .veh, .ses, .pwr, .pm, .lease, .legal, .sl, .met, .nrg, .bil, .jnl, .cave, .saf, .sp,
    .brk, .ls, .lk, .chn, .msh, .nfc, .sent, .free]
  | .trip _ _ _ => [.sys, .host, .conf, .veh, .ses, .pwr, .pm, .lease, .legal, .sl, .met, .nrg, .bil, .jnl, .cave, .saf, .sp,
    .brk, .ls, .lk, .chn, .msh, .nfc, .sent, .free]
  | .feedback _ => [.sys, .host, .veh, .ses, .pwr, .pm, .sent]
  | .readings _ => [.sys, .host, .conf, .veh, .ses, .pwr, .pm, .lease, .legal, .sl, .met, .nrg, .bil, .jnl, .cave, .saf, .sp,
    .brk, .ls, .lk, .chn, .msh, .nfc, .sent, .free]
  | .logEntry _ => [.cave]
  | .answer _ _ _ => [.sys, .host, .conf, .veh, .ses, .pwr, .pm, .lease, .legal, .sl, .met, .nrg, .bil, .jnl, .cave, .saf, .sp,
    .brk, .ls, .lk, .chn, .msh, .nfc, .sent, .free]
  | .windowDeadline _ => [.host, .ses, .cave, .saf, .sp, .brk, .sent]
  | .closeConfirmTimeout _ => [.host, .ses, .cave, .saf, .sp, .brk, .sent]
  | .openConfirmTimeout _ => [.host, .ses, .cave, .saf, .sp, .brk, .sent]
  | .contactDisagreeTimeout _ => [.host, .ses, .cave, .saf, .sp, .brk, .sent]
  | .safetyRestartDone _ _ => [.host, .ses, .cave, .saf, .sp, .brk, .sent]
  | .safetyCpPeriod _ _ _ _ => [.host, .ses, .cave, .saf, .sp, .brk, .sent]
  | .imdHalfPeriodEnd _ _ _ => [.host, .ses, .cave, .saf, .sp, .brk, .sent]
  | .imdSlotRotate _ => [.saf, .sp]
  | .precloseTestEnd _ => [.host, .ses, .cave, .saf, .sp, .brk, .sent]
  | .rcmTrip _ => [.host, .ses, .cave, .saf, .sp, .brk, .sent]
  | .lockFilterExpiry _ => [.host, .ses, .cave, .saf, .sp, .brk, .sent]
  | .coilCurrentFault _ => [.host, .ses, .cave, .saf, .sp, .brk, .sent]
  | .brakeTestTimer _ => [.host, .ses, .cave, .saf, .sp, .brk, .sent]
  | .weldTestTimer _ => [.host, .ses, .cave, .saf, .sp, .brk, .sent]
  | .insulationSelftestEnd _ _ => [.host, .ses, .cave, .saf, .sp, .brk, .sent]
  | .lsOvercurrent _ => [.ls]
  | .lsRetryTimer _ => [.ls]
  | .lsBurstSuccess _ => [.ls]
  | .lsBurstWindowEnd _ => [.ls]
  | .lsThermalTrip _ => [.ls]
  | .lsThermalCooled _ => [.ls]
  | .lsShed => [.ls]
  | .vauxLow => [.ls, .lk]
  | .vauxUv => [.host, .ses, .cave, .saf, .sp, .brk, .ls, .lk, .sent]
  | .vauxRecovered => [.ls]
  | .vauxOvervoltage => [.host, .ses, .cave, .saf, .sp, .brk, .ls, .lk, .sent]
  | .lsRestoreGroup => [.ls]
  | .lsOpenLoadSample _ _ => [.ls]
  | .lspwmEdge _ _ _ _ => [.ls]
  | .lspwmStatic _ _ => [.ls]
  | .lkPeriod _ _ _ => [.ls, .lk]
  | .lkDriveEnd _ => [.lk]
  | .lkStall _ => [.lk]
  | .lkThermal _ => [.lk]
  | .lkBrakeEnd _ => [.lk]
  | .helloSend _ => [.chn, .sent]
  | .hello _ _ => [.chn, .msh, .sent]
  | .chainLinkTrained _ => [.chn, .msh, .sent]
  | .chainBadFrame _ _ => [.host, .chn, .msh, .sent]
  | .chainDegradedEnd _ => [.chn, .msh, .sent]
  | .chainLinkSilence _ => [.chn, .msh, .sent]
  | .chainPhyUp _ _ => [.chn, .msh, .sent]
  | .chainPhyDown _ => [.chn, .msh, .sent]
  | .delayMeasure _ => [.chn, .sent]
  | .delayReq _ _ _ _ => [.chn, .sent]
  | .delayRsp _ _ _ _ _ => [.chn]
  | .chainTxDone _ => [.fw, .chn, .msh, .sent]
  | .p0Repeat => [.chn, .sent]
  | .tripAdvice _ _ _ _ _ _ => [.host, .chn, .msh, .sent, .free]
  | .linkDown _ _ _ => [.host, .chn, .msh, .sent, .free]
  | .topology _ _ _ => [.host, .chn, .msh, .sent, .free]
  | .ringRestore => [.chn, .msh, .sent]
  | .electionStart => [.chn, .msh, .sent]
  | .candidate _ _ => [.host, .chn, .msh, .sent, .free]
  | .headClaimTimer => [.host, .lease, .fw, .chn, .msh, .sent]
  | .headClaim _ _ => [.host, .lease, .fw, .chn, .msh, .sent, .free]
  | .walk _ _ => [.host, .chn, .msh, .sent, .free]
  | .join _ _ => [.host, .chn, .msh, .sent, .free]
  | .assign _ _ _ => [.host, .chn, .msh, .sent, .free]
  | .table _ _ => [.host, .jnl, .chn, .msh, .sent, .free]
  | .tableBroadcast => [.lease, .jnl, .chn, .msh, .sent]
  | .joinRetry => [.chn, .msh, .sent]
  | .syncSend => [.chn, .msh, .sent]
  | .sync _ _ _ => [.time, .host, .chn, .msh, .sent, .free]
  | .timeUnsync => [.chn]
  | .siteConfig _ _ _ => [.host, .conf, .chn, .msh, .sent, .free]
  | .configAck _ _ => [.host, .chn, .msh, .sent, .free]
  | .siteConfigDeadline => [.conf, .jnl, .chn, .msh, .sent]
  | .actPropose _ _ => [.host, .fw, .chn, .msh, .sent, .free]
  | .actCommit _ _ => [.host, .jnl, .fw, .chn, .msh, .sent, .free]
  | .actQuery _ _ _ => [.host, .jnl, .fw, .chn, .msh, .sent, .free]
  | .activationTime _ => [.host, .ses, .legal, .cave, .keys, .fw, .saf, .sp, .brk, .chn, .msh, .sent]
  | .serviceSwapDone => [.host, .keys, .fw, .chn, .msh, .sent]
  | .trialPassed => [.fw]
  | .activationWaitTimeout => [.host, .fw, .chn, .msh, .sent]
  | .mirror _ _ => [.host, .chn, .msh, .sent, .free]
  | .fwOffer _ _ => [.host, .fw, .chn, .msh, .sent, .free]
  | .fwBlock _ _ _ _ => [.host, .fw, .chn, .msh, .sent, .free]
  | .fwNack _ _ _ _ => [.host, .fw, .chn, .msh, .sent, .free]
  | .fwReq _ => [.fw, .chn, .msh, .sent]
  | .romFwReq => [.chn, .sent]
  | .sleepPrepare _ _ => [.sys, .host, .chn, .msh, .sent, .free]
  | .sleepReady _ => [.sys, .host, .chn, .msh, .sent, .free]
  | .sleepNotReady _ _ => [.sys, .host, .chn, .msh, .sent, .free]
  | .sleepCommit _ _ => [.sys, .host, .chn, .msh, .sent, .free]
  | .sleepAbort _ => [.sys, .host, .chn, .msh, .sent, .free]
  | .sleepCancel _ => [.sys, .host, .chn, .msh, .sent, .free]
  | .wake _ _ => [.sys, .host, .chn, .msh, .sent, .free]
  | .meshChainFrame _ _ _ => [.sys, .time, .host, .conf, .veh, .pwr, .lease, .jnl, .fw, .chn, .msh, .sent, .free]
  | .msync _ _ _ => [.time, .chn, .msh, .sent, .free]
  | .msyncSend => [.msh]
  | .msyncLost => [.msh]
  | .nbr _ _ => [.msh, .sent]
  | .nbrSend => [.msh]
  | .tmap _ _ _ _ => [.msh, .sent]
  | .tmapSend _ _ => [.msh]
  | .meshMapExpiry _ => [.msh]
  | .phase _ _ => [.msh, .sent]
  | .phaseSend => [.msh]
  | .phaseFrameTimeout _ => [.msh]
  | .meshDelay _ _ _ _ _ => [.msh, .sent]
  | .meshDelaySend => [.msh]
  | .meshAck _ _ => [.msh]
  | .meshAckTimeout => [.msh]
  | .meshBadFrame => [.msh]
  | .meshContention => [.msh, .sent]
  | .splZcEdge _ _ => [.msh]
  | .splZcAbsent _ => [.msh]
  | .coexMaskChange => [.msh]
  | .ripeningComplete _ => [.jnl]
  | .halfZeroed _ => [.jnl]
  | .caveAckWrite => [.jnl]
  | .caveConfirm _ => [.jnl]
  | .caveRecordTake => [.host, .legal, .cave, .sent]
  | .caveStreamSamples _ => [.host, .cave, .sent]
  | .nvmeWriteComplete => [.host, .cave, .sent]
  | .caveFlush => [.sent]
  | .superblockWrite => [.cave, .sent]
  | .nvmeTimeout => [.host, .cave, .sent]
  | .nvmeControllerFatal => [.host, .cave, .sent]
  | .storLinkDown => [.host, .cave, .sent]
  | .caveFaultRetry _ => [.cave, .sent]
  | .caveWindowTrigger _ _ => [.host, .cave, .sent]
  | .caveWindowEnd _ _ => [.cave]
  | .tamperEvent _ => [.host, .veh, .legal, .met, .nrg, .bil, .pq, .jnl, .rind, .keys, .nfc, .sent]
  | .tamperSensorSample _ _ _ _ => [.host, .veh, .legal, .met, .nrg, .bil, .pq, .jnl, .rind, .keys, .nfc, .sent]
  | .batteryLoss => [.rind]
  | .vbatLow => [.rind, .keys]
  | .rtcAlarmExpiry => [.sys, .host, .keys, .chn, .msh, .sent]
  | .keySessionIdleExpiry _ _ => [.keys]
  | .vaultFixedTime _ => [.host, .keys, .sent]
  | .stagingWindowWrite _ _ _ => [.sys, .host, .fw, .chn, .msh, .sent, .free]
  | .stagingBodyComplete _ _ => [.host, .fw, .saf]
  | .stagingTimeout _ => [.host, .fw]
  | .nfcPoll _ _ => [.nfc]
  | .nfcPresenceCheck _ => [.nfc, .free]
  | .nfcHoldTimeout => [.nfc, .free]
  | .tagFieldOn => [.sys, .host, .chn, .msh, .nfc, .sent, .free]
  | .tagFieldLost => [.nfc]
  | .select _ => [.nfc, .sent, .free]
  | .readPage _ => [.nfc, .sent]
  | .verify _ => [.nfc, .sent]
  | .getChallenge => [.nfc, .sent, .free]
  | .mutualAuth _ => [.nfc, .sent]
  | .deselect => [.nfc]
  | .tagPageRewrite => [.nfc]
  | .frameBoundary => [.dsp, .free]
  | .legalViewRefresh => [.dsp]
  | .legalLineAlternate => [.dsp]
  | .legalViewCycle => [.dsp]
  | .vfEnableSet => [.sys, .host, .chn, .msh, .sent]
  | .tref10mEdge _ _ => [.sys, .host, .sent]
  | .vbatRestored => [.rind]
  | .glnVioLoss => [.host]
  | .glnVioReturn => [.host]
  | .vauxOvervoltageEnd => [.ls]
  | .offOpen _ _ => [.ls]
  | .driveWarning _ _ _ => [.cave]
  | .caveInitDone _ => [.cave]
  | .stagingRingRead _ _ _ => [.host, .fw, .sent]
  | .provisioning => [.rind, .keys, .free]
  | .finalTest => [.rind, .keys]
  | .mbxMbd0Read _ _ _ => [.sys, .host, .chn, .msh, .sent]
  | .clockGated _ => [.sys]
  | .clockStarted _ => [.sys]
  | .lockFbChange _ _ => [.sys, .host, .veh, .ses, .pwr, .pm, .cave, .lk, .sent]
  | .protocolError _ => [.sys, .host, .conf, .veh, .ses, .pwr, .pm, .lease, .legal, .sl, .met, .nrg, .bil, .jnl, .cave, .saf,
    .sp, .brk, .ls, .lk, .chn, .msh, .nfc, .sent, .free]
  | .badChannelMessage _ => [.sys]
  | .firewallAccess _ => [.sys]
  | .reqa _ => [.nfc, .sent]

end Sys2Proof.Machine
end

