-- ==== Sys2Proof/Safety.lean ====
section
/-! DEFINITION. What statements about runs are said in: outputs in their Dormant state, the parts of the state that belong to a
domain, and what the machine keeps. -/

namespace Sys2Proof.Machine

/-- Every output in its Dormant state: coils, brakes, SAFE_OUT, load switches and lock bridges off (R23, R35). -/
def State.dormant (s : State) : Prop :=
  s.sys.power = .dormant ∧ (∀ p k, ix (s.spAt p).coils k = false) ∧ (∀ b, (s.brkAt b).released = false) ∧ s.saf.outs = 0 ∧
  (∀ c, (s.lsCh c).commanded = false) ∧ ∀ p, (s.lkAt p).state = .off

/-- Only the host's side differs: every register, link and store of the block beside it is as before. -/
def hostOnly (s t : State) : Prop := t = { s with host := t.host }

/-- Only answers waiting for COMMAND_COMPLETE were added: exactly one, to the request, with the code. -/
def answered (s t : State) (r : Req) (code : Nat) : Prop := ∃ ws, t = s.answer r code ws

/-- A frame addressed to this unit, not its own, and no copy of one consumed in the last 100 ms (R422, R424). -/
def State.consumes (s : State) (h : ChHdr) (b : ChBody) : Bool :=
  s.addressed h b && (h.src == 0 || h.src != s.chn.addr) &&
  (b.type == 0x10 || !(s.chn.seen.any fun x => (s.time.chain ≤ x.2.2 + 100000000 : Bool) && x.1 == h.src && x.2.1 == h.seq))

/-- A frame that this unit takes now (R420, R422, R424): the chain is on, the frame came by the mesh or on a link that is UP at a
level this unit knows, and this unit consumes it. In Doze only SLEEP and WAKE are taken (R433). -/
def State.takes (s : State) (h : ChHdr) (b : ChBody) : Bool :=
  s.chainOn && (s.sys.power != .doze || b.type == 0x15 || b.type == 0x16) && s.consumes h b &&
  match h.port with
  | none => true
  | some k => (s.chLink k).state == .up && (h.level ≤ s.cfg.chain.levelCap : Bool) && b.definedAt h.level

/-- What reception of a frame leaves before its content acts: the counters, the forwarded copy and the memory of what was seen. -/
def State.received (s : State) (h : ChHdr) (b : ChBody) : State := s.chainRx h b id

/-- A mesh frame that this unit takes now (R450, R454, R456, R463): a member, not in Doze but for SLEEP and WAKE, not its own frame, sent to it over the link or to all,
and addressed to it, or to all and not taken before within 100 ms. -/
def State.meshTakes (s : State) (m : MHdr) (b : MBody) : Bool :=
  s.meshMember && (s.sys.power != .doze || b.ofSleep) && (m.linkDst == 255 || m.linkDst == s.chn.addr) && (m.src == 0 || m.src != s.chn.addr) &&
    (if m.dst == 255 then !(s.msh.seen.any fun x => (s.time.chain ≤ x.2.2 + 100000000 : Bool) && x.1 == m.src && x.2.1 == m.seq)
      else m.dst == s.chn.addr)

/-- What reception of a mesh frame leaves before its content acts. -/
def State.meshReceived (s : State) (m : MHdr) : State :=
  let s1 := (s.knowNbr m.linkSrc).modMsh fun x => { x with rx := satInc 0xFFFFFFFF x.rx }
  let s2 := if m.linkDst = 255 then s1 else s1.emit (.meshAck m.linkSrc m.seq (s.controlAck m.linkSrc m.seq))
  if m.dst = 255 then s2.modMsh fun x => { x with
    seen := (s.msh.seen.filter fun y => s.time.chain ≤ y.2.2 + 100000000) ++ [(m.src, m.seq, s.time.chain)] }
  else s2

/-- A frame taken and its content's effect; a frame to all goes on (R450). -/
def State.meshAct (s : State) (m : MHdr) (b : MBody) (eat : State → State) : State :=
  if m.dst = 255 then (eat (s.meshReceived m)).meshPass m b else eat (s.meshReceived m)

/-- What every step keeps: the display's frame memory and overdrive in their canonical form, the life cycle one of its five
states with no seal count before FIELD (R507), the counts within their widths (R301, R503), and the audit logs within theirs
(R501, R518). -/
structure State.inv (s : State) : Prop where
  frame : cellsWf s.dsp.frame = true
  boost : cellsWf s.dsp.boost = true
  lifecycle : s.rind.lifecycle ≤ 4
  fresh : s.rind.lifecycle ≤ 1 → s.rind.sealCount = 0
  sealCount : s.rind.sealCount ≤ 0xFFFFFFFF
  tamper : ∀ k, ix s.rind.tamper k ≤ 0xFFFF
  rindLog : s.keys.rindLog.length ≤ 16
  log : s.keys.log.length ≤ 1024

end Sys2Proof.Machine
end

