-- ==== Sys2Proof/WellFormed.lean ====
section
/-! DEFINITION. Well-formed commands: operands within the widths and lengths the spec gives what carries them. -/

namespace Sys2Proof

/-- The fields of a descriptor: a 64-bit address, a length of 1 to 0x10_0000 bytes with no more bytes read than that, and
TAG of 16 bits and STATUS of 8 (R95). -/
def Desc.wf (d : Desc) : Bool :=
  d.addr < 2 ^ 64 && d.tag < 2 ^ 16 && d.status < 2 ^ 8 && d.doneLen < 2 ^ 32 && 1 ≤ d.len && d.len ≤ 0x100000 && d.data.length ≤ d.len

/-- A message is 8 to 16 registers long (R85). -/
def Req.wf (r : Req) : Bool := 8 ≤ r.words.length && r.words.length ≤ 16 && r.descs.all Desc.wf

/-- Field widths of the chain header (R420). -/
def ChHdr.wf (h : ChHdr) : Bool :=
  h.level < 16 && h.dst < 256 && h.src < 256 && h.hops < 256 && h.seq < 2 ^ 32 && h.epoch < 2 ^ 32

/-- A module serial has 128 bits (R112). -/
def ChKey.wf (k : ChKey) : Bool := k.role < 256 && k.serial < 2 ^ 128

def Hello.wf (x : Hello) : Bool := x.serial < 2 ^ 128 && x.addr < 256 && x.key.wf

/-- A unit's report (R430). -/
def ReportFrame.wf (r : ReportFrame) : Bool := r.serial < 2 ^ 128 && r.levelMin ≤ r.levelMax && r.digest < 2 ^ 32

/-- GRANT holds one entry per unit of the chain (R417, R430). -/
def GrantFrame.wf (g : GrantFrame) : Bool := g.entries.length ≤ 254 && g.entries.all fun e => e.addr < 255 && e.causes < 16

/-- Class, digest and unit of an activation (R536). -/
def ActItem.wf (a : ActItem) : Bool := a.cls < 3 && a.digest < 2 ^ 384 && a.unit < 256

/-- Rows of a table frame: serials of 128 bits, at addresses of the frame (R417). -/
def TableFrame.wf (x : TableFrame) : Bool := x.rows.all fun r => r.1 < 2 ^ 128 && x.first ≤ r.2 && r.2 < min 255 (x.first + 60)

/-- A header and a payload of 0 to 1 024 bytes in whole words (R420). -/
def ChainBad.wf (x : ChainBad) : Bool := x.through.all fun b => 16 ≤ b.length && b.length ≤ 1040 && b.length % 4 == 0

/-- Header fields of a mesh frame (R450). -/
def MHdr.wf (m : MHdr) : Bool :=
  m.linkSrc < 256 && m.linkDst < 256 && m.src < 256 && m.dst < 256 && m.hops ≤ 6 && m.route.length ≤ 6 && m.idx ≤ 6 && m.seq < 2 ^ 16

/-- FIRST of a block has 48 bits (R486). -/
def StreamBlock.wf (b : StreamBlock) : Bool := b.num * 2688 < 2 ^ 48

/-- A card's identifier has at most 10 bytes (R553). -/
def CardInfo.wf (c : CardInfo) : Bool := c.uid.length ≤ 10

/-- A drive's superblocks are absent, this module's or another's (R482). -/
def DriveInfo.wf (d : DriveInfo) : Bool := d.format < 3

/-- Offset in a guest's window (R52), or past it in the MSI-X table of BAR2. PRESUMED (log 180). -/
def offWf (off : Nat) : Bool := off < 0x11000
/-- A queue number (R57). -/
def queueWf (q : Nat) : Bool := q < 8192
/-- A chain or mesh address (R420). -/
def addrWf (a : Nat) : Bool := a < 256
/-- SEQ of a power-module frame (R186). -/
def pmSeqWf (n : Nat) : Bool := n < 256
/-- A MAC address (R136). -/
def macWf (n : Nat) : Bool := n < 2 ^ 48
/-- A module serial. -/
def serialWf (n : Nat) : Bool := n < 2 ^ 128

/-- A command whose operands the carriers of the spec can hold. -/
def wellFormed (i : Instr) : Bool :=
  match i with
  | .mbxGo _ _ _ => true
  | .messageFetch _ _ => true
  | .commandStart _ q => queueWf q
  | .commandComplete _ q => queueWf q
  | .responseToMailbox _ _ => true
  | .mbxResponseRead _ _ _ => true
  | .mbxAbortClear _ _ _ => true
  | .finalNotice _ => true
  | .registerWrite _ _ off _ => offWf off
  | .pairLowRead _ off => offWf off
  | .glnLowWordRead off => offWf off
  | .accessViolation _ _ off _ be _ => offWf off && decide (be < 16)
  | .poisonedTlp _ => true
  | .numvfsWrite _ => true
  | .vfEnableClear => true
  | .flr _ => true
  | .perstAssert => true
  | .hostLinkDown => true
  | .hostLinkTrained => true
  | .sysGuestHbWrite _ _ => true
  | .heartbeatExpiry _ => true
  | .guestReset _ => true
  | .irqStatusClear _ _ _ => true
  | .irqArm _ _ => true
  | .msixVectorUnmask _ _ => true
  | .sysViolClr _ => true
  | .pfcSnap _ => true
  | .pfcChipSnap _ => true
  | .pfcFreeze _ _ => true
  | .pfcPreset _ _ _ => true
  | .pfcOvfClear _ _ => true
  | .queDbH2d _ _ => true
  | .queDbD2hClear _ _ => true
  | .txnTimeout _ => true
  | .vpEventRead _ _ _ => true
  | .sesEventRead _ _ _ => true
  | .pwrEventRead _ _ _ => true
  | .metEventRead _ _ _ => true
  | .nrgEventRead _ _ _ => true
  | .bilEventRead _ _ _ => true
  | .bilUnitEventRead _ _ => true
  | .pqEventRead _ _ _ => true
  | .pqSiteEventRead _ _ => true
  | .safSiteEventRead _ _ => true
  | .safEventRead _ _ _ => true
  | .imdEventRead _ _ _ => true
  | .brkEventRead _ _ => true
  | .lsEventRead _ _ => true
  | .chnEventRead _ _ => true
  | .mshEventRead _ _ => true
  | .jnlEventRead _ _ => true
  | .cavEventRead _ _ => true
  | .keyEventRead _ _ => true
  | .updEventRead _ _ => true
  | .nfcEventRead _ _ => true
  | .dspEventRead _ _ => true
  | .getDeviceInfo r => r.wf
  | .getImageDigest r => r.wf
  | .echo r => r.wf
  | .getConfigState r => r.wf
  | .beginConfig r => r.wf
  | .commitConfig r => r.wf
  | .abortConfig r => r.wf
  | .setTrefMode r => r.wf
  | .acceptTrefPhase r => r.wf
  | .requestSiteSleep r => r.wf
  | .resetChip r => r.wf
  | .getCommandCost r => r.wf
  | .getQueueState r => r.wf
  | .setQueueRange r => r.wf
  | .getGuestConfig r => r.wf
  | .setGuestCaps r => r.wf
  | .setGuestQos r => r.wf
  | .setGuestHeartbeat r => r.wf
  | .setGlnBind r => r.wf
  | .resetGuest r => r.wf
  | .relayMessage r => r.wf
  | .getPortStatus r => r.wf
  | .getVehicleInfo r => r.wf
  | .getLinkStats r => r.wf
  | .getCertRequest r => r.wf
  | .claimPort r => r.wf
  | .releasePort r => r.wf
  | .setPortConfig r => r.wf
  | .setAcCurrent r => r.wf
  | .driveLock r => r.wf
  | .resetPort r => r.wf
  | .loadTrustAnchor r => r.wf
  | .certExchangeReply r => r.wf
  | .getSessionStatus r => r.wf
  | .getSessionSummary r => r.wf
  | .authoriseSession r => r.wf
  | .addCredit r => r.wf
  | .stopSession r => r.wf
  | .clearFault r => r.wf
  | .setSessionConfig r => r.wf
  | .getPowerStatus r => r.wf
  | .getLeaseStatus r => r.wf
  | .getConverterLimits r => r.wf
  | .getPmLinkStats r => r.wf
  | .setPowerConfig r => r.wf
  | .setPortLimit r => r.wf
  | .setLeaseConfig r => r.wf
  | .setSitePower r => r.wf
  | .setPmLinkConfig r => r.wf
  | .reduceSitePower r => r.wf
  | .getMetrologyStatus r => r.wf
  | .getChannelReading r => r.wf
  | .getVerification r => r.wf
  | .getHeadInfo r => r.wf
  | .getCalCoeff r => r.wf
  | .setMetrologyConfig r => r.wf
  | .beginCalibration r => r.wf
  | .setCalCoeff r => r.wf
  | .calMeasure r => r.wf
  | .endCalibration r => r.wf
  | .abortCalibration r => r.wf
  | .getEnergyStatus r => r.wf
  | .getRegisters r => r.wf
  | .getAccumulator r => r.wf
  | .getSupplyStatus r => r.wf
  | .setEnergyConfig r => r.wf
  | .setPulseInput r => r.wf
  | .setSupplyConfig r => r.wf
  | .setPulseSource r => r.wf
  | .runCrossCheck r => r.wf
  | .getBillingStatus r => r.wf
  | .getChainHead r => r.wf
  | .getSessionRecord r => r.wf
  | .getSealStatus r => r.wf
  | .getLegalPubkey r => r.wf
  | .setBillingConfig r => r.wf
  | .setTariffSchedule r => r.wf
  | .switchTariff r => r.wf
  | .setWallClock r => r.wf
  | .getSealChallenge r => r.wf
  | .reseal r => r.wf
  | .getOpticalStatus r => r.wf
  | .setOpticalConfig r => r.wf
  | .getPqStatus r => r.wf
  | .getTamperStatus r => r.wf
  | .getPqEvents r => r.wf
  | .getTamperRecord r => r.wf
  | .setPqConfig r => r.wf
  | .getSafetyStatus r => r.wf
  | .getPortSafety r => r.wf
  | .getTripLog r => r.wf
  | .getSafetyTableInfo r => r.wf
  | .resetTrip r => r.wf
  | .requestSafetyRestart r => r.wf
  | .requestSafeOut r => r.wf
  | .getEarthStatus r => r.wf
  | .getImdGroup r => r.wf
  | .runInsulationSelftest r => r.wf
  | .getActuatorStatus r => r.wf
  | .runWeldTest r => r.wf
  | .runBrakeTest r => r.wf
  | .releaseBrake r => r.wf
  | .applyBrake r => r.wf
  | .getLsStatus r => r.wf
  | .getLsChannel r => r.wf
  | .getLkStatus r => r.wf
  | .setLsOutput r => r.wf
  | .clearLsFault r => r.wf
  | .setLsConfig r => r.wf
  | .setLsSupplyConfig r => r.wf
  | .setLkConfig r => r.wf
  | .getChainStatus r => r.wf
  | .getChainMembers r => r.wf
  | .getLinkCounters r => r.wf
  | .getMirroredEvents r => r.wf
  | .setChainConfig r => r.wf
  | .removeUnit r => r.wf
  | .sendTripAdvice r => r.wf
  | .clearLinkCounters r => r.wf
  | .getMeshStatus r => r.wf
  | .getMeshNeighbours r => r.wf
  | .getToneMap r => r.wf
  | .getPhaseMap r => r.wf
  | .setMeshConfig r => r.wf
  | .setCoexMask r => r.wf
  | .clearMeshCounters r => r.wf
  | .getJournalStatus r => r.wf
  | .getCaveStatus r => r.wf
  | .findCaveRecord r => r.wf
  | .readWaveform r => r.wf
  | .readCaveRaw r => r.wf
  | .setCaveConfig r => r.wf
  | .formatCave r => r.wf
  | .markWindow r => r.wf
  | .getKeyStatus r => r.wf
  | .getSlotInfo r => r.wf
  | .getPublicKey r => r.wf
  | .getAttestation r => r.wf
  | .getAuditLog r => r.wf
  | .generateKey r => r.wf
  | .importKey r => r.wf
  | .exportKey r => r.wf
  | .deleteKey r => r.wf
  | .signDigest r => r.wf
  | .verifySignature r => r.wf
  | .openKeySession r => r.wf
  | .closeKeySession r => r.wf
  | .setRtcAlarm r => r.wf
  | .renewRoot r => r.wf
  | .retireDevice r => r.wf
  | .getUpdateStatus r => r.wf
  | .beginStaging r => r.wf
  | .abortStaging r => r.wf
  | .scheduleActivation r => r.wf
  | .cancelActivation r => r.wf
  | .setUpdateConfig r => r.wf
  | .getNfcStatus r => r.wf
  | .setNfcConfig r => r.wf
  | .transceiveApdu r _ => r.wf
  | .releaseCard r => r.wf
  | .setTagPublic r => r.wf
  | .setTagSecrets r => r.wf
  | .resetTagLock r => r.wf
  | .getDisplayStatus r => r.wf
  | .setDisplayConfig r => r.wf
  | .loadOverdrive r => r.wf
  | .updateRegion r => r.wf
  | .setPanelPower r => r.wf
  | .selectLegalView r => r.wf
  | .powerOnReset _ => true
  | .porRelease => true
  | .safetyInitDone _ => true
  | .legalStartDone _ _ _ => true
  | .serviceImageStart _ => true
  | .configJournalReplay _ _ => true
  | .chainJoinDone => true
  | .chipReset => true
  | .serviceWatchdogExpiry => true
  | .eccUncorrectable => true
  | .clockDeviation => true
  | .sleepAnswerTimeout => true
  | .sleepPointOfNoReturn => true
  | .dozeEntry => true
  | .dozeWake _ => true
  | .trefPpsEdge _ _ => true
  | .trefPpsTimeout => true
  | .tref10mLoss => true
  | .rateFaultClear => true
  | .cpPeriod _ _ _ => true
  | .cpInvalidTimeout _ => true
  | .ppMeasurement _ _ => true
  | .cmSlacParmReq _ _ mac => macWf mac
  | .cmStartAttenChar _ _ => true
  | .cmMnbcSound _ _ _ => true
  | .soundingComplete _ => true
  | .cmValidate _ _ _ => true
  | .cmSlacMatchReq _ _ => true
  | .cmSetKeyCnf _ => true
  | .slacTimerExpiry _ => true
  | .slacInitTimeout _ => true
  | .linkRetryEnd _ => true
  | .basicFallbackEnd _ => true
  | .t1sFirstFrame _ _ mac => macWf mac
  | .sdpRequest _ _ => true
  | .supportedAppProtocol _ _ _ _ => true
  | .tcpClosed _ => true
  | .protocolSequenceTimeout _ => true
  | .authorizationReq _ => true
  | .contractChainPresented _ _ _ _ _ => true
  | .contract _ => true
  | .certInstallRequest _ _ => true
  | .certReplyTimeout _ => true
  | .cableCheckReq _ => true
  | .vehicleTarget _ _ => true
  | .vehiclePause _ => true
  | .vehicleResume _ => true
  | .vehicleStop _ => true
  | .lockPulseEnd _ => true
  | .lockFeedbackTimeout _ => true
  | .lockAttemptTimer _ => true
  | .legalSessionOpen _ => true
  | .authTimeout _ => true
  | .preauthLapsed _ => true
  | .prechargeTimeout _ => true
  | .rampTimeout _ => true
  | .pauseLimit _ => true
  | .linkLostGrace _ => true
  | .selftestDue _ _ => true
  | .selftestOverdue _ => true
  | .sealedReport _ => true
  | .legalGap _ => true
  | .creditOut _ => true
  | .legalReading _ => true
  | .legalState => true
  | .stepInstant _ => true
  | .runAheadReplan _ => true
  | .recallRepeat _ => true
  | .pmAck _ _ seq _ _ => pmSeqWf seq
  | .pmStatus _ _ seq _ => pmSeqWf seq
  | .pmLimits _ _ seq _ => pmSeqWf seq
  | .pmFault _ _ seq _ _ => pmSeqWf seq
  | .pmBadFrame _ => true
  | .pmSyncSend _ => true
  | .pmRxSilence _ => true
  | .pmAckTimeout _ => true
  | .pmLinkRetrain _ => true
  | .powerEpochStart => true
  | .reportSend => true
  | .grantCompute => true
  | .grantBroadcast => true
  | .report h rep => h.wf && rep.wf
  | .grant h gr => h.wf && gr.wf
  | .reduce h _ _ => h.wf
  | .reduceReq h _ _ => h.wf
  | .reduceEnd => true
  | .sampleFrameSend => true
  | .upstreamFrame _ _ body crc => body.length == 251 && crc.length == 4
  | .upstreamFrameLate _ => true
  | .slLostFramesLimit _ => true
  | .slGoodFrameRun _ => true
  | .slTrainingTimeout _ => true
  | .slStallTimeout _ => true
  | .headRegistersRead _ _ => true
  | .headPoll _ order => order.isPerm [0, 1, 2, 3, 4, 5, 6, 7, 8, 13, 14]
  | .sampleProcess _ => true
  | .pqSubstitutedRefresh _ _ => true
  | .tamperPersistence _ _ => true
  | .pilotWindowEnd _ _ => true
  | .verifySuspendTimeout _ _ => true
  | .legalClockWindow _ => true
  | .calMeasureDurationEnd _ => true
  | .calMeasureTimeout _ => true
  | .pilotCaptureDone _ => true
  | .pilotCaptureTimeout _ => true
  | .latch _ => true
  | .substitutedCycle _ => true
  | .dcTickTimeout _ => true
  | .closeNotice _ => true
  | .openConfirmation _ => true
  | .billingStop _ => true
  | .pulseOutputEmit _ => true
  | .pulseInputEdge _ _ => true
  | .crossCheckTimeout _ => true
  | .supplyFailTrip => true
  | .pfwAssert => true
  | .earlyWarningSaveRepeat => true
  | .supplyRecovered => true
  | .pfwStuck => true
  | .pfwRelease => true
  | .sessionSeal _ => true
  | .sealLoopSample _ => true
  | .signOn _ => true
  | .optIdentification => true
  | .optAcknowledgement _ _ => true
  | .optAckTimeout => true
  | .optDataMessage => true
  | .optDataMessageDone => true
  | .safetyCycle _ => true
  | .safeInEdge _ _ => true
  | .discrepancyTimeout _ => true
  | .inputPatternCheck _ _ => true
  | .safetyEccScrub _ _ => true
  | .tableDigestCheck _ => true
  | .watchdogQuestion => true
  | .watchdogWindowExpiry => true
  | .oscillatorFault => true
  | .railFault => true
  | .comparatorSelftest _ => true
  | .driverOffTest _ => true
  | .dieTempCheck _ _ _ => true
  | .serviceLossTimeout => true
  | .heartbeat => true
  | .closeReq _ => true
  | .openReq _ => true
  | .rampDone _ => true
  | .selftestReq _ _ => true
  | .brakeReleaseReq _ => true
  | .outReq _ => true
  | .resetReq _ => true
  | .restartReq _ => true
  | .siteState => true
  | .portState _ => true
  | .trip _ _ _ => true
  | .feedback _ => true
  | .readings _ => true
  | .logEntry entry => entry.length == 16
  | .answer _ _ _ => true
  | .windowDeadline _ => true
  | .closeConfirmTimeout _ => true
  | .openConfirmTimeout _ => true
  | .contactDisagreeTimeout _ => true
  | .safetyRestartDone _ _ => true
  | .safetyCpPeriod _ _ _ _ => true
  | .imdHalfPeriodEnd _ _ _ => true
  | .imdSlotRotate _ => true
  | .precloseTestEnd _ => true
  | .rcmTrip _ => true
  | .lockFilterExpiry _ => true
  | .coilCurrentFault _ => true
  | .brakeTestTimer _ => true
  | .weldTestTimer _ => true
  | .insulationSelftestEnd _ _ => true
  | .lsOvercurrent _ => true
  | .lsRetryTimer _ => true
  | .lsBurstSuccess _ => true
  | .lsBurstWindowEnd _ => true
  | .lsThermalTrip _ => true
  | .lsThermalCooled _ => true
  | .lsShed => true
  | .vauxLow => true
  | .vauxUv => true
  | .vauxRecovered => true
  | .vauxOvervoltage => true
  | .lsRestoreGroup => true
  | .lsOpenLoadSample _ _ => true
  | .lspwmEdge _ _ _ _ => true
  | .lspwmStatic _ _ => true
  | .lkPeriod _ _ _ => true
  | .lkDriveEnd _ => true
  | .lkStall _ => true
  | .lkThermal _ => true
  | .lkBrakeEnd _ => true
  | .helloSend _ => true
  | .hello _ x => x.wf
  | .chainLinkTrained _ => true
  | .chainBadFrame _ x => x.wf
  | .chainDegradedEnd _ => true
  | .chainLinkSilence _ => true
  | .chainPhyUp _ _ => true
  | .chainPhyDown _ => true
  | .delayMeasure _ => true
  | .delayReq _ _ _ _ => true
  | .delayRsp _ _ _ _ _ => true
  | .chainTxDone _ => true
  | .p0Repeat => true
  | .tripAdvice h _ _ _ _ _ => h.wf
  | .linkDown h unit _ => h.wf && addrWf unit
  | .topology h _ _ => h.wf
  | .ringRestore => true
  | .electionStart => true
  | .candidate h key => h.wf && key.wf
  | .headClaimTimer => true
  | .headClaim h key => h.wf && key.wf
  | .walk h next => h.wf && addrWf next
  | .join h serial => h.wf && serialWf serial
  | .assign h serial addr => h.wf && serialWf serial && addrWf addr
  | .table h x => h.wf && x.wf
  | .tableBroadcast => true
  | .joinRetry => true
  | .syncSend => true
  | .sync h _ _ => h.wf
  | .timeUnsync => true
  | .siteConfig h _ _ => h.wf
  | .configAck h _ => h.wf
  | .siteConfigDeadline => true
  | .actPropose h a => h.wf && a.wf
  | .actCommit h a => h.wf && a.wf
  | .actQuery h a _ => h.wf && a.wf
  | .activationTime _ => true
  | .serviceSwapDone => true
  | .trialPassed => true
  | .activationWaitTimeout => true
  | .mirror h entry => h.wf && decide (entry.length ≤ 32)
  | .fwOffer h header => h.wf && header.length == 512
  | .fwBlock h _ _ _ => h.wf
  | .fwNack h _ _ _ => h.wf
  | .fwReq _ => true
  | .romFwReq => true
  | .sleepPrepare h _ => h.wf
  | .sleepReady h => h.wf
  | .sleepNotReady h _ => h.wf
  | .sleepCommit h _ => h.wf
  | .sleepAbort h => h.toChHdr.wf
  | .sleepCancel h => h.wf
  | .wake h _ => h.wf
  | .meshChainFrame m h _ => m.wf && h.wf
  | .msync m _ _ => m.wf
  | .msyncSend => true
  | .msyncLost => true
  | .nbr m _ => m.wf
  | .nbrSend => true
  | .tmap m _ _ _ => m.wf
  | .tmapSend nbr _ => addrWf nbr
  | .meshMapExpiry nbr => addrWf nbr
  | .phase m _ => m.wf
  | .phaseSend => true
  | .phaseFrameTimeout nbr => addrWf nbr
  | .meshDelay m _ _ _ _ => m.wf
  | .meshDelaySend => true
  | .meshAck _ _ => true
  | .meshAckTimeout => true
  | .meshBadFrame => true
  | .meshContention => true
  | .splZcEdge _ _ => true
  | .splZcAbsent _ => true
  | .coexMaskChange => true
  | .ripeningComplete _ => true
  | .halfZeroed _ => true
  | .caveAckWrite => true
  | .caveConfirm _ => true
  | .caveRecordTake => true
  | .caveStreamSamples b => b.wf
  | .nvmeWriteComplete => true
  | .caveFlush => true
  | .superblockWrite => true
  | .nvmeTimeout => true
  | .nvmeControllerFatal => true
  | .storLinkDown => true
  | .caveFaultRetry _ => true
  | .caveWindowTrigger _ _ => true
  | .caveWindowEnd _ _ => true
  | .tamperEvent _ => true
  | .tamperSensorSample _ _ _ _ => true
  | .batteryLoss => true
  | .vbatLow => true
  | .rtcAlarmExpiry => true
  | .keySessionIdleExpiry _ _ => true
  | .vaultFixedTime _ => true
  | .stagingWindowWrite _ _ _ => true
  | .stagingBodyComplete _ _ => true
  | .stagingTimeout _ => true
  | .nfcPoll _ cards => cards.all CardInfo.wf
  | .nfcPresenceCheck _ => true
  | .nfcHoldTimeout => true
  | .tagFieldOn => true
  | .tagFieldLost => true
  | .select _ => true
  | .readPage _ => true
  | .verify _ => true
  | .getChallenge => true
  | .mutualAuth _ => true
  | .deselect => true
  | .tagPageRewrite => true
  | .frameBoundary => true
  | .legalViewRefresh => true
  | .legalLineAlternate => true
  | .legalViewCycle => true
  | .vfEnableSet => true
  | .tref10mEdge _ _ => true
  | .vbatRestored => true
  | .glnVioLoss => true
  | .glnVioReturn => true
  | .vauxOvervoltageEnd => true
  | .offOpen _ _ => true
  | .driveWarning _ _ _ => true
  | .caveInitDone drive => drive.all DriveInfo.wf
  | .stagingRingRead _ _ d => d.wf
  | .provisioning => true
  | .finalTest => true
  | .mbxMbd0Read _ _ _ => true
  | .clockGated _ => true
  | .clockStarted _ => true
  | .lockFbChange _ _ => true
  | .protocolError _ => true
  | .badChannelMessage _ => true
  | .firewallAccess _ => true
  | .reqa _ => true

end Sys2Proof
end

