-- ==== Sys2Proof/Certificates/Slice0/Obligations.lean ====
section
/-! DEFINITION. The statements for the provers. In a statement about commands each clause is about the rows named above it, with
the rules that give them; a clause whose conclusion is `exec … = .next …` says that the command completes, where and with what. -/

open Sys2Proof Sys2Proof.Machine

/-- A step runs the command at the front of the queue. -/
def Obligations.StepRunsTheFrontCommand : Prop :=
  (∀ (c : Instr) (rest : List Instr) (s : State), s.pending = c :: rest → step s = exec c { s with pending := rest })

/-- On an empty queue a step lets one microsecond pass. The step’s length is the model’s own choice (log entry 3). -/
def Obligations.EmptyQueueLetsTimePass : Prop :=
  (∀ (s : State), s.pending = [] → s.sys.power ≠ .dormant → ∃ t, step s = .next t ∧ t.time.legalUs = s.time.legalUs + 1 ∧
      t.time.safetyUs = s.time.safetyUs + 1 ∧ (s.rind.counting = true → t.rind.rtcUs = s.rind.rtcUs + 1) ∧
      s.sameBut [.sys, .time, .host, .rind, .chn, .sent] t) ∧
  (∀ (s : State), s.pending = [] → s.sys.power = .dormant → ∃ t, step s = .next t ∧ s.sameBut [.rind] t ∧
      (s.rind.counting = true → t.rind.rtcUs = s.rind.rtcUs + 1))

/-- Every command ends in a next state. -/
def Obligations.EveryCommandIsTaken : Prop :=
  (∀ (c : Instr) (s : State), ∃ t, exec c s = .next t)

/-- The frame of every command: parts it does not name are unchanged. -/
def Obligations.CommandsWriteTheirPartsAlone : Prop :=
  (∀ (c : Instr) (s t : State), exec c s = .next t → s.sameBut (writes c) t) ∧
  (∀ (c : Instr) (s t : State), exec c s = .next t → t.pending = s.pending)

/-- The machine’s invariant holds at reset. -/
def Obligations.InvariantAtReset : Prop :=
  (State.reset.inv)

/-- Every step keeps the machine’s invariant. -/
def Obligations.StepsKeepTheInvariant : Prop :=
  (∀ (s t : State), s.inv → step s = .next t → t.inv)

/-- Only the events the spec names move the life cycle. -/
def Obligations.LifeCycleMoves : Prop :=
  (∀ (s t : State), step s = .next t → t.rind.lifecycle = s.rind.lifecycle ∨
      (s.rind.lifecycle = 0 ∧ t.rind.lifecycle = 1 ∧ s.pending.head? = some .provisioning) ∨
      (s.rind.lifecycle = 1 ∧ t.rind.lifecycle = 2 ∧ s.pending.head? = some .finalTest ∧ s.rind.loopOpen = false) ∨
      (s.rind.lifecycle = 2 ∧ t.rind.lifecycle = 3 ∧ (∃ x, s.pending.head? = some (.sealLoopSample x) ∧ (10000 < x.ohm ∨ x.gnd < 100000))) ∨
      (s.rind.lifecycle = 2 ∧ t.rind.lifecycle = 3 ∧ s.pending.head? = some .porRelease ∧ (s.rind.batteryLost = true ∨ s.rind.shipCopy = true)) ∨
      (s.rind.lifecycle = 3 ∧ t.rind.lifecycle = 2 ∧ ∃ r, s.pending.head? = some (.reseal r)) ∨
      (s.rind.lifecycle = 3 ∧ t.rind.lifecycle = 4 ∧ ∃ r, s.pending.head? = some (.retireDevice r)))

/-- The seal count, tamper counts, root generation and rollback floors never fall. -/
def Obligations.CountsNeverFall : Prop :=
  (∀ (s t : State), s.inv → step s = .next t → s.rind.sealCount ≤ t.rind.sealCount ∧ (∀ k, ix s.rind.tamper k ≤ ix t.rind.tamper k) ∧
      s.rind.rootGen ≤ t.rind.rootGen ∧ ∀ c, ix s.fw.floor c ≤ ix t.fw.floor c)

/-- A chip reset leaves the metrology, the records, Rind and the displayed frame. -/
def Obligations.ChipResetLeavesLegal : Prop :=
  -- CHIP_RESET (R30)
  (∀ (s : State), s.sys.power ≠ .dormant → ∃ t, exec .chipReset s = .next t ∧ t.rind = s.rind ∧ t.sl = s.sl ∧ t.jnl.legal = s.jnl.legal ∧
      t.legal = { s.legal with bilEv := Vector.replicate 16 0, pqEv := Vector.replicate 16 0 } ∧
      (∀ p, t.metAt p = { s.metAt p with ev := Vector.replicate 16 0 }) ∧ (∀ p, t.nrgAt p = { s.nrgAt p with ev := Vector.replicate 16 0 }) ∧
      (∀ p, t.bilAt p = { s.bilAt p with
        ev := Vector.replicate 16 0
        ses := if s.legalRun && s.openOk p then (s.bilAt p).ses.map fun r => { r with sealDue := true } else (s.bilAt p).ses }) ∧ ∀ p, t.pqAt p = { s.pqAt p with ev := Vector.replicate 16 0 }) ∧
  -- CHIP_RESET (R30)
  (∀ (s : State), s.sys.power ≠ .dormant → ∃ t, exec .chipReset s = .next t ∧ t.sys.chipCause = 1 ∧
      t.sys.chipResets = satInc 0xFFFF s.sys.chipResets ∧ t.sys.porCause = s.sys.porCause ∧ t.sys.porResets = s.sys.porResets ∧
      t.time.legalUs = s.time.legalUs ∧ t.time.safetyUs = s.time.safetyUs ∧ t.dsp.frame = s.dsp.frame ∧ t.saf.serviceLost = true)

/-- Causes and counts of resets. Formalises R34. -/
def Obligations.ResetCausesAndCounts : Prop :=
  (∀ (k : Nat) (s : State), s.sys.power ≠ .dormant → (s.chipReset k).sys.chipCause = k ∧
      (s.chipReset k).sys.chipResets = satInc 0xFFFF s.sys.chipResets ∧ (s.chipReset k).sys.porCause = s.sys.porCause ∧
      (s.chipReset k).sys.porResets = s.sys.porResets) ∧
  -- RESET_CHIP (R120)
  (∀ (r : Req) (s : State), r.fromSystem = true → r.word 2 = w32 0x8128 → exec (.resetChip r) s = .next (s.chipReset 6)) ∧
  -- POWER_ON_RESET (R23)
  (∀ (cause : Fin 3) (s : State), s.sys.power ≠ .dormant → ∃ t, exec (.powerOnReset cause) s = .next t ∧ t.sys.porCause = cause.1 ∧
      t.sys.chipCause = s.sys.chipCause ∧ t.sys.chipResets = s.sys.chipResets ∧ t.sys.porResets = s.sys.porResets) ∧
  -- POR_RELEASE (R35)
  (∀ (s : State), s.sys.power = .dormant → ∃ t, exec .porRelease s = .next t ∧ t.sys.porCause = s.sys.porCause ∧
      t.sys.porResets = satInc 0xFFFF s.sys.porResets ∧ t.sys.chipCause = 0 ∧ t.sys.chipResets = 0) ∧
  -- GUEST_RESET (R76)
  (∀ (g : Guest) (s t : State), exec (.guestReset g) s = .next t → t.sys = s.sys)

/-- Both coils of a port close only by a permitted CLOSE_REQ. -/
def Obligations.BothCoilsCloseByPermitAlone : Prop :=
  (∀ (s t : State) (p : Port), step s = .next t → ix (t.spAt p).coils 0 = true → ix (t.spAt p).coils 1 = true →
      (ix (s.spAt p).coils 0 = true ∧ ix (s.spAt p).coils 1 = true) ∨
      (s.pending.head? = some (.closeReq p) ∧ ({ s with pending := s.pending.tail }.heartbeat.permit p = true)))

/-- A tamper event of an armed sensor zeroises the root and what rests on it. -/
def Obligations.TamperZeroisesTheRoot : Prop :=
  -- TAMPER_EVENT (R503)
  (∀ (k : Fin 5) (s : State), s.rind.armed = true → s.retired = false → s.rind.rootPresent = true → s.sys.power ≠ .dormant →
      ∃ t, exec (.tamperEvent k) s = .next t ∧ t.rind.rootPresent = false ∧ t.rind.lastCause = k.1 + 1 ∧
      ix t.rind.tamper ⟨k.1, by omega⟩ = satInc 0xFFFF (ix s.rind.tamper ⟨k.1, by omega⟩) ∧ t.rind.lifecycle = s.rind.lifecycle ∧
      t.keys.slots = s.keys.slots.filter (·.2.publicOnly) ∧ (∀ g h, t.keySes g h = none) ∧ t.legal.state = .void ∧
      (∀ p, (t.vehAt p).tls = false) ∧ s.sameBut [.host, .veh, .legal, .met, .nrg, .bil, .pq, .jnl, .rind, .keys, .nfc, .sent] t) ∧
  -- TAMPER_EVENT (R503)
  (∀ (k : Fin 5) (s : State), s.rind.armed = true → s.retired = false → s.rind.rootPresent = true → s.sys.power = .dormant →
      ∃ t, exec (.tamperEvent k) s = .next t ∧ t.rind.rootPresent = false ∧ t.rind.lastCause = k.1 + 1 ∧
      ix t.rind.tamper ⟨k.1, by omega⟩ = satInc 0xFFFF (ix s.rind.tamper ⟨k.1, by omega⟩) ∧ s.sameBut [.rind, .keys] t) ∧
  -- TAMPER_EVENT (R503)
  (∀ (k : Fin 5) (s : State), s.rind.armed = true → s.retired = false → s.rind.rootPresent = false →
      ∃ t, exec (.tamperEvent k) s = .next t ∧ t.rind.lastCause = k.1 + 1 ∧ t.rind.rootPresent = false ∧ s.sameBut [.rind, .keys] t) ∧
  -- TAMPER_EVENT (R503)
  (∀ (k : Fin 5) (s : State), s.rind.armed = false → exec (.tamperEvent k) s = .next s)

/-- Zeroisation erases the tag’s key and flags its pages. -/
def Obligations.TagZeroisation : Prop :=
  -- TAMPER_EVENT (R503)
  (∀ (k : Fin 5) (s : State), s.rind.armed = true → s.retired = false → s.rind.rootPresent = true → s.sys.power ≠ .dormant →
      ∃ t, exec (.tamperEvent k) s = .next t ∧ t.tag.key = none ∧ t.tag.secured = false ∧ t.tag.pwDigest = s.tag.pwDigest ∧
      (∀ c, ix t.tag.page0 c = updAt (ix s.tag.page0 c) 1 (· ||| 8)) ∧ ∀ c, ix t.tag.page1 c = updAt (ix s.tag.page1 c) 2 (· ||| 8))

/-- The tag’s password: five failures lock it and only RESET_TAG_LOCK unlocks it. -/
def Obligations.TagPasswordLock : Prop :=
  -- VERIFY (R560)
  (∀ (pw : List Byte) (d : Nat) (s : State), s.tag.serving = true → s.tag.selected = true → s.tag.pwDigest = some d → s.tag.locked = false →
      pwHash s.tag.salt pw ≠ d → ∃ t, exec (.verify pw) s = .next t ∧ t.tag.fails = min 5 (s.tag.fails + 1) ∧
      t.tag.locked = decide (5 ≤ s.tag.fails + 1) ∧ t.tag.secured = s.tag.secured) ∧
  -- VERIFY (R560)
  (∀ (pw : List Byte) (d : Nat) (s : State), s.tag.serving = true → s.tag.selected = true → s.tag.pwDigest = some d → s.tag.locked = true →
      exec (.verify pw) s = .next (s.tagSays [0x69, 0x83])) ∧
  -- VERIFY (R560)
  (∀ (pw : List Byte) (s : State), s.tag.serving = true → s.tag.selected = true → s.tag.pwDigest = some (pwHash s.tag.salt pw) →
      s.tag.locked = false → ∃ t, exec (.verify pw) s = .next t ∧ t.tag.fails = 0 ∧ t.tag.secured = true ∧ t.tag.locked = false) ∧
  -- MUTUAL_AUTH (R561)
  (∀ (data : List Byte) (s t : State), exec (.mutualAuth data) s = .next t → t.tag.fails = s.tag.fails ∧ t.tag.locked = s.tag.locked) ∧
  (∀ (c : Instr) (s t : State), exec c s = .next t → s.tag.locked = true → t.tag.locked = true ∨ ∃ r, c = .resetTagLock r)

/-- ADD_CREDIT raises credit that the session carries. Formalises R174. -/
def Obligations.AddCreditRaisesCreditOnly : Prop :=
  -- ADD_CREDIT (R174)
  (∀ (r : Req) (b : SesRec) (s : State), (s.bilAt r.port).ses = some b → b.out = false → (s.sesAt r.port).sesOpen = true →
      (r.nat48 3 = 0 ∨ b.creditE ≠ 0) → (r.fld 5 23 0 = 0 ∨ b.creditT ≠ 0) → b.creditE + r.nat48 3 < 2 ^ 48 → b.creditT + r.fld 5 23 0 ≤ 604800 →
      ∃ t b', exec (.addCredit r) s = .next t ∧ (t.bilAt r.port).ses = some b' ∧ b'.creditE = b.creditE + r.nat48 3 ∧
      b'.creditT = b.creditT + r.fld 5 23 0 ∧
      b'.warned = (b.warned && !decide (10 * (s.nrgAt r.port).sesImp < 9 * (b.creditE + r.nat48 3))) ∧
      b'.warnedT = (b.warnedT && !decide (10 * ((s.legal.proc - b.nOpen) / 51200) < 9 * (b.creditT + r.fld 5 23 0)))) ∧
  -- ADD_CREDIT (R174)
  (∀ (r : Req) (b : SesRec) (s : State), (s.bilAt r.port).ses = some b →
      ((r.nat48 3 ≠ 0 ∧ b.creditE = 0) ∨ (r.fld 5 23 0 ≠ 0 ∧ b.creditT = 0)) → b.out = false → (s.sesAt r.port).sesOpen = true →
      exec (.addCredit r) s = .next (s.answer r Code.outOfRange)) ∧
  -- ADD_CREDIT (R174)
  (∀ (r : Req) (b : SesRec) (s : State), (s.bilAt r.port).ses = some b → b.out = true →
      exec (.addCredit r) s = .next (s.answer r Code.wrongState)) ∧
  -- ADD_CREDIT (R174)
  (∀ (r : Req) (b b' : SesRec) (s t : State), (s.bilAt r.port).ses = some b → exec (.addCredit r) s = .next t → (t.bilAt r.port).ses = some b' →
      b.creditE ≤ b'.creditE ∧ b.creditT ≤ b'.creditT)

/-- Trip advice is mirrored, and Safety is never affected by it. -/
def Obligations.TripAdviceIsMirroredOnly : Prop :=
  -- TRIP_ADVICE (R440)
  (∀ (h : ChHdr) (origin cause ports row time : Nat) (s : State), s.takes h (.tripAdvice origin cause ports row time) = true →
      exec (.tripAdvice h origin cause ports row time) s =
      .next ((s.received h (.tripAdvice origin cause ports row time)).eatAdvice origin cause ports row time)) ∧
  (∀ (origin cause ports row time : Nat) (s : State), s.sameBut [.host, .chn, .msh, .sent, .free] (s.eatAdvice origin cause ports row time)) ∧
  -- TRIP (R205)
  (∀ (p : Port) (cause row : Nat) (s : State), s.chainOn = true → s.cfg.chain.adviceOut = true → row < 64 → (s.sesAt p).insAsked = false →
      let t := (if (s.sesAt p).state.inSession = true then s.halt p else s).endSession p 0x11
      exec (.trip p cause row) s = .next ((t.sendAdvice cause (2 ^ p.1) row).availPoll p))

/-- What one guest does in its register space leaves every other guest’s unchanged. -/
def Obligations.GuestRowsLeaveOtherGuestsAlone : Prop :=
  (∀ (path : Path) (g h : Guest) (off be : Nat) (write shape on : Bool) (v : Word) (n : Fin 8) (k : Fin 64) (i : Fin 32) (s t : State), g ≠ h →
      (s.sys.power ≠ .run ∨ (s.sys.sleep.phase ≠ .prepared ∧ s.sys.sleep.phase ≠ .committed)) →
      exec (.registerWrite path g off v) s = .next t ∨ exec (.irqStatusClear path g v) s = .next t ∨ exec (.irqArm path g) s = .next t ∨
      exec (.msixVectorUnmask g k) s = .next t ∨ exec (.sysViolClr g) s = .next t ∨ exec (.pfcSnap g) s = .next t ∨
      exec (.pfcFreeze g on) s = .next t ∨ exec (.pfcPreset g i v) s = .next t ∨ exec (.pfcOvfClear g v) s = .next t ∨
      exec (.queDbH2d g v) s = .next t ∨ exec (.queDbD2hClear g v) s = .next t ∨ exec (.sysGuestHbWrite path g) s = .next t ∨
      exec (.mbxGo path g n) s = .next t ∨ exec (.mbxAbortClear path g n) s = .next t ∨ exec (.poisonedTlp g) s = .next t ∨
      exec (.accessViolation path g off write be shape) s = .next t →
      t.guest h = s.guest h ∧ s.sameBut [.sys, .host, .sent, .free] t) ∧
  (∀ (path : Path) (g h : Guest) (off be : Nat) (write shape on : Bool) (v : Word) (n : Fin 8) (k : Fin 64) (i : Fin 32) (s t : State), g ≠ h →
      exec (.registerWrite path g off v) s = .next t ∨ exec (.irqStatusClear path g v) s = .next t ∨ exec (.irqArm path g) s = .next t ∨
      exec (.msixVectorUnmask g k) s = .next t ∨ exec (.sysViolClr g) s = .next t ∨ exec (.pfcSnap g) s = .next t ∨
      exec (.pfcFreeze g on) s = .next t ∨ exec (.pfcPreset g i v) s = .next t ∨ exec (.pfcOvfClear g v) s = .next t ∨
      exec (.queDbH2d g v) s = .next t ∨ exec (.queDbD2hClear g v) s = .next t ∨ exec (.sysGuestHbWrite path g) s = .next t ∨
      exec (.mbxGo path g n) s = .next t ∨ exec (.mbxAbortClear path g n) s = .next t ∨ exec (.poisonedTlp g) s = .next t ∨
      exec (.accessViolation path g off write be shape) s = .next t →
      t.guest h = { s.guest h with irq := (t.guest h).irq, pfc := (t.guest h).pfc } ∧ s.sameBut [.sys, .host, .sent, .free, .msh, .chn] t) ∧
  -- REGISTER_WRITE (R8), IRQ_STATUS_CLEAR (R70), IRQ_ARM (R78), SYS_GUEST_HB_WRITE (R62), MBX_GO (R87), MBX_ABORT_CLEAR (R83), ACCESS_VIOLATION (R71)
  (∀ (g h : Guest) (off be : Nat) (write shape : Bool) (v : Word) (n : Fin 8) (s t : State), g ≠ h →
      exec (.registerWrite .gln g off v) s = .next t ∨ exec (.irqStatusClear .gln g v) s = .next t ∨ exec (.irqArm .gln g) s = .next t ∨
      exec (.sysGuestHbWrite .gln g) s = .next t ∨ exec (.mbxGo .gln g n) s = .next t ∨ exec (.mbxAbortClear .gln g n) s = .next t ∨
      exec (.accessViolation .gln g off write be shape) s = .next t →
      t.guest h = s.guest h ∧ s.sameBut [.host, .sent, .free] t)

/-- What happens on one port’s vehicle link leaves the other ports’ link and session. -/
def Obligations.PortLinkRowsLeaveOtherPortsAlone : Prop :=
  (∀ (p q : Port) (run n mac mode : Nat) (ok dyn : Bool) (offers : List Nat) (a b d : List Byte) (x : ChainChecks) (s t : State), q ≠ p →
      exec (.cmSlacParmReq p run mac) s = .next t ∨ exec (.cmStartAttenChar p run) s = .next t ∨ exec (.cmMnbcSound p run n) s = .next t ∨
      exec (.cmValidate p run ok) s = .next t ∨ exec (.cmSlacMatchReq p run) s = .next t ∨ exec (.slacTimerExpiry p) s = .next t ∨
      exec (.slacInitTimeout p) s = .next t ∨ exec (.linkRetryEnd p) s = .next t ∨ exec (.t1sFirstFrame p ok mac) s = .next t ∨
      exec (.sdpRequest p ok) s = .next t ∨ exec (.supportedAppProtocol p offers mode dyn) s = .next t ∨ exec (.tcpClosed p) s = .next t ∨
      exec (.protocolSequenceTimeout p) s = .next t ∨ exec (.contractChainPresented p a b d x) s = .next t ∨
      exec (.certInstallRequest p a) s = .next t ∨ exec (.certReplyTimeout p) s = .next t →
      t.vehAt q = s.vehAt q ∧ t.sesAt q = s.sesAt q) ∧
  -- VEHICLE_PAUSE (R162)
  (∀ (p q : Port) (s t : State), q ≠ p → exec (.vehiclePause p) s = .next t → t.sesAt q = s.sesAt q)

/-- System commands of other guests complete with REFUSED. Formalises R116. -/
def Obligations.SystemCommandsOfOtherGuestsAreRefused : Prop :=
  (∀ (c : Req → Instr) (r : Req) (s : State), r.fromSystem = false →
      c ∈ [Instr.setTrefMode, Instr.acceptTrefPhase, Instr.requestSiteSleep, Instr.resetChip, 
        Instr.setQueueRange, Instr.setGuestCaps, Instr.setGuestQos, Instr.setGlnBind, 
        Instr.loadTrustAnchor, Instr.setLeaseConfig, Instr.setSitePower, Instr.setPmLinkConfig, 
        Instr.reduceSitePower, Instr.runCrossCheck, Instr.setWallClock, Instr.setOpticalConfig, 
        Instr.requestSafetyRestart, Instr.requestSafeOut, Instr.setLsConfig, Instr.setLsSupplyConfig, 
        Instr.setChainConfig, Instr.removeUnit, Instr.sendTripAdvice, Instr.clearLinkCounters, 
        Instr.setMeshConfig, Instr.setCoexMask, Instr.clearMeshCounters, Instr.readCaveRaw, 
        Instr.setCaveConfig, Instr.formatCave, Instr.setRtcAlarm, Instr.beginStaging, 
        Instr.scheduleActivation, Instr.cancelActivation, Instr.setUpdateConfig, Instr.setNfcConfig, 
        Instr.setTagPublic, Instr.setTagSecrets, Instr.resetTagLock, Instr.setDisplayConfig, 
        Instr.loadOverdrive] →
      exec (c r) s = .next (s.answer r Code.refused)) ∧
  -- RENEW_ROOT (R520)
  (∀ (r : Req) (s : State), r.fromSystem = false → exec (.renewRoot r) s = .next ((s.answer r Code.refused).auditCmd r 0xFF Code.refused 0))

/-- The machine just after reset. -/
def Obligations.ResetState : Prop :=
  (State.reset.pending = [] ∧ State.reset.sys.power = .run ∧ State.reset.sys.steps = [1] ∧ State.reset.sys.chipCause = 0 ∧
      State.reset.rind.lifecycle = 2 ∧ State.reset.rind.rootPresent = true ∧ State.reset.rind.sealCount = 0) ∧
  (∀ g : Guest, (State.reset.guest g).irq.status = 0 ∧ (State.reset.guest g).irq.enable = 0 ∧ (State.reset.guest g).irq.arm = false ∧
      (State.reset.guest g).dbH2d = 0 ∧ (State.reset.guest g).dbD2h = 0 ∧ (State.reset.guest g).viol.count = 0 ∧ (State.reset.guest g).rstCount = 0) ∧
  (∀ p : Port, (State.reset.spAt p).state = .open_ ∧ (∀ k, ix (State.reset.spAt p).coils k = false) ∧ (State.reset.nrgAt p).imp = Vector.replicate 8 0 ∧
      (State.reset.nrgAt p).exp = Vector.replicate 8 0 ∧ (State.reset.bilAt p).ses = none ∧ (State.reset.lkAt p).state = .off ∧ (State.reset.pwrAt p).state = .off) ∧
  (State.reset.saf.state = .init ∧ State.reset.saf.outs = 0 ∧ State.reset.legal.state = .starting ∧ State.reset.cave.state = .init ∧
      (∀ b, (State.reset.brkAt b).released = false) ∧ (∀ c, (ix State.reset.ls.ch c).commanded = false) ∧
      State.reset.chn.head = false ∧ State.reset.msh.queue = [] ∧ State.reset.lease.state = .standalone) ∧
  ((∀ p : Port, State.reset.cpPin p = none ∧ State.reset.imdPin p = false ∧ State.reset.lkPin p = .off ∧ ∀ k, State.reset.coilPin p k = false) ∧
      (∀ c, State.reset.lsPin c = false) ∧ (∀ k, State.reset.safeOutPin k = false) ∧ (∀ b, State.reset.brakePin b = false) ∧
      (∀ l, State.reset.dnPin l = false) ∧ State.reset.storReset = true ∧ State.reset.vcolPin = false ∧ State.reset.panelPin = false)

/-- No word spells a command. -/
def Obligations.NoWordSpellsACommand : Prop :=
  (∀ (nbits w : Nat) (s : State), decodeTableWord nbits w = none ∧ s.withFetchWord nbits w = s)

/-- The display’s frame memory reads back what was written, and equal contents are equal data. -/
def Obligations.DisplayMemoryReadsBack : Prop :=
  (∀ (m : List (Nat × Byte)) (i j : Nat) (v : Byte), cellsWf m = true → cellAt (cellPut m i v) j = if j = i then v else cellAt m j) ∧
  (∀ (m n : List (Nat × Byte)), cellsWf m = true → cellsWf n = true → (∀ i, cellAt m i = cellAt n i) → m = n)

/-- A frame boundary writes the pending regions’ pixels and no others. -/
def Obligations.FrameBoundaryWritesItsRegionsAlone : Prop :=
  -- FRAME_BOUNDARY (R569)
  (∀ (s t : State) (i : Nat), s.cfg.dsp = s.dsp.cfg → cellsWf s.dsp.frame = true → exec .frameBoundary s = .next t →
      (∀ k q, ix s.dsp.pending k = some q → ∀ x ∈ q.cells s.dsp.cfg.width, x.1 ≠ i) → cellAt t.dsp.frame i = cellAt s.dsp.frame i) ∧
  -- FRAME_BOUNDARY (R569)
  (∀ (k : Fin 8) (q : Rect) (n : Nat) (s t : State), s.cfg.dsp = s.dsp.cfg → cellsWf s.dsp.frame = true → exec .frameBoundary s = .next t →
      ix s.dsp.pending k = some q → (∀ l, l ≠ k → ix s.dsp.pending l = none) → q.w ≤ s.dsp.cfg.width → n < q.w * q.h →
      cellAt t.dsp.frame ((q.y + n / q.w) * s.dsp.cfg.width + q.x + n % q.w) = q.data.getD n 0) ∧
  -- FRAME_BOUNDARY (R569)
  (∀ (s t : State), exec .frameBoundary s = .next t → (∀ k, ix t.dsp.pending k = none) ∧ (s.legalVoid = false → t.dsp.shown = s.dsp.next)) ∧
  (∀ (c : Instr) (s t : State), exec c s = .next t → c ≠ .frameBoundary → c ≠ .porRelease → t.dsp.frame = s.dsp.frame)

/-- A GLN without a binding. Formalises R66. -/
def Obligations.GlnWithoutABinding : Prop :=
  -- GLN_LOW_WORD_READ (R65)
  (∀ (off : Nat) (s : State), s.host.glnVio = true → s.host.gln = none → off < 0x2000 → off % 2 = 0 →
      exec (.glnLowWordRead off) s = .next (s.emit .glnFFFF)) ∧
  -- REGISTER_WRITE (R8)
  (∀ (g : Guest) (off : Nat) (v : Word) (s : State), s.host.gln = none → exec (.registerWrite .gln g off v) s = .next s) ∧
  -- ACCESS_VIOLATION (R71)
  (∀ (g : Guest) (off be : Nat) (write shape : Bool) (s t : State), s.host.gln = none → exec (.accessViolation .gln g off write be shape) s = .next t →
      s.sameBut [.sent] t) ∧
  (∀ (k : Nat) (s : State), s.sys.power ≠ .dormant → (s.chipReset k).host.gln = s.projected.glnBind) ∧
  -- POR_RELEASE (R35)
  (∀ (s t : State), s.sys.power = .dormant → exec .porRelease s = .next t → t.host.gln = s.projected.glnBind) ∧
  -- SET_GLN_BIND (R66)
  (∀ (r : Req) (s t : State), exec (.setGlnBind r) s = .next t → t.host.gln = s.host.gln)

/-- The site digest. Formalises R434. -/
def Obligations.SiteDigestIsOfItsItems : Prop :=
  (∀ (c : Cfg), siteDigest c =
      Config.sha384 ([0x48, 0x45, 0x52, 0x52, 0x49, 0x4C, 0x2D, 0x53, 0x49, 0x54, 0x45] ++ leBytes 4 c.chain.siteId ++ leBytes 4 c.siteLimit ++
        leBytes 4 c.chain.expect))

/-- A requestable output is on only while requested and not held off. Formalises R348. -/
def Obligations.RequestableOutputs : Prop :=
  (∀ (k : Fin 8) (s : State), (ix s.table.outputs k).type = 3 → s.outsWanted / 2 ^ k.1 % 2 = 1 →
      s.saf.requests / 2 ^ k.1 % 2 = 1 ∧ ∀ n ∈ s.heldRows, (ix s.table.rows n).outs / 2 ^ k.1 % 2 = 0) ∧
  -- OUT_REQ (R348)
  (∀ (m : Nat) (s : State), ∃ u : State, exec (.outReq m) s = .next (u.safeAnswer 0xFF 7 true) ∧ u.saf.outs = u.outsWanted ∧ u.saf.requests = m &&& s.requestable)

/-- Mailboxes: where each row completes and what it leaves. -/
def Obligations.MailboxCommandsComplete : Prop :=
  -- MBX_GO (R87)
  (∀ (path : Path) (g : Guest) (n : Fin 8) (s : State), s.canWrite path g = true →
      s.violKind path g (0x1040 + 0x100 * n.1) true false = none → (ix (s.guest g).h2d n).full = false →
      exec (.mbxGo path g n) s = .next ((s.modH2d g n fun x => { x with full := true, path, goAt := s.time.chain }).hostActive path)) ∧
  -- MESSAGE_FETCH (R87)
  (∀ (g : Guest) (n : Fin 8) (op : OpInfo) (pk : PoolKind) (s : State),
      let m := ix (s.guest g).h2d n
      let s1 := s.modH2d g n fun x => { x with full := false }
      let r := s.message g n
      m.full = true → m.slot = .free → m.relaying = false → (s.guest g).rstBusy = false → s.sys.reached 8 = true →
      s.swapping = false → s.headerFail g (ix m.mbd 0) (ix m.mbd 1) = none → opInfo ((ix m.mbd 0).fld 31 16) = some op →
      s1.capKind op r = none → s1.claimOk op r = true → op.fastest ≤ r.cls → isRelay op = false →
      s1.admits op r (s1.startLatency op r.modemPorts) = some pk →
      let t := s1.enrol op r pk (s1.startLatency op r.modemPorts) m.goAt
      exec (.messageFetch g n) s = .next (if (ix (t.guest g).h2d n).full then t else t.irq g (8 + n.1))) ∧
  -- COMMAND_START (R150)
  (∀ (g : Guest) (q : Nat) (a : Admitted) (op : OpInfo) (s : State), (s.onQueue g q).find? (! ·.started) = some a →
      s.itsTurn a = true → opInfo a.req.opcode = some op → s.claimOk op a.req = true →
      exec (.commandStart g q) s = .next ((s.modHost fun h => { h with
        admitted := updFirst h.admitted (fun b => b.req == a.req && !b.started) fun b => { b with started := true } }).modSys
          fun y => { y with clocks := y.clocks.runAll (op.blocks a.req.modemPorts) })) ∧
  -- COMMAND_COMPLETE (R89)
  (∀ (g : Guest) (q : Nat) (a : Admitted) (ans : Answer) (s : State), (s.onQueue g q).head? = some a → a.started = true →
      a.orphan = false → s.host.answers.find? (·.req.same a.req) = some ans → ans.more = false →
      exec (.commandComplete g q) s = .next (((((s.modHost fun h => { h with
          admitted := h.admitted.eraseP (· == a), answers := h.answers.eraseP (· == ans) }).releaseCost a).modGuest g
        fun x => { x with store := x.store ++ [{
          kind := .response, path := a.req.path, goAt := a.goAt
          words := msgWords (a.req.word 0) (a.req.word 1) (rspLen a.req) ans.code ans.words }] }).count g
        (marginCode (classBound a.req.cls) ((s.time.chain - a.admittedAt) / 1000)) 1))) ∧
  -- RESPONSE_TO_MAILBOX (R88)
  (∀ (path : Path) (g : Guest) (n : Fin 8) (m : OutMsg) (s : State), (s.guest g).store.find? (·.path == path) = some m →
      (idx 8).find? (fun k => s.mbxPath g k == path && (ix (s.guest g).d2h k).msg.isNone) = some n → m.kind = .response →
      exec (.responseToMailbox path g) s = .next (((((s.modGuest g fun y => { y with store := y.store.eraseP (· == m) }).modD2h g n
        fun _ => { msg := some m }).count g 0x08 1).count g 0x09 ((s.time.chain - m.goAt) / 1000)).irq g n.1)) ∧
  -- MBX_RESPONSE_READ (R84)
  (∀ (path : Path) (g : Guest) (n : Fin 8) (m : OutMsg) (s : State), (ix (s.guest g).d2h n).msg = some m →
      s.canRead path g = true → s.violKind path g (0x1800 + 0x100 * n.1 + 4 * (m.words.length - 1)) false false = none →
      exec (.mbxResponseRead path g n) s = .next ((((s.modD2h g n fun _ => {}).returnRead path g
        (0x1800 + 0x100 * n.1 + 4 * (m.words.length - 1)) (m.words.getLastD 0) []).freeBy g m.kind).hostActive path)) ∧
  -- MBX_MBD0_READ (R93)
  (∀ (path : Path) (g : Guest) (n : Fin 8) (m : OutMsg) (s : State), (ix (s.guest g).d2h n).msg = some m →
      s.canRead path g = true → s.violKind path g (0x1800 + 0x100 * n.1) false false = none →
      exec (.mbxMbd0Read path g n) s = .next (((s.modD2h g n fun d => { d with mbd0Read := true }).returnRead path g
        (0x1800 + 0x100 * n.1) (m.words.headD 0) []).hostActive path)) ∧
  -- MBX_ABORT_CLEAR (R83)
  (∀ (path : Path) (g : Guest) (n : Fin 8) (s : State), s.canWrite path g = true →
      s.violKind path g (0x1040 + 0x100 * n.1) true false = none →
      exec (.mbxAbortClear path g n) s = .next ((s.modH2d g n fun x => { x with abort := false }).hostActive path)) ∧
  -- FINAL_NOTICE (R118)
  (∀ (g : Guest) (ans : Answer) (s : State),
      s.host.finals.find? (fun a => a.req.guest == g && s.host.awaiting.any a.req.same) = some ans →
      ∃ m : OutMsg, exec (.finalNotice g) s = .next ((s.modHost fun h => { h with
          finals := h.finals.eraseP (· == ans), awaiting := h.awaiting.eraseP ans.req.same }).modGuest g
            fun x => { x with store := x.store ++ [m] }) ∧ m.kind = .final ∧ m.path = ans.req.path)

/-- Host links and guest registers: where each row completes and what it leaves. -/
def Obligations.HostRowsComplete : Prop :=
  -- POISONED_TLP (R50)
  (∀ (g : Guest) (s : State), exec (.poisonedTlp g) s =
      .next (((s.modGuest g fun x => { x with aerErrors := x.aerErrors + 1, hostErrors := x.hostErrors + 1 }).emit (.aerNonFatal g)).hostActive .pcie)) ∧
  -- NUMVFS_WRITE (R48)
  (∀ (n : Fin 16) (s : State), s.host.rrs = false → s.host.vfEnable = false → s.sys.romRecovery = false →
      exec (.numvfsWrite n) s = .next ((s.modHost fun h => { h with numVFs := n.1 }).hostActive .pcie)) ∧
  -- VF_ENABLE_SET (R48)
  (∀ (s : State), s.host.rrs = false → exec .vfEnableSet s = .next ((s.modHost fun h => { h with vfEnable := true }).hostActive .pcie)) ∧
  -- VF_ENABLE_CLEAR (R75)
  (∀ (s : State), s.host.rrs = false → exec .vfEnableClear s =
      .next (((s.modHost fun h => { h with vfEnable := false }).each (n := 16) fun g t => t.trigger g 2).hostActive .pcie)) ∧
  -- FLR (R75)
  (∀ (g : Guest) (s : State), s.host.rrs = false → s.canRead .pcie g = true → g ≠ 0 → exec (.flr g) s = .next ((s.trigger g 1).hostActive .pcie)) ∧
  -- FLR (R75)
  (∀ (s : State), s.host.rrs = false → exec (.flr 0) s = .next ((s.each (n := 16) fun k t => t.trigger k (if k = 0 then 1 else 2)).hostActive .pcie)) ∧
  -- NUMVFS_WRITE (R48), VF_ENABLE_SET (R48), VF_ENABLE_CLEAR (R75), FLR (R75)
  (∀ (n : Fin 16) (g : Guest) (s : State), s.host.rrs = true →
      exec (.numvfsWrite n) s = .next ((s.emit (.retryStatus 0)).hostActive .pcie) ∧
      exec .vfEnableSet s = .next ((s.emit (.retryStatus 0)).hostActive .pcie) ∧
      exec .vfEnableClear s = .next ((s.emit (.retryStatus 0)).hostActive .pcie) ∧
      exec (.flr g) s = .next ((s.emit (.retryStatus g)).hostActive .pcie)) ∧
  -- PERST_ASSERT (R75)
  (∀ (s : State), exec .perstAssert s =
      .next (((s.modHost fun h => { h with linkUp := false }).each (n := 16) fun g t => t.trigger g 3).hostActive .pcie)) ∧
  -- HOST_LINK_DOWN (R75)
  (∀ (s : State), exec .hostLinkDown s =
      .next (((s.modHost fun h => { h with linkUp := false }).each (n := 16) fun g t => t.trigger g 3).hostActive .pcie)) ∧
  -- HOST_LINK_TRAINED (R51)
  (∀ (s : State), exec .hostLinkTrained s =
      .next (((s.modHost fun h => { h with linkUp := true, l12 := false, rrs := !s.sys.reached 7 }).hostActive .pcie).reach 5)) ∧
  -- SYS_GUEST_HB_WRITE (R62)
  (∀ (path : Path) (g : Guest) (s : State), s.canWrite path g = true →
      exec (.sysGuestHbWrite path g) s = .next ((s.modGuest g fun x => { x with hbRunning := true }).hostActive path)) ∧
  -- HEARTBEAT_EXPIRY (R75)
  (∀ (g : Guest) (s : State), (s.guest g).hbRunning = true → (s.gcfg g).hbMs ≠ 0 →
      exec (.heartbeatExpiry g) s = .next (s.trigger g 6)) ∧
  -- GUEST_RESET (R76)
  (∀ (g : Guest) (s : State), (s.guest g).rstBusy = true →
      exec (.guestReset g) s = .next ((s.guest g).rstCmds.foldl (fun t r => t.answer r Code.done)
        ((((((s.each (n := 16) fun k t => if k = g then t else t.withdrawFrom g k).abortTo g).dropAdmitted g).dropLeases g).modGuest g
          GuestSt.cleared).clearEvents g))) ∧
  (∀ (g : Guest) (cause : Nat) (s : State), (s.guest g).rstBusy = false →
      (s.trigger g cause) = s.modGuest g fun x => { x with rstBusy := true, rstPending := cause }) ∧
  -- GLN_VIO_LOSS (R592)
  (∀ (s : State), exec .glnVioLoss s = .next (s.modHost fun h => { h with glnVio := false })) ∧
  -- GLN_VIO_RETURN (R592)
  (∀ (s : State), exec .glnVioReturn s = .next (s.modHost fun h => { h with glnVio := true })) ∧
  -- CLOCK_GATED (R27)
  (∀ (b : Blk) (s : State), s.holdsD0 b = false → s.sys.clocks.of b = .running →
      exec (.clockGated b) s = .next (s.modSys fun y => { y with clocks := y.clocks.set b .gated })) ∧
  -- CLOCK_STARTED (R102)
  (∀ (b : Blk) (s : State), s.sys.clocks.starting.contains b = true →
      exec (.clockStarted b) s = .next (s.modSys fun y => { y with clocks := y.clocks.runAll [b] })) ∧
  -- IRQ_STATUS_CLEAR (R70)
  (∀ (path : Path) (g : Guest) (bits : Word) (s : State), s.canWrite path g = true →
      exec (.irqStatusClear path g bits) s = .next ((s.setIrq g fun i => { i with status := i.status &&& ~~~ bits }).hostActive path)) ∧
  -- IRQ_ARM (R78)
  (∀ (path : Path) (g : Guest) (s : State), s.canWrite path g = true →
      exec (.irqArm path g) s = .next ((s.setIrq g fun i => { i with arm := true }).hostActive path)) ∧
  -- MSIX_VECTOR_UNMASK (R70)
  (∀ (g : Guest) (v : Fin 64) (s : State), s.canWrite .pcie g = true → (s.guest g).irq.pba.getLsbD v.1 = true →
      exec (.msixVectorUnmask g v) s = .next ((((s.modGuest g fun x => { x with irq := { x.irq with
        mask := x.irq.mask &&& ~~~ BitVec.ofNat 64 (2 ^ v.1), pba := x.irq.pba &&& ~~~ BitVec.ofNat 64 (2 ^ v.1) } }).emit
          (.msix g v.1)).count g 0x0C 1).hostActive .pcie)) ∧
  -- MSIX_VECTOR_UNMASK (R70)
  (∀ (g : Guest) (v : Fin 64) (s : State), s.canWrite .pcie g = true → (s.guest g).irq.pba.getLsbD v.1 = false →
      exec (.msixVectorUnmask g v) s = .next ((s.modGuest g fun x => { x with irq := { x.irq with
        mask := x.irq.mask &&& ~~~ BitVec.ofNat 64 (2 ^ v.1), pba := x.irq.pba &&& ~~~ BitVec.ofNat 64 (2 ^ v.1) } }).hostActive
          .pcie)) ∧
  -- SYS_VIOL_CLR (R72)
  (∀ (g : Guest) (s : State), s.canWrite .pcie g = true → exec (.sysViolClr g) s = .next ((s.modGuest g fun x => { x with viol := {} }).hostActive .pcie)) ∧
  -- PFC_SNAP (R79)
  (∀ (g : Guest) (s : State), s.canWrite .pcie g = true →
      exec (.pfcSnap g) s = .next ((s.modPfc g fun p => { p with snap := p.cnt, snapTime := s.time.chain }).hostActive .pcie)) ∧
  -- PFC_CHIP_SNAP (R79)
  (∀ (s : State), s.canWrite .pcie 0 = true → exec (.pfcChipSnap 0) s =
      .next (((s.modHost fun h => { h with chipSnap := vmap (·.pfc.cnt) h.guests }).modPfc 0
        fun p => { p with chipTime := s.time.chain }).hostActive .pcie)) ∧
  -- PFC_FREEZE (R79)
  (∀ (g : Guest) (on : Bool) (s : State), s.canWrite .pcie g = true →
      exec (.pfcFreeze g on) s = .next ((s.modPfc g fun p => { p with freeze := on }).hostActive .pcie)) ∧
  -- PFC_PRESET (R79)
  (∀ (g : Guest) (c : Fin 32) (v : Word) (s : State), s.canWrite .pcie g = true →
      exec (.pfcPreset g c v) s = .next ((s.modPfc g fun p => { p with cnt := upd p.cnt c fun _ => v }).hostActive .pcie)) ∧
  -- PFC_OVF_CLEAR (R80)
  (∀ (g : Guest) (bits : Word) (s : State), s.canWrite .pcie g = true →
      exec (.pfcOvfClear g bits) s = .next ((s.modPfc g fun p => { p with ovf := p.ovf &&& ~~~ bits }).hostActive .pcie)) ∧
  -- QUE_DB_H2D (R94)
  (∀ (g : Guest) (bits : Word) (s : State), s.canWrite .pcie g = true → (bits &&& 0xFF) ≠ 0 →
      exec (.queDbH2d g bits) s = .next (((s.modGuest g fun x => { x with dbH2d := x.dbH2d ||| (bits &&& 0xFF) }).count g 0x0B 1).hostActive
        .pcie)) ∧
  -- QUE_DB_D2H_CLEAR (R94)
  (∀ (g : Guest) (bits : Word) (s : State), s.canWrite .pcie g = true →
      exec (.queDbD2hClear g bits) s = .next ((s.modGuest g fun x => { x with dbD2h := x.dbD2h &&& ~~~ bits }).hostActive .pcie)) ∧
  -- REGISTER_WRITE (R8)
  (∀ (g : Guest) (off : Nat) (v : Word) (s : State), s.canWrite .pcie g = true → off < 0x10000 →
      (s.violKind .pcie g off true (off % 4 != 0)) = none → inStaging off = false →
      exec (.registerWrite .pcie g off v) s = .next ((s.writeReg .pcie g off v (w32 0xFFFFFFFF)).hostActive .pcie)) ∧
  -- REGISTER_WRITE (R8)
  (∀ (g : Guest) (off : Nat) (v : Word) (s : State), s.canWrite .gln g = true → off < 0x2000 →
      (s.violKind .gln g off true false) = none →
      exec (.registerWrite .gln g off v) s = .next (s.writeReg .gln g (off / 4 * 4)
        (if off % 4 ≥ 2 then (v &&& 0xFFFF) <<< 16 else v &&& 0xFFFF) (if off % 4 ≥ 2 then 0xFFFF0000 else 0xFFFF))) ∧
  -- REGISTER_WRITE (R8)
  (∀ (g : Guest) (off : Nat) (v : Word) (k : Fin 64) (s : State), s.canWrite .pcie g = true → msixVector off = some k →
      exec (.registerWrite .pcie g off v) s = .next ((s.maskVector g k (v.bit 0)).hostActive .pcie)) ∧
  -- PAIR_LOW_READ (R6)
  (∀ (g : Guest) (off : Nat) (s : State), s.canRead .pcie g = true → pairLow off = true →
      (s.violKind .pcie g off false (off % 4 != 0)) = none → unlatch (s.guest g).latch off = none →
      exec (.pairLowRead g off) s = .next (((s.emit (.readData .pcie g off (s.readReg g off))).modGuest g fun x => { x with
        latch := latchIn x.latch [{ offset := off + 4, word := s.readReg g (off + 4) }] }).hostActive .pcie)) ∧
  -- PAIR_LOW_READ (R6)
  (∀ (g : Guest) (off : Nat) (w : Word) (l : List ReadLatch) (s : State), s.canRead .pcie g = true →
      (pairLow off || (decide (4 ≤ off) && pairLow (off - 4))) = true → (s.violKind .pcie g off false (off % 4 != 0)) = none →
      unlatch (s.guest g).latch off = some (w, l) →
      exec (.pairLowRead g off) s = .next (((s.modGuest g fun x => { x with latch := l }).emit (.readData .pcie g off w)).hostActive
        .pcie)) ∧
  -- GLN_LOW_WORD_READ (R65)
  (∀ (g : Guest) (off : Nat) (s : State), s.host.glnVio = true → off < 0x2000 → off % 4 = 0 → s.host.gln = some g →
      (s.violKind .gln g off false false) = none → unlatch (s.guest g).glnLatch off = none →
      exec (.glnLowWordRead off) s = .next (s.returnRead .gln g off (s.readReg g off)
        (if pairLow off then [s.readReg g (off + 4)] else []))) ∧
  -- GLN_LOW_WORD_READ (R65)
  (∀ (g : Guest) (off : Nat) (w : Word) (l : List ReadLatch) (s : State), s.host.glnVio = true → off < 0x2000 → off % 2 = 0 →
      s.host.gln = some g → (s.violKind .gln g off false false) = none → unlatch (s.guest g).glnLatch off = some (w, l) →
      exec (.glnLowWordRead off) s = .next ((s.modGuest g fun x => { x with glnLatch := l }).emit (.readData .gln g off w))) ∧
  -- GLN_LOW_WORD_READ (R65)
  (∀ (g : Guest) (off : Nat) (s : State), s.host.glnVio = true → off < 0x2000 → off % 4 = 2 → s.host.gln = some g →
      (s.violKind .gln g off false false) = none → unlatch (s.guest g).glnLatch off = none →
      exec (.glnLowWordRead off) s = .next (s.emit (.readData .gln g off (s.readReg g (off - 2) >>> 16)))) ∧
  -- ACCESS_VIOLATION (R71)
  (∀ (path : Path) (g : Guest) (off be kind : Nat) (write shape : Bool) (s : State), off < 0x10000 →
      (if write then s.canWrite path g else s.canRead path g) = true →
      s.violKind path g off write (shape || be != 0xF || off % 4 != 0) = some kind →
      exec (.accessViolation path g off write be shape) s = .next (((s.violation g (w32 off)
        (pack [(31, 28, kind), (27, 24, path.code), (20, 20, b1 write), (19, 16, if path = .gln then 3 else be), (3, 0, g.1)]) 0).violAnswer
          path g write kind).hostActive path))

/-- Configuration items and transactions: where each command completes and what it leaves. -/
def Obligations.ConfigurationCommandsComplete : Prop :=
  (∀ c ∈ ([Instr.setTrefMode, Instr.setQueueRange, Instr.setGuestCaps, Instr.setGuestQos, Instr.setGuestHeartbeat,
      Instr.setGlnBind, Instr.setLeaseConfig, Instr.setSitePower, Instr.setPmLinkConfig, Instr.setOpticalConfig,
      Instr.setLsConfig, Instr.setLsSupplyConfig, Instr.setChainConfig, Instr.setMeshConfig, Instr.setCoexMask,
      Instr.setCaveConfig, Instr.setUpdateConfig, Instr.setNfcConfig, Instr.setDisplayConfig, Instr.setPulseInput,
      Instr.setSupplyConfig, Instr.setPqConfig] : List (Req → Instr)),
      ∀ (r : Req) (l : List Item) (s : State), r.guest = 0 → s.legalVoid = false → r.txn = true → ix s.conf.opens r.guest = some l →
      l.length < 256 → exec (c r) s =
        .next ((s.setOpen r.guest (some (l ++ [{ opcode := r.opcode, words := r.words }]))).answer r Code.done)) ∧
  (∀ c ∈ ([Instr.setTrefMode, Instr.setQueueRange, Instr.setGuestCaps, Instr.setGuestQos, Instr.setGuestHeartbeat,
      Instr.setGlnBind, Instr.setLeaseConfig, Instr.setSitePower, Instr.setPmLinkConfig, Instr.setOpticalConfig,
      Instr.setLsConfig, Instr.setLsSupplyConfig, Instr.setChainConfig, Instr.setMeshConfig, Instr.setCoexMask,
      Instr.setCaveConfig, Instr.setUpdateConfig, Instr.setNfcConfig, Instr.setDisplayConfig, Instr.setPulseInput,
      Instr.setSupplyConfig, Instr.setPqConfig] : List (Req → Instr)),
      ∀ (r : Req) (s : State), let it : Item := { opcode := r.opcode, words := r.words }
      r.guest = 0 → s.legalVoid = false → r.txn = false → s.txnFits (txnBytes [it]) = true → s.itemReason s.projected it = none →
      exec (c r) s = .next ((s.record [it]).answer r Code.done [pack [(30, 0, (s.record [it]).conf.commitEpoch)]])) ∧
  (∀ c ∈ ([Instr.setPortConfig, Instr.setSessionConfig, Instr.setPowerConfig, Instr.setLkConfig, Instr.setMetrologyConfig,
      Instr.setEnergyConfig, Instr.setBillingConfig, Instr.setTariffSchedule] : List (Req → Instr)),
      ∀ (r : Req) (l : List Item) (s : State), s.legalVoid = false → r.txn = true → ix s.conf.opens r.guest = some l →
      l.length < 256 → exec (c r) s =
        .next ((s.setOpen r.guest (some (l ++ [{ opcode := r.opcode, words := r.words }]))).answer r Code.done)) ∧
  (∀ c ∈ ([Instr.setPortConfig, Instr.setSessionConfig, Instr.setPowerConfig, Instr.setLkConfig, Instr.setMetrologyConfig,
      Instr.setEnergyConfig, Instr.setBillingConfig, Instr.setTariffSchedule] : List (Req → Instr)),
      ∀ (r : Req) (s : State), let it : Item := { opcode := r.opcode, words := r.words }
      s.legalVoid = false → r.txn = false → s.txnFits (txnBytes [it]) = true → s.itemReason s.projected it = none →
      exec (c r) s = .next ((s.record [it]).answer r Code.done [pack [(30, 0, (s.record [it]).conf.commitEpoch)]])) ∧
  -- SET_PQ_CONFIG (R333)
  (∀ (r : Req) (l : List Item) (s : State), r.namesPort = true → s.legalVoid = false → r.txn = true → ix s.conf.opens r.guest = some l →
      l.length < 256 → exec (.setPqConfig r) s =
        .next ((s.setOpen r.guest (some (l ++ [{ opcode := r.opcode, words := r.words }]))).answer r Code.done)) ∧
  -- SET_GUEST_HEARTBEAT (R122)
  (∀ (r : Req) (l : List Item) (s : State), r.target = r.guest → r.txn = true → ix s.conf.opens r.guest = some l → l.length < 256 →
      exec (.setGuestHeartbeat r) s =
        .next ((s.setOpen r.guest (some (l ++ [{ opcode := r.opcode, words := r.words }]))).answer r Code.done)) ∧
  -- LOAD_TRUST_ANCHOR (R154)
  (∀ (r : Req) (s : State), let it : Item := { opcode := r.opcode, words := r.words }
      r.guest = 0 → r.fld 3 5 0 ≤ 39 → r.bit 3 12 = true → r.txn = false → s.txnFits (txnBytes [it]) = true →
      s.itemReason s.projected it = none →
      exec (.loadTrustAnchor r) s = .next ((s.record [it]).answer r Code.done [pack [(30, 0, (s.record [it]).conf.commitEpoch)]])) ∧
  -- LOAD_OVERDRIVE (R570)
  (∀ (r : Req) (l : List Item) (s : State), let q := s.withRing r (r.fld 3 2 0)
      r.guest = 0 → r.txn = true → q.ringOk = true → l.length < 256 → ix s.conf.opens 0 = some l →
      exec (.loadOverdrive r) s = .next (((s.setOpen 0 (some (l ++ [{ opcode := r.opcode, words := r.words, data := q.ringIn }]))).answer r
        Code.done).useRing q (r.fld 3 2 0) Code.done)) ∧
  -- GET_CONFIG_STATE (R120)
  (∀ (r : Req) (s : State), ∃ ws, exec (.getConfigState r) s = .next (s.answer r Code.done ws)) ∧
  -- BEGIN_CONFIG (R120)
  (∀ (r : Req) (s : State), ix s.conf.opens r.guest = none →
      exec (.beginConfig r) s = .next ((s.setOpen r.guest (some [])).answer r Code.done)) ∧
  -- COMMIT_CONFIG (R123)
  (∀ (r : Req) (l : List Item) (s : State), ix s.conf.opens r.guest = some l → l ≠ [] → s.txnFits (txnBytes l) = true →
      (s.setOpen r.guest none).firstFail (s.setOpen r.guest none).projected l 0 = none →
      exec (.commitConfig r) s = .next (((s.setOpen r.guest none).record l).answer r Code.done
        [pack [(30, 0, ((s.setOpen r.guest none).record l).conf.commitEpoch)]])) ∧
  -- ABORT_CONFIG (R120)
  (∀ (r : Req) (l : List Item) (s : State), ix s.conf.opens r.guest = some l →
      exec (.abortConfig r) s = .next ((s.setOpen r.guest none).answer r Code.done)) ∧
  -- TXN_TIMEOUT (R123)
  (∀ (g : Guest) (s : State), exec (.txnTimeout g) s = .next (s.setOpen g none))

/-- System commands: where each completes and what it leaves. -/
def Obligations.SystemCommandsComplete : Prop :=
  -- GET_DEVICE_INFO (R120)
  (∀ (r : Req) (s : State), ∃ ws, exec (.getDeviceInfo r) s = .next (s.answer r Code.done ws)) ∧
  -- GET_IMAGE_DIGEST (R120)
  (∀ (r : Req) (s : State), r.fld 2 1 0 ≠ 3 → ∃ ws, exec (.getImageDigest r) s = .next (s.answer r Code.done ws)) ∧
  -- ECHO (R120)
  (∀ (r : Req) (s : State), exec (.echo r) s = .next (s.answer r Code.done ((r.words.take r.len).drop 2))) ∧
  -- ACCEPT_TREF_PHASE (R38)
  (∀ (r : Req) (c : Int) (s : State), r.guest = 0 → s.sys.tref.faultPhase = some c → s.isHead = true → s.sys.tref.state = .fault →
      s.sys.tref.rateFault = false → exec (.acceptTrefPhase r) s = .next ((s.setTref { s.sys.tref.lock with slew := s.sys.tref.slew + c }).answer r
        Code.done [wInt (satInt 24 c), pack [(23, 0, c.natAbs / 10)]])) ∧
  -- REQUEST_SITE_SLEEP (R41)
  (∀ (r : Req) (s : State), r.guest = 0 → s.fenced = false → inRange 200 60000 (r.fld 2 23 0) = true → s.sys.sleep.cmd = none →
      s.sys.sleep.asking = false → s.isHead = true →
      exec (.requestSiteSleep r) s = .next ((s.accept r).startSleep (s.time.chain + r.fld 2 23 0 * 1000000) (some r))) ∧
  -- RESET_CHIP (R120)
  (∀ (r : Req) (s : State), r.guest = 0 → r.word 2 = w32 0x8128 → exec (.resetChip r) s = .next (s.chipReset 6)) ∧
  -- GET_COMMAND_COST (R121)
  (∀ (r : Req) (op : OpInfo) (s : State), opInfo (r.fld 2 31 16) = some op → (r.portField < 8 ∨ r.portField = 0xFF) →
      exec (.getCommandCost r) s = .next (s.answer r Code.done
        [pack [(23, 0, op.cost)], pack [(23, 0, s.startLatency op r.modemPorts)], pack [(2, 0, op.fastest)]])) ∧
  -- GET_QUEUE_STATE (R121)
  (∀ (r : Req) (s : State), (s.gcfg r.guest).queFirst ≤ r.fld 2 12 0 →
      r.fld 2 12 0 < (s.gcfg r.guest).queFirst + (s.gcfg r.guest).queCount →
      ∃ ws, exec (.getQueueState r) s = .next (s.answer r Code.done ws)) ∧
  -- GET_GUEST_CONFIG (R122)
  (∀ (r : Req) (s : State), (r.guest = 0 ∨ r.target = r.guest) → ∃ ws, exec (.getGuestConfig r) s = .next (s.answer r Code.done ws)) ∧
  -- RESET_GUEST (R122)
  (∀ (r : Req) (s : State), r.guest = 0 → r.target ≠ 0 →
      exec (.resetGuest r) s = .next ((s.trigger r.target 5).modGuest r.target fun x => { x with rstCmds := x.rstCmds ++ [r] })) ∧
  -- RESET_GUEST (R122)
  (∀ (r : Req) (s : State), r.target = r.guest →
      exec (.resetGuest r) s = .next (((s.noResponse r).answer r Code.done).trigger r.guest 4)) ∧
  -- RELAY_MESSAGE (R92)
  (∀ (r : Req) (s : State), (s.gcfg r.target).query.bit 2 = true → s.relayLive r = true →
      ∃ m : OutMsg, exec (.relayMessage r) s = .next ((s.modGuest r.target fun x => { x with store := x.store ++ [m] }).answer r
        Code.accepted) ∧ m.kind = .relay r.guest r.mbx r.tag) ∧
  -- BAD_CHANNEL_MESSAGE (R14)
  (∀ (s : State), exec (.badChannelMessage 0) s = .next (s.modSys fun y => { y with chanErrLegal := y.chanErrLegal + 1 })) ∧
  -- BAD_CHANNEL_MESSAGE (R14)
  (∀ (s : State), exec (.badChannelMessage 1) s = .next (s.modSys fun y => { y with chanErrSafety := y.chanErrSafety + 1 })) ∧
  -- BAD_CHANNEL_MESSAGE (R14)
  (∀ (s : State), exec (.badChannelMessage 2) s = .next (s.modSys fun y => { y with chanErrService := y.chanErrService + 1 })) ∧
  -- FIREWALL_ACCESS (R16)
  (∀ (s : State), exec (.firewallAccess 0) s = .next (s.modSys fun y => { y with fwBlockLegal := y.fwBlockLegal + 1 })) ∧
  -- FIREWALL_ACCESS (R16)
  (∀ (s : State), exec (.firewallAccess 1) s = .next (s.modSys fun y => { y with fwBlockSafety := y.fwBlockSafety + 1 })) ∧
  -- FIREWALL_ACCESS (R16)
  (∀ (s : State), exec (.firewallAccess 2) s = .next (s.modSys fun y => { y with fwBlockRind := y.fwBlockRind + 1 }))

/-- Commands to a port and its session: where each completes and what it leaves. -/
def Obligations.PortAndSessionCommandsComplete : Prop :=
  -- GET_PORT_STATUS (R153)
  (∀ (r : Req) (s : State), exec (.getPortStatus r) s = .next (s.answer r Code.done (s.vpBlock r.guest r.port))) ∧
  -- GET_VEHICLE_INFO (R153)
  (∀ (r : Req) (s : State), ∃ ws, exec (.getVehicleInfo r) s = .next (s.answer r Code.done ws)) ∧
  -- GET_LINK_STATS (R153)
  (∀ (r : Req) (s : State), let t := s.updateStats r.port
      let x := t.vehAt r.port
      let up := x.link == .linked || x.link == .connected
      ∃ snr, snr < 256 ∧ exec (.getLinkStats r) s = .next (t.useFree.answer r Code.done (pair48 (Config.portMac r.port.1 % 2 ^ 48) ++
        [w32 x.stats.tx, w32 x.stats.rx, w32 x.stats.retrans, pack [(7, 0, snr), (15, 8, min 255 x.slac.atten)],
          pack [(23, 0, if up then min 0xFFFFFF ((t.time.chain - x.linkUpAt) / 1000000000) else 0)]]))) ∧
  -- GET_CERT_REQUEST (R147)
  (∀ (r : Req) (s : State), (s.vehAt r.port).cert.pending = true → (s.vehAt r.port).cert.late = false →
      exec (.getCertRequest r) s = .next ((s.modVeh r.port fun x => { x with cert := { x.cert with replaced := false } }).answerRing r
        (r.fld 3 2 0) (s.vehAt r.port).cert.body [pack [(15, 0, (s.vehAt r.port).cert.body.length)]])) ∧
  -- CLAIM_PORT (R154)
  (∀ (r : Req) (s : State), r.bit 3 0 = false → ix s.host.claim r.port = none →
      exec (.claimPort r) s = .next (((s.modHost fun h => { h with claim := upd h.claim r.port fun _ => some r.guest }).service 3 r.port.1 (1 + r.guest.1)).answer r
        Code.done [pack [(3, 0, 0), (4, 4, 0)]])) ∧
  -- RELEASE_PORT (R150)
  (∀ (r : Req) (s : State), exec (.releasePort r) s = .next ((s.endClaim r.port).answer r Code.done)) ∧
  -- SET_AC_CURRENT (R134)
  (∀ (r : Req) (s : State), let c := r.fld 3 9 0
      let t := ((s.modVeh r.port fun x => { x with acCmd := some c }).refreshPwm r.port).wantChanged r.port
      s.isAc r.port = true → (s.vehAt r.port).link = .basic → (c = 0 ∨ (60 ≤ c ∧ c ≤ 630)) →
      exec (.setAcCurrent r) s = .next (t.answer r Code.done
        [pack [(9, 0, t.advertised r.port), (25, 16, (t.vehAt r.port).cp.drive.duty)]])) ∧
  -- DRIVE_LOCK (R148)
  (∀ (r : Req) (s : State), (s.sesAt r.port).state.inSession = false → (s.portCfg r.port).lockPresent = true →
      (s.vehAt r.port).lock.phase = .idle → (r.bit 3 0 = true ∨ s.openOk r.port = true) →
      exec (.driveLock r) s = .next ((s.accept r).startLock r.port (r.bit 3 0) (some r))) ∧
  -- RESET_PORT (R32)
  (∀ (r : Req) (s : State), (s.sesAt r.port).state.inSession = false →
      exec (.resetPort r) s = .next ((s.portReset r.port).answer r Code.done)) ∧
  -- RESET_PORT (R32)
  (∀ (r : Req) (s : State), (s.sesAt r.port).state.inSession = true → exec (.resetPort r) s =
      .next (((s.accept r).modVeh r.port fun x => { x with resetCmds := x.resetCmds ++ [r] }).resetPort r.port 0x21)) ∧
  -- CERT_EXCHANGE_REPLY (R147)
  (∀ (r : Req) (s : State), let c := (s.vehAt r.port).cert
      c.pending = true → c.replaced = false → c.late = false → r.bit 3 8 = true →
      exec (.certExchangeReply r) s = .next (((s.modVeh r.port fun x => { x with cert := {} }).sayVehicle r.port 3 0).answer r Code.done)) ∧
  -- CERT_EXCHANGE_REPLY (R147)
  (∀ (r : Req) (s : State), let c := (s.vehAt r.port).cert
      let q := s.withRing r (r.fld 3 2 0)
      c.pending = true → c.replaced = false → c.late = false → r.bit 3 8 = false → q.ringOk = true → q.ringIn.length ≤ 16384 →
      exec (.certExchangeReply r) s = .next (((s.modVeh r.port fun x => { x with cert := {} }).emit (.certResponse r.port q.ringIn)).endRing
        q (r.fld 3 2 0) Code.done)) ∧
  -- CERT_EXCHANGE_REPLY (R147)
  (∀ (r : Req) (s : State), let c := (s.vehAt r.port).cert
      let q := s.withRing r (r.fld 3 2 0)
      c.pending = true → c.replaced = false → c.late = false → r.bit 3 8 = false → q.ringOk = true → 16384 < q.ringIn.length →
      exec (.certExchangeReply r) s = .next (s.answer r Code.outOfRange)) ∧
  -- GET_SESSION_STATUS (R179)
  (∀ (r : Req) (s : State), exec (.getSessionStatus r) s = .next (s.answer r Code.done (s.sesBlock r.guest r.port))) ∧
  -- GET_SESSION_SUMMARY (R179)
  (∀ (r : Req) (s : State), ∃ ws, exec (.getSessionSummary r) s = .next (s.answer r Code.done (w32 (s.sesAt r.port).sesNo :: ws))) ∧
  -- AUTHORISE_SESSION (R159)
  (∀ (r : Req) (s : State), let p := r.port
      let d := s.decisionOf r
      s.retired = false → s.safetySwap = false → s.saf.state ≠ .init → s.legal.state ≠ .starting → (s.portCfg p).enable = true → (s.sesAt p).state = .idle →
      (s.vehAt p).link ≠ .basic → (s.sesAt p).preauth = none → (s.sesAt p).openReq = false → d.badRange = false → r.bit 3 8 = true →
      (d.source = 2 → (s.vehAt p).contract.ready = true) → s.judge p (some d) = none →
      exec (.authoriseSession r) s = .next ((s.modSes p fun y => { y with preauth := some (d, r.guest) }).answer r Code.done [0])) ∧
  -- AUTHORISE_SESSION (R159)
  (∀ (r : Req) (s : State), let p := r.port
      let d := s.decisionOf r
      s.retired = false → s.safetySwap = false → s.saf.state ≠ .init → s.legal.state ≠ .starting → (s.portCfg p).enable = true → (s.sesAt p).state = .authorising →
      (s.sesAt p).preauth = none → (s.sesAt p).openReq = false → d.badRange = false → r.bit 3 8 = true →
      (d.source = 2 → (s.vehAt p).contract.ready = true) → s.judge p (some d) = none →
      exec (.authoriseSession r) s = .next (s.openWith p d (some r))) ∧
  -- ADD_CREDIT (R174)
  (∀ (r : Req) (b : SesRec) (s : State), let p := r.port
      let e := b.creditE + r.nat48 3
      let t := b.creditT + r.fld 5 23 0
      (s.bilAt p).ses = some b → b.out = false → (s.sesAt p).sesOpen = true → (b.creditE = 0 → r.nat48 3 = 0) →
      (b.creditT = 0 → r.fld 5 23 0 = 0) → e < 2 ^ 48 → t ≤ 604800 →
      let warned := b.warned && 9 * e ≤ 10 * (s.nrgAt p).sesImp
      let warnedT := b.warnedT && 9 * t ≤ 10 * ((s.legal.proc - b.nOpen) / 51200)
      let u := (s.modBil p fun y => { y with ses := some { b with creditE := e, creditT := t, warned, warnedT } }).modSes p
        fun y => { y with warnE := warned, warnT := warnedT }
      exec (.addCredit r) s = .next (u.answer r Code.done (pair48 (u.creditLeft p).1 ++ [pack [(23, 0, (u.creditLeft p).2.1)]]))) ∧
  -- STOP_SESSION (R180)
  (∀ (r : Req) (s : State), (s.sesAt r.port).state.inSession = true →
      exec (.stopSession r) s = .next (((s.accept r).modSes r.port fun y => { y with stopCmds := y.stopCmds ++ [r] }).endSession r.port 0x02)) ∧
  -- STOP_SESSION (R180)
  (∀ (r : Req) (x : Decision × Guest) (s : State), (s.sesAt r.port).state.inSession = false → (s.sesAt r.port).state ≠ .authorising →
      (s.sesAt r.port).preauth = some x →
      exec (.stopSession r) s = .next ((s.modSes r.port fun y => { y with preauth := none }).answer r Code.done)) ∧
  -- CLEAR_FAULT (R180)
  (∀ (r : Req) (s : State), (s.sesAt r.port).state = .faulted → s.blkContactor r.port = false →
      exec (.clearFault r) s = .next ((((s.sesTo r.port (if (s.vehAt r.port).link.inUse then .ended else .idle)).runDeferred
        r.port).availPoll r.port).answer r Code.done))

/-- Power delivery: where each row completes and what it leaves. -/
def Obligations.PowerRowsComplete : Prop :=
  -- GET_POWER_STATUS (R220)
  (∀ (r : Req) (s : State), exec (.getPowerStatus r) s = .next (s.answer r Code.done (s.pwrBlock r.guest r.port))) ∧
  -- GET_LEASE_STATUS (R220)
  (∀ (r : Req) (s : State), exec (.getLeaseStatus r) s = .next (s.answer r Code.done s.leaseBlock)) ∧
  -- GET_CONVERTER_LIMITS (R220)
  (∀ (r : Req) (s : State), let x := (s.pwrAt r.port).limits
      let f (v : Int) : Word := wInt (sat24 v).1
      exec (.getConverterLimits r) s = .next (s.answer r Code.done [f x.vMax, f x.iMax, f x.iMin, f x.pMax, f x.pMin,
        pack [(15, 0, min 0xFFFF x.slewUp), (31, 16, min 0xFFFF x.slewDn)], pack [(0, 0, b1 x.bidir)]])) ∧
  -- GET_PM_LINK_STATS (R220)
  (∀ (r : Req) (l : PmIdx) (s : State), let k := s.pmLink l
      l.1 = r.fld 3 0 0 → exec (.getPmLinkStats r) s = .next (s.answer r Code.done [w32 k.tx, w32 k.rx, w32 k.crcErr,
        w32 (k.seqGap + Config.converterGaps l.1 s.time.chain),
        w32 k.recalls, w32 k.repeats, pack [(23, 0, k.delay.toNat)], pack [(7, 0, k.faults)]])) ∧
  -- SET_PORT_LIMIT (R221)
  (∀ (r : Req) (s : State), let p := r.port
      let t := s.modPwr p fun y => { y with
        chargeCap := r.fld 3 23 0, dischargeCap := r.fld 4 23 0, dynTarget := none }
      let u := ((if (s.pwrAt p).enabled then t.retarget p else t).refreshPwm p).wantChanged p
      r.bit 6 0 = false → exec (.setPortLimit r) s = .next (u.answer r Code.done [wInt (sat24 (u.target p)).1])) ∧
  -- SET_PORT_LIMIT (R221)
  (∀ (r : Req) (s : State), let p := r.port
      let t := s.modPwr p fun y => { y with
        chargeCap := r.fld 3 23 0, dischargeCap := r.fld 4 23 0, dynTarget := some (r.int24 5) }
      let u := ((if (s.pwrAt p).enabled then t.retarget p else t).refreshPwm p).wantChanged p
      r.bit 6 0 = true → (s.vehAt p).link = .connected → (s.vehAt p).protocol = 3 → (s.vehAt p).dynamic = true →
      exec (.setPortLimit r) s = .next (u.answer r Code.done [wInt (sat24 (u.target p)).1])) ∧
  -- STEP_INSTANT (R197)
  (∀ (p : Port) (s : State), (s.pwrAt p).enabled = true →
      ((s.pwrAt p).state = .precharge ∨ (s.pwrAt p).state = .active ∨ (s.pwrAt p).state = .rampdown) →
      exec (.stepInstant p) s = .next (s.planStep p (s.pwrAt p).nextStep (s.time.chain + s.depth p * s.periodUs p * 1000))) ∧
  -- RUN_AHEAD_REPLAN (R199)
  (∀ (p : Port) (s : State), (s.pwrAt p).enabled = true → (s.pwrAt p).replan = true →
      ((s.pwrAt p).state = .precharge ∨ (s.pwrAt p).state = .active ∨ (s.pwrAt p).state = .rampdown) →
      exec (.runAheadReplan p) s = .next (s.replan p)) ∧
  -- RECALL_REPEAT (R184)
  (∀ (p : Port) (a : AckWait) (l : PmIdx) (ch : Nat) (s : State), nextRepeat (s.pwrAt p).acks = some a → (s.pwrCfg p).map = some (l, ch) →
      exec (.recallRepeat p) s = .next (((s.pmSend l a.type ch a.gen [w32 a.w1]).modPwr p fun x => { x with
        acks := x.acks.map fun b => if b = a then { b with seqs := b.seqs ++ [(s.pmLink l).txSeq] } else b }).modPmLink l
          fun k => { k with repeats := (k.repeats + 1) % 2 ^ 32 })) ∧
  (∀ (a : AckWait) (l : List AckWait), nextRepeat l = some a → a ∈ l ∧ a.seqs.length < 3) ∧
  -- PM_ACK (R187)
  (∀ (l : PmIdx) (ch : Fin 8) (seq w1 w2 : Nat) (p : Port) (s : State), (s.pmLink l).state ≠ .down →
      s.portOfCh l ch.1 = some p → exec (.pmAck l ch seq w1 w2) s = .next ((s.pmRx l seq).modPwr p fun x => { x with
        acks := x.acks.filter fun a => !(a.type = w2 % 16 && a.seqs.contains (w2 / 256 % 256) && a.w1 % 2 ^ 32 = w1 % 2 ^ 32) })) ∧
  -- PM_STATUS (R188)
  (∀ (l : PmIdx) (ch : Fin 8) (seq : Nat) (st : PmStatus) (p : Port) (s : State), (s.pmLink l).state ≠ .down → s.portOfCh l ch.1 = some p →
      exec (.pmStatus l ch seq st) s = .next ((((((s.pmRx l seq).modPmLink l fun k => k.estimate st).modPwr p fun x => { x with
        vMeas := st.v, iMeas := st.i, flags := st.flags }).stepApplied p (st.applied % 2 ^ 32)).checkTarget p).checkPrecharge p)) ∧
  -- PM_LIMITS (R187)
  (∀ (l : PmIdx) (ch : Fin 8) (seq : Nat) (lim : PmLimits) (p : Port) (s : State),
      let new : Limits := { vMax := lim.vMax, iMax := lim.iMax, iMin := lim.iMin, pMax := lim.pMax, pMin := lim.pMin
                            slewUp := lim.slewUp, slewDn := lim.slewDn, bidir := lim.bidir }
      let a := (s.pmRx l seq).modPmLink l fun k => { k with state := .up }
      (s.pmLink l).state = .up → s.portOfCh l ch.1 = some p → (a.pwrAt p).limits ≠ new → (a.pwrAt p).enabled = false →
      exec (.pmLimits l ch seq lim) s = .next (((a.modPwr p fun x => { x with limits := new }).pwrRaise p 4).wantChanged p)) ∧
  -- PM_LIMITS (R187)
  (∀ (l : PmIdx) (ch : Fin 8) (seq : Nat) (lim : PmLimits) (s : State), (s.pmLink l).state = .training → s.portOfCh l ch.1 = none →
      exec (.pmLimits l ch seq lim) s = .next ((s.portsOn l).foldl
        (fun t p => if (t.pwrAt p).state = .precharge && !(t.pwrAt p).enabled then t.enable p else t)
        ((s.pmRx l seq).modPmLink l fun k => { k with state := .up }))) ∧
  -- PM_FAULT (R206)
  (∀ (l : PmIdx) (ch : Fin 8) (seq code : Nat) (off : Bool) (p : Port) (s : State), (s.pmLink l).state ≠ .down →
      s.portOfCh l ch.1 = some p → (s.pwrAt p).enabled = true →
      exec (.pmFault l ch seq code off) s = .next ((s.pmRx l seq).resetPort p 0x21)) ∧
  -- PM_BAD_FRAME (R185)
  (∀ (l : PmIdx) (s : State), (s.pmLink l).state ≠ .down →
      let bad := ((s.pmLink l).bad.filter fun t => s.time.chain < t + 1000000) ++ [s.time.chain]
      let t := s.modPmLink l fun x => { x with crcErr := (x.crcErr + 1) % 2 ^ 32, bad }
      exec (.pmBadFrame l) s = .next (if 16 < bad.length then t.pmFault l else t)) ∧
  -- PM_SYNC_SEND (R188)
  (∀ (l : PmIdx) (s : State), (s.pmLink l).state = .training ∨ (s.pmLink l).state = .up →
      let k := s.pmLink l
      let w : List Byte := padTo 32 (wordsToBytes [pack [(31, 28, 3), (26, 24, 0), (23, 16, k.txSeq), (15, 8, 0)], 0, w32 s.time.chain,
        w32 (s.time.chain / 2 ^ 32), pack [(23, 0, k.delay.toNat)]])
      exec (.pmSyncSend l) s = .next ((s.modPmLink l fun x => { x with txSeq := (x.txSeq + 1) % 256, tx := (x.tx + 1) % 2 ^ 32 }).emit
        (.pmFrame l (w ++ leBytes 4 (crc32 w))))) ∧
  -- PM_RX_SILENCE (R190)
  (∀ (l : PmIdx) (s : State), exec (.pmRxSilence l) s = .next (s.pmFault l)) ∧
  -- PM_ACK_TIMEOUT (R202)
  (∀ (p : Port) (a : AckWait) (as : List AckWait) (l : PmIdx) (ch : Nat) (s : State), (s.pwrAt p).acks = a :: as →
      (s.pwrCfg p).map = some (l, ch) → exec (.pmAckTimeout p) s = .next ((if a.type = 2 then s.pwrRaise p 0x20 else s).pmFault l)) ∧
  -- PM_LINK_RETRAIN (R190)
  (∀ (l : PmIdx) (s : State), (s.pmLink l).state = .fault →
      exec (.pmLinkRetrain l) s = .next (s.modPmLink l fun k => { k with state := .training })) ∧
  -- PWR_EVENT_READ (R217)
  (∀ (path : Path) (g : Guest) (p : Port) (s : State), s.canRead path g = true → (s.violKind path g (0x061C + 0x20 * p.1) false false) = none →
      exec (.pwrEventRead path g p) s = .next (((s.returnRead path g (0x061C + 0x20 * p.1) (ix (s.pwrAt p).ev g) []).modPwr p
        fun x => { x with ev := clearOne x.ev g }).hostActive path))

/-- Leases of site power: where each row completes and what it leaves. -/
def Obligations.LeaseRowsComplete : Prop :=
  -- REDUCE_SITE_POWER (R214)
  (∀ (r : Req) (s : State), let limit := r.fld 3 15 0
      let seconds := r.fld 3 27 16
      r.guest = 0 → s.fenced = false → limit ≤ s.cfg.siteLimit → seconds ≤ 3600 → s.isHead = true →
      exec (.reduceSitePower r) s = .next ((s.reduceSite limit seconds).answer r Code.done)) ∧
  -- REDUCE_SITE_POWER (R214)
  (∀ (r : Req) (s : State), let limit := r.fld 3 15 0
      let seconds := r.fld 3 27 16
      r.guest = 0 → s.fenced = false → limit ≤ s.cfg.siteLimit → seconds ≤ 3600 → s.isHead = false → seconds ≠ 0 →
      exec (.reduceSitePower r) s =
        .next (((s.originate s.chn.headAddr (.reduceReq limit seconds)).reduceLease (s.perMille limit)).answer r Code.done)) ∧
  -- POWER_EPOCH_START (R429)
  (∀ (s : State), exec .powerEpochStart s = if s.sys.power = .run then
      let a := (s.renewLease.modLease fun l => { l with epoch := s.epochNow, headEpochs := l.headEpochs + 1 }).renewFence
      let b := a.modChn fun c => { c with level := c.levelNext.getD c.level, levelNext := none }
      let c := if b.sys.reached 8 then (b.applyHeld.releaseSite).applyBoundary else b
      let d := if c.chainOn then c else c.renewLease
      .next (d.propose.divide.availAll) else .next s) ∧
  -- REPORT_SEND (R429)
  (∀ (s : State), s.chainOn = true → s.chn.head = false → s.chn.addr ≠ 0 → s.act.pendingStart = false →
      exec .reportSend s = .next (s.originate s.chn.headAddr (.report s.ownReport))) ∧
  -- REPORT_SEND (R429)
  (∀ (s : State), s.chainOn = true → s.chn.head = false → s.chn.addr ≠ 0 → s.act.pendingStart = true →
      exec .reportSend s = .next ((s.originate s.chn.headAddr (.report s.ownReport)).originate s.chn.headAddr
        (.actQuery (s.act.item s.act.tAct) none))) ∧
  -- GRANT_COMPUTE (R212)
  (∀ (s : State), s.chainOn = false →
      exec .grantCompute s = .next (s.modLease fun l => { l with overcommit := s.siteL < s.cfg.lease.floor })) ∧
  -- GRANT_COMPUTE (R212)
  (∀ (s : State), s.chainOn = true → s.chn.head = true → ∃ t, exec .grantCompute s = .next t ∧
      (∀ e ∈ t.chn.granted, e.quorate = t.chn.quorate ∧ e.fenced = (e.causes != 0)) ∧
      t.chn.fencedUnits = (t.chn.granted.filter (·.fenced)).length ∧ (∃ n, t.chn.levelNext = some n ∧ n ≤ s.cfg.chain.levelCap) ∧
      t.chn.headDigest = tagOf (siteDigest s.cfg) ∧
      t.lease.overcommit = (s.siteL < (((s.putReport s.chn.addr s.ownReport).chn.table.map (·.2)).map fun a =>
        match (s.putReport s.chn.addr s.ownReport).lease.reports.find? (·.addr == a) with
        | some u => u.rep.floor
        | none => Config.unitFloor a).sum : Bool)) ∧
  -- GRANT_BROADCAST (R429)
  (∀ (e : GrantEntry) (s : State), s.chainOn = true → s.chn.head = true → 0 < s.chn.granted.length → s.chn.granted.length ≤ 127 →
      s.chn.granted.find? (·.addr == s.chn.addr) = some e →
      exec .grantBroadcast s = .next ((s.originate 255 (.grant {
        epoch := (s.epochNow + 1) % 2 ^ 32, limit := s.siteL, level := s.chn.levelNext.getD s.chn.level, entries := s.chn.granted
        digest := siteDigest s.cfg })).takeGrant e).tryCommit) ∧
  -- REPORT (R430)
  (∀ (h : ChHdr) (rep : ReportFrame) (s : State), s.takes h (.report rep) = true →
      exec (.report h rep) s = .next ((s.received h (.report rep)).eatReport h.src rep)) ∧
  -- GRANT (R209)
  (∀ (h : ChHdr) (gr : GrantFrame) (s : State), s.takes h (.grant gr) = true →
      exec (.grant h gr) s = .next ((s.received h (.grant gr)).eatGrant gr)) ∧
  -- REDUCE (R214)
  (∀ (h : ChHdr) (f seconds : Nat) (s : State), s.takes h (.reduce f seconds) = true →
      exec (.reduce h f seconds) s = .next ((s.received h (.reduce f seconds)).reduceLease (min 1000 f))) ∧
  -- REDUCE_REQ (R421)
  (∀ (h : ChHdr) (limit seconds : Nat) (s : State), s.takes h (.reduceReq limit seconds) = true →
      exec (.reduceReq h limit seconds) s = .next ((s.received h (.reduceReq limit seconds)).eatReduceReq limit seconds)) ∧
  -- REDUCE_END (R214)
  (∀ (s : State), s.isHead = true → exec .reduceEnd s = .next (s.modLease fun l => { l with tmp := none })) ∧
  -- SITE_CONFIG (R431)
  (∀ (h : ChHdr) (epoch : Nat) (x : SiteItems) (s : State), s.takes h (.siteConfig epoch x) = true →
      exec (.siteConfig h epoch x) s = .next ((s.received h (.siteConfig epoch x)).eatSiteConfig h.src epoch x)) ∧
  -- CONFIG_ACK (R431)
  (∀ (h : ChHdr) (reason : Nat) (s : State), s.takes h (.configAck reason) = true →
      exec (.configAck h reason) s = .next ((s.received h (.configAck reason)).eatConfigAck h.src reason)) ∧
  -- SITE_CONFIG_DEADLINE (R431)
  (∀ (x : SiteProp) (s : State), s.chn.prop = some x → s.chn.head = true → x.agreed = false → (x.waiting = [] ∨ x.moves = 8) →
      exec .siteConfigDeadline s = .next (s.modChn fun c => { c with prop := some { x with agreed := true } })) ∧
  -- SITE_CONFIG_DEADLINE (R431)
  (∀ (x : SiteProp) (s : State), s.chn.prop = some x → s.chn.head = true → x.agreed = false → x.waiting ≠ [] → x.moves ≠ 8 →
      let y := { x with epoch := x.epoch + 10, moves := x.moves + 1 }
      exec .siteConfigDeadline s = .next ((s.modChn fun c => { c with prop := some y }).sendSite { y with waiting := s.unfencedUnits }))

/-- Time reference and sleep: where each row completes and what it leaves. -/
def Obligations.TimeAndSleepRowsComplete : Prop :=
  -- TREF_PPS_EDGE (R37)
  (∀ (off rate : Int) (s : State), 2 ≤ s.cfg.trefMode → (rate < -200000 ∨ 200000 < rate) → ∃ t, exec (.trefPpsEdge off rate) s = .next t ∧
      t.sys.tref.state = .holdover ∧ t.sys.tref.rateFault = true) ∧
  -- TREF_PPS_EDGE (R37)
  (∀ (off rate : Int) (s : State), 2 ≤ s.cfg.trefMode → -200000 ≤ rate → rate ≤ 200000 → s.sys.tref.rateFault = false →
      -500 ≤ off → off ≤ 500 → ∃ t, exec (.trefPpsEdge off rate) s = .next t ∧
      t.sys.tref.state = .locked ∧ t.sys.tref.phase = off ∧ t.sys.tref.rate = rate ∧ t.sys.tref.holdSince = none ∧
      t.sys.tref.slew = (if s.isHead then s.sys.tref.slew + off else s.sys.tref.slew)) ∧
  -- TREF_PPS_EDGE (R37)
  (∀ (off rate c : Int) (s : State), 2 ≤ s.cfg.trefMode → -200000 ≤ rate → rate ≤ 200000 → s.sys.tref.rateFault = false →
      s.sys.tref.cand = some c → s.sys.tref.candRun = 7 → nearEdge s.sys.tref.prev off = true → (off - c).natAbs ≤ 100 →
      100000 < c.natAbs →
      ∃ t, exec (.trefPpsEdge off rate) s = .next t ∧ t.sys.tref.state = .fault ∧ t.sys.tref.faultPhase = some c) ∧
  -- TREF_10M_EDGE (R37)
  (∀ (rate : Int) (s : State), s.cfg.trefMode % 2 = 1 →
      exec (.tref10mEdge true rate) s = .next (s.modTref Tref.glitch)) ∧
  -- TREF_10M_EDGE (R37)
  (∀ (rate : Int) (s : State), s.cfg.trefMode = 1 → -200000 ≤ rate → rate ≤ 200000 → s.sys.tref.rateFault = false →
      s.sys.tref.state ≠ .fault → s.sys.tref.state ≠ .locked →
      ∃ t, exec (.tref10mEdge false rate) s = .next t ∧ t.sys.tref.state = .locked ∧ t.sys.tref.rate = rate) ∧
  -- TREF_PPS_TIMEOUT (R39)
  (∀ (s : State), 2 ≤ s.cfg.trefMode → ∃ t, exec .trefPpsTimeout s = .next t ∧ t.sys.tref = s.sys.tref.hold s.time.legalUs) ∧
  -- TREF_10M_LOSS (R39)
  (∀ (s : State), s.cfg.trefMode % 2 = 1 → ∃ t, exec .tref10mLoss s = .next t ∧ t.sys.tref = s.sys.tref.hold s.time.legalUs) ∧
  -- RATE_FAULT_CLEAR (R40)
  (∀ (s : State), s.sys.tref.rateFault = true → ∃ t, exec .rateFaultClear s = .next t ∧ t.sys.tref.state = .acquire ∧
      t.sys.tref.rateFault = false) ∧
  -- REQUEST_SITE_SLEEP (R41)
  (∀ (r : Req) (s : State), let ms := r.fld 2 23 0
      let te := s.time.chain + ms * 1000000
      r.guest = 0 → s.fenced = false → 200 ≤ ms → ms ≤ 60000 → s.sys.sleep.cmd = none → s.sys.sleep.asking = false → s.isHead = true →
      exec (.requestSiteSleep r) s = .next ((s.accept r).startSleep te (some r))) ∧
  -- REQUEST_SITE_SLEEP (R41)
  (∀ (r : Req) (s : State), let ms := r.fld 2 23 0
      r.guest = 0 → s.fenced = false → 200 ≤ ms → ms ≤ 60000 → s.sys.sleep.cmd = none → s.sys.sleep.asking = false → s.isHead = false →
      exec (.requestSiteSleep r) s = .next (((s.accept r).modSleep fun x => { x with cmd := some r }).originate s.chn.headAddr
        (.sleep 1 (ms * 1000000)))) ∧
  -- SLEEP_ANSWER_TIMEOUT (R41)
  (∀ (s : State), s.isHead = true → s.sys.sleep.asking = true → s.sys.sleep.notReady = none → s.sys.sleep.phase = .prepared →
      (s.chainOn = true → ∀ a ∈ s.unfencedUnits, s.sys.sleep.ready.contains a = true) →
      exec .sleepAnswerTimeout s = .next ((((s.modSleep fun y => { y with asking := false }).originate 255 (.sleep 4 s.sys.sleep.te)).commitSleep
        s.sys.sleep.te).finalOpt s.sys.sleep.cmd Code.done)) ∧
  -- SLEEP_ANSWER_TIMEOUT (R41)
  (∀ (g a : Nat) (s : State), s.isHead = true → s.sys.sleep.asking = true → s.sys.sleep.notReady = some (g, a) →
      exec .sleepAnswerTimeout s = .next ((((s.modSleep fun y => { y with asking := false }).originate 255
        (.sleep 5 (pack [(3, 0, g), (15, 8, a)]).toNat)).stayAwake).finalOpt s.sys.sleep.cmd Code.refused [pack [(3, 0, g), (15, 8, a)]])) ∧
  -- SLEEP_POINT_OF_NO_RETURN (R23)
  (∀ (s : State), s.sys.sleep.phase = .committed → s.fenced = false → s.sleepGuard = none → ∃ t, exec .sleepPointOfNoReturn s = .next t ∧
      t.sys.sleep = { s.sys.sleep with phase := .pastTp }) ∧
  -- SLEEP_POINT_OF_NO_RETURN (R23)
  (∀ (g : Nat) (s : State), s.sys.sleep.phase = .committed → s.fenced = false → s.sleepGuard = some g →
      exec .sleepPointOfNoReturn s = .next ((s.modSleep fun x => { x with reason := g }).stayAwake)) ∧
  -- SLEEP_POINT_OF_NO_RETURN (R23)
  (∀ (s : State), s.sys.sleep.phase = .committed → s.fenced = true → exec .sleepPointOfNoReturn s = .next s.stayAwake) ∧
  -- DOZE_ENTRY (R23)
  (∀ (s : State), s.sys.power = .run → s.sys.sleep.phase = .pastTp → ∃ t, exec .dozeEntry s = .next t ∧ t.sys.power = .doze ∧
      (∀ p, ix t.sys.clocks.vehModem p = .stopped) ∧ t.sys.clocks.core = .stopped ∧ t.sys.clocks.crypto = .stopped ∧
      t.sys.clocks.meshModem = .stopped ∧ t.sys.clocks.stor = .stopped ∧ t.sys.clocks.display = .stopped ∧ t.cave.paused = true ∧
      t.msh.queue = [] ∧ t.msh.air = none ∧ ∀ k n, ∀ f ∈ ix (ix t.chn.links k).queue n, f.body.type = 0x15 ∨ f.body.type = 0x16) ∧
  -- DOZE_WAKE (R23)
  (∀ (src : Fin 6) (s : State), s.sys.power = .doze →
      ∃ t, exec (.dozeWake src) s = .next t ∧ t.sys.power = .run ∧ t.sys.sleep.phase = .none ∧ t.sys.clocks = {} ∧
      t.sys.sleep.wakeSrc = s.sys.sleep.latched ||| oneBit src.1 ∧ t.sys.sleep.latched = 0) ∧
  -- SLEEP_PREPARE (R41)
  (∀ (h : ChHdr) (te : Nat) (s : State), s.takes h (.sleep 1 te) = true →
      exec (.sleepPrepare h te) s = .next ((s.received h (.sleep 1 te)).eatPrepare te)) ∧
  -- SLEEP_READY (R41)
  (∀ (h : ChHdr) (s : State), s.takes h (.sleep 2 0) = true →
      exec (.sleepReady h) s = .next ((s.received h (.sleep 2 0)).eatReady h.src)) ∧
  -- SLEEP_NOT_READY (R41)
  (∀ (h : ChHdr) (guard : Nat) (s : State), s.takes h (.sleep 3 guard) = true →
      exec (.sleepNotReady h guard) s = .next ((s.received h (.sleep 3 guard)).eatNotReady h.src guard)) ∧
  -- SLEEP_COMMIT (R41)
  (∀ (h : ChHdr) (te : Nat) (s : State), s.takes h (.sleep 4 te) = true →
      exec (.sleepCommit h te) s = .next ((s.received h (.sleep 4 te)).eatSleepCommit te)) ∧
  -- SLEEP_ABORT (R42)
  (∀ (h : AbortHdr) (s : State), s.takes h.toChHdr (.sleep 5 h.why) = true →
      exec (.sleepAbort h) s = .next ((s.received h.toChHdr (.sleep 5 h.why)).eatAbort h.why)) ∧
  -- SLEEP_CANCEL (R42)
  (∀ (h : ChHdr) (s : State), s.takes h (.sleep 6 0) = true → exec (.sleepCancel h) s = .next (s.received h (.sleep 6 0)).eatCancel) ∧
  -- WAKE (R43)
  (∀ (h : ChHdr) (src : Nat) (s : State), s.takes h (.wake src) = true → exec (.wake h src) s = .next (s.received h (.wake src)).eatWake)

/-- Resets and start-up: where each row completes and what it leaves. -/
def Obligations.ResetRowsComplete : Prop :=
  -- RESET_CHIP (R120)
  (∀ (r : Req) (s : State), r.guest = 0 → r.word 2 = 0x8128 → exec (.resetChip r) s = .next (s.chipReset 6)) ∧
  -- CHIP_RESET (R30), SERVICE_WATCHDOG_EXPIRY (R30), ECC_UNCORRECTABLE (R30)
  (∀ (s : State), exec .chipReset s = .next (s.chipReset 1) ∧ exec .serviceWatchdogExpiry s = .next (s.chipReset 2) ∧
      exec .eccUncorrectable s = .next (s.chipReset 3)) ∧
  -- CLOCK_DEVIATION (R29)
  (∀ (s : State), s.sys.clkFault = false → (s.sys.chipCause ≠ 5 ∨ s.sys.reached 7 = true) → exec .clockDeviation s = .next (s.chipReset 5)) ∧
  -- CLOCK_DEVIATION (R29)
  (∀ (s : State), s.sys.clkFault = false → s.sys.chipCause = 5 → s.sys.reached 7 = false → exec .clockDeviation s =
      .next ((((s.modSys fun y => { y with clkFault := true, romRecovery := true }).modHost fun h => { h with
        numVFs := 0, rrs := false }).reach 7).sysChanged)) ∧
  -- CLOCK_DEVIATION (R29), SERVICE_IMAGE_START (R542)
  (∀ (v : Bool) (s : State), s.sys.clkFault = true → exec .clockDeviation s = .next s ∧ exec (.serviceImageStart v) s = .next s) ∧
  -- SERVICE_IMAGE_START (R542)
  (∀ (s : State), s.sys.clkFault = false → (s.rootUsable = true ∨ s.retired = true) → exec (.serviceImageStart true) s =
      .next (((((s.modFw fun f => { f with failedStarts := 0 }).modSys fun y => { y with romRecovery := false }).modHost fun h => { h with
      rrs := false }).modKeys fun k => { k with measured := upd k.measured 0 fun _ => rennet 0 (s.activeBank 0).digest }).reach 7)) ∧
  -- SERVICE_IMAGE_START (R542)
  (∀ (s : State), s.sys.clkFault = false → (s.rootUsable = true ∨ s.retired = true) →
      let t := (s.modFw fun f => { f with failedStarts := s.fw.failedStarts + 1 }).chipReset 4
      exec (.serviceImageStart false) s = .next (if 3 ≤ t.fw.failedStarts then t.enterRom else t)) ∧
  -- SERVICE_IMAGE_START (R542)
  (∀ (v : Bool) (s : State), s.sys.clkFault = false → s.rootUsable = false → s.retired = false →
      exec (.serviceImageStart v) s = .next s.enterRom) ∧
  -- POWER_ON_RESET (R23)
  (∀ (cause : Fin 3) (s : State), s.sys.power ≠ .dormant → ∃ t, exec (.powerOnReset cause) s = .next t ∧ t.sys.power = .dormant ∧
      t.sys.porCause = cause.1 ∧ t.saf.outs = 0 ∧ t.saf.enable = false ∧ (∀ p k, ix (t.spAt p).coils k = false) ∧
      (∀ b, (t.brkAt b).released = false) ∧ (∀ c, (ix t.ls.ch c).commanded = false) ∧ ∀ p, (t.lkAt p).state = .off) ∧
  -- POR_RELEASE (R35)
  (∀ (s : State), s.sys.power = .dormant → ∃ t, exec .porRelease s = .next t ∧ t.sys.power = .run ∧ t.sys.steps = [1] ∧
      t.sys.porResets = satInc 0xFFFF s.sys.porResets ∧ t.time.safetyUs = 0 ∧ ∀ p, t.vehAt p = {}) ∧
  -- LEGAL_START_DONE (R278)
  (∀ (torn : Nat) (s : State), s.legal.state = .starting → s.rootUsable = true → ∃ t, exec (.legalStartDone true true torn) s = .next t ∧
      t.legal.state = .run) ∧
  -- CONFIG_JOURNAL_REPLAY (R127)
  (∀ (torn : Nat) (s : State), s.sys.reached 7 = true → s.sys.reached 8 = false → s.sys.romRecovery = false →
      let a := (s.modJnl fun j => { j with conf := { j.conf with torn } }).bootOn.each (n := 8) fun p t => (t.followEnable p).rebuildPort p
      let b := a.each (n := 2) fun l t => if ix s.cfg.pmEnable l then t.modPmLink l fun k => { k with state := .training } else t
      let c := ((b.chainApplied false).resumeActivation.reach 8).readSafety
      exec (.configJournalReplay true torn) s = .next (if c.chainOn then c else c.reach 10).availAll)

/-- Control pilot and cable lock: where each row completes and what it leaves. -/
def Obligations.ControlPilotAndLockRowsComplete : Prop :=
  -- CP_PERIOD (R131)
  (∀ (p : Port) (hi lo : Int) (k : CpState) (s : State), (s.vehAt p).link ≠ .off → (s.vehAt p).cp.drive ≠ .f → cpClass hi = k →
      k ≠ .invalid → (s.vehAt p).cp.cand = k → (s.vehAt p).cp.agree + 1 < k.needs →
      exec (.cpPeriod p hi lo) s = .next (((s.modVeh p fun v => { v with cp := { (v.cp.diode lo) with hi } }).modVeh p fun v => { v with
        cp := v.cp.join k }).modVeh p fun v => { v with faultNow := false, evWas := v.ev, cp := { v.cp with fNow := false } })) ∧
  -- CP_PERIOD (R131)
  (∀ (p : Port) (hi lo : Int) (k : CpState) (s : State), (s.vehAt p).link ≠ .off → (s.vehAt p).cp.drive ≠ .f → cpClass hi = k →
      k ≠ .invalid → (s.vehAt p).cp.cand = k → k.needs ≤ (s.vehAt p).cp.agree + 1 → (s.vehAt p).cp.agree < 3 → (s.vehAt p).cp.state ≠ k →
      exec (.cpPeriod p hi lo) s = .next ((((s.modVeh p fun v => { v with cp := { (v.cp.diode lo) with hi } }).modVeh p fun v => { v with
        cp := v.cp.join k }).cpAccept p k).modVeh p fun v => { v with faultNow := false, evWas := v.ev, cp := { v.cp with fNow := false } })) ∧
  -- CP_INVALID_TIMEOUT (R131)
  (∀ (p : Port) (s : State), (s.vehAt p).cp.gap = true → (s.vehAt p).cp.state ≠ .invalid → (s.vehAt p).link ≠ .off →
      exec (.cpInvalidTimeout p) s = .next (s.cpAccept p .invalid)) ∧
  -- PP_MEASUREMENT (R135)
  (∀ (p : Port) (ohm : Nat) (s : State), (s.vehAt p).pp.cand = s.ppClass p ohm → (s.vehAt p).pp.agree = 4 →
      (s.vehAt p).pp.code ≠ s.ppClass p ohm →
      exec (.ppMeasurement p ohm) s = .next ((s.modVeh p fun v => { v with pp := { v.pp with cand := s.ppClass p ohm, agree := 5 } }).ppAccept p
        (s.ppClass p ohm))) ∧
  -- LOCK_PULSE_END (R148)
  (∀ (p : Port) (s : State), let k := (s.vehAt p).lock
      k.phase = .pulse → k.stopping = false → (s.lkAt p).want = none → (s.lkAt p).failed = false → s.fbLocked p = k.target →
      exec (.lockPulseEnd p) s = .next ((s.endDrive p id).lockDone p)) ∧
  -- LOCK_PULSE_END (R148)
  (∀ (p : Port) (s : State), let k := (s.vehAt p).lock
      k.phase = .pulse → k.stopping = false → (s.lkAt p).want = none → (s.lkAt p).failed = false → s.fbLocked p ≠ k.target →
      exec (.lockPulseEnd p) s = .next ((s.endDrive p id).modLock p fun x => { x with phase := .feedback })) ∧
  -- LOCK_PULSE_END (R148)
  (∀ (p : Port) (s : State), (s.vehAt p).lock.phase = .pulse → (s.vehAt p).lock.stopping = false → (s.lkAt p).want = none →
      (s.lkAt p).failed = true → exec (.lockPulseEnd p) s = .next ((s.endDrive p id).attemptFailed p)) ∧
  -- LOCK_PULSE_END (R148)
  (∀ (p : Port) (s : State), (s.vehAt p).lock.phase = .pulse → (s.vehAt p).lock.stopping = true →
      exec (.lockPulseEnd p) s = .next (((s.endDrive p id).modLk p fun x => { x with want := none }).lockEnd p Code.cancelled)) ∧
  -- LOCK_FEEDBACK_TIMEOUT (R148)
  (∀ (p : Port) (s : State), (s.vehAt p).lock.phase = .feedback → (s.vehAt p).lock.attempt < 3 →
      exec (.lockFeedbackTimeout p) s = .next (s.modLock p fun x => { x with phase := .pause })) ∧
  -- LOCK_FEEDBACK_TIMEOUT (R148)
  (∀ (p : Port) (s : State), (s.vehAt p).lock.phase = .feedback → 3 ≤ (s.vehAt p).lock.attempt →
      exec (.lockFeedbackTimeout p) s = .next (if (s.sesAt p).state = .preparing then (s.lockEnd p Code.fault).endSession p 0x15
        else s.lockEnd p Code.fault)) ∧
  -- LOCK_ATTEMPT_TIMER (R148)
  (∀ (p : Port) (s : State), (s.vehAt p).lock.phase = .pause → exec (.lockAttemptTimer p) s = .next (s.lockAttempt p)) ∧
  -- LOCK_FB_CHANGE (R148)
  (∀ (p : Port) (closed : Bool) (s : State), (s.vehAt p).lock.phase = .pulse →
      exec (.lockFbChange p closed) s = .next (s.modLock p fun x => { x with fbClosed := closed })) ∧
  -- LOCK_FB_CHANGE (R148)
  (∀ (p : Port) (closed : Bool) (s : State), let t := s.modLock p fun x => { x with fbClosed := closed }
      (s.vehAt p).lock.phase = .idle → (s.vehAt p).lock.state ≠ .fault →
      exec (.lockFbChange p closed) s = .next ((t.modLock p fun x => { x with state := t.lockShown p }).advance p))

/-- Vehicle link and protocol: where each row completes and what it leaves. -/
def Obligations.VehicleLinkRowsComplete : Prop :=
  -- CM_SLAC_PARM_REQ (R141)
  (∀ (p : Port) (run mac : Nat) (s : State), s.isT1s p = false → (s.vehAt p).slac.initOver = false → (s.vehAt p).cp.state = .b →
      (s.vehAt p).link = .plugged → (s.vehAt p).slac.refused ≠ some run →
      exec (.cmSlacParmReq p run mac) s = .next (((s.emit (.toVehicle p 6 run)).linkTo p .matching).modVeh p fun v => { v with
        evccid := mac % 2 ^ 48
        slac := { v.slac with
          run := some run, sounds := [], indSent := false, needValidate := false, validated := false, keySent := false } })) ∧
  -- CM_START_ATTEN_CHAR (R140)
  (∀ (p : Port) (run : Nat) (s : State), s.matching p run = true →
      exec (.cmStartAttenChar p run) s = .next (s.modVeh p fun x => { x with slac := { x.slac with sounds := [] } })) ∧
  -- CM_MNBC_SOUND (R140)
  (∀ (p : Port) (run dB : Nat) (s : State), s.matching p run = true →
      exec (.cmMnbcSound p run dB) s = .next (s.modVeh p fun x => { x with slac := { x.slac with sounds := x.slac.sounds ++ [dB] } })) ∧
  -- CM_VALIDATE (R140)
  (∀ (p : Port) (run : Nat) (ok : Bool) (s : State), s.matching p run = true → (s.portCfg p).slacValidate = true →
      exec (.cmValidate p run ok) s = .next ((s.modVeh p fun x => { x with slac := { x.slac with validated := ok } }).emit
        (.toVehicle p 14 (b1 ok)))) ∧
  -- SOUNDING_COMPLETE (R142)
  (∀ (p : Port) (run : Nat) (s : State), (∀ q, s.matching q run = true ↔ q = p) → (s.vehAt p).slac.sounds ≠ [] →
      (s.vehAt p).slac.indSent = false → atMostDb (s.vehAt p).slac.avg (s.portCfg p).attenMax = true →
      exec (.soundingComplete run) s = .next ((s.modVeh p fun x => { x with slac := { x.slac with
        indSent := true, needValidate := false } }).emit (.toVehicle p 7 run))) ∧
  -- CM_SLAC_MATCH_REQ (R142)
  (∀ (p : Port) (run : Nat) (s : State), s.isT1s p = true → exec (.cmSlacMatchReq p run) s = .next s) ∧
  -- CM_SLAC_MATCH_REQ (R142)
  (∀ (p : Port) (run : Nat) (s : State), let nmk := Config.freeNat s.free % 2 ^ 128
      let nid := Config.nidOf nmk % 2 ^ 54
      s.isT1s p = false → s.matching p run = true → (s.vehAt p).slac.indSent = true → (s.vehAt p).slac.needValidate = false →
      s.matchedElse p run = false →
      exec (.cmSlacMatchReq p run) s = .next ((((s.modVeh p fun v => { v with slac := { v.slac with nmk, nid, keySent := true } }).useFree).emit
        (.setKey p nmk nid)).emit (.slacMatch p run nmk nid))) ∧
  -- CM_SET_KEY_CNF (R137)
  (∀ (p : Port) (run : Nat) (s : State), let x := (s.vehAt p).slac
      x.run = some run → (s.vehAt p).link = .matching → x.keySent = true → s.matchedElse p run = false →
      let t := ((s.linkTo p .linked).modVeh p fun v => { v with
        linkUpAt := s.time.chain, stats := {}, slac := { v.slac with
          run := none, keySent := false, matched := some run, atten := (quot x.avg.1 x.avg.2).toNat } }).vpRaise p 0x10
      exec (.cmSetKeyCnf p) s = .next (t.each (n := 8) fun q u => if q != p && u.matching q run then u.leftOut q run else u)) ∧
  -- SLAC_TIMER_EXPIRY (R137)
  (∀ (p : Port) (s : State), (s.vehAt p).link = .matching → exec (.slacTimerExpiry p) s = .next (s.unmatch p)) ∧
  -- SLAC_INIT_TIMEOUT (R137)
  (∀ (p : Port) (s : State), (s.vehAt p).fallback = false → (s.vehAt p).slac.initOver = false → (s.vehAt p).link = .plugged →
      exec (.slacInitTimeout p) s = .next ((s.modVeh p fun v => { v with slac := { v.slac with initOver := true } }).linkFailed p)) ∧
  -- LINK_RETRY_END (R137)
  (∀ (p : Port) (s : State), (s.vehAt p).link = .retry → exec (.linkRetryEnd p) s =
      .next (((s.linkTo p .plugged).drive p .hlc).modVeh p fun x => { x with slac := { atten := x.slac.atten } })) ∧
  -- BASIC_FALLBACK_END (R137)
  (∀ (p : Port) (s : State), (s.vehAt p).fallback = true → (s.vehAt p).link = .plugged →
      exec (.basicFallbackEnd p) s = .next ((s.modVeh p fun x => { x with fallback := false }).toBasic p)) ∧
  -- T1S_FIRST_FRAME (R143)
  (∀ (p : Port) (mac : Nat) (s : State), s.isT1s p = true → (s.vehAt p).link = .plugged →
      exec (.t1sFirstFrame p true mac) s = .next (((s.linkTo p .linked).modVeh p fun x => { x with
        evccid := mac % 2 ^ 48, linkUpAt := s.time.chain, stats := {} }).vpRaise p 0x10)) ∧
  -- SDP_REQUEST (R144)
  (∀ (p : Port) (tls : Bool) (s : State), (s.vehAt p).link = .linked →
      let on := (s.portCfg p).offersTls tls
      exec (.sdpRequest p tls) s = .next ((s.modVeh p fun x => { x with sdp := true, tls := on }).emit (.toVehicle p 10 (b1 on)))) ∧
  -- SUPPORTED_APP_PROTOCOL (R145)
  (∀ (p : Port) (offers : List Nat) (mode k : Nat) (dynamic : Bool) (s : State), let conn := (s.portCfg p).connType
      (s.vehAt p).link = .linked → (s.vehAt p).sdp = true →
      (s.portCfg p).priorityList.find? (fun k => offers.contains k && permits conn k && tlsFits k (s.vehAt p).tls) = some k →
      let t := (s.linkTo p .connected).modVeh p fun v => { v with
        protocol := k, mode := if (modesOf conn k).contains mode then mode else 0, dynamic := dynamic && k == 3 }
      exec (.supportedAppProtocol p offers mode dynamic) s =
        .next ((((t.modSes p fun y => { y with linkLost := false }).emit (.toVehicle p 11 k)).vpRaise p 0x20).refreshPwm p)) ∧
  -- TCP_CLOSED (R137), PROTOCOL_SEQUENCE_TIMEOUT (R137)
  (∀ (p : Port) (s : State), (s.vehAt p).link = .connected →
      let t := (((s.linkTo p .linked).dropProtocol p).vpRaise p 0x40).modSes p fun x => { x with linkLost := x.state.inSession }
      exec (.tcpClosed p) s = .next t ∧ exec (.protocolSequenceTimeout p) s = .next t) ∧
  -- LINK_LOST_GRACE (R168)
  (∀ (p : Port) (s : State), (s.sesAt p).linkLost = true →
      exec (.linkLostGrace p) s = .next ((s.modSes p fun x => { x with linkLost := false }).endSession p 0x18)) ∧
  -- PROTOCOL_ERROR (R168)
  (∀ (p : Port) (s : State), (s.vehAt p).link ≠ .off → exec (.protocolError p) s = .next (s.resetPort p 0x22)) ∧
  -- CONTRACT_CHAIN_PRESENTED (R146)
  (∀ (p : Port) (chain emaid root : List Byte) (chk : ChainChecks) (k : Nat) (s : State), (s.vehAt p).link = .connected →
      (s.portCfg p).pnc = true → 2 ≤ (s.vehAt p).protocol → s.rootEntry p root = some k →
      exec (.contractChainPresented p chain emaid root chk) s = .next (s.modVeh p fun v => { v with contract := {
        presented := true, checking := true, ready := false, emaid, chainOk := chk.signatures, sigOk := chk.challenge
        usageOk := chk.usage, expired := s.sys.wallSet && chk.expired, timeUnchecked := !s.sys.wallSet, root := k
        tag := leNat ((beBytes 48 (Config.sha384 chain)).take 4) } })) ∧
  -- CONTRACT (R146)
  (∀ (p : Port) (s : State), (s.vehAt p).contract.checking = true →
      exec (.contract p) s = .next (((s.modVeh p fun v => { v with contract := { v.contract with checking := false, ready := true } }).vpRaise p
        0x1000).identify p)) ∧
  -- CERT_INSTALL_REQUEST (R147)
  (∀ (p : Port) (body : List Byte) (s : State), (s.vehAt p).link = .connected →
      exec (.certInstallRequest p body) s = .next ((s.modVeh p fun v => { v with cert :=
        { body, pending := true, late := false, replaced := v.cert.pending && !v.cert.late } }).vpRaise p 0x800)) ∧
  -- CERT_REPLY_TIMEOUT (R147)
  (∀ (p : Port) (s : State), (s.vehAt p).cert.pending = true → (s.vehAt p).cert.late = false →
      exec (.certReplyTimeout p) s = .next ((s.modVeh p fun v => { v with cert := { v.cert with late := true } }).sayVehicle p 3 0)) ∧
  -- AUTHORIZATION_REQ (R158)
  (∀ (p : Port) (s : State), (s.vehAt p).link = .connected → (s.sesAt p).state ≠ .authorising →
      exec (.authorizationReq p) s = .next (s.identify p)) ∧
  -- AUTHORIZATION_REQ (R158)
  (∀ (p : Port) (s : State), (s.vehAt p).link = .connected → (s.sesAt p).state = .authorising →
      exec (.authorizationReq p) s = .next (s.emit (.toVehicle p 4 0))) ∧
  -- CABLE_CHECK_REQ (R163)
  (∀ (p : Port) (s : State), (s.sesAt p).state = .preparing → (s.vehAt p).link = .connected →
      exec (.cableCheckReq p) s = .next ((s.modSes p fun x => { x with cableCheck := true }).advance p)) ∧
  -- VEHICLE_TARGET (R191)
  (∀ (p : Port) (g : VehTarget) (s : State), (s.vehAt p).link = .connected →
      let t := ((s.modVeh p fun x => { x with evVmax := g.vMax, evImax := g.iMax, evPmax := g.pMax, evPdis := g.pDis }).modPwr p fun x => { x with
        vTgt := g.v, iTgt := g.i, vPre := g.vPre, evSlewUp := g.slewUp, evSlewDn := g.slewDn }).leaveWindow p
      exec (.vehicleTarget p g) s = .next (((((if (s.pwrAt p).enabled then t.retarget p else t).refreshPwm p).wantChanged p).advance
        p).meterInfo p)) ∧
  -- VEHICLE_PAUSE (R162)
  (∀ (p : Port) (s : State), (s.vehAt p).link = .connected → (s.sesAt p).state = .charging → (s.sesAt p).ending = false →
      exec (.vehiclePause p) s = .next (s.ramp p false)) ∧
  -- VEHICLE_RESUME (R162)
  (∀ (p : Port) (s : State), (s.vehAt p).link = .connected → (s.sesAt p).state = .paused →
      exec (.vehicleResume p) s = .next (((s.modSes p fun x => { x with state := .preparing, prep := .lock, resumed := true }).sesRaise p
        0x10).advance p)) ∧
  -- VEHICLE_STOP (R168)
  (∀ (p : Port) (s : State), (s.vehAt p).link = .basic → (s.vehAt p).cp.state = .b → exec (.vehicleStop p) s = .next (s.endSession p 0x01)) ∧
  -- VEHICLE_STOP (R168)
  (∀ (p : Port) (s : State), (s.vehAt p).link = .connected → exec (.vehicleStop p) s = .next (s.endSession p 0x01)) ∧
  -- VP_EVENT_READ (R151)
  (∀ (path : Path) (g : Guest) (p : Port) (s : State), s.canRead path g = true → (s.violKind path g (0x0414 + 0x20 * p.1) false false) = none →
      exec (.vpEventRead path g p) s = .next (((s.returnRead path g (0x0414 + 0x20 * p.1) (ix (s.vehAt p).ev g) []).modVeh p
        fun x => { x with ev := clearOne x.ev g }).hostActive path))

/-- Session engine and Safety’s messages to it: where each row completes and what it leaves. -/
def Obligations.SessionRowsComplete : Prop :=
  -- LEGAL_SESSION_OPEN (R156)
  (∀ (p : Port) (d : Decision) (s : State), (s.sesAt p).openReq = true → (s.sesAt p).asked = some d → s.legalRun = true →
      let t := s.legalOpen p d ((s.pwrCfg p).bidirOk && !(s.nrgAt p).ps && [3, 4, 6].contains (s.vehAt p).mode)
      exec (.legalSessionOpen p) s = .next (t.opened p (t.bilAt p).lastNo true)) ∧
  -- AUTH_TIMEOUT (R159)
  (∀ (p : Port) (s : State), (s.sesAt p).state = .authorising → (s.sesAt p).openReq = false →
      exec (.authTimeout p) s = .next ((s.sesRaise p 0x1000).reject p)) ∧
  -- PREAUTH_LAPSED (R160)
  (∀ (p : Port) (x : Decision × Guest) (s : State), (s.sesAt p).preauth = some x →
      exec (.preauthLapsed p) s = .next ((s.modSes p fun x => { x with preauth := none }).sesRaise p 0x800)) ∧
  -- PRECHARGE_TIMEOUT (R162)
  (∀ (p : Port) (s : State), (s.sesAt p).state = .preparing → (s.sesAt p).prep = .precharge →
      exec (.prechargeTimeout p) s = .next (s.endSession p 0x16)) ∧
  -- RAMP_TIMEOUT (R169)
  (∀ (p : Port) (s : State), (s.sesAt p).state = .rampdown →
      exec (.rampTimeout p) s = .next ((s.modSes p fun x => { x with rampTimeout := true }).askOpen p)) ∧
  -- PAUSE_LIMIT (R168)
  (∀ (p : Port) (s : State), (s.sesAt p).state = .paused → exec (.pauseLimit p) s = .next (s.endSession p 0x04)) ∧
  -- SELFTEST_DUE (R176)
  (∀ (p : Port) (code : Nat) (s : State), s.needsTest p code = true → (s.spAt p).deferred = [] → s.testAllowed p code = true →
      exec (.selftestDue p code) s = .next (s.startTest p code none)) ∧
  -- SELFTEST_DUE (R176)
  (∀ (p : Port) (code : Nat) (s : State), s.needsTest p code = true → (s.spAt p).deferred = [] → s.testAllowed p code = false →
      exec (.selftestDue p code) s = .next (s.modSp p fun x => { x with deferred := x.deferred ++ [(code, none)] })) ∧
  -- SELFTEST_OVERDUE (R176)
  (∀ (p : Port) (s : State), (s.avail p) ≠ (s.sesAt p).availShown →
      exec (.selftestOverdue p) s = .next ((s.modSes p fun x => { x with availShown := s.avail p }).sesRaise p 0x4000)) ∧
  -- SEALED_REPORT (R162)
  (∀ (p : Port) (s : State), (s.sesAt p).state = .sealing → (s.sesAt p).sesOpen = true → (s.bilAt p).ses = none →
      exec (.sealedReport p) s = .next ((s.sealCheck p).leaveSealing p true)) ∧
  -- LEGAL_GAP (R270)
  (∀ (p : Port) (s : State), (s.nrgAt p).stopped = true → exec (.legalGap p) s = .next (s.endSession p 0x17)) ∧
  -- CREDIT_OUT (R173)
  (∀ (p : Port) (r : SesRec) (s : State), (s.bilAt p).ses = some r → r.out = true →
      exec (.creditOut p) s = .next ((s.sesRaise p 0x400).endSession p 0x03)) ∧
  -- LEGAL_READING (R14)
  (∀ (p : Port) (s : State), (s.bilAt p).ses = none → (s.sesAt p).state ≠ .rampdown → s.isAc p = false →
      exec (.legalReading p) s = .next (((s.modSes p fun x => { x with current := (s.metAt p).regI }).refreshPwm p).availPoll p)) ∧
  -- LEGAL_READING (R14)
  (∀ (p : Port) (s : State), (s.bilAt p).ses = none → (s.sesAt p).state = .rampdown → s.isAc p = false →
      (s.metAt p).regI.natAbs ≤ (s.sesAt p).iEnd → exec (.legalReading p) s =
        .next ((((s.modSes p fun x => { x with current := (s.metAt p).regI }).askOpen p).refreshPwm p).availPoll p)) ∧
  -- LEGAL_STATE (R14)
  (∀ (s : State), (if s.legalVoid then 2 else if s.legalRun then 1 else 0) + 4 * s.rind.sealCount = s.chn.mirLegal →
      exec .legalState s = .next (s.each (n := 8) fun p t => t.sealCheck p).availAll) ∧
  -- LEGAL_STATE (R14)
  (∀ (s : State), let v := (if s.legalVoid then 2 else if s.legalRun then 1 else 0) + 4 * s.rind.sealCount
      v % 4 ≠ s.chn.mirLegal % 4 → v / 4 = s.chn.mirLegal / 4 → exec .legalState s = .next
        (((s.each (n := 8) fun p t => t.sealCheck p).modChn fun c => { c with mirLegal := v }).mirrorEv 5 0xFF [v % 4]).availAll) ∧
  -- SITE_STATE (R349)
  (∀ (s : State), s.saf.state = .run → s.chn.mirSite = 1 → exec .siteState s = .next s.availAll) ∧
  -- SITE_STATE (R349)
  (∀ (s : State), s.saf.state = .safeHalt → exec .siteState s = .next
      (let t := s.each (n := 8) fun p t => t.endSession p 0x11
       (if s.chn.mirSite = 5 then t else (t.modChn fun c => { c with mirSite := 5 }).mirrorEv 2 0xFF [5]).availAll)) ∧
  -- SITE_STATE (R349)
  (∀ (s : State), s.saf.state = .degraded → exec .siteState s = .next
      (let t := s.each (n := 8) fun p t => t.endSession p 0x12
       (if s.chn.mirSite = 2 then t else (t.modChn fun c => { c with mirSite := 2 }).mirrorEv 2 0xFF [2]).availAll)) ∧
  -- PORT_STATE (R349)
  (∀ (p : Port) (s : State), (s.sesAt p).state = .closing → (s.spAt p).state = .closed →
      exec (.portState p) s = .next (((((s.confirmedClosed p).advance p).dueUnlock p).runDeferred p).availPoll p)) ∧
  -- PORT_STATE (R349)
  (∀ (p : Port) (s : State), (s.sesAt p).state = .opening → (s.spAt p).state ≠ .contactorFault → s.openOk p = true →
      exec (.portState p) s = .next (((((s.confirmedOpen p).advance p).dueUnlock p).runDeferred p).availPoll p)) ∧
  -- PORT_STATE (R349)
  (∀ (p : Port) (s : State), (s.sesAt p).state = .charging → (s.spAt p).state ≠ .contactorFault → (s.spAt p).state ≠ .closed →
      let t := (if (s.pwrAt p).degraded then s else s.halt p).sesTo p .opening
      exec (.portState p) s = .next (((((if t.openOk p then t.confirmedOpen p else t.wantChanged p).advance p).dueUnlock p).runDeferred p).availPoll p)) ∧
  -- PORT_STATE (R349)
  (∀ (p : Port) (s : State), ((s.sesAt p).state = .idle ∨ (s.sesAt p).state = .plugged ∨ (s.sesAt p).state = .ended) → (s.spAt p).state = .closed →
      exec (.portState p) s = .next (((((s.askSafety 3 p.1).advance p).dueUnlock p).runDeferred p).availPoll p)) ∧
  -- TRIP (R205)
  (∀ (p : Port) (cause row : Nat) (s : State), s.chainOn = true → s.cfg.chain.adviceOut = true → row < 64 → cause ≠ 1 →
      let t := (if (s.sesAt p).state.inSession then s.halt p else s).endSession p 0x11
      exec (.trip p cause row) s = .next ((t.sendAdvice cause (2 ^ p.1) row).availPoll p)) ∧
  -- TRIP (R205)
  (∀ (p : Port) (cause row : Nat) (s : State), s.chainOn = false → (cause ≠ 1 ∨ (s.sesAt p).state ≠ .preparing) →
      let t := (if (s.sesAt p).state.inSession then s.halt p else s).endSession p 0x11
      exec (.trip p cause row) s = .next (t.availPoll p)) ∧
  -- TRIP (R205)
  (∀ (p : Port) (row : Nat) (s : State), s.chainOn = false → (s.sesAt p).state = .preparing → (s.sesAt p).insAsked = true →
      let t := (s.halt p).endSession p 0x14
      exec (.trip p 1 row) s = .next (t.availPoll p)) ∧
  -- FEEDBACK (R349)
  (∀ (p : Port) (s : State), exec (.feedback p) s = .next (s.advance p)) ∧
  -- READINGS (R349)
  (∀ (p : Port) (s : State), (s.sesAt p).state = .preparing → (s.sesAt p).insAsked = true → (s.spAt p).pre = none → (s.spAt p).preFail = true →
      exec (.readings p) s = .next (s.endSession p 0x14)) ∧
  -- READINGS (R349)
  (∀ (p : Port) (s : State), (s.spAt p).preFail = false → exec (.readings p) s = .next (s.advance p)) ∧
  -- LOG_ENTRY (R360)
  (∀ (entry : List Byte) (s : State), exec (.logEntry entry) s = .next (s.offer { kind := 9, data := entry })) ∧
  -- ANSWER (R354)
  (∀ (p : Port) (s : State), (s.sesAt p).state = .closing → (s.sesAt p).ending = false →
      exec (.answer 2 p false) s = .next ((((s.modSes p fun x => { x with ending := true, endClass := 2, endCause := 0x11 }).halt p).disable
        p).toSealing p)) ∧
  -- SES_EVENT_READ (R177)
  (∀ (path : Path) (g : Guest) (p : Port) (s : State), s.canRead path g = true → (s.violKind path g (0x050C + 0x20 * p.1) false false) = none →
      exec (.sesEventRead path g p) s = .next (((s.returnRead path g (0x050C + 0x20 * p.1) (ix (s.sesAt p).ev g) []).modSes p
        fun x => { x with ev := clearOne x.ev g }).hostActive path))

/-- Metrology and verification: where each row completes and what it leaves. -/
def Obligations.MetrologyRowsComplete : Prop :=
  -- GET_METROLOGY_STATUS (R255)
  (∀ (r : Req) (s : State), s.legalVoid = false →
      exec (.getMetrologyStatus r) s = .next (s.answer r Code.done (s.metBlock r.guest r.port))) ∧
  -- GET_CHANNEL_READING (R255)
  (∀ (r : Req) (i : Fin 24) (s : State), let m := s.metAt r.port
      let a := ix m.last i
      s.legalVoid = false → r.pathAt 3 0 = some i → i.1 < 8 → a.n ≠ 0 →
      exec (.getChannelReading r) s = .next (s.answer r Code.done ([wInt (quot a.sum a.n), pack [(23, 0, rms a.sq a.n)],
        pack [(23, 0, a.peak)]] ++ pair48 m.lastIdx ++ [pack [(15, 0, min 0xFFFF a.invalid), (31, 16, min 0xFFFF (a.hi / 16))]]))) ∧
  -- GET_CHANNEL_READING (R255)
  (∀ (r : Req) (i : Fin 24) (s : State), let m := s.metAt r.port
      let a := ix m.last i
      let amp := (ix m.path i).amp
      s.legalVoid = false → r.pathAt 3 0 = some i → 8 ≤ i.1 → a.n ≠ 0 →
      exec (.getChannelReading r) s = .next (s.answer r Code.done ([wInt (quot a.sum a.n),
        pack [(23, 0, rms (a.sq - amp * amp * a.n / 20000) a.n)],
        pack [(23, 0, a.peak)]] ++ pair48 m.lastIdx ++ [pack [(15, 0, min 0xFFFF a.invalid), (31, 16, min 0xFFFF (a.hi / 16))]]))) ∧
  -- GET_VERIFICATION (R255)
  (∀ (r : Req) (i : Fin 24) (s : State), let m := s.metAt r.port
      let v := ix m.path i
      s.legalVoid = false → r.pathAt 3 0 = some i → 8 ≤ i.1 →
      exec (.getVerification r) s = .next (s.answer r Code.done [pack [(23, 0, v.amp)], pack [(23, 0, v.ampR)],
        wInt (v.dev (ix (s.metAt r.port).coefs i).pref), pack [(23, 0, v.ampU)],
        pack [(1, 0, v.state.code), (15, 8, v.ratios.length)], w32 (ix m.coef i).pref])) ∧
  -- GET_HEAD_INFO (R255)
  (∀ (r : Req) (k : Fin 3) (s : State), s.legalVoid = false → r.fld 3 1 0 = k.1 → let x := (s.slAt (linkOf r.port k)).regs
      exec (.getHeadInfo r) s = .next (s.answer r Code.done (serialWords x.serial ++ [pack [(15, 0, x.id), (31, 16, x.range)],
        pack [(15, 0, x.rangeHi)], w32 x.kref, pack [(15, 0, x.temp)], pack [(15, 0, x.stat)]] ++
        (serialWords ((ix (s.metAt r.port).bound k).getD 0)).take 3))) ∧
  -- GET_CAL_COEFF (R255)
  (∀ (r : Req) (i : Fin 24) (s : State), let m := s.metAt r.port
      let c := ix m.coef i
      s.legalVoid = false → r.pathAt 3 0 = some i → r.bit 3 12 = false →
      exec (.getCalCoeff r) s = .next (s.answer r Code.done [wInt c.ofs, w32 c.gain, wInt c.phase, if i.1 < 8 then 0 else w32 c.pref,
        pack [(15, 0, m.calCount)]])) ∧
  -- BEGIN_CALIBRATION (R249)
  (∀ (r : Req) (s : State), s.legalVoid = false → s.inService = true → (s.sesAt r.port).state = .off → (s.metAt r.port).pendSet = none →
      exec (.beginCalibration r) s = .next ((s.modMet r.port fun m => { m with
        pendSet := some m.coef, calOvl := Vector.replicate 8 none }).answer r Code.done)) ∧
  -- SET_CAL_COEFF (R249)
  (∀ (r : Req) (v : Vector Coef 24) (i : Fin 24) (s : State), s.legalVoid = false → (s.metAt r.port).pendSet = some v → r.pathAt 3 0 = some i →
      r.fld 6 15 0 ≠ 0x8000 → i.1 < 8 →
      exec (.setCalCoeff r) s = .next ((s.modMet r.port fun m => { m with pendSet := some (upd v i fun c => { c with
        ofs := r.int24 4, gain := (r.word 5).toNat, phase := sext 16 (r.fld 6 15 0) }) }).answer r Code.done)) ∧
  -- CAL_MEASURE (R251)
  (∀ (r : Req) (i : Fin 24) (s : State), s.legalVoid = false → (s.metAt r.port).pendSet.isSome = true → (s.metAt r.port).meas = none →
      r.fld 3 1 0 = 1 → r.fld 3 9 8 < 3 → s.elementOk r.port (r.fld 3 13 12) = true → r.pathAt 3 16 = some i →
      1 ≤ r.fld 6 11 0 → r.fld 6 11 0 ≤ 600 →
      exec (.calMeasure r) s = .next ((s.modMet r.port fun m => { m with meas := some {
        req := r, mode := 1, pi := ⟨r.fld 3 4 4 % 2, by omega⟩, force := r.fld 3 9 8, element := r.fld 3 13 12, path := i.1
        pulses := r.fld 4 23 0, const := r.fld 5 23 0, seconds := r.fld 6 11 0, start := some s.legal.proc } }).accept r)) ∧
  -- END_CALIBRATION (R249)
  (∀ (r : Req) (s : State), s.legalVoid = false → (s.metAt r.port).pendSet.isSome = true → (s.metAt r.port).capture = none → s.calFail r.port = none →
      exec (.endCalibration r) s = .next ((s.modMet r.port fun m => { m with
          capture := some (r, 0)
          path := Vector.ofFn fun i => if i.1 < 8 then ix m.path i else { ix m.path i with ratios := [] } }).accept r)) ∧
  -- ABORT_CALIBRATION (R250)
  (∀ (r : Req) (s : State), s.legalVoid = false → (s.metAt r.port).pendSet.isSome = true →
      exec (.abortCalibration r) s = .next ((s.discardCal r.port).answer r Code.done)) ∧
  -- PILOT_WINDOW_END (R241)
  (∀ (p : Port) (k : Nat) (w : PilotWin) (s : State), (s.metAt p).ended = some w → k + 1 = (s.legal.proc - 1) / 51200 →
      let a := ((idx 24).filter fun i => i == 0 || s.usedPath p i).foldl (fun t i => t.pathWindow p i w) s
      exec (.pilotWindowEnd p k) s = .next (((a.each (n := 8) fun j t => t.overlapWindow p j (ix w.ovl j)).modMet p fun m => { m with
        ended := none, capture := m.capture.map fun c => (c.1, c.2 + 1) }).headsFrom s)) ∧
  -- VERIFY_SUSPEND_TIMEOUT (R243)
  (∀ (p : Port) (path : Fin 24) (s : State), (ix (s.metAt p).path path).state = .suspended →
      exec (.verifySuspendTimeout p path) s = .next ((s.latchFail p path).headsFrom s)) ∧
  -- LEGAL_CLOCK_WINDOW (R248)
  (∀ (dev : Int) (s : State), 100000 < dev.natAbs → s.legal.clkBad = 0 → s.legal.clkFault = false →
      exec (.legalClockWindow dev) s = .next (s.modLegal fun l => { l with clkBad := 1, clkGood := 0 })) ∧
  -- LEGAL_CLOCK_WINDOW (R248)
  (∀ (dev : Int) (s : State), 100000 < dev.natAbs → 1 ≤ s.legal.clkBad → s.legal.clkFault = false →
      exec (.legalClockWindow dev) s = .next (((s.modLegal fun l => { l with clkBad := l.clkBad + 1, clkGood := 0, clkFault := true }).each (n := 8)
        fun p t => t.metRaise p 0x200).headsFrom s)) ∧
  -- LEGAL_CLOCK_WINDOW (R248)
  (∀ (dev : Int) (s : State), dev.natAbs ≤ 50000 →
      exec (.legalClockWindow dev) s = .next (s.modLegal fun l => { l with
        clkBad := 0, clkGood := l.clkGood + 1, clkFault := l.clkFault && l.clkGood + 1 < 6 })) ∧
  -- CAL_MEASURE_DURATION_END (R255)
  (∀ (p : Port) (c : CalMeas) (s : State), (s.metAt p).meas = some c → c.mode = 1 → c.n ≠ 0 →
      exec (.calMeasureDurationEnd p) s = .next ((s.final c.req Code.done (calNotice 0 0 0 (c.seconds * 1000) (quot c.sum c.n)
        (rms ((c.n * c.sq - c.sum * c.sum).toNat) (c.n * c.n)))).modMet p fun m => { m with meas := none })) ∧
  -- CAL_MEASURE_DURATION_END (R255)
  (∀ (p : Port) (c : CalMeas) (s : State), (s.metAt p).meas = some c → c.mode = 2 → 0 < c.xx →
      let err := quot ((c.xy - c.xx) * 1000000) c.xx.toNat
      exec (.calMeasureDurationEnd p) s = .next ((s.final c.req Code.done (calNotice 0 0 err (c.seconds * 1000) 0 0)).modMet p fun m => { m with
        meas := none, calOvl := upd m.calOvl ⟨(c.path - 8) / 2 % 8, by omega⟩ fun _ => some err })) ∧
  -- CAL_MEASURE_TIMEOUT (R256)
  (∀ (p : Port) (c : CalMeas) (s : State), (s.metAt p).meas = some c → c.mode = 0 →
      exec (.calMeasureTimeout p) s = .next ((s.final c.req Code.timeout (List.replicate 8 0)).modMet p fun m => { m with meas := none })) ∧
  -- PILOT_CAPTURE_DONE (R249)
  (∀ (p : Port) (q : Req) (n : Nat) (v : Vector Coef 24) (s : State), (s.metAt p).capture = some (q, n) → (s.metAt p).pendSet = some v →
      (∀ i, s.usedPath p i = true → 16 ≤ (ix (s.metAt p).path i).ratios.length) →
      ∃ t : State, exec (.pilotCaptureDone p) s = .next (t.final q Code.done) ∧ (t.metAt p).calCount = ((s.metAt p).calCount + 1) % 65536 ∧
      (t.metAt p).pendSet = none ∧ (t.metAt p).capture = none ∧ (t.metAt p).headChanged = false ∧
      ∀ i, ix (t.metAt p).coef i = if s.usedPath p i then
        { ix v i with pref := (quot ((ix (s.metAt p).path i).ratios.sum) 16).toNat } else ix v i) ∧
  -- PILOT_CAPTURE_TIMEOUT (R256)
  (∀ (p : Port) (q : Req) (n : Nat) (s : State), (s.metAt p).capture = some (q, n) →
      exec (.pilotCaptureTimeout p) s = .next ((s.final q Code.fault).modMet p fun m => { m with capture := none }))

/-- Sensor links: where each row completes and what it leaves. -/
def Obligations.SensorLinkRowsComplete : Prop :=
  -- SAMPLE_FRAME_SEND (R226)
  (∀ (s : State), s.legalClock = true → ∃ t, exec .sampleFrameSend s = .next t ∧ t.legal.idx = s.legal.idx + 1 ∧
      t.sent = s.sent ++ ((idx 24).filter fun l => (s.metCfg (portOf l)).isSome).map fun l => .sensorFrame l s.legal.idx (s.downBits l s.legal.idx)) ∧
  -- UPSTREAM_FRAME (R230)
  (∀ (l : SLink) (first : UpSym) (body crc : List UpSym) (u : UpMsg) (s : State), let y := s.slAt l
      y.state = .run → decodeUp first body crc = some u → y.frame < s.legal.idx → s.legal.idx ≤ y.frame + 3 → u.idx = y.frame % 256 →
      u.status.testBit 5 = false → y.poll = false →
      exec (.upstreamFrame l first body crc) s = .next ((s.modSl l fun z => { z with
        good := z.good + 1, bad := 0, frames := z.frames ++ [{ m := y.frame, status := u.status, data := u.data }], frame := y.frame + 1 }).toSafety l u)) ∧
  -- UPSTREAM_FRAME (R230)
  (∀ (l : SLink) (first : UpSym) (body crc : List UpSym) (u : UpMsg) (m : Nat) (s : State), (s.slAt l).state.active = true → decodeUp first body crc = some u →
      (s.slAt l).names s.legal.idx u.idx = some m → exec (.upstreamFrame l first body crc) s = .next (((s.modSl l fun y => y.take m u).toSafety l u).pollDone l)) ∧
  -- UPSTREAM_FRAME (R230)
  (∀ (l : SLink) (first : UpSym) (body crc : List UpSym) (s : State), (s.slAt l).state = .run → (s.slAt l).frame < s.legal.idx →
      s.legal.idx ≤ (s.slAt l).frame + 3 → (decodeUp first body crc = none ∨ ∃ u, decodeUp first body crc = some u ∧ (s.slAt l).names s.legal.idx u.idx = none) →
      exec (.upstreamFrame l first body crc) s = .next (s.modSl l SLinkSt.lose)) ∧
  -- UPSTREAM_FRAME_LATE (R230)
  (∀ (l : SLink) (s : State), (s.slAt l).state = .run → (s.slAt l).frame + 4 ≤ s.legal.idx →
      exec (.upstreamFrameLate l) s = .next (s.modSl l SLinkSt.lose)) ∧
  -- SL_LOST_FRAMES_LIMIT (R232)
  (∀ (l : SLink) (s : State), (s.slAt l).state = .run → 8 ≤ (s.slAt l).bad →
      exec (.slLostFramesLimit l) s = .next ((s.leaveRun l .stalled).metRaise (portOf l) 1)) ∧
  -- SL_GOOD_FRAME_RUN (R232)
  (∀ (l : SLink) (s : State), (s.slAt l).state = .training → 64 ≤ (s.slAt l).good →
      exec (.slGoodFrameRun l) s = .next ((s.modSl l fun y => { y with state := .ident }).readHead l)) ∧
  -- SL_GOOD_FRAME_RUN (R232)
  (∀ (l : SLink) (s : State), (s.slAt l).state = .stalled → 64 ≤ (s.slAt l).good → (s.slAt l).reread = false →
      exec (.slGoodFrameRun l) s = .next ((s.modSl l fun y => { y with reread := true }).readHead l)) ∧
  -- SL_TRAINING_TIMEOUT (R232)
  (∀ (l : SLink) (s : State), (s.slAt l).state = .training → (s.slAt l).good < 64 →
      exec (.slTrainingTimeout l) s = .next (s.modSl l fun y => { y with lostNow := y.lostNow + 1, good := 0 })) ∧
  -- SL_STALL_TIMEOUT (R232)
  (∀ (l : SLink) (s : State), (s.slAt l).state = .stalled →
      exec (.slStallTimeout l) s = .next (s.modSl l fun y => { y with state := .training, good := 0, bad := 0, reread := false, want := [] })) ∧
  -- HEAD_REGISTERS_READ (R232)
  (∀ (l : SLink) (s : State), (s.slAt l).state = .ident → (s.slAt l).want = [] → headTypeOk l (s.slAt l).buf = false →
      exec (.headRegistersRead l (s.slAt l).buf) s = .next ((s.modSl l fun y => { y with regs := y.buf, reread := false }).modSl l fun y => { y with state := .fault })) ∧
  -- HEAD_REGISTERS_READ (R232)
  (∀ (l : SLink) (s : State), (s.slAt l).state = .ident → (s.slAt l).want = [] → headTypeOk l (s.slAt l).buf = true →
      exec (.headRegistersRead l (s.slAt l).buf) s = .next (((s.modSl l fun y => { y with regs := y.buf, reread := false }).modSl l fun y => { y with
        state := .run, bad := 0, validFrom := max y.validFrom (s.legal.idx + 59), foreign := false }).judgeSerial l (s.slAt l).buf)) ∧
  -- HEAD_REGISTERS_READ (R232)
  (∀ (l : SLink) (s : State), (s.slAt l).state = .stalled → (s.slAt l).reread = true → (s.slAt l).want = [] → headTypeOk l (s.slAt l).buf = true →
      exec (.headRegistersRead l (s.slAt l).buf) s = .next ((((s.modSl l fun y => { y with regs := y.buf, reread := false }).modSl l fun y => { y with
        state := .run, bad := 0, validFrom := max y.validFrom (s.legal.idx + 59), foreign := false }).judgeSerial l (s.slAt l).buf).metRaise
        (portOf l) 2)) ∧
  -- HEAD_POLL (R242)
  (∀ (l : SLink) (order : List Nat) (s : State), (s.slAt l).state = .run → order.isPerm [0, 1, 2, 3, 4, 5, 6, 7, 8, 13, 14] = true →
      exec (.headPoll l order) s = .next (s.modSl l fun y => { y with want := order, buf := y.regs, poll := true })) ∧
  -- MET_EVENT_READ (R253)
  (∀ (path : Path) (g : Guest) (p : Port) (s : State), s.canRead path g = true → (s.violKind path g (0x081C + 0x20 * p.1) false false) = none →
      exec (.metEventRead path g p) s = .next (((s.returnRead path g (0x081C + 0x20 * p.1) (ix (s.metAt p).ev g) []).modMet p
        fun x => { x with ev := clearOne x.ev g }).hostActive path))

/-- Energy registers and supply: where each row completes and what it leaves. -/
def Obligations.EnergyRowsComplete : Prop :=
  -- GET_ENERGY_STATUS (R285), GET_SUPPLY_STATUS (R285)
  (∀ (r : Req) (s : State), s.legalVoid = false → exec (.getEnergyStatus r) s = .next (s.answer r Code.done (s.nrgBlock r.port)) ∧
      exec (.getSupplyStatus r) s = .next (s.answer r Code.done (s.supplyBlock ++ pair48 s.legal.supply.lastSave ++ [w32 s.legal.supply.lostS]))) ∧
  -- GET_REGISTERS (R285)
  (∀ (r : Req) (s : State), let x := s.nrgAt r.port
      s.legalVoid = false → r.fld 3 1 0 ≠ 3 → exec (.getRegisters r) s = .next (s.answer r Code.done
        ((((x.imp.toList ++ x.exp.toList ++ [x.impTot, x.expTot]).drop (6 * r.fld 3 1 0)).take 6).flatMap pair48 ++ pair48 x.latchIdx))) ∧
  -- GET_ACCUMULATOR (R285)
  (∀ (r : Req) (s : State), let x := s.nrgAt r.port
      let a := fldInt 96 x.aLatch
      let q := fldInt 64 x.pAcc
      s.legalVoid = false → exec (.getAccumulator r) s = .next (s.answer r Code.done ([w32 a, w32 (a / 2 ^ 32), w32 (a / 2 ^ 64)] ++
        pair48 x.latchIdx ++ [w32 q, w32 (q / 2 ^ 32), pack [(15, 0, x.pend)], pack [(23, 0, x.bLatch)]]))) ∧
  -- SET_PULSE_SOURCE (R276)
  (∀ (r : Req) (s : State), s.legalVoid = false → (s.sourceOf r.port).isSome = true → s.atBoundary r.port = false →
      exec (.setPulseSource r) s = .next ((s.modNrg r.port fun x => { x with psNext := some (r.bit 3 0) }).answer r Code.done)) ∧
  -- SET_PULSE_SOURCE (R276)
  (∀ (r : Req) (s : State), s.legalVoid = false → (s.sourceOf r.port).isSome = true → s.atBoundary r.port = true →
      exec (.setPulseSource r) s = .next (((s.modNrg r.port fun x => { x with psNext := some (r.bit 3 0) }).applySource r.port).answer r Code.done)) ∧
  -- RUN_CROSS_CHECK (R275)
  (∀ (r : Req) (k : Fin 2) (s : State), r.guest = 0 → s.legalVoid = false → r.fld 3 0 0 = k.1 → (ix s.cfg.pulse k).role = 2 →
      (ix s.legal.pi k).cross = none →
      exec (.runCrossCheck r) s = .next ((s.modInput k fun i => { i with cross := some { req := some r } }).accept r)) ∧
  -- CLOSE_NOTICE (R259)
  (∀ (p : Port) (s : State), s.legalRun = true → (s.nrgAt p).winFrom = none →
      exec (.closeNotice p) s = .next ((s.modNrg p fun x => { x with winFrom := some s.legal.idx, winEnd := none }).modPq p fun q => { q with
        rev := Vector.replicate 3 {}, unit := {} })) ∧
  -- OPEN_CONFIRMATION (R259)
  (∀ (p : Port) (s : State), s.legalClock = true → (s.nrgAt p).winFrom.isSome = true → (s.nrgAt p).winEnd = none → s.serviceDown = false →
      (s.sesAt p).rebuild = false →
      exec (.openConfirmation p) s = .next ((s.modNrg p fun x => { x with winEnd := some s.legal.idx }).closeEnded.holdStop)) ∧
  -- LATCH (R260)
  (∀ (d : Due) (ds : List Due) (p : Port) (s : State), (s.nrgAt p).due = d :: ds → s.legalRun = true →
      exec (.latch p) s = .next (((s.modNrg p fun x => { x with due := ds }).latchAt p d.idx true d.line d.subst).holdStop)) ∧
  -- SUBSTITUTED_CYCLE (R265)
  (∀ (p : Port) (s : State), let x := s.nrgAt p
      let n := x.cycStart + 1280
      s.legalRun = true → s.isAc p = true → n ≤ s.legal.proc → x.inWindow n = false →
      exec (.substitutedCycle p) s = .next (s.modNrg p fun y => y.endCycle n (ix s.cfg.energy p).cycles true)) ∧
  -- DC_TICK_TIMEOUT (R267)
  (∀ (p : Port) (s : State), s.legalRun = true → s.isAc p = false → s.siteRef = none → (s.nrgAt p).tickStart + 1024 ≤ s.legal.proc →
      exec (.dcTickTimeout p) s = .next (s.modNrg p fun y => { y with
        tickStart := y.tickStart + 1024, due := y.due ++ [{ idx := y.tickStart + 1024, subst := true }] })) ∧
  -- BILLING_STOP (R270)
  (∀ (n : Nat) (p : Port) (s : State), s.legalRun = true → (s.nrgAt p).stopDue = some n →
      exec (.billingStop p) s = .next (s.stopBilling p n).holdStop) ∧
  -- SAMPLE_PROCESS (R258)
  (∀ (s : State), s.legalRun = true → s.legalClock = true → s.legal.proc < s.legal.idx → s.samplesHeld s.legal.proc = true → let n := s.legal.proc
      let xs : Vector PortX 8 := Vector.ofFn fun p => s.portX p n
      let crossed (p : Port) : Bool := s.isAc p && (s.metCfg p).isSome && (s.nrgAt p).crosses (ix (ix xs p).u 0) n
      let a := s.each (n := 8) fun p t => if (t.metCfg p).isSome then t.sampleX p (ix xs p) (crossed p) false else t
      s.siteRef = none → exec (.sampleProcess n) s = .next (((((a.modLegal fun l => { l with proc := n + 1 }).each (n := 24) fun l t =>
        t.modSl l fun y => y.prune (n + 1)).ringX xs n).closeEnded).holdStop)) ∧
  -- SAMPLE_PROCESS (R258)
  (∀ (q : Port) (s : State), s.legalRun = true → s.legalClock = true → s.legal.proc < s.legal.idx → s.samplesHeld s.legal.proc = true → let n := s.legal.proc
      let xs : Vector PortX 8 := Vector.ofFn fun p => s.portX p n
      let crossed (p : Port) : Bool := s.isAc p && (s.metCfg p).isSome && (s.nrgAt p).crosses (ix (ix xs p).u 0) n
      let site := s.isAc q && (s.metCfg q).isSome && (s.nrgAt q).posCross (ix (ix xs q).u 0)
      let a := s.each (n := 8) fun p t => if (t.metCfg p).isSome then t.sampleX p (ix xs p) (crossed p) site else t
      s.siteRef = some q → exec (.sampleProcess n) s = .next (((((a.pqAc none s.cfg.pqSite.acRef (ix xs q).u (if s.phases q = 3 then 3 else 1) n).modLegal fun l => { l with
        proc := n + 1 }).each (n := 24) fun l t => t.modSl l fun y => y.prune (n + 1)).ringX xs n).closeEnded.holdStop)) ∧
  -- PULSE_OUTPUT_EMIT (R272)
  (∀ (p : Port) (s : State), 0 < (s.nrgAt p).pend → (s.nrgAt p).lastEdge = none → (s.nrgAt p).ps = false →
      exec (.pulseOutputEmit p) s = .next ((s.modNrg p fun y => { y with pend := y.pend - 1, lastEdge := some s.time.legalUs }).emit (.pulse p (ix s.cfg.energy p).poWidth))) ∧
  -- PULSE_INPUT_EDGE (R274)
  (∀ (k : Fin 2) (s : State), s.legalRun = true → (ix s.legal.pi k).level = true →
      exec (.pulseInputEdge k (ix s.cfg.pulse k).activeLow) s = .next (s.modInput k fun i => { i with level := false })) ∧
  -- PULSE_INPUT_EDGE (R274)
  (∀ (k : Fin 2) (s : State), s.legalRun = true → (ix s.legal.pi k).level = false → (ix s.cfg.pulse k).role ≠ 2 →
      (ix s.cfg.pulse k).role ≠ 3 →
      exec (.pulseInputEdge k !(ix s.cfg.pulse k).activeLow) s = .next ((s.modInput k fun i => { i with level := true, cnt := (i.cnt + 1) % 2 ^ 32 }).each (n := 8)
        fun p t => t.calEdge p k)) ∧
  -- CROSS_CHECK_TIMEOUT (R286)
  (∀ (k : Fin 2) (c : Cross) (s : State), (ix s.legal.pi k).cross = some c →
      exec (.crossCheckTimeout k) s = .next ((s.modInput k fun i => { i with cross := none }).finalOpt c.req Code.timeout)) ∧
  -- SUPPLY_FAIL_TRIP (R280)
  (∀ (s : State), exec .supplyFailTrip s = .next (s.modLegal fun l => { l with supply := { l.supply with tripped := true } }).beginSaves) ∧
  -- PFW_ASSERT (R280)
  (∀ (s : State), s.cfg.supply.pfwEn = true → s.legal.supply.stuck = false →
      exec .pfwAssert s = .next (s.modLegal fun l => { l with supply := { l.supply with pfw := true } }).beginSaves) ∧
  -- PFW_ASSERT (R280)
  (∀ (s : State), s.cfg.supply.pfwEn = false →
      exec .pfwAssert s = .next (s.modLegal fun l => { l with supply := { l.supply with pfw := true } })) ∧
  -- EARLY_WARNING_SAVE_REPEAT (R280)
  (∀ (s : State), s.legal.supply.saving = true → s.legalRun = true → exec .earlyWarningSaveRepeat s = .next s.earlySaves) ∧
  -- SUPPLY_RECOVERED (R281)
  (∀ (s : State), exec .supplyRecovered s = .next (s.modLegal fun l => { l with supply := { l.supply with
      tripped := false, pfw := false, saving := false
      warnSaves := if l.supply.tripped || (s.cfg.supply.pfwEn && l.supply.pfw) then satInc 255 l.supply.warnSaves else l.supply.warnSaves } }).resumeRipening) ∧
  -- PFW_STUCK (R593)
  (∀ (s : State), s.cfg.supply.pfwEn = true → s.legal.supply.pfw = true → s.legal.supply.tripped = false → s.legal.supply.stuck = false →
      exec .pfwStuck s = .next ((s.modLegal fun l => { l with supply := { l.supply with stuck := true, saving := false } }).resumeRipening)) ∧
  -- PFW_RELEASE (R593)
  (∀ (s : State), exec .pfwRelease s = .next (s.modLegal fun l => { l with supply := { l.supply with pfw := false, stuck := false } })) ∧
  -- NRG_EVENT_READ (R282)
  (∀ (path : Path) (g : Guest) (p : Port) (s : State), s.canRead path g = true → (s.violKind path g (0x093C + 0x40 * p.1) false false) = none →
      exec (.nrgEventRead path g p) s = .next (((s.returnRead path g (0x093C + 0x40 * p.1) (ix (s.nrgAt p).ev g) []).modNrg p
        fun x => { x with ev := clearOne x.ev g }).hostActive path))

/-- Billing records, seal and optical port: where each row completes and what it leaves. -/
def Obligations.BillingRowsComplete : Prop :=
  -- GET_BILLING_STATUS (R310), GET_CHAIN_HEAD (R310), GET_LEGAL_PUBKEY (R310)
  (∀ (r : Req) (s : State), s.legalVoid = false →
      exec (.getBillingStatus r) s = .next (s.answer r Code.done (s.bilBlock r.guest r.port)) ∧
      exec (.getChainHead r) s = .next (s.answer r Code.done (pair48 (s.bilAt r.port).ivIdx ++ bytesToWords (padTo 48 (s.chainHead r.port)))) ∧
      exec (.getLegalPubkey r) s = .next (s.answer r Code.done (bytesToWords (padTo 52 (Config.publicCompressed (s.legalKey
        (s.activeBank 1).digest))) ++ [w32 (leNat ((s.activeBank 1).digest.take 4))]))) ∧
  -- GET_SEAL_STATUS (R310), GET_OPTICAL_STATUS (R313)
  (∀ (r : Req) (s : State), exec (.getSealStatus r) s = .next (s.answer r Code.done s.sealBlock) ∧
      exec (.getOpticalStatus r) s = .next (s.answer r Code.done s.optWords)) ∧
  -- GET_SESSION_RECORD (R311)
  (∀ (r : Req) (j : JRec) (s : State), s.legalVoid = false → r.word 3 ≠ 0 →
      s.jnl.legal.recs.find? (fun j => j.type == 6 && j.src == r.port.1 && j.key == (r.word 3).toNat) = some j →
      exec (.getSessionRecord r) s = .next (s.answerRing r (r.fld 4 2 0) j.data [pack [(15, 0, j.len)]])) ∧
  -- SWITCH_TARIFF (R295)
  (∀ (r : Req) (s : State), s.legalVoid = false → s.sesIsOpen r.port = true → (s.bilAt r.port).pend = none →
      exec (.switchTariff r) s = .next ((s.modBil r.port fun b => { b with pend := some (r, r.fld 3 2 0, r.bit 3 8) }).accept r)) ∧
  -- SWITCH_TARIFF (R295)
  (∀ (r : Req) (q : Req) (n : Nat) (b : Bool) (s : State), s.legalVoid = false → s.sesIsOpen r.port = true → (s.bilAt r.port).pend = some (q, n, b) →
      exec (.switchTariff r) s = .next ((((s.final q Code.cancelled).bilRaise r.port 8).modBil r.port fun b => { b with
        pend := some (r, r.fld 3 2 0, r.bit 3 8) }).accept r)) ∧
  -- SET_WALL_CLOCK (R293)
  (∀ (r : Req) (s : State), r.guest = 0 → s.legalVoid = false →
      exec (.setWallClock r) s = .next ((((s.modLegal fun l => { l with
        wall := some { ms := (r.word 3).toNat + 2 ^ 32 * (r.word 4).toNat, source := r.fld 5 3 0, at_ := l.proc } }).modSys
        fun y => { y with wallSet := true }).bilUnitRaise 8).answer r Code.done)) ∧
  -- GET_SEAL_CHALLENGE (R303)
  (∀ (r : Req) (s : State), let c := leBytes 16 (Config.freeNat s.free)
      (s.rightsOf r).audit = true → s.legalVoid = false → s.inService = true →
      exec (.getSealChallenge r) s = .next (((s.modLegal fun l => { l with challenge := some (c, s.time.legalUs) }).useFree).answer r Code.done
        (bytesToWords c))) ∧
  -- RESEAL (R301)
  (∀ (r : Req) (s : State), let q := s.withRing r (r.fld 3 2 0)
      let t := q.ringIn.take 152
      (s.rightsOf r).audit = true → s.legalVoid = false → s.inService = true → (∀ p, (s.metAt p).pendSet = none) →
      q.ringOk = true → 152 ≤ q.ringIn.length →
      let a := s.modLegal fun l => { l with challenge := none }
      let b := ((a.useRing q (r.fld 3 2 0) Code.done).each (n := 8) fun p x => x.modBil p fun b => { b with
        ivFlags := if b.ivOpen then b.ivFlags ||| 32 else b.ivFlags, ses := b.ses.map fun e => { e with service := true } }).modRind fun q => { q with
          lifecycle := 2, sealSerial := (t.drop 36).take 16, loopChanges := 0 }
      exec (.reseal r) s = .next (match s.resealReason t with
        | some k => a.answer r Code.refused [w32 k]
        | none => (((((b.appendLegal b.sealRecord).auditRind 3 2).keyRaise 2).bilUnitRaise 2).irqAll irqLegal).answer r Code.done)) ∧
  -- SESSION_SEAL (R298)
  (∀ (p : Port) (b : SesRec) (s : State), (s.bilAt p).ses = some b → s.legalRun = true → b.sealDue = true → (s.nrgAt p).winFrom = none →
      exec (.sessionSeal p) s = .next (s.sealSession p s.legal.proc false).holdStop) ∧
  -- SEAL_LOOP_SAMPLE (R300)
  (∀ (x : LoopRead) (s : State), s.rind.loopOpen = false → (10000 < x.ohm ∨ x.gnd < 100000) → s.rind.loopRun = 0 →
      exec (.sealLoopSample x) s = .next (s.modRind fun r => { r with loopRun := 1 })) ∧
  -- SEAL_LOOP_SAMPLE (R300)
  (∀ (x : LoopRead) (s : State), s.rind.loopOpen = false → (10000 < x.ohm ∨ x.gnd < 100000) → s.rind.loopRun ≠ 0 → s.rind.lifecycle = 2 →
      exec (.sealLoopSample x) s = .next (s.modRind fun r => { r with loopRun := 0, loopOpen := true }).sealBreak) ∧
  -- SEAL_LOOP_SAMPLE (R300)
  (∀ (x : LoopRead) (s : State), s.rind.loopOpen = true → x.ohm < 1000 → 100000 ≤ x.gnd → s.rind.loopRun ≠ 0 → s.rind.lifecycle = 3 →
      exec (.sealLoopSample x) s = .next ((s.modRind fun r => { r with
        loopRun := 0, loopOpen := false, closedAt := s.time.legalUs, loopChanges := satInc 255 r.loopChanges }).bilUnitRaise 4)) ∧
  -- SIGN_ON (R304)
  (∀ (s : State), s.legal.state ≠ .starting → s.cfg.opt.enable = true → s.legal.opt.state = 0 →
      exec (.signOn false) s = .next (s.modOpt fun o => { o with state := 1 })) ∧
  -- SIGN_ON (R304)
  (∀ (s : State), s.legal.state ≠ .starting →
      exec (.signOn true) s = .next (s.modOpt fun o => { o with unanswered := satInc 0xFFFF o.unanswered })) ∧
  -- OPT_IDENTIFICATION (R304)
  (∀ (s : State), s.legal.opt.state = 1 → exec .optIdentification s = .next ((s.modOpt fun o => { o with state := 2 }).emit (.optical
      (ascii "/" ++ Config.manufacturer ++ [digit s.cfg.opt.maxBaud] ++ ascii "CH8128-B0" ++ crlf)))) ∧
  -- OPT_ACKNOWLEDGEMENT (R304)
  (∀ (z : Nat) (s : State), s.legal.opt.state = 2 → z ≤ s.cfg.opt.maxBaud →
      exec (.optAcknowledgement z 0) s = .next (s.modOpt fun o => { o with state := 3, rate := z, snap := s.opticalBlock })) ∧
  -- OPT_ACKNOWLEDGEMENT (R304)
  (∀ (z opt : Nat) (s : State), s.legal.opt.state = 2 → (opt ≠ 0 ∨ s.cfg.opt.maxBaud < z) →
      exec (.optAcknowledgement z opt) s = .next (s.modOpt fun o => { o with state := 0 })) ∧
  -- OPT_ACK_TIMEOUT (R304)
  (∀ (s : State), s.legal.opt.state = 2 → exec .optAckTimeout s = .next (s.modOpt fun o => { o with state := 0 })) ∧
  -- OPT_DATA_MESSAGE (R306)
  (∀ (s : State), s.legal.opt.state = 3 →
      exec .optDataMessage s = .next ((s.modOpt fun o => { o with state := 4 }).emit (.optical (opticalMessage s.legal.opt.snap)))) ∧
  -- OPT_DATA_MESSAGE_DONE (R304)
  (∀ (s : State), s.legal.opt.state = 4 →
      exec .optDataMessageDone s = .next (s.modOpt fun o => { o with state := 0, rate := 0, snap := [], done := satInc 0xFFFF o.done })) ∧
  -- BIL_EVENT_READ (R307)
  (∀ (path : Path) (g : Guest) (p : Port) (s : State), s.canRead path g = true → (s.violKind path g (0x0C1C + 0x20 * p.1) false false) = none →
      exec (.bilEventRead path g p) s = .next (((s.returnRead path g (0x0C1C + 0x20 * p.1) (ix (s.bilAt p).ev g) []).modBil p
        fun x => { x with ev := clearOne x.ev g }).hostActive path)) ∧
  -- BIL_UNIT_EVENT_READ (R308)
  (∀ (path : Path) (g : Guest) (s : State), s.canRead path g = true → (s.violKind path g 0x0D20 false false) = none →
      exec (.bilUnitEventRead path g) s = .next (((s.returnRead path g 0x0D20 (ix s.legal.bilEv g) []).modLegal
        fun x => { x with bilEv := clearOne x.bilEv g }).hostActive path))

/-- Power quality: where each row completes and what it leaves. -/
def Obligations.QualityRowsComplete : Prop :=
  -- GET_PQ_STATUS (R332), GET_TAMPER_STATUS (R332)
  (∀ (r : Req) (s : State), s.legalVoid = false → exec (.getPqStatus r) s = .next (s.answer r Code.done
      ((if r.namesPort then [s.pqStatOf r.port, (s.pqAt r.port).det.last] else [s.pqSiteStat, s.legal.site.last]) ++
        [w32 s.legal.pqSeq, w32 s.legal.pqDropped])) ∧
      exec (.getTamperStatus r) s = .next (s.answer r Code.done (s.tmpBlock r.port))) ∧
  -- GET_PQ_EVENTS (R333)
  (∀ (r : Req) (s : State), let n := r.fld 3 14 8
      let bytes := (((s.legal.pqRing.reverse.filter (·.source == if r.namesPort then r.port.1 else 0xFF)).take n).flatMap (·.bytes))
      s.legalVoid = false → 1 ≤ n → n ≤ 64 →
      exec (.getPqEvents r) s = .next (s.answerRing r (r.fld 3 2 0) bytes [pack [(15, 0, bytes.length)]])) ∧
  -- GET_TAMPER_RECORD (R333)
  (∀ (r : Req) (j : JRec) (s : State), s.legalVoid = false →
      ((s.jnl.legal.recs.reverse.filter fun j => j.type == 7 && j.src == r.port.1).take 16)[r.fld 3 3 0]? = some j →
      exec (.getTamperRecord r) s = .next (s.answerRing r (r.fld 3 10 8) j.data [pack [(15, 0, j.len)]])) ∧
  -- PQ_SUBSTITUTED_REFRESH (R315)
  (∀ (src : Option Port) (ch : Fin 3) (r : PqRef) (channels : Nat) (s : State), s.acDetector src = some (r, channels) → s.legalRun = true →
      ch.1 < channels → ∀ a, (ix (s.detOf src).ch ch).refresh = some a →
      a + 640 ≤ s.legal.proc → (s.detOf src).hist.length < 1280 →
      exec (.pqSubstitutedRefresh src ch) s = .next (s.modDet src fun x => { x with
        ch := upd x.ch ch fun y => { y with refresh := some (a + 640) } })) ∧
  -- PQ_SUBSTITUTED_REFRESH (R315)
  (∀ (src : Option Port) (ch : Fin 3) (r : PqRef) (channels a : Nat) (v : PqVal) (s : State), s.acDetector src = some (r, channels) → s.legalRun = true →
      ch.1 < channels → (ix (s.detOf src).ch ch).refresh = some a → a + 640 ≤ s.legal.proc → 1280 ≤ (s.detOf src).hist.length →
      rmsOver (s.detOf src).hist ch 1280 = some v →
      let t := s.modDet src fun x => { x with ch := upd x.ch ch fun y => { y with refresh := some (a + 640), val := some v, subst := true } }
      exec (.pqSubstitutedRefresh src ch) s = .next (t.pqJudge src r channels ((t.detOf src).vals channels) (a + 640))) ∧
  -- TAMPER_PERSISTENCE (R324)
  (∀ (p : Port) (kind : Fin 3) (s : State), let c := (s.pqAt p).persist kind
      s.legalRun = true → c.active = false → 51200 < c.bad → exec (.tamperPersistence p kind) s =
        .next (((s.modPq p fun q => q.setPersist kind { c with active := true, units := c.badN }).tamperRecord p ⟨kind.1 + 2, by omega⟩ 0 c.at_ c.v1
          c.v2).holdStop)) ∧
  -- TAMPER_PERSISTENCE (R324)
  (∀ (p : Port) (s : State), let c := (s.pqAt p).bypass
      s.legalRun = true → c.active = true → 5120 ≤ c.good → exec (.tamperPersistence p 0) s =
        .next (((s.modPq p fun q => q.setPersist 0 {}).tamperRecord p 2 1 c.at_ c.worst c.units).holdStop)) ∧
  -- PQ_EVENT_READ (R329)
  (∀ (path : Path) (g : Guest) (p : Port) (s : State), s.canRead path g = true → (s.violKind path g (0x0E1C + 0x20 * p.1) false false) = none →
      exec (.pqEventRead path g p) s = .next (((s.returnRead path g (0x0E1C + 0x20 * p.1) (ix (s.pqAt p).ev g) []).modPq p
        fun x => { x with ev := clearOne x.ev g }).hostActive path)) ∧
  -- PQ_SITE_EVENT_READ (R330)
  (∀ (path : Path) (g : Guest) (s : State), s.canRead path g = true → (s.violKind path g 0x0F0C false false) = none →
      exec (.pqSiteEventRead path g) s = .next (((s.returnRead path g 0x0F0C (ix s.legal.pqEv g) []).modLegal
        fun x => { x with pqEv := clearOne x.pqEv g }).hostActive path))

/-- Commands to Safety: where each completes and what it leaves. -/
def Obligations.SafetyCommandsComplete : Prop :=
  -- GET_SAFETY_STATUS (R366)
  (∀ (r : Req) (s : State), exec (.getSafetyStatus r) s = .next (s.answer r Code.done (s.safBlock r.guest))) ∧
  -- GET_PORT_SAFETY (R366)
  (∀ (r : Req) (s : State), exec (.getPortSafety r) s =
      .next (s.answer r Code.done (s.safPortBlock r.port r.guest ++ [w32 (s.blockers r.port)]))) ∧
  -- GET_TRIP_LOG (R367)
  (∀ (r : Req) (s : State), 1 ≤ r.fld 3 16 8 → r.fld 3 16 8 ≤ 256 →
      exec (.getTripLog r) s = .next (s.answerRing r (r.fld 3 2 0) ((s.saf.log.take (r.fld 3 16 8)).flatMap TripEntry.bytes)
        [w32 ((s.saf.log.take (r.fld 3 16 8)).flatMap TripEntry.bytes).length])) ∧
  -- GET_SAFETY_TABLE_INFO (R366)
  (∀ (r : Req) (s : State), exec (.getSafetyTableInfo r) s = .next (s.answer r Code.done (bytesToWords (padTo 16 s.table.integrator) ++
      bytesToWords (padTo 16 s.table.validation) ++ [w32 s.table.version, w32 (ix s.fw.active 2).1]))) ∧
  -- RESET_TRIP (R347)
  (∀ (r : Req) (p : Port) (s : State), r.portOpt = some p → r.namesPort = true → s.saf.state ≠ .init → s.table.remoteReset = true →
      (s.spAt p).causes ≠ 0 →
      exec (.resetTrip r) s = .next (let s1 := (((s.askSafety 8 r.portField).heartbeat).giveReset (some p)).safeAnswer r.portField 8 true
        s1.answer r Code.done [w32 (s1.spAt p).causes])) ∧
  -- REQUEST_SAFETY_RESTART (R355)
  (∀ (r : Req) (s : State), r.fromSystem = true → s.saf.state ≠ .init → s.restartOk r.portOpt = true →
      exec (.requestSafetyRestart r) s = .next (((((s.accept r).askSafety 9 r.portField).heartbeat).startRestart r.portOpt
        (some r)).safeAnswer r.portField 9 true)) ∧
  -- REQUEST_SAFE_OUT (R348)
  (∀ (r : Req) (s : State), r.fromSystem = true → s.saf.state ≠ .init → r.fld 3 7 0 &&& s.requestable = r.fld 3 7 0 →
      exec (.requestSafeOut r) s = .next (
        let held := (s.saf.requests - (s.saf.requests &&& r.fld 3 7 0)) + (r.fld 3 15 8 &&& r.fld 3 7 0)
        let s1 := ((((s.askSafety 7 0xFF [w32 held]).heartbeat).modSaf fun x => { x with requests := held }).writeOuts).safeAnswer
          0xFF 7 true
        s1.answer r Code.done [w32 s1.saf.outs])) ∧
  -- GET_EARTH_STATUS (R388)
  (∀ (r : Req) (s : State), exec (.getEarthStatus r) s =
      .next (s.answer r Code.done (s.earthBlock r.port ++ [ix (s.spAt r.port).imdEv r.guest]))) ∧
  -- GET_IMD_GROUP (R388)
  (∀ (r : Req) (s : State), s.groupOf r.port = none →
      exec (.getImdGroup r) s = .next (s.answer r Code.done [pack [(7, 0, portMask r.port), (15, 8, if s.joined r.port then portMask r.port else 0),
        (19, 16, if s.injects r.port then r.port.1 else 0xF)], w32 (kOhm (s.spAt r.port).measured (s.spAt r.port).rIso),
        w32 (min 0xFFFF (s.spAt r.port).cE), 0])) ∧
  -- GET_IMD_GROUP (R388)
  (∀ (r : Req) (s : State), ∃ ws, exec (.getImdGroup r) s = .next (s.answer r Code.done ws)) ∧
  -- GET_ACTUATOR_STATUS (R388)
  (∀ (r : Req) (s : State), exec (.getActuatorStatus r) s = .next (s.answer r Code.done (s.actBlock r.port ++
      [match s.brakeOf r.port with
        | some b => s.brkStat b
        | none => 0]))) ∧
  -- RUN_INSULATION_SELFTEST (R389), RUN_WELD_TEST (R389), RUN_BRAKE_TEST (R389)
  (∀ x ∈ [(Instr.runInsulationSelftest, 2), (Instr.runWeldTest, 3), (Instr.runBrakeTest, 4)], ∀ (r : Req) (s : State),
      s.saf.state = .run → s.needsTest r.port x.2 = true → s.testRunning r.port ≠ x.2 → (∀ d ∈ (s.spAt r.port).deferred, d.1 ≠ x.2) →
      s.testAllowed r.port x.2 = true →
      exec (x.1 r) s = .next (((((s.accept r).askSafety 5 r.port.1 [w32 x.2]).heartbeat).startTest r.port x.2
        (some r)).safeAnswer r.port.1 5 true)) ∧
  -- RUN_INSULATION_SELFTEST (R389), RUN_WELD_TEST (R389), RUN_BRAKE_TEST (R389)
  (∀ x ∈ [(Instr.runInsulationSelftest, 2), (Instr.runWeldTest, 3), (Instr.runBrakeTest, 4)], ∀ (r : Req) (s : State),
      s.saf.state = .run → s.needsTest r.port x.2 = true → s.testRunning r.port ≠ x.2 → (∀ d ∈ (s.spAt r.port).deferred, d.1 ≠ x.2) →
      s.testAllowed r.port x.2 = false →
      exec (x.1 r) s = .next ((s.accept r).modSp r.port fun y => { y with deferred := y.deferred ++ [(x.2, some r)] })) ∧
  -- RELEASE_BRAKE (R381)
  (∀ (r : Req) (b : Fin 2) (s : State), s.saf.state ≠ .init → s.brakeOf r.port = some b →
      (((s.askSafety 6 r.port.1 [w32 b.1]).heartbeat).requestRelease b none).2 = Code.accepted →
      exec (.releaseBrake r) s = .next ((((((s.askSafety 6 r.port.1 [w32 b.1]).heartbeat).accept r).requestRelease b
        (some r)).1).safeAnswer r.port.1 6 true)) ∧
  -- RELEASE_BRAKE (R381)
  (∀ (r : Req) (b : Fin 2) (s : State), s.saf.state ≠ .init → s.brakeOf r.port = some b →
      (((s.askSafety 6 r.port.1 [w32 b.1]).heartbeat).requestRelease b none).2 = Code.done → exec (.releaseBrake r) s = .next
        ((((((s.askSafety 6 r.port.1 [w32 b.1]).heartbeat).requestRelease b none).1).safeAnswer r.port.1 6 true).answer r Code.done)) ∧
  -- APPLY_BRAKE (R381)
  (∀ (r : Req) (b : Fin 2) (s : State), s.saf.state ≠ .init → s.brakeOf r.port = some b →
      exec (.applyBrake r) s = .next (((s.withdrawRelease b).applyBrake b).answer r Code.done)) ∧
  -- SAF_EVENT_READ (R364)
  (∀ (path : Path) (g : Guest) (p : Port) (s : State), s.canRead path g = true → (s.violKind path g (0x024C + 0x10 * p.1) false false) = none →
      exec (.safEventRead path g p) s = .next (((s.returnRead path g (0x024C + 0x10 * p.1) (ix (s.spAt p).ev g) []).modSp p
        fun x => { x with ev := clearOne x.ev g }).hostActive path)) ∧
  -- SAF_SITE_EVENT_READ (R363)
  (∀ (path : Path) (g : Guest) (s : State), s.canRead path g = true → (s.violKind path g 0x021C false false) = none →
      exec (.safSiteEventRead path g) s = .next (((s.returnRead path g 0x021C (ix s.saf.ev g) []).modSaf
        fun x => { x with ev := clearOne x.ev g }).hostActive path))

/-- Safety inputs and diagnostics: where each row completes and what it leaves. -/
def Obligations.SafetyInputRowsComplete : Prop :=
  -- SAFE_IN_EDGE (R344)
  (∀ (k : Fin 16) (level : Bool) (s : State), (ix s.saf.inputs k).level = level →
      exec (.safeInEdge k level) s = .next (s.modSaf fun x => { x with inputs := upd x.inputs k fun i =>
        { i with level, highSince := if level && !i.level then s.time.safetyUs else i.highSince } })) ∧
  -- SAFE_IN_EDGE (R344)
  (∀ (k : Fin 16) (level : Bool) (s : State), (ix s.saf.inputs k).level ≠ level → s.saf.wires = true →
      exec (.safeInEdge k level) s = .next (let s1 := s.modSaf fun x => { x with inputs := upd x.inputs k fun i =>
          { i with level, highSince := if level && !i.level then s.time.safetyUs else i.highSince } }
        let reset := (s.inRec k).type != 0 && (s.inRec k).role == 1 && !level &&
          inRange 100000 2000000 (s.time.safetyUs - (ix s.saf.inputs k).highSince)
        (((((s1.inputCheck k).evalRows).whenB reset fun t => t.giveReset none).each (n := 2) fun b t =>
          if (t.brkRec b).enable && (t.brkRec b).posIn == k.1 && (t.brkAt b).phase == some .supervise then t.failBrakeTest b
          else t).checkStop).wakeEvent 4)) ∧
  -- DISCREPANCY_TIMEOUT (R344)
  (∀ (k : Fin 8) (s : State), let a := inputIdx (2 * k.1)
      let b := inputIdx (2 * k.1 + 1)
      s.partner a = some b → (ix s.saf.inputs a).level ≠ (ix s.saf.inputs b).level →
      exec (.discrepancyTimeout k) s = .next ((((s.inputFault a).inputFault b).inputCheck a).evalRows.checkStop)) ∧
  -- INPUT_PATTERN_CHECK (R344)
  (∀ (k : Fin 16) (seen : Nat) (s : State), (s.inRec k).type = 1 → seen % 256 = 2 ^ (s.inRec k).testSrc →
      exec (.inputPatternCheck k seen) s = .next (((s.modSaf fun x => { x with inputs := upd x.inputs k fun i =>
        { i with badPattern := false } }).inputCheck k).evalRows.checkStop)) ∧
  -- INPUT_PATTERN_CHECK (R344)
  (∀ (k : Fin 16) (seen : Nat) (s : State), (s.inRec k).type = 1 → seen % 256 ≠ 2 ^ (s.inRec k).testSrc →
      exec (.inputPatternCheck k seen) s = .next ((((s.modSaf fun x => { x with inputs := upd x.inputs k fun i =>
        { i with badPattern := true } }).inputFault k).inputCheck k).evalRows.checkStop)) ∧
  -- SAFETY_ECC_SCRUB (R340)
  (∀ (n : Nat) (s : State), exec (.safetyEccScrub n false) s = .next (s.modSaf fun x => { x with ecc := satAdd 0xFFFF x.ecc n })) ∧
  -- SAFETY_ECC_SCRUB (R340)
  (∀ (n : Nat) (s : State), exec (.safetyEccScrub n true) s = .next ((s.modSaf fun x => { x with ecc := satAdd 0xFFFF x.ecc n }).execFault 1)) ∧
  -- TABLE_DIGEST_CHECK (R340)
  (∀ (b : Bool) (s : State), exec (.tableDigestCheck b) s = .next (if b then s.diagGone 2 else s.diagFault 2)) ∧
  -- COMPARATOR_SELFTEST (R340)
  (∀ (t : ComparatorTest) (s : State), exec (.comparatorSelftest t) s = .next
      (if t.ok then s.diagGone 7 (4 * t.port.1 + t.comp.1) else s.diagFault 7 (4 * t.port.1 + t.comp.1))) ∧
  -- DRIVER_OFF_TEST (R340)
  (∀ (t : DriverTest) (s : State), exec (.driverOffTest t) s = .next (if t.ok then s.diagGone 8 (driverNum t.driver)
      else if s.offTested t.driver then s.diagFault 8 (driverNum t.driver) else s)) ∧
  -- OSCILLATOR_FAULT (R340)
  (∀ (s : State), exec .oscillatorFault s = .next (s.execFault 5)) ∧
  -- RAIL_FAULT (R336)
  (∀ (s : State), exec .railFault s = .next (s.execFault 6)) ∧
  -- WATCHDOG_QUESTION (R340)
  (∀ (s : State), exec .watchdogQuestion s = .next (s.modSaf fun x => { x with question := some s.time.safetyUs })) ∧
  -- WATCHDOG_WINDOW_EXPIRY (R340)
  (∀ (s : State), s.saf.question ≠ none → exec .watchdogWindowExpiry s = .next ((s.modSaf fun x => { x with question := none }).execFault 4)) ∧
  -- DIE_TEMP_CHECK (R603)
  (∀ (main meas drive : Nat) (s : State), main < 174 → meas < 169 → drive < 209 →
      exec (.dieTempCheck main meas drive) s = .next ((s.modSys fun y => { y with
        tempMain := main, tempMeas := meas, tempDrive := drive, thermWarn := false }).diagGone 11)) ∧
  -- DIE_TEMP_CHECK (R603)
  (∀ (main meas drive : Nat) (s : State), 174 < meas → meas ≤ 255 →
      exec (.dieTempCheck main meas drive) s = .next (((s.modSys fun y => { y with
        tempMain := min 255 main, tempMeas := meas, tempDrive := min 255 drive, thermWarn := true }).whenB (!s.sys.thermWarn)
          fun t => t.irqAll irqSystem).diagFault 11)) ∧
  -- SERVICE_LOSS_TIMEOUT (R350)
  (∀ (s : State), exec .serviceLossTimeout s = .next s.serviceLoss) ∧
  -- HEARTBEAT (R350)
  (∀ (s : State), exec .heartbeat s = .next s.heartbeat) ∧
  -- RAMP_DONE (R349)
  (∀ (p : Port) (s : State), exec (.rampDone p) s = .next s.heartbeat)

/-- Safety cycle and Service’s requests: where each row completes and what it leaves. -/
def Obligations.SafetyCycleComplete : Prop :=
  -- SAFETY_CYCLE (R338)
  (∀ (c : CycleSense) (s : State), s.sys.power ≠ .dormant → s.saf.wires = true → c.flow = false →
      exec (.safetyCycle c) s = .next (s.execFault 3)) ∧
  -- SAFETY_CYCLE (R338)
  (∀ (c : CycleSense) (s : State), s.sys.power ≠ .dormant → s.saf.wires = true → c.flow = true → s.saf.question = none →
      exec (.safetyCycle c) s = .next
        (let t := ((s.evalRows.each (n := 8) fun p t => t.portCycle p (ix c.port p)).writeOuts.readBack c).checkStop.sendChanges
         if t.saf.statusAt + 10000 ≤ t.time.safetyUs then t.repeatStatus else t)) ∧
  -- SAFETY_CYCLE (R338)
  (∀ (c : CycleSense) (t : Nat) (s : State), s.sys.power ≠ .dormant → s.saf.wires = true → c.flow = true → s.saf.question = some t →
      c.answer = true → 400 ≤ s.time.safetyUs - t → s.time.safetyUs - t ≤ 900 →
      exec (.safetyCycle c) s = .next
        (let t := (((s.modSaf fun x => { x with question := none }).evalRows.each (n := 8) fun p t =>
          t.portCycle p (ix c.port p)).writeOuts.readBack c).checkStop.sendChanges
         if t.saf.statusAt + 10000 ≤ t.time.safetyUs then t.repeatStatus else t)) ∧
  -- CLOSE_CONFIRM_TIMEOUT (R165)
  (∀ (p : Port) (s : State), (s.spAt p).state = .closing → exec (.closeConfirmTimeout p) s = .next ((s.contactorFault p).checkStop)) ∧
  -- OPEN_CONFIRM_TIMEOUT (R165)
  (∀ (p : Port) (s : State), (s.spAt p).coil = false → (s.spAt p).confirmed = false → (s.spAt p).state ≠ .contactorFault →
      exec (.openConfirmTimeout p) s = .next (if s.weldOk p then s.confirmOpen p else s.contactorFault p)) ∧
  -- CONTACT_DISAGREE_TIMEOUT (R166)
  (∀ (p : Port) (s : State), (s.spAt p).state = .closed → exec (.contactDisagreeTimeout p) s = .next ((s.contactorFault p).checkStop)) ∧
  -- COIL_CURRENT_FAULT (R379)
  (∀ (p : Port) (s : State), (s.spAt p).coil = true → (s.spAt p).test = none →
      exec (.coilCurrentFault p) s = .next ((s.contactorFault p).checkStop)) ∧
  -- COIL_CURRENT_FAULT (R379)
  (∀ (p : Port) (t : PortTest) (s : State), (s.spAt p).coil = true → (s.spAt p).test = some t → t.code = 3 →
      exec (.coilCurrentFault p) s = .next (s.failWeld p t 2)) ∧
  -- WINDOW_DEADLINE (R353)
  (∀ (p : Port) (s : State), (s.spAt p).window ≠ none → exec (.windowDeadline p) s =
      .next (((((s.openPort p).modSp p fun x => { x with forcedOpen := true }).modSaf fun x => { x with
        forced := satInc 255 x.forced }).sevRaise p 0x10 |>.tripLog 5 p.1 (portMask p)).checkStop)) ∧
  -- SAFETY_INIT_DONE (R351)
  (∀ (s : State), s.saf.state = .init → s.tableFails = none → exec (.safetyInitDone .done) s = .next
      ((((((((s.reach 2).reach 3).reach 4).modSaf fun x => { x with wires := true, enable := true }).modSys fun y => { y with
        safetyRdy := true }).safetyProven).siteTo .run).each (n := 8) fun p t => t.checkBlocked p)) ∧
  -- SAFETY_INIT_DONE (R351)
  (∀ (s : State), s.saf.state = .init → exec (.safetyInitDone .digestFail) s = .next
      ((((((((s.reach 2).reach 3).reach 4).modSaf fun x => { x with wires := true, enable := true }).safetyUnproven).modSaf fun x => { x with
        failAt := 0, enable := false }).siteTo .tableFail))) ∧
  -- SAFETY_INIT_DONE (R351)
  (∀ (o : Nat) (s : State), s.saf.state = .init → s.tableFails = some o → exec (.safetyInitDone .done) s = .next
      ((((((((s.reach 2).reach 3).reach 4).modSaf fun x => { x with wires := true, enable := true }).safetyUnproven).modSaf fun x => { x with
        failAt := o, enable := false }).siteTo .tableFail))) ∧
  -- SAFETY_INIT_DONE (R351)
  (∀ (c : Nat) (s : State), s.saf.state = .init → s.tableFails = none → exec (.safetyInitDone (.safeStop c)) s = .next
      ((((((s.reach 2).reach 3).reach 4).modSaf fun x => { x with wires := true, enable := true }).safetyUnproven).diagFault c)) ∧
  -- SAFETY_INIT_DONE (R351)
  (∀ (c : Nat) (s : State), s.saf.state = .init → exec (.safetyInitDone (.safeHalt c)) s = .next
      ((((((s.reach 2).reach 3).reach 4).modSaf fun x => { x with wires := true, enable := true }).safetyUnproven).execFault c)) ∧
  -- CLOSE_REQ (R352)
  (∀ (p : Port) (s : State), s.heartbeat.permit p = true → exec (.closeReq p) s = .next
      ((((s.heartbeat.emit (.closeNotice p)).modSp p fun x => { x with coils := Vector.replicate 2 true }).setPort p .closing
        |>.busChanged p).safeAnswer p.1 2 true)) ∧
  -- CLOSE_REQ (R352)
  (∀ (p : Port) (s : State), s.heartbeat.permit p = false → exec (.closeReq p) s = .next (s.heartbeat.safeAnswer p.1 2 false)) ∧
  -- OPEN_REQ (R352)
  (∀ (p : Port) (s : State), exec (.openReq p) s = .next (((s.heartbeat.openPort p).checkStop).safeAnswer p.1 3 true)) ∧
  -- OUT_REQ (R348)
  (∀ (m : Nat) (s : State), exec (.outReq m) s = .next (((s.heartbeat.modSaf fun x => { x with
      requests := m &&& s.requestable }).writeOuts).safeAnswer 0xFF 7 true)) ∧
  -- RESET_REQ (R347)
  (∀ (q : Option Port) (s : State), s.heartbeat.table.remoteReset = true →
      exec (.resetReq q) s = .next ((s.heartbeat.giveReset q).safeAnswer 0xFF 8 true)) ∧
  -- RESTART_REQ (R355)
  (∀ (q : Option Port) (s : State), s.heartbeat.restartOk q = true →
      exec (.restartReq q) s = .next ((s.heartbeat.startRestart q none).safeAnswer 0xFF 9 true)) ∧
  -- SAFETY_RESTART_DONE (R355)
  (∀ (r : Restart) (p : Port) (s : State), s.saf.restart = some r → r.port = some p →
      exec (.safetyRestartDone true 0) s = .next ((((((s.modSaf fun x => { x with restart := none }).modSaf fun x => { x with
        restarts := satInc 255 x.restarts }).safRaise 0x40).leaveFault p).checkBlocked p).finalOpt r.cmd Code.done [0])) ∧
  -- SAFETY_RESTART_DONE (R355)
  (∀ (r : Restart) (item : Nat) (s : State), s.saf.restart = some r → r.port = none →
      exec (.safetyRestartDone false item) s = .next ((((s.modSaf fun x => { x with restart := none }).modSaf fun x => { x with
        diag := item }).siteTo .safeStop).finalOpt r.cmd Code.fault [w32 item]))

/-- Earth fault monitors and self-tests: where each row completes and what it leaves. -/
def Obligations.EarthFaultRowsComplete : Prop :=
  -- SAFETY_CP_PERIOD (R371)
  (∀ (p : Port) (pwm : Bool) (hi lo : Int) (s : State), cpClass hi = .b → pwm = false → (s.spAt p).peOk = false → (s.spAt p).peRun = 2 →
      exec (.safetyCpPeriod p pwm hi lo) s = .next ((s.modSp p fun y => { y with peOk := true, peRun := 0, unplugged := false }).checkStop)) ∧
  -- SAFETY_CP_PERIOD (R371)
  (∀ (p : Port) (pwm : Bool) (hi lo : Int) (s : State), cpClass hi = .a → (s.spAt p).peOk = false →
      exec (.safetyCpPeriod p pwm hi lo) s = .next (((s.modSp p fun y => { y with
        peRun := 0, unplugged := true, pass := false }).clearLatches p false).checkStop)) ∧
  -- SAFETY_CP_PERIOD (R371)
  (∀ (p : Port) (pwm : Bool) (hi lo : Int) (s : State), cpClass hi = .invalid → (s.spAt p).peOk = true → (s.spAt p).peRun = 2 →
      (s.spAt p).state = .closed → exec (.safetyCpPeriod p pwm hi lo) s =
        .next ((((s.modSp p fun y => { y with peOk := false, peRun := 0 }).imdRaise p 0x20).tripPort p 3 3).checkStop)) ∧
  -- IMD_HALF_PERIOD_END (R372)
  (∀ (p : Port) (ohm : Option Nat) (ce : Nat) (s : State), s.injects p = true → (s.spAt p).contaminated = true → (s.spAt p).pre = none →
      exec (.imdHalfPeriodEnd p ohm ce) s = .next (s.modSp p fun x => { x with contaminated := false })) ∧
  -- IMD_HALF_PERIOD_END (R372)
  (∀ (p : Port) (ohm : Option Nat) (ce : Nat) (s : State), s.injects p = true → (s.spAt p).contaminated = false → s.groupOf p = none →
      ohm.filter (fun v => v ≤ 10000000) = ohm → exec (.imdHalfPeriodEnd p ohm ce) s = .next (let s1 := s.modSp p fun x => { x with
          contaminated := false, pre := x.pre.map fun t => { t with extra := t.extra + b1 t.late } }
        let s2 := s1.imdResult p ohm ce
        ((if ((s.portRec p).cLimitNf < ce || 2 ≤ (s2.spAt p).low) && !(s2.spAt p).has 1 then s2.imdTrip p
          else s2.judgePreclose p).clearLatches p false).checkStop)) ∧
  -- IMD_HALF_PERIOD_END (R372)
  (∀ (p : Port) (v ce : Nat) (s : State), 10000000 < v → exec (.imdHalfPeriodEnd p (some v) ce) s = exec (.imdHalfPeriodEnd p none ce) s) ∧
  -- IMD_SLOT_ROTATE (R374)
  (∀ (g : Fin 8) (i q : Port) (s : State), ix s.saf.injector g = some i → ((s.closedOf g).find? fun k => i < k) = some q →
      exec (.imdSlotRotate g) s = .next ((s.closedOf g).foldl (fun t k => t.modSp k fun x => { x with contaminated := true })
        (s.modSaf fun x => { x with injector := upd x.injector g fun _ => some q, slotAt := upd x.slotAt g fun _ => s.time.safetyUs }))) ∧
  -- PRECLOSE_TEST_END (R375)
  (∀ (p : Port) (s : State), exec (.precloseTestEnd p) s = .next ((s.modSp p fun x => { x with
      pre := x.pre.map fun t => { t with late := true } }).judgePreclose p)) ∧
  -- RCM_TRIP (R376)
  (∀ (p : Port) (s : State), s.residual p = true → (s.spAt p).state.active = true →
      exec (.rcmTrip p) s = .next ((((s.imdRaise p 0x10).modSp p fun x => { x with rcmOk := none }).tripPort p 2 2).checkStop)) ∧
  -- RCM_TRIP (R376)
  (∀ (p : Port) (s : State), (s.spAt p).sense.rcmDc < 30 → ((s.spAt p).sense.rcmAc < 150 ∨ (s.portRec p).rcmMode = 1) →
      exec (.rcmTrip p) s = .next s) ∧
  -- LOCK_FILTER_EXPIRY (R380)
  (∀ (p : Port) (s : State), (s.portRec p).lockVerify ≠ 0 → (s.spAt p).sense.lockFb = ((s.portRec p).lockVerify == 1) →
      exec (.lockFilterExpiry p) s = .next (s.modSp p fun x => { x with lockVerified := true })) ∧
  -- LOCK_FILTER_EXPIRY (R380)
  (∀ (p : Port) (s : State), (s.portRec p).lockVerify ≠ 0 → (s.spAt p).sense.lockFb ≠ ((s.portRec p).lockVerify == 1) →
      exec (.lockFilterExpiry p) s = .next (let s1 := s.modSp p fun x => { x with lockVerified := false }
        if (s.spAt p).state.active then ((s1.imdRaise p 0x40).tripPort p 4 4).checkStop else s1)) ∧
  -- SELFTEST_REQ (R383)
  (∀ (p : Port) (s : State), (s.heartbeat.portRec p).isDc = true → s.heartbeat.saf.state = .run → (s.heartbeat.spAt p).state = .open_ →
      s.heartbeat.openOk p = true → s.heartbeat.testRunning p = 0 →
      exec (.selftestReq p 1) s = .next ((s.heartbeat.modSp p fun x => { x with
        pre := some {}, preFail := false, contaminated := false, low := 0 }).safeAnswer p.1 5 true)) ∧
  -- SELFTEST_REQ (R383)
  (∀ (p : Port) (code : Nat) (s : State), code ≠ 1 → s.heartbeat.needsTest p code = true → s.heartbeat.testAllowed p code = true →
      exec (.selftestReq p code) s = .next ((s.heartbeat.startTest p code none).safeAnswer p.1 5 true)) ∧
  -- INSULATION_SELFTEST_END (R383)
  (∀ (p : Port) (kohm : Nat) (t : PortTest) (s : State), (s.spAt p).test = some t → t.code = 2 → 85 ≤ kohm → kohm ≤ 115 →
      exec (.insulationSelftestEnd p kohm) s = .next (((((s.modSp p fun x => { x with
        test := none, insFail := false, insAt := s.time.safetyUs }).testNotice t.cmd Code.done kohm).testEnded p 2 1)).runDeferred p)) ∧
  -- INSULATION_SELFTEST_END (R383)
  (∀ (p : Port) (kohm : Nat) (t : PortTest) (s : State), (s.spAt p).test = some t → t.code = 2 → (kohm < 85 ∨ 115 < kohm) →
      exec (.insulationSelftestEnd p kohm) s = .next (((((s.modSp p fun x => { x with
        test := none, insFail := true }).testNotice t.cmd Code.fault kohm).testEnded p 2 2)).runDeferred p)) ∧
  -- WELD_TEST_TIMER (R383)
  (∀ (p : Port) (t : PortTest) (s : State), (s.spAt p).test = some t → t.code = 3 → t.weldPhase = .close → s.mainClosed p t.weldK = false →
      exec (.weldTestTimer p) s = .next (s.failWeld p t 1)) ∧
  -- WELD_TEST_TIMER (R383)
  (∀ (p : Port) (t : PortTest) (s : State), (s.spAt p).test = some t → t.code = 3 → t.weldPhase = .open_ → s.mainClosed p t.weldK = false →
      s.mainClosed p (1 - t.weldK) = false → t.weldK = 0 →
      exec (.weldTestTimer p) s = .next (s.modSp p fun x => { x with
        test := some { t with weldK := 1, weldPhase := .close }, coils := #v[false, true] })) ∧
  -- WELD_TEST_TIMER (R383)
  (∀ (p : Port) (t : PortTest) (s : State), (s.spAt p).test = some t → t.code = 3 → t.weldPhase = .open_ → s.mainClosed p t.weldK = false →
      s.mainClosed p (1 - t.weldK) = false → t.weldK = 1 →
      exec (.weldTestTimer p) s = .next ((((s.modSp p fun x => { x with
        test := none, weldAt := s.time.safetyUs, weldDue := false, weldFail := false }).testNotice t.cmd Code.done 0).testEnded p 3 1).runDeferred p)) ∧
  -- BRAKE_RELEASE_REQ (R381)
  (∀ (b : Fin 2) (s : State), exec (.brakeReleaseReq b) s = .next (((s.heartbeat.requestRelease b none).1).safeAnswer
      (match s.brakePort b with
        | some p => p.1
        | none => 0xFF) 6 ((s.heartbeat.requestRelease b none).2 != Code.refused))) ∧
  -- BRAKE_TEST_TIMER (R382)
  (∀ (b : Fin 2) (s : State), (s.brkAt b).phase = some .settle →
      exec (.brakeTestTimer b) s = .next ((s.modBrk b fun y => { y with phase := some .torque }).writeOuts)) ∧
  -- BRAKE_TEST_TIMER (R382)
  (∀ (b : Fin 2) (s : State), (s.brkAt b).phase = some .torque →
      exec (.brakeTestTimer b) s = .next (s.modBrk b fun y => { y with
        phase := some .supervise, superviseAt := s.time.safetyUs, pos := s.posOk b })) ∧
  -- BRAKE_TEST_TIMER (R382)
  (∀ (b : Fin 2) (s : State), (s.brkAt b).phase = some .supervise →
      exec (.brakeTestTimer b) s = .next ((s.modBrk b fun y => { y with phase := some .release }).writeOuts)) ∧
  -- BRAKE_TEST_TIMER (R382)
  (∀ (b : Fin 2) (p : Port) (s : State), (s.brkAt b).phase = some .release → s.brakePort b = some p → (s.brkAt b).thenRelease = false →
      exec (.brakeTestTimer b) s = .next ((((((s.modBrk b fun y => { y with
        phase := none, fault := false, passSince := true, cmd := none, thenRelease := false }).brkRaise (oneBit (4 * b.1 + 2))).modSp p fun y =>
          { y with brakeAt := s.time.safetyUs }).testEnded p 4 1).testNotice (s.brkAt b).cmd Code.done 0).runDeferred p)) ∧
  -- IMD_EVENT_READ (R385)
  (∀ (path : Path) (g : Guest) (p : Port) (s : State), s.canRead path g = true → (s.violKind path g (0x031C + 0x20 * p.1) false false) = none →
      exec (.imdEventRead path g p) s = .next (((s.returnRead path g (0x031C + 0x20 * p.1) (ix (s.spAt p).imdEv g) []).modSp p
        fun x => { x with imdEv := clearOne x.imdEv g }).hostActive path)) ∧
  -- BRK_EVENT_READ (R386)
  (∀ (path : Path) (g : Guest) (s : State), s.canRead path g = true → (s.violKind path g 0x02C8 false false) = none →
      exec (.brkEventRead path g) s = .next (((s.returnRead path g 0x02C8 (ix s.saf.brkEv g) []).modSaf
        fun x => { x with brkEv := clearOne x.brkEv g }).hostActive path))

/-- Load switches, lock bridges and brakes: where each row completes and what it leaves. -/
def Obligations.LoadSwitchRowsComplete : Prop :=
  -- LS_OVERCURRENT (R393)
  (∀ (c : Fin 40) (s : State), (s.lsCh c).permitted = true → (s.lsCfg c).mode ≠ 0 → s.ls.uv = false → (s.lsCh c).burst = false →
      0 < (s.lsCfg c).retryMax → exec (.lsOvercurrent c) s = .next (s.modLsCh c fun y => { y with
        burst := true, waiting := true, windowOver := false, carry := 0, pulse := 0, retries := 0, bursts := satInc 0xFFFF y.bursts })) ∧
  -- LS_OVERCURRENT (R393)
  (∀ (c : Fin 40) (s : State), (s.lsCh c).permitted = true → (s.lsCfg c).mode ≠ 0 → s.ls.uv = false → (s.lsCh c).burst = true →
      ((s.lsCfg c).retryMax ≤ (s.lsCh c).retries ∨ (s.lsCh c).windowOver = true) →
      exec (.lsOvercurrent c) s = .next ((s.modLsCh c fun y => { y.drop with
        overcurrent := true, retries := (s.lsCh c).retries, bursts := if y.burst then y.bursts else satInc 0xFFFF y.bursts }).lsRaise 8)) ∧
  -- LS_RETRY_TIMER (R393)
  (∀ (c : Fin 40) (s : State), (s.lsCh c).waiting = true → (s.lsCh c).commanded = true → (s.lsCh c).windowOver = false →
      (s.lsCh c).retries < (s.lsCfg c).retryMax →
      exec (.lsRetryTimer c) s = .next (s.modLsCh c fun y => { y with waiting := false, retries := y.retries + 1 }).lsSettle) ∧
  -- LS_RETRY_TIMER (R393)
  (∀ (c : Fin 40) (s : State), (s.lsCh c).waiting = true → (s.lsCh c).commanded = true → (s.lsCh c).windowOver = true →
      exec (.lsRetryTimer c) s = .next ((s.modLsCh c fun y => { y.drop with overcurrent := true }).lsRaise 8)) ∧
  -- LS_BURST_SUCCESS (R393)
  (∀ (c : Fin 40) (s : State), (s.lsCh c).burst = true → (s.lsCh c).waiting = false →
      exec (.lsBurstSuccess c) s = .next (s.modLsCh c fun y => { y with burst := false, windowOver := false, retries := 0 })) ∧
  -- LS_BURST_WINDOW_END (R393)
  (∀ (c : Fin 40) (s : State), (s.lsCh c).burst = true → exec (.lsBurstWindowEnd c) s = .next (s.modLsCh c fun y => { y with windowOver := true })) ∧
  -- LS_THERMAL_TRIP (R394)
  (∀ (c : Fin 40) (s : State), let recent := s.time.safetyUs :: (s.lsCh c).trips.filter fun t => s.time.safetyUs < t + 60000000
      ((s.lsCfg c).thermLatch = true ∨ 32 ≤ recent.length) →
      exec (.lsThermalTrip c) s = .next ((s.modLsCh c fun y => { y.drop with thermal := true, hot := true, trips := recent }).lsRaise 8)) ∧
  -- LS_THERMAL_TRIP (R394)
  (∀ (c : Fin 40) (s : State), let recent := s.time.safetyUs :: (s.lsCh c).trips.filter fun t => s.time.safetyUs < t + 60000000
      (s.lsCfg c).thermLatch = false → recent.length < 32 →
      exec (.lsThermalTrip c) s = .next (s.modLsCh c fun y => { y.quiet with thermalWait := true, hot := true, trips := recent })) ∧
  -- LS_THERMAL_COOLED (R394)
  (∀ (c : Fin 40) (s : State), exec (.lsThermalCooled c) s = .next (s.modLsCh c fun y => { y with hot := false, thermalWait := false }).lsSettle) ∧
  -- LS_SHED (R395)
  (∀ (c : Fin 40) (s : State), (if s.ls.shedding then 30000 else 32000) < s.loadNow → s.shedNext = some c →
      exec .lsShed s = .next (((s.modLsCh c LsCh.drop).modLs fun l => { l with shedding := true }).lsRaise 4)) ∧
  -- LS_SHED (R395)
  (∀ (s : State), s.loadNow ≤ (if s.ls.shedding then 30000 else 32000) →
      exec .lsShed s = .next (s.modLs fun l => { l with shedding := false })) ∧
  -- LS_OPEN_LOAD_SAMPLE (R397)
  (∀ (c : Fin 40) (mA : Nat) (s : State), (s.ls.low = true ∨ s.ls.uv = true ∨ s.lsOn c = false) →
      exec (.lsOpenLoadSample c mA) s = .next (s.modLsCh c fun y => y.sample s.time.safetyUs mA)) ∧
  -- LS_OPEN_LOAD_SAMPLE (R397)
  (∀ (c : Fin 40) (mA : Nat) (s : State), s.ls.low = false → s.ls.uv = false → s.lsOn c = true → (s.lsCfg c).mode = 1 → (s.lsCfg c).olFine = false →
      mA < 35 → (s.lsCh c).openLoad = false → (s.lsCh c).olRun = 9 →
      exec (.lsOpenLoadSample c mA) s = .next (((s.modLsCh c fun y => y.sample s.time.safetyUs mA).modLsCh c
        fun y => { y with olRun := 0, openLoad := true }).lsRaise 0x10)) ∧
  -- OFF_OPEN (R397)
  (∀ (c : Fin 40) (o : Bool) (s : State), exec (.offOpen c o) s = .next (s.modLsCh c fun x => { x with
      offOpen := o && (s.lsCfg c).offDiag && !s.lsOn c })) ∧
  -- LSPWM_STATIC (R398)
  (∀ (k : Fin 8) (level : Bool) (s : State), exec (.lspwmStatic k level) s = .next
      ((((s.endHold k).modLs fun l => { l with pwm := upd l.pwm k fun x => { level, static := true, validAt := x.validAt } }).each (n := 40)
        fun c u => if (s.lsCfg c).mode == 2 && (s.lsCfg c).src == k.1 then
          u.modLsCh c fun x => { x with pulse := 0, carry := 0, compLimit := false } else u).lsSettle)) ∧
  -- LSPWM_EDGE (R398)
  (∀ (k : Fin 8) (t tIn v : Nat) (s : State), (∀ c, (s.lsCfg c).mode ≠ 2) → (ix s.ls.pwm k).static = false →
      5000 ≤ t → t ≤ 200000 → exec (.lspwmEdge k t tIn v) s = .next ((s.endHold k).modLs fun l => { l with
        vAux := v, pwm := upd l.pwm k fun x => { x with
          level := true, static := false, validAt := some s.time.safetyUs, bad := false, tIn := some tIn } }).lsSettle) ∧
  -- GET_LS_STATUS (R409)
  (∀ (r : Req) (s : State), exec (.getLsStatus r) s = .next (s.answer r Code.done (s.lsBlock r.guest))) ∧
  -- GET_LS_CHANNEL (R409)
  (∀ (r : Req) (h : r.fld 3 5 0 < 40) (s : State), let c : LsIdx := ⟨r.fld 3 5 0, h⟩
      exec (.getLsChannel r) s = .next (s.answer r Code.done [s.lsChWord c, (s.lsCfg c).wordA, (s.lsCfg c).wordB,
        pack [(11, 0, min 4095 ((s.lsCh c).peak s.time.safetyUs)), (31, 16, (s.lsCh c).bursts)]])) ∧
  -- GET_LK_STATUS (R409)
  (∀ (r : Req) (s : State), exec (.getLkStatus r) s = .next (let k := ix s.cfg.lk r.port
      s.answer r Code.done [s.lkStat r.port, w32 k.freq, pack [(7, 0, k.dead), (15, 8, k.minOn)], pack [(15, 0, k.vDrive), (23, 16, k.iLim)]])) ∧
  -- SET_LS_OUTPUT (R391)
  (∀ (r : Req) (s : State), (∀ c, lsNamed r c = true → s.lsOwner r.guest c = true ∧ (s.lsCfg c).mode ≠ 0 ∧
      (lsValue r c = true → (s.lsCh c).overcurrent = false ∧ (s.lsCh c).thermal = false)) →
      s.nomSum (fun c => if lsNamed r c then lsValue r c else (s.lsCh c).commanded) ≤ 32000 →
      exec (.setLsOutput r) s = .next ((((idx 40).filter (lsNamed r)).foldl (fun t c => t.modLsCh c fun x =>
        if lsValue r c then x.turnOn s.ls.uv s.time.safetyUs else x.drop) s).lsSettle.answer r Code.done)) ∧
  -- CLEAR_LS_FAULT (R393)
  (∀ (r : Req) (s : State), (∀ c, lsNamed r c = true → s.lsOwner r.guest c = true ∧ ((s.lsCh c).thermal = true → (s.lsCh c).hot = false)) →
      (∃ c, lsNamed r c = true ∧ ((s.lsCh c).overcurrent = true ∨ (s.lsCh c).thermal = true)) →
      exec (.clearLsFault r) s = .next ((((idx 40).filter (lsNamed r)).foldl (fun t c => t.modLsCh c fun x => { x with
        overcurrent := false, thermal := false }) s).answer r Code.done)) ∧
  -- LS_EVENT_READ (R405)
  (∀ (path : Path) (g : Guest) (s : State), s.canRead path g = true → (s.violKind path g 0x0F3C false false) = none →
      exec (.lsEventRead path g) s = .next (((s.returnRead path g 0x0F3C (ix s.ls.ev g) []).modLs
        fun x => { x with ev := clearOne x.ev g }).hostActive path))

/-- Load-switch supply: where each row completes and what it leaves. -/
def Obligations.DriveSupplyRowsComplete : Prop :=
  -- LK_PERIOD (R401)
  (∀ (p : Port) (v mA : Nat) (s : State), (s.lkAt p).state.driving = true → ((s.lkAt p).state = .lock ∨ s.unlockBlocked p = false) →
      exec (.lkPeriod p v mA) s = .next (let k := ix s.cfg.lk p
        let period := 10000000 / max 1 k.freq
        let e := emit (if v = 0 then period else min period (period * k.vDrive / v)) period k.minOn k.minOn (s.lkAt p).carry
        (s.modLs fun l => { l with vAux := v }).modLk p fun y => { y with
          pulse := e.1, gate := if e.1 = 0 then 0 else e.1 + k.dead, carry := e.2, peak := max y.peak (min 255 (mA / 20)) })) ∧
  -- LK_PERIOD (R401)
  (∀ (p : Port) (v mA : Nat) (s : State), (s.lkAt p).state = .unlock → s.unlockBlocked p = true →
      exec (.lkPeriod p v mA) s = .next (s.endDrive p fun y => { y with blocked := true, failed := true })) ∧
  -- LK_DRIVE_END (R403)
  (∀ (p : Port) (s : State), exec (.lkDriveEnd p) s = .next (s.endDrive p id)) ∧
  -- LK_STALL (R403)
  (∀ (p : Port) (s : State), exec (.lkStall p) s = .next (s.endDrive p fun x => { x with stall := true })) ∧
  -- LK_THERMAL (R403)
  (∀ (p : Port) (s : State), exec (.lkThermal p) s = .next (s.endDrive p fun x => { x with thermal := true, failed := true })) ∧
  -- LK_BRAKE_END (R403)
  (∀ (p : Port) (s : State), (s.lkAt p).rest = true → (s.lkAt p).want = none →
      exec (.lkBrakeEnd p) s = .next (s.modLk p fun x => { x with
        rest := false, want := none, state := if x.state = .braking then (if x.thermal then .thermalWait else .off) else x.state })) ∧
  -- LK_BRAKE_END (R403)
  (∀ (p : Port) (d : Bool) (s : State), (s.lkAt p).rest = true → (s.lkAt p).want = some d →
      exec (.lkBrakeEnd p) s = .next ((s.modLk p fun x => { x with
        rest := false, want := none, state := if x.state = .braking then (if x.thermal then .thermalWait else .off) else x.state }).startDrive p d)) ∧
  -- LK_BRAKE_END (R403)
  (∀ (p : Port) (s : State), (s.lkAt p).rest = false → (s.lkAt p).state = .thermalWait → (s.lkAt p).want = none →
      exec (.lkBrakeEnd p) s = .next (s.modLk p fun x => { x with state := .off, thermal := false })) ∧
  -- VAUX_LOW (R396)
  (∀ (s : State), exec .vauxLow s = .next ((s.modLs fun l => { l with low := true }).each (n := 8) fun p t =>
      t.endDrive p fun x => { x with uvAbort := true, failed := true })) ∧
  -- VAUX_UV (R396)
  (∀ (s : State), exec .vauxUv s = .next s.underVoltage) ∧
  -- VAUX_OVERVOLTAGE (R600)
  (∀ (s : State), exec .vauxOvervoltage s = .next s.underVoltage) ∧
  -- VAUX_RECOVERED (R396)
  (∀ (s : State), s.ls.uv = true → exec .vauxRecovered s = .next ((s.modLs fun l => { l with low := false, uv := false }).restoreGroup 0)) ∧
  -- VAUX_RECOVERED (R396)
  (∀ (s : State), s.ls.uv = false → exec .vauxRecovered s = .next (s.modLs fun l => { l with low := false, uv := false })) ∧
  -- LS_RESTORE_GROUP (R396)
  (∀ (n : Nat) (s : State), s.ls.restore = some n → exec .lsRestoreGroup s = .next (s.restoreGroup n)) ∧
  -- VAUX_OVERVOLTAGE_END (R600)
  (∀ (s : State), s.ls.uv = true → exec .vauxOvervoltageEnd s = .next ((s.modLs fun l => { l with uv := false }).restoreGroup 0))

/-- Chain links and time: where each row completes and what it leaves. -/
def Obligations.ChainLinkRowsComplete : Prop :=
  -- HELLO_SEND (R413)
  (∀ (k : ChPort) (s : State), exec (.helloSend k) s = .next (s.sendLocal k (.hello (s.hello k)))) ∧
  -- HELLO (R421)
  (∀ (k : ChPort) (x : Hello) (s : State), s.sys.power ≠ .doze → s.chainOn = true → (s.chLink k).state = .down → (s.chLink k).phys = true →
      exec (.hello k x) s = .next ((s.setLink k .training).modChLink k fun y => { y with neighbour := x.addr })) ∧
  -- HELLO (R421)
  (∀ (k : ChPort) (x : Hello) (s : State), s.sys.power ≠ .doze → s.chainOn = true → (s.chLink k).state = .training →
      exec (.hello k x) s = .next ((s.modChLink k fun y => { y with rx := satInc 0xFFFFFFFF y.rx }).heardHello k x)) ∧
  -- CHAIN_LINK_TRAINED (R413)
  (∀ (k : ChPort) (s : State), (s.chLink k).state = .training → exec (.chainLinkTrained k) s = .next (s.setLink k .up)) ∧
  -- CHAIN_BAD_FRAME (R420)
  (∀ (k : ChPort) (symbol : Bool) (s : State), s.sys.power ≠ .doze → (s.chLink k).state = .up → exec (.chainBadFrame k { symbol }) s = .next
      ((if symbol then s.modChLink k fun l => { l with symbol := satInc 0xFFFFFFFF l.symbol } else s).badFrame k)) ∧
  -- CHAIN_BAD_FRAME (R420)
  (∀ (k : ChPort) (b : List Byte) (s : State), s.sys.power ≠ .doze → (s.chLink k).state = .up →
      exec (.chainBadFrame k { symbol := false, through := some b }) s = .next ((s.cutThrough k b).badFrame k) ∧
      exec (.chainBadFrame k { symbol := false, ended := true, through := some b }) s = .next (s.cutThrough k b)) ∧
  -- CHAIN_DEGRADED_END (R413)
  (∀ (k : ChPort) (s : State), (s.chLink k).state = .degraded → exec (.chainDegradedEnd k) s = .next (s.setLink k .training)) ∧
  -- CHAIN_LINK_SILENCE (R413)
  (∀ (k : ChPort) (s : State), s.sys.power ≠ .doze → (s.chLink k).state = .up →
      exec (.chainLinkSilence k) s = .next ((s.modChLink k fun l => { l with downN := satInc 0xFFFFFFFF l.downN }).setLink k .down)) ∧
  -- CHAIN_PHY_UP (R412)
  (∀ (k : ChPort) (s : State), s.chainOn = true → (s.chLink k).state = .down →
      exec (.chainPhyUp k false) s = .next ((s.modChLink k fun l => { l with phys := true }).setLink k .training)) ∧
  -- CHAIN_PHY_UP (R412)
  (∀ (k : ChPort) (s : State), s.chainOn = true →
      exec (.chainPhyUp k true) s = .next ((s.modChLink k fun l => { l with phys := false }).setLink k .miswired)) ∧
  -- CHAIN_PHY_DOWN (R413)
  (∀ (k : ChPort) (s : State), (s.chLink k).state = .up →
      exec (.chainPhyDown k) s = .next ((s.modChLink k fun l => { l with phys := false }).linkLost k)) ∧
  -- DELAY_MEASURE (R414)
  (∀ (k : ChPort) (s : State), exec (.delayMeasure k) s = .next (s.sendLocal k (.delayReq s.time.chain))) ∧
  -- DELAY_REQ (R414)
  (∀ (k : ChPort) (t1 t2 t3 : Nat) (s : State), exec (.delayReq k t1 t2 t3) s = .next (s.sendLocal k (.delayRsp t1 t2 t3))) ∧
  -- DELAY_RSP (R414)
  (∀ (k : ChPort) (t1 t2 t3 t4 : Nat) (s : State), s.sys.power ≠ .doze → (s.chLink k).state = .up →
      exec (.delayRsp k t1 t2 t3 t4) s = .next (s.modChLink k fun l => { l with
        delays := (quot (((t4 : Int) - t1) - ((t3 : Int) - t2)) 2 :: l.delays).take 64 })) ∧
  -- P0_REPEAT (R424)
  (∀ (r : Nat × TxFrame) (s : State), s.sys.power ≠ .doze → s.chn.repeats = [r] → exec .p0Repeat s = .next (((s.modChn fun c => { c with repeats := [] }).queueFrame
      che r.2).queueFrame chw r.2)) ∧
  -- RING_RESTORE (R415)
  (∀ (s : State), s.chainOn = true → s.chn.head = true → s.chn.broken = true → vall (·.state == .up) s.chn.links = true →
      exec .ringRestore s = .next (s.closeRing.chnRaise 6))

/-- Chain frames: where each is taken and what it leaves. -/
def Obligations.ChainFramesComplete : Prop :=
  -- TRIP_ADVICE (R440)
  (∀ (h : ChHdr) (o c p r t : Nat) (s : State), s.takes h (.tripAdvice o c p r t) = true →
      exec (.tripAdvice h o c p r t) s = .next ((s.received h (.tripAdvice o c p r t)).eatAdvice o c p r t)) ∧
  -- LINK_DOWN (R415)
  (∀ (h : ChHdr) (u : Nat) (k : ChPort) (s : State), s.takes h (.linkDown u k) = true →
      exec (.linkDown h u k) s = .next ((s.received h (.linkDown u k)).eatLinkDown)) ∧
  -- TOPOLOGY (R421)
  (∀ (h : ChHdr) (b c : Bool) (s : State), s.takes h (.topology b c) = true →
      exec (.topology h b c) s = .next ((s.received h (.topology b c)).eatTopology c)) ∧
  -- CANDIDATE (R416)
  (∀ (h : ChHdr) (k : ChKey) (s : State), s.takes h (.candidate k) = true →
      exec (.candidate h k) s = .next ((s.received h (.candidate k)).elect (some k))) ∧
  -- HEAD_CLAIM (R416)
  (∀ (h : ChHdr) (k : ChKey) (s : State), s.takes h (.headClaim k) = true →
      exec (.headClaim h k) s = .next ((s.received h (.headClaim k)).endElection k h.src)) ∧
  -- WALK (R417)
  (∀ (h : ChHdr) (n : Nat) (s : State), s.takes h (.walk n) = true →
      exec (.walk h n) s = .next ((s.received h (.walk n)).eatWalk (h.port.getD che) n)) ∧
  -- JOIN (R417)
  (∀ (h : ChHdr) (serial : Nat) (s : State), s.takes h (.join serial) = true →
      exec (.join h serial) s = .next ((s.received h (.join serial)).eatJoin h.viaMesh serial)) ∧
  -- ASSIGN (R417)
  (∀ (h : ChHdr) (serial a : Nat) (s : State), s.takes h (.assign serial a) = true →
      exec (.assign h serial a) s = .next ((s.received h (.assign serial a)).eatAssign serial a)) ∧
  -- TABLE (R417)
  (∀ (h : ChHdr) (x : TableFrame) (s : State), s.takes h (.table x) = true →
      exec (.table h x) s = .next (if (s.received h (.table x)).chn.head then s.received h (.table x) else (s.received h (.table x)).eatTable x)) ∧
  -- SYNC (R426)
  (∀ (h : ChHdr) (o : Nat) (c : Int) (s : State), s.takes h (.sync o c) = true →
      exec (.sync h o c) s = .next ((s.received h (.sync o c)).eatSync h o c)) ∧
  -- MIRROR (R439)
  (∀ (h : ChHdr) (e : List Byte) (s : State), s.takes h (.mirror e) = true →
      exec (.mirror h e) s = .next ((s.received h (.mirror e)).eatMirror e)) ∧
  -- FW_OFFER (R438)
  (∀ (h : ChHdr) (x : List Byte) (s : State), s.takes h (.fwOffer x) = true →
      exec (.fwOffer h x) s = .next ((s.received h (.fwOffer x)).eatOffer x)) ∧
  -- FW_BLOCK (R438)
  (∀ (h : ChHdr) (tag off : Nat) (x : List Byte) (s : State), s.takes h (.fwBlock tag off x) = true →
      exec (.fwBlock h tag off x) s = .next ((s.received h (.fwBlock tag off x)).eatBlock h.src tag off x)) ∧
  -- FW_NACK (R438)
  (∀ (h : ChHdr) (tag off len : Nat) (s : State), s.takes h (.fwNack tag off len) = true →
      exec (.fwNack h tag off len) s = .next ((s.received h (.fwNack tag off len)).eatNack tag off)) ∧
  -- ACT_PROPOSE (R432)
  (∀ (h : ChHdr) (a : ActItem) (s : State), s.takes h (.actPropose a) = true →
      exec (.actPropose h a) s = .next ((s.received h (.actPropose a)).eatPropose a)) ∧
  -- ACT_COMMIT (R432)
  (∀ (h : ChHdr) (a : ActItem) (s : State), s.takes h (.actCommit a) = true →
      exec (.actCommit h a) s = .next ((s.received h (.actCommit a)).eatCommit a)) ∧
  -- ACT_QUERY (R543)
  (∀ (h : ChHdr) (a : ActItem) (x : Option Bool) (s : State), s.takes h (.actQuery a x) = true →
      exec (.actQuery h a x) s = .next ((s.received h (.actQuery a x)).eatQuery h.src a x)) ∧
  -- CHAIN_TX_DONE (R423)
  (∀ (k : ChPort) (f : TxFrame) (p : Fin 8) (rest : List TxFrame) (s : State), (s.chLink k).busy.isSome = true → (s.chLink k).nextPrio = some p →
      ix (s.chLink k).queue p = f :: rest → exec (.chainTxDone k) s = .next (((s.modChLink k fun x => { x with busy := none }).modChLink k fun x =>
        { x with queue := upd x.queue p fun _ => rest }).beginFrame k f)) ∧
  -- CHAIN_TX_DONE (R423)
  (∀ (k : ChPort) (s : State), (s.chLink k).busy.isSome = true → (s.chLink k).nextPrio = none →
      exec (.chainTxDone k) s = .next ((s.modChLink k fun x => { x with busy := none }).serveBlock)) ∧
  -- FW_REQ (R438)
  (∀ (k : ChPort) (s : State), (s.chLink k).state = .up → s.sys.romRecovery = false → s.sys.power ≠ .doze → exec (.fwReq k) s = .next (s.offerImage (s.activeBank 0))) ∧
  -- ROM_FW_REQ (R545)
  (∀ (s : State), s.sys.romRecovery = true → s.chainOn = true → (s.stg 0).running = false → (s.chLink che).state = .up →
      exec .romFwReq s = .next (let t := s.sendLocal che .fwReq
        if (s.chLink chw).state = .up then t.sendLocal chw .fwReq else t))

/-- Chain head and chain commands: where each row completes and what it leaves. -/
def Obligations.ChainHeadRowsComplete : Prop :=
  -- ELECTION_START (R416)
  (∀ (s : State), s.sys.power ≠ .doze → s.chainOn = true → s.chn.head = false → s.chn.electing = false → s.msh.msyncAt = none →
      exec .electionStart s = .next (s.elect none)) ∧
  -- HEAD_CLAIM_TIMER (R416)
  (∀ (k : ChKey) (s : State), s.chainOn = true → s.chn.electing = true → s.chn.best = some k → k.serial = s.sys.serial →
      exec .headClaimTimer s = .next (s.becomeHead k)) ∧
  -- TABLE_BROADCAST (R417)
  (∀ (s : State), s.chainOn = true → s.chn.head = true → s.chn.walkWest = false →
      let s1 := s.dropRemoved.keepTable
      exec .tableBroadcast s = .next s1.sendTable) ∧
  -- TABLE_BROADCAST (R417)
  (∀ (a : Nat) (s : State), let s1 := s.dropRemoved.keepTable
      s.chainOn = true → s.chn.head = true → s.chn.walkWest = true → freeAddr s1.chn.table = some a →
      exec .tableBroadcast s = .next ((s1.sendTable.modChn fun c => { c with walkWest := false }).sendWalk chw a)) ∧
  -- JOIN_RETRY (R418)
  (∀ (s : State), s.chainOn = true → s.chn.head = false → s.chn.addr = 0 →
      exec .joinRetry s = .next (s.originate s.chn.headAddr (.join s.sys.serial))) ∧
  -- CHAIN_JOIN_DONE (R35)
  (∀ (s : State), s.sys.reached 8 = true → (s.chainOn = false ∨ s.chn.addr ≠ 0) → exec .chainJoinDone s = .next (s.reach 10)) ∧
  -- SYNC_SEND (R426)
  (∀ (s : State), s.chainOn = true → s.chn.head = true → exec .syncSend s = .next (s.originate 255 (.sync s.time.chain 0))) ∧
  -- TIME_UNSYNC (R427)
  (∀ (s : State), s.sys.power ≠ .doze → s.chainOn = true → s.chn.head = false → s.chn.time ≠ .unsync →
      exec .timeUnsync s = .next ((s.modChn fun c => { c with time := .unsync, syncRun := 0 }).chnRaise 9)) ∧
  -- GET_CHAIN_STATUS (R443)
  (∀ (r : Req) (s : State), exec (.getChainStatus r) s = .next (s.answer r Code.done s.chnBlock)) ∧
  -- GET_CHAIN_MEMBERS (R443)
  (∀ (r : Req) (s : State), ∃ bytes, bytes.length = 32 * s.chn.table.length ∧
      exec (.getChainMembers r) s = .next (s.answerRing r (r.fld 3 2 0) bytes [w32 bytes.length])) ∧
  -- GET_LINK_COUNTERS (R443)
  (∀ (r : Req) (s : State), let l := s.chLink (if r.bit 3 0 then chw else che)
      exec (.getLinkCounters r) s = .next (s.answer r Code.done ([l.tx, l.rx, l.crc, l.symbol, l.hopsExpired, l.dropped, l.degradedN,
        l.downN].map w32 ++ [w32 (min 0xFFFF l.delay.toNat)]))) ∧
  -- GET_MIRRORED_EVENTS (R444)
  (∀ (r : Req) (s : State), s.chainOn = true → s.chn.head = true → 1 ≤ r.fld 3 18 8 → r.fld 3 18 8 ≤ 1024 →
      exec (.getMirroredEvents r) s = .next (s.answerRing r (r.fld 3 2 0) ((s.chn.mirror.take (r.fld 3 18 8)).flatten)
        [w32 ((s.chn.mirror.take (r.fld 3 18 8)).flatten).length])) ∧
  -- REMOVE_UNIT (R417)
  (∀ (r : Req) (x : Nat × Nat) (s : State), r.fromSystem = true → s.chainOn = true → s.chn.head = true →
      s.chn.table.find? (·.1 == leNat (r.bytes 3 16)) = some x → (∀ u ∈ s.lease.reports, u.addr ≠ x.2) → x.2 ≠ s.chn.addr →
      exec (.removeUnit r) s = .next ((s.modChn fun c => { c with removing := x.1 :: c.removing }).answer r Code.done)) ∧
  -- SEND_TRIP_ADVICE (R440)
  (∀ (r : Req) (s : State), r.fromSystem = true → s.chainOn = true →
      exec (.sendTripAdvice r) s = .next ((s.sendAdvice 0 (r.fld 3 7 0) 0xFF).answer r Code.done)) ∧
  -- CLEAR_LINK_COUNTERS (R444)
  (∀ (r : Req) (s : State), r.fromSystem = true → r.bit 3 0 = true → r.bit 3 1 = false → exec (.clearLinkCounters r) s = .next
      ((s.modChLink che fun l => { l with
        tx := 0, rx := 0, crc := 0, symbol := 0, hopsExpired := 0, dropped := 0, degradedN := 0, downN := 0 }).answer r Code.done)) ∧
  -- CLEAR_LINK_COUNTERS (R444)
  (∀ (r : Req) (s : State), r.fromSystem = true → r.bit 3 0 = false → r.bit 3 1 = true → exec (.clearLinkCounters r) s = .next
      ((s.modChLink chw fun l => { l with
        tx := 0, rx := 0, crc := 0, symbol := 0, hopsExpired := 0, dropped := 0, degradedN := 0, downN := 0 }).answer r Code.done)) ∧
  -- CHN_EVENT_READ (R441)
  (∀ (path : Path) (g : Guest) (s : State), s.canRead path g = true → (s.violKind path g 0x0B7C false false) = none →
      exec (.chnEventRead path g) s = .next (((s.returnRead path g 0x0B7C (ix s.chn.ev g) []).modChn
        fun x => { x with ev := clearOne x.ev g }).hostActive path))

/-- Mesh: where each row completes and what it leaves. -/
def Obligations.MeshRowsComplete : Prop :=
  -- NBR (R455)
  (∀ (m : MHdr) (l : List (Nat × Nat)) (s : State), s.meshTakes m (.nbr l) = true →
      exec (.nbr m l) s = .next (s.meshAct m (.nbr l) (·.eatNbr m l))) ∧
  -- TMAP (R452)
  (∀ (m : MHdr) (gen : Nat) (seg : Fin 16) (x : ToneSeg) (s : State), s.meshTakes m (.tmap gen seg x) = true →
      exec (.tmap m gen seg x) s = .next (s.meshAct m (.tmap gen seg x) (·.eatTmap m.src gen seg x))) ∧
  -- MESH_DELAY (R457)
  (∀ (m : MHdr) (t1 t2 t3 t4 : Nat) (s : State), s.meshTakes m (.delay t1) = true →
      exec (.meshDelay m t1 t2 t3 t4) s = .next (s.meshAct m (.delay t1) (·.eatDelay m.src t1 t2 t3 t4))) ∧
  -- PHASE (R460)
  (∀ (m : MHdr) (x : PhaseFrame) (s : State), s.meshTakes m (.phase x) = true →
      exec (.phase m x) s = .next (s.meshAct m (.phase x) (·.eatPhase m.src x))) ∧
  -- MSYNC (R457)
  (∀ (m : MHdr) (origin : Nat) (corr : Int) (s : State), s.meshTakes m (.msync origin corr) = true → ∃ c,
      exec (.msync m origin corr) s = .next (s.useFree.meshAct m (.msync origin c) (·.eatMsync m origin corr))) ∧
  -- MESH_CHAIN_FRAME (R456)
  (∀ (m : MHdr) (h : ChHdr) (b : ChBody) (s : State), let f : TxFrame := {
        level := h.level, rep := h.rep, dst := h.dst, src := h.src,
        hops := 255, viaMesh := true, seq := h.seq, epoch := h.epoch, body := b }
      s.meshTakes m (.chain f) = true →
      exec (.meshChainFrame m h b) s = .next (s.meshAct m (.chain f) fun t =>
        (if t.gatewayTakes h b then (t.queueFrame che f).queueFrame chw f else t).chainRx { h with port := none } b (·.eatFrame
          { h with port := none } b))) ∧
  -- MESH_BAD_FRAME (R450)
  (∀ (s : State), s.meshMember = true → exec .meshBadFrame s = .next (s.modMsh fun m => { m with errCrc := satInc 0xFFFF m.errCrc })) ∧
  -- MESH_CONTENTION (R454)
  (∀ (f : MFrame) (s : State), s.msh.queue = [f] → s.msh.sleeping = false → s.meshMember = true → s.msh.air = none → f.hop = 255 →
      exec .meshContention s = .next ((s.modMsh fun m => { m with queue := [], air := none, tx := satInc 0xFFFFFFFF m.tx }).emit
        (s.meshOut f))) ∧
  -- MESH_CONTENTION (R454)
  (∀ (f : MFrame) (s : State), s.msh.queue = [f] → s.msh.sleeping = false → s.meshMember = true → s.msh.air = none → f.hop ≠ 255 →
      exec .meshContention s = .next ((s.modMsh fun m => { m with queue := [], air := some f, tx := satInc 0xFFFFFFFF m.tx }).emit
        (s.meshOut f))) ∧
  -- MESH_ACK (R454)
  (∀ (f : MFrame) (s : State), s.msh.air = some f → exec (.meshAck f.hop f.seq) s = .next ((s.countTry f.hop true).modMsh fun m => { m with
      air := none })) ∧
  -- MESH_ACK_TIMEOUT (R454)
  (∀ (f : MFrame) (s : State), s.msh.air = some f → f.tries < 4 → exec .meshAckTimeout s = .next (((s.countTry f.hop false).modMsh fun m => { m with
      air := none }).modMsh fun m => { m with queue := { f with tries := f.tries + 1 } :: m.queue })) ∧
  -- MESH_ACK_TIMEOUT (R454)
  (∀ (f : MFrame) (s : State), s.msh.air = some f → 4 ≤ f.tries → f.src = s.chn.addr → exec .meshAckTimeout s =
      .next (((s.countTry f.hop false).modMsh fun m => { m with air := none }).modMsh fun m => { m with errAbandon := satInc 0xFFFF m.errAbandon })) ∧
  -- NBR_SEND (R455)
  (∀ (s : State), s.meshMember = true → exec .nbrSend s = .next (s.relist.meshSend 255 (.nbr s.relist.nbrList))) ∧
  -- TMAP_SEND (R452)
  (∀ (a : Nat) (n : MshNbr) (segs : Vector ToneSeg 16) (s : State), s.msh.nbr a = some n → s.meshMember = true →
      exec (.tmapSend a segs) s = .next ((idx 16).foldl (fun t i => t.meshSend a (.tmap ((n.rxGen + 1) % 16) i (ix segs i)))
        (s.modNbr a fun x => { x with rxGen := (n.rxGen + 1) % 16, rxSegs := segs.toList }))) ∧
  -- MESH_MAP_EXPIRY (R452)
  (∀ (a g : Nat) (n : MshNbr) (s : State), s.msh.nbr a = some n → n.gen = some g →
      exec (.meshMapExpiry a) s = .next ((s.modNbr a fun x => { x with gen := none, segs := [] }).mshRaise 3)) ∧
  -- MESH_DELAY_SEND (R457)
  (∀ (s : State), exec .meshDelaySend s = .next
      ((s.msh.nbrs.filter (·.listed)).foldl (fun t n => t.meshSend n.addr (.delay s.time.chain)) s)) ∧
  -- MSYNC_SEND (R457)
  (∀ (s : State), s.chainOn = true → s.chn.head = true → exec .msyncSend s = .next (s.meshSend 255 (.msync s.time.chain 0))) ∧
  -- MSYNC_LOST (R457)
  (∀ (t : Nat) (s : State), s.meshMember = true → s.chn.head = false → s.msh.msyncAt = some t →
      exec .msyncLost s = .next ((s.modMsh fun m => { m with msyncAt := none, meshTime := false }).mshRaise 1)) ∧
  -- SPL_ZC_EDGE (R447)
  (∀ (k : Fin 3) (t : Nat) (s : State), (ix s.msh.zc k = none ∨ ∃ p, ix s.msh.zc k = some p ∧ p + 15000000 ≤ t) →
      exec (.splZcEdge k t) s = .next (s.modMsh fun m => { m with
        zc := upd m.zc k fun _ => some t
        periods := match ix s.msh.zc k with
          | some p => if k = 0 then ((t - p) :: m.periods).take 64 else m.periods
          | none => m.periods
        first := if (t / 100000000) % 100 = 0 then upd m.first k fun f => if f.any (· / 100000000 == t / 100000000) then f else some t else m.first })) ∧
  -- SPL_ZC_ABSENT (R447)
  (∀ (k : Fin 3) (s : State), exec (.splZcAbsent k) s = .next (s.modMsh fun m => { m with
      zc := upd m.zc k fun _ => none, periods := if k = 0 then [] else m.periods })) ∧
  -- PHASE_SEND (R459)
  (∀ (s : State), s.meshMember = true → exec .phaseSend s = .next (((s.meshSend 255 (.phase s.phaseFrame)).holdPhase s.chn.addr s.phaseFrame
      s.chn.head).modMsh fun m => { m with first := Vector.replicate 3 none })) ∧
  -- PHASE_FRAME_TIMEOUT (R451)
  (∀ (a : Nat) (s : State), exec (.phaseFrameTimeout a) s = .next (s.modNbr a fun n => { n with uniform := true })) ∧
  -- COEX_MASK_CHANGE (R453)
  (∀ (s : State), s.maskDue ≠ s.msh.mask → exec .coexMaskChange s = .next ((s.modMsh fun m => { m with mask := s.maskDue }).mshRaise 2)) ∧
  -- GET_MESH_STATUS (R466)
  (∀ (r : Req) (s : State), exec (.getMeshStatus r) s = .next (s.answer r Code.done (s.mshStatus r.guest))) ∧
  -- GET_MESH_NEIGHBOURS (R466)
  (∀ (r : Req) (s : State), ∃ bytes, bytes.length = 16 * (s.msh.nbrs.filter (·.listed)).length ∧
      exec (.getMeshNeighbours r) s = .next (s.answerRing r (r.fld 3 2 0) bytes [w32 bytes.length])) ∧
  -- GET_TONE_MAP (R467)
  (∀ (r : Req) (n : MshNbr) (s : State), s.msh.nbr (r.fld 3 15 8) = some n → n.rxSegs ≠ [] →
      exec (.getToneMap r) s = .next (s.answerRing r (r.fld 3 2 0) (n.rxSegs.flatMap segBytes) [w32 (n.rxSegs.flatMap segBytes).length])) ∧
  -- GET_PHASE_MAP (R466)
  (∀ (r : Req) (s : State), ∃ bytes, bytes.length = 8 * s.phaseList.length ∧
      exec (.getPhaseMap r) s = .next (s.answerRing r (r.fld 3 2 0) bytes [w32 bytes.length])) ∧
  -- CLEAR_MESH_COUNTERS (R466)
  (∀ (r : Req) (s : State), r.fromSystem = true →
      exec (.clearMeshCounters r) s = .next ((s.modMsh fun m => { m with tx := 0, rx := 0, errCrc := 0, errAbandon := 0 }).answer r Code.done)) ∧
  -- MSH_EVENT_READ (R464)
  (∀ (path : Path) (g : Guest) (s : State), s.canRead path g = true → (s.violKind path g 0x0B9C false false) = none →
      exec (.mshEventRead path g) s = .next (((s.returnRead path g 0x0B9C (ix s.msh.ev g) []).modMsh
        fun x => { x with ev := clearOne x.ev g }).hostActive path))

/-- Cave capture and commands: where each row completes and what it leaves. -/
def Obligations.CaveRowsComplete : Prop :=
  -- CAVE_WINDOW_TRIGGER (R489)
  (∀ (q : Option Port) (k : Fin 4) (s : State), s.cfg.cave.trig / 2 ^ k.1 % 2 = 1 → exec (.caveWindowTrigger q k) s =
      .next (s.startWin (match q with
        | some p => p.1
        | none => 0xFF) k.1).1) ∧
  -- CAVE_WINDOW_END (R489)
  (∀ (num : Nat) (w : Win) (s : State), s.cave.open_.find? (·.num == num) = some w → w.last < s.legal.proc →
      exec (.caveWindowEnd num w.last) s = .next (s.closeWin w)) ∧
  -- CAVE_STREAM_SAMPLES (R485)
  (∀ (b : StreamBlock) (c : Nat) (s : State), s.cfg.cave.capture = true → s.cfg.cave.enable = true → s.legalVoid = false →
      (s.cave.state.usable = true ∨ s.cave.state = .fault) → let m0 := 336 * b.num
      8 * (m0 + 335) < s.legal.proc → s.notWritten = some c →
      exec (.caveStreamSamples b) s = .next (s.spans b.head [(8 * m0, 8 * (m0 + 335), c)] (8 * (m0 + 335)))) ∧
  -- CAVE_STREAM_SAMPLES (R485)
  (∀ (b : StreamBlock) (s : State), s.cfg.cave.capture = true → s.cfg.cave.enable = true → s.legalVoid = false →
      s.cave.state.usable = true → let m0 := 336 * b.num
      8 * (m0 + 335) < s.legal.proc → s.notWritten = none →
      let l := (List.range 336).map fun i => s.cave.streamAt b.head (m0 + i)
      let valid := l.map (·.isSome)
      let runs := causeRuns m0 (valid.map fun v => if !v then some 1 else if !s.headOk (portOf b.head) (roleOf b.head) then some 2 else none)
      exec (.caveStreamSamples b) s = .next (((s.modCave fun c => { c with queue := c.queue ++ [.block {
        head := b.head.1, num := b.num, first := 8 * m0, run := s.legal.run, gen := s.cave.gen, flags := s.blockFlags b.head valid,
        slot := (24 * (s.cave.p0 + b.num) + b.head.1) % max 1 s.cave.nslot, valid, data := sampleBytes l }] }).spans b.head
          (runs.map fun x => (8 * x.1, 8 * x.2.1, x.2.2)) (8 * (m0 + 335))).shed)) ∧
  -- CAVE_RECORD_TAKE (R490)
  (∀ (r : JRec) (s : State), s.cave.state = .ready → s.jnl.heldRecs = [r] → s.cave.legalSeq < r.seq → s.cave.legalTop < r.seq →
      s.cave.legalPart + r.toCave.size ≤ mib →
      exec .caveRecordTake s = .next ((s.modCave fun c => { c with queue := c.queue ++ [.legal r.toCave] }).shed)) ∧
  -- CAVE_RECORD_TAKE (R490)
  (∀ (r : CaveRec) (rest : List CaveRec) (s : State), s.cave.state = .ready → s.jnl.heldRecs = [] → s.cave.offered = r :: rest →
      s.cave.otherPart + r.size ≤ mib →
      exec .caveRecordTake s = .next ((s.modCave fun c => { c with offered := rest, queue := c.queue ++ [.other r] }).shed)) ∧
  -- NVME_WRITE_COMPLETE (R490)
  (∀ (r : CaveRec) (rest : List QItem) (s : State), s.cave.state.usable = true → s.cave.queue = .other r :: rest →
      exec .nvmeWriteComplete s = .next (((s.modCave fun c => { c with queue := rest, resetFails := 0 }).storeRec r).shed)) ∧
  -- NVME_WRITE_COMPLETE (R490)
  (∀ (r : CaveRec) (rest : List QItem) (s : State), s.cave.state.usable = true → s.cave.queue = .legal r :: rest →
      exec .nvmeWriteComplete s = .next (let t := (s.modCave fun c => { c with queue := rest, resetFails := 0 }).storeRec r
        (if t.cave.state = .ready then t.emit (.caveConfirm r.legalSeq) else t).shed)) ∧
  -- NVME_WRITE_COMPLETE (R490)
  (∀ (b : Blk336) (rest : List QItem) (s : State), s.cave.state.usable = true → s.cave.queue = .block b :: rest → b.window = false →
      exec .nvmeWriteComplete s = .next (let wins := keepWindows s.cave.winBytes s.cave.windows
        (s.modCave fun c => { c with
          queue := rest, resetFails := 0, windows := wins, pos := max c.pos (c.p0 + b.num)
          blocks := ((c.blocks.filter fun x => x.window || x.slot != b.slot).filter fun x =>
            !x.window || (wins ++ c.open_).any fun w => w.num == x.num) ++ [b] }).shed)) ∧
  -- GET_JOURNAL_STATUS (R497)
  (∀ (r : Req) (s : State), exec (.getJournalStatus r) s = .next (s.answer r Code.done (s.jnlBlock r.guest))) ∧
  -- GET_CAVE_STATUS (R497)
  (∀ (r : Req) (s : State), exec (.getCaveStatus r) s = .next (s.answer r Code.done (s.caveBlock ++ [ix s.cave.ev r.guest]))) ∧
  -- FIND_CAVE_RECORD (R484)
  (∀ (r : Req) (k : Nat) (s : State), s.cave.state.usable = true → r.fld 3 3 0 = k → (k = 1 ∨ k = 2 ∨ k = 3 ∨ k = 8 ∨ k = 13) →
      0 < r.fld 7 7 0 → exec (.findCaveRecord r) s = .next (
        let key := (r.word 4).toNat + 2 ^ 32 * (r.word 5).toNat
        let hit (x : CaveRec) : Bool := x.kind == k && decide (key ≤ x.key) && (x.source == r.portField || k == 13)
        let l := ((s.cave.chunkRecs (s.cave.chunkFor k r.portField key hit)).filter hit).take (r.fld 7 7 0)
        s.answerRing r (r.fld 3 10 8) (l.flatMap (·.bytes)) [pack [(7, 0, l.length), (31, 8, (l.flatMap (·.bytes)).length)]])) ∧
  -- FIND_CAVE_RECORD (R484)
  (∀ (r : Req) (s : State), s.cave.state.usable = true → r.fld 3 3 0 = 11 → r.fld 3 20 16 < 24 → 0 < r.fld 7 7 0 →
      exec (.findCaveRecord r) s = .next (
        let key := (r.word 4).toNat + 2 ^ 32 * (r.word 5).toNat
        let hit (x : CaveRec) : Bool := x.kind == 11 && decide (key ≤ x.key) && (x.head == r.fld 3 20 16 && x.run == (r.word 6).toNat)
        let l := ((s.cave.chunkRecs (s.cave.chunkFor 11 r.portField key hit)).filter hit).take (r.fld 7 7 0)
        s.answerRing r (r.fld 3 10 8) (l.flatMap (·.bytes)) [pack [(7, 0, l.length), (31, 8, (l.flatMap (·.bytes)).length)]])) ∧
  -- READ_WAVEFORM (R487)
  (∀ (r : Req) (s : State), s.cave.state.usable = true → 1 ≤ r.fld 7 10 0 → r.fld 7 10 0 ≤ 1024 →
      (r.bit 3 1 = true ∨ r.bit 3 2 = true ∨ r.bit 3 3 = true) → ∃ bytes n miss,
        exec (.readWaveform r) s = .next (s.answerRing r (r.fld 3 10 8) bytes [pack [(15, 0, n)], pack [(15, 0, miss)]])) ∧
  -- READ_CAVE_RAW (R497)
  (∀ (r : Req) (s : State), r.fromSystem = true → s.cave.state.usable = true →
      let off := (r.word 4).toNat + 2 ^ 32 * (r.word 5).toNat
      off % 4096 = 0 → 1 ≤ r.fld 6 12 0 → r.fld 6 12 0 ≤ 4096 → off + 4096 * r.fld 6 12 0 ≤ s.cave.capacity →
      exec (.readCaveRaw r) s = .next (s.useFree.answerRing r (r.fld 3 2 0)
        ((List.range (4096 * r.fld 6 12 0)).map fun i => s.caveByte (off + i)) [])) ∧
  -- FORMAT_CAVE (R498)
  (∀ (r : Req) (s : State), r.fromSystem = true → r.word 3 = 0xCA7E → s.cave.state = .blank →
      exec (.formatCave r) s = .next (let s1 := s.modCave fun c => { c with
          gen := c.gen + 1, recs := [], index := [], recUsed := 0, nextSeq := 0, legalSeq := 0, blocks := [], windows := [], window := 0, winPos := 0
          open_ := [], offered := [], queue := [], saved := 0, pos := 0, updates := 0
          drive := c.drive.map fun d => { d with format := .own } }
        ((if s1.legalRun then s1.runRecord else s1).setCave .ready).shed.answer r Code.done)) ∧
  -- FORMAT_CAVE (R498)
  (∀ (r : Req) (s : State), r.fromSystem = true → r.word 3 = 0xCA7E → (s.cave.state = .ready ∨ s.cave.state = .full ∨ s.cave.state = .foreign) →
      r.bit 4 0 = true → s.inService = true →
      exec (.formatCave r) s = .next (let s1 := s.modCave fun c => { c with
          gen := c.gen + 1, recs := [], index := [], recUsed := 0, nextSeq := 0, legalSeq := 0, blocks := [], windows := [], window := 0, winPos := 0
          open_ := [], offered := [], queue := [], saved := 0, pos := 0, updates := 0
          drive := c.drive.map fun d => { d with format := .own } }
        ((if s1.legalRun then s1.runRecord else s1).setCave .ready).shed.answer r Code.done)) ∧
  -- MARK_WINDOW (R489)
  (∀ (r : Req) (n : Nat) (s : State), r.namesPort = true → (s.startWin r.port.1 4).2 = some n →
      exec (.markWindow r) s = .next ((s.startWin r.port.1 4).1.answer r Code.done [w32 n]))

/-- Journals and the drive: where each row completes and what it leaves. -/
def Obligations.DriveRowsComplete : Prop :=
  -- CAVE_FLUSH (R490)
  (∀ (s : State), s.cave.state.usable = true → exec .caveFlush s = .next (s.emit (.nvme 0))) ∧
  -- SUPERBLOCK_WRITE (R482)
  (∀ (s : State), s.cave.state.usable = true → exec .superblockWrite s = .next ((s.modCave fun c => { c with
      updates := c.updates + 1, saved := max c.saved c.pos }).emit (.nvme 1))) ∧
  -- NVME_TIMEOUT (R492)
  (∀ (s : State), s.cave.state.usable = true → exec .nvmeTimeout s = .next (let t := ((s.modCave fun c => { c with
        resets := satInc 255 c.resets, resetFails := c.resetFails + 1 }).caveRaise 0x80).emit (.nvme 2)
      if 3 ≤ t.cave.resetFails then t.caveFault else t)) ∧
  -- NVME_CONTROLLER_FATAL (R492)
  (∀ (s : State), exec .nvmeControllerFatal s = .next s.caveFault) ∧
  -- STOR_LINK_DOWN (R492)
  (∀ (s : State), exec .storLinkDown s = .next s.caveFault) ∧
  -- CAVE_FAULT_RETRY (R492)
  (∀ (ok : Bool) (s : State), s.cave.state = .fault → exec (.caveFaultRetry ok) s = .next
      (let t := ((s.modCave fun c => { c with resets := satInc 255 c.resets }).caveRaise 0x80).emit (.nvme 2)
        if ok then (t.each (n := 24) fun h u => match ix u.cave.absent h with
          | some (_, _, 6) => u.endAbsence h
          | _ => u).setCave t.cave.backState else t)) ∧
  -- DRIVE_WARNING (R495)
  (∀ (temp used : Nat) (w : Bool) (d : Drive) (s : State), s.cave.drive = some d → exec (.driveWarning temp used w) s =
      .next (let t := s.modCave fun c => { c with drive := some { d with temp, used, warning := w } }
        if w then t.caveRaise 0x40 else t)) ∧
  -- CAVE_INIT_DONE (R493)
  (∀ (s : State), s.cave.state = .init → s.cfg.cave.enable = false → exec (.caveInitDone none) s = .next (s.setCave .disabled)) ∧
  -- CAVE_INIT_DONE (R493)
  (∀ (s : State), s.cave.state = .init → s.cfg.cave.enable = true →
      exec (.caveInitDone none) s = .next ((s.modCave fun c => { c with drive := none }).setCave .absent)) ∧
  -- CAVE_INIT_DONE (R493)
  (∀ (d : DriveInfo) (s : State), s.cave.state = .init → s.cfg.cave.enable = true → d.format = 1 →
      let t := s.modCave fun c => { c with drive := some { size := d.size, format := .own } }
      128 * 1024 * mib ≤ t.cave.capacity → exec (.caveInitDone (some d)) s =
        .next (((if t.legalRun then t.runRecord else t).resetSpans).setCave t.cave.readyState)) ∧
  -- CAVE_CONFIRM (R477)
  (∀ (seq : Nat) (s : State), exec (.caveConfirm seq) s = .next (s.modJnl fun j => { j with
      confirmed := max j.confirmed (min seq j.legal.seq) }).holdLevel) ∧
  -- CAVE_ACK_WRITE (R477)
  (∀ (s : State), s.legalRun = true → exec .caveAckWrite s = .next s.writeAck) ∧
  -- RIPENING_COMPLETE (R474)
  (∀ (x : List JRec × Nat) (s : State), s.jnl.legal.run = some x →
      exec (.ripeningComplete true) s = .next ((s.modJnl fun j => { j with legal := j.legal.complete }).jnlRaise 1)) ∧
  -- RIPENING_COMPLETE (R474)
  (∀ (x : List JRec × Nat) (s : State), s.jnl.conf.run = some x →
      exec (.ripeningComplete false) s = .next ((s.modJnl fun j => { j with conf := j.conf.complete }).jnlRaise 2)) ∧
  -- HALF_ZEROED (R474)
  (∀ (s : State), exec (.halfZeroed true) s = .next (let t := s.modJnl fun j => { j with legal := { j.legal with standbyClean := true } }
      if legalRipe ≤ t.jnl.legal.used ∨ t.jnl.legal.deferred = true then t.ripenLegal else t)) ∧
  -- HALF_ZEROED (R474)
  (∀ (s : State), exec (.halfZeroed false) s = .next (let t := s.modJnl fun j => { j with conf := { j.conf with standbyClean := true } }
      if confRipe ≤ t.jnl.conf.used ∨ t.jnl.conf.deferred = true then t.ripenConf else t)) ∧
  -- JNL_EVENT_READ (R495)
  (∀ (path : Path) (g : Guest) (s : State), s.canRead path g = true → (s.violKind path g 0x0BB8 false false) = none →
      exec (.jnlEventRead path g) s = .next (((s.returnRead path g 0x0BB8 (ix s.jnl.ev g) []).modJnl
        fun x => { x with ev := clearOne x.ev g }).hostActive path)) ∧
  -- CAV_EVENT_READ (R495)
  (∀ (path : Path) (g : Guest) (s : State), s.canRead path g = true → (s.violKind path g 0x0BFC false false) = none →
      exec (.cavEventRead path g) s = .next (((s.returnRead path g 0x0BFC (ix s.cave.ev g) []).modCave
        fun x => { x with ev := clearOne x.ev g }).hostActive path))

/-- Tamper and the device’s life: where each row completes and what it leaves. -/
def Obligations.DeviceRowsComplete : Prop :=
  -- TAMPER_EVENT (R503)
  (∀ (k : Fin 5) (s : State), s.rind.armed = true → s.retired = false → s.rind.rootPresent = true → s.sys.power ≠ .dormant → exec (.tamperEvent k) s = .next
      (((s.modRind fun r => { r with
        tamper := upd r.tamper ⟨k.1, by omega⟩ (satInc 0xFFFF), lastCause := k.1 + 1, alarm := upd r.alarm k fun _ => true }).auditRind 2
          (k.1 + 1)).zeroise)) ∧
  -- TAMPER_EVENT (R503)
  (∀ (k : Fin 5) (s : State), s.rind.armed = true → s.retired = false → s.rind.rootPresent = true → s.sys.power = .dormant → exec (.tamperEvent k) s = .next
      (((s.modRind fun r => { r with
        tamper := upd r.tamper ⟨k.1, by omega⟩ (satInc 0xFFFF), lastCause := k.1 + 1, alarm := upd r.alarm k fun _ => true }).auditRind 2
          (k.1 + 1)).rootLost)) ∧
  -- TAMPER_SENSOR_SAMPLE (R502)
  (∀ (mesh light temp lid : Bool) (s : State), s.rind.armed = true → exec (.tamperSensorSample mesh light temp lid) s = .next
      ((((s.modRind fun r => { r with alarm := upd (upd r.alarm 4 fun _ => false) 1 fun a => a && lid }).tamperSample 0 mesh).tamperSample 2
        light).tamperSample 3 temp)) ∧
  -- BATTERY_LOSS (R504)
  (∀ (s : State), s.sys.power = .dormant → s.rind.shipCopy = false → exec .batteryLoss s = .next (s.modRind fun r => { r with
      rootPresent := false, renewed := false, certified := false, rtcUs := 0, rtcLost := true, batteryLost := true })) ∧
  -- VBAT_LOW (R500)
  (∀ (s : State), exec .vbatLow s = .next ((s.modRind fun r => { r with batLow := true }).keyRaise 4)) ∧
  -- VBAT_RESTORED (R592)
  (∀ (s : State), exec .vbatRestored s = .next (s.modRind fun r => { r with batLow := false })) ∧
  -- RTC_ALARM_EXPIRY (R506)
  (∀ (s : State), s.rind.alarmS ≠ 0 → s.rind.alarmS ≤ s.rind.rtc / 32768 → exec .rtcAlarmExpiry s = .next ((s.keyRaise 8).wakeEvent 5)) ∧
  -- PROVISIONING (R507)
  (∀ (s : State), s.rind.lifecycle = 0 → exec .provisioning s = .next ((((((s.modRind fun r => { r with
      lifecycle := 1, rootPresent := true, root := s.free, certified := true, armed := true, rtcUs := 0, rtcLost := false }).useFree).modKeys
        fun k => { k with slots := factorySlots }).auditRind 3 1)).keyRaise 2)) ∧
  -- FINAL_TEST (R507)
  (∀ (s : State), s.rind.lifecycle = 1 → s.rind.loopOpen = false → exec .finalTest s = .next (((s.modRind fun r => { r with
      lifecycle := 2, sealCount := 0, shipCopy := r.rootPresent, rootPresent := false, armed := r.armed && !r.rootPresent }).auditRind 3 2).keyRaise 2)) ∧
  -- KEY_SESSION_IDLE_EXPIRY (R515)
  (∀ (g : Guest) (h : Fin 8) (x : KSes) (s : State), s.keySes g h = some x → exec (.keySessionIdleExpiry g h) s = .next
      ((s.setKeySes g h none).modKeys fun k => { k with ev := upd k.ev g (· ||| 0x10) })) ∧
  -- VAULT_FIXED_TIME (R516)
  (∀ (g : Guest) (o : VaultOp) (s : State), s.keys.ops.find? (·.req.guest == g) = some o → o.toRing = false →
      exec (.vaultFixedTime g) s = .next (((s.modKeys fun k => { k with ops := k.ops.erase o }).answer o.req o.code o.words).auditCmd o.req o.slot
        o.code o.reason)) ∧
  -- VAULT_FIXED_TIME (R516)
  (∀ (g : Guest) (o : VaultOp) (s : State), s.keys.ops.find? (·.req.guest == g) = some o → o.toRing = true →
      exec (.vaultFixedTime g) s = .next (((s.modKeys fun k => { k with ops := k.ops.erase o }).answerRing o.req o.ring o.data o.words).auditCmd
        o.req o.slot (if (s.withRing o.req o.ring).ringOk && decide (o.data.length ≤ (s.withRing o.req o.ring).ringRoom) then Code.done
          else Code.shortBuffer) 0)) ∧
  -- GET_KEY_STATUS (R523)
  (∀ (r : Req) (s : State), exec (.getKeyStatus r) s = .next (s.answer r Code.done (s.keyBlock r.guest ++ [ix s.keys.ev r.guest]))) ∧
  -- GET_AUDIT_LOG (R518)
  (∀ (r : Req) (s : State), (s.rightsOf r).audit = true → s.inService = true → 1 ≤ r.fld 3 18 8 → r.fld 3 18 8 ≤ 1024 →
      exec (.getAuditLog r) s = .next (
        let all := s.keys.log ++ s.keys.rindLog.filter fun a => !s.keys.log.contains a
        s.answerRing r (r.fld 3 2 0) ((all.take (r.fld 3 18 8)).flatMap (·.bytes))
          [pack [(15, 0, ((all.take (r.fld 3 18 8)).flatMap (·.bytes)).length)]])) ∧
  -- SET_RTC_ALARM (R506)
  (∀ (r : Req) (s : State), r.fromSystem = true →
      exec (.setRtcAlarm r) s = .next ((s.modRind fun x => { x with alarmS := (r.word 3).toNat }).answer r Code.done)) ∧
  -- RENEW_ROOT (R520)
  (∀ (r : Req) (s : State), r.fromSystem = true → s.rind.rootPresent = false → s.inService = true → (∀ a ∈ s.rind.alarm.toList, a = false) →
      r.word 3 = 0x5EED → exec (.renewRoot r) s = .next (
        let s1 := (s.modRind fun x => { x with
          rootPresent := true, renewed := true, root := s.free, rootGen := x.rootGen + 1, certified := false
          rtcUs := 0, rtcLost := false, armed := true }).useFree
        ((s1.auditRind 4 (min 255 s1.rind.rootGen)).answer r Code.done).auditCmd r 0xFF Code.done 0)) ∧
  -- RETIRE_DEVICE (R507)
  (∀ (r : Req) (s : State), (s.rightsOf r).audit = true → s.inService = true → (∀ p, s.sesIsOpen p = false) → r.word 3 = 0x8128DEAD →
      exec (.retireDevice r) s = .next (
        let s1 := s.modRind fun x => { x with
          lifecycle := 4, rootPresent := false, renewed := false, certified := false, armed := false, lastCause := 7 }
        let s2 := (s1.clearVault.modKeys fun k => { k with slots := [], rindLog := [] }).dropTls
        (((s2.keyRaise 3).voidLegal.tagZeroise.auditRind 3 4).answer r Code.done).auditCmd r 0xFF Code.done 0))

/-- Key vault: where each command completes and what it leaves. -/
def Obligations.VaultCommandsComplete : Prop :=
  -- GET_SLOT_INFO (R523)
  (∀ (r : Req) (k : Slot) (s : State), s.vaultDown = none → s.slotAt (r.fld 3 7 0) = some k → (r.fromSystem = true ∨ k.attrA.bit r.guest.1 = true) →
      exec (.getSlotInfo r) s = .next (s.vaultDone r (r.fld 3 7 0) [k.attrA, k.attrB])) ∧
  -- GET_PUBLIC_KEY (R523)
  (∀ (r : Req) (k : Slot) (s : State), s.slotFor r.guest (r.fld 3 7 0) none = .ok k → isEc k.alg = true →
      exec (.getPublicKey r) s = .next (s.vaultRing r (r.fld 3 7 0) (r.fld 3 10 8) k.public [pack [(15, 0, k.public.length)]])) ∧
  -- GET_ATTESTATION (R519)
  (∀ (r : Req) (s : State), s.vaultDown = none → exec (.getAttestation r) s = .next (s.vaultRing r 0 (r.fld 3 2 0)
      (s.attestation (r.bytes 4 16) ++ Config.deviceCert)
      [pack [(15, 0, (s.attestation (r.bytes 4 16)).length), (31, 16, Config.deviceCert.length)]])) ∧
  -- GENERATE_KEY (R514)
  (∀ (r : Req) (s : State), let n := r.fld 3 7 0
      s.vaultDown = none → 16 ≤ n → n ≤ 255 → mayCreate r.guest (r.word 4) (r.word 5) = true → s.slotAt n = none →
      [1, 2, 3, 5, 6, 7, 8].contains ((r.word 5).fld 3 0) = true → (r.word 5).bit 20 = false →
      exec (.generateKey r) s = .next ((s.putSlot n {
        attrA := newAttrA (r.word 4), attrB := newAttrB (r.word 5) 2, key := Config.freeNat s.free, rm := leNat s.rmService }).useFree.vaultDone r n [])) ∧
  -- IMPORT_KEY (R514)
  (∀ (r : Req) (s : State), let n := r.fld 3 7 0
      let q := s.withRing r (r.fld 3 18 16)
      q.ringOk = true → q.ringIn.length ≤ 256 → s.vaultDown = none → 16 ≤ n → mayCreate r.guest (r.word 4) (r.word 5) = true → s.slotAt n = none →
      r.fld 3 15 8 = 0xFF → (r.word 5).bit 20 = true → isEc ((r.word 5).fld 3 0) = true →
      exec (.importKey r) s = .next (((s.useRing q (r.fld 3 18 16) Code.done).putSlot n {
        attrA := newAttrA (r.word 4), attrB := newAttrB (r.word 5) 3, key := leNat q.ringIn, pub := q.ringIn, rm := leNat s.rmService }).vaultDone
          r n [])) ∧
  -- EXPORT_KEY (R523)
  (∀ (r : Req) (k w : Slot) (s : State), r.fld 3 15 8 ≠ 0xFF → s.slotFor r.guest (r.fld 3 7 0) none = .ok k → k.attrB.bit 18 = true →
      s.slotFor r.guest (r.fld 3 15 8) (some 3) = .ok w → exec (.exportKey r) s = .next (
        let blob := keyBlob w.key (leBytes 12 (Config.freeNat s.free)) (s.blobAad k.attrA k.attrB) (beBytes (keyLen k.alg) k.key)
        s.useFree.vaultRing r (r.fld 3 7 0) (r.fld 3 18 16) blob [pack [(15, 0, blob.length)]])) ∧
  -- DELETE_KEY (R514)
  (∀ (r : Req) (k : Slot) (s : State), s.vaultDown = none → s.slotAt (r.fld 3 7 0) = some k → 16 ≤ r.fld 3 7 0 →
      (r.fromSystem = true ∨ k.attrA.bit r.guest.1 = true) →
      exec (.deleteKey r) s = .next ((s.dropSlot (r.fld 3 7 0)).vaultDone r (r.fld 3 7 0) [])) ∧
  -- SIGN_DIGEST (R523)
  (∀ (r : Req) (k : Slot) (s : State), r.bit 3 8 = false → s.slotFor r.guest (r.fld 3 7 0) (some 0) = .ok k → k.alg = 1 →
      exec (.signDigest r) s = .next (s.vaultRing r (r.fld 3 7 0) (r.fld 3 14 12) (padTo 64 (Config.sign k.key ((r.bytes 4 48).take 32)))
        [pack [(15, 0, 64)]])) ∧
  -- VERIFY_SIGNATURE (R523)
  (∀ (r : Req) (k : Slot) (s : State), let q := s.withRing r (r.fld 3 10 8)
      q.ringOk = true → s.slotFor r.guest (r.fld 3 7 0) (some 1) = .ok k →
      exec (.verifySignature r) s = .next ((s.useRing q (r.fld 3 10 8) Code.done).vaultDone r (r.fld 3 7 0)
        [pack [(0, 0, b1 (Config.verify (if isEc k.alg then k.verifyKey else k.key) (q.ringIn.take 48) (q.ringIn.drop 48)))]])) ∧
  -- OPEN_KEY_SESSION (R515)
  (∀ (r : Req) (k : Slot) (h : Fin 8) (s : State), s.slotFor r.guest (r.fld 3 7 0) (some 2) = .ok k → (r.fld 3 11 8 = 6 ∨ r.fld 3 11 8 = 7) →
      r.fld 4 5 0 ≤ 32 → (idx 8).find? (fun i => (s.keySes r.guest i).isNone) = some h →
      exec (.openKeySession r) s = .next (
        let key := Config.hkdf k.key s.rmService (ascii "CRARUS-SES" ++ leBytes 1 r.guest.1 ++ (r.bytes 5 32).take (r.fld 4 5 0))
          (keyLen (r.fld 3 11 8))
        (s.setKeySes r.guest h (some { alg := r.fld 3 11 8, uses := r.fld 3 13 12, key })).vaultDone r (r.fld 3 7 0) [w32 h.1])) ∧
  -- CLOSE_KEY_SESSION (R515)
  (∀ (r : Req) (x : KSes) (s : State), let h : Fin 8 := ⟨r.fld 3 2 0 % 8, by omega⟩
      s.vaultDown = none → s.keySes r.guest h = some x → exec (.closeKeySession r) s = .next ((s.setKeySes r.guest h none).vaultDone r 0xFF [])) ∧
  -- KEY_EVENT_READ (R521)
  (∀ (path : Path) (g : Guest) (s : State), s.canRead path g = true → (s.violKind path g 0x0D80 false false) = none →
      exec (.keyEventRead path g) s = .next (((s.returnRead path g 0x0D80 (ix s.keys.ev g) []).modKeys
        fun x => { x with ev := clearOne x.ev g }).hostActive path))

/-- Firmware update: where each row completes and what it leaves. -/
def Obligations.UpdateRowsComplete : Prop :=
  -- BEGIN_STAGING (R531)
  (∀ (r : Req) (s : State), r.fromSystem = true → r.fld 3 1 0 = 0 → r.fld 3 5 4 = 0 → (s.rightsOf r).staging = true →
      s.stgBlocked (classOf 0) = none →
      exec (.beginStaging r) s = .next (((s.stgBegin (classOf 0) 0 r.guest (r.fld 3 10 8) (some r) 0)).accept r)) ∧
  -- ABORT_STAGING (R535)
  (∀ (r : Req) (s : State), r.fld 3 1 0 ≠ 3 → (s.stg (classOf (r.fld 3 1 0))).running = true →
      (r.fromSystem = true ∨ r.guest = (s.stg (classOf (r.fld 3 1 0))).owner) →
      exec (.abortStaging r) s = .next ((s.stgCancel (classOf (r.fld 3 1 0))).answer r Code.done)) ∧
  -- STAGING_WINDOW_WRITE (R532)
  (∀ (g : Guest) (c : Fin 3) (bytes : List Byte) (s : State), s.canWrite .pcie g = true → (s.gcfg g).staging = true → s.windowClass g = some c →
      exec (.stagingWindowWrite g (0x8000 + (s.stg c).pos % 32768) bytes) s = .next ((s.stgFeed c bytes).hostActive .pcie)) ∧
  -- STAGING_WINDOW_WRITE (R532)
  (∀ (g : Guest) (off : Nat) (bytes : List Byte) (s : State), inStaging off = true → s.canWrite .pcie g = true → (s.gcfg g).staging = false →
      exec (.stagingWindowWrite g off bytes) s = .next ((s.badAccess .pcie g off true 0xF false).hostActive .pcie) ∧
      s.violKind .pcie g off true false = some 4) ∧
  -- STAGING_RING_READ (R531)
  (∀ (c : Fin 3) (q : Req) (bytes : List Byte) (d : Desc) (s : State),
      let g := s.stg c
      let part := bytes.take (d.data.length - g.got)
      let r := s.withRing { q with descs := [{ d with data := d.data.take (g.got + part.length) }] } g.ring
      let t := (s.stgFeed c part).modStg c fun x => { x with got := g.got + part.length }
      g.cmd = some q → g.source = 1 → g.state = .header → g.lastRead = false → r.descs ≠ [] → d.own = true → d.toHost = false →
      (t.stg c).state ≠ .refused →
      exec (.stagingRingRead c bytes d) s = .next
        (if d.data.length ≤ g.got + part.length ∨ (t.stg c).state = .checking then
          (t.modStg c fun y => { y with got := 0, lastRead := d.last }).useRing r g.ring Code.done
        else t)) ∧
  -- STAGING_TIMEOUT (R532)
  (∀ (c : Fin 3) (s : State), (s.stg c).state = .header → exec (.stagingTimeout c) s = .next (s.stgEnd c .failed Code.timeout 0 0)) ∧
  -- STAGING_BODY_COMPLETE (R530)
  (∀ (ok : Bool) (s : State), (s.stg 0).state = .checking → s.sys.romRecovery = false → exec (.stagingBodyComplete 0 ok) s =
      .next (if Config.sha384 (s.stg 0).body ≠ beNat (((s.stg 0).hdr.drop 44).take 48) then s.stgEnd 0 .failed Code.fault 11 0
        else if ok = false then s.stgEnd 0 .failed Code.fault 13 0
        else ((s.modIdleBank 0 fun _ => {
          valid := true, header := (s.stg 0).hdr, digest := hdrTag (s.stg 0).hdr, rollback := hdrLe (s.stg 0).hdr 12 2
          version := hdrLe (s.stg 0).hdr 24 4, body := (s.stg 0).body }).stgEnd 0 .valid Code.done 0 (tagBytes (hdrTag (s.stg 0).hdr))).updRaise 1)) ∧
  -- GET_UPDATE_STATUS (R549)
  (∀ (r : Req) (s : State), exec (.getUpdateStatus r) s = .next (s.answer r Code.done (s.updBlock r.guest))) ∧
  -- SCHEDULE_ACTIVATION (R536)
  (∀ (r : Req) (s : State), let b := s.otherBank (classOf 0)
      r.fromSystem = true → r.fld 3 1 0 = 0 → r.bit 3 4 = true → b.valid = true → tagBytes b.digest = r.word 4 →
      s.act.state = .none → s.fenced = false → (s.chainOn = true → s.chn.addr ≠ 0) →
      exec (.scheduleActivation r) s = .next (let s1 := (s.openProposal 0 s.chn.addr b.digest (some r)).accept r
        s1.originate (if s.chn.head then 255 else s.chn.headAddr) (.actPropose (s1.act.item (s.epochNow + 1))))) ∧
  -- CANCEL_ACTIVATION (R550)
  (∀ (r : Req) (s : State), r.fromSystem = true → s.act.state = .proposed →
      exec (.cancelActivation r) s = .next ((s.withdraw Code.cancelled).answer r Code.done)) ∧
  -- ACTIVATION_WAIT_TIMEOUT (R536)
  (∀ (s : State), s.isHead = true → exec .activationWaitTimeout s = .next (s.withdraw Code.timeout)) ∧
  -- ACTIVATION_TIME (R537)
  (∀ (s : State), s.act.state = .committed → s.act.pendingStart = false → s.fenced = false → s.act.cls = 0 →
      exec (.activationTime true) s = .next (s.modAct fun x => { x with state := .swapping })) ∧
  -- ACTIVATION_TIME (R537)
  (∀ (s : State), s.act.state = .committed → s.act.pendingStart = false → s.fenced = false → s.act.cls = 1 → s.inService = true → s.saving = false →
      exec (.activationTime true) s = .next s.swapLegal.activated) ∧
  -- ACTIVATION_TIME (R537)
  (∀ (s : State), s.act.state = .committed → s.act.pendingStart = false → s.fenced = false → s.act.cls = 2 → s.saf.state ≠ .tableFail →
      exec (.activationTime true) s = .next (((s.modAct fun x => { x with state := .swapping }).switchBank 2).siteTo .init)) ∧
  -- SERVICE_SWAP_DONE (R538)
  (∀ (s : State), s.act.state = .swapping → s.act.cls = 0 → exec .serviceSwapDone s = .next (let t := s.switchBank 0
      (t.modKeys fun k => { k with measured := upd k.measured 0 fun _ => rennet 0 (t.activeBank 0).digest }).activated)) ∧
  -- TRIAL_PASSED (R542)
  (∀ (s : State), s.sys.romRecovery = false → exec .trialPassed s = .next (s.passTrial 0)) ∧
  -- UPD_EVENT_READ (R547)
  (∀ (path : Path) (g : Guest) (s : State), s.canRead path g = true → (s.violKind path g 0x0DC0 false false) = none →
      exec (.updEventRead path g) s = .next (((s.returnRead path g 0x0DC0 (ix s.fw.ev g) []).modFw
        fun x => { x with ev := clearOne x.ev g }).hostActive path))

/-- Reader and tag: where each row completes and what it leaves. -/
def Obligations.ContactlessRowsComplete : Prop :=
  -- NFC_POLL (R554)
  (∀ (cards : List CardInfo) (s : State), s.cfg.nfc.reader = true → s.nfc.card = none →
      s.sys.power = .run → s.sys.reached 7 = true → s.sys.romRecovery = false →
      exec (.nfcPoll true cards) s = .next ((s.modNfc fun n => { n with paused := true, seen := true }).nfcRaise 0x40)) ∧
  -- NFC_POLL (R554)
  (∀ (s : State), s.cfg.nfc.reader = true → s.nfc.card = none →
      s.sys.power = .run → s.sys.reached 7 = true → s.sys.romRecovery = false →
      exec (.nfcPoll false []) s = .next (s.modNfc fun n => { n with paused := false, seen := false, multiple := false })) ∧
  -- NFC_POLL (R554)
  (∀ (k : CardInfo) (s : State), s.cfg.nfc.reader = true → s.nfc.card = none → s.nfc.released = none →
      s.sys.power = .run → s.sys.reached 7 = true → s.sys.romRecovery = false →
      exec (.nfcPoll false [k]) s = .next (((s.modNfc fun n => { n with paused := false, seen := false, multiple := false }).modNfc fun n => { n with
        card := some k }).nfcRaise 1)) ∧
  -- NFC_PRESENCE_CHECK (R555)
  (∀ (k : CardInfo) (s : State), s.nfc.card = some k → exec (.nfcPresenceCheck false) s = .next (
      let t := (s.modNfc fun n => { n with card := none }).nfcRaise 2
      if s.nfc.ext then t.tagPower else t)) ∧
  -- NFC_PRESENCE_CHECK (R555)
  (∀ (s : State), exec (.nfcPresenceCheck true) s = .next s) ∧
  -- NFC_HOLD_TIMEOUT (R555)
  (∀ (s : State), exec .nfcHoldTimeout s = .next s.releaseHeld) ∧
  -- TRANSCEIVE_APDU (R578)
  (∀ (r : Req) (k : CardInfo) (b : List Byte) (s : State), let q := s.withRing r (r.fld 3 2 0)
      s.readerOwner r = true → s.nfc.card = some k → k.isoDep = true → q.ringOk = true → 4 ≤ q.ringIn.length →
      exec (.transceiveApdu r (.answer b)) s = .next ((s.emit (.apdu q.ringIn)).answerRing r (r.fld 3 2 0) b [w32 b.length])) ∧
  -- RELEASE_CARD (R555)
  (∀ (r : Req) (k : CardInfo) (s : State), s.readerOwner r = true → s.nfc.card = some k →
      exec (.releaseCard r) s = .next (s.releaseHeld.answer r Code.done)) ∧
  -- GET_NFC_STATUS (R577)
  (∀ (r : Req) (s : State), exec (.getNfcStatus r) s = .next (s.answer r Code.done (s.nfcBlock r.guest))) ∧
  -- SET_TAG_PUBLIC (R578)
  (∀ (r : Req) (s : State), r.fromSystem = true → exec (.setTagPublic r) s = .next ((s.modTag fun t => { t with
      text := r.bytes 3 48, page0 := vmap (fun l => l.take 8 ++ r.bytes 3 48 ++ l.drop 56) t.page0 }).answer r Code.done)) ∧
  -- SET_TAG_SECRETS (R578)
  (∀ (r : Req) (s : State), r.fromSystem = true → s.inService = true → r.bit 3 0 = true → 6 ≤ r.fld 3 12 8 → r.fld 3 12 8 ≤ 16 → r.bit 3 1 = false →
      exec (.setTagSecrets r) s = .next (let salt := (List.range 16).map fun i => Config.freeByte (s.free + i)
        ((s.modFree (· + 16)).modTag fun t => { t with salt, pwDigest := some (pwHash salt (r.bytes 4 (r.fld 3 12 8))) }).answer r Code.done)) ∧
  -- RESET_TAG_LOCK (R560)
  (∀ (r : Req) (s : State), r.fromSystem = true → s.tag.locked = true →
      exec (.resetTagLock r) s = .next ((s.modTag fun t => { t with locked := false, fails := 0 }).answer r Code.done)) ∧
  -- TAG_FIELD_ON (R558)
  (∀ (s : State), s.nfc.card = none → s.cfg.nfc.tag = true → s.shortGap = false → exec .tagFieldOn s = .next (
      let uid : List Byte := [0x08, Config.freeByte s.free, Config.freeByte (s.free + 1), Config.freeByte (s.free + 2)]
      (((s.modNfc fun n => { n with ext := true, seen := true }).modFree (· + 3)).modTag fun t => { t.open_ with phase := .idle, uid }).wakeEvent 1)) ∧
  -- TAG_FIELD_ON (R558)
  (∀ (s : State), s.nfc.card = none → s.cfg.nfc.tag = true → s.shortGap = true → exec .tagFieldOn s = .next (
      ((s.modNfc fun n => { n with ext := true, seen := true }).modTag fun t => { t.open_ with phase := .idle }).wakeEvent 1)) ∧
  -- TAG_FIELD_LOST (R559)
  (∀ (s : State), exec .tagFieldLost s = .next ((s.modNfc fun n => { n with ext := false, seen := false }).modTag fun t => { t.open_ with
      phase := .off, lostAt := if t.phase = .off then t.lostAt else some s.rind.rtcUs })) ∧
  -- REQA (R557)
  (∀ (s : State), s.tag.phase = .idle → exec (.reqa .reqa) s = .next ((s.modTag fun x => { x.open_ with phase := .ready }).emit (.tagFrame [4, 0]))) ∧
  -- REQA (R557)
  (∀ (s : State), s.tag.phase = .ready →
      exec (.reqa .select) s = .next ((s.modTag fun x => { x.open_ with phase := .active }).emit (.tagFrame (s.tag.uid ++ [0x20])))) ∧
  -- REQA (R557)
  (∀ (s : State), s.tag.phase = .active →
      exec (.reqa .rats) s = .next ((s.modTag fun x => { x.open_ with phase := .proto }).emit (.tagFrame Config.tagAts))) ∧
  -- SELECT (R559)
  (∀ (s : State), s.tag.serving = true → exec (.select tagAid) s = .next ((s.modTag fun t => { t with selected := true }).tagSays [0x90, 0])) ∧
  -- READ_PAGE (R563)
  (∀ (s : State), s.tag.serving = true → s.tag.selected = true →
      exec (.readPage 0) s = .next ((s.tagSays (ix s.tag.page0 s.tag.newest ++ [0x90, 0])).nfcRaise 8)) ∧
  -- READ_PAGE (R563)
  (∀ (s : State), s.tag.serving = true → s.tag.selected = true → s.tag.secured = true → exec (.readPage 1) s = .next (((s.modTag fun x => { x with
      reads := satInc 0xFFFF x.reads }).tagSays (ix s.tag.page1 s.tag.newest ++ [0x90, 0])).nfcRaise 8)) ∧
  -- VERIFY (R560)
  (∀ (pw : List Byte) (d : Nat) (s : State), s.tag.serving = true → s.tag.selected = true → s.tag.pwDigest = some d → s.tag.locked = false →
      exec (.verify pw) s = .next (if pwHash s.tag.salt pw = d then
          ((s.modTag fun x => { x with fails := 0, secured := true }).tagSays [0x90, 0]).nfcRaise 0x10
        else let n := s.tag.fails + 1
          let s1 := (s.modTag fun x => { x with fails := min 5 n, locked := 5 ≤ n }).tagSays [0x63, BitVec.ofNat 8 (0xC0 + (5 - n))]
          if 5 ≤ n then s1.nfcRaise 0x20 else s1)) ∧
  -- GET_CHALLENGE (R559)
  (∀ (s : State), s.tag.serving = true → s.tag.selected = true → exec .getChallenge s = .next (
      let rnd := (List.range 16).map fun i => Config.freeByte (s.free + i)
      ((s.modFree (· + 16)).modTag fun t => { t with challenge := some rnd }).tagSays (rnd ++ [0x90, 0]))) ∧
  -- MUTUAL_AUTH (R561)
  (∀ (data rnd : List Byte) (k : Nat) (s : State), s.tag.serving = true → s.tag.selected = true → s.tag.key = some k → s.tag.challenge = some rnd →
      exec (.mutualAuth data) s = .next (let s1 := s.modTag fun x => { x with challenge := none }
        let plain := Config.aesCbcDec k data
        if data.length = 32 ∧ plain.drop 16 = rotl1 rnd then
          ((s1.modTag fun x => { x with secured := true }).tagSays (Config.aesCbc k (rotl1 (plain.take 16)) ++ [0x90, 0])).nfcRaise 0x10
        else s1.tagSays [0x63, 0])) ∧
  -- DESELECT (R559)
  (∀ (s : State), s.tag.serving = true → exec .deselect s = .next (s.modTag fun t => { t.open_ with phase := .halt })) ∧
  -- TAG_PAGE_REWRITE (R563)
  (∀ (s : State), s.sys.power = .run → s.sys.reached 7 = true → s.sys.romRecovery = false → exec .tagPageRewrite s = .next (
      let seq := (s.tag.seq + 1) % 2 ^ 32
      let k : Fin 2 := if s.tag.newest = 0 then 1 else 0
      s.modTag fun t => { t with
        seq, newest := k, page0 := upd t.page0 k fun _ => s.tagPage0 seq, page1 := upd t.page1 k fun _ => s.tagPage1 seq }))

/-- Display: where each row completes and what it leaves. -/
def Obligations.DisplayRowsComplete : Prop :=
  -- LEGAL_VIEW_REFRESH (R568)
  (∀ (s : State), s.sys.power = .run → exec .legalViewRefresh s = .next (s.modDsp fun d => { d with next := s.fitLines s.legalLines })) ∧
  -- LEGAL_LINE_ALTERNATE (R568)
  (∀ (s : State), s.sys.power = .run → exec .legalLineAlternate s = .next (
      let t := s.modDsp fun d => { d with alternate := d.cfg.legalRows == 1 && !d.alternate }
      t.modDsp fun d => { d with next := t.fitLines t.legalLines })) ∧
  -- LEGAL_VIEW_CYCLE (R568)
  (∀ (s : State), s.sys.power = .run → exec .legalViewCycle s = .next (
      let t := s.modDsp fun d => { d with cycle := if s.openPorts.isEmpty then 0 else (d.cycle + 1) % s.openPorts.length }
      if s.dsp.view = 3 then t.modDsp fun d => { d with next := t.fitLines t.legalLines } else t)) ∧
  -- LEGAL_VIEW_REFRESH (R568)
  (∀ (s : State), s.sys.power ≠ .run → exec .legalViewRefresh s = .next s) ∧
  -- FRAME_BOUNDARY (R569)
  (∀ (s : State), s.cfg.dsp = s.dsp.cfg → s.dsp.pending = Vector.replicate 8 none → s.dsp.cfg.od = false → s.legalVoid = false → exec .frameBoundary s =
      .next (s.modDsp fun x => { x with boost := [], applied := satAdd 0xFFFF x.applied 0, shown := x.next })) ∧
  -- FRAME_BOUNDARY (R569)
  (∀ (q : Rect) (s : State), s.cfg.dsp = s.dsp.cfg → s.dsp.pending = (upd (Vector.replicate 8 none) 0 fun _ => some q) → s.dsp.cfg.od = false → s.legalVoid = false →
      exec .frameBoundary s = .next ((s.modDsp fun x => { x with
        frame := (q.cells x.cfg.width).foldl (fun m c => cellPut m c.1 c.2) x.frame, boost := [], pending := Vector.replicate 8 none
        applied := satAdd 0xFFFF x.applied 1, shown := x.next }).dspRaise 1)) ∧
  -- FRAME_BOUNDARY (R569)
  (∀ (s : State), s.cfg.dsp = s.dsp.cfg → s.dsp.pending = Vector.replicate 8 none → s.dsp.cfg.od = false → s.legalVoid = true →
      exec .frameBoundary s = .next (s.modDsp fun x => { x with boost := [], applied := satAdd 0xFFFF x.applied 0, shown := s.fitLines s.legalLines })) ∧
  -- UPDATE_REGION (R569)
  (∀ (r : Req) (s : State), let c := s.dsp.cfg
      let d := s.withRing r (r.fld 3 2 0)
      let q : Rect := { x := r.fld 4 8 0, y := r.fld 4 22 16, w := r.fld 5 8 0, h := r.fld 5 22 16, data := d.ringIn }
      let n : Fin 8 := ⟨r.fld 3 6 4 % 8, by omega⟩
      s.displayOwner r = true → 0 < q.w → 0 < q.h → q.x + q.w ≤ c.width → q.y + q.h ≤ c.height → c.legalRowsN ≤ q.y →
      d.ringOk = true → q.w * q.h ≤ d.ringIn.length → ix s.dsp.pending n = none →
      exec (.updateRegion r) s = .next (((s.useRing d (r.fld 3 2 0) Code.done).modDsp fun d => { d with
        pending := upd d.pending n fun _ => some q }).answer r Code.done [0])) ∧
  -- SET_PANEL_POWER (R571)
  (∀ (r : Req) (s : State), s.displayOwner r = true → exec (.setPanelPower r) s = .next (
      let t := s.modDsp fun d => { d with on := r.bit 3 0 }
      (if r.bit 3 0 = s.dsp.on then t else t.dspRaise 8).answer r Code.done)) ∧
  -- SELECT_LEGAL_VIEW (R568)
  (∀ (r : Req) (s : State), s.displayOwner r = true → s.sys.power = .run → s.legal.state ≠ .void → r.fld 3 1 0 = 1 → r.namesPort = true →
      exec (.selectLegalView r) s = .next (
        let t := s.modDsp fun d => { d with view := 1, viewPort := r.port.1, alternate := false, cycle := 0 }
        ((t.modDsp fun d => { d with next := t.fitLines t.legalLines }).dspRaise 4).answer r Code.done)) ∧
  -- SELECT_LEGAL_VIEW (R568)
  (∀ (r : Req) (s : State), s.displayOwner r = true → s.sys.power = .run → s.legal.state ≠ .void → (r.fld 3 1 0 = 0 ∨ r.fld 3 1 0 = 3) → r.namesPort = false →
      exec (.selectLegalView r) s = .next (
        let t := s.modDsp fun d => { d with view := r.fld 3 1 0, viewPort := 0, alternate := false, cycle := 0 }
        ((t.modDsp fun d => { d with next := t.fitLines t.legalLines }).dspRaise 4).answer r Code.done)) ∧
  -- GET_DISPLAY_STATUS (R581)
  (∀ (r : Req) (s : State), exec (.getDisplayStatus r) s = .next (s.answer r Code.done (s.dspBlock r.guest))) ∧
  -- NFC_EVENT_READ (R574)
  (∀ (path : Path) (g : Guest) (s : State), s.canRead path g = true → (s.violKind path g 0x073C false false) = none →
      exec (.nfcEventRead path g) s = .next (((s.returnRead path g 0x073C (ix s.nfc.ev g) []).modNfc
        fun x => { x with ev := clearOne x.ev g }).hostActive path)) ∧
  -- DSP_EVENT_READ (R575)
  (∀ (path : Path) (g : Guest) (s : State), s.canRead path g = true → (s.violKind path g 0x074C false false) = none →
      exec (.dspEventRead path g) s = .next (((s.returnRead path g 0x074C (ix s.dsp.ev g) []).modDsp
        fun x => { x with ev := clearOne x.ev g }).hostActive path))
end

