-- ==== Sys2Proof/Laws/Chain.lean ====
section
/-! SUPPORT. What a frame that is taken does: its content acts on what reception leaves. -/

namespace Sys2Proof.Machine

/-- Two states agree on what decides whether a frame is consumed. -/
def SameEars (s t : State) : Prop :=
  t.chn.seen = s.chn.seen ∧ t.chn.addr = s.chn.addr ∧ t.time = s.time ∧ t.sys = s.sys

theorem SameEars.trans {s t u : State} (h : SameEars s t) (k : SameEars t u) : SameEars s u :=
  ⟨k.1.trans h.1, k.2.1.trans h.2.1, k.2.2.1.trans h.2.2.1, k.2.2.2.trans h.2.2.2⟩

theorem sameEars_modChLink (s : State) (k : ChPort) (f : ChLink → ChLink) : SameEars s (s.modChLink k f) := ⟨rfl, rfl, rfl, rfl⟩

theorem sameEars_queueFrame (s : State) (k : ChPort) (f : TxFrame) : SameEars s (s.queueFrame k f) := by
  unfold State.queueFrame
  simp only
  split
  · exact ⟨rfl, rfl, rfl, rfl⟩
  split
  · exact ⟨rfl, rfl, rfl, rfl⟩
  split
  · split
    · exact ⟨rfl, rfl, rfl, rfl⟩
    · unfold State.dropFrame
      simp only
      split <;> exact ⟨rfl, rfl, rfl, rfl⟩
  · exact ⟨rfl, rfl, rfl, rfl⟩

theorem sameEars_forward (s : State) (k : ChPort) (h : ChHdr) (b : ChBody) : SameEars s (s.forward k h b) := by
  unfold State.forward
  simp only
  split
  · exact ⟨rfl, rfl, rfl, rfl⟩
  split
  · exact ⟨rfl, rfl, rfl, rfl⟩
  · exact sameEars_queueFrame s.useFree _ _

theorem sameEars_meshSend (s : State) (d : Nat) (b : MBody) : SameEars s (s.meshSend d b) := by
  unfold State.meshSend
  split <;> exact ⟨rfl, rfl, rfl, rfl⟩

theorem consumes_congr {s t : State} (h : ChHdr) (b : ChBody) (e : SameEars s t) : t.consumes h b = s.consumes h b := by
  obtain ⟨e1, e2, e3, e4⟩ := e
  simp only [State.consumes, State.addressed, e1, e2, e3, e4]

theorem consume_taken {s : State} {h : ChHdr} {b : ChBody} (eat : State → State) (c : s.consumes h b = true) :
    s.consume h b eat = eat (s.consume h b id) := by
  simp only [State.consumes, Bool.and_eq_true, Bool.or_eq_true] at c
  obtain ⟨⟨c1, c2⟩, c3⟩ := c
  have c2' : (h.src != 0 && h.src == s.chn.addr) = false := by
    rcases c2 with c2 | c2
    · simp [beq_iff_eq.mp c2]
    · simp only [bne_iff_ne] at c2; simp [c2]
  unfold State.consume
  simp only [c1, c2', Bool.not_true, Bool.or_false, Bool.false_eq_true, if_false]
  cases b <;> simp only [ChBody.type] at c3
  all_goals
    first
    | rfl
    | (have c4 : ((s.chn.seen.filter fun x => decide (s.time.chain ≤ x.2.2 + 100000000)).any fun x => x.1 == h.src && x.2.1 == h.seq)
          = false := by
        rcases c3 with c3 | c3
        · exact absurd c3 (by decide)
        · simpa [List.any_filter, Bool.and_assoc] using c3
       simp only [c4, Bool.false_eq_true, if_false, id])

theorem sameEars_passOn {s t : State} {k : ChPort} {h : ChHdr} {b : ChBody} (e : SameEars s t) :
    SameEars s (match b with
      | .walk _ => t
      | _ => t.forward k h b) := by
  cases b <;> first | exact e | exact e.trans (sameEars_forward _ _ _ _)

theorem State.chainRx_takes {s : State} {h : ChHdr} {b : ChBody} (eat : State → State) (c : s.takes h b = true) :
    s.chainRx h b eat = eat (s.received h b) := by
  unfold State.takes at c
  simp only [Bool.and_eq_true] at c
  obtain ⟨⟨⟨c1, c2⟩, c0⟩, c6⟩ := c
  have c2' : (s.sys.power == PowerState.doze && !(b.type == 0x15 || b.type == 0x16)) = false := by
    simp only [Bool.or_eq_true] at c2
    rcases c2 with (c2 | c2) | c2
    · simp only [bne_iff_ne, ne_eq] at c2
      simp [c2]
    · simp [c2]
    · simp [c2]
  unfold State.received State.chainRx
  simp only [c1, c2', Bool.not_true, Bool.false_or, Bool.false_eq_true, if_false]
  cases hp : h.port with
  | none => exact consume_taken eat c0
  | some k =>
    simp only [hp, Bool.and_eq_true, beq_iff_eq, decide_eq_true_eq] at c6
    obtain ⟨⟨d1, d2⟩, d3⟩ := c6
    have d2' : ¬ s.cfg.chain.levelCap < h.level := by omega
    simp only [d1, d3, d2', ne_eq, not_true_eq_false, if_false, decide_false, Bool.not_true, Bool.or_false, Bool.false_eq_true]
    have e1 := sameEars_modChLink s k fun l => { l with rx := satInc 0xFFFFFFFF l.rx }
    refine consume_taken eat ?_
    rw [consumes_congr (s := s), c0]
    split
    · refine SameEars.trans ?_ (sameEars_meshSend _ _ _)
      exact sameEars_passOn e1
    · exact sameEars_passOn e1

end Sys2Proof.Machine
end

