-- ==== Sys2Proof/Laws/Only.lean ====
section
/-! SUPPORT. Which parts of the state an operation may change: `Only ps s t` says that from s to t no part beside ps differs. -/

namespace Sys2Proof.Machine

/-- No part beside ps differs. -/
structure Only (ps : List Part) (s t : State) : Prop where
  same : s.sameBut ps t

/-- Every next state that a meaning answers differs in ps alone. -/
structure OnlyRes (ps : List Part) (s : State) (r : Res) : Prop where
  only : ∀ t, r = .next t → Only ps s t

/-- Every part of qs is one of ps. -/
def within (qs ps : List Part) : Bool := qs.all ps.contains

theorem within_trans {qs ps rs : List Part} (h : within qs ps = true) (k : within ps rs = true) : within qs rs = true := by
  simp only [within, List.all_eq_true] at *
  intro p hp
  exact k p (by simpa using h p hp)

variable {ps qs : List Part} {s t u : State}

theorem Only.refl (ps : List Part) (s : State) : Only ps s s := by
  constructor; intro p _; cases p <;> rfl

/-- A further change within ps. -/
theorem Only.step (h : Only qs t u) (hq : within qs ps = true) (k : Only ps s t) : Only ps s u := by
  constructor; intro p hp
  have h1 := h.same p fun m => hp (by simpa using List.all_eq_true.mp hq p m)
  have h2 := k.same p hp
  cases p <;> exact h1.trans h2

theorem Only.mono (h : Only qs s t) (hq : within qs ps = true) : Only ps s t := h.step hq (Only.refl _ _)

theorem Only.ite {c : Prop} [Decidable c] (h : Only ps s t) (k : Only ps s u) : Only ps s (if c then t else u) := by
  split <;> assumption

theorem Only.dite {c : Prop} [Decidable c] {f : c → State} {g : ¬c → State} (h : ∀ x, Only ps s (f x)) (k : ∀ x, Only ps s (g x)) :
    Only ps s (if x : c then f x else g x) := by
  split
  · exact h _
  · exact k _

/-- A state met on the way. -/
theorem Only.keep (x : State) (h : Only ps s x) (k : Only ps s x → Only ps s t) : Only ps s t := k h

theorem Only.foldl {α : Type} {f : State → α → State} {l : List α} (k : ∀ u a, Only ps s u → Only ps s (f u a)) (h : Only ps s t) :
    Only ps s (l.foldl f t) := by
  induction l generalizing t with
  | nil => exact h
  | cons a l ih => exact ih (k _ _ h)

theorem Only.each {n : Nat} {f : Fin n → State → State} (k : ∀ i u, Only ps s u → Only ps s (f i u)) (h : Only ps s t) :
    Only ps s (t.each f) := Only.foldl (fun u i => k i u) h

theorem Only.whenB {c : Bool} {f : State → State} (k : ∀ u, Only ps s u → Only ps s (f u)) (h : Only ps s t) : Only ps s (t.whenB c f) := by
  unfold State.whenB; split
  · exact k _ h
  · exact h

theorem OnlyRes.next (h : Only ps s t) : OnlyRes ps s (.next t) := by
  constructor; intro u hu; cases hu; exact h

theorem OnlyRes.keep {r : Res} (x : State) (h : Only ps s x) (k : Only ps s x → OnlyRes ps s r) : OnlyRes ps s r := k h

theorem OnlyRes.ite {c : Prop} [Decidable c] {x y : Res} (h : OnlyRes ps s x) (k : OnlyRes ps s y) : OnlyRes ps s (if c then x else y) := by
  split <;> assumption

end Sys2Proof.Machine
end

