-- ==== Sys2Proof/Laws/Frames.lean ====
section
/-! SUPPORT. What each operation on the state may change: one lemma an operation. -/

namespace Sys2Proof.Machine

theorem State.modSes_only (a0 : _) (a1 : _) (a2 : _) :
    Only [.ses] a0 (State.modSes a0 a1 a2) := by
  constructor; intro p hp; cases p <;> first | rfl | exact absurd (by decide) hp

theorem State.modSent_only (a0 : _) (a1 : _) :
    Only [.sent] a0 (State.modSent a0 a1) := by
  constructor; intro p hp; cases p <;> first | rfl | exact absurd (by decide) hp

theorem State.emit_only (a0 : _) (a1 : _) :
    Only [.sent] a0 (State.emit a0 a1) := by
  unfold State.emit
  refine Only.step (State.modSent_only ..) rfl ?_
  exact (Only.refl _ _)

theorem State.modHost_only (a0 : _) (a1 : _) :
    Only [.host] a0 (State.modHost a0 a1) := by
  constructor; intro p hp; cases p <;> first | rfl | exact absurd (by decide) hp

theorem State.modGuest_only (a0 : _) (a1 : _) (a2 : _) :
    Only [.host] a0 (State.modGuest a0 a1 a2) := by
  unfold State.modGuest
  refine Only.step (State.modHost_only ..) rfl ?_
  exact (Only.refl _ _)

theorem State.fireIrq_only (a0 : _) (a1 : _) (a2 : _) :
    Only [.host, .sent] a0 (State.fireIrq a0 a1 a2) := by
  unfold State.fireIrq
  extract_lets +onlyGivenNames x1
  refine Only.ite ?_ ?_
  · exact (Only.refl _ _)
  · extract_lets +onlyGivenNames x2
    refine Only.ite ?_ ?_
    · refine Only.step (State.modGuest_only ..) rfl ?_
      exact (Only.refl _ _)
    · refine Only.step (State.emit_only ..) rfl ?_
      refine Only.step (State.modGuest_only ..) rfl ?_
      exact (Only.refl _ _)

theorem State.setIrq_only (a0 : _) (a1 : _) (a2 : _) :
    Only [.host, .sent] a0 (State.setIrq a0 a1 a2) := by
  unfold State.setIrq
  extract_lets +onlyGivenNames x1
  extract_lets +onlyGivenNames x2
  extract_lets +onlyGivenNames x3
  extract_lets +onlyGivenNames x4
  refine Only.keep x4 ?_ ?_
  · unfold x4
    refine Only.foldl (fun u1 a1x h1 => ?_) ?_
    · refine Only.ite ?_ ?_
      · refine Only.step (State.fireIrq_only ..) rfl ?_
        exact h1
      · exact h1
    · refine Only.step (State.modGuest_only ..) rfl ?_
      exact (Only.refl _ _)
  intro h2
  clear_value x4
  extract_lets +onlyGivenNames x5
  refine Only.keep x5 ?_ ?_
  · unfold x5
    refine Only.foldl (fun u2 a2x h3 => ?_) ?_
    · refine Only.ite ?_ ?_
      · refine Only.step (State.modGuest_only ..) rfl ?_
        exact h3
      · exact h3
    · exact h2
  intro h4
  clear_value x5
  refine Only.ite ?_ ?_
  · refine Only.step (State.fireIrq_only ..) rfl ?_
    exact h4
  · exact h4

theorem State.irq_only (a0 : _) (a1 : _) (a2 : _) :
    Only [.host, .sent] a0 (State.irq a0 a1 a2) := by
  unfold State.irq
  refine Only.step (State.setIrq_only ..) rfl ?_
  exact (Only.refl _ _)

theorem State.pendPort_only (a0 : _) (a1 : _) (a2 : _) (a3 : _) :
    Only [.host, .sent] a0 (State.pendPort a0 a1 a2 a3) := by
  unfold State.pendPort
  refine Only.each (fun a1x u1 h1 => ?_) ?_
  · refine Only.ite ?_ ?_
    · refine Only.step (State.irq_only ..) rfl ?_
      exact h1
    · exact h1
  · exact (Only.refl _ _)

theorem State.modCave_only (a0 : _) (a1 : _) :
    Only [.cave] a0 (State.modCave a0 a1) := by
  constructor; intro p hp; cases p <;> first | rfl | exact absurd (by decide) hp

theorem State.offer_only (a0 : _) (a1 : _) :
    Only [.cave] a0 (State.offer a0 a1) := by
  unfold State.offer
  refine Only.step (State.modCave_only ..) rfl ?_
  exact (Only.refl _ _)

theorem State.service_only (a0 : _) (a1 : _) (a2 : _) (a3 : _) :
    Only [.cave] a0 (State.service a0 a1 a2 a3) := by
  unfold State.service
  refine Only.step (State.offer_only ..) rfl ?_
  exact (Only.refl _ _)

theorem State.sesRaise_only (a0 : _) (a1 : _) (a2 : _) :
    Only [.ses, .cave, .host, .sent] a0 (State.sesRaise a0 a1 a2) := by
  unfold State.sesRaise
  refine Only.step (State.pendPort_only ..) rfl ?_
  refine Only.step (State.service_only ..) rfl ?_
  refine Only.step (State.modSes_only ..) rfl ?_
  exact (Only.refl _ _)

theorem State.modSp_only (a0 : _) (a1 : _) (a2 : _) :
    Only [.sp] a0 (State.modSp a0 a1 a2) := by
  constructor; intro p hp; cases p <;> first | rfl | exact absurd (by decide) hp

theorem State.imdRaise_only (a0 : _) (a1 : _) (a2 : _) :
    Only [.sp, .host, .sent] a0 (State.imdRaise a0 a1 a2) := by
  unfold State.imdRaise
  refine Only.step (State.pendPort_only ..) rfl ?_
  refine Only.step (State.modSp_only ..) rfl ?_
  exact (Only.refl _ _)

theorem State.availPoll_only (a0 : _) (a1 : _) :
    Only [.ses, .cave, .host, .sent] a0 (State.availPoll a0 a1) := by
  unfold State.availPoll
  extract_lets +onlyGivenNames x1
  refine Only.ite ?_ ?_
  · exact (Only.refl _ _)
  · refine Only.step (State.sesRaise_only ..) rfl ?_
    refine Only.step (State.modSes_only ..) rfl ?_
    exact (Only.refl _ _)

theorem State.testEnded_only (a0 : _) (a1 : _) (a2 : _) (a3 : _) :
    Only [.ses, .sp, .cave, .host, .sent] a0 (State.testEnded a0 a1 a2 a3) := by
  unfold State.testEnded
  refine Only.step (State.availPoll_only ..) rfl ?_
  refine Only.step (State.sesRaise_only ..) rfl ?_
  refine Only.step (State.imdRaise_only ..) rfl ?_
  refine Only.step (State.modSp_only ..) rfl ?_
  exact (Only.refl _ _)

theorem State.final_only (a0 : _) (a1 : _) (a2 : _) (a3 : _) :
    Only [.host] a0 (State.final a0 a1 a2 a3) := by
  unfold State.final
  refine Only.step (State.modHost_only ..) rfl ?_
  exact (Only.refl _ _)

theorem State.finalOpt_only (a0 : _) (a1 : _) (a2 : _) (a3 : _) :
    Only [.host] a0 (State.finalOpt a0 a1 a2 a3) := by
  unfold State.finalOpt
  split
  · refine Only.step (State.final_only ..) rfl ?_
    exact (Only.refl _ _)
  · exact (Only.refl _ _)

theorem State.testNotice_only (a0 : _) (a1 : _) (a2 : _) (a3 : _) :
    Only [.host] a0 (State.testNotice a0 a1 a2 a3) := by
  unfold State.testNotice
  refine Only.step (State.finalOpt_only ..) rfl ?_
  exact (Only.refl _ _)

theorem State.modSaf_only (a0 : _) (a1 : _) :
    Only [.saf] a0 (State.modSaf a0 a1) := by
  constructor; intro p hp; cases p <;> first | rfl | exact absurd (by decide) hp

theorem State.pendAll_only (a0 : _) (a1 : _) (a2 : _) (a3 : _) :
    Only [.host, .sent] a0 (State.pendAll a0 a1 a2 a3) := by
  unfold State.pendAll
  refine Only.each (fun a1x u1 h1 => ?_) ?_
  · refine Only.ite ?_ ?_
    · refine Only.step (State.irq_only ..) rfl ?_
      exact h1
    · exact h1
  · exact (Only.refl _ _)

theorem State.brkRaise_only (a0 : _) (a1 : _) :
    Only [.host, .sent, .saf] a0 (State.brkRaise a0 a1) := by
  unfold State.brkRaise
  refine Only.step (State.pendAll_only ..) rfl ?_
  refine Only.step (State.modSaf_only ..) rfl ?_
  exact (Only.refl _ _)

theorem State.modBrk_only (a0 : _) (a1 : _) (a2 : _) :
    Only [.brk] a0 (State.modBrk a0 a1 a2) := by
  constructor; intro p hp; cases p <;> first | rfl | exact absurd (by decide) hp

theorem State.abortBrake_only (a0 : _) (a1 : _) :
    Only [.ses, .sp, .cave, .host, .sent, .saf, .brk] a0 (State.abortBrake a0 a1) := by
  unfold State.abortBrake
  split
  · exact (Only.refl _ _)
  · extract_lets +onlyGivenNames x1
    refine Only.keep x1 ?_ ?_
    · unfold x1
      refine Only.step (State.modBrk_only ..) rfl ?_
      exact (Only.refl _ _)
    intro h1
    clear_value x1
    extract_lets +onlyGivenNames x2
    refine Only.keep x2 ?_ ?_
    · unfold x2
      refine Only.step (State.testNotice_only ..) rfl ?_
      exact h1
    intro h2
    clear_value x2
    split
    · refine Only.step (State.brkRaise_only ..) rfl ?_
      refine Only.step (State.testEnded_only ..) rfl ?_
      exact h2
    · exact h2

theorem State.modJnl_only (a0 : _) (a1 : _) :
    Only [.jnl] a0 (State.modJnl a0 a1) := by
  constructor; intro p hp; cases p <;> first | rfl | exact absurd (by decide) hp

theorem State.jnlRaise_only (a0 : _) (a1 : _) :
    Only [.jnl] a0 (State.jnlRaise a0 a1) := by
  unfold State.jnlRaise
  refine Only.step (State.modJnl_only ..) rfl ?_
  exact (Only.refl _ _)

theorem State.abortRipening_only (a0 : _) :
    Only [.jnl] a0 (State.abortRipening a0) := by
  unfold State.abortRipening
  extract_lets +onlyGivenNames x1
  extract_lets +onlyGivenNames x2
  refine Only.keep x2 ?_ ?_
  · unfold x2
    refine Only.step (State.modJnl_only ..) rfl ?_
    exact (Only.refl _ _)
  intro h1
  clear_value x2
  refine Only.ite ?_ ?_
  · refine Only.step (State.jnlRaise_only ..) rfl ?_
    exact h1
  · exact h1

theorem State.abortTests_only (a0 : _) (a1 : _) :
    Only [.ses, .sp, .cave, .host, .sent, .saf, .brk] a0 (State.abortTests a0 a1) := by
  unfold State.abortTests
  extract_lets +onlyGivenNames x1
  refine Only.keep x1 ?_ ?_
  · unfold x1
    split
    · refine Only.step (State.modSp_only ..) rfl ?_
      exact (Only.refl _ _)
    · exact (Only.refl _ _)
  intro h1
  clear_value x1
  extract_lets +onlyGivenNames x2
  refine Only.keep x2 ?_ ?_
  · unfold x2
    split
    · refine Only.step (State.testEnded_only ..) rfl ?_
      refine Only.step (State.testNotice_only ..) rfl ?_
      refine Only.step (State.modSp_only ..) rfl ?_
      exact h1
    · exact h1
  intro h2
  clear_value x2
  split
  · refine Only.step (State.abortBrake_only ..) rfl ?_
    exact h2
  · exact h2

theorem State.count_only (a0 : _) (a1 : _) (a2 : _) (a3 : _) :
    Only [.host, .sent] a0 (State.count a0 a1 a2 a3) := by
  unfold State.count
  extract_lets +onlyGivenNames x1
  extract_lets +onlyGivenNames x2
  extract_lets +onlyGivenNames x3
  refine Only.keep x3 ?_ ?_
  · unfold x3
    refine Only.step (State.modGuest_only ..) rfl ?_
    exact (Only.refl _ _)
  intro h1
  clear_value x3
  refine Only.ite ?_ ?_
  · exact h1
  · refine Only.step (State.irq_only ..) rfl ?_
    exact h1

theorem State.modH2d_only (a0 : _) (a1 : _) (a2 : _) (a3 : _) :
    Only [.host] a0 (State.modH2d a0 a1 a2 a3) := by
  unfold State.modH2d
  refine Only.step (State.modGuest_only ..) rfl ?_
  exact (Only.refl _ _)

theorem State.endRelay_only (a0 : _) (a1 : _) (a2 : _) (a3 : _) :
    Only [.host, .sent] a0 (State.endRelay a0 a1 a2 a3) := by
  unfold State.endRelay
  extract_lets +onlyGivenNames x1
  refine Only.ite ?_ ?_
  · extract_lets +onlyGivenNames x2
    refine Only.keep x2 ?_ ?_
    · unfold x2
      refine Only.step (State.irq_only ..) rfl ?_
      refine Only.step (State.modH2d_only ..) rfl ?_
      exact (Only.refl _ _)
    intro h1
    clear_value x2
    refine Only.ite ?_ ?_
    · refine Only.step (State.count_only ..) rfl ?_
      exact h1
    · exact h1
  · exact (Only.refl _ _)

theorem State.abortTo_only (a0 : _) (a1 : _) :
    Only [.host, .sent] a0 (State.abortTo a0 a1) := by
  unfold State.abortTo
  extract_lets +onlyGivenNames x1
  extract_lets +onlyGivenNames x2
  extract_lets +onlyGivenNames x3
  refine Only.keep x3 ?_ ?_
  · unfold x3
    refine Only.foldl (fun u1 a1x h1 => ?_) ?_
    · split
      · refine Only.ite ?_ ?_
        · exact h1
        · refine Only.step (State.endRelay_only ..) rfl ?_
          exact h1
      · exact h1
    · exact (Only.refl _ _)
  intro h2
  clear_value x3
  extract_lets +onlyGivenNames x4
  refine Only.step (State.modHost_only ..) rfl ?_
  refine Only.foldl (fun u2 a2x h3 => ?_) ?_
  · refine Only.step (State.endRelay_only ..) rfl ?_
    exact h3
  · exact h2

theorem State.caveRaise_only (a0 : _) (a1 : _) :
    Only [.cave] a0 (State.caveRaise a0 a1) := by
  unfold State.caveRaise
  refine Only.step (State.modCave_only ..) rfl ?_
  exact (Only.refl _ _)

theorem State.absence_only (a0 : _) (a1 : _) (a2 : _) (a3 : _) (a4 : _) (a5 : _) :
    Only [.cave] a0 (State.absence a0 a1 a2 a3 a4 a5) := by
  unfold State.absence
  refine Only.step (State.caveRaise_only ..) rfl ?_
  refine Only.step (State.offer_only ..) rfl ?_
  exact (Only.refl _ _)

theorem State.modPq_only (a0 : _) (a1 : _) (a2 : _) :
    Only [.pq] a0 (State.modPq a0 a1 a2) := by
  constructor; intro p hp; cases p <;> first | rfl | exact absurd (by decide) hp

theorem State.holdLevel_only (a0 : _) :
    Only [.jnl] a0 (State.holdLevel a0) := by
  unfold State.holdLevel
  extract_lets +onlyGivenNames x1
  extract_lets +onlyGivenNames x2
  extract_lets +onlyGivenNames x3
  extract_lets +onlyGivenNames x4
  refine Only.step (State.jnlRaise_only ..) rfl ?_
  refine Only.step (State.modJnl_only ..) rfl ?_
  exact (Only.refl _ _)

theorem State.putAck_only (a0 : _) :
    Only [.jnl] a0 (State.putAck a0) := by
  unfold State.putAck
  refine Only.step (State.modJnl_only ..) rfl ?_
  exact (Only.refl _ _)

theorem State.ripenLegal_only (a0 : _) :
    Only [.jnl] a0 (State.ripenLegal a0) := by
  unfold State.ripenLegal
  refine Only.ite ?_ ?_
  · refine Only.step (State.modJnl_only ..) rfl ?_
    exact (Only.refl _ _)
  · refine Only.ite ?_ ?_
    · exact (Only.refl _ _)
    · refine Only.step (State.modJnl_only ..) rfl ?_
      refine Only.step (State.putAck_only ..) rfl ?_
      exact (Only.refl _ _)

theorem State.appendLegal_only (a0 : _) (a1 : _) :
    Only [.jnl] a0 (State.appendLegal a0 a1) := by
  unfold State.appendLegal
  extract_lets +onlyGivenNames x1
  refine Only.keep x1 ?_ ?_
  · unfold x1
    refine Only.step (State.holdLevel_only ..) rfl ?_
    refine Only.step (State.modJnl_only ..) rfl ?_
    exact (Only.refl _ _)
  intro h1
  clear_value x1
  refine Only.ite ?_ ?_
  · refine Only.step (State.ripenLegal_only ..) rfl ?_
    exact h1
  · exact h1

theorem State.pqRaise_only (a0 : _) (a1 : _) (a2 : _) :
    Only [.host, .pq, .sent] a0 (State.pqRaise a0 a1 a2) := by
  unfold State.pqRaise
  refine Only.step (State.pendPort_only ..) rfl ?_
  refine Only.step (State.modPq_only ..) rfl ?_
  exact (Only.refl _ _)

theorem State.tamperRecord_only (a0 : _) (a1 : _) (a2 : _) (a3 : _) (a4 : _) (a5 : _) (a6 : _) (a7 : _) (a8 : _) :
    Only [.jnl, .host, .pq, .sent] a0 (State.tamperRecord a0 a1 a2 a3 a4 a5 a6 a7 a8) := by
  unfold State.tamperRecord
  extract_lets +onlyGivenNames x1
  refine Only.keep x1 ?_ ?_
  · unfold x1
    refine Only.ite ?_ ?_
    · exact (Only.refl _ _)
    · refine Only.step (State.modPq_only ..) rfl ?_
      exact (Only.refl _ _)
  intro h1
  clear_value x1
  extract_lets +onlyGivenNames x2
  extract_lets +onlyGivenNames x3
  extract_lets +onlyGivenNames x4
  extract_lets +onlyGivenNames x5
  refine Only.step (State.pqRaise_only ..) rfl ?_
  refine Only.step (State.appendLegal_only ..) rfl ?_
  exact h1

theorem State.revUnit_only (a0 : _) (a1 : _) (a2 : _) (a3 : _) (a4 : _) (a5 : _) (a6 : _) :
    Only [.jnl, .host, .pq, .sent] a0 (State.revUnit a0 a1 a2 a3 a4 a5 a6) := by
  unfold State.revUnit
  extract_lets +onlyGivenNames x1
  refine Only.ite ?_ ?_
  · exact (Only.refl _ _)
  · extract_lets +onlyGivenNames x2
    extract_lets +onlyGivenNames x3
    refine Only.keep x3 ?_ ?_
    · unfold x3
      refine Only.step (State.modPq_only ..) rfl ?_
      exact (Only.refl _ _)
    intro h1
    clear_value x3
    refine Only.ite ?_ ?_
    · refine Only.step (State.tamperRecord_only ..) rfl ?_
      refine Only.step (State.modPq_only ..) rfl ?_
      exact h1
    · exact h1

theorem State.acUnitEnd_only (a0 : _) (a1 : _) (a2 : _) (a3 : _) :
    Only [.jnl, .host, .pq, .sent] a0 (State.acUnitEnd a0 a1 a2 a3) := by
  unfold State.acUnitEnd
  refine Only.ite ?_ ?_
  · exact (Only.refl _ _)
  · extract_lets +onlyGivenNames x1
    extract_lets +onlyGivenNames x2
    extract_lets +onlyGivenNames x3
    extract_lets +onlyGivenNames x4
    extract_lets +onlyGivenNames x5
    extract_lets +onlyGivenNames x6
    extract_lets +onlyGivenNames x7
    refine Only.keep x7 ?_ ?_
    · unfold x7
      refine Only.ite ?_ ?_
      · refine Only.foldl (fun u1 a1x h1 => ?_) ?_
        · refine Only.ite ?_ ?_
          · refine Only.step (State.revUnit_only ..) rfl ?_
            exact h1
          · exact h1
        · exact (Only.refl _ _)
      · exact (Only.refl _ _)
    intro h2
    clear_value x7
    extract_lets +onlyGivenNames x8
    extract_lets +onlyGivenNames x9
    extract_lets +onlyGivenNames x10
    extract_lets +onlyGivenNames x11
    extract_lets +onlyGivenNames x12
    refine Only.keep x12 ?_ ?_
    · unfold x12
      refine Only.ite ?_ ?_
      · refine Only.step (State.modPq_only ..) rfl ?_
        exact h2
      · exact h2
    intro h3
    clear_value x12
    extract_lets +onlyGivenNames x13
    extract_lets +onlyGivenNames x14
    refine Only.keep x14 ?_ ?_
    · unfold x14
      refine Only.ite ?_ ?_
      · refine Only.step (State.modPq_only ..) rfl ?_
        exact h3
      · exact h3
    intro h4
    clear_value x14
    refine Only.ite ?_ ?_
    · refine Only.step (State.modPq_only ..) rfl ?_
      exact h4
    · exact h4

theorem State.accept_only (a0 : _) (a1 : _) :
    Only [.host] a0 (State.accept a0 a1) := by
  unfold State.accept
  refine Only.step (State.modHost_only ..) rfl ?_
  exact (Only.refl _ _)

theorem State.modMsh_only (a0 : _) (a1 : _) :
    Only [.msh] a0 (State.modMsh a0 a1) := by
  constructor; intro p hp; cases p <;> first | rfl | exact absurd (by decide) hp

theorem State.modSys_only (a0 : _) (a1 : _) :
    Only [.sys] a0 (State.modSys a0 a1) := by
  constructor; intro p hp; cases p <;> first | rfl | exact absurd (by decide) hp

theorem State.modSleep_only (a0 : _) (a1 : _) :
    Only [.sys] a0 (State.modSleep a0 a1) := by
  unfold State.modSleep
  refine Only.step (State.modSys_only ..) rfl ?_
  exact (Only.refl _ _)

theorem State.modChn_only (a0 : _) (a1 : _) :
    Only [.chn] a0 (State.modChn a0 a1) := by
  constructor; intro p hp; cases p <;> first | rfl | exact absurd (by decide) hp

theorem State.modChLink_only (a0 : _) (a1 : _) (a2 : _) :
    Only [.chn] a0 (State.modChLink a0 a1 a2) := by
  unfold State.modChLink
  refine Only.step (State.modChn_only ..) rfl ?_
  exact (Only.refl _ _)

theorem State.beginFrame_only (a0 : _) (a1 : _) (a2 : _) :
    Only [.sent, .chn] a0 (State.beginFrame a0 a1 a2) := by
  unfold State.beginFrame
  extract_lets +onlyGivenNames x1
  refine Only.step (State.emit_only ..) rfl ?_
  refine Only.step (State.modChLink_only ..) rfl ?_
  exact (Only.refl _ _)

theorem State.chnRaise_only (a0 : _) (a1 : _) :
    Only [.chn] a0 (State.chnRaise a0 a1) := by
  unfold State.chnRaise
  refine Only.step (State.modChn_only ..) rfl ?_
  exact (Only.refl _ _)

theorem State.dropFrame_only (a0 : _) (a1 : _) (a2 : _) :
    Only [.chn] a0 (State.dropFrame a0 a1 a2) := by
  unfold State.dropFrame
  extract_lets +onlyGivenNames x1
  refine Only.keep x1 ?_ ?_
  · unfold x1
    refine Only.step (State.modChLink_only ..) rfl ?_
    exact (Only.refl _ _)
  intro h1
  clear_value x1
  refine Only.ite ?_ ?_
  · refine Only.step (State.chnRaise_only ..) rfl ?_
    refine Only.step (State.modChn_only ..) rfl ?_
    exact h1
  · exact h1

theorem State.queueFrame_only (a0 : _) (a1 : _) (a2 : _) :
    Only [.sent, .chn] a0 (State.queueFrame a0 a1 a2) := by
  unfold State.queueFrame
  extract_lets +onlyGivenNames x1
  extract_lets +onlyGivenNames x2
  refine Only.ite ?_ ?_
  · exact (Only.refl _ _)
  · refine Only.ite ?_ ?_
    · refine Only.step (State.beginFrame_only ..) rfl ?_
      exact (Only.refl _ _)
    · split
      · refine Only.ite ?_ ?_
        · refine Only.step (State.modChLink_only ..) rfl ?_
          exact (Only.refl _ _)
        · refine Only.step (State.dropFrame_only ..) rfl ?_
          exact (Only.refl _ _)
      · exact (Only.refl _ _)

theorem State.meshSend_only (a0 : _) (a1 : _) (a2 : _) :
    Only [.msh] a0 (State.meshSend a0 a1 a2) := by
  unfold State.meshSend
  refine Only.ite ?_ ?_
  · exact (Only.refl _ _)
  · extract_lets +onlyGivenNames x1
    extract_lets +onlyGivenNames x2
    refine Only.step (State.modMsh_only ..) rfl ?_
    exact (Only.refl _ _)

theorem State.originate_only (a0 : _) (a1 : _) (a2 : _) :
    Only [.msh, .sent, .chn] a0 (State.originate a0 a1 a2) := by
  unfold State.originate
  refine Only.ite ?_ ?_
  · exact (Only.refl _ _)
  · extract_lets +onlyGivenNames x1
    extract_lets +onlyGivenNames x2
    refine Only.keep x2 ?_ ?_
    · unfold x2
      refine Only.step (State.queueFrame_only ..) rfl ?_
      refine Only.step (State.queueFrame_only ..) rfl ?_
      refine Only.step (State.modChn_only ..) rfl ?_
      exact (Only.refl _ _)
    intro h1
    clear_value x2
    extract_lets +onlyGivenNames x3
    refine Only.keep x3 ?_ ?_
    · unfold x3
      refine Only.ite ?_ ?_
      · refine Only.step (State.meshSend_only ..) rfl ?_
        exact h1
      · exact h1
    intro h2
    clear_value x3
    refine Only.ite ?_ ?_
    · extract_lets +onlyGivenNames x4
      refine Only.step (State.modChn_only ..) rfl ?_
      exact h2
    · exact h2

theorem State.irqAll_only (a0 : _) (a1 : _) :
    Only [.host, .sent] a0 (State.irqAll a0 a1) := by
  unfold State.irqAll
  refine Only.each (fun a1x u1 h1 => ?_) ?_
  · refine Only.step (State.irq_only ..) rfl ?_
    exact h1
  · exact (Only.refl _ _)

theorem State.sysChanged_only (a0 : _) :
    Only [.host, .sent] a0 (State.sysChanged a0) := by
  unfold State.sysChanged
  refine Only.step (State.irqAll_only ..) rfl ?_
  exact (Only.refl _ _)

theorem State.wakeEvent_only (a0 : _) (a1 : _) :
    Only [.sys, .msh, .host, .sent, .chn] a0 (State.wakeEvent a0 a1) := by
  unfold State.wakeEvent
  split
  · exact (Only.refl _ _)
  · refine Only.step (State.modSleep_only ..) rfl ?_
    exact (Only.refl _ _)
  · split
    · refine Only.step (State.modSleep_only ..) rfl ?_
      exact (Only.refl _ _)
    · extract_lets +onlyGivenNames x1
      refine Only.keep x1 ?_ ?_
      · unfold x1
        refine Only.step (State.sysChanged_only ..) rfl ?_
        refine Only.step (State.modMsh_only ..) rfl ?_
        refine Only.step (State.finalOpt_only ..) rfl ?_
        refine Only.step (State.modSleep_only ..) rfl ?_
        exact (Only.refl _ _)
      intro h1
      clear_value x1
      refine Only.ite ?_ ?_
      · refine Only.step (State.originate_only ..) rfl ?_
        exact h1
      · refine Only.step (State.originate_only ..) rfl ?_
        exact h1
    · extract_lets +onlyGivenNames x2
      refine Only.keep x2 ?_ ?_
      · unfold x2
        refine Only.step (State.sysChanged_only ..) rfl ?_
        refine Only.step (State.modMsh_only ..) rfl ?_
        refine Only.step (State.finalOpt_only ..) rfl ?_
        refine Only.step (State.modSleep_only ..) rfl ?_
        exact (Only.refl _ _)
      intro h2
      clear_value x2
      refine Only.ite ?_ ?_
      · refine Only.step (State.originate_only ..) rfl ?_
        exact h2
      · refine Only.step (State.originate_only ..) rfl ?_
        exact h2
    · exact (Only.refl _ _)

theorem State.hostActive_only (a0 : _) (a1 : _) :
    Only [.sys, .msh, .host, .sent, .chn] a0 (State.hostActive a0 a1) := by
  unfold State.hostActive
  refine Only.ite ?_ ?_
  · refine Only.step (State.wakeEvent_only ..) rfl ?_
    exact (Only.refl _ _)
  · exact (Only.refl _ _)

theorem State.violAnswer_only (a0 : _) (a1 : _) (a2 : _) (a3 : _) (a4 : _) :
    Only [.sent] a0 (State.violAnswer a0 a1 a2 a3 a4) := by
  unfold State.violAnswer
  refine Only.ite ?_ ?_
  · exact (Only.refl _ _)
  · split
    · refine Only.step (State.emit_only ..) rfl ?_
      exact (Only.refl _ _)
    · refine Only.step (State.emit_only ..) rfl ?_
      exact (Only.refl _ _)

theorem State.violation_only (a0 : _) (a1 : _) (a2 : _) (a3 : _) (a4 : _) :
    Only [.host, .sent] a0 (State.violation a0 a1 a2 a3 a4) := by
  unfold State.violation
  extract_lets +onlyGivenNames x1
  extract_lets +onlyGivenNames x2
  extract_lets +onlyGivenNames x3
  refine Only.step (State.irq_only ..) rfl ?_
  refine Only.step (State.count_only ..) rfl ?_
  refine Only.step (State.modGuest_only ..) rfl ?_
  exact (Only.refl _ _)

theorem State.badAccess_only (a0 : _) (a1 : _) (a2 : _) (a3 : _) (a4 : _) (a5 : _) (a6 : _) :
    Only [.host, .sent] a0 (State.badAccess a0 a1 a2 a3 a4 a5 a6) := by
  unfold State.badAccess
  split
  · exact (Only.refl _ _)
  · refine Only.ite ?_ ?_
    · exact (Only.refl _ _)
    · extract_lets +onlyGivenNames x1
      refine Only.step (State.violAnswer_only ..) rfl ?_
      refine Only.step (State.violation_only ..) rfl ?_
      exact (Only.refl _ _)

theorem State.access_only {ps : List Part} {s t : State} {path : Path} {g : Guest} {off be : Nat} {write shape : Bool} {f : State → State}
    (w : within [.sys, .msh, .host, .sent, .chn] ps = true) (k : ∀ u, Only ps s u → Only ps s (f u)) (q : Only ps s t) :
    Only ps s (t.access path g off write be shape f) := by
  have w1 : ∀ {qs}, within qs [.sys, .msh, .host, .sent, .chn] = true → within qs ps = true := fun h => within_trans h w
  unfold State.access
  refine Only.ite (Only.ite (Only.step (State.emit_only ..) (w1 rfl) q) q) (Only.step (State.hostActive_only ..) w ?_)
  exact Only.ite q (Only.ite (Only.step (State.badAccess_only ..) (w1 rfl) q) (k _ q))

theorem State.storeMirror_only (a0 : _) (a1 : _) :
    Only [.chn] a0 (State.storeMirror a0 a1) := by
  unfold State.storeMirror
  refine Only.step (State.chnRaise_only ..) rfl ?_
  refine Only.step (State.modChn_only ..) rfl ?_
  exact (Only.refl _ _)

theorem State.mirrorBody_only (a0 : _) (a1 : _) (a2 : _) (a3 : _) :
    Only [.msh, .sent, .chn] a0 (State.mirrorBody a0 a1 a2 a3) := by
  unfold State.mirrorBody
  refine Only.ite ?_ ?_
  · extract_lets +onlyGivenNames x1
    refine Only.ite ?_ ?_
    · refine Only.step (State.storeMirror_only ..) rfl ?_
      exact (Only.refl _ _)
    · refine Only.step (State.originate_only ..) rfl ?_
      exact (Only.refl _ _)
  · exact (Only.refl _ _)

theorem State.mirrorEv_only (a0 : _) (a1 : _) (a2 : _) (a3 : _) :
    Only [.msh, .sent, .chn] a0 (State.mirrorEv a0 a1 a2 a3) := by
  unfold State.mirrorEv
  refine Only.step (State.mirrorBody_only ..) rfl ?_
  exact (Only.refl _ _)

theorem State.modFw_only (a0 : _) (a1 : _) :
    Only [.fw] a0 (State.modFw a0 a1) := by
  constructor; intro p hp; cases p <;> first | rfl | exact absurd (by decide) hp

theorem State.modAct_only (a0 : _) (a1 : _) :
    Only [.fw] a0 (State.modAct a0 a1) := by
  unfold State.modAct
  refine Only.step (State.modFw_only ..) rfl ?_
  exact (Only.refl _ _)

theorem State.actEnd_only (a0 : _) (a1 : _) (a2 : _) :
    Only [.msh, .host, .fw, .sent, .chn] a0 (State.actEnd a0 a1 a2) := by
  unfold State.actEnd
  extract_lets +onlyGivenNames x1
  refine Only.keep x1 ?_ ?_
  · unfold x1
    refine Only.step (State.finalOpt_only ..) rfl ?_
    refine Only.step (State.modAct_only ..) rfl ?_
    exact (Only.refl _ _)
  intro h1
  clear_value x1
  refine Only.ite ?_ ?_
  · refine Only.step (State.mirrorEv_only ..) rfl ?_
    exact h1
  · exact h1

theorem State.updRaise_only (a0 : _) (a1 : _) :
    Only [.fw] a0 (State.updRaise a0 a1) := by
  unfold State.updRaise
  refine Only.step (State.modFw_only ..) rfl ?_
  exact (Only.refl _ _)

theorem State.activated_only (a0 : _) :
    Only [.msh, .host, .fw, .sent, .chn] a0 (State.activated a0) := by
  unfold State.activated
  refine Only.step (State.updRaise_only ..) rfl ?_
  refine Only.step (State.actEnd_only ..) rfl ?_
  exact (Only.refl _ _)

theorem State.ripenConf_only (a0 : _) :
    Only [.jnl] a0 (State.ripenConf a0) := by
  unfold State.ripenConf
  refine Only.ite ?_ ?_
  · refine Only.step (State.modJnl_only ..) rfl ?_
    exact (Only.refl _ _)
  · refine Only.ite ?_ ?_
    · exact (Only.refl _ _)
    · refine Only.step (State.modJnl_only ..) rfl ?_
      exact (Only.refl _ _)

theorem State.ripenFor_only (a0 : _) (a1 : _) :
    Only [.jnl] a0 (State.ripenFor a0 a1) := by
  unfold State.ripenFor
  refine Only.ite ?_ ?_
  · refine Only.step (State.ripenConf_only ..) rfl ?_
    exact (Only.refl _ _)
  · exact (Only.refl _ _)

theorem State.appendConf_only (a0 : _) (a1 : _) :
    Only [.jnl] a0 (State.appendConf a0 a1) := by
  unfold State.appendConf
  extract_lets +onlyGivenNames x1
  refine Only.keep x1 ?_ ?_
  · unfold x1
    refine Only.step (State.modJnl_only ..) rfl ?_
    exact (Only.refl _ _)
  intro h1
  clear_value x1
  refine Only.ite ?_ ?_
  · refine Only.step (State.ripenConf_only ..) rfl ?_
    exact h1
  · exact h1

theorem State.sendSite_only (a0 : _) (a1 : _) :
    Only [.msh, .sent, .chn] a0 (State.sendSite a0 a1) := by
  unfold State.sendSite
  refine Only.foldl (fun u1 a1x h1 => ?_) ?_
  · refine Only.step (State.originate_only ..) rfl ?_
    exact h1
  · exact (Only.refl _ _)

theorem State.propose_only (a0 : _) :
    Only [.msh, .sent, .chn] a0 (State.propose a0) := by
  unfold State.propose
  refine Only.ite ?_ ?_
  · exact (Only.refl _ _)
  · split
    · exact (Only.refl _ _)
    · extract_lets +onlyGivenNames x1
      extract_lets +onlyGivenNames x2
      refine Only.step (State.sendSite_only ..) rfl ?_
      refine Only.step (State.modChn_only ..) rfl ?_
      exact (Only.refl _ _)

theorem State.modConf_only (a0 : _) (a1 : _) :
    Only [.conf] a0 (State.modConf a0 a1) := by
  constructor; intro p hp; cases p <;> first | rfl | exact absurd (by decide) hp

theorem State.record_only (a0 : _) (a1 : _) :
    Only [.jnl, .msh, .conf, .sent, .chn] a0 (State.record a0 a1) := by
  unfold State.record
  extract_lets +onlyGivenNames x1
  extract_lets +onlyGivenNames x2
  extract_lets +onlyGivenNames x3
  refine Only.keep x3 ?_ ?_
  · unfold x3
    refine Only.step (State.appendConf_only ..) rfl ?_
    exact (Only.refl _ _)
  intro h1
  clear_value x3
  refine Only.step (State.propose_only ..) rfl ?_
  refine Only.step (State.modConf_only ..) rfl ?_
  exact h1

theorem State.answer_only (a0 : _) (a1 : _) (a2 : _) (a3 : _) :
    Only [.host] a0 (State.answer a0 a1 a2 a3) := by
  unfold State.answer
  refine Only.step (State.modHost_only ..) rfl ?_
  exact (Only.refl _ _)

theorem State.commit_only (a0 : _) (a1 : _) (a2 : _) :
    Only [.jnl, .msh, .host, .conf, .sent, .chn] a0 (State.commit a0 a1 a2) := by
  unfold State.commit
  refine Only.ite ?_ ?_
  · refine Only.step (State.answer_only ..) rfl ?_
    exact (Only.refl _ _)
  · refine Only.ite ?_ ?_
    · refine Only.step (State.ripenFor_only ..) rfl ?_
      refine Only.step (State.answer_only ..) rfl ?_
      exact (Only.refl _ _)
    · split
      · refine Only.step (State.answer_only ..) rfl ?_
        exact (Only.refl _ _)
      · extract_lets +onlyGivenNames x1
        refine Only.keep x1 ?_ ?_
        · unfold x1
          refine Only.step (State.record_only ..) rfl ?_
          exact (Only.refl _ _)
        intro h1
        clear_value x1
        refine Only.step (State.answer_only ..) rfl ?_
        exact h1

theorem State.setOpen_only (a0 : _) (a1 : _) (a2 : _) :
    Only [.conf] a0 (State.setOpen a0 a1 a2) := by
  unfold State.setOpen
  refine Only.step (State.modConf_only ..) rfl ?_
  exact (Only.refl _ _)

theorem State.addItem_only (a0 : _) (a1 : _) (a2 : _) :
    Only [.jnl, .msh, .host, .conf, .sent, .chn] a0 (State.addItem a0 a1 a2) := by
  unfold State.addItem
  refine Only.ite ?_ ?_
  · split
    · refine Only.step (State.answer_only ..) rfl ?_
      exact (Only.refl _ _)
    · refine Only.ite ?_ ?_
      · refine Only.step (State.answer_only ..) rfl ?_
        exact (Only.refl _ _)
      · refine Only.step (State.answer_only ..) rfl ?_
        refine Only.step (State.setOpen_only ..) rfl ?_
        exact (Only.refl _ _)
  · refine Only.step (State.commit_only ..) rfl ?_
    exact (Only.refl _ _)

theorem State.modPmLink_only (a0 : _) (a1 : _) (a2 : _) :
    Only [.pm] a0 (State.modPmLink a0 a1 a2) := by
  constructor; intro p hp; cases p <;> first | rfl | exact absurd (by decide) hp

theorem State.pmSend_only (a0 : _) (a1 : _) (a2 : _) (a3 : _) (a4 : _) (a5 : _) :
    Only [.pm, .sent] a0 (State.pmSend a0 a1 a2 a3 a4 a5) := by
  unfold State.pmSend
  extract_lets +onlyGivenNames x1
  refine Only.ite ?_ ?_
  · refine Only.step (State.emit_only ..) rfl ?_
    refine Only.step (State.modPmLink_only ..) rfl ?_
    exact (Only.refl _ _)
  · exact (Only.refl _ _)

theorem State.portSend_only (a0 : _) (a1 : _) (a2 : _) (a3 : _) :
    Only [.pm, .sent] a0 (State.portSend a0 a1 a2 a3) := by
  unfold State.portSend
  split
  · refine Only.step (State.pmSend_only ..) rfl ?_
    exact (Only.refl _ _)
  · exact (Only.refl _ _)

theorem State.modPwr_only (a0 : _) (a1 : _) (a2 : _) :
    Only [.pwr] a0 (State.modPwr a0 a1 a2) := by
  constructor; intro p hp; cases p <;> first | rfl | exact absurd (by decide) hp

theorem State.sendAcked_only (a0 : _) (a1 : _) (a2 : _) (a3 : _) :
    Only [.pm, .sent, .pwr] a0 (State.sendAcked a0 a1 a2 a3) := by
  unfold State.sendAcked
  split
  · exact (Only.refl _ _)
  · extract_lets +onlyGivenNames x1
    refine Only.ite ?_ ?_
    · extract_lets +onlyGivenNames x2
      extract_lets +onlyGivenNames x3
      refine Only.keep x3 ?_ ?_
      · unfold x3
        refine Only.step (State.modPwr_only ..) rfl ?_
        refine Only.step (State.portSend_only ..) rfl ?_
        exact (Only.refl _ _)
      intro h1
      clear_value x3
      refine Only.ite ?_ ?_
      · refine Only.step (State.modPmLink_only ..) rfl ?_
        exact h1
      · exact h1
    · exact (Only.refl _ _)

theorem State.enable_only (a0 : _) (a1 : _) :
    Only [.pm, .sent, .pwr] a0 (State.enable a0 a1) := by
  unfold State.enable
  refine Only.ite ?_ ?_
  · refine Only.step (State.sendAcked_only ..) rfl ?_
    refine Only.step (State.modPwr_only ..) rfl ?_
    exact (Only.refl _ _)
  · exact (Only.refl _ _)

theorem State.beginPrecharge_only (a0 : _) (a1 : _) :
    Only [.pm, .sent, .pwr] a0 (State.beginPrecharge a0 a1) := by
  unfold State.beginPrecharge
  refine Only.step (State.enable_only ..) rfl ?_
  refine Only.step (State.modPwr_only ..) rfl ?_
  exact (Only.refl _ _)

theorem State.prepPrecharge_only (a0 : _) (a1 : _) :
    Only [.ses, .pm, .sent, .pwr] a0 (State.prepPrecharge a0 a1) := by
  unfold State.prepPrecharge
  extract_lets +onlyGivenNames x1
  refine Only.ite ?_ ?_
  · exact (Only.refl _ _)
  · refine Only.ite ?_ ?_
    · refine Only.step (State.modSes_only ..) rfl ?_
      exact (Only.refl _ _)
    · refine Only.ite ?_ ?_
      · refine Only.step (State.beginPrecharge_only ..) rfl ?_
        exact (Only.refl _ _)
      · exact (Only.refl _ _)

theorem State.askSafety_only (a0 : _) (a1 : _) (a2 : _) (a3 : _) :
    Only [.sys, .sent] a0 (State.askSafety a0 a1 a2 a3) := by
  unfold State.askSafety
  extract_lets +onlyGivenNames x1
  refine Only.step (State.emit_only ..) rfl ?_
  refine Only.step (State.modSys_only ..) rfl ?_
  exact (Only.refl _ _)

theorem State.modVeh_only (a0 : _) (a1 : _) (a2 : _) :
    Only [.veh] a0 (State.modVeh a0 a1 a2) := by
  constructor; intro p hp; cases p <;> first | rfl | exact absurd (by decide) hp

theorem State.drive_only (a0 : _) (a1 : _) (a2 : _) :
    Only [.veh] a0 (State.drive a0 a1 a2) := by
  unfold State.drive
  refine Only.step (State.modVeh_only ..) rfl ?_
  exact (Only.refl _ _)

theorem State.refreshPwm_only (a0 : _) (a1 : _) :
    Only [.veh, .sent] a0 (State.refreshPwm a0 a1) := by
  unfold State.refreshPwm
  extract_lets +onlyGivenNames x1
  refine Only.ite ?_ ?_
  · exact (Only.refl _ _)
  · split
    · extract_lets +onlyGivenNames x2
      refine Only.ite ?_ ?_
      · exact (Only.refl _ _)
      · refine Only.step (State.drive_only ..) rfl ?_
        exact (Only.refl _ _)
    · refine Only.step (State.emit_only ..) rfl ?_
      exact (Only.refl _ _)
    · exact (Only.refl _ _)

theorem State.pwrRaise_only (a0 : _) (a1 : _) (a2 : _) :
    Only [.host, .sent, .pwr] a0 (State.pwrRaise a0 a1 a2) := by
  have h : Only [.host, .sent, .pwr] a0 (a0.each (n := 16)
      fun g u => if a0.seesPort g a1 && (a2 &&& ~~~ix (a0.pwrAt a1).ev g) != 0 then u.irq g (19 + a1.1) else u) := by
    refine Only.each (fun g u h => ?_) (Only.refl _ _)
    exact Only.ite (Only.step (State.irq_only ..) rfl h) h
  unfold State.pwrRaise
  dsimp only
  generalize a0.each (n := 16) _ = t at h ⊢
  constructor; intro p hp
  have := h.same p hp
  cases p <;> first | exact this | exact absurd (by decide) hp

theorem State.retarget_only (a0 : _) (a1 : _) :
    Only [.pwr] a0 (State.retarget a0 a1) := by
  unfold State.retarget
  refine Only.step (State.modPwr_only ..) rfl ?_
  exact (Only.refl _ _)

theorem State.setCap_only (a0 : _) (a1 : _) (a2 : _) :
    Only [.host, .veh, .sent, .pwr] a0 (State.setCap a0 a1 a2) := by
  unfold State.setCap
  refine Only.ite ?_ ?_
  · exact (Only.refl _ _)
  · refine Only.step (State.refreshPwm_only ..) rfl ?_
    refine Only.step (State.retarget_only ..) rfl ?_
    refine Only.step (State.pwrRaise_only ..) rfl ?_
    refine Only.step (State.modPwr_only ..) rfl ?_
    exact (Only.refl _ _)

theorem State.divide_only (a0 : _) :
    Only [.host, .veh, .sent, .pwr] a0 (State.divide a0) := by
  unfold State.divide
  extract_lets +onlyGivenNames x1
  extract_lets +onlyGivenNames x2
  extract_lets +onlyGivenNames x3
  extract_lets +onlyGivenNames x4
  refine Only.keep x4 ?_ ?_
  · unfold x4
    refine Only.each (fun a1x u1 h1 => ?_) ?_
    · refine Only.ite ?_ ?_
      · refine Only.step (State.setCap_only ..) rfl ?_
        exact h1
      · exact h1
    · exact (Only.refl _ _)
  intro h2
  clear_value x4
  extract_lets +onlyGivenNames x5
  refine Only.keep x5 ?_ ?_
  · unfold x5
    refine Only.each (fun a2x u2 h3 => ?_) ?_
    · refine Only.ite ?_ ?_
      · extract_lets +onlyGivenNames x6
        refine Only.step (State.setCap_only ..) rfl ?_
        exact h3
      · exact h3
    · exact h2
  intro h4
  clear_value x5
  refine Only.each (fun a3x u3 h5 => ?_) ?_
  · refine Only.step (State.modPwr_only ..) rfl ?_
    exact h5
  · exact h4

theorem State.sesTo_only (a0 : _) (a1 : _) (a2 : _) :
    Only [.ses] a0 (State.sesTo a0 a1 a2) := by
  unfold State.sesTo
  refine Only.step (State.modSes_only ..) rfl ?_
  exact (Only.refl _ _)

theorem State.prepClose_only (a0 : _) (a1 : _) :
    Only [.ses, .sys, .host, .veh, .sent, .pwr] a0 (State.prepClose a0 a1) := by
  unfold State.prepClose
  extract_lets +onlyGivenNames x1
  extract_lets +onlyGivenNames x2
  refine Only.ite ?_ ?_
  · refine Only.step (State.divide_only ..) rfl ?_
    refine Only.step (State.askSafety_only ..) rfl ?_
    refine Only.step (State.sesTo_only ..) rfl ?_
    exact (Only.refl _ _)
  · exact (Only.refl _ _)

theorem State.prepLock_only (a0 : _) (a1 : _) :
    Only [.ses] a0 (State.prepLock a0 a1) := by
  unfold State.prepLock
  refine Only.ite ?_ ?_
  · refine Only.step (State.modSes_only ..) rfl ?_
    exact (Only.refl _ _)
  · exact (Only.refl _ _)

theorem State.prepInsulation_only (a0 : _) (a1 : _) :
    Only [.ses, .sys, .sent] a0 (State.prepInsulation a0 a1) := by
  unfold State.prepInsulation
  extract_lets +onlyGivenNames x1
  refine Only.ite ?_ ?_
  · exact (Only.refl _ _)
  · refine Only.ite ?_ ?_
    · refine Only.step (State.modSes_only ..) rfl ?_
      exact (Only.refl _ _)
    · refine Only.ite ?_ ?_
      · refine Only.step (State.askSafety_only ..) rfl ?_
        refine Only.step (State.modSes_only ..) rfl ?_
        exact (Only.refl _ _)
      · exact (Only.refl _ _)

theorem State.advance_only (a0 : _) (a1 : _) :
    Only [.ses, .sys, .pm, .host, .veh, .sent, .pwr] a0 (State.advance a0 a1) := by
  unfold State.advance
  refine Only.ite ?_ ?_
  · exact (Only.refl _ _)
  · refine Only.step (State.prepClose_only ..) rfl ?_
    refine Only.step (State.prepPrecharge_only ..) rfl ?_
    refine Only.step (State.prepInsulation_only ..) rfl ?_
    refine Only.step (State.prepLock_only ..) rfl ?_
    exact (Only.refl _ _)

theorem State.useRing_only (a0 : _) (a1 : _) (a2 : _) (a3 : _) (a4 : _) :
    Only [.host, .sent] a0 (State.useRing a0 a1 a2 a3 a4) := by
  unfold State.useRing
  split
  · extract_lets +onlyGivenNames x1
    extract_lets +onlyGivenNames x2
    extract_lets +onlyGivenNames x3
    refine Only.keep x3 ?_ ?_
    · unfold x3
      refine Only.step (State.modGuest_only ..) rfl ?_
      exact (Only.refl _ _)
    intro h1
    clear_value x3
    extract_lets +onlyGivenNames x4
    refine Only.keep x4 ?_ ?_
    · unfold x4
      refine Only.step (State.modSent_only ..) rfl ?_
      exact h1
    intro h2
    clear_value x4
    refine Only.ite ?_ ?_
    · refine Only.step (State.irq_only ..) rfl ?_
      refine Only.step (State.count_only ..) rfl ?_
      refine Only.step (State.modGuest_only ..) rfl ?_
      exact h2
    · exact h2
  · exact (Only.refl _ _)

theorem State.endRing_only (a0 : _) (a1 : _) (a2 : _) (a3 : _) (a4 : _) :
    Only [.host, .sent] a0 (State.endRing a0 a1 a2 a3 a4) := by
  unfold State.endRing
  refine Only.step (State.answer_only ..) rfl ?_
  refine Only.step (State.useRing_only ..) rfl ?_
  exact (Only.refl _ _)

theorem State.answerRing_only (a0 : _) (a1 : _) (a2 : _) (a3 : _) (a4 : _) :
    Only [.host, .sent] a0 (State.answerRing a0 a1 a2 a3 a4) := by
  unfold State.answerRing
  extract_lets +onlyGivenNames x1
  refine Only.ite ?_ ?_
  · refine Only.step (State.answer_only ..) rfl ?_
    refine Only.step (State.useRing_only ..) rfl ?_
    refine Only.step (State.emit_only ..) rfl ?_
    exact (Only.refl _ _)
  · refine Only.step (State.endRing_only ..) rfl ?_
    exact (Only.refl _ _)

theorem State.dropApplied_only (a0 : _) :
    Only [.conf] a0 (State.dropApplied a0) := by
  unfold State.dropApplied
  refine Only.step (State.modConf_only ..) rfl ?_
  exact (Only.refl _ _)

theorem State.modCfg_only (a0 : _) (a1 : _) :
    Only [.conf] a0 (State.modCfg a0 a1) := by
  unfold State.modCfg
  refine Only.step (State.modConf_only ..) rfl ?_
  exact (Only.refl _ _)

theorem State.safeSend_only (a0 : _) (a1 : _) (a2 : _) (a3 : _) :
    Only [.sent, .saf] a0 (State.safeSend a0 a1 a2 a3) := by
  unfold State.safeSend
  extract_lets +onlyGivenNames x1
  extract_lets +onlyGivenNames x2
  refine Only.keep x2 ?_ ?_
  · unfold x2
    refine Only.step (State.modSaf_only ..) rfl ?_
    exact (Only.refl _ _)
  intro h1
  clear_value x2
  refine Only.ite ?_ ?_
  · refine Only.step (State.emit_only ..) rfl ?_
    exact h1
  · refine Only.step (State.modSaf_only ..) rfl ?_
    exact h1

theorem State.portMsg_only (a0 : _) (a1 : _) :
    Only [.sp, .sent, .saf] a0 (State.portMsg a0 a1) := by
  unfold State.portMsg
  refine Only.step (State.safeSend_only ..) rfl ?_
  refine Only.step (State.modSp_only ..) rfl ?_
  exact (Only.refl _ _)

theorem State.irqSafe_only (a0 : _) (a1 : _) :
    Only [.host, .sent] a0 (State.irqSafe a0 a1) := by
  unfold State.irqSafe
  refine Only.each (fun a1x u1 h1 => ?_) ?_
  · refine Only.ite ?_ ?_
    · refine Only.step (State.irq_only ..) rfl ?_
      exact h1
    · exact h1
  · exact (Only.refl _ _)

theorem State.setPort_only (a0 : _) (a1 : _) (a2 : _) :
    Only [.sp, .host, .sent, .saf] a0 (State.setPort a0 a1 a2) := by
  unfold State.setPort
  refine Only.ite ?_ ?_
  · exact (Only.refl _ _)
  · refine Only.step (State.portMsg_only ..) rfl ?_
    refine Only.step (State.irqSafe_only ..) rfl ?_
    refine Only.step (State.modSp_only ..) rfl ?_
    exact (Only.refl _ _)

theorem State.toBlocked_only (a0 : _) (a1 : _) :
    Only [.sp, .host, .sent, .saf] a0 (State.toBlocked a0 a1) := by
  unfold State.toBlocked
  refine Only.ite ?_ ?_
  · refine Only.step (State.setPort_only ..) rfl ?_
    refine Only.step (State.modSp_only ..) rfl ?_
    exact (Only.refl _ _)
  · exact (Only.refl _ _)

theorem State.checkBlocked_only (a0 : _) (a1 : _) :
    Only [.sp, .host, .sent, .saf] a0 (State.checkBlocked a0 a1) := by
  unfold State.checkBlocked
  extract_lets +onlyGivenNames x1
  refine Only.keep x1 ?_ ?_
  · unfold x1
    refine Only.step (State.modSp_only ..) rfl ?_
    refine Only.step (State.toBlocked_only ..) rfl ?_
    exact (Only.refl _ _)
  intro h1
  clear_value x1
  extract_lets +onlyGivenNames x2
  refine Only.ite ?_ ?_
  · refine Only.step (State.setPort_only ..) rfl ?_
    exact h1
  · exact h1

theorem State.modMet_only (a0 : _) (a1 : _) (a2 : _) :
    Only [.met] a0 (State.modMet a0 a1 a2) := by
  constructor; intro p hp; cases p <;> first | rfl | exact absurd (by decide) hp

theorem State.endMeasure_only (a0 : _) (a1 : _) (a2 : _) :
    Only [.met, .host] a0 (State.endMeasure a0 a1 a2) := by
  unfold State.endMeasure
  split
  · refine Only.step (State.modMet_only ..) rfl ?_
    refine Only.step (State.final_only ..) rfl ?_
    exact (Only.refl _ _)
  · exact (Only.refl _ _)

theorem State.modNfc_only (a0 : _) (a1 : _) :
    Only [.nfc] a0 (State.modNfc a0 a1) := by
  constructor; intro p hp; cases p <;> first | rfl | exact absurd (by decide) hp

theorem State.modTag_only (a0 : _) (a1 : _) :
    Only [.nfc] a0 (State.modTag a0 a1) := by
  unfold State.modTag
  refine Only.step (State.modNfc_only ..) rfl ?_
  exact (Only.refl _ _)

theorem State.modLegal_only (a0 : _) (a1 : _) :
    Only [.legal] a0 (State.modLegal a0 a1) := by
  constructor; intro p hp; cases p <;> first | rfl | exact absurd (by decide) hp

theorem State.modInput_only (a0 : _) (a1 : _) (a2 : _) :
    Only [.legal] a0 (State.modInput a0 a1 a2) := by
  unfold State.modInput
  refine Only.step (State.modLegal_only ..) rfl ?_
  exact (Only.refl _ _)

theorem State.cancelCross_only (a0 : _) (a1 : _) :
    Only [.host, .legal] a0 (State.cancelCross a0 a1) := by
  unfold State.cancelCross
  split
  · refine Only.step (State.finalOpt_only ..) rfl ?_
    refine Only.step (State.modInput_only ..) rfl ?_
    exact (Only.refl _ _)
  · exact (Only.refl _ _)

theorem State.vpRaise_only (a0 : _) (a1 : _) (a2 : _) :
    Only [.cave, .host, .veh, .sent] a0 (State.vpRaise a0 a1 a2) := by
  unfold State.vpRaise
  refine Only.step (State.pendPort_only ..) rfl ?_
  refine Only.step (State.service_only ..) rfl ?_
  refine Only.step (State.modVeh_only ..) rfl ?_
  exact (Only.refl _ _)

theorem State.linkTo_only (a0 : _) (a1 : _) (a2 : _) :
    Only [.cave, .host, .veh, .sent] a0 (State.linkTo a0 a1 a2) := by
  unfold State.linkTo
  extract_lets +onlyGivenNames x1
  refine Only.keep x1 ?_ ?_
  · unfold x1
    refine Only.step (State.modVeh_only ..) rfl ?_
    exact (Only.refl _ _)
  intro h1
  clear_value x1
  refine Only.ite ?_ ?_
  · refine Only.step (State.vpRaise_only ..) rfl ?_
    exact h1
  · exact h1

theorem State.portOn_only (a0 : _) (a1 : _) :
    Only [.ses, .cave, .host, .veh, .sent] a0 (State.portOn a0 a1) := by
  unfold State.portOn
  refine Only.ite ?_ ?_
  · exact (Only.refl _ _)
  · refine Only.step (State.modSes_only ..) rfl ?_
    refine Only.step (State.modVeh_only ..) rfl ?_
    refine Only.step (State.linkTo_only ..) rfl ?_
    exact (Only.refl _ _)

theorem State.dropProtocol_only (a0 : _) (a1 : _) :
    Only [.veh] a0 (State.dropProtocol a0 a1) := by
  unfold State.dropProtocol
  refine Only.step (State.modVeh_only ..) rfl ?_
  exact (Only.refl _ _)

theorem State.clearLink_only (a0 : _) (a1 : _) :
    Only [.veh] a0 (State.clearLink a0 a1) := by
  unfold State.clearLink
  refine Only.step (State.modVeh_only ..) rfl ?_
  refine Only.step (State.dropProtocol_only ..) rfl ?_
  exact (Only.refl _ _)

theorem State.clearIdle_only (a0 : _) (a1 : _) :
    Only [.veh] a0 (State.clearIdle a0 a1) := by
  unfold State.clearIdle
  refine Only.step (State.modVeh_only ..) rfl ?_
  refine Only.step (State.clearLink_only ..) rfl ?_
  exact (Only.refl _ _)

theorem State.modLk_only (a0 : _) (a1 : _) (a2 : _) :
    Only [.lk] a0 (State.modLk a0 a1 a2) := by
  constructor; intro p hp; cases p <;> first | rfl | exact absurd (by decide) hp

theorem State.modLock_only (a0 : _) (a1 : _) (a2 : _) :
    Only [.veh] a0 (State.modLock a0 a1 a2) := by
  unfold State.modLock
  refine Only.step (State.modVeh_only ..) rfl ?_
  exact (Only.refl _ _)

theorem State.startDrive_only (a0 : _) (a1 : _) (a2 : _) :
    Only [.lk] a0 (State.startDrive a0 a1 a2) := by
  unfold State.startDrive
  extract_lets +onlyGivenNames x1
  refine Only.ite ?_ ?_
  · refine Only.step (State.modLk_only ..) rfl ?_
    exact (Only.refl _ _)
  · extract_lets +onlyGivenNames x2
    extract_lets +onlyGivenNames x3
    refine Only.ite ?_ ?_
    · refine Only.step (State.modLk_only ..) rfl ?_
      exact (Only.refl _ _)
    · refine Only.step (State.modLk_only ..) rfl ?_
      exact (Only.refl _ _)

theorem State.lockAttempt_only (a0 : _) (a1 : _) :
    Only [.veh, .lk] a0 (State.lockAttempt a0 a1) := by
  unfold State.lockAttempt
  extract_lets +onlyGivenNames x1
  refine Only.step (State.startDrive_only ..) rfl ?_
  refine Only.step (State.modLock_only ..) rfl ?_
  exact (Only.refl _ _)

theorem State.startLock_only (a0 : _) (a1 : _) (a2 : _) (a3 : _) :
    Only [.veh, .lk] a0 (State.startLock a0 a1 a2 a3) := by
  unfold State.startLock
  refine Only.ite ?_ ?_
  · exact (Only.refl _ _)
  · refine Only.ite ?_ ?_
    · refine Only.step (State.modLock_only ..) rfl ?_
      exact (Only.refl _ _)
    · refine Only.step (State.lockAttempt_only ..) rfl ?_
      refine Only.step (State.modLock_only ..) rfl ?_
      exact (Only.refl _ _)

theorem State.lockEnd_only (a0 : _) (a1 : _) (a2 : _) :
    Only [.cave, .host, .veh, .sent, .lk] a0 (State.lockEnd a0 a1 a2) := by
  unfold State.lockEnd
  extract_lets +onlyGivenNames x1
  extract_lets +onlyGivenNames x2
  refine Only.keep x2 ?_ ?_
  · unfold x2
    refine Only.step (State.modLock_only ..) rfl ?_
    exact (Only.refl _ _)
  intro h1
  clear_value x2
  extract_lets +onlyGivenNames x3
  refine Only.keep x3 ?_ ?_
  · unfold x3
    refine Only.ite ?_ ?_
    · refine Only.step (State.vpRaise_only ..) rfl ?_
      exact h1
    · refine Only.ite ?_ ?_
      · refine Only.step (State.vpRaise_only ..) rfl ?_
        exact h1
      · exact h1
  intro h2
  clear_value x3
  extract_lets +onlyGivenNames x4
  refine Only.keep x4 ?_ ?_
  · unfold x4
    refine Only.step (State.finalOpt_only ..) rfl ?_
    exact h2
  intro h3
  clear_value x4
  split
  · refine Only.step (State.startLock_only ..) rfl ?_
    exact h3
  · exact h3

theorem State.stopLock_only (a0 : _) (a1 : _) :
    Only [.cave, .host, .veh, .sent, .lk] a0 (State.stopLock a0 a1) := by
  unfold State.stopLock
  extract_lets +onlyGivenNames x1
  refine Only.keep x1 ?_ ?_
  · unfold x1
    refine Only.step (State.modLock_only ..) rfl ?_
    exact (Only.refl _ _)
  intro h1
  clear_value x1
  split
  · exact h1
  · refine Only.ite ?_ ?_
    · refine Only.step (State.lockEnd_only ..) rfl ?_
      refine Only.step (State.modLk_only ..) rfl ?_
      exact h1
    · refine Only.step (State.modLock_only ..) rfl ?_
      exact h1
  · refine Only.step (State.lockEnd_only ..) rfl ?_
    exact h1
  · refine Only.step (State.lockEnd_only ..) rfl ?_
    exact h1

theorem State.voidNow_only (a0 : _) (a1 : _) (a2 : _) :
    Only [.veh] a0 (State.voidNow a0 a1 a2) := by
  unfold State.voidNow
  refine Only.step (State.modVeh_only ..) rfl ?_
  exact (Only.refl _ _)

theorem State.portOff_only (a0 : _) (a1 : _) :
    Only [.ses, .cave, .host, .veh, .sent, .lk] a0 (State.portOff a0 a1) := by
  unfold State.portOff
  refine Only.ite ?_ ?_
  · refine Only.step (State.drive_only ..) rfl ?_
    exact (Only.refl _ _)
  · extract_lets +onlyGivenNames x1
    refine Only.keep x1 ?_ ?_
    · unfold x1
      refine Only.step (State.modVeh_only ..) rfl ?_
      refine Only.step (State.drive_only ..) rfl ?_
      refine Only.step (State.linkTo_only ..) rfl ?_
      refine Only.step (State.clearIdle_only ..) rfl ?_
      refine Only.step (State.stopLock_only ..) rfl ?_
      refine Only.step (State.voidNow_only ..) rfl ?_
      exact (Only.refl _ _)
    intro h1
    clear_value x1
    refine Only.step (State.modSes_only ..) rfl ?_
    refine Only.step (State.modVeh_only ..) rfl ?_
    exact h1

theorem State.followEnable_only (a0 : _) (a1 : _) :
    Only [.ses, .cave, .host, .veh, .sent, .lk] a0 (State.followEnable a0 a1) := by
  unfold State.followEnable
  refine Only.ite ?_ ?_
  · refine Only.step (State.portOn_only ..) rfl ?_
    exact (Only.refl _ _)
  · refine Only.step (State.portOff_only ..) rfl ?_
    exact (Only.refl _ _)

theorem State.endClaim_only (a0 : _) (a1 : _) :
    Only [.cave, .host, .veh, .sent] a0 (State.endClaim a0 a1) := by
  unfold State.endClaim
  split
  · exact (Only.refl _ _)
  · extract_lets +onlyGivenNames x1
    extract_lets +onlyGivenNames x2
    refine Only.keep x2 ?_ ?_
    · unfold x2
      refine Only.step (State.modVeh_only ..) rfl ?_
      refine Only.step (State.service_only ..) rfl ?_
      refine Only.step (State.modHost_only ..) rfl ?_
      exact (Only.refl _ _)
    intro h1
    clear_value x2
    refine Only.ite ?_ ?_
    · refine Only.step (State.irq_only ..) rfl ?_
      exact h1
    · exact h1

theorem State.modTref_only (a0 : _) (a1 : _) :
    Only [.sys] a0 (State.modTref a0 a1) := by
  unfold State.modTref
  refine Only.step (State.modSys_only ..) rfl ?_
  exact (Only.refl _ _)

theorem State.nfcRaise_only (a0 : _) (a1 : _) :
    Only [.nfc] a0 (State.nfcRaise a0 a1) := by
  unfold State.nfcRaise
  refine Only.step (State.modNfc_only ..) rfl ?_
  exact (Only.refl _ _)

theorem State.modFree_only (a0 : _) (a1 : _) :
    Only [.free] a0 (State.modFree a0 a1) := by
  constructor; intro p hp; cases p <;> first | rfl | exact absurd (by decide) hp

theorem State.tagPower_only (a0 : _) :
    Only [.nfc, .free] a0 (State.tagPower a0) := by
  unfold State.tagPower
  refine Only.ite ?_ ?_
  · exact (Only.refl _ _)
  · refine Only.ite ?_ ?_
    · refine Only.step (State.modTag_only ..) rfl ?_
      exact (Only.refl _ _)
    · extract_lets +onlyGivenNames x1
      refine Only.step (State.modTag_only ..) rfl ?_
      refine Only.step (State.modFree_only ..) rfl ?_
      exact (Only.refl _ _)

theorem State.dropCard_only (a0 : _) :
    Only [.nfc, .free] a0 (State.dropCard a0) := by
  unfold State.dropCard
  refine Only.ite ?_ ?_
  · extract_lets +onlyGivenNames x1
    refine Only.keep x1 ?_ ?_
    · unfold x1
      refine Only.step (State.nfcRaise_only ..) rfl ?_
      refine Only.step (State.modNfc_only ..) rfl ?_
      exact (Only.refl _ _)
    intro h1
    clear_value x1
    refine Only.ite ?_ ?_
    · refine Only.step (State.tagPower_only ..) rfl ?_
      exact h1
    · exact h1
  · exact (Only.refl _ _)

theorem State.releaseHeld_only (a0 : _) :
    Only [.nfc, .free] a0 (State.releaseHeld a0) := by
  unfold State.releaseHeld
  split
  · refine Only.step (State.dropCard_only ..) rfl ?_
    refine Only.step (State.modNfc_only ..) rfl ?_
    exact (Only.refl _ _)
  · exact (Only.refl _ _)

theorem State.setCave_only (a0 : _) (a1 : _) :
    Only [.cave] a0 (State.setCave a0 a1) := by
  unfold State.setCave
  refine Only.ite ?_ ?_
  · exact (Only.refl _ _)
  · refine Only.step (State.caveRaise_only ..) rfl ?_
    refine Only.step (State.modCave_only ..) rfl ?_
    exact (Only.refl _ _)

theorem State.flushLink_only (a0 : _) (a1 : _) :
    Only [.chn] a0 (State.flushLink a0 a1) := by
  unfold State.flushLink
  extract_lets +onlyGivenNames x1
  extract_lets +onlyGivenNames x2
  refine Only.keep x2 ?_ ?_
  · unfold x2
    refine Only.step (State.modChLink_only ..) rfl ?_
    exact (Only.refl _ _)
  intro h1
  clear_value x2
  refine Only.ite ?_ ?_
  · exact h1
  · refine Only.step (State.chnRaise_only ..) rfl ?_
    refine Only.step (State.modChn_only ..) rfl ?_
    exact h1

theorem State.liftBlock_only (a0 : _) :
    Only [.msh, .sent, .chn] a0 (State.liftBlock a0) := by
  unfold State.liftBlock
  refine Only.step (State.originate_only ..) rfl ?_
  refine Only.step (State.chnRaise_only ..) rfl ?_
  refine Only.step (State.modChn_only ..) rfl ?_
  exact (Only.refl _ _)

theorem State.setLink_only (a0 : _) (a1 : _) (a2 : _) :
    Only [.msh, .sent, .chn] a0 (State.setLink a0 a1 a2) := by
  unfold State.setLink
  extract_lets +onlyGivenNames x1
  refine Only.ite ?_ ?_
  · exact (Only.refl _ _)
  · extract_lets +onlyGivenNames x2
    refine Only.keep x2 ?_ ?_
    · unfold x2
      refine Only.step (State.chnRaise_only ..) rfl ?_
      refine Only.step (State.modChLink_only ..) rfl ?_
      exact (Only.refl _ _)
    intro h1
    clear_value x2
    extract_lets +onlyGivenNames x3
    refine Only.keep x3 ?_ ?_
    · unfold x3
      refine Only.ite ?_ ?_
      · refine Only.step (State.flushLink_only ..) rfl ?_
        exact h1
      · exact h1
    intro h2
    clear_value x3
    extract_lets +onlyGivenNames x4
    refine Only.keep x4 ?_ ?_
    · unfold x4
      refine Only.ite ?_ ?_
      · refine Only.step (State.originate_only ..) rfl ?_
        exact h2
      · exact h2
    intro h3
    clear_value x4
    extract_lets +onlyGivenNames x5
    refine Only.keep x5 ?_ ?_
    · unfold x5
      refine Only.ite ?_ ?_
      · refine Only.step (State.liftBlock_only ..) rfl ?_
        exact h3
      · exact h3
    intro h4
    clear_value x5
    refine Only.step (State.mirrorEv_only ..) rfl ?_
    exact h4

theorem State.reach_only (a0 : _) (a1 : _) :
    Only [.sys, .host, .sent] a0 (State.reach a0 a1) := by
  unfold State.reach
  extract_lets +onlyGivenNames x1
  extract_lets +onlyGivenNames x2
  extract_lets +onlyGivenNames x3
  refine Only.ite ?_ ?_
  · exact (Only.refl _ _)
  · refine Only.step (State.sysChanged_only ..) rfl ?_
    refine Only.step (State.modSys_only ..) rfl ?_
    exact (Only.refl _ _)

theorem State.modLease_only (a0 : _) (a1 : _) :
    Only [.lease] a0 (State.modLease a0 a1) := by
  constructor; intro p hp; cases p <;> first | rfl | exact absurd (by decide) hp

theorem State.chainApplied_only (a0 : _) (a1 : _) :
    Only [.sys, .msh, .host, .lease, .sent, .chn] a0 (State.chainApplied a0 a1) := by
  unfold State.chainApplied
  extract_lets +onlyGivenNames x1
  refine Only.ite ?_ ?_
  · extract_lets +onlyGivenNames x2
    refine Only.keep x2 ?_ ?_
    · unfold x2
      refine Only.step (State.modChn_only ..) rfl ?_
      exact (Only.refl _ _)
    intro h1
    clear_value x2
    refine Only.step (State.setLink_only ..) rfl ?_
    refine Only.step (State.setLink_only ..) rfl ?_
    exact h1
  · refine Only.ite ?_ ?_
    · extract_lets +onlyGivenNames x3
      extract_lets +onlyGivenNames x4
      refine Only.keep x4 ?_ ?_
      · unfold x4
        refine Only.step (State.modChn_only ..) rfl ?_
        try dsimp -zeta only [x3]
        refine Only.ite ?_ ?_
        · refine Only.step (State.flushLink_only ..) rfl ?_
          try dsimp -zeta only [x3]
          refine Only.ite ?_ ?_
          · refine Only.step (State.flushLink_only ..) rfl ?_
            exact (Only.refl _ _)
          · exact (Only.refl _ _)
        · try dsimp -zeta only [x3]
          refine Only.ite ?_ ?_
          · refine Only.step (State.flushLink_only ..) rfl ?_
            exact (Only.refl _ _)
          · exact (Only.refl _ _)
      intro h2
      clear_value x4
      refine Only.step (State.reach_only ..) rfl ?_
      refine Only.step (State.modLease_only ..) rfl ?_
      refine Only.step (State.chnRaise_only ..) rfl ?_
      exact h2
    · refine Only.ite ?_ ?_
      · refine Only.step (State.modChn_only ..) rfl ?_
        exact (Only.refl _ _)
      · refine Only.step (State.modChn_only ..) rfl ?_
        exact (Only.refl _ _)

theorem State.modLs_only (a0 : _) (a1 : _) :
    Only [.ls] a0 (State.modLs a0 a1) := by
  constructor; intro p hp; cases p <;> first | rfl | exact absurd (by decide) hp

theorem State.modLsCh_only (a0 : _) (a1 : _) (a2 : _) :
    Only [.ls] a0 (State.modLsCh a0 a1 a2) := by
  unfold State.modLsCh
  refine Only.step (State.modLs_only ..) rfl ?_
  exact (Only.refl _ _)

theorem State.modSl_only (a0 : _) (a1 : _) (a2 : _) :
    Only [.sl] a0 (State.modSl a0 a1 a2) := by
  constructor; intro p hp; cases p <;> first | rfl | exact absurd (by decide) hp

theorem State.lsSettle_only (a0 : _) :
    Only [.ls] a0 (State.lsSettle a0) := by
  unfold State.lsSettle
  refine Only.step (State.modLs_only ..) rfl ?_
  exact (Only.refl _ _)

theorem State.itemEffect_only (a0 : _) (a1 : _) (a2 : _) :
    Only [.ses, .sp, .sys, .pm, .cave, .nfc, .met, .msh, .host, .sl, .veh, .legal, .free, .lease, .sent, .pwr, .saf, .chn, .ls, .lk] a0 (State.itemEffect a0 a1 a2) := by
  unfold State.itemEffect
  split
  · refine Only.ite ?_ ?_
    · exact (Only.refl _ _)
    · refine Only.step (State.sysChanged_only ..) rfl ?_
      refine Only.step (State.modTref_only ..) rfl ?_
      exact (Only.refl _ _)
  · refine Only.each (fun a1x u1 h1 => ?_) ?_
    · refine Only.ite ?_ ?_
      · refine Only.step (State.endClaim_only ..) rfl ?_
        exact h1
      · exact h1
    · exact (Only.refl _ _)
  · refine Only.ite ?_ ?_
    · exact (Only.refl _ _)
    · refine Only.step (State.modGuest_only ..) rfl ?_
      exact (Only.refl _ _)
  · refine Only.step (State.checkBlocked_only ..) rfl ?_
    refine Only.step (State.refreshPwm_only ..) rfl ?_
    refine Only.step (State.followEnable_only ..) rfl ?_
    exact (Only.refl _ _)
  · refine Only.ite ?_ ?_
    · exact (Only.refl _ _)
    · refine Only.step (State.modPwr_only ..) rfl ?_
      exact (Only.refl _ _)
  · extract_lets +onlyGivenNames x1
    refine Only.ite ?_ ?_
    · exact (Only.refl _ _)
    · refine Only.step (State.modPmLink_only ..) rfl ?_
      exact (Only.refl _ _)
  · extract_lets +onlyGivenNames x2
    refine Only.keep x2 ?_ ?_
    · unfold x2
      refine Only.foldl (fun u2 a2x h2 => ?_) ?_
      · refine Only.step (State.modSl_only ..) rfl ?_
        exact h2
      · exact (Only.refl _ _)
    intro h3
    clear_value x2
    refine Only.step (State.endMeasure_only ..) rfl ?_
    exact h3
  · refine Only.ite ?_ ?_
    · exact (Only.refl _ _)
    · refine Only.step (State.cancelCross_only ..) rfl ?_
      exact (Only.refl _ _)
  · extract_lets +onlyGivenNames x3
    extract_lets +onlyGivenNames x4
    extract_lets +onlyGivenNames x5
    extract_lets +onlyGivenNames x6
    extract_lets +onlyGivenNames x7
    refine Only.keep x7 ?_ ?_
    · unfold x7
      refine Only.ite ?_ ?_
      · exact (Only.refl _ _)
      · refine Only.ite ?_ ?_
        · refine Only.step (State.modLsCh_only ..) rfl ?_
          exact (Only.refl _ _)
        · refine Only.ite ?_ ?_
          · refine Only.step (State.modLsCh_only ..) rfl ?_
            exact (Only.refl _ _)
          · refine Only.step (State.modLsCh_only ..) rfl ?_
            exact (Only.refl _ _)
    intro h4
    clear_value x7
    refine Only.step (State.lsSettle_only ..) rfl ?_
    exact h4
  · refine Only.step (State.chainApplied_only ..) rfl ?_
    exact (Only.refl _ _)
  · refine Only.ite ?_ ?_
    · refine Only.step (State.setCave_only ..) rfl ?_
      exact (Only.refl _ _)
    · refine Only.ite ?_ ?_
      · refine Only.step (State.setCave_only ..) rfl ?_
        exact (Only.refl _ _)
      · exact (Only.refl _ _)
  · extract_lets +onlyGivenNames x8
    refine Only.keep x8 ?_ ?_
    · unfold x8
      refine Only.ite ?_ ?_
      · exact (Only.refl _ _)
      · refine Only.step (State.releaseHeld_only ..) rfl ?_
        exact (Only.refl _ _)
    intro h5
    clear_value x8
    refine Only.ite ?_ ?_
    · exact h5
    · refine Only.step (State.modTag_only ..) rfl ?_
      exact h5
  · exact (Only.refl _ _)

theorem State.applyItems_only (a0 : _) (a1 : _) :
    Only [.ses, .sp, .sys, .pm, .cave, .nfc, .met, .msh, .host, .sl, .veh, .legal, .free, .lease, .conf, .sent, .pwr, .saf, .chn, .ls, .lk] a0 (State.applyItems a0 a1) := by
  unfold State.applyItems
  refine Only.foldl (fun u1 a1x h1 => ?_) ?_
  · refine Only.step (State.itemEffect_only ..) rfl ?_
    refine Only.step (State.modCfg_only ..) rfl ?_
    exact h1
  · exact (Only.refl _ _)

theorem State.applyPort_only (a0 : _) (a1 : _) :
    Only [.ses, .jnl, .sp, .sys, .pm, .cave, .nfc, .met, .msh, .host, .sl, .veh, .legal, .free, .lease, .conf, .sent, .pwr, .saf, .chn, .ls, .lk] a0 (State.applyPort a0 a1) := by
  unfold State.applyPort
  extract_lets +onlyGivenNames x1
  refine Only.ite ?_ ?_
  · exact (Only.refl _ _)
  · extract_lets +onlyGivenNames x2
    extract_lets +onlyGivenNames x3
    refine Only.keep x3 ?_ ?_
    · unfold x3
      refine Only.step (State.modConf_only ..) rfl ?_
      refine Only.step (State.applyItems_only ..) rfl ?_
      exact (Only.refl _ _)
    intro h1
    clear_value x3
    extract_lets +onlyGivenNames x4
    refine Only.keep x4 ?_ ?_
    · unfold x4
      refine Only.foldl (fun u1 a1x h2 => ?_) ?_
      · refine Only.step (State.appendConf_only ..) rfl ?_
        exact h2
      · exact h1
    intro h3
    clear_value x4
    refine Only.step (State.vpRaise_only ..) rfl ?_
    refine Only.step (State.dropApplied_only ..) rfl ?_
    exact h3

theorem State.applyUnits_only (a0 : _) (a1 : _) :
    Only [.ses, .jnl, .sp, .sys, .pm, .cave, .nfc, .met, .msh, .host, .sl, .veh, .legal, .free, .lease, .conf, .sent, .pwr, .saf, .chn, .ls, .lk] a0 (State.applyUnits a0 a1) := by
  induction a1 generalizing a0 with
  | nil => exact Only.refl _ _
  | cons t l ih =>
    unfold State.applyUnits
    refine Only.ite (ih _) (Only.ite (Only.refl _ _) ?_)
    extract_lets +onlyGivenNames s0
    have h : Only [.conf, .chn] a0 s0 := by
      unfold s0; split
      · exact Only.step (State.chnRaise_only ..) rfl ((State.modCfg_only ..).mono rfl)
      · exact Only.refl _ _
    clear_value s0
    refine Only.step (ih _) rfl ?_
    refine Only.step (State.appendConf_only ..) rfl ?_
    refine Only.step (State.modConf_only ..) rfl ?_
    refine Only.step (State.applyItems_only ..) rfl ?_
    exact h.mono rfl

theorem State.applyBoundary_only (a0 : _) :
    Only [.ses, .jnl, .sp, .sys, .pm, .cave, .nfc, .met, .msh, .host, .sl, .veh, .legal, .free, .lease, .conf, .sent, .pwr, .saf, .chn, .ls, .lk] a0 (State.applyBoundary a0) := by
  unfold State.applyBoundary
  extract_lets +onlyGivenNames x1
  refine Only.keep x1 ?_ ?_
  · unfold x1
    refine Only.step (State.applyUnits_only ..) rfl ?_
    exact (Only.refl _ _)
  intro h1
  clear_value x1
  extract_lets +onlyGivenNames x2
  refine Only.keep x2 ?_ ?_
  · unfold x2
    refine Only.each (fun a1x u1 h2 => ?_) ?_
    · refine Only.ite ?_ ?_
      · refine Only.step (State.applyPort_only ..) rfl ?_
        exact h2
      · exact h2
    · exact h1
  intro h3
  clear_value x2
  refine Only.step (State.dropApplied_only ..) rfl ?_
  exact h3

theorem State.applyBrake_only (a0 : _) (a1 : _) :
    Only [.host, .sent, .saf, .brk] a0 (State.applyBrake a0 a1) := by
  unfold State.applyBrake
  refine Only.ite ?_ ?_
  · exact (Only.refl _ _)
  · extract_lets +onlyGivenNames x1
    refine Only.whenB (fun u1 h1 => ?_) ?_
    · refine Only.step (State.brkRaise_only ..) rfl ?_
      exact h1
    · refine Only.step (State.modBrk_only ..) rfl ?_
      exact (Only.refl _ _)

theorem State.journalHeld_only (a0 : _) :
    Only [.jnl, .conf, .chn] a0 (State.journalHeld a0) := by
  unfold State.journalHeld
  split
  · exact (Only.refl _ _)
  · extract_lets +onlyGivenNames x1
    refine Only.step (State.modChn_only ..) rfl ?_
    refine Only.step (State.modConf_only ..) rfl ?_
    refine Only.step (State.appendConf_only ..) rfl ?_
    exact (Only.refl _ _)

theorem State.applyHeld_only (a0 : _) :
    Only [.jnl, .conf, .chn] a0 (State.applyHeld a0) := by
  unfold State.applyHeld
  split
  · exact (Only.refl _ _)
  · refine Only.ite ?_ ?_
    · exact (Only.refl _ _)
    · refine Only.step (State.journalHeld_only ..) rfl ?_
      exact (Only.refl _ _)

theorem State.modNrg_only (a0 : _) (a1 : _) (a2 : _) :
    Only [.nrg] a0 (State.modNrg a0 a1 a2) := by
  constructor; intro p hp; cases p <;> first | rfl | exact absurd (by decide) hp

theorem State.nrgRaise_only (a0 : _) (a1 : _) (a2 : _) :
    Only [.host, .sent, .nrg] a0 (State.nrgRaise a0 a1 a2) := by
  unfold State.nrgRaise
  refine Only.step (State.pendPort_only ..) rfl ?_
  refine Only.step (State.modNrg_only ..) rfl ?_
  exact (Only.refl _ _)

theorem State.applySource_only (a0 : _) (a1 : _) :
    Only [.host, .sent, .nrg] a0 (State.applySource a0 a1) := by
  unfold State.applySource
  split
  · extract_lets +onlyGivenNames x1
    refine Only.keep x1 ?_ ?_
    · unfold x1
      refine Only.step (State.modNrg_only ..) rfl ?_
      exact (Only.refl _ _)
    intro h1
    clear_value x1
    refine Only.ite ?_ ?_
    · exact h1
    · refine Only.step (State.nrgRaise_only ..) rfl ?_
      exact h1
  · exact (Only.refl _ _)

theorem State.modTime_only (a0 : _) (a1 : _) :
    Only [.time] a0 (State.modTime a0 a1) := by
  constructor; intro p hp; cases p <;> first | rfl | exact absurd (by decide) hp

theorem State.applyTime_only (a0 : _) (a1 : _) (a2 : _) :
    Only [.time, .chn] a0 (State.applyTime a0 a1 a2) := by
  unfold State.applyTime
  extract_lets +onlyGivenNames x1
  extract_lets +onlyGivenNames x2
  extract_lets +onlyGivenNames x3
  refine Only.ite ?_ ?_
  · refine Only.step (State.modTime_only ..) rfl ?_
    refine Only.step (State.modChn_only ..) rfl ?_
    exact (Only.refl _ _)
  · refine Only.step (State.modChn_only ..) rfl ?_
    exact (Only.refl _ _)

theorem State.wantChanged_only (a0 : _) (a1 : _) :
    Only [.host, .veh, .sent, .pwr] a0 (State.wantChanged a0 a1) := by
  unfold State.wantChanged
  extract_lets +onlyGivenNames x1
  extract_lets +onlyGivenNames x2
  refine Only.ite ?_ ?_
  · refine Only.step (State.divide_only ..) rfl ?_
    exact (Only.refl _ _)
  · exact (Only.refl _ _)

theorem State.askOpen_only (a0 : _) (a1 : _) :
    Only [.ses, .sys, .host, .veh, .sent, .pwr] a0 (State.askOpen a0 a1) := by
  unfold State.askOpen
  refine Only.step (State.wantChanged_only ..) rfl ?_
  refine Only.step (State.askSafety_only ..) rfl ?_
  refine Only.step (State.askSafety_only ..) rfl ?_
  refine Only.step (State.sesTo_only ..) rfl ?_
  exact (Only.refl _ _)

theorem State.disable_only (a0 : _) (a1 : _) :
    Only [.pm, .sent, .pwr] a0 (State.disable a0 a1) := by
  unfold State.disable
  extract_lets +onlyGivenNames x1
  refine Only.keep x1 ?_ ?_
  · unfold x1
    refine Only.ite ?_ ?_
    · refine Only.step (State.portSend_only ..) rfl ?_
      exact (Only.refl _ _)
    · exact (Only.refl _ _)
  intro h1
  clear_value x1
  refine Only.step (State.modPwr_only ..) rfl ?_
  exact h1

theorem State.startBrakeTest_only (a0 : _) (a1 : _) (a2 : _) (a3 : _) :
    Only [.ses, .sp, .cave, .host, .sent, .saf, .brk] a0 (State.startBrakeTest a0 a1 a2 a3) := by
  unfold State.startBrakeTest
  extract_lets +onlyGivenNames x1
  refine Only.keep x1 ?_ ?_
  · unfold x1
    refine Only.step (State.applyBrake_only ..) rfl ?_
    exact (Only.refl _ _)
  intro h1
  clear_value x1
  refine Only.ite ?_ ?_
  · refine Only.step (State.modBrk_only ..) rfl ?_
    exact h1
  · extract_lets +onlyGivenNames x2
    refine Only.keep x2 ?_ ?_
    · unfold x2
      refine Only.step (State.testNotice_only ..) rfl ?_
      exact h1
    intro h2
    clear_value x2
    split
    · refine Only.step (State.testEnded_only ..) rfl ?_
      exact h2
    · exact h2

theorem State.startTest_only (a0 : _) (a1 : _) (a2 : _) (a3 : _) :
    Only [.ses, .sp, .cave, .host, .sent, .saf, .brk] a0 (State.startTest a0 a1 a2 a3) := by
  unfold State.startTest
  split
  · refine Only.step (State.modSp_only ..) rfl ?_
    exact (Only.refl _ _)
  · refine Only.step (State.modSp_only ..) rfl ?_
    exact (Only.refl _ _)
  · split
    · refine Only.step (State.startBrakeTest_only ..) rfl ?_
      exact (Only.refl _ _)
    · exact (Only.refl _ _)

theorem State.runDeferred_only (a0 : _) (a1 : _) :
    Only [.ses, .sp, .cave, .host, .sent, .saf, .brk] a0 (State.runDeferred a0 a1) := by
  unfold State.runDeferred
  split
  · exact (Only.refl _ _)
  · refine Only.step (State.startTest_only ..) rfl ?_
    refine Only.step (State.modSp_only ..) rfl ?_
    exact (Only.refl _ _)

theorem State.leaveSealing_only (a0 : _) (a1 : _) (a2 : _) :
    Only [.ses, .jnl, .sp, .sys, .pm, .cave, .nfc, .met, .msh, .host, .sl, .veh, .legal, .free, .lease, .conf, .sent, .pwr, .nrg, .saf, .chn, .ls, .lk, .brk] a0 (State.leaveSealing a0 a1 a2) := by
  unfold State.leaveSealing
  extract_lets +onlyGivenNames x1
  extract_lets +onlyGivenNames x2
  extract_lets +onlyGivenNames x3
  extract_lets +onlyGivenNames x4
  refine Only.keep x4 ?_ ?_
  · unfold x4
    refine Only.step (State.sesRaise_only ..) rfl ?_
    refine Only.step (State.modSes_only ..) rfl ?_
    exact (Only.refl _ _)
  intro h1
  clear_value x4
  extract_lets +onlyGivenNames x5
  refine Only.keep x5 ?_ ?_
  · unfold x5
    refine Only.foldl (fun u1 a1x h2 => ?_) ?_
    · refine Only.step (State.final_only ..) rfl ?_
      exact h2
    · exact h1
  intro h3
  clear_value x5
  extract_lets +onlyGivenNames x6
  refine Only.keep x6 ?_ ?_
  · unfold x6
    refine Only.ite ?_ ?_
    · refine Only.step (State.mirrorBody_only ..) rfl ?_
      refine Only.step (State.modNfc_only ..) rfl ?_
      exact h3
    · exact h3
  intro h4
  clear_value x6
  extract_lets +onlyGivenNames x7
  refine Only.keep x7 ?_ ?_
  · unfold x7
    refine Only.ite ?_ ?_
    · refine Only.step (State.startLock_only ..) rfl ?_
      exact h4
    · exact h4
  intro h5
  clear_value x7
  refine Only.step (State.availPoll_only ..) rfl ?_
  refine Only.step (State.divide_only ..) rfl ?_
  refine Only.step (State.runDeferred_only ..) rfl ?_
  refine Only.step (State.checkBlocked_only ..) rfl ?_
  refine Only.step (State.applySource_only ..) rfl ?_
  refine Only.step (State.applyPort_only ..) rfl ?_
  exact h5

theorem State.portClear_only (a0 : _) (a1 : _) :
    Only [.ses, .pm, .cave, .host, .veh, .sent, .pwr, .lk] a0 (State.portClear a0 a1) := by
  unfold State.portClear
  dsimp only
  have h (t : State) : Only [.ses, .pm, .cave, .host, .veh, .sent, .pwr, .lk] t (((t.stopLock a1).clearIdle a1).disable a1) := by
    refine Only.step (State.disable_only ..) rfl ?_
    refine Only.step (State.clearIdle_only ..) rfl ?_
    exact (State.stopLock_only ..).mono rfl
  have k : Only [.ses, .pm, .cave, .host, .veh, .sent, .pwr, .lk] a0
      (match (a0.sesAt a1).authCmd with | some r => a0.answer r Code.wrongState | none => a0) := by
    split
    · exact (State.answer_only ..).mono rfl
    · exact Only.refl _ _
  refine Only.step (State.modSes_only ..) rfl ?_
  refine Only.ite ?_ ?_
  · exact (State.modVeh_only ..).step rfl ((h _).step rfl k)
  · refine Only.step (State.drive_only ..) rfl ?_
    exact (State.modVeh_only ..).step rfl ((h _).step rfl k)

theorem State.portReset_only (a0 : _) (a1 : _) :
    Only [.ses, .pm, .cave, .host, .veh, .sent, .pwr, .lk] a0 (State.portReset a0 a1) := by
  unfold State.portReset
  extract_lets +onlyGivenNames x1
  extract_lets +onlyGivenNames x2
  refine Only.keep x2 ?_ ?_
  · unfold x2
    refine Only.step (State.modVeh_only ..) rfl ?_
    refine Only.step (State.portClear_only ..) rfl ?_
    exact (Only.refl _ _)
  intro h1
  clear_value x2
  refine Only.foldl (fun u1 a1x h2 => ?_) ?_
  · refine Only.step (State.final_only ..) rfl ?_
    exact h2
  · exact h1

theorem State.sealCheck_only (a0 : _) (a1 : _) :
    Only [.ses, .jnl, .sp, .sys, .pm, .cave, .nfc, .met, .msh, .host, .sl, .veh, .legal, .free, .lease, .conf, .sent, .pwr, .nrg, .saf, .chn, .ls, .lk, .brk] a0 (State.sealCheck a0 a1) := by
  unfold State.sealCheck
  refine Only.ite ?_ ?_
  · exact (Only.refl _ _)
  · extract_lets +onlyGivenNames x1
    refine Only.keep x1 ?_ ?_
    · unfold x1
      refine Only.ite ?_ ?_
      · refine Only.step (State.portReset_only ..) rfl ?_
        exact (Only.refl _ _)
      · exact (Only.refl _ _)
    intro h1
    clear_value x1
    refine Only.ite ?_ ?_
    · refine Only.step (State.leaveSealing_only ..) rfl ?_
      exact h1
    · exact h1

theorem State.modBil_only (a0 : _) (a1 : _) (a2 : _) :
    Only [.bil] a0 (State.modBil a0 a1 a2) := by
  constructor; intro p hp; cases p <;> first | rfl | exact absurd (by decide) hp

theorem State.toSealing_only (a0 : _) (a1 : _) :
    Only [.ses, .jnl, .sp, .sys, .pm, .cave, .nfc, .met, .msh, .host, .sl, .veh, .legal, .free, .lease, .conf, .sent, .pwr, .bil, .nrg, .saf, .chn, .ls, .lk, .brk] a0 (State.toSealing a0 a1) := by
  unfold State.toSealing
  extract_lets +onlyGivenNames x1
  extract_lets +onlyGivenNames x2
  refine Only.keep x2 ?_ ?_
  · unfold x2
    refine Only.step (State.modBil_only ..) rfl ?_
    refine Only.step (State.sesTo_only ..) rfl ?_
    exact (Only.refl _ _)
  intro h1
  clear_value x2
  refine Only.step (State.sealCheck_only ..) rfl ?_
  refine Only.step (State.wantChanged_only ..) rfl ?_
  exact h1

theorem State.countPort_only (a0 : _) (a1 : _) (a2 : _) (a3 : _) :
    Only [.host, .sent] a0 (State.countPort a0 a1 a2 a3) := by
  unfold State.countPort
  refine Only.each (fun a1x u1 h1 => ?_) ?_
  · refine Only.ite ?_ ?_
    · refine Only.step (State.count_only ..) rfl ?_
      exact h1
    · exact h1
  · exact (Only.refl _ _)

theorem State.halt_only (a0 : _) (a1 : _) :
    Only [.pm, .host, .sent, .pwr] a0 (State.halt a0 a1) := by
  unfold State.halt
  refine Only.ite ?_ ?_
  · extract_lets +onlyGivenNames x1
    extract_lets +onlyGivenNames x2
    refine Only.keep x2 ?_ ?_
    · unfold x2
      refine Only.step (State.countPort_only ..) rfl ?_
      refine Only.step (State.modPwr_only ..) rfl ?_
      exact (Only.refl _ _)
    intro h1
    clear_value x2
    refine Only.step (State.pwrRaise_only ..) rfl ?_
    refine Only.step (State.sendAcked_only ..) rfl ?_
    exact h1
  · exact (Only.refl _ _)

theorem State.endAbrupt_only (a0 : _) (a1 : _) (a2 : _) :
    Only [.ses, .jnl, .sp, .sys, .pm, .cave, .nfc, .met, .msh, .host, .sl, .veh, .legal, .free, .lease, .conf, .sent, .pwr, .bil, .nrg, .saf, .chn, .ls, .lk, .brk] a0 (State.endAbrupt a0 a1 a2) := by
  unfold State.endAbrupt
  extract_lets +onlyGivenNames x1
  refine Only.keep x1 ?_ ?_
  · unfold x1
    refine Only.step (State.halt_only ..) rfl ?_
    exact (Only.refl _ _)
  intro h1
  clear_value x1
  extract_lets +onlyGivenNames x2
  refine Only.keep x2 ?_ ?_
  · unfold x2
    refine Only.ite ?_ ?_
    · refine Only.step (State.askSafety_only ..) rfl ?_
      refine Only.step (State.stopLock_only ..) rfl ?_
      exact h1
    · exact h1
  intro h2
  clear_value x2
  refine Only.ite ?_ ?_
  · refine Only.step (State.toSealing_only ..) rfl ?_
    refine Only.step (State.disable_only ..) rfl ?_
    exact h2
  · refine Only.ite ?_ ?_
    · refine Only.step (State.toSealing_only ..) rfl ?_
      exact h2
    · refine Only.step (State.wantChanged_only ..) rfl ?_
      refine Only.step (State.sesTo_only ..) rfl ?_
      exact h2

theorem State.rampDown_only (a0 : _) (a1 : _) (a2 : _) :
    Only [.host, .veh, .sent, .pwr] a0 (State.rampDown a0 a1 a2) := by
  unfold State.rampDown
  extract_lets +onlyGivenNames x1
  refine Only.ite ?_ ?_
  · refine Only.step (State.wantChanged_only ..) rfl ?_
    refine Only.step (State.retarget_only ..) rfl ?_
    refine Only.step (State.modPwr_only ..) rfl ?_
    exact (Only.refl _ _)
  · exact (Only.refl _ _)

theorem State.ramp_only (a0 : _) (a1 : _) (a2 : _) :
    Only [.ses, .host, .veh, .sent, .pwr] a0 (State.ramp a0 a1 a2) := by
  unfold State.ramp
  extract_lets +onlyGivenNames x1
  refine Only.keep x1 ?_ ?_
  · unfold x1
    refine Only.step (State.rampDown_only ..) rfl ?_
    exact (Only.refl _ _)
  intro h1
  clear_value x1
  refine Only.ite ?_ ?_
  · exact h1
  · extract_lets +onlyGivenNames x2
    extract_lets +onlyGivenNames x3
    refine Only.keep x3 ?_ ?_
    · unfold x3
      refine Only.step (State.modSes_only ..) rfl ?_
      refine Only.step (State.sesTo_only ..) rfl ?_
      exact h1
    intro h2
    clear_value x3
    refine Only.ite ?_ ?_
    · refine Only.step (State.refreshPwm_only ..) rfl ?_
      refine Only.step (State.modVeh_only ..) rfl ?_
      exact h2
    · exact h2

theorem State.endDegraded_only (a0 : _) (a1 : _) :
    Only [.ses, .jnl, .sp, .sys, .pm, .cave, .nfc, .met, .msh, .host, .sl, .veh, .legal, .free, .lease, .conf, .sent, .pwr, .bil, .nrg, .saf, .chn, .ls, .lk, .brk] a0 (State.endDegraded a0 a1) := by
  unfold State.endDegraded
  split
  · refine Only.step (State.toSealing_only ..) rfl ?_
    refine Only.step (State.disable_only ..) rfl ?_
    refine Only.step (State.stopLock_only ..) rfl ?_
    exact (Only.refl _ _)
  · refine Only.step (State.toSealing_only ..) rfl ?_
    refine Only.step (State.disable_only ..) rfl ?_
    refine Only.step (State.stopLock_only ..) rfl ?_
    exact (Only.refl _ _)
  · refine Only.step (State.ramp_only ..) rfl ?_
    exact (Only.refl _ _)
  · refine Only.step (State.ramp_only ..) rfl ?_
    exact (Only.refl _ _)
  · refine Only.step (State.ramp_only ..) rfl ?_
    exact (Only.refl _ _)
  · exact (Only.refl _ _)

theorem State.sayVehicle_only (a0 : _) (a1 : _) (a2 : _) (a3 : _) :
    Only [.sent] a0 (State.sayVehicle a0 a1 a2 a3) := by
  unfold State.sayVehicle
  refine Only.ite ?_ ?_
  · refine Only.step (State.emit_only ..) rfl ?_
    exact (Only.refl _ _)
  · exact (Only.refl _ _)

theorem State.endControlled_only (a0 : _) (a1 : _) :
    Only [.ses, .jnl, .sp, .sys, .pm, .cave, .nfc, .met, .msh, .host, .sl, .veh, .legal, .free, .lease, .conf, .sent, .pwr, .bil, .nrg, .saf, .chn, .ls, .lk, .brk] a0 (State.endControlled a0 a1) := by
  unfold State.endControlled
  extract_lets +onlyGivenNames x1
  refine Only.keep x1 ?_ ?_
  · unfold x1
    refine Only.step (State.sayVehicle_only ..) rfl ?_
    exact (Only.refl _ _)
  intro h1
  clear_value x1
  split
  · refine Only.step (State.toSealing_only ..) rfl ?_
    refine Only.step (State.disable_only ..) rfl ?_
    refine Only.step (State.stopLock_only ..) rfl ?_
    exact h1
  · refine Only.step (State.toSealing_only ..) rfl ?_
    refine Only.step (State.disable_only ..) rfl ?_
    refine Only.step (State.stopLock_only ..) rfl ?_
    exact h1
  · refine Only.step (State.ramp_only ..) rfl ?_
    exact h1
  · exact h1

theorem State.reseal_only (a0 : _) (a1 : _) :
    Only [.bil] a0 (State.reseal a0 a1) := by
  unfold State.reseal
  extract_lets +onlyGivenNames x1
  refine Only.step (State.modBil_only ..) rfl ?_
  exact (Only.refl _ _)

theorem State.endSession_only (a0 : _) (a1 : _) (a2 : _) :
    Only [.ses, .jnl, .sp, .sys, .pm, .cave, .nfc, .met, .msh, .host, .sl, .veh, .legal, .free, .lease, .conf, .sent, .pwr, .bil, .nrg, .saf, .chn, .ls, .lk, .brk] a0 (State.endSession a0 a1 a2) := by
  unfold State.endSession
  extract_lets +onlyGivenNames x1
  extract_lets +onlyGivenNames x2
  extract_lets +onlyGivenNames x3
  extract_lets +onlyGivenNames x4
  refine Only.ite ?_ ?_
  · exact (Only.refl _ _)
  · extract_lets +onlyGivenNames x5
    refine Only.keep x5 ?_ ?_
    · unfold x5
      refine Only.step (State.modSes_only ..) rfl ?_
      exact (Only.refl _ _)
    intro h1
    clear_value x5
    refine Only.ite ?_ ?_
    · refine Only.ite ?_ ?_
      · refine Only.step (State.reseal_only ..) rfl ?_
        exact h1
      · exact (Only.refl _ _)
    · split
      · refine Only.step (State.endAbrupt_only ..) rfl ?_
        exact h1
      · refine Only.step (State.endAbrupt_only ..) rfl ?_
        exact h1
      · refine Only.step (State.endAbrupt_only ..) rfl ?_
        exact h1
      · refine Only.step (State.endDegraded_only ..) rfl ?_
        exact h1
      · refine Only.step (State.endControlled_only ..) rfl ?_
        exact h1

theorem State.attemptFailed_only (a0 : _) (a1 : _) :
    Only [.ses, .jnl, .sp, .sys, .pm, .cave, .nfc, .met, .msh, .host, .sl, .veh, .legal, .free, .lease, .conf, .sent, .pwr, .bil, .nrg, .saf, .chn, .ls, .lk, .brk] a0 (State.attemptFailed a0 a1) := by
  unfold State.attemptFailed
  refine Only.ite ?_ ?_
  · refine Only.step (State.modLock_only ..) rfl ?_
    exact (Only.refl _ _)
  · extract_lets +onlyGivenNames x1
    refine Only.keep x1 ?_ ?_
    · unfold x1
      refine Only.step (State.lockEnd_only ..) rfl ?_
      exact (Only.refl _ _)
    intro h1
    clear_value x1
    refine Only.ite ?_ ?_
    · refine Only.step (State.endSession_only ..) rfl ?_
      exact h1
    · exact h1

theorem State.modKeys_only (a0 : _) (a1 : _) :
    Only [.keys] a0 (State.modKeys a0 a1) := by
  constructor; intro p hp; cases p <;> first | rfl | exact absurd (by decide) hp

theorem State.audit_only (a0 : _) (a1 : _) :
    Only [.keys] a0 (State.audit a0 a1) := by
  unfold State.audit
  refine Only.step (State.modKeys_only ..) rfl ?_
  exact (Only.refl _ _)

theorem State.auditCmd_only (a0 : _) (a1 : _) (a2 : _) (a3 : _) (a4 : _) :
    Only [.keys] a0 (State.auditCmd a0 a1 a2 a3 a4) := by
  unfold State.auditCmd
  refine Only.step (State.audit_only ..) rfl ?_
  exact (Only.refl _ _)

theorem State.auditRind_only (a0 : _) (a1 : _) (a2 : _) :
    Only [.keys] a0 (State.auditRind a0 a1 a2) := by
  unfold State.auditRind
  refine Only.step (State.audit_only ..) rfl ?_
  exact (Only.refl _ _)

theorem State.tripLog_only (a0 : _) (a1 : _) (a2 : _) (a3 : _) (a4 : _) :
    Only [.sent, .saf] a0 (State.tripLog a0 a1 a2 a3 a4) := by
  unfold State.tripLog
  extract_lets +onlyGivenNames x1
  refine Only.step (State.safeSend_only ..) rfl ?_
  refine Only.step (State.modSaf_only ..) rfl ?_
  exact (Only.refl _ _)

theorem State.busChanged_only (a0 : _) (a1 : _) :
    Only [.sp, .saf] a0 (State.busChanged a0 a1) := by
  unfold State.busChanged
  split
  · refine Only.step (State.modSp_only ..) rfl ?_
    exact (Only.refl _ _)
  · extract_lets +onlyGivenNames x1
    refine Only.keep x1 ?_ ?_
    · unfold x1
      refine Only.foldl (fun u1 a1x h1 => ?_) ?_
      · refine Only.step (State.modSp_only ..) rfl ?_
        exact h1
      · exact (Only.refl _ _)
    intro h2
    clear_value x1
    extract_lets +onlyGivenNames x2
    split
    · refine Only.ite ?_ ?_
      · exact h2
      · refine Only.step (State.modSaf_only ..) rfl ?_
        exact h2
    · refine Only.step (State.modSaf_only ..) rfl ?_
      exact h2

theorem State.coilsOff_only (a0 : _) (a1 : _) :
    Only [.sp, .saf] a0 (State.coilsOff a0 a1) := by
  unfold State.coilsOff
  refine Only.ite ?_ ?_
  · exact (Only.refl _ _)
  · refine Only.step (State.busChanged_only ..) rfl ?_
    refine Only.step (State.modSp_only ..) rfl ?_
    exact (Only.refl _ _)

theorem State.sevRaise_only (a0 : _) (a1 : _) (a2 : _) :
    Only [.sp, .host, .sent] a0 (State.sevRaise a0 a1 a2) := by
  unfold State.sevRaise
  refine Only.step (State.pendPort_only ..) rfl ?_
  refine Only.step (State.modSp_only ..) rfl ?_
  exact (Only.refl _ _)

theorem State.contactorFault_only (a0 : _) (a1 : _) :
    Only [.ses, .sp, .cave, .host, .sent, .saf, .brk] a0 (State.contactorFault a0 a1) := by
  unfold State.contactorFault
  refine Only.ite ?_ ?_
  · exact (Only.refl _ _)
  · extract_lets +onlyGivenNames x1
    refine Only.keep x1 ?_ ?_
    · unfold x1
      refine Only.step (State.modSp_only ..) rfl ?_
      refine Only.step (State.coilsOff_only ..) rfl ?_
      refine Only.step (State.abortTests_only ..) rfl ?_
      exact (Only.refl _ _)
    intro h1
    clear_value x1
    extract_lets +onlyGivenNames x2
    refine Only.keep x2 ?_ ?_
    · unfold x2
      split
      · refine Only.step (State.applyBrake_only ..) rfl ?_
        exact h1
      · exact h1
    intro h2
    clear_value x2
    refine Only.step (State.tripLog_only ..) rfl ?_
    refine Only.step (State.sevRaise_only ..) rfl ?_
    refine Only.step (State.setPort_only ..) rfl ?_
    exact h2

theorem State.siteMsg_only (a0 : _) :
    Only [.sent, .saf] a0 (State.siteMsg a0) := by
  unfold State.siteMsg
  refine Only.step (State.safeSend_only ..) rfl ?_
  refine Only.step (State.modSaf_only ..) rfl ?_
  exact (Only.refl _ _)

theorem State.safRaise_only (a0 : _) (a1 : _) :
    Only [.host, .sent, .saf] a0 (State.safRaise a0 a1) := by
  unfold State.safRaise
  refine Only.step (State.pendAll_only ..) rfl ?_
  refine Only.step (State.modSaf_only ..) rfl ?_
  exact (Only.refl _ _)

theorem State.tripPort_only (a0 : _) (a1 : _) (a2 : _) (a3 : _) (a4 : _) :
    Only [.ses, .sp, .cave, .host, .sent, .saf, .brk] a0 (State.tripPort a0 a1 a2 a3 a4) := by
  unfold State.tripPort
  extract_lets +onlyGivenNames x1
  extract_lets +onlyGivenNames x2
  refine Only.keep x2 ?_ ?_
  · unfold x2
    refine Only.step (State.modSp_only ..) rfl ?_
    refine Only.step (State.abortTests_only ..) rfl ?_
    exact (Only.refl _ _)
  intro h1
  clear_value x2
  extract_lets +onlyGivenNames x3
  refine Only.keep x3 ?_ ?_
  · unfold x3
    split
    · refine Only.step (State.setPort_only ..) rfl ?_
      refine Only.step (State.coilsOff_only ..) rfl ?_
      exact h1
    · refine Only.step (State.setPort_only ..) rfl ?_
      refine Only.step (State.coilsOff_only ..) rfl ?_
      exact h1
    · refine Only.step (State.setPort_only ..) rfl ?_
      refine Only.step (State.coilsOff_only ..) rfl ?_
      exact h1
    · refine Only.step (State.setPort_only ..) rfl ?_
      exact h1
    · refine Only.whenB (fun u1 h2 => ?_) ?_
      · refine Only.step (State.portMsg_only ..) rfl ?_
        exact h2
      · exact h1
    · refine Only.whenB (fun u2 h3 => ?_) ?_
      · refine Only.step (State.portMsg_only ..) rfl ?_
        exact h3
      · exact h1
    · refine Only.whenB (fun u3 h4 => ?_) ?_
      · refine Only.step (State.portMsg_only ..) rfl ?_
        exact h4
      · exact h1
  intro h5
  clear_value x3
  extract_lets +onlyGivenNames x4
  refine Only.keep x4 ?_ ?_
  · unfold x4
    split
    · refine Only.step (State.applyBrake_only ..) rfl ?_
      exact h5
    · exact h5
  intro h6
  clear_value x4
  refine Only.ite ?_ ?_
  · refine Only.step (State.safeSend_only ..) rfl ?_
    refine Only.step (State.tripLog_only ..) rfl ?_
    refine Only.step (State.sevRaise_only ..) rfl ?_
    exact h6
  · exact h6

theorem State.settle_only (a0 : _) (a1 : _) :
    Only [.sp, .host, .sent, .saf] a0 (State.settle a0 a1) := by
  unfold State.settle
  extract_lets +onlyGivenNames x1
  refine Only.ite ?_ ?_
  · refine Only.step (State.setPort_only ..) rfl ?_
    exact (Only.refl _ _)
  · exact (Only.refl _ _)

theorem State.clearCause_only (a0 : _) (a1 : _) (a2 : _) :
    Only [.sp, .host, .sent, .saf] a0 (State.clearCause a0 a1 a2) := by
  unfold State.clearCause
  refine Only.ite ?_ ?_
  · exact (Only.refl _ _)
  · refine Only.step (State.settle_only ..) rfl ?_
    refine Only.step (State.portMsg_only ..) rfl ?_
    refine Only.step (State.tripLog_only ..) rfl ?_
    refine Only.step (State.sevRaise_only ..) rfl ?_
    refine Only.step (State.modSp_only ..) rfl ?_
    exact (Only.refl _ _)

theorem State.portRows_only (a0 : _) (a1 : _) :
    Only [.ses, .sp, .cave, .host, .sent, .saf, .brk] a0 (State.portRows a0 a1) := by
  unfold State.portRows
  refine Only.foldl (fun u1 a1x h1 => ?_) ?_
  · split
    · refine Only.ite ?_ ?_
      · exact h1
      · refine Only.step (State.tripPort_only ..) rfl ?_
        exact h1
    · refine Only.step (State.clearCause_only ..) rfl ?_
      exact h1
  · exact (Only.refl _ _)

theorem State.writeOuts_only (a0 : _) :
    Only [.saf] a0 (State.writeOuts a0) := by
  unfold State.writeOuts
  refine Only.step (State.modSaf_only ..) rfl ?_
  exact (Only.refl _ _)

theorem State.evalRows_only (a0 : _) :
    Only [.ses, .sp, .cave, .host, .sent, .saf, .brk] a0 (State.evalRows a0) := by
  unfold State.evalRows
  extract_lets +onlyGivenNames x1
  extract_lets +onlyGivenNames x2
  extract_lets +onlyGivenNames x3
  refine Only.keep x3 ?_ ?_
  · unfold x3
    refine Only.step (State.modSaf_only ..) rfl ?_
    exact (Only.refl _ _)
  intro h1
  clear_value x3
  extract_lets +onlyGivenNames x4
  extract_lets +onlyGivenNames x5
  refine Only.keep x5 ?_ ?_
  · unfold x5
    refine Only.foldl (fun u1 a1x h2 => ?_) ?_
    · extract_lets +onlyGivenNames x6
      refine Only.ite ?_ ?_
      · refine Only.step (State.tripLog_only ..) rfl ?_
        exact h2
      · exact h2
    · exact h1
  intro h3
  clear_value x5
  extract_lets +onlyGivenNames x7
  refine Only.keep x7 ?_ ?_
  · unfold x7
    refine Only.each (fun a2x u2 h4 => ?_) ?_
    · refine Only.step (State.portRows_only ..) rfl ?_
      exact h4
    · exact h3
  intro h5
  clear_value x7
  extract_lets +onlyGivenNames x8
  refine Only.keep x8 ?_ ?_
  · unfold x8
    refine Only.each (fun a3x u3 h6 => ?_) ?_
    · refine Only.ite ?_ ?_
      · refine Only.step (State.applyBrake_only ..) rfl ?_
        exact h6
      · exact h6
    · exact h5
  intro h7
  clear_value x8
  extract_lets +onlyGivenNames x9
  extract_lets +onlyGivenNames x10
  refine Only.keep x10 ?_ ?_
  · unfold x10
    refine Only.whenB (fun u4 h8 => ?_) ?_
    · refine Only.step (State.safRaise_only ..) rfl ?_
      exact h8
    · exact h7
  intro h9
  clear_value x10
  refine Only.whenB (fun u5 h10 => ?_) ?_
  · refine Only.step (State.siteMsg_only ..) rfl ?_
    exact h10
  · refine Only.step (State.writeOuts_only ..) rfl ?_
    refine Only.whenB (fun u6 h11 => ?_) ?_
    · refine Only.step (State.safRaise_only ..) rfl ?_
      exact h11
    · exact h9

theorem State.siteTo_only (a0 : _) (a1 : _) :
    Only [.ses, .sp, .cave, .host, .sent, .saf, .brk] a0 (State.siteTo a0 a1) := by
  unfold State.siteTo
  refine Only.ite ?_ ?_
  · exact (Only.refl _ _)
  · extract_lets +onlyGivenNames x1
    refine Only.keep x1 ?_ ?_
    · unfold x1
      refine Only.step (State.modSaf_only ..) rfl ?_
      exact (Only.refl _ _)
    intro h1
    clear_value x1
    extract_lets +onlyGivenNames x2
    refine Only.keep x2 ?_ ?_
    · unfold x2
      refine Only.step (State.evalRows_only ..) rfl ?_
      refine Only.step (State.tripLog_only ..) rfl ?_
      refine Only.step (State.safRaise_only ..) rfl ?_
      refine Only.step (State.irqAll_only ..) rfl ?_
      exact h1
    intro h2
    clear_value x2
    refine Only.step (State.siteMsg_only ..) rfl ?_
    exact h2

theorem State.checkStop_only (a0 : _) :
    Only [.ses, .sp, .cave, .host, .sent, .saf, .brk] a0 (State.checkStop a0) := by
  unfold State.checkStop
  refine Only.ite ?_ ?_
  · refine Only.each (fun a1x u1 h1 => ?_) ?_
    · refine Only.step (State.applyBrake_only ..) rfl ?_
      exact h1
    · refine Only.step (State.siteTo_only ..) rfl ?_
      exact (Only.refl _ _)
  · exact (Only.refl _ _)

theorem State.failWeld_only (a0 : _) (a1 : _) (a2 : _) (a3 : _) :
    Only [.ses, .sp, .cave, .host, .sent, .saf, .brk] a0 (State.failWeld a0 a1 a2 a3) := by
  unfold State.failWeld
  extract_lets +onlyGivenNames x1
  refine Only.keep x1 ?_ ?_
  · unfold x1
    refine Only.step (State.modSp_only ..) rfl ?_
    exact (Only.refl _ _)
  intro h1
  clear_value x1
  refine Only.step (State.contactorFault_only ..) rfl ?_
  refine Only.step (State.testEnded_only ..) rfl ?_
  refine Only.step (State.testNotice_only ..) rfl ?_
  exact h1

theorem State.auxLost_only (a0 : _) :
    Only [.ses, .sp, .cave, .host, .sent, .saf, .brk] a0 (State.auxLost a0) := by
  unfold State.auxLost
  extract_lets +onlyGivenNames x1
  refine Only.keep x1 ?_ ?_
  · unfold x1
    refine Only.each (fun a1x u1 h1 => ?_) ?_
    · refine Only.ite ?_ ?_
      · exact h1
      · split
        · refine Only.ite ?_ ?_
          · refine Only.step (State.failWeld_only ..) rfl ?_
            exact h1
          · refine Only.step (State.contactorFault_only ..) rfl ?_
            exact h1
        · refine Only.step (State.contactorFault_only ..) rfl ?_
          exact h1
    · exact (Only.refl _ _)
  intro h2
  clear_value x1
  refine Only.step (State.checkStop_only ..) rfl ?_
  refine Only.step (State.writeOuts_only ..) rfl ?_
  refine Only.each (fun a2x u2 h3 => ?_) ?_
  · refine Only.ite ?_ ?_
    · refine Only.step (State.applyBrake_only ..) rfl ?_
      exact h3
    · exact h3
  · exact h2

theorem State.availAll_only (a0 : _) :
    Only [.ses, .cave, .host, .sent] a0 (State.availAll a0) := by
  unfold State.availAll
  refine Only.each (fun a1x u1 h1 => ?_) ?_
  · refine Only.step (State.availPoll_only ..) rfl ?_
    exact h1
  · exact (Only.refl _ _)

theorem State.countGroup_only (a0 : _) (a1 : _) (a2 : _) (a3 : _) :
    Only [.host, .sent] a0 (State.countGroup a0 a1 a2 a3) := by
  unfold State.countGroup
  refine Only.each (fun a1x u1 h1 => ?_) ?_
  · refine Only.ite ?_ ?_
    · refine Only.step (State.count_only ..) rfl ?_
      exact h1
    · exact h1
  · exact (Only.refl _ _)

theorem State.badFrame_only (a0 : _) (a1 : _) :
    Only [.msh, .host, .sent, .chn] a0 (State.badFrame a0 a1) := by
  unfold State.badFrame
  extract_lets +onlyGivenNames x1
  extract_lets +onlyGivenNames x2
  extract_lets +onlyGivenNames x3
  refine Only.keep x3 ?_ ?_
  · unfold x3
    refine Only.step (State.countGroup_only ..) rfl ?_
    refine Only.step (State.modChn_only ..) rfl ?_
    refine Only.step (State.modChLink_only ..) rfl ?_
    exact (Only.refl _ _)
  intro h1
  clear_value x3
  refine Only.ite ?_ ?_
  · extract_lets +onlyGivenNames x4
    refine Only.keep x4 ?_ ?_
    · unfold x4
      refine Only.ite ?_ ?_
      · refine Only.step (State.emit_only ..) rfl ?_
        exact h1
      · exact h1
    intro h2
    clear_value x4
    refine Only.step (State.setLink_only ..) rfl ?_
    refine Only.step (State.modChLink_only ..) rfl ?_
    exact h2
  · exact h1

theorem State.keyRaise_only (a0 : _) (a1 : _) :
    Only [.keys] a0 (State.keyRaise a0 a1) := by
  unfold State.keyRaise
  refine Only.step (State.modKeys_only ..) rfl ?_
  exact (Only.refl _ _)

theorem State.modRind_only (a0 : _) (a1 : _) :
    Only [.rind] a0 (State.modRind a0 a1) := by
  constructor; intro p hp; cases p <;> first | rfl | exact absurd (by decide) hp

theorem State.bilUnitRaise_only (a0 : _) (a1 : _) :
    Only [.host, .legal, .sent] a0 (State.bilUnitRaise a0 a1) := by
  unfold State.bilUnitRaise
  refine Only.step (State.pendAll_only ..) rfl ?_
  refine Only.step (State.modLegal_only ..) rfl ?_
  exact (Only.refl _ _)

theorem State.bilRaise_only (a0 : _) (a1 : _) (a2 : _) :
    Only [.host, .sent, .bil] a0 (State.bilRaise a0 a1 a2) := by
  unfold State.bilRaise
  refine Only.step (State.pendPort_only ..) rfl ?_
  refine Only.step (State.modBil_only ..) rfl ?_
  exact (Only.refl _ _)

theorem State.openInterval_only (a0 : _) (a1 : _) (a2 : _) :
    Only [.host, .sent, .bil, .nrg] a0 (State.openInterval a0 a1 a2) := by
  unfold State.openInterval
  extract_lets +onlyGivenNames x1
  split
  · exact (Only.refl _ _)
  · extract_lets +onlyGivenNames x2
    extract_lets +onlyGivenNames x3
    refine Only.keep x3 ?_ ?_
    · unfold x3
      refine Only.step (State.modBil_only ..) rfl ?_
      exact (Only.refl _ _)
    intro h1
    clear_value x3
    extract_lets +onlyGivenNames x4
    refine Only.keep x4 ?_ ?_
    · unfold x4
      refine Only.step (State.modNrg_only ..) rfl ?_
      exact h1
    intro h2
    clear_value x4
    extract_lets +onlyGivenNames x5
    refine Only.keep x5 ?_ ?_
    · unfold x5
      split
      · refine Only.step (State.final_only ..) rfl ?_
        exact h2
      · exact h2
    intro h3
    clear_value x5
    refine Only.ite ?_ ?_
    · exact h3
    · refine Only.step (State.bilRaise_only ..) rfl ?_
      exact h3

theorem State.closeInterval_only (a0 : _) (a1 : _) (a2 : _) (a3 : _) :
    Only [.jnl, .host, .sent, .bil] a0 (State.closeInterval a0 a1 a2 a3) := by
  unfold State.closeInterval
  extract_lets +onlyGivenNames x1
  refine Only.ite ?_ ?_
  · exact (Only.refl _ _)
  · extract_lets +onlyGivenNames x2
    extract_lets +onlyGivenNames x3
    extract_lets +onlyGivenNames x4
    extract_lets +onlyGivenNames x5
    refine Only.keep x5 ?_ ?_
    · unfold x5
      refine Only.step (State.modBil_only ..) rfl ?_
      exact (Only.refl _ _)
    intro h1
    clear_value x5
    refine Only.step (State.bilRaise_only ..) rfl ?_
    refine Only.step (State.appendLegal_only ..) rfl ?_
    exact h1

theorem State.creditAt_only (a0 : _) (a1 : _) (a2 : _) (a3 : _) :
    Only [.sent, .bil] a0 (State.creditAt a0 a1 a2 a3) := by
  unfold State.creditAt
  split
  · exact (Only.refl _ _)
  · extract_lets +onlyGivenNames x1
    extract_lets +onlyGivenNames x2
    extract_lets +onlyGivenNames x3
    extract_lets +onlyGivenNames x4
    extract_lets +onlyGivenNames x5
    extract_lets +onlyGivenNames x6
    refine Only.keep x6 ?_ ?_
    · unfold x6
      refine Only.step (State.modBil_only ..) rfl ?_
      exact (Only.refl _ _)
    intro h1
    clear_value x6
    extract_lets +onlyGivenNames x7
    refine Only.keep x7 ?_ ?_
    · unfold x7
      refine Only.ite ?_ ?_
      · refine Only.step (State.emit_only ..) rfl ?_
        exact h1
      · exact h1
    intro h2
    clear_value x7
    refine Only.ite ?_ ?_
    · refine Only.step (State.emit_only ..) rfl ?_
      exact h2
    · exact h2

theorem State.revExportAt_only (a0 : _) (a1 : _) (a2 : _) :
    Only [.jnl, .host, .pq, .sent, .bil] a0 (State.revExportAt a0 a1 a2) := by
  unfold State.revExportAt
  split
  · exact (Only.refl _ _)
  · refine Only.ite ?_ ?_
    · exact (Only.refl _ _)
    · refine Only.step (State.tamperRecord_only ..) rfl ?_
      refine Only.step (State.modPq_only ..) rfl ?_
      refine Only.step (State.modBil_only ..) rfl ?_
      exact (Only.refl _ _)

theorem State.latchAt_only (a0 : _) (a1 : _) (a2 : _) (a3 : _) (a4 : _) (a5 : _) (a6 : _) :
    Only [.jnl, .met, .host, .pq, .sent, .bil, .nrg] a0 (State.latchAt a0 a1 a2 a3 a4 a5 a6) := by
  unfold State.latchAt
  extract_lets +onlyGivenNames x1
  extract_lets +onlyGivenNames x2
  extract_lets +onlyGivenNames x3
  extract_lets +onlyGivenNames x4
  extract_lets +onlyGivenNames x5
  refine Only.keep x5 ?_ ?_
  · unfold x5
    refine Only.step (State.modBil_only ..) rfl ?_
    exact (Only.refl _ _)
  intro h1
  clear_value x5
  extract_lets +onlyGivenNames x6
  extract_lets +onlyGivenNames x7
  extract_lets +onlyGivenNames x8
  extract_lets +onlyGivenNames x9
  extract_lets +onlyGivenNames x10
  extract_lets +onlyGivenNames x11
  extract_lets +onlyGivenNames x12
  refine Only.keep x12 ?_ ?_
  · unfold x12
    refine Only.step (State.modNrg_only ..) rfl ?_
    exact h1
  intro h2
  clear_value x12
  extract_lets +onlyGivenNames x13
  extract_lets +onlyGivenNames x14
  refine Only.keep x14 ?_ ?_
  · unfold x14
    refine Only.step (State.modBil_only ..) rfl ?_
    exact h2
  intro h3
  clear_value x14
  extract_lets +onlyGivenNames x15
  refine Only.keep x15 ?_ ?_
  · unfold x15
    refine Only.whenB (fun u1 h4 => ?_) ?_
    · refine Only.step (State.modPq_only ..) rfl ?_
      exact h4
    · refine Only.step (State.modMet_only ..) rfl ?_
      exact h3
  intro h5
  clear_value x15
  extract_lets +onlyGivenNames x16
  refine Only.keep x16 ?_ ?_
  · unfold x16
    refine Only.step (State.creditAt_only ..) rfl ?_
    exact h5
  intro h6
  clear_value x16
  extract_lets +onlyGivenNames x17
  refine Only.keep x17 ?_ ?_
  · unfold x17
    refine Only.ite ?_ ?_
    · refine Only.step (State.openInterval_only ..) rfl ?_
      refine Only.step (State.closeInterval_only ..) rfl ?_
      exact h6
    · exact h6
  intro h7
  clear_value x17
  extract_lets +onlyGivenNames x18
  refine Only.keep x18 ?_ ?_
  · unfold x18
    refine Only.step (State.revExportAt_only ..) rfl ?_
    refine Only.step (State.appendLegal_only ..) rfl ?_
    exact h7
  intro h8
  clear_value x18
  extract_lets +onlyGivenNames x19
  refine Only.keep x19 ?_ ?_
  · unfold x19
    refine Only.step (State.nrgRaise_only ..) rfl ?_
    exact h8
  intro h9
  clear_value x19
  refine Only.ite ?_ ?_
  · refine Only.step (State.modBil_only ..) rfl ?_
    refine Only.step (State.modNrg_only ..) rfl ?_
    exact h9
  · refine Only.step (State.modNrg_only ..) rfl ?_
    exact h9

theorem State.latchDue_only (a0 : _) (a1 : _) :
    Only [.jnl, .met, .host, .pq, .sent, .bil, .nrg] a0 (State.latchDue a0 a1) := by
  unfold State.latchDue
  refine Only.foldl (fun u1 a1x h1 => ?_) ?_
  · refine Only.step (State.latchAt_only ..) rfl ?_
    refine Only.step (State.modNrg_only ..) rfl ?_
    exact h1
  · exact (Only.refl _ _)

theorem State.latchUpTo_only (a0 : _) (a1 : _) (a2 : _) :
    Only [.jnl, .met, .host, .pq, .sent, .bil, .nrg] a0 (State.latchUpTo a0 a1 a2) := by
  unfold State.latchUpTo
  refine Only.step (State.latchDue_only ..) rfl ?_
  refine Only.step (State.modNrg_only ..) rfl ?_
  exact (Only.refl _ _)

theorem State.forcedLatch_only (a0 : _) (a1 : _) (a2 : _) :
    Only [.jnl, .met, .host, .pq, .sent, .bil, .nrg] a0 (State.forcedLatch a0 a1 a2) := by
  unfold State.forcedLatch
  refine Only.step (State.modNrg_only ..) rfl ?_
  refine Only.step (State.latchAt_only ..) rfl ?_
  refine Only.step (State.latchUpTo_only ..) rfl ?_
  exact (Only.refl _ _)

theorem State.stopBilling_only (a0 : _) (a1 : _) (a2 : _) :
    Only [.jnl, .met, .host, .pq, .sent, .bil, .nrg] a0 (State.stopBilling a0 a1 a2) := by
  unfold State.stopBilling
  extract_lets +onlyGivenNames x1
  refine Only.ite ?_ ?_
  · exact (Only.refl _ _)
  · extract_lets +onlyGivenNames x2
    refine Only.keep x2 ?_ ?_
    · unfold x2
      refine Only.ite ?_ ?_
      · refine Only.step (State.latchUpTo_only ..) rfl ?_
        exact (Only.refl _ _)
      · exact (Only.refl _ _)
    intro h1
    clear_value x2
    extract_lets +onlyGivenNames x3
    refine Only.keep x3 ?_ ?_
    · unfold x3
      refine Only.step (State.modBil_only ..) rfl ?_
      exact h1
    intro h2
    clear_value x3
    extract_lets +onlyGivenNames x4
    refine Only.keep x4 ?_ ?_
    · unfold x4
      refine Only.ite ?_ ?_
      · refine Only.step (State.forcedLatch_only ..) rfl ?_
        exact h2
      · exact h2
    intro h3
    clear_value x4
    extract_lets +onlyGivenNames x5
    refine Only.keep x5 ?_ ?_
    · unfold x5
      refine Only.ite ?_ ?_
      · refine Only.step (State.openInterval_only ..) rfl ?_
        refine Only.step (State.closeInterval_only ..) rfl ?_
        exact h3
      · exact h3
    intro h4
    clear_value x5
    refine Only.step (State.emit_only ..) rfl ?_
    refine Only.step (State.nrgRaise_only ..) rfl ?_
    refine Only.step (State.modNrg_only ..) rfl ?_
    exact h4

theorem State.stopAllBilled_only (a0 : _) :
    Only [.jnl, .met, .host, .pq, .sent, .bil, .nrg] a0 (State.stopAllBilled a0) := by
  unfold State.stopAllBilled
  refine Only.each (fun a1x u1 h1 => ?_) ?_
  · refine Only.ite ?_ ?_
    · refine Only.step (State.stopBilling_only ..) rfl ?_
      exact h1
    · exact h1
  · exact (Only.refl _ _)

theorem State.holdStop_only (a0 : _) :
    Only [.jnl, .met, .host, .pq, .sent, .bil, .nrg] a0 (State.holdStop a0) := by
  unfold State.holdStop
  refine Only.ite ?_ ?_
  · refine Only.step (State.stopAllBilled_only ..) rfl ?_
    exact (Only.refl _ _)
  · exact (Only.refl _ _)

theorem State.sealBreak_only (a0 : _) :
    Only [.jnl, .met, .host, .pq, .keys, .legal, .sent, .bil, .nrg, .rind] a0 (State.sealBreak a0) := by
  unfold State.sealBreak
  refine Only.ite ?_ ?_
  · exact (Only.refl _ _)
  · extract_lets +onlyGivenNames x1
    refine Only.keep x1 ?_ ?_
    · unfold x1
      refine Only.step (State.modRind_only ..) rfl ?_
      exact (Only.refl _ _)
    intro h1
    clear_value x1
    extract_lets +onlyGivenNames x2
    refine Only.keep x2 ?_ ?_
    · unfold x2
      refine Only.ite ?_ ?_
      · refine Only.step (State.appendLegal_only ..) rfl ?_
        exact h1
      · refine Only.step (State.modRind_only ..) rfl ?_
        exact h1
    intro h2
    clear_value x2
    refine Only.step (State.holdStop_only ..) rfl ?_
    refine Only.step (State.irqAll_only ..) rfl ?_
    refine Only.step (State.bilUnitRaise_only ..) rfl ?_
    refine Only.step (State.keyRaise_only ..) rfl ?_
    refine Only.step (State.auditRind_only ..) rfl ?_
    exact h2

theorem State.batteryStart_only (a0 : _) :
    Only [.jnl, .met, .host, .pq, .keys, .legal, .sent, .bil, .nrg, .rind] a0 (State.batteryStart a0) := by
  unfold State.batteryStart
  refine Only.ite ?_ ?_
  · exact (Only.refl _ _)
  · extract_lets +onlyGivenNames x1
    refine Only.keep x1 ?_ ?_
    · unfold x1
      refine Only.step (State.modRind_only ..) rfl ?_
      exact (Only.refl _ _)
    intro h1
    clear_value x1
    refine Only.step (State.sealBreak_only ..) rfl ?_
    refine Only.step (State.auditRind_only ..) rfl ?_
    exact h1

theorem State.dropProposal_only (a0 : _) (a1 : _) :
    Only [.msh, .host, .fw, .sent, .chn] a0 (State.dropProposal a0 a1) := by
  unfold State.dropProposal
  refine Only.ite ?_ ?_
  · exact (Only.refl _ _)
  · extract_lets +onlyGivenNames x1
    extract_lets +onlyGivenNames x2
    extract_lets +onlyGivenNames x3
    extract_lets +onlyGivenNames x4
    refine Only.keep x4 ?_ ?_
    · unfold x4
      refine Only.ite ?_ ?_
      · refine Only.step (State.finalOpt_only ..) rfl ?_
        refine Only.step (State.modFw_only ..) rfl ?_
        exact (Only.refl _ _)
      · exact (Only.refl _ _)
    intro h1
    clear_value x4
    refine Only.step (State.modAct_only ..) rfl ?_
    refine Only.step (State.actEnd_only ..) rfl ?_
    exact h1

theorem State.endElection_only (a0 : _) (a1 : _) (a2 : _) :
    Only [.msh, .host, .fw, .lease, .sent, .chn] a0 (State.endElection a0 a1 a2) := by
  unfold State.endElection
  extract_lets +onlyGivenNames x1
  extract_lets +onlyGivenNames x2
  refine Only.keep x2 ?_ ?_
  · unfold x2
    refine Only.step (State.dropProposal_only ..) rfl ?_
    refine Only.step (State.chnRaise_only ..) rfl ?_
    refine Only.step (State.modChn_only ..) rfl ?_
    exact (Only.refl _ _)
  intro h1
  clear_value x2
  refine Only.ite ?_ ?_
  · refine Only.step (State.modLease_only ..) rfl ?_
    exact h1
  · exact h1

theorem State.sendWalk_only (a0 : _) (a1 : _) (a2 : _) :
    Only [.sent, .chn] a0 (State.sendWalk a0 a1 a2) := by
  unfold State.sendWalk
  refine Only.step (State.queueFrame_only ..) rfl ?_
  refine Only.step (State.modChn_only ..) rfl ?_
  exact (Only.refl _ _)

theorem State.becomeHead_only (a0 : _) (a1 : _) :
    Only [.msh, .host, .fw, .lease, .sent, .chn] a0 (State.becomeHead a0 a1) := by
  unfold State.becomeHead
  extract_lets +onlyGivenNames x1
  extract_lets +onlyGivenNames x2
  extract_lets +onlyGivenNames x3
  refine Only.keep x3 ?_ ?_
  · unfold x3
    refine Only.step (State.modChn_only ..) rfl ?_
    refine Only.step (State.endElection_only ..) rfl ?_
    exact (Only.refl _ _)
  intro h1
  clear_value x3
  extract_lets +onlyGivenNames x4
  refine Only.keep x4 ?_ ?_
  · unfold x4
    refine Only.step (State.originate_only ..) rfl ?_
    refine Only.step (State.originate_only ..) rfl ?_
    refine Only.step (State.modAct_only ..) rfl ?_
    exact h1
  intro h2
  clear_value x4
  refine Only.ite ?_ ?_
  · refine Only.step (State.sendWalk_only ..) rfl ?_
    exact h2
  · exact h2

theorem State.beginDelivery_only (a0 : _) (a1 : _) :
    Only [.host, .veh, .sent, .pwr] a0 (State.beginDelivery a0 a1) := by
  unfold State.beginDelivery
  refine Only.ite ?_ ?_
  · refine Only.step (State.wantChanged_only ..) rfl ?_
    refine Only.step (State.retarget_only ..) rfl ?_
    refine Only.step (State.modPwr_only ..) rfl ?_
    exact (Only.refl _ _)
  · exact (Only.refl _ _)

theorem State.earlySaves_only (a0 : _) :
    Only [.jnl] a0 (State.earlySaves a0) := by
  unfold State.earlySaves
  refine Only.each (fun a1x u1 h1 => ?_) ?_
  · refine Only.ite ?_ ?_
    · refine Only.step (State.appendLegal_only ..) rfl ?_
      exact h1
    · exact h1
  · exact (Only.refl _ _)

theorem State.beginSaves_only (a0 : _) :
    Only [.jnl, .legal] a0 (State.beginSaves a0) := by
  unfold State.beginSaves
  refine Only.ite ?_ ?_
  · exact (Only.refl _ _)
  · refine Only.ite ?_ ?_
    · refine Only.step (State.abortRipening_only ..) rfl ?_
      exact (Only.refl _ _)
    · refine Only.step (State.earlySaves_only ..) rfl ?_
      refine Only.step (State.abortRipening_only ..) rfl ?_
      refine Only.step (State.modLegal_only ..) rfl ?_
      exact (Only.refl _ _)

theorem State.lsRaise_only (a0 : _) (a1 : _) :
    Only [.ls] a0 (State.lsRaise a0 a1) := by
  unfold State.lsRaise
  refine Only.step (State.modLs_only ..) rfl ?_
  exact (Only.refl _ _)

theorem State.restoreEnd_only (a0 : _) :
    Only [.ls] a0 (State.restoreEnd a0) := by
  unfold State.restoreEnd
  extract_lets +onlyGivenNames x1
  refine Only.keep x1 ?_ ?_
  · unfold x1
    refine Only.step (State.lsSettle_only ..) rfl ?_
    refine Only.step (State.modLs_only ..) rfl ?_
    exact (Only.refl _ _)
  intro h1
  clear_value x1
  refine Only.ite ?_ ?_
  · exact h1
  · refine Only.step (State.lsRaise_only ..) rfl ?_
    exact h1

theorem State.restoreGroup_only (a0 : _) (a1 : _) :
    Only [.ls] a0 (State.restoreGroup a0 a1) := by
  unfold State.restoreGroup
  extract_lets +onlyGivenNames x1
  extract_lets +onlyGivenNames x2
  refine Only.keep x2 ?_ ?_
  · unfold x2
    refine Only.step (State.lsSettle_only ..) rfl ?_
    refine Only.foldl (fun u1 a1x h1 => ?_) ?_
    · refine Only.step (State.modLsCh_only ..) rfl ?_
      exact h1
    · exact (Only.refl _ _)
  intro h2
  clear_value x2
  split
  · refine Only.ite ?_ ?_
    · refine Only.step (State.modLs_only ..) rfl ?_
      exact h2
    · refine Only.step (State.restoreEnd_only ..) rfl ?_
      exact h2
  · refine Only.step (State.restoreEnd_only ..) rfl ?_
    exact h2

theorem State.bootOn_only (a0 : _) :
    Only [.ls] a0 (State.bootOn a0) := by
  unfold State.bootOn
  refine Only.ite ?_ ?_
  · exact (Only.refl _ _)
  · extract_lets +onlyGivenNames x1
    extract_lets +onlyGivenNames x2
    refine Only.keep x2 ?_ ?_
    · unfold x2
      refine Only.step (State.modLs_only ..) rfl ?_
      exact (Only.refl _ _)
    intro h1
    clear_value x2
    extract_lets +onlyGivenNames x3
    refine Only.keep x3 ?_ ?_
    · unfold x3
      refine Only.each (fun a1x u1 h2 => ?_) ?_
      · refine Only.ite ?_ ?_
        · refine Only.step (State.modLsCh_only ..) rfl ?_
          exact h2
        · exact h2
      · exact h1
    intro h3
    clear_value x3
    refine Only.ite ?_ ?_
    · exact h3
    · refine Only.step (State.restoreGroup_only ..) rfl ?_
      exact h3

theorem State.calEdge_only (a0 : _) (a1 : _) (a2 : _) :
    Only [.met, .host] a0 (State.calEdge a0 a1 a2) := by
  unfold State.calEdge
  split
  · refine Only.ite ?_ ?_
    · exact (Only.refl _ _)
    · split
      · refine Only.step (State.modMet_only ..) rfl ?_
        exact (Only.refl _ _)
      · extract_lets +onlyGivenNames x1
        refine Only.ite ?_ ?_
        · refine Only.step (State.modMet_only ..) rfl ?_
          exact (Only.refl _ _)
        · extract_lets +onlyGivenNames x2
          extract_lets +onlyGivenNames x3
          extract_lets +onlyGivenNames x4
          refine Only.step (State.modMet_only ..) rfl ?_
          refine Only.step (State.final_only ..) rfl ?_
          exact (Only.refl _ _)
  · exact (Only.refl _ _)

theorem State.endAbsence_only (a0 : _) (a1 : _) :
    Only [.cave] a0 (State.endAbsence a0 a1) := by
  unfold State.endAbsence
  split
  · refine Only.step (State.modCave_only ..) rfl ?_
    refine Only.step (State.absence_only ..) rfl ?_
    exact (Only.refl _ _)
  · exact (Only.refl _ _)

theorem State.takeSpan_only (a0 : _) (a1 : _) (a2 : _) (a3 : _) (a4 : _) :
    Only [.cave] a0 (State.takeSpan a0 a1 a2 a3 a4) := by
  unfold State.takeSpan
  extract_lets +onlyGivenNames x1
  split
  · refine Only.ite ?_ ?_
    · try dsimp -zeta only [x1]
      refine Only.step (State.modCave_only ..) rfl ?_
      exact (Only.refl _ _)
    · try dsimp -zeta only [x1]
      refine Only.step (State.modCave_only ..) rfl ?_
      refine Only.step (State.endAbsence_only ..) rfl ?_
      exact (Only.refl _ _)
  · try dsimp -zeta only [x1]
    refine Only.step (State.modCave_only ..) rfl ?_
    exact (Only.refl _ _)

theorem State.discardBlocks_only (a0 : _) (a1 : _) (a2 : _) :
    Only [.cave] a0 (State.discardBlocks a0 a1 a2) := by
  unfold State.discardBlocks
  extract_lets +onlyGivenNames x1
  split
  · refine Only.step (State.takeSpan_only ..) rfl ?_
    exact (Only.refl _ _)
  · exact (Only.refl _ _)

theorem State.shed_only (a0 : _) :
    Only [.cave, .host, .sent] a0 (State.shed a0) := by
  unfold State.shed
  extract_lets +onlyGivenNames x1
  extract_lets +onlyGivenNames x2
  refine Only.ite ?_ ?_
  · exact (Only.refl _ _)
  · extract_lets +onlyGivenNames x3
    refine Only.keep x3 ?_ ?_
    · unfold x3
      refine Only.step (State.modCave_only ..) rfl ?_
      exact (Only.refl _ _)
    intro h1
    clear_value x3
    refine Only.ite ?_ ?_
    · extract_lets +onlyGivenNames x4
      refine Only.keep x4 ?_ ?_
      · unfold x4
        refine Only.step (State.countGroup_only ..) rfl ?_
        refine Only.step (State.caveRaise_only ..) rfl ?_
        refine Only.step (State.modCave_only ..) rfl ?_
        exact h1
      intro h2
      clear_value x4
      refine Only.ite ?_ ?_
      · refine Only.step (State.modCave_only ..) rfl ?_
        exact h2
      · exact h2
    · refine Only.step (State.caveRaise_only ..) rfl ?_
      exact h1

theorem State.caveFault_only (a0 : _) :
    Only [.cave, .host, .sent] a0 (State.caveFault a0) := by
  unfold State.caveFault
  split
  · refine Only.step (State.shed_only ..) rfl ?_
    refine Only.step (State.setCave_only ..) rfl ?_
    refine Only.each (fun a1x u1 h1 => ?_) ?_
    · refine Only.step (State.discardBlocks_only ..) rfl ?_
      exact h1
    · refine Only.step (State.modCave_only ..) rfl ?_
      exact (Only.refl _ _)
  · refine Only.step (State.shed_only ..) rfl ?_
    refine Only.step (State.setCave_only ..) rfl ?_
    refine Only.each (fun a2x u2 h2 => ?_) ?_
    · refine Only.step (State.discardBlocks_only ..) rfl ?_
      exact h2
    · refine Only.step (State.modCave_only ..) rfl ?_
      exact (Only.refl _ _)
  · refine Only.step (State.shed_only ..) rfl ?_
    refine Only.step (State.setCave_only ..) rfl ?_
    refine Only.each (fun a3x u3 h3 => ?_) ?_
    · refine Only.step (State.discardBlocks_only ..) rfl ?_
      exact h3
    · refine Only.step (State.modCave_only ..) rfl ?_
      exact (Only.refl _ _)
  · refine Only.step (State.shed_only ..) rfl ?_
    refine Only.step (State.setCave_only ..) rfl ?_
    refine Only.each (fun a4x u4 h4 => ?_) ?_
    · refine Only.step (State.discardBlocks_only ..) rfl ?_
      exact h4
    · refine Only.step (State.modCave_only ..) rfl ?_
      exact (Only.refl _ _)
  · refine Only.step (State.shed_only ..) rfl ?_
    refine Only.step (State.setCave_only ..) rfl ?_
    refine Only.each (fun a5x u5 h5 => ?_) ?_
    · refine Only.step (State.discardBlocks_only ..) rfl ?_
      exact h5
    · refine Only.step (State.modCave_only ..) rfl ?_
      exact (Only.refl _ _)
  · exact (Only.refl _ _)

theorem State.cfgRequest_only {ps : List Part} {s t : State} {g : Guest} {f : State → State}
    (w : within [.sys, .msh, .host, .sent, .chn] ps = true) (k : ∀ u, Only ps s u → Only ps s (f u)) (q : Only ps s t) :
    Only ps s (t.cfgRequest g f) := by
  unfold State.cfgRequest
  exact Only.step (State.hostActive_only ..) w (Only.ite (Only.step (State.emit_only ..) (within_trans rfl w) q) (k _ q))

theorem State.consume_only {ps : List Part} {s t : State} {h : ChHdr} {b : ChBody} {eat : State → State} (w : within [.chn] ps = true)
    (k : ∀ u, Only ps s u → Only ps s (eat u)) (q : Only ps s t) : Only ps s (t.consume h b eat) := by
  unfold State.consume
  extract_lets x y
  refine Only.ite q ?_
  split
  · exact k _ q
  · refine Only.ite q ?_
    extract_lets
    exact k _ (Only.step (State.modChn_only ..) w q)

theorem State.useFree_only (a0 : _) :
    Only [.free] a0 (State.useFree a0) := by
  unfold State.useFree
  refine Only.step (State.modFree_only ..) rfl ?_
  exact (Only.refl _ _)

theorem State.hopsOver_only (a0 : _) (a1 : _) :
    Only [.chn] a0 (State.hopsOver a0 a1) := by
  unfold State.hopsOver
  refine Only.step (State.modChLink_only ..) rfl ?_
  exact (Only.refl _ _)

theorem State.forward_only (a0 : _) (a1 : _) (a2 : _) (a3 : _) :
    Only [.free, .sent, .chn] a0 (State.forward a0 a1 a2 a3) := by
  unfold State.forward
  refine Only.ite ?_ ?_
  · exact (Only.refl _ _)
  · refine Only.ite ?_ ?_
    · refine Only.step (State.hopsOver_only ..) rfl ?_
      exact (Only.refl _ _)
    · extract_lets +onlyGivenNames x1
      refine Only.step (State.queueFrame_only ..) rfl ?_
      refine Only.step (State.useFree_only ..) rfl ?_
      exact (Only.refl _ _)

theorem State.chainRx_only {ps : List Part} {s t : State} {h : ChHdr} {b : ChBody} {eat : State → State}
    (w : within [.chn, .free, .sent, .msh, .host] ps = true) (k : ∀ u, Only ps s u → Only ps s (eat u)) (q : Only ps s t) :
    Only ps s (t.chainRx h b eat) := by
  have w1 : ∀ {qs}, within qs [.chn, .free, .sent, .msh, .host] = true → within qs ps = true := fun h => within_trans h w
  unfold State.chainRx
  refine Only.ite q ?_
  split
  · exact State.consume_only (w1 rfl) k q
  · refine Only.ite q ?_
    refine Only.ite (Only.step (State.badFrame_only ..) (w1 rfl) q) ?_
    extract_lets +onlyGivenNames x
    have hx : Only ps s x := by unfold x; exact Only.step (State.modChLink_only ..) (w1 rfl) q
    clear_value x
    extract_lets +onlyGivenNames y
    have hy : Only ps s y := by
      unfold y; split
      · exact hx
      · exact Only.step (State.forward_only ..) (w1 rfl) hx
    clear_value y
    extract_lets +onlyGivenNames z
    have hz : Only ps s z := by
      unfold z; split
      · exact Only.step (State.meshSend_only ..) (w1 rfl) hy
      · exact hy
    exact State.consume_only (w1 rfl) k hz

theorem State.leaveWindow_only (a0 : _) (a1 : _) :
    Only [.ses, .pwr] a0 (State.leaveWindow a0 a1) := by
  unfold State.leaveWindow
  extract_lets +onlyGivenNames x1
  refine Only.ite ?_ ?_
  · refine Only.step (State.modSes_only ..) rfl ?_
    refine Only.step (State.modPwr_only ..) rfl ?_
    exact (Only.refl _ _)
  · exact (Only.refl _ _)

theorem State.checkPrecharge_only (a0 : _) (a1 : _) :
    Only [.ses, .sys, .pm, .host, .veh, .sent, .pwr] a0 (State.checkPrecharge a0 a1) := by
  unfold State.checkPrecharge
  extract_lets +onlyGivenNames x1
  extract_lets +onlyGivenNames x2
  refine Only.keep x2 ?_ ?_
  · unfold x2
    refine Only.step (State.leaveWindow_only ..) rfl ?_
    exact (Only.refl _ _)
  intro h1
  clear_value x2
  refine Only.ite ?_ ?_
  · refine Only.step (State.advance_only ..) rfl ?_
    refine Only.step (State.pwrRaise_only ..) rfl ?_
    refine Only.step (State.modPwr_only ..) rfl ?_
    exact h1
  · exact h1

theorem State.checkTarget_only (a0 : _) (a1 : _) :
    Only [.host, .sent, .pwr] a0 (State.checkTarget a0 a1) := by
  unfold State.checkTarget
  extract_lets +onlyGivenNames x1
  refine Only.ite ?_ ?_
  · refine Only.step (State.pwrRaise_only ..) rfl ?_
    refine Only.step (State.modPwr_only ..) rfl ?_
    exact (Only.refl _ _)
  · exact (Only.refl _ _)

theorem State.revert_only (a0 : _) :
    Only [.msh, .fw, .sent, .chn] a0 (State.revert a0) := by
  unfold State.revert
  refine Only.ite ?_ ?_
  · refine Only.step (State.mirrorEv_only ..) rfl ?_
    refine Only.step (State.updRaise_only ..) rfl ?_
    refine Only.step (State.modAct_only ..) rfl ?_
    refine Only.step (State.modFw_only ..) rfl ?_
    exact (Only.refl _ _)
  · exact (Only.refl _ _)

theorem State.openPort_only (a0 : _) (a1 : _) :
    Only [.sp, .host, .sent, .saf] a0 (State.openPort a0 a1) := by
  unfold State.openPort
  split
  · refine Only.step (State.setPort_only ..) rfl ?_
    refine Only.step (State.coilsOff_only ..) rfl ?_
    exact (Only.refl _ _)
  · refine Only.step (State.setPort_only ..) rfl ?_
    refine Only.step (State.coilsOff_only ..) rfl ?_
    exact (Only.refl _ _)
  · exact (Only.refl _ _)

theorem State.startWindow_only (a0 : _) (a1 : _) :
    Only [.sp, .host, .sent, .saf] a0 (State.startWindow a0 a1) := by
  unfold State.startWindow
  split
  · refine Only.step (State.openPort_only ..) rfl ?_
    exact (Only.refl _ _)
  · split
    · refine Only.ite ?_ ?_
      · refine Only.step (State.openPort_only ..) rfl ?_
        exact (Only.refl _ _)
      · refine Only.step (State.portMsg_only ..) rfl ?_
        refine Only.step (State.modSp_only ..) rfl ?_
        exact (Only.refl _ _)
    · refine Only.step (State.portMsg_only ..) rfl ?_
      refine Only.step (State.modSp_only ..) rfl ?_
      exact (Only.refl _ _)
  · exact (Only.refl _ _)

theorem State.serviceLoss_only (a0 : _) :
    Only [.ses, .sp, .cave, .host, .sent, .saf, .brk] a0 (State.serviceLoss a0) := by
  unfold State.serviceLoss
  refine Only.ite ?_ ?_
  · exact (Only.refl _ _)
  · extract_lets +onlyGivenNames x1
    refine Only.keep x1 ?_ ?_
    · unfold x1
      refine Only.step (State.safRaise_only ..) rfl ?_
      refine Only.step (State.modSaf_only ..) rfl ?_
      exact (Only.refl _ _)
    intro h1
    clear_value x1
    extract_lets +onlyGivenNames x2
    refine Only.keep x2 ?_ ?_
    · unfold x2
      refine Only.each (fun a1x u1 h2 => ?_) ?_
      · refine Only.step (State.startWindow_only ..) rfl ?_
        refine Only.step (State.abortTests_only ..) rfl ?_
        exact h2
      · exact h1
    intro h3
    clear_value x2
    refine Only.step (State.checkStop_only ..) rfl ?_
    refine Only.step (State.siteMsg_only ..) rfl ?_
    refine Only.step (State.evalRows_only ..) rfl ?_
    refine Only.each (fun a2x u2 h4 => ?_) ?_
    · refine Only.step (State.applyBrake_only ..) rfl ?_
      exact h4
    · exact h3

theorem State.lostSpan_only (a0 : _) (a1 : _) :
    Only [.cave] a0 (State.lostSpan a0 a1) := by
  unfold State.lostSpan
  extract_lets +onlyGivenNames x1
  refine Only.ite ?_ ?_
  · refine Only.step (State.modCave_only ..) rfl ?_
    exact (Only.refl _ _)
  · exact (Only.refl _ _)

theorem State.clearService_only (a0 : _) :
    Only [.jnl, .dsp, .sp, .nfc, .met, .fw, .pq, .keys, .legal, .bil, .nrg, .saf, .ls, .lk] a0 (State.clearService a0) := by
  constructor; intro p hp; cases p <;> first | rfl | exact absurd (by decide) hp

theorem State.sealOpen_only (a0 : _) (a1 : _) :
    Only [.bil] a0 (State.sealOpen a0 a1) := by
  unfold State.sealOpen
  refine Only.ite ?_ ?_
  · refine Only.step (State.modBil_only ..) rfl ?_
    exact (Only.refl _ _)
  · exact (Only.refl _ _)

theorem State.chipReset_only (a0 : _) (a1 : _) :
    Only [.ses, .jnl, .dsp, .sp, .sys, .pm, .time, .cave, .nfc, .met, .msh, .host, .fw, .veh, .pq, .keys, .legal, .lease, .conf, .sent, .pwr, .bil, .nrg, .saf, .chn, .ls, .lk, .brk] a0 (State.chipReset a0 a1) := by
  unfold State.chipReset
  refine Only.ite (Only.refl _ _) ?_
  extract_lets +onlyGivenNames y z w x1 x2
  have h1 : Only [.ses, .jnl, .dsp, .sp, .sys, .pm, .time, .cave, .nfc, .met, .msh, .host, .fw, .veh, .pq, .keys, .legal, .lease, .conf, .sent, .pwr, .bil, .nrg, .saf, .chn, .ls, .lk, .brk] a0 x1 := by
    have k : Only [.ses, .jnl, .dsp, .sp, .sys, .pm, .time, .cave, .nfc, .met, .msh, .host, .fw, .veh, .pq, .keys, .legal, .lease, .conf, .sent, .pwr, .bil, .nrg, .saf, .chn, .ls, .lk, .brk] a0 a0.clearService :=
      (State.clearService_only ..).mono rfl
    constructor; intro p hp
    have := k.same p hp
    cases p <;> first | exact this | exact absurd (by decide) hp
  have h2 : Only [.ses, .jnl, .dsp, .sp, .sys, .pm, .time, .cave, .nfc, .met, .msh, .host, .fw, .veh, .pq, .keys, .legal, .lease, .conf, .sent, .pwr, .bil, .nrg, .saf, .chn, .ls, .lk, .brk] a0 x2 := by
    unfold x2
    refine Only.step (State.serviceLoss_only ..) rfl ?_
    refine Only.each (fun i u h => Only.step (State.sealOpen_only ..) rfl h) ?_
    exact Only.each (fun i u h => Only.step (State.lostSpan_only ..) rfl h) h1
  exact Only.ite (Only.step (State.revert_only ..) rfl h2) h2

theorem State.mshRaise_only (a0 : _) (a1 : _) :
    Only [.msh] a0 (State.mshRaise a0 a1) := by
  unfold State.mshRaise
  refine Only.step (State.modMsh_only ..) rfl ?_
  exact (Only.refl _ _)

theorem State.classifyUnit_only (a0 : _) (a1 : _) :
    Only [.msh] a0 (State.classifyUnit a0 a1) := by
  unfold State.classifyUnit
  split
  · refine Only.ite ?_ ?_
    · exact (Only.refl _ _)
    · refine Only.ite ?_ ?_
      · extract_lets +onlyGivenNames x1
        extract_lets +onlyGivenNames x2
        refine Only.keep x2 ?_ ?_
        · unfold x2
          refine Only.step (State.modMsh_only ..) rfl ?_
          exact (Only.refl _ _)
        intro h1
        clear_value x2
        refine Only.ite ?_ ?_
        · refine Only.step (State.mshRaise_only ..) rfl ?_
          exact h1
        · exact h1
      · extract_lets +onlyGivenNames x3
        refine Only.step (State.modMsh_only ..) rfl ?_
        exact (Only.refl _ _)
  · exact (Only.refl _ _)

theorem State.modDsp_only (a0 : _) (a1 : _) :
    Only [.dsp] a0 (State.modDsp a0 a1) := by
  constructor; intro p hp; cases p <;> first | rfl | exact absurd (by decide) hp

theorem State.clearEvents_only (a0 : _) (a1 : _) :
    Only [.ses, .jnl, .dsp, .sp, .cave, .nfc, .met, .msh, .fw, .veh, .pq, .keys, .legal, .pwr, .bil, .nrg, .saf, .chn, .ls] a0 (State.clearEvents a0 a1) := by
  unfold State.clearEvents
  extract_lets +onlyGivenNames x1
  refine Only.keep x1 ?_ ?_
  · unfold x1
    refine Only.each (fun a1x u1 h1 => ?_) ?_
    · refine Only.step (State.modSp_only ..) rfl ?_
      refine Only.step (State.modPq_only ..) rfl ?_
      refine Only.step (State.modBil_only ..) rfl ?_
      refine Only.step (State.modNrg_only ..) rfl ?_
      refine Only.step (State.modMet_only ..) rfl ?_
      refine Only.step (State.modPwr_only ..) rfl ?_
      refine Only.step (State.modSes_only ..) rfl ?_
      refine Only.step (State.modVeh_only ..) rfl ?_
      exact h1
    · exact (Only.refl _ _)
  intro h2
  clear_value x1
  extract_lets +onlyGivenNames x2
  refine Only.keep x2 ?_ ?_
  · unfold x2
    refine Only.step (State.modChn_only ..) rfl ?_
    refine Only.step (State.modLs_only ..) rfl ?_
    refine Only.step (State.modSaf_only ..) rfl ?_
    refine Only.step (State.modLegal_only ..) rfl ?_
    exact h2
  intro h3
  clear_value x2
  extract_lets +onlyGivenNames x3
  refine Only.keep x3 ?_ ?_
  · unfold x3
    refine Only.step (State.modKeys_only ..) rfl ?_
    refine Only.step (State.modCave_only ..) rfl ?_
    refine Only.step (State.modJnl_only ..) rfl ?_
    refine Only.step (State.modMsh_only ..) rfl ?_
    exact h3
  intro h4
  clear_value x3
  refine Only.step (State.modDsp_only ..) rfl ?_
  refine Only.step (State.modNfc_only ..) rfl ?_
  refine Only.step (State.modFw_only ..) rfl ?_
  exact h4

theorem State.clearLatches_only (a0 : _) (a1 : _) (a2 : _) :
    Only [.sp, .host, .sent, .saf] a0 (State.clearLatches a0 a1 a2) := by
  unfold State.clearLatches
  refine Only.ite ?_ ?_
  · exact (Only.refl _ _)
  · extract_lets +onlyGivenNames x1
    extract_lets +onlyGivenNames x2
    extract_lets +onlyGivenNames x3
    extract_lets +onlyGivenNames x4
    extract_lets +onlyGivenNames x5
    extract_lets +onlyGivenNames x6
    refine Only.keep x6 ?_ ?_
    · unfold x6
      refine Only.ite ?_ ?_
      · refine Only.step (State.modSp_only ..) rfl ?_
        refine Only.step (State.clearCause_only ..) rfl ?_
        exact (Only.refl _ _)
      · exact (Only.refl _ _)
    intro h1
    clear_value x6
    extract_lets +onlyGivenNames x7
    refine Only.keep x7 ?_ ?_
    · unfold x7
      refine Only.ite ?_ ?_
      · refine Only.step (State.clearCause_only ..) rfl ?_
        exact h1
      · exact h1
    intro h2
    clear_value x7
    refine Only.ite ?_ ?_
    · refine Only.step (State.clearCause_only ..) rfl ?_
      refine Only.step (State.clearCause_only ..) rfl ?_
      exact h2
    · exact h2

theorem State.clearVault_only (a0 : _) :
    Only [.keys] a0 (State.clearVault a0) := by
  unfold State.clearVault
  refine Only.step (State.modKeys_only ..) rfl ?_
  exact (Only.refl _ _)

theorem State.modDet_only (a0 : _) (a1 : _) (a2 : _) :
    Only [.pq, .legal] a0 (State.modDet a0 a1 a2) := by
  unfold State.modDet
  split
  · refine Only.step (State.modPq_only ..) rfl ?_
    exact (Only.refl _ _)
  · refine Only.step (State.modLegal_only ..) rfl ?_
    exact (Only.refl _ _)

theorem State.pqSiteRaise_only (a0 : _) (a1 : _) :
    Only [.host, .legal, .sent] a0 (State.pqSiteRaise a0 a1) := by
  unfold State.pqSiteRaise
  refine Only.step (State.pendAll_only ..) rfl ?_
  refine Only.step (State.modLegal_only ..) rfl ?_
  exact (Only.refl _ _)

theorem State.pqEvent_only (a0 : _) (a1 : _) (a2 : _) :
    Only [.host, .pq, .legal, .sent] a0 (State.pqEvent a0 a1 a2) := by
  unfold State.pqEvent
  split
  · refine Only.step (State.pqRaise_only ..) rfl ?_
    exact (Only.refl _ _)
  · refine Only.step (State.pqSiteRaise_only ..) rfl ?_
    exact (Only.refl _ _)

theorem State.pqClose_only (a0 : _) (a1 : _) (a2 : _) (a3 : _) (a4 : _) (a5 : _) :
    Only [.host, .pq, .legal, .sent] a0 (State.pqClose a0 a1 a2 a3 a4 a5) := by
  unfold State.pqClose
  extract_lets +onlyGivenNames x1
  extract_lets +onlyGivenNames x2
  extract_lets +onlyGivenNames x3
  extract_lets +onlyGivenNames x4
  extract_lets +onlyGivenNames x5
  extract_lets +onlyGivenNames x6
  extract_lets +onlyGivenNames x7
  refine Only.keep x7 ?_ ?_
  · unfold x7
    refine Only.step (State.modLegal_only ..) rfl ?_
    exact (Only.refl _ _)
  intro h1
  clear_value x7
  extract_lets +onlyGivenNames x8
  refine Only.keep x8 ?_ ?_
  · unfold x8
    refine Only.step (State.modDet_only ..) rfl ?_
    exact h1
  intro h2
  clear_value x8
  refine Only.step (State.pqEvent_only ..) rfl ?_
  exact h2

theorem State.pqEndAll_only (a0 : _) (a1 : _) (a2 : _) (a3 : _) :
    Only [.host, .pq, .legal, .sent] a0 (State.pqEndAll a0 a1 a2 a3) := by
  unfold State.pqEndAll
  extract_lets +onlyGivenNames x1
  extract_lets +onlyGivenNames x2
  refine Only.keep x2 ?_ ?_
  · unfold x2
    split
    · refine Only.step (State.pqClose_only ..) rfl ?_
      exact (Only.refl _ _)
    · exact (Only.refl _ _)
  intro h1
  clear_value x2
  extract_lets +onlyGivenNames x3
  refine Only.keep x3 ?_ ?_
  · unfold x3
    split
    · refine Only.step (State.pqClose_only ..) rfl ?_
      exact h1
    · exact h1
  intro h2
  clear_value x3
  extract_lets +onlyGivenNames x4
  refine Only.keep x4 ?_ ?_
  · unfold x4
    split
    · refine Only.step (State.pqClose_only ..) rfl ?_
      exact h2
    · exact h2
  intro h3
  clear_value x4
  refine Only.step (State.modDet_only ..) rfl ?_
  exact h3

theorem State.closeWindow_only (a0 : _) (a1 : _) (a2 : _) :
    Only [.jnl, .met, .host, .pq, .legal, .sent, .bil, .nrg] a0 (State.closeWindow a0 a1 a2) := by
  unfold State.closeWindow
  extract_lets +onlyGivenNames x1
  refine Only.keep x1 ?_ ?_
  · unfold x1
    split
    · refine Only.step (State.stopBilling_only ..) rfl ?_
      exact (Only.refl _ _)
    · exact (Only.refl _ _)
  intro h1
  clear_value x1
  extract_lets +onlyGivenNames x2
  refine Only.keep x2 ?_ ?_
  · unfold x2
    refine Only.step (State.forcedLatch_only ..) rfl ?_
    exact h1
  intro h2
  clear_value x2
  extract_lets +onlyGivenNames x3
  refine Only.keep x3 ?_ ?_
  · unfold x3
    refine Only.step (State.pqEndAll_only ..) rfl ?_
    exact h2
  intro h3
  clear_value x3
  extract_lets +onlyGivenNames x4
  extract_lets +onlyGivenNames x5
  extract_lets +onlyGivenNames x6
  refine Only.keep x6 ?_ ?_
  · unfold x6
    dsimp only [x4]
    refine Only.ite ?_ ?_
    · refine Only.step (State.tamperRecord_only ..) rfl ?_
      exact h3
    · exact h3
  intro h4
  clear_value x6
  extract_lets +onlyGivenNames x7
  refine Only.keep x7 ?_ ?_
  · unfold x7
    dsimp only [x4]
    refine Only.ite ?_ ?_
    · refine Only.step (State.tamperRecord_only ..) rfl ?_
      exact h4
    · exact h4
  intro h5
  clear_value x7
  extract_lets +onlyGivenNames x8
  refine Only.keep x8 ?_ ?_
  · unfold x8
    dsimp only [x4]
    refine Only.ite ?_ ?_
    · refine Only.step (State.tamperRecord_only ..) rfl ?_
      exact h5
    · exact h5
  intro h6
  clear_value x8
  refine Only.step (State.modNrg_only ..) rfl ?_
  refine Only.step (State.modPq_only ..) rfl ?_
  exact h6

theorem State.closeEnded_only (a0 : _) :
    Only [.jnl, .met, .host, .pq, .legal, .sent, .bil, .nrg] a0 (State.closeEnded a0) := by
  unfold State.closeEnded
  refine Only.each (fun a1x u1 h1 => ?_) ?_
  · split
    · refine Only.ite ?_ ?_
      · exact h1
      · refine Only.ite ?_ ?_
        · refine Only.step (State.closeWindow_only ..) rfl ?_
          exact h1
        · refine Only.step (State.modNrg_only ..) rfl ?_
          exact h1
    · exact h1
  · exact (Only.refl _ _)

theorem State.closeRing_only (a0 : _) :
    Only [.msh, .sent, .chn] a0 (State.closeRing a0) := by
  unfold State.closeRing
  refine Only.step (State.originate_only ..) rfl ?_
  refine Only.step (State.modChn_only ..) rfl ?_
  exact (Only.refl _ _)

theorem State.winAbsences_only (a0 : _) (a1 : _) :
    Only [.cave] a0 (State.winAbsences a0 a1) := by
  unfold State.winAbsences
  refine Only.foldl (fun u1 a1x h1 => ?_) ?_
  · refine Only.foldl (fun u2 a2x h2 => ?_) ?_
    · refine Only.step (State.absence_only ..) rfl ?_
      exact h2
    · exact h1
  · exact (Only.refl _ _)

theorem State.closeWin_only (a0 : _) (a1 : _) :
    Only [.cave] a0 (State.closeWin a0 a1) := by
  unfold State.closeWin
  extract_lets +onlyGivenNames x1
  extract_lets +onlyGivenNames x2
  extract_lets +onlyGivenNames x3
  refine Only.keep x3 ?_ ?_
  · unfold x3
    refine Only.step (State.modCave_only ..) rfl ?_
    refine Only.step (State.winAbsences_only ..) rfl ?_
    exact (Only.refl _ _)
  intro h1
  clear_value x3
  refine Only.step (State.caveRaise_only ..) rfl ?_
  refine Only.step (State.offer_only ..) rfl ?_
  exact h1

theorem State.commitAct_only (a0 : _) (a1 : _) :
    Only [.jnl, .fw] a0 (State.commitAct a0 a1) := by
  unfold State.commitAct
  refine Only.step (State.updRaise_only ..) rfl ?_
  refine Only.step (State.appendConf_only ..) rfl ?_
  refine Only.step (State.modAct_only ..) rfl ?_
  exact (Only.refl _ _)

theorem State.commitSleep_only (a0 : _) (a1 : _) :
    Only [.sys, .msh, .host, .sent] a0 (State.commitSleep a0 a1) := by
  unfold State.commitSleep
  refine Only.step (State.sysChanged_only ..) rfl ?_
  refine Only.step (State.modMsh_only ..) rfl ?_
  refine Only.step (State.modSleep_only ..) rfl ?_
  exact (Only.refl _ _)

theorem State.confirmOpen_only (a0 : _) (a1 : _) :
    Only [.sp, .host, .sent, .saf] a0 (State.confirmOpen a0 a1) := by
  unfold State.confirmOpen
  extract_lets +onlyGivenNames x1
  extract_lets +onlyGivenNames x2
  extract_lets +onlyGivenNames x3
  refine Only.keep x3 ?_ ?_
  · unfold x3
    refine Only.step (State.sevRaise_only ..) rfl ?_
    refine Only.step (State.emit_only ..) rfl ?_
    refine Only.step (State.modSp_only ..) rfl ?_
    exact (Only.refl _ _)
  intro h1
  clear_value x3
  extract_lets +onlyGivenNames x4
  refine Only.keep x4 ?_ ?_
  · unfold x4
    refine Only.whenB (fun u1 h2 => ?_) ?_
    · refine Only.step (State.imdRaise_only ..) rfl ?_
      exact h2
    · exact h1
  intro h3
  clear_value x4
  extract_lets +onlyGivenNames x5
  refine Only.keep x5 ?_ ?_
  · unfold x5
    refine Only.ite ?_ ?_
    · refine Only.step (State.setPort_only ..) rfl ?_
      exact h3
    · exact h3
  intro h4
  clear_value x5
  refine Only.whenB (fun u2 h5 => ?_) ?_
  · refine Only.step (State.clearLatches_only ..) rfl ?_
    exact h5
  · refine Only.step (State.settle_only ..) rfl ?_
    refine Only.step (State.modSp_only ..) rfl ?_
    refine Only.step (State.busChanged_only ..) rfl ?_
    exact h4

theorem State.confirmedClosed_only (a0 : _) (a1 : _) :
    Only [.ses, .cave, .host, .veh, .sent, .pwr] a0 (State.confirmedClosed a0 a1) := by
  unfold State.confirmedClosed
  extract_lets +onlyGivenNames x1
  refine Only.keep x1 ?_ ?_
  · unfold x1
    refine Only.step (State.beginDelivery_only ..) rfl ?_
    refine Only.step (State.sesRaise_only ..) rfl ?_
    refine Only.step (State.sesTo_only ..) rfl ?_
    exact (Only.refl _ _)
  intro h1
  clear_value x1
  refine Only.ite ?_ ?_
  · refine Only.step (State.ramp_only ..) rfl ?_
    exact h1
  · exact h1

theorem State.confirmedOpen_only (a0 : _) (a1 : _) :
    Only [.ses, .jnl, .sp, .sys, .pm, .cave, .nfc, .met, .msh, .host, .sl, .veh, .legal, .free, .lease, .conf, .sent, .pwr, .bil, .nrg, .saf, .chn, .ls, .lk, .brk] a0 (State.confirmedOpen a0 a1) := by
  unfold State.confirmedOpen
  extract_lets +onlyGivenNames x1
  refine Only.keep x1 ?_ ?_
  · unfold x1
    refine Only.step (State.disable_only ..) rfl ?_
    refine Only.step (State.sesRaise_only ..) rfl ?_
    exact (Only.refl _ _)
  intro h1
  clear_value x1
  refine Only.ite ?_ ?_
  · refine Only.step (State.toSealing_only ..) rfl ?_
    exact h1
  · refine Only.step (State.wantChanged_only ..) rfl ?_
    refine Only.step (State.refreshPwm_only ..) rfl ?_
    refine Only.step (State.modVeh_only ..) rfl ?_
    refine Only.step (State.sesRaise_only ..) rfl ?_
    refine Only.step (State.sesTo_only ..) rfl ?_
    exact h1

theorem State.modNbr_only (a0 : _) (a1 : _) (a2 : _) :
    Only [.msh] a0 (State.modNbr a0 a1 a2) := by
  unfold State.modNbr
  refine Only.step (State.modMsh_only ..) rfl ?_
  exact (Only.refl _ _)

theorem State.countTry_only (a0 : _) (a1 : _) (a2 : _) :
    Only [.msh] a0 (State.countTry a0 a1 a2) := by
  unfold State.countTry
  refine Only.step (State.modNbr_only ..) rfl ?_
  exact (Only.refl _ _)

theorem State.linkFault_only (a0 : _) (a1 : _) :
    Only [.cave, .host, .veh, .sent] a0 (State.linkFault a0 a1) := by
  unfold State.linkFault
  refine Only.ite ?_ ?_
  · exact (Only.refl _ _)
  · refine Only.step (State.modVeh_only ..) rfl ?_
    refine Only.step (State.drive_only ..) rfl ?_
    refine Only.step (State.linkTo_only ..) rfl ?_
    refine Only.step (State.dropProtocol_only ..) rfl ?_
    exact (Only.refl _ _)

theorem State.sesUnplug_only (a0 : _) (a1 : _) :
    Only [.ses, .jnl, .sp, .sys, .pm, .cave, .nfc, .met, .msh, .host, .sl, .veh, .legal, .free, .lease, .conf, .sent, .pwr, .bil, .nrg, .saf, .chn, .ls, .lk, .brk] a0 (State.sesUnplug a0 a1) := by
  unfold State.sesUnplug
  split
  · refine Only.ite ?_ ?_
    · exact (Only.refl _ _)
    · refine Only.step (State.availPoll_only ..) rfl ?_
      refine Only.step (State.runDeferred_only ..) rfl ?_
      refine Only.step (State.sesTo_only ..) rfl ?_
      exact (Only.refl _ _)
  · refine Only.ite ?_ ?_
    · exact (Only.refl _ _)
    · refine Only.step (State.availPoll_only ..) rfl ?_
      refine Only.step (State.runDeferred_only ..) rfl ?_
      refine Only.step (State.sesTo_only ..) rfl ?_
      exact (Only.refl _ _)
  · refine Only.ite ?_ ?_
    · exact (Only.refl _ _)
    · refine Only.step (State.availPoll_only ..) rfl ?_
      refine Only.step (State.runDeferred_only ..) rfl ?_
      refine Only.step (State.sesTo_only ..) rfl ?_
      exact (Only.refl _ _)
  · extract_lets +onlyGivenNames x1
    refine Only.keep x1 ?_ ?_
    · unfold x1
      split
      · refine Only.step (State.answer_only ..) rfl ?_
        exact (Only.refl _ _)
      · exact (Only.refl _ _)
    intro h1
    clear_value x1
    refine Only.step (State.runDeferred_only ..) rfl ?_
    refine Only.step (State.modSes_only ..) rfl ?_
    exact h1
  · refine Only.step (State.endSession_only ..) rfl ?_
    exact (Only.refl _ _)

theorem State.unplug_only (a0 : _) (a1 : _) :
    Only [.ses, .jnl, .sp, .sys, .pm, .cave, .nfc, .met, .msh, .host, .sl, .veh, .legal, .free, .lease, .conf, .sent, .pwr, .bil, .nrg, .saf, .chn, .ls, .lk, .brk] a0 (State.unplug a0 a1) := by
  unfold State.unplug
  refine Only.ite ?_ ?_
  · extract_lets +onlyGivenNames x1
    refine Only.keep x1 ?_ ?_
    · unfold x1
      refine Only.step (State.sesUnplug_only ..) rfl ?_
      refine Only.step (State.modVeh_only ..) rfl ?_
      refine Only.step (State.drive_only ..) rfl ?_
      refine Only.step (State.linkTo_only ..) rfl ?_
      refine Only.step (State.clearIdle_only ..) rfl ?_
      refine Only.step (State.stopLock_only ..) rfl ?_
      refine Only.step (State.vpRaise_only ..) rfl ?_
      refine Only.step (State.voidNow_only ..) rfl ?_
      exact (Only.refl _ _)
    intro h1
    clear_value x1
    refine Only.ite ?_ ?_
    · refine Only.step (State.linkFault_only ..) rfl ?_
      exact h1
    · exact h1
  · exact (Only.refl _ _)

theorem State.resumeSes_only (a0 : _) (a1 : _) :
    Only [.ses, .sys, .pm, .cave, .host, .veh, .sent, .pwr] a0 (State.resumeSes a0 a1) := by
  unfold State.resumeSes
  refine Only.ite ?_ ?_
  · refine Only.step (State.advance_only ..) rfl ?_
    refine Only.step (State.sesRaise_only ..) rfl ?_
    refine Only.step (State.modSes_only ..) rfl ?_
    exact (Only.refl _ _)
  · exact (Only.refl _ _)

theorem State.pauseSes_only (a0 : _) (a1 : _) :
    Only [.ses, .host, .veh, .sent, .pwr] a0 (State.pauseSes a0 a1) := by
  unfold State.pauseSes
  refine Only.ite ?_ ?_
  · refine Only.step (State.ramp_only ..) rfl ?_
    exact (Only.refl _ _)
  · exact (Only.refl _ _)

theorem State.startPrep_only (a0 : _) (a1 : _) :
    Only [.ses, .sys, .pm, .host, .veh, .sent, .pwr, .lk] a0 (State.startPrep a0 a1) := by
  unfold State.startPrep
  refine Only.step (State.advance_only ..) rfl ?_
  refine Only.ite ?_ ?_
  · exact (Only.refl _ _)
  · refine Only.step (State.startLock_only ..) rfl ?_
    exact (Only.refl _ _)

theorem State.opened_only (a0 : _) (a1 : _) (a2 : _) (a3 : _) :
    Only [.ses, .sp, .sys, .pm, .cave, .host, .veh, .sent, .pwr, .lk] a0 (State.opened a0 a1 a2 a3) := by
  unfold State.opened
  extract_lets +onlyGivenNames x1
  extract_lets +onlyGivenNames x2
  refine Only.keep x2 ?_ ?_
  · unfold x2
    refine Only.step (State.modSes_only ..) rfl ?_
    exact (Only.refl _ _)
  intro h1
  clear_value x2
  extract_lets +onlyGivenNames x3
  refine Only.keep x3 ?_ ?_
  · unfold x3
    refine Only.step (State.modSp_only ..) rfl ?_
    exact h1
  intro h2
  clear_value x3
  extract_lets +onlyGivenNames x4
  refine Only.keep x4 ?_ ?_
  · unfold x4
    clear x4
    clear_value x1
    split
    · refine Only.step (State.answer_only ..) rfl ?_
      exact h2
    · exact h2
  intro h3
  clear_value x4
  refine Only.step (State.startPrep_only ..) rfl ?_
  refine Only.step (State.refreshPwm_only ..) rfl ?_
  refine Only.step (State.modVeh_only ..) rfl ?_
  refine Only.step (State.sayVehicle_only ..) rfl ?_
  refine Only.step (State.sesRaise_only ..) rfl ?_
  exact h3

theorem State.openWith_only (a0 : _) (a1 : _) (a2 : _) (a3 : _) :
    Only [.ses, .sp, .sys, .pm, .cave, .host, .veh, .sent, .pwr, .lk] a0 (State.openWith a0 a1 a2 a3) := by
  unfold State.openWith
  extract_lets +onlyGivenNames x1
  refine Only.keep x1 ?_ ?_
  · unfold x1
    refine Only.step (State.modSes_only ..) rfl ?_
    exact (Only.refl _ _)
  intro h1
  clear_value x1
  refine Only.ite ?_ ?_
  · refine Only.step (State.opened_only ..) rfl ?_
    exact h1
  · refine Only.step (State.emit_only ..) rfl ?_
    refine Only.step (State.modSes_only ..) rfl ?_
    exact h1

theorem State.refuseVehicle_only (a0 : _) (a1 : _) :
    Only [.veh, .sent] a0 (State.refuseVehicle a0 a1) := by
  unfold State.refuseVehicle
  refine Only.step (State.refreshPwm_only ..) rfl ?_
  refine Only.step (State.modVeh_only ..) rfl ?_
  refine Only.step (State.sayVehicle_only ..) rfl ?_
  exact (Only.refl _ _)

theorem State.reject_only (a0 : _) (a1 : _) :
    Only [.ses, .veh, .sent] a0 (State.reject a0 a1) := by
  unfold State.reject
  refine Only.step (State.refuseVehicle_only ..) rfl ?_
  refine Only.step (State.modSes_only ..) rfl ?_
  refine Only.step (State.sesTo_only ..) rfl ?_
  exact (Only.refl _ _)

theorem State.identify_only (a0 : _) (a1 : _) :
    Only [.ses, .sp, .sys, .pm, .cave, .host, .veh, .sent, .pwr, .lk] a0 (State.identify a0 a1) := by
  unfold State.identify
  extract_lets +onlyGivenNames x1
  refine Only.ite ?_ ?_
  · exact (Only.refl _ _)
  · refine Only.ite ?_ ?_
    · refine Only.step (State.refuseVehicle_only ..) rfl ?_
      exact (Only.refl _ _)
    · extract_lets +onlyGivenNames x2
      refine Only.keep x2 ?_ ?_
      · unfold x2
        refine Only.step (State.sayVehicle_only ..) rfl ?_
        refine Only.step (State.sesRaise_only ..) rfl ?_
        refine Only.step (State.sesTo_only ..) rfl ?_
        exact (Only.refl _ _)
      intro h1
      clear_value x2
      extract_lets +onlyGivenNames x3
      clear_value x3
      split
      · refine Only.ite ?_ ?_
        · refine Only.step (State.reject_only ..) rfl ?_
          exact h1
        · refine Only.step (State.openWith_only ..) rfl ?_
          exact h1
      · exact h1

theorem State.toBasic_only (a0 : _) (a1 : _) :
    Only [.ses, .sp, .sys, .pm, .cave, .host, .veh, .sent, .pwr, .lk] a0 (State.toBasic a0 a1) := by
  unfold State.toBasic
  refine Only.step (State.identify_only ..) rfl ?_
  refine Only.step (State.refreshPwm_only ..) rfl ?_
  refine Only.step (State.linkTo_only ..) rfl ?_
  exact (Only.refl _ _)

theorem State.plug_only (a0 : _) (a1 : _) :
    Only [.ses, .sp, .sys, .pm, .cave, .host, .veh, .sent, .pwr, .lk] a0 (State.plug a0 a1) := by
  unfold State.plug
  refine Only.ite ?_ ?_
  · exact (Only.refl _ _)
  · extract_lets +onlyGivenNames x1
    refine Only.keep x1 ?_ ?_
    · unfold x1
      refine Only.step (State.modSes_only ..) rfl ?_
      refine Only.step (State.vpRaise_only ..) rfl ?_
      exact (Only.refl _ _)
    intro h1
    clear_value x1
    refine Only.ite ?_ ?_
    · refine Only.step (State.drive_only ..) rfl ?_
      refine Only.step (State.linkTo_only ..) rfl ?_
      exact h1
    · refine Only.step (State.toBasic_only ..) rfl ?_
      exact h1

theorem State.cpAccept_only (a0 : _) (a1 : _) (a2 : _) :
    Only [.ses, .jnl, .sp, .sys, .pm, .cave, .nfc, .met, .msh, .host, .sl, .veh, .legal, .free, .lease, .conf, .sent, .pwr, .bil, .nrg, .saf, .chn, .ls, .lk, .brk] a0 (State.cpAccept a0 a1 a2) := by
  unfold State.cpAccept
  extract_lets +onlyGivenNames x1
  extract_lets +onlyGivenNames x2
  refine Only.keep x2 ?_ ?_
  · unfold x2
    refine Only.step (State.wakeEvent_only ..) rfl ?_
    refine Only.step (State.vpRaise_only ..) rfl ?_
    refine Only.step (State.modVeh_only ..) rfl ?_
    exact (Only.refl _ _)
  intro h1
  clear_value x2
  split
  · refine Only.step (State.unplug_only ..) rfl ?_
    exact h1
  · refine Only.step (State.linkFault_only ..) rfl ?_
    exact h1
  · refine Only.step (State.linkFault_only ..) rfl ?_
    exact h1
  · extract_lets +onlyGivenNames x3
    refine Only.keep x3 ?_ ?_
    · unfold x3
      refine Only.step (State.plug_only ..) rfl ?_
      exact h1
    intro h2
    clear_value x3
    refine Only.ite ?_ ?_
    · refine Only.step (State.pauseSes_only ..) rfl ?_
      exact h2
    · exact h2
  · extract_lets +onlyGivenNames x4
    refine Only.keep x4 ?_ ?_
    · unfold x4
      refine Only.step (State.plug_only ..) rfl ?_
      exact h1
    intro h3
    clear_value x4
    refine Only.step (State.advance_only ..) rfl ?_
    refine Only.ite ?_ ?_
    · refine Only.step (State.resumeSes_only ..) rfl ?_
      exact h3
    · exact h3
  · refine Only.step (State.plug_only ..) rfl ?_
    exact h1
  · refine Only.step (State.plug_only ..) rfl ?_
    exact h1

theorem State.cpSample_only (a0 : _) (a1 : _) (a2 : _) (a3 : _) :
    Only [.ses, .jnl, .sp, .sys, .pm, .cave, .nfc, .met, .msh, .host, .sl, .veh, .legal, .free, .lease, .conf, .sent, .pwr, .bil, .nrg, .saf, .chn, .ls, .lk, .brk] a0 (State.cpSample a0 a1 a2 a3) := by
  unfold State.cpSample
  extract_lets +onlyGivenNames x1
  refine Only.ite ?_ ?_
  · exact (Only.refl _ _)
  · refine Only.ite ?_ ?_
    · refine Only.step (State.modVeh_only ..) rfl ?_
      exact (Only.refl _ _)
    · extract_lets +onlyGivenNames x2
      refine Only.keep x2 ?_ ?_
      · unfold x2
        refine Only.step (State.modVeh_only ..) rfl ?_
        exact (Only.refl _ _)
      intro h1
      clear_value x2
      extract_lets +onlyGivenNames x3
      refine Only.ite ?_ ?_
      · refine Only.step (State.modVeh_only ..) rfl ?_
        exact h1
      · extract_lets +onlyGivenNames x4
        refine Only.keep x4 ?_ ?_
        · unfold x4
          refine Only.step (State.modVeh_only ..) rfl ?_
          exact h1
        intro h2
        clear_value x4
        refine Only.ite ?_ ?_
        · refine Only.step (State.cpAccept_only ..) rfl ?_
          exact h2
        · exact h2

theorem State.crossEnd_only (a0 : _) (a1 : _) (a2 : _) (a3 : _) :
    Only [.jnl, .host, .legal, .sent, .nrg] a0 (State.crossEnd a0 a1 a2 a3) := by
  unfold State.crossEnd
  extract_lets +onlyGivenNames x1
  extract_lets +onlyGivenNames x2
  extract_lets +onlyGivenNames x3
  extract_lets +onlyGivenNames x4
  extract_lets +onlyGivenNames x5
  extract_lets +onlyGivenNames x6
  extract_lets +onlyGivenNames x7
  extract_lets +onlyGivenNames x8
  extract_lets +onlyGivenNames x9
  refine Only.keep x9 ?_ ?_
  · unfold x9
    refine Only.step (State.modInput_only ..) rfl ?_
    exact (Only.refl _ _)
  intro h1
  clear_value x9
  extract_lets +onlyGivenNames x10
  refine Only.keep x10 ?_ ?_
  · unfold x10
    refine Only.ite ?_ ?_
    · exact h1
    · refine Only.step (State.appendLegal_only ..) rfl ?_
      exact h1
  intro h2
  clear_value x10
  refine Only.step (State.finalOpt_only ..) rfl ?_
  refine Only.step (State.nrgRaise_only ..) rfl ?_
  exact h2

theorem State.crossEdge_only (a0 : _) (a1 : _) :
    Only [.jnl, .host, .legal, .sent, .nrg] a0 (State.crossEdge a0 a1) := by
  unfold State.crossEdge
  split
  · exact (Only.refl _ _)
  · refine Only.ite ?_ ?_
    · refine Only.step (State.modInput_only ..) rfl ?_
      exact (Only.refl _ _)
    · refine Only.ite ?_ ?_
      · refine Only.step (State.modInput_only ..) rfl ?_
        exact (Only.refl _ _)
      · refine Only.step (State.crossEnd_only ..) rfl ?_
        exact (Only.refl _ _)

theorem State.cutThrough_only (a0 : _) (a1 : _) (a2 : _) :
    Only [.sent, .chn] a0 (State.cutThrough a0 a1 a2) := by
  unfold State.cutThrough
  extract_lets +onlyGivenNames x1
  extract_lets +onlyGivenNames x2
  refine Only.ite ?_ ?_
  · exact (Only.refl _ _)
  · refine Only.ite ?_ ?_
    · refine Only.step (State.hopsOver_only ..) rfl ?_
      exact (Only.refl _ _)
    · refine Only.ite ?_ ?_
      · exact (Only.refl _ _)
      · extract_lets +onlyGivenNames x3
        refine Only.step (State.emit_only ..) rfl ?_
        refine Only.step (State.modChLink_only ..) rfl ?_
        exact (Only.refl _ _)

theorem State.dcUnitEnd_only (a0 : _) (a1 : _) (a2 : _) (a3 : _) :
    Only [.jnl, .host, .pq, .sent] a0 (State.dcUnitEnd a0 a1 a2 a3) := by
  unfold State.dcUnitEnd
  refine Only.ite ?_ ?_
  · exact (Only.refl _ _)
  · extract_lets +onlyGivenNames x1
    extract_lets +onlyGivenNames x2
    extract_lets +onlyGivenNames x3
    extract_lets +onlyGivenNames x4
    extract_lets +onlyGivenNames x5
    extract_lets +onlyGivenNames x6
    extract_lets +onlyGivenNames x7
    refine Only.keep x7 ?_ ?_
    · unfold x7
      refine Only.ite ?_ ?_
      · refine Only.step (State.revUnit_only ..) rfl ?_
        exact (Only.refl _ _)
      · exact (Only.refl _ _)
    intro h1
    clear_value x7
    refine Only.step (State.modPq_only ..) rfl ?_
    exact h1

theorem State.failRestart_only (a0 : _) (a1 : _) :
    Only [.host, .saf] a0 (State.failRestart a0 a1) := by
  unfold State.failRestart
  split
  · exact (Only.refl _ _)
  · refine Only.step (State.finalOpt_only ..) rfl ?_
    refine Only.step (State.modSaf_only ..) rfl ?_
    exact (Only.refl _ _)

theorem State.recordFault_only (a0 : _) (a1 : _) :
    Only [.host, .sent, .saf] a0 (State.recordFault a0 a1) := by
  unfold State.recordFault
  refine Only.step (State.tripLog_only ..) rfl ?_
  refine Only.step (State.safRaise_only ..) rfl ?_
  refine Only.step (State.modSaf_only ..) rfl ?_
  exact (Only.refl _ _)

theorem State.diagFault_only (a0 : _) (a1 : _) (a2 : _) :
    Only [.ses, .sp, .cave, .host, .sent, .saf, .brk] a0 (State.diagFault a0 a1 a2) := by
  unfold State.diagFault
  extract_lets +onlyGivenNames x1
  refine Only.keep x1 ?_ ?_
  · unfold x1
    refine Only.step (State.modSaf_only ..) rfl ?_
    refine Only.step (State.recordFault_only ..) rfl ?_
    exact (Only.refl _ _)
  intro h1
  clear_value x1
  split
  · refine Only.ite ?_ ?_
    · exact h1
    · refine Only.each (fun a1x u1 h2 => ?_) ?_
      · refine Only.step (State.applyBrake_only ..) rfl ?_
        exact h2
      · refine Only.step (State.siteTo_only ..) rfl ?_
        exact h1
  · extract_lets +onlyGivenNames x2
    refine Only.keep x2 ?_ ?_
    · unfold x2
      refine Only.each (fun a2x u2 h3 => ?_) ?_
      · refine Only.step (State.startWindow_only ..) rfl ?_
        refine Only.step (State.abortTests_only ..) rfl ?_
        exact h3
      · refine Only.step (State.siteTo_only ..) rfl ?_
        exact h1
    intro h4
    clear_value x2
    refine Only.step (State.checkStop_only ..) rfl ?_
    exact h4
  · refine Only.each (fun a3x u3 h5 => ?_) ?_
    · refine Only.step (State.applyBrake_only ..) rfl ?_
      exact h5
    · refine Only.step (State.siteTo_only ..) rfl ?_
      refine Only.step (State.failRestart_only ..) rfl ?_
      exact h1
  · exact h1
  · exact h1
  · exact h1
  · exact h1

theorem State.diagGone_only (a0 : _) (a1 : _) (a2 : _) :
    Only [.saf] a0 (State.diagGone a0 a1 a2) := by
  unfold State.diagGone
  refine Only.step (State.modSaf_only ..) rfl ?_
  exact (Only.refl _ _)

theorem State.discardCal_only (a0 : _) (a1 : _) :
    Only [.met, .host] a0 (State.discardCal a0 a1) := by
  unfold State.discardCal
  extract_lets +onlyGivenNames x1
  refine Only.keep x1 ?_ ?_
  · unfold x1
    refine Only.step (State.endMeasure_only ..) rfl ?_
    exact (Only.refl _ _)
  intro h1
  clear_value x1
  refine Only.step (State.modMet_only ..) rfl ?_
  refine Only.step (State.finalOpt_only ..) rfl ?_
  exact h1

theorem State.drawLegal_only (a0 : _) :
    Only [.dsp] a0 (State.drawLegal a0) := by
  unfold State.drawLegal
  refine Only.ite ?_ ?_
  · refine Only.step (State.modDsp_only ..) rfl ?_
    exact (Only.refl _ _)
  · exact (Only.refl _ _)

theorem State.releaseCost_only (a0 : _) (a1 : _) :
    Only [.host] a0 (State.releaseCost a0 a1) := by
  unfold State.releaseCost
  extract_lets +onlyGivenNames x1
  split
  · refine Only.step (State.modGuest_only ..) rfl ?_
    exact (Only.refl _ _)
  · refine Only.step (State.modHost_only ..) rfl ?_
    exact (Only.refl _ _)

theorem State.freeNotice_only (a0 : _) (a1 : _) :
    Only [.host] a0 (State.freeNotice a0 a1) := by
  unfold State.freeNotice
  refine Only.step (State.modGuest_only ..) rfl ?_
  exact (Only.refl _ _)

theorem State.dropAdmitted_only (a0 : _) (a1 : _) :
    Only [.host] a0 (State.dropAdmitted a0 a1) := by
  unfold State.dropAdmitted
  extract_lets +onlyGivenNames x1
  extract_lets +onlyGivenNames x2
  refine Only.keep x2 ?_ ?_
  · unfold x2
    refine Only.foldl (fun u1 a1x h1 => ?_) ?_
    · refine Only.step (State.freeNotice_only ..) rfl ?_
      exact h1
    · exact (Only.refl _ _)
  intro h2
  clear_value x2
  extract_lets +onlyGivenNames x3
  refine Only.keep x3 ?_ ?_
  · unfold x3
    refine Only.foldl (fun u2 a2x h3 => ?_) ?_
    · refine Only.step (State.releaseCost_only ..) rfl ?_
      exact h3
    · exact h2
  intro h4
  clear_value x3
  refine Only.step (State.modHost_only ..) rfl ?_
  exact h4

theorem State.modStg_only (a0 : _) (a1 : _) (a2 : _) :
    Only [.fw] a0 (State.modStg a0 a1 a2) := by
  unfold State.modStg
  refine Only.step (State.modFw_only ..) rfl ?_
  exact (Only.refl _ _)

theorem State.stgEnd_only (a0 : _) (a1 : _) (a2 : _) (a3 : _) (a4 : _) (a5 : _) :
    Only [.host, .fw] a0 (State.stgEnd a0 a1 a2 a3 a4 a5) := by
  unfold State.stgEnd
  extract_lets +onlyGivenNames x1
  extract_lets +onlyGivenNames x2
  refine Only.keep x2 ?_ ?_
  · unfold x2
    refine Only.step (State.modStg_only ..) rfl ?_
    exact (Only.refl _ _)
  intro h1
  clear_value x2
  extract_lets +onlyGivenNames x3
  refine Only.keep x3 ?_ ?_
  · unfold x3
    refine Only.ite ?_ ?_
    · refine Only.step (State.updRaise_only ..) rfl ?_
      exact h1
    · exact h1
  intro h2
  clear_value x3
  refine Only.step (State.finalOpt_only ..) rfl ?_
  exact h2

theorem State.stgCancel_only (a0 : _) (a1 : _) :
    Only [.host, .fw] a0 (State.stgCancel a0 a1) := by
  unfold State.stgCancel
  refine Only.ite ?_ ?_
  · refine Only.step (State.stgEnd_only ..) rfl ?_
    exact (Only.refl _ _)
  · exact (Only.refl _ _)

theorem State.dropLeases_only (a0 : _) (a1 : _) :
    Only [.ses, .cave, .nfc, .host, .fw, .veh, .keys, .free, .conf, .sent] a0 (State.dropLeases a0 a1) := by
  unfold State.dropLeases
  extract_lets +onlyGivenNames x1
  refine Only.keep x1 ?_ ?_
  · unfold x1
    refine Only.each (fun a1x u1 h1 => ?_) ?_
    · extract_lets +onlyGivenNames x2
      refine Only.keep x2 ?_ ?_
      · unfold x2
        refine Only.ite ?_ ?_
        · refine Only.step (State.endClaim_only ..) rfl ?_
          exact h1
        · exact h1
      intro h2
      clear_value x2
      split
      · refine Only.ite ?_ ?_
        · refine Only.step (State.modSes_only ..) rfl ?_
          exact h2
        · exact h2
      · exact h2
    · exact (Only.refl _ _)
  intro h3
  clear_value x1
  extract_lets +onlyGivenNames x3
  refine Only.keep x3 ?_ ?_
  · unfold x3
    refine Only.step (State.modKeys_only ..) rfl ?_
    exact h3
  intro h4
  clear_value x3
  extract_lets +onlyGivenNames x4
  refine Only.keep x4 ?_ ?_
  · unfold x4
    refine Only.each (fun a2x u2 h5 => ?_) ?_
    · refine Only.ite ?_ ?_
      · refine Only.step (State.stgCancel_only ..) rfl ?_
        exact h5
      · exact h5
    · exact h4
  intro h6
  clear_value x4
  extract_lets +onlyGivenNames x5
  refine Only.keep x5 ?_ ?_
  · unfold x5
    refine Only.ite ?_ ?_
    · refine Only.step (State.releaseHeld_only ..) rfl ?_
      exact h6
    · exact h6
  intro h7
  clear_value x5
  refine Only.step (State.setOpen_only ..) rfl ?_
  exact h7

theorem State.dropMatch_only (a0 : _) (a1 : _) :
    Only [.veh] a0 (State.dropMatch a0 a1) := by
  unfold State.dropMatch
  refine Only.step (State.modVeh_only ..) rfl ?_
  exact (Only.refl _ _)

theorem State.dropRemoved_only (a0 : _) :
    Only [.msh, .lease, .chn] a0 (State.dropRemoved a0) := by
  unfold State.dropRemoved
  refine Only.ite ?_ ?_
  · exact (Only.refl _ _)
  · extract_lets +onlyGivenNames x1
    refine Only.step (State.modLease_only ..) rfl ?_
    refine Only.step (State.modMsh_only ..) rfl ?_
    refine Only.step (State.modChn_only ..) rfl ?_
    exact (Only.refl _ _)

theorem State.dropSlot_only (a0 : _) (a1 : _) :
    Only [.keys] a0 (State.dropSlot a0 a1) := by
  unfold State.dropSlot
  refine Only.step (State.modKeys_only ..) rfl ?_
  exact (Only.refl _ _)

theorem State.dropTls_only (a0 : _) :
    Only [.veh] a0 (State.dropTls a0) := by
  unfold State.dropTls
  refine Only.each (fun a1x u1 h1 => ?_) ?_
  · refine Only.step (State.modVeh_only ..) rfl ?_
    exact h1
  · exact (Only.refl _ _)

theorem State.dspRaise_only (a0 : _) (a1 : _) :
    Only [.dsp] a0 (State.dspRaise a0 a1) := by
  unfold State.dspRaise
  refine Only.step (State.modDsp_only ..) rfl ?_
  exact (Only.refl _ _)

theorem State.dueUnlock_only (a0 : _) (a1 : _) :
    Only [.ses, .veh, .lk] a0 (State.dueUnlock a0 a1) := by
  unfold State.dueUnlock
  refine Only.ite ?_ ?_
  · refine Only.step (State.startLock_only ..) rfl ?_
    refine Only.step (State.modSes_only ..) rfl ?_
    exact (Only.refl _ _)
  · exact (Only.refl _ _)

theorem State.stayAwake_only (a0 : _) :
    Only [.sys, .msh, .host, .sent] a0 (State.stayAwake a0) := by
  unfold State.stayAwake
  refine Only.step (State.sysChanged_only ..) rfl ?_
  refine Only.step (State.modMsh_only ..) rfl ?_
  refine Only.step (State.modSleep_only ..) rfl ?_
  exact (Only.refl _ _)

theorem State.eatAbort_only (a0 : _) (a1 : _) :
    Only [.sys, .msh, .host, .sent, .chn] a0 (State.eatAbort a0 a1) := by
  unfold State.eatAbort
  split
  · refine Only.step (State.wakeEvent_only ..) rfl ?_
    exact (Only.refl _ _)
  · refine Only.step (State.wakeEvent_only ..) rfl ?_
    exact (Only.refl _ _)
  · refine Only.ite ?_ ?_
    · exact (Only.refl _ _)
    · refine Only.ite ?_ ?_
      · refine Only.step (State.finalOpt_only ..) rfl ?_
        refine Only.step (State.stayAwake_only ..) rfl ?_
        exact (Only.refl _ _)
      · refine Only.step (State.finalOpt_only ..) rfl ?_
        refine Only.step (State.stayAwake_only ..) rfl ?_
        exact (Only.refl _ _)
  · exact (Only.refl _ _)

theorem State.eatAdvice_only (a0 : _) (a1 : _) (a2 : _) (a3 : _) (a4 : _) (a5 : _) :
    Only [.msh, .free, .sent, .chn] a0 (State.eatAdvice a0 a1 a2 a3 a4 a5) := by
  unfold State.eatAdvice
  extract_lets +onlyGivenNames x1
  refine Only.keep x1 ?_ ?_
  · unfold x1
    refine Only.step (State.chnRaise_only ..) rfl ?_
    exact (Only.refl _ _)
  intro h1
  clear_value x1
  extract_lets +onlyGivenNames x2
  extract_lets +onlyGivenNames x3
  extract_lets +onlyGivenNames x4
  refine Only.keep x4 ?_ ?_
  · unfold x4
    refine Only.step (State.useFree_only ..) rfl ?_
    exact h1
  intro h2
  clear_value x4
  refine Only.ite ?_ ?_
  · refine Only.step (State.storeMirror_only ..) rfl ?_
    exact h2
  · refine Only.step (State.originate_only ..) rfl ?_
    exact h2

theorem State.eatAssign_only (a0 : _) (a1 : _) (a2 : _) :
    Only [.chn] a0 (State.eatAssign a0 a1 a2) := by
  unfold State.eatAssign
  refine Only.ite ?_ ?_
  · refine Only.step (State.modChn_only ..) rfl ?_
    exact (Only.refl _ _)
  · exact (Only.refl _ _)

theorem State.stgFeed_only (a0 : _) (a1 : _) (a2 : _) :
    Only [.host, .fw] a0 (State.stgFeed a0 a1 a2) := by
  unfold State.stgFeed
  extract_lets +onlyGivenNames x1
  extract_lets +onlyGivenNames x2
  extract_lets +onlyGivenNames x3
  refine Only.keep x3 ?_ ?_
  · unfold x3
    refine Only.step (State.modStg_only ..) rfl ?_
    exact (Only.refl _ _)
  intro h1
  clear_value x3
  extract_lets +onlyGivenNames x4
  refine Only.ite ?_ ?_
  · exact h1
  · extract_lets +onlyGivenNames x5
    clear_value x5
    split
    · refine Only.step (State.stgEnd_only ..) rfl ?_
      exact h1
    · extract_lets +onlyGivenNames x6
      refine Only.step (State.modStg_only ..) rfl ?_
      exact h1

theorem State.eatBlock_only (a0 : _) (a1 : _) (a2 : _) (a3 : _) (a4 : _) :
    Only [.msh, .host, .fw, .sent, .chn] a0 (State.eatBlock a0 a1 a2 a3 a4) := by
  unfold State.eatBlock
  split
  · exact (Only.refl _ _)
  · extract_lets +onlyGivenNames x1
    refine Only.ite ?_ ?_
    · refine Only.step (State.originate_only ..) rfl ?_
      exact (Only.refl _ _)
    · refine Only.step (State.stgFeed_only ..) rfl ?_
      exact (Only.refl _ _)

theorem State.eatCancel_only (a0 : _) :
    Only [.sys, .msh, .host, .sent, .chn] a0 (State.eatCancel a0) := by
  unfold State.eatCancel
  refine Only.ite ?_ ?_
  · exact (Only.refl _ _)
  · split
    · refine Only.step (State.wakeEvent_only ..) rfl ?_
      exact (Only.refl _ _)
    · refine Only.step (State.wakeEvent_only ..) rfl ?_
      exact (Only.refl _ _)
    · refine Only.step (State.finalOpt_only ..) rfl ?_
      refine Only.step (State.stayAwake_only ..) rfl ?_
      refine Only.step (State.originate_only ..) rfl ?_
      exact (Only.refl _ _)
    · refine Only.step (State.finalOpt_only ..) rfl ?_
      refine Only.step (State.stayAwake_only ..) rfl ?_
      refine Only.step (State.originate_only ..) rfl ?_
      exact (Only.refl _ _)
    · exact (Only.refl _ _)

theorem State.elect_only (a0 : _) (a1 : _) :
    Only [.msh, .sent, .chn] a0 (State.elect a0 a1) := by
  unfold State.elect
  extract_lets +onlyGivenNames x1
  extract_lets +onlyGivenNames x2
  extract_lets +onlyGivenNames x3
  extract_lets +onlyGivenNames x4
  refine Only.keep x4 ?_ ?_
  · unfold x4
    refine Only.step (State.modChn_only ..) rfl ?_
    exact (Only.refl _ _)
  intro h1
  clear_value x4 x3 x2
  split
  · refine Only.ite ?_ ?_
    · refine Only.step (State.originate_only ..) rfl ?_
      exact h1
    · exact h1
  · exact h1

theorem State.eatCandidate_only (a0 : _) (a1 : _) :
    Only [.msh, .sent, .chn] a0 (State.eatCandidate a0 a1) := by
  unfold State.eatCandidate
  refine Only.step (State.elect_only ..) rfl ?_
  exact (Only.refl _ _)

theorem State.openProposal_only (a0 : _) (a1 : _) (a2 : _) (a3 : _) (a4 : _) :
    Only [.fw] a0 (State.openProposal a0 a1 a2 a3 a4) := by
  unfold State.openProposal
  refine Only.step (State.modAct_only ..) rfl ?_
  exact (Only.refl _ _)

theorem State.eatCommit_only (a0 : _) (a1 : _) :
    Only [.jnl, .msh, .host, .fw, .sent, .chn] a0 (State.eatCommit a0 a1) := by
  unfold State.eatCommit
  refine Only.ite ?_ ?_
  · exact (Only.refl _ _)
  · refine Only.ite ?_ ?_
    · refine Only.step (State.dropProposal_only ..) rfl ?_
      exact (Only.refl _ _)
    · refine Only.ite ?_ ?_
      · refine Only.step (State.dropProposal_only ..) rfl ?_
        exact (Only.refl _ _)
      · extract_lets +onlyGivenNames x1
        extract_lets +onlyGivenNames x2
        refine Only.keep x2 ?_ ?_
        · unfold x2
          refine Only.ite ?_ ?_
          · exact (Only.refl _ _)
          · refine Only.step (State.openProposal_only ..) rfl ?_
            exact (Only.refl _ _)
        intro h1
        clear_value x2
        refine Only.step (State.commitAct_only ..) rfl ?_
        exact h1

theorem State.eatConfigAck_only (a0 : _) (a1 : _) (a2 : _) :
    Only [.chn] a0 (State.eatConfigAck a0 a1 a2) := by
  unfold State.eatConfigAck
  refine Only.ite ?_ ?_
  · refine Only.step (State.modChn_only ..) rfl ?_
    exact (Only.refl _ _)
  · exact (Only.refl _ _)

theorem State.eatDelay_only (a0 : _) (a1 : _) (a2 : _) (a3 : _) (a4 : _) (a5 : _) :
    Only [.msh] a0 (State.eatDelay a0 a1 a2 a3 a4 a5) := by
  unfold State.eatDelay
  refine Only.ite ?_ ?_
  · refine Only.step (State.meshSend_only ..) rfl ?_
    exact (Only.refl _ _)
  · refine Only.step (State.modNbr_only ..) rfl ?_
    exact (Only.refl _ _)

theorem State.eatReady_only (a0 : _) (a1 : _) :
    Only [.sys] a0 (State.eatReady a0 a1) := by
  unfold State.eatReady
  refine Only.ite ?_ ?_
  · refine Only.step (State.modSleep_only ..) rfl ?_
    exact (Only.refl _ _)
  · exact (Only.refl _ _)

theorem State.eatJoin_only (a0 : _) (a1 : _) (a2 : _) :
    Only [.msh, .sent, .chn] a0 (State.eatJoin a0 a1 a2) := by
  unfold State.eatJoin
  refine Only.ite ?_ ?_
  · exact (Only.refl _ _)
  · extract_lets +onlyGivenNames x1
    extract_lets +onlyGivenNames x2
    clear_value x2
    split
    · refine Only.step (State.chnRaise_only ..) rfl ?_
      exact (Only.refl _ _)
    · refine Only.ite ?_ ?_
      · refine Only.step (State.mshRaise_only ..) rfl ?_
        exact (Only.refl _ _)
      · extract_lets +onlyGivenNames x3
        refine Only.keep x3 ?_ ?_
        · unfold x3
          refine Only.step (State.modChn_only ..) rfl ?_
          exact (Only.refl _ _)
        intro h1
        clear_value x3
        extract_lets +onlyGivenNames x4
        refine Only.keep x4 ?_ ?_
        · unfold x4
          refine Only.ite ?_ ?_
          · refine Only.step (State.modMsh_only ..) rfl ?_
            exact h1
          · exact h1
        intro h2
        clear_value x4
        refine Only.ite ?_ ?_
        · refine Only.step (State.meshSend_only ..) rfl ?_
          refine Only.step (State.originate_only ..) rfl ?_
          exact h2
        · refine Only.step (State.originate_only ..) rfl ?_
          exact h2

theorem State.eatPropose_only (a0 : _) (a1 : _) :
    Only [.msh, .host, .fw, .sent, .chn] a0 (State.eatPropose a0 a1) := by
  unfold State.eatPropose
  extract_lets +onlyGivenNames x1
  extract_lets +onlyGivenNames x2
  extract_lets +onlyGivenNames x3
  refine Only.ite ?_ ?_
  · extract_lets +onlyGivenNames x4
    refine Only.keep x4 ?_ ?_
    · unfold x4
      refine Only.step (State.dropProposal_only ..) rfl ?_
      exact (Only.refl _ _)
    intro h1
    clear_value x4
    refine Only.ite ?_ ?_
    · refine Only.step (State.originate_only ..) rfl ?_
      exact h1
    · exact h1
  · refine Only.ite ?_ ?_
    · exact (Only.refl _ _)
    · refine Only.ite ?_ ?_
      · refine Only.ite ?_ ?_
        · exact (Only.refl _ _)
        · refine Only.step (State.originate_only ..) rfl ?_
          refine Only.step (State.openProposal_only ..) rfl ?_
          exact (Only.refl _ _)
      · refine Only.ite ?_ ?_
        · exact (Only.refl _ _)
        · refine Only.step (State.openProposal_only ..) rfl ?_
          refine Only.step (State.dropProposal_only ..) rfl ?_
          exact (Only.refl _ _)

theorem State.takeGrant_only (a0 : _) (a1 : _) :
    Only [.host, .veh, .lease, .sent, .pwr] a0 (State.takeGrant a0 a1) := by
  unfold State.takeGrant
  refine Only.step (State.divide_only ..) rfl ?_
  refine Only.step (State.modLease_only ..) rfl ?_
  exact (Only.refl _ _)

theorem State.eatGrant_only (a0 : _) (a1 : _) :
    Only [.host, .veh, .lease, .sent, .pwr, .chn] a0 (State.eatGrant a0 a1) := by
  unfold State.eatGrant
  refine Only.ite ?_ ?_
  · exact (Only.refl _ _)
  · extract_lets +onlyGivenNames x1
    extract_lets +onlyGivenNames x2
    refine Only.keep x2 ?_ ?_
    · unfold x2
      refine Only.step (State.modChn_only ..) rfl ?_
      exact (Only.refl _ _)
    intro h1
    clear_value x2
    extract_lets +onlyGivenNames x3
    refine Only.keep x3 ?_ ?_
    · unfold x3
      refine Only.step (State.modLease_only ..) rfl ?_
      exact h1
    intro h2
    clear_value x3
    split
    · refine Only.step (State.takeGrant_only ..) rfl ?_
      refine Only.step (State.modChn_only ..) rfl ?_
      exact h2
    · exact h2

theorem State.reduceLease_only (a0 : _) (a1 : _) :
    Only [.host, .veh, .lease, .sent, .pwr] a0 (State.reduceLease a0 a1) := by
  unfold State.reduceLease
  extract_lets +onlyGivenNames x1
  extract_lets +onlyGivenNames x2
  refine Only.keep x2 ?_ ?_
  · unfold x2
    refine Only.step (State.modLease_only ..) rfl ?_
    exact (Only.refl _ _)
  intro h1
  clear_value x2
  refine Only.step (State.divide_only ..) rfl ?_
  refine Only.ite ?_ ?_
  · exact h1
  · refine Only.each (fun a1x u1 h2 => ?_) ?_
    · refine Only.step (State.pwrRaise_only ..) rfl ?_
      exact h2
    · exact h1

theorem State.eatReduce_only (a0 : _) (a1 : _) :
    Only [.host, .veh, .lease, .sent, .pwr] a0 (State.eatReduce a0 a1) := by
  unfold State.eatReduce
  refine Only.step (State.reduceLease_only ..) rfl ?_
  exact (Only.refl _ _)

theorem State.reduceSite_only (a0 : _) (a1 : _) (a2 : _) :
    Only [.msh, .host, .veh, .lease, .sent, .pwr, .chn] a0 (State.reduceSite a0 a1 a2) := by
  unfold State.reduceSite
  refine Only.ite ?_ ?_
  · refine Only.step (State.modLease_only ..) rfl ?_
    exact (Only.refl _ _)
  · extract_lets +onlyGivenNames x1
    extract_lets +onlyGivenNames x2
    refine Only.keep x2 ?_ ?_
    · unfold x2
      refine Only.step (State.modLease_only ..) rfl ?_
      exact (Only.refl _ _)
    intro h1
    clear_value x2
    refine Only.step (State.reduceLease_only ..) rfl ?_
    refine Only.step (State.originate_only ..) rfl ?_
    exact h1

theorem State.eatReduceReq_only (a0 : _) (a1 : _) (a2 : _) :
    Only [.msh, .host, .veh, .lease, .sent, .pwr, .chn] a0 (State.eatReduceReq a0 a1 a2) := by
  unfold State.eatReduceReq
  refine Only.ite ?_ ?_
  · refine Only.step (State.reduceSite_only ..) rfl ?_
    exact (Only.refl _ _)
  · exact (Only.refl _ _)

theorem State.eatSleepCommit_only (a0 : _) (a1 : _) :
    Only [.sys, .msh, .host, .sent] a0 (State.eatSleepCommit a0 a1) := by
  unfold State.eatSleepCommit
  refine Only.ite ?_ ?_
  · refine Only.step (State.finalOpt_only ..) rfl ?_
    refine Only.step (State.modSleep_only ..) rfl ?_
    exact (Only.refl _ _)
  · refine Only.ite ?_ ?_
    · refine Only.step (State.finalOpt_only ..) rfl ?_
      refine Only.step (State.commitSleep_only ..) rfl ?_
      exact (Only.refl _ _)
    · exact (Only.refl _ _)

theorem State.eatWake_only (a0 : _) :
    Only [.sys, .msh, .host, .sent, .chn] a0 (State.eatWake a0) := by
  unfold State.eatWake
  refine Only.ite ?_ ?_
  · refine Only.step (State.wakeEvent_only ..) rfl ?_
    exact (Only.refl _ _)
  · exact (Only.refl _ _)

theorem State.eatHeadClaim_only (a0 : _) (a1 : _) (a2 : _) :
    Only [.msh, .host, .fw, .lease, .sent, .chn] a0 (State.eatHeadClaim a0 a1 a2) := by
  unfold State.eatHeadClaim
  refine Only.step (State.endElection_only ..) rfl ?_
  exact (Only.refl _ _)

theorem State.modIdleBank_only (a0 : _) (a1 : _) (a2 : _) :
    Only [.fw] a0 (State.modIdleBank a0 a1 a2) := by
  unfold State.modIdleBank
  extract_lets +onlyGivenNames x1
  refine Only.step (State.modFw_only ..) rfl ?_
  exact (Only.refl _ _)

theorem State.stgBegin_only (a0 : _) (a1 : _) (a2 : _) (a3 : _) (a4 : _) (a5 : _) (a6 : _) :
    Only [.fw] a0 (State.stgBegin a0 a1 a2 a3 a4 a5 a6) := by
  unfold State.stgBegin
  refine Only.step (State.modIdleBank_only ..) rfl ?_
  refine Only.step (State.modStg_only ..) rfl ?_
  exact (Only.refl _ _)

theorem State.eatOffer_only (a0 : _) (a1 : _) :
    Only [.host, .fw] a0 (State.eatOffer a0 a1) := by
  unfold State.eatOffer
  extract_lets +onlyGivenNames x1
  extract_lets +onlyGivenNames x2
  extract_lets +onlyGivenNames x3
  extract_lets +onlyGivenNames x4
  extract_lets +onlyGivenNames x5
  refine Only.ite ?_ ?_
  · refine Only.step (State.stgFeed_only ..) rfl ?_
    refine Only.step (State.modStg_only ..) rfl ?_
    exact (Only.refl _ _)
  · refine Only.ite ?_ ?_
    · refine Only.step (State.stgFeed_only ..) rfl ?_
      refine Only.step (State.stgBegin_only ..) rfl ?_
      exact (Only.refl _ _)
    · exact (Only.refl _ _)

theorem State.eatNotReady_only (a0 : _) (a1 : _) (a2 : _) :
    Only [.sys] a0 (State.eatNotReady a0 a1 a2) := by
  unfold State.eatNotReady
  refine Only.ite ?_ ?_
  · refine Only.step (State.modSleep_only ..) rfl ?_
    exact (Only.refl _ _)
  · exact (Only.refl _ _)

theorem State.putReport_only (a0 : _) (a1 : _) (a2 : _) :
    Only [.lease] a0 (State.putReport a0 a1 a2) := by
  unfold State.putReport
  extract_lets +onlyGivenNames x1
  extract_lets +onlyGivenNames x2
  refine Only.step (State.modLease_only ..) rfl ?_
  exact (Only.refl _ _)

theorem State.healUnit_only (a0 : _) (a1 : _) (a2 : _) :
    Only [.msh, .lease, .sent, .chn] a0 (State.healUnit a0 a1 a2) := by
  unfold State.healUnit
  extract_lets +onlyGivenNames x1
  refine Only.ite ?_ ?_
  · extract_lets +onlyGivenNames x2
    refine Only.step (State.modLease_only ..) rfl ?_
    refine Only.step (State.originate_only ..) rfl ?_
    exact (Only.refl _ _)
  · exact (Only.refl _ _)

theorem State.eatReport_only (a0 : _) (a1 : _) (a2 : _) :
    Only [.msh, .lease, .sent, .chn] a0 (State.eatReport a0 a1 a2) := by
  unfold State.eatReport
  refine Only.ite ?_ ?_
  · exact (Only.refl _ _)
  · extract_lets +onlyGivenNames x1
    refine Only.keep x1 ?_ ?_
    · unfold x1
      refine Only.step (State.modChn_only ..) rfl ?_
      exact (Only.refl _ _)
    intro h1
    clear_value x1
    refine Only.step (State.healUnit_only ..) rfl ?_
    refine Only.step (State.putReport_only ..) rfl ?_
    exact h1

theorem State.eatSync_only (a0 : _) (a1 : _) (a2 : _) (a3 : _) :
    Only [.time, .msh, .chn] a0 (State.eatSync a0 a1 a2 a3) := by
  unfold State.eatSync
  extract_lets +onlyGivenNames x1
  extract_lets +onlyGivenNames x2
  refine Only.ite ?_ ?_
  · exact (Only.refl _ _)
  · extract_lets +onlyGivenNames x3
    extract_lets +onlyGivenNames x4
    refine Only.keep x4 ?_ ?_
    · unfold x4
      refine Only.step (State.modChn_only ..) rfl ?_
      exact (Only.refl _ _)
    intro h1
    clear_value x4
    refine Only.step (State.applyTime_only ..) rfl ?_
    refine Only.step (State.modMsh_only ..) rfl ?_
    exact h1

theorem State.eatSiteConfig_only (a0 : _) (a1 : _) (a2 : _) (a3 : _) :
    Only [.msh, .conf, .sent, .chn] a0 (State.eatSiteConfig a0 a1 a2 a3) := by
  unfold State.eatSiteConfig
  refine Only.ite ?_ ?_
  · exact (Only.refl _ _)
  · extract_lets +onlyGivenNames x1
    refine Only.step (State.originate_only ..) rfl ?_
    refine Only.ite ?_ ?_
    · refine Only.step (State.modChn_only ..) rfl ?_
      refine Only.step (State.modConf_only ..) rfl ?_
      exact (Only.refl _ _)
    · exact (Only.refl _ _)

theorem State.keepCommit_only (a0 : _) (a1 : _) :
    Only [.jnl, .msh, .host, .fw, .sent, .chn] a0 (State.keepCommit a0 a1) := by
  unfold State.keepCommit
  extract_lets +onlyGivenNames x1
  refine Only.ite ?_ ?_
  · exact (Only.refl _ _)
  · extract_lets +onlyGivenNames x2
    refine Only.keep x2 ?_ ?_
    · unfold x2
      refine Only.step (State.openProposal_only ..) rfl ?_
      refine Only.step (State.dropProposal_only ..) rfl ?_
      exact (Only.refl _ _)
    intro h1
    clear_value x2
    refine Only.ite ?_ ?_
    · refine Only.step (State.commitAct_only ..) rfl ?_
      exact h1
    · refine Only.step (State.actEnd_only ..) rfl ?_
      exact h1

theorem State.eatQuery_only (a0 : _) (a1 : _) (a2 : _) (a3 : _) :
    Only [.jnl, .msh, .host, .fw, .sent, .chn] a0 (State.eatQuery a0 a1 a2 a3) := by
  unfold State.eatQuery
  split
  · refine Only.ite ?_ ?_
    · extract_lets +onlyGivenNames x1
      refine Only.step (State.originate_only ..) rfl ?_
      exact (Only.refl _ _)
    · refine Only.ite ?_ ?_
      · refine Only.step (State.originate_only ..) rfl ?_
        exact (Only.refl _ _)
      · exact (Only.refl _ _)
  · refine Only.ite ?_ ?_
    · refine Only.ite ?_ ?_
      · refine Only.step (State.modAct_only ..) rfl ?_
        exact (Only.refl _ _)
      · refine Only.step (State.actEnd_only ..) rfl ?_
        exact (Only.refl _ _)
    · refine Only.ite ?_ ?_
      · refine Only.step (State.keepCommit_only ..) rfl ?_
        exact (Only.refl _ _)
      · exact (Only.refl _ _)

theorem State.keepTable_only (a0 : _) :
    Only [.jnl] a0 (State.keepTable a0) := by
  unfold State.keepTable
  extract_lets +onlyGivenNames x1
  extract_lets +onlyGivenNames x2
  refine Only.ite ?_ ?_
  · exact (Only.refl _ _)
  · refine Only.step (State.appendConf_only ..) rfl ?_
    exact (Only.refl _ _)

theorem State.eatTable_only (a0 : _) (a1 : _) :
    Only [.jnl, .chn] a0 (State.eatTable a0 a1) := by
  unfold State.eatTable
  extract_lets +onlyGivenNames x1
  refine Only.keep x1 ?_ ?_
  · unfold x1
    refine Only.step (State.keepTable_only ..) rfl ?_
    refine Only.step (State.modChn_only ..) rfl ?_
    exact (Only.refl _ _)
  intro h1
  clear_value x1
  split
  · refine Only.ite ?_ ?_
    · exact h1
    · refine Only.step (State.chnRaise_only ..) rfl ?_
      refine Only.step (State.modChn_only ..) rfl ?_
      exact h1
  · exact h1

theorem State.eatTopology_only (a0 : _) (a1 : _) :
    Only [.chn] a0 (State.eatTopology a0 a1) := by
  unfold State.eatTopology
  refine Only.ite ?_ ?_
  · exact (Only.refl _ _)
  · refine Only.step (State.modChn_only ..) rfl ?_
    exact (Only.refl _ _)

theorem State.serveFrom_only (a0 : _) (a1 : _) (a2 : _) :
    Only [.fw] a0 (State.serveFrom a0 a1 a2) := by
  unfold State.serveFrom
  split
  · refine Only.ite ?_ ?_
    · refine Only.step (State.modFw_only ..) rfl ?_
      exact (Only.refl _ _)
    · exact (Only.refl _ _)
  · exact (Only.refl _ _)

theorem State.serveBlock_only (a0 : _) :
    Only [.msh, .fw, .sent, .chn] a0 (State.serveBlock a0) := by
  unfold State.serveBlock
  split
  · exact (Only.refl _ _)
  · extract_lets +onlyGivenNames x1
    extract_lets +onlyGivenNames x2
    refine Only.step (State.originate_only ..) rfl ?_
    refine Only.step (State.modFw_only ..) rfl ?_
    exact (Only.refl _ _)

theorem State.eatNack_only (a0 : _) (a1 : _) (a2 : _) :
    Only [.msh, .fw, .sent, .chn] a0 (State.eatNack a0 a1 a2) := by
  unfold State.eatNack
  refine Only.step (State.serveBlock_only ..) rfl ?_
  refine Only.step (State.serveFrom_only ..) rfl ?_
  exact (Only.refl _ _)

theorem State.eatMirror_only (a0 : _) (a1 : _) :
    Only [.chn] a0 (State.eatMirror a0 a1) := by
  unfold State.eatMirror
  refine Only.ite ?_ ?_
  · refine Only.step (State.storeMirror_only ..) rfl ?_
    exact (Only.refl _ _)
  · exact (Only.refl _ _)

theorem State.judgeSleep_only (a0 : _) (a1 : _) :
    Only [.sys, .host, .sent] a0 (State.judgeSleep a0 a1) := by
  unfold State.judgeSleep
  refine Only.step (State.sysChanged_only ..) rfl ?_
  split
  · refine Only.step (State.modSleep_only ..) rfl ?_
    exact (Only.refl _ _)
  · refine Only.step (State.modSleep_only ..) rfl ?_
    exact (Only.refl _ _)

theorem State.startSleep_only (a0 : _) (a1 : _) (a2 : _) :
    Only [.sys, .msh, .host, .sent, .chn] a0 (State.startSleep a0 a1 a2) := by
  unfold State.startSleep
  extract_lets +onlyGivenNames x1
  refine Only.keep x1 ?_ ?_
  · unfold x1
    refine Only.step (State.judgeSleep_only ..) rfl ?_
    refine Only.step (State.modSleep_only ..) rfl ?_
    exact (Only.refl _ _)
  intro h1
  clear_value x1
  extract_lets +onlyGivenNames x2
  refine Only.step (State.originate_only ..) rfl ?_
  refine Only.step (State.modSleep_only ..) rfl ?_
  exact h1

theorem State.eatPrepare_only (a0 : _) (a1 : _) :
    Only [.sys, .msh, .host, .sent, .chn] a0 (State.eatPrepare a0 a1) := by
  unfold State.eatPrepare
  refine Only.ite ?_ ?_
  · refine Only.ite ?_ ?_
    · exact (Only.refl _ _)
    · refine Only.step (State.startSleep_only ..) rfl ?_
      exact (Only.refl _ _)
  · refine Only.ite ?_ ?_
    · exact (Only.refl _ _)
    · extract_lets +onlyGivenNames x1
      refine Only.keep x1 ?_ ?_
      · unfold x1
        refine Only.step (State.judgeSleep_only ..) rfl ?_
        exact (Only.refl _ _)
      intro h1
      clear_value x1
      refine Only.step (State.originate_only ..) rfl ?_
      exact h1

theorem State.eatLinkDown_only (a0 : _) :
    Only [.msh, .sent, .chn] a0 (State.eatLinkDown a0) := by
  unfold State.eatLinkDown
  refine Only.ite ?_ ?_
  · refine Only.step (State.liftBlock_only ..) rfl ?_
    exact (Only.refl _ _)
  · exact (Only.refl _ _)

theorem State.eatFrame_only (a0 : _) (a1 : _) (a2 : _) :
    Only [.jnl, .sys, .time, .msh, .host, .fw, .veh, .free, .lease, .conf, .sent, .pwr, .chn] a0 (State.eatFrame a0 a1 a2) := by
  unfold State.eatFrame
  split
  · refine Only.step (State.eatAdvice_only ..) rfl ?_
    exact (Only.refl _ _)
  · refine Only.step (State.eatReduce_only ..) rfl ?_
    exact (Only.refl _ _)
  · refine Only.step (State.eatReduceReq_only ..) rfl ?_
    exact (Only.refl _ _)
  · refine Only.step (State.eatSync_only ..) rfl ?_
    exact (Only.refl _ _)
  · refine Only.step (State.eatCandidate_only ..) rfl ?_
    exact (Only.refl _ _)
  · refine Only.step (State.eatHeadClaim_only ..) rfl ?_
    exact (Only.refl _ _)
  · refine Only.step (State.eatTopology_only ..) rfl ?_
    exact (Only.refl _ _)
  · refine Only.step (State.eatLinkDown_only ..) rfl ?_
    exact (Only.refl _ _)
  · refine Only.step (State.eatPrepare_only ..) rfl ?_
    exact (Only.refl _ _)
  · refine Only.step (State.eatReady_only ..) rfl ?_
    exact (Only.refl _ _)
  · refine Only.step (State.eatNotReady_only ..) rfl ?_
    exact (Only.refl _ _)
  · refine Only.step (State.eatSleepCommit_only ..) rfl ?_
    exact (Only.refl _ _)
  · refine Only.step (State.eatAbort_only ..) rfl ?_
    exact (Only.refl _ _)
  · refine Only.step (State.eatCancel_only ..) rfl ?_
    exact (Only.refl _ _)
  · exact (Only.refl _ _)
  · refine Only.step (State.eatWake_only ..) rfl ?_
    exact (Only.refl _ _)
  · refine Only.step (State.eatReport_only ..) rfl ?_
    exact (Only.refl _ _)
  · refine Only.step (State.eatGrant_only ..) rfl ?_
    exact (Only.refl _ _)
  · refine Only.step (State.eatJoin_only ..) rfl ?_
    exact (Only.refl _ _)
  · refine Only.step (State.eatAssign_only ..) rfl ?_
    exact (Only.refl _ _)
  · refine Only.ite ?_ ?_
    · exact (Only.refl _ _)
    · refine Only.step (State.eatTable_only ..) rfl ?_
      exact (Only.refl _ _)
  · refine Only.step (State.eatSiteConfig_only ..) rfl ?_
    exact (Only.refl _ _)
  · refine Only.step (State.eatConfigAck_only ..) rfl ?_
    exact (Only.refl _ _)
  · refine Only.step (State.eatPropose_only ..) rfl ?_
    exact (Only.refl _ _)
  · refine Only.step (State.eatCommit_only ..) rfl ?_
    exact (Only.refl _ _)
  · refine Only.step (State.eatQuery_only ..) rfl ?_
    exact (Only.refl _ _)
  · refine Only.step (State.eatMirror_only ..) rfl ?_
    exact (Only.refl _ _)
  · refine Only.step (State.eatOffer_only ..) rfl ?_
    exact (Only.refl _ _)
  · refine Only.step (State.eatBlock_only ..) rfl ?_
    exact (Only.refl _ _)
  · refine Only.step (State.eatNack_only ..) rfl ?_
    exact (Only.refl _ _)
  · exact (Only.refl _ _)
  · exact (Only.refl _ _)
  · exact (Only.refl _ _)
  · exact (Only.refl _ _)
  · exact (Only.refl _ _)

theorem State.eatMsync_only (a0 : _) (a1 : _) (a2 : _) (a3 : _) :
    Only [.time, .msh, .chn] a0 (State.eatMsync a0 a1 a2 a3) := by
  unfold State.eatMsync
  refine Only.ite ?_ ?_
  · exact (Only.refl _ _)
  · extract_lets +onlyGivenNames x1
    extract_lets +onlyGivenNames x2
    refine Only.keep x2 ?_ ?_
    · unfold x2
      refine Only.step (State.modMsh_only ..) rfl ?_
      exact (Only.refl _ _)
    intro h1
    clear_value x2
    refine Only.ite ?_ ?_
    · exact h1
    · extract_lets +onlyGivenNames x3
      refine Only.step (State.applyTime_only ..) rfl ?_
      refine Only.step (State.modChn_only ..) rfl ?_
      refine Only.step (State.modMsh_only ..) rfl ?_
      exact h1

theorem State.relist_only (a0 : _) :
    Only [.msh] a0 (State.relist a0) := by
  unfold State.relist
  extract_lets +onlyGivenNames x1
  extract_lets +onlyGivenNames x2
  extract_lets +onlyGivenNames x3
  refine Only.keep x3 ?_ ?_
  · unfold x3
    refine Only.step (State.modMsh_only ..) rfl ?_
    exact (Only.refl _ _)
  intro h1
  clear_value x3
  refine Only.ite ?_ ?_
  · refine Only.step (State.mshRaise_only ..) rfl ?_
    exact h1
  · exact h1

theorem State.eatNbr_only (a0 : _) (a1 : _) (a2 : _) :
    Only [.msh] a0 (State.eatNbr a0 a1 a2) := by
  unfold State.eatNbr
  extract_lets +onlyGivenNames x1
  refine Only.keep x1 ?_ ?_
  · unfold x1
    refine Only.step (State.modMsh_only ..) rfl ?_
    exact (Only.refl _ _)
  intro h1
  clear_value x1
  refine Only.ite ?_ ?_
  · refine Only.step (State.relist_only ..) rfl ?_
    refine Only.step (State.modNbr_only ..) rfl ?_
    exact h1
  · exact h1

theorem State.holdPhase_only (a0 : _) (a1 : _) (a2 : _) (a3 : _) :
    Only [.msh] a0 (State.holdPhase a0 a1 a2 a3) := by
  unfold State.holdPhase
  extract_lets +onlyGivenNames x1
  refine Only.keep x1 ?_ ?_
  · unfold x1
    refine Only.step (State.modMsh_only ..) rfl ?_
    exact (Only.refl _ _)
  intro h1
  clear_value x1
  refine Only.ite ?_ ?_
  · refine Only.foldl (fun u1 a1x h2 => ?_) ?_
    · refine Only.step (State.classifyUnit_only ..) rfl ?_
      exact h2
    · exact h1
  · refine Only.step (State.classifyUnit_only ..) rfl ?_
    exact h1

theorem State.eatPhase_only (a0 : _) (a1 : _) (a2 : _) :
    Only [.msh] a0 (State.eatPhase a0 a1 a2) := by
  unfold State.eatPhase
  refine Only.step (State.holdPhase_only ..) rfl ?_
  refine Only.step (State.modNbr_only ..) rfl ?_
  exact (Only.refl _ _)

theorem State.knowNbr_only (a0 : _) (a1 : _) :
    Only [.msh] a0 (State.knowNbr a0 a1) := by
  unfold State.knowNbr
  refine Only.ite ?_ ?_
  · exact (Only.refl _ _)
  · refine Only.step (State.modMsh_only ..) rfl ?_
    exact (Only.refl _ _)

theorem State.eatTmap_only (a0 : _) (a1 : _) (a2 : _) (a3 : _) (a4 : _) :
    Only [.msh] a0 (State.eatTmap a0 a1 a2 a3 a4) := by
  unfold State.eatTmap
  refine Only.step (State.modNbr_only ..) rfl ?_
  refine Only.step (State.knowNbr_only ..) rfl ?_
  exact (Only.refl _ _)

theorem State.eatWalk_only (a0 : _) (a1 : _) (a2 : _) :
    Only [.sent, .chn] a0 (State.eatWalk a0 a1 a2) := by
  unfold State.eatWalk
  refine Only.ite ?_ ?_
  · exact (Only.refl _ _)
  · refine Only.ite ?_ ?_
    · refine Only.step (State.sendWalk_only ..) rfl ?_
      refine Only.step (State.modChn_only ..) rfl ?_
      exact (Only.refl _ _)
    · refine Only.step (State.sendWalk_only ..) rfl ?_
      exact (Only.refl _ _)

theorem State.endDrive_only (a0 : _) (a1 : _) (a2 : _) :
    Only [.lk] a0 (State.endDrive a0 a1 a2) := by
  unfold State.endDrive
  refine Only.ite ?_ ?_
  · refine Only.step (State.modLk_only ..) rfl ?_
    exact (Only.refl _ _)
  · exact (Only.refl _ _)

theorem State.endHold_only (a0 : _) (a1 : _) :
    Only [.ls] a0 (State.endHold a0 a1) := by
  unfold State.endHold
  extract_lets +onlyGivenNames x1
  refine Only.each (fun a1x u1 h1 => ?_) ?_
  · extract_lets +onlyGivenNames x2
    extract_lets +onlyGivenNames x3
    refine Only.keep x3 ?_ ?_
    · unfold x3
      refine Only.ite ?_ ?_
      · refine Only.step (State.modLsCh_only ..) rfl ?_
        exact h1
      · exact h1
    intro h2
    clear_value x3
    refine Only.ite ?_ ?_
    · exact h2
    · refine Only.step (State.modLsCh_only ..) rfl ?_
      exact h2
  · exact (Only.refl _ _)

theorem State.imdTrip_only (a0 : _) (a1 : _) :
    Only [.ses, .sp, .cave, .host, .sent, .saf, .brk] a0 (State.imdTrip a0 a1) := by
  unfold State.imdTrip
  extract_lets +onlyGivenNames x1
  extract_lets +onlyGivenNames x2
  refine Only.foldl (fun u1 a1x h1 => ?_) ?_
  · extract_lets +onlyGivenNames x3
    extract_lets +onlyGivenNames x4
    refine Only.keep x4 ?_ ?_
    · unfold x4
      split
      · refine Only.step (State.imdRaise_only ..) rfl ?_
        refine Only.step (State.modSp_only ..) rfl ?_
        exact h1
      · exact h1
    intro h2
    clear_value x4
    extract_lets +onlyGivenNames x5
    refine Only.keep x5 ?_ ?_
    · unfold x5
      refine Only.ite ?_ ?_
      · exact h2
      · refine Only.step (State.imdRaise_only ..) rfl ?_
        exact h2
    intro h3
    clear_value x5
    refine Only.step (State.tripPort_only ..) rfl ?_
    refine Only.step (State.modSp_only ..) rfl ?_
    exact h3
  · exact (Only.refl _ _)

theorem State.endPreclose_only (a0 : _) (a1 : _) (a2 : _) :
    Only [.ses, .sp, .cave, .host, .sent, .saf, .brk] a0 (State.endPreclose a0 a1 a2) := by
  unfold State.endPreclose
  extract_lets +onlyGivenNames x1
  extract_lets +onlyGivenNames x2
  refine Only.ite ?_ ?_
  · refine Only.step (State.imdRaise_only ..) rfl ?_
    refine Only.step (State.modSp_only ..) rfl ?_
    exact (Only.refl _ _)
  · refine Only.step (State.imdTrip_only ..) rfl ?_
    exact (Only.refl _ _)

theorem State.energyX_only (a0 : _) (a1 : _) (a2 : _) :
    Only [.host, .sent, .bil, .nrg] a0 (State.energyX a0 a1 a2) := by
  unfold State.energyX
  extract_lets +onlyGivenNames x1
  extract_lets +onlyGivenNames x2
  extract_lets +onlyGivenNames x3
  refine Only.ite ?_ ?_
  · extract_lets +onlyGivenNames x4
    extract_lets +onlyGivenNames x5
    extract_lets +onlyGivenNames x6
    extract_lets +onlyGivenNames x7
    extract_lets +onlyGivenNames x8
    extract_lets +onlyGivenNames x9
    extract_lets +onlyGivenNames x10
    extract_lets +onlyGivenNames x11
    refine Only.keep x11 ?_ ?_
    · unfold x11
      refine Only.step (State.modNrg_only ..) rfl ?_
      exact (Only.refl _ _)
    intro h1
    clear_value x11
    extract_lets +onlyGivenNames x12
    refine Only.keep x12 ?_ ?_
    · unfold x12
      refine Only.ite ?_ ?_
      · exact h1
      · refine Only.step (State.modBil_only ..) rfl ?_
        exact h1
    intro h2
    clear_value x12
    refine Only.step (State.nrgRaise_only ..) rfl ?_
    exact h2
  · refine Only.step (State.modNrg_only ..) rfl ?_
    exact (Only.refl _ _)

theorem State.startClocks_only (a0 : _) (a1 : _) :
    Only [.sys] a0 (State.startClocks a0 a1) := by
  unfold State.startClocks
  refine Only.step (State.modSys_only ..) rfl ?_
  exact (Only.refl _ _)

theorem State.enrol_only (a0 : _) (a1 : _) (a2 : _) (a3 : _) (a4 : _) (a5 : _) :
    Only [.sys, .host, .sent] a0 (State.enrol a0 a1 a2 a3 a4 a5) := by
  unfold State.enrol
  extract_lets +onlyGivenNames x1
  extract_lets +onlyGivenNames x2
  extract_lets +onlyGivenNames x3
  refine Only.keep x3 ?_ ?_
  · unfold x3
    refine Only.step (State.modGuest_only ..) rfl ?_
    exact (Only.refl _ _)
  intro h1
  clear_value x3
  extract_lets +onlyGivenNames x4
  refine Only.keep x4 ?_ ?_
  · unfold x4
    refine Only.step (State.modHost_only ..) rfl ?_
    exact h1
  intro h2
  clear_value x4
  refine Only.step (State.count_only ..) rfl ?_
  refine Only.step (State.startClocks_only ..) rfl ?_
  exact h2

theorem State.enterRom_only (a0 : _) :
    Only [.sys, .host, .sent] a0 (State.enterRom a0) := by
  unfold State.enterRom
  refine Only.step (State.sysChanged_only ..) rfl ?_
  refine Only.step (State.reach_only ..) rfl ?_
  refine Only.step (State.modHost_only ..) rfl ?_
  refine Only.step (State.modSys_only ..) rfl ?_
  exact (Only.refl _ _)

theorem State.execFault_only (a0 : _) (a1 : _) :
    Only [.ses, .sp, .cave, .host, .sent, .saf, .lk, .brk] a0 (State.execFault a0 a1) := by
  unfold State.execFault
  extract_lets +onlyGivenNames x1
  refine Only.keep x1 ?_ ?_
  · unfold x1
    refine Only.step (State.modSaf_only ..) rfl ?_
    refine Only.step (State.recordFault_only ..) rfl ?_
    exact (Only.refl _ _)
  intro h1
  clear_value x1
  split
  · refine Only.step (State.writeOuts_only ..) rfl ?_
    exact h1
  · refine Only.step (State.writeOuts_only ..) rfl ?_
    exact h1
  · extract_lets +onlyGivenNames x2
    extract_lets +onlyGivenNames x3
    refine Only.keep x3 ?_ ?_
    · unfold x3
      refine Only.step (State.modSaf_only ..) rfl ?_
      refine Only.step (State.failRestart_only ..) rfl ?_
      exact h1
    intro h2
    clear_value x3
    extract_lets +onlyGivenNames x4
    refine Only.keep x4 ?_ ?_
    · unfold x4
      refine Only.each (fun a1x u1 h3 => ?_) ?_
      · refine Only.step (State.endDrive_only ..) rfl ?_
        refine Only.step (State.coilsOff_only ..) rfl ?_
        refine Only.step (State.openPort_only ..) rfl ?_
        refine Only.step (State.abortTests_only ..) rfl ?_
        exact h3
      · exact h2
    intro h4
    clear_value x4
    refine Only.each (fun a2x u2 h5 => ?_) ?_
    · refine Only.step (State.applyBrake_only ..) rfl ?_
      exact h5
    · refine Only.step (State.siteTo_only ..) rfl ?_
      exact h4

theorem State.failBrakeTest_only (a0 : _) (a1 : _) :
    Only [.ses, .sp, .cave, .host, .sent, .saf, .brk] a0 (State.failBrakeTest a0 a1) := by
  unfold State.failBrakeTest
  extract_lets +onlyGivenNames x1
  extract_lets +onlyGivenNames x2
  refine Only.keep x2 ?_ ?_
  · unfold x2
    refine Only.step (State.brkRaise_only ..) rfl ?_
    refine Only.step (State.modBrk_only ..) rfl ?_
    exact (Only.refl _ _)
  intro h1
  clear_value x2
  extract_lets +onlyGivenNames x3
  refine Only.keep x3 ?_ ?_
  · unfold x3
    refine Only.step (State.testNotice_only ..) rfl ?_
    exact h1
  intro h2
  clear_value x3
  refine Only.step (State.writeOuts_only ..) rfl ?_
  split
  · refine Only.step (State.testEnded_only ..) rfl ?_
    exact h2
  · exact h2

theorem State.failHead_only (a0 : _) (a1 : _) (a2 : _) :
    Only [.sl, .nrg] a0 (State.failHead a0 a1 a2) := by
  unfold State.failHead
  extract_lets +onlyGivenNames x1
  refine Only.keep x1 ?_ ?_
  · unfold x1
    refine Only.step (State.modSl_only ..) rfl ?_
    exact (Only.refl _ _)
  intro h1
  clear_value x1
  extract_lets +onlyGivenNames x2
  refine Only.ite ?_ ?_
  · exact h1
  · refine Only.step (State.modNrg_only ..) rfl ?_
    exact h1

theorem State.winBlocks_only (a0 : _) (a1 : _) (a2 : _) :
    Only [.cave, .host, .sent] a0 (State.winBlocks a0 a1 a2) := by
  unfold State.winBlocks
  refine Only.ite ?_ ?_
  · exact (Only.refl _ _)
  · refine Only.step (State.shed_only ..) rfl ?_
    refine Only.step (State.modCave_only ..) rfl ?_
    exact (Only.refl _ _)

theorem State.fillWins_only (a0 : _) (a1 : _) :
    Only [.cave, .host, .sent] a0 (State.fillWins a0 a1) := by
  unfold State.fillWins
  refine Only.foldl (fun u1 a1x h1 => ?_) ?_
  · refine Only.ite ?_ ?_
    · refine Only.step (State.winBlocks_only ..) rfl ?_
      exact h1
    · exact h1
  · exact (Only.refl _ _)

theorem State.openingFault_only (a0 : _) (a1 : _) :
    Only [.ses, .jnl, .sp, .sys, .pm, .cave, .nfc, .met, .msh, .host, .sl, .veh, .legal, .free, .lease, .conf, .sent, .pwr, .bil, .nrg, .saf, .chn, .ls, .lk, .brk] a0 (State.openingFault a0 a1) := by
  unfold State.openingFault
  refine Only.step (State.toSealing_only ..) rfl ?_
  refine Only.step (State.halt_only ..) rfl ?_
  refine Only.step (State.modSes_only ..) rfl ?_
  exact (Only.refl _ _)

theorem State.followSafety_only (a0 : _) (a1 : _) :
    Only [.ses, .jnl, .sp, .sys, .pm, .cave, .nfc, .met, .msh, .host, .sl, .veh, .legal, .free, .lease, .conf, .sent, .pwr, .bil, .nrg, .saf, .chn, .ls, .lk, .brk] a0 (State.followSafety a0 a1) := by
  unfold State.followSafety
  extract_lets +onlyGivenNames x1
  split
  · refine Only.ite ?_ ?_
    · refine Only.step (State.endSession_only ..) rfl ?_
      exact (Only.refl _ _)
    · refine Only.ite ?_ ?_
      · refine Only.step (State.confirmedClosed_only ..) rfl ?_
        exact (Only.refl _ _)
      · exact (Only.refl _ _)
  · refine Only.ite ?_ ?_
    · refine Only.step (State.endSession_only ..) rfl ?_
      exact (Only.refl _ _)
    · refine Only.ite ?_ ?_
      · exact (Only.refl _ _)
      · extract_lets +onlyGivenNames x2
        refine Only.keep x2 ?_ ?_
        · unfold x2
          refine Only.step (State.sesTo_only ..) rfl ?_
          refine Only.ite ?_ ?_
          · exact (Only.refl _ _)
          · refine Only.step (State.halt_only ..) rfl ?_
            exact (Only.refl _ _)
        intro h1
        clear_value x2
        refine Only.ite ?_ ?_
        · refine Only.step (State.confirmedOpen_only ..) rfl ?_
          exact h1
        · refine Only.step (State.wantChanged_only ..) rfl ?_
          exact h1
  · refine Only.ite ?_ ?_
    · refine Only.step (State.endSession_only ..) rfl ?_
      exact (Only.refl _ _)
    · refine Only.ite ?_ ?_
      · exact (Only.refl _ _)
      · extract_lets +onlyGivenNames x3
        refine Only.keep x3 ?_ ?_
        · unfold x3
          refine Only.step (State.sesTo_only ..) rfl ?_
          refine Only.ite ?_ ?_
          · exact (Only.refl _ _)
          · refine Only.step (State.halt_only ..) rfl ?_
            exact (Only.refl _ _)
        intro h2
        clear_value x3
        refine Only.ite ?_ ?_
        · refine Only.step (State.confirmedOpen_only ..) rfl ?_
          exact h2
        · refine Only.step (State.wantChanged_only ..) rfl ?_
          exact h2
  · refine Only.ite ?_ ?_
    · refine Only.step (State.openingFault_only ..) rfl ?_
      exact (Only.refl _ _)
    · refine Only.ite ?_ ?_
      · refine Only.step (State.confirmedOpen_only ..) rfl ?_
        exact (Only.refl _ _)
      · exact (Only.refl _ _)
  · refine Only.ite ?_ ?_
    · refine Only.step (State.askSafety_only ..) rfl ?_
      exact (Only.refl _ _)
    · refine Only.step (State.sealCheck_only ..) rfl ?_
      exact (Only.refl _ _)
  · refine Only.ite ?_ ?_
    · refine Only.step (State.endSession_only ..) rfl ?_
      exact (Only.refl _ _)
    · refine Only.ite ?_ ?_
      · refine Only.step (State.askSafety_only ..) rfl ?_
        exact (Only.refl _ _)
      · exact (Only.refl _ _)
  · refine Only.ite ?_ ?_
    · refine Only.step (State.endSession_only ..) rfl ?_
      exact (Only.refl _ _)
    · refine Only.ite ?_ ?_
      · refine Only.step (State.askSafety_only ..) rfl ?_
        exact (Only.refl _ _)
      · exact (Only.refl _ _)
  · refine Only.ite ?_ ?_
    · refine Only.step (State.askSafety_only ..) rfl ?_
      exact (Only.refl _ _)
    · exact (Only.refl _ _)
  · refine Only.ite ?_ ?_
    · refine Only.step (State.askSafety_only ..) rfl ?_
      exact (Only.refl _ _)
    · exact (Only.refl _ _)
  · refine Only.ite ?_ ?_
    · refine Only.step (State.askSafety_only ..) rfl ?_
      exact (Only.refl _ _)
    · exact (Only.refl _ _)
  · refine Only.ite ?_ ?_
    · refine Only.step (State.askSafety_only ..) rfl ?_
      exact (Only.refl _ _)
    · exact (Only.refl _ _)
  · refine Only.ite ?_ ?_
    · refine Only.step (State.askSafety_only ..) rfl ?_
      exact (Only.refl _ _)
    · exact (Only.refl _ _)
  · refine Only.ite ?_ ?_
    · refine Only.step (State.askSafety_only ..) rfl ?_
      exact (Only.refl _ _)
    · exact (Only.refl _ _)

theorem State.foresee_only (a0 : _) (a1 : _) :
    Only [.host, .veh, .lease, .conf, .sent, .pwr] a0 (State.foresee a0 a1) := by
  unfold State.foresee
  refine Only.ite ?_ ?_
  · exact (Only.refl _ _)
  · extract_lets +onlyGivenNames x1
    refine Only.step (State.divide_only ..) rfl ?_
    refine Only.step (State.modLease_only ..) rfl ?_
    refine Only.step (State.modConf_only ..) rfl ?_
    exact (Only.refl _ _)

theorem State.freeBy_only (a0 : _) (a1 : _) (a2 : _) :
    Only [.host, .sent] a0 (State.freeBy a0 a1 a2) := by
  unfold State.freeBy
  split
  · refine Only.step (State.modGuest_only ..) rfl ?_
    exact (Only.refl _ _)
  · exact (Only.refl _ _)
  · refine Only.step (State.modGuest_only ..) rfl ?_
    exact (Only.refl _ _)
  · refine Only.step (State.modH2d_only ..) rfl ?_
    exact (Only.refl _ _)
  · refine Only.step (State.irq_only ..) rfl ?_
    refine Only.step (State.modH2d_only ..) rfl ?_
    refine Only.step (State.modGuest_only ..) rfl ?_
    exact (Only.refl _ _)
  · refine Only.step (State.modGuest_only ..) rfl ?_
    exact (Only.refl _ _)

theorem State.giveReset_only (a0 : _) (a1 : _) :
    Only [.ses, .sp, .cave, .host, .sent, .saf, .brk] a0 (State.giveReset a0 a1) := by
  unfold State.giveReset
  extract_lets +onlyGivenNames x1
  extract_lets +onlyGivenNames x2
  extract_lets +onlyGivenNames x3
  extract_lets +onlyGivenNames x4
  extract_lets +onlyGivenNames x5
  refine Only.keep x5 ?_ ?_
  · unfold x5
    refine Only.step (State.modSaf_only ..) rfl ?_
    exact (Only.refl _ _)
  intro h1
  clear_value x5
  extract_lets +onlyGivenNames x6
  refine Only.keep x6 ?_ ?_
  · unfold x6
    refine Only.step (State.modSaf_only ..) rfl ?_
    exact h1
  intro h2
  clear_value x6
  extract_lets +onlyGivenNames x7
  refine Only.keep x7 ?_ ?_
  · unfold x7
    refine Only.each (fun a1x u1 h3 => ?_) ?_
    · refine Only.ite ?_ ?_
      · refine Only.step (State.clearLatches_only ..) rfl ?_
        exact h3
      · exact h3
    · exact h2
  intro h4
  clear_value x7
  refine Only.step (State.evalRows_only ..) rfl ?_
  refine Only.whenB (fun u2 h5 => ?_) ?_
  · refine Only.step (State.siteMsg_only ..) rfl ?_
    refine Only.step (State.safRaise_only ..) rfl ?_
    exact h5
  · exact h4

theorem State.stopSite_only (a0 : _) (a1 : _) :
    Only [.host, .pq, .legal, .sent] a0 (State.stopSite a0 a1) := by
  unfold State.stopSite
  refine Only.step (State.modDet_only ..) rfl ?_
  refine Only.step (State.pqEndAll_only ..) rfl ?_
  exact (Only.refl _ _)

theorem State.headsFrom_only (a0 : _) (a1 : _) :
    Only [.jnl, .host, .pq, .legal, .sent] a0 (State.headsFrom a0 a1) := by
  unfold State.headsFrom
  refine Only.each (fun p x h1 => ?_) (Only.refl _ _)
  have h2 : Only [.jnl, .host, .pq, .legal, .sent] a0 (if a1.headOk p 2 && !a0.headOk p 2 then
        (if (x.pqAt p).bypass.active then
          x.tamperRecord p 2 1 x.legal.proc (x.pqAt p).bypass.worst (x.pqAt p).bypass.units else x).modPq p
          fun q => { q with bypass := {} }
      else x) := by
    refine Only.ite ?_ h1
    refine Only.step (State.modPq_only ..) rfl ?_
    exact Only.ite (Only.step (State.tamperRecord_only ..) rfl h1) h1
  extract_lets x1 y x2
  have h3 : Only [.jnl, .host, .pq, .legal, .sent] a0 x1 := h2
  clear_value x1
  have h4 : Only [.jnl, .host, .pq, .legal, .sent] a0 y := Only.step (State.pqEndAll_only ..) rfl h3
  clear_value y
  exact Only.ite (Only.ite (Only.step (State.stopSite_only ..) rfl h4) h4) h3

theorem State.openRing_only (a0 : _) :
    Only [.msh, .sent, .chn] a0 (State.openRing a0) := by
  unfold State.openRing
  refine Only.step (State.originate_only ..) rfl ?_
  refine Only.step (State.modChn_only ..) rfl ?_
  exact (Only.refl _ _)

theorem State.heardHello_only (a0 : _) (a1 : _) (a2 : _) :
    Only [.msh, .sent, .chn] a0 (State.heardHello a0 a1 a2) := by
  unfold State.heardHello
  extract_lets +onlyGivenNames x1
  extract_lets +onlyGivenNames x2
  refine Only.keep x2 ?_ ?_
  · unfold x2
    refine Only.step (State.modChn_only ..) rfl ?_
    refine Only.step (State.modChLink_only ..) rfl ?_
    exact (Only.refl _ _)
  intro h1
  clear_value x2
  extract_lets +onlyGivenNames x3
  refine Only.keep x3 ?_ ?_
  · unfold x3
    refine Only.ite ?_ ?_
    · refine Only.step (State.openRing_only ..) rfl ?_
      exact h1
    · exact h1
  intro h2
  clear_value x3
  extract_lets +onlyGivenNames x4
  refine Only.ite ?_ ?_
  · exact h2
  · refine Only.ite ?_ ?_
    · refine Only.step (State.closeRing_only ..) rfl ?_
      exact h2
    · refine Only.ite ?_ ?_
      · exact h2
      · refine Only.ite ?_ ?_
        · refine Only.step (State.elect_only ..) rfl ?_
          exact h2
        · refine Only.ite ?_ ?_
          · refine Only.step (State.elect_only ..) rfl ?_
            exact h2
          · refine Only.ite ?_ ?_
            · refine Only.step (State.modChn_only ..) rfl ?_
              exact h2
            · exact h2

theorem State.heartbeat_only (a0 : _) :
    Only [.ses, .sp, .cave, .host, .sent, .saf, .brk] a0 (State.heartbeat a0) := by
  unfold State.heartbeat
  refine Only.ite ?_ ?_
  · refine Only.step (State.siteMsg_only ..) rfl ?_
    refine Only.step (State.evalRows_only ..) rfl ?_
    refine Only.step (State.modSaf_only ..) rfl ?_
    exact (Only.refl _ _)
  · exact (Only.refl _ _)

theorem State.trigger_only (a0 : _) (a1 : _) (a2 : _) :
    Only [.host] a0 (State.trigger a0 a1 a2) := by
  unfold State.trigger
  refine Only.ite ?_ ?_
  · exact (Only.refl _ _)
  · refine Only.step (State.modGuest_only ..) rfl ?_
    exact (Only.refl _ _)

theorem State.hostGone_only (a0 : _) :
    Only [.sys, .msh, .host, .sent, .chn] a0 (State.hostGone a0) := by
  unfold State.hostGone
  refine Only.step (State.hostActive_only ..) rfl ?_
  refine Only.each (fun a1x u1 h1 => ?_) ?_
  · refine Only.step (State.trigger_only ..) rfl ?_
    exact h1
  · refine Only.step (State.modHost_only ..) rfl ?_
    exact (Only.refl _ _)

theorem State.hostWrite_only {ps : List Part} {s t : State} {path : Path} {g : Guest} {f : State → State}
    (w : within [.sys, .msh, .host, .sent, .chn] ps = true) (k : ∀ u, Only ps s u → Only ps s (f u)) (q : Only ps s t) :
    Only ps s (t.hostWrite path g f) := by
  unfold State.hostWrite
  exact Only.step (State.hostActive_only ..) w (Only.ite (k _ q) q)

theorem State.imdResult_only (a0 : _) (a1 : _) (a2 : _) (a3 : _) :
    Only [.sp, .host, .sent] a0 (State.imdResult a0 a1 a2 a3) := by
  unfold State.imdResult
  extract_lets +onlyGivenNames x1
  extract_lets +onlyGivenNames x2
  extract_lets +onlyGivenNames x3
  extract_lets +onlyGivenNames x4
  extract_lets +onlyGivenNames x5
  extract_lets +onlyGivenNames x6
  extract_lets +onlyGivenNames x7
  refine Only.keep x7 ?_ ?_
  · unfold x7
    refine Only.step (State.modSp_only ..) rfl ?_
    exact (Only.refl _ _)
  intro h1
  clear_value x7
  extract_lets +onlyGivenNames x8
  refine Only.keep x8 ?_ ?_
  · unfold x8
    refine Only.whenB (fun u1 h2 => ?_) ?_
    · refine Only.step (State.imdRaise_only ..) rfl ?_
      exact h2
    · exact h1
  intro h3
  clear_value x8
  refine Only.ite ?_ ?_
  · exact h3
  · extract_lets +onlyGivenNames x9
    refine Only.keep x9 ?_ ?_
    · unfold x9
      refine Only.step (State.modSp_only ..) rfl ?_
      exact h3
    intro h4
    clear_value x9
    refine Only.ite ?_ ?_
    · refine Only.step (State.imdRaise_only ..) rfl ?_
      refine Only.step (State.modSp_only ..) rfl ?_
      exact h4
    · exact h4

theorem State.inputCheck_only (a0 : _) (a1 : _) :
    Only [.saf] a0 (State.inputCheck a0 a1) := by
  unfold State.inputCheck
  extract_lets +onlyGivenNames x1
  extract_lets +onlyGivenNames x2
  extract_lets +onlyGivenNames x3
  extract_lets +onlyGivenNames x4
  extract_lets +onlyGivenNames x5
  refine Only.foldl (fun u1 a1x h1 => ?_) ?_
  · refine Only.step (State.modSaf_only ..) rfl ?_
    exact h1
  · exact (Only.refl _ _)

theorem State.inputFault_only (a0 : _) (a1 : _) :
    Only [.host, .sent, .saf] a0 (State.inputFault a0 a1) := by
  unfold State.inputFault
  refine Only.ite ?_ ?_
  · exact (Only.refl _ _)
  · refine Only.step (State.tripLog_only ..) rfl ?_
    refine Only.step (State.safRaise_only ..) rfl ?_
    refine Only.step (State.modSaf_only ..) rfl ?_
    exact (Only.refl _ _)

theorem State.irqPort_only (a0 : _) (a1 : _) :
    Only [.host, .sent] a0 (State.irqPort a0 a1) := by
  unfold State.irqPort
  refine Only.each (fun a1x u1 h1 => ?_) ?_
  · refine Only.ite ?_ ?_
    · refine Only.step (State.irq_only ..) rfl ?_
      exact h1
    · exact h1
  · exact (Only.refl _ _)

theorem State.judgePreclose_only (a0 : _) (a1 : _) :
    Only [.ses, .sp, .cave, .host, .sent, .saf, .brk] a0 (State.judgePreclose a0 a1) := by
  unfold State.judgePreclose
  split
  · exact (Only.refl _ _)
  · refine Only.ite ?_ ?_
    · refine Only.step (State.endPreclose_only ..) rfl ?_
      exact (Only.refl _ _)
    · exact (Only.refl _ _)

theorem State.metRaise_only (a0 : _) (a1 : _) (a2 : _) :
    Only [.met, .host, .sent] a0 (State.metRaise a0 a1 a2) := by
  unfold State.metRaise
  refine Only.step (State.pendPort_only ..) rfl ?_
  refine Only.step (State.modMet_only ..) rfl ?_
  exact (Only.refl _ _)

theorem State.judgeSerial_only (a0 : _) (a1 : _) (a2 : _) :
    Only [.met, .host, .sl, .sent] a0 (State.judgeSerial a0 a1 a2) := by
  unfold State.judgeSerial
  extract_lets +onlyGivenNames x1
  extract_lets +onlyGivenNames x2
  refine Only.keep x2 ?_ ?_
  · unfold x2
    refine Only.step (State.modSl_only ..) rfl ?_
    exact (Only.refl _ _)
  intro h1
  clear_value x2
  refine Only.ite ?_ ?_
  · refine Only.step (State.metRaise_only ..) rfl ?_
    refine Only.step (State.modMet_only ..) rfl ?_
    exact h1
  · exact h1

theorem State.latchFail_only (a0 : _) (a1 : _) (a2 : _) :
    Only [.met, .host, .sl, .sent, .nrg] a0 (State.latchFail a0 a1 a2) := by
  unfold State.latchFail
  extract_lets +onlyGivenNames x1
  refine Only.keep x1 ?_ ?_
  · unfold x1
    refine Only.step (State.metRaise_only ..) rfl ?_
    refine Only.step (State.modMet_only ..) rfl ?_
    exact (Only.refl _ _)
  intro h1
  clear_value x1
  refine Only.ite ?_ ?_
  · refine Only.step (State.failHead_only ..) rfl ?_
    exact h1
  · refine Only.ite ?_ ?_
    · exact h1
    · refine Only.step (State.failHead_only ..) rfl ?_
      exact h1

theorem State.leaveFault_only (a0 : _) (a1 : _) :
    Only [.sp, .host, .sent, .saf] a0 (State.leaveFault a0 a1) := by
  unfold State.leaveFault
  refine Only.ite ?_ ?_
  · extract_lets +onlyGivenNames x1
    refine Only.keep x1 ?_ ?_
    · unfold x1
      refine Only.step (State.modSp_only ..) rfl ?_
      exact (Only.refl _ _)
    intro h1
    clear_value x1
    extract_lets +onlyGivenNames x2
    refine Only.keep x2 ?_ ?_
    · unfold x2
      refine Only.ite ?_ ?_
      · exact h1
      · refine Only.step (State.confirmOpen_only ..) rfl ?_
        exact h1
    intro h2
    clear_value x2
    refine Only.step (State.setPort_only ..) rfl ?_
    exact h2
  · refine Only.step (State.modSp_only ..) rfl ?_
    exact (Only.refl _ _)

theorem State.leaveRun_only (a0 : _) (a1 : _) (a2 : _) :
    Only [.jnl, .met, .host, .sl, .pq, .legal, .sent] a0 (State.leaveRun a0 a1 a2) := by
  unfold State.leaveRun
  refine Only.step (State.headsFrom_only ..) rfl ?_
  refine Only.step (State.endMeasure_only ..) rfl ?_
  refine Only.step (State.modSl_only ..) rfl ?_
  exact (Only.refl _ _)

theorem State.linkFailed_only (a0 : _) (a1 : _) :
    Only [.cave, .host, .veh, .sent] a0 (State.linkFailed a0 a1) := by
  unfold State.linkFailed
  extract_lets +onlyGivenNames x1
  refine Only.ite ?_ ?_
  · refine Only.step (State.modVeh_only ..) rfl ?_
    refine Only.step (State.linkTo_only ..) rfl ?_
    refine Only.step (State.drive_only ..) rfl ?_
    refine Only.step (State.vpRaise_only ..) rfl ?_
    exact (Only.refl _ _)
  · refine Only.ite ?_ ?_
    · refine Only.step (State.modVeh_only ..) rfl ?_
      refine Only.step (State.drive_only ..) rfl ?_
      exact (Only.refl _ _)
    · refine Only.step (State.linkTo_only ..) rfl ?_
      refine Only.step (State.vpRaise_only ..) rfl ?_
      exact (Only.refl _ _)

theorem State.unmatch_only (a0 : _) (a1 : _) :
    Only [.cave, .host, .veh, .sent] a0 (State.unmatch a0 a1) := by
  unfold State.unmatch
  extract_lets +onlyGivenNames x1
  refine Only.keep x1 ?_ ?_
  · unfold x1
    refine Only.step (State.modVeh_only ..) rfl ?_
    refine Only.step (State.linkTo_only ..) rfl ?_
    refine Only.step (State.dropMatch_only ..) rfl ?_
    exact (Only.refl _ _)
  intro h1
  clear_value x1
  refine Only.ite ?_ ?_
  · refine Only.step (State.linkFailed_only ..) rfl ?_
    exact h1
  · exact h1

theorem State.leftOut_only (a0 : _) (a1 : _) (a2 : _) :
    Only [.cave, .host, .veh, .sent] a0 (State.leftOut a0 a1 a2) := by
  unfold State.leftOut
  refine Only.step (State.unmatch_only ..) rfl ?_
  refine Only.step (State.vpRaise_only ..) rfl ?_
  refine Only.step (State.modVeh_only ..) rfl ?_
  exact (Only.refl _ _)

theorem State.legalOpen_only (a0 : _) (a1 : _) (a2 : _) (a3 : _) :
    Only [.host, .pq, .sent, .bil, .nrg] a0 (State.legalOpen a0 a1 a2 a3) := by
  unfold State.legalOpen
  extract_lets +onlyGivenNames x1
  extract_lets +onlyGivenNames x2
  extract_lets +onlyGivenNames x3
  extract_lets +onlyGivenNames x4
  extract_lets +onlyGivenNames x5
  extract_lets +onlyGivenNames x6
  refine Only.keep x6 ?_ ?_
  · unfold x6
    refine Only.step (State.modBil_only ..) rfl ?_
    exact (Only.refl _ _)
  intro h1
  clear_value x6
  extract_lets +onlyGivenNames x7
  refine Only.keep x7 ?_ ?_
  · unfold x7
    refine Only.step (State.modNrg_only ..) rfl ?_
    exact h1
  intro h2
  clear_value x7
  extract_lets +onlyGivenNames x8
  refine Only.keep x8 ?_ ?_
  · unfold x8
    refine Only.step (State.modPq_only ..) rfl ?_
    exact h2
  intro h3
  clear_value x8
  refine Only.step (State.openInterval_only ..) rfl ?_
  exact h3

theorem State.rebind_only (a0 : _) (a1 : _) :
    Only [.fw] a0 (State.rebind a0 a1) := by
  unfold State.rebind
  refine Only.step (State.modFw_only ..) rfl ?_
  exact (Only.refl _ _)

theorem State.sealSession_only (a0 : _) (a1 : _) (a2 : _) (a3 : _) :
    Only [.ses, .jnl, .host, .fw, .sent, .bil, .nrg] a0 (State.sealSession a0 a1 a2 a3) := by
  unfold State.sealSession
  refine Only.ite ?_ ?_
  · exact (Only.refl _ _)
  · extract_lets +onlyGivenNames x1
    refine Only.keep x1 ?_ ?_
    · unfold x1
      refine Only.step (State.closeInterval_only ..) rfl ?_
      exact (Only.refl _ _)
    intro h1
    clear_value x1
    split
    · exact (Only.refl _ _)
    · extract_lets +onlyGivenNames x2
      extract_lets +onlyGivenNames x3
      extract_lets +onlyGivenNames x4
      refine Only.keep x4 ?_ ?_
      · unfold x4
        refine Only.step (State.appendLegal_only ..) rfl ?_
        exact h1
      intro h2
      clear_value x4
      extract_lets +onlyGivenNames x5
      refine Only.keep x5 ?_ ?_
      · unfold x5
        split
        · refine Only.step (State.bilRaise_only ..) rfl ?_
          refine Only.step (State.final_only ..) rfl ?_
          exact h2
        · exact h2
      intro h3
      clear_value x5
      extract_lets +onlyGivenNames x6
      refine Only.keep x6 ?_ ?_
      · unfold x6
        refine Only.step (State.modBil_only ..) rfl ?_
        exact h3
      intro h4
      clear_value x6
      extract_lets +onlyGivenNames x7
      refine Only.keep x7 ?_ ?_
      · unfold x7
        refine Only.step (State.modNrg_only ..) rfl ?_
        exact h4
      intro h5
      clear_value x7
      extract_lets +onlyGivenNames x8
      refine Only.keep x8 ?_ ?_
      · unfold x8
        refine Only.step (State.modSes_only ..) rfl ?_
        exact h5
      intro h6
      clear_value x8
      refine Only.step (State.emit_only ..) rfl ?_
      refine Only.step (State.rebind_only ..) rfl ?_
      refine Only.step (State.bilRaise_only ..) rfl ?_
      exact h6

theorem State.restorePort_only (a0 : _) (a1 : _) :
    Only [.ses, .jnl, .met, .host, .fw, .pq, .sent, .bil, .nrg] a0 (State.restorePort a0 a1) := by
  unfold State.restorePort
  extract_lets +onlyGivenNames x1
  extract_lets +onlyGivenNames x2
  extract_lets +onlyGivenNames x3
  extract_lets +onlyGivenNames x4
  refine Only.keep x4 ?_ ?_
  · unfold x4
    refine Only.step (State.modMet_only ..) rfl ?_
    refine Only.step (State.modNrg_only ..) rfl ?_
    exact (Only.refl _ _)
  intro h1
  clear_value x4
  extract_lets +onlyGivenNames x5
  refine Only.keep x5 ?_ ?_
  · unfold x5
    refine Only.ite ?_ ?_
    · refine Only.step (State.latchAt_only ..) rfl ?_
      refine Only.step (State.modNrg_only ..) rfl ?_
      exact h1
    · exact h1
  intro h2
  clear_value x5
  extract_lets +onlyGivenNames x6
  extract_lets +onlyGivenNames x7
  refine Only.keep x7 ?_ ?_
  · have h (u : State) (k : Fin 5) (c : Persist) (v1 v2 : Int)
        (h2 : Only [.ses, .jnl, .met, .host, .fw, .pq, .sent, .bil, .nrg] a0 u) :
        Only [.ses, .jnl, .met, .host, .fw, .pq, .sent, .bil, .nrg] a0 (x6 u k c v1 v2) :=
      Only.ite (Only.step (State.tamperRecord_only ..) rfl h2) h2
    exact h _ _ _ _ _ (h _ _ _ _ _ (h _ _ _ _ _ h2))
  intro h3
  clear_value x7
  extract_lets +onlyGivenNames x8
  extract_lets +onlyGivenNames x9
  refine Only.keep x9 ?_ ?_
  · unfold x9
    refine Only.step (State.modPq_only ..) rfl ?_
    exact h3
  intro h4
  clear_value x9
  extract_lets +onlyGivenNames x10
  refine Only.keep x10 ?_ ?_
  · unfold x10
    refine Only.step (State.modNrg_only ..) rfl ?_
    exact h4
  intro h5
  clear_value x10
  refine Only.step (State.applySource_only ..) rfl ?_
  refine Only.ite ?_ ?_
  · refine Only.step (State.nrgRaise_only ..) rfl ?_
    refine Only.step (State.sealSession_only ..) rfl ?_
    exact h5
  · exact h5

theorem State.legalRecover_only (a0 : _) :
    Only [.ses, .jnl, .met, .host, .fw, .pq, .legal, .sent, .bil, .nrg, .rind] a0 (State.legalRecover a0) := by
  unfold State.legalRecover
  extract_lets +onlyGivenNames x1
  extract_lets +onlyGivenNames x2
  extract_lets +onlyGivenNames x3
  extract_lets +onlyGivenNames x4
  extract_lets +onlyGivenNames x5
  extract_lets +onlyGivenNames x6
  extract_lets +onlyGivenNames x7
  extract_lets +onlyGivenNames x8
  refine Only.keep x8 ?_ ?_
  · unfold x8
    refine Only.step (State.modLegal_only ..) rfl ?_
    exact (Only.refl _ _)
  intro h1
  clear_value x8
  extract_lets +onlyGivenNames x9
  extract_lets +onlyGivenNames x10
  refine Only.keep x10 ?_ ?_
  · unfold x10
    refine Only.each (fun a1x u1 h2 => ?_) ?_
    · refine Only.step (State.restorePort_only ..) rfl ?_
      exact h2
    · exact h1
  intro h3
  clear_value x10
  extract_lets +onlyGivenNames x11
  refine Only.keep x11 ?_ ?_
  · unfold x11
    refine Only.ite ?_ ?_
    · refine Only.step (State.appendLegal_only ..) rfl ?_
      exact h3
    · exact h3
  intro h4
  clear_value x11
  extract_lets +onlyGivenNames x12
  refine Only.keep x12 ?_ ?_
  · unfold x12
    refine Only.ite ?_ ?_
    · refine Only.step (State.modRind_only ..) rfl ?_
      refine Only.step (State.appendLegal_only ..) rfl ?_
      exact h4
    · exact h4
  intro h5
  clear_value x12
  refine Only.foldl (fun u2 a2x h6 => ?_) ?_
  · refine Only.step (State.modInput_only ..) rfl ?_
    exact h6
  · exact h5

theorem State.plainItem_only (a0 : _) (a1 : _) (a2 : _) :
    Only [.jnl, .msh, .host, .conf, .sent, .chn] a0 (State.plainItem a0 a1 a2) := by
  unfold State.plainItem
  refine Only.ite ?_ ?_
  · refine Only.step (State.addItem_only ..) rfl ?_
    exact (Only.refl _ _)
  · refine Only.step (State.answer_only ..) rfl ?_
    exact (Only.refl _ _)

theorem State.unlessVoid_only {ps : List Part} {s t : State} {r : Req} {f : State → State} (w : within [.host] ps = true)
    (k : ∀ u, Only ps s u → Only ps s (f u)) (q : Only ps s t) : Only ps s (t.unlessVoid r f) := by
  unfold State.unlessVoid
  split
  · exact Only.step (State.answer_only ..) w q
  · exact k _ q

theorem State.legalSystemItem_only (a0 : _) (a1 : _) :
    Only [.jnl, .msh, .host, .conf, .sent, .chn] a0 (State.legalSystemItem a0 a1) := by
  unfold State.legalSystemItem
  refine Only.ite ?_ ?_
  · refine State.unlessVoid_only rfl (fun u1 h1 => ?_) ?_
    · refine Only.step (State.plainItem_only ..) rfl ?_
      exact h1
    · exact (Only.refl _ _)
  · refine Only.step (State.answer_only ..) rfl ?_
    exact (Only.refl _ _)

theorem State.lineX_only (a0 : _) (a1 : _) (a2 : _) (a3 : _) :
    Only [.nrg] a0 (State.lineX a0 a1 a2 a3) := by
  unfold State.lineX
  refine Only.ite ?_ ?_
  · refine Only.step (State.modNrg_only ..) rfl ?_
    exact (Only.refl _ _)
  · refine Only.step (State.modNrg_only ..) rfl ?_
    exact (Only.refl _ _)

theorem State.linkLost_only (a0 : _) (a1 : _) :
    Only [.msh, .sent, .chn] a0 (State.linkLost a0 a1) := by
  unfold State.linkLost
  refine Only.step (State.setLink_only ..) rfl ?_
  refine Only.step (State.modChLink_only ..) rfl ?_
  exact (Only.refl _ _)

theorem State.linksRest_only (a0 : _) :
    Only [.jnl, .met, .host, .sl, .pq, .legal, .sent] a0 (State.linksRest a0) := by
  unfold State.linksRest
  refine Only.each (fun a1x u1 h1 => ?_) ?_
  · refine Only.step (State.modSl_only ..) rfl ?_
    refine Only.ite ?_ ?_
    · refine Only.step (State.leaveRun_only ..) rfl ?_
      exact h1
    · exact h1
  · exact (Only.refl _ _)

theorem State.lockDone_only (a0 : _) (a1 : _) :
    Only [.ses, .sys, .pm, .cave, .host, .veh, .sent, .pwr, .lk] a0 (State.lockDone a0 a1) := by
  unfold State.lockDone
  refine Only.step (State.advance_only ..) rfl ?_
  refine Only.step (State.lockEnd_only ..) rfl ?_
  exact (Only.refl _ _)

theorem State.loseSram_only (a0 : _) :
    Only [.cave, .nfc, .msh, .chn] a0 (State.loseSram a0) := by
  unfold State.loseSram
  extract_lets +onlyGivenNames x1
  refine Only.step (State.modChn_only ..) rfl ?_
  refine Only.step (State.modNfc_only ..) rfl ?_
  refine Only.step (State.modCave_only ..) rfl ?_
  refine Only.step (State.modMsh_only ..) rfl ?_
  exact (Only.refl _ _)

theorem State.maskVector_only (a0 : _) (a1 : _) (a2 : _) (a3 : _) :
    Only [.host, .sent] a0 (State.maskVector a0 a1 a2 a3) := by
  unfold State.maskVector
  extract_lets +onlyGivenNames x1
  extract_lets +onlyGivenNames x2
  refine Only.ite ?_ ?_
  · refine Only.step (State.modGuest_only ..) rfl ?_
    exact (Only.refl _ _)
  · extract_lets +onlyGivenNames x3
    refine Only.keep x3 ?_ ?_
    · unfold x3
      refine Only.step (State.modGuest_only ..) rfl ?_
      exact (Only.refl _ _)
    intro h1
    clear_value x3
    refine Only.ite ?_ ?_
    · refine Only.step (State.count_only ..) rfl ?_
      refine Only.step (State.emit_only ..) rfl ?_
      exact h1
    · exact h1

theorem State.meshPass_only (a0 : _) (a1 : _) (a2 : _) :
    Only [.msh] a0 (State.meshPass a0 a1 a2) := by
  unfold State.meshPass
  refine Only.ite ?_ ?_
  · exact (Only.refl _ _)
  · extract_lets +onlyGivenNames x1
    refine Only.step (State.modMsh_only ..) rfl ?_
    exact (Only.refl _ _)

theorem State.meshRx_only {ps : List Part} {s t : State} {m : MHdr} {b : MBody} {eat : State → State} (w : within [.msh, .sent] ps = true)
    (k : ∀ u, Only ps s u → Only ps s (eat u)) (q : Only ps s t) : Only ps s (t.meshRx m b eat) := by
  have w1 : ∀ {qs}, within qs [.msh, .sent] = true → within qs ps = true := fun h => within_trans h w
  unfold State.meshRx
  extract_lets +onlyGivenNames own
  refine Only.ite q ?_
  extract_lets +onlyGivenNames x
  have hx : Only ps s x := by
    unfold x; exact Only.step (State.modMsh_only ..) (w1 rfl) (Only.step (State.knowNbr_only ..) (w1 rfl) q)
  clear_value x
  extract_lets +onlyGivenNames y
  have hy : Only ps s y := by
    unfold y; split
    · exact hx
    · exact Only.step (State.emit_only ..) (w1 rfl) hx
  clear_value y
  refine Only.ite ?_ (Only.ite (k _ hy) (Only.step (State.meshPass_only ..) (w1 rfl) hy))
  extract_lets +onlyGivenNames z
  refine Only.ite hy ?_
  extract_lets +onlyGivenNames v
  have hv : Only ps s v := by unfold v; exact Only.step (State.modMsh_only ..) (w1 rfl) hy
  exact Only.step (State.meshPass_only ..) (w1 rfl) (k _ hv)

theorem State.meterInfo_only (a0 : _) (a1 : _) :
    Only [.sent] a0 (State.meterInfo a0 a1) := by
  unfold State.meterInfo
  refine Only.ite ?_ ?_
  · refine Only.step (State.emit_only ..) rfl ?_
    exact (Only.refl _ _)
  · exact (Only.refl _ _)

theorem State.modD2h_only (a0 : _) (a1 : _) (a2 : _) (a3 : _) :
    Only [.host] a0 (State.modD2h a0 a1 a2 a3) := by
  unfold State.modD2h
  refine Only.step (State.modGuest_only ..) rfl ?_
  exact (Only.refl _ _)

theorem State.modOpt_only (a0 : _) (a1 : _) :
    Only [.legal] a0 (State.modOpt a0 a1) := by
  unfold State.modOpt
  refine Only.step (State.modLegal_only ..) rfl ?_
  exact (Only.refl _ _)

theorem State.modPfc_only (a0 : _) (a1 : _) (a2 : _) :
    Only [.host] a0 (State.modPfc a0 a1 a2) := by
  unfold State.modPfc
  refine Only.step (State.modGuest_only ..) rfl ?_
  exact (Only.refl _ _)

theorem State.modPm_only (a0 : _) (a1 : _) (a2 : _) :
    Only [.pm] a0 (State.modPm a0 a1 a2) := by
  constructor; intro p hp; cases p <;> first | rfl | exact absurd (by decide) hp

theorem State.noResponse_only (a0 : _) (a1 : _) :
    Only [.host] a0 (State.noResponse a0 a1) := by
  unfold State.noResponse
  refine Only.step (State.modHost_only ..) rfl ?_
  exact (Only.refl _ _)

theorem State.offerImage_only (a0 : _) (a1 : _) :
    Only [.msh, .fw, .sent, .chn] a0 (State.offerImage a0 a1) := by
  unfold State.offerImage
  refine Only.ite ?_ ?_
  · refine Only.step (State.serveBlock_only ..) rfl ?_
    refine Only.step (State.serveFrom_only ..) rfl ?_
    refine Only.step (State.originate_only ..) rfl ?_
    exact (Only.refl _ _)
  · exact (Only.refl _ _)

theorem State.outputsOff_only (a0 : _) :
    Only [.sp, .saf, .ls, .lk, .brk] a0 (State.outputsOff a0) := by
  constructor; intro p hp; cases p <;> first | rfl | exact absurd (by decide) hp

theorem State.overlapWindow_only (a0 : _) (a1 : _) (a2 : _) (a3 : _) :
    Only [.met, .host, .sl, .sent, .nrg] a0 (State.overlapWindow a0 a1 a2 a3) := by
  unfold State.overlapWindow
  extract_lets +onlyGivenNames x1
  refine Only.ite ?_ ?_
  · exact (Only.refl _ _)
  · extract_lets +onlyGivenNames x2
    extract_lets +onlyGivenNames x3
    extract_lets +onlyGivenNames x4
    refine Only.keep x4 ?_ ?_
    · unfold x4
      refine Only.step (State.modMet_only ..) rfl ?_
      exact (Only.refl _ _)
    intro h1
    clear_value x4
    refine Only.ite ?_ ?_
    · refine Only.step (State.latchFail_only ..) rfl ?_
      refine Only.step (State.metRaise_only ..) rfl ?_
      exact h1
    · exact h1

theorem State.passTrial_only (a0 : _) (a1 : _) :
    Only [.fw] a0 (State.passTrial a0 a1) := by
  unfold State.passTrial
  refine Only.ite ?_ ?_
  · refine Only.step (State.updRaise_only ..) rfl ?_
    refine Only.step (State.modFw_only ..) rfl ?_
    exact (Only.refl _ _)
  · exact (Only.refl _ _)

theorem State.pathWindow_only (a0 : _) (a1 : _) (a2 : _) (a3 : _) :
    Only [.met, .host, .sl, .sent, .nrg] a0 (State.pathWindow a0 a1 a2 a3) := by
  unfold State.pathWindow
  extract_lets +onlyGivenNames x1
  extract_lets +onlyGivenNames x2
  extract_lets +onlyGivenNames x3
  refine Only.ite ?_ ?_
  · exact (Only.refl _ _)
  · extract_lets +onlyGivenNames x4
    extract_lets +onlyGivenNames x5
    extract_lets +onlyGivenNames x6
    extract_lets +onlyGivenNames x7
    refine Only.keep x7 ?_ ?_
    · unfold x7
      refine Only.step (State.modMet_only ..) rfl ?_
      exact (Only.refl _ _)
    intro h1
    clear_value x7
    extract_lets +onlyGivenNames x8
    refine Only.keep x8 ?_ ?_
    · unfold x8
      refine Only.ite ?_ ?_
      · refine Only.step (State.metRaise_only ..) rfl ?_
        exact h1
      · exact h1
    intro h2
    clear_value x8
    extract_lets +onlyGivenNames x9
    refine Only.keep x9 ?_ ?_
    · unfold x9
      refine Only.ite ?_ ?_
      · refine Only.step (State.metRaise_only ..) rfl ?_
        exact h2
      · exact h2
    intro h3
    clear_value x9
    extract_lets +onlyGivenNames x10
    refine Only.keep x10 ?_ ?_
    · unfold x10
      refine Only.ite ?_ ?_
      · refine Only.step (State.latchFail_only ..) rfl ?_
        exact h3
      · exact h3
    intro h4
    clear_value x10
    refine Only.ite ?_ ?_
    · refine Only.step (State.modSl_only ..) rfl ?_
      exact h4
    · exact h4

theorem State.sendSetpoint_only (a0 : _) (a1 : _) (a2 : _) (a3 : _) :
    Only [.pm, .sent] a0 (State.sendSetpoint a0 a1 a2 a3) := by
  unfold State.sendSetpoint
  refine Only.step (State.portSend_only ..) rfl ?_
  exact (Only.refl _ _)

theorem State.planStep_only (a0 : _) (a1 : _) (a2 : _) (a3 : _) :
    Only [.pm, .host, .veh, .lease, .conf, .sent, .pwr] a0 (State.planStep a0 a1 a2 a3) := by
  unfold State.planStep
  extract_lets +onlyGivenNames x1
  extract_lets +onlyGivenNames x2
  refine Only.keep x2 ?_ ?_
  · unfold x2
    refine Only.step (State.foresee_only ..) rfl ?_
    exact (Only.refl _ _)
  intro h1
  clear_value x2
  extract_lets +onlyGivenNames x3
  extract_lets +onlyGivenNames x4
  extract_lets +onlyGivenNames x5
  refine Only.step (State.sendSetpoint_only ..) rfl ?_
  refine Only.step (State.modPwr_only ..) rfl ?_
  exact (Only.refl _ _)

theorem State.resetPort_only (a0 : _) (a1 : _) (a2 : _) :
    Only [.ses, .jnl, .sp, .sys, .pm, .cave, .nfc, .met, .msh, .host, .sl, .veh, .legal, .free, .lease, .conf, .sent, .pwr, .bil, .nrg, .saf, .chn, .ls, .lk, .brk] a0 (State.resetPort a0 a1 a2) := by
  unfold State.resetPort
  refine Only.ite ?_ ?_
  · refine Only.step (State.sealCheck_only ..) rfl ?_
    refine Only.step (State.endSession_only ..) rfl ?_
    refine Only.step (State.modVeh_only ..) rfl ?_
    exact (Only.refl _ _)
  · refine Only.step (State.portReset_only ..) rfl ?_
    exact (Only.refl _ _)

theorem State.pmFault_only (a0 : _) (a1 : _) :
    Only [.ses, .jnl, .sp, .sys, .pm, .cave, .nfc, .met, .msh, .host, .sl, .veh, .legal, .free, .lease, .conf, .sent, .pwr, .bil, .nrg, .saf, .chn, .ls, .lk, .brk] a0 (State.pmFault a0 a1) := by
  unfold State.pmFault
  refine Only.ite ?_ ?_
  · exact (Only.refl _ _)
  · extract_lets +onlyGivenNames x1
    refine Only.keep x1 ?_ ?_
    · unfold x1
      refine Only.step (State.modPmLink_only ..) rfl ?_
      exact (Only.refl _ _)
    intro h1
    clear_value x1
    refine Only.foldl (fun u1 a1x h2 => ?_) ?_
    · extract_lets +onlyGivenNames x2
      refine Only.keep x2 ?_ ?_
      · unfold x2
        refine Only.step (State.modPwr_only ..) rfl ?_
        refine Only.step (State.pwrRaise_only ..) rfl ?_
        exact h2
      intro h3
      clear_value x2
      refine Only.step (State.resetPort_only ..) rfl ?_
      exact h3
    · exact h1

theorem State.pmRx_only (a0 : _) (a1 : _) (a2 : _) :
    Only [.pm] a0 (State.pmRx a0 a1 a2) := by
  unfold State.pmRx
  refine Only.step (State.modPmLink_only ..) rfl ?_
  exact (Only.refl _ _)

theorem State.pollDone_only (a0 : _) (a1 : _) :
    Only [.jnl, .met, .host, .sl, .pq, .legal, .sent] a0 (State.pollDone a0 a1) := by
  unfold State.pollDone
  extract_lets +onlyGivenNames x1
  refine Only.ite ?_ ?_
  · exact (Only.refl _ _)
  · extract_lets +onlyGivenNames x2
    extract_lets +onlyGivenNames _src x3
    refine Only.keep x3 ?_ ?_
    · unfold x3
      refine Only.step (State.modSl_only ..) rfl ?_
      exact (Only.refl _ _)
    intro h1
    clear_value x3
    refine Only.ite ?_ ?_
    · refine Only.step (State.leaveRun_only ..) rfl ?_
      exact h1
    · refine Only.step (State.headsFrom_only ..) rfl ?_
      refine Only.step (State.judgeSerial_only ..) rfl ?_
      exact h1

theorem State.weldMoved_only (a0 : _) (a1 : _) :
    Only [.ses, .sp, .cave, .host, .sent, .saf, .brk] a0 (State.weldMoved a0 a1) := by
  unfold State.weldMoved
  split
  · refine Only.ite ?_ ?_
    · refine Only.step (State.failWeld_only ..) rfl ?_
      exact (Only.refl _ _)
    · exact (Only.refl _ _)
  · exact (Only.refl _ _)

theorem State.refreshCurrent_only (a0 : _) (a1 : _) :
    Only [.sp] a0 (State.refreshCurrent a0 a1) := by
  unfold State.refreshCurrent
  refine Only.step (State.modSp_only ..) rfl ?_
  exact (Only.refl _ _)

theorem State.portCycle_only (a0 : _) (a1 : _) (a2 : _) :
    Only [.ses, .sp, .cave, .host, .sent, .saf, .brk] a0 (State.portCycle a0 a1 a2) := by
  unfold State.portCycle
  extract_lets +onlyGivenNames x1
  extract_lets +onlyGivenNames x2
  extract_lets +onlyGivenNames x3
  extract_lets +onlyGivenNames x4
  refine Only.keep x4 ?_ ?_
  · unfold x4
    refine Only.step (State.modSp_only ..) rfl ?_
    refine Only.step (State.refreshCurrent_only ..) rfl ?_
    exact (Only.refl _ _)
  intro h1
  clear_value x4
  extract_lets +onlyGivenNames x5
  refine Only.keep x5 ?_ ?_
  · unfold x5
    refine Only.step (State.weldMoved_only ..) rfl ?_
    refine Only.ite ?_ ?_
    · refine Only.step (State.tripPort_only ..) rfl ?_
      refine Only.step (State.imdRaise_only ..) rfl ?_
      exact h1
    · exact h1
  intro h2
  clear_value x5
  extract_lets +onlyGivenNames x6
  refine Only.keep x6 ?_ ?_
  · unfold x6
    refine Only.step (State.toBlocked_only ..) rfl ?_
    exact h2
  intro h3
  clear_value x6
  extract_lets +onlyGivenNames x7
  extract_lets +onlyGivenNames x8
  refine Only.ite ?_ ?_
  · refine Only.step (State.sevRaise_only ..) rfl ?_
    refine Only.step (State.setPort_only ..) rfl ?_
    exact h3
  · refine Only.ite ?_ ?_
    · refine Only.step (State.confirmOpen_only ..) rfl ?_
      exact h3
    · split
      · refine Only.ite ?_ ?_
        · refine Only.step (State.openPort_only ..) rfl ?_
          exact h3
        · exact h3
      · exact h3

theorem State.ppAccept_only (a0 : _) (a1 : _) (a2 : _) :
    Only [.ses, .jnl, .sp, .sys, .pm, .cave, .nfc, .met, .msh, .host, .sl, .veh, .legal, .free, .lease, .conf, .sent, .pwr, .bil, .nrg, .saf, .chn, .ls, .lk, .brk] a0 (State.ppAccept a0 a1 a2) := by
  unfold State.ppAccept
  extract_lets +onlyGivenNames x1
  extract_lets +onlyGivenNames x2
  refine Only.keep x2 ?_ ?_
  · unfold x2
    refine Only.step (State.wakeEvent_only ..) rfl ?_
    refine Only.step (State.vpRaise_only ..) rfl ?_
    refine Only.step (State.modVeh_only ..) rfl ?_
    exact (Only.refl _ _)
  intro h1
  clear_value x2
  refine Only.ite ?_ ?_
  · refine Only.step (State.plug_only ..) rfl ?_
    refine Only.step (State.refreshPwm_only ..) rfl ?_
    exact h1
  · extract_lets +onlyGivenNames x3
    refine Only.keep x3 ?_ ?_
    · unfold x3
      refine Only.step (State.modSp_only ..) rfl ?_
      exact h1
    intro h2
    clear_value x3
    refine Only.ite ?_ ?_
    · extract_lets +onlyGivenNames x4
      refine Only.keep x4 ?_ ?_
      · unfold x4
        refine Only.ite ?_ ?_
        · refine Only.step (State.unplug_only ..) rfl ?_
          refine Only.step (State.vpRaise_only ..) rfl ?_
          exact h2
        · refine Only.step (State.endSession_only ..) rfl ?_
          refine Only.step (State.linkFault_only ..) rfl ?_
          refine Only.step (State.vpRaise_only ..) rfl ?_
          exact h2
      intro h3
      clear_value x4
      exact h3
    · refine Only.ite ?_ ?_
      · refine Only.step (State.unplug_only ..) rfl ?_
        exact h2
      · refine Only.step (State.linkFault_only ..) rfl ?_
        exact h2

theorem State.pqJudge_only (a0 : _) (a1 : _) (a2 : _) (a3 : _) (a4 : _) (a5 : _) :
    Only [.host, .pq, .legal, .sent] a0 (State.pqJudge a0 a1 a2 a3 a4 a5) := by
  unfold State.pqJudge
  refine Only.ite ?_ ?_
  · exact (Only.refl _ _)
  · extract_lets +onlyGivenNames x1
    extract_lets +onlyGivenNames x2
    extract_lets +onlyGivenNames x3
    extract_lets +onlyGivenNames x4
    refine Only.keep x4 ?_ ?_
    · unfold x4
      split
      · extract_lets +onlyGivenNames x5
        refine Only.ite ?_ ?_
        · refine Only.step (State.pqClose_only ..) rfl ?_
          refine Only.step (State.modDet_only ..) rfl ?_
          exact (Only.refl _ _)
        · refine Only.step (State.modDet_only ..) rfl ?_
          exact (Only.refl _ _)
      · split
        · refine Only.step (State.pqEvent_only ..) rfl ?_
          refine Only.step (State.modDet_only ..) rfl ?_
          exact (Only.refl _ _)
        · exact (Only.refl _ _)
    intro h1
    clear_value x4
    extract_lets +onlyGivenNames x6
    refine Only.keep x6 ?_ ?_
    · unfold x6
      split
      · extract_lets +onlyGivenNames x7
        refine Only.ite ?_ ?_
        · refine Only.step (State.pqClose_only ..) rfl ?_
          refine Only.step (State.modDet_only ..) rfl ?_
          exact h1
        · refine Only.step (State.modDet_only ..) rfl ?_
          exact h1
      · split
        · refine Only.step (State.pqEvent_only ..) rfl ?_
          refine Only.step (State.modDet_only ..) rfl ?_
          exact h1
        · exact h1
    intro h2
    clear_value x6
    split
    · extract_lets +onlyGivenNames x8
      refine Only.ite ?_ ?_
      · refine Only.step (State.pqClose_only ..) rfl ?_
        refine Only.step (State.modDet_only ..) rfl ?_
        exact h2
      · refine Only.step (State.modDet_only ..) rfl ?_
        exact h2
    · refine Only.ite ?_ ?_
      · split
        · refine Only.step (State.pqEvent_only ..) rfl ?_
          refine Only.step (State.modDet_only ..) rfl ?_
          exact h2
        · exact h2
      · exact h2

theorem State.pqAc_only (a0 : _) (a1 : _) (a2 : _) (a3 : _) (a4 : _) (a5 : _) :
    Only [.host, .pq, .legal, .sent] a0 (State.pqAc a0 a1 a2 a3 a4 a5) := by
  unfold State.pqAc
  extract_lets +onlyGivenNames x1
  extract_lets +onlyGivenNames x2
  extract_lets +onlyGivenNames x3
  extract_lets +onlyGivenNames x4
  extract_lets +onlyGivenNames x5
  extract_lets +onlyGivenNames x6
  extract_lets +onlyGivenNames x7
  refine Only.keep x7 ?_ ?_
  · unfold x7
    refine Only.step (State.modDet_only ..) rfl ?_
    exact (Only.refl _ _)
  intro h1
  clear_value x7
  refine Only.ite ?_ ?_
  · refine Only.step (State.pqJudge_only ..) rfl ?_
    exact h1
  · exact h1

theorem State.pqDc_only (a0 : _) (a1 : _) (a2 : _) (a3 : _) (a4 : _) :
    Only [.host, .pq, .legal, .sent] a0 (State.pqDc a0 a1 a2 a3 a4) := by
  unfold State.pqDc
  extract_lets +onlyGivenNames x1
  extract_lets +onlyGivenNames x2
  extract_lets +onlyGivenNames x3
  refine Only.keep x3 ?_ ?_
  · unfold x3
    refine Only.step (State.modDet_only ..) rfl ?_
    exact (Only.refl _ _)
  intro h1
  clear_value x3
  split
  · exact h1
  · refine Only.ite ?_ ?_
    · extract_lets +onlyGivenNames x4
      refine Only.ite ?_ ?_
      · refine Only.step (State.pqJudge_only ..) rfl ?_
        exact h1
      · refine Only.step (State.modDet_only ..) rfl ?_
        exact h1
    · exact h1

theorem State.pqPort_only (a0 : _) (a1 : _) (a2 : _) :
    Only [.host, .pq, .legal, .sent] a0 (State.pqPort a0 a1 a2) := by
  unfold State.pqPort
  refine Only.ite ?_ ?_
  · exact (Only.refl _ _)
  · refine Only.ite ?_ ?_
    · refine Only.step (State.pqAc_only ..) rfl ?_
      exact (Only.refl _ _)
    · refine Only.step (State.pqDc_only ..) rfl ?_
      exact (Only.refl _ _)

theorem State.protocolLost_only (a0 : _) (a1 : _) :
    Only [.ses, .cave, .host, .veh, .sent] a0 (State.protocolLost a0 a1) := by
  unfold State.protocolLost
  refine Only.ite ?_ ?_
  · refine Only.step (State.modSes_only ..) rfl ?_
    refine Only.step (State.vpRaise_only ..) rfl ?_
    refine Only.step (State.dropProtocol_only ..) rfl ?_
    refine Only.step (State.linkTo_only ..) rfl ?_
    exact (Only.refl _ _)
  · exact (Only.refl _ _)

theorem State.putSlot_only (a0 : _) (a1 : _) (a2 : _) :
    Only [.keys] a0 (State.putSlot a0 a1 a2) := by
  unfold State.putSlot
  refine Only.step (State.modKeys_only ..) rfl ?_
  exact (Only.refl _ _)

theorem State.readBack_only (a0 : _) (a1 : _) :
    Only [.ses, .sp, .cave, .host, .sent, .saf, .brk] a0 (State.readBack a0 a1) := by
  unfold State.readBack
  extract_lets +onlyGivenNames x1
  extract_lets +onlyGivenNames x2
  extract_lets +onlyGivenNames x3
  extract_lets +onlyGivenNames x4
  extract_lets +onlyGivenNames x5
  extract_lets +onlyGivenNames x6
  extract_lets +onlyGivenNames x7
  refine Only.keep x7 ?_ ?_
  · unfold x7
    refine Only.step (State.modSaf_only ..) rfl ?_
    exact (Only.refl _ _)
  intro h1
  clear_value x7
  extract_lets +onlyGivenNames x8
  refine Only.keep x8 ?_ ?_
  · unfold x8
    refine Only.each (fun a1x u1 h2 => ?_) ?_
    · refine Only.step (State.modSp_only ..) rfl ?_
      exact h2
    · exact h1
  intro h3
  clear_value x8
  extract_lets +onlyGivenNames x9
  refine Only.keep x9 ?_ ?_
  · unfold x9
    refine Only.each (fun a2x u2 h4 => ?_) ?_
    · refine Only.step (State.modBrk_only ..) rfl ?_
      exact h4
    · exact h3
  intro h5
  clear_value x9
  extract_lets +onlyGivenNames x10
  refine Only.keep x10 ?_ ?_
  · unfold x10
    refine Only.foldl (fun u3 a3x h6 => ?_) ?_
    · refine Only.step (State.coilsOff_only ..) rfl ?_
      refine Only.step (State.openPort_only ..) rfl ?_
      exact h6
    · exact h5
  intro h7
  clear_value x10
  extract_lets +onlyGivenNames x11
  refine Only.keep x11 ?_ ?_
  · unfold x11
    refine Only.foldl (fun u4 a4x h8 => ?_) ?_
    · refine Only.step (State.applyBrake_only ..) rfl ?_
      exact h8
    · exact h7
  intro h9
  clear_value x11
  refine Only.ite ?_ ?_
  · refine Only.ite ?_ ?_
    · refine Only.step (State.diagGone_only ..) rfl ?_
      exact h9
    · exact h9
  · refine Only.step (State.diagFault_only ..) rfl ?_
    refine Only.step (State.writeOuts_only ..) rfl ?_
    refine Only.step (State.tripLog_only ..) rfl ?_
    refine Only.step (State.safRaise_only ..) rfl ?_
    exact h9

theorem State.returnRead_only (a0 : _) (a1 : _) (a2 : _) (a3 : _) (a4 : _) (a5 : _) :
    Only [.host, .sent] a0 (State.returnRead a0 a1 a2 a3 a4 a5) := by
  unfold State.returnRead
  split
  · refine Only.step (State.emit_only ..) rfl ?_
    exact (Only.refl _ _)
  · extract_lets +onlyGivenNames x1
    refine Only.step (State.emit_only ..) rfl ?_
    refine Only.step (State.modGuest_only ..) rfl ?_
    exact (Only.refl _ _)

theorem State.readEvent_only {ps : List Part} {s t : State} {path : Path} {g : Guest} {off : Nat} {v : Word} {f : State → State}
    (w : within [.sys, .msh, .host, .sent, .chn] ps = true) (k : ∀ u, Only ps s u → Only ps s (f u)) (q : Only ps s t) :
    Only ps s (t.readEvent path g off v f) := by
  unfold State.readEvent
  exact State.access_only w (fun u h => k _ (Only.step (State.returnRead_only ..) (within_trans rfl w) h)) q

theorem State.readHead_only (a0 : _) (a1 : _) :
    Only [.sl] a0 (State.readHead a0 a1) := by
  unfold State.readHead
  refine Only.step (State.modSl_only ..) rfl ?_
  exact (Only.refl _ _)

theorem State.readSafety_only (a0 : _) :
    Only [.sent, .saf] a0 (State.readSafety a0) := by
  unfold State.readSafety
  refine Only.step (State.modSaf_only ..) rfl ?_
  refine Only.step (State.modSent_only ..) rfl ?_
  exact (Only.refl _ _)

theorem State.rebuildPort_only (a0 : _) (a1 : _) :
    Only [.ses, .jnl, .sp, .sys, .pm, .cave, .nfc, .met, .msh, .host, .sl, .veh, .legal, .free, .lease, .conf, .sent, .pwr, .bil, .nrg, .saf, .chn, .ls, .lk, .brk] a0 (State.rebuildPort a0 a1) := by
  unfold State.rebuildPort
  extract_lets +onlyGivenNames x1
  refine Only.ite ?_ ?_
  · exact (Only.refl _ _)
  · extract_lets +onlyGivenNames x2
    extract_lets +onlyGivenNames x3
    refine Only.keep x3 ?_ ?_
    · unfold x3
      refine Only.step (State.modSes_only ..) rfl ?_
      exact (Only.refl _ _)
    intro h1
    clear_value x3
    refine Only.ite ?_ ?_
    · extract_lets +onlyGivenNames x4
      refine Only.keep x4 ?_ ?_
      · unfold x4
        refine Only.step (State.modSes_only ..) rfl ?_
        exact h1
      intro h2
      clear_value x4
      refine Only.ite ?_ ?_
      · refine Only.step (State.toSealing_only ..) rfl ?_
        exact h2
      · refine Only.step (State.askSafety_only ..) rfl ?_
        exact h2
    · refine Only.ite ?_ ?_
      · extract_lets +onlyGivenNames x5
        refine Only.keep x5 ?_ ?_
        · unfold x5
          refine Only.step (State.modSes_only ..) rfl ?_
          exact h1
        intro h3
        clear_value x5
        refine Only.ite ?_ ?_
        · refine Only.step (State.sealCheck_only ..) rfl ?_
          exact h3
        · refine Only.step (State.askSafety_only ..) rfl ?_
          exact h3
      · extract_lets +onlyGivenNames x6
        extract_lets +onlyGivenNames x7
        refine Only.keep x7 ?_ ?_
        · unfold x7
          refine Only.step (State.sesRaise_only ..) rfl ?_
          refine Only.step (State.modSes_only ..) rfl ?_
          exact h1
        intro h4
        clear_value x7
        refine Only.step (State.dueUnlock_only ..) rfl ?_
        refine Only.step (State.applySource_only ..) rfl ?_
        refine Only.step (State.applyPort_only ..) rfl ?_
        exact h4

theorem State.refuse_only (a0 : _) (a1 : _) (a2 : _) (a3 : _) (a4 : _) :
    Only [.host, .sent] a0 (State.refuse a0 a1 a2 a3 a4) := by
  unfold State.refuse
  extract_lets +onlyGivenNames x1
  extract_lets +onlyGivenNames x2
  refine Only.step (State.count_only ..) rfl ?_
  refine Only.step (State.modGuest_only ..) rfl ?_
  refine Only.step (State.modH2d_only ..) rfl ?_
  exact (Only.refl _ _)

theorem State.releaseBrake_only (a0 : _) (a1 : _) :
    Only [.host, .sent, .saf, .brk] a0 (State.releaseBrake a0 a1) := by
  unfold State.releaseBrake
  refine Only.step (State.brkRaise_only ..) rfl ?_
  refine Only.step (State.modBrk_only ..) rfl ?_
  exact (Only.refl _ _)

theorem State.releaseSite_only (a0 : _) :
    Only [.msh, .conf, .sent, .chn] a0 (State.releaseSite a0) := by
  unfold State.releaseSite
  refine Only.ite ?_ ?_
  · refine Only.step (State.modChn_only ..) rfl ?_
    refine Only.step (State.modConf_only ..) rfl ?_
    exact (Only.refl _ _)
  · split
    · refine Only.step (State.propose_only ..) rfl ?_
      exact (Only.refl _ _)
    · refine Only.ite ?_ ?_
      · exact (Only.refl _ _)
      · extract_lets +onlyGivenNames x1
        refine Only.step (State.chnRaise_only ..) rfl ?_
        refine Only.step (State.modChn_only ..) rfl ?_
        refine Only.step (State.modConf_only ..) rfl ?_
        exact (Only.refl _ _)

theorem State.renewFence_only (a0 : _) :
    Only [.sys, .cave, .msh, .host, .fw, .sent, .chn] a0 (State.renewFence a0) := by
  unfold State.renewFence
  extract_lets +onlyGivenNames x1
  extract_lets +onlyGivenNames x2
  extract_lets +onlyGivenNames x3
  refine Only.keep x3 ?_ ?_
  · unfold x3
    refine Only.step (State.modChn_only ..) rfl ?_
    exact (Only.refl _ _)
  intro h1
  clear_value x3
  refine Only.ite ?_ ?_
  · exact h1
  · extract_lets +onlyGivenNames x4
    refine Only.keep x4 ?_ ?_
    · unfold x4
      refine Only.step (State.mirrorEv_only ..) rfl ?_
      refine Only.step (State.service_only ..) rfl ?_
      refine Only.step (State.chnRaise_only ..) rfl ?_
      exact h1
    intro h2
    clear_value x4
    extract_lets +onlyGivenNames x5
    refine Only.keep x5 ?_ ?_
    · unfold x5
      refine Only.ite ?_ ?_
      · refine Only.step (State.actEnd_only ..) rfl ?_
        exact h2
      · exact h2
    intro h3
    clear_value x5
    refine Only.ite ?_ ?_
    · refine Only.step (State.finalOpt_only ..) rfl ?_
      refine Only.step (State.stayAwake_only ..) rfl ?_
      exact h3
    · exact h3

theorem State.renewLease_only (a0 : _) :
    Only [.lease] a0 (State.renewLease a0) := by
  unfold State.renewLease
  refine Only.ite ?_ ?_
  · refine Only.step (State.modLease_only ..) rfl ?_
    exact (Only.refl _ _)
  · split
    · refine Only.step (State.modLease_only ..) rfl ?_
      exact (Only.refl _ _)
    · extract_lets +onlyGivenNames x1
      extract_lets +onlyGivenNames x2
      refine Only.step (State.modLease_only ..) rfl ?_
      exact (Only.refl _ _)

theorem State.repeatStatus_only (a0 : _) :
    Only [.sp, .sent, .saf] a0 (State.repeatStatus a0) := by
  unfold State.repeatStatus
  refine Only.each (fun a1x u1 h1 => ?_) ?_
  · extract_lets +onlyGivenNames x1
    refine Only.step (State.safeSend_only ..) rfl ?_
    refine Only.step (State.safeSend_only ..) rfl ?_
    refine Only.step (State.portMsg_only ..) rfl ?_
    exact h1
  · refine Only.step (State.siteMsg_only ..) rfl ?_
    refine Only.step (State.modSaf_only ..) rfl ?_
    exact (Only.refl _ _)

theorem State.replan_only (a0 : _) (a1 : _) :
    Only [.pm, .host, .veh, .lease, .conf, .sent, .pwr] a0 (State.replan a0 a1) := by
  unfold State.replan
  extract_lets +onlyGivenNames x1
  extract_lets +onlyGivenNames x2
  extract_lets +onlyGivenNames x3
  extract_lets +onlyGivenNames x4
  extract_lets +onlyGivenNames x5
  refine Only.keep x5 ?_ ?_
  · unfold x5
    refine Only.step (State.modPwr_only ..) rfl ?_
    exact (Only.refl _ _)
  intro h1
  clear_value x5
  clear_value x4
  split
  · exact h1
  · extract_lets +onlyGivenNames x6
    extract_lets +onlyGivenNames x7
    refine Only.keep x7 ?_ ?_
    · unfold x7
      refine Only.step (State.modPwr_only ..) rfl ?_
      exact h1
    intro h2
    clear_value x7
    extract_lets +onlyGivenNames x8
    refine Only.keep x8 ?_ ?_
    · unfold x8
      refine Only.step (State.countPort_only ..) rfl ?_
      refine Only.step (State.sendAcked_only ..) rfl ?_
      exact h2
    intro h3
    clear_value x8
    refine Only.foldl (fun u1 a1x h4 => ?_) ?_
    · refine Only.step (State.planStep_only ..) rfl ?_
      exact h4
    · exact h3

theorem State.requestRelease_only (a0 : _) (a1 : _) (a2 : _) :
    Only [.ses, .sp, .cave, .host, .sent, .saf, .brk] a0 (State.requestRelease a0 a1 a2).1 := by
  unfold State.requestRelease
  dsimp only
  repeat' split
  all_goals dsimp only
  · exact Only.refl _ _
  · exact (State.startBrakeTest_only ..).mono rfl
  · exact Only.refl _ _
  · exact (State.releaseBrake_only ..).mono rfl

theorem State.resetSpans_only (a0 : _) :
    Only [.cave] a0 (State.resetSpans a0) := by
  unfold State.resetSpans
  refine Only.each (fun a1x u1 h1 => ?_) ?_
  · split
    · refine Only.step (State.endAbsence_only ..) rfl ?_
      refine Only.step (State.modCave_only ..) rfl ?_
      exact h1
    · exact h1
  · exact (Only.refl _ _)

theorem State.resumeActivation_only (a0 : _) :
    Only [.msh, .fw, .sent, .chn] a0 (State.resumeActivation a0) := by
  unfold State.resumeActivation
  refine Only.ite ?_ ?_
  · refine Only.ite ?_ ?_
    · refine Only.step (State.modAct_only ..) rfl ?_
      exact (Only.refl _ _)
    · refine Only.step (State.originate_only ..) rfl ?_
      refine Only.step (State.modAct_only ..) rfl ?_
      exact (Only.refl _ _)
  · exact (Only.refl _ _)

theorem State.resumeRipening_only (a0 : _) :
    Only [.jnl] a0 (State.resumeRipening a0) := by
  unfold State.resumeRipening
  extract_lets +onlyGivenNames x1
  refine Only.keep x1 ?_ ?_
  · unfold x1
    refine Only.ite ?_ ?_
    · refine Only.step (State.ripenLegal_only ..) rfl ?_
      exact (Only.refl _ _)
    · exact (Only.refl _ _)
  intro h1
  clear_value x1
  refine Only.ite ?_ ?_
  · refine Only.step (State.ripenConf_only ..) rfl ?_
    exact h1
  · exact h1

theorem State.ringItem_only (a0 : _) (a1 : _) (a2 : _) :
    Only [.jnl, .msh, .host, .conf, .sent, .chn] a0 (State.ringItem a0 a1 a2) := by
  unfold State.ringItem
  refine Only.ite ?_ ?_
  · refine Only.step (State.answer_only ..) rfl ?_
    exact (Only.refl _ _)
  · extract_lets +onlyGivenNames x1
    refine Only.ite ?_ ?_
    · extract_lets +onlyGivenNames x2
      refine Only.keep x2 ?_ ?_
      · unfold x2
        refine Only.step (State.addItem_only ..) rfl ?_
        exact (Only.refl _ _)
      intro h1
      clear_value x2
      refine Only.ite ?_ ?_
      · refine Only.step (State.useRing_only ..) rfl ?_
        exact h1
      · exact h1
    · refine Only.step (State.endRing_only ..) rfl ?_
      exact (Only.refl _ _)

theorem State.ringX_only (a0 : _) (a1 : _) (a2 : _) :
    Only [.cave, .host, .sent] a0 (State.ringX a0 a1 a2) := by
  unfold State.ringX
  refine Only.step (State.fillWins_only ..) rfl ?_
  refine Only.step (State.modCave_only ..) rfl ?_
  exact (Only.refl _ _)

theorem State.rootLost_only (a0 : _) :
    Only [.rind] a0 (State.rootLost a0) := by
  unfold State.rootLost
  refine Only.step (State.modRind_only ..) rfl ?_
  exact (Only.refl _ _)

theorem State.tagZeroise_only (a0 : _) :
    Only [.nfc] a0 (State.tagZeroise a0) := by
  unfold State.tagZeroise
  extract_lets +onlyGivenNames x1
  refine Only.step (State.modNfc_only ..) rfl ?_
  exact (Only.refl _ _)

theorem State.rootlessStart_only (a0 : _) :
    Only [.nfc, .keys] a0 (State.rootlessStart a0) := by
  unfold State.rootlessStart
  refine Only.ite ?_ ?_
  · exact (Only.refl _ _)
  · refine Only.step (State.tagZeroise_only ..) rfl ?_
    refine Only.step (State.clearVault_only ..) rfl ?_
    exact (Only.refl _ _)

theorem State.runRecord_only (a0 : _) :
    Only [.cave] a0 (State.runRecord a0) := by
  unfold State.runRecord
  extract_lets +onlyGivenNames x1
  refine Only.step (State.offer_only ..) rfl ?_
  refine Only.step (State.modCave_only ..) rfl ?_
  exact (Only.refl _ _)

theorem State.safeAnswer_only (a0 : _) (a1 : _) (a2 : _) (a3 : _) :
    Only [.sys, .sent, .saf] a0 (State.safeAnswer a0 a1 a2 a3) := by
  unfold State.safeAnswer
  extract_lets +onlyGivenNames x1
  extract_lets +onlyGivenNames x2
  refine Only.step (State.safeSend_only ..) rfl ?_
  refine Only.step (State.modSys_only ..) rfl ?_
  exact (Only.refl _ _)

theorem State.runSelftest_only (a0 : _) (a1 : _) (a2 : _) :
    Only [.ses, .sp, .sys, .cave, .host, .sent, .saf, .brk] a0 (State.runSelftest a0 a1 a2) := by
  unfold State.runSelftest
  extract_lets +onlyGivenNames x1
  refine Only.ite ?_ ?_
  · refine Only.step (State.answer_only ..) rfl ?_
    exact (Only.refl _ _)
  · refine Only.ite ?_ ?_
    · refine Only.step (State.answer_only ..) rfl ?_
      exact (Only.refl _ _)
    · refine Only.ite ?_ ?_
      · refine Only.step (State.safeAnswer_only ..) rfl ?_
        refine Only.step (State.startTest_only ..) rfl ?_
        refine Only.step (State.heartbeat_only ..) rfl ?_
        refine Only.step (State.askSafety_only ..) rfl ?_
        refine Only.step (State.accept_only ..) rfl ?_
        exact (Only.refl _ _)
      · refine Only.step (State.modSp_only ..) rfl ?_
        refine Only.step (State.accept_only ..) rfl ?_
        exact (Only.refl _ _)

theorem State.safetyProven_only (a0 : _) :
    Only [.msh, .host, .fw, .keys, .sent, .chn] a0 (State.safetyProven a0) := by
  unfold State.safetyProven
  extract_lets +onlyGivenNames x1
  refine Only.keep x1 ?_ ?_
  · unfold x1
    refine Only.step (State.passTrial_only ..) rfl ?_
    refine Only.step (State.modKeys_only ..) rfl ?_
    exact (Only.refl _ _)
  intro h1
  clear_value x1
  refine Only.ite ?_ ?_
  · refine Only.step (State.activated_only ..) rfl ?_
    exact h1
  · exact h1

theorem State.safetyUnproven_only (a0 : _) :
    Only [.msh, .host, .fw, .sent, .chn] a0 (State.safetyUnproven a0) := by
  unfold State.safetyUnproven
  refine Only.ite ?_ ?_
  · refine Only.step (State.actEnd_only ..) rfl ?_
    exact (Only.refl _ _)
  · exact (Only.refl _ _)

theorem State.tamperX_only (a0 : _) (a1 : _) (a2 : _) (a3 : _) :
    Only [.jnl, .host, .pq, .sent] a0 (State.tamperX a0 a1 a2 a3) := by
  unfold State.tamperX
  refine Only.ite ?_ ?_
  · exact (Only.refl _ _)
  · extract_lets +onlyGivenNames x1
    refine Only.ite ?_ ?_
    · extract_lets +onlyGivenNames x2
      refine Only.keep x2 ?_ ?_
      · unfold x2
        refine Only.ite ?_ ?_
        · refine Only.step (State.modPq_only ..) rfl ?_
          refine Only.step (State.acUnitEnd_only ..) rfl ?_
          exact (Only.refl _ _)
        · exact (Only.refl _ _)
      intro h1
      clear_value x2
      refine Only.step (State.modPq_only ..) rfl ?_
      exact h1
    · extract_lets +onlyGivenNames x3
      refine Only.keep x3 ?_ ?_
      · unfold x3
        refine Only.ite ?_ ?_
        · refine Only.step (State.modPq_only ..) rfl ?_
          refine Only.step (State.dcUnitEnd_only ..) rfl ?_
          exact (Only.refl _ _)
        · exact (Only.refl _ _)
      intro h2
      clear_value x3
      refine Only.step (State.modPq_only ..) rfl ?_
      exact h2

theorem State.sampleX_only (a0 : _) (a1 : _) (a2 : _) (a3 : _) (a4 : _) :
    Only [.jnl, .met, .host, .pq, .legal, .sent, .bil, .nrg] a0 (State.sampleX a0 a1 a2 a3 a4) := by
  unfold State.sampleX
  extract_lets +onlyGivenNames x1
  extract_lets +onlyGivenNames x2
  refine Only.keep x2 ?_ ?_
  · unfold x2
    refine Only.step (State.modMet_only ..) rfl ?_
    exact (Only.refl _ _)
  intro h1
  clear_value x2
  extract_lets +onlyGivenNames x3
  refine Only.keep x3 ?_ ?_
  · unfold x3
    refine Only.ite ?_ ?_
    · refine Only.step (State.metRaise_only ..) rfl ?_
      exact h1
    · exact h1
  intro h2
  clear_value x3
  refine Only.step (State.tamperX_only ..) rfl ?_
  refine Only.step (State.pqPort_only ..) rfl ?_
  refine Only.step (State.energyX_only ..) rfl ?_
  refine Only.step (State.lineX_only ..) rfl ?_
  exact h2

theorem State.tagSays_only (a0 : _) (a1 : _) :
    Only [.sent] a0 (State.tagSays a0 a1) := by
  unfold State.tagSays
  refine Only.step (State.emit_only ..) rfl ?_
  exact (Only.refl _ _)

theorem State.selected_only {ps : List Part} {s t : State} {f : State → State} (w : within [.sent] ps = true)
    (k : ∀ u, Only ps s u → Only ps s (f u)) (q : Only ps s t) : Only ps s (t.selected f) := by
  unfold State.selected
  split
  · exact q
  split
  · exact Only.step (State.tagSays_only ..) w q
  · exact k _ q

theorem State.sendAdvice_only (a0 : _) (a1 : _) (a2 : _) (a3 : _) :
    Only [.msh, .sent, .chn] a0 (State.sendAdvice a0 a1 a2 a3) := by
  unfold State.sendAdvice
  refine Only.step (State.originate_only ..) rfl ?_
  exact (Only.refl _ _)

theorem State.sendChanges_only (a0 : _) :
    Only [.sp, .sent, .saf] a0 (State.sendChanges a0) := by
  unfold State.sendChanges
  refine Only.each (fun a1x u1 h1 => ?_) ?_
  · refine Only.whenB (fun u2 h2 => ?_) ?_
    · refine Only.step (State.portMsg_only ..) rfl ?_
      exact h2
    · exact h1
  · refine Only.whenB (fun u3 h3 => ?_) ?_
    · refine Only.step (State.siteMsg_only ..) rfl ?_
      exact h3
    · exact (Only.refl _ _)

theorem State.sendCopy_only (a0 : _) (a1 : _) (a2 : _) (a3 : _) (a4 : _) :
    Only [.pm, .sent, .pwr] a0 (State.sendCopy a0 a1 a2 a3 a4) := by
  unfold State.sendCopy
  extract_lets +onlyGivenNames x1
  refine Only.step (State.modPmLink_only ..) rfl ?_
  refine Only.step (State.modPwr_only ..) rfl ?_
  refine Only.step (State.pmSend_only ..) rfl ?_
  exact (Only.refl _ _)

theorem State.sendLocal_only (a0 : _) (a1 : _) (a2 : _) :
    Only [.sent, .chn] a0 (State.sendLocal a0 a1 a2) := by
  unfold State.sendLocal
  extract_lets +onlyGivenNames x1
  refine Only.ite ?_ ?_
  · refine Only.step (State.emit_only ..) rfl ?_
    refine Only.step (State.modChLink_only ..) rfl ?_
    exact (Only.refl _ _)
  · exact (Only.refl _ _)

theorem State.sendTable_only (a0 : _) :
    Only [.msh, .sent, .chn] a0 (State.sendTable a0) := by
  unfold State.sendTable
  refine Only.foldl (fun u1 a1x h1 => ?_) ?_
  · refine Only.step (State.originate_only ..) rfl ?_
    exact h1
  · exact (Only.refl _ _)

theorem State.setKeySes_only (a0 : _) (a1 : _) (a2 : _) (a3 : _) :
    Only [.keys] a0 (State.setKeySes a0 a1 a2 a3) := by
  unfold State.setKeySes
  refine Only.step (State.modKeys_only ..) rfl ?_
  exact (Only.refl _ _)

theorem State.setTref_only (a0 : _) (a1 : _) :
    Only [.sys, .host, .sent] a0 (State.setTref a0 a1) := by
  unfold State.setTref
  extract_lets +onlyGivenNames x1
  refine Only.keep x1 ?_ ?_
  · unfold x1
    refine Only.step (State.modTref_only ..) rfl ?_
    exact (Only.refl _ _)
  intro h1
  clear_value x1
  refine Only.ite ?_ ?_
  · exact h1
  · refine Only.step (State.sysChanged_only ..) rfl ?_
    exact h1

theorem State.shipRestore_only (a0 : _) :
    Only [.rind] a0 (State.shipRestore a0) := by
  unfold State.shipRestore
  refine Only.ite ?_ ?_
  · extract_lets +onlyGivenNames x1
    refine Only.keep x1 ?_ ?_
    · unfold x1
      refine Only.step (State.modRind_only ..) rfl ?_
      exact (Only.refl _ _)
    intro h1
    clear_value x1
    refine Only.ite ?_ ?_
    · refine Only.step (State.modRind_only ..) rfl ?_
      refine Only.step (State.rootLost_only ..) rfl ?_
      exact h1
    · exact h1
  · exact (Only.refl _ _)

theorem State.spans_only (a0 : _) (a1 : _) (a2 : _) (a3 : _) :
    Only [.cave] a0 (State.spans a0 a1 a2 a3) := by
  unfold State.spans
  extract_lets +onlyGivenNames x1
  refine Only.keep x1 ?_ ?_
  · unfold x1
    refine Only.foldl (fun u1 a1x h1 => ?_) ?_
    · refine Only.step (State.takeSpan_only ..) rfl ?_
      exact h1
    · exact (Only.refl _ _)
  intro h2
  clear_value x1
  refine Only.ite ?_ ?_
  · exact h2
  · refine Only.step (State.endAbsence_only ..) rfl ?_
    exact h2

theorem State.startRestart_only (a0 : _) (a1 : _) (a2 : _) :
    Only [.ses, .sp, .cave, .host, .sent, .saf, .brk] a0 (State.startRestart a0 a1 a2) := by
  unfold State.startRestart
  extract_lets +onlyGivenNames x1
  refine Only.keep x1 ?_ ?_
  · unfold x1
    refine Only.step (State.modSaf_only ..) rfl ?_
    exact (Only.refl _ _)
  intro h1
  clear_value x1
  split
  · refine Only.step (State.siteTo_only ..) rfl ?_
    refine Only.step (State.modSaf_only ..) rfl ?_
    exact h1
  · exact h1

theorem State.startWin_only (a0 : _) (a1 : _) (a2 : _) :
    Only [.cave, .host, .sent] a0 (State.startWin a0 a1 a2).1 := by
  unfold State.startWin
  dsimp only
  repeat' split
  all_goals dsimp only
  · exact Only.refl _ _
  · exact (State.modCave_only ..).mono rfl
  · exact (State.modCave_only ..).mono rfl
  · exact Only.foldl (fun u k h => Only.step (State.winBlocks_only ..) rfl h) ((State.modCave_only ..).mono rfl)

theorem State.stepApplied_only (a0 : _) (a1 : _) (a2 : _) :
    Only [.sent, .pwr] a0 (State.stepApplied a0 a1 a2) := by
  unfold State.stepApplied
  extract_lets +onlyGivenNames x1
  split
  · exact (Only.refl _ _)
  · refine Only.step (State.emit_only ..) rfl ?_
    refine Only.step (State.modPwr_only ..) rfl ?_
    exact (Only.refl _ _)

theorem State.storeRec_only (a0 : _) (a1 : _) :
    Only [.cave] a0 (State.storeRec a0 a1) := by
  unfold State.storeRec
  extract_lets +onlyGivenNames x1
  refine Only.ite ?_ ?_
  · refine Only.step (State.setCave_only ..) rfl ?_
    refine Only.step (State.modCave_only ..) rfl ?_
    exact (Only.refl _ _)
  · extract_lets +onlyGivenNames x2
    refine Only.step (State.modCave_only ..) rfl ?_
    exact (Only.refl _ _)

theorem State.switchBank_only (a0 : _) (a1 : _) :
    Only [.fw] a0 (State.switchBank a0 a1) := by
  unfold State.switchBank
  refine Only.step (State.modFw_only ..) rfl ?_
  exact (Only.refl _ _)

theorem State.swapLegal_only (a0 : _) :
    Only [.fw, .keys, .legal] a0 (State.swapLegal a0) := by
  unfold State.swapLegal
  extract_lets +onlyGivenNames x1
  extract_lets +onlyGivenNames x2
  refine Only.keep x2 ?_ ?_
  · unfold x2
    refine Only.step (State.modKeys_only ..) rfl ?_
    refine Only.step (State.modFw_only ..) rfl ?_
    refine Only.step (State.switchBank_only ..) rfl ?_
    exact (Only.refl _ _)
  intro h1
  clear_value x2
  refine Only.ite ?_ ?_
  · refine Only.step (State.modLegal_only ..) rfl ?_
    exact h1
  · refine Only.step (State.passTrial_only ..) rfl ?_
    exact h1

theorem State.systemItem_only (a0 : _) (a1 : _) :
    Only [.jnl, .msh, .host, .conf, .sent, .chn] a0 (State.systemItem a0 a1) := by
  unfold State.systemItem
  refine Only.step (State.plainItem_only ..) rfl ?_
  exact (Only.refl _ _)

theorem State.takeGeometry_only (a0 : _) :
    Only [.dsp, .free] a0 (State.takeGeometry a0) := by
  unfold State.takeGeometry
  extract_lets +onlyGivenNames x1
  refine Only.ite ?_ ?_
  · exact (Only.refl _ _)
  · extract_lets +onlyGivenNames x2
    extract_lets +onlyGivenNames x3
    extract_lets +onlyGivenNames x4
    extract_lets +onlyGivenNames x5
    refine Only.keep x5 ?_ ?_
    · unfold x5
      refine Only.step (State.modDsp_only ..) rfl ?_
      exact (Only.refl _ _)
    intro h1
    clear_value x5
    refine Only.step (State.dspRaise_only ..) rfl ?_
    refine Only.ite ?_ ?_
    · refine Only.step (State.modFree_only ..) rfl ?_
      exact h1
    · exact h1

theorem State.voidLegal_only (a0 : _) :
    Only [.jnl, .met, .host, .pq, .legal, .sent, .bil, .nrg] a0 (State.voidLegal a0) := by
  unfold State.voidLegal
  refine Only.ite ?_ ?_
  · exact (Only.refl _ _)
  · extract_lets +onlyGivenNames x1
    refine Only.keep x1 ?_ ?_
    · unfold x1
      refine Only.ite ?_ ?_
      · refine Only.step (State.stopAllBilled_only ..) rfl ?_
        exact (Only.refl _ _)
      · exact (Only.refl _ _)
    intro h1
    clear_value x1
    extract_lets +onlyGivenNames x2
    refine Only.keep x2 ?_ ?_
    · unfold x2
      refine Only.each (fun a1x u1 h2 => ?_) ?_
      · refine Only.step (State.modBil_only ..) rfl ?_
        refine Only.step (State.modNrg_only ..) rfl ?_
        refine Only.step (State.discardCal_only ..) rfl ?_
        exact h2
      · exact h1
    intro h3
    clear_value x2
    extract_lets +onlyGivenNames x3
    extract_lets +onlyGivenNames x4
    refine Only.keep x4 ?_ ?_
    · unfold x4
      refine Only.step (State.modLegal_only ..) rfl ?_
      refine Only.each (fun a2x u2 h4 => ?_) ?_
      · refine Only.step (State.modPq_only ..) rfl ?_
        exact h4
      · exact h3
    intro h5
    clear_value x4
    extract_lets +onlyGivenNames x5
    refine Only.keep x5 ?_ ?_
    · unfold x5
      refine Only.each (fun a3x u3 h6 => ?_) ?_
      · refine Only.step (State.finalOpt_only ..) rfl ?_
        refine Only.step (State.modInput_only ..) rfl ?_
        exact h6
      · exact h5
    intro h7
    clear_value x5
    refine Only.step (State.irqAll_only ..) rfl ?_
    refine Only.step (State.modLegal_only ..) rfl ?_
    exact h7

theorem State.zeroise_only (a0 : _) :
    Only [.jnl, .nfc, .met, .host, .veh, .pq, .keys, .legal, .sent, .bil, .nrg, .rind] a0 (State.zeroise a0) := by
  unfold State.zeroise
  refine Only.step (State.tagZeroise_only ..) rfl ?_
  refine Only.step (State.voidLegal_only ..) rfl ?_
  refine Only.step (State.keyRaise_only ..) rfl ?_
  refine Only.step (State.dropTls_only ..) rfl ?_
  refine Only.step (State.clearVault_only ..) rfl ?_
  refine Only.step (State.rootLost_only ..) rfl ?_
  exact (Only.refl _ _)

theorem State.tamperEvent_only (a0 : _) (a1 : _) :
    Only [.jnl, .nfc, .met, .host, .veh, .pq, .keys, .legal, .sent, .bil, .nrg, .rind] a0 (State.tamperEvent a0 a1) := by
  unfold State.tamperEvent
  refine Only.ite ?_ ?_
  · exact (Only.refl _ _)
  · extract_lets +onlyGivenNames x1
    extract_lets +onlyGivenNames x2
    refine Only.keep x2 ?_ ?_
    · unfold x2
      refine Only.step (State.modRind_only ..) rfl ?_
      exact (Only.refl _ _)
    intro h1
    clear_value x2
    extract_lets +onlyGivenNames x3
    refine Only.keep x3 ?_ ?_
    · unfold x3
      refine Only.step (State.auditRind_only ..) rfl ?_
      exact h1
    intro h2
    clear_value x3
    refine Only.ite ?_ ?_
    · exact h2
    · refine Only.ite ?_ ?_
      · refine Only.step (State.rootLost_only ..) rfl ?_
        exact h2
      · refine Only.step (State.zeroise_only ..) rfl ?_
        exact h2

theorem State.tamperSample_only (a0 : _) (a1 : _) (a2 : _) :
    Only [.jnl, .nfc, .met, .host, .veh, .pq, .keys, .legal, .sent, .bil, .nrg, .rind] a0 (State.tamperSample a0 a1 a2) := by
  unfold State.tamperSample
  refine Only.ite ?_ ?_
  · refine Only.step (State.modRind_only ..) rfl ?_
    exact (Only.refl _ _)
  · extract_lets +onlyGivenNames x1
    extract_lets +onlyGivenNames x2
    refine Only.keep x2 ?_ ?_
    · unfold x2
      refine Only.step (State.modRind_only ..) rfl ?_
      exact (Only.refl _ _)
    intro h1
    clear_value x2
    refine Only.ite ?_ ?_
    · refine Only.step (State.tamperEvent_only ..) rfl ?_
      exact h1
    · exact h1

theorem State.tickCounters_only (a0 : _) :
    Only [.host, .sent] a0 (State.tickCounters a0) := by
  unfold State.tickCounters
  refine Only.each (fun a1x u1 h1 => ?_) ?_
  · refine Only.step (State.count_only ..) rfl ?_
    exact h1
  · exact (Only.refl _ _)

theorem State.tickChain_only (a0 : _) :
    Only [.sys, .time, .chn] a0 (State.tickChain a0) := by
  unfold State.tickChain
  extract_lets +onlyGivenNames x1
  extract_lets +onlyGivenNames x2
  refine Only.step (State.modTime_only ..) rfl ?_
  refine Only.step (State.modTref_only ..) rfl ?_
  refine Only.step (State.modChn_only ..) rfl ?_
  exact (Only.refl _ _)

theorem State.tick_only (a0 : _) :
    Only [.sys, .time, .host, .sent, .chn, .rind] a0 (State.tick a0) := by
  unfold State.tick
  extract_lets +onlyGivenNames x1
  refine Only.keep x1 ?_ ?_
  · unfold x1
    refine Only.step (State.modRind_only ..) rfl ?_
    exact (Only.refl _ _)
  intro h1
  clear_value x1
  refine Only.ite ?_ ?_
  · exact h1
  · extract_lets +onlyGivenNames x2
    refine Only.keep x2 ?_ ?_
    · unfold x2
      refine Only.step (State.modTime_only ..) rfl ?_
      exact h1
    intro h2
    clear_value x2
    refine Only.step (State.tickCounters_only ..) rfl ?_
    refine Only.step (State.tickChain_only ..) rfl ?_
    exact h2

theorem State.toSafety_only (a0 : _) (a1 : _) (a2 : _) :
    Only [.sp] a0 (State.toSafety a0 a1 a2) := by
  unfold State.toSafety
  refine Only.ite ?_ ?_
  · exact (Only.refl _ _)
  · refine Only.step (State.modSp_only ..) rfl ?_
    exact (Only.refl _ _)

theorem State.tryCommit_only (a0 : _) :
    Only [.jnl, .msh, .host, .fw, .sent, .chn] a0 (State.tryCommit a0) := by
  unfold State.tryCommit
  extract_lets +onlyGivenNames x1
  extract_lets +onlyGivenNames x2
  extract_lets +onlyGivenNames x3
  extract_lets +onlyGivenNames x4
  extract_lets +onlyGivenNames x5
  refine Only.ite ?_ ?_
  · exact (Only.refl _ _)
  · extract_lets +onlyGivenNames x6
    extract_lets +onlyGivenNames x7
    refine Only.keep x7 ?_ ?_
    · unfold x7
      refine Only.step (State.originate_only ..) rfl ?_
      exact (Only.refl _ _)
    intro h1
    clear_value x7
    refine Only.ite ?_ ?_
    · refine Only.step (State.commitAct_only ..) rfl ?_
      exact h1
    · refine Only.step (State.actEnd_only ..) rfl ?_
      exact h1

theorem State.underVoltage_only (a0 : _) :
    Only [.ses, .sp, .cave, .host, .sent, .saf, .ls, .lk, .brk] a0 (State.underVoltage a0) := by
  unfold State.underVoltage
  refine Only.ite ?_ ?_
  · exact (Only.refl _ _)
  · extract_lets +onlyGivenNames x1
    refine Only.keep x1 ?_ ?_
    · unfold x1
      refine Only.step (State.lsRaise_only ..) rfl ?_
      refine Only.step (State.modLs_only ..) rfl ?_
      exact (Only.refl _ _)
    intro h1
    clear_value x1
    refine Only.each (fun a1x u1 h2 => ?_) ?_
    · refine Only.step (State.modLk_only ..) rfl ?_
      refine Only.step (State.endDrive_only ..) rfl ?_
      exact h2
    · refine Only.step (State.auxLost_only ..) rfl ?_
      exact h1

theorem State.updateStats_only (a0 : _) (a1 : _) :
    Only [.host, .veh, .free, .sent] a0 (State.updateStats a0 a1) := by
  unfold State.updateStats
  extract_lets +onlyGivenNames x1
  refine Only.ite ?_ ?_
  · exact (Only.refl _ _)
  · extract_lets +onlyGivenNames x2
    extract_lets +onlyGivenNames x3
    refine Only.step (State.countPort_only ..) rfl ?_
    refine Only.step (State.modVeh_only ..) rfl ?_
    refine Only.step (State.useFree_only ..) rfl ?_
    refine Only.step (State.useFree_only ..) rfl ?_
    refine Only.step (State.useFree_only ..) rfl ?_
    exact (Only.refl _ _)

theorem State.vault_only (a0 : _) (a1 : _) :
    Only [.keys] a0 (State.vault a0 a1) := by
  unfold State.vault
  refine Only.step (State.modKeys_only ..) rfl ?_
  exact (Only.refl _ _)

theorem State.vaultDone_only (a0 : _) (a1 : _) (a2 : _) (a3 : _) :
    Only [.keys] a0 (State.vaultDone a0 a1 a2 a3) := by
  unfold State.vaultDone
  refine Only.step (State.vault_only ..) rfl ?_
  exact (Only.refl _ _)

theorem State.vaultRefuse_only (a0 : _) (a1 : _) (a2 : _) (a3 : _) :
    Only [.keys] a0 (State.vaultRefuse a0 a1 a2 a3) := by
  unfold State.vaultRefuse
  refine Only.step (State.vault_only ..) rfl ?_
  exact (Only.refl _ _)

theorem State.vaultRing_only (a0 : _) (a1 : _) (a2 : _) (a3 : _) (a4 : _) (a5 : _) :
    Only [.keys] a0 (State.vaultRing a0 a1 a2 a3 a4 a5) := by
  unfold State.vaultRing
  refine Only.step (State.vault_only ..) rfl ?_
  exact (Only.refl _ _)

theorem State.verdict_only (a0 : _) (a1 : _) (a2 : _) (a3 : _) (a4 : _) :
    Only [.jnl, .sys, .host, .sent] a0 (State.verdict a0 a1 a2 a3 a4) := by
  unfold State.verdict
  split
  · refine Only.step (State.refuse_only ..) rfl ?_
    refine Only.step (State.violation_only ..) rfl ?_
    exact (Only.refl _ _)
  · refine Only.ite ?_ ?_
    · refine Only.step (State.refuse_only ..) rfl ?_
      exact (Only.refl _ _)
    · refine Only.ite ?_ ?_
      · refine Only.step (State.refuse_only ..) rfl ?_
        exact (Only.refl _ _)
      · refine Only.ite ?_ ?_
        · refine Only.step (State.refuse_only ..) rfl ?_
          exact (Only.refl _ _)
        · extract_lets +onlyGivenNames x1
          split
          · extract_lets +onlyGivenNames x2
            refine Only.keep x2 ?_ ?_
            · unfold x2
              refine Only.step (State.enrol_only ..) rfl ?_
              exact (Only.refl _ _)
            intro h1
            clear_value x2
            refine Only.ite ?_ ?_
            · refine Only.step (State.modH2d_only ..) rfl ?_
              refine Only.step (State.modGuest_only ..) rfl ?_
              exact h1
            · exact h1
          · extract_lets +onlyGivenNames x3
            refine Only.keep x3 ?_ ?_
            · unfold x3
              refine Only.whenB (fun u1 h2 => ?_) ?_
              · refine Only.step (State.ripenFor_only ..) rfl ?_
                exact h2
              · refine Only.step (State.refuse_only ..) rfl ?_
                exact (Only.refl _ _)
            intro h3
            clear_value x3
            refine Only.ite ?_ ?_
            · refine Only.step (State.startClocks_only ..) rfl ?_
              exact h3
            · exact h3

theorem State.voidSample_only (a0 : _) (a1 : _) :
    Only [.jnl, .met, .host, .pq, .legal, .sent, .bil, .nrg] a0 (State.voidSample a0 a1) := by
  unfold State.voidSample
  refine Only.step (State.closeEnded_only ..) rfl ?_
  refine Only.step (State.modLegal_only ..) rfl ?_
  refine Only.each (fun a1x u1 h1 => ?_) ?_
  · refine Only.ite ?_ ?_
    · refine Only.step (State.modNrg_only ..) rfl ?_
      exact h1
    · exact h1
  · exact (Only.refl _ _)

theorem State.withdraw_only (a0 : _) (a1 : _) :
    Only [.msh, .host, .fw, .sent, .chn] a0 (State.withdraw a0 a1) := by
  unfold State.withdraw
  extract_lets +onlyGivenNames x1
  refine Only.ite ?_ ?_
  · exact (Only.refl _ _)
  · refine Only.step (State.originate_only ..) rfl ?_
    refine Only.step (State.dropProposal_only ..) rfl ?_
    exact (Only.refl _ _)

theorem State.withdrawFrom_only (a0 : _) (a1 : _) (a2 : _) :
    Only [.host, .sent] a0 (State.withdrawFrom a0 a1 a2) := by
  unfold State.withdrawFrom
  extract_lets +onlyGivenNames x1
  extract_lets +onlyGivenNames x2
  extract_lets +onlyGivenNames x3
  extract_lets +onlyGivenNames x4
  refine Only.keep x4 ?_ ?_
  · unfold x4
    refine Only.step (State.modGuest_only ..) rfl ?_
    exact (Only.refl _ _)
  intro h1
  clear_value x4
  refine Only.ite ?_ ?_
  · exact h1
  · refine Only.step (State.count_only ..) rfl ?_
    exact h1

theorem State.withdrawRelease_only (a0 : _) (a1 : _) :
    Only [.host, .brk] a0 (State.withdrawRelease a0 a1) := by
  unfold State.withdrawRelease
  extract_lets +onlyGivenNames x1
  refine Only.ite ?_ ?_
  · refine Only.step (State.testNotice_only ..) rfl ?_
    refine Only.step (State.modBrk_only ..) rfl ?_
    exact (Only.refl _ _)
  · exact (Only.refl _ _)

theorem State.writeAck_only (a0 : _) :
    Only [.jnl] a0 (State.writeAck a0) := by
  unfold State.writeAck
  refine Only.ite ?_ ?_
  · refine Only.step (State.putAck_only ..) rfl ?_
    exact (Only.refl _ _)
  · exact (Only.refl _ _)

theorem State.writeMbx_only (a0 : _) (a1 : _) (a2 : _) (a3 : _) (a4 : _) (a5 : _) (a6 : _) :
    Only [.host, .free] a0 (State.writeMbx a0 a1 a2 a3 a4 a5 a6) := by
  unfold State.writeMbx
  extract_lets +onlyGivenNames x1
  split
  · extract_lets +onlyGivenNames x2
    refine Only.ite ?_ ?_
    · refine Only.step (State.modH2d_only ..) rfl ?_
      refine Only.step (State.useFree_only ..) rfl ?_
      exact (Only.refl _ _)
    · refine Only.step (State.modH2d_only ..) rfl ?_
      exact (Only.refl _ _)
  · refine Only.ite ?_ ?_
    · extract_lets +onlyGivenNames x3
      extract_lets +onlyGivenNames x4
      refine Only.keep x4 ?_ ?_
      · unfold x4
        refine Only.ite ?_ ?_
        · refine Only.step (State.modH2d_only ..) rfl ?_
          exact (Only.refl _ _)
        · exact (Only.refl _ _)
      intro h1
      clear_value x4
      refine Only.ite ?_ ?_
      · refine Only.step (State.modH2d_only ..) rfl ?_
        exact h1
      · exact h1
    · exact (Only.refl _ _)

theorem State.writePfcCtrl_only (a0 : _) (a1 : _) (a2 : _) (a3 : _) :
    Only [.host] a0 (State.writePfcCtrl a0 a1 a2 a3) := by
  unfold State.writePfcCtrl
  extract_lets +onlyGivenNames x1
  extract_lets +onlyGivenNames x2
  extract_lets +onlyGivenNames x3
  extract_lets +onlyGivenNames x4
  refine Only.keep x4 ?_ ?_
  · unfold x4
    refine Only.step (State.modPfc_only ..) rfl ?_
    exact (Only.refl _ _)
  intro h1
  clear_value x4
  extract_lets +onlyGivenNames x5
  refine Only.keep x5 ?_ ?_
  · unfold x5
    refine Only.ite ?_ ?_
    · refine Only.step (State.modPfc_only ..) rfl ?_
      exact h1
    · exact h1
  intro h2
  clear_value x5
  refine Only.ite ?_ ?_
  · refine Only.step (State.modPfc_only ..) rfl ?_
    refine Only.step (State.modHost_only ..) rfl ?_
    exact h2
  · exact h2

theorem State.writeRing_only (a0 : _) (a1 : _) (a2 : _) (a3 : _) (a4 : _) (a5 : _) :
    Only [.host, .free] a0 (State.writeRing a0 a1 a2 a3 a4 a5) := by
  unfold State.writeRing
  extract_lets +onlyGivenNames x1
  extract_lets +onlyGivenNames x2
  extract_lets +onlyGivenNames x3
  refine Only.ite ?_ ?_
  · extract_lets +onlyGivenNames x4
    refine Only.ite ?_ ?_
    · dsimp only [x2]
      refine Only.step (State.modGuest_only ..) rfl ?_
      refine Only.step (State.useFree_only ..) rfl ?_
      exact (Only.refl _ _)
    · dsimp only [x2]
      refine Only.step (State.modGuest_only ..) rfl ?_
      exact (Only.refl _ _)
  · refine Only.ite ?_ ?_
    · extract_lets +onlyGivenNames x5
      refine Only.ite ?_ ?_
      · dsimp only [x2]
        refine Only.step (State.modGuest_only ..) rfl ?_
        refine Only.step (State.useFree_only ..) rfl ?_
        exact (Only.refl _ _)
      · dsimp only [x2]
        refine Only.step (State.modGuest_only ..) rfl ?_
        exact (Only.refl _ _)
    · refine Only.ite ?_ ?_
      · extract_lets +onlyGivenNames x6
        extract_lets +onlyGivenNames x7
        refine Only.ite ?_ ?_
        · dsimp only [x2]
          refine Only.step (State.modGuest_only ..) rfl ?_
          refine Only.step (State.useFree_only ..) rfl ?_
          exact (Only.refl _ _)
        · dsimp only [x2]
          refine Only.step (State.modGuest_only ..) rfl ?_
          exact (Only.refl _ _)
      · dsimp only [x2]
        refine Only.step (State.modGuest_only ..) rfl ?_
        exact (Only.refl _ _)

theorem State.writeReg_only (a0 : _) (a1 : _) (a2 : _) (a3 : _) (a4 : _) (a5 : _) :
    Only [.host, .free, .sent] a0 (State.writeReg a0 a1 a2 a3 a4 a5) := by
  unfold State.writeReg
  extract_lets +onlyGivenNames x1
  refine Only.ite ?_ ?_
  · refine Only.step (State.modGuest_only ..) rfl ?_
    exact (Only.refl _ _)
  · refine Only.ite ?_ ?_
    · refine Only.step (State.setIrq_only ..) rfl ?_
      exact (Only.refl _ _)
    · refine Only.ite ?_ ?_
      · refine Only.step (State.setIrq_only ..) rfl ?_
        exact (Only.refl _ _)
      · refine Only.ite ?_ ?_
        · refine Only.step (State.setIrq_only ..) rfl ?_
          exact (Only.refl _ _)
        · refine Only.dite (fun _ => ?_) fun _ => ?_
          · refine Only.step (State.setIrq_only ..) rfl ?_
            exact (Only.refl _ _)
          · refine Only.ite ?_ ?_
            · refine Only.step (State.writeMbx_only ..) rfl ?_
              exact (Only.refl _ _)
            · refine Only.ite ?_ ?_
              · refine Only.ite ?_ ?_
                · refine Only.step (State.count_only ..) rfl ?_
                  refine Only.step (State.modGuest_only ..) rfl ?_
                  exact (Only.refl _ _)
                · exact (Only.refl _ _)
              · refine Only.ite ?_ ?_
                · refine Only.step (State.modGuest_only ..) rfl ?_
                  exact (Only.refl _ _)
                · refine Only.ite ?_ ?_
                  · refine Only.step (State.writeRing_only ..) rfl ?_
                    exact (Only.refl _ _)
                  · refine Only.dite (fun _ => ?_) fun _ => ?_
                    · refine Only.step (State.modPfc_only ..) rfl ?_
                      exact (Only.refl _ _)
                    · refine Only.dite (fun _ => ?_) fun _ => ?_
                      · refine Only.step (State.modPfc_only ..) rfl ?_
                        exact (Only.refl _ _)
                      · refine Only.ite ?_ ?_
                        · refine Only.step (State.writePfcCtrl_only ..) rfl ?_
                          exact (Only.refl _ _)
                        · refine Only.ite ?_ ?_
                          · refine Only.step (State.modPfc_only ..) rfl ?_
                            exact (Only.refl _ _)
                          · refine Only.ite ?_ ?_
                            · refine Only.step (State.modPfc_only ..) rfl ?_
                              exact (Only.refl _ _)
                            · refine Only.ite ?_ ?_
                              · refine Only.ite ?_ ?_
                                · refine Only.step (State.modGuest_only ..) rfl ?_
                                  exact (Only.refl _ _)
                                · exact (Only.refl _ _)
                              · exact (Only.refl _ _)

end Sys2Proof.Machine
end

