-- ==== Sys2Proof/Laws/CommandFrames.lean ====
section
/-! SUPPORT. What each command may change: one lemma a command. -/

namespace Sys2Proof.Machine

theorem execAbortCalibration_only (a0 : _) (a1 : _) :
    OnlyRes [.met, .host] a1 (execAbortCalibration a0 a1) := by
  unfold execAbortCalibration
  refine OnlyRes.next ?_
  refine State.unlessVoid_only rfl (fun u1 h1 => ?_) ?_
  · refine Only.ite ?_ ?_
    · refine Only.step (State.answer_only ..) rfl ?_
      exact h1
    · refine Only.step (State.answer_only ..) rfl ?_
      refine Only.step (State.discardCal_only ..) rfl ?_
      exact h1
  · exact (Only.refl _ _)

theorem execAbortConfig_only (a0 : _) (a1 : _) :
    OnlyRes [.host, .conf] a1 (execAbortConfig a0 a1) := by
  unfold execAbortConfig
  refine OnlyRes.next ?_
  refine Only.ite ?_ ?_
  · refine Only.step (State.answer_only ..) rfl ?_
    exact (Only.refl _ _)
  · refine Only.step (State.answer_only ..) rfl ?_
    refine Only.step (State.setOpen_only ..) rfl ?_
    exact (Only.refl _ _)

theorem execAbortStaging_only (a0 : _) (a1 : _) :
    OnlyRes [.host, .fw] a1 (execAbortStaging a0 a1) := by
  unfold execAbortStaging
  extract_lets +onlyGivenNames x1
  extract_lets +onlyGivenNames x2
  refine OnlyRes.next ?_
  refine Only.ite ?_ ?_
  · refine Only.ite ?_ ?_
    · refine Only.step (State.answer_only ..) rfl ?_
      exact (Only.refl _ _)
    · refine Only.step (State.answer_only ..) rfl ?_
      exact (Only.refl _ _)
  · refine Only.ite ?_ ?_
    · refine Only.step (State.answer_only ..) rfl ?_
      exact (Only.refl _ _)
    · refine Only.step (State.answer_only ..) rfl ?_
      refine Only.step (State.stgCancel_only ..) rfl ?_
      exact (Only.refl _ _)

theorem execAcceptTrefPhase_only (a0 : _) (a1 : _) :
    OnlyRes [.sys, .host, .sent] a1 (execAcceptTrefPhase a0 a1) := by
  unfold execAcceptTrefPhase
  extract_lets +onlyGivenNames x1
  refine OnlyRes.next ?_
  refine Only.ite ?_ ?_
  · refine Only.step (State.answer_only ..) rfl ?_
    exact (Only.refl _ _)
  · split
    · refine Only.ite ?_ ?_
      · refine Only.step (State.answer_only ..) rfl ?_
        exact (Only.refl _ _)
      · refine Only.step (State.answer_only ..) rfl ?_
        refine Only.step (State.setTref_only ..) rfl ?_
        exact (Only.refl _ _)
    · refine Only.step (State.answer_only ..) rfl ?_
      exact (Only.refl _ _)

theorem execAccessViolation_only (a0 : _) (a1 : _) (a2 : _) (a3 : _) (a4 : _) (a5 : _) (a6 : _) :
    OnlyRes [.sys, .msh, .host, .sent, .chn] a6 (execAccessViolation a0 a1 a2 a3 a4 a5 a6) := by
  unfold execAccessViolation
  refine OnlyRes.next ?_
  refine Only.ite ?_ ?_
  · refine State.access_only rfl (fun u1 h1 => ?_) ?_
    · exact h1
    · exact (Only.refl _ _)
  · exact (Only.refl _ _)

theorem execActCommit_only (a0 : _) (a1 : _) (a2 : _) :
    OnlyRes [.jnl, .msh, .host, .fw, .free, .sent, .chn] a2 (execActCommit a0 a1 a2) := by
  unfold execActCommit
  refine OnlyRes.next ?_
  refine State.chainRx_only rfl (fun u1 h1 => ?_) ?_
  · refine Only.step (State.eatCommit_only ..) rfl ?_
    exact h1
  · exact (Only.refl _ _)

theorem execActPropose_only (a0 : _) (a1 : _) (a2 : _) :
    OnlyRes [.msh, .host, .fw, .free, .sent, .chn] a2 (execActPropose a0 a1 a2) := by
  unfold execActPropose
  refine OnlyRes.next ?_
  refine State.chainRx_only rfl (fun u1 h1 => ?_) ?_
  · refine Only.step (State.eatPropose_only ..) rfl ?_
    exact h1
  · exact (Only.refl _ _)

theorem execActQuery_only (a0 : _) (a1 : _) (a2 : _) (a3 : _) :
    OnlyRes [.jnl, .msh, .host, .fw, .free, .sent, .chn] a3 (execActQuery a0 a1 a2 a3) := by
  unfold execActQuery
  refine OnlyRes.next ?_
  refine State.chainRx_only rfl (fun u1 h1 => ?_) ?_
  · refine Only.step (State.eatQuery_only ..) rfl ?_
    exact h1
  · exact (Only.refl _ _)

theorem execActivationTime_only (a0 : _) (a1 : _) :
    OnlyRes [.ses, .sp, .cave, .msh, .host, .fw, .keys, .legal, .sent, .saf, .chn, .brk] a1 (execActivationTime a0 a1) := by
  unfold execActivationTime
  extract_lets +onlyGivenNames x1
  refine OnlyRes.next ?_
  refine Only.ite ?_ ?_
  · exact (Only.refl _ _)
  · refine Only.ite ?_ ?_
    · refine Only.step (State.actEnd_only ..) rfl ?_
      exact (Only.refl _ _)
    · refine Only.ite ?_ ?_
      · refine Only.step (State.actEnd_only ..) rfl ?_
        exact (Only.refl _ _)
      · refine Only.ite ?_ ?_
        · refine Only.step (State.actEnd_only ..) rfl ?_
          exact (Only.refl _ _)
        · split
          · refine Only.step (State.modAct_only ..) rfl ?_
            exact (Only.refl _ _)
          · refine Only.ite ?_ ?_
            · exact (Only.refl _ _)
            · refine Only.step (State.activated_only ..) rfl ?_
              refine Only.step (State.swapLegal_only ..) rfl ?_
              exact (Only.refl _ _)
          · refine Only.ite ?_ ?_
            · refine Only.step (State.activated_only ..) rfl ?_
              refine Only.step (State.switchBank_only ..) rfl ?_
              exact (Only.refl _ _)
            · refine Only.step (State.siteTo_only ..) rfl ?_
              refine Only.step (State.switchBank_only ..) rfl ?_
              refine Only.step (State.modAct_only ..) rfl ?_
              exact (Only.refl _ _)

theorem execActivationWaitTimeout_only (a0 : _) :
    OnlyRes [.msh, .host, .fw, .sent, .chn] a0 (execActivationWaitTimeout a0) := by
  unfold execActivationWaitTimeout
  refine OnlyRes.next ?_
  refine Only.ite ?_ ?_
  · refine Only.step (State.withdraw_only ..) rfl ?_
    exact (Only.refl _ _)
  · exact (Only.refl _ _)

theorem execAddCredit_only (a0 : _) (a1 : _) :
    OnlyRes [.ses, .host, .bil] a1 (execAddCredit a0 a1) := by
  unfold execAddCredit
  extract_lets +onlyGivenNames x1
  extract_lets +onlyGivenNames x2
  extract_lets +onlyGivenNames x3
  refine OnlyRes.next ?_
  split
  · refine Only.step (State.answer_only ..) rfl ?_
    exact (Only.refl _ _)
  · refine Only.ite ?_ ?_
    · refine Only.step (State.answer_only ..) rfl ?_
      exact (Only.refl _ _)
    · refine Only.ite ?_ ?_
      · refine Only.step (State.answer_only ..) rfl ?_
        exact (Only.refl _ _)
      · extract_lets +onlyGivenNames x4
        extract_lets +onlyGivenNames x5
        extract_lets +onlyGivenNames x6
        extract_lets +onlyGivenNames x7
        extract_lets +onlyGivenNames x8
        refine Only.keep x8 ?_ ?_
        · unfold x8
          refine Only.step (State.modSes_only ..) rfl ?_
          refine Only.step (State.modBil_only ..) rfl ?_
          exact (Only.refl _ _)
        intro h1
        clear_value x8
        extract_lets +onlyGivenNames x9
        refine Only.step (State.answer_only ..) rfl ?_
        exact h1

theorem execAnswer_only (a0 : _) (a1 : _) (a2 : _) (a3 : _) :
    OnlyRes [.ses, .jnl, .sp, .sys, .pm, .cave, .nfc, .met, .msh, .host, .sl, .veh, .legal, .free, .lease, .conf, .sent, .pwr, .bil, .nrg, .saf, .chn, .ls, .lk, .brk] a3 (execAnswer a0 a1 a2 a3) := by
  unfold execAnswer
  refine OnlyRes.next ?_
  refine Only.ite ?_ ?_
  · exact (Only.refl _ _)
  · refine Only.ite ?_ ?_
    · extract_lets +onlyGivenNames x1
      refine Only.keep x1 ?_ ?_
      · unfold x1
        refine Only.step (State.modSes_only ..) rfl ?_
        exact (Only.refl _ _)
      intro h1
      clear_value x1
      refine Only.step (State.toSealing_only ..) rfl ?_
      refine Only.step (State.disable_only ..) rfl ?_
      refine Only.step (State.halt_only ..) rfl ?_
      exact h1
    · refine Only.ite ?_ ?_
      · refine Only.step (State.modSes_only ..) rfl ?_
        exact (Only.refl _ _)
      · exact (Only.refl _ _)

theorem execApplyBrake_only (a0 : _) (a1 : _) :
    OnlyRes [.host, .sent, .saf, .brk] a1 (execApplyBrake a0 a1) := by
  unfold execApplyBrake
  refine OnlyRes.next ?_
  refine Only.ite ?_ ?_
  · refine Only.step (State.answer_only ..) rfl ?_
    exact (Only.refl _ _)
  · split
    · refine Only.step (State.answer_only ..) rfl ?_
      exact (Only.refl _ _)
    · refine Only.step (State.answer_only ..) rfl ?_
      refine Only.step (State.applyBrake_only ..) rfl ?_
      refine Only.step (State.withdrawRelease_only ..) rfl ?_
      exact (Only.refl _ _)

theorem execAssign_only (a0 : _) (a1 : _) (a2 : _) (a3 : _) :
    OnlyRes [.msh, .host, .free, .sent, .chn] a3 (execAssign a0 a1 a2 a3) := by
  unfold execAssign
  refine OnlyRes.next ?_
  refine State.chainRx_only rfl (fun u1 h1 => ?_) ?_
  · refine Only.step (State.eatAssign_only ..) rfl ?_
    exact h1
  · exact (Only.refl _ _)

theorem execAuthTimeout_only (a0 : _) (a1 : _) :
    OnlyRes [.ses, .cave, .host, .veh, .sent] a1 (execAuthTimeout a0 a1) := by
  unfold execAuthTimeout
  refine OnlyRes.next ?_
  refine Only.ite ?_ ?_
  · refine Only.step (State.reject_only ..) rfl ?_
    refine Only.step (State.sesRaise_only ..) rfl ?_
    exact (Only.refl _ _)
  · exact (Only.refl _ _)

theorem execAuthoriseSession_only (a0 : _) (a1 : _) :
    OnlyRes [.ses, .sp, .sys, .pm, .cave, .host, .veh, .sent, .pwr, .lk] a1 (execAuthoriseSession a0 a1) := by
  unfold execAuthoriseSession
  extract_lets +onlyGivenNames x1
  extract_lets +onlyGivenNames x2
  extract_lets +onlyGivenNames x3
  refine OnlyRes.next ?_
  refine Only.ite ?_ ?_
  · refine Only.step (State.answer_only ..) rfl ?_
    exact (Only.refl _ _)
  · refine Only.ite ?_ ?_
    · refine Only.step (State.answer_only ..) rfl ?_
      exact (Only.refl _ _)
    · refine Only.ite ?_ ?_
      · refine Only.step (State.answer_only ..) rfl ?_
        exact (Only.refl _ _)
      · refine Only.ite ?_ ?_
        · refine Only.step (State.answer_only ..) rfl ?_
          exact (Only.refl _ _)
        · refine Only.ite ?_ ?_
          · refine Only.step (State.answer_only ..) rfl ?_
            refine Only.ite ?_ ?_
            · refine Only.step (State.reject_only ..) rfl ?_
              exact (Only.refl _ _)
            · exact (Only.refl _ _)
          · refine Only.ite ?_ ?_
            · refine Only.step (State.answer_only ..) rfl ?_
              exact (Only.refl _ _)
            · split
              · refine Only.step (State.answer_only ..) rfl ?_
                exact (Only.refl _ _)
              · refine Only.ite ?_ ?_
                · refine Only.step (State.openWith_only ..) rfl ?_
                  exact (Only.refl _ _)
                · refine Only.ite ?_ ?_
                  · refine Only.step (State.openWith_only ..) rfl ?_
                    refine Only.step (State.sesRaise_only ..) rfl ?_
                    refine Only.step (State.sesTo_only ..) rfl ?_
                    exact (Only.refl _ _)
                  · refine Only.step (State.answer_only ..) rfl ?_
                    refine Only.step (State.modSes_only ..) rfl ?_
                    exact (Only.refl _ _)

theorem execAuthorizationReq_only (a0 : _) (a1 : _) :
    OnlyRes [.ses, .sp, .sys, .pm, .cave, .host, .veh, .sent, .pwr, .lk] a1 (execAuthorizationReq a0 a1) := by
  unfold execAuthorizationReq
  refine OnlyRes.next ?_
  refine Only.ite ?_ ?_
  · exact (Only.refl _ _)
  · refine Only.ite ?_ ?_
    · refine Only.step (State.sayVehicle_only ..) rfl ?_
      exact (Only.refl _ _)
    · refine Only.step (State.identify_only ..) rfl ?_
      exact (Only.refl _ _)

theorem execBadChannelMessage_only (a0 : _) (a1 : _) :
    OnlyRes [.sys] a1 (execBadChannelMessage a0 a1) := by
  unfold execBadChannelMessage
  refine OnlyRes.next ?_
  refine Only.step (State.modSys_only ..) rfl ?_
  exact (Only.refl _ _)

theorem execBasicFallbackEnd_only (a0 : _) (a1 : _) :
    OnlyRes [.ses, .sp, .sys, .pm, .cave, .host, .veh, .sent, .pwr, .lk] a1 (execBasicFallbackEnd a0 a1) := by
  unfold execBasicFallbackEnd
  refine OnlyRes.next ?_
  refine Only.ite ?_ ?_
  · refine Only.step (State.toBasic_only ..) rfl ?_
    refine Only.step (State.modVeh_only ..) rfl ?_
    exact (Only.refl _ _)
  · exact (Only.refl _ _)

theorem execBatteryLoss_only (a0 : _) :
    OnlyRes [.rind] a0 (execBatteryLoss a0) := by
  unfold execBatteryLoss
  refine OnlyRes.next ?_
  refine Only.ite ?_ ?_
  · exact (Only.refl _ _)
  · refine Only.step (State.modRind_only ..) rfl ?_
    exact (Only.refl _ _)

theorem execBeginCalibration_only (a0 : _) (a1 : _) :
    OnlyRes [.met, .host] a1 (execBeginCalibration a0 a1) := by
  unfold execBeginCalibration
  refine OnlyRes.next ?_
  refine State.unlessVoid_only rfl (fun u1 h1 => ?_) ?_
  · extract_lets +onlyGivenNames x1
    refine Only.ite ?_ ?_
    · refine Only.step (State.answer_only ..) rfl ?_
      exact h1
    · refine Only.step (State.answer_only ..) rfl ?_
      refine Only.step (State.modMet_only ..) rfl ?_
      exact h1
  · exact (Only.refl _ _)

theorem execBeginConfig_only (a0 : _) (a1 : _) :
    OnlyRes [.host, .conf] a1 (execBeginConfig a0 a1) := by
  unfold execBeginConfig
  refine OnlyRes.next ?_
  refine Only.ite ?_ ?_
  · refine Only.step (State.answer_only ..) rfl ?_
    exact (Only.refl _ _)
  · refine Only.step (State.answer_only ..) rfl ?_
    refine Only.step (State.setOpen_only ..) rfl ?_
    exact (Only.refl _ _)

theorem execBeginStaging_only (a0 : _) (a1 : _) :
    OnlyRes [.host, .fw] a1 (execBeginStaging a0 a1) := by
  unfold execBeginStaging
  extract_lets +onlyGivenNames x1
  extract_lets +onlyGivenNames x2
  extract_lets +onlyGivenNames x3
  extract_lets +onlyGivenNames x4
  refine OnlyRes.next ?_
  refine Only.ite ?_ ?_
  · refine Only.step (State.answer_only ..) rfl ?_
    exact (Only.refl _ _)
  · refine Only.ite ?_ ?_
    · refine Only.step (State.answer_only ..) rfl ?_
      exact (Only.refl _ _)
    · split
      · refine Only.step (State.answer_only ..) rfl ?_
        exact (Only.refl _ _)
      · refine Only.step (State.accept_only ..) rfl ?_
        refine Only.step (State.stgBegin_only ..) rfl ?_
        exact (Only.refl _ _)

theorem execBilEventRead_only (a0 : _) (a1 : _) (a2 : _) (a3 : _) :
    OnlyRes [.sys, .msh, .host, .sent, .bil, .chn] a3 (execBilEventRead a0 a1 a2 a3) := by
  unfold execBilEventRead
  refine OnlyRes.next ?_
  refine State.readEvent_only rfl (fun u1 h1 => ?_) ?_
  · refine Only.step (State.modBil_only ..) rfl ?_
    exact h1
  · exact (Only.refl _ _)

theorem execBilUnitEventRead_only (a0 : _) (a1 : _) (a2 : _) :
    OnlyRes [.sys, .msh, .host, .legal, .sent, .chn] a2 (execBilUnitEventRead a0 a1 a2) := by
  unfold execBilUnitEventRead
  refine OnlyRes.next ?_
  refine State.readEvent_only rfl (fun u1 h1 => ?_) ?_
  · refine Only.step (State.modLegal_only ..) rfl ?_
    exact h1
  · exact (Only.refl _ _)

theorem execBillingStop_only (a0 : _) (a1 : _) :
    OnlyRes [.jnl, .met, .host, .pq, .sent, .bil, .nrg] a1 (execBillingStop a0 a1) := by
  unfold execBillingStop
  refine OnlyRes.next ?_
  split
  · refine Only.ite ?_ ?_
    · refine Only.step (State.holdStop_only ..) rfl ?_
      refine Only.step (State.stopBilling_only ..) rfl ?_
      exact (Only.refl _ _)
    · exact (Only.refl _ _)
  · exact (Only.refl _ _)

theorem execBrakeReleaseReq_only (a0 : _) (a1 : _) :
    OnlyRes [.ses, .sp, .sys, .cave, .host, .sent, .saf, .brk] a1 (execBrakeReleaseReq a0 a1) := by
  unfold execBrakeReleaseReq
  extract_lets +onlyGivenNames x1
  refine OnlyRes.next ?_
  refine Only.step (State.safeAnswer_only ..) rfl ?_
  exact (State.requestRelease_only ..).step rfl ((State.heartbeat_only ..).mono rfl)

theorem execBrakeTestTimer_only (a0 : _) (a1 : _) :
    OnlyRes [.ses, .sp, .cave, .host, .sent, .saf, .brk] a1 (execBrakeTestTimer a0 a1) := by
  unfold execBrakeTestTimer
  extract_lets +onlyGivenNames x1
  refine OnlyRes.next ?_
  split
  · exact (Only.refl _ _)
  · refine Only.step (State.writeOuts_only ..) rfl ?_
    refine Only.step (State.modBrk_only ..) rfl ?_
    exact (Only.refl _ _)
  · refine Only.step (State.modBrk_only ..) rfl ?_
    exact (Only.refl _ _)
  · refine Only.step (State.writeOuts_only ..) rfl ?_
    refine Only.step (State.modBrk_only ..) rfl ?_
    exact (Only.refl _ _)
  · extract_lets +onlyGivenNames x2
    refine Only.keep x2 ?_ ?_
    · unfold x2
      refine Only.step (State.brkRaise_only ..) rfl ?_
      refine Only.step (State.modBrk_only ..) rfl ?_
      exact (Only.refl _ _)
    intro h1
    clear_value x2
    extract_lets +onlyGivenNames x3
    refine Only.keep x3 ?_ ?_
    · unfold x3
      split
      · refine Only.step (State.testEnded_only ..) rfl ?_
        refine Only.step (State.modSp_only ..) rfl ?_
        exact h1
      · exact h1
    intro h2
    clear_value x3
    extract_lets +onlyGivenNames x4
    refine Only.keep x4 ?_ ?_
    · unfold x4
      refine Only.ite ?_ ?_
      · refine Only.step (State.testNotice_only ..) rfl ?_
        exact h2
      · refine Only.ite ?_ ?_
        · refine Only.step (State.testNotice_only ..) rfl ?_
          refine Only.step (State.releaseBrake_only ..) rfl ?_
          exact h2
        · refine Only.step (State.testNotice_only ..) rfl ?_
          exact h2
    intro h3
    clear_value x4
    split
    · refine Only.step (State.runDeferred_only ..) rfl ?_
      exact h3
    · exact h3

theorem execBrkEventRead_only (a0 : _) (a1 : _) (a2 : _) :
    OnlyRes [.sys, .msh, .host, .sent, .saf, .chn] a2 (execBrkEventRead a0 a1 a2) := by
  unfold execBrkEventRead
  refine OnlyRes.next ?_
  refine State.readEvent_only rfl (fun u1 h1 => ?_) ?_
  · refine Only.step (State.modSaf_only ..) rfl ?_
    exact h1
  · exact (Only.refl _ _)

theorem execCableCheckReq_only (a0 : _) (a1 : _) :
    OnlyRes [.ses, .sys, .pm, .host, .veh, .sent, .pwr] a1 (execCableCheckReq a0 a1) := by
  unfold execCableCheckReq
  refine OnlyRes.next ?_
  refine Only.ite ?_ ?_
  · refine Only.step (State.advance_only ..) rfl ?_
    refine Only.step (State.modSes_only ..) rfl ?_
    exact (Only.refl _ _)
  · exact (Only.refl _ _)

theorem execCalMeasure_only (a0 : _) (a1 : _) :
    OnlyRes [.met, .host] a1 (execCalMeasure a0 a1) := by
  unfold execCalMeasure
  refine OnlyRes.next ?_
  refine State.unlessVoid_only rfl (fun u1 h1 => ?_) ?_
  · extract_lets +onlyGivenNames x1
    extract_lets +onlyGivenNames x2
    extract_lets +onlyGivenNames x3
    extract_lets +onlyGivenNames x4
    extract_lets +onlyGivenNames x5
    refine Only.ite ?_ ?_
    · refine Only.step (State.answer_only ..) rfl ?_
      exact h1
    · refine Only.ite ?_ ?_
      · refine Only.step (State.answer_only ..) rfl ?_
        exact h1
      · refine Only.step (State.accept_only ..) rfl ?_
        refine Only.step (State.modMet_only ..) rfl ?_
        exact h1
  · exact (Only.refl _ _)

theorem execCalMeasureDurationEnd_only (a0 : _) (a1 : _) :
    OnlyRes [.met, .host] a1 (execCalMeasureDurationEnd a0 a1) := by
  unfold execCalMeasureDurationEnd
  refine OnlyRes.next ?_
  split
  · refine Only.ite ?_ ?_
    · extract_lets +onlyGivenNames x1
      extract_lets +onlyGivenNames x2
      refine Only.step (State.modMet_only ..) rfl ?_
      refine Only.step (State.final_only ..) rfl ?_
      exact (Only.refl _ _)
    · refine Only.ite ?_ ?_
      · extract_lets +onlyGivenNames x3
        refine Only.step (State.modMet_only ..) rfl ?_
        refine Only.step (State.final_only ..) rfl ?_
        exact (Only.refl _ _)
      · exact (Only.refl _ _)
  · exact (Only.refl _ _)

theorem execCalMeasureTimeout_only (a0 : _) (a1 : _) :
    OnlyRes [.met, .host] a1 (execCalMeasureTimeout a0 a1) := by
  unfold execCalMeasureTimeout
  refine OnlyRes.next ?_
  split
  · refine Only.ite ?_ ?_
    · refine Only.step (State.endMeasure_only ..) rfl ?_
      exact (Only.refl _ _)
    · exact (Only.refl _ _)
  · exact (Only.refl _ _)

theorem execCancelActivation_only (a0 : _) (a1 : _) :
    OnlyRes [.msh, .host, .fw, .sent, .chn] a1 (execCancelActivation a0 a1) := by
  unfold execCancelActivation
  refine OnlyRes.next ?_
  refine Only.ite ?_ ?_
  · refine Only.step (State.answer_only ..) rfl ?_
    exact (Only.refl _ _)
  · refine Only.ite ?_ ?_
    · refine Only.step (State.answer_only ..) rfl ?_
      refine Only.step (State.withdraw_only ..) rfl ?_
      exact (Only.refl _ _)
    · refine Only.step (State.answer_only ..) rfl ?_
      exact (Only.refl _ _)

theorem execCandidate_only (a0 : _) (a1 : _) (a2 : _) :
    OnlyRes [.msh, .host, .free, .sent, .chn] a2 (execCandidate a0 a1 a2) := by
  unfold execCandidate
  refine OnlyRes.next ?_
  refine State.chainRx_only rfl (fun u1 h1 => ?_) ?_
  · refine Only.step (State.eatCandidate_only ..) rfl ?_
    exact h1
  · exact (Only.refl _ _)

theorem execCavEventRead_only (a0 : _) (a1 : _) (a2 : _) :
    OnlyRes [.sys, .cave, .msh, .host, .sent, .chn] a2 (execCavEventRead a0 a1 a2) := by
  unfold execCavEventRead
  refine OnlyRes.next ?_
  refine State.readEvent_only rfl (fun u1 h1 => ?_) ?_
  · refine Only.step (State.modCave_only ..) rfl ?_
    exact h1
  · exact (Only.refl _ _)

theorem execCaveAckWrite_only (a0 : _) :
    OnlyRes [.jnl] a0 (execCaveAckWrite a0) := by
  unfold execCaveAckWrite
  refine OnlyRes.next ?_
  refine Only.ite ?_ ?_
  · refine Only.step (State.writeAck_only ..) rfl ?_
    exact (Only.refl _ _)
  · exact (Only.refl _ _)

theorem execCaveConfirm_only (a0 : _) (a1 : _) :
    OnlyRes [.jnl] a1 (execCaveConfirm a0 a1) := by
  unfold execCaveConfirm
  refine OnlyRes.next ?_
  refine Only.step (State.holdLevel_only ..) rfl ?_
  refine Only.step (State.modJnl_only ..) rfl ?_
  exact (Only.refl _ _)

theorem execCaveFaultRetry_only (a0 : _) (a1 : _) :
    OnlyRes [.cave, .sent] a1 (execCaveFaultRetry a0 a1) := by
  unfold execCaveFaultRetry
  refine OnlyRes.next ?_
  refine Only.ite ?_ ?_
  · exact (Only.refl _ _)
  · extract_lets +onlyGivenNames x1
    refine Only.keep x1 ?_ ?_
    · unfold x1
      refine Only.step (State.emit_only ..) rfl ?_
      refine Only.step (State.caveRaise_only ..) rfl ?_
      refine Only.step (State.modCave_only ..) rfl ?_
      exact (Only.refl _ _)
    intro h1
    clear_value x1
    refine Only.ite ?_ ?_
    · refine Only.step (State.setCave_only ..) rfl ?_
      refine Only.each (fun a1x u1 h2 => ?_) ?_
      · split
        · refine Only.step (State.endAbsence_only ..) rfl ?_
          exact h2
        · exact h2
      · exact h1
    · exact h1

theorem execCaveFlush_only (a0 : _) :
    OnlyRes [.sent] a0 (execCaveFlush a0) := by
  unfold execCaveFlush
  refine OnlyRes.next ?_
  refine Only.ite ?_ ?_
  · refine Only.step (State.emit_only ..) rfl ?_
    exact (Only.refl _ _)
  · exact (Only.refl _ _)

theorem execCaveInitDone_only (a0 : _) (a1 : _) :
    OnlyRes [.cave] a1 (execCaveInitDone a0 a1) := by
  unfold execCaveInitDone
  refine OnlyRes.next ?_
  refine Only.ite ?_ ?_
  · exact (Only.refl _ _)
  · refine Only.ite ?_ ?_
    · refine Only.step (State.setCave_only ..) rfl ?_
      exact (Only.refl _ _)
    · split
      · refine Only.step (State.setCave_only ..) rfl ?_
        refine Only.step (State.modCave_only ..) rfl ?_
        exact (Only.refl _ _)
      · extract_lets +onlyGivenNames x1
        extract_lets +onlyGivenNames x2
        refine Only.keep x2 ?_ ?_
        · unfold x2
          refine Only.step (State.modCave_only ..) rfl ?_
          exact (Only.refl _ _)
        intro h1
        clear_value x2
        refine Only.ite ?_ ?_
        · refine Only.step (State.setCave_only ..) rfl ?_
          exact h1
        · clear_value x1
          split
          · refine Only.step (State.setCave_only ..) rfl ?_
            exact h1
          · refine Only.step (State.setCave_only ..) rfl ?_
            exact h1
          · refine Only.step (State.setCave_only ..) rfl ?_
            refine Only.step (State.resetSpans_only ..) rfl ?_
            refine Only.ite ?_ ?_
            · refine Only.step (State.runRecord_only ..) rfl ?_
              exact h1
            · exact h1

theorem execCaveRecordTake_only (a0 : _) :
    OnlyRes [.cave, .host, .legal, .sent] a0 (execCaveRecordTake a0) := by
  unfold execCaveRecordTake
  extract_lets +onlyGivenNames x1
  refine OnlyRes.next ?_
  refine Only.ite ?_ ?_
  · exact (Only.refl _ _)
  · split
    · refine Only.step (State.emit_only ..) rfl ?_
      exact (Only.refl _ _)
    · split
      · refine Only.ite ?_ ?_
        · refine Only.step (State.shed_only ..) rfl ?_
          refine Only.step (State.modCave_only ..) rfl ?_
          exact (Only.refl _ _)
        · exact (Only.refl _ _)
      · split
        · refine Only.ite ?_ ?_
          · refine Only.step (State.shed_only ..) rfl ?_
            refine Only.step (State.modCave_only ..) rfl ?_
            exact (Only.refl _ _)
          · exact (Only.refl _ _)
        · split
          · extract_lets +onlyGivenNames x2
            refine Only.ite ?_ ?_
            · refine Only.step (State.shed_only ..) rfl ?_
              refine Only.step (State.modLegal_only ..) rfl ?_
              refine Only.step (State.modCave_only ..) rfl ?_
              exact (Only.refl _ _)
            · exact (Only.refl _ _)
          · exact (Only.refl _ _)

theorem execCaveStreamSamples_only (a0 : _) (a1 : _) :
    OnlyRes [.cave, .host, .sent] a1 (execCaveStreamSamples a0 a1) := by
  unfold execCaveStreamSamples
  extract_lets +onlyGivenNames x1
  extract_lets +onlyGivenNames x2
  refine OnlyRes.next ?_
  refine Only.ite ?_ ?_
  · exact (Only.refl _ _)
  · split
    · refine Only.step (State.spans_only ..) rfl ?_
      exact (Only.refl _ _)
    · extract_lets +onlyGivenNames x3
      extract_lets +onlyGivenNames x4
      extract_lets +onlyGivenNames x5
      extract_lets +onlyGivenNames x6
      extract_lets +onlyGivenNames x7
      refine Only.step (State.shed_only ..) rfl ?_
      refine Only.step (State.spans_only ..) rfl ?_
      refine Only.step (State.modCave_only ..) rfl ?_
      exact (Only.refl _ _)

theorem execCaveWindowEnd_only (a0 : _) (a1 : _) (a2 : _) :
    OnlyRes [.cave] a2 (execCaveWindowEnd a0 a1 a2) := by
  unfold execCaveWindowEnd
  refine OnlyRes.next ?_
  split
  · refine Only.ite ?_ ?_
    · exact (Only.refl _ _)
    · refine Only.step (State.closeWin_only ..) rfl ?_
      exact (Only.refl _ _)
  · exact (Only.refl _ _)

theorem execCaveWindowTrigger_only (a0 : _) (a1 : _) (a2 : _) :
    OnlyRes [.cave, .host, .sent] a2 (execCaveWindowTrigger a0 a1 a2) := by
  unfold execCaveWindowTrigger
  extract_lets +onlyGivenNames x1
  refine OnlyRes.next ?_
  refine Only.ite ?_ ?_
  · refine Only.step (State.startWin_only ..) rfl ?_
    exact (Only.refl _ _)
  · exact (Only.refl _ _)

theorem execCertExchangeReply_only (a0 : _) (a1 : _) :
    OnlyRes [.host, .veh, .sent] a1 (execCertExchangeReply a0 a1) := by
  unfold execCertExchangeReply
  extract_lets +onlyGivenNames x1
  extract_lets +onlyGivenNames x2
  extract_lets +onlyGivenNames x3
  refine OnlyRes.next ?_
  refine Only.ite ?_ ?_
  · refine Only.step (State.answer_only ..) rfl ?_
    exact (Only.refl _ _)
  · refine Only.ite ?_ ?_
    · refine Only.step (State.answer_only ..) rfl ?_
      refine Only.step (State.modVeh_only ..) rfl ?_
      exact (Only.refl _ _)
    · refine Only.ite ?_ ?_
      · refine Only.step (State.answer_only ..) rfl ?_
        try dsimp -zeta only [x3]
        refine Only.step (State.modVeh_only ..) rfl ?_
        exact (Only.refl _ _)
      · refine Only.ite ?_ ?_
        · refine Only.step (State.answer_only ..) rfl ?_
          refine Only.step (State.sayVehicle_only ..) rfl ?_
          try dsimp -zeta only [x3]
          refine Only.step (State.modVeh_only ..) rfl ?_
          exact (Only.refl _ _)
        · extract_lets +onlyGivenNames x4
          extract_lets +onlyGivenNames x5
          refine Only.ite ?_ ?_
          · refine Only.step (State.endRing_only ..) rfl ?_
            exact (Only.refl _ _)
          · refine Only.ite ?_ ?_
            · refine Only.step (State.answer_only ..) rfl ?_
              exact (Only.refl _ _)
            · refine Only.step (State.endRing_only ..) rfl ?_
              refine Only.step (State.emit_only ..) rfl ?_
              try dsimp -zeta only [x3]
              refine Only.step (State.modVeh_only ..) rfl ?_
              exact (Only.refl _ _)

theorem execCertInstallRequest_only (a0 : _) (a1 : _) (a2 : _) :
    OnlyRes [.cave, .host, .veh, .sent] a2 (execCertInstallRequest a0 a1 a2) := by
  unfold execCertInstallRequest
  refine OnlyRes.next ?_
  refine Only.ite ?_ ?_
  · refine Only.step (State.vpRaise_only ..) rfl ?_
    refine Only.step (State.modVeh_only ..) rfl ?_
    exact (Only.refl _ _)
  · exact (Only.refl _ _)

theorem execCertReplyTimeout_only (a0 : _) (a1 : _) :
    OnlyRes [.veh, .sent] a1 (execCertReplyTimeout a0 a1) := by
  unfold execCertReplyTimeout
  refine OnlyRes.next ?_
  refine Only.ite ?_ ?_
  · refine Only.step (State.sayVehicle_only ..) rfl ?_
    refine Only.step (State.modVeh_only ..) rfl ?_
    exact (Only.refl _ _)
  · exact (Only.refl _ _)

theorem execChainBadFrame_only (a0 : _) (a1 : _) (a2 : _) :
    OnlyRes [.msh, .host, .sent, .chn] a2 (execChainBadFrame a0 a1 a2) := by
  unfold execChainBadFrame
  extract_lets +onlyGivenNames x1
  refine OnlyRes.keep x1 ?_ ?_
  · unfold x1
    refine Only.ite ?_ ?_
    · refine Only.step (State.modChLink_only ..) rfl ?_
      exact (Only.refl _ _)
    · exact (Only.refl _ _)
  intro h1
  clear_value x1
  extract_lets +onlyGivenNames x2
  refine OnlyRes.keep x2 ?_ ?_
  · unfold x2
    split
    · refine Only.step (State.cutThrough_only ..) rfl ?_
      exact h1
    · exact h1
  intro h2
  clear_value x2
  refine OnlyRes.next ?_
  refine Only.ite ?_ ?_
  · exact (Only.refl _ _)
  · refine Only.ite ?_ ?_
    · exact h2
    · refine Only.step (State.badFrame_only ..) rfl ?_
      exact h2

theorem execChainDegradedEnd_only (a0 : _) (a1 : _) :
    OnlyRes [.msh, .sent, .chn] a1 (execChainDegradedEnd a0 a1) := by
  unfold execChainDegradedEnd
  refine OnlyRes.next ?_
  refine Only.ite ?_ ?_
  · refine Only.step (State.setLink_only ..) rfl ?_
    exact (Only.refl _ _)
  · exact (Only.refl _ _)

theorem execChainJoinDone_only (a0 : _) :
    OnlyRes [.sys, .host, .sent] a0 (execChainJoinDone a0) := by
  unfold execChainJoinDone
  refine OnlyRes.next ?_
  refine Only.ite ?_ ?_
  · refine Only.step (State.reach_only ..) rfl ?_
    exact (Only.refl _ _)
  · exact (Only.refl _ _)

theorem execChainLinkSilence_only (a0 : _) (a1 : _) :
    OnlyRes [.msh, .sent, .chn] a1 (execChainLinkSilence a0 a1) := by
  unfold execChainLinkSilence
  refine OnlyRes.next ?_
  refine Only.ite ?_ ?_
  · refine Only.step (State.linkLost_only ..) rfl ?_
    exact (Only.refl _ _)
  · exact (Only.refl _ _)

theorem execChainLinkTrained_only (a0 : _) (a1 : _) :
    OnlyRes [.msh, .sent, .chn] a1 (execChainLinkTrained a0 a1) := by
  unfold execChainLinkTrained
  refine OnlyRes.next ?_
  refine Only.ite ?_ ?_
  · refine Only.step (State.setLink_only ..) rfl ?_
    exact (Only.refl _ _)
  · exact (Only.refl _ _)

theorem execChainPhyDown_only (a0 : _) (a1 : _) :
    OnlyRes [.msh, .sent, .chn] a1 (execChainPhyDown a0 a1) := by
  unfold execChainPhyDown
  extract_lets +onlyGivenNames x1
  refine OnlyRes.keep x1 ?_ ?_
  · unfold x1
    refine Only.step (State.modChLink_only ..) rfl ?_
    exact (Only.refl _ _)
  intro h1
  clear_value x1
  refine OnlyRes.next ?_
  refine Only.ite ?_ ?_
  · exact h1
  · refine Only.step (State.linkLost_only ..) rfl ?_
    exact h1

theorem execChainPhyUp_only (a0 : _) (a1 : _) (a2 : _) :
    OnlyRes [.msh, .sent, .chn] a2 (execChainPhyUp a0 a1 a2) := by
  unfold execChainPhyUp
  extract_lets +onlyGivenNames x1
  refine OnlyRes.keep x1 ?_ ?_
  · unfold x1
    refine Only.step (State.modChLink_only ..) rfl ?_
    exact (Only.refl _ _)
  intro h1
  clear_value x1
  refine OnlyRes.next ?_
  refine Only.ite ?_ ?_
  · exact h1
  · refine Only.ite ?_ ?_
    · refine Only.step (State.setLink_only ..) rfl ?_
      exact h1
    · refine Only.ite ?_ ?_
      · refine Only.step (State.setLink_only ..) rfl ?_
        exact h1
      · exact h1

theorem execChainTxDone_only (a0 : _) (a1 : _) :
    OnlyRes [.msh, .fw, .sent, .chn] a1 (execChainTxDone a0 a1) := by
  unfold execChainTxDone
  extract_lets +onlyGivenNames x1
  refine OnlyRes.next ?_
  refine Only.ite ?_ ?_
  · exact (Only.refl _ _)
  · extract_lets +onlyGivenNames x2
    refine Only.keep x2 ?_ ?_
    · unfold x2
      refine Only.step (State.modChLink_only ..) rfl ?_
      exact (Only.refl _ _)
    intro h1
    clear_value x2
    split
    · split
      · refine Only.step (State.beginFrame_only ..) rfl ?_
        refine Only.step (State.modChLink_only ..) rfl ?_
        exact h1
      · exact h1
    · refine Only.step (State.serveBlock_only ..) rfl ?_
      exact h1

theorem execChipReset_only (a0 : _) :
    OnlyRes [.ses, .jnl, .dsp, .sp, .sys, .pm, .time, .cave, .nfc, .met, .msh, .host, .fw, .veh, .pq, .keys, .legal, .lease, .conf, .sent, .pwr, .bil, .nrg, .saf, .chn, .ls, .lk, .brk] a0 (execChipReset a0) := by
  unfold execChipReset
  refine OnlyRes.next ?_
  refine Only.step (State.chipReset_only ..) rfl ?_
  exact (Only.refl _ _)

theorem execChnEventRead_only (a0 : _) (a1 : _) (a2 : _) :
    OnlyRes [.sys, .msh, .host, .sent, .chn] a2 (execChnEventRead a0 a1 a2) := by
  unfold execChnEventRead
  refine OnlyRes.next ?_
  refine State.readEvent_only rfl (fun u1 h1 => ?_) ?_
  · refine Only.step (State.modChn_only ..) rfl ?_
    exact h1
  · exact (Only.refl _ _)

theorem execClaimPort_only (a0 : _) (a1 : _) :
    OnlyRes [.cave, .host, .veh, .sent] a1 (execClaimPort a0 a1) := by
  unfold execClaimPort
  extract_lets +onlyGivenNames x1
  extract_lets +onlyGivenNames x2
  extract_lets +onlyGivenNames x3
  extract_lets +onlyGivenNames x4
  refine OnlyRes.next ?_
  refine Only.ite ?_ ?_
  · refine Only.step (State.answer_only ..) rfl ?_
    exact (Only.refl _ _)
  · clear_value x3 x2
    split
    · refine Only.step (State.answer_only ..) rfl ?_
      try dsimp -zeta only [x4]
      refine Only.step (State.service_only ..) rfl ?_
      refine Only.step (State.modHost_only ..) rfl ?_
      exact (Only.refl _ _)
    · refine Only.ite ?_ ?_
      · refine Only.step (State.answer_only ..) rfl ?_
        exact (Only.refl _ _)
      · refine Only.ite ?_ ?_
        · refine Only.step (State.answer_only ..) rfl ?_
          try dsimp -zeta only [x4]
          refine Only.step (State.service_only ..) rfl ?_
          refine Only.step (State.modHost_only ..) rfl ?_
          refine Only.step (State.endClaim_only ..) rfl ?_
          exact (Only.refl _ _)
        · refine Only.step (State.answer_only ..) rfl ?_
          exact (Only.refl _ _)

theorem execClearFault_only (a0 : _) (a1 : _) :
    OnlyRes [.ses, .sp, .cave, .host, .sent, .saf, .brk] a1 (execClearFault a0 a1) := by
  unfold execClearFault
  extract_lets +onlyGivenNames x1
  refine OnlyRes.next ?_
  refine Only.ite ?_ ?_
  · refine Only.step (State.answer_only ..) rfl ?_
    exact (Only.refl _ _)
  · refine Only.ite ?_ ?_
    · refine Only.step (State.answer_only ..) rfl ?_
      exact (Only.refl _ _)
    · refine Only.step (State.answer_only ..) rfl ?_
      refine Only.step (State.availPoll_only ..) rfl ?_
      refine Only.step (State.runDeferred_only ..) rfl ?_
      refine Only.step (State.sesTo_only ..) rfl ?_
      exact (Only.refl _ _)

theorem execClearLinkCounters_only (a0 : _) (a1 : _) :
    OnlyRes [.host, .chn] a1 (execClearLinkCounters a0 a1) := by
  unfold execClearLinkCounters
  extract_lets +onlyGivenNames x1
  extract_lets +onlyGivenNames x2
  refine OnlyRes.keep x2 ?_ ?_
  · unfold x2
    refine Only.ite ?_ ?_
    · try dsimp -zeta only [x1]
      refine Only.step (State.modChLink_only ..) rfl ?_
      exact (Only.refl _ _)
    · exact (Only.refl _ _)
  intro h1
  clear_value x2
  extract_lets +onlyGivenNames x3
  refine OnlyRes.keep x3 ?_ ?_
  · unfold x3
    refine Only.ite ?_ ?_
    · try dsimp -zeta only [x1]
      refine Only.step (State.modChLink_only ..) rfl ?_
      exact h1
    · exact h1
  intro h2
  clear_value x3
  refine OnlyRes.next ?_
  refine Only.ite ?_ ?_
  · refine Only.step (State.answer_only ..) rfl ?_
    exact (Only.refl _ _)
  · refine Only.step (State.answer_only ..) rfl ?_
    exact h2

theorem execClearLsFault_only (a0 : _) (a1 : _) :
    OnlyRes [.host, .ls] a1 (execClearLsFault a0 a1) := by
  unfold execClearLsFault
  extract_lets +onlyGivenNames x1
  extract_lets +onlyGivenNames x2
  extract_lets +onlyGivenNames x3
  refine OnlyRes.next ?_
  split
  · refine Only.step (State.answer_only ..) rfl ?_
    exact (Only.refl _ _)
  · refine Only.ite ?_ ?_
    · refine Only.step (State.answer_only ..) rfl ?_
      exact (Only.refl _ _)
    · refine Only.step (State.answer_only ..) rfl ?_
      refine Only.foldl (fun u1 a1x h1 => ?_) ?_
      · refine Only.step (State.modLsCh_only ..) rfl ?_
        exact h1
      · exact (Only.refl _ _)

theorem execClearMeshCounters_only (a0 : _) (a1 : _) :
    OnlyRes [.msh, .host] a1 (execClearMeshCounters a0 a1) := by
  unfold execClearMeshCounters
  refine OnlyRes.next ?_
  refine Only.ite ?_ ?_
  · refine Only.step (State.answer_only ..) rfl ?_
    exact (Only.refl _ _)
  · refine Only.step (State.answer_only ..) rfl ?_
    refine Only.step (State.modMsh_only ..) rfl ?_
    exact (Only.refl _ _)

theorem execClockDeviation_only (a0 : _) :
    OnlyRes [.ses, .jnl, .dsp, .sp, .sys, .pm, .time, .cave, .nfc, .met, .msh, .host, .fw, .veh, .pq, .keys, .legal, .lease, .conf, .sent, .pwr, .bil, .nrg, .saf, .chn, .ls, .lk, .brk] a0 (execClockDeviation a0) := by
  unfold execClockDeviation
  refine OnlyRes.next ?_
  refine Only.ite ?_ ?_
  · exact (Only.refl _ _)
  · refine Only.ite ?_ ?_
    · refine Only.step (State.enterRom_only ..) rfl ?_
      refine Only.step (State.modSys_only ..) rfl ?_
      exact (Only.refl _ _)
    · refine Only.step (State.chipReset_only ..) rfl ?_
      exact (Only.refl _ _)

theorem execClockGated_only (a0 : _) (a1 : _) :
    OnlyRes [.sys] a1 (execClockGated a0 a1) := by
  unfold execClockGated
  refine OnlyRes.next ?_
  refine Only.ite ?_ ?_
  · exact (Only.refl _ _)
  · refine Only.step (State.modSys_only ..) rfl ?_
    exact (Only.refl _ _)

theorem execClockStarted_only (a0 : _) (a1 : _) :
    OnlyRes [.sys] a1 (execClockStarted a0 a1) := by
  unfold execClockStarted
  refine OnlyRes.next ?_
  refine Only.ite ?_ ?_
  · refine Only.step (State.modSys_only ..) rfl ?_
    exact (Only.refl _ _)
  · exact (Only.refl _ _)

theorem execCloseConfirmTimeout_only (a0 : _) (a1 : _) :
    OnlyRes [.ses, .sp, .cave, .host, .sent, .saf, .brk] a1 (execCloseConfirmTimeout a0 a1) := by
  unfold execCloseConfirmTimeout
  refine OnlyRes.next ?_
  refine Only.ite ?_ ?_
  · refine Only.step (State.checkStop_only ..) rfl ?_
    refine Only.step (State.contactorFault_only ..) rfl ?_
    exact (Only.refl _ _)
  · exact (Only.refl _ _)

theorem execCloseKeySession_only (a0 : _) (a1 : _) :
    OnlyRes [.keys] a1 (execCloseKeySession a0 a1) := by
  unfold execCloseKeySession
  extract_lets +onlyGivenNames x1
  refine OnlyRes.next ?_
  split
  · refine Only.step (State.vaultRefuse_only ..) rfl ?_
    exact (Only.refl _ _)
  · refine Only.step (State.vaultRefuse_only ..) rfl ?_
    exact (Only.refl _ _)
  · refine Only.step (State.vaultDone_only ..) rfl ?_
    refine Only.step (State.setKeySes_only ..) rfl ?_
    exact (Only.refl _ _)

theorem execCloseNotice_only (a0 : _) (a1 : _) :
    OnlyRes [.pq, .nrg] a1 (execCloseNotice a0 a1) := by
  unfold execCloseNotice
  refine OnlyRes.next ?_
  refine Only.ite ?_ ?_
  · exact (Only.refl _ _)
  · extract_lets +onlyGivenNames x1
    refine Only.step (State.modPq_only ..) rfl ?_
    refine Only.step (State.modNrg_only ..) rfl ?_
    exact (Only.refl _ _)

theorem execCloseReq_only (a0 : _) (a1 : _) :
    OnlyRes [.ses, .sp, .sys, .cave, .host, .sent, .saf, .brk] a1 (execCloseReq a0 a1) := by
  unfold execCloseReq
  extract_lets +onlyGivenNames x1
  refine OnlyRes.keep x1 ?_ ?_
  · unfold x1
    refine Only.step (State.heartbeat_only ..) rfl ?_
    exact (Only.refl _ _)
  intro h1
  clear_value x1
  refine OnlyRes.next ?_
  refine Only.ite ?_ ?_
  · refine Only.step (State.safeAnswer_only ..) rfl ?_
    refine Only.step (State.busChanged_only ..) rfl ?_
    refine Only.step (State.setPort_only ..) rfl ?_
    refine Only.step (State.modSp_only ..) rfl ?_
    refine Only.step (State.emit_only ..) rfl ?_
    exact h1
  · refine Only.step (State.safeAnswer_only ..) rfl ?_
    exact h1

theorem execCmMnbcSound_only (a0 : _) (a1 : _) (a2 : _) (a3 : _) :
    OnlyRes [.veh] a3 (execCmMnbcSound a0 a1 a2 a3) := by
  unfold execCmMnbcSound
  refine OnlyRes.next ?_
  refine Only.ite ?_ ?_
  · refine Only.step (State.modVeh_only ..) rfl ?_
    exact (Only.refl _ _)
  · exact (Only.refl _ _)

theorem execCmSetKeyCnf_only (a0 : _) (a1 : _) :
    OnlyRes [.cave, .host, .veh, .sent] a1 (execCmSetKeyCnf a0 a1) := by
  unfold execCmSetKeyCnf
  extract_lets +onlyGivenNames x1
  split
  · refine OnlyRes.next ?_
    exact (Only.refl _ _)
  · refine OnlyRes.ite ?_ ?_
    · extract_lets +onlyGivenNames x2
      refine OnlyRes.keep x2 ?_ ?_
      · unfold x2
        refine Only.step (State.vpRaise_only ..) rfl ?_
        refine Only.step (State.modVeh_only ..) rfl ?_
        refine Only.step (State.linkTo_only ..) rfl ?_
        exact (Only.refl _ _)
      intro h1
      clear_value x2
      refine OnlyRes.next ?_
      refine Only.each (fun a1x u1 h2 => ?_) ?_
      · refine Only.ite ?_ ?_
        · refine Only.step (State.leftOut_only ..) rfl ?_
          exact h2
        · exact h2
      · exact h1
    · refine OnlyRes.next ?_
      exact (Only.refl _ _)

theorem execCmSlacMatchReq_only (a0 : _) (a1 : _) (a2 : _) :
    OnlyRes [.veh, .free, .sent] a2 (execCmSlacMatchReq a0 a1 a2) := by
  unfold execCmSlacMatchReq
  extract_lets +onlyGivenNames x1
  refine OnlyRes.next ?_
  refine Only.ite ?_ ?_
  · exact (Only.refl _ _)
  · refine Only.ite ?_ ?_
    · extract_lets +onlyGivenNames x2
      extract_lets +onlyGivenNames x3
      refine Only.step (State.emit_only ..) rfl ?_
      refine Only.step (State.emit_only ..) rfl ?_
      refine Only.step (State.useFree_only ..) rfl ?_
      refine Only.step (State.modVeh_only ..) rfl ?_
      exact (Only.refl _ _)
    · refine Only.ite ?_ ?_
      · refine Only.step (State.emit_only ..) rfl ?_
        exact (Only.refl _ _)
      · exact (Only.refl _ _)

theorem execCmSlacParmReq_only (a0 : _) (a1 : _) (a2 : _) (a3 : _) :
    OnlyRes [.cave, .host, .veh, .sent] a3 (execCmSlacParmReq a0 a1 a2 a3) := by
  unfold execCmSlacParmReq
  extract_lets +onlyGivenNames x1
  refine OnlyRes.next ?_
  refine Only.ite ?_ ?_
  · exact (Only.refl _ _)
  · extract_lets +onlyGivenNames x2
    refine Only.keep x2 ?_ ?_
    · unfold x2
      refine Only.step (State.emit_only ..) rfl ?_
      exact (Only.refl _ _)
    intro h1
    clear_value x2
    refine Only.ite ?_ ?_
    · refine Only.step (State.modVeh_only ..) rfl ?_
      refine Only.step (State.linkTo_only ..) rfl ?_
      exact h1
    · exact h1

theorem execCmStartAttenChar_only (a0 : _) (a1 : _) (a2 : _) :
    OnlyRes [.veh] a2 (execCmStartAttenChar a0 a1 a2) := by
  unfold execCmStartAttenChar
  refine OnlyRes.next ?_
  refine Only.ite ?_ ?_
  · refine Only.step (State.modVeh_only ..) rfl ?_
    exact (Only.refl _ _)
  · exact (Only.refl _ _)

theorem execCmValidate_only (a0 : _) (a1 : _) (a2 : _) (a3 : _) :
    OnlyRes [.veh, .sent] a3 (execCmValidate a0 a1 a2 a3) := by
  unfold execCmValidate
  refine OnlyRes.next ?_
  refine Only.ite ?_ ?_
  · refine Only.step (State.emit_only ..) rfl ?_
    refine Only.step (State.modVeh_only ..) rfl ?_
    exact (Only.refl _ _)
  · exact (Only.refl _ _)

theorem execCoexMaskChange_only (a0 : _) :
    OnlyRes [.msh] a0 (execCoexMaskChange a0) := by
  unfold execCoexMaskChange
  refine OnlyRes.next ?_
  refine Only.ite ?_ ?_
  · exact (Only.refl _ _)
  · refine Only.step (State.mshRaise_only ..) rfl ?_
    refine Only.step (State.modMsh_only ..) rfl ?_
    exact (Only.refl _ _)

theorem execCoilCurrentFault_only (a0 : _) (a1 : _) :
    OnlyRes [.ses, .sp, .cave, .host, .sent, .saf, .brk] a1 (execCoilCurrentFault a0 a1) := by
  unfold execCoilCurrentFault
  refine OnlyRes.next ?_
  split
  · refine Only.ite ?_ ?_
    · refine Only.step (State.failWeld_only ..) rfl ?_
      exact (Only.refl _ _)
    · refine Only.ite ?_ ?_
      · refine Only.step (State.checkStop_only ..) rfl ?_
        refine Only.step (State.contactorFault_only ..) rfl ?_
        exact (Only.refl _ _)
      · exact (Only.refl _ _)
  · refine Only.ite ?_ ?_
    · refine Only.step (State.checkStop_only ..) rfl ?_
      refine Only.step (State.contactorFault_only ..) rfl ?_
      exact (Only.refl _ _)
    · exact (Only.refl _ _)

theorem execCommandComplete_only (a0 : _) (a1 : _) (a2 : _) :
    OnlyRes [.host, .sent] a2 (execCommandComplete a0 a1 a2) := by
  unfold execCommandComplete
  refine OnlyRes.next ?_
  split
  · exact (Only.refl _ _)
  · split
    · exact (Only.refl _ _)
    · refine Only.ite ?_ ?_
      · exact (Only.refl _ _)
      · extract_lets +onlyGivenNames x1
        refine Only.keep x1 ?_ ?_
        · unfold x1
          refine Only.step (State.releaseCost_only ..) rfl ?_
          refine Only.step (State.modHost_only ..) rfl ?_
          exact (Only.refl _ _)
        intro h1
        clear_value x1
        refine Only.ite ?_ ?_
        · exact h1
        · extract_lets +onlyGivenNames x2
          extract_lets +onlyGivenNames x3
          refine Only.keep x3 ?_ ?_
          · unfold x3
            refine Only.ite ?_ ?_
            · refine Only.step (State.modHost_only ..) rfl ?_
              exact h1
            · exact h1
          intro h2
          clear_value x3
          refine Only.step (State.count_only ..) rfl ?_
          refine Only.step (State.modGuest_only ..) rfl ?_
          exact h2

theorem execCommandStart_only (a0 : _) (a1 : _) (a2 : _) :
    OnlyRes [.sys, .host] a2 (execCommandStart a0 a1 a2) := by
  unfold execCommandStart
  refine OnlyRes.next ?_
  split
  · exact (Only.refl _ _)
  · refine Only.ite ?_ ?_
    · exact (Only.refl _ _)
    · extract_lets +onlyGivenNames x1
      refine Only.keep x1 ?_ ?_
      · unfold x1
        refine Only.step (State.modHost_only ..) rfl ?_
        exact (Only.refl _ _)
      intro h1
      clear_value x1
      split
      · exact h1
      · extract_lets +onlyGivenNames x2
        refine Only.keep x2 ?_ ?_
        · unfold x2
          refine Only.step (State.modSys_only ..) rfl ?_
          exact h1
        intro h2
        clear_value x2
        refine Only.ite ?_ ?_
        · exact h2
        · refine Only.step (State.answer_only ..) rfl ?_
          exact h2

theorem execCommitConfig_only (a0 : _) (a1 : _) :
    OnlyRes [.jnl, .msh, .host, .conf, .sent, .chn] a1 (execCommitConfig a0 a1) := by
  unfold execCommitConfig
  refine OnlyRes.next ?_
  split
  · refine Only.step (State.answer_only ..) rfl ?_
    exact (Only.refl _ _)
  · refine Only.ite ?_ ?_
    · refine Only.step (State.commit_only ..) rfl ?_
      refine Only.step (State.setOpen_only ..) rfl ?_
      exact (Only.refl _ _)
    · refine Only.step (State.commit_only ..) rfl ?_
      exact (Only.refl _ _)

theorem execComparatorSelftest_only (a0 : _) (a1 : _) :
    OnlyRes [.ses, .sp, .cave, .host, .sent, .saf, .brk] a1 (execComparatorSelftest a0 a1) := by
  unfold execComparatorSelftest
  extract_lets +onlyGivenNames x1
  refine OnlyRes.next ?_
  refine Only.ite ?_ ?_
  · refine Only.step (State.diagGone_only ..) rfl ?_
    exact (Only.refl _ _)
  · refine Only.step (State.diagFault_only ..) rfl ?_
    exact (Only.refl _ _)

theorem execConfigAck_only (a0 : _) (a1 : _) (a2 : _) :
    OnlyRes [.msh, .host, .free, .sent, .chn] a2 (execConfigAck a0 a1 a2) := by
  unfold execConfigAck
  refine OnlyRes.next ?_
  refine State.chainRx_only rfl (fun u1 h1 => ?_) ?_
  · refine Only.step (State.eatConfigAck_only ..) rfl ?_
    exact h1
  · exact (Only.refl _ _)

theorem execConfigJournalReplay_only (a0 : _) (a1 : _) (a2 : _) :
    OnlyRes [.ses, .jnl, .sp, .sys, .pm, .cave, .nfc, .met, .msh, .host, .sl, .fw, .veh, .legal, .free, .lease, .conf, .sent, .pwr, .bil, .nrg, .saf, .chn, .ls, .lk, .brk] a2 (execConfigJournalReplay a0 a1 a2) := by
  unfold execConfigJournalReplay
  refine OnlyRes.next ?_
  refine Only.ite ?_ ?_
  · exact (Only.refl _ _)
  · refine Only.ite ?_ ?_
    · refine Only.step (State.enterRom_only ..) rfl ?_
      exact (Only.refl _ _)
    · extract_lets +onlyGivenNames x1
      refine Only.keep x1 ?_ ?_
      · unfold x1
        refine Only.step (State.modJnl_only ..) rfl ?_
        exact (Only.refl _ _)
      intro h1
      clear_value x1
      extract_lets +onlyGivenNames x2
      refine Only.keep x2 ?_ ?_
      · unfold x2
        refine Only.each (fun a1x u1 h2 => ?_) ?_
        · refine Only.step (State.rebuildPort_only ..) rfl ?_
          refine Only.step (State.followEnable_only ..) rfl ?_
          exact h2
        · refine Only.step (State.bootOn_only ..) rfl ?_
          exact h1
      intro h3
      clear_value x2
      extract_lets +onlyGivenNames x3
      refine Only.keep x3 ?_ ?_
      · unfold x3
        refine Only.each (fun a2x u2 h4 => ?_) ?_
        · refine Only.ite ?_ ?_
          · refine Only.step (State.modPmLink_only ..) rfl ?_
            exact h4
          · exact h4
        · exact h3
      intro h5
      clear_value x3
      extract_lets +onlyGivenNames x4
      refine Only.keep x4 ?_ ?_
      · unfold x4
        refine Only.step (State.readSafety_only ..) rfl ?_
        refine Only.step (State.reach_only ..) rfl ?_
        refine Only.step (State.resumeActivation_only ..) rfl ?_
        refine Only.step (State.chainApplied_only ..) rfl ?_
        exact h5
      intro h6
      clear_value x4
      refine Only.step (State.availAll_only ..) rfl ?_
      refine Only.ite ?_ ?_
      · exact h6
      · refine Only.step (State.reach_only ..) rfl ?_
        exact h6

theorem execContactDisagreeTimeout_only (a0 : _) (a1 : _) :
    OnlyRes [.ses, .sp, .cave, .host, .sent, .saf, .brk] a1 (execContactDisagreeTimeout a0 a1) := by
  unfold execContactDisagreeTimeout
  refine OnlyRes.next ?_
  refine Only.ite ?_ ?_
  · refine Only.step (State.checkStop_only ..) rfl ?_
    refine Only.step (State.contactorFault_only ..) rfl ?_
    exact (Only.refl _ _)
  · exact (Only.refl _ _)

theorem execContract_only (a0 : _) (a1 : _) :
    OnlyRes [.ses, .sp, .sys, .pm, .cave, .host, .veh, .sent, .pwr, .lk] a1 (execContract a0 a1) := by
  unfold execContract
  refine OnlyRes.next ?_
  refine Only.ite ?_ ?_
  · refine Only.step (State.identify_only ..) rfl ?_
    refine Only.step (State.vpRaise_only ..) rfl ?_
    refine Only.step (State.modVeh_only ..) rfl ?_
    exact (Only.refl _ _)
  · exact (Only.refl _ _)

theorem execContractChainPresented_only (a0 : _) (a1 : _) (a2 : _) (a3 : _) (a4 : _) (a5 : _) :
    OnlyRes [.veh] a5 (execContractChainPresented a0 a1 a2 a3 a4 a5) := by
  unfold execContractChainPresented
  extract_lets +onlyGivenNames x1
  refine OnlyRes.next ?_
  refine Only.ite ?_ ?_
  · exact (Only.refl _ _)
  · extract_lets +onlyGivenNames x2
    refine Only.step (State.modVeh_only ..) rfl ?_
    exact (Only.refl _ _)

theorem execCpInvalidTimeout_only (a0 : _) (a1 : _) :
    OnlyRes [.ses, .jnl, .sp, .sys, .pm, .cave, .nfc, .met, .msh, .host, .sl, .veh, .legal, .free, .lease, .conf, .sent, .pwr, .bil, .nrg, .saf, .chn, .ls, .lk, .brk] a1 (execCpInvalidTimeout a0 a1) := by
  unfold execCpInvalidTimeout
  refine OnlyRes.next ?_
  refine Only.ite ?_ ?_
  · refine Only.step (State.cpAccept_only ..) rfl ?_
    exact (Only.refl _ _)
  · exact (Only.refl _ _)

theorem execCpPeriod_only (a0 : _) (a1 : _) (a2 : _) (a3 : _) :
    OnlyRes [.ses, .jnl, .sp, .sys, .pm, .cave, .nfc, .met, .msh, .host, .sl, .veh, .legal, .free, .lease, .conf, .sent, .pwr, .bil, .nrg, .saf, .chn, .ls, .lk, .brk] a3 (execCpPeriod a0 a1 a2 a3) := by
  unfold execCpPeriod
  refine OnlyRes.next ?_
  refine Only.step (State.modVeh_only ..) rfl ?_
  refine Only.step (State.cpSample_only ..) rfl ?_
  exact (Only.refl _ _)

theorem execCreditOut_only (a0 : _) (a1 : _) :
    OnlyRes [.ses, .jnl, .sp, .sys, .pm, .cave, .nfc, .met, .msh, .host, .sl, .veh, .legal, .free, .lease, .conf, .sent, .pwr, .bil, .nrg, .saf, .chn, .ls, .lk, .brk] a1 (execCreditOut a0 a1) := by
  unfold execCreditOut
  refine OnlyRes.next ?_
  split
  · refine Only.ite ?_ ?_
    · refine Only.step (State.endSession_only ..) rfl ?_
      refine Only.step (State.sesRaise_only ..) rfl ?_
      exact (Only.refl _ _)
    · exact (Only.refl _ _)
  · exact (Only.refl _ _)

theorem execCrossCheckTimeout_only (a0 : _) (a1 : _) :
    OnlyRes [.host, .legal] a1 (execCrossCheckTimeout a0 a1) := by
  unfold execCrossCheckTimeout
  refine OnlyRes.next ?_
  split
  · refine Only.step (State.finalOpt_only ..) rfl ?_
    refine Only.step (State.modInput_only ..) rfl ?_
    exact (Only.refl _ _)
  · exact (Only.refl _ _)

theorem execDcTickTimeout_only (a0 : _) (a1 : _) :
    OnlyRes [.nrg] a1 (execDcTickTimeout a0 a1) := by
  unfold execDcTickTimeout
  extract_lets +onlyGivenNames x1
  extract_lets +onlyGivenNames x2
  refine OnlyRes.next ?_
  refine Only.ite ?_ ?_
  · refine Only.step (State.modNrg_only ..) rfl ?_
    exact (Only.refl _ _)
  · exact (Only.refl _ _)

theorem execDelayMeasure_only (a0 : _) (a1 : _) :
    OnlyRes [.sent, .chn] a1 (execDelayMeasure a0 a1) := by
  unfold execDelayMeasure
  refine OnlyRes.next ?_
  refine Only.step (State.sendLocal_only ..) rfl ?_
  exact (Only.refl _ _)

theorem execDelayReq_only (a0 : _) (a1 : _) (a2 : _) (a3 : _) (a4 : _) :
    OnlyRes [.sent, .chn] a4 (execDelayReq a0 a1 a2 a3 a4) := by
  unfold execDelayReq
  refine OnlyRes.next ?_
  refine Only.step (State.sendLocal_only ..) rfl ?_
  exact (Only.refl _ _)

theorem execDelayRsp_only (a0 : _) (a1 : _) (a2 : _) (a3 : _) (a4 : _) (a5 : _) :
    OnlyRes [.chn] a5 (execDelayRsp a0 a1 a2 a3 a4 a5) := by
  unfold execDelayRsp
  extract_lets +onlyGivenNames x1
  refine OnlyRes.next ?_
  refine Only.ite ?_ ?_
  · refine Only.step (State.modChLink_only ..) rfl ?_
    exact (Only.refl _ _)
  · exact (Only.refl _ _)

theorem execDeleteKey_only (a0 : _) (a1 : _) :
    OnlyRes [.keys] a1 (execDeleteKey a0 a1) := by
  unfold execDeleteKey
  extract_lets +onlyGivenNames x1
  refine OnlyRes.next ?_
  split
  · refine Only.step (State.vaultRefuse_only ..) rfl ?_
    exact (Only.refl _ _)
  · refine Only.step (State.vaultRefuse_only ..) rfl ?_
    exact (Only.refl _ _)
  · refine Only.ite ?_ ?_
    · refine Only.step (State.vaultRefuse_only ..) rfl ?_
      exact (Only.refl _ _)
    · refine Only.step (State.vaultDone_only ..) rfl ?_
      refine Only.step (State.dropSlot_only ..) rfl ?_
      exact (Only.refl _ _)

theorem execDeselect_only (a0 : _) :
    OnlyRes [.nfc] a0 (execDeselect a0) := by
  unfold execDeselect
  refine OnlyRes.next ?_
  refine Only.ite ?_ ?_
  · refine Only.step (State.modTag_only ..) rfl ?_
    exact (Only.refl _ _)
  · exact (Only.refl _ _)

theorem execDieTempCheck_only (a0 : _) (a1 : _) (a2 : _) (a3 : _) :
    OnlyRes [.ses, .sp, .sys, .cave, .host, .sent, .saf, .brk] a3 (execDieTempCheck a0 a1 a2 a3) := by
  unfold execDieTempCheck
  extract_lets +onlyGivenNames x1
  extract_lets +onlyGivenNames x2
  refine OnlyRes.keep x2 ?_ ?_
  · unfold x2
    refine Only.step (State.modSys_only ..) rfl ?_
    exact (Only.refl _ _)
  intro h1
  clear_value x2
  extract_lets +onlyGivenNames x3
  refine OnlyRes.keep x3 ?_ ?_
  · unfold x3
    refine Only.whenB (fun u1 h2 => ?_) ?_
    · refine Only.step (State.irqAll_only ..) rfl ?_
      exact h2
    · exact h1
  intro h3
  clear_value x3
  refine OnlyRes.next ?_
  refine Only.ite ?_ ?_
  · refine Only.step (State.diagFault_only ..) rfl ?_
    exact h3
  · refine Only.step (State.diagGone_only ..) rfl ?_
    exact h3

theorem execDiscrepancyTimeout_only (a0 : _) (a1 : _) :
    OnlyRes [.ses, .sp, .cave, .host, .sent, .saf, .brk] a1 (execDiscrepancyTimeout a0 a1) := by
  unfold execDiscrepancyTimeout
  extract_lets +onlyGivenNames x1
  extract_lets +onlyGivenNames x2
  refine OnlyRes.next ?_
  refine Only.ite ?_ ?_
  · refine Only.step (State.checkStop_only ..) rfl ?_
    refine Only.step (State.evalRows_only ..) rfl ?_
    refine Only.step (State.inputCheck_only ..) rfl ?_
    refine Only.step (State.inputFault_only ..) rfl ?_
    refine Only.step (State.inputFault_only ..) rfl ?_
    exact (Only.refl _ _)
  · exact (Only.refl _ _)

theorem execDozeEntry_only (a0 : _) :
    OnlyRes [.jnl, .sys, .cave, .nfc, .met, .msh, .host, .sl, .pq, .legal, .sent, .chn] a0 (execDozeEntry a0) := by
  unfold execDozeEntry
  refine OnlyRes.next ?_
  refine Only.ite ?_ ?_
  · exact (Only.refl _ _)
  · extract_lets +onlyGivenNames x1
    refine Only.step (State.sysChanged_only ..) rfl ?_
    refine Only.step (State.modHost_only ..) rfl ?_
    refine Only.step (State.modCave_only ..) rfl ?_
    refine Only.step (State.modSys_only ..) rfl ?_
    refine Only.step (State.loseSram_only ..) rfl ?_
    refine Only.step (State.linksRest_only ..) rfl ?_
    refine Only.step (State.stopSite_only ..) rfl ?_
    exact (Only.refl _ _)

theorem execDozeWake_only (a0 : _) (a1 : _) :
    OnlyRes [.sys, .cave, .msh, .host, .keys, .sent, .saf, .chn] a1 (execDozeWake a0 a1) := by
  unfold execDozeWake
  refine OnlyRes.next ?_
  refine Only.ite ?_ ?_
  · exact (Only.refl _ _)
  · extract_lets +onlyGivenNames x1
    refine Only.keep x1 ?_ ?_
    · unfold x1
      refine Only.step (State.modSleep_only ..) rfl ?_
      refine Only.step (State.modSys_only ..) rfl ?_
      exact (Only.refl _ _)
    intro h1
    clear_value x1
    extract_lets +onlyGivenNames x2
    refine Only.keep x2 ?_ ?_
    · unfold x2
      refine Only.step (State.modKeys_only ..) rfl ?_
      refine Only.step (State.modHost_only ..) rfl ?_
      refine Only.step (State.modMsh_only ..) rfl ?_
      refine Only.step (State.modCave_only ..) rfl ?_
      exact h1
    intro h2
    clear_value x2
    extract_lets +onlyGivenNames x3
    refine Only.keep x3 ?_ ?_
    · unfold x3
      refine Only.each (fun a1x u1 h3 => ?_) ?_
      · split
        · refine Only.step (State.endAbsence_only ..) rfl ?_
          exact h3
        · exact h3
      · exact h2
    intro h4
    clear_value x3
    extract_lets +onlyGivenNames x4
    refine Only.keep x4 ?_ ?_
    · unfold x4
      refine Only.ite ?_ ?_
      · refine Only.step (State.originate_only ..) rfl ?_
        exact h4
      · exact h4
    intro h5
    clear_value x4
    refine Only.step (State.sysChanged_only ..) rfl ?_
    refine Only.step (State.readSafety_only ..) rfl ?_
    exact h5

theorem execDriveLock_only (a0 : _) (a1 : _) :
    OnlyRes [.host, .veh, .lk] a1 (execDriveLock a0 a1) := by
  unfold execDriveLock
  extract_lets +onlyGivenNames x1
  extract_lets +onlyGivenNames x2
  refine OnlyRes.next ?_
  refine Only.ite ?_ ?_
  · refine Only.step (State.answer_only ..) rfl ?_
    exact (Only.refl _ _)
  · refine Only.ite ?_ ?_
    · refine Only.step (State.answer_only ..) rfl ?_
      exact (Only.refl _ _)
    · refine Only.step (State.startLock_only ..) rfl ?_
      refine Only.step (State.accept_only ..) rfl ?_
      exact (Only.refl _ _)

theorem execDriveWarning_only (a0 : _) (a1 : _) (a2 : _) (a3 : _) :
    OnlyRes [.cave] a3 (execDriveWarning a0 a1 a2 a3) := by
  unfold execDriveWarning
  refine OnlyRes.next ?_
  split
  · exact (Only.refl _ _)
  · extract_lets +onlyGivenNames x1
    refine Only.keep x1 ?_ ?_
    · unfold x1
      refine Only.step (State.modCave_only ..) rfl ?_
      exact (Only.refl _ _)
    intro h1
    clear_value x1
    refine Only.ite ?_ ?_
    · refine Only.step (State.caveRaise_only ..) rfl ?_
      exact h1
    · exact h1

theorem execDriverOffTest_only (a0 : _) (a1 : _) :
    OnlyRes [.ses, .sp, .cave, .host, .sent, .saf, .brk] a1 (execDriverOffTest a0 a1) := by
  unfold execDriverOffTest
  refine OnlyRes.next ?_
  refine Only.ite ?_ ?_
  · refine Only.step (State.diagGone_only ..) rfl ?_
    exact (Only.refl _ _)
  · refine Only.ite ?_ ?_
    · refine Only.step (State.diagFault_only ..) rfl ?_
      exact (Only.refl _ _)
    · exact (Only.refl _ _)

theorem execDspEventRead_only (a0 : _) (a1 : _) (a2 : _) :
    OnlyRes [.dsp, .sys, .msh, .host, .sent, .chn] a2 (execDspEventRead a0 a1 a2) := by
  unfold execDspEventRead
  refine OnlyRes.next ?_
  refine State.readEvent_only rfl (fun u1 h1 => ?_) ?_
  · refine Only.step (State.modDsp_only ..) rfl ?_
    exact h1
  · exact (Only.refl _ _)

theorem execEarlyWarningSaveRepeat_only (a0 : _) :
    OnlyRes [.jnl] a0 (execEarlyWarningSaveRepeat a0) := by
  unfold execEarlyWarningSaveRepeat
  refine OnlyRes.next ?_
  refine Only.ite ?_ ?_
  · refine Only.step (State.earlySaves_only ..) rfl ?_
    exact (Only.refl _ _)
  · exact (Only.refl _ _)

theorem execEccUncorrectable_only (a0 : _) :
    OnlyRes [.ses, .jnl, .dsp, .sp, .sys, .pm, .time, .cave, .nfc, .met, .msh, .host, .fw, .veh, .pq, .keys, .legal, .lease, .conf, .sent, .pwr, .bil, .nrg, .saf, .chn, .ls, .lk, .brk] a0 (execEccUncorrectable a0) := by
  unfold execEccUncorrectable
  refine OnlyRes.next ?_
  refine Only.step (State.chipReset_only ..) rfl ?_
  exact (Only.refl _ _)

theorem execEcho_only (a0 : _) (a1 : _) :
    OnlyRes [.host] a1 (execEcho a0 a1) := by
  unfold execEcho
  refine OnlyRes.next ?_
  refine Only.step (State.answer_only ..) rfl ?_
  exact (Only.refl _ _)

theorem execElectionStart_only (a0 : _) :
    OnlyRes [.msh, .sent, .chn] a0 (execElectionStart a0) := by
  unfold execElectionStart
  extract_lets +onlyGivenNames x1
  refine OnlyRes.next ?_
  refine Only.ite ?_ ?_
  · refine Only.step (State.elect_only ..) rfl ?_
    exact (Only.refl _ _)
  · exact (Only.refl _ _)

theorem execEndCalibration_only (a0 : _) (a1 : _) :
    OnlyRes [.met, .host] a1 (execEndCalibration a0 a1) := by
  unfold execEndCalibration
  refine OnlyRes.next ?_
  refine State.unlessVoid_only rfl (fun u1 h1 => ?_) ?_
  · extract_lets +onlyGivenNames x1
    extract_lets +onlyGivenNames x2
    refine Only.ite ?_ ?_
    · refine Only.step (State.answer_only ..) rfl ?_
      exact h1
    · split
      · refine Only.step (State.answer_only ..) rfl ?_
        exact h1
      · refine Only.step (State.accept_only ..) rfl ?_
        refine Only.step (State.modMet_only ..) rfl ?_
        exact h1
  · exact (Only.refl _ _)

theorem execExportKey_only (a0 : _) (a1 : _) :
    OnlyRes [.keys, .free] a1 (execExportKey a0 a1) := by
  unfold execExportKey
  extract_lets +onlyGivenNames x1
  extract_lets +onlyGivenNames x2
  extract_lets +onlyGivenNames x3
  refine OnlyRes.next ?_
  split
  · refine Only.step (State.vaultRefuse_only ..) rfl ?_
    exact (Only.refl _ _)
  · refine Only.ite ?_ ?_
    · refine Only.step (State.vaultRefuse_only ..) rfl ?_
      exact (Only.refl _ _)
    · refine Only.ite ?_ ?_
      · refine Only.ite ?_ ?_
        · refine Only.step (State.vaultRing_only ..) rfl ?_
          exact (Only.refl _ _)
        · refine Only.step (State.vaultRefuse_only ..) rfl ?_
          exact (Only.refl _ _)
      · split
        · refine Only.step (State.vaultRefuse_only ..) rfl ?_
          exact (Only.refl _ _)
        · extract_lets +onlyGivenNames x4
          refine Only.step (State.vaultRing_only ..) rfl ?_
          refine Only.step (State.useFree_only ..) rfl ?_
          exact (Only.refl _ _)

theorem execFeedback_only (a0 : _) (a1 : _) :
    OnlyRes [.ses, .sys, .pm, .host, .veh, .sent, .pwr] a1 (execFeedback a0 a1) := by
  unfold execFeedback
  refine OnlyRes.next ?_
  refine Only.step (State.advance_only ..) rfl ?_
  exact (Only.refl _ _)

theorem execFinalNotice_only (a0 : _) (a1 : _) :
    OnlyRes [.host] a1 (execFinalNotice a0 a1) := by
  unfold execFinalNotice
  refine OnlyRes.next ?_
  split
  · refine Only.step (State.modHost_only ..) rfl ?_
    exact (Only.refl _ _)
  · extract_lets +onlyGivenNames x1
    extract_lets +onlyGivenNames x2
    refine Only.step (State.modGuest_only ..) rfl ?_
    refine Only.step (State.modHost_only ..) rfl ?_
    exact (Only.refl _ _)

theorem execFinalTest_only (a0 : _) :
    OnlyRes [.keys, .rind] a0 (execFinalTest a0) := by
  unfold execFinalTest
  refine OnlyRes.next ?_
  refine Only.ite ?_ ?_
  · exact (Only.refl _ _)
  · refine Only.step (State.keyRaise_only ..) rfl ?_
    refine Only.step (State.auditRind_only ..) rfl ?_
    refine Only.step (State.modRind_only ..) rfl ?_
    exact (Only.refl _ _)

theorem execFindCaveRecord_only (a0 : _) (a1 : _) :
    OnlyRes [.host, .sent] a1 (execFindCaveRecord a0 a1) := by
  unfold execFindCaveRecord
  extract_lets +onlyGivenNames x1
  extract_lets +onlyGivenNames x2
  extract_lets +onlyGivenNames x3
  extract_lets +onlyGivenNames x4
  refine OnlyRes.next ?_
  refine Only.ite ?_ ?_
  · refine Only.step (State.answer_only ..) rfl ?_
    exact (Only.refl _ _)
  · refine Only.ite ?_ ?_
    · refine Only.step (State.answer_only ..) rfl ?_
      exact (Only.refl _ _)
    · extract_lets +onlyGivenNames x5
      extract_lets +onlyGivenNames x6
      extract_lets +onlyGivenNames x7
      refine Only.step (State.answerRing_only ..) rfl ?_
      exact (Only.refl _ _)

theorem execFirewallAccess_only (a0 : _) (a1 : _) :
    OnlyRes [.sys] a1 (execFirewallAccess a0 a1) := by
  unfold execFirewallAccess
  refine OnlyRes.next ?_
  refine Only.step (State.modSys_only ..) rfl ?_
  exact (Only.refl _ _)

theorem execFlr_only (a0 : _) (a1 : _) :
    OnlyRes [.sys, .msh, .host, .sent, .chn] a1 (execFlr a0 a1) := by
  unfold execFlr
  refine OnlyRes.next ?_
  refine State.cfgRequest_only rfl (fun u1 h1 => ?_) ?_
  · refine Only.ite ?_ ?_
    · exact h1
    · refine Only.ite ?_ ?_
      · refine Only.each (fun a1x u2 h2 => ?_) ?_
        · refine Only.step (State.trigger_only ..) rfl ?_
          exact h2
        · exact h1
      · refine Only.step (State.trigger_only ..) rfl ?_
        exact h1
  · exact (Only.refl _ _)

theorem execFormatCave_only (a0 : _) (a1 : _) :
    OnlyRes [.cave, .host, .sent] a1 (execFormatCave a0 a1) := by
  unfold execFormatCave
  extract_lets +onlyGivenNames x1
  refine OnlyRes.next ?_
  refine Only.ite ?_ ?_
  · refine Only.step (State.answer_only ..) rfl ?_
    exact (Only.refl _ _)
  · refine Only.ite ?_ ?_
    · refine Only.step (State.answer_only ..) rfl ?_
      exact (Only.refl _ _)
    · extract_lets +onlyGivenNames x2
      refine Only.ite ?_ ?_
      · refine Only.step (State.answer_only ..) rfl ?_
        exact (Only.refl _ _)
      · extract_lets +onlyGivenNames x3
        refine Only.keep x3 ?_ ?_
        · unfold x3
          refine Only.step (State.modCave_only ..) rfl ?_
          exact (Only.refl _ _)
        intro h1
        clear_value x3
        refine Only.step (State.answer_only ..) rfl ?_
        refine Only.step (State.shed_only ..) rfl ?_
        refine Only.step (State.setCave_only ..) rfl ?_
        refine Only.ite ?_ ?_
        · refine Only.step (State.runRecord_only ..) rfl ?_
          exact h1
        · exact h1

theorem execFrameBoundary_only (a0 : _) :
    OnlyRes [.dsp, .free] a0 (execFrameBoundary a0) := by
  unfold execFrameBoundary
  extract_lets +onlyGivenNames x1
  refine OnlyRes.keep x1 ?_ ?_
  · unfold x1
    refine Only.step (State.takeGeometry_only ..) rfl ?_
    exact (Only.refl _ _)
  intro h1
  clear_value x1
  extract_lets +onlyGivenNames x2
  extract_lets +onlyGivenNames x3
  extract_lets +onlyGivenNames x4
  extract_lets +onlyGivenNames x5
  extract_lets +onlyGivenNames x6
  extract_lets +onlyGivenNames x7
  refine OnlyRes.keep x7 ?_ ?_
  · unfold x7
    refine Only.step (State.modDsp_only ..) rfl ?_
    exact h1
  intro h2
  clear_value x7
  refine OnlyRes.next ?_
  refine Only.ite ?_ ?_
  · exact h2
  · refine Only.step (State.dspRaise_only ..) rfl ?_
    exact h2

theorem execFwBlock_only (a0 : _) (a1 : _) (a2 : _) (a3 : _) (a4 : _) :
    OnlyRes [.msh, .host, .fw, .free, .sent, .chn] a4 (execFwBlock a0 a1 a2 a3 a4) := by
  unfold execFwBlock
  refine OnlyRes.next ?_
  refine State.chainRx_only rfl (fun u1 h1 => ?_) ?_
  · refine Only.step (State.eatBlock_only ..) rfl ?_
    exact h1
  · exact (Only.refl _ _)

theorem execFwNack_only (a0 : _) (a1 : _) (a2 : _) (a3 : _) (a4 : _) :
    OnlyRes [.msh, .host, .fw, .free, .sent, .chn] a4 (execFwNack a0 a1 a2 a3 a4) := by
  unfold execFwNack
  refine OnlyRes.next ?_
  refine State.chainRx_only rfl (fun u1 h1 => ?_) ?_
  · refine Only.step (State.eatNack_only ..) rfl ?_
    exact h1
  · exact (Only.refl _ _)

theorem execFwOffer_only (a0 : _) (a1 : _) (a2 : _) :
    OnlyRes [.msh, .host, .fw, .free, .sent, .chn] a2 (execFwOffer a0 a1 a2) := by
  unfold execFwOffer
  refine OnlyRes.next ?_
  refine State.chainRx_only rfl (fun u1 h1 => ?_) ?_
  · refine Only.step (State.eatOffer_only ..) rfl ?_
    exact h1
  · exact (Only.refl _ _)

theorem execFwReq_only (a0 : _) (a1 : _) :
    OnlyRes [.msh, .fw, .sent, .chn] a1 (execFwReq a0 a1) := by
  unfold execFwReq
  refine OnlyRes.next ?_
  refine Only.ite ?_ ?_
  · refine Only.step (State.offerImage_only ..) rfl ?_
    exact (Only.refl _ _)
  · exact (Only.refl _ _)

theorem execGenerateKey_only (a0 : _) (a1 : _) :
    OnlyRes [.keys, .free] a1 (execGenerateKey a0 a1) := by
  unfold execGenerateKey
  extract_lets +onlyGivenNames x1
  extract_lets +onlyGivenNames x2
  extract_lets +onlyGivenNames x3
  refine OnlyRes.next ?_
  split
  · refine Only.step (State.vaultRefuse_only ..) rfl ?_
    exact (Only.refl _ _)
  · refine Only.ite ?_ ?_
    · refine Only.step (State.vaultRefuse_only ..) rfl ?_
      exact (Only.refl _ _)
    · refine Only.ite ?_ ?_
      · refine Only.step (State.vaultRefuse_only ..) rfl ?_
        exact (Only.refl _ _)
      · refine Only.ite ?_ ?_
        · refine Only.step (State.vaultRefuse_only ..) rfl ?_
          exact (Only.refl _ _)
        · extract_lets +onlyGivenNames x4
          refine Only.step (State.vaultDone_only ..) rfl ?_
          refine Only.step (State.useFree_only ..) rfl ?_
          refine Only.step (State.putSlot_only ..) rfl ?_
          exact (Only.refl _ _)

theorem execGetAccumulator_only (a0 : _) (a1 : _) :
    OnlyRes [.host] a1 (execGetAccumulator a0 a1) := by
  unfold execGetAccumulator
  refine OnlyRes.next ?_
  refine State.unlessVoid_only rfl (fun u1 h1 => ?_) ?_
  · extract_lets +onlyGivenNames x1
    extract_lets +onlyGivenNames x2
    extract_lets +onlyGivenNames x3
    refine Only.step (State.answer_only ..) rfl ?_
    exact h1
  · exact (Only.refl _ _)

theorem execGetActuatorStatus_only (a0 : _) (a1 : _) :
    OnlyRes [.host] a1 (execGetActuatorStatus a0 a1) := by
  unfold execGetActuatorStatus
  extract_lets +onlyGivenNames x1
  refine OnlyRes.next ?_
  refine Only.step (State.answer_only ..) rfl ?_
  exact (Only.refl _ _)

theorem execGetAttestation_only (a0 : _) (a1 : _) :
    OnlyRes [.keys] a1 (execGetAttestation a0 a1) := by
  unfold execGetAttestation
  refine OnlyRes.next ?_
  split
  · refine Only.step (State.vaultRefuse_only ..) rfl ?_
    exact (Only.refl _ _)
  · extract_lets +onlyGivenNames x1
    refine Only.step (State.vaultRing_only ..) rfl ?_
    exact (Only.refl _ _)

theorem execGetAuditLog_only (a0 : _) (a1 : _) :
    OnlyRes [.host, .sent] a1 (execGetAuditLog a0 a1) := by
  unfold execGetAuditLog
  extract_lets +onlyGivenNames x1
  refine OnlyRes.next ?_
  refine Only.ite ?_ ?_
  · refine Only.step (State.answer_only ..) rfl ?_
    exact (Only.refl _ _)
  · refine Only.ite ?_ ?_
    · refine Only.step (State.answer_only ..) rfl ?_
      exact (Only.refl _ _)
    · extract_lets +onlyGivenNames x2
      extract_lets +onlyGivenNames x3
      refine Only.step (State.answerRing_only ..) rfl ?_
      exact (Only.refl _ _)

theorem execGetBillingStatus_only (a0 : _) (a1 : _) :
    OnlyRes [.host] a1 (execGetBillingStatus a0 a1) := by
  unfold execGetBillingStatus
  refine OnlyRes.next ?_
  refine State.unlessVoid_only rfl (fun u1 h1 => ?_) ?_
  · refine Only.step (State.answer_only ..) rfl ?_
    exact h1
  · exact (Only.refl _ _)

theorem execGetCalCoeff_only (a0 : _) (a1 : _) :
    OnlyRes [.host] a1 (execGetCalCoeff a0 a1) := by
  unfold execGetCalCoeff
  refine OnlyRes.next ?_
  refine State.unlessVoid_only rfl (fun u1 h1 => ?_) ?_
  · split
    · refine Only.step (State.answer_only ..) rfl ?_
      exact h1
    · extract_lets +onlyGivenNames x1
      extract_lets +onlyGivenNames x2
      refine Only.ite ?_ ?_
      · split
        · try dsimp -zeta only [x2]
          refine Only.step (State.answer_only ..) rfl ?_
          exact h1
        · refine Only.step (State.answer_only ..) rfl ?_
          exact h1
      · try dsimp -zeta only [x2]
        refine Only.step (State.answer_only ..) rfl ?_
        exact h1
  · exact (Only.refl _ _)

theorem execGetCaveStatus_only (a0 : _) (a1 : _) :
    OnlyRes [.host] a1 (execGetCaveStatus a0 a1) := by
  unfold execGetCaveStatus
  refine OnlyRes.next ?_
  refine Only.step (State.answer_only ..) rfl ?_
  exact (Only.refl _ _)

theorem execGetCertRequest_only (a0 : _) (a1 : _) :
    OnlyRes [.host, .veh, .sent] a1 (execGetCertRequest a0 a1) := by
  unfold execGetCertRequest
  extract_lets +onlyGivenNames x1
  refine OnlyRes.next ?_
  refine Only.ite ?_ ?_
  · refine Only.step (State.answer_only ..) rfl ?_
    exact (Only.refl _ _)
  · refine Only.step (State.answerRing_only ..) rfl ?_
    refine Only.step (State.modVeh_only ..) rfl ?_
    exact (Only.refl _ _)

theorem execGetChainHead_only (a0 : _) (a1 : _) :
    OnlyRes [.host] a1 (execGetChainHead a0 a1) := by
  unfold execGetChainHead
  refine OnlyRes.next ?_
  refine State.unlessVoid_only rfl (fun u1 h1 => ?_) ?_
  · refine Only.step (State.answer_only ..) rfl ?_
    exact h1
  · exact (Only.refl _ _)

theorem execGetChainMembers_only (a0 : _) (a1 : _) :
    OnlyRes [.host, .sent] a1 (execGetChainMembers a0 a1) := by
  unfold execGetChainMembers
  extract_lets +onlyGivenNames x1
  extract_lets +onlyGivenNames x2
  refine OnlyRes.next ?_
  refine Only.step (State.answerRing_only ..) rfl ?_
  exact (Only.refl _ _)

theorem execGetChainStatus_only (a0 : _) (a1 : _) :
    OnlyRes [.host] a1 (execGetChainStatus a0 a1) := by
  unfold execGetChainStatus
  refine OnlyRes.next ?_
  refine Only.step (State.answer_only ..) rfl ?_
  exact (Only.refl _ _)

theorem execGetChallenge_only (a0 : _) :
    OnlyRes [.nfc, .free, .sent] a0 (execGetChallenge a0) := by
  unfold execGetChallenge
  extract_lets +onlyGivenNames x1
  refine OnlyRes.next ?_
  refine State.selected_only rfl (fun u1 h1 => ?_) ?_
  · refine Only.step (State.tagSays_only ..) rfl ?_
    refine Only.step (State.modTag_only ..) rfl ?_
    refine Only.step (State.modFree_only ..) rfl ?_
    exact h1
  · exact (Only.refl _ _)

theorem execGetChannelReading_only (a0 : _) (a1 : _) :
    OnlyRes [.host] a1 (execGetChannelReading a0 a1) := by
  unfold execGetChannelReading
  refine OnlyRes.next ?_
  refine State.unlessVoid_only rfl (fun u1 h1 => ?_) ?_
  · split
    · refine Only.step (State.answer_only ..) rfl ?_
      exact h1
    · extract_lets +onlyGivenNames x1
      extract_lets +onlyGivenNames x2
      extract_lets +onlyGivenNames x3
      extract_lets +onlyGivenNames x4
      refine Only.step (State.answer_only ..) rfl ?_
      exact h1
  · exact (Only.refl _ _)

theorem execGetCommandCost_only (a0 : _) (a1 : _) :
    OnlyRes [.host] a1 (execGetCommandCost a0 a1) := by
  unfold execGetCommandCost
  extract_lets +onlyGivenNames x1
  refine OnlyRes.next ?_
  split
  · refine Only.step (State.answer_only ..) rfl ?_
    exact (Only.refl _ _)
  · refine Only.ite ?_ ?_
    · refine Only.step (State.answer_only ..) rfl ?_
      exact (Only.refl _ _)
    · refine Only.step (State.answer_only ..) rfl ?_
      exact (Only.refl _ _)

theorem execGetConfigState_only (a0 : _) (a1 : _) :
    OnlyRes [.host] a1 (execGetConfigState a0 a1) := by
  unfold execGetConfigState
  extract_lets +onlyGivenNames x1
  refine OnlyRes.next ?_
  refine Only.step (State.answer_only ..) rfl ?_
  exact (Only.refl _ _)

theorem execGetConverterLimits_only (a0 : _) (a1 : _) :
    OnlyRes [.host] a1 (execGetConverterLimits a0 a1) := by
  unfold execGetConverterLimits
  extract_lets +onlyGivenNames x1
  extract_lets +onlyGivenNames x2
  refine OnlyRes.next ?_
  refine Only.step (State.answer_only ..) rfl ?_
  exact (Only.refl _ _)

theorem execGetDeviceInfo_only (a0 : _) (a1 : _) :
    OnlyRes [.host] a1 (execGetDeviceInfo a0 a1) := by
  unfold execGetDeviceInfo
  extract_lets +onlyGivenNames x1
  refine OnlyRes.next ?_
  refine Only.step (State.answer_only ..) rfl ?_
  exact (Only.refl _ _)

theorem execGetDisplayStatus_only (a0 : _) (a1 : _) :
    OnlyRes [.host] a1 (execGetDisplayStatus a0 a1) := by
  unfold execGetDisplayStatus
  refine OnlyRes.next ?_
  refine Only.step (State.answer_only ..) rfl ?_
  exact (Only.refl _ _)

theorem execGetEarthStatus_only (a0 : _) (a1 : _) :
    OnlyRes [.host] a1 (execGetEarthStatus a0 a1) := by
  unfold execGetEarthStatus
  refine OnlyRes.next ?_
  refine Only.step (State.answer_only ..) rfl ?_
  exact (Only.refl _ _)

theorem execGetEnergyStatus_only (a0 : _) (a1 : _) :
    OnlyRes [.host] a1 (execGetEnergyStatus a0 a1) := by
  unfold execGetEnergyStatus
  refine OnlyRes.next ?_
  refine State.unlessVoid_only rfl (fun u1 h1 => ?_) ?_
  · refine Only.step (State.answer_only ..) rfl ?_
    exact h1
  · exact (Only.refl _ _)

theorem execGetGuestConfig_only (a0 : _) (a1 : _) :
    OnlyRes [.host] a1 (execGetGuestConfig a0 a1) := by
  unfold execGetGuestConfig
  extract_lets +onlyGivenNames x1
  extract_lets +onlyGivenNames x2
  refine OnlyRes.next ?_
  refine Only.ite ?_ ?_
  · refine Only.step (State.answer_only ..) rfl ?_
    exact (Only.refl _ _)
  · refine Only.step (State.answer_only ..) rfl ?_
    exact (Only.refl _ _)

theorem execGetHeadInfo_only (a0 : _) (a1 : _) :
    OnlyRes [.host] a1 (execGetHeadInfo a0 a1) := by
  unfold execGetHeadInfo
  refine OnlyRes.next ?_
  refine State.unlessVoid_only rfl (fun u1 h1 => ?_) ?_
  · split
    · extract_lets +onlyGivenNames x1
      extract_lets +onlyGivenNames x2
      extract_lets +onlyGivenNames x3
      refine Only.step (State.answer_only ..) rfl ?_
      exact h1
    · refine Only.step (State.answer_only ..) rfl ?_
      exact h1
  · exact (Only.refl _ _)

theorem execGetImageDigest_only (a0 : _) (a1 : _) :
    OnlyRes [.host] a1 (execGetImageDigest a0 a1) := by
  unfold execGetImageDigest
  refine OnlyRes.next ?_
  refine Only.ite ?_ ?_
  · refine Only.step (State.answer_only ..) rfl ?_
    exact (Only.refl _ _)
  · extract_lets +onlyGivenNames x1
    extract_lets +onlyGivenNames x2
    extract_lets +onlyGivenNames x3
    refine Only.step (State.answer_only ..) rfl ?_
    exact (Only.refl _ _)

theorem execGetImdGroup_only (a0 : _) (a1 : _) :
    OnlyRes [.host] a1 (execGetImdGroup a0 a1) := by
  unfold execGetImdGroup
  extract_lets +onlyGivenNames x1
  extract_lets +onlyGivenNames x2
  extract_lets +onlyGivenNames x3
  refine OnlyRes.next ?_
  refine Only.step (State.answer_only ..) rfl ?_
  exact (Only.refl _ _)

theorem execGetJournalStatus_only (a0 : _) (a1 : _) :
    OnlyRes [.host] a1 (execGetJournalStatus a0 a1) := by
  unfold execGetJournalStatus
  refine OnlyRes.next ?_
  refine Only.step (State.answer_only ..) rfl ?_
  exact (Only.refl _ _)

theorem execGetKeyStatus_only (a0 : _) (a1 : _) :
    OnlyRes [.host] a1 (execGetKeyStatus a0 a1) := by
  unfold execGetKeyStatus
  refine OnlyRes.next ?_
  refine Only.step (State.answer_only ..) rfl ?_
  exact (Only.refl _ _)

theorem execGetLeaseStatus_only (a0 : _) (a1 : _) :
    OnlyRes [.host] a1 (execGetLeaseStatus a0 a1) := by
  unfold execGetLeaseStatus
  refine OnlyRes.next ?_
  refine Only.step (State.answer_only ..) rfl ?_
  exact (Only.refl _ _)

theorem execGetLegalPubkey_only (a0 : _) (a1 : _) :
    OnlyRes [.host] a1 (execGetLegalPubkey a0 a1) := by
  unfold execGetLegalPubkey
  refine OnlyRes.next ?_
  refine State.unlessVoid_only rfl (fun u1 h1 => ?_) ?_
  · extract_lets +onlyGivenNames x1
    refine Only.step (State.answer_only ..) rfl ?_
    exact h1
  · exact (Only.refl _ _)

theorem execGetLinkCounters_only (a0 : _) (a1 : _) :
    OnlyRes [.host] a1 (execGetLinkCounters a0 a1) := by
  unfold execGetLinkCounters
  extract_lets +onlyGivenNames x1
  refine OnlyRes.next ?_
  refine Only.step (State.answer_only ..) rfl ?_
  exact (Only.refl _ _)

theorem execGetLinkStats_only (a0 : _) (a1 : _) :
    OnlyRes [.host, .veh, .free, .sent] a1 (execGetLinkStats a0 a1) := by
  unfold execGetLinkStats
  extract_lets +onlyGivenNames x1
  extract_lets +onlyGivenNames x2
  refine OnlyRes.keep x2 ?_ ?_
  · unfold x2
    refine Only.step (State.updateStats_only ..) rfl ?_
    exact (Only.refl _ _)
  intro h1
  clear_value x2
  extract_lets +onlyGivenNames x3
  extract_lets +onlyGivenNames x4
  extract_lets +onlyGivenNames x5
  refine OnlyRes.next ?_
  refine Only.step (State.answer_only ..) rfl ?_
  refine Only.step (State.useFree_only ..) rfl ?_
  exact h1

theorem execGetLkStatus_only (a0 : _) (a1 : _) :
    OnlyRes [.host] a1 (execGetLkStatus a0 a1) := by
  unfold execGetLkStatus
  extract_lets +onlyGivenNames x1
  refine OnlyRes.next ?_
  refine Only.step (State.answer_only ..) rfl ?_
  exact (Only.refl _ _)

theorem execGetLsChannel_only (a0 : _) (a1 : _) :
    OnlyRes [.host] a1 (execGetLsChannel a0 a1) := by
  unfold execGetLsChannel
  refine OnlyRes.next ?_
  split
  · extract_lets +onlyGivenNames x1
    refine Only.step (State.answer_only ..) rfl ?_
    exact (Only.refl _ _)
  · refine Only.step (State.answer_only ..) rfl ?_
    exact (Only.refl _ _)

theorem execGetLsStatus_only (a0 : _) (a1 : _) :
    OnlyRes [.host] a1 (execGetLsStatus a0 a1) := by
  unfold execGetLsStatus
  refine OnlyRes.next ?_
  refine Only.step (State.answer_only ..) rfl ?_
  exact (Only.refl _ _)

theorem execGetMeshNeighbours_only (a0 : _) (a1 : _) :
    OnlyRes [.host, .sent] a1 (execGetMeshNeighbours a0 a1) := by
  unfold execGetMeshNeighbours
  extract_lets +onlyGivenNames x1
  extract_lets +onlyGivenNames x2
  refine OnlyRes.next ?_
  refine Only.step (State.answerRing_only ..) rfl ?_
  exact (Only.refl _ _)

theorem execGetMeshStatus_only (a0 : _) (a1 : _) :
    OnlyRes [.host] a1 (execGetMeshStatus a0 a1) := by
  unfold execGetMeshStatus
  refine OnlyRes.next ?_
  refine Only.step (State.answer_only ..) rfl ?_
  exact (Only.refl _ _)

theorem execGetMetrologyStatus_only (a0 : _) (a1 : _) :
    OnlyRes [.host] a1 (execGetMetrologyStatus a0 a1) := by
  unfold execGetMetrologyStatus
  refine OnlyRes.next ?_
  refine State.unlessVoid_only rfl (fun u1 h1 => ?_) ?_
  · refine Only.step (State.answer_only ..) rfl ?_
    exact h1
  · exact (Only.refl _ _)

theorem execGetMirroredEvents_only (a0 : _) (a1 : _) :
    OnlyRes [.host, .sent] a1 (execGetMirroredEvents a0 a1) := by
  unfold execGetMirroredEvents
  extract_lets +onlyGivenNames x1
  extract_lets +onlyGivenNames x2
  refine OnlyRes.next ?_
  refine Only.ite ?_ ?_
  · refine Only.step (State.answer_only ..) rfl ?_
    exact (Only.refl _ _)
  · refine Only.ite ?_ ?_
    · refine Only.step (State.answer_only ..) rfl ?_
      exact (Only.refl _ _)
    · refine Only.step (State.answerRing_only ..) rfl ?_
      exact (Only.refl _ _)

theorem execGetNfcStatus_only (a0 : _) (a1 : _) :
    OnlyRes [.host] a1 (execGetNfcStatus a0 a1) := by
  unfold execGetNfcStatus
  refine OnlyRes.next ?_
  refine Only.step (State.answer_only ..) rfl ?_
  exact (Only.refl _ _)

theorem execGetOpticalStatus_only (a0 : _) (a1 : _) :
    OnlyRes [.host] a1 (execGetOpticalStatus a0 a1) := by
  unfold execGetOpticalStatus
  refine OnlyRes.next ?_
  refine Only.step (State.answer_only ..) rfl ?_
  exact (Only.refl _ _)

theorem execGetPhaseMap_only (a0 : _) (a1 : _) :
    OnlyRes [.host, .sent] a1 (execGetPhaseMap a0 a1) := by
  unfold execGetPhaseMap
  extract_lets +onlyGivenNames x1
  extract_lets +onlyGivenNames x2
  refine OnlyRes.next ?_
  refine Only.step (State.answerRing_only ..) rfl ?_
  exact (Only.refl _ _)

theorem execGetPmLinkStats_only (a0 : _) (a1 : _) :
    OnlyRes [.host] a1 (execGetPmLinkStats a0 a1) := by
  unfold execGetPmLinkStats
  extract_lets +onlyGivenNames x1
  extract_lets +onlyGivenNames x2
  refine OnlyRes.next ?_
  refine Only.step (State.answer_only ..) rfl ?_
  exact (Only.refl _ _)

theorem execGetPortSafety_only (a0 : _) (a1 : _) :
    OnlyRes [.host] a1 (execGetPortSafety a0 a1) := by
  unfold execGetPortSafety
  refine OnlyRes.next ?_
  refine Only.step (State.answer_only ..) rfl ?_
  exact (Only.refl _ _)

theorem execGetPortStatus_only (a0 : _) (a1 : _) :
    OnlyRes [.host] a1 (execGetPortStatus a0 a1) := by
  unfold execGetPortStatus
  refine OnlyRes.next ?_
  refine Only.step (State.answer_only ..) rfl ?_
  exact (Only.refl _ _)

theorem execGetPowerStatus_only (a0 : _) (a1 : _) :
    OnlyRes [.host] a1 (execGetPowerStatus a0 a1) := by
  unfold execGetPowerStatus
  refine OnlyRes.next ?_
  refine Only.step (State.answer_only ..) rfl ?_
  exact (Only.refl _ _)

theorem execGetPqEvents_only (a0 : _) (a1 : _) :
    OnlyRes [.host, .sent] a1 (execGetPqEvents a0 a1) := by
  unfold execGetPqEvents
  refine OnlyRes.next ?_
  refine State.unlessVoid_only rfl (fun u1 h1 => ?_) ?_
  · extract_lets +onlyGivenNames x1
    refine Only.ite ?_ ?_
    · refine Only.step (State.answer_only ..) rfl ?_
      exact h1
    · extract_lets +onlyGivenNames x2
      extract_lets +onlyGivenNames x3
      extract_lets +onlyGivenNames x4
      refine Only.step (State.answerRing_only ..) rfl ?_
      exact h1
  · exact (Only.refl _ _)

theorem execGetPqStatus_only (a0 : _) (a1 : _) :
    OnlyRes [.host] a1 (execGetPqStatus a0 a1) := by
  unfold execGetPqStatus
  refine OnlyRes.next ?_
  refine State.unlessVoid_only rfl (fun u1 h1 => ?_) ?_
  · extract_lets +onlyGivenNames x1
    refine Only.step (State.answer_only ..) rfl ?_
    exact h1
  · exact (Only.refl _ _)

theorem execGetPublicKey_only (a0 : _) (a1 : _) :
    OnlyRes [.keys] a1 (execGetPublicKey a0 a1) := by
  unfold execGetPublicKey
  extract_lets +onlyGivenNames x1
  refine OnlyRes.next ?_
  split
  · refine Only.step (State.vaultRefuse_only ..) rfl ?_
    exact (Only.refl _ _)
  · refine Only.ite ?_ ?_
    · refine Only.step (State.vaultRing_only ..) rfl ?_
      exact (Only.refl _ _)
    · refine Only.step (State.vaultRefuse_only ..) rfl ?_
      exact (Only.refl _ _)

theorem execGetQueueState_only (a0 : _) (a1 : _) :
    OnlyRes [.host] a1 (execGetQueueState a0 a1) := by
  unfold execGetQueueState
  extract_lets +onlyGivenNames x1
  extract_lets +onlyGivenNames x2
  extract_lets +onlyGivenNames x3
  refine OnlyRes.next ?_
  refine Only.ite ?_ ?_
  · refine Only.step (State.answer_only ..) rfl ?_
    exact (Only.refl _ _)
  · refine Only.step (State.answer_only ..) rfl ?_
    exact (Only.refl _ _)

theorem execGetRegisters_only (a0 : _) (a1 : _) :
    OnlyRes [.host] a1 (execGetRegisters a0 a1) := by
  unfold execGetRegisters
  refine OnlyRes.next ?_
  refine State.unlessVoid_only rfl (fun u1 h1 => ?_) ?_
  · extract_lets +onlyGivenNames x1
    extract_lets +onlyGivenNames x2
    extract_lets +onlyGivenNames x3
    refine Only.ite ?_ ?_
    · refine Only.step (State.answer_only ..) rfl ?_
      exact h1
    · refine Only.step (State.answer_only ..) rfl ?_
      exact h1
  · exact (Only.refl _ _)

theorem execGetSafetyStatus_only (a0 : _) (a1 : _) :
    OnlyRes [.host] a1 (execGetSafetyStatus a0 a1) := by
  unfold execGetSafetyStatus
  refine OnlyRes.next ?_
  refine Only.step (State.answer_only ..) rfl ?_
  exact (Only.refl _ _)

theorem execGetSafetyTableInfo_only (a0 : _) (a1 : _) :
    OnlyRes [.host] a1 (execGetSafetyTableInfo a0 a1) := by
  unfold execGetSafetyTableInfo
  refine OnlyRes.next ?_
  refine Only.step (State.answer_only ..) rfl ?_
  exact (Only.refl _ _)

theorem execGetSealChallenge_only (a0 : _) (a1 : _) :
    OnlyRes [.host, .legal, .free] a1 (execGetSealChallenge a0 a1) := by
  unfold execGetSealChallenge
  refine OnlyRes.next ?_
  refine Only.ite ?_ ?_
  · refine Only.step (State.answer_only ..) rfl ?_
    exact (Only.refl _ _)
  · refine State.unlessVoid_only rfl (fun u1 h1 => ?_) ?_
    · refine Only.ite ?_ ?_
      · refine Only.step (State.answer_only ..) rfl ?_
        exact h1
      · extract_lets +onlyGivenNames x1
        refine Only.step (State.answer_only ..) rfl ?_
        refine Only.step (State.useFree_only ..) rfl ?_
        refine Only.step (State.modLegal_only ..) rfl ?_
        exact h1
    · exact (Only.refl _ _)

theorem execGetSealStatus_only (a0 : _) (a1 : _) :
    OnlyRes [.host] a1 (execGetSealStatus a0 a1) := by
  unfold execGetSealStatus
  refine OnlyRes.next ?_
  refine Only.step (State.answer_only ..) rfl ?_
  exact (Only.refl _ _)

theorem execGetSessionRecord_only (a0 : _) (a1 : _) :
    OnlyRes [.host, .sent] a1 (execGetSessionRecord a0 a1) := by
  unfold execGetSessionRecord
  refine OnlyRes.next ?_
  refine State.unlessVoid_only rfl (fun u1 h1 => ?_) ?_
  · extract_lets +onlyGivenNames x1
    split
    · refine Only.step (State.answerRing_only ..) rfl ?_
      exact h1
    · refine Only.step (State.answer_only ..) rfl ?_
      exact h1
  · exact (Only.refl _ _)

theorem execGetSessionStatus_only (a0 : _) (a1 : _) :
    OnlyRes [.host] a1 (execGetSessionStatus a0 a1) := by
  unfold execGetSessionStatus
  refine OnlyRes.next ?_
  refine Only.step (State.answer_only ..) rfl ?_
  exact (Only.refl _ _)

theorem execGetSessionSummary_only (a0 : _) (a1 : _) :
    OnlyRes [.host] a1 (execGetSessionSummary a0 a1) := by
  unfold execGetSessionSummary
  extract_lets +onlyGivenNames x1
  extract_lets +onlyGivenNames x2
  extract_lets +onlyGivenNames x3
  extract_lets +onlyGivenNames x4
  extract_lets +onlyGivenNames x5
  extract_lets +onlyGivenNames x6
  extract_lets +onlyGivenNames x7
  refine OnlyRes.next ?_
  refine Only.step (State.answer_only ..) rfl ?_
  exact (Only.refl _ _)

theorem execGetSlotInfo_only (a0 : _) (a1 : _) :
    OnlyRes [.keys] a1 (execGetSlotInfo a0 a1) := by
  unfold execGetSlotInfo
  extract_lets +onlyGivenNames x1
  refine OnlyRes.next ?_
  split
  · refine Only.step (State.vaultRefuse_only ..) rfl ?_
    exact (Only.refl _ _)
  · refine Only.step (State.vaultRefuse_only ..) rfl ?_
    exact (Only.refl _ _)
  · refine Only.ite ?_ ?_
    · refine Only.step (State.vaultDone_only ..) rfl ?_
      exact (Only.refl _ _)
    · refine Only.step (State.vaultRefuse_only ..) rfl ?_
      exact (Only.refl _ _)

theorem execGetSupplyStatus_only (a0 : _) (a1 : _) :
    OnlyRes [.host] a1 (execGetSupplyStatus a0 a1) := by
  unfold execGetSupplyStatus
  refine OnlyRes.next ?_
  refine State.unlessVoid_only rfl (fun u1 h1 => ?_) ?_
  · refine Only.step (State.answer_only ..) rfl ?_
    exact h1
  · exact (Only.refl _ _)

theorem execGetTamperRecord_only (a0 : _) (a1 : _) :
    OnlyRes [.host, .sent] a1 (execGetTamperRecord a0 a1) := by
  unfold execGetTamperRecord
  refine OnlyRes.next ?_
  refine State.unlessVoid_only rfl (fun u1 h1 => ?_) ?_
  · extract_lets +onlyGivenNames x1
    split
    · refine Only.step (State.answerRing_only ..) rfl ?_
      exact h1
    · refine Only.step (State.answer_only ..) rfl ?_
      exact h1
  · exact (Only.refl _ _)

theorem execGetTamperStatus_only (a0 : _) (a1 : _) :
    OnlyRes [.host] a1 (execGetTamperStatus a0 a1) := by
  unfold execGetTamperStatus
  refine OnlyRes.next ?_
  refine State.unlessVoid_only rfl (fun u1 h1 => ?_) ?_
  · refine Only.step (State.answer_only ..) rfl ?_
    exact h1
  · exact (Only.refl _ _)

theorem execGetToneMap_only (a0 : _) (a1 : _) :
    OnlyRes [.host, .sent] a1 (execGetToneMap a0 a1) := by
  unfold execGetToneMap
  refine OnlyRes.next ?_
  split
  · refine Only.ite ?_ ?_
    · refine Only.step (State.answer_only ..) rfl ?_
      exact (Only.refl _ _)
    · extract_lets +onlyGivenNames x1
      refine Only.step (State.answerRing_only ..) rfl ?_
      exact (Only.refl _ _)
  · refine Only.step (State.answer_only ..) rfl ?_
    exact (Only.refl _ _)

theorem execGetTripLog_only (a0 : _) (a1 : _) :
    OnlyRes [.host, .sent] a1 (execGetTripLog a0 a1) := by
  unfold execGetTripLog
  extract_lets +onlyGivenNames x1
  refine OnlyRes.next ?_
  refine Only.ite ?_ ?_
  · refine Only.step (State.answer_only ..) rfl ?_
    exact (Only.refl _ _)
  · extract_lets +onlyGivenNames x2
    refine Only.step (State.answerRing_only ..) rfl ?_
    exact (Only.refl _ _)

theorem execGetUpdateStatus_only (a0 : _) (a1 : _) :
    OnlyRes [.host] a1 (execGetUpdateStatus a0 a1) := by
  unfold execGetUpdateStatus
  refine OnlyRes.next ?_
  refine Only.step (State.answer_only ..) rfl ?_
  exact (Only.refl _ _)

theorem execGetVehicleInfo_only (a0 : _) (a1 : _) :
    OnlyRes [.host] a1 (execGetVehicleInfo a0 a1) := by
  unfold execGetVehicleInfo
  extract_lets +onlyGivenNames x1
  extract_lets +onlyGivenNames x2
  extract_lets +onlyGivenNames x3
  refine OnlyRes.next ?_
  refine Only.step (State.answer_only ..) rfl ?_
  exact (Only.refl _ _)

theorem execGetVerification_only (a0 : _) (a1 : _) :
    OnlyRes [.host] a1 (execGetVerification a0 a1) := by
  unfold execGetVerification
  refine OnlyRes.next ?_
  refine State.unlessVoid_only rfl (fun u1 h1 => ?_) ?_
  · split
    · refine Only.step (State.answer_only ..) rfl ?_
      exact h1
    · extract_lets +onlyGivenNames x1
      extract_lets +onlyGivenNames x2
      extract_lets +onlyGivenNames x3
      extract_lets +onlyGivenNames x4
      refine Only.step (State.answer_only ..) rfl ?_
      exact h1
  · exact (Only.refl _ _)

theorem execGlnLowWordRead_only (a0 : _) (a1 : _) :
    OnlyRes [.sys, .msh, .host, .sent, .chn] a1 (execGlnLowWordRead a0 a1) := by
  unfold execGlnLowWordRead
  extract_lets +onlyGivenNames x1
  refine OnlyRes.next ?_
  refine Only.ite ?_ ?_
  · exact (Only.refl _ _)
  · refine State.access_only rfl (fun u1 h1 => ?_) ?_
    · split
      · refine Only.step (State.emit_only ..) rfl ?_
        refine Only.step (State.modGuest_only ..) rfl ?_
        exact h1
      · refine Only.ite ?_ ?_
        · refine Only.step (State.returnRead_only ..) rfl ?_
          exact h1
        · refine Only.step (State.emit_only ..) rfl ?_
          exact h1
    · exact (Only.refl _ _)

theorem execGlnVioLoss_only (a0 : _) :
    OnlyRes [.host] a0 (execGlnVioLoss a0) := by
  unfold execGlnVioLoss
  refine OnlyRes.next ?_
  refine Only.step (State.modHost_only ..) rfl ?_
  exact (Only.refl _ _)

theorem execGlnVioReturn_only (a0 : _) :
    OnlyRes [.host] a0 (execGlnVioReturn a0) := by
  unfold execGlnVioReturn
  refine OnlyRes.next ?_
  refine Only.step (State.modHost_only ..) rfl ?_
  exact (Only.refl _ _)

theorem execGrant_only (a0 : _) (a1 : _) (a2 : _) :
    OnlyRes [.msh, .host, .veh, .free, .lease, .sent, .pwr, .chn] a2 (execGrant a0 a1 a2) := by
  unfold execGrant
  refine OnlyRes.next ?_
  refine State.chainRx_only rfl (fun u1 h1 => ?_) ?_
  · refine Only.step (State.eatGrant_only ..) rfl ?_
    exact h1
  · exact (Only.refl _ _)

theorem execGrantBroadcast_only (a0 : _) :
    OnlyRes [.jnl, .msh, .host, .fw, .veh, .lease, .sent, .pwr, .chn] a0 (execGrantBroadcast a0) := by
  unfold execGrantBroadcast
  refine OnlyRes.ite ?_ ?_
  · refine OnlyRes.next ?_
    refine Only.step (State.tryCommit_only ..) rfl ?_
    exact (Only.refl _ _)
  · refine OnlyRes.ite ?_ ?_
    · refine OnlyRes.next ?_
      exact (Only.refl _ _)
    · extract_lets +onlyGivenNames x1
      extract_lets +onlyGivenNames x2
      refine OnlyRes.keep x2 ?_ ?_
      · unfold x2
        refine Only.foldl (fun u1 a1x h1 => ?_) ?_
        · refine Only.step (State.originate_only ..) rfl ?_
          exact h1
        · exact (Only.refl _ _)
      intro h2
      clear_value x2
      extract_lets +onlyGivenNames x3
      refine OnlyRes.keep x3 ?_ ?_
      · unfold x3
        split
        · refine Only.step (State.takeGrant_only ..) rfl ?_
          exact h2
        · exact h2
      intro h3
      clear_value x3
      refine OnlyRes.next ?_
      refine Only.step (State.tryCommit_only ..) rfl ?_
      exact h3

theorem execGrantCompute_only (a0 : _) :
    OnlyRes [.lease, .chn] a0 (execGrantCompute a0) := by
  unfold execGrantCompute
  refine OnlyRes.ite ?_ ?_
  · refine OnlyRes.next ?_
    refine Only.step (State.modLease_only ..) rfl ?_
    exact (Only.refl _ _)
  · refine OnlyRes.ite ?_ ?_
    · refine OnlyRes.next ?_
      exact (Only.refl _ _)
    · extract_lets +onlyGivenNames x1
      refine OnlyRes.keep x1 ?_ ?_
      · unfold x1
        refine Only.step (State.putReport_only ..) rfl ?_
        exact (Only.refl _ _)
      intro h1
      clear_value x1
      extract_lets +onlyGivenNames x2
      extract_lets +onlyGivenNames x3
      extract_lets +onlyGivenNames x4
      extract_lets +onlyGivenNames x5
      extract_lets +onlyGivenNames x6
      extract_lets +onlyGivenNames x7
      extract_lets +onlyGivenNames x8
      extract_lets +onlyGivenNames x9
      extract_lets +onlyGivenNames x10
      extract_lets +onlyGivenNames x11
      extract_lets +onlyGivenNames x12
      extract_lets +onlyGivenNames x13
      extract_lets +onlyGivenNames x14
      refine OnlyRes.keep x14 ?_ ?_
      · unfold x14
        refine Only.step (State.modLease_only ..) rfl ?_
        exact h1
      intro h2
      clear_value x14
      refine OnlyRes.next ?_
      refine Only.step (State.modChn_only ..) rfl ?_
      exact h2

theorem execGuestReset_only (a0 : _) (a1 : _) :
    OnlyRes [.ses, .jnl, .dsp, .sp, .cave, .nfc, .met, .msh, .host, .fw, .veh, .pq, .keys, .legal, .free, .conf, .sent, .pwr, .bil, .nrg, .saf, .chn, .ls] a1 (execGuestReset a0 a1) := by
  unfold execGuestReset
  refine OnlyRes.next ?_
  refine Only.ite ?_ ?_
  · exact (Only.refl _ _)
  · extract_lets +onlyGivenNames x1
    extract_lets +onlyGivenNames x2
    refine Only.keep x2 ?_ ?_
    · unfold x2
      refine Only.each (fun a1x u1 h1 => ?_) ?_
      · refine Only.ite ?_ ?_
        · exact h1
        · refine Only.step (State.withdrawFrom_only ..) rfl ?_
          exact h1
      · exact (Only.refl _ _)
    intro h2
    clear_value x2
    extract_lets +onlyGivenNames x3
    refine Only.keep x3 ?_ ?_
    · unfold x3
      refine Only.step (State.dropLeases_only ..) rfl ?_
      refine Only.step (State.dropAdmitted_only ..) rfl ?_
      refine Only.step (State.abortTo_only ..) rfl ?_
      exact h2
    intro h3
    clear_value x3
    extract_lets +onlyGivenNames x4
    refine Only.keep x4 ?_ ?_
    · unfold x4
      refine Only.step (State.clearEvents_only ..) rfl ?_
      refine Only.step (State.modGuest_only ..) rfl ?_
      exact h3
    intro h4
    clear_value x4
    refine Only.foldl (fun u2 a2x h5 => ?_) ?_
    · refine Only.step (State.answer_only ..) rfl ?_
      exact h5
    · exact h4

theorem execHalfZeroed_only (a0 : _) (a1 : _) :
    OnlyRes [.jnl] a1 (execHalfZeroed a0 a1) := by
  unfold execHalfZeroed
  refine OnlyRes.next ?_
  refine Only.ite ?_ ?_
  · extract_lets +onlyGivenNames x1
    refine Only.keep x1 ?_ ?_
    · unfold x1
      refine Only.step (State.modJnl_only ..) rfl ?_
      exact (Only.refl _ _)
    intro h1
    clear_value x1
    refine Only.ite ?_ ?_
    · refine Only.step (State.ripenLegal_only ..) rfl ?_
      exact h1
    · exact h1
  · extract_lets +onlyGivenNames x2
    refine Only.keep x2 ?_ ?_
    · unfold x2
      refine Only.step (State.modJnl_only ..) rfl ?_
      exact (Only.refl _ _)
    intro h2
    clear_value x2
    refine Only.ite ?_ ?_
    · refine Only.step (State.ripenConf_only ..) rfl ?_
      exact h2
    · exact h2

theorem execHeadClaim_only (a0 : _) (a1 : _) (a2 : _) :
    OnlyRes [.msh, .host, .fw, .free, .lease, .sent, .chn] a2 (execHeadClaim a0 a1 a2) := by
  unfold execHeadClaim
  refine OnlyRes.next ?_
  refine State.chainRx_only rfl (fun u1 h1 => ?_) ?_
  · refine Only.step (State.eatHeadClaim_only ..) rfl ?_
    exact h1
  · exact (Only.refl _ _)

theorem execHeadClaimTimer_only (a0 : _) :
    OnlyRes [.msh, .host, .fw, .lease, .sent, .chn] a0 (execHeadClaimTimer a0) := by
  unfold execHeadClaimTimer
  refine OnlyRes.next ?_
  refine Only.ite ?_ ?_
  · split
    · refine Only.ite ?_ ?_
      · refine Only.step (State.becomeHead_only ..) rfl ?_
        exact (Only.refl _ _)
      · exact (Only.refl _ _)
    · exact (Only.refl _ _)
  · exact (Only.refl _ _)

theorem execHeadPoll_only (a0 : _) (a1 : _) (a2 : _) :
    OnlyRes [.sl] a2 (execHeadPoll a0 a1 a2) := by
  unfold execHeadPoll
  refine OnlyRes.next ?_
  refine Only.ite ?_ ?_
  · refine Only.step (State.modSl_only ..) rfl ?_
    exact (Only.refl _ _)
  · exact (Only.refl _ _)

theorem execHeadRegistersRead_only (a0 : _) (a1 : _) (a2 : _) :
    OnlyRes [.met, .host, .sl, .sent] a2 (execHeadRegistersRead a0 a1 a2) := by
  unfold execHeadRegistersRead
  extract_lets +onlyGivenNames x1
  refine OnlyRes.next ?_
  refine Only.ite ?_ ?_
  · extract_lets +onlyGivenNames x2
    refine Only.keep x2 ?_ ?_
    · unfold x2
      refine Only.step (State.modSl_only ..) rfl ?_
      exact (Only.refl _ _)
    intro h1
    clear_value x2
    refine Only.ite ?_ ?_
    · refine Only.step (State.modSl_only ..) rfl ?_
      exact h1
    · extract_lets +onlyGivenNames x3
      refine Only.keep x3 ?_ ?_
      · unfold x3
        refine Only.step (State.modSl_only ..) rfl ?_
        exact h1
      intro h2
      clear_value x3
      extract_lets +onlyGivenNames x4
      refine Only.keep x4 ?_ ?_
      · unfold x4
        refine Only.step (State.judgeSerial_only ..) rfl ?_
        exact h2
      intro h3
      clear_value x4
      refine Only.ite ?_ ?_
      · refine Only.step (State.metRaise_only ..) rfl ?_
        exact h3
      · exact h3
  · exact (Only.refl _ _)

theorem execHeartbeat_only (a0 : _) :
    OnlyRes [.ses, .sp, .cave, .host, .sent, .saf, .brk] a0 (execHeartbeat a0) := by
  unfold execHeartbeat
  refine OnlyRes.next ?_
  refine Only.step (State.heartbeat_only ..) rfl ?_
  exact (Only.refl _ _)

theorem execHeartbeatExpiry_only (a0 : _) (a1 : _) :
    OnlyRes [.host] a1 (execHeartbeatExpiry a0 a1) := by
  unfold execHeartbeatExpiry
  refine OnlyRes.next ?_
  refine Only.ite ?_ ?_
  · refine Only.step (State.trigger_only ..) rfl ?_
    exact (Only.refl _ _)
  · exact (Only.refl _ _)

theorem execHello_only (a0 : _) (a1 : _) (a2 : _) :
    OnlyRes [.msh, .sent, .chn] a2 (execHello a0 a1 a2) := by
  unfold execHello
  extract_lets +onlyGivenNames x1
  refine OnlyRes.next ?_
  refine Only.ite ?_ ?_
  · exact (Only.refl _ _)
  · refine Only.ite ?_ ?_
    · refine Only.step (State.modChLink_only ..) rfl ?_
      refine Only.step (State.setLink_only ..) rfl ?_
      exact (Only.refl _ _)
    · refine Only.ite ?_ ?_
      · refine Only.step (State.heardHello_only ..) rfl ?_
        refine Only.step (State.modChLink_only ..) rfl ?_
        exact (Only.refl _ _)
      · exact (Only.refl _ _)

theorem execHelloSend_only (a0 : _) (a1 : _) :
    OnlyRes [.sent, .chn] a1 (execHelloSend a0 a1) := by
  unfold execHelloSend
  refine OnlyRes.next ?_
  refine Only.step (State.sendLocal_only ..) rfl ?_
  exact (Only.refl _ _)

theorem execHostLinkDown_only (a0 : _) :
    OnlyRes [.sys, .msh, .host, .sent, .chn] a0 (execHostLinkDown a0) := by
  unfold execHostLinkDown
  refine OnlyRes.next ?_
  refine Only.step (State.hostGone_only ..) rfl ?_
  exact (Only.refl _ _)

theorem execHostLinkTrained_only (a0 : _) :
    OnlyRes [.sys, .msh, .host, .sent, .chn] a0 (execHostLinkTrained a0) := by
  unfold execHostLinkTrained
  refine OnlyRes.next ?_
  refine Only.step (State.reach_only ..) rfl ?_
  refine Only.step (State.hostActive_only ..) rfl ?_
  refine Only.step (State.modHost_only ..) rfl ?_
  exact (Only.refl _ _)

theorem execImdEventRead_only (a0 : _) (a1 : _) (a2 : _) (a3 : _) :
    OnlyRes [.sp, .sys, .msh, .host, .sent, .chn] a3 (execImdEventRead a0 a1 a2 a3) := by
  unfold execImdEventRead
  refine OnlyRes.next ?_
  refine State.readEvent_only rfl (fun u1 h1 => ?_) ?_
  · refine Only.step (State.modSp_only ..) rfl ?_
    exact h1
  · exact (Only.refl _ _)

theorem execImdHalfPeriodEnd_only (a0 : _) (a1 : _) (a2 : _) (a3 : _) :
    OnlyRes [.ses, .sp, .cave, .host, .sent, .saf, .brk] a3 (execImdHalfPeriodEnd a0 a1 a2 a3) := by
  unfold execImdHalfPeriodEnd
  extract_lets +onlyGivenNames x1
  refine OnlyRes.ite ?_ ?_
  · refine OnlyRes.next ?_
    exact (Only.refl _ _)
  · extract_lets +onlyGivenNames x2
    extract_lets +onlyGivenNames x3
    extract_lets +onlyGivenNames x4
    refine OnlyRes.keep x4 ?_ ?_
    · unfold x4
      refine Only.step (State.modSp_only ..) rfl ?_
      exact (Only.refl _ _)
    intro h1
    clear_value x4
    refine OnlyRes.ite ?_ ?_
    · refine OnlyRes.next ?_
      refine Only.step (State.judgePreclose_only ..) rfl ?_
      exact h1
    · extract_lets +onlyGivenNames x5
      refine OnlyRes.keep x5 ?_ ?_
      · unfold x5
        refine Only.foldl (fun u1 a1x h2 => ?_) ?_
        · refine Only.step (State.imdResult_only ..) rfl ?_
          exact h2
        · exact h1
      intro h3
      clear_value x5
      extract_lets +onlyGivenNames x6
      refine OnlyRes.keep x6 ?_ ?_
      · unfold x6
        split
        · refine Only.ite ?_ ?_
          · refine Only.step (State.modSaf_only ..) rfl ?_
            exact h3
          · exact h3
        · exact h3
      intro h4
      clear_value x6
      extract_lets +onlyGivenNames x7
      extract_lets +onlyGivenNames x8
      refine OnlyRes.keep x8 ?_ ?_
      · unfold x8
        refine Only.ite ?_ ?_
        · refine Only.step (State.imdTrip_only ..) rfl ?_
          exact h4
        · refine Only.step (State.judgePreclose_only ..) rfl ?_
          exact h4
      intro h5
      clear_value x8
      refine OnlyRes.next ?_
      refine Only.step (State.checkStop_only ..) rfl ?_
      refine Only.step (State.clearLatches_only ..) rfl ?_
      exact h5

theorem execImdSlotRotate_only (a0 : _) (a1 : _) :
    OnlyRes [.sp, .saf] a1 (execImdSlotRotate a0 a1) := by
  unfold execImdSlotRotate
  extract_lets +onlyGivenNames x1
  refine OnlyRes.next ?_
  split
  · exact (Only.refl _ _)
  · split
    · exact (Only.refl _ _)
    · extract_lets +onlyGivenNames x2
      refine Only.keep x2 ?_ ?_
      · unfold x2
        refine Only.step (State.modSaf_only ..) rfl ?_
        exact (Only.refl _ _)
      intro h1
      clear_value x2
      refine Only.ite ?_ ?_
      · exact h1
      · refine Only.foldl (fun u1 a1x h2 => ?_) ?_
        · refine Only.step (State.modSp_only ..) rfl ?_
          exact h2
        · exact h1

theorem execImportKey_only (a0 : _) (a1 : _) :
    OnlyRes [.host, .keys, .sent] a1 (execImportKey a0 a1) := by
  unfold execImportKey
  extract_lets +onlyGivenNames x1
  extract_lets +onlyGivenNames x2
  extract_lets +onlyGivenNames x3
  extract_lets +onlyGivenNames x4
  extract_lets +onlyGivenNames x5
  extract_lets +onlyGivenNames x6
  extract_lets +onlyGivenNames x7
  refine OnlyRes.keep x7 ?_ ?_
  · unfold x7
    refine Only.step (State.useRing_only ..) rfl ?_
    exact (Only.refl _ _)
  intro h1
  clear_value x7
  refine OnlyRes.next ?_
  split
  · refine Only.step (State.vaultRefuse_only ..) rfl ?_
    exact (Only.refl _ _)
  · refine Only.ite ?_ ?_
    · refine Only.step (State.vault_only ..) rfl ?_
      refine Only.step (State.useRing_only ..) rfl ?_
      exact (Only.refl _ _)
    · extract_lets +onlyGivenNames x8
      refine Only.ite ?_ ?_
      · refine Only.ite ?_ ?_
        · refine Only.step (State.vaultRefuse_only ..) rfl ?_
          exact (Only.refl _ _)
        · refine Only.ite ?_ ?_
          · refine Only.step (State.vaultRefuse_only ..) rfl ?_
            exact (Only.refl _ _)
          · refine Only.ite ?_ ?_
            · refine Only.step (State.vaultRefuse_only ..) rfl ?_
              exact (Only.refl _ _)
            · refine Only.ite ?_ ?_
              · refine Only.step (State.vaultRefuse_only ..) rfl ?_
                exact (Only.refl _ _)
              · refine Only.step (State.vaultDone_only ..) rfl ?_
                refine Only.step (State.putSlot_only ..) rfl ?_
                exact h1
      · refine Only.ite ?_ ?_
        · refine Only.step (State.vaultRefuse_only ..) rfl ?_
          exact (Only.refl _ _)
        · refine Only.ite ?_ ?_
          · refine Only.step (State.vaultRefuse_only ..) rfl ?_
            exact (Only.refl _ _)
          · refine Only.ite ?_ ?_
            · refine Only.ite ?_ ?_
              · refine Only.step (State.vaultDone_only ..) rfl ?_
                refine Only.step (State.putSlot_only ..) rfl ?_
                exact h1
              · refine Only.step (State.vaultRefuse_only ..) rfl ?_
                exact (Only.refl _ _)
            · split
              · refine Only.step (State.vaultRefuse_only ..) rfl ?_
                exact (Only.refl _ _)
              · split
                · refine Only.step (State.vaultRefuse_only ..) rfl ?_
                  exact (Only.refl _ _)
                · refine Only.step (State.vaultDone_only ..) rfl ?_
                  refine Only.step (State.putSlot_only ..) rfl ?_
                  exact h1

theorem execInputPatternCheck_only (a0 : _) (a1 : _) (a2 : _) :
    OnlyRes [.ses, .sp, .cave, .host, .sent, .saf, .brk] a2 (execInputPatternCheck a0 a1 a2) := by
  unfold execInputPatternCheck
  extract_lets +onlyGivenNames x1
  refine OnlyRes.next ?_
  refine Only.ite ?_ ?_
  · extract_lets +onlyGivenNames x2
    extract_lets +onlyGivenNames x3
    refine Only.keep x3 ?_ ?_
    · unfold x3
      refine Only.step (State.modSaf_only ..) rfl ?_
      exact (Only.refl _ _)
    intro h1
    clear_value x3
    refine Only.step (State.checkStop_only ..) rfl ?_
    refine Only.step (State.evalRows_only ..) rfl ?_
    refine Only.step (State.inputCheck_only ..) rfl ?_
    refine Only.ite ?_ ?_
    · exact h1
    · refine Only.step (State.inputFault_only ..) rfl ?_
      exact h1
  · exact (Only.refl _ _)

theorem execInsulationSelftestEnd_only (a0 : _) (a1 : _) (a2 : _) :
    OnlyRes [.ses, .sp, .cave, .host, .sent, .saf, .brk] a2 (execInsulationSelftestEnd a0 a1 a2) := by
  unfold execInsulationSelftestEnd
  refine OnlyRes.next ?_
  split
  · refine Only.ite ?_ ?_
    · extract_lets +onlyGivenNames x1
      extract_lets +onlyGivenNames x2
      refine Only.keep x2 ?_ ?_
      · unfold x2
        refine Only.step (State.modSp_only ..) rfl ?_
        exact (Only.refl _ _)
      intro h1
      clear_value x2
      refine Only.step (State.runDeferred_only ..) rfl ?_
      refine Only.step (State.testEnded_only ..) rfl ?_
      refine Only.step (State.testNotice_only ..) rfl ?_
      exact h1
    · exact (Only.refl _ _)
  · exact (Only.refl _ _)

theorem execIrqArm_only (a0 : _) (a1 : _) (a2 : _) :
    OnlyRes [.sys, .msh, .host, .sent, .chn] a2 (execIrqArm a0 a1 a2) := by
  unfold execIrqArm
  refine OnlyRes.next ?_
  refine State.hostWrite_only rfl (fun u1 h1 => ?_) ?_
  · refine Only.step (State.setIrq_only ..) rfl ?_
    exact h1
  · exact (Only.refl _ _)

theorem execIrqStatusClear_only (a0 : _) (a1 : _) (a2 : _) (a3 : _) :
    OnlyRes [.sys, .msh, .host, .sent, .chn] a3 (execIrqStatusClear a0 a1 a2 a3) := by
  unfold execIrqStatusClear
  refine OnlyRes.next ?_
  refine State.hostWrite_only rfl (fun u1 h1 => ?_) ?_
  · refine Only.step (State.setIrq_only ..) rfl ?_
    exact h1
  · exact (Only.refl _ _)

theorem execJnlEventRead_only (a0 : _) (a1 : _) (a2 : _) :
    OnlyRes [.jnl, .sys, .msh, .host, .sent, .chn] a2 (execJnlEventRead a0 a1 a2) := by
  unfold execJnlEventRead
  refine OnlyRes.next ?_
  refine State.readEvent_only rfl (fun u1 h1 => ?_) ?_
  · refine Only.step (State.modJnl_only ..) rfl ?_
    exact h1
  · exact (Only.refl _ _)

theorem execJoin_only (a0 : _) (a1 : _) (a2 : _) :
    OnlyRes [.msh, .host, .free, .sent, .chn] a2 (execJoin a0 a1 a2) := by
  unfold execJoin
  refine OnlyRes.next ?_
  refine State.chainRx_only rfl (fun u1 h1 => ?_) ?_
  · refine Only.step (State.eatJoin_only ..) rfl ?_
    exact h1
  · exact (Only.refl _ _)

theorem execJoinRetry_only (a0 : _) :
    OnlyRes [.msh, .sent, .chn] a0 (execJoinRetry a0) := by
  unfold execJoinRetry
  refine OnlyRes.next ?_
  refine Only.ite ?_ ?_
  · refine Only.step (State.originate_only ..) rfl ?_
    exact (Only.refl _ _)
  · exact (Only.refl _ _)

theorem execKeyEventRead_only (a0 : _) (a1 : _) (a2 : _) :
    OnlyRes [.sys, .msh, .host, .keys, .sent, .chn] a2 (execKeyEventRead a0 a1 a2) := by
  unfold execKeyEventRead
  refine OnlyRes.next ?_
  refine State.readEvent_only rfl (fun u1 h1 => ?_) ?_
  · refine Only.step (State.modKeys_only ..) rfl ?_
    exact h1
  · exact (Only.refl _ _)

theorem execKeySessionIdleExpiry_only (a0 : _) (a1 : _) (a2 : _) :
    OnlyRes [.keys] a2 (execKeySessionIdleExpiry a0 a1 a2) := by
  unfold execKeySessionIdleExpiry
  refine OnlyRes.next ?_
  refine Only.ite ?_ ?_
  · refine Only.step (State.modKeys_only ..) rfl ?_
    refine Only.step (State.setKeySes_only ..) rfl ?_
    exact (Only.refl _ _)
  · exact (Only.refl _ _)

theorem execLatch_only (a0 : _) (a1 : _) :
    OnlyRes [.jnl, .met, .host, .pq, .sent, .bil, .nrg] a1 (execLatch a0 a1) := by
  unfold execLatch
  refine OnlyRes.next ?_
  split
  · exact (Only.refl _ _)
  · refine Only.ite ?_ ?_
    · exact (Only.refl _ _)
    · refine Only.step (State.holdStop_only ..) rfl ?_
      refine Only.step (State.latchAt_only ..) rfl ?_
      refine Only.step (State.modNrg_only ..) rfl ?_
      exact (Only.refl _ _)

theorem execLegalClockWindow_only (a0 : _) (a1 : _) :
    OnlyRes [.jnl, .met, .host, .pq, .legal, .sent] a1 (execLegalClockWindow a0 a1) := by
  unfold execLegalClockWindow
  extract_lets +onlyGivenNames x1
  refine OnlyRes.next ?_
  refine Only.ite ?_ ?_
  · extract_lets +onlyGivenNames x2
    refine Only.keep x2 ?_ ?_
    · unfold x2
      refine Only.step (State.modLegal_only ..) rfl ?_
      exact (Only.refl _ _)
    intro h1
    clear_value x2
    refine Only.ite ?_ ?_
    · refine Only.step (State.headsFrom_only ..) rfl ?_
      refine Only.each (fun a1x u1 h2 => ?_) ?_
      · refine Only.step (State.metRaise_only ..) rfl ?_
        exact h2
      · exact h1
    · exact h1
  · refine Only.ite ?_ ?_
    · refine Only.step (State.modLegal_only ..) rfl ?_
      exact (Only.refl _ _)
    · refine Only.step (State.modLegal_only ..) rfl ?_
      exact (Only.refl _ _)

theorem execLegalGap_only (a0 : _) (a1 : _) :
    OnlyRes [.ses, .jnl, .sp, .sys, .pm, .cave, .nfc, .met, .msh, .host, .sl, .veh, .legal, .free, .lease, .conf, .sent, .pwr, .bil, .nrg, .saf, .chn, .ls, .lk, .brk] a1 (execLegalGap a0 a1) := by
  unfold execLegalGap
  refine OnlyRes.next ?_
  refine Only.ite ?_ ?_
  · refine Only.step (State.endSession_only ..) rfl ?_
    exact (Only.refl _ _)
  · exact (Only.refl _ _)

theorem execLegalLineAlternate_only (a0 : _) :
    OnlyRes [.dsp] a0 (execLegalLineAlternate a0) := by
  unfold execLegalLineAlternate
  refine OnlyRes.next ?_
  refine Only.step (State.drawLegal_only ..) rfl ?_
  refine Only.step (State.modDsp_only ..) rfl ?_
  exact (Only.refl _ _)

theorem execLegalReading_only (a0 : _) (a1 : _) :
    OnlyRes [.ses, .sys, .cave, .host, .veh, .sent, .pwr] a1 (execLegalReading a0 a1) := by
  unfold execLegalReading
  extract_lets +onlyGivenNames x1
  extract_lets +onlyGivenNames x2
  refine OnlyRes.keep x2 ?_ ?_
  · unfold x2
    refine Only.step (State.modSes_only ..) rfl ?_
    exact (Only.refl _ _)
  intro h1
  clear_value x2
  extract_lets +onlyGivenNames x3
  refine OnlyRes.keep x3 ?_ ?_
  · unfold x3
    split
    · extract_lets +onlyGivenNames x4
      refine Only.keep x4 ?_ ?_
      · unfold x4
        refine Only.step (State.modSes_only ..) rfl ?_
        exact h1
      intro h2
      clear_value x4
      refine Only.ite ?_ ?_
      · refine Only.step (State.sesRaise_only ..) rfl ?_
        exact h2
      · exact h2
    · exact h1
  intro h3
  clear_value x3
  extract_lets +onlyGivenNames x5
  refine OnlyRes.keep x5 ?_ ?_
  · unfold x5
    refine Only.ite ?_ ?_
    · refine Only.step (State.askOpen_only ..) rfl ?_
      exact h3
    · exact h3
  intro h4
  clear_value x5
  refine OnlyRes.next ?_
  refine Only.step (State.availPoll_only ..) rfl ?_
  refine Only.step (State.refreshPwm_only ..) rfl ?_
  refine Only.ite ?_ ?_
  · refine Only.step (State.wantChanged_only ..) rfl ?_
    exact h4
  · exact h4

theorem execLegalSessionOpen_only (a0 : _) (a1 : _) :
    OnlyRes [.ses, .sp, .sys, .pm, .cave, .host, .veh, .pq, .sent, .pwr, .bil, .nrg, .lk] a1 (execLegalSessionOpen a0 a1) := by
  unfold execLegalSessionOpen
  extract_lets +onlyGivenNames x1
  refine OnlyRes.next ?_
  split
  · extract_lets +onlyGivenNames x2
    refine Only.ite ?_ ?_
    · extract_lets +onlyGivenNames x3
      refine Only.keep x3 ?_ ?_
      · unfold x3
        refine Only.step (State.legalOpen_only ..) rfl ?_
        exact (Only.refl _ _)
      intro h1
      clear_value x3
      refine Only.step (State.opened_only ..) rfl ?_
      exact h1
    · extract_lets +onlyGivenNames x4
      extract_lets +onlyGivenNames x5
      refine Only.keep x5 ?_ ?_
      · unfold x5
        split
        · refine Only.step (State.answer_only ..) rfl ?_
          exact (Only.refl _ _)
        · exact (Only.refl _ _)
      intro h2
      clear_value x5
      refine Only.step (State.reject_only ..) rfl ?_
      refine Only.step (State.modSes_only ..) rfl ?_
      exact h2
  · exact (Only.refl _ _)

theorem execLegalStartDone_only (a0 : _) (a1 : _) (a2 : _) (a3 : _) :
    OnlyRes [.ses, .jnl, .sys, .met, .host, .fw, .pq, .keys, .legal, .sent, .bil, .nrg, .rind] a3 (execLegalStartDone a0 a1 a2 a3) := by
  unfold execLegalStartDone
  refine OnlyRes.next ?_
  refine Only.ite ?_ ?_
  · exact (Only.refl _ _)
  · extract_lets +onlyGivenNames x1
    refine Only.keep x1 ?_ ?_
    · unfold x1
      refine Only.step (State.reach_only ..) rfl ?_
      exact (Only.refl _ _)
    intro h1
    clear_value x1
    refine Only.ite ?_ ?_
    · extract_lets +onlyGivenNames x2
      refine Only.keep x2 ?_ ?_
      · unfold x2
        refine Only.step (State.modLegal_only ..) rfl ?_
        refine Only.step (State.modJnl_only ..) rfl ?_
        exact h1
      intro h2
      clear_value x2
      extract_lets +onlyGivenNames x3
      refine Only.keep x3 ?_ ?_
      · unfold x3
        refine Only.step (State.modKeys_only ..) rfl ?_
        refine Only.step (State.passTrial_only ..) rfl ?_
        refine Only.step (State.legalRecover_only ..) rfl ?_
        exact h2
      intro h3
      clear_value x3
      refine Only.step (State.reach_only ..) rfl ?_
      refine Only.step (State.irqAll_only ..) rfl ?_
      exact h3
    · refine Only.step (State.reach_only ..) rfl ?_
      refine Only.step (State.voidLegal_only ..) rfl ?_
      refine Only.step (State.modLegal_only ..) rfl ?_
      exact h1

theorem execLegalState_only (a0 : _) :
    OnlyRes [.ses, .jnl, .sp, .sys, .pm, .cave, .nfc, .met, .msh, .host, .sl, .veh, .legal, .free, .lease, .conf, .sent, .pwr, .nrg, .saf, .chn, .ls, .lk, .brk] a0 (execLegalState a0) := by
  unfold execLegalState
  extract_lets +onlyGivenNames x1
  refine OnlyRes.keep x1 ?_ ?_
  · unfold x1
    refine Only.each (fun a1x u1 h1 => ?_) ?_
    · refine Only.step (State.sealCheck_only ..) rfl ?_
      exact h1
    · exact (Only.refl _ _)
  intro h2
  clear_value x1
  extract_lets +onlyGivenNames x2
  clear_value x2
  dsimp only
  refine OnlyRes.next ?_
  refine Only.step (State.availAll_only ..) rfl ?_
  have h4 : Only [.ses, .jnl, .sp, .sys, .pm, .cave, .nfc, .met, .msh, .host, .sl, .veh, .legal, .free, .lease, .conf, .sent, .pwr, .nrg, .saf, .chn, .ls, .lk, .brk] a0
      (if x2 % 4 = a0.chn.mirLegal % 4 then x1.modChn fun c => { c with mirLegal := x2 }
        else (x1.modChn fun c => { c with mirLegal := x2 }).mirrorEv 5 0xFF [x2 % 4]) :=
    Only.ite ((State.modChn_only ..).step rfl h2) ((State.mirrorEv_only ..).step rfl ((State.modChn_only ..).step rfl h2))
  exact Only.ite h2 (Only.ite h4 ((State.mirrorEv_only ..).step rfl h4))

theorem execLegalViewCycle_only (a0 : _) :
    OnlyRes [.dsp] a0 (execLegalViewCycle a0) := by
  unfold execLegalViewCycle
  extract_lets +onlyGivenNames x1
  refine OnlyRes.keep x1 ?_ ?_
  · unfold x1
    refine Only.step (State.modDsp_only ..) rfl ?_
    exact (Only.refl _ _)
  intro h1
  clear_value x1
  refine OnlyRes.next ?_
  refine Only.ite ?_ ?_
  · refine Only.step (State.drawLegal_only ..) rfl ?_
    exact h1
  · exact h1

theorem execLegalViewRefresh_only (a0 : _) :
    OnlyRes [.dsp] a0 (execLegalViewRefresh a0) := by
  unfold execLegalViewRefresh
  refine OnlyRes.next ?_
  refine Only.step (State.drawLegal_only ..) rfl ?_
  exact (Only.refl _ _)

theorem execLinkDown_only (a0 : _) (a1 : _) (a2 : _) (a3 : _) :
    OnlyRes [.msh, .host, .free, .sent, .chn] a3 (execLinkDown a0 a1 a2 a3) := by
  unfold execLinkDown
  refine OnlyRes.next ?_
  refine State.chainRx_only rfl (fun u1 h1 => ?_) ?_
  · refine Only.step (State.eatLinkDown_only ..) rfl ?_
    exact h1
  · exact (Only.refl _ _)

theorem execLinkLostGrace_only (a0 : _) (a1 : _) :
    OnlyRes [.ses, .jnl, .sp, .sys, .pm, .cave, .nfc, .met, .msh, .host, .sl, .veh, .legal, .free, .lease, .conf, .sent, .pwr, .bil, .nrg, .saf, .chn, .ls, .lk, .brk] a1 (execLinkLostGrace a0 a1) := by
  unfold execLinkLostGrace
  refine OnlyRes.next ?_
  refine Only.ite ?_ ?_
  · refine Only.step (State.endSession_only ..) rfl ?_
    refine Only.step (State.modSes_only ..) rfl ?_
    exact (Only.refl _ _)
  · exact (Only.refl _ _)

theorem execLinkRetryEnd_only (a0 : _) (a1 : _) :
    OnlyRes [.cave, .host, .veh, .sent] a1 (execLinkRetryEnd a0 a1) := by
  unfold execLinkRetryEnd
  refine OnlyRes.next ?_
  refine Only.ite ?_ ?_
  · refine Only.step (State.modVeh_only ..) rfl ?_
    refine Only.step (State.drive_only ..) rfl ?_
    refine Only.step (State.linkTo_only ..) rfl ?_
    exact (Only.refl _ _)
  · exact (Only.refl _ _)

theorem execLkBrakeEnd_only (a0 : _) (a1 : _) :
    OnlyRes [.lk] a1 (execLkBrakeEnd a0 a1) := by
  unfold execLkBrakeEnd
  extract_lets +onlyGivenNames x1
  extract_lets +onlyGivenNames x2
  refine OnlyRes.keep x2 ?_ ?_
  · unfold x2
    refine Only.ite ?_ ?_
    · refine Only.step (State.modLk_only ..) rfl ?_
      exact (Only.refl _ _)
    · refine Only.ite ?_ ?_
      · refine Only.step (State.modLk_only ..) rfl ?_
        exact (Only.refl _ _)
      · exact (Only.refl _ _)
  intro h1
  clear_value x2
  refine OnlyRes.next ?_
  split
  · refine Only.ite ?_ ?_
    · refine Only.step (State.startDrive_only ..) rfl ?_
      exact h1
    · exact h1
  · exact h1

theorem execLkDriveEnd_only (a0 : _) (a1 : _) :
    OnlyRes [.lk] a1 (execLkDriveEnd a0 a1) := by
  unfold execLkDriveEnd
  refine OnlyRes.next ?_
  refine Only.step (State.endDrive_only ..) rfl ?_
  exact (Only.refl _ _)

theorem execLkPeriod_only (a0 : _) (a1 : _) (a2 : _) (a3 : _) :
    OnlyRes [.ls, .lk] a3 (execLkPeriod a0 a1 a2 a3) := by
  unfold execLkPeriod
  extract_lets +onlyGivenNames x1
  extract_lets +onlyGivenNames x2
  refine OnlyRes.next ?_
  refine Only.ite ?_ ?_
  · exact (Only.refl _ _)
  · refine Only.ite ?_ ?_
    · refine Only.step (State.endDrive_only ..) rfl ?_
      exact (Only.refl _ _)
    · extract_lets +onlyGivenNames x3
      extract_lets +onlyGivenNames x4
      extract_lets +onlyGivenNames x5
      refine Only.step (State.modLk_only ..) rfl ?_
      refine Only.step (State.modLs_only ..) rfl ?_
      exact (Only.refl _ _)

theorem execLkStall_only (a0 : _) (a1 : _) :
    OnlyRes [.lk] a1 (execLkStall a0 a1) := by
  unfold execLkStall
  refine OnlyRes.next ?_
  refine Only.step (State.endDrive_only ..) rfl ?_
  exact (Only.refl _ _)

theorem execLkThermal_only (a0 : _) (a1 : _) :
    OnlyRes [.lk] a1 (execLkThermal a0 a1) := by
  unfold execLkThermal
  refine OnlyRes.next ?_
  refine Only.step (State.endDrive_only ..) rfl ?_
  exact (Only.refl _ _)

theorem execLoadOverdrive_only (a0 : _) (a1 : _) :
    OnlyRes [.jnl, .msh, .host, .conf, .sent, .chn] a1 (execLoadOverdrive a0 a1) := by
  unfold execLoadOverdrive
  refine OnlyRes.next ?_
  refine Only.ite ?_ ?_
  · refine Only.step (State.ringItem_only ..) rfl ?_
    exact (Only.refl _ _)
  · refine Only.step (State.answer_only ..) rfl ?_
    exact (Only.refl _ _)

theorem execLoadTrustAnchor_only (a0 : _) (a1 : _) :
    OnlyRes [.jnl, .msh, .host, .conf, .sent, .chn] a1 (execLoadTrustAnchor a0 a1) := by
  unfold execLoadTrustAnchor
  refine OnlyRes.next ?_
  refine Only.ite ?_ ?_
  · refine Only.step (State.answer_only ..) rfl ?_
    exact (Only.refl _ _)
  · refine Only.ite ?_ ?_
    · refine Only.step (State.answer_only ..) rfl ?_
      exact (Only.refl _ _)
    · refine Only.ite ?_ ?_
      · refine Only.step (State.plainItem_only ..) rfl ?_
        exact (Only.refl _ _)
      · refine Only.step (State.ringItem_only ..) rfl ?_
        exact (Only.refl _ _)

theorem execLockAttemptTimer_only (a0 : _) (a1 : _) :
    OnlyRes [.veh, .lk] a1 (execLockAttemptTimer a0 a1) := by
  unfold execLockAttemptTimer
  refine OnlyRes.next ?_
  refine Only.ite ?_ ?_
  · refine Only.step (State.lockAttempt_only ..) rfl ?_
    exact (Only.refl _ _)
  · exact (Only.refl _ _)

theorem execLockFbChange_only (a0 : _) (a1 : _) (a2 : _) :
    OnlyRes [.ses, .sys, .pm, .cave, .host, .veh, .sent, .pwr, .lk] a2 (execLockFbChange a0 a1 a2) := by
  unfold execLockFbChange
  extract_lets +onlyGivenNames x1
  refine OnlyRes.keep x1 ?_ ?_
  · unfold x1
    refine Only.step (State.modLock_only ..) rfl ?_
    exact (Only.refl _ _)
  intro h1
  clear_value x1
  extract_lets +onlyGivenNames x2
  refine OnlyRes.next ?_
  split
  · refine Only.ite ?_ ?_
    · refine Only.step (State.lockDone_only ..) rfl ?_
      exact h1
    · exact h1
  · refine Only.ite ?_ ?_
    · exact h1
    · refine Only.step (State.advance_only ..) rfl ?_
      refine Only.step (State.modLock_only ..) rfl ?_
      exact h1
  · exact h1
  · exact h1

theorem execLockFeedbackTimeout_only (a0 : _) (a1 : _) :
    OnlyRes [.ses, .jnl, .sp, .sys, .pm, .cave, .nfc, .met, .msh, .host, .sl, .veh, .legal, .free, .lease, .conf, .sent, .pwr, .bil, .nrg, .saf, .chn, .ls, .lk, .brk] a1 (execLockFeedbackTimeout a0 a1) := by
  unfold execLockFeedbackTimeout
  extract_lets +onlyGivenNames x1
  refine OnlyRes.next ?_
  refine Only.ite ?_ ?_
  · exact (Only.refl _ _)
  · refine Only.step (State.attemptFailed_only ..) rfl ?_
    exact (Only.refl _ _)

theorem execLockFilterExpiry_only (a0 : _) (a1 : _) :
    OnlyRes [.ses, .sp, .cave, .host, .sent, .saf, .brk] a1 (execLockFilterExpiry a0 a1) := by
  unfold execLockFilterExpiry
  extract_lets +onlyGivenNames x1
  refine OnlyRes.next ?_
  refine Only.ite ?_ ?_
  · exact (Only.refl _ _)
  · refine Only.ite ?_ ?_
    · refine Only.step (State.modSp_only ..) rfl ?_
      exact (Only.refl _ _)
    · extract_lets +onlyGivenNames x2
      refine Only.keep x2 ?_ ?_
      · unfold x2
        refine Only.step (State.modSp_only ..) rfl ?_
        exact (Only.refl _ _)
      intro h1
      clear_value x2
      refine Only.ite ?_ ?_
      · refine Only.step (State.checkStop_only ..) rfl ?_
        refine Only.step (State.tripPort_only ..) rfl ?_
        refine Only.step (State.imdRaise_only ..) rfl ?_
        exact h1
      · exact h1

theorem execLockPulseEnd_only (a0 : _) (a1 : _) :
    OnlyRes [.ses, .jnl, .sp, .sys, .pm, .cave, .nfc, .met, .msh, .host, .sl, .veh, .legal, .free, .lease, .conf, .sent, .pwr, .bil, .nrg, .saf, .chn, .ls, .lk, .brk] a1 (execLockPulseEnd a0 a1) := by
  unfold execLockPulseEnd
  extract_lets +onlyGivenNames x1
  refine OnlyRes.ite ?_ ?_
  · refine OnlyRes.next ?_
    exact (Only.refl _ _)
  · extract_lets +onlyGivenNames x2
    refine OnlyRes.keep x2 ?_ ?_
    · unfold x2
      refine Only.step (State.endDrive_only ..) rfl ?_
      exact (Only.refl _ _)
    intro h1
    clear_value x2
    refine OnlyRes.next ?_
    refine Only.ite ?_ ?_
    · exact (Only.refl _ _)
    · refine Only.ite ?_ ?_
      · refine Only.step (State.lockEnd_only ..) rfl ?_
        refine Only.step (State.modLk_only ..) rfl ?_
        exact h1
      · refine Only.ite ?_ ?_
        · refine Only.step (State.attemptFailed_only ..) rfl ?_
          exact h1
        · refine Only.ite ?_ ?_
          · refine Only.step (State.lockDone_only ..) rfl ?_
            exact h1
          · refine Only.step (State.modLock_only ..) rfl ?_
            exact h1

theorem execLogEntry_only (a0 : _) (a1 : _) :
    OnlyRes [.cave] a1 (execLogEntry a0 a1) := by
  unfold execLogEntry
  refine OnlyRes.next ?_
  refine Only.step (State.offer_only ..) rfl ?_
  exact (Only.refl _ _)

theorem execLsBurstSuccess_only (a0 : _) (a1 : _) :
    OnlyRes [.ls] a1 (execLsBurstSuccess a0 a1) := by
  unfold execLsBurstSuccess
  extract_lets +onlyGivenNames x1
  refine OnlyRes.next ?_
  refine Only.ite ?_ ?_
  · refine Only.step (State.modLsCh_only ..) rfl ?_
    exact (Only.refl _ _)
  · exact (Only.refl _ _)

theorem execLsBurstWindowEnd_only (a0 : _) (a1 : _) :
    OnlyRes [.ls] a1 (execLsBurstWindowEnd a0 a1) := by
  unfold execLsBurstWindowEnd
  refine OnlyRes.next ?_
  refine Only.ite ?_ ?_
  · refine Only.step (State.modLsCh_only ..) rfl ?_
    exact (Only.refl _ _)
  · exact (Only.refl _ _)

theorem execLsEventRead_only (a0 : _) (a1 : _) (a2 : _) :
    OnlyRes [.sys, .msh, .host, .sent, .chn, .ls] a2 (execLsEventRead a0 a1 a2) := by
  unfold execLsEventRead
  refine OnlyRes.next ?_
  refine State.readEvent_only rfl (fun u1 h1 => ?_) ?_
  · refine Only.step (State.modLs_only ..) rfl ?_
    exact h1
  · exact (Only.refl _ _)

theorem execLsOpenLoadSample_only (a0 : _) (a1 : _) (a2 : _) :
    OnlyRes [.ls] a2 (execLsOpenLoadSample a0 a1 a2) := by
  unfold execLsOpenLoadSample
  extract_lets +onlyGivenNames x1
  extract_lets +onlyGivenNames x2
  extract_lets +onlyGivenNames x3
  refine OnlyRes.keep x3 ?_ ?_
  · unfold x3
    refine Only.step (State.modLsCh_only ..) rfl ?_
    exact (Only.refl _ _)
  intro h1
  clear_value x3
  refine OnlyRes.next ?_
  refine Only.ite ?_ ?_
  · exact h1
  · refine Only.ite ?_ ?_
    · exact h1
    · extract_lets +onlyGivenNames x4
      extract_lets +onlyGivenNames x5
      extract_lets +onlyGivenNames x6
      extract_lets +onlyGivenNames x7
      refine Only.keep x7 ?_ ?_
      · unfold x7
        refine Only.step (State.modLsCh_only ..) rfl ?_
        exact h1
      intro h2
      clear_value x7
      refine Only.ite ?_ ?_
      · refine Only.step (State.lsRaise_only ..) rfl ?_
        exact h2
      · exact h2

theorem execLsOvercurrent_only (a0 : _) (a1 : _) :
    OnlyRes [.ls] a1 (execLsOvercurrent a0 a1) := by
  unfold execLsOvercurrent
  extract_lets +onlyGivenNames x1
  extract_lets +onlyGivenNames x2
  refine OnlyRes.next ?_
  refine Only.ite ?_ ?_
  · exact (Only.refl _ _)
  · extract_lets +onlyGivenNames x3
    refine Only.ite ?_ ?_
    · refine Only.step (State.modLsCh_only ..) rfl ?_
      exact (Only.refl _ _)
    · refine Only.step (State.lsRaise_only ..) rfl ?_
      refine Only.step (State.modLsCh_only ..) rfl ?_
      exact (Only.refl _ _)

theorem execLsRestoreGroup_only (a0 : _) :
    OnlyRes [.ls] a0 (execLsRestoreGroup a0) := by
  unfold execLsRestoreGroup
  refine OnlyRes.next ?_
  split
  · refine Only.step (State.restoreGroup_only ..) rfl ?_
    exact (Only.refl _ _)
  · exact (Only.refl _ _)

theorem execLsRetryTimer_only (a0 : _) (a1 : _) :
    OnlyRes [.ls] a1 (execLsRetryTimer a0 a1) := by
  unfold execLsRetryTimer
  extract_lets +onlyGivenNames x1
  refine OnlyRes.next ?_
  refine Only.ite ?_ ?_
  · exact (Only.refl _ _)
  · refine Only.ite ?_ ?_
    · refine Only.step (State.modLsCh_only ..) rfl ?_
      exact (Only.refl _ _)
    · refine Only.ite ?_ ?_
      · refine Only.step (State.lsRaise_only ..) rfl ?_
        refine Only.step (State.modLsCh_only ..) rfl ?_
        exact (Only.refl _ _)
      · refine Only.step (State.lsSettle_only ..) rfl ?_
        refine Only.step (State.modLsCh_only ..) rfl ?_
        exact (Only.refl _ _)

theorem execLsShed_only (a0 : _) :
    OnlyRes [.ls] a0 (execLsShed a0) := by
  unfold execLsShed
  refine OnlyRes.next ?_
  refine Only.ite ?_ ?_
  · refine Only.step (State.modLs_only ..) rfl ?_
    exact (Only.refl _ _)
  · split
    · refine Only.step (State.lsRaise_only ..) rfl ?_
      refine Only.step (State.modLs_only ..) rfl ?_
      refine Only.step (State.modLsCh_only ..) rfl ?_
      exact (Only.refl _ _)
    · exact (Only.refl _ _)

theorem execLsThermalCooled_only (a0 : _) (a1 : _) :
    OnlyRes [.ls] a1 (execLsThermalCooled a0 a1) := by
  unfold execLsThermalCooled
  refine OnlyRes.next ?_
  refine Only.step (State.lsSettle_only ..) rfl ?_
  refine Only.step (State.modLsCh_only ..) rfl ?_
  exact (Only.refl _ _)

theorem execLsThermalTrip_only (a0 : _) (a1 : _) :
    OnlyRes [.ls] a1 (execLsThermalTrip a0 a1) := by
  unfold execLsThermalTrip
  extract_lets +onlyGivenNames x1
  extract_lets +onlyGivenNames x2
  refine OnlyRes.next ?_
  refine Only.ite ?_ ?_
  · refine Only.step (State.lsRaise_only ..) rfl ?_
    refine Only.step (State.modLsCh_only ..) rfl ?_
    exact (Only.refl _ _)
  · refine Only.step (State.modLsCh_only ..) rfl ?_
    exact (Only.refl _ _)

theorem execLspwmEdge_only (a0 : _) (a1 : _) (a2 : _) (a3 : _) (a4 : _) :
    OnlyRes [.ls] a4 (execLspwmEdge a0 a1 a2 a3 a4) := by
  unfold execLspwmEdge
  extract_lets +onlyGivenNames x1
  extract_lets +onlyGivenNames x2
  extract_lets +onlyGivenNames x3
  extract_lets +onlyGivenNames x4
  extract_lets +onlyGivenNames x5
  refine OnlyRes.keep x5 ?_ ?_
  · unfold x5
    refine Only.step (State.endHold_only ..) rfl ?_
    exact (Only.refl _ _)
  intro h1
  clear_value x5
  extract_lets +onlyGivenNames x6
  refine OnlyRes.keep x6 ?_ ?_
  · unfold x6
    refine Only.step (State.modLs_only ..) rfl ?_
    exact h1
  intro h2
  clear_value x6
  refine OnlyRes.next ?_
  refine Only.step (State.lsSettle_only ..) rfl ?_
  refine Only.each (fun a1x u1 h3 => ?_) ?_
  · refine Only.ite ?_ ?_
    · exact h3
    · refine Only.ite ?_ ?_
      · refine Only.step (State.modLsCh_only ..) rfl ?_
        exact h3
      · refine Only.ite ?_ ?_
        · refine Only.step (State.modLsCh_only ..) rfl ?_
          exact h3
        · extract_lets +onlyGivenNames x7
          extract_lets +onlyGivenNames x8
          refine Only.step (State.modLsCh_only ..) rfl ?_
          exact h3
  · exact h2

theorem execLspwmStatic_only (a0 : _) (a1 : _) (a2 : _) :
    OnlyRes [.ls] a2 (execLspwmStatic a0 a1 a2) := by
  unfold execLspwmStatic
  extract_lets +onlyGivenNames x1
  refine OnlyRes.keep x1 ?_ ?_
  · unfold x1
    refine Only.step (State.modLs_only ..) rfl ?_
    refine Only.step (State.endHold_only ..) rfl ?_
    exact (Only.refl _ _)
  intro h1
  clear_value x1
  refine OnlyRes.next ?_
  refine Only.step (State.lsSettle_only ..) rfl ?_
  refine Only.each (fun a1x u1 h2 => ?_) ?_
  · refine Only.ite ?_ ?_
    · refine Only.step (State.modLsCh_only ..) rfl ?_
      exact h2
    · exact h2
  · exact h1

theorem execMarkWindow_only (a0 : _) (a1 : _) :
    OnlyRes [.cave, .host, .sent] a1 (execMarkWindow a0 a1) := by
  unfold execMarkWindow
  refine OnlyRes.next ?_
  refine Only.ite ?_ ?_
  · refine Only.step (State.answer_only ..) rfl ?_
    exact (Only.refl _ _)
  · extract_lets +onlyGivenNames x1
    split
    · refine Only.step (State.answer_only ..) rfl ?_
      exact (State.startWin_only ..).mono rfl
    · refine Only.step (State.answer_only ..) rfl ?_
      exact (State.startWin_only ..).mono rfl

theorem execMbxAbortClear_only (a0 : _) (a1 : _) (a2 : _) (a3 : _) :
    OnlyRes [.sys, .msh, .host, .sent, .chn] a3 (execMbxAbortClear a0 a1 a2 a3) := by
  unfold execMbxAbortClear
  refine OnlyRes.next ?_
  refine State.access_only rfl (fun u1 h1 => ?_) ?_
  · refine Only.step (State.modH2d_only ..) rfl ?_
    exact h1
  · exact (Only.refl _ _)

theorem execMbxGo_only (a0 : _) (a1 : _) (a2 : _) (a3 : _) :
    OnlyRes [.sys, .msh, .host, .sent, .chn] a3 (execMbxGo a0 a1 a2 a3) := by
  unfold execMbxGo
  refine OnlyRes.next ?_
  refine State.access_only rfl (fun u1 h1 => ?_) ?_
  · refine Only.ite ?_ ?_
    · exact h1
    · refine Only.step (State.modH2d_only ..) rfl ?_
      exact h1
  · exact (Only.refl _ _)

theorem execMbxMbd0Read_only (a0 : _) (a1 : _) (a2 : _) (a3 : _) :
    OnlyRes [.sys, .msh, .host, .sent, .chn] a3 (execMbxMbd0Read a0 a1 a2 a3) := by
  unfold execMbxMbd0Read
  refine OnlyRes.next ?_
  refine State.access_only rfl (fun u1 h1 => ?_) ?_
  · split
    · refine Only.step (State.returnRead_only ..) rfl ?_
      refine Only.step (State.modD2h_only ..) rfl ?_
      exact h1
    · exact h1
  · exact (Only.refl _ _)

theorem execMbxResponseRead_only (a0 : _) (a1 : _) (a2 : _) (a3 : _) :
    OnlyRes [.sys, .msh, .host, .sent, .chn] a3 (execMbxResponseRead a0 a1 a2 a3) := by
  unfold execMbxResponseRead
  refine OnlyRes.next ?_
  split
  · extract_lets +onlyGivenNames x1
    refine State.access_only rfl (fun u1 h1 => ?_) ?_
    · refine Only.step (State.freeBy_only ..) rfl ?_
      refine Only.step (State.returnRead_only ..) rfl ?_
      refine Only.step (State.modD2h_only ..) rfl ?_
      exact h1
    · exact (Only.refl _ _)
  · refine State.access_only rfl (fun u2 h2 => ?_) ?_
    · exact h2
    · exact (Only.refl _ _)

theorem execMeshAck_only (a0 : _) (a1 : _) (a2 : _) :
    OnlyRes [.msh] a2 (execMeshAck a0 a1 a2) := by
  unfold execMeshAck
  refine OnlyRes.next ?_
  split
  · refine Only.ite ?_ ?_
    · refine Only.step (State.modMsh_only ..) rfl ?_
      refine Only.step (State.countTry_only ..) rfl ?_
      exact (Only.refl _ _)
    · exact (Only.refl _ _)
  · exact (Only.refl _ _)

theorem execMeshAckTimeout_only (a0 : _) :
    OnlyRes [.msh] a0 (execMeshAckTimeout a0) := by
  unfold execMeshAckTimeout
  refine OnlyRes.next ?_
  split
  · exact (Only.refl _ _)
  · extract_lets +onlyGivenNames x1
    refine Only.keep x1 ?_ ?_
    · unfold x1
      refine Only.step (State.modMsh_only ..) rfl ?_
      refine Only.step (State.countTry_only ..) rfl ?_
      exact (Only.refl _ _)
    intro h1
    clear_value x1
    refine Only.ite ?_ ?_
    · refine Only.step (State.modMsh_only ..) rfl ?_
      exact h1
    · extract_lets +onlyGivenNames x2
      clear_value x2
      split
      · refine Only.ite ?_ ?_
        · refine Only.step (State.modMsh_only ..) rfl ?_
          exact h1
        · refine Only.step (State.modMsh_only ..) rfl ?_
          exact h1
      · refine Only.step (State.modMsh_only ..) rfl ?_
        exact h1

theorem execMeshBadFrame_only (a0 : _) :
    OnlyRes [.msh] a0 (execMeshBadFrame a0) := by
  unfold execMeshBadFrame
  refine OnlyRes.next ?_
  refine Only.ite ?_ ?_
  · refine Only.step (State.modMsh_only ..) rfl ?_
    exact (Only.refl _ _)
  · exact (Only.refl _ _)

theorem execMeshChainFrame_only (a0 : _) (a1 : _) (a2 : _) (a3 : _) :
    OnlyRes [.jnl, .sys, .time, .msh, .host, .fw, .veh, .free, .lease, .conf, .sent, .pwr, .chn] a3 (execMeshChainFrame a0 a1 a2 a3) := by
  unfold execMeshChainFrame
  extract_lets +onlyGivenNames x1
  refine OnlyRes.next ?_
  refine State.meshRx_only rfl (fun u1 h1 => ?_) ?_
  · extract_lets +onlyGivenNames x2
    refine Only.keep x2 ?_ ?_
    · unfold x2
      refine Only.ite ?_ ?_
      · refine Only.step (State.queueFrame_only ..) rfl ?_
        refine Only.step (State.queueFrame_only ..) rfl ?_
        exact h1
      · exact h1
    intro h2
    clear_value x2
    extract_lets +onlyGivenNames x3
    refine State.chainRx_only rfl (fun u2 h3 => ?_) ?_
    · refine Only.step (State.eatFrame_only ..) rfl ?_
      exact h3
    · exact h2
  · exact (Only.refl _ _)

theorem execMeshContention_only (a0 : _) :
    OnlyRes [.msh, .sent] a0 (execMeshContention a0) := by
  unfold execMeshContention
  extract_lets +onlyGivenNames x1
  extract_lets +onlyGivenNames x2
  refine OnlyRes.next ?_
  split
  · exact (Only.refl _ _)
  · refine Only.ite ?_ ?_
    · exact (Only.refl _ _)
    · extract_lets +onlyGivenNames x3
      refine Only.step (State.emit_only ..) rfl ?_
      refine Only.step (State.modMsh_only ..) rfl ?_
      exact (Only.refl _ _)

theorem execMeshDelay_only (a0 : _) (a1 : _) (a2 : _) (a3 : _) (a4 : _) (a5 : _) :
    OnlyRes [.msh, .sent] a5 (execMeshDelay a0 a1 a2 a3 a4 a5) := by
  unfold execMeshDelay
  refine OnlyRes.next ?_
  refine State.meshRx_only rfl (fun u1 h1 => ?_) ?_
  · refine Only.step (State.eatDelay_only ..) rfl ?_
    exact h1
  · exact (Only.refl _ _)

theorem execMeshDelaySend_only (a0 : _) :
    OnlyRes [.msh] a0 (execMeshDelaySend a0) := by
  unfold execMeshDelaySend
  refine OnlyRes.next ?_
  refine Only.foldl (fun u1 a1x h1 => ?_) ?_
  · refine Only.step (State.meshSend_only ..) rfl ?_
    exact h1
  · exact (Only.refl _ _)

theorem execMeshMapExpiry_only (a0 : _) (a1 : _) :
    OnlyRes [.msh] a1 (execMeshMapExpiry a0 a1) := by
  unfold execMeshMapExpiry
  refine OnlyRes.next ?_
  split
  · refine Only.ite ?_ ?_
    · refine Only.step (State.mshRaise_only ..) rfl ?_
      refine Only.step (State.modNbr_only ..) rfl ?_
      exact (Only.refl _ _)
    · exact (Only.refl _ _)
  · exact (Only.refl _ _)

theorem execMessageFetch_only (a0 : _) (a1 : _) (a2 : _) :
    OnlyRes [.jnl, .sys, .host, .sent] a2 (execMessageFetch a0 a1 a2) := by
  unfold execMessageFetch
  extract_lets +onlyGivenNames x1
  refine OnlyRes.next ?_
  refine Only.ite ?_ ?_
  · exact (Only.refl _ _)
  · extract_lets +onlyGivenNames x2
    extract_lets +onlyGivenNames x3
    extract_lets +onlyGivenNames x4
    refine Only.keep x4 ?_ ?_
    · unfold x4
      refine Only.step (State.modH2d_only ..) rfl ?_
      exact (Only.refl _ _)
    intro h1
    clear_value x4
    extract_lets +onlyGivenNames x5
    extract_lets +onlyGivenNames x6
    refine Only.keep x6 ?_ ?_
    · unfold x6
      split
      · refine Only.step (State.refuse_only ..) rfl ?_
        exact h1
      · refine Only.step (State.refuse_only ..) rfl ?_
        exact h1
      · refine Only.ite ?_ ?_
        · refine Only.step (State.refuse_only ..) rfl ?_
          exact h1
        · refine Only.step (State.verdict_only ..) rfl ?_
          exact h1
    intro h2
    clear_value x6
    refine Only.ite ?_ ?_
    · exact h2
    · refine Only.step (State.irq_only ..) rfl ?_
      exact h2

theorem execMetEventRead_only (a0 : _) (a1 : _) (a2 : _) (a3 : _) :
    OnlyRes [.sys, .met, .msh, .host, .sent, .chn] a3 (execMetEventRead a0 a1 a2 a3) := by
  unfold execMetEventRead
  refine OnlyRes.next ?_
  refine State.readEvent_only rfl (fun u1 h1 => ?_) ?_
  · refine Only.step (State.modMet_only ..) rfl ?_
    exact h1
  · exact (Only.refl _ _)

theorem execMirror_only (a0 : _) (a1 : _) (a2 : _) :
    OnlyRes [.msh, .host, .free, .sent, .chn] a2 (execMirror a0 a1 a2) := by
  unfold execMirror
  refine OnlyRes.next ?_
  refine State.chainRx_only rfl (fun u1 h1 => ?_) ?_
  · refine Only.step (State.eatMirror_only ..) rfl ?_
    exact h1
  · exact (Only.refl _ _)

theorem execMshEventRead_only (a0 : _) (a1 : _) (a2 : _) :
    OnlyRes [.sys, .msh, .host, .sent, .chn] a2 (execMshEventRead a0 a1 a2) := by
  unfold execMshEventRead
  refine OnlyRes.next ?_
  refine State.readEvent_only rfl (fun u1 h1 => ?_) ?_
  · refine Only.step (State.modMsh_only ..) rfl ?_
    exact h1
  · exact (Only.refl _ _)

theorem execMsixVectorUnmask_only (a0 : _) (a1 : _) (a2 : _) :
    OnlyRes [.sys, .msh, .host, .sent, .chn] a2 (execMsixVectorUnmask a0 a1 a2) := by
  unfold execMsixVectorUnmask
  refine OnlyRes.next ?_
  refine State.hostWrite_only rfl (fun u1 h1 => ?_) ?_
  · refine Only.step (State.maskVector_only ..) rfl ?_
    exact h1
  · exact (Only.refl _ _)

theorem execMsync_only (a0 : _) (a1 : _) (a2 : _) (a3 : _) :
    OnlyRes [.time, .msh, .free, .sent, .chn] a3 (execMsync a0 a1 a2 a3) := by
  unfold execMsync
  extract_lets +onlyGivenNames x1
  extract_lets +onlyGivenNames x2
  refine OnlyRes.keep x2 ?_ ?_
  · unfold x2
    refine Only.step (State.useFree_only ..) rfl ?_
    exact (Only.refl _ _)
  intro h1
  clear_value x2
  refine OnlyRes.next ?_
  refine State.meshRx_only rfl (fun u1 h2 => ?_) ?_
  · refine Only.step (State.eatMsync_only ..) rfl ?_
    exact h2
  · exact h1

theorem execMsyncLost_only (a0 : _) :
    OnlyRes [.msh] a0 (execMsyncLost a0) := by
  unfold execMsyncLost
  refine OnlyRes.next ?_
  refine Only.ite ?_ ?_
  · refine Only.step (State.mshRaise_only ..) rfl ?_
    refine Only.step (State.modMsh_only ..) rfl ?_
    exact (Only.refl _ _)
  · exact (Only.refl _ _)

theorem execMsyncSend_only (a0 : _) :
    OnlyRes [.msh] a0 (execMsyncSend a0) := by
  unfold execMsyncSend
  refine OnlyRes.next ?_
  refine Only.ite ?_ ?_
  · refine Only.step (State.meshSend_only ..) rfl ?_
    exact (Only.refl _ _)
  · exact (Only.refl _ _)

theorem execMutualAuth_only (a0 : _) (a1 : _) :
    OnlyRes [.nfc, .sent] a1 (execMutualAuth a0 a1) := by
  unfold execMutualAuth
  extract_lets +onlyGivenNames x1
  refine OnlyRes.next ?_
  refine State.selected_only rfl (fun u1 h1 => ?_) ?_
  · split
    · refine Only.step (State.tagSays_only ..) rfl ?_
      exact h1
    · refine Only.step (State.tagSays_only ..) rfl ?_
      exact h1
    · extract_lets +onlyGivenNames x2
      refine Only.keep x2 ?_ ?_
      · unfold x2
        refine Only.step (State.modTag_only ..) rfl ?_
        exact h1
      intro h2
      clear_value x2
      extract_lets +onlyGivenNames x3
      refine Only.ite ?_ ?_
      · refine Only.step (State.nfcRaise_only ..) rfl ?_
        refine Only.step (State.tagSays_only ..) rfl ?_
        refine Only.step (State.modTag_only ..) rfl ?_
        exact h2
      · refine Only.step (State.tagSays_only ..) rfl ?_
        exact h2
  · exact (Only.refl _ _)

theorem execNbr_only (a0 : _) (a1 : _) (a2 : _) :
    OnlyRes [.msh, .sent] a2 (execNbr a0 a1 a2) := by
  unfold execNbr
  refine OnlyRes.next ?_
  refine State.meshRx_only rfl (fun u1 h1 => ?_) ?_
  · refine Only.step (State.eatNbr_only ..) rfl ?_
    exact h1
  · exact (Only.refl _ _)

theorem execNbrSend_only (a0 : _) :
    OnlyRes [.msh] a0 (execNbrSend a0) := by
  unfold execNbrSend
  refine OnlyRes.next ?_
  refine Only.ite ?_ ?_
  · extract_lets +onlyGivenNames x1
    refine Only.keep x1 ?_ ?_
    · unfold x1
      refine Only.step (State.relist_only ..) rfl ?_
      exact (Only.refl _ _)
    intro h1
    clear_value x1
    refine Only.step (State.meshSend_only ..) rfl ?_
    exact h1
  · exact (Only.refl _ _)

theorem execNfcEventRead_only (a0 : _) (a1 : _) (a2 : _) :
    OnlyRes [.sys, .nfc, .msh, .host, .sent, .chn] a2 (execNfcEventRead a0 a1 a2) := by
  unfold execNfcEventRead
  refine OnlyRes.next ?_
  refine State.readEvent_only rfl (fun u1 h1 => ?_) ?_
  · refine Only.step (State.modNfc_only ..) rfl ?_
    exact h1
  · exact (Only.refl _ _)

theorem execNfcHoldTimeout_only (a0 : _) :
    OnlyRes [.nfc, .free] a0 (execNfcHoldTimeout a0) := by
  unfold execNfcHoldTimeout
  refine OnlyRes.next ?_
  refine Only.step (State.releaseHeld_only ..) rfl ?_
  exact (Only.refl _ _)

theorem execNfcPoll_only (a0 : _) (a1 : _) (a2 : _) :
    OnlyRes [.nfc] a2 (execNfcPoll a0 a1 a2) := by
  unfold execNfcPoll
  extract_lets +onlyGivenNames x1
  extract_lets +onlyGivenNames x2
  refine OnlyRes.next ?_
  refine Only.ite ?_ ?_
  · exact (Only.refl _ _)
  · refine Only.ite ?_ ?_
    · refine Only.step (State.nfcRaise_only ..) rfl ?_
      refine Only.step (State.modNfc_only ..) rfl ?_
      exact (Only.refl _ _)
    · extract_lets +onlyGivenNames x3
      refine Only.keep x3 ?_ ?_
      · unfold x3
        refine Only.step (State.modNfc_only ..) rfl ?_
        exact (Only.refl _ _)
      intro h1
      clear_value x3 x2
      split
      · exact h1
      · split
        · refine Only.ite ?_ ?_
          · refine Only.step (State.modNfc_only ..) rfl ?_
            exact h1
          · refine Only.step (State.nfcRaise_only ..) rfl ?_
            refine Only.step (State.modNfc_only ..) rfl ?_
            exact h1
        · refine Only.step (State.nfcRaise_only ..) rfl ?_
          refine Only.step (State.modNfc_only ..) rfl ?_
          exact h1
      · refine Only.step (State.nfcRaise_only ..) rfl ?_
        exact h1

theorem execNfcPresenceCheck_only (a0 : _) (a1 : _) :
    OnlyRes [.nfc, .free] a1 (execNfcPresenceCheck a0 a1) := by
  unfold execNfcPresenceCheck
  refine OnlyRes.next ?_
  refine Only.ite ?_ ?_
  · exact (Only.refl _ _)
  · refine Only.step (State.dropCard_only ..) rfl ?_
    exact (Only.refl _ _)

theorem execNrgEventRead_only (a0 : _) (a1 : _) (a2 : _) (a3 : _) :
    OnlyRes [.sys, .msh, .host, .sent, .nrg, .chn] a3 (execNrgEventRead a0 a1 a2 a3) := by
  unfold execNrgEventRead
  refine OnlyRes.next ?_
  refine State.readEvent_only rfl (fun u1 h1 => ?_) ?_
  · refine Only.step (State.modNrg_only ..) rfl ?_
    exact h1
  · exact (Only.refl _ _)

theorem execNumvfsWrite_only (a0 : _) (a1 : _) :
    OnlyRes [.sys, .msh, .host, .sent, .chn] a1 (execNumvfsWrite a0 a1) := by
  unfold execNumvfsWrite
  refine OnlyRes.next ?_
  refine State.cfgRequest_only rfl (fun u1 h1 => ?_) ?_
  · refine Only.ite ?_ ?_
    · exact h1
    · refine Only.step (State.modHost_only ..) rfl ?_
      exact h1
  · exact (Only.refl _ _)

theorem execNvmeControllerFatal_only (a0 : _) :
    OnlyRes [.cave, .host, .sent] a0 (execNvmeControllerFatal a0) := by
  unfold execNvmeControllerFatal
  refine OnlyRes.next ?_
  refine Only.step (State.caveFault_only ..) rfl ?_
  exact (Only.refl _ _)

theorem execNvmeTimeout_only (a0 : _) :
    OnlyRes [.cave, .host, .sent] a0 (execNvmeTimeout a0) := by
  unfold execNvmeTimeout
  refine OnlyRes.next ?_
  split
  · exact (Only.refl _ _)
  · exact (Only.refl _ _)
  · exact (Only.refl _ _)
  · extract_lets +onlyGivenNames x1
    refine Only.keep x1 ?_ ?_
    · unfold x1
      refine Only.step (State.emit_only ..) rfl ?_
      refine Only.step (State.caveRaise_only ..) rfl ?_
      refine Only.step (State.modCave_only ..) rfl ?_
      exact (Only.refl _ _)
    intro h1
    clear_value x1
    refine Only.ite ?_ ?_
    · refine Only.step (State.caveFault_only ..) rfl ?_
      exact h1
    · exact h1

theorem execNvmeWriteComplete_only (a0 : _) :
    OnlyRes [.cave, .host, .sent] a0 (execNvmeWriteComplete a0) := by
  unfold execNvmeWriteComplete
  refine OnlyRes.next ?_
  refine Only.ite ?_ ?_
  · exact (Only.refl _ _)
  · split
    · exact (Only.refl _ _)
    · extract_lets +onlyGivenNames x1
      refine Only.keep x1 ?_ ?_
      · unfold x1
        refine Only.step (State.modCave_only ..) rfl ?_
        exact (Only.refl _ _)
      intro h1
      clear_value x1
      refine Only.step (State.shed_only ..) rfl ?_
      split
      · extract_lets +onlyGivenNames x2
        refine Only.keep x2 ?_ ?_
        · unfold x2
          refine Only.step (State.storeRec_only ..) rfl ?_
          exact h1
        intro h2
        clear_value x2
        refine Only.ite ?_ ?_
        · refine Only.step (State.emit_only ..) rfl ?_
          exact h2
        · exact h2
      · refine Only.step (State.storeRec_only ..) rfl ?_
        exact h1
      · refine Only.step (State.modCave_only ..) rfl ?_
        exact h1

theorem execOffOpen_only (a0 : _) (a1 : _) (a2 : _) :
    OnlyRes [.ls] a2 (execOffOpen a0 a1 a2) := by
  unfold execOffOpen
  refine OnlyRes.next ?_
  refine Only.step (State.modLsCh_only ..) rfl ?_
  exact (Only.refl _ _)

theorem execOpenConfirmTimeout_only (a0 : _) (a1 : _) :
    OnlyRes [.ses, .sp, .cave, .host, .sent, .saf, .brk] a1 (execOpenConfirmTimeout a0 a1) := by
  unfold execOpenConfirmTimeout
  extract_lets +onlyGivenNames x1
  refine OnlyRes.next ?_
  refine Only.ite ?_ ?_
  · exact (Only.refl _ _)
  · refine Only.ite ?_ ?_
    · refine Only.step (State.confirmOpen_only ..) rfl ?_
      exact (Only.refl _ _)
    · refine Only.step (State.contactorFault_only ..) rfl ?_
      exact (Only.refl _ _)

theorem execOpenConfirmation_only (a0 : _) (a1 : _) :
    OnlyRes [.jnl, .met, .host, .pq, .legal, .sent, .bil, .nrg] a1 (execOpenConfirmation a0 a1) := by
  unfold execOpenConfirmation
  refine OnlyRes.next ?_
  refine Only.ite ?_ ?_
  · exact (Only.refl _ _)
  · extract_lets +onlyGivenNames x1
    refine Only.keep x1 ?_ ?_
    · unfold x1
      refine Only.ite ?_ ?_
      · refine Only.step (State.modNrg_only ..) rfl ?_
        exact (Only.refl _ _)
      · exact (Only.refl _ _)
    intro h1
    clear_value x1
    extract_lets +onlyGivenNames x2
    refine Only.keep x2 ?_ ?_
    · unfold x2
      refine Only.ite ?_ ?_
      · refine Only.step (State.modBil_only ..) rfl ?_
        exact h1
      · exact h1
    intro h2
    clear_value x2
    refine Only.step (State.holdStop_only ..) rfl ?_
    refine Only.step (State.closeEnded_only ..) rfl ?_
    exact h2

theorem execOpenKeySession_only (a0 : _) (a1 : _) :
    OnlyRes [.keys] a1 (execOpenKeySession a0 a1) := by
  unfold execOpenKeySession
  extract_lets +onlyGivenNames x1
  extract_lets +onlyGivenNames x2
  extract_lets +onlyGivenNames x3
  refine OnlyRes.next ?_
  split
  · refine Only.step (State.vaultRefuse_only ..) rfl ?_
    exact (Only.refl _ _)
  · refine Only.ite ?_ ?_
    · refine Only.step (State.vaultRefuse_only ..) rfl ?_
      exact (Only.refl _ _)
    · split
      · refine Only.step (State.vaultRefuse_only ..) rfl ?_
        exact (Only.refl _ _)
      · extract_lets +onlyGivenNames x4
        refine Only.step (State.vaultDone_only ..) rfl ?_
        refine Only.step (State.setKeySes_only ..) rfl ?_
        exact (Only.refl _ _)

theorem execOpenReq_only (a0 : _) (a1 : _) :
    OnlyRes [.ses, .sp, .sys, .cave, .host, .sent, .saf, .brk] a1 (execOpenReq a0 a1) := by
  unfold execOpenReq
  refine OnlyRes.next ?_
  refine Only.step (State.safeAnswer_only ..) rfl ?_
  refine Only.step (State.checkStop_only ..) rfl ?_
  refine Only.step (State.openPort_only ..) rfl ?_
  refine Only.step (State.heartbeat_only ..) rfl ?_
  exact (Only.refl _ _)

theorem execOptAckTimeout_only (a0 : _) :
    OnlyRes [.legal] a0 (execOptAckTimeout a0) := by
  unfold execOptAckTimeout
  refine OnlyRes.next ?_
  refine Only.ite ?_ ?_
  · refine Only.step (State.modOpt_only ..) rfl ?_
    exact (Only.refl _ _)
  · exact (Only.refl _ _)

theorem execOptAcknowledgement_only (a0 : _) (a1 : _) (a2 : _) :
    OnlyRes [.legal] a2 (execOptAcknowledgement a0 a1 a2) := by
  unfold execOptAcknowledgement
  refine OnlyRes.next ?_
  refine Only.ite ?_ ?_
  · exact (Only.refl _ _)
  · refine Only.ite ?_ ?_
    · refine Only.step (State.modOpt_only ..) rfl ?_
      exact (Only.refl _ _)
    · refine Only.step (State.modOpt_only ..) rfl ?_
      exact (Only.refl _ _)

theorem execOptDataMessage_only (a0 : _) :
    OnlyRes [.legal, .sent] a0 (execOptDataMessage a0) := by
  unfold execOptDataMessage
  refine OnlyRes.next ?_
  refine Only.ite ?_ ?_
  · refine Only.step (State.emit_only ..) rfl ?_
    refine Only.step (State.modOpt_only ..) rfl ?_
    exact (Only.refl _ _)
  · exact (Only.refl _ _)

theorem execOptDataMessageDone_only (a0 : _) :
    OnlyRes [.legal] a0 (execOptDataMessageDone a0) := by
  unfold execOptDataMessageDone
  refine OnlyRes.next ?_
  refine Only.ite ?_ ?_
  · refine Only.step (State.modOpt_only ..) rfl ?_
    exact (Only.refl _ _)
  · exact (Only.refl _ _)

theorem execOptIdentification_only (a0 : _) :
    OnlyRes [.legal, .sent] a0 (execOptIdentification a0) := by
  unfold execOptIdentification
  refine OnlyRes.next ?_
  refine Only.ite ?_ ?_
  · refine Only.step (State.emit_only ..) rfl ?_
    refine Only.step (State.modOpt_only ..) rfl ?_
    exact (Only.refl _ _)
  · exact (Only.refl _ _)

theorem execOscillatorFault_only (a0 : _) :
    OnlyRes [.ses, .sp, .cave, .host, .sent, .saf, .lk, .brk] a0 (execOscillatorFault a0) := by
  unfold execOscillatorFault
  refine OnlyRes.next ?_
  refine Only.step (State.execFault_only ..) rfl ?_
  exact (Only.refl _ _)

theorem execOutReq_only (a0 : _) (a1 : _) :
    OnlyRes [.ses, .sp, .sys, .cave, .host, .sent, .saf, .brk] a1 (execOutReq a0 a1) := by
  unfold execOutReq
  refine OnlyRes.next ?_
  refine Only.step (State.safeAnswer_only ..) rfl ?_
  refine Only.step (State.writeOuts_only ..) rfl ?_
  refine Only.step (State.modSaf_only ..) rfl ?_
  refine Only.step (State.heartbeat_only ..) rfl ?_
  exact (Only.refl _ _)

theorem execP0Repeat_only (a0 : _) :
    OnlyRes [.sent, .chn] a0 (execP0Repeat a0) := by
  unfold execP0Repeat
  refine OnlyRes.next ?_
  split
  · exact (Only.refl _ _)
  · extract_lets +onlyGivenNames x1
    extract_lets +onlyGivenNames x2
    refine Only.keep x2 ?_ ?_
    · unfold x2
      refine Only.step (State.modChn_only ..) rfl ?_
      exact (Only.refl _ _)
    intro h1
    clear_value x2
    refine Only.ite ?_ ?_
    · exact h1
    · refine Only.step (State.queueFrame_only ..) rfl ?_
      refine Only.step (State.queueFrame_only ..) rfl ?_
      exact h1

theorem execPairLowRead_only (a0 : _) (a1 : _) (a2 : _) :
    OnlyRes [.sys, .msh, .host, .sent, .chn] a2 (execPairLowRead a0 a1 a2) := by
  unfold execPairLowRead
  refine OnlyRes.next ?_
  refine Only.ite ?_ ?_
  · exact (Only.refl _ _)
  · refine State.access_only rfl (fun u1 h1 => ?_) ?_
    · split
      · refine Only.step (State.emit_only ..) rfl ?_
        refine Only.step (State.modGuest_only ..) rfl ?_
        exact h1
      · extract_lets +onlyGivenNames x1
        refine Only.keep x1 ?_ ?_
        · unfold x1
          refine Only.step (State.emit_only ..) rfl ?_
          exact h1
        intro h2
        clear_value x1
        refine Only.ite ?_ ?_
        · refine Only.step (State.modGuest_only ..) rfl ?_
          exact h2
        · exact h2
    · exact (Only.refl _ _)

theorem execPauseLimit_only (a0 : _) (a1 : _) :
    OnlyRes [.ses, .jnl, .sp, .sys, .pm, .cave, .nfc, .met, .msh, .host, .sl, .veh, .legal, .free, .lease, .conf, .sent, .pwr, .bil, .nrg, .saf, .chn, .ls, .lk, .brk] a1 (execPauseLimit a0 a1) := by
  unfold execPauseLimit
  refine OnlyRes.next ?_
  refine Only.ite ?_ ?_
  · refine Only.step (State.endSession_only ..) rfl ?_
    exact (Only.refl _ _)
  · exact (Only.refl _ _)

theorem execPerstAssert_only (a0 : _) :
    OnlyRes [.sys, .msh, .host, .sent, .chn] a0 (execPerstAssert a0) := by
  unfold execPerstAssert
  refine OnlyRes.next ?_
  refine Only.step (State.hostGone_only ..) rfl ?_
  exact (Only.refl _ _)

theorem execPfcChipSnap_only (a0 : _) (a1 : _) :
    OnlyRes [.sys, .msh, .host, .sent, .chn] a1 (execPfcChipSnap a0 a1) := by
  unfold execPfcChipSnap
  refine OnlyRes.next ?_
  refine State.hostWrite_only rfl (fun u1 h1 => ?_) ?_
  · refine Only.ite ?_ ?_
    · refine Only.step (State.modPfc_only ..) rfl ?_
      refine Only.step (State.modHost_only ..) rfl ?_
      exact h1
    · exact h1
  · exact (Only.refl _ _)

theorem execPfcFreeze_only (a0 : _) (a1 : _) (a2 : _) :
    OnlyRes [.sys, .msh, .host, .sent, .chn] a2 (execPfcFreeze a0 a1 a2) := by
  unfold execPfcFreeze
  refine OnlyRes.next ?_
  refine State.hostWrite_only rfl (fun u1 h1 => ?_) ?_
  · refine Only.step (State.modPfc_only ..) rfl ?_
    exact h1
  · exact (Only.refl _ _)

theorem execPfcOvfClear_only (a0 : _) (a1 : _) (a2 : _) :
    OnlyRes [.sys, .msh, .host, .sent, .chn] a2 (execPfcOvfClear a0 a1 a2) := by
  unfold execPfcOvfClear
  refine OnlyRes.next ?_
  refine State.hostWrite_only rfl (fun u1 h1 => ?_) ?_
  · refine Only.step (State.modPfc_only ..) rfl ?_
    exact h1
  · exact (Only.refl _ _)

theorem execPfcPreset_only (a0 : _) (a1 : _) (a2 : _) (a3 : _) :
    OnlyRes [.sys, .msh, .host, .sent, .chn] a3 (execPfcPreset a0 a1 a2 a3) := by
  unfold execPfcPreset
  refine OnlyRes.next ?_
  refine State.hostWrite_only rfl (fun u1 h1 => ?_) ?_
  · refine Only.step (State.modPfc_only ..) rfl ?_
    exact h1
  · exact (Only.refl _ _)

theorem execPfcSnap_only (a0 : _) (a1 : _) :
    OnlyRes [.sys, .msh, .host, .sent, .chn] a1 (execPfcSnap a0 a1) := by
  unfold execPfcSnap
  refine OnlyRes.next ?_
  refine State.hostWrite_only rfl (fun u1 h1 => ?_) ?_
  · refine Only.step (State.modPfc_only ..) rfl ?_
    exact h1
  · exact (Only.refl _ _)

theorem execPfwAssert_only (a0 : _) :
    OnlyRes [.jnl, .legal] a0 (execPfwAssert a0) := by
  unfold execPfwAssert
  extract_lets +onlyGivenNames x1
  refine OnlyRes.keep x1 ?_ ?_
  · unfold x1
    refine Only.step (State.modLegal_only ..) rfl ?_
    exact (Only.refl _ _)
  intro h1
  clear_value x1
  refine OnlyRes.next ?_
  refine Only.ite ?_ ?_
  · refine Only.step (State.beginSaves_only ..) rfl ?_
    exact h1
  · exact h1

theorem execPfwRelease_only (a0 : _) :
    OnlyRes [.legal] a0 (execPfwRelease a0) := by
  unfold execPfwRelease
  refine OnlyRes.next ?_
  refine Only.step (State.modLegal_only ..) rfl ?_
  exact (Only.refl _ _)

theorem execPfwStuck_only (a0 : _) :
    OnlyRes [.jnl, .legal] a0 (execPfwStuck a0) := by
  unfold execPfwStuck
  extract_lets +onlyGivenNames x1
  refine OnlyRes.next ?_
  refine Only.ite ?_ ?_
  · exact (Only.refl _ _)
  · refine Only.step (State.resumeRipening_only ..) rfl ?_
    refine Only.step (State.modLegal_only ..) rfl ?_
    exact (Only.refl _ _)

theorem execPhase_only (a0 : _) (a1 : _) (a2 : _) :
    OnlyRes [.msh, .sent] a2 (execPhase a0 a1 a2) := by
  unfold execPhase
  refine OnlyRes.next ?_
  refine State.meshRx_only rfl (fun u1 h1 => ?_) ?_
  · refine Only.step (State.eatPhase_only ..) rfl ?_
    exact h1
  · exact (Only.refl _ _)

theorem execPhaseFrameTimeout_only (a0 : _) (a1 : _) :
    OnlyRes [.msh] a1 (execPhaseFrameTimeout a0 a1) := by
  unfold execPhaseFrameTimeout
  refine OnlyRes.next ?_
  refine Only.step (State.modNbr_only ..) rfl ?_
  exact (Only.refl _ _)

theorem execPhaseSend_only (a0 : _) :
    OnlyRes [.msh] a0 (execPhaseSend a0) := by
  unfold execPhaseSend
  refine OnlyRes.next ?_
  refine Only.ite ?_ ?_
  · extract_lets +onlyGivenNames x1
    refine Only.step (State.modMsh_only ..) rfl ?_
    refine Only.step (State.holdPhase_only ..) rfl ?_
    refine Only.step (State.meshSend_only ..) rfl ?_
    exact (Only.refl _ _)
  · exact (Only.refl _ _)

theorem execPilotCaptureDone_only (a0 : _) (a1 : _) :
    OnlyRes [.jnl, .met, .host, .sl, .sent] a1 (execPilotCaptureDone a0 a1) := by
  unfold execPilotCaptureDone
  extract_lets +onlyGivenNames x1
  refine OnlyRes.next ?_
  split
  · refine Only.ite ?_ ?_
    · extract_lets +onlyGivenNames x2
      extract_lets +onlyGivenNames x3
      extract_lets +onlyGivenNames x4
      refine Only.keep x4 ?_ ?_
      · unfold x4
        refine Only.step (State.appendLegal_only ..) rfl ?_
        refine Only.step (State.modMet_only ..) rfl ?_
        exact (Only.refl _ _)
      intro h1
      clear_value x4
      extract_lets +onlyGivenNames x5
      refine Only.keep x5 ?_ ?_
      · unfold x5
        refine Only.each (fun a1x u1 h2 => ?_) ?_
        · refine Only.step (State.modSl_only ..) rfl ?_
          exact h2
        · exact h1
      intro h3
      clear_value x5
      refine Only.step (State.final_only ..) rfl ?_
      refine Only.step (State.metRaise_only ..) rfl ?_
      exact h3
    · exact (Only.refl _ _)
  · exact (Only.refl _ _)

theorem execPilotCaptureTimeout_only (a0 : _) (a1 : _) :
    OnlyRes [.met, .host] a1 (execPilotCaptureTimeout a0 a1) := by
  unfold execPilotCaptureTimeout
  refine OnlyRes.next ?_
  split
  · refine Only.step (State.modMet_only ..) rfl ?_
    refine Only.step (State.final_only ..) rfl ?_
    exact (Only.refl _ _)
  · exact (Only.refl _ _)

theorem execPilotWindowEnd_only (a0 : _) (a1 : _) (a2 : _) :
    OnlyRes [.jnl, .met, .host, .sl, .pq, .legal, .sent, .nrg] a2 (execPilotWindowEnd a0 a1 a2) := by
  unfold execPilotWindowEnd
  refine OnlyRes.next ?_
  split
  · exact (Only.refl _ _)
  · refine Only.ite ?_ ?_
    · exact (Only.refl _ _)
    · extract_lets +onlyGivenNames x1
      extract_lets +onlyGivenNames x2
      refine Only.keep x2 ?_ ?_
      · unfold x2
        refine Only.foldl (fun u1 a1x h1 => ?_) ?_
        · refine Only.step (State.pathWindow_only ..) rfl ?_
          exact h1
        · exact (Only.refl _ _)
      intro h2
      clear_value x2
      extract_lets +onlyGivenNames x3
      refine Only.keep x3 ?_ ?_
      · unfold x3
        refine Only.each (fun a2x u2 h3 => ?_) ?_
        · refine Only.step (State.overlapWindow_only ..) rfl ?_
          exact h3
        · exact h2
      intro h4
      clear_value x3
      extract_lets +onlyGivenNames x4
      refine Only.keep x4 ?_ ?_
      · unfold x4
        refine Only.step (State.modMet_only ..) rfl ?_
        exact h4
      intro h5
      clear_value x4
      refine Only.step (State.headsFrom_only ..) rfl ?_
      exact h5

theorem execPmAck_only (a0 : _) (a1 : _) (a2 : _) (a3 : _) (a4 : _) (a5 : _) :
    OnlyRes [.pm, .pwr] a5 (execPmAck a0 a1 a2 a3 a4 a5) := by
  unfold execPmAck
  refine OnlyRes.next ?_
  refine Only.ite ?_ ?_
  · exact (Only.refl _ _)
  · extract_lets +onlyGivenNames x1
    refine Only.keep x1 ?_ ?_
    · unfold x1
      refine Only.step (State.pmRx_only ..) rfl ?_
      exact (Only.refl _ _)
    intro h1
    clear_value x1
    split
    · exact h1
    · refine Only.step (State.modPwr_only ..) rfl ?_
      exact h1

theorem execPmAckTimeout_only (a0 : _) (a1 : _) :
    OnlyRes [.ses, .jnl, .sp, .sys, .pm, .cave, .nfc, .met, .msh, .host, .sl, .veh, .legal, .free, .lease, .conf, .sent, .pwr, .bil, .nrg, .saf, .chn, .ls, .lk, .brk] a1 (execPmAckTimeout a0 a1) := by
  unfold execPmAckTimeout
  refine OnlyRes.next ?_
  split
  · refine Only.step (State.pmFault_only ..) rfl ?_
    refine Only.ite ?_ ?_
    · refine Only.step (State.pwrRaise_only ..) rfl ?_
      exact (Only.refl _ _)
    · exact (Only.refl _ _)
  · exact (Only.refl _ _)

theorem execPmBadFrame_only (a0 : _) (a1 : _) :
    OnlyRes [.ses, .jnl, .sp, .sys, .pm, .cave, .nfc, .met, .msh, .host, .sl, .veh, .legal, .free, .lease, .conf, .sent, .pwr, .bil, .nrg, .saf, .chn, .ls, .lk, .brk] a1 (execPmBadFrame a0 a1) := by
  unfold execPmBadFrame
  extract_lets +onlyGivenNames x1
  refine OnlyRes.next ?_
  refine Only.ite ?_ ?_
  · exact (Only.refl _ _)
  · extract_lets +onlyGivenNames x2
    extract_lets +onlyGivenNames x3
    refine Only.keep x3 ?_ ?_
    · unfold x3
      refine Only.step (State.modPmLink_only ..) rfl ?_
      exact (Only.refl _ _)
    intro h1
    clear_value x3
    refine Only.ite ?_ ?_
    · refine Only.step (State.pmFault_only ..) rfl ?_
      exact h1
    · exact h1

theorem execPmFault_only (a0 : _) (a1 : _) (a2 : _) (a3 : _) (a4 : _) (a5 : _) :
    OnlyRes [.ses, .jnl, .sp, .sys, .pm, .cave, .nfc, .met, .msh, .host, .sl, .veh, .legal, .free, .lease, .conf, .sent, .pwr, .bil, .nrg, .saf, .chn, .ls, .lk, .brk] a5 (execPmFault a0 a1 a2 a3 a4 a5) := by
  unfold execPmFault
  refine OnlyRes.next ?_
  refine Only.ite ?_ ?_
  · exact (Only.refl _ _)
  · extract_lets +onlyGivenNames x1
    refine Only.keep x1 ?_ ?_
    · unfold x1
      refine Only.step (State.pmRx_only ..) rfl ?_
      exact (Only.refl _ _)
    intro h1
    clear_value x1
    split
    · exact h1
    · refine Only.ite ?_ ?_
      · refine Only.step (State.resetPort_only ..) rfl ?_
        exact h1
      · exact h1

theorem execPmLimits_only (a0 : _) (a1 : _) (a2 : _) (a3 : _) (a4 : _) :
    OnlyRes [.pm, .host, .veh, .sent, .pwr] a4 (execPmLimits a0 a1 a2 a3 a4) := by
  unfold execPmLimits
  refine OnlyRes.next ?_
  refine Only.ite ?_ ?_
  · exact (Only.refl _ _)
  · extract_lets +onlyGivenNames x1
    refine Only.keep x1 ?_ ?_
    · unfold x1
      refine Only.step (State.modPmLink_only ..) rfl ?_
      refine Only.step (State.pmRx_only ..) rfl ?_
      exact (Only.refl _ _)
    intro h1
    clear_value x1
    extract_lets +onlyGivenNames x2
    refine Only.keep x2 ?_ ?_
    · unfold x2
      refine Only.ite ?_ ?_
      · exact h1
      · refine Only.foldl (fun u1 a1x h2 => ?_) ?_
        · refine Only.ite ?_ ?_
          · refine Only.step (State.enable_only ..) rfl ?_
            exact h2
          · exact h2
        · exact h1
    intro h3
    clear_value x2
    split
    · exact h3
    · extract_lets +onlyGivenNames x3
      refine Only.ite ?_ ?_
      · exact h3
      · extract_lets +onlyGivenNames x4
        refine Only.keep x4 ?_ ?_
        · unfold x4
          refine Only.step (State.pwrRaise_only ..) rfl ?_
          refine Only.step (State.modPwr_only ..) rfl ?_
          exact h3
        intro h4
        clear_value x4
        refine Only.step (State.wantChanged_only ..) rfl ?_
        refine Only.ite ?_ ?_
        · refine Only.step (State.retarget_only ..) rfl ?_
          exact h4
        · exact h4

theorem execPmLinkRetrain_only (a0 : _) (a1 : _) :
    OnlyRes [.pm] a1 (execPmLinkRetrain a0 a1) := by
  unfold execPmLinkRetrain
  refine OnlyRes.next ?_
  refine Only.ite ?_ ?_
  · refine Only.step (State.modPmLink_only ..) rfl ?_
    exact (Only.refl _ _)
  · exact (Only.refl _ _)

theorem execPmRxSilence_only (a0 : _) (a1 : _) :
    OnlyRes [.ses, .jnl, .sp, .sys, .pm, .cave, .nfc, .met, .msh, .host, .sl, .veh, .legal, .free, .lease, .conf, .sent, .pwr, .bil, .nrg, .saf, .chn, .ls, .lk, .brk] a1 (execPmRxSilence a0 a1) := by
  unfold execPmRxSilence
  refine OnlyRes.next ?_
  refine Only.step (State.pmFault_only ..) rfl ?_
  exact (Only.refl _ _)

theorem execPmStatus_only (a0 : _) (a1 : _) (a2 : _) (a3 : _) (a4 : _) :
    OnlyRes [.ses, .sys, .pm, .host, .veh, .sent, .pwr] a4 (execPmStatus a0 a1 a2 a3 a4) := by
  unfold execPmStatus
  refine OnlyRes.next ?_
  refine Only.ite ?_ ?_
  · exact (Only.refl _ _)
  · extract_lets +onlyGivenNames x1
    refine Only.keep x1 ?_ ?_
    · unfold x1
      refine Only.step (State.modPmLink_only ..) rfl ?_
      refine Only.step (State.pmRx_only ..) rfl ?_
      exact (Only.refl _ _)
    intro h1
    clear_value x1
    split
    · exact h1
    · extract_lets +onlyGivenNames x2
      refine Only.keep x2 ?_ ?_
      · unfold x2
        refine Only.step (State.modPwr_only ..) rfl ?_
        exact h1
      intro h2
      clear_value x2
      refine Only.step (State.checkPrecharge_only ..) rfl ?_
      refine Only.step (State.checkTarget_only ..) rfl ?_
      refine Only.step (State.stepApplied_only ..) rfl ?_
      exact h2

theorem execPmSyncSend_only (a0 : _) (a1 : _) :
    OnlyRes [.pm, .sent] a1 (execPmSyncSend a0 a1) := by
  unfold execPmSyncSend
  refine OnlyRes.next ?_
  refine Only.step (State.pmSend_only ..) rfl ?_
  exact (Only.refl _ _)

theorem execPoisonedTlp_only (a0 : _) (a1 : _) :
    OnlyRes [.sys, .msh, .host, .sent, .chn] a1 (execPoisonedTlp a0 a1) := by
  unfold execPoisonedTlp
  refine OnlyRes.next ?_
  refine Only.step (State.hostActive_only ..) rfl ?_
  refine Only.step (State.emit_only ..) rfl ?_
  refine Only.step (State.modGuest_only ..) rfl ?_
  exact (Only.refl _ _)

theorem execPorRelease_only (a0 : _) :
    OnlyRes [.ses, .jnl, .dsp, .sp, .sys, .pm, .time, .cave, .nfc, .met, .msh, .host, .sl, .fw, .veh, .pq, .keys, .legal, .lease, .conf, .sent, .pwr, .bil, .nrg, .saf, .chn, .ls, .lk, .brk, .rind] a0 (execPorRelease a0) := by
  have k : Only [.ses, .jnl, .dsp, .sp, .sys, .pm, .time, .cave, .nfc, .met, .msh, .host, .sl, .fw, .veh, .pq, .keys, .legal, .lease, .conf, .sent, .pwr, .bil, .nrg, .saf, .chn, .ls, .lk, .brk, .rind] a0 a0.clearService := (State.clearService_only ..).mono rfl
  unfold execPorRelease
  refine OnlyRes.ite (OnlyRes.next (Only.refl _ _)) (OnlyRes.next ?_)
  refine Only.step (State.rootlessStart_only ..) rfl (Only.step (State.batteryStart_only ..) rfl (Only.step (State.shipRestore_only ..) rfl ?_))
  constructor
  intro p hp
  have h : p = .free ∨ p = .pending := by revert hp; cases p <;> decide
  rcases h with rfl | rfl
  · exact k.same .free (by decide)
  · exact k.same .pending (by decide)

theorem execPortState_only (a0 : _) (a1 : _) :
    OnlyRes [.ses, .jnl, .sp, .sys, .pm, .cave, .nfc, .met, .msh, .host, .sl, .veh, .legal, .free, .lease, .conf, .sent, .pwr, .bil, .nrg, .saf, .chn, .ls, .lk, .brk] a1 (execPortState a0 a1) := by
  unfold execPortState
  refine OnlyRes.next ?_
  refine Only.step (State.availPoll_only ..) rfl ?_
  refine Only.step (State.runDeferred_only ..) rfl ?_
  refine Only.step (State.dueUnlock_only ..) rfl ?_
  refine Only.step (State.advance_only ..) rfl ?_
  refine Only.step (State.followSafety_only ..) rfl ?_
  exact (Only.refl _ _)

theorem execPowerEpochStart_only (a0 : _) :
    OnlyRes [.ses, .jnl, .sp, .sys, .pm, .cave, .nfc, .met, .msh, .host, .sl, .fw, .veh, .legal, .free, .lease, .conf, .sent, .pwr, .saf, .chn, .ls, .lk] a0 (execPowerEpochStart a0) := by
  unfold execPowerEpochStart
  refine OnlyRes.ite ?_ ?_
  · refine OnlyRes.next ?_
    exact (Only.refl _ _)
  · extract_lets +onlyGivenNames x1
    refine OnlyRes.keep x1 ?_ ?_
    · unfold x1
      refine Only.step (State.renewFence_only ..) rfl ?_
      refine Only.step (State.modLease_only ..) rfl ?_
      refine Only.step (State.renewLease_only ..) rfl ?_
      exact (Only.refl _ _)
    intro h1
    clear_value x1
    extract_lets +onlyGivenNames x2
    refine OnlyRes.keep x2 ?_ ?_
    · unfold x2
      refine Only.step (State.modChn_only ..) rfl ?_
      exact h1
    intro h2
    clear_value x2
    extract_lets +onlyGivenNames x3
    refine OnlyRes.keep x3 ?_ ?_
    · unfold x3
      refine Only.ite ?_ ?_
      · refine Only.step (State.applyBoundary_only ..) rfl ?_
        refine Only.step (State.releaseSite_only ..) rfl ?_
        refine Only.step (State.applyHeld_only ..) rfl ?_
        exact h2
      · exact h2
    intro h3
    clear_value x3
    extract_lets +onlyGivenNames x4
    refine OnlyRes.keep x4 ?_ ?_
    · unfold x4
      refine Only.ite ?_ ?_
      · exact h3
      · refine Only.step (State.renewLease_only ..) rfl ?_
        exact h3
    intro h4
    clear_value x4
    refine OnlyRes.next ?_
    refine Only.step (State.availAll_only ..) rfl ?_
    refine Only.step (State.divide_only ..) rfl ?_
    refine Only.step (State.propose_only ..) rfl ?_
    exact h4

theorem execPowerOnReset_only (a0 : _) (a1 : _) :
    OnlyRes [.sp, .sys, .legal, .saf, .ls, .lk, .brk] a1 (execPowerOnReset a0 a1) := by
  unfold execPowerOnReset
  refine OnlyRes.next ?_
  refine Only.ite ?_ ?_
  · exact (Only.refl _ _)
  · refine Only.step (State.modSys_only ..) rfl ?_
    refine Only.step (State.modLegal_only ..) rfl ?_
    refine Only.step (State.outputsOff_only ..) rfl ?_
    exact (Only.refl _ _)

theorem execPpMeasurement_only (a0 : _) (a1 : _) (a2 : _) :
    OnlyRes [.ses, .jnl, .sp, .sys, .pm, .cave, .nfc, .met, .msh, .host, .sl, .veh, .legal, .free, .lease, .conf, .sent, .pwr, .bil, .nrg, .saf, .chn, .ls, .lk, .brk] a2 (execPpMeasurement a0 a1 a2) := by
  unfold execPpMeasurement
  extract_lets +onlyGivenNames x1
  extract_lets +onlyGivenNames x2
  refine OnlyRes.keep x2 ?_ ?_
  · unfold x2
    refine Only.step (State.modVeh_only ..) rfl ?_
    exact (Only.refl _ _)
  intro h1
  clear_value x2
  refine OnlyRes.next ?_
  refine Only.ite ?_ ?_
  · refine Only.step (State.ppAccept_only ..) rfl ?_
    exact h1
  · exact h1

theorem execPqEventRead_only (a0 : _) (a1 : _) (a2 : _) (a3 : _) :
    OnlyRes [.sys, .msh, .host, .pq, .sent, .chn] a3 (execPqEventRead a0 a1 a2 a3) := by
  unfold execPqEventRead
  refine OnlyRes.next ?_
  refine State.readEvent_only rfl (fun u1 h1 => ?_) ?_
  · refine Only.step (State.modPq_only ..) rfl ?_
    exact h1
  · exact (Only.refl _ _)

theorem execPqSiteEventRead_only (a0 : _) (a1 : _) (a2 : _) :
    OnlyRes [.sys, .msh, .host, .legal, .sent, .chn] a2 (execPqSiteEventRead a0 a1 a2) := by
  unfold execPqSiteEventRead
  refine OnlyRes.next ?_
  refine State.readEvent_only rfl (fun u1 h1 => ?_) ?_
  · refine Only.step (State.modLegal_only ..) rfl ?_
    exact h1
  · exact (Only.refl _ _)

theorem execPqSubstitutedRefresh_only (a0 : _) (a1 : _) (a2 : _) :
    OnlyRes [.host, .pq, .legal, .sent] a2 (execPqSubstitutedRefresh a0 a1 a2) := by
  unfold execPqSubstitutedRefresh
  refine OnlyRes.next ?_
  split
  · exact (Only.refl _ _)
  · extract_lets +onlyGivenNames x1
    split
    · exact (Only.refl _ _)
    · refine Only.ite ?_ ?_
      · exact (Only.refl _ _)
      · extract_lets +onlyGivenNames x2
        extract_lets +onlyGivenNames x3
        refine Only.ite ?_ ?_
        · try dsimp -zeta only [x3]
          refine Only.step (State.modDet_only ..) rfl ?_
          exact (Only.refl _ _)
        · split
          · refine Only.step (State.modDet_only ..) rfl ?_
            try dsimp -zeta only [x3]
            refine Only.step (State.modDet_only ..) rfl ?_
            exact (Only.refl _ _)
          · extract_lets +onlyGivenNames x4
            refine Only.keep x4 ?_ ?_
            · unfold x4
              try dsimp -zeta only [x3]
              refine Only.step (State.modDet_only ..) rfl ?_
              exact (Only.refl _ _)
            intro h1
            clear_value x4
            refine Only.step (State.pqJudge_only ..) rfl ?_
            exact h1

theorem execPreauthLapsed_only (a0 : _) (a1 : _) :
    OnlyRes [.ses, .cave, .host, .sent] a1 (execPreauthLapsed a0 a1) := by
  unfold execPreauthLapsed
  refine OnlyRes.next ?_
  refine Only.ite ?_ ?_
  · refine Only.step (State.sesRaise_only ..) rfl ?_
    refine Only.step (State.modSes_only ..) rfl ?_
    exact (Only.refl _ _)
  · exact (Only.refl _ _)

theorem execPrechargeTimeout_only (a0 : _) (a1 : _) :
    OnlyRes [.ses, .jnl, .sp, .sys, .pm, .cave, .nfc, .met, .msh, .host, .sl, .veh, .legal, .free, .lease, .conf, .sent, .pwr, .bil, .nrg, .saf, .chn, .ls, .lk, .brk] a1 (execPrechargeTimeout a0 a1) := by
  unfold execPrechargeTimeout
  refine OnlyRes.next ?_
  refine Only.ite ?_ ?_
  · refine Only.step (State.endSession_only ..) rfl ?_
    exact (Only.refl _ _)
  · exact (Only.refl _ _)

theorem execPrecloseTestEnd_only (a0 : _) (a1 : _) :
    OnlyRes [.ses, .sp, .cave, .host, .sent, .saf, .brk] a1 (execPrecloseTestEnd a0 a1) := by
  unfold execPrecloseTestEnd
  refine OnlyRes.next ?_
  refine Only.step (State.judgePreclose_only ..) rfl ?_
  refine Only.step (State.modSp_only ..) rfl ?_
  exact (Only.refl _ _)

theorem execProtocolError_only (a0 : _) (a1 : _) :
    OnlyRes [.ses, .jnl, .sp, .sys, .pm, .cave, .nfc, .met, .msh, .host, .sl, .veh, .legal, .free, .lease, .conf, .sent, .pwr, .bil, .nrg, .saf, .chn, .ls, .lk, .brk] a1 (execProtocolError a0 a1) := by
  unfold execProtocolError
  refine OnlyRes.next ?_
  refine Only.ite ?_ ?_
  · exact (Only.refl _ _)
  · refine Only.step (State.resetPort_only ..) rfl ?_
    exact (Only.refl _ _)

theorem execProtocolSequenceTimeout_only (a0 : _) (a1 : _) :
    OnlyRes [.ses, .cave, .host, .veh, .sent] a1 (execProtocolSequenceTimeout a0 a1) := by
  unfold execProtocolSequenceTimeout
  refine OnlyRes.next ?_
  refine Only.step (State.protocolLost_only ..) rfl ?_
  exact (Only.refl _ _)

theorem execProvisioning_only (a0 : _) :
    OnlyRes [.keys, .free, .rind] a0 (execProvisioning a0) := by
  unfold execProvisioning
  refine OnlyRes.next ?_
  refine Only.ite ?_ ?_
  · exact (Only.refl _ _)
  · extract_lets +onlyGivenNames x1
    refine Only.keep x1 ?_ ?_
    · unfold x1
      refine Only.step (State.useFree_only ..) rfl ?_
      refine Only.step (State.modRind_only ..) rfl ?_
      exact (Only.refl _ _)
    intro h1
    clear_value x1
    refine Only.step (State.keyRaise_only ..) rfl ?_
    refine Only.step (State.auditRind_only ..) rfl ?_
    refine Only.step (State.modKeys_only ..) rfl ?_
    exact h1

theorem execPulseInputEdge_only (a0 : _) (a1 : _) (a2 : _) :
    OnlyRes [.jnl, .met, .host, .legal, .sent, .nrg] a2 (execPulseInputEdge a0 a1 a2) := by
  unfold execPulseInputEdge
  extract_lets +onlyGivenNames x1
  refine OnlyRes.next ?_
  refine Only.ite ?_ ?_
  · exact (Only.refl _ _)
  · refine Only.ite ?_ ?_
    · refine Only.step (State.modInput_only ..) rfl ?_
      exact (Only.refl _ _)
    · extract_lets +onlyGivenNames x2
      refine Only.keep x2 ?_ ?_
      · unfold x2
        refine Only.step (State.modInput_only ..) rfl ?_
        exact (Only.refl _ _)
      intro h1
      clear_value x2
      extract_lets +onlyGivenNames x3
      refine Only.keep x3 ?_ ?_
      · unfold x3
        refine Only.each (fun a1x u1 h2 => ?_) ?_
        · refine Only.step (State.calEdge_only ..) rfl ?_
          exact h2
        · exact h1
      intro h3
      clear_value x3
      extract_lets +onlyGivenNames x4
      extract_lets +onlyGivenNames x5
      refine Only.ite ?_ ?_
      · refine Only.step (State.crossEdge_only ..) rfl ?_
        exact h3
      · refine Only.ite ?_ ?_
        · refine Only.step (State.modNrg_only ..) rfl ?_
          exact h3
        · exact h3

theorem execPulseOutputEmit_only (a0 : _) (a1 : _) :
    OnlyRes [.sent, .nrg] a1 (execPulseOutputEmit a0 a1) := by
  unfold execPulseOutputEmit
  extract_lets +onlyGivenNames x1
  extract_lets +onlyGivenNames x2
  extract_lets +onlyGivenNames x3
  refine OnlyRes.next ?_
  refine Only.ite ?_ ?_
  · refine Only.step (State.emit_only ..) rfl ?_
    refine Only.step (State.modNrg_only ..) rfl ?_
    exact (Only.refl _ _)
  · exact (Only.refl _ _)

theorem execPwrEventRead_only (a0 : _) (a1 : _) (a2 : _) (a3 : _) :
    OnlyRes [.sys, .msh, .host, .sent, .pwr, .chn] a3 (execPwrEventRead a0 a1 a2 a3) := by
  unfold execPwrEventRead
  refine OnlyRes.next ?_
  refine State.readEvent_only rfl (fun u1 h1 => ?_) ?_
  · refine Only.step (State.modPwr_only ..) rfl ?_
    exact h1
  · exact (Only.refl _ _)

theorem execQueDbD2hClear_only (a0 : _) (a1 : _) (a2 : _) :
    OnlyRes [.sys, .msh, .host, .sent, .chn] a2 (execQueDbD2hClear a0 a1 a2) := by
  unfold execQueDbD2hClear
  refine OnlyRes.next ?_
  refine State.hostWrite_only rfl (fun u1 h1 => ?_) ?_
  · refine Only.step (State.modGuest_only ..) rfl ?_
    exact h1
  · exact (Only.refl _ _)

theorem execQueDbH2d_only (a0 : _) (a1 : _) (a2 : _) :
    OnlyRes [.sys, .msh, .host, .sent, .chn] a2 (execQueDbH2d a0 a1 a2) := by
  unfold execQueDbH2d
  refine OnlyRes.next ?_
  refine State.hostWrite_only rfl (fun u1 h1 => ?_) ?_
  · refine Only.ite ?_ ?_
    · refine Only.step (State.count_only ..) rfl ?_
      refine Only.step (State.modGuest_only ..) rfl ?_
      exact h1
    · exact h1
  · exact (Only.refl _ _)

theorem execRailFault_only (a0 : _) :
    OnlyRes [.ses, .sp, .cave, .host, .sent, .saf, .lk, .brk] a0 (execRailFault a0) := by
  unfold execRailFault
  refine OnlyRes.next ?_
  refine Only.step (State.execFault_only ..) rfl ?_
  exact (Only.refl _ _)

theorem execRampDone_only (a0 : _) (a1 : _) :
    OnlyRes [.ses, .sp, .cave, .host, .sent, .saf, .brk] a1 (execRampDone a0 a1) := by
  unfold execRampDone
  refine OnlyRes.next ?_
  refine Only.step (State.heartbeat_only ..) rfl ?_
  exact (Only.refl _ _)

theorem execRampTimeout_only (a0 : _) (a1 : _) :
    OnlyRes [.ses, .sys, .host, .veh, .sent, .pwr] a1 (execRampTimeout a0 a1) := by
  unfold execRampTimeout
  refine OnlyRes.next ?_
  refine Only.ite ?_ ?_
  · refine Only.step (State.askOpen_only ..) rfl ?_
    refine Only.step (State.modSes_only ..) rfl ?_
    exact (Only.refl _ _)
  · exact (Only.refl _ _)

theorem execRateFaultClear_only (a0 : _) :
    OnlyRes [.sys, .host, .sent] a0 (execRateFaultClear a0) := by
  unfold execRateFaultClear
  refine OnlyRes.next ?_
  refine Only.ite ?_ ?_
  · refine Only.step (State.setTref_only ..) rfl ?_
    exact (Only.refl _ _)
  · exact (Only.refl _ _)

theorem execRcmTrip_only (a0 : _) (a1 : _) :
    OnlyRes [.ses, .sp, .cave, .host, .sent, .saf, .brk] a1 (execRcmTrip a0 a1) := by
  unfold execRcmTrip
  refine OnlyRes.next ?_
  refine Only.ite ?_ ?_
  · refine Only.step (State.checkStop_only ..) rfl ?_
    refine Only.step (State.tripPort_only ..) rfl ?_
    refine Only.step (State.modSp_only ..) rfl ?_
    refine Only.step (State.imdRaise_only ..) rfl ?_
    exact (Only.refl _ _)
  · exact (Only.refl _ _)

theorem execReadCaveRaw_only (a0 : _) (a1 : _) :
    OnlyRes [.host, .free, .sent] a1 (execReadCaveRaw a0 a1) := by
  unfold execReadCaveRaw
  extract_lets +onlyGivenNames x1
  extract_lets +onlyGivenNames x2
  refine OnlyRes.next ?_
  refine Only.ite ?_ ?_
  · refine Only.step (State.answer_only ..) rfl ?_
    exact (Only.refl _ _)
  · refine Only.ite ?_ ?_
    · refine Only.step (State.answer_only ..) rfl ?_
      exact (Only.refl _ _)
    · refine Only.ite ?_ ?_
      · refine Only.step (State.answer_only ..) rfl ?_
        exact (Only.refl _ _)
      · extract_lets +onlyGivenNames x3
        refine Only.step (State.answerRing_only ..) rfl ?_
        refine Only.step (State.useFree_only ..) rfl ?_
        exact (Only.refl _ _)

theorem execReadPage_only (a0 : _) (a1 : _) :
    OnlyRes [.nfc, .sent] a1 (execReadPage a0 a1) := by
  unfold execReadPage
  extract_lets +onlyGivenNames x1
  refine OnlyRes.next ?_
  refine State.selected_only rfl (fun u1 h1 => ?_) ?_
  · refine Only.ite ?_ ?_
    · refine Only.step (State.nfcRaise_only ..) rfl ?_
      refine Only.step (State.tagSays_only ..) rfl ?_
      exact h1
    · refine Only.ite ?_ ?_
      · refine Only.ite ?_ ?_
        · refine Only.step (State.nfcRaise_only ..) rfl ?_
          refine Only.step (State.tagSays_only ..) rfl ?_
          refine Only.step (State.modTag_only ..) rfl ?_
          exact h1
        · refine Only.step (State.tagSays_only ..) rfl ?_
          exact h1
      · refine Only.step (State.tagSays_only ..) rfl ?_
        exact h1
  · exact (Only.refl _ _)

theorem execReadWaveform_only (a0 : _) (a1 : _) :
    OnlyRes [.host, .sent] a1 (execReadWaveform a0 a1) := by
  unfold execReadWaveform
  extract_lets +onlyGivenNames x1
  extract_lets +onlyGivenNames x2
  extract_lets +onlyGivenNames x3
  extract_lets +onlyGivenNames x4
  refine OnlyRes.next ?_
  refine Only.ite ?_ ?_
  · refine Only.step (State.answer_only ..) rfl ?_
    exact (Only.refl _ _)
  · refine Only.ite ?_ ?_
    · refine Only.step (State.answer_only ..) rfl ?_
      exact (Only.refl _ _)
    · extract_lets +onlyGivenNames x5
      extract_lets +onlyGivenNames x6
      extract_lets +onlyGivenNames x7
      extract_lets +onlyGivenNames x8
      extract_lets +onlyGivenNames x9
      refine Only.step (State.answerRing_only ..) rfl ?_
      exact (Only.refl _ _)

theorem execReadings_only (a0 : _) (a1 : _) :
    OnlyRes [.ses, .jnl, .sp, .sys, .pm, .cave, .nfc, .met, .msh, .host, .sl, .veh, .legal, .free, .lease, .conf, .sent, .pwr, .bil, .nrg, .saf, .chn, .ls, .lk, .brk] a1 (execReadings a0 a1) := by
  unfold execReadings
  refine OnlyRes.next ?_
  refine Only.ite ?_ ?_
  · refine Only.step (State.endSession_only ..) rfl ?_
    exact (Only.refl _ _)
  · refine Only.step (State.advance_only ..) rfl ?_
    exact (Only.refl _ _)

theorem execRecallRepeat_only (a0 : _) (a1 : _) :
    OnlyRes [.pm, .sent, .pwr] a1 (execRecallRepeat a0 a1) := by
  unfold execRecallRepeat
  refine OnlyRes.next ?_
  split
  · refine Only.step (State.sendCopy_only ..) rfl ?_
    exact (Only.refl _ _)
  · exact (Only.refl _ _)

theorem execReduce_only (a0 : _) (a1 : _) (a2 : _) (a3 : _) :
    OnlyRes [.msh, .host, .veh, .free, .lease, .sent, .pwr, .chn] a3 (execReduce a0 a1 a2 a3) := by
  unfold execReduce
  refine OnlyRes.next ?_
  refine State.chainRx_only rfl (fun u1 h1 => ?_) ?_
  · refine Only.step (State.eatReduce_only ..) rfl ?_
    exact h1
  · exact (Only.refl _ _)

theorem execReduceEnd_only (a0 : _) :
    OnlyRes [.lease] a0 (execReduceEnd a0) := by
  unfold execReduceEnd
  refine OnlyRes.next ?_
  refine Only.ite ?_ ?_
  · refine Only.step (State.modLease_only ..) rfl ?_
    exact (Only.refl _ _)
  · exact (Only.refl _ _)

theorem execReduceReq_only (a0 : _) (a1 : _) (a2 : _) (a3 : _) :
    OnlyRes [.msh, .host, .veh, .free, .lease, .sent, .pwr, .chn] a3 (execReduceReq a0 a1 a2 a3) := by
  unfold execReduceReq
  refine OnlyRes.next ?_
  refine State.chainRx_only rfl (fun u1 h1 => ?_) ?_
  · refine Only.step (State.eatReduceReq_only ..) rfl ?_
    exact h1
  · exact (Only.refl _ _)

theorem execReduceSitePower_only (a0 : _) (a1 : _) :
    OnlyRes [.msh, .host, .veh, .lease, .sent, .pwr, .chn] a1 (execReduceSitePower a0 a1) := by
  unfold execReduceSitePower
  extract_lets +onlyGivenNames x1
  extract_lets +onlyGivenNames x2
  refine OnlyRes.next ?_
  refine Only.ite ?_ ?_
  · refine Only.step (State.answer_only ..) rfl ?_
    exact (Only.refl _ _)
  · refine Only.ite ?_ ?_
    · refine Only.step (State.answer_only ..) rfl ?_
      exact (Only.refl _ _)
    · refine Only.ite ?_ ?_
      · refine Only.step (State.answer_only ..) rfl ?_
        exact (Only.refl _ _)
      · refine Only.ite ?_ ?_
        · refine Only.step (State.answer_only ..) rfl ?_
          refine Only.step (State.reduceSite_only ..) rfl ?_
          exact (Only.refl _ _)
        · extract_lets +onlyGivenNames x3
          refine Only.keep x3 ?_ ?_
          · unfold x3
            refine Only.step (State.originate_only ..) rfl ?_
            exact (Only.refl _ _)
          intro h1
          clear_value x3
          refine Only.step (State.answer_only ..) rfl ?_
          refine Only.ite ?_ ?_
          · exact h1
          · refine Only.step (State.reduceLease_only ..) rfl ?_
            exact h1

theorem execRegisterWrite_only (a0 : _) (a1 : _) (a2 : _) (a3 : _) (a4 : _) :
    OnlyRes [.sys, .msh, .host, .free, .sent, .chn] a4 (execRegisterWrite a0 a1 a2 a3 a4) := by
  unfold execRegisterWrite
  refine OnlyRes.next ?_
  split
  · refine State.hostWrite_only rfl (fun u1 h1 => ?_) ?_
    · refine Only.step (State.maskVector_only ..) rfl ?_
      exact h1
    · exact (Only.refl _ _)
  · exact (Only.refl _ _)
  · refine Only.ite ?_ ?_
    · refine Only.step (State.hostActive_only ..) rfl ?_
      exact (Only.refl _ _)
    · refine State.access_only rfl (fun u2 h2 => ?_) ?_
      · refine Only.ite ?_ ?_
        · exact h2
        · refine Only.step (State.writeReg_only ..) rfl ?_
          exact h2
      · exact (Only.refl _ _)
  · refine Only.ite ?_ ?_
    · exact (Only.refl _ _)
    · extract_lets +onlyGivenNames x1
      extract_lets +onlyGivenNames x2
      refine State.access_only rfl (fun u3 h3 => ?_) ?_
      · refine Only.step (State.writeReg_only ..) rfl ?_
        exact h3
      · exact (Only.refl _ _)

theorem execRelayMessage_only (a0 : _) (a1 : _) :
    OnlyRes [.host, .sent] a1 (execRelayMessage a0 a1) := by
  unfold execRelayMessage
  extract_lets +onlyGivenNames x1
  extract_lets +onlyGivenNames x2
  refine OnlyRes.next ?_
  refine Only.ite ?_ ?_
  · refine Only.step (State.answer_only ..) rfl ?_
    refine Only.ite ?_ ?_
    · refine Only.step (State.freeNotice_only ..) rfl ?_
      refine Only.step (State.endRelay_only ..) rfl ?_
      exact (Only.refl _ _)
    · exact (Only.refl _ _)
  · refine Only.ite ?_ ?_
    · refine Only.step (State.answer_only ..) rfl ?_
      exact (Only.refl _ _)
    · refine Only.step (State.answer_only ..) rfl ?_
      refine Only.step (State.modGuest_only ..) rfl ?_
      exact (Only.refl _ _)

theorem execReleaseBrake_only (a0 : _) (a1 : _) :
    OnlyRes [.ses, .sp, .sys, .cave, .host, .sent, .saf, .brk] a1 (execReleaseBrake a0 a1) := by
  unfold execReleaseBrake
  refine OnlyRes.next ?_
  refine Only.ite ?_ ?_
  · refine Only.step (State.answer_only ..) rfl ?_
    exact (Only.refl _ _)
  · split
    · refine Only.step (State.answer_only ..) rfl ?_
      exact (Only.refl _ _)
    · extract_lets +onlyGivenNames x1
      refine Only.keep x1 ?_ ?_
      · unfold x1
        refine Only.step (State.heartbeat_only ..) rfl ?_
        refine Only.step (State.askSafety_only ..) rfl ?_
        exact (Only.refl _ _)
      intro h1
      clear_value x1
      split
      · refine Only.step (State.safeAnswer_only ..) rfl ?_
        refine Only.step (State.requestRelease_only ..) rfl ?_
        refine Only.step (State.accept_only ..) rfl ?_
        exact h1
      · refine Only.step (State.answer_only ..) rfl ?_
        refine Only.step (State.safeAnswer_only ..) rfl ?_
        refine Only.step (State.requestRelease_only ..) rfl ?_
        exact h1

theorem execReleaseCard_only (a0 : _) (a1 : _) :
    OnlyRes [.nfc, .host, .free] a1 (execReleaseCard a0 a1) := by
  unfold execReleaseCard
  refine OnlyRes.next ?_
  refine Only.ite ?_ ?_
  · refine Only.step (State.answer_only ..) rfl ?_
    exact (Only.refl _ _)
  · refine Only.ite ?_ ?_
    · refine Only.step (State.answer_only ..) rfl ?_
      exact (Only.refl _ _)
    · refine Only.step (State.answer_only ..) rfl ?_
      refine Only.step (State.releaseHeld_only ..) rfl ?_
      exact (Only.refl _ _)

theorem execReleasePort_only (a0 : _) (a1 : _) :
    OnlyRes [.cave, .host, .veh, .sent] a1 (execReleasePort a0 a1) := by
  unfold execReleasePort
  refine OnlyRes.next ?_
  refine Only.step (State.answer_only ..) rfl ?_
  refine Only.step (State.endClaim_only ..) rfl ?_
  exact (Only.refl _ _)

theorem execRemoveUnit_only (a0 : _) (a1 : _) :
    OnlyRes [.host, .chn] a1 (execRemoveUnit a0 a1) := by
  unfold execRemoveUnit
  extract_lets +onlyGivenNames x1
  refine OnlyRes.next ?_
  refine Only.ite ?_ ?_
  · refine Only.step (State.answer_only ..) rfl ?_
    exact (Only.refl _ _)
  · refine Only.ite ?_ ?_
    · refine Only.step (State.answer_only ..) rfl ?_
      exact (Only.refl _ _)
    · split
      · refine Only.step (State.answer_only ..) rfl ?_
        exact (Only.refl _ _)
      · refine Only.ite ?_ ?_
        · refine Only.step (State.answer_only ..) rfl ?_
          exact (Only.refl _ _)
        · refine Only.step (State.answer_only ..) rfl ?_
          refine Only.step (State.modChn_only ..) rfl ?_
          exact (Only.refl _ _)

theorem execRenewRoot_only (a0 : _) (a1 : _) :
    OnlyRes [.host, .keys, .free, .rind] a1 (execRenewRoot a0 a1) := by
  unfold execRenewRoot
  extract_lets +onlyGivenNames x1
  refine OnlyRes.next ?_
  refine Only.ite ?_ ?_
  · try dsimp -zeta only [x1]
    refine Only.step (State.auditCmd_only ..) rfl ?_
    refine Only.step (State.answer_only ..) rfl ?_
    exact (Only.refl _ _)
  · refine Only.ite ?_ ?_
    · try dsimp -zeta only [x1]
      refine Only.step (State.auditCmd_only ..) rfl ?_
      refine Only.step (State.answer_only ..) rfl ?_
      exact (Only.refl _ _)
    · refine Only.ite ?_ ?_
      · try dsimp -zeta only [x1]
        refine Only.step (State.auditCmd_only ..) rfl ?_
        refine Only.step (State.answer_only ..) rfl ?_
        exact (Only.refl _ _)
      · extract_lets +onlyGivenNames x2
        refine Only.keep x2 ?_ ?_
        · unfold x2
          refine Only.step (State.useFree_only ..) rfl ?_
          refine Only.step (State.modRind_only ..) rfl ?_
          exact (Only.refl _ _)
        intro h1
        clear_value x2
        try dsimp -zeta only [x1]
        refine Only.step (State.auditCmd_only ..) rfl ?_
        refine Only.step (State.answer_only ..) rfl ?_
        refine Only.step (State.auditRind_only ..) rfl ?_
        exact h1

theorem execReport_only (a0 : _) (a1 : _) (a2 : _) :
    OnlyRes [.msh, .host, .free, .lease, .sent, .chn] a2 (execReport a0 a1 a2) := by
  unfold execReport
  refine OnlyRes.next ?_
  refine State.chainRx_only rfl (fun u1 h1 => ?_) ?_
  · refine Only.step (State.eatReport_only ..) rfl ?_
    exact h1
  · exact (Only.refl _ _)

theorem execReportSend_only (a0 : _) :
    OnlyRes [.msh, .sent, .chn] a0 (execReportSend a0) := by
  unfold execReportSend
  refine OnlyRes.next ?_
  refine Only.ite ?_ ?_
  · extract_lets +onlyGivenNames x1
    refine Only.keep x1 ?_ ?_
    · unfold x1
      refine Only.step (State.originate_only ..) rfl ?_
      exact (Only.refl _ _)
    intro h1
    clear_value x1
    refine Only.ite ?_ ?_
    · refine Only.step (State.originate_only ..) rfl ?_
      exact h1
    · exact h1
  · exact (Only.refl _ _)

theorem execReqa_only (a0 : _) (a1 : _) :
    OnlyRes [.nfc, .sent] a1 (execReqa a0 a1) := by
  unfold execReqa
  extract_lets +onlyGivenNames x1
  extract_lets +onlyGivenNames x2
  refine OnlyRes.next ?_
  split
  · try dsimp -zeta only [x2]
    refine Only.step (State.emit_only ..) rfl ?_
    refine Only.step (State.modTag_only ..) rfl ?_
    exact (Only.refl _ _)
  · try dsimp -zeta only [x2]
    refine Only.step (State.emit_only ..) rfl ?_
    refine Only.step (State.modTag_only ..) rfl ?_
    exact (Only.refl _ _)
  · try dsimp -zeta only [x2]
    refine Only.step (State.emit_only ..) rfl ?_
    refine Only.step (State.modTag_only ..) rfl ?_
    exact (Only.refl _ _)
  · try dsimp -zeta only [x2]
    refine Only.step (State.emit_only ..) rfl ?_
    refine Only.step (State.modTag_only ..) rfl ?_
    exact (Only.refl _ _)
  · try dsimp -zeta only [x2]
    refine Only.step (State.emit_only ..) rfl ?_
    refine Only.step (State.modTag_only ..) rfl ?_
    exact (Only.refl _ _)
  · refine Only.step (State.modTag_only ..) rfl ?_
    exact (Only.refl _ _)
  · refine Only.step (State.modTag_only ..) rfl ?_
    exact (Only.refl _ _)
  · refine Only.step (State.modTag_only ..) rfl ?_
    exact (Only.refl _ _)
  · refine Only.step (State.modTag_only ..) rfl ?_
    exact (Only.refl _ _)
  · refine Only.step (State.modTag_only ..) rfl ?_
    exact (Only.refl _ _)
  · refine Only.step (State.modTag_only ..) rfl ?_
    exact (Only.refl _ _)
  · refine Only.step (State.modTag_only ..) rfl ?_
    exact (Only.refl _ _)
  · refine Only.step (State.modTag_only ..) rfl ?_
    exact (Only.refl _ _)
  · exact (Only.refl _ _)

theorem execRequestSafeOut_only (a0 : _) (a1 : _) :
    OnlyRes [.ses, .sp, .sys, .cave, .host, .sent, .saf, .brk] a1 (execRequestSafeOut a0 a1) := by
  unfold execRequestSafeOut
  extract_lets +onlyGivenNames x1
  extract_lets +onlyGivenNames x2
  refine OnlyRes.next ?_
  refine Only.ite ?_ ?_
  · refine Only.step (State.answer_only ..) rfl ?_
    exact (Only.refl _ _)
  · refine Only.ite ?_ ?_
    · refine Only.step (State.answer_only ..) rfl ?_
      exact (Only.refl _ _)
    · refine Only.ite ?_ ?_
      · refine Only.step (State.answer_only ..) rfl ?_
        exact (Only.refl _ _)
      · extract_lets +onlyGivenNames x3
        extract_lets +onlyGivenNames x4
        refine Only.keep x4 ?_ ?_
        · unfold x4
          refine Only.step (State.safeAnswer_only ..) rfl ?_
          refine Only.step (State.writeOuts_only ..) rfl ?_
          refine Only.step (State.modSaf_only ..) rfl ?_
          refine Only.step (State.heartbeat_only ..) rfl ?_
          refine Only.step (State.askSafety_only ..) rfl ?_
          exact (Only.refl _ _)
        intro h1
        clear_value x4
        refine Only.step (State.answer_only ..) rfl ?_
        exact h1

theorem execRequestSafetyRestart_only (a0 : _) (a1 : _) :
    OnlyRes [.ses, .sp, .sys, .cave, .host, .sent, .saf, .brk] a1 (execRequestSafetyRestart a0 a1) := by
  unfold execRequestSafetyRestart
  refine OnlyRes.next ?_
  refine Only.ite ?_ ?_
  · refine Only.step (State.answer_only ..) rfl ?_
    exact (Only.refl _ _)
  · refine Only.ite ?_ ?_
    · refine Only.step (State.answer_only ..) rfl ?_
      exact (Only.refl _ _)
    · refine Only.ite ?_ ?_
      · refine Only.step (State.safeAnswer_only ..) rfl ?_
        refine Only.step (State.startRestart_only ..) rfl ?_
        refine Only.step (State.heartbeat_only ..) rfl ?_
        refine Only.step (State.askSafety_only ..) rfl ?_
        refine Only.step (State.accept_only ..) rfl ?_
        exact (Only.refl _ _)
      · refine Only.step (State.answer_only ..) rfl ?_
        exact (Only.refl _ _)

theorem execRequestSiteSleep_only (a0 : _) (a1 : _) :
    OnlyRes [.sys, .msh, .host, .sent, .chn] a1 (execRequestSiteSleep a0 a1) := by
  unfold execRequestSiteSleep
  extract_lets +onlyGivenNames x1
  extract_lets +onlyGivenNames x2
  refine OnlyRes.next ?_
  refine Only.ite ?_ ?_
  · refine Only.step (State.answer_only ..) rfl ?_
    exact (Only.refl _ _)
  · refine Only.ite ?_ ?_
    · refine Only.step (State.answer_only ..) rfl ?_
      exact (Only.refl _ _)
    · refine Only.ite ?_ ?_
      · refine Only.step (State.answer_only ..) rfl ?_
        exact (Only.refl _ _)
      · refine Only.ite ?_ ?_
        · refine Only.step (State.answer_only ..) rfl ?_
          exact (Only.refl _ _)
        · refine Only.ite ?_ ?_
          · refine Only.step (State.startSleep_only ..) rfl ?_
            refine Only.step (State.accept_only ..) rfl ?_
            exact (Only.refl _ _)
          · refine Only.step (State.originate_only ..) rfl ?_
            refine Only.step (State.modSleep_only ..) rfl ?_
            refine Only.step (State.accept_only ..) rfl ?_
            exact (Only.refl _ _)

theorem execReseal_only (a0 : _) (a1 : _) :
    OnlyRes [.jnl, .host, .keys, .legal, .sent, .bil, .rind] a1 (execReseal a0 a1) := by
  unfold execReseal
  refine OnlyRes.next ?_
  refine Only.ite ?_ ?_
  · refine Only.step (State.answer_only ..) rfl ?_
    exact (Only.refl _ _)
  · refine State.unlessVoid_only rfl (fun u1 h1 => ?_) ?_
    · extract_lets +onlyGivenNames x1
      extract_lets +onlyGivenNames x2
      refine Only.keep x2 ?_ ?_
      · unfold x2
        refine Only.step (State.modLegal_only ..) rfl ?_
        exact h1
      intro h2
      clear_value x2
      refine Only.ite ?_ ?_
      · refine Only.step (State.answer_only ..) rfl ?_
        exact h2
      · extract_lets +onlyGivenNames x3
        refine Only.ite ?_ ?_
        · refine Only.step (State.endRing_only ..) rfl ?_
          exact h2
        · extract_lets +onlyGivenNames x4
          split
          · refine Only.step (State.answer_only ..) rfl ?_
            exact h2
          · extract_lets +onlyGivenNames x5
            refine Only.keep x5 ?_ ?_
            · unfold x5
              refine Only.each (fun a1x u2 h3 => ?_) ?_
              · refine Only.step (State.modBil_only ..) rfl ?_
                exact h3
              · refine Only.step (State.useRing_only ..) rfl ?_
                exact h2
            intro h4
            clear_value x5
            extract_lets +onlyGivenNames x6
            refine Only.keep x6 ?_ ?_
            · unfold x6
              refine Only.step (State.modRind_only ..) rfl ?_
              exact h4
            intro h5
            clear_value x6
            refine Only.step (State.answer_only ..) rfl ?_
            refine Only.step (State.irqAll_only ..) rfl ?_
            refine Only.step (State.bilUnitRaise_only ..) rfl ?_
            refine Only.step (State.keyRaise_only ..) rfl ?_
            refine Only.step (State.auditRind_only ..) rfl ?_
            refine Only.step (State.appendLegal_only ..) rfl ?_
            exact h5
    · exact (Only.refl _ _)

theorem execResetChip_only (a0 : _) (a1 : _) :
    OnlyRes [.ses, .jnl, .dsp, .sp, .sys, .pm, .time, .cave, .nfc, .met, .msh, .host, .fw, .veh, .pq, .keys, .legal, .lease, .conf, .sent, .pwr, .bil, .nrg, .saf, .chn, .ls, .lk, .brk] a1 (execResetChip a0 a1) := by
  unfold execResetChip
  refine OnlyRes.next ?_
  refine Only.ite ?_ ?_
  · refine Only.step (State.answer_only ..) rfl ?_
    exact (Only.refl _ _)
  · refine Only.ite ?_ ?_
    · refine Only.step (State.answer_only ..) rfl ?_
      exact (Only.refl _ _)
    · refine Only.step (State.chipReset_only ..) rfl ?_
      exact (Only.refl _ _)

theorem execResetGuest_only (a0 : _) (a1 : _) :
    OnlyRes [.host] a1 (execResetGuest a0 a1) := by
  unfold execResetGuest
  extract_lets +onlyGivenNames x1
  refine OnlyRes.next ?_
  refine Only.ite ?_ ?_
  · refine Only.step (State.trigger_only ..) rfl ?_
    refine Only.step (State.answer_only ..) rfl ?_
    refine Only.step (State.noResponse_only ..) rfl ?_
    exact (Only.refl _ _)
  · refine Only.ite ?_ ?_
    · refine Only.step (State.answer_only ..) rfl ?_
      exact (Only.refl _ _)
    · refine Only.step (State.modGuest_only ..) rfl ?_
      refine Only.step (State.trigger_only ..) rfl ?_
      exact (Only.refl _ _)

theorem execResetPort_only (a0 : _) (a1 : _) :
    OnlyRes [.ses, .jnl, .sp, .sys, .pm, .cave, .nfc, .met, .msh, .host, .sl, .veh, .legal, .free, .lease, .conf, .sent, .pwr, .bil, .nrg, .saf, .chn, .ls, .lk, .brk] a1 (execResetPort a0 a1) := by
  unfold execResetPort
  extract_lets +onlyGivenNames x1
  refine OnlyRes.next ?_
  refine Only.ite ?_ ?_
  · refine Only.step (State.resetPort_only ..) rfl ?_
    refine Only.step (State.modVeh_only ..) rfl ?_
    refine Only.step (State.accept_only ..) rfl ?_
    exact (Only.refl _ _)
  · refine Only.step (State.answer_only ..) rfl ?_
    refine Only.step (State.portReset_only ..) rfl ?_
    exact (Only.refl _ _)

theorem execResetReq_only (a0 : _) (a1 : _) :
    OnlyRes [.ses, .sp, .sys, .cave, .host, .sent, .saf, .brk] a1 (execResetReq a0 a1) := by
  unfold execResetReq
  extract_lets +onlyGivenNames x1
  refine OnlyRes.keep x1 ?_ ?_
  · unfold x1
    refine Only.step (State.heartbeat_only ..) rfl ?_
    exact (Only.refl _ _)
  intro h1
  clear_value x1
  refine OnlyRes.next ?_
  refine Only.ite ?_ ?_
  · refine Only.step (State.safeAnswer_only ..) rfl ?_
    refine Only.step (State.giveReset_only ..) rfl ?_
    exact h1
  · refine Only.step (State.safeAnswer_only ..) rfl ?_
    exact h1

theorem execResetTagLock_only (a0 : _) (a1 : _) :
    OnlyRes [.nfc, .host] a1 (execResetTagLock a0 a1) := by
  unfold execResetTagLock
  refine OnlyRes.next ?_
  refine Only.ite ?_ ?_
  · refine Only.step (State.answer_only ..) rfl ?_
    exact (Only.refl _ _)
  · refine Only.ite ?_ ?_
    · refine Only.step (State.answer_only ..) rfl ?_
      exact (Only.refl _ _)
    · refine Only.step (State.answer_only ..) rfl ?_
      refine Only.step (State.modTag_only ..) rfl ?_
      exact (Only.refl _ _)

theorem execResetTrip_only (a0 : _) (a1 : _) :
    OnlyRes [.ses, .sp, .sys, .cave, .host, .sent, .saf, .brk] a1 (execResetTrip a0 a1) := by
  unfold execResetTrip
  extract_lets +onlyGivenNames x1
  refine OnlyRes.next ?_
  refine Only.ite ?_ ?_
  · refine Only.step (State.answer_only ..) rfl ?_
    exact (Only.refl _ _)
  · refine Only.ite ?_ ?_
    · refine Only.step (State.answer_only ..) rfl ?_
      exact (Only.refl _ _)
    · refine Only.ite ?_ ?_
      · refine Only.step (State.answer_only ..) rfl ?_
        exact (Only.refl _ _)
      · refine Only.ite ?_ ?_
        · refine Only.step (State.answer_only ..) rfl ?_
          exact (Only.refl _ _)
        · extract_lets +onlyGivenNames x2
          refine Only.keep x2 ?_ ?_
          · unfold x2
            refine Only.step (State.safeAnswer_only ..) rfl ?_
            refine Only.step (State.giveReset_only ..) rfl ?_
            refine Only.step (State.heartbeat_only ..) rfl ?_
            refine Only.step (State.askSafety_only ..) rfl ?_
            exact (Only.refl _ _)
          intro h1
          clear_value x2
          refine Only.step (State.answer_only ..) rfl ?_
          exact h1

theorem execResponseToMailbox_only (a0 : _) (a1 : _) (a2 : _) :
    OnlyRes [.host, .sent] a2 (execResponseToMailbox a0 a1 a2) := by
  unfold execResponseToMailbox
  extract_lets +onlyGivenNames x1
  refine OnlyRes.next ?_
  split
  · extract_lets +onlyGivenNames x2
    refine Only.keep x2 ?_ ?_
    · unfold x2
      refine Only.step (State.modD2h_only ..) rfl ?_
      refine Only.step (State.modGuest_only ..) rfl ?_
      exact (Only.refl _ _)
    intro h1
    clear_value x2
    extract_lets +onlyGivenNames x3
    refine Only.keep x3 ?_ ?_
    · unfold x3
      split
      · refine Only.step (State.count_only ..) rfl ?_
        refine Only.step (State.count_only ..) rfl ?_
        exact h1
      · refine Only.step (State.count_only ..) rfl ?_
        refine Only.step (State.count_only ..) rfl ?_
        exact h1
      · refine Only.step (State.count_only ..) rfl ?_
        refine Only.step (State.count_only ..) rfl ?_
        exact h1
      · refine Only.step (State.count_only ..) rfl ?_
        exact h1
      · exact h1
    intro h2
    clear_value x3
    refine Only.step (State.irq_only ..) rfl ?_
    exact h2
  · exact (Only.refl _ _)

theorem execRestartReq_only (a0 : _) (a1 : _) :
    OnlyRes [.ses, .sp, .sys, .cave, .host, .sent, .saf, .brk] a1 (execRestartReq a0 a1) := by
  unfold execRestartReq
  extract_lets +onlyGivenNames x1
  refine OnlyRes.keep x1 ?_ ?_
  · unfold x1
    refine Only.step (State.heartbeat_only ..) rfl ?_
    exact (Only.refl _ _)
  intro h1
  clear_value x1
  refine OnlyRes.next ?_
  refine Only.ite ?_ ?_
  · refine Only.step (State.safeAnswer_only ..) rfl ?_
    refine Only.step (State.startRestart_only ..) rfl ?_
    exact h1
  · refine Only.step (State.safeAnswer_only ..) rfl ?_
    exact h1

theorem execRetireDevice_only (a0 : _) (a1 : _) :
    OnlyRes [.jnl, .nfc, .met, .host, .veh, .pq, .keys, .legal, .sent, .bil, .nrg, .rind] a1 (execRetireDevice a0 a1) := by
  unfold execRetireDevice
  extract_lets +onlyGivenNames x1
  refine OnlyRes.next ?_
  refine Only.ite ?_ ?_
  · try dsimp -zeta only [x1]
    refine Only.step (State.auditCmd_only ..) rfl ?_
    refine Only.step (State.answer_only ..) rfl ?_
    exact (Only.refl _ _)
  · refine Only.ite ?_ ?_
    · try dsimp -zeta only [x1]
      refine Only.step (State.auditCmd_only ..) rfl ?_
      refine Only.step (State.answer_only ..) rfl ?_
      exact (Only.refl _ _)
    · refine Only.ite ?_ ?_
      · try dsimp -zeta only [x1]
        refine Only.step (State.auditCmd_only ..) rfl ?_
        refine Only.step (State.answer_only ..) rfl ?_
        exact (Only.refl _ _)
      · extract_lets +onlyGivenNames x2
        refine Only.keep x2 ?_ ?_
        · unfold x2
          refine Only.step (State.modRind_only ..) rfl ?_
          exact (Only.refl _ _)
        intro h1
        clear_value x2
        extract_lets +onlyGivenNames x3
        refine Only.keep x3 ?_ ?_
        · unfold x3
          refine Only.step (State.dropTls_only ..) rfl ?_
          refine Only.step (State.modKeys_only ..) rfl ?_
          refine Only.step (State.clearVault_only ..) rfl ?_
          exact h1
        intro h2
        clear_value x3
        try dsimp -zeta only [x1]
        refine Only.step (State.auditCmd_only ..) rfl ?_
        refine Only.step (State.answer_only ..) rfl ?_
        refine Only.step (State.auditRind_only ..) rfl ?_
        refine Only.step (State.tagZeroise_only ..) rfl ?_
        refine Only.step (State.voidLegal_only ..) rfl ?_
        refine Only.step (State.keyRaise_only ..) rfl ?_
        exact h2

theorem execRingRestore_only (a0 : _) :
    OnlyRes [.msh, .sent, .chn] a0 (execRingRestore a0) := by
  unfold execRingRestore
  refine OnlyRes.next ?_
  refine Only.ite ?_ ?_
  · refine Only.step (State.chnRaise_only ..) rfl ?_
    refine Only.step (State.closeRing_only ..) rfl ?_
    exact (Only.refl _ _)
  · exact (Only.refl _ _)

theorem execRipeningComplete_only (a0 : _) (a1 : _) :
    OnlyRes [.jnl] a1 (execRipeningComplete a0 a1) := by
  unfold execRipeningComplete
  refine OnlyRes.next ?_
  refine Only.ite ?_ ?_
  · refine Only.ite ?_ ?_
    · refine Only.step (State.jnlRaise_only ..) rfl ?_
      refine Only.step (State.modJnl_only ..) rfl ?_
      exact (Only.refl _ _)
    · exact (Only.refl _ _)
  · refine Only.ite ?_ ?_
    · refine Only.step (State.jnlRaise_only ..) rfl ?_
      refine Only.step (State.modJnl_only ..) rfl ?_
      exact (Only.refl _ _)
    · exact (Only.refl _ _)

theorem execRomFwReq_only (a0 : _) :
    OnlyRes [.sent, .chn] a0 (execRomFwReq a0) := by
  unfold execRomFwReq
  extract_lets +onlyGivenNames x1
  extract_lets +onlyGivenNames x2
  refine OnlyRes.next ?_
  refine Only.ite ?_ ?_
  · try dsimp -zeta only [x2]
    refine Only.ite ?_ ?_
    · refine Only.step (State.sendLocal_only ..) rfl ?_
      try dsimp -zeta only [x2]
      refine Only.ite ?_ ?_
      · refine Only.step (State.sendLocal_only ..) rfl ?_
        exact (Only.refl _ _)
      · exact (Only.refl _ _)
    · try dsimp -zeta only [x2]
      refine Only.ite ?_ ?_
      · refine Only.step (State.sendLocal_only ..) rfl ?_
        exact (Only.refl _ _)
      · exact (Only.refl _ _)
  · exact (Only.refl _ _)

theorem execRtcAlarmExpiry_only (a0 : _) :
    OnlyRes [.sys, .msh, .host, .keys, .sent, .chn] a0 (execRtcAlarmExpiry a0) := by
  unfold execRtcAlarmExpiry
  refine OnlyRes.next ?_
  refine Only.ite ?_ ?_
  · refine Only.step (State.wakeEvent_only ..) rfl ?_
    refine Only.step (State.keyRaise_only ..) rfl ?_
    exact (Only.refl _ _)
  · exact (Only.refl _ _)

theorem execRunAheadReplan_only (a0 : _) (a1 : _) :
    OnlyRes [.pm, .host, .veh, .lease, .conf, .sent, .pwr] a1 (execRunAheadReplan a0 a1) := by
  unfold execRunAheadReplan
  refine OnlyRes.next ?_
  refine Only.ite ?_ ?_
  · refine Only.step (State.replan_only ..) rfl ?_
    exact (Only.refl _ _)
  · refine Only.step (State.modPwr_only ..) rfl ?_
    exact (Only.refl _ _)

theorem execRunBrakeTest_only (a0 : _) (a1 : _) :
    OnlyRes [.ses, .sp, .sys, .cave, .host, .sent, .saf, .brk] a1 (execRunBrakeTest a0 a1) := by
  unfold execRunBrakeTest
  refine OnlyRes.next ?_
  refine Only.step (State.runSelftest_only ..) rfl ?_
  exact (Only.refl _ _)

theorem execRunCrossCheck_only (a0 : _) (a1 : _) :
    OnlyRes [.host, .legal] a1 (execRunCrossCheck a0 a1) := by
  unfold execRunCrossCheck
  refine OnlyRes.next ?_
  refine Only.ite ?_ ?_
  · refine Only.step (State.answer_only ..) rfl ?_
    exact (Only.refl _ _)
  · refine State.unlessVoid_only rfl (fun u1 h1 => ?_) ?_
    · extract_lets +onlyGivenNames x1
      refine Only.ite ?_ ?_
      · refine Only.step (State.answer_only ..) rfl ?_
        exact h1
      · refine Only.step (State.accept_only ..) rfl ?_
        refine Only.step (State.modInput_only ..) rfl ?_
        exact h1
    · exact (Only.refl _ _)

theorem execRunInsulationSelftest_only (a0 : _) (a1 : _) :
    OnlyRes [.ses, .sp, .sys, .cave, .host, .sent, .saf, .brk] a1 (execRunInsulationSelftest a0 a1) := by
  unfold execRunInsulationSelftest
  refine OnlyRes.next ?_
  refine Only.step (State.runSelftest_only ..) rfl ?_
  exact (Only.refl _ _)

theorem execRunWeldTest_only (a0 : _) (a1 : _) :
    OnlyRes [.ses, .sp, .sys, .cave, .host, .sent, .saf, .brk] a1 (execRunWeldTest a0 a1) := by
  unfold execRunWeldTest
  refine OnlyRes.next ?_
  refine Only.step (State.runSelftest_only ..) rfl ?_
  exact (Only.refl _ _)

theorem execSafEventRead_only (a0 : _) (a1 : _) (a2 : _) (a3 : _) :
    OnlyRes [.sp, .sys, .msh, .host, .sent, .chn] a3 (execSafEventRead a0 a1 a2 a3) := by
  unfold execSafEventRead
  refine OnlyRes.next ?_
  refine State.readEvent_only rfl (fun u1 h1 => ?_) ?_
  · refine Only.step (State.modSp_only ..) rfl ?_
    exact h1
  · exact (Only.refl _ _)

theorem execSafSiteEventRead_only (a0 : _) (a1 : _) (a2 : _) :
    OnlyRes [.sys, .msh, .host, .sent, .saf, .chn] a2 (execSafSiteEventRead a0 a1 a2) := by
  unfold execSafSiteEventRead
  refine OnlyRes.next ?_
  refine State.readEvent_only rfl (fun u1 h1 => ?_) ?_
  · refine Only.step (State.modSaf_only ..) rfl ?_
    exact h1
  · exact (Only.refl _ _)

theorem execSafeInEdge_only (a0 : _) (a1 : _) (a2 : _) :
    OnlyRes [.ses, .sp, .sys, .cave, .msh, .host, .sent, .saf, .chn, .brk] a2 (execSafeInEdge a0 a1 a2) := by
  unfold execSafeInEdge
  extract_lets +onlyGivenNames x1
  extract_lets +onlyGivenNames x2
  extract_lets +onlyGivenNames x3
  refine OnlyRes.keep x3 ?_ ?_
  · unfold x3
    refine Only.step (State.modSaf_only ..) rfl ?_
    exact (Only.refl _ _)
  intro h1
  clear_value x3
  refine OnlyRes.ite ?_ ?_
  · refine OnlyRes.next ?_
    exact h1
  · extract_lets +onlyGivenNames x4
    extract_lets +onlyGivenNames x5
    refine OnlyRes.keep x5 ?_ ?_
    · unfold x5
      refine Only.step (State.evalRows_only ..) rfl ?_
      refine Only.step (State.inputCheck_only ..) rfl ?_
      exact h1
    intro h2
    clear_value x5
    extract_lets +onlyGivenNames x6
    extract_lets +onlyGivenNames x7
    refine OnlyRes.keep x7 ?_ ?_
    · unfold x7
      refine Only.whenB (fun u1 h3 => ?_) ?_
      · refine Only.step (State.giveReset_only ..) rfl ?_
        exact h3
      · exact h2
    intro h4
    clear_value x7
    extract_lets +onlyGivenNames x8
    refine OnlyRes.keep x8 ?_ ?_
    · unfold x8
      refine Only.each (fun a1x u2 h5 => ?_) ?_
      · refine Only.ite ?_ ?_
        · refine Only.step (State.failBrakeTest_only ..) rfl ?_
          exact h5
        · exact h5
      · exact h4
    intro h6
    clear_value x8
    refine OnlyRes.next ?_
    refine Only.step (State.wakeEvent_only ..) rfl ?_
    refine Only.step (State.checkStop_only ..) rfl ?_
    exact h6

theorem execSafetyCpPeriod_only (a0 : _) (a1 : _) (a2 : _) (a3 : _) (a4 : _) :
    OnlyRes [.ses, .sp, .cave, .host, .sent, .saf, .brk] a4 (execSafetyCpPeriod a0 a1 a2 a3 a4) := by
  unfold execSafetyCpPeriod
  extract_lets +onlyGivenNames x1
  extract_lets +onlyGivenNames x2
  extract_lets +onlyGivenNames x3
  extract_lets +onlyGivenNames x4
  extract_lets +onlyGivenNames x5
  refine OnlyRes.keep x5 ?_ ?_
  · unfold x5
    refine Only.step (State.modSp_only ..) rfl ?_
    exact (Only.refl _ _)
  intro h1
  clear_value x5
  extract_lets +onlyGivenNames x6
  refine OnlyRes.keep x6 ?_ ?_
  · unfold x6
    refine Only.ite ?_ ?_
    · refine Only.step (State.tripPort_only ..) rfl ?_
      refine Only.step (State.imdRaise_only ..) rfl ?_
      exact h1
    · exact h1
  intro h2
  clear_value x6
  refine OnlyRes.next ?_
  refine Only.step (State.checkStop_only ..) rfl ?_
  refine Only.ite ?_ ?_
  · refine Only.step (State.clearLatches_only ..) rfl ?_
    exact h2
  · exact h2

theorem execSafetyCycle_only (a0 : _) (a1 : _) :
    OnlyRes [.ses, .sp, .sys, .cave, .host, .sent, .saf, .lk, .brk] a1 (execSafetyCycle a0 a1) := by
  unfold execSafetyCycle
  refine OnlyRes.ite ?_ ?_
  · refine OnlyRes.next ?_
    exact (Only.refl _ _)
  · extract_lets +onlyGivenNames x1
    refine OnlyRes.keep x1 ?_ ?_
    · unfold x1
      refine Only.ite ?_ ?_
      · exact (Only.refl _ _)
      · refine Only.step (State.modSaf_only ..) rfl ?_
        refine Only.step (State.reach_only ..) rfl ?_
        refine Only.step (State.reach_only ..) rfl ?_
        exact (Only.refl _ _)
    intro h1
    clear_value x1
    refine OnlyRes.ite ?_ ?_
    · refine OnlyRes.next ?_
      refine Only.step (State.execFault_only ..) rfl ?_
      exact h1
    · extract_lets +onlyGivenNames x2
      extract_lets +onlyGivenNames x3
      refine OnlyRes.keep x3 ?_ ?_
      · unfold x3
        refine Only.whenB (fun u1 h2 => ?_) ?_
        · refine Only.step (State.modSaf_only ..) rfl ?_
          exact h2
        · exact h1
      intro h3
      clear_value x3
      extract_lets +onlyGivenNames x4
      refine OnlyRes.keep x4 ?_ ?_
      · unfold x4
        refine Only.step (State.evalRows_only ..) rfl ?_
        exact h3
      intro h4
      clear_value x4
      extract_lets +onlyGivenNames x5
      refine OnlyRes.keep x5 ?_ ?_
      · unfold x5
        refine Only.each (fun a1x u2 h5 => ?_) ?_
        · refine Only.step (State.portCycle_only ..) rfl ?_
          exact h5
        · exact h4
      intro h6
      clear_value x5
      extract_lets +onlyGivenNames x6
      refine OnlyRes.keep x6 ?_ ?_
      · unfold x6
        refine Only.step (State.sendChanges_only ..) rfl ?_
        refine Only.step (State.checkStop_only ..) rfl ?_
        refine Only.step (State.readBack_only ..) rfl ?_
        refine Only.step (State.writeOuts_only ..) rfl ?_
        exact h6
      intro h7
      clear_value x6
      refine OnlyRes.next ?_
      refine Only.ite ?_ ?_
      · refine Only.step (State.repeatStatus_only ..) rfl ?_
        exact h7
      · exact h7

theorem execSafetyEccScrub_only (a0 : _) (a1 : _) (a2 : _) :
    OnlyRes [.ses, .sp, .cave, .host, .sent, .saf, .lk, .brk] a2 (execSafetyEccScrub a0 a1 a2) := by
  unfold execSafetyEccScrub
  extract_lets +onlyGivenNames x1
  refine OnlyRes.keep x1 ?_ ?_
  · unfold x1
    refine Only.step (State.modSaf_only ..) rfl ?_
    exact (Only.refl _ _)
  intro h1
  clear_value x1
  refine OnlyRes.next ?_
  refine Only.ite ?_ ?_
  · refine Only.step (State.execFault_only ..) rfl ?_
    exact h1
  · exact h1

theorem execSafetyInitDone_only (a0 : _) (a1 : _) :
    OnlyRes [.ses, .sp, .sys, .cave, .msh, .host, .fw, .keys, .sent, .saf, .chn, .lk, .brk] a1 (execSafetyInitDone a0 a1) := by
  unfold execSafetyInitDone
  refine OnlyRes.ite ?_ ?_
  · refine OnlyRes.next ?_
    exact (Only.refl _ _)
  · extract_lets +onlyGivenNames x1
    refine OnlyRes.keep x1 ?_ ?_
    · unfold x1
      refine Only.step (State.modSaf_only ..) rfl ?_
      refine Only.step (State.reach_only ..) rfl ?_
      refine Only.step (State.reach_only ..) rfl ?_
      refine Only.step (State.reach_only ..) rfl ?_
      exact (Only.refl _ _)
    intro h1
    clear_value x1
    extract_lets +onlyGivenNames x2
    refine OnlyRes.next ?_
    split
    · refine Only.step (State.execFault_only ..) rfl ?_
      refine Only.step (State.safetyUnproven_only ..) rfl ?_
      exact h1
    · try dsimp -zeta only [x2]
      refine Only.step (State.siteTo_only ..) rfl ?_
      refine Only.step (State.modSaf_only ..) rfl ?_
      refine Only.step (State.safetyUnproven_only ..) rfl ?_
      exact h1
    · try dsimp -zeta only [x2]
      refine Only.step (State.siteTo_only ..) rfl ?_
      refine Only.step (State.modSaf_only ..) rfl ?_
      refine Only.step (State.safetyUnproven_only ..) rfl ?_
      exact h1
    · refine Only.step (State.diagFault_only ..) rfl ?_
      refine Only.step (State.safetyUnproven_only ..) rfl ?_
      exact h1
    · extract_lets +onlyGivenNames x3
      refine Only.keep x3 ?_ ?_
      · unfold x3
        refine Only.step (State.siteTo_only ..) rfl ?_
        refine Only.step (State.safetyProven_only ..) rfl ?_
        refine Only.step (State.modSys_only ..) rfl ?_
        exact h1
      intro h2
      clear_value x3
      refine Only.each (fun a1x u1 h3 => ?_) ?_
      · refine Only.step (State.checkBlocked_only ..) rfl ?_
        exact h3
      · exact h2

theorem execSafetyRestartDone_only (a0 : _) (a1 : _) (a2 : _) :
    OnlyRes [.ses, .sp, .cave, .host, .sent, .saf, .brk] a2 (execSafetyRestartDone a0 a1 a2) := by
  unfold execSafetyRestartDone
  refine OnlyRes.next ?_
  split
  · exact (Only.refl _ _)
  · extract_lets +onlyGivenNames x1
    refine Only.keep x1 ?_ ?_
    · unfold x1
      refine Only.step (State.modSaf_only ..) rfl ?_
      exact (Only.refl _ _)
    intro h1
    clear_value x1
    refine Only.ite ?_ ?_
    · extract_lets +onlyGivenNames x2
      refine Only.keep x2 ?_ ?_
      · unfold x2
        refine Only.step (State.safRaise_only ..) rfl ?_
        refine Only.step (State.modSaf_only ..) rfl ?_
        exact h1
      intro h2
      clear_value x2
      dsimp only
      refine Only.step (State.finalOpt_only ..) rfl ?_
      split
      · exact Only.step (State.checkBlocked_only ..) rfl (Only.step (State.leaveFault_only ..) rfl h2)
      · refine Only.each (fun p u h => Only.step (State.checkBlocked_only ..) rfl h) ?_
        refine Only.each (fun p u h => Only.step (State.leaveFault_only ..) rfl h) ?_
        refine Only.step (State.siteTo_only ..) rfl ?_
        refine Only.each (fun p u h => Only.step (State.modBrk_only ..) rfl h) ?_
        exact Only.step (State.modSaf_only ..) rfl h2
    · extract_lets +onlyGivenNames x5
      refine Only.keep x5 ?_ ?_
      · unfold x5
        split
        · exact h1
        · refine Only.step (State.siteTo_only ..) rfl ?_
          refine Only.step (State.modSaf_only ..) rfl ?_
          exact h1
      intro h8
      clear_value x5
      refine Only.step (State.finalOpt_only ..) rfl ?_
      exact h8

theorem execSampleFrameSend_only (a0 : _) :
    OnlyRes [.sl, .legal, .sent] a0 (execSampleFrameSend a0) := by
  unfold execSampleFrameSend
  refine OnlyRes.next ?_
  refine Only.ite ?_ ?_
  · exact (Only.refl _ _)
  · extract_lets +onlyGivenNames x1
    extract_lets +onlyGivenNames x2
    extract_lets +onlyGivenNames x3
    extract_lets +onlyGivenNames x4
    refine Only.keep x4 ?_ ?_
    · unfold x4
      refine Only.step (State.modLegal_only ..) rfl ?_
      refine Only.step (State.modSent_only ..) rfl ?_
      exact (Only.refl _ _)
    intro h1
    clear_value x4
    refine Only.each (fun a1x u1 h2 => ?_) ?_
    · refine Only.step (State.modSl_only ..) rfl ?_
      exact h2
    · exact h1

theorem execSampleProcess_only (a0 : _) (a1 : _) :
    OnlyRes [.jnl, .cave, .met, .host, .sl, .pq, .legal, .sent, .bil, .nrg] a1 (execSampleProcess a0 a1) := by
  unfold execSampleProcess
  refine OnlyRes.next ?_
  refine Only.ite ?_ ?_
  · exact (Only.refl _ _)
  · refine Only.ite ?_ ?_
    · refine Only.step (State.voidSample_only ..) rfl ?_
      exact (Only.refl _ _)
    · extract_lets +onlyGivenNames x1
      extract_lets +onlyGivenNames x2
      extract_lets +onlyGivenNames x3
      extract_lets +onlyGivenNames x4
      refine Only.keep x4 ?_ ?_
      · unfold x4
        refine Only.each (fun a1x u1 h1 => ?_) ?_
        · refine Only.ite ?_ ?_
          · refine Only.step (State.sampleX_only ..) rfl ?_
            exact h1
          · exact h1
        · exact (Only.refl _ _)
      intro h2
      clear_value x4
      extract_lets +onlyGivenNames x5
      refine Only.keep x5 ?_ ?_
      · unfold x5
        split
        · refine Only.step (State.pqAc_only ..) rfl ?_
          exact h2
        · exact h2
      intro h3
      clear_value x5
      extract_lets +onlyGivenNames x6
      refine Only.keep x6 ?_ ?_
      · unfold x6
        refine Only.each (fun a2x u2 h4 => ?_) ?_
        · refine Only.step (State.modSl_only ..) rfl ?_
          exact h4
        · refine Only.step (State.modLegal_only ..) rfl ?_
          exact h3
      intro h5
      clear_value x6
      refine Only.step (State.holdStop_only ..) rfl ?_
      refine Only.step (State.closeEnded_only ..) rfl ?_
      refine Only.step (State.ringX_only ..) rfl ?_
      exact h5

theorem execScheduleActivation_only (a0 : _) (a1 : _) :
    OnlyRes [.msh, .host, .fw, .sent, .chn] a1 (execScheduleActivation a0 a1) := by
  unfold execScheduleActivation
  extract_lets +onlyGivenNames x1
  extract_lets +onlyGivenNames x2
  extract_lets +onlyGivenNames x3
  extract_lets +onlyGivenNames x4
  extract_lets +onlyGivenNames x5
  refine OnlyRes.next ?_
  refine Only.ite ?_ ?_
  · refine Only.step (State.answer_only ..) rfl ?_
    exact (Only.refl _ _)
  · refine Only.ite ?_ ?_
    · refine Only.step (State.answer_only ..) rfl ?_
      exact (Only.refl _ _)
    · refine Only.ite ?_ ?_
      · refine Only.step (State.answer_only ..) rfl ?_
        exact (Only.refl _ _)
      · extract_lets +onlyGivenNames x6
        extract_lets +onlyGivenNames x7
        refine Only.keep x7 ?_ ?_
        · unfold x7
          refine Only.step (State.accept_only ..) rfl ?_
          refine Only.step (State.openProposal_only ..) rfl ?_
          exact (Only.refl _ _)
        intro h1
        clear_value x7
        extract_lets +onlyGivenNames x8
        refine Only.keep x8 ?_ ?_
        · unfold x8
          refine Only.ite ?_ ?_
          · exact h1
          · refine Only.step (State.originate_only ..) rfl ?_
            exact h1
        intro h2
        clear_value x8
        refine Only.ite ?_ ?_
        · refine Only.step (State.offerImage_only ..) rfl ?_
          exact h2
        · exact h2

theorem execSdpRequest_only (a0 : _) (a1 : _) (a2 : _) :
    OnlyRes [.veh, .sent] a2 (execSdpRequest a0 a1 a2) := by
  unfold execSdpRequest
  extract_lets +onlyGivenNames x1
  refine OnlyRes.next ?_
  refine Only.ite ?_ ?_
  · refine Only.step (State.emit_only ..) rfl ?_
    refine Only.step (State.modVeh_only ..) rfl ?_
    exact (Only.refl _ _)
  · exact (Only.refl _ _)

theorem execSealLoopSample_only (a0 : _) (a1 : _) :
    OnlyRes [.jnl, .met, .host, .pq, .keys, .legal, .sent, .bil, .nrg, .rind] a1 (execSealLoopSample a0 a1) := by
  unfold execSealLoopSample
  extract_lets +onlyGivenNames x1
  extract_lets +onlyGivenNames x2
  refine OnlyRes.next ?_
  refine Only.ite ?_ ?_
  · refine Only.step (State.modRind_only ..) rfl ?_
    exact (Only.refl _ _)
  · refine Only.ite ?_ ?_
    · refine Only.step (State.modRind_only ..) rfl ?_
      exact (Only.refl _ _)
    · extract_lets +onlyGivenNames x3
      refine Only.keep x3 ?_ ?_
      · unfold x3
        refine Only.step (State.modRind_only ..) rfl ?_
        exact (Only.refl _ _)
      intro h1
      clear_value x3
      refine Only.ite ?_ ?_
      · refine Only.step (State.bilUnitRaise_only ..) rfl ?_
        refine Only.step (State.modRind_only ..) rfl ?_
        exact h1
      · refine Only.ite ?_ ?_
        · refine Only.step (State.sealBreak_only ..) rfl ?_
          exact h1
        · exact h1

theorem execSealedReport_only (a0 : _) (a1 : _) :
    OnlyRes [.ses, .jnl, .sp, .sys, .pm, .cave, .nfc, .met, .msh, .host, .sl, .veh, .legal, .free, .lease, .conf, .sent, .pwr, .nrg, .saf, .chn, .ls, .lk, .brk] a1 (execSealedReport a0 a1) := by
  unfold execSealedReport
  refine OnlyRes.next ?_
  refine Only.ite ?_ ?_
  · refine Only.step (State.leaveSealing_only ..) rfl ?_
    refine Only.step (State.sealCheck_only ..) rfl ?_
    exact (Only.refl _ _)
  · exact (Only.refl _ _)

theorem execSelect_only (a0 : _) (a1 : _) :
    OnlyRes [.nfc, .free, .sent] a1 (execSelect a0 a1) := by
  unfold execSelect
  refine OnlyRes.next ?_
  refine Only.ite ?_ ?_
  · exact (Only.refl _ _)
  · refine Only.ite ?_ ?_
    · refine Only.step (State.tagSays_only ..) rfl ?_
      refine Only.step (State.modTag_only ..) rfl ?_
      exact (Only.refl _ _)
    · refine Only.step (State.tagSays_only ..) rfl ?_
      refine Only.step (State.modFree_only ..) rfl ?_
      exact (Only.refl _ _)

theorem execSelectLegalView_only (a0 : _) (a1 : _) :
    OnlyRes [.dsp, .host] a1 (execSelectLegalView a0 a1) := by
  unfold execSelectLegalView
  extract_lets +onlyGivenNames x1
  extract_lets +onlyGivenNames x2
  refine OnlyRes.next ?_
  refine Only.ite ?_ ?_
  · refine Only.step (State.answer_only ..) rfl ?_
    exact (Only.refl _ _)
  · refine Only.ite ?_ ?_
    · refine Only.step (State.answer_only ..) rfl ?_
      exact (Only.refl _ _)
    · refine Only.ite ?_ ?_
      · refine Only.step (State.answer_only ..) rfl ?_
        exact (Only.refl _ _)
      · extract_lets +onlyGivenNames x3
        refine Only.keep x3 ?_ ?_
        · unfold x3
          refine Only.step (State.modDsp_only ..) rfl ?_
          exact (Only.refl _ _)
        intro h1
        clear_value x3
        refine Only.step (State.answer_only ..) rfl ?_
        refine Only.step (State.dspRaise_only ..) rfl ?_
        refine Only.step (State.drawLegal_only ..) rfl ?_
        exact h1

theorem execSelftestDue_only (a0 : _) (a1 : _) (a2 : _) :
    OnlyRes [.ses, .sp, .cave, .host, .sent, .saf, .brk] a2 (execSelftestDue a0 a1 a2) := by
  unfold execSelftestDue
  refine OnlyRes.next ?_
  refine Only.ite ?_ ?_
  · exact (Only.refl _ _)
  · refine Only.ite ?_ ?_
    · refine Only.step (State.startTest_only ..) rfl ?_
      exact (Only.refl _ _)
    · refine Only.step (State.modSp_only ..) rfl ?_
      exact (Only.refl _ _)

theorem execSelftestOverdue_only (a0 : _) (a1 : _) :
    OnlyRes [.ses, .cave, .host, .sent] a1 (execSelftestOverdue a0 a1) := by
  unfold execSelftestOverdue
  refine OnlyRes.next ?_
  refine Only.step (State.availPoll_only ..) rfl ?_
  exact (Only.refl _ _)

theorem execSelftestReq_only (a0 : _) (a1 : _) (a2 : _) :
    OnlyRes [.ses, .sp, .sys, .cave, .host, .sent, .saf, .brk] a2 (execSelftestReq a0 a1 a2) := by
  unfold execSelftestReq
  extract_lets +onlyGivenNames x1
  refine OnlyRes.keep x1 ?_ ?_
  · unfold x1
    refine Only.step (State.heartbeat_only ..) rfl ?_
    exact (Only.refl _ _)
  intro h1
  clear_value x1
  refine OnlyRes.next ?_
  refine Only.ite ?_ ?_
  · refine Only.ite ?_ ?_
    · refine Only.step (State.safeAnswer_only ..) rfl ?_
      refine Only.step (State.modSp_only ..) rfl ?_
      exact h1
    · refine Only.step (State.safeAnswer_only ..) rfl ?_
      exact h1
  · refine Only.ite ?_ ?_
    · refine Only.step (State.safeAnswer_only ..) rfl ?_
      refine Only.step (State.startTest_only ..) rfl ?_
      exact h1
    · refine Only.step (State.safeAnswer_only ..) rfl ?_
      exact h1

theorem execSendTripAdvice_only (a0 : _) (a1 : _) :
    OnlyRes [.msh, .host, .sent, .chn] a1 (execSendTripAdvice a0 a1) := by
  unfold execSendTripAdvice
  refine OnlyRes.next ?_
  refine Only.ite ?_ ?_
  · refine Only.step (State.answer_only ..) rfl ?_
    exact (Only.refl _ _)
  · refine Only.ite ?_ ?_
    · refine Only.step (State.answer_only ..) rfl ?_
      exact (Only.refl _ _)
    · refine Only.step (State.answer_only ..) rfl ?_
      refine Only.step (State.sendAdvice_only ..) rfl ?_
      exact (Only.refl _ _)

theorem execServiceImageStart_only (a0 : _) (a1 : _) :
    OnlyRes [.ses, .jnl, .dsp, .sp, .sys, .pm, .time, .cave, .nfc, .met, .msh, .host, .fw, .veh, .pq, .keys, .legal, .lease, .conf, .sent, .pwr, .bil, .nrg, .saf, .chn, .ls, .lk, .brk] a1 (execServiceImageStart a0 a1) := by
  unfold execServiceImageStart
  refine OnlyRes.next ?_
  refine Only.ite ?_ ?_
  · exact (Only.refl _ _)
  · refine Only.ite ?_ ?_
    · refine Only.step (State.enterRom_only ..) rfl ?_
      exact (Only.refl _ _)
    · refine Only.ite ?_ ?_
      · refine Only.step (State.reach_only ..) rfl ?_
        refine Only.step (State.modKeys_only ..) rfl ?_
        refine Only.step (State.modHost_only ..) rfl ?_
        refine Only.step (State.modSys_only ..) rfl ?_
        refine Only.step (State.modFw_only ..) rfl ?_
        exact (Only.refl _ _)
      · extract_lets +onlyGivenNames x1
        refine Only.keep x1 ?_ ?_
        · unfold x1
          refine Only.step (State.chipReset_only ..) rfl ?_
          refine Only.step (State.modFw_only ..) rfl ?_
          exact (Only.refl _ _)
        intro h1
        clear_value x1
        refine Only.ite ?_ ?_
        · refine Only.step (State.enterRom_only ..) rfl ?_
          exact h1
        · exact h1

theorem execServiceLossTimeout_only (a0 : _) :
    OnlyRes [.ses, .sp, .cave, .host, .sent, .saf, .brk] a0 (execServiceLossTimeout a0) := by
  unfold execServiceLossTimeout
  refine OnlyRes.next ?_
  refine Only.step (State.serviceLoss_only ..) rfl ?_
  exact (Only.refl _ _)

theorem execServiceSwapDone_only (a0 : _) :
    OnlyRes [.msh, .host, .fw, .keys, .sent, .chn] a0 (execServiceSwapDone a0) := by
  unfold execServiceSwapDone
  refine OnlyRes.next ?_
  refine Only.ite ?_ ?_
  · extract_lets +onlyGivenNames x1
    refine Only.keep x1 ?_ ?_
    · unfold x1
      refine Only.step (State.switchBank_only ..) rfl ?_
      exact (Only.refl _ _)
    intro h1
    clear_value x1
    refine Only.step (State.activated_only ..) rfl ?_
    refine Only.step (State.modKeys_only ..) rfl ?_
    exact h1
  · exact (Only.refl _ _)

theorem execServiceWatchdogExpiry_only (a0 : _) :
    OnlyRes [.ses, .jnl, .dsp, .sp, .sys, .pm, .time, .cave, .nfc, .met, .msh, .host, .fw, .veh, .pq, .keys, .legal, .lease, .conf, .sent, .pwr, .bil, .nrg, .saf, .chn, .ls, .lk, .brk] a0 (execServiceWatchdogExpiry a0) := by
  unfold execServiceWatchdogExpiry
  refine OnlyRes.next ?_
  refine Only.step (State.chipReset_only ..) rfl ?_
  exact (Only.refl _ _)

theorem execSesEventRead_only (a0 : _) (a1 : _) (a2 : _) (a3 : _) :
    OnlyRes [.ses, .sys, .msh, .host, .sent, .chn] a3 (execSesEventRead a0 a1 a2 a3) := by
  unfold execSesEventRead
  refine OnlyRes.next ?_
  refine State.readEvent_only rfl (fun u1 h1 => ?_) ?_
  · refine Only.step (State.modSes_only ..) rfl ?_
    exact h1
  · exact (Only.refl _ _)

theorem execSessionSeal_only (a0 : _) (a1 : _) :
    OnlyRes [.ses, .jnl, .met, .host, .fw, .pq, .sent, .bil, .nrg] a1 (execSessionSeal a0 a1) := by
  unfold execSessionSeal
  refine OnlyRes.next ?_
  split
  · refine Only.ite ?_ ?_
    · refine Only.step (State.holdStop_only ..) rfl ?_
      refine Only.step (State.sealSession_only ..) rfl ?_
      exact (Only.refl _ _)
    · exact (Only.refl _ _)
  · exact (Only.refl _ _)

theorem execSetAcCurrent_only (a0 : _) (a1 : _) :
    OnlyRes [.host, .veh, .sent, .pwr] a1 (execSetAcCurrent a0 a1) := by
  unfold execSetAcCurrent
  extract_lets +onlyGivenNames x1
  extract_lets +onlyGivenNames x2
  refine OnlyRes.next ?_
  refine Only.ite ?_ ?_
  · refine Only.step (State.answer_only ..) rfl ?_
    exact (Only.refl _ _)
  · refine Only.ite ?_ ?_
    · refine Only.step (State.answer_only ..) rfl ?_
      exact (Only.refl _ _)
    · extract_lets +onlyGivenNames x3
      refine Only.keep x3 ?_ ?_
      · unfold x3
        refine Only.step (State.wantChanged_only ..) rfl ?_
        refine Only.step (State.refreshPwm_only ..) rfl ?_
        refine Only.step (State.modVeh_only ..) rfl ?_
        exact (Only.refl _ _)
      intro h1
      clear_value x3
      refine Only.step (State.answer_only ..) rfl ?_
      exact h1

theorem execSetBillingConfig_only (a0 : _) (a1 : _) :
    OnlyRes [.jnl, .msh, .host, .conf, .sent, .chn] a1 (execSetBillingConfig a0 a1) := by
  unfold execSetBillingConfig
  refine OnlyRes.next ?_
  refine State.unlessVoid_only rfl (fun u1 h1 => ?_) ?_
  · refine Only.step (State.plainItem_only ..) rfl ?_
    exact h1
  · exact (Only.refl _ _)

theorem execSetCalCoeff_only (a0 : _) (a1 : _) :
    OnlyRes [.met, .host] a1 (execSetCalCoeff a0 a1) := by
  unfold execSetCalCoeff
  refine OnlyRes.next ?_
  refine State.unlessVoid_only rfl (fun u1 h1 => ?_) ?_
  · extract_lets +onlyGivenNames x1
    split
    · refine Only.step (State.answer_only ..) rfl ?_
      exact h1
    · refine Only.step (State.answer_only ..) rfl ?_
      exact h1
    · extract_lets +onlyGivenNames x2
      refine Only.ite ?_ ?_
      · refine Only.step (State.answer_only ..) rfl ?_
        exact h1
      · refine Only.step (State.answer_only ..) rfl ?_
        refine Only.step (State.modMet_only ..) rfl ?_
        exact h1
  · exact (Only.refl _ _)

theorem execSetCaveConfig_only (a0 : _) (a1 : _) :
    OnlyRes [.jnl, .msh, .host, .conf, .sent, .chn] a1 (execSetCaveConfig a0 a1) := by
  unfold execSetCaveConfig
  refine OnlyRes.next ?_
  refine Only.step (State.systemItem_only ..) rfl ?_
  exact (Only.refl _ _)

theorem execSetChainConfig_only (a0 : _) (a1 : _) :
    OnlyRes [.jnl, .msh, .host, .conf, .sent, .chn] a1 (execSetChainConfig a0 a1) := by
  unfold execSetChainConfig
  refine OnlyRes.next ?_
  refine Only.step (State.systemItem_only ..) rfl ?_
  exact (Only.refl _ _)

theorem execSetCoexMask_only (a0 : _) (a1 : _) :
    OnlyRes [.jnl, .msh, .host, .conf, .sent, .chn] a1 (execSetCoexMask a0 a1) := by
  unfold execSetCoexMask
  refine OnlyRes.next ?_
  refine Only.step (State.systemItem_only ..) rfl ?_
  exact (Only.refl _ _)

theorem execSetDisplayConfig_only (a0 : _) (a1 : _) :
    OnlyRes [.jnl, .msh, .host, .conf, .sent, .chn] a1 (execSetDisplayConfig a0 a1) := by
  unfold execSetDisplayConfig
  refine OnlyRes.next ?_
  refine Only.step (State.systemItem_only ..) rfl ?_
  exact (Only.refl _ _)

theorem execSetEnergyConfig_only (a0 : _) (a1 : _) :
    OnlyRes [.jnl, .msh, .host, .conf, .sent, .chn] a1 (execSetEnergyConfig a0 a1) := by
  unfold execSetEnergyConfig
  refine OnlyRes.next ?_
  refine State.unlessVoid_only rfl (fun u1 h1 => ?_) ?_
  · refine Only.step (State.plainItem_only ..) rfl ?_
    exact h1
  · exact (Only.refl _ _)

theorem execSetGlnBind_only (a0 : _) (a1 : _) :
    OnlyRes [.jnl, .msh, .host, .conf, .sent, .chn] a1 (execSetGlnBind a0 a1) := by
  unfold execSetGlnBind
  refine OnlyRes.next ?_
  refine Only.step (State.systemItem_only ..) rfl ?_
  exact (Only.refl _ _)

theorem execSetGuestCaps_only (a0 : _) (a1 : _) :
    OnlyRes [.jnl, .msh, .host, .conf, .sent, .chn] a1 (execSetGuestCaps a0 a1) := by
  unfold execSetGuestCaps
  refine OnlyRes.next ?_
  refine Only.step (State.systemItem_only ..) rfl ?_
  exact (Only.refl _ _)

theorem execSetGuestHeartbeat_only (a0 : _) (a1 : _) :
    OnlyRes [.jnl, .msh, .host, .conf, .sent, .chn] a1 (execSetGuestHeartbeat a0 a1) := by
  unfold execSetGuestHeartbeat
  refine OnlyRes.next ?_
  refine Only.step (State.plainItem_only ..) rfl ?_
  exact (Only.refl _ _)

theorem execSetGuestQos_only (a0 : _) (a1 : _) :
    OnlyRes [.jnl, .msh, .host, .conf, .sent, .chn] a1 (execSetGuestQos a0 a1) := by
  unfold execSetGuestQos
  refine OnlyRes.next ?_
  refine Only.step (State.systemItem_only ..) rfl ?_
  exact (Only.refl _ _)

theorem execSetLeaseConfig_only (a0 : _) (a1 : _) :
    OnlyRes [.jnl, .msh, .host, .conf, .sent, .chn] a1 (execSetLeaseConfig a0 a1) := by
  unfold execSetLeaseConfig
  refine OnlyRes.next ?_
  refine Only.step (State.systemItem_only ..) rfl ?_
  exact (Only.refl _ _)

theorem execSetLkConfig_only (a0 : _) (a1 : _) :
    OnlyRes [.jnl, .msh, .host, .conf, .sent, .chn] a1 (execSetLkConfig a0 a1) := by
  unfold execSetLkConfig
  refine OnlyRes.next ?_
  refine Only.step (State.plainItem_only ..) rfl ?_
  exact (Only.refl _ _)

theorem execSetLsConfig_only (a0 : _) (a1 : _) :
    OnlyRes [.jnl, .msh, .host, .conf, .sent, .chn] a1 (execSetLsConfig a0 a1) := by
  unfold execSetLsConfig
  refine OnlyRes.next ?_
  refine Only.step (State.systemItem_only ..) rfl ?_
  exact (Only.refl _ _)

theorem execSetLsOutput_only (a0 : _) (a1 : _) :
    OnlyRes [.host, .ls] a1 (execSetLsOutput a0 a1) := by
  unfold execSetLsOutput
  extract_lets +onlyGivenNames x1
  extract_lets +onlyGivenNames x2
  extract_lets +onlyGivenNames x3
  refine OnlyRes.next ?_
  split
  · refine Only.step (State.answer_only ..) rfl ?_
    exact (Only.refl _ _)
  · refine Only.ite ?_ ?_
    · refine Only.step (State.answer_only ..) rfl ?_
      exact (Only.refl _ _)
    · refine Only.step (State.answer_only ..) rfl ?_
      refine Only.step (State.lsSettle_only ..) rfl ?_
      refine Only.foldl (fun u1 a1x h1 => ?_) ?_
      · refine Only.step (State.modLsCh_only ..) rfl ?_
        exact h1
      · exact (Only.refl _ _)

theorem execSetLsSupplyConfig_only (a0 : _) (a1 : _) :
    OnlyRes [.jnl, .msh, .host, .conf, .sent, .chn] a1 (execSetLsSupplyConfig a0 a1) := by
  unfold execSetLsSupplyConfig
  refine OnlyRes.next ?_
  refine Only.step (State.systemItem_only ..) rfl ?_
  exact (Only.refl _ _)

theorem execSetMeshConfig_only (a0 : _) (a1 : _) :
    OnlyRes [.jnl, .msh, .host, .conf, .sent, .chn] a1 (execSetMeshConfig a0 a1) := by
  unfold execSetMeshConfig
  refine OnlyRes.next ?_
  refine Only.step (State.systemItem_only ..) rfl ?_
  exact (Only.refl _ _)

theorem execSetMetrologyConfig_only (a0 : _) (a1 : _) :
    OnlyRes [.jnl, .msh, .host, .conf, .sent, .chn] a1 (execSetMetrologyConfig a0 a1) := by
  unfold execSetMetrologyConfig
  refine OnlyRes.next ?_
  refine State.unlessVoid_only rfl (fun u1 h1 => ?_) ?_
  · refine Only.step (State.plainItem_only ..) rfl ?_
    exact h1
  · exact (Only.refl _ _)

theorem execSetNfcConfig_only (a0 : _) (a1 : _) :
    OnlyRes [.jnl, .msh, .host, .conf, .sent, .chn] a1 (execSetNfcConfig a0 a1) := by
  unfold execSetNfcConfig
  refine OnlyRes.next ?_
  refine Only.step (State.systemItem_only ..) rfl ?_
  exact (Only.refl _ _)

theorem execSetOpticalConfig_only (a0 : _) (a1 : _) :
    OnlyRes [.jnl, .msh, .host, .conf, .sent, .chn] a1 (execSetOpticalConfig a0 a1) := by
  unfold execSetOpticalConfig
  refine OnlyRes.next ?_
  refine Only.step (State.systemItem_only ..) rfl ?_
  exact (Only.refl _ _)

theorem execSetPanelPower_only (a0 : _) (a1 : _) :
    OnlyRes [.dsp, .host] a1 (execSetPanelPower a0 a1) := by
  unfold execSetPanelPower
  extract_lets +onlyGivenNames x1
  refine OnlyRes.next ?_
  refine Only.ite ?_ ?_
  · refine Only.step (State.answer_only ..) rfl ?_
    exact (Only.refl _ _)
  · extract_lets +onlyGivenNames x2
    refine Only.keep x2 ?_ ?_
    · unfold x2
      refine Only.step (State.modDsp_only ..) rfl ?_
      exact (Only.refl _ _)
    intro h1
    clear_value x2
    refine Only.step (State.answer_only ..) rfl ?_
    refine Only.ite ?_ ?_
    · exact h1
    · refine Only.step (State.dspRaise_only ..) rfl ?_
      exact h1

theorem execSetPmLinkConfig_only (a0 : _) (a1 : _) :
    OnlyRes [.jnl, .msh, .host, .conf, .sent, .chn] a1 (execSetPmLinkConfig a0 a1) := by
  unfold execSetPmLinkConfig
  refine OnlyRes.next ?_
  refine Only.step (State.systemItem_only ..) rfl ?_
  exact (Only.refl _ _)

theorem execSetPortConfig_only (a0 : _) (a1 : _) :
    OnlyRes [.jnl, .msh, .host, .conf, .sent, .chn] a1 (execSetPortConfig a0 a1) := by
  unfold execSetPortConfig
  refine OnlyRes.next ?_
  refine Only.step (State.plainItem_only ..) rfl ?_
  exact (Only.refl _ _)

theorem execSetPortLimit_only (a0 : _) (a1 : _) :
    OnlyRes [.host, .veh, .sent, .pwr] a1 (execSetPortLimit a0 a1) := by
  unfold execSetPortLimit
  extract_lets +onlyGivenNames x1
  extract_lets +onlyGivenNames x2
  extract_lets +onlyGivenNames x3
  refine OnlyRes.next ?_
  refine Only.ite ?_ ?_
  · refine Only.step (State.answer_only ..) rfl ?_
    exact (Only.refl _ _)
  · extract_lets +onlyGivenNames x4
    refine Only.keep x4 ?_ ?_
    · unfold x4
      refine Only.step (State.modPwr_only ..) rfl ?_
      exact (Only.refl _ _)
    intro h1
    clear_value x4
    extract_lets +onlyGivenNames x5
    refine Only.keep x5 ?_ ?_
    · unfold x5
      refine Only.step (State.wantChanged_only ..) rfl ?_
      refine Only.step (State.refreshPwm_only ..) rfl ?_
      refine Only.ite ?_ ?_
      · refine Only.step (State.retarget_only ..) rfl ?_
        exact h1
      · exact h1
    intro h2
    clear_value x5
    refine Only.step (State.answer_only ..) rfl ?_
    exact h2

theorem execSetPowerConfig_only (a0 : _) (a1 : _) :
    OnlyRes [.jnl, .msh, .host, .conf, .sent, .chn] a1 (execSetPowerConfig a0 a1) := by
  unfold execSetPowerConfig
  refine OnlyRes.next ?_
  refine Only.step (State.plainItem_only ..) rfl ?_
  exact (Only.refl _ _)

theorem execSetPqConfig_only (a0 : _) (a1 : _) :
    OnlyRes [.jnl, .msh, .host, .conf, .sent, .chn] a1 (execSetPqConfig a0 a1) := by
  unfold execSetPqConfig
  refine OnlyRes.next ?_
  refine Only.ite ?_ ?_
  · refine State.unlessVoid_only rfl (fun u1 h1 => ?_) ?_
    · refine Only.step (State.plainItem_only ..) rfl ?_
      exact h1
    · exact (Only.refl _ _)
  · refine Only.step (State.legalSystemItem_only ..) rfl ?_
    exact (Only.refl _ _)

theorem execSetPulseInput_only (a0 : _) (a1 : _) :
    OnlyRes [.jnl, .msh, .host, .conf, .sent, .chn] a1 (execSetPulseInput a0 a1) := by
  unfold execSetPulseInput
  refine OnlyRes.next ?_
  refine Only.step (State.legalSystemItem_only ..) rfl ?_
  exact (Only.refl _ _)

theorem execSetPulseSource_only (a0 : _) (a1 : _) :
    OnlyRes [.host, .sent, .nrg] a1 (execSetPulseSource a0 a1) := by
  unfold execSetPulseSource
  refine OnlyRes.next ?_
  refine State.unlessVoid_only rfl (fun u1 h1 => ?_) ?_
  · extract_lets +onlyGivenNames x1
    refine Only.ite ?_ ?_
    · refine Only.step (State.answer_only ..) rfl ?_
      exact h1
    · extract_lets +onlyGivenNames x2
      refine Only.keep x2 ?_ ?_
      · unfold x2
        refine Only.step (State.modNrg_only ..) rfl ?_
        exact h1
      intro h2
      clear_value x2
      refine Only.step (State.answer_only ..) rfl ?_
      refine Only.ite ?_ ?_
      · refine Only.step (State.applySource_only ..) rfl ?_
        exact h2
      · exact h2
  · exact (Only.refl _ _)

theorem execSetQueueRange_only (a0 : _) (a1 : _) :
    OnlyRes [.jnl, .msh, .host, .conf, .sent, .chn] a1 (execSetQueueRange a0 a1) := by
  unfold execSetQueueRange
  refine OnlyRes.next ?_
  refine Only.step (State.systemItem_only ..) rfl ?_
  exact (Only.refl _ _)

theorem execSetRtcAlarm_only (a0 : _) (a1 : _) :
    OnlyRes [.host, .rind] a1 (execSetRtcAlarm a0 a1) := by
  unfold execSetRtcAlarm
  refine OnlyRes.next ?_
  refine Only.ite ?_ ?_
  · refine Only.step (State.answer_only ..) rfl ?_
    exact (Only.refl _ _)
  · refine Only.step (State.answer_only ..) rfl ?_
    refine Only.step (State.modRind_only ..) rfl ?_
    exact (Only.refl _ _)

theorem execSetSessionConfig_only (a0 : _) (a1 : _) :
    OnlyRes [.jnl, .msh, .host, .conf, .sent, .chn] a1 (execSetSessionConfig a0 a1) := by
  unfold execSetSessionConfig
  refine OnlyRes.next ?_
  refine Only.step (State.plainItem_only ..) rfl ?_
  exact (Only.refl _ _)

theorem execSetSitePower_only (a0 : _) (a1 : _) :
    OnlyRes [.jnl, .msh, .host, .conf, .sent, .chn] a1 (execSetSitePower a0 a1) := by
  unfold execSetSitePower
  refine OnlyRes.next ?_
  refine Only.step (State.systemItem_only ..) rfl ?_
  exact (Only.refl _ _)

theorem execSetSupplyConfig_only (a0 : _) (a1 : _) :
    OnlyRes [.jnl, .msh, .host, .conf, .sent, .chn] a1 (execSetSupplyConfig a0 a1) := by
  unfold execSetSupplyConfig
  refine OnlyRes.next ?_
  refine Only.step (State.legalSystemItem_only ..) rfl ?_
  exact (Only.refl _ _)

theorem execSetTagPublic_only (a0 : _) (a1 : _) :
    OnlyRes [.nfc, .host] a1 (execSetTagPublic a0 a1) := by
  unfold execSetTagPublic
  extract_lets +onlyGivenNames x1
  extract_lets +onlyGivenNames x2
  refine OnlyRes.next ?_
  refine Only.ite ?_ ?_
  · refine Only.step (State.answer_only ..) rfl ?_
    exact (Only.refl _ _)
  · refine Only.step (State.answer_only ..) rfl ?_
    refine Only.step (State.modTag_only ..) rfl ?_
    exact (Only.refl _ _)

theorem execSetTagSecrets_only (a0 : _) (a1 : _) :
    OnlyRes [.nfc, .host, .keys, .free, .sent] a1 (execSetTagSecrets a0 a1) := by
  unfold execSetTagSecrets
  extract_lets +onlyGivenNames x1
  extract_lets +onlyGivenNames x2
  extract_lets +onlyGivenNames x3
  extract_lets +onlyGivenNames x4
  extract_lets +onlyGivenNames x5
  extract_lets +onlyGivenNames x6
  extract_lets +onlyGivenNames x7
  extract_lets +onlyGivenNames x8
  refine OnlyRes.keep x8 ?_ ?_
  · unfold x8
    refine Only.ite ?_ ?_
    · refine Only.step (State.useRing_only ..) rfl ?_
      exact (Only.refl _ _)
    · exact (Only.refl _ _)
  intro h1
  clear_value x8
  extract_lets +onlyGivenNames x9
  refine OnlyRes.next ?_
  refine Only.ite ?_ ?_
  · refine Only.step (State.answer_only ..) rfl ?_
    exact (Only.refl _ _)
  · refine Only.ite ?_ ?_
    · refine Only.step (State.answer_only ..) rfl ?_
      exact (Only.refl _ _)
    · refine Only.ite ?_ ?_
      · refine Only.step (State.answer_only ..) rfl ?_
        exact (Only.refl _ _)
      · refine Only.ite ?_ ?_
        · refine Only.step (State.endRing_only ..) rfl ?_
          exact (Only.refl _ _)
        · refine Only.ite ?_ ?_
          · refine Only.step (State.answer_only ..) rfl ?_
            exact (Only.refl _ _)
          · extract_lets +onlyGivenNames x10
            extract_lets +onlyGivenNames x11
            refine Only.keep x11 ?_ ?_
            · unfold x11
              refine Only.ite ?_ ?_
              · refine Only.step (State.modTag_only ..) rfl ?_
                refine Only.step (State.modFree_only ..) rfl ?_
                exact h1
              · exact h1
            intro h2
            clear_value x11
            extract_lets +onlyGivenNames x12
            refine Only.keep x12 ?_ ?_
            · unfold x12
              clear x10
              clear_value x2 x9
              split
              · refine Only.step (State.modTag_only ..) rfl ?_
                refine Only.step (State.putSlot_only ..) rfl ?_
                exact h2
              · exact h2
            intro h3
            clear_value x12
            refine Only.step (State.answer_only ..) rfl ?_
            exact h3

theorem execSetTariffSchedule_only (a0 : _) (a1 : _) :
    OnlyRes [.jnl, .msh, .host, .conf, .sent, .chn] a1 (execSetTariffSchedule a0 a1) := by
  unfold execSetTariffSchedule
  refine OnlyRes.next ?_
  refine State.unlessVoid_only rfl (fun u1 h1 => ?_) ?_
  · refine Only.step (State.plainItem_only ..) rfl ?_
    exact h1
  · exact (Only.refl _ _)

theorem execSetTrefMode_only (a0 : _) (a1 : _) :
    OnlyRes [.jnl, .msh, .host, .conf, .sent, .chn] a1 (execSetTrefMode a0 a1) := by
  unfold execSetTrefMode
  refine OnlyRes.next ?_
  refine Only.step (State.systemItem_only ..) rfl ?_
  exact (Only.refl _ _)

theorem execSetUpdateConfig_only (a0 : _) (a1 : _) :
    OnlyRes [.jnl, .msh, .host, .conf, .sent, .chn] a1 (execSetUpdateConfig a0 a1) := by
  unfold execSetUpdateConfig
  refine OnlyRes.next ?_
  refine Only.step (State.systemItem_only ..) rfl ?_
  exact (Only.refl _ _)

theorem execSetWallClock_only (a0 : _) (a1 : _) :
    OnlyRes [.sys, .host, .legal, .sent] a1 (execSetWallClock a0 a1) := by
  unfold execSetWallClock
  refine OnlyRes.next ?_
  refine Only.ite ?_ ?_
  · refine Only.step (State.answer_only ..) rfl ?_
    exact (Only.refl _ _)
  · refine State.unlessVoid_only rfl (fun u1 h1 => ?_) ?_
    · refine Only.step (State.answer_only ..) rfl ?_
      refine Only.step (State.bilUnitRaise_only ..) rfl ?_
      refine Only.step (State.modSys_only ..) rfl ?_
      refine Only.step (State.modLegal_only ..) rfl ?_
      exact h1
    · exact (Only.refl _ _)

theorem execSignDigest_only (a0 : _) (a1 : _) :
    OnlyRes [.keys] a1 (execSignDigest a0 a1) := by
  unfold execSignDigest
  extract_lets +onlyGivenNames x1
  extract_lets +onlyGivenNames x2
  extract_lets +onlyGivenNames x3
  extract_lets +onlyGivenNames x4
  refine OnlyRes.next ?_
  refine Only.ite ?_ ?_
  · split
    · refine Only.step (State.vaultRefuse_only ..) rfl ?_
      exact (Only.refl _ _)
    · refine Only.step (State.vaultRefuse_only ..) rfl ?_
      exact (Only.refl _ _)
    · refine Only.ite ?_ ?_
      · try dsimp -zeta only [x4]
        extract_lets +onlyGivenNames x5
        refine Only.step (State.vaultRing_only ..) rfl ?_
        exact (Only.refl _ _)
      · refine Only.step (State.vaultRefuse_only ..) rfl ?_
        exact (Only.refl _ _)
  · split
    · refine Only.step (State.vaultRefuse_only ..) rfl ?_
      exact (Only.refl _ _)
    · refine Only.ite ?_ ?_
      · try dsimp -zeta only [x4]
        extract_lets +onlyGivenNames x6
        refine Only.step (State.vaultRing_only ..) rfl ?_
        exact (Only.refl _ _)
      · refine Only.step (State.vaultRefuse_only ..) rfl ?_
        exact (Only.refl _ _)

theorem execSignOn_only (a0 : _) (a1 : _) :
    OnlyRes [.legal] a1 (execSignOn a0 a1) := by
  unfold execSignOn
  refine OnlyRes.next ?_
  refine Only.ite ?_ ?_
  · exact (Only.refl _ _)
  · refine Only.ite ?_ ?_
    · refine Only.step (State.modOpt_only ..) rfl ?_
      exact (Only.refl _ _)
    · refine Only.step (State.modOpt_only ..) rfl ?_
      exact (Only.refl _ _)

theorem execSiteConfig_only (a0 : _) (a1 : _) (a2 : _) (a3 : _) :
    OnlyRes [.msh, .host, .free, .conf, .sent, .chn] a3 (execSiteConfig a0 a1 a2 a3) := by
  unfold execSiteConfig
  refine OnlyRes.next ?_
  refine State.chainRx_only rfl (fun u1 h1 => ?_) ?_
  · refine Only.step (State.eatSiteConfig_only ..) rfl ?_
    exact h1
  · exact (Only.refl _ _)

theorem execSiteConfigDeadline_only (a0 : _) :
    OnlyRes [.jnl, .msh, .conf, .sent, .chn] a0 (execSiteConfigDeadline a0) := by
  unfold execSiteConfigDeadline
  refine OnlyRes.next ?_
  split
  · refine Only.ite ?_ ?_
    · exact (Only.refl _ _)
    · refine Only.step (State.journalHeld_only ..) rfl ?_
      exact (Only.refl _ _)
  · refine Only.ite ?_ ?_
    · exact (Only.refl _ _)
    · refine Only.ite ?_ ?_
      · refine Only.step (State.modChn_only ..) rfl ?_
        exact (Only.refl _ _)
      · extract_lets +onlyGivenNames x1
        refine Only.step (State.sendSite_only ..) rfl ?_
        refine Only.step (State.modChn_only ..) rfl ?_
        exact (Only.refl _ _)

theorem execSiteState_only (a0 : _) :
    OnlyRes [.ses, .jnl, .sp, .sys, .pm, .cave, .nfc, .met, .msh, .host, .sl, .veh, .legal, .free, .lease, .conf, .sent, .pwr, .bil, .nrg, .saf, .chn, .ls, .lk, .brk] a0 (execSiteState a0) := by
  unfold execSiteState
  extract_lets +onlyGivenNames x1
  refine OnlyRes.keep x1 ?_ ?_
  · unfold x1
    split
    · refine Only.each (fun a1x u1 h1 => ?_) ?_
      · refine Only.step (State.endSession_only ..) rfl ?_
        exact h1
      · exact (Only.refl _ _)
    · refine Only.each (fun a2x u2 h2 => ?_) ?_
      · refine Only.step (State.endSession_only ..) rfl ?_
        exact h2
      · exact (Only.refl _ _)
    · refine Only.each (fun a3x u3 h3 => ?_) ?_
      · refine Only.step (State.endSession_only ..) rfl ?_
        exact h3
      · exact (Only.refl _ _)
    · exact (Only.refl _ _)
    · exact (Only.refl _ _)
    · exact (Only.refl _ _)
    · exact (Only.refl _ _)
  intro h4
  clear_value x1
  extract_lets +onlyGivenNames x2
  extract_lets +onlyGivenNames x3
  refine OnlyRes.keep x3 ?_ ?_
  · unfold x3
    refine Only.ite ?_ ?_
    · exact h4
    · refine Only.step (State.mirrorEv_only ..) rfl ?_
      refine Only.step (State.modChn_only ..) rfl ?_
      exact h4
  intro h5
  clear_value x3
  refine OnlyRes.next ?_
  refine Only.step (State.availAll_only ..) rfl ?_
  exact h5

theorem execSlGoodFrameRun_only (a0 : _) (a1 : _) :
    OnlyRes [.sl] a1 (execSlGoodFrameRun a0 a1) := by
  unfold execSlGoodFrameRun
  extract_lets +onlyGivenNames x1
  refine OnlyRes.next ?_
  refine Only.ite ?_ ?_
  · exact (Only.refl _ _)
  · split
    · refine Only.step (State.readHead_only ..) rfl ?_
      refine Only.step (State.modSl_only ..) rfl ?_
      exact (Only.refl _ _)
    · refine Only.ite ?_ ?_
      · exact (Only.refl _ _)
      · refine Only.step (State.readHead_only ..) rfl ?_
        refine Only.step (State.modSl_only ..) rfl ?_
        exact (Only.refl _ _)
    · exact (Only.refl _ _)

theorem execSlLostFramesLimit_only (a0 : _) (a1 : _) :
    OnlyRes [.jnl, .met, .host, .sl, .pq, .legal, .sent] a1 (execSlLostFramesLimit a0 a1) := by
  unfold execSlLostFramesLimit
  refine OnlyRes.next ?_
  refine Only.ite ?_ ?_
  · refine Only.step (State.metRaise_only ..) rfl ?_
    refine Only.step (State.leaveRun_only ..) rfl ?_
    exact (Only.refl _ _)
  · exact (Only.refl _ _)

theorem execSlStallTimeout_only (a0 : _) (a1 : _) :
    OnlyRes [.sl] a1 (execSlStallTimeout a0 a1) := by
  unfold execSlStallTimeout
  refine OnlyRes.next ?_
  refine Only.ite ?_ ?_
  · refine Only.step (State.modSl_only ..) rfl ?_
    exact (Only.refl _ _)
  · exact (Only.refl _ _)

theorem execSlTrainingTimeout_only (a0 : _) (a1 : _) :
    OnlyRes [.sl] a1 (execSlTrainingTimeout a0 a1) := by
  unfold execSlTrainingTimeout
  refine OnlyRes.next ?_
  refine Only.ite ?_ ?_
  · refine Only.step (State.modSl_only ..) rfl ?_
    exact (Only.refl _ _)
  · exact (Only.refl _ _)

theorem execSlacInitTimeout_only (a0 : _) (a1 : _) :
    OnlyRes [.cave, .host, .veh, .sent] a1 (execSlacInitTimeout a0 a1) := by
  unfold execSlacInitTimeout
  extract_lets +onlyGivenNames x1
  refine OnlyRes.next ?_
  refine Only.ite ?_ ?_
  · exact (Only.refl _ _)
  · split
    · refine Only.step (State.linkFailed_only ..) rfl ?_
      refine Only.step (State.modVeh_only ..) rfl ?_
      exact (Only.refl _ _)
    · refine Only.step (State.modVeh_only ..) rfl ?_
      exact (Only.refl _ _)
    · exact (Only.refl _ _)

theorem execSlacTimerExpiry_only (a0 : _) (a1 : _) :
    OnlyRes [.cave, .host, .veh, .sent] a1 (execSlacTimerExpiry a0 a1) := by
  unfold execSlacTimerExpiry
  refine OnlyRes.next ?_
  refine Only.ite ?_ ?_
  · refine Only.step (State.unmatch_only ..) rfl ?_
    exact (Only.refl _ _)
  · exact (Only.refl _ _)

theorem execSleepAbort_only (a0 : _) (a1 : _) :
    OnlyRes [.sys, .msh, .host, .free, .sent, .chn] a1 (execSleepAbort a0 a1) := by
  unfold execSleepAbort
  refine OnlyRes.next ?_
  refine State.chainRx_only rfl (fun u1 h1 => ?_) ?_
  · refine Only.step (State.eatAbort_only ..) rfl ?_
    exact h1
  · exact (Only.refl _ _)

theorem execSleepAnswerTimeout_only (a0 : _) :
    OnlyRes [.sys, .msh, .host, .sent, .chn] a0 (execSleepAnswerTimeout a0) := by
  unfold execSleepAnswerTimeout
  extract_lets +onlyGivenNames x1
  refine OnlyRes.next ?_
  refine Only.ite ?_ ?_
  · exact (Only.refl _ _)
  · extract_lets +onlyGivenNames x2
    extract_lets +onlyGivenNames x3
    extract_lets +onlyGivenNames x4
    refine Only.keep x4 ?_ ?_
    · unfold x4
      refine Only.step (State.modSleep_only ..) rfl ?_
      exact (Only.refl _ _)
    intro h1
    clear_value x4
    clear_value x3
    split
    · refine Only.ite ?_ ?_
      · refine Only.step (State.finalOpt_only ..) rfl ?_
        refine Only.step (State.commitSleep_only ..) rfl ?_
        refine Only.step (State.originate_only ..) rfl ?_
        exact h1
      · refine Only.step (State.finalOpt_only ..) rfl ?_
        refine Only.step (State.stayAwake_only ..) rfl ?_
        exact h1
    · refine Only.step (State.finalOpt_only ..) rfl ?_
      refine Only.step (State.stayAwake_only ..) rfl ?_
      refine Only.step (State.originate_only ..) rfl ?_
      exact h1

theorem execSleepCancel_only (a0 : _) (a1 : _) :
    OnlyRes [.sys, .msh, .host, .free, .sent, .chn] a1 (execSleepCancel a0 a1) := by
  unfold execSleepCancel
  refine OnlyRes.next ?_
  refine State.chainRx_only rfl (fun u1 h1 => ?_) ?_
  · refine Only.step (State.eatCancel_only ..) rfl ?_
    exact h1
  · exact (Only.refl _ _)

theorem execSleepCommit_only (a0 : _) (a1 : _) (a2 : _) :
    OnlyRes [.sys, .msh, .host, .free, .sent, .chn] a2 (execSleepCommit a0 a1 a2) := by
  unfold execSleepCommit
  refine OnlyRes.next ?_
  refine State.chainRx_only rfl (fun u1 h1 => ?_) ?_
  · refine Only.step (State.eatSleepCommit_only ..) rfl ?_
    exact h1
  · exact (Only.refl _ _)

theorem execSleepNotReady_only (a0 : _) (a1 : _) (a2 : _) :
    OnlyRes [.sys, .msh, .host, .free, .sent, .chn] a2 (execSleepNotReady a0 a1 a2) := by
  unfold execSleepNotReady
  refine OnlyRes.next ?_
  refine State.chainRx_only rfl (fun u1 h1 => ?_) ?_
  · refine Only.step (State.eatNotReady_only ..) rfl ?_
    exact h1
  · exact (Only.refl _ _)

theorem execSleepPointOfNoReturn_only (a0 : _) :
    OnlyRes [.sys, .msh, .host, .sent] a0 (execSleepPointOfNoReturn a0) := by
  unfold execSleepPointOfNoReturn
  refine OnlyRes.next ?_
  refine Only.ite ?_ ?_
  · exact (Only.refl _ _)
  · refine Only.ite ?_ ?_
    · refine Only.step (State.stayAwake_only ..) rfl ?_
      exact (Only.refl _ _)
    · split
      · refine Only.step (State.sysChanged_only ..) rfl ?_
        refine Only.step (State.modSleep_only ..) rfl ?_
        exact (Only.refl _ _)
      · refine Only.step (State.stayAwake_only ..) rfl ?_
        refine Only.step (State.modSleep_only ..) rfl ?_
        exact (Only.refl _ _)

theorem execSleepPrepare_only (a0 : _) (a1 : _) (a2 : _) :
    OnlyRes [.sys, .msh, .host, .free, .sent, .chn] a2 (execSleepPrepare a0 a1 a2) := by
  unfold execSleepPrepare
  refine OnlyRes.next ?_
  refine State.chainRx_only rfl (fun u1 h1 => ?_) ?_
  · refine Only.step (State.eatPrepare_only ..) rfl ?_
    exact h1
  · exact (Only.refl _ _)

theorem execSleepReady_only (a0 : _) (a1 : _) :
    OnlyRes [.sys, .msh, .host, .free, .sent, .chn] a1 (execSleepReady a0 a1) := by
  unfold execSleepReady
  refine OnlyRes.next ?_
  refine State.chainRx_only rfl (fun u1 h1 => ?_) ?_
  · refine Only.step (State.eatReady_only ..) rfl ?_
    exact h1
  · exact (Only.refl _ _)

theorem execSoundingComplete_only (a0 : _) (a1 : _) :
    OnlyRes [.cave, .host, .veh, .sent] a1 (execSoundingComplete a0 a1) := by
  unfold execSoundingComplete
  extract_lets +onlyGivenNames x1
  extract_lets +onlyGivenNames x2
  extract_lets +onlyGivenNames x3
  extract_lets +onlyGivenNames x4
  extract_lets +onlyGivenNames x5
  refine OnlyRes.keep x5 ?_ ?_
  · unfold x5
    refine Only.foldl (fun u1 a1x h1 => ?_) ?_
    · refine Only.step (State.emit_only ..) rfl ?_
      refine Only.step (State.modVeh_only ..) rfl ?_
      exact h1
    · exact (Only.refl _ _)
  intro h2
  clear_value x5
  refine OnlyRes.next ?_
  refine Only.foldl (fun u2 a2x h3 => ?_) ?_
  · refine Only.step (State.leftOut_only ..) rfl ?_
    exact h3
  · exact h2

theorem execSplZcAbsent_only (a0 : _) (a1 : _) :
    OnlyRes [.msh] a1 (execSplZcAbsent a0 a1) := by
  unfold execSplZcAbsent
  refine OnlyRes.next ?_
  refine Only.step (State.modMsh_only ..) rfl ?_
  exact (Only.refl _ _)

theorem execSplZcEdge_only (a0 : _) (a1 : _) (a2 : _) :
    OnlyRes [.msh] a2 (execSplZcEdge a0 a1 a2) := by
  unfold execSplZcEdge
  extract_lets +onlyGivenNames x1
  extract_lets +onlyGivenNames x2
  refine OnlyRes.next ?_
  refine Only.ite ?_ ?_
  · exact (Only.refl _ _)
  · refine Only.step (State.modMsh_only ..) rfl ?_
    exact (Only.refl _ _)

theorem execStagingBodyComplete_only (a0 : _) (a1 : _) (a2 : _) :
    OnlyRes [.host, .fw, .saf] a2 (execStagingBodyComplete a0 a1 a2) := by
  unfold execStagingBodyComplete
  extract_lets +onlyGivenNames x1
  refine OnlyRes.next ?_
  refine Only.ite ?_ ?_
  · exact (Only.refl _ _)
  · refine Only.ite ?_ ?_
    · refine Only.step (State.stgEnd_only ..) rfl ?_
      exact (Only.refl _ _)
    · split
      · refine Only.step (State.stgEnd_only ..) rfl ?_
        exact (Only.refl _ _)
      · refine Only.ite ?_ ?_
        · refine Only.step (State.stgEnd_only ..) rfl ?_
          exact (Only.refl _ _)
        · extract_lets +onlyGivenNames x2
          extract_lets +onlyGivenNames x3
          extract_lets +onlyGivenNames x4
          refine Only.keep x4 ?_ ?_
          · unfold x4
            refine Only.step (State.modIdleBank_only ..) rfl ?_
            exact (Only.refl _ _)
          intro h1
          clear_value x4
          extract_lets +onlyGivenNames x5
          refine Only.keep x5 ?_ ?_
          · unfold x5
            refine Only.ite ?_ ?_
            · refine Only.step (State.modSaf_only ..) rfl ?_
              exact h1
            · exact h1
          intro h2
          clear_value x5
          extract_lets +onlyGivenNames x6
          refine Only.keep x6 ?_ ?_
          · unfold x6
            refine Only.step (State.updRaise_only ..) rfl ?_
            refine Only.step (State.stgEnd_only ..) rfl ?_
            exact h2
          intro h3
          clear_value x6
          refine Only.ite ?_ ?_
          · refine Only.step (State.modFw_only ..) rfl ?_
            refine Only.step (State.switchBank_only ..) rfl ?_
            exact h3
          · exact h3

theorem execStagingRingRead_only (a0 : _) (a1 : _) (a2 : _) (a3 : _) :
    OnlyRes [.host, .fw, .sent] a3 (execStagingRingRead a0 a1 a2 a3) := by
  unfold execStagingRingRead
  extract_lets +onlyGivenNames x1
  refine OnlyRes.next ?_
  split
  · exact (Only.refl _ _)
  · extract_lets +onlyGivenNames x2
    extract_lets +onlyGivenNames x3
    refine Only.ite ?_ ?_
    · exact (Only.refl _ _)
    · extract_lets +onlyGivenNames x4
      refine Only.keep x4 ?_ ?_
      · unfold x4
        refine Only.step (State.modStg_only ..) rfl ?_
        refine Only.step (State.stgFeed_only ..) rfl ?_
        exact (Only.refl _ _)
      intro h1
      clear_value x4
      extract_lets +onlyGivenNames x5
      refine Only.ite ?_ ?_
      · refine Only.step (State.useRing_only ..) rfl ?_
        exact h1
      · refine Only.ite ?_ ?_
        · refine Only.step (State.useRing_only ..) rfl ?_
          refine Only.step (State.modStg_only ..) rfl ?_
          exact h1
        · exact h1

theorem execStagingTimeout_only (a0 : _) (a1 : _) :
    OnlyRes [.host, .fw] a1 (execStagingTimeout a0 a1) := by
  unfold execStagingTimeout
  extract_lets +onlyGivenNames x1
  refine OnlyRes.next ?_
  refine Only.ite ?_ ?_
  · refine Only.step (State.stgEnd_only ..) rfl ?_
    exact (Only.refl _ _)
  · exact (Only.refl _ _)

theorem execStagingWindowWrite_only (a0 : _) (a1 : _) (a2 : _) (a3 : _) :
    OnlyRes [.sys, .msh, .host, .fw, .free, .sent, .chn] a3 (execStagingWindowWrite a0 a1 a2 a3) := by
  unfold execStagingWindowWrite
  refine OnlyRes.next ?_
  refine Only.ite ?_ ?_
  · exact (Only.refl _ _)
  · refine State.access_only rfl (fun u1 h1 => ?_) ?_
    · split
      · exact h1
      · refine Only.ite ?_ ?_
        · refine Only.step (State.stgFeed_only ..) rfl ?_
          exact h1
        · extract_lets +onlyGivenNames x1
          refine Only.step (State.stgFeed_only ..) rfl ?_
          refine Only.step (State.modFree_only ..) rfl ?_
          exact h1
    · exact (Only.refl _ _)

theorem execStepInstant_only (a0 : _) (a1 : _) :
    OnlyRes [.pm, .host, .veh, .lease, .conf, .sent, .pwr] a1 (execStepInstant a0 a1) := by
  unfold execStepInstant
  refine OnlyRes.next ?_
  refine Only.ite ?_ ?_
  · refine Only.step (State.planStep_only ..) rfl ?_
    exact (Only.refl _ _)
  · exact (Only.refl _ _)

theorem execStopSession_only (a0 : _) (a1 : _) :
    OnlyRes [.ses, .jnl, .sp, .sys, .pm, .cave, .nfc, .met, .msh, .host, .sl, .veh, .legal, .free, .lease, .conf, .sent, .pwr, .bil, .nrg, .saf, .chn, .ls, .lk, .brk] a1 (execStopSession a0 a1) := by
  unfold execStopSession
  extract_lets +onlyGivenNames x1
  extract_lets +onlyGivenNames x2
  refine OnlyRes.next ?_
  refine Only.ite ?_ ?_
  · refine Only.step (State.endSession_only ..) rfl ?_
    refine Only.step (State.modSes_only ..) rfl ?_
    refine Only.step (State.accept_only ..) rfl ?_
    exact (Only.refl _ _)
  · refine Only.ite ?_ ?_
    · extract_lets +onlyGivenNames x3
      refine Only.keep x3 ?_ ?_
      · unfold x3
        split
        · refine Only.step (State.answer_only ..) rfl ?_
          exact (Only.refl _ _)
        · exact (Only.refl _ _)
      intro h1
      clear_value x3
      refine Only.step (State.answer_only ..) rfl ?_
      refine Only.step (State.reject_only ..) rfl ?_
      refine Only.step (State.modSes_only ..) rfl ?_
      exact h1
    · refine Only.ite ?_ ?_
      · refine Only.step (State.answer_only ..) rfl ?_
        refine Only.step (State.modSes_only ..) rfl ?_
        exact (Only.refl _ _)
      · refine Only.step (State.answer_only ..) rfl ?_
        exact (Only.refl _ _)

theorem execStorLinkDown_only (a0 : _) :
    OnlyRes [.cave, .host, .sent] a0 (execStorLinkDown a0) := by
  unfold execStorLinkDown
  refine OnlyRes.next ?_
  refine Only.step (State.caveFault_only ..) rfl ?_
  exact (Only.refl _ _)

theorem execSubstitutedCycle_only (a0 : _) (a1 : _) :
    OnlyRes [.jnl, .host, .pq, .sent, .nrg] a1 (execSubstitutedCycle a0 a1) := by
  unfold execSubstitutedCycle
  extract_lets +onlyGivenNames x1
  refine OnlyRes.next ?_
  refine Only.ite ?_ ?_
  · extract_lets +onlyGivenNames x2
    extract_lets +onlyGivenNames x3
    refine Only.keep x3 ?_ ?_
    · unfold x3
      refine Only.step (State.modNrg_only ..) rfl ?_
      exact (Only.refl _ _)
    intro h1
    clear_value x3
    refine Only.ite ?_ ?_
    · refine Only.step (State.modPq_only ..) rfl ?_
      refine Only.step (State.acUnitEnd_only ..) rfl ?_
      exact h1
    · exact h1
  · exact (Only.refl _ _)

theorem execSuperblockWrite_only (a0 : _) :
    OnlyRes [.cave, .sent] a0 (execSuperblockWrite a0) := by
  unfold execSuperblockWrite
  refine OnlyRes.next ?_
  refine Only.ite ?_ ?_
  · refine Only.step (State.emit_only ..) rfl ?_
    refine Only.step (State.modCave_only ..) rfl ?_
    exact (Only.refl _ _)
  · exact (Only.refl _ _)

theorem execSupplyFailTrip_only (a0 : _) :
    OnlyRes [.jnl, .legal] a0 (execSupplyFailTrip a0) := by
  unfold execSupplyFailTrip
  refine OnlyRes.next ?_
  refine Only.step (State.beginSaves_only ..) rfl ?_
  refine Only.step (State.modLegal_only ..) rfl ?_
  exact (Only.refl _ _)

theorem execSupplyRecovered_only (a0 : _) :
    OnlyRes [.jnl, .legal] a0 (execSupplyRecovered a0) := by
  unfold execSupplyRecovered
  extract_lets +onlyGivenNames x1
  refine OnlyRes.keep x1 ?_ ?_
  · unfold x1
    refine Only.step (State.modLegal_only ..) rfl ?_
    exact (Only.refl _ _)
  intro h1
  clear_value x1
  refine OnlyRes.next ?_
  refine Only.step (State.resumeRipening_only ..) rfl ?_
  exact h1

theorem execSupportedAppProtocol_only (a0 : _) (a1 : _) (a2 : _) (a3 : _) (a4 : _) :
    OnlyRes [.ses, .cave, .host, .veh, .sent] a4 (execSupportedAppProtocol a0 a1 a2 a3 a4) := by
  unfold execSupportedAppProtocol
  extract_lets +onlyGivenNames x1
  extract_lets +onlyGivenNames x2
  refine OnlyRes.next ?_
  refine Only.ite ?_ ?_
  · exact (Only.refl _ _)
  · split
    · extract_lets +onlyGivenNames x3
      refine Only.keep x3 ?_ ?_
      · unfold x3
        refine Only.step (State.modVeh_only ..) rfl ?_
        refine Only.step (State.linkTo_only ..) rfl ?_
        exact (Only.refl _ _)
      intro h1
      clear_value x3
      refine Only.step (State.refreshPwm_only ..) rfl ?_
      refine Only.step (State.vpRaise_only ..) rfl ?_
      refine Only.step (State.emit_only ..) rfl ?_
      refine Only.step (State.modSes_only ..) rfl ?_
      exact h1
    · refine Only.step (State.linkTo_only ..) rfl ?_
      refine Only.step (State.vpRaise_only ..) rfl ?_
      refine Only.step (State.emit_only ..) rfl ?_
      exact (Only.refl _ _)

theorem execSwitchTariff_only (a0 : _) (a1 : _) :
    OnlyRes [.host, .sent, .bil] a1 (execSwitchTariff a0 a1) := by
  unfold execSwitchTariff
  refine OnlyRes.next ?_
  refine State.unlessVoid_only rfl (fun u1 h1 => ?_) ?_
  · extract_lets +onlyGivenNames x1
    refine Only.ite ?_ ?_
    · refine Only.step (State.answer_only ..) rfl ?_
      exact h1
    · extract_lets +onlyGivenNames x2
      refine Only.keep x2 ?_ ?_
      · unfold x2
        split
        · refine Only.step (State.bilRaise_only ..) rfl ?_
          refine Only.step (State.final_only ..) rfl ?_
          exact h1
        · exact h1
      intro h2
      clear_value x2
      refine Only.step (State.accept_only ..) rfl ?_
      refine Only.step (State.modBil_only ..) rfl ?_
      exact h2
  · exact (Only.refl _ _)

theorem execSync_only (a0 : _) (a1 : _) (a2 : _) (a3 : _) :
    OnlyRes [.time, .msh, .host, .free, .sent, .chn] a3 (execSync a0 a1 a2 a3) := by
  unfold execSync
  refine OnlyRes.next ?_
  refine State.chainRx_only rfl (fun u1 h1 => ?_) ?_
  · refine Only.step (State.eatSync_only ..) rfl ?_
    exact h1
  · exact (Only.refl _ _)

theorem execSyncSend_only (a0 : _) :
    OnlyRes [.msh, .sent, .chn] a0 (execSyncSend a0) := by
  unfold execSyncSend
  refine OnlyRes.next ?_
  refine Only.ite ?_ ?_
  · refine Only.step (State.originate_only ..) rfl ?_
    exact (Only.refl _ _)
  · exact (Only.refl _ _)

theorem execSysGuestHbWrite_only (a0 : _) (a1 : _) (a2 : _) :
    OnlyRes [.sys, .msh, .host, .sent, .chn] a2 (execSysGuestHbWrite a0 a1 a2) := by
  unfold execSysGuestHbWrite
  refine OnlyRes.next ?_
  refine State.hostWrite_only rfl (fun u1 h1 => ?_) ?_
  · refine Only.step (State.modGuest_only ..) rfl ?_
    exact h1
  · exact (Only.refl _ _)

theorem execSysViolClr_only (a0 : _) (a1 : _) :
    OnlyRes [.sys, .msh, .host, .sent, .chn] a1 (execSysViolClr a0 a1) := by
  unfold execSysViolClr
  refine OnlyRes.next ?_
  refine State.hostWrite_only rfl (fun u1 h1 => ?_) ?_
  · refine Only.step (State.modGuest_only ..) rfl ?_
    exact h1
  · exact (Only.refl _ _)

theorem execT1sFirstFrame_only (a0 : _) (a1 : _) (a2 : _) (a3 : _) :
    OnlyRes [.cave, .host, .veh, .sent] a3 (execT1sFirstFrame a0 a1 a2 a3) := by
  unfold execT1sFirstFrame
  refine OnlyRes.next ?_
  refine Only.ite ?_ ?_
  · refine Only.step (State.vpRaise_only ..) rfl ?_
    refine Only.step (State.modVeh_only ..) rfl ?_
    refine Only.step (State.linkTo_only ..) rfl ?_
    exact (Only.refl _ _)
  · exact (Only.refl _ _)

theorem execTable_only (a0 : _) (a1 : _) (a2 : _) :
    OnlyRes [.jnl, .msh, .host, .free, .sent, .chn] a2 (execTable a0 a1 a2) := by
  unfold execTable
  refine OnlyRes.next ?_
  refine State.chainRx_only rfl (fun u1 h1 => ?_) ?_
  · refine Only.ite ?_ ?_
    · exact h1
    · refine Only.step (State.eatTable_only ..) rfl ?_
      exact h1
  · exact (Only.refl _ _)

theorem execTableBroadcast_only (a0 : _) :
    OnlyRes [.jnl, .msh, .lease, .sent, .chn] a0 (execTableBroadcast a0) := by
  unfold execTableBroadcast
  refine OnlyRes.next ?_
  refine Only.ite ?_ ?_
  · extract_lets +onlyGivenNames x1
    refine Only.keep x1 ?_ ?_
    · unfold x1
      refine Only.step (State.keepTable_only ..) rfl ?_
      refine Only.step (State.dropRemoved_only ..) rfl ?_
      exact (Only.refl _ _)
    intro h1
    clear_value x1
    extract_lets +onlyGivenNames x2
    refine Only.keep x2 ?_ ?_
    · unfold x2
      refine Only.step (State.sendTable_only ..) rfl ?_
      exact h1
    intro h2
    clear_value x2
    refine Only.ite ?_ ?_
    · extract_lets +onlyGivenNames x3
      refine Only.keep x3 ?_ ?_
      · unfold x3
        refine Only.step (State.modChn_only ..) rfl ?_
        exact h2
      intro h3
      clear_value x3
      split
      · refine Only.step (State.sendWalk_only ..) rfl ?_
        exact h3
      · exact h3
    · exact h2
  · exact (Only.refl _ _)

theorem execTableDigestCheck_only (a0 : _) (a1 : _) :
    OnlyRes [.ses, .sp, .cave, .host, .sent, .saf, .brk] a1 (execTableDigestCheck a0 a1) := by
  unfold execTableDigestCheck
  refine OnlyRes.next ?_
  refine Only.ite ?_ ?_
  · refine Only.step (State.diagGone_only ..) rfl ?_
    exact (Only.refl _ _)
  · refine Only.step (State.diagFault_only ..) rfl ?_
    exact (Only.refl _ _)

theorem execTagFieldLost_only (a0 : _) :
    OnlyRes [.nfc] a0 (execTagFieldLost a0) := by
  unfold execTagFieldLost
  refine OnlyRes.next ?_
  refine Only.step (State.modTag_only ..) rfl ?_
  refine Only.step (State.modNfc_only ..) rfl ?_
  exact (Only.refl _ _)

theorem execTagFieldOn_only (a0 : _) :
    OnlyRes [.sys, .nfc, .msh, .host, .free, .sent, .chn] a0 (execTagFieldOn a0) := by
  unfold execTagFieldOn
  extract_lets +onlyGivenNames x1
  refine OnlyRes.keep x1 ?_ ?_
  · unfold x1
    refine Only.step (State.modNfc_only ..) rfl ?_
    exact (Only.refl _ _)
  intro h1
  clear_value x1
  refine OnlyRes.next ?_
  refine Only.ite ?_ ?_
  · exact h1
  · refine Only.step (State.wakeEvent_only ..) rfl ?_
    refine Only.step (State.tagPower_only ..) rfl ?_
    exact h1

theorem execTagPageRewrite_only (a0 : _) :
    OnlyRes [.nfc] a0 (execTagPageRewrite a0) := by
  unfold execTagPageRewrite
  refine OnlyRes.next ?_
  refine Only.ite ?_ ?_
  · exact (Only.refl _ _)
  · extract_lets +onlyGivenNames x1
    extract_lets +onlyGivenNames x2
    refine Only.step (State.modTag_only ..) rfl ?_
    exact (Only.refl _ _)

theorem execTamperEvent_only (a0 : _) (a1 : _) :
    OnlyRes [.jnl, .nfc, .met, .host, .veh, .pq, .keys, .legal, .sent, .bil, .nrg, .rind] a1 (execTamperEvent a0 a1) := by
  unfold execTamperEvent
  refine OnlyRes.next ?_
  refine Only.step (State.tamperEvent_only ..) rfl ?_
  exact (Only.refl _ _)

theorem execTamperPersistence_only (a0 : _) (a1 : _) (a2 : _) :
    OnlyRes [.jnl, .met, .host, .pq, .sent, .bil, .nrg] a2 (execTamperPersistence a0 a1 a2) := by
  unfold execTamperPersistence
  extract_lets +onlyGivenNames x1
  extract_lets +onlyGivenNames x2
  refine OnlyRes.next ?_
  refine Only.ite ?_ ?_
  · exact (Only.refl _ _)
  · refine Only.ite ?_ ?_
    · refine Only.step (State.holdStop_only ..) rfl ?_
      refine Only.step (State.tamperRecord_only ..) rfl ?_
      refine Only.step (State.modPq_only ..) rfl ?_
      exact (Only.refl _ _)
    · refine Only.ite ?_ ?_
      · extract_lets +onlyGivenNames x3
        refine Only.step (State.holdStop_only ..) rfl ?_
        refine Only.step (State.tamperRecord_only ..) rfl ?_
        refine Only.step (State.modPq_only ..) rfl ?_
        exact (Only.refl _ _)
      · exact (Only.refl _ _)

theorem execTamperSensorSample_only (a0 : _) (a1 : _) (a2 : _) (a3 : _) (a4 : _) :
    OnlyRes [.jnl, .nfc, .met, .host, .veh, .pq, .keys, .legal, .sent, .bil, .nrg, .rind] a4 (execTamperSensorSample a0 a1 a2 a3 a4) := by
  unfold execTamperSensorSample
  refine OnlyRes.next ?_
  refine Only.ite ?_ ?_
  · exact (Only.refl _ _)
  · refine Only.step (State.tamperSample_only ..) rfl ?_
    refine Only.step (State.tamperSample_only ..) rfl ?_
    refine Only.step (State.tamperSample_only ..) rfl ?_
    refine Only.step (State.modRind_only ..) rfl ?_
    exact (Only.refl _ _)

theorem execTcpClosed_only (a0 : _) (a1 : _) :
    OnlyRes [.ses, .cave, .host, .veh, .sent] a1 (execTcpClosed a0 a1) := by
  unfold execTcpClosed
  refine OnlyRes.next ?_
  refine Only.step (State.protocolLost_only ..) rfl ?_
  exact (Only.refl _ _)

theorem execTimeUnsync_only (a0 : _) :
    OnlyRes [.chn] a0 (execTimeUnsync a0) := by
  unfold execTimeUnsync
  refine OnlyRes.next ?_
  refine Only.ite ?_ ?_
  · refine Only.step (State.chnRaise_only ..) rfl ?_
    refine Only.step (State.modChn_only ..) rfl ?_
    exact (Only.refl _ _)
  · exact (Only.refl _ _)

theorem execTmap_only (a0 : _) (a1 : _) (a2 : _) (a3 : _) (a4 : _) :
    OnlyRes [.msh, .sent] a4 (execTmap a0 a1 a2 a3 a4) := by
  unfold execTmap
  refine OnlyRes.next ?_
  refine State.meshRx_only rfl (fun u1 h1 => ?_) ?_
  · refine Only.step (State.eatTmap_only ..) rfl ?_
    exact h1
  · exact (Only.refl _ _)

theorem execTmapSend_only (a0 : _) (a1 : _) (a2 : _) :
    OnlyRes [.msh] a2 (execTmapSend a0 a1 a2) := by
  unfold execTmapSend
  refine OnlyRes.next ?_
  split
  · refine Only.ite ?_ ?_
    · exact (Only.refl _ _)
    · extract_lets +onlyGivenNames x1
      extract_lets +onlyGivenNames x2
      refine Only.keep x2 ?_ ?_
      · unfold x2
        refine Only.step (State.modNbr_only ..) rfl ?_
        exact (Only.refl _ _)
      intro h1
      clear_value x2
      refine Only.foldl (fun u1 a1x h2 => ?_) ?_
      · refine Only.step (State.meshSend_only ..) rfl ?_
        exact h2
      · exact h1
  · exact (Only.refl _ _)

theorem execTopology_only (a0 : _) (a1 : _) (a2 : _) (a3 : _) :
    OnlyRes [.msh, .host, .free, .sent, .chn] a3 (execTopology a0 a1 a2 a3) := by
  unfold execTopology
  refine OnlyRes.next ?_
  refine State.chainRx_only rfl (fun u1 h1 => ?_) ?_
  · refine Only.step (State.eatTopology_only ..) rfl ?_
    exact h1
  · exact (Only.refl _ _)

theorem execTransceiveApdu_only (a0 : _) (a1 : _) (a2 : _) :
    OnlyRes [.host, .sent] a2 (execTransceiveApdu a0 a1 a2) := by
  unfold execTransceiveApdu
  extract_lets +onlyGivenNames x1
  extract_lets +onlyGivenNames x2
  refine OnlyRes.next ?_
  refine Only.ite ?_ ?_
  · refine Only.step (State.answer_only ..) rfl ?_
    exact (Only.refl _ _)
  · refine Only.ite ?_ ?_
    · refine Only.step (State.answer_only ..) rfl ?_
      exact (Only.refl _ _)
    · refine Only.ite ?_ ?_
      · refine Only.step (State.endRing_only ..) rfl ?_
        exact (Only.refl _ _)
      · extract_lets +onlyGivenNames x3
        refine Only.keep x3 ?_ ?_
        · unfold x3
          refine Only.step (State.emit_only ..) rfl ?_
          exact (Only.refl _ _)
        intro h1
        clear_value x3
        split
        · refine Only.step (State.answerRing_only ..) rfl ?_
          exact h1
        · refine Only.step (State.endRing_only ..) rfl ?_
          exact h1
        · refine Only.step (State.endRing_only ..) rfl ?_
          exact h1

theorem execTref10mEdge_only (a0 : _) (a1 : _) (a2 : _) :
    OnlyRes [.sys, .host, .sent] a2 (execTref10mEdge a0 a1 a2) := by
  unfold execTref10mEdge
  extract_lets +onlyGivenNames x1
  refine OnlyRes.next ?_
  refine Only.ite ?_ ?_
  · exact (Only.refl _ _)
  · refine Only.ite ?_ ?_
    · refine Only.step (State.setTref_only ..) rfl ?_
      exact (Only.refl _ _)
    · refine Only.ite ?_ ?_
      · refine Only.step (State.setTref_only ..) rfl ?_
        exact (Only.refl _ _)
      · refine Only.ite ?_ ?_
        · refine Only.step (State.setTref_only ..) rfl ?_
          exact (Only.refl _ _)
        · refine Only.ite ?_ ?_
          · refine Only.step (State.setTref_only ..) rfl ?_
            exact (Only.refl _ _)
          · refine Only.step (State.setTref_only ..) rfl ?_
            exact (Only.refl _ _)

theorem execTref10mLoss_only (a0 : _) :
    OnlyRes [.sys, .host, .sent] a0 (execTref10mLoss a0) := by
  unfold execTref10mLoss
  refine OnlyRes.next ?_
  refine Only.ite ?_ ?_
  · refine Only.step (State.setTref_only ..) rfl ?_
    exact (Only.refl _ _)
  · exact (Only.refl _ _)

theorem execTrefPpsEdge_only (a0 : _) (a1 : _) (a2 : _) :
    OnlyRes [.sys, .host, .sent] a2 (execTrefPpsEdge a0 a1 a2) := by
  unfold execTrefPpsEdge
  extract_lets +onlyGivenNames x1
  refine OnlyRes.next ?_
  refine Only.ite ?_ ?_
  · exact (Only.refl _ _)
  · refine Only.ite ?_ ?_
    · refine Only.step (State.setTref_only ..) rfl ?_
      exact (Only.refl _ _)
    · refine Only.ite ?_ ?_
      · refine Only.step (State.setTref_only ..) rfl ?_
        exact (Only.refl _ _)
      · refine Only.step (State.setTref_only ..) rfl ?_
        exact (Only.refl _ _)

theorem execTrefPpsTimeout_only (a0 : _) :
    OnlyRes [.sys, .host, .sent] a0 (execTrefPpsTimeout a0) := by
  unfold execTrefPpsTimeout
  refine OnlyRes.next ?_
  refine Only.ite ?_ ?_
  · refine Only.step (State.setTref_only ..) rfl ?_
    exact (Only.refl _ _)
  · exact (Only.refl _ _)

theorem execTrialPassed_only (a0 : _) :
    OnlyRes [.fw] a0 (execTrialPassed a0) := by
  unfold execTrialPassed
  refine OnlyRes.next ?_
  refine Only.ite ?_ ?_
  · exact (Only.refl _ _)
  · refine Only.step (State.passTrial_only ..) rfl ?_
    exact (Only.refl _ _)

theorem execTrip_only (a0 : _) (a1 : _) (a2 : _) (a3 : _) :
    OnlyRes [.ses, .jnl, .sp, .sys, .pm, .cave, .nfc, .met, .msh, .host, .sl, .veh, .legal, .free, .lease, .conf, .sent, .pwr, .bil, .nrg, .saf, .chn, .ls, .lk, .brk] a3 (execTrip a0 a1 a2 a3) := by
  unfold execTrip
  extract_lets +onlyGivenNames x1
  extract_lets +onlyGivenNames x2
  refine OnlyRes.keep x2 ?_ ?_
  · unfold x2
    refine Only.ite ?_ ?_
    · refine Only.step (State.halt_only ..) rfl ?_
      exact (Only.refl _ _)
    · exact (Only.refl _ _)
  intro h1
  clear_value x2
  extract_lets +onlyGivenNames x3
  refine OnlyRes.keep x3 ?_ ?_
  · unfold x3
    refine Only.step (State.endSession_only ..) rfl ?_
    exact h1
  intro h2
  clear_value x3
  refine OnlyRes.next ?_
  refine Only.step (State.availPoll_only ..) rfl ?_
  refine Only.ite ?_ ?_
  · refine Only.step (State.sendAdvice_only ..) rfl ?_
    exact h2
  · exact h2

theorem execTripAdvice_only (a0 : _) (a1 : _) (a2 : _) (a3 : _) (a4 : _) (a5 : _) (a6 : _) :
    OnlyRes [.msh, .host, .free, .sent, .chn] a6 (execTripAdvice a0 a1 a2 a3 a4 a5 a6) := by
  unfold execTripAdvice
  refine OnlyRes.next ?_
  refine State.chainRx_only rfl (fun u1 h1 => ?_) ?_
  · refine Only.step (State.eatAdvice_only ..) rfl ?_
    exact h1
  · exact (Only.refl _ _)

theorem execTxnTimeout_only (a0 : _) (a1 : _) :
    OnlyRes [.conf] a1 (execTxnTimeout a0 a1) := by
  unfold execTxnTimeout
  refine OnlyRes.next ?_
  refine Only.step (State.setOpen_only ..) rfl ?_
  exact (Only.refl _ _)

theorem execUpdEventRead_only (a0 : _) (a1 : _) (a2 : _) :
    OnlyRes [.sys, .msh, .host, .fw, .sent, .chn] a2 (execUpdEventRead a0 a1 a2) := by
  unfold execUpdEventRead
  refine OnlyRes.next ?_
  refine State.readEvent_only rfl (fun u1 h1 => ?_) ?_
  · refine Only.step (State.modFw_only ..) rfl ?_
    exact h1
  · exact (Only.refl _ _)

theorem execUpdateRegion_only (a0 : _) (a1 : _) :
    OnlyRes [.dsp, .host, .sent] a1 (execUpdateRegion a0 a1) := by
  unfold execUpdateRegion
  extract_lets +onlyGivenNames x1
  extract_lets +onlyGivenNames x2
  extract_lets +onlyGivenNames x3
  extract_lets +onlyGivenNames x4
  extract_lets +onlyGivenNames x5
  extract_lets +onlyGivenNames x6
  refine OnlyRes.next ?_
  refine Only.ite ?_ ?_
  · refine Only.step (State.answer_only ..) rfl ?_
    exact (Only.refl _ _)
  · refine Only.ite ?_ ?_
    · refine Only.step (State.answer_only ..) rfl ?_
      exact (Only.refl _ _)
    · refine Only.ite ?_ ?_
      · refine Only.step (State.endRing_only ..) rfl ?_
        exact (Only.refl _ _)
      · extract_lets +onlyGivenNames x7
        refine Only.keep x7 ?_ ?_
        · unfold x7
          refine Only.step (State.modDsp_only ..) rfl ?_
          refine Only.step (State.useRing_only ..) rfl ?_
          exact (Only.refl _ _)
        intro h1
        clear_value x7
        refine Only.step (State.answer_only ..) rfl ?_
        refine Only.ite ?_ ?_
        · refine Only.step (State.dspRaise_only ..) rfl ?_
          exact h1
        · exact h1

theorem execUpstreamFrame_only (a0 : _) (a1 : _) (a2 : _) (a3 : _) (a4 : _) :
    OnlyRes [.jnl, .sp, .met, .host, .sl, .pq, .legal, .sent] a4 (execUpstreamFrame a0 a1 a2 a3 a4) := by
  unfold execUpstreamFrame
  extract_lets +onlyGivenNames x1
  refine OnlyRes.next ?_
  refine Only.ite ?_ ?_
  · exact (Only.refl _ _)
  · split
    · refine Only.step (State.pollDone_only ..) rfl ?_
      refine Only.step (State.toSafety_only ..) rfl ?_
      refine Only.step (State.modSl_only ..) rfl ?_
      exact (Only.refl _ _)
    · refine Only.ite ?_ ?_
      · refine Only.step (State.modSl_only ..) rfl ?_
        exact (Only.refl _ _)
      · exact (Only.refl _ _)

theorem execUpstreamFrameLate_only (a0 : _) (a1 : _) :
    OnlyRes [.sl] a1 (execUpstreamFrameLate a0 a1) := by
  unfold execUpstreamFrameLate
  extract_lets +onlyGivenNames x1
  refine OnlyRes.next ?_
  refine Only.ite ?_ ?_
  · refine Only.step (State.modSl_only ..) rfl ?_
    exact (Only.refl _ _)
  · exact (Only.refl _ _)

theorem execVaultFixedTime_only (a0 : _) (a1 : _) :
    OnlyRes [.host, .keys, .sent] a1 (execVaultFixedTime a0 a1) := by
  unfold execVaultFixedTime
  refine OnlyRes.next ?_
  split
  · exact (Only.refl _ _)
  · extract_lets +onlyGivenNames x1
    refine Only.keep x1 ?_ ?_
    · unfold x1
      refine Only.step (State.modKeys_only ..) rfl ?_
      exact (Only.refl _ _)
    intro h1
    clear_value x1
    refine Only.ite ?_ ?_
    · extract_lets +onlyGivenNames x2
      extract_lets +onlyGivenNames x3
      refine Only.step (State.auditCmd_only ..) rfl ?_
      refine Only.step (State.answerRing_only ..) rfl ?_
      exact h1
    · refine Only.step (State.auditCmd_only ..) rfl ?_
      refine Only.step (State.answer_only ..) rfl ?_
      exact h1

theorem execVauxLow_only (a0 : _) :
    OnlyRes [.ls, .lk] a0 (execVauxLow a0) := by
  unfold execVauxLow
  refine OnlyRes.next ?_
  refine Only.each (fun a1x u1 h1 => ?_) ?_
  · refine Only.step (State.endDrive_only ..) rfl ?_
    exact h1
  · refine Only.step (State.modLs_only ..) rfl ?_
    exact (Only.refl _ _)

theorem execVauxOvervoltage_only (a0 : _) :
    OnlyRes [.ses, .sp, .cave, .host, .sent, .saf, .ls, .lk, .brk] a0 (execVauxOvervoltage a0) := by
  unfold execVauxOvervoltage
  refine OnlyRes.next ?_
  refine Only.step (State.underVoltage_only ..) rfl ?_
  exact (Only.refl _ _)

theorem execVauxOvervoltageEnd_only (a0 : _) :
    OnlyRes [.ls] a0 (execVauxOvervoltageEnd a0) := by
  unfold execVauxOvervoltageEnd
  refine OnlyRes.next ?_
  refine Only.ite ?_ ?_
  · refine Only.step (State.restoreGroup_only ..) rfl ?_
    refine Only.step (State.modLs_only ..) rfl ?_
    exact (Only.refl _ _)
  · exact (Only.refl _ _)

theorem execVauxRecovered_only (a0 : _) :
    OnlyRes [.ls] a0 (execVauxRecovered a0) := by
  unfold execVauxRecovered
  extract_lets +onlyGivenNames x1
  refine OnlyRes.keep x1 ?_ ?_
  · unfold x1
    refine Only.step (State.modLs_only ..) rfl ?_
    exact (Only.refl _ _)
  intro h1
  clear_value x1
  refine OnlyRes.next ?_
  refine Only.ite ?_ ?_
  · refine Only.step (State.restoreGroup_only ..) rfl ?_
    exact h1
  · exact h1

theorem execVauxUv_only (a0 : _) :
    OnlyRes [.ses, .sp, .cave, .host, .sent, .saf, .ls, .lk, .brk] a0 (execVauxUv a0) := by
  unfold execVauxUv
  refine OnlyRes.next ?_
  refine Only.step (State.underVoltage_only ..) rfl ?_
  exact (Only.refl _ _)

theorem execVbatLow_only (a0 : _) :
    OnlyRes [.keys, .rind] a0 (execVbatLow a0) := by
  unfold execVbatLow
  refine OnlyRes.next ?_
  refine Only.step (State.keyRaise_only ..) rfl ?_
  refine Only.step (State.modRind_only ..) rfl ?_
  exact (Only.refl _ _)

theorem execVbatRestored_only (a0 : _) :
    OnlyRes [.rind] a0 (execVbatRestored a0) := by
  unfold execVbatRestored
  refine OnlyRes.next ?_
  refine Only.step (State.modRind_only ..) rfl ?_
  exact (Only.refl _ _)

theorem execVehiclePause_only (a0 : _) (a1 : _) :
    OnlyRes [.ses, .host, .veh, .sent, .pwr] a1 (execVehiclePause a0 a1) := by
  unfold execVehiclePause
  refine OnlyRes.next ?_
  refine Only.ite ?_ ?_
  · refine Only.step (State.pauseSes_only ..) rfl ?_
    exact (Only.refl _ _)
  · exact (Only.refl _ _)

theorem execVehicleResume_only (a0 : _) (a1 : _) :
    OnlyRes [.ses, .sys, .pm, .cave, .host, .veh, .sent, .pwr] a1 (execVehicleResume a0 a1) := by
  unfold execVehicleResume
  refine OnlyRes.next ?_
  refine Only.ite ?_ ?_
  · refine Only.step (State.resumeSes_only ..) rfl ?_
    exact (Only.refl _ _)
  · exact (Only.refl _ _)

theorem execVehicleStop_only (a0 : _) (a1 : _) :
    OnlyRes [.ses, .jnl, .sp, .sys, .pm, .cave, .nfc, .met, .msh, .host, .sl, .veh, .legal, .free, .lease, .conf, .sent, .pwr, .bil, .nrg, .saf, .chn, .ls, .lk, .brk] a1 (execVehicleStop a0 a1) := by
  unfold execVehicleStop
  extract_lets +onlyGivenNames x1
  refine OnlyRes.next ?_
  refine Only.ite ?_ ?_
  · refine Only.step (State.endSession_only ..) rfl ?_
    exact (Only.refl _ _)
  · exact (Only.refl _ _)

theorem execVehicleTarget_only (a0 : _) (a1 : _) (a2 : _) :
    OnlyRes [.ses, .sys, .pm, .host, .veh, .sent, .pwr] a2 (execVehicleTarget a0 a1 a2) := by
  unfold execVehicleTarget
  refine OnlyRes.ite ?_ ?_
  · refine OnlyRes.next ?_
    exact (Only.refl _ _)
  · extract_lets +onlyGivenNames x1
    refine OnlyRes.keep x1 ?_ ?_
    · unfold x1
      refine Only.step (State.modVeh_only ..) rfl ?_
      exact (Only.refl _ _)
    intro h1
    clear_value x1
    extract_lets +onlyGivenNames x2
    refine OnlyRes.keep x2 ?_ ?_
    · unfold x2
      refine Only.step (State.leaveWindow_only ..) rfl ?_
      refine Only.step (State.modPwr_only ..) rfl ?_
      exact h1
    intro h2
    clear_value x2
    refine OnlyRes.next ?_
    refine Only.step (State.meterInfo_only ..) rfl ?_
    refine Only.step (State.advance_only ..) rfl ?_
    refine Only.step (State.wantChanged_only ..) rfl ?_
    refine Only.step (State.refreshPwm_only ..) rfl ?_
    refine Only.ite ?_ ?_
    · refine Only.step (State.retarget_only ..) rfl ?_
      exact h2
    · exact h2

theorem execVerify_only (a0 : _) (a1 : _) :
    OnlyRes [.nfc, .sent] a1 (execVerify a0 a1) := by
  unfold execVerify
  extract_lets +onlyGivenNames x1
  refine OnlyRes.next ?_
  refine State.selected_only rfl (fun u1 h1 => ?_) ?_
  · split
    · refine Only.step (State.tagSays_only ..) rfl ?_
      exact h1
    · refine Only.ite ?_ ?_
      · refine Only.step (State.tagSays_only ..) rfl ?_
        exact h1
      · refine Only.ite ?_ ?_
        · refine Only.step (State.nfcRaise_only ..) rfl ?_
          refine Only.step (State.tagSays_only ..) rfl ?_
          refine Only.step (State.modTag_only ..) rfl ?_
          exact h1
        · extract_lets +onlyGivenNames x2
          extract_lets +onlyGivenNames x3
          refine Only.keep x3 ?_ ?_
          · unfold x3
            refine Only.step (State.tagSays_only ..) rfl ?_
            refine Only.step (State.modTag_only ..) rfl ?_
            exact h1
          intro h2
          clear_value x3
          refine Only.ite ?_ ?_
          · refine Only.step (State.nfcRaise_only ..) rfl ?_
            exact h2
          · exact h2
  · exact (Only.refl _ _)

theorem execVerifySignature_only (a0 : _) (a1 : _) :
    OnlyRes [.host, .keys, .sent] a1 (execVerifySignature a0 a1) := by
  unfold execVerifySignature
  extract_lets +onlyGivenNames x1
  extract_lets +onlyGivenNames x2
  extract_lets +onlyGivenNames x3
  refine OnlyRes.next ?_
  split
  · refine Only.step (State.vaultRefuse_only ..) rfl ?_
    exact (Only.refl _ _)
  · refine Only.ite ?_ ?_
    · refine Only.step (State.vault_only ..) rfl ?_
      refine Only.step (State.useRing_only ..) rfl ?_
      exact (Only.refl _ _)
    · refine Only.step (State.vaultDone_only ..) rfl ?_
      refine Only.step (State.useRing_only ..) rfl ?_
      exact (Only.refl _ _)

theorem execVerifySuspendTimeout_only (a0 : _) (a1 : _) (a2 : _) :
    OnlyRes [.jnl, .met, .host, .sl, .pq, .legal, .sent, .nrg] a2 (execVerifySuspendTimeout a0 a1 a2) := by
  unfold execVerifySuspendTimeout
  refine OnlyRes.next ?_
  refine Only.ite ?_ ?_
  · refine Only.step (State.headsFrom_only ..) rfl ?_
    refine Only.step (State.latchFail_only ..) rfl ?_
    exact (Only.refl _ _)
  · exact (Only.refl _ _)

theorem execVfEnableClear_only (a0 : _) :
    OnlyRes [.sys, .msh, .host, .sent, .chn] a0 (execVfEnableClear a0) := by
  unfold execVfEnableClear
  refine OnlyRes.next ?_
  refine State.cfgRequest_only rfl (fun u1 h1 => ?_) ?_
  · refine Only.each (fun a1x u2 h2 => ?_) ?_
    · refine Only.step (State.trigger_only ..) rfl ?_
      exact h2
    · refine Only.step (State.modHost_only ..) rfl ?_
      exact h1
  · exact (Only.refl _ _)

theorem execVfEnableSet_only (a0 : _) :
    OnlyRes [.sys, .msh, .host, .sent, .chn] a0 (execVfEnableSet a0) := by
  unfold execVfEnableSet
  refine OnlyRes.next ?_
  refine State.cfgRequest_only rfl (fun u1 h1 => ?_) ?_
  · refine Only.step (State.modHost_only ..) rfl ?_
    exact h1
  · exact (Only.refl _ _)

theorem execVpEventRead_only (a0 : _) (a1 : _) (a2 : _) (a3 : _) :
    OnlyRes [.sys, .msh, .host, .veh, .sent, .chn] a3 (execVpEventRead a0 a1 a2 a3) := by
  unfold execVpEventRead
  refine OnlyRes.next ?_
  refine State.readEvent_only rfl (fun u1 h1 => ?_) ?_
  · refine Only.step (State.modVeh_only ..) rfl ?_
    exact h1
  · exact (Only.refl _ _)

theorem execWake_only (a0 : _) (a1 : _) (a2 : _) :
    OnlyRes [.sys, .msh, .host, .free, .sent, .chn] a2 (execWake a0 a1 a2) := by
  unfold execWake
  refine OnlyRes.next ?_
  refine State.chainRx_only rfl (fun u1 h1 => ?_) ?_
  · refine Only.step (State.eatWake_only ..) rfl ?_
    exact h1
  · exact (Only.refl _ _)

theorem execWalk_only (a0 : _) (a1 : _) (a2 : _) :
    OnlyRes [.msh, .host, .free, .sent, .chn] a2 (execWalk a0 a1 a2) := by
  unfold execWalk
  refine OnlyRes.next ?_
  refine State.chainRx_only rfl (fun u1 h1 => ?_) ?_
  · refine Only.step (State.eatWalk_only ..) rfl ?_
    exact h1
  · exact (Only.refl _ _)

theorem execWatchdogQuestion_only (a0 : _) :
    OnlyRes [.saf] a0 (execWatchdogQuestion a0) := by
  unfold execWatchdogQuestion
  refine OnlyRes.next ?_
  refine Only.step (State.modSaf_only ..) rfl ?_
  exact (Only.refl _ _)

theorem execWatchdogWindowExpiry_only (a0 : _) :
    OnlyRes [.ses, .sp, .cave, .host, .sent, .saf, .lk, .brk] a0 (execWatchdogWindowExpiry a0) := by
  unfold execWatchdogWindowExpiry
  refine OnlyRes.next ?_
  refine Only.ite ?_ ?_
  · refine Only.step (State.execFault_only ..) rfl ?_
    refine Only.step (State.modSaf_only ..) rfl ?_
    exact (Only.refl _ _)
  · exact (Only.refl _ _)

theorem execWeldTestTimer_only (a0 : _) (a1 : _) :
    OnlyRes [.ses, .sp, .cave, .host, .sent, .saf, .brk] a1 (execWeldTestTimer a0 a1) := by
  unfold execWeldTestTimer
  refine OnlyRes.next ?_
  split
  · exact (Only.refl _ _)
  · refine Only.ite ?_ ?_
    · exact (Only.refl _ _)
    · extract_lets +onlyGivenNames x1
      extract_lets +onlyGivenNames x2
      extract_lets +onlyGivenNames x3
      extract_lets +onlyGivenNames x4
      extract_lets +onlyGivenNames x5
      split
      · refine Only.ite ?_ ?_
        · refine Only.step (State.failWeld_only ..) rfl ?_
          exact (Only.refl _ _)
        · refine Only.ite ?_ ?_
          · refine Only.step (State.failWeld_only ..) rfl ?_
            exact (Only.refl _ _)
          · refine Only.ite ?_ ?_
            · refine Only.step (State.failWeld_only ..) rfl ?_
              exact (Only.refl _ _)
            · refine Only.step (State.modSp_only ..) rfl ?_
              exact (Only.refl _ _)
      · refine Only.ite ?_ ?_
        · refine Only.step (State.failWeld_only ..) rfl ?_
          exact (Only.refl _ _)
        · refine Only.ite ?_ ?_
          · refine Only.step (State.failWeld_only ..) rfl ?_
            exact (Only.refl _ _)
          · refine Only.ite ?_ ?_
            · refine Only.step (State.failWeld_only ..) rfl ?_
              exact (Only.refl _ _)
            · refine Only.step (State.modSp_only ..) rfl ?_
              exact (Only.refl _ _)
      · refine Only.ite ?_ ?_
        · refine Only.step (State.failWeld_only ..) rfl ?_
          exact (Only.refl _ _)
        · refine Only.ite ?_ ?_
          · refine Only.step (State.failWeld_only ..) rfl ?_
            exact (Only.refl _ _)
          · refine Only.ite ?_ ?_
            · refine Only.step (State.modSp_only ..) rfl ?_
              exact (Only.refl _ _)
            · extract_lets +onlyGivenNames x6
              refine Only.keep x6 ?_ ?_
              · unfold x6
                refine Only.step (State.modSp_only ..) rfl ?_
                exact (Only.refl _ _)
              intro h1
              clear_value x6
              refine Only.step (State.runDeferred_only ..) rfl ?_
              refine Only.step (State.testEnded_only ..) rfl ?_
              refine Only.step (State.testNotice_only ..) rfl ?_
              exact h1

theorem execWindowDeadline_only (a0 : _) (a1 : _) :
    OnlyRes [.ses, .sp, .cave, .host, .sent, .saf, .brk] a1 (execWindowDeadline a0 a1) := by
  unfold execWindowDeadline
  refine OnlyRes.next ?_
  refine Only.ite ?_ ?_
  · refine Only.step (State.checkStop_only ..) rfl ?_
    refine Only.step (State.tripLog_only ..) rfl ?_
    refine Only.step (State.sevRaise_only ..) rfl ?_
    refine Only.step (State.modSaf_only ..) rfl ?_
    refine Only.step (State.modSp_only ..) rfl ?_
    refine Only.step (State.openPort_only ..) rfl ?_
    exact (Only.refl _ _)
  · exact (Only.refl _ _)

end Sys2Proof.Machine
end

