-- ==== Sys2Proof/Laws/Display.lean ====
section
/-! SUPPORT. The display's memories keep their canonical form: addresses strictly rising, no entry equal to 0. -/

namespace Sys2Proof.Machine

/-- The head of a canonical memory is not 0, lies below the next entry, and its tail is canonical. -/
theorem cellsWf_cons (c : Nat × Byte) (m : List (Nat × Byte)) :
    cellsWf (c :: m) = true ↔ c.2 ≠ 0 ∧ (∀ d ∈ m.head?, c.1 < d.1) ∧ cellsWf m = true := by
  cases m with
  | nil => simp [cellsWf]
  | cons d rest => simp [cellsWf, and_assoc]

/-- What heads a memory after a write lies above a bound that its old head and the address written lie above. -/
theorem cellPut_head (m : List (Nat × Byte)) (i : Nat) (v : Byte) (b : Nat) (hi : b < i) (wf : cellsWf m = true)
    (h : ∀ d ∈ m.head?, b < d.1) : ∀ d ∈ (cellPut m i v).head?, b < d.1 := by
  have one : ∀ d : Nat × Byte, d ∈ (some (i, v)) → b < d.1 := fun d hd => by cases hd; exact hi
  intro d hd
  cases m with
  | nil =>
    simp only [cellPut] at hd
    split at hd
    · cases hd
    · exact one d hd
  | cons c cs =>
    have hc : b < c.1 := h c (by simp)
    have hw := (cellsWf_cons c cs).1 wf
    simp only [cellPut] at hd
    split at hd
    · cases hd; exact hc
    · split at hd
      · split at hd
        · exact Nat.lt_trans hc (hw.2.1 d hd)
        · exact one d hd
      · split at hd
        · cases hd; exact hc
        · exact one d hd

/-- Writing one pixel keeps the canonical form. -/
theorem cellPut_wf (m : List (Nat × Byte)) (i : Nat) (v : Byte) (wf : cellsWf m = true) : cellsWf (cellPut m i v) = true := by
  induction m with
  | nil => simp only [cellPut]; split <;> simp_all [cellsWf]
  | cons c cs ih =>
    have hw := (cellsWf_cons c cs).1 wf
    simp only [cellPut]
    split
    · next hlt => exact (cellsWf_cons _ _).2 ⟨hw.1, cellPut_head cs i v c.1 hlt hw.2.2 hw.2.1, ih hw.2.2⟩
    · split
      · next heq =>
        split
        · exact hw.2.2
        · next hv => exact (cellsWf_cons _ _).2 ⟨hv, fun d hd => heq ▸ hw.2.1 d hd, hw.2.2⟩
      · next hge hne =>
        split
        · exact wf
        · next hv => exact (cellsWf_cons _ _).2 ⟨hv, fun d hd => by cases hd; show i < c.1; omega, wf⟩

/-- Writing many pixels keeps the canonical form. -/
theorem cellPuts_wf {α : Type} (f : α → Nat) (g : α → Byte) (xs : List α) (m : List (Nat × Byte)) (wf : cellsWf m = true) :
    cellsWf (xs.foldl (fun m x => cellPut m (f x) (g x)) m) = true := by
  induction xs generalizing m with
  | nil => exact wf
  | cons x xs ih => exact ih _ (cellPut_wf m _ _ wf)

/-- Reset's frame memory and overdrive are canonical. -/
theorem reset_cellsWf : cellsWf State.reset.dsp.frame = true ∧ cellsWf State.reset.dsp.boost = true := by decide

end Sys2Proof.Machine
end

