-- ==== Sys2Proof/Laws/Exec.lean ====
section
/-! SUPPORT. exec of each command is its meaning. -/

namespace Sys2Proof.Machine

variable (s : State)

@[simp] theorem exec_mbxGo (path : Path) (g : Guest) (n : Fin 8) : exec (.mbxGo path g n) s = execMbxGo path g n s := rfl
@[simp] theorem exec_messageFetch (g : Guest) (n : Fin 8) : exec (.messageFetch g n) s = execMessageFetch g n s := rfl
@[simp] theorem exec_commandStart (g : Guest) (q : Nat) : exec (.commandStart g q) s = execCommandStart g q s := rfl
@[simp] theorem exec_commandComplete (g : Guest) (q : Nat) : exec (.commandComplete g q) s = execCommandComplete g q s := rfl
@[simp] theorem exec_responseToMailbox (path : Path) (g : Guest) : exec (.responseToMailbox path g) s = execResponseToMailbox path g s := rfl
@[simp] theorem exec_mbxResponseRead (path : Path) (g : Guest) (n : Fin 8) : exec (.mbxResponseRead path g n) s = execMbxResponseRead path g n s := rfl
@[simp] theorem exec_mbxAbortClear (path : Path) (g : Guest) (n : Fin 8) : exec (.mbxAbortClear path g n) s = execMbxAbortClear path g n s := rfl
@[simp] theorem exec_finalNotice (g : Guest) : exec (.finalNotice g) s = execFinalNotice g s := rfl
@[simp] theorem exec_registerWrite (path : Path) (g : Guest) (off : Nat) (v : Word) : exec (.registerWrite path g off v) s = execRegisterWrite path g off v s := rfl
@[simp] theorem exec_pairLowRead (g : Guest) (off : Nat) : exec (.pairLowRead g off) s = execPairLowRead g off s := rfl
@[simp] theorem exec_glnLowWordRead (off : Nat) : exec (.glnLowWordRead off) s = execGlnLowWordRead off s := rfl
@[simp] theorem exec_accessViolation (path : Path) (g : Guest) (off : Nat) (write : Bool) (be : Nat) (shape : Bool) : exec (.accessViolation path g off write be shape) s = execAccessViolation path g off write be shape s := rfl
@[simp] theorem exec_poisonedTlp (g : Guest) : exec (.poisonedTlp g) s = execPoisonedTlp g s := rfl
@[simp] theorem exec_numvfsWrite (n : Fin 16) : exec (.numvfsWrite n) s = execNumvfsWrite n s := rfl
@[simp] theorem exec_vfEnableClear : exec (.vfEnableClear) s = execVfEnableClear s := rfl
@[simp] theorem exec_flr (g : Guest) : exec (.flr g) s = execFlr g s := rfl
@[simp] theorem exec_perstAssert : exec (.perstAssert) s = execPerstAssert s := rfl
@[simp] theorem exec_hostLinkDown : exec (.hostLinkDown) s = execHostLinkDown s := rfl
@[simp] theorem exec_hostLinkTrained : exec (.hostLinkTrained) s = execHostLinkTrained s := rfl
@[simp] theorem exec_sysGuestHbWrite (path : Path) (g : Guest) : exec (.sysGuestHbWrite path g) s = execSysGuestHbWrite path g s := rfl
@[simp] theorem exec_heartbeatExpiry (g : Guest) : exec (.heartbeatExpiry g) s = execHeartbeatExpiry g s := rfl
@[simp] theorem exec_guestReset (g : Guest) : exec (.guestReset g) s = execGuestReset g s := rfl
@[simp] theorem exec_irqStatusClear (path : Path) (g : Guest) (bits : Word) : exec (.irqStatusClear path g bits) s = execIrqStatusClear path g bits s := rfl
@[simp] theorem exec_irqArm (path : Path) (g : Guest) : exec (.irqArm path g) s = execIrqArm path g s := rfl
@[simp] theorem exec_msixVectorUnmask (g : Guest) (v : Fin 64) : exec (.msixVectorUnmask g v) s = execMsixVectorUnmask g v s := rfl
@[simp] theorem exec_sysViolClr (g : Guest) : exec (.sysViolClr g) s = execSysViolClr g s := rfl
@[simp] theorem exec_pfcSnap (g : Guest) : exec (.pfcSnap g) s = execPfcSnap g s := rfl
@[simp] theorem exec_pfcChipSnap (g : Guest) : exec (.pfcChipSnap g) s = execPfcChipSnap g s := rfl
@[simp] theorem exec_pfcFreeze (g : Guest) (on : Bool) : exec (.pfcFreeze g on) s = execPfcFreeze g on s := rfl
@[simp] theorem exec_pfcPreset (g : Guest) (c : Fin 32) (v : Word) : exec (.pfcPreset g c v) s = execPfcPreset g c v s := rfl
@[simp] theorem exec_pfcOvfClear (g : Guest) (bits : Word) : exec (.pfcOvfClear g bits) s = execPfcOvfClear g bits s := rfl
@[simp] theorem exec_queDbH2d (g : Guest) (bits : Word) : exec (.queDbH2d g bits) s = execQueDbH2d g bits s := rfl
@[simp] theorem exec_queDbD2hClear (g : Guest) (bits : Word) : exec (.queDbD2hClear g bits) s = execQueDbD2hClear g bits s := rfl
@[simp] theorem exec_txnTimeout (g : Guest) : exec (.txnTimeout g) s = execTxnTimeout g s := rfl
@[simp] theorem exec_vpEventRead (path : Path) (g : Guest) (p : Port) : exec (.vpEventRead path g p) s = execVpEventRead path g p s := rfl
@[simp] theorem exec_sesEventRead (path : Path) (g : Guest) (p : Port) : exec (.sesEventRead path g p) s = execSesEventRead path g p s := rfl
@[simp] theorem exec_pwrEventRead (path : Path) (g : Guest) (p : Port) : exec (.pwrEventRead path g p) s = execPwrEventRead path g p s := rfl
@[simp] theorem exec_metEventRead (path : Path) (g : Guest) (p : Port) : exec (.metEventRead path g p) s = execMetEventRead path g p s := rfl
@[simp] theorem exec_nrgEventRead (path : Path) (g : Guest) (p : Port) : exec (.nrgEventRead path g p) s = execNrgEventRead path g p s := rfl
@[simp] theorem exec_bilEventRead (path : Path) (g : Guest) (p : Port) : exec (.bilEventRead path g p) s = execBilEventRead path g p s := rfl
@[simp] theorem exec_bilUnitEventRead (path : Path) (g : Guest) : exec (.bilUnitEventRead path g) s = execBilUnitEventRead path g s := rfl
@[simp] theorem exec_pqEventRead (path : Path) (g : Guest) (p : Port) : exec (.pqEventRead path g p) s = execPqEventRead path g p s := rfl
@[simp] theorem exec_pqSiteEventRead (path : Path) (g : Guest) : exec (.pqSiteEventRead path g) s = execPqSiteEventRead path g s := rfl
@[simp] theorem exec_safSiteEventRead (path : Path) (g : Guest) : exec (.safSiteEventRead path g) s = execSafSiteEventRead path g s := rfl
@[simp] theorem exec_safEventRead (path : Path) (g : Guest) (p : Port) : exec (.safEventRead path g p) s = execSafEventRead path g p s := rfl
@[simp] theorem exec_imdEventRead (path : Path) (g : Guest) (p : Port) : exec (.imdEventRead path g p) s = execImdEventRead path g p s := rfl
@[simp] theorem exec_brkEventRead (path : Path) (g : Guest) : exec (.brkEventRead path g) s = execBrkEventRead path g s := rfl
@[simp] theorem exec_lsEventRead (path : Path) (g : Guest) : exec (.lsEventRead path g) s = execLsEventRead path g s := rfl
@[simp] theorem exec_chnEventRead (path : Path) (g : Guest) : exec (.chnEventRead path g) s = execChnEventRead path g s := rfl
@[simp] theorem exec_mshEventRead (path : Path) (g : Guest) : exec (.mshEventRead path g) s = execMshEventRead path g s := rfl
@[simp] theorem exec_jnlEventRead (path : Path) (g : Guest) : exec (.jnlEventRead path g) s = execJnlEventRead path g s := rfl
@[simp] theorem exec_cavEventRead (path : Path) (g : Guest) : exec (.cavEventRead path g) s = execCavEventRead path g s := rfl
@[simp] theorem exec_keyEventRead (path : Path) (g : Guest) : exec (.keyEventRead path g) s = execKeyEventRead path g s := rfl
@[simp] theorem exec_updEventRead (path : Path) (g : Guest) : exec (.updEventRead path g) s = execUpdEventRead path g s := rfl
@[simp] theorem exec_nfcEventRead (path : Path) (g : Guest) : exec (.nfcEventRead path g) s = execNfcEventRead path g s := rfl
@[simp] theorem exec_dspEventRead (path : Path) (g : Guest) : exec (.dspEventRead path g) s = execDspEventRead path g s := rfl
@[simp] theorem exec_getDeviceInfo (r : Req) : exec (.getDeviceInfo r) s = execGetDeviceInfo r s := rfl
@[simp] theorem exec_getImageDigest (r : Req) : exec (.getImageDigest r) s = execGetImageDigest r s := rfl
@[simp] theorem exec_echo (r : Req) : exec (.echo r) s = execEcho r s := rfl
@[simp] theorem exec_getConfigState (r : Req) : exec (.getConfigState r) s = execGetConfigState r s := rfl
@[simp] theorem exec_beginConfig (r : Req) : exec (.beginConfig r) s = execBeginConfig r s := rfl
@[simp] theorem exec_commitConfig (r : Req) : exec (.commitConfig r) s = execCommitConfig r s := rfl
@[simp] theorem exec_abortConfig (r : Req) : exec (.abortConfig r) s = execAbortConfig r s := rfl
@[simp] theorem exec_setTrefMode (r : Req) : exec (.setTrefMode r) s = execSetTrefMode r s := rfl
@[simp] theorem exec_acceptTrefPhase (r : Req) : exec (.acceptTrefPhase r) s = execAcceptTrefPhase r s := rfl
@[simp] theorem exec_requestSiteSleep (r : Req) : exec (.requestSiteSleep r) s = execRequestSiteSleep r s := rfl
@[simp] theorem exec_resetChip (r : Req) : exec (.resetChip r) s = execResetChip r s := rfl
@[simp] theorem exec_getCommandCost (r : Req) : exec (.getCommandCost r) s = execGetCommandCost r s := rfl
@[simp] theorem exec_getQueueState (r : Req) : exec (.getQueueState r) s = execGetQueueState r s := rfl
@[simp] theorem exec_setQueueRange (r : Req) : exec (.setQueueRange r) s = execSetQueueRange r s := rfl
@[simp] theorem exec_getGuestConfig (r : Req) : exec (.getGuestConfig r) s = execGetGuestConfig r s := rfl
@[simp] theorem exec_setGuestCaps (r : Req) : exec (.setGuestCaps r) s = execSetGuestCaps r s := rfl
@[simp] theorem exec_setGuestQos (r : Req) : exec (.setGuestQos r) s = execSetGuestQos r s := rfl
@[simp] theorem exec_setGuestHeartbeat (r : Req) : exec (.setGuestHeartbeat r) s = execSetGuestHeartbeat r s := rfl
@[simp] theorem exec_setGlnBind (r : Req) : exec (.setGlnBind r) s = execSetGlnBind r s := rfl
@[simp] theorem exec_resetGuest (r : Req) : exec (.resetGuest r) s = execResetGuest r s := rfl
@[simp] theorem exec_relayMessage (r : Req) : exec (.relayMessage r) s = execRelayMessage r s := rfl
@[simp] theorem exec_getPortStatus (r : Req) : exec (.getPortStatus r) s = execGetPortStatus r s := rfl
@[simp] theorem exec_getVehicleInfo (r : Req) : exec (.getVehicleInfo r) s = execGetVehicleInfo r s := rfl
@[simp] theorem exec_getLinkStats (r : Req) : exec (.getLinkStats r) s = execGetLinkStats r s := rfl
@[simp] theorem exec_getCertRequest (r : Req) : exec (.getCertRequest r) s = execGetCertRequest r s := rfl
@[simp] theorem exec_claimPort (r : Req) : exec (.claimPort r) s = execClaimPort r s := rfl
@[simp] theorem exec_releasePort (r : Req) : exec (.releasePort r) s = execReleasePort r s := rfl
@[simp] theorem exec_setPortConfig (r : Req) : exec (.setPortConfig r) s = execSetPortConfig r s := rfl
@[simp] theorem exec_setAcCurrent (r : Req) : exec (.setAcCurrent r) s = execSetAcCurrent r s := rfl
@[simp] theorem exec_driveLock (r : Req) : exec (.driveLock r) s = execDriveLock r s := rfl
@[simp] theorem exec_resetPort (r : Req) : exec (.resetPort r) s = execResetPort r s := rfl
@[simp] theorem exec_loadTrustAnchor (r : Req) : exec (.loadTrustAnchor r) s = execLoadTrustAnchor r s := rfl
@[simp] theorem exec_certExchangeReply (r : Req) : exec (.certExchangeReply r) s = execCertExchangeReply r s := rfl
@[simp] theorem exec_getSessionStatus (r : Req) : exec (.getSessionStatus r) s = execGetSessionStatus r s := rfl
@[simp] theorem exec_getSessionSummary (r : Req) : exec (.getSessionSummary r) s = execGetSessionSummary r s := rfl
@[simp] theorem exec_authoriseSession (r : Req) : exec (.authoriseSession r) s = execAuthoriseSession r s := rfl
@[simp] theorem exec_addCredit (r : Req) : exec (.addCredit r) s = execAddCredit r s := rfl
@[simp] theorem exec_stopSession (r : Req) : exec (.stopSession r) s = execStopSession r s := rfl
@[simp] theorem exec_clearFault (r : Req) : exec (.clearFault r) s = execClearFault r s := rfl
@[simp] theorem exec_setSessionConfig (r : Req) : exec (.setSessionConfig r) s = execSetSessionConfig r s := rfl
@[simp] theorem exec_getPowerStatus (r : Req) : exec (.getPowerStatus r) s = execGetPowerStatus r s := rfl
@[simp] theorem exec_getLeaseStatus (r : Req) : exec (.getLeaseStatus r) s = execGetLeaseStatus r s := rfl
@[simp] theorem exec_getConverterLimits (r : Req) : exec (.getConverterLimits r) s = execGetConverterLimits r s := rfl
@[simp] theorem exec_getPmLinkStats (r : Req) : exec (.getPmLinkStats r) s = execGetPmLinkStats r s := rfl
@[simp] theorem exec_setPowerConfig (r : Req) : exec (.setPowerConfig r) s = execSetPowerConfig r s := rfl
@[simp] theorem exec_setPortLimit (r : Req) : exec (.setPortLimit r) s = execSetPortLimit r s := rfl
@[simp] theorem exec_setLeaseConfig (r : Req) : exec (.setLeaseConfig r) s = execSetLeaseConfig r s := rfl
@[simp] theorem exec_setSitePower (r : Req) : exec (.setSitePower r) s = execSetSitePower r s := rfl
@[simp] theorem exec_setPmLinkConfig (r : Req) : exec (.setPmLinkConfig r) s = execSetPmLinkConfig r s := rfl
@[simp] theorem exec_reduceSitePower (r : Req) : exec (.reduceSitePower r) s = execReduceSitePower r s := rfl
@[simp] theorem exec_getMetrologyStatus (r : Req) : exec (.getMetrologyStatus r) s = execGetMetrologyStatus r s := rfl
@[simp] theorem exec_getChannelReading (r : Req) : exec (.getChannelReading r) s = execGetChannelReading r s := rfl
@[simp] theorem exec_getVerification (r : Req) : exec (.getVerification r) s = execGetVerification r s := rfl
@[simp] theorem exec_getHeadInfo (r : Req) : exec (.getHeadInfo r) s = execGetHeadInfo r s := rfl
@[simp] theorem exec_getCalCoeff (r : Req) : exec (.getCalCoeff r) s = execGetCalCoeff r s := rfl
@[simp] theorem exec_setMetrologyConfig (r : Req) : exec (.setMetrologyConfig r) s = execSetMetrologyConfig r s := rfl
@[simp] theorem exec_beginCalibration (r : Req) : exec (.beginCalibration r) s = execBeginCalibration r s := rfl
@[simp] theorem exec_setCalCoeff (r : Req) : exec (.setCalCoeff r) s = execSetCalCoeff r s := rfl
@[simp] theorem exec_calMeasure (r : Req) : exec (.calMeasure r) s = execCalMeasure r s := rfl
@[simp] theorem exec_endCalibration (r : Req) : exec (.endCalibration r) s = execEndCalibration r s := rfl
@[simp] theorem exec_abortCalibration (r : Req) : exec (.abortCalibration r) s = execAbortCalibration r s := rfl
@[simp] theorem exec_getEnergyStatus (r : Req) : exec (.getEnergyStatus r) s = execGetEnergyStatus r s := rfl
@[simp] theorem exec_getRegisters (r : Req) : exec (.getRegisters r) s = execGetRegisters r s := rfl
@[simp] theorem exec_getAccumulator (r : Req) : exec (.getAccumulator r) s = execGetAccumulator r s := rfl
@[simp] theorem exec_getSupplyStatus (r : Req) : exec (.getSupplyStatus r) s = execGetSupplyStatus r s := rfl
@[simp] theorem exec_setEnergyConfig (r : Req) : exec (.setEnergyConfig r) s = execSetEnergyConfig r s := rfl
@[simp] theorem exec_setPulseInput (r : Req) : exec (.setPulseInput r) s = execSetPulseInput r s := rfl
@[simp] theorem exec_setSupplyConfig (r : Req) : exec (.setSupplyConfig r) s = execSetSupplyConfig r s := rfl
@[simp] theorem exec_setPulseSource (r : Req) : exec (.setPulseSource r) s = execSetPulseSource r s := rfl
@[simp] theorem exec_runCrossCheck (r : Req) : exec (.runCrossCheck r) s = execRunCrossCheck r s := rfl
@[simp] theorem exec_getBillingStatus (r : Req) : exec (.getBillingStatus r) s = execGetBillingStatus r s := rfl
@[simp] theorem exec_getChainHead (r : Req) : exec (.getChainHead r) s = execGetChainHead r s := rfl
@[simp] theorem exec_getSessionRecord (r : Req) : exec (.getSessionRecord r) s = execGetSessionRecord r s := rfl
@[simp] theorem exec_getSealStatus (r : Req) : exec (.getSealStatus r) s = execGetSealStatus r s := rfl
@[simp] theorem exec_getLegalPubkey (r : Req) : exec (.getLegalPubkey r) s = execGetLegalPubkey r s := rfl
@[simp] theorem exec_setBillingConfig (r : Req) : exec (.setBillingConfig r) s = execSetBillingConfig r s := rfl
@[simp] theorem exec_setTariffSchedule (r : Req) : exec (.setTariffSchedule r) s = execSetTariffSchedule r s := rfl
@[simp] theorem exec_switchTariff (r : Req) : exec (.switchTariff r) s = execSwitchTariff r s := rfl
@[simp] theorem exec_setWallClock (r : Req) : exec (.setWallClock r) s = execSetWallClock r s := rfl
@[simp] theorem exec_getSealChallenge (r : Req) : exec (.getSealChallenge r) s = execGetSealChallenge r s := rfl
@[simp] theorem exec_reseal (r : Req) : exec (.reseal r) s = execReseal r s := rfl
@[simp] theorem exec_getOpticalStatus (r : Req) : exec (.getOpticalStatus r) s = execGetOpticalStatus r s := rfl
@[simp] theorem exec_setOpticalConfig (r : Req) : exec (.setOpticalConfig r) s = execSetOpticalConfig r s := rfl
@[simp] theorem exec_getPqStatus (r : Req) : exec (.getPqStatus r) s = execGetPqStatus r s := rfl
@[simp] theorem exec_getTamperStatus (r : Req) : exec (.getTamperStatus r) s = execGetTamperStatus r s := rfl
@[simp] theorem exec_getPqEvents (r : Req) : exec (.getPqEvents r) s = execGetPqEvents r s := rfl
@[simp] theorem exec_getTamperRecord (r : Req) : exec (.getTamperRecord r) s = execGetTamperRecord r s := rfl
@[simp] theorem exec_setPqConfig (r : Req) : exec (.setPqConfig r) s = execSetPqConfig r s := rfl
@[simp] theorem exec_getSafetyStatus (r : Req) : exec (.getSafetyStatus r) s = execGetSafetyStatus r s := rfl
@[simp] theorem exec_getPortSafety (r : Req) : exec (.getPortSafety r) s = execGetPortSafety r s := rfl
@[simp] theorem exec_getTripLog (r : Req) : exec (.getTripLog r) s = execGetTripLog r s := rfl
@[simp] theorem exec_getSafetyTableInfo (r : Req) : exec (.getSafetyTableInfo r) s = execGetSafetyTableInfo r s := rfl
@[simp] theorem exec_resetTrip (r : Req) : exec (.resetTrip r) s = execResetTrip r s := rfl
@[simp] theorem exec_requestSafetyRestart (r : Req) : exec (.requestSafetyRestart r) s = execRequestSafetyRestart r s := rfl
@[simp] theorem exec_requestSafeOut (r : Req) : exec (.requestSafeOut r) s = execRequestSafeOut r s := rfl
@[simp] theorem exec_getEarthStatus (r : Req) : exec (.getEarthStatus r) s = execGetEarthStatus r s := rfl
@[simp] theorem exec_getImdGroup (r : Req) : exec (.getImdGroup r) s = execGetImdGroup r s := rfl
@[simp] theorem exec_runInsulationSelftest (r : Req) : exec (.runInsulationSelftest r) s = execRunInsulationSelftest r s := rfl
@[simp] theorem exec_getActuatorStatus (r : Req) : exec (.getActuatorStatus r) s = execGetActuatorStatus r s := rfl
@[simp] theorem exec_runWeldTest (r : Req) : exec (.runWeldTest r) s = execRunWeldTest r s := rfl
@[simp] theorem exec_runBrakeTest (r : Req) : exec (.runBrakeTest r) s = execRunBrakeTest r s := rfl
@[simp] theorem exec_releaseBrake (r : Req) : exec (.releaseBrake r) s = execReleaseBrake r s := rfl
@[simp] theorem exec_applyBrake (r : Req) : exec (.applyBrake r) s = execApplyBrake r s := rfl
@[simp] theorem exec_getLsStatus (r : Req) : exec (.getLsStatus r) s = execGetLsStatus r s := rfl
@[simp] theorem exec_getLsChannel (r : Req) : exec (.getLsChannel r) s = execGetLsChannel r s := rfl
@[simp] theorem exec_getLkStatus (r : Req) : exec (.getLkStatus r) s = execGetLkStatus r s := rfl
@[simp] theorem exec_setLsOutput (r : Req) : exec (.setLsOutput r) s = execSetLsOutput r s := rfl
@[simp] theorem exec_clearLsFault (r : Req) : exec (.clearLsFault r) s = execClearLsFault r s := rfl
@[simp] theorem exec_setLsConfig (r : Req) : exec (.setLsConfig r) s = execSetLsConfig r s := rfl
@[simp] theorem exec_setLsSupplyConfig (r : Req) : exec (.setLsSupplyConfig r) s = execSetLsSupplyConfig r s := rfl
@[simp] theorem exec_setLkConfig (r : Req) : exec (.setLkConfig r) s = execSetLkConfig r s := rfl
@[simp] theorem exec_getChainStatus (r : Req) : exec (.getChainStatus r) s = execGetChainStatus r s := rfl
@[simp] theorem exec_getChainMembers (r : Req) : exec (.getChainMembers r) s = execGetChainMembers r s := rfl
@[simp] theorem exec_getLinkCounters (r : Req) : exec (.getLinkCounters r) s = execGetLinkCounters r s := rfl
@[simp] theorem exec_getMirroredEvents (r : Req) : exec (.getMirroredEvents r) s = execGetMirroredEvents r s := rfl
@[simp] theorem exec_setChainConfig (r : Req) : exec (.setChainConfig r) s = execSetChainConfig r s := rfl
@[simp] theorem exec_removeUnit (r : Req) : exec (.removeUnit r) s = execRemoveUnit r s := rfl
@[simp] theorem exec_sendTripAdvice (r : Req) : exec (.sendTripAdvice r) s = execSendTripAdvice r s := rfl
@[simp] theorem exec_clearLinkCounters (r : Req) : exec (.clearLinkCounters r) s = execClearLinkCounters r s := rfl
@[simp] theorem exec_getMeshStatus (r : Req) : exec (.getMeshStatus r) s = execGetMeshStatus r s := rfl
@[simp] theorem exec_getMeshNeighbours (r : Req) : exec (.getMeshNeighbours r) s = execGetMeshNeighbours r s := rfl
@[simp] theorem exec_getToneMap (r : Req) : exec (.getToneMap r) s = execGetToneMap r s := rfl
@[simp] theorem exec_getPhaseMap (r : Req) : exec (.getPhaseMap r) s = execGetPhaseMap r s := rfl
@[simp] theorem exec_setMeshConfig (r : Req) : exec (.setMeshConfig r) s = execSetMeshConfig r s := rfl
@[simp] theorem exec_setCoexMask (r : Req) : exec (.setCoexMask r) s = execSetCoexMask r s := rfl
@[simp] theorem exec_clearMeshCounters (r : Req) : exec (.clearMeshCounters r) s = execClearMeshCounters r s := rfl
@[simp] theorem exec_getJournalStatus (r : Req) : exec (.getJournalStatus r) s = execGetJournalStatus r s := rfl
@[simp] theorem exec_getCaveStatus (r : Req) : exec (.getCaveStatus r) s = execGetCaveStatus r s := rfl
@[simp] theorem exec_findCaveRecord (r : Req) : exec (.findCaveRecord r) s = execFindCaveRecord r s := rfl
@[simp] theorem exec_readWaveform (r : Req) : exec (.readWaveform r) s = execReadWaveform r s := rfl
@[simp] theorem exec_readCaveRaw (r : Req) : exec (.readCaveRaw r) s = execReadCaveRaw r s := rfl
@[simp] theorem exec_setCaveConfig (r : Req) : exec (.setCaveConfig r) s = execSetCaveConfig r s := rfl
@[simp] theorem exec_formatCave (r : Req) : exec (.formatCave r) s = execFormatCave r s := rfl
@[simp] theorem exec_markWindow (r : Req) : exec (.markWindow r) s = execMarkWindow r s := rfl
@[simp] theorem exec_getKeyStatus (r : Req) : exec (.getKeyStatus r) s = execGetKeyStatus r s := rfl
@[simp] theorem exec_getSlotInfo (r : Req) : exec (.getSlotInfo r) s = execGetSlotInfo r s := rfl
@[simp] theorem exec_getPublicKey (r : Req) : exec (.getPublicKey r) s = execGetPublicKey r s := rfl
@[simp] theorem exec_getAttestation (r : Req) : exec (.getAttestation r) s = execGetAttestation r s := rfl
@[simp] theorem exec_getAuditLog (r : Req) : exec (.getAuditLog r) s = execGetAuditLog r s := rfl
@[simp] theorem exec_generateKey (r : Req) : exec (.generateKey r) s = execGenerateKey r s := rfl
@[simp] theorem exec_importKey (r : Req) : exec (.importKey r) s = execImportKey r s := rfl
@[simp] theorem exec_exportKey (r : Req) : exec (.exportKey r) s = execExportKey r s := rfl
@[simp] theorem exec_deleteKey (r : Req) : exec (.deleteKey r) s = execDeleteKey r s := rfl
@[simp] theorem exec_signDigest (r : Req) : exec (.signDigest r) s = execSignDigest r s := rfl
@[simp] theorem exec_verifySignature (r : Req) : exec (.verifySignature r) s = execVerifySignature r s := rfl
@[simp] theorem exec_openKeySession (r : Req) : exec (.openKeySession r) s = execOpenKeySession r s := rfl
@[simp] theorem exec_closeKeySession (r : Req) : exec (.closeKeySession r) s = execCloseKeySession r s := rfl
@[simp] theorem exec_setRtcAlarm (r : Req) : exec (.setRtcAlarm r) s = execSetRtcAlarm r s := rfl
@[simp] theorem exec_renewRoot (r : Req) : exec (.renewRoot r) s = execRenewRoot r s := rfl
@[simp] theorem exec_retireDevice (r : Req) : exec (.retireDevice r) s = execRetireDevice r s := rfl
@[simp] theorem exec_getUpdateStatus (r : Req) : exec (.getUpdateStatus r) s = execGetUpdateStatus r s := rfl
@[simp] theorem exec_beginStaging (r : Req) : exec (.beginStaging r) s = execBeginStaging r s := rfl
@[simp] theorem exec_abortStaging (r : Req) : exec (.abortStaging r) s = execAbortStaging r s := rfl
@[simp] theorem exec_scheduleActivation (r : Req) : exec (.scheduleActivation r) s = execScheduleActivation r s := rfl
@[simp] theorem exec_cancelActivation (r : Req) : exec (.cancelActivation r) s = execCancelActivation r s := rfl
@[simp] theorem exec_setUpdateConfig (r : Req) : exec (.setUpdateConfig r) s = execSetUpdateConfig r s := rfl
@[simp] theorem exec_getNfcStatus (r : Req) : exec (.getNfcStatus r) s = execGetNfcStatus r s := rfl
@[simp] theorem exec_setNfcConfig (r : Req) : exec (.setNfcConfig r) s = execSetNfcConfig r s := rfl
@[simp] theorem exec_transceiveApdu (r : Req) (x : CardAnswer) : exec (.transceiveApdu r x) s = execTransceiveApdu r x s := rfl
@[simp] theorem exec_releaseCard (r : Req) : exec (.releaseCard r) s = execReleaseCard r s := rfl
@[simp] theorem exec_setTagPublic (r : Req) : exec (.setTagPublic r) s = execSetTagPublic r s := rfl
@[simp] theorem exec_setTagSecrets (r : Req) : exec (.setTagSecrets r) s = execSetTagSecrets r s := rfl
@[simp] theorem exec_resetTagLock (r : Req) : exec (.resetTagLock r) s = execResetTagLock r s := rfl
@[simp] theorem exec_getDisplayStatus (r : Req) : exec (.getDisplayStatus r) s = execGetDisplayStatus r s := rfl
@[simp] theorem exec_setDisplayConfig (r : Req) : exec (.setDisplayConfig r) s = execSetDisplayConfig r s := rfl
@[simp] theorem exec_loadOverdrive (r : Req) : exec (.loadOverdrive r) s = execLoadOverdrive r s := rfl
@[simp] theorem exec_updateRegion (r : Req) : exec (.updateRegion r) s = execUpdateRegion r s := rfl
@[simp] theorem exec_setPanelPower (r : Req) : exec (.setPanelPower r) s = execSetPanelPower r s := rfl
@[simp] theorem exec_selectLegalView (r : Req) : exec (.selectLegalView r) s = execSelectLegalView r s := rfl
@[simp] theorem exec_powerOnReset (cause : Fin 3) : exec (.powerOnReset cause) s = execPowerOnReset cause s := rfl
@[simp] theorem exec_porRelease : exec (.porRelease) s = execPorRelease s := rfl
@[simp] theorem exec_safetyInitDone (outcome : InitOutcome) : exec (.safetyInitDone outcome) s = execSafetyInitDone outcome s := rfl
@[simp] theorem exec_legalStartDone (verified : Bool) (candidate : Bool) (torn : Nat) : exec (.legalStartDone verified candidate torn) s = execLegalStartDone verified candidate torn s := rfl
@[simp] theorem exec_serviceImageStart (verified : Bool) : exec (.serviceImageStart verified) s = execServiceImageStart verified s := rfl
@[simp] theorem exec_configJournalReplay (candidate : Bool) (torn : Nat) : exec (.configJournalReplay candidate torn) s = execConfigJournalReplay candidate torn s := rfl
@[simp] theorem exec_chainJoinDone : exec (.chainJoinDone) s = execChainJoinDone s := rfl
@[simp] theorem exec_chipReset : exec (.chipReset) s = execChipReset s := rfl
@[simp] theorem exec_serviceWatchdogExpiry : exec (.serviceWatchdogExpiry) s = execServiceWatchdogExpiry s := rfl
@[simp] theorem exec_eccUncorrectable : exec (.eccUncorrectable) s = execEccUncorrectable s := rfl
@[simp] theorem exec_clockDeviation : exec (.clockDeviation) s = execClockDeviation s := rfl
@[simp] theorem exec_sleepAnswerTimeout : exec (.sleepAnswerTimeout) s = execSleepAnswerTimeout s := rfl
@[simp] theorem exec_sleepPointOfNoReturn : exec (.sleepPointOfNoReturn) s = execSleepPointOfNoReturn s := rfl
@[simp] theorem exec_dozeEntry : exec (.dozeEntry) s = execDozeEntry s := rfl
@[simp] theorem exec_dozeWake (src : Fin 6) : exec (.dozeWake src) s = execDozeWake src s := rfl
@[simp] theorem exec_trefPpsEdge (off : Int) (rate : Int) : exec (.trefPpsEdge off rate) s = execTrefPpsEdge off rate s := rfl
@[simp] theorem exec_trefPpsTimeout : exec (.trefPpsTimeout) s = execTrefPpsTimeout s := rfl
@[simp] theorem exec_tref10mLoss : exec (.tref10mLoss) s = execTref10mLoss s := rfl
@[simp] theorem exec_rateFaultClear : exec (.rateFaultClear) s = execRateFaultClear s := rfl
@[simp] theorem exec_cpPeriod (p : Port) (hi lo : Int) : exec (.cpPeriod p hi lo) s = execCpPeriod p hi lo s := rfl
@[simp] theorem exec_cpInvalidTimeout (p : Port) : exec (.cpInvalidTimeout p) s = execCpInvalidTimeout p s := rfl
@[simp] theorem exec_ppMeasurement (p : Port) (ohm : Nat) : exec (.ppMeasurement p ohm) s = execPpMeasurement p ohm s := rfl
@[simp] theorem exec_cmSlacParmReq (p : Port) (run : Nat) (mac : Nat) : exec (.cmSlacParmReq p run mac) s = execCmSlacParmReq p run mac s := rfl
@[simp] theorem exec_cmStartAttenChar (p : Port) (run : Nat) : exec (.cmStartAttenChar p run) s = execCmStartAttenChar p run s := rfl
@[simp] theorem exec_cmMnbcSound (p : Port) (run : Nat) (dB : Nat) : exec (.cmMnbcSound p run dB) s = execCmMnbcSound p run dB s := rfl
@[simp] theorem exec_soundingComplete (run : Nat) : exec (.soundingComplete run) s = execSoundingComplete run s := rfl
@[simp] theorem exec_cmValidate (p : Port) (run : Nat) (ok : Bool) : exec (.cmValidate p run ok) s = execCmValidate p run ok s := rfl
@[simp] theorem exec_cmSlacMatchReq (p : Port) (run : Nat) : exec (.cmSlacMatchReq p run) s = execCmSlacMatchReq p run s := rfl
@[simp] theorem exec_cmSetKeyCnf (p : Port) : exec (.cmSetKeyCnf p) s = execCmSetKeyCnf p s := rfl
@[simp] theorem exec_slacTimerExpiry (p : Port) : exec (.slacTimerExpiry p) s = execSlacTimerExpiry p s := rfl
@[simp] theorem exec_slacInitTimeout (p : Port) : exec (.slacInitTimeout p) s = execSlacInitTimeout p s := rfl
@[simp] theorem exec_linkRetryEnd (p : Port) : exec (.linkRetryEnd p) s = execLinkRetryEnd p s := rfl
@[simp] theorem exec_basicFallbackEnd (p : Port) : exec (.basicFallbackEnd p) s = execBasicFallbackEnd p s := rfl
@[simp] theorem exec_t1sFirstFrame (p : Port) (linkLocal : Bool) (mac : Nat) : exec (.t1sFirstFrame p linkLocal mac) s = execT1sFirstFrame p linkLocal mac s := rfl
@[simp] theorem exec_sdpRequest (p : Port) (tls : Bool) : exec (.sdpRequest p tls) s = execSdpRequest p tls s := rfl
@[simp] theorem exec_supportedAppProtocol (p : Port) (offers : List Nat) (mode : Nat) (dynamic : Bool) : exec (.supportedAppProtocol p offers mode dynamic) s = execSupportedAppProtocol p offers mode dynamic s := rfl
@[simp] theorem exec_tcpClosed (p : Port) : exec (.tcpClosed p) s = execTcpClosed p s := rfl
@[simp] theorem exec_protocolSequenceTimeout (p : Port) : exec (.protocolSequenceTimeout p) s = execProtocolSequenceTimeout p s := rfl
@[simp] theorem exec_authorizationReq (p : Port) : exec (.authorizationReq p) s = execAuthorizationReq p s := rfl
@[simp] theorem exec_contractChainPresented (p : Port) (chain : List Byte) (emaid : List Byte) (root : List Byte) (chk : ChainChecks) : exec (.contractChainPresented p chain emaid root chk) s = execContractChainPresented p chain emaid root chk s := rfl
@[simp] theorem exec_contract (p : Port) : exec (.contract p) s = execContract p s := rfl
@[simp] theorem exec_certInstallRequest (p : Port) (body : List Byte) : exec (.certInstallRequest p body) s = execCertInstallRequest p body s := rfl
@[simp] theorem exec_certReplyTimeout (p : Port) : exec (.certReplyTimeout p) s = execCertReplyTimeout p s := rfl
@[simp] theorem exec_cableCheckReq (p : Port) : exec (.cableCheckReq p) s = execCableCheckReq p s := rfl
@[simp] theorem exec_vehicleTarget (p : Port) (t : VehTarget) : exec (.vehicleTarget p t) s = execVehicleTarget p t s := rfl
@[simp] theorem exec_vehiclePause (p : Port) : exec (.vehiclePause p) s = execVehiclePause p s := rfl
@[simp] theorem exec_vehicleResume (p : Port) : exec (.vehicleResume p) s = execVehicleResume p s := rfl
@[simp] theorem exec_vehicleStop (p : Port) : exec (.vehicleStop p) s = execVehicleStop p s := rfl
@[simp] theorem exec_lockPulseEnd (p : Port) : exec (.lockPulseEnd p) s = execLockPulseEnd p s := rfl
@[simp] theorem exec_lockFeedbackTimeout (p : Port) : exec (.lockFeedbackTimeout p) s = execLockFeedbackTimeout p s := rfl
@[simp] theorem exec_lockAttemptTimer (p : Port) : exec (.lockAttemptTimer p) s = execLockAttemptTimer p s := rfl
@[simp] theorem exec_legalSessionOpen (p : Port) : exec (.legalSessionOpen p) s = execLegalSessionOpen p s := rfl
@[simp] theorem exec_authTimeout (p : Port) : exec (.authTimeout p) s = execAuthTimeout p s := rfl
@[simp] theorem exec_preauthLapsed (p : Port) : exec (.preauthLapsed p) s = execPreauthLapsed p s := rfl
@[simp] theorem exec_prechargeTimeout (p : Port) : exec (.prechargeTimeout p) s = execPrechargeTimeout p s := rfl
@[simp] theorem exec_rampTimeout (p : Port) : exec (.rampTimeout p) s = execRampTimeout p s := rfl
@[simp] theorem exec_pauseLimit (p : Port) : exec (.pauseLimit p) s = execPauseLimit p s := rfl
@[simp] theorem exec_linkLostGrace (p : Port) : exec (.linkLostGrace p) s = execLinkLostGrace p s := rfl
@[simp] theorem exec_selftestDue (p : Port) (code : Nat) : exec (.selftestDue p code) s = execSelftestDue p code s := rfl
@[simp] theorem exec_selftestOverdue (p : Port) : exec (.selftestOverdue p) s = execSelftestOverdue p s := rfl
@[simp] theorem exec_sealedReport (p : Port) : exec (.sealedReport p) s = execSealedReport p s := rfl
@[simp] theorem exec_legalGap (p : Port) : exec (.legalGap p) s = execLegalGap p s := rfl
@[simp] theorem exec_creditOut (p : Port) : exec (.creditOut p) s = execCreditOut p s := rfl
@[simp] theorem exec_legalReading (p : Port) : exec (.legalReading p) s = execLegalReading p s := rfl
@[simp] theorem exec_legalState : exec (.legalState) s = execLegalState s := rfl
@[simp] theorem exec_stepInstant (p : Port) : exec (.stepInstant p) s = execStepInstant p s := rfl
@[simp] theorem exec_runAheadReplan (p : Port) : exec (.runAheadReplan p) s = execRunAheadReplan p s := rfl
@[simp] theorem exec_recallRepeat (p : Port) : exec (.recallRepeat p) s = execRecallRepeat p s := rfl
@[simp] theorem exec_pmAck (l : PmIdx) (ch : Fin 8) (seq : Nat) (w1 : Nat) (w2 : Nat) : exec (.pmAck l ch seq w1 w2) s = execPmAck l ch seq w1 w2 s := rfl
@[simp] theorem exec_pmStatus (l : PmIdx) (ch : Fin 8) (seq : Nat) (st : PmStatus) : exec (.pmStatus l ch seq st) s = execPmStatus l ch seq st s := rfl
@[simp] theorem exec_pmLimits (l : PmIdx) (ch : Fin 8) (seq : Nat) (lim : PmLimits) : exec (.pmLimits l ch seq lim) s = execPmLimits l ch seq lim s := rfl
@[simp] theorem exec_pmFault (l : PmIdx) (ch : Fin 8) (seq : Nat) (code : Nat) (off : Bool) : exec (.pmFault l ch seq code off) s = execPmFault l ch seq code off s := rfl
@[simp] theorem exec_pmBadFrame (l : PmIdx) : exec (.pmBadFrame l) s = execPmBadFrame l s := rfl
@[simp] theorem exec_pmSyncSend (l : PmIdx) : exec (.pmSyncSend l) s = execPmSyncSend l s := rfl
@[simp] theorem exec_pmRxSilence (l : PmIdx) : exec (.pmRxSilence l) s = execPmRxSilence l s := rfl
@[simp] theorem exec_pmAckTimeout (p : Port) : exec (.pmAckTimeout p) s = execPmAckTimeout p s := rfl
@[simp] theorem exec_pmLinkRetrain (l : PmIdx) : exec (.pmLinkRetrain l) s = execPmLinkRetrain l s := rfl
@[simp] theorem exec_powerEpochStart : exec (.powerEpochStart) s = execPowerEpochStart s := rfl
@[simp] theorem exec_reportSend : exec (.reportSend) s = execReportSend s := rfl
@[simp] theorem exec_grantCompute : exec (.grantCompute) s = execGrantCompute s := rfl
@[simp] theorem exec_grantBroadcast : exec (.grantBroadcast) s = execGrantBroadcast s := rfl
@[simp] theorem exec_report (h : ChHdr) (rep : ReportFrame) : exec (.report h rep) s = execReport h rep s := rfl
@[simp] theorem exec_grant (h : ChHdr) (gr : GrantFrame) : exec (.grant h gr) s = execGrant h gr s := rfl
@[simp] theorem exec_reduce (h : ChHdr) (f : Nat) (seconds : Nat) : exec (.reduce h f seconds) s = execReduce h f seconds s := rfl
@[simp] theorem exec_reduceReq (h : ChHdr) (limit : Nat) (seconds : Nat) : exec (.reduceReq h limit seconds) s = execReduceReq h limit seconds s := rfl
@[simp] theorem exec_reduceEnd : exec (.reduceEnd) s = execReduceEnd s := rfl
@[simp] theorem exec_sampleFrameSend : exec (.sampleFrameSend) s = execSampleFrameSend s := rfl
@[simp] theorem exec_upstreamFrame (l : SLink) (first : UpSym) (body : List UpSym) (crc : List UpSym) : exec (.upstreamFrame l first body crc) s = execUpstreamFrame l first body crc s := rfl
@[simp] theorem exec_upstreamFrameLate (l : SLink) : exec (.upstreamFrameLate l) s = execUpstreamFrameLate l s := rfl
@[simp] theorem exec_slLostFramesLimit (l : SLink) : exec (.slLostFramesLimit l) s = execSlLostFramesLimit l s := rfl
@[simp] theorem exec_slGoodFrameRun (l : SLink) : exec (.slGoodFrameRun l) s = execSlGoodFrameRun l s := rfl
@[simp] theorem exec_slTrainingTimeout (l : SLink) : exec (.slTrainingTimeout l) s = execSlTrainingTimeout l s := rfl
@[simp] theorem exec_slStallTimeout (l : SLink) : exec (.slStallTimeout l) s = execSlStallTimeout l s := rfl
@[simp] theorem exec_headRegistersRead (l : SLink) (regs : HeadRegs) : exec (.headRegistersRead l regs) s = execHeadRegistersRead l regs s := rfl
@[simp] theorem exec_headPoll (l : SLink) (order : List Nat) : exec (.headPoll l order) s = execHeadPoll l order s := rfl
@[simp] theorem exec_sampleProcess (n : Nat) : exec (.sampleProcess n) s = execSampleProcess n s := rfl
@[simp] theorem exec_pqSubstitutedRefresh (src : Option Port) (ch : Fin 3) : exec (.pqSubstitutedRefresh src ch) s = execPqSubstitutedRefresh src ch s := rfl
@[simp] theorem exec_tamperPersistence (p : Port) (kind : Fin 3) : exec (.tamperPersistence p kind) s = execTamperPersistence p kind s := rfl
@[simp] theorem exec_pilotWindowEnd (p : Port) (w : Nat) : exec (.pilotWindowEnd p w) s = execPilotWindowEnd p w s := rfl
@[simp] theorem exec_verifySuspendTimeout (p : Port) (path : Fin 24) : exec (.verifySuspendTimeout p path) s = execVerifySuspendTimeout p path s := rfl
@[simp] theorem exec_legalClockWindow (dev : Int) : exec (.legalClockWindow dev) s = execLegalClockWindow dev s := rfl
@[simp] theorem exec_calMeasureDurationEnd (p : Port) : exec (.calMeasureDurationEnd p) s = execCalMeasureDurationEnd p s := rfl
@[simp] theorem exec_calMeasureTimeout (p : Port) : exec (.calMeasureTimeout p) s = execCalMeasureTimeout p s := rfl
@[simp] theorem exec_pilotCaptureDone (p : Port) : exec (.pilotCaptureDone p) s = execPilotCaptureDone p s := rfl
@[simp] theorem exec_pilotCaptureTimeout (p : Port) : exec (.pilotCaptureTimeout p) s = execPilotCaptureTimeout p s := rfl
@[simp] theorem exec_latch (p : Port) : exec (.latch p) s = execLatch p s := rfl
@[simp] theorem exec_substitutedCycle (p : Port) : exec (.substitutedCycle p) s = execSubstitutedCycle p s := rfl
@[simp] theorem exec_dcTickTimeout (p : Port) : exec (.dcTickTimeout p) s = execDcTickTimeout p s := rfl
@[simp] theorem exec_closeNotice (p : Port) : exec (.closeNotice p) s = execCloseNotice p s := rfl
@[simp] theorem exec_openConfirmation (p : Port) : exec (.openConfirmation p) s = execOpenConfirmation p s := rfl
@[simp] theorem exec_billingStop (p : Port) : exec (.billingStop p) s = execBillingStop p s := rfl
@[simp] theorem exec_pulseOutputEmit (p : Port) : exec (.pulseOutputEmit p) s = execPulseOutputEmit p s := rfl
@[simp] theorem exec_pulseInputEdge (k : Fin 2) (high : Bool) : exec (.pulseInputEdge k high) s = execPulseInputEdge k high s := rfl
@[simp] theorem exec_crossCheckTimeout (k : Fin 2) : exec (.crossCheckTimeout k) s = execCrossCheckTimeout k s := rfl
@[simp] theorem exec_supplyFailTrip : exec (.supplyFailTrip) s = execSupplyFailTrip s := rfl
@[simp] theorem exec_pfwAssert : exec (.pfwAssert) s = execPfwAssert s := rfl
@[simp] theorem exec_earlyWarningSaveRepeat : exec (.earlyWarningSaveRepeat) s = execEarlyWarningSaveRepeat s := rfl
@[simp] theorem exec_supplyRecovered : exec (.supplyRecovered) s = execSupplyRecovered s := rfl
@[simp] theorem exec_pfwStuck : exec (.pfwStuck) s = execPfwStuck s := rfl
@[simp] theorem exec_pfwRelease : exec (.pfwRelease) s = execPfwRelease s := rfl
@[simp] theorem exec_sessionSeal (p : Port) : exec (.sessionSeal p) s = execSessionSeal p s := rfl
@[simp] theorem exec_sealLoopSample (x : LoopRead) : exec (.sealLoopSample x) s = execSealLoopSample x s := rfl
@[simp] theorem exec_signOn (addressed : Bool) : exec (.signOn addressed) s = execSignOn addressed s := rfl
@[simp] theorem exec_optIdentification : exec (.optIdentification) s = execOptIdentification s := rfl
@[simp] theorem exec_optAcknowledgement (z : Nat) (opt : Nat) : exec (.optAcknowledgement z opt) s = execOptAcknowledgement z opt s := rfl
@[simp] theorem exec_optAckTimeout : exec (.optAckTimeout) s = execOptAckTimeout s := rfl
@[simp] theorem exec_optDataMessage : exec (.optDataMessage) s = execOptDataMessage s := rfl
@[simp] theorem exec_optDataMessageDone : exec (.optDataMessageDone) s = execOptDataMessageDone s := rfl
@[simp] theorem exec_safetyCycle (c : CycleSense) : exec (.safetyCycle c) s = execSafetyCycle c s := rfl
@[simp] theorem exec_safeInEdge (k : Fin 16) (level : Bool) : exec (.safeInEdge k level) s = execSafeInEdge k level s := rfl
@[simp] theorem exec_discrepancyTimeout (k : Fin 8) : exec (.discrepancyTimeout k) s = execDiscrepancyTimeout k s := rfl
@[simp] theorem exec_inputPatternCheck (k : Fin 16) (seen : Nat) : exec (.inputPatternCheck k seen) s = execInputPatternCheck k seen s := rfl
@[simp] theorem exec_safetyEccScrub (corrected : Nat) (uncorrectable : Bool) : exec (.safetyEccScrub corrected uncorrectable) s = execSafetyEccScrub corrected uncorrectable s := rfl
@[simp] theorem exec_tableDigestCheck (ok : Bool) : exec (.tableDigestCheck ok) s = execTableDigestCheck ok s := rfl
@[simp] theorem exec_watchdogQuestion : exec (.watchdogQuestion) s = execWatchdogQuestion s := rfl
@[simp] theorem exec_watchdogWindowExpiry : exec (.watchdogWindowExpiry) s = execWatchdogWindowExpiry s := rfl
@[simp] theorem exec_oscillatorFault : exec (.oscillatorFault) s = execOscillatorFault s := rfl
@[simp] theorem exec_railFault : exec (.railFault) s = execRailFault s := rfl
@[simp] theorem exec_comparatorSelftest (t : ComparatorTest) : exec (.comparatorSelftest t) s = execComparatorSelftest t s := rfl
@[simp] theorem exec_driverOffTest (t : DriverTest) : exec (.driverOffTest t) s = execDriverOffTest t s := rfl
@[simp] theorem exec_dieTempCheck (main meas drive : Nat) : exec (.dieTempCheck main meas drive) s = execDieTempCheck main meas drive s := rfl
@[simp] theorem exec_serviceLossTimeout : exec (.serviceLossTimeout) s = execServiceLossTimeout s := rfl
@[simp] theorem exec_heartbeat : exec (.heartbeat) s = execHeartbeat s := rfl
@[simp] theorem exec_closeReq (p : Port) : exec (.closeReq p) s = execCloseReq p s := rfl
@[simp] theorem exec_openReq (p : Port) : exec (.openReq p) s = execOpenReq p s := rfl
@[simp] theorem exec_rampDone (p : Port) : exec (.rampDone p) s = execRampDone p s := rfl
@[simp] theorem exec_selftestReq (p : Port) (code : Nat) : exec (.selftestReq p code) s = execSelftestReq p code s := rfl
@[simp] theorem exec_brakeReleaseReq (b : Fin 2) : exec (.brakeReleaseReq b) s = execBrakeReleaseReq b s := rfl
@[simp] theorem exec_outReq (mask : Nat) : exec (.outReq mask) s = execOutReq mask s := rfl
@[simp] theorem exec_resetReq (q : Option Port) : exec (.resetReq q) s = execResetReq q s := rfl
@[simp] theorem exec_restartReq (q : Option Port) : exec (.restartReq q) s = execRestartReq q s := rfl
@[simp] theorem exec_siteState : exec (.siteState) s = execSiteState s := rfl
@[simp] theorem exec_portState (p : Port) : exec (.portState p) s = execPortState p s := rfl
@[simp] theorem exec_trip (p : Port) (cause row : Nat) : exec (.trip p cause row) s = execTrip p cause row s := rfl
@[simp] theorem exec_feedback (p : Port) : exec (.feedback p) s = execFeedback p s := rfl
@[simp] theorem exec_readings (p : Port) : exec (.readings p) s = execReadings p s := rfl
@[simp] theorem exec_logEntry (entry : List Byte) : exec (.logEntry entry) s = execLogEntry entry s := rfl
@[simp] theorem exec_answer (type : Nat) (p : Port) (granted : Bool) : exec (.answer type p granted) s = execAnswer type p granted s := rfl
@[simp] theorem exec_windowDeadline (p : Port) : exec (.windowDeadline p) s = execWindowDeadline p s := rfl
@[simp] theorem exec_closeConfirmTimeout (p : Port) : exec (.closeConfirmTimeout p) s = execCloseConfirmTimeout p s := rfl
@[simp] theorem exec_openConfirmTimeout (p : Port) : exec (.openConfirmTimeout p) s = execOpenConfirmTimeout p s := rfl
@[simp] theorem exec_contactDisagreeTimeout (p : Port) : exec (.contactDisagreeTimeout p) s = execContactDisagreeTimeout p s := rfl
@[simp] theorem exec_safetyRestartDone (ok : Bool) (item : Nat) : exec (.safetyRestartDone ok item) s = execSafetyRestartDone ok item s := rfl
@[simp] theorem exec_safetyCpPeriod (p : Port) (pwm : Bool) (hi lo : Int) : exec (.safetyCpPeriod p pwm hi lo) s = execSafetyCpPeriod p pwm hi lo s := rfl
@[simp] theorem exec_imdHalfPeriodEnd (p : Port) (ohm : Option Nat) (ce : Nat) : exec (.imdHalfPeriodEnd p ohm ce) s = execImdHalfPeriodEnd p ohm ce s := rfl
@[simp] theorem exec_imdSlotRotate (g : Fin 8) : exec (.imdSlotRotate g) s = execImdSlotRotate g s := rfl
@[simp] theorem exec_precloseTestEnd (p : Port) : exec (.precloseTestEnd p) s = execPrecloseTestEnd p s := rfl
@[simp] theorem exec_rcmTrip (p : Port) : exec (.rcmTrip p) s = execRcmTrip p s := rfl
@[simp] theorem exec_lockFilterExpiry (p : Port) : exec (.lockFilterExpiry p) s = execLockFilterExpiry p s := rfl
@[simp] theorem exec_coilCurrentFault (p : Port) : exec (.coilCurrentFault p) s = execCoilCurrentFault p s := rfl
@[simp] theorem exec_brakeTestTimer (b : Fin 2) : exec (.brakeTestTimer b) s = execBrakeTestTimer b s := rfl
@[simp] theorem exec_weldTestTimer (p : Port) : exec (.weldTestTimer p) s = execWeldTestTimer p s := rfl
@[simp] theorem exec_insulationSelftestEnd (p : Port) (kohm : Nat) : exec (.insulationSelftestEnd p kohm) s = execInsulationSelftestEnd p kohm s := rfl
@[simp] theorem exec_lsOvercurrent (c : Fin 40) : exec (.lsOvercurrent c) s = execLsOvercurrent c s := rfl
@[simp] theorem exec_lsRetryTimer (c : Fin 40) : exec (.lsRetryTimer c) s = execLsRetryTimer c s := rfl
@[simp] theorem exec_lsBurstSuccess (c : Fin 40) : exec (.lsBurstSuccess c) s = execLsBurstSuccess c s := rfl
@[simp] theorem exec_lsBurstWindowEnd (c : Fin 40) : exec (.lsBurstWindowEnd c) s = execLsBurstWindowEnd c s := rfl
@[simp] theorem exec_lsThermalTrip (c : Fin 40) : exec (.lsThermalTrip c) s = execLsThermalTrip c s := rfl
@[simp] theorem exec_lsThermalCooled (c : Fin 40) : exec (.lsThermalCooled c) s = execLsThermalCooled c s := rfl
@[simp] theorem exec_lsShed : exec (.lsShed) s = execLsShed s := rfl
@[simp] theorem exec_vauxLow : exec (.vauxLow) s = execVauxLow s := rfl
@[simp] theorem exec_vauxUv : exec (.vauxUv) s = execVauxUv s := rfl
@[simp] theorem exec_vauxRecovered : exec (.vauxRecovered) s = execVauxRecovered s := rfl
@[simp] theorem exec_vauxOvervoltage : exec (.vauxOvervoltage) s = execVauxOvervoltage s := rfl
@[simp] theorem exec_lsRestoreGroup : exec (.lsRestoreGroup) s = execLsRestoreGroup s := rfl
@[simp] theorem exec_lsOpenLoadSample (c : Fin 40) (mA : Nat) : exec (.lsOpenLoadSample c mA) s = execLsOpenLoadSample c mA s := rfl
@[simp] theorem exec_lspwmEdge (k : Fin 8) (t tIn vaux : Nat) : exec (.lspwmEdge k t tIn vaux) s = execLspwmEdge k t tIn vaux s := rfl
@[simp] theorem exec_lspwmStatic (k : Fin 8) (level : Bool) : exec (.lspwmStatic k level) s = execLspwmStatic k level s := rfl
@[simp] theorem exec_lkPeriod (p : Port) (vaux mA : Nat) : exec (.lkPeriod p vaux mA) s = execLkPeriod p vaux mA s := rfl
@[simp] theorem exec_lkDriveEnd (p : Port) : exec (.lkDriveEnd p) s = execLkDriveEnd p s := rfl
@[simp] theorem exec_lkStall (p : Port) : exec (.lkStall p) s = execLkStall p s := rfl
@[simp] theorem exec_lkThermal (p : Port) : exec (.lkThermal p) s = execLkThermal p s := rfl
@[simp] theorem exec_lkBrakeEnd (p : Port) : exec (.lkBrakeEnd p) s = execLkBrakeEnd p s := rfl
@[simp] theorem exec_helloSend (k : ChPort) : exec (.helloSend k) s = execHelloSend k s := rfl
@[simp] theorem exec_hello (k : ChPort) (x : Hello) : exec (.hello k x) s = execHello k x s := rfl
@[simp] theorem exec_chainLinkTrained (k : ChPort) : exec (.chainLinkTrained k) s = execChainLinkTrained k s := rfl
@[simp] theorem exec_chainBadFrame (k : ChPort) (x : ChainBad) : exec (.chainBadFrame k x) s = execChainBadFrame k x s := rfl
@[simp] theorem exec_chainDegradedEnd (k : ChPort) : exec (.chainDegradedEnd k) s = execChainDegradedEnd k s := rfl
@[simp] theorem exec_chainLinkSilence (k : ChPort) : exec (.chainLinkSilence k) s = execChainLinkSilence k s := rfl
@[simp] theorem exec_chainPhyUp (k : ChPort) (miswired : Bool) : exec (.chainPhyUp k miswired) s = execChainPhyUp k miswired s := rfl
@[simp] theorem exec_chainPhyDown (k : ChPort) : exec (.chainPhyDown k) s = execChainPhyDown k s := rfl
@[simp] theorem exec_delayMeasure (k : ChPort) : exec (.delayMeasure k) s = execDelayMeasure k s := rfl
@[simp] theorem exec_delayReq (k : ChPort) (t1 t2 t3 : Nat) : exec (.delayReq k t1 t2 t3) s = execDelayReq k t1 t2 t3 s := rfl
@[simp] theorem exec_delayRsp (k : ChPort) (t1 t2 t3 t4 : Nat) : exec (.delayRsp k t1 t2 t3 t4) s = execDelayRsp k t1 t2 t3 t4 s := rfl
@[simp] theorem exec_chainTxDone (k : ChPort) : exec (.chainTxDone k) s = execChainTxDone k s := rfl
@[simp] theorem exec_p0Repeat : exec (.p0Repeat) s = execP0Repeat s := rfl
@[simp] theorem exec_tripAdvice (h : ChHdr) (origin cause ports row time : Nat) : exec (.tripAdvice h origin cause ports row time) s = execTripAdvice h origin cause ports row time s := rfl
@[simp] theorem exec_linkDown (h : ChHdr) (unit : Nat) (port : ChPort) : exec (.linkDown h unit port) s = execLinkDown h unit port s := rfl
@[simp] theorem exec_topology (h : ChHdr) (blocked closed : Bool) : exec (.topology h blocked closed) s = execTopology h blocked closed s := rfl
@[simp] theorem exec_ringRestore : exec (.ringRestore) s = execRingRestore s := rfl
@[simp] theorem exec_electionStart : exec (.electionStart) s = execElectionStart s := rfl
@[simp] theorem exec_candidate (h : ChHdr) (key : ChKey) : exec (.candidate h key) s = execCandidate h key s := rfl
@[simp] theorem exec_headClaimTimer : exec (.headClaimTimer) s = execHeadClaimTimer s := rfl
@[simp] theorem exec_headClaim (h : ChHdr) (key : ChKey) : exec (.headClaim h key) s = execHeadClaim h key s := rfl
@[simp] theorem exec_walk (h : ChHdr) (next : Nat) : exec (.walk h next) s = execWalk h next s := rfl
@[simp] theorem exec_join (h : ChHdr) (serial : Nat) : exec (.join h serial) s = execJoin h serial s := rfl
@[simp] theorem exec_assign (h : ChHdr) (serial addr : Nat) : exec (.assign h serial addr) s = execAssign h serial addr s := rfl
@[simp] theorem exec_table (h : ChHdr) (x : TableFrame) : exec (.table h x) s = execTable h x s := rfl
@[simp] theorem exec_tableBroadcast : exec (.tableBroadcast) s = execTableBroadcast s := rfl
@[simp] theorem exec_joinRetry : exec (.joinRetry) s = execJoinRetry s := rfl
@[simp] theorem exec_syncSend : exec (.syncSend) s = execSyncSend s := rfl
@[simp] theorem exec_sync (h : ChHdr) (origin : Nat) (corr : Int) : exec (.sync h origin corr) s = execSync h origin corr s := rfl
@[simp] theorem exec_timeUnsync : exec (.timeUnsync) s = execTimeUnsync s := rfl
@[simp] theorem exec_siteConfig (h : ChHdr) (epoch : Nat) (x : SiteItems) : exec (.siteConfig h epoch x) s = execSiteConfig h epoch x s := rfl
@[simp] theorem exec_configAck (h : ChHdr) (reason : Nat) : exec (.configAck h reason) s = execConfigAck h reason s := rfl
@[simp] theorem exec_siteConfigDeadline : exec (.siteConfigDeadline) s = execSiteConfigDeadline s := rfl
@[simp] theorem exec_actPropose (h : ChHdr) (a : ActItem) : exec (.actPropose h a) s = execActPropose h a s := rfl
@[simp] theorem exec_actCommit (h : ChHdr) (a : ActItem) : exec (.actCommit h a) s = execActCommit h a s := rfl
@[simp] theorem exec_actQuery (h : ChHdr) (a : ActItem) (answer : Option Bool) : exec (.actQuery h a answer) s = execActQuery h a answer s := rfl
@[simp] theorem exec_activationTime (intact : Bool) : exec (.activationTime intact) s = execActivationTime intact s := rfl
@[simp] theorem exec_serviceSwapDone : exec (.serviceSwapDone) s = execServiceSwapDone s := rfl
@[simp] theorem exec_trialPassed : exec (.trialPassed) s = execTrialPassed s := rfl
@[simp] theorem exec_activationWaitTimeout : exec (.activationWaitTimeout) s = execActivationWaitTimeout s := rfl
@[simp] theorem exec_mirror (h : ChHdr) (entry : List Byte) : exec (.mirror h entry) s = execMirror h entry s := rfl
@[simp] theorem exec_fwOffer (h : ChHdr) (header : List Byte) : exec (.fwOffer h header) s = execFwOffer h header s := rfl
@[simp] theorem exec_fwBlock (h : ChHdr) (tag off : Nat) (data : List Byte) : exec (.fwBlock h tag off data) s = execFwBlock h tag off data s := rfl
@[simp] theorem exec_fwNack (h : ChHdr) (tag off len : Nat) : exec (.fwNack h tag off len) s = execFwNack h tag off len s := rfl
@[simp] theorem exec_fwReq (k : ChPort) : exec (.fwReq k) s = execFwReq k s := rfl
@[simp] theorem exec_romFwReq : exec (.romFwReq) s = execRomFwReq s := rfl
@[simp] theorem exec_sleepPrepare (h : ChHdr) (te : Nat) : exec (.sleepPrepare h te) s = execSleepPrepare h te s := rfl
@[simp] theorem exec_sleepReady (h : ChHdr) : exec (.sleepReady h) s = execSleepReady h s := rfl
@[simp] theorem exec_sleepNotReady (h : ChHdr) (guard : Nat) : exec (.sleepNotReady h guard) s = execSleepNotReady h guard s := rfl
@[simp] theorem exec_sleepCommit (h : ChHdr) (te : Nat) : exec (.sleepCommit h te) s = execSleepCommit h te s := rfl
@[simp] theorem exec_sleepAbort (h : AbortHdr) : exec (.sleepAbort h) s = execSleepAbort h s := rfl
@[simp] theorem exec_sleepCancel (h : ChHdr) : exec (.sleepCancel h) s = execSleepCancel h s := rfl
@[simp] theorem exec_wake (h : ChHdr) (src : Nat) : exec (.wake h src) s = execWake h src s := rfl
@[simp] theorem exec_meshChainFrame (m : MHdr) (h : ChHdr) (b : ChBody) : exec (.meshChainFrame m h b) s = execMeshChainFrame m h b s := rfl
@[simp] theorem exec_msync (m : MHdr) (origin : Nat) (corr : Int) : exec (.msync m origin corr) s = execMsync m origin corr s := rfl
@[simp] theorem exec_msyncSend : exec (.msyncSend) s = execMsyncSend s := rfl
@[simp] theorem exec_msyncLost : exec (.msyncLost) s = execMsyncLost s := rfl
@[simp] theorem exec_nbr (m : MHdr) (l : List (Nat × Nat)) : exec (.nbr m l) s = execNbr m l s := rfl
@[simp] theorem exec_nbrSend : exec (.nbrSend) s = execNbrSend s := rfl
@[simp] theorem exec_tmap (m : MHdr) (gen : Nat) (seg : Fin 16) (x : ToneSeg) : exec (.tmap m gen seg x) s = execTmap m gen seg x s := rfl
@[simp] theorem exec_tmapSend (nbr : Nat) (segs : Vector ToneSeg 16) : exec (.tmapSend nbr segs) s = execTmapSend nbr segs s := rfl
@[simp] theorem exec_meshMapExpiry (nbr : Nat) : exec (.meshMapExpiry nbr) s = execMeshMapExpiry nbr s := rfl
@[simp] theorem exec_phase (m : MHdr) (x : PhaseFrame) : exec (.phase m x) s = execPhase m x s := rfl
@[simp] theorem exec_phaseSend : exec (.phaseSend) s = execPhaseSend s := rfl
@[simp] theorem exec_phaseFrameTimeout (nbr : Nat) : exec (.phaseFrameTimeout nbr) s = execPhaseFrameTimeout nbr s := rfl
@[simp] theorem exec_meshDelay (m : MHdr) (t1 t2 t3 t4 : Nat) : exec (.meshDelay m t1 t2 t3 t4) s = execMeshDelay m t1 t2 t3 t4 s := rfl
@[simp] theorem exec_meshDelaySend : exec (.meshDelaySend) s = execMeshDelaySend s := rfl
@[simp] theorem exec_meshAck (src : Nat) (seq : Nat) : exec (.meshAck src seq) s = execMeshAck src seq s := rfl
@[simp] theorem exec_meshAckTimeout : exec (.meshAckTimeout) s = execMeshAckTimeout s := rfl
@[simp] theorem exec_meshBadFrame : exec (.meshBadFrame) s = execMeshBadFrame s := rfl
@[simp] theorem exec_meshContention : exec (.meshContention) s = execMeshContention s := rfl
@[simp] theorem exec_splZcEdge (k : Fin 3) (t : Nat) : exec (.splZcEdge k t) s = execSplZcEdge k t s := rfl
@[simp] theorem exec_splZcAbsent (k : Fin 3) : exec (.splZcAbsent k) s = execSplZcAbsent k s := rfl
@[simp] theorem exec_coexMaskChange : exec (.coexMaskChange) s = execCoexMaskChange s := rfl
@[simp] theorem exec_ripeningComplete (legal : Bool) : exec (.ripeningComplete legal) s = execRipeningComplete legal s := rfl
@[simp] theorem exec_halfZeroed (legal : Bool) : exec (.halfZeroed legal) s = execHalfZeroed legal s := rfl
@[simp] theorem exec_caveAckWrite : exec (.caveAckWrite) s = execCaveAckWrite s := rfl
@[simp] theorem exec_caveConfirm (seq : Nat) : exec (.caveConfirm seq) s = execCaveConfirm seq s := rfl
@[simp] theorem exec_caveRecordTake : exec (.caveRecordTake) s = execCaveRecordTake s := rfl
@[simp] theorem exec_caveStreamSamples (b : StreamBlock) : exec (.caveStreamSamples b) s = execCaveStreamSamples b s := rfl
@[simp] theorem exec_nvmeWriteComplete : exec (.nvmeWriteComplete) s = execNvmeWriteComplete s := rfl
@[simp] theorem exec_caveFlush : exec (.caveFlush) s = execCaveFlush s := rfl
@[simp] theorem exec_superblockWrite : exec (.superblockWrite) s = execSuperblockWrite s := rfl
@[simp] theorem exec_nvmeTimeout : exec (.nvmeTimeout) s = execNvmeTimeout s := rfl
@[simp] theorem exec_nvmeControllerFatal : exec (.nvmeControllerFatal) s = execNvmeControllerFatal s := rfl
@[simp] theorem exec_storLinkDown : exec (.storLinkDown) s = execStorLinkDown s := rfl
@[simp] theorem exec_caveFaultRetry (ok : Bool) : exec (.caveFaultRetry ok) s = execCaveFaultRetry ok s := rfl
@[simp] theorem exec_caveWindowTrigger (src : Option Port) (kind : Fin 4) : exec (.caveWindowTrigger src kind) s = execCaveWindowTrigger src kind s := rfl
@[simp] theorem exec_caveWindowEnd (num last : Nat) : exec (.caveWindowEnd num last) s = execCaveWindowEnd num last s := rfl
@[simp] theorem exec_tamperEvent (sensor : Fin 5) : exec (.tamperEvent sensor) s = execTamperEvent sensor s := rfl
@[simp] theorem exec_tamperSensorSample (mesh light temp lid : Bool) : exec (.tamperSensorSample mesh light temp lid) s = execTamperSensorSample mesh light temp lid s := rfl
@[simp] theorem exec_batteryLoss : exec (.batteryLoss) s = execBatteryLoss s := rfl
@[simp] theorem exec_vbatLow : exec (.vbatLow) s = execVbatLow s := rfl
@[simp] theorem exec_rtcAlarmExpiry : exec (.rtcAlarmExpiry) s = execRtcAlarmExpiry s := rfl
@[simp] theorem exec_keySessionIdleExpiry (g : Guest) (h : Fin 8) : exec (.keySessionIdleExpiry g h) s = execKeySessionIdleExpiry g h s := rfl
@[simp] theorem exec_vaultFixedTime (g : Guest) : exec (.vaultFixedTime g) s = execVaultFixedTime g s := rfl
@[simp] theorem exec_stagingWindowWrite (g : Guest) (off : Nat) (bytes : List Byte) : exec (.stagingWindowWrite g off bytes) s = execStagingWindowWrite g off bytes s := rfl
@[simp] theorem exec_stagingBodyComplete (c : Fin 3) (readback : Bool) : exec (.stagingBodyComplete c readback) s = execStagingBodyComplete c readback s := rfl
@[simp] theorem exec_stagingTimeout (c : Fin 3) : exec (.stagingTimeout c) s = execStagingTimeout c s := rfl
@[simp] theorem exec_nfcPoll (ext : Bool) (cards : List CardInfo) : exec (.nfcPoll ext cards) s = execNfcPoll ext cards s := rfl
@[simp] theorem exec_nfcPresenceCheck (present : Bool) : exec (.nfcPresenceCheck present) s = execNfcPresenceCheck present s := rfl
@[simp] theorem exec_nfcHoldTimeout : exec (.nfcHoldTimeout) s = execNfcHoldTimeout s := rfl
@[simp] theorem exec_tagFieldOn : exec (.tagFieldOn) s = execTagFieldOn s := rfl
@[simp] theorem exec_tagFieldLost : exec (.tagFieldLost) s = execTagFieldLost s := rfl
@[simp] theorem exec_select (aid : List Byte) : exec (.select aid) s = execSelect aid s := rfl
@[simp] theorem exec_readPage (page : Nat) : exec (.readPage page) s = execReadPage page s := rfl
@[simp] theorem exec_verify (pw : List Byte) : exec (.verify pw) s = execVerify pw s := rfl
@[simp] theorem exec_getChallenge : exec (.getChallenge) s = execGetChallenge s := rfl
@[simp] theorem exec_mutualAuth (data : List Byte) : exec (.mutualAuth data) s = execMutualAuth data s := rfl
@[simp] theorem exec_deselect : exec (.deselect) s = execDeselect s := rfl
@[simp] theorem exec_tagPageRewrite : exec (.tagPageRewrite) s = execTagPageRewrite s := rfl
@[simp] theorem exec_frameBoundary : exec (.frameBoundary) s = execFrameBoundary s := rfl
@[simp] theorem exec_legalViewRefresh : exec (.legalViewRefresh) s = execLegalViewRefresh s := rfl
@[simp] theorem exec_legalLineAlternate : exec (.legalLineAlternate) s = execLegalLineAlternate s := rfl
@[simp] theorem exec_legalViewCycle : exec (.legalViewCycle) s = execLegalViewCycle s := rfl
@[simp] theorem exec_vfEnableSet : exec (.vfEnableSet) s = execVfEnableSet s := rfl
@[simp] theorem exec_tref10mEdge (glitch : Bool) (rate : Int) : exec (.tref10mEdge glitch rate) s = execTref10mEdge glitch rate s := rfl
@[simp] theorem exec_vbatRestored : exec (.vbatRestored) s = execVbatRestored s := rfl
@[simp] theorem exec_glnVioLoss : exec (.glnVioLoss) s = execGlnVioLoss s := rfl
@[simp] theorem exec_glnVioReturn : exec (.glnVioReturn) s = execGlnVioReturn s := rfl
@[simp] theorem exec_vauxOvervoltageEnd : exec (.vauxOvervoltageEnd) s = execVauxOvervoltageEnd s := rfl
@[simp] theorem exec_offOpen (c : Fin 40) (open_ : Bool) : exec (.offOpen c open_) s = execOffOpen c open_ s := rfl
@[simp] theorem exec_driveWarning (temp used : Nat) (warning : Bool) : exec (.driveWarning temp used warning) s = execDriveWarning temp used warning s := rfl
@[simp] theorem exec_caveInitDone (drive : Option DriveInfo) : exec (.caveInitDone drive) s = execCaveInitDone drive s := rfl
@[simp] theorem exec_stagingRingRead (c : Fin 3) (bytes : List Byte) (d : Desc) : exec (.stagingRingRead c bytes d) s = execStagingRingRead c bytes d s := rfl
@[simp] theorem exec_provisioning : exec (.provisioning) s = execProvisioning s := rfl
@[simp] theorem exec_finalTest : exec (.finalTest) s = execFinalTest s := rfl
@[simp] theorem exec_mbxMbd0Read (path : Path) (g : Guest) (n : Fin 8) : exec (.mbxMbd0Read path g n) s = execMbxMbd0Read path g n s := rfl
@[simp] theorem exec_clockGated (b : Blk) : exec (.clockGated b) s = execClockGated b s := rfl
@[simp] theorem exec_clockStarted (b : Blk) : exec (.clockStarted b) s = execClockStarted b s := rfl
@[simp] theorem exec_lockFbChange (p : Port) (closed : Bool) : exec (.lockFbChange p closed) s = execLockFbChange p closed s := rfl
@[simp] theorem exec_protocolError (p : Port) : exec (.protocolError p) s = execProtocolError p s := rfl
@[simp] theorem exec_badChannelMessage (dom : Fin 3) : exec (.badChannelMessage dom) s = execBadChannelMessage dom s := rfl
@[simp] theorem exec_firewallAccess (dom : Fin 4) : exec (.firewallAccess dom) s = execFirewallAccess dom s := rfl
@[simp] theorem exec_reqa (f : TagFrame) : exec (.reqa f) s = execReqa f s := rfl

end Sys2Proof.Machine
end

