-- ==== Sys2Proof/Laws/Host.lean ====
section
/-! SUPPORT. What an access to a guest's window, a host's write and a configuration request come to where they are allowed and no
violation: the effect, and for PCIe the HOST activity of R44. -/

namespace Sys2Proof.Machine

variable {s : State} {path : Path} {g : Guest} {off be : Nat} {shape : Bool} {f : State → State}

theorem State.gln_of_canRead (h : s.canRead path g = true) : (path = .gln && s.host.gln.isNone) = false := by
  cases path
  · rfl
  · cases e : s.host.gln <;> simp_all [State.canRead]

theorem State.canRead_of_canWrite (h : s.canWrite path g = true) : s.canRead path g = true := by
  cases path <;> simp_all [State.canRead, State.canWrite]

@[simp] theorem State.hostActive_gln : s.hostActive .gln = s := by simp [State.hostActive]

@[simp] theorem State.access_read (h : s.canRead path g = true) (v : s.violKind path g off false shape = none) :
    s.access path g off false be shape f = (f s).hostActive path := by
  simp [State.access, State.gln_of_canRead h, h, v]

@[simp] theorem State.access_write (h : s.canWrite path g = true) (v : s.violKind path g off true shape = none) :
    s.access path g off true be shape f = (f s).hostActive path := by
  simp [State.access, State.gln_of_canRead (State.canRead_of_canWrite h), h, v]

@[simp] theorem State.hostWrite_may (h : s.canWrite path g = true) : s.hostWrite path g f = (f s).hostActive path := by
  simp [State.hostWrite, h]

@[simp] theorem State.cfgRequest_ready (h : s.host.rrs = false) : s.cfgRequest g f = (f s).hostActive .pcie := by simp [State.cfgRequest, h]

theorem blockPort_staging (h : inStaging off = true) : blockPort off = none := by
  simp only [inStaging, inRange, Bool.and_eq_true, decide_eq_true_eq] at h
  simp only [blockPort, Option.map_eq_none_iff, List.find?_eq_none, portBlocks]
  intro b hb
  simp only [List.mem_cons, List.not_mem_nil, or_false] at hb
  rcases hb with rfl | rfl | rfl | rfl | rfl | rfl | rfl | rfl | rfl | rfl | rfl <;> simp <;> omega

theorem mbxOf_staging (h : inStaging off = true) : mbxOf off = none := by
  simp only [inStaging, inRange, Bool.and_eq_true, decide_eq_true_eq] at h
  have e : inRange 0x1000 0x1FFF off = false := by simp [inRange]; omega
  simp [mbxOf, e]

/-- What a write of the staging window violates: nothing with STAGING, and without it the right of kind 4. -/
theorem State.violKind_staging (h : inStaging off = true) :
    s.violKind path g off true shape = if (s.gcfg g).staging then none else some 4 := by
  cases e : (s.gcfg g).staging <;>
    simp [State.violKind, firstReason, h, e, State.hiddenPort, State.otherMbx, blockPort_staging h, mbxOf_staging h]

end Sys2Proof.Machine
end

