-- ==== Sys2Proof/Laws/Mesh.lean ====
section
/-! SUPPORT. What a mesh frame that is taken does. -/

namespace Sys2Proof.Machine

theorem State.knowNbr_seen (s : State) (a : Nat) : (s.knowNbr a).msh.seen = s.msh.seen := by
  unfold State.knowNbr; split <;> rfl

theorem State.meshRx_takes {s : State} {m : MHdr} {b : MBody} (eat : State → State) (c : s.meshTakes m b = true) :
    s.meshRx m b eat = s.meshAct m b eat := by
  simp only [State.meshTakes, Bool.and_eq_true] at c
  obtain ⟨⟨⟨⟨c1, c0⟩, c2⟩, c3⟩, c4⟩ := c
  have c0' : (s.sys.power == PowerState.doze && !b.ofSleep) = false := by
    simp only [Bool.or_eq_true, bne_iff_ne, ne_eq] at c0
    rcases c0 with c0 | c0 <;> simp [c0]
  have c3' : (m.src != 0 && m.src == s.chn.addr) = false := by
    simp only [Bool.or_eq_true, beq_iff_eq, bne_iff_ne] at c3
    rcases c3 with c3 | c3 <;> simp [c3]
  have hs : ∀ t : State, (if m.linkDst = 255 then (t.knowNbr m.linkSrc).modMsh fun x => { x with rx := satInc 0xFFFFFFFF x.rx }
      else ((t.knowNbr m.linkSrc).modMsh fun x => { x with rx := satInc 0xFFFFFFFF x.rx }).emit (.meshAck m.linkSrc m.seq (s.controlAck m.linkSrc m.seq))).msh.seen =
        t.msh.seen := by
    intro t; split <;> exact State.knowNbr_seen t _
  unfold State.meshRx State.meshAct State.meshReceived
  simp only [c1, c2, c3', c0', Bool.not_true, Bool.or_self, Bool.false_eq_true, if_false, hs]
  by_cases h : m.dst = 255
  · simp only [h, beq_self_eq_true, if_true] at c4 ⊢
    have c5 : ((s.msh.seen.filter fun x => (s.time.chain ≤ x.2.2 + 100000000 : Bool)).any fun x => x.1 == m.src && x.2.1 == m.seq)
        = false := by
      simpa [List.any_filter, Bool.and_assoc] using c4
    simp only [c5, Bool.false_eq_true, if_false]
  · have h' : (m.dst == 255) = false := by simpa using h
    simp only [h', Bool.false_eq_true, if_false, beq_iff_eq] at c4
    rw [if_neg h, if_neg h, if_neg h, if_pos c4]

end Sys2Proof.Machine
end

