-- ==== Sys2Proof/Laws/State.lean ====
section
/-! SUPPORT. What an updater of one part of the state leaves in every part: true by rfl. -/

namespace Sys2Proof.Machine

@[simp] theorem ix_upd_same {α : Type} {n : Nat} (v : Vector α n) (i : Fin n) (f : α → α) :
    ix (upd v i f) i = f (ix v i) := by
  simp [upd, ix]

theorem ix_upd_ne {α : Type} {n : Nat} (v : Vector α n) (i j : Fin n) (f : α → α) (h : i ≠ j) :
    ix (upd v i f) j = ix v j := by
  have : (i : Nat) ≠ j := fun e => h (Fin.ext e)
  simp [upd, ix, this]

@[simp] theorem ix_vmap {α β : Type} {n : Nat} (f : α → β) (v : Vector α n) (i : Fin n) : ix (vmap f v) i = f (ix v i) := by
  simp [vmap, ix]
@[simp] theorem ix_replicate {α : Type} {n : Nat} (a : α) (i : Fin n) : ix (Vector.replicate n a) i = a := by
  simp [ix]
@[simp] theorem vall_iff {α : Type} {n : Nat} (p : α → Bool) (v : Vector α n) : vall p v = true ↔ ∀ i, p (ix v i) = true := by
  simp [vall, idx]
@[simp] theorem vany_iff {α : Type} {n : Nat} (p : α → Bool) (v : Vector α n) : vany p v = true ↔ ∃ i, p (ix v i) = true := by
  simp [vany, idx]

@[simp] theorem State.modSys_sys (s : State) (f : Sys → Sys) : (s.modSys f).sys = f s.sys := rfl
@[simp] theorem State.modSys_time (s : State) (f : Sys → Sys) : (s.modSys f).time = s.time := rfl
@[simp] theorem State.modSys_host (s : State) (f : Sys → Sys) : (s.modSys f).host = s.host := rfl
@[simp] theorem State.modSys_conf (s : State) (f : Sys → Sys) : (s.modSys f).conf = s.conf := rfl
@[simp] theorem State.modSys_veh (s : State) (f : Sys → Sys) : (s.modSys f).veh = s.veh := rfl
@[simp] theorem State.modSys_ses (s : State) (f : Sys → Sys) : (s.modSys f).ses = s.ses := rfl
@[simp] theorem State.modSys_pwr (s : State) (f : Sys → Sys) : (s.modSys f).pwr = s.pwr := rfl
@[simp] theorem State.modSys_pm (s : State) (f : Sys → Sys) : (s.modSys f).pm = s.pm := rfl
@[simp] theorem State.modSys_lease (s : State) (f : Sys → Sys) : (s.modSys f).lease = s.lease := rfl
@[simp] theorem State.modSys_legal (s : State) (f : Sys → Sys) : (s.modSys f).legal = s.legal := rfl
@[simp] theorem State.modSys_sl (s : State) (f : Sys → Sys) : (s.modSys f).sl = s.sl := rfl
@[simp] theorem State.modSys_met (s : State) (f : Sys → Sys) : (s.modSys f).met = s.met := rfl
@[simp] theorem State.modSys_nrg (s : State) (f : Sys → Sys) : (s.modSys f).nrg = s.nrg := rfl
@[simp] theorem State.modSys_bil (s : State) (f : Sys → Sys) : (s.modSys f).bil = s.bil := rfl
@[simp] theorem State.modSys_pq (s : State) (f : Sys → Sys) : (s.modSys f).pq = s.pq := rfl
@[simp] theorem State.modSys_jnl (s : State) (f : Sys → Sys) : (s.modSys f).jnl = s.jnl := rfl
@[simp] theorem State.modSys_cave (s : State) (f : Sys → Sys) : (s.modSys f).cave = s.cave := rfl
@[simp] theorem State.modSys_rind (s : State) (f : Sys → Sys) : (s.modSys f).rind = s.rind := rfl
@[simp] theorem State.modSys_keys (s : State) (f : Sys → Sys) : (s.modSys f).keys = s.keys := rfl
@[simp] theorem State.modSys_fw (s : State) (f : Sys → Sys) : (s.modSys f).fw = s.fw := rfl
@[simp] theorem State.modSys_saf (s : State) (f : Sys → Sys) : (s.modSys f).saf = s.saf := rfl
@[simp] theorem State.modSys_sp (s : State) (f : Sys → Sys) : (s.modSys f).sp = s.sp := rfl
@[simp] theorem State.modSys_brk (s : State) (f : Sys → Sys) : (s.modSys f).brk = s.brk := rfl
@[simp] theorem State.modSys_ls (s : State) (f : Sys → Sys) : (s.modSys f).ls = s.ls := rfl
@[simp] theorem State.modSys_lk (s : State) (f : Sys → Sys) : (s.modSys f).lk = s.lk := rfl
@[simp] theorem State.modSys_chn (s : State) (f : Sys → Sys) : (s.modSys f).chn = s.chn := rfl
@[simp] theorem State.modSys_msh (s : State) (f : Sys → Sys) : (s.modSys f).msh = s.msh := rfl
@[simp] theorem State.modSys_nfc (s : State) (f : Sys → Sys) : (s.modSys f).nfc = s.nfc := rfl
@[simp] theorem State.modSys_dsp (s : State) (f : Sys → Sys) : (s.modSys f).dsp = s.dsp := rfl
@[simp] theorem State.modSys_sent (s : State) (f : Sys → Sys) : (s.modSys f).sent = s.sent := rfl
@[simp] theorem State.modSys_free (s : State) (f : Sys → Sys) : (s.modSys f).free = s.free := rfl
@[simp] theorem State.modSys_pending (s : State) (f : Sys → Sys) : (s.modSys f).pending = s.pending := rfl
@[simp] theorem State.modTime_sys (s : State) (f : Time → Time) : (s.modTime f).sys = s.sys := rfl
@[simp] theorem State.modTime_time (s : State) (f : Time → Time) : (s.modTime f).time = f s.time := rfl
@[simp] theorem State.modTime_host (s : State) (f : Time → Time) : (s.modTime f).host = s.host := rfl
@[simp] theorem State.modTime_conf (s : State) (f : Time → Time) : (s.modTime f).conf = s.conf := rfl
@[simp] theorem State.modTime_veh (s : State) (f : Time → Time) : (s.modTime f).veh = s.veh := rfl
@[simp] theorem State.modTime_ses (s : State) (f : Time → Time) : (s.modTime f).ses = s.ses := rfl
@[simp] theorem State.modTime_pwr (s : State) (f : Time → Time) : (s.modTime f).pwr = s.pwr := rfl
@[simp] theorem State.modTime_pm (s : State) (f : Time → Time) : (s.modTime f).pm = s.pm := rfl
@[simp] theorem State.modTime_lease (s : State) (f : Time → Time) : (s.modTime f).lease = s.lease := rfl
@[simp] theorem State.modTime_legal (s : State) (f : Time → Time) : (s.modTime f).legal = s.legal := rfl
@[simp] theorem State.modTime_sl (s : State) (f : Time → Time) : (s.modTime f).sl = s.sl := rfl
@[simp] theorem State.modTime_met (s : State) (f : Time → Time) : (s.modTime f).met = s.met := rfl
@[simp] theorem State.modTime_nrg (s : State) (f : Time → Time) : (s.modTime f).nrg = s.nrg := rfl
@[simp] theorem State.modTime_bil (s : State) (f : Time → Time) : (s.modTime f).bil = s.bil := rfl
@[simp] theorem State.modTime_pq (s : State) (f : Time → Time) : (s.modTime f).pq = s.pq := rfl
@[simp] theorem State.modTime_jnl (s : State) (f : Time → Time) : (s.modTime f).jnl = s.jnl := rfl
@[simp] theorem State.modTime_cave (s : State) (f : Time → Time) : (s.modTime f).cave = s.cave := rfl
@[simp] theorem State.modTime_rind (s : State) (f : Time → Time) : (s.modTime f).rind = s.rind := rfl
@[simp] theorem State.modTime_keys (s : State) (f : Time → Time) : (s.modTime f).keys = s.keys := rfl
@[simp] theorem State.modTime_fw (s : State) (f : Time → Time) : (s.modTime f).fw = s.fw := rfl
@[simp] theorem State.modTime_saf (s : State) (f : Time → Time) : (s.modTime f).saf = s.saf := rfl
@[simp] theorem State.modTime_sp (s : State) (f : Time → Time) : (s.modTime f).sp = s.sp := rfl
@[simp] theorem State.modTime_brk (s : State) (f : Time → Time) : (s.modTime f).brk = s.brk := rfl
@[simp] theorem State.modTime_ls (s : State) (f : Time → Time) : (s.modTime f).ls = s.ls := rfl
@[simp] theorem State.modTime_lk (s : State) (f : Time → Time) : (s.modTime f).lk = s.lk := rfl
@[simp] theorem State.modTime_chn (s : State) (f : Time → Time) : (s.modTime f).chn = s.chn := rfl
@[simp] theorem State.modTime_msh (s : State) (f : Time → Time) : (s.modTime f).msh = s.msh := rfl
@[simp] theorem State.modTime_nfc (s : State) (f : Time → Time) : (s.modTime f).nfc = s.nfc := rfl
@[simp] theorem State.modTime_dsp (s : State) (f : Time → Time) : (s.modTime f).dsp = s.dsp := rfl
@[simp] theorem State.modTime_sent (s : State) (f : Time → Time) : (s.modTime f).sent = s.sent := rfl
@[simp] theorem State.modTime_free (s : State) (f : Time → Time) : (s.modTime f).free = s.free := rfl
@[simp] theorem State.modTime_pending (s : State) (f : Time → Time) : (s.modTime f).pending = s.pending := rfl
@[simp] theorem State.modHost_sys (s : State) (f : HostSt → HostSt) : (s.modHost f).sys = s.sys := rfl
@[simp] theorem State.modHost_time (s : State) (f : HostSt → HostSt) : (s.modHost f).time = s.time := rfl
@[simp] theorem State.modHost_host (s : State) (f : HostSt → HostSt) : (s.modHost f).host = f s.host := rfl
@[simp] theorem State.modHost_conf (s : State) (f : HostSt → HostSt) : (s.modHost f).conf = s.conf := rfl
@[simp] theorem State.modHost_veh (s : State) (f : HostSt → HostSt) : (s.modHost f).veh = s.veh := rfl
@[simp] theorem State.modHost_ses (s : State) (f : HostSt → HostSt) : (s.modHost f).ses = s.ses := rfl
@[simp] theorem State.modHost_pwr (s : State) (f : HostSt → HostSt) : (s.modHost f).pwr = s.pwr := rfl
@[simp] theorem State.modHost_pm (s : State) (f : HostSt → HostSt) : (s.modHost f).pm = s.pm := rfl
@[simp] theorem State.modHost_lease (s : State) (f : HostSt → HostSt) : (s.modHost f).lease = s.lease := rfl
@[simp] theorem State.modHost_legal (s : State) (f : HostSt → HostSt) : (s.modHost f).legal = s.legal := rfl
@[simp] theorem State.modHost_sl (s : State) (f : HostSt → HostSt) : (s.modHost f).sl = s.sl := rfl
@[simp] theorem State.modHost_met (s : State) (f : HostSt → HostSt) : (s.modHost f).met = s.met := rfl
@[simp] theorem State.modHost_nrg (s : State) (f : HostSt → HostSt) : (s.modHost f).nrg = s.nrg := rfl
@[simp] theorem State.modHost_bil (s : State) (f : HostSt → HostSt) : (s.modHost f).bil = s.bil := rfl
@[simp] theorem State.modHost_pq (s : State) (f : HostSt → HostSt) : (s.modHost f).pq = s.pq := rfl
@[simp] theorem State.modHost_jnl (s : State) (f : HostSt → HostSt) : (s.modHost f).jnl = s.jnl := rfl
@[simp] theorem State.modHost_cave (s : State) (f : HostSt → HostSt) : (s.modHost f).cave = s.cave := rfl
@[simp] theorem State.modHost_rind (s : State) (f : HostSt → HostSt) : (s.modHost f).rind = s.rind := rfl
@[simp] theorem State.modHost_keys (s : State) (f : HostSt → HostSt) : (s.modHost f).keys = s.keys := rfl
@[simp] theorem State.modHost_fw (s : State) (f : HostSt → HostSt) : (s.modHost f).fw = s.fw := rfl
@[simp] theorem State.modHost_saf (s : State) (f : HostSt → HostSt) : (s.modHost f).saf = s.saf := rfl
@[simp] theorem State.modHost_sp (s : State) (f : HostSt → HostSt) : (s.modHost f).sp = s.sp := rfl
@[simp] theorem State.modHost_brk (s : State) (f : HostSt → HostSt) : (s.modHost f).brk = s.brk := rfl
@[simp] theorem State.modHost_ls (s : State) (f : HostSt → HostSt) : (s.modHost f).ls = s.ls := rfl
@[simp] theorem State.modHost_lk (s : State) (f : HostSt → HostSt) : (s.modHost f).lk = s.lk := rfl
@[simp] theorem State.modHost_chn (s : State) (f : HostSt → HostSt) : (s.modHost f).chn = s.chn := rfl
@[simp] theorem State.modHost_msh (s : State) (f : HostSt → HostSt) : (s.modHost f).msh = s.msh := rfl
@[simp] theorem State.modHost_nfc (s : State) (f : HostSt → HostSt) : (s.modHost f).nfc = s.nfc := rfl
@[simp] theorem State.modHost_dsp (s : State) (f : HostSt → HostSt) : (s.modHost f).dsp = s.dsp := rfl
@[simp] theorem State.modHost_sent (s : State) (f : HostSt → HostSt) : (s.modHost f).sent = s.sent := rfl
@[simp] theorem State.modHost_free (s : State) (f : HostSt → HostSt) : (s.modHost f).free = s.free := rfl
@[simp] theorem State.modHost_pending (s : State) (f : HostSt → HostSt) : (s.modHost f).pending = s.pending := rfl
@[simp] theorem State.modConf_sys (s : State) (f : CfgSt → CfgSt) : (s.modConf f).sys = s.sys := rfl
@[simp] theorem State.modConf_time (s : State) (f : CfgSt → CfgSt) : (s.modConf f).time = s.time := rfl
@[simp] theorem State.modConf_host (s : State) (f : CfgSt → CfgSt) : (s.modConf f).host = s.host := rfl
@[simp] theorem State.modConf_conf (s : State) (f : CfgSt → CfgSt) : (s.modConf f).conf = f s.conf := rfl
@[simp] theorem State.modConf_veh (s : State) (f : CfgSt → CfgSt) : (s.modConf f).veh = s.veh := rfl
@[simp] theorem State.modConf_ses (s : State) (f : CfgSt → CfgSt) : (s.modConf f).ses = s.ses := rfl
@[simp] theorem State.modConf_pwr (s : State) (f : CfgSt → CfgSt) : (s.modConf f).pwr = s.pwr := rfl
@[simp] theorem State.modConf_pm (s : State) (f : CfgSt → CfgSt) : (s.modConf f).pm = s.pm := rfl
@[simp] theorem State.modConf_lease (s : State) (f : CfgSt → CfgSt) : (s.modConf f).lease = s.lease := rfl
@[simp] theorem State.modConf_legal (s : State) (f : CfgSt → CfgSt) : (s.modConf f).legal = s.legal := rfl
@[simp] theorem State.modConf_sl (s : State) (f : CfgSt → CfgSt) : (s.modConf f).sl = s.sl := rfl
@[simp] theorem State.modConf_met (s : State) (f : CfgSt → CfgSt) : (s.modConf f).met = s.met := rfl
@[simp] theorem State.modConf_nrg (s : State) (f : CfgSt → CfgSt) : (s.modConf f).nrg = s.nrg := rfl
@[simp] theorem State.modConf_bil (s : State) (f : CfgSt → CfgSt) : (s.modConf f).bil = s.bil := rfl
@[simp] theorem State.modConf_pq (s : State) (f : CfgSt → CfgSt) : (s.modConf f).pq = s.pq := rfl
@[simp] theorem State.modConf_jnl (s : State) (f : CfgSt → CfgSt) : (s.modConf f).jnl = s.jnl := rfl
@[simp] theorem State.modConf_cave (s : State) (f : CfgSt → CfgSt) : (s.modConf f).cave = s.cave := rfl
@[simp] theorem State.modConf_rind (s : State) (f : CfgSt → CfgSt) : (s.modConf f).rind = s.rind := rfl
@[simp] theorem State.modConf_keys (s : State) (f : CfgSt → CfgSt) : (s.modConf f).keys = s.keys := rfl
@[simp] theorem State.modConf_fw (s : State) (f : CfgSt → CfgSt) : (s.modConf f).fw = s.fw := rfl
@[simp] theorem State.modConf_saf (s : State) (f : CfgSt → CfgSt) : (s.modConf f).saf = s.saf := rfl
@[simp] theorem State.modConf_sp (s : State) (f : CfgSt → CfgSt) : (s.modConf f).sp = s.sp := rfl
@[simp] theorem State.modConf_brk (s : State) (f : CfgSt → CfgSt) : (s.modConf f).brk = s.brk := rfl
@[simp] theorem State.modConf_ls (s : State) (f : CfgSt → CfgSt) : (s.modConf f).ls = s.ls := rfl
@[simp] theorem State.modConf_lk (s : State) (f : CfgSt → CfgSt) : (s.modConf f).lk = s.lk := rfl
@[simp] theorem State.modConf_chn (s : State) (f : CfgSt → CfgSt) : (s.modConf f).chn = s.chn := rfl
@[simp] theorem State.modConf_msh (s : State) (f : CfgSt → CfgSt) : (s.modConf f).msh = s.msh := rfl
@[simp] theorem State.modConf_nfc (s : State) (f : CfgSt → CfgSt) : (s.modConf f).nfc = s.nfc := rfl
@[simp] theorem State.modConf_dsp (s : State) (f : CfgSt → CfgSt) : (s.modConf f).dsp = s.dsp := rfl
@[simp] theorem State.modConf_sent (s : State) (f : CfgSt → CfgSt) : (s.modConf f).sent = s.sent := rfl
@[simp] theorem State.modConf_free (s : State) (f : CfgSt → CfgSt) : (s.modConf f).free = s.free := rfl
@[simp] theorem State.modConf_pending (s : State) (f : CfgSt → CfgSt) : (s.modConf f).pending = s.pending := rfl
@[simp] theorem State.modVeh_sys (s : State) (i : Port) (f : Veh → Veh) : (s.modVeh i f).sys = s.sys := rfl
@[simp] theorem State.modVeh_time (s : State) (i : Port) (f : Veh → Veh) : (s.modVeh i f).time = s.time := rfl
@[simp] theorem State.modVeh_host (s : State) (i : Port) (f : Veh → Veh) : (s.modVeh i f).host = s.host := rfl
@[simp] theorem State.modVeh_conf (s : State) (i : Port) (f : Veh → Veh) : (s.modVeh i f).conf = s.conf := rfl
@[simp] theorem State.modVeh_veh (s : State) (i : Port) (f : Veh → Veh) : (s.modVeh i f).veh = upd s.veh i f := rfl
@[simp] theorem State.modVeh_vehAt (s : State) (i : Port) (f : Veh → Veh) : (s.modVeh i f).vehAt i = f (s.vehAt i) := by simp [State.modVeh, State.vehAt]
@[simp] theorem State.modVeh_ses (s : State) (i : Port) (f : Veh → Veh) : (s.modVeh i f).ses = s.ses := rfl
@[simp] theorem State.modVeh_pwr (s : State) (i : Port) (f : Veh → Veh) : (s.modVeh i f).pwr = s.pwr := rfl
@[simp] theorem State.modVeh_pm (s : State) (i : Port) (f : Veh → Veh) : (s.modVeh i f).pm = s.pm := rfl
@[simp] theorem State.modVeh_lease (s : State) (i : Port) (f : Veh → Veh) : (s.modVeh i f).lease = s.lease := rfl
@[simp] theorem State.modVeh_legal (s : State) (i : Port) (f : Veh → Veh) : (s.modVeh i f).legal = s.legal := rfl
@[simp] theorem State.modVeh_sl (s : State) (i : Port) (f : Veh → Veh) : (s.modVeh i f).sl = s.sl := rfl
@[simp] theorem State.modVeh_met (s : State) (i : Port) (f : Veh → Veh) : (s.modVeh i f).met = s.met := rfl
@[simp] theorem State.modVeh_nrg (s : State) (i : Port) (f : Veh → Veh) : (s.modVeh i f).nrg = s.nrg := rfl
@[simp] theorem State.modVeh_bil (s : State) (i : Port) (f : Veh → Veh) : (s.modVeh i f).bil = s.bil := rfl
@[simp] theorem State.modVeh_pq (s : State) (i : Port) (f : Veh → Veh) : (s.modVeh i f).pq = s.pq := rfl
@[simp] theorem State.modVeh_jnl (s : State) (i : Port) (f : Veh → Veh) : (s.modVeh i f).jnl = s.jnl := rfl
@[simp] theorem State.modVeh_cave (s : State) (i : Port) (f : Veh → Veh) : (s.modVeh i f).cave = s.cave := rfl
@[simp] theorem State.modVeh_rind (s : State) (i : Port) (f : Veh → Veh) : (s.modVeh i f).rind = s.rind := rfl
@[simp] theorem State.modVeh_keys (s : State) (i : Port) (f : Veh → Veh) : (s.modVeh i f).keys = s.keys := rfl
@[simp] theorem State.modVeh_fw (s : State) (i : Port) (f : Veh → Veh) : (s.modVeh i f).fw = s.fw := rfl
@[simp] theorem State.modVeh_saf (s : State) (i : Port) (f : Veh → Veh) : (s.modVeh i f).saf = s.saf := rfl
@[simp] theorem State.modVeh_sp (s : State) (i : Port) (f : Veh → Veh) : (s.modVeh i f).sp = s.sp := rfl
@[simp] theorem State.modVeh_brk (s : State) (i : Port) (f : Veh → Veh) : (s.modVeh i f).brk = s.brk := rfl
@[simp] theorem State.modVeh_ls (s : State) (i : Port) (f : Veh → Veh) : (s.modVeh i f).ls = s.ls := rfl
@[simp] theorem State.modVeh_lk (s : State) (i : Port) (f : Veh → Veh) : (s.modVeh i f).lk = s.lk := rfl
@[simp] theorem State.modVeh_chn (s : State) (i : Port) (f : Veh → Veh) : (s.modVeh i f).chn = s.chn := rfl
@[simp] theorem State.modVeh_msh (s : State) (i : Port) (f : Veh → Veh) : (s.modVeh i f).msh = s.msh := rfl
@[simp] theorem State.modVeh_nfc (s : State) (i : Port) (f : Veh → Veh) : (s.modVeh i f).nfc = s.nfc := rfl
@[simp] theorem State.modVeh_dsp (s : State) (i : Port) (f : Veh → Veh) : (s.modVeh i f).dsp = s.dsp := rfl
@[simp] theorem State.modVeh_sent (s : State) (i : Port) (f : Veh → Veh) : (s.modVeh i f).sent = s.sent := rfl
@[simp] theorem State.modVeh_free (s : State) (i : Port) (f : Veh → Veh) : (s.modVeh i f).free = s.free := rfl
@[simp] theorem State.modVeh_pending (s : State) (i : Port) (f : Veh → Veh) : (s.modVeh i f).pending = s.pending := rfl
@[simp] theorem State.modSes_sys (s : State) (i : Port) (f : Ses → Ses) : (s.modSes i f).sys = s.sys := rfl
@[simp] theorem State.modSes_time (s : State) (i : Port) (f : Ses → Ses) : (s.modSes i f).time = s.time := rfl
@[simp] theorem State.modSes_host (s : State) (i : Port) (f : Ses → Ses) : (s.modSes i f).host = s.host := rfl
@[simp] theorem State.modSes_conf (s : State) (i : Port) (f : Ses → Ses) : (s.modSes i f).conf = s.conf := rfl
@[simp] theorem State.modSes_veh (s : State) (i : Port) (f : Ses → Ses) : (s.modSes i f).veh = s.veh := rfl
@[simp] theorem State.modSes_ses (s : State) (i : Port) (f : Ses → Ses) : (s.modSes i f).ses = upd s.ses i f := rfl
@[simp] theorem State.modSes_sesAt (s : State) (i : Port) (f : Ses → Ses) : (s.modSes i f).sesAt i = f (s.sesAt i) := by simp [State.modSes, State.sesAt]
@[simp] theorem State.modSes_pwr (s : State) (i : Port) (f : Ses → Ses) : (s.modSes i f).pwr = s.pwr := rfl
@[simp] theorem State.modSes_pm (s : State) (i : Port) (f : Ses → Ses) : (s.modSes i f).pm = s.pm := rfl
@[simp] theorem State.modSes_lease (s : State) (i : Port) (f : Ses → Ses) : (s.modSes i f).lease = s.lease := rfl
@[simp] theorem State.modSes_legal (s : State) (i : Port) (f : Ses → Ses) : (s.modSes i f).legal = s.legal := rfl
@[simp] theorem State.modSes_sl (s : State) (i : Port) (f : Ses → Ses) : (s.modSes i f).sl = s.sl := rfl
@[simp] theorem State.modSes_met (s : State) (i : Port) (f : Ses → Ses) : (s.modSes i f).met = s.met := rfl
@[simp] theorem State.modSes_nrg (s : State) (i : Port) (f : Ses → Ses) : (s.modSes i f).nrg = s.nrg := rfl
@[simp] theorem State.modSes_bil (s : State) (i : Port) (f : Ses → Ses) : (s.modSes i f).bil = s.bil := rfl
@[simp] theorem State.modSes_pq (s : State) (i : Port) (f : Ses → Ses) : (s.modSes i f).pq = s.pq := rfl
@[simp] theorem State.modSes_jnl (s : State) (i : Port) (f : Ses → Ses) : (s.modSes i f).jnl = s.jnl := rfl
@[simp] theorem State.modSes_cave (s : State) (i : Port) (f : Ses → Ses) : (s.modSes i f).cave = s.cave := rfl
@[simp] theorem State.modSes_rind (s : State) (i : Port) (f : Ses → Ses) : (s.modSes i f).rind = s.rind := rfl
@[simp] theorem State.modSes_keys (s : State) (i : Port) (f : Ses → Ses) : (s.modSes i f).keys = s.keys := rfl
@[simp] theorem State.modSes_fw (s : State) (i : Port) (f : Ses → Ses) : (s.modSes i f).fw = s.fw := rfl
@[simp] theorem State.modSes_saf (s : State) (i : Port) (f : Ses → Ses) : (s.modSes i f).saf = s.saf := rfl
@[simp] theorem State.modSes_sp (s : State) (i : Port) (f : Ses → Ses) : (s.modSes i f).sp = s.sp := rfl
@[simp] theorem State.modSes_brk (s : State) (i : Port) (f : Ses → Ses) : (s.modSes i f).brk = s.brk := rfl
@[simp] theorem State.modSes_ls (s : State) (i : Port) (f : Ses → Ses) : (s.modSes i f).ls = s.ls := rfl
@[simp] theorem State.modSes_lk (s : State) (i : Port) (f : Ses → Ses) : (s.modSes i f).lk = s.lk := rfl
@[simp] theorem State.modSes_chn (s : State) (i : Port) (f : Ses → Ses) : (s.modSes i f).chn = s.chn := rfl
@[simp] theorem State.modSes_msh (s : State) (i : Port) (f : Ses → Ses) : (s.modSes i f).msh = s.msh := rfl
@[simp] theorem State.modSes_nfc (s : State) (i : Port) (f : Ses → Ses) : (s.modSes i f).nfc = s.nfc := rfl
@[simp] theorem State.modSes_dsp (s : State) (i : Port) (f : Ses → Ses) : (s.modSes i f).dsp = s.dsp := rfl
@[simp] theorem State.modSes_sent (s : State) (i : Port) (f : Ses → Ses) : (s.modSes i f).sent = s.sent := rfl
@[simp] theorem State.modSes_free (s : State) (i : Port) (f : Ses → Ses) : (s.modSes i f).free = s.free := rfl
@[simp] theorem State.modSes_pending (s : State) (i : Port) (f : Ses → Ses) : (s.modSes i f).pending = s.pending := rfl
@[simp] theorem State.modPwr_sys (s : State) (i : Port) (f : Pwr → Pwr) : (s.modPwr i f).sys = s.sys := rfl
@[simp] theorem State.modPwr_time (s : State) (i : Port) (f : Pwr → Pwr) : (s.modPwr i f).time = s.time := rfl
@[simp] theorem State.modPwr_host (s : State) (i : Port) (f : Pwr → Pwr) : (s.modPwr i f).host = s.host := rfl
@[simp] theorem State.modPwr_conf (s : State) (i : Port) (f : Pwr → Pwr) : (s.modPwr i f).conf = s.conf := rfl
@[simp] theorem State.modPwr_veh (s : State) (i : Port) (f : Pwr → Pwr) : (s.modPwr i f).veh = s.veh := rfl
@[simp] theorem State.modPwr_ses (s : State) (i : Port) (f : Pwr → Pwr) : (s.modPwr i f).ses = s.ses := rfl
@[simp] theorem State.modPwr_pwr (s : State) (i : Port) (f : Pwr → Pwr) : (s.modPwr i f).pwr = upd s.pwr i f := rfl
@[simp] theorem State.modPwr_pwrAt (s : State) (i : Port) (f : Pwr → Pwr) : (s.modPwr i f).pwrAt i = f (s.pwrAt i) := by simp [State.modPwr, State.pwrAt]
@[simp] theorem State.modPwr_pm (s : State) (i : Port) (f : Pwr → Pwr) : (s.modPwr i f).pm = s.pm := rfl
@[simp] theorem State.modPwr_lease (s : State) (i : Port) (f : Pwr → Pwr) : (s.modPwr i f).lease = s.lease := rfl
@[simp] theorem State.modPwr_legal (s : State) (i : Port) (f : Pwr → Pwr) : (s.modPwr i f).legal = s.legal := rfl
@[simp] theorem State.modPwr_sl (s : State) (i : Port) (f : Pwr → Pwr) : (s.modPwr i f).sl = s.sl := rfl
@[simp] theorem State.modPwr_met (s : State) (i : Port) (f : Pwr → Pwr) : (s.modPwr i f).met = s.met := rfl
@[simp] theorem State.modPwr_nrg (s : State) (i : Port) (f : Pwr → Pwr) : (s.modPwr i f).nrg = s.nrg := rfl
@[simp] theorem State.modPwr_bil (s : State) (i : Port) (f : Pwr → Pwr) : (s.modPwr i f).bil = s.bil := rfl
@[simp] theorem State.modPwr_pq (s : State) (i : Port) (f : Pwr → Pwr) : (s.modPwr i f).pq = s.pq := rfl
@[simp] theorem State.modPwr_jnl (s : State) (i : Port) (f : Pwr → Pwr) : (s.modPwr i f).jnl = s.jnl := rfl
@[simp] theorem State.modPwr_cave (s : State) (i : Port) (f : Pwr → Pwr) : (s.modPwr i f).cave = s.cave := rfl
@[simp] theorem State.modPwr_rind (s : State) (i : Port) (f : Pwr → Pwr) : (s.modPwr i f).rind = s.rind := rfl
@[simp] theorem State.modPwr_keys (s : State) (i : Port) (f : Pwr → Pwr) : (s.modPwr i f).keys = s.keys := rfl
@[simp] theorem State.modPwr_fw (s : State) (i : Port) (f : Pwr → Pwr) : (s.modPwr i f).fw = s.fw := rfl
@[simp] theorem State.modPwr_saf (s : State) (i : Port) (f : Pwr → Pwr) : (s.modPwr i f).saf = s.saf := rfl
@[simp] theorem State.modPwr_sp (s : State) (i : Port) (f : Pwr → Pwr) : (s.modPwr i f).sp = s.sp := rfl
@[simp] theorem State.modPwr_brk (s : State) (i : Port) (f : Pwr → Pwr) : (s.modPwr i f).brk = s.brk := rfl
@[simp] theorem State.modPwr_ls (s : State) (i : Port) (f : Pwr → Pwr) : (s.modPwr i f).ls = s.ls := rfl
@[simp] theorem State.modPwr_lk (s : State) (i : Port) (f : Pwr → Pwr) : (s.modPwr i f).lk = s.lk := rfl
@[simp] theorem State.modPwr_chn (s : State) (i : Port) (f : Pwr → Pwr) : (s.modPwr i f).chn = s.chn := rfl
@[simp] theorem State.modPwr_msh (s : State) (i : Port) (f : Pwr → Pwr) : (s.modPwr i f).msh = s.msh := rfl
@[simp] theorem State.modPwr_nfc (s : State) (i : Port) (f : Pwr → Pwr) : (s.modPwr i f).nfc = s.nfc := rfl
@[simp] theorem State.modPwr_dsp (s : State) (i : Port) (f : Pwr → Pwr) : (s.modPwr i f).dsp = s.dsp := rfl
@[simp] theorem State.modPwr_sent (s : State) (i : Port) (f : Pwr → Pwr) : (s.modPwr i f).sent = s.sent := rfl
@[simp] theorem State.modPwr_free (s : State) (i : Port) (f : Pwr → Pwr) : (s.modPwr i f).free = s.free := rfl
@[simp] theorem State.modPwr_pending (s : State) (i : Port) (f : Pwr → Pwr) : (s.modPwr i f).pending = s.pending := rfl
@[simp] theorem State.modPm_sys (s : State) (i : Fin 2) (f : PmLink → PmLink) : (s.modPm i f).sys = s.sys := rfl
@[simp] theorem State.modPm_time (s : State) (i : Fin 2) (f : PmLink → PmLink) : (s.modPm i f).time = s.time := rfl
@[simp] theorem State.modPm_host (s : State) (i : Fin 2) (f : PmLink → PmLink) : (s.modPm i f).host = s.host := rfl
@[simp] theorem State.modPm_conf (s : State) (i : Fin 2) (f : PmLink → PmLink) : (s.modPm i f).conf = s.conf := rfl
@[simp] theorem State.modPm_veh (s : State) (i : Fin 2) (f : PmLink → PmLink) : (s.modPm i f).veh = s.veh := rfl
@[simp] theorem State.modPm_ses (s : State) (i : Fin 2) (f : PmLink → PmLink) : (s.modPm i f).ses = s.ses := rfl
@[simp] theorem State.modPm_pwr (s : State) (i : Fin 2) (f : PmLink → PmLink) : (s.modPm i f).pwr = s.pwr := rfl
@[simp] theorem State.modPm_pm (s : State) (i : Fin 2) (f : PmLink → PmLink) : (s.modPm i f).pm = upd s.pm i f := rfl
@[simp] theorem State.modPm_pmAt (s : State) (i : Fin 2) (f : PmLink → PmLink) : (s.modPm i f).pmAt i = f (s.pmAt i) := by simp [State.modPm, State.pmAt]
@[simp] theorem State.modPm_lease (s : State) (i : Fin 2) (f : PmLink → PmLink) : (s.modPm i f).lease = s.lease := rfl
@[simp] theorem State.modPm_legal (s : State) (i : Fin 2) (f : PmLink → PmLink) : (s.modPm i f).legal = s.legal := rfl
@[simp] theorem State.modPm_sl (s : State) (i : Fin 2) (f : PmLink → PmLink) : (s.modPm i f).sl = s.sl := rfl
@[simp] theorem State.modPm_met (s : State) (i : Fin 2) (f : PmLink → PmLink) : (s.modPm i f).met = s.met := rfl
@[simp] theorem State.modPm_nrg (s : State) (i : Fin 2) (f : PmLink → PmLink) : (s.modPm i f).nrg = s.nrg := rfl
@[simp] theorem State.modPm_bil (s : State) (i : Fin 2) (f : PmLink → PmLink) : (s.modPm i f).bil = s.bil := rfl
@[simp] theorem State.modPm_pq (s : State) (i : Fin 2) (f : PmLink → PmLink) : (s.modPm i f).pq = s.pq := rfl
@[simp] theorem State.modPm_jnl (s : State) (i : Fin 2) (f : PmLink → PmLink) : (s.modPm i f).jnl = s.jnl := rfl
@[simp] theorem State.modPm_cave (s : State) (i : Fin 2) (f : PmLink → PmLink) : (s.modPm i f).cave = s.cave := rfl
@[simp] theorem State.modPm_rind (s : State) (i : Fin 2) (f : PmLink → PmLink) : (s.modPm i f).rind = s.rind := rfl
@[simp] theorem State.modPm_keys (s : State) (i : Fin 2) (f : PmLink → PmLink) : (s.modPm i f).keys = s.keys := rfl
@[simp] theorem State.modPm_fw (s : State) (i : Fin 2) (f : PmLink → PmLink) : (s.modPm i f).fw = s.fw := rfl
@[simp] theorem State.modPm_saf (s : State) (i : Fin 2) (f : PmLink → PmLink) : (s.modPm i f).saf = s.saf := rfl
@[simp] theorem State.modPm_sp (s : State) (i : Fin 2) (f : PmLink → PmLink) : (s.modPm i f).sp = s.sp := rfl
@[simp] theorem State.modPm_brk (s : State) (i : Fin 2) (f : PmLink → PmLink) : (s.modPm i f).brk = s.brk := rfl
@[simp] theorem State.modPm_ls (s : State) (i : Fin 2) (f : PmLink → PmLink) : (s.modPm i f).ls = s.ls := rfl
@[simp] theorem State.modPm_lk (s : State) (i : Fin 2) (f : PmLink → PmLink) : (s.modPm i f).lk = s.lk := rfl
@[simp] theorem State.modPm_chn (s : State) (i : Fin 2) (f : PmLink → PmLink) : (s.modPm i f).chn = s.chn := rfl
@[simp] theorem State.modPm_msh (s : State) (i : Fin 2) (f : PmLink → PmLink) : (s.modPm i f).msh = s.msh := rfl
@[simp] theorem State.modPm_nfc (s : State) (i : Fin 2) (f : PmLink → PmLink) : (s.modPm i f).nfc = s.nfc := rfl
@[simp] theorem State.modPm_dsp (s : State) (i : Fin 2) (f : PmLink → PmLink) : (s.modPm i f).dsp = s.dsp := rfl
@[simp] theorem State.modPm_sent (s : State) (i : Fin 2) (f : PmLink → PmLink) : (s.modPm i f).sent = s.sent := rfl
@[simp] theorem State.modPm_free (s : State) (i : Fin 2) (f : PmLink → PmLink) : (s.modPm i f).free = s.free := rfl
@[simp] theorem State.modPm_pending (s : State) (i : Fin 2) (f : PmLink → PmLink) : (s.modPm i f).pending = s.pending := rfl
@[simp] theorem State.modLease_sys (s : State) (f : Lease → Lease) : (s.modLease f).sys = s.sys := rfl
@[simp] theorem State.modLease_time (s : State) (f : Lease → Lease) : (s.modLease f).time = s.time := rfl
@[simp] theorem State.modLease_host (s : State) (f : Lease → Lease) : (s.modLease f).host = s.host := rfl
@[simp] theorem State.modLease_conf (s : State) (f : Lease → Lease) : (s.modLease f).conf = s.conf := rfl
@[simp] theorem State.modLease_veh (s : State) (f : Lease → Lease) : (s.modLease f).veh = s.veh := rfl
@[simp] theorem State.modLease_ses (s : State) (f : Lease → Lease) : (s.modLease f).ses = s.ses := rfl
@[simp] theorem State.modLease_pwr (s : State) (f : Lease → Lease) : (s.modLease f).pwr = s.pwr := rfl
@[simp] theorem State.modLease_pm (s : State) (f : Lease → Lease) : (s.modLease f).pm = s.pm := rfl
@[simp] theorem State.modLease_lease (s : State) (f : Lease → Lease) : (s.modLease f).lease = f s.lease := rfl
@[simp] theorem State.modLease_legal (s : State) (f : Lease → Lease) : (s.modLease f).legal = s.legal := rfl
@[simp] theorem State.modLease_sl (s : State) (f : Lease → Lease) : (s.modLease f).sl = s.sl := rfl
@[simp] theorem State.modLease_met (s : State) (f : Lease → Lease) : (s.modLease f).met = s.met := rfl
@[simp] theorem State.modLease_nrg (s : State) (f : Lease → Lease) : (s.modLease f).nrg = s.nrg := rfl
@[simp] theorem State.modLease_bil (s : State) (f : Lease → Lease) : (s.modLease f).bil = s.bil := rfl
@[simp] theorem State.modLease_pq (s : State) (f : Lease → Lease) : (s.modLease f).pq = s.pq := rfl
@[simp] theorem State.modLease_jnl (s : State) (f : Lease → Lease) : (s.modLease f).jnl = s.jnl := rfl
@[simp] theorem State.modLease_cave (s : State) (f : Lease → Lease) : (s.modLease f).cave = s.cave := rfl
@[simp] theorem State.modLease_rind (s : State) (f : Lease → Lease) : (s.modLease f).rind = s.rind := rfl
@[simp] theorem State.modLease_keys (s : State) (f : Lease → Lease) : (s.modLease f).keys = s.keys := rfl
@[simp] theorem State.modLease_fw (s : State) (f : Lease → Lease) : (s.modLease f).fw = s.fw := rfl
@[simp] theorem State.modLease_saf (s : State) (f : Lease → Lease) : (s.modLease f).saf = s.saf := rfl
@[simp] theorem State.modLease_sp (s : State) (f : Lease → Lease) : (s.modLease f).sp = s.sp := rfl
@[simp] theorem State.modLease_brk (s : State) (f : Lease → Lease) : (s.modLease f).brk = s.brk := rfl
@[simp] theorem State.modLease_ls (s : State) (f : Lease → Lease) : (s.modLease f).ls = s.ls := rfl
@[simp] theorem State.modLease_lk (s : State) (f : Lease → Lease) : (s.modLease f).lk = s.lk := rfl
@[simp] theorem State.modLease_chn (s : State) (f : Lease → Lease) : (s.modLease f).chn = s.chn := rfl
@[simp] theorem State.modLease_msh (s : State) (f : Lease → Lease) : (s.modLease f).msh = s.msh := rfl
@[simp] theorem State.modLease_nfc (s : State) (f : Lease → Lease) : (s.modLease f).nfc = s.nfc := rfl
@[simp] theorem State.modLease_dsp (s : State) (f : Lease → Lease) : (s.modLease f).dsp = s.dsp := rfl
@[simp] theorem State.modLease_sent (s : State) (f : Lease → Lease) : (s.modLease f).sent = s.sent := rfl
@[simp] theorem State.modLease_free (s : State) (f : Lease → Lease) : (s.modLease f).free = s.free := rfl
@[simp] theorem State.modLease_pending (s : State) (f : Lease → Lease) : (s.modLease f).pending = s.pending := rfl
@[simp] theorem State.modLegal_sys (s : State) (f : Legal → Legal) : (s.modLegal f).sys = s.sys := rfl
@[simp] theorem State.modLegal_time (s : State) (f : Legal → Legal) : (s.modLegal f).time = s.time := rfl
@[simp] theorem State.modLegal_host (s : State) (f : Legal → Legal) : (s.modLegal f).host = s.host := rfl
@[simp] theorem State.modLegal_conf (s : State) (f : Legal → Legal) : (s.modLegal f).conf = s.conf := rfl
@[simp] theorem State.modLegal_veh (s : State) (f : Legal → Legal) : (s.modLegal f).veh = s.veh := rfl
@[simp] theorem State.modLegal_ses (s : State) (f : Legal → Legal) : (s.modLegal f).ses = s.ses := rfl
@[simp] theorem State.modLegal_pwr (s : State) (f : Legal → Legal) : (s.modLegal f).pwr = s.pwr := rfl
@[simp] theorem State.modLegal_pm (s : State) (f : Legal → Legal) : (s.modLegal f).pm = s.pm := rfl
@[simp] theorem State.modLegal_lease (s : State) (f : Legal → Legal) : (s.modLegal f).lease = s.lease := rfl
@[simp] theorem State.modLegal_legal (s : State) (f : Legal → Legal) : (s.modLegal f).legal = f s.legal := rfl
@[simp] theorem State.modLegal_sl (s : State) (f : Legal → Legal) : (s.modLegal f).sl = s.sl := rfl
@[simp] theorem State.modLegal_met (s : State) (f : Legal → Legal) : (s.modLegal f).met = s.met := rfl
@[simp] theorem State.modLegal_nrg (s : State) (f : Legal → Legal) : (s.modLegal f).nrg = s.nrg := rfl
@[simp] theorem State.modLegal_bil (s : State) (f : Legal → Legal) : (s.modLegal f).bil = s.bil := rfl
@[simp] theorem State.modLegal_pq (s : State) (f : Legal → Legal) : (s.modLegal f).pq = s.pq := rfl
@[simp] theorem State.modLegal_jnl (s : State) (f : Legal → Legal) : (s.modLegal f).jnl = s.jnl := rfl
@[simp] theorem State.modLegal_cave (s : State) (f : Legal → Legal) : (s.modLegal f).cave = s.cave := rfl
@[simp] theorem State.modLegal_rind (s : State) (f : Legal → Legal) : (s.modLegal f).rind = s.rind := rfl
@[simp] theorem State.modLegal_keys (s : State) (f : Legal → Legal) : (s.modLegal f).keys = s.keys := rfl
@[simp] theorem State.modLegal_fw (s : State) (f : Legal → Legal) : (s.modLegal f).fw = s.fw := rfl
@[simp] theorem State.modLegal_saf (s : State) (f : Legal → Legal) : (s.modLegal f).saf = s.saf := rfl
@[simp] theorem State.modLegal_sp (s : State) (f : Legal → Legal) : (s.modLegal f).sp = s.sp := rfl
@[simp] theorem State.modLegal_brk (s : State) (f : Legal → Legal) : (s.modLegal f).brk = s.brk := rfl
@[simp] theorem State.modLegal_ls (s : State) (f : Legal → Legal) : (s.modLegal f).ls = s.ls := rfl
@[simp] theorem State.modLegal_lk (s : State) (f : Legal → Legal) : (s.modLegal f).lk = s.lk := rfl
@[simp] theorem State.modLegal_chn (s : State) (f : Legal → Legal) : (s.modLegal f).chn = s.chn := rfl
@[simp] theorem State.modLegal_msh (s : State) (f : Legal → Legal) : (s.modLegal f).msh = s.msh := rfl
@[simp] theorem State.modLegal_nfc (s : State) (f : Legal → Legal) : (s.modLegal f).nfc = s.nfc := rfl
@[simp] theorem State.modLegal_dsp (s : State) (f : Legal → Legal) : (s.modLegal f).dsp = s.dsp := rfl
@[simp] theorem State.modLegal_sent (s : State) (f : Legal → Legal) : (s.modLegal f).sent = s.sent := rfl
@[simp] theorem State.modLegal_free (s : State) (f : Legal → Legal) : (s.modLegal f).free = s.free := rfl
@[simp] theorem State.modLegal_pending (s : State) (f : Legal → Legal) : (s.modLegal f).pending = s.pending := rfl
@[simp] theorem State.modSl_sys (s : State) (i : SLink) (f : SLinkSt → SLinkSt) : (s.modSl i f).sys = s.sys := rfl
@[simp] theorem State.modSl_time (s : State) (i : SLink) (f : SLinkSt → SLinkSt) : (s.modSl i f).time = s.time := rfl
@[simp] theorem State.modSl_host (s : State) (i : SLink) (f : SLinkSt → SLinkSt) : (s.modSl i f).host = s.host := rfl
@[simp] theorem State.modSl_conf (s : State) (i : SLink) (f : SLinkSt → SLinkSt) : (s.modSl i f).conf = s.conf := rfl
@[simp] theorem State.modSl_veh (s : State) (i : SLink) (f : SLinkSt → SLinkSt) : (s.modSl i f).veh = s.veh := rfl
@[simp] theorem State.modSl_ses (s : State) (i : SLink) (f : SLinkSt → SLinkSt) : (s.modSl i f).ses = s.ses := rfl
@[simp] theorem State.modSl_pwr (s : State) (i : SLink) (f : SLinkSt → SLinkSt) : (s.modSl i f).pwr = s.pwr := rfl
@[simp] theorem State.modSl_pm (s : State) (i : SLink) (f : SLinkSt → SLinkSt) : (s.modSl i f).pm = s.pm := rfl
@[simp] theorem State.modSl_lease (s : State) (i : SLink) (f : SLinkSt → SLinkSt) : (s.modSl i f).lease = s.lease := rfl
@[simp] theorem State.modSl_legal (s : State) (i : SLink) (f : SLinkSt → SLinkSt) : (s.modSl i f).legal = s.legal := rfl
@[simp] theorem State.modSl_sl (s : State) (i : SLink) (f : SLinkSt → SLinkSt) : (s.modSl i f).sl = upd s.sl i f := rfl
@[simp] theorem State.modSl_slAt (s : State) (i : SLink) (f : SLinkSt → SLinkSt) : (s.modSl i f).slAt i = f (s.slAt i) := by simp [State.modSl, State.slAt]
@[simp] theorem State.modSl_met (s : State) (i : SLink) (f : SLinkSt → SLinkSt) : (s.modSl i f).met = s.met := rfl
@[simp] theorem State.modSl_nrg (s : State) (i : SLink) (f : SLinkSt → SLinkSt) : (s.modSl i f).nrg = s.nrg := rfl
@[simp] theorem State.modSl_bil (s : State) (i : SLink) (f : SLinkSt → SLinkSt) : (s.modSl i f).bil = s.bil := rfl
@[simp] theorem State.modSl_pq (s : State) (i : SLink) (f : SLinkSt → SLinkSt) : (s.modSl i f).pq = s.pq := rfl
@[simp] theorem State.modSl_jnl (s : State) (i : SLink) (f : SLinkSt → SLinkSt) : (s.modSl i f).jnl = s.jnl := rfl
@[simp] theorem State.modSl_cave (s : State) (i : SLink) (f : SLinkSt → SLinkSt) : (s.modSl i f).cave = s.cave := rfl
@[simp] theorem State.modSl_rind (s : State) (i : SLink) (f : SLinkSt → SLinkSt) : (s.modSl i f).rind = s.rind := rfl
@[simp] theorem State.modSl_keys (s : State) (i : SLink) (f : SLinkSt → SLinkSt) : (s.modSl i f).keys = s.keys := rfl
@[simp] theorem State.modSl_fw (s : State) (i : SLink) (f : SLinkSt → SLinkSt) : (s.modSl i f).fw = s.fw := rfl
@[simp] theorem State.modSl_saf (s : State) (i : SLink) (f : SLinkSt → SLinkSt) : (s.modSl i f).saf = s.saf := rfl
@[simp] theorem State.modSl_sp (s : State) (i : SLink) (f : SLinkSt → SLinkSt) : (s.modSl i f).sp = s.sp := rfl
@[simp] theorem State.modSl_brk (s : State) (i : SLink) (f : SLinkSt → SLinkSt) : (s.modSl i f).brk = s.brk := rfl
@[simp] theorem State.modSl_ls (s : State) (i : SLink) (f : SLinkSt → SLinkSt) : (s.modSl i f).ls = s.ls := rfl
@[simp] theorem State.modSl_lk (s : State) (i : SLink) (f : SLinkSt → SLinkSt) : (s.modSl i f).lk = s.lk := rfl
@[simp] theorem State.modSl_chn (s : State) (i : SLink) (f : SLinkSt → SLinkSt) : (s.modSl i f).chn = s.chn := rfl
@[simp] theorem State.modSl_msh (s : State) (i : SLink) (f : SLinkSt → SLinkSt) : (s.modSl i f).msh = s.msh := rfl
@[simp] theorem State.modSl_nfc (s : State) (i : SLink) (f : SLinkSt → SLinkSt) : (s.modSl i f).nfc = s.nfc := rfl
@[simp] theorem State.modSl_dsp (s : State) (i : SLink) (f : SLinkSt → SLinkSt) : (s.modSl i f).dsp = s.dsp := rfl
@[simp] theorem State.modSl_sent (s : State) (i : SLink) (f : SLinkSt → SLinkSt) : (s.modSl i f).sent = s.sent := rfl
@[simp] theorem State.modSl_free (s : State) (i : SLink) (f : SLinkSt → SLinkSt) : (s.modSl i f).free = s.free := rfl
@[simp] theorem State.modSl_pending (s : State) (i : SLink) (f : SLinkSt → SLinkSt) : (s.modSl i f).pending = s.pending := rfl
@[simp] theorem State.modMet_sys (s : State) (i : Port) (f : Met → Met) : (s.modMet i f).sys = s.sys := rfl
@[simp] theorem State.modMet_time (s : State) (i : Port) (f : Met → Met) : (s.modMet i f).time = s.time := rfl
@[simp] theorem State.modMet_host (s : State) (i : Port) (f : Met → Met) : (s.modMet i f).host = s.host := rfl
@[simp] theorem State.modMet_conf (s : State) (i : Port) (f : Met → Met) : (s.modMet i f).conf = s.conf := rfl
@[simp] theorem State.modMet_veh (s : State) (i : Port) (f : Met → Met) : (s.modMet i f).veh = s.veh := rfl
@[simp] theorem State.modMet_ses (s : State) (i : Port) (f : Met → Met) : (s.modMet i f).ses = s.ses := rfl
@[simp] theorem State.modMet_pwr (s : State) (i : Port) (f : Met → Met) : (s.modMet i f).pwr = s.pwr := rfl
@[simp] theorem State.modMet_pm (s : State) (i : Port) (f : Met → Met) : (s.modMet i f).pm = s.pm := rfl
@[simp] theorem State.modMet_lease (s : State) (i : Port) (f : Met → Met) : (s.modMet i f).lease = s.lease := rfl
@[simp] theorem State.modMet_legal (s : State) (i : Port) (f : Met → Met) : (s.modMet i f).legal = s.legal := rfl
@[simp] theorem State.modMet_sl (s : State) (i : Port) (f : Met → Met) : (s.modMet i f).sl = s.sl := rfl
@[simp] theorem State.modMet_met (s : State) (i : Port) (f : Met → Met) : (s.modMet i f).met = upd s.met i f := rfl
@[simp] theorem State.modMet_metAt (s : State) (i : Port) (f : Met → Met) : (s.modMet i f).metAt i = f (s.metAt i) := by simp [State.modMet, State.metAt]
@[simp] theorem State.modMet_nrg (s : State) (i : Port) (f : Met → Met) : (s.modMet i f).nrg = s.nrg := rfl
@[simp] theorem State.modMet_bil (s : State) (i : Port) (f : Met → Met) : (s.modMet i f).bil = s.bil := rfl
@[simp] theorem State.modMet_pq (s : State) (i : Port) (f : Met → Met) : (s.modMet i f).pq = s.pq := rfl
@[simp] theorem State.modMet_jnl (s : State) (i : Port) (f : Met → Met) : (s.modMet i f).jnl = s.jnl := rfl
@[simp] theorem State.modMet_cave (s : State) (i : Port) (f : Met → Met) : (s.modMet i f).cave = s.cave := rfl
@[simp] theorem State.modMet_rind (s : State) (i : Port) (f : Met → Met) : (s.modMet i f).rind = s.rind := rfl
@[simp] theorem State.modMet_keys (s : State) (i : Port) (f : Met → Met) : (s.modMet i f).keys = s.keys := rfl
@[simp] theorem State.modMet_fw (s : State) (i : Port) (f : Met → Met) : (s.modMet i f).fw = s.fw := rfl
@[simp] theorem State.modMet_saf (s : State) (i : Port) (f : Met → Met) : (s.modMet i f).saf = s.saf := rfl
@[simp] theorem State.modMet_sp (s : State) (i : Port) (f : Met → Met) : (s.modMet i f).sp = s.sp := rfl
@[simp] theorem State.modMet_brk (s : State) (i : Port) (f : Met → Met) : (s.modMet i f).brk = s.brk := rfl
@[simp] theorem State.modMet_ls (s : State) (i : Port) (f : Met → Met) : (s.modMet i f).ls = s.ls := rfl
@[simp] theorem State.modMet_lk (s : State) (i : Port) (f : Met → Met) : (s.modMet i f).lk = s.lk := rfl
@[simp] theorem State.modMet_chn (s : State) (i : Port) (f : Met → Met) : (s.modMet i f).chn = s.chn := rfl
@[simp] theorem State.modMet_msh (s : State) (i : Port) (f : Met → Met) : (s.modMet i f).msh = s.msh := rfl
@[simp] theorem State.modMet_nfc (s : State) (i : Port) (f : Met → Met) : (s.modMet i f).nfc = s.nfc := rfl
@[simp] theorem State.modMet_dsp (s : State) (i : Port) (f : Met → Met) : (s.modMet i f).dsp = s.dsp := rfl
@[simp] theorem State.modMet_sent (s : State) (i : Port) (f : Met → Met) : (s.modMet i f).sent = s.sent := rfl
@[simp] theorem State.modMet_free (s : State) (i : Port) (f : Met → Met) : (s.modMet i f).free = s.free := rfl
@[simp] theorem State.modMet_pending (s : State) (i : Port) (f : Met → Met) : (s.modMet i f).pending = s.pending := rfl
@[simp] theorem State.modNrg_sys (s : State) (i : Port) (f : Nrg → Nrg) : (s.modNrg i f).sys = s.sys := rfl
@[simp] theorem State.modNrg_time (s : State) (i : Port) (f : Nrg → Nrg) : (s.modNrg i f).time = s.time := rfl
@[simp] theorem State.modNrg_host (s : State) (i : Port) (f : Nrg → Nrg) : (s.modNrg i f).host = s.host := rfl
@[simp] theorem State.modNrg_conf (s : State) (i : Port) (f : Nrg → Nrg) : (s.modNrg i f).conf = s.conf := rfl
@[simp] theorem State.modNrg_veh (s : State) (i : Port) (f : Nrg → Nrg) : (s.modNrg i f).veh = s.veh := rfl
@[simp] theorem State.modNrg_ses (s : State) (i : Port) (f : Nrg → Nrg) : (s.modNrg i f).ses = s.ses := rfl
@[simp] theorem State.modNrg_pwr (s : State) (i : Port) (f : Nrg → Nrg) : (s.modNrg i f).pwr = s.pwr := rfl
@[simp] theorem State.modNrg_pm (s : State) (i : Port) (f : Nrg → Nrg) : (s.modNrg i f).pm = s.pm := rfl
@[simp] theorem State.modNrg_lease (s : State) (i : Port) (f : Nrg → Nrg) : (s.modNrg i f).lease = s.lease := rfl
@[simp] theorem State.modNrg_legal (s : State) (i : Port) (f : Nrg → Nrg) : (s.modNrg i f).legal = s.legal := rfl
@[simp] theorem State.modNrg_sl (s : State) (i : Port) (f : Nrg → Nrg) : (s.modNrg i f).sl = s.sl := rfl
@[simp] theorem State.modNrg_met (s : State) (i : Port) (f : Nrg → Nrg) : (s.modNrg i f).met = s.met := rfl
@[simp] theorem State.modNrg_nrg (s : State) (i : Port) (f : Nrg → Nrg) : (s.modNrg i f).nrg = upd s.nrg i f := rfl
@[simp] theorem State.modNrg_nrgAt (s : State) (i : Port) (f : Nrg → Nrg) : (s.modNrg i f).nrgAt i = f (s.nrgAt i) := by simp [State.modNrg, State.nrgAt]
@[simp] theorem State.modNrg_bil (s : State) (i : Port) (f : Nrg → Nrg) : (s.modNrg i f).bil = s.bil := rfl
@[simp] theorem State.modNrg_pq (s : State) (i : Port) (f : Nrg → Nrg) : (s.modNrg i f).pq = s.pq := rfl
@[simp] theorem State.modNrg_jnl (s : State) (i : Port) (f : Nrg → Nrg) : (s.modNrg i f).jnl = s.jnl := rfl
@[simp] theorem State.modNrg_cave (s : State) (i : Port) (f : Nrg → Nrg) : (s.modNrg i f).cave = s.cave := rfl
@[simp] theorem State.modNrg_rind (s : State) (i : Port) (f : Nrg → Nrg) : (s.modNrg i f).rind = s.rind := rfl
@[simp] theorem State.modNrg_keys (s : State) (i : Port) (f : Nrg → Nrg) : (s.modNrg i f).keys = s.keys := rfl
@[simp] theorem State.modNrg_fw (s : State) (i : Port) (f : Nrg → Nrg) : (s.modNrg i f).fw = s.fw := rfl
@[simp] theorem State.modNrg_saf (s : State) (i : Port) (f : Nrg → Nrg) : (s.modNrg i f).saf = s.saf := rfl
@[simp] theorem State.modNrg_sp (s : State) (i : Port) (f : Nrg → Nrg) : (s.modNrg i f).sp = s.sp := rfl
@[simp] theorem State.modNrg_brk (s : State) (i : Port) (f : Nrg → Nrg) : (s.modNrg i f).brk = s.brk := rfl
@[simp] theorem State.modNrg_ls (s : State) (i : Port) (f : Nrg → Nrg) : (s.modNrg i f).ls = s.ls := rfl
@[simp] theorem State.modNrg_lk (s : State) (i : Port) (f : Nrg → Nrg) : (s.modNrg i f).lk = s.lk := rfl
@[simp] theorem State.modNrg_chn (s : State) (i : Port) (f : Nrg → Nrg) : (s.modNrg i f).chn = s.chn := rfl
@[simp] theorem State.modNrg_msh (s : State) (i : Port) (f : Nrg → Nrg) : (s.modNrg i f).msh = s.msh := rfl
@[simp] theorem State.modNrg_nfc (s : State) (i : Port) (f : Nrg → Nrg) : (s.modNrg i f).nfc = s.nfc := rfl
@[simp] theorem State.modNrg_dsp (s : State) (i : Port) (f : Nrg → Nrg) : (s.modNrg i f).dsp = s.dsp := rfl
@[simp] theorem State.modNrg_sent (s : State) (i : Port) (f : Nrg → Nrg) : (s.modNrg i f).sent = s.sent := rfl
@[simp] theorem State.modNrg_free (s : State) (i : Port) (f : Nrg → Nrg) : (s.modNrg i f).free = s.free := rfl
@[simp] theorem State.modNrg_pending (s : State) (i : Port) (f : Nrg → Nrg) : (s.modNrg i f).pending = s.pending := rfl
@[simp] theorem State.modBil_sys (s : State) (i : Port) (f : Bil → Bil) : (s.modBil i f).sys = s.sys := rfl
@[simp] theorem State.modBil_time (s : State) (i : Port) (f : Bil → Bil) : (s.modBil i f).time = s.time := rfl
@[simp] theorem State.modBil_host (s : State) (i : Port) (f : Bil → Bil) : (s.modBil i f).host = s.host := rfl
@[simp] theorem State.modBil_conf (s : State) (i : Port) (f : Bil → Bil) : (s.modBil i f).conf = s.conf := rfl
@[simp] theorem State.modBil_veh (s : State) (i : Port) (f : Bil → Bil) : (s.modBil i f).veh = s.veh := rfl
@[simp] theorem State.modBil_ses (s : State) (i : Port) (f : Bil → Bil) : (s.modBil i f).ses = s.ses := rfl
@[simp] theorem State.modBil_pwr (s : State) (i : Port) (f : Bil → Bil) : (s.modBil i f).pwr = s.pwr := rfl
@[simp] theorem State.modBil_pm (s : State) (i : Port) (f : Bil → Bil) : (s.modBil i f).pm = s.pm := rfl
@[simp] theorem State.modBil_lease (s : State) (i : Port) (f : Bil → Bil) : (s.modBil i f).lease = s.lease := rfl
@[simp] theorem State.modBil_legal (s : State) (i : Port) (f : Bil → Bil) : (s.modBil i f).legal = s.legal := rfl
@[simp] theorem State.modBil_sl (s : State) (i : Port) (f : Bil → Bil) : (s.modBil i f).sl = s.sl := rfl
@[simp] theorem State.modBil_met (s : State) (i : Port) (f : Bil → Bil) : (s.modBil i f).met = s.met := rfl
@[simp] theorem State.modBil_nrg (s : State) (i : Port) (f : Bil → Bil) : (s.modBil i f).nrg = s.nrg := rfl
@[simp] theorem State.modBil_bil (s : State) (i : Port) (f : Bil → Bil) : (s.modBil i f).bil = upd s.bil i f := rfl
@[simp] theorem State.modBil_bilAt (s : State) (i : Port) (f : Bil → Bil) : (s.modBil i f).bilAt i = f (s.bilAt i) := by simp [State.modBil, State.bilAt]
@[simp] theorem State.modBil_pq (s : State) (i : Port) (f : Bil → Bil) : (s.modBil i f).pq = s.pq := rfl
@[simp] theorem State.modBil_jnl (s : State) (i : Port) (f : Bil → Bil) : (s.modBil i f).jnl = s.jnl := rfl
@[simp] theorem State.modBil_cave (s : State) (i : Port) (f : Bil → Bil) : (s.modBil i f).cave = s.cave := rfl
@[simp] theorem State.modBil_rind (s : State) (i : Port) (f : Bil → Bil) : (s.modBil i f).rind = s.rind := rfl
@[simp] theorem State.modBil_keys (s : State) (i : Port) (f : Bil → Bil) : (s.modBil i f).keys = s.keys := rfl
@[simp] theorem State.modBil_fw (s : State) (i : Port) (f : Bil → Bil) : (s.modBil i f).fw = s.fw := rfl
@[simp] theorem State.modBil_saf (s : State) (i : Port) (f : Bil → Bil) : (s.modBil i f).saf = s.saf := rfl
@[simp] theorem State.modBil_sp (s : State) (i : Port) (f : Bil → Bil) : (s.modBil i f).sp = s.sp := rfl
@[simp] theorem State.modBil_brk (s : State) (i : Port) (f : Bil → Bil) : (s.modBil i f).brk = s.brk := rfl
@[simp] theorem State.modBil_ls (s : State) (i : Port) (f : Bil → Bil) : (s.modBil i f).ls = s.ls := rfl
@[simp] theorem State.modBil_lk (s : State) (i : Port) (f : Bil → Bil) : (s.modBil i f).lk = s.lk := rfl
@[simp] theorem State.modBil_chn (s : State) (i : Port) (f : Bil → Bil) : (s.modBil i f).chn = s.chn := rfl
@[simp] theorem State.modBil_msh (s : State) (i : Port) (f : Bil → Bil) : (s.modBil i f).msh = s.msh := rfl
@[simp] theorem State.modBil_nfc (s : State) (i : Port) (f : Bil → Bil) : (s.modBil i f).nfc = s.nfc := rfl
@[simp] theorem State.modBil_dsp (s : State) (i : Port) (f : Bil → Bil) : (s.modBil i f).dsp = s.dsp := rfl
@[simp] theorem State.modBil_sent (s : State) (i : Port) (f : Bil → Bil) : (s.modBil i f).sent = s.sent := rfl
@[simp] theorem State.modBil_free (s : State) (i : Port) (f : Bil → Bil) : (s.modBil i f).free = s.free := rfl
@[simp] theorem State.modBil_pending (s : State) (i : Port) (f : Bil → Bil) : (s.modBil i f).pending = s.pending := rfl
@[simp] theorem State.modPq_sys (s : State) (i : Port) (f : Pq → Pq) : (s.modPq i f).sys = s.sys := rfl
@[simp] theorem State.modPq_time (s : State) (i : Port) (f : Pq → Pq) : (s.modPq i f).time = s.time := rfl
@[simp] theorem State.modPq_host (s : State) (i : Port) (f : Pq → Pq) : (s.modPq i f).host = s.host := rfl
@[simp] theorem State.modPq_conf (s : State) (i : Port) (f : Pq → Pq) : (s.modPq i f).conf = s.conf := rfl
@[simp] theorem State.modPq_veh (s : State) (i : Port) (f : Pq → Pq) : (s.modPq i f).veh = s.veh := rfl
@[simp] theorem State.modPq_ses (s : State) (i : Port) (f : Pq → Pq) : (s.modPq i f).ses = s.ses := rfl
@[simp] theorem State.modPq_pwr (s : State) (i : Port) (f : Pq → Pq) : (s.modPq i f).pwr = s.pwr := rfl
@[simp] theorem State.modPq_pm (s : State) (i : Port) (f : Pq → Pq) : (s.modPq i f).pm = s.pm := rfl
@[simp] theorem State.modPq_lease (s : State) (i : Port) (f : Pq → Pq) : (s.modPq i f).lease = s.lease := rfl
@[simp] theorem State.modPq_legal (s : State) (i : Port) (f : Pq → Pq) : (s.modPq i f).legal = s.legal := rfl
@[simp] theorem State.modPq_sl (s : State) (i : Port) (f : Pq → Pq) : (s.modPq i f).sl = s.sl := rfl
@[simp] theorem State.modPq_met (s : State) (i : Port) (f : Pq → Pq) : (s.modPq i f).met = s.met := rfl
@[simp] theorem State.modPq_nrg (s : State) (i : Port) (f : Pq → Pq) : (s.modPq i f).nrg = s.nrg := rfl
@[simp] theorem State.modPq_bil (s : State) (i : Port) (f : Pq → Pq) : (s.modPq i f).bil = s.bil := rfl
@[simp] theorem State.modPq_pq (s : State) (i : Port) (f : Pq → Pq) : (s.modPq i f).pq = upd s.pq i f := rfl
@[simp] theorem State.modPq_pqAt (s : State) (i : Port) (f : Pq → Pq) : (s.modPq i f).pqAt i = f (s.pqAt i) := by simp [State.modPq, State.pqAt]
@[simp] theorem State.modPq_jnl (s : State) (i : Port) (f : Pq → Pq) : (s.modPq i f).jnl = s.jnl := rfl
@[simp] theorem State.modPq_cave (s : State) (i : Port) (f : Pq → Pq) : (s.modPq i f).cave = s.cave := rfl
@[simp] theorem State.modPq_rind (s : State) (i : Port) (f : Pq → Pq) : (s.modPq i f).rind = s.rind := rfl
@[simp] theorem State.modPq_keys (s : State) (i : Port) (f : Pq → Pq) : (s.modPq i f).keys = s.keys := rfl
@[simp] theorem State.modPq_fw (s : State) (i : Port) (f : Pq → Pq) : (s.modPq i f).fw = s.fw := rfl
@[simp] theorem State.modPq_saf (s : State) (i : Port) (f : Pq → Pq) : (s.modPq i f).saf = s.saf := rfl
@[simp] theorem State.modPq_sp (s : State) (i : Port) (f : Pq → Pq) : (s.modPq i f).sp = s.sp := rfl
@[simp] theorem State.modPq_brk (s : State) (i : Port) (f : Pq → Pq) : (s.modPq i f).brk = s.brk := rfl
@[simp] theorem State.modPq_ls (s : State) (i : Port) (f : Pq → Pq) : (s.modPq i f).ls = s.ls := rfl
@[simp] theorem State.modPq_lk (s : State) (i : Port) (f : Pq → Pq) : (s.modPq i f).lk = s.lk := rfl
@[simp] theorem State.modPq_chn (s : State) (i : Port) (f : Pq → Pq) : (s.modPq i f).chn = s.chn := rfl
@[simp] theorem State.modPq_msh (s : State) (i : Port) (f : Pq → Pq) : (s.modPq i f).msh = s.msh := rfl
@[simp] theorem State.modPq_nfc (s : State) (i : Port) (f : Pq → Pq) : (s.modPq i f).nfc = s.nfc := rfl
@[simp] theorem State.modPq_dsp (s : State) (i : Port) (f : Pq → Pq) : (s.modPq i f).dsp = s.dsp := rfl
@[simp] theorem State.modPq_sent (s : State) (i : Port) (f : Pq → Pq) : (s.modPq i f).sent = s.sent := rfl
@[simp] theorem State.modPq_free (s : State) (i : Port) (f : Pq → Pq) : (s.modPq i f).free = s.free := rfl
@[simp] theorem State.modPq_pending (s : State) (i : Port) (f : Pq → Pq) : (s.modPq i f).pending = s.pending := rfl
@[simp] theorem State.modJnl_sys (s : State) (f : Jnl → Jnl) : (s.modJnl f).sys = s.sys := rfl
@[simp] theorem State.modJnl_time (s : State) (f : Jnl → Jnl) : (s.modJnl f).time = s.time := rfl
@[simp] theorem State.modJnl_host (s : State) (f : Jnl → Jnl) : (s.modJnl f).host = s.host := rfl
@[simp] theorem State.modJnl_conf (s : State) (f : Jnl → Jnl) : (s.modJnl f).conf = s.conf := rfl
@[simp] theorem State.modJnl_veh (s : State) (f : Jnl → Jnl) : (s.modJnl f).veh = s.veh := rfl
@[simp] theorem State.modJnl_ses (s : State) (f : Jnl → Jnl) : (s.modJnl f).ses = s.ses := rfl
@[simp] theorem State.modJnl_pwr (s : State) (f : Jnl → Jnl) : (s.modJnl f).pwr = s.pwr := rfl
@[simp] theorem State.modJnl_pm (s : State) (f : Jnl → Jnl) : (s.modJnl f).pm = s.pm := rfl
@[simp] theorem State.modJnl_lease (s : State) (f : Jnl → Jnl) : (s.modJnl f).lease = s.lease := rfl
@[simp] theorem State.modJnl_legal (s : State) (f : Jnl → Jnl) : (s.modJnl f).legal = s.legal := rfl
@[simp] theorem State.modJnl_sl (s : State) (f : Jnl → Jnl) : (s.modJnl f).sl = s.sl := rfl
@[simp] theorem State.modJnl_met (s : State) (f : Jnl → Jnl) : (s.modJnl f).met = s.met := rfl
@[simp] theorem State.modJnl_nrg (s : State) (f : Jnl → Jnl) : (s.modJnl f).nrg = s.nrg := rfl
@[simp] theorem State.modJnl_bil (s : State) (f : Jnl → Jnl) : (s.modJnl f).bil = s.bil := rfl
@[simp] theorem State.modJnl_pq (s : State) (f : Jnl → Jnl) : (s.modJnl f).pq = s.pq := rfl
@[simp] theorem State.modJnl_jnl (s : State) (f : Jnl → Jnl) : (s.modJnl f).jnl = f s.jnl := rfl
@[simp] theorem State.modJnl_cave (s : State) (f : Jnl → Jnl) : (s.modJnl f).cave = s.cave := rfl
@[simp] theorem State.modJnl_rind (s : State) (f : Jnl → Jnl) : (s.modJnl f).rind = s.rind := rfl
@[simp] theorem State.modJnl_keys (s : State) (f : Jnl → Jnl) : (s.modJnl f).keys = s.keys := rfl
@[simp] theorem State.modJnl_fw (s : State) (f : Jnl → Jnl) : (s.modJnl f).fw = s.fw := rfl
@[simp] theorem State.modJnl_saf (s : State) (f : Jnl → Jnl) : (s.modJnl f).saf = s.saf := rfl
@[simp] theorem State.modJnl_sp (s : State) (f : Jnl → Jnl) : (s.modJnl f).sp = s.sp := rfl
@[simp] theorem State.modJnl_brk (s : State) (f : Jnl → Jnl) : (s.modJnl f).brk = s.brk := rfl
@[simp] theorem State.modJnl_ls (s : State) (f : Jnl → Jnl) : (s.modJnl f).ls = s.ls := rfl
@[simp] theorem State.modJnl_lk (s : State) (f : Jnl → Jnl) : (s.modJnl f).lk = s.lk := rfl
@[simp] theorem State.modJnl_chn (s : State) (f : Jnl → Jnl) : (s.modJnl f).chn = s.chn := rfl
@[simp] theorem State.modJnl_msh (s : State) (f : Jnl → Jnl) : (s.modJnl f).msh = s.msh := rfl
@[simp] theorem State.modJnl_nfc (s : State) (f : Jnl → Jnl) : (s.modJnl f).nfc = s.nfc := rfl
@[simp] theorem State.modJnl_dsp (s : State) (f : Jnl → Jnl) : (s.modJnl f).dsp = s.dsp := rfl
@[simp] theorem State.modJnl_sent (s : State) (f : Jnl → Jnl) : (s.modJnl f).sent = s.sent := rfl
@[simp] theorem State.modJnl_free (s : State) (f : Jnl → Jnl) : (s.modJnl f).free = s.free := rfl
@[simp] theorem State.modJnl_pending (s : State) (f : Jnl → Jnl) : (s.modJnl f).pending = s.pending := rfl
@[simp] theorem State.modCave_sys (s : State) (f : Cave → Cave) : (s.modCave f).sys = s.sys := rfl
@[simp] theorem State.modCave_time (s : State) (f : Cave → Cave) : (s.modCave f).time = s.time := rfl
@[simp] theorem State.modCave_host (s : State) (f : Cave → Cave) : (s.modCave f).host = s.host := rfl
@[simp] theorem State.modCave_conf (s : State) (f : Cave → Cave) : (s.modCave f).conf = s.conf := rfl
@[simp] theorem State.modCave_veh (s : State) (f : Cave → Cave) : (s.modCave f).veh = s.veh := rfl
@[simp] theorem State.modCave_ses (s : State) (f : Cave → Cave) : (s.modCave f).ses = s.ses := rfl
@[simp] theorem State.modCave_pwr (s : State) (f : Cave → Cave) : (s.modCave f).pwr = s.pwr := rfl
@[simp] theorem State.modCave_pm (s : State) (f : Cave → Cave) : (s.modCave f).pm = s.pm := rfl
@[simp] theorem State.modCave_lease (s : State) (f : Cave → Cave) : (s.modCave f).lease = s.lease := rfl
@[simp] theorem State.modCave_legal (s : State) (f : Cave → Cave) : (s.modCave f).legal = s.legal := rfl
@[simp] theorem State.modCave_sl (s : State) (f : Cave → Cave) : (s.modCave f).sl = s.sl := rfl
@[simp] theorem State.modCave_met (s : State) (f : Cave → Cave) : (s.modCave f).met = s.met := rfl
@[simp] theorem State.modCave_nrg (s : State) (f : Cave → Cave) : (s.modCave f).nrg = s.nrg := rfl
@[simp] theorem State.modCave_bil (s : State) (f : Cave → Cave) : (s.modCave f).bil = s.bil := rfl
@[simp] theorem State.modCave_pq (s : State) (f : Cave → Cave) : (s.modCave f).pq = s.pq := rfl
@[simp] theorem State.modCave_jnl (s : State) (f : Cave → Cave) : (s.modCave f).jnl = s.jnl := rfl
@[simp] theorem State.modCave_cave (s : State) (f : Cave → Cave) : (s.modCave f).cave = f s.cave := rfl
@[simp] theorem State.modCave_rind (s : State) (f : Cave → Cave) : (s.modCave f).rind = s.rind := rfl
@[simp] theorem State.modCave_keys (s : State) (f : Cave → Cave) : (s.modCave f).keys = s.keys := rfl
@[simp] theorem State.modCave_fw (s : State) (f : Cave → Cave) : (s.modCave f).fw = s.fw := rfl
@[simp] theorem State.modCave_saf (s : State) (f : Cave → Cave) : (s.modCave f).saf = s.saf := rfl
@[simp] theorem State.modCave_sp (s : State) (f : Cave → Cave) : (s.modCave f).sp = s.sp := rfl
@[simp] theorem State.modCave_brk (s : State) (f : Cave → Cave) : (s.modCave f).brk = s.brk := rfl
@[simp] theorem State.modCave_ls (s : State) (f : Cave → Cave) : (s.modCave f).ls = s.ls := rfl
@[simp] theorem State.modCave_lk (s : State) (f : Cave → Cave) : (s.modCave f).lk = s.lk := rfl
@[simp] theorem State.modCave_chn (s : State) (f : Cave → Cave) : (s.modCave f).chn = s.chn := rfl
@[simp] theorem State.modCave_msh (s : State) (f : Cave → Cave) : (s.modCave f).msh = s.msh := rfl
@[simp] theorem State.modCave_nfc (s : State) (f : Cave → Cave) : (s.modCave f).nfc = s.nfc := rfl
@[simp] theorem State.modCave_dsp (s : State) (f : Cave → Cave) : (s.modCave f).dsp = s.dsp := rfl
@[simp] theorem State.modCave_sent (s : State) (f : Cave → Cave) : (s.modCave f).sent = s.sent := rfl
@[simp] theorem State.modCave_free (s : State) (f : Cave → Cave) : (s.modCave f).free = s.free := rfl
@[simp] theorem State.modCave_pending (s : State) (f : Cave → Cave) : (s.modCave f).pending = s.pending := rfl
@[simp] theorem State.modRind_sys (s : State) (f : Rind → Rind) : (s.modRind f).sys = s.sys := rfl
@[simp] theorem State.modRind_time (s : State) (f : Rind → Rind) : (s.modRind f).time = s.time := rfl
@[simp] theorem State.modRind_host (s : State) (f : Rind → Rind) : (s.modRind f).host = s.host := rfl
@[simp] theorem State.modRind_conf (s : State) (f : Rind → Rind) : (s.modRind f).conf = s.conf := rfl
@[simp] theorem State.modRind_veh (s : State) (f : Rind → Rind) : (s.modRind f).veh = s.veh := rfl
@[simp] theorem State.modRind_ses (s : State) (f : Rind → Rind) : (s.modRind f).ses = s.ses := rfl
@[simp] theorem State.modRind_pwr (s : State) (f : Rind → Rind) : (s.modRind f).pwr = s.pwr := rfl
@[simp] theorem State.modRind_pm (s : State) (f : Rind → Rind) : (s.modRind f).pm = s.pm := rfl
@[simp] theorem State.modRind_lease (s : State) (f : Rind → Rind) : (s.modRind f).lease = s.lease := rfl
@[simp] theorem State.modRind_legal (s : State) (f : Rind → Rind) : (s.modRind f).legal = s.legal := rfl
@[simp] theorem State.modRind_sl (s : State) (f : Rind → Rind) : (s.modRind f).sl = s.sl := rfl
@[simp] theorem State.modRind_met (s : State) (f : Rind → Rind) : (s.modRind f).met = s.met := rfl
@[simp] theorem State.modRind_nrg (s : State) (f : Rind → Rind) : (s.modRind f).nrg = s.nrg := rfl
@[simp] theorem State.modRind_bil (s : State) (f : Rind → Rind) : (s.modRind f).bil = s.bil := rfl
@[simp] theorem State.modRind_pq (s : State) (f : Rind → Rind) : (s.modRind f).pq = s.pq := rfl
@[simp] theorem State.modRind_jnl (s : State) (f : Rind → Rind) : (s.modRind f).jnl = s.jnl := rfl
@[simp] theorem State.modRind_cave (s : State) (f : Rind → Rind) : (s.modRind f).cave = s.cave := rfl
@[simp] theorem State.modRind_rind (s : State) (f : Rind → Rind) : (s.modRind f).rind = f s.rind := rfl
@[simp] theorem State.modRind_keys (s : State) (f : Rind → Rind) : (s.modRind f).keys = s.keys := rfl
@[simp] theorem State.modRind_fw (s : State) (f : Rind → Rind) : (s.modRind f).fw = s.fw := rfl
@[simp] theorem State.modRind_saf (s : State) (f : Rind → Rind) : (s.modRind f).saf = s.saf := rfl
@[simp] theorem State.modRind_sp (s : State) (f : Rind → Rind) : (s.modRind f).sp = s.sp := rfl
@[simp] theorem State.modRind_brk (s : State) (f : Rind → Rind) : (s.modRind f).brk = s.brk := rfl
@[simp] theorem State.modRind_ls (s : State) (f : Rind → Rind) : (s.modRind f).ls = s.ls := rfl
@[simp] theorem State.modRind_lk (s : State) (f : Rind → Rind) : (s.modRind f).lk = s.lk := rfl
@[simp] theorem State.modRind_chn (s : State) (f : Rind → Rind) : (s.modRind f).chn = s.chn := rfl
@[simp] theorem State.modRind_msh (s : State) (f : Rind → Rind) : (s.modRind f).msh = s.msh := rfl
@[simp] theorem State.modRind_nfc (s : State) (f : Rind → Rind) : (s.modRind f).nfc = s.nfc := rfl
@[simp] theorem State.modRind_dsp (s : State) (f : Rind → Rind) : (s.modRind f).dsp = s.dsp := rfl
@[simp] theorem State.modRind_sent (s : State) (f : Rind → Rind) : (s.modRind f).sent = s.sent := rfl
@[simp] theorem State.modRind_free (s : State) (f : Rind → Rind) : (s.modRind f).free = s.free := rfl
@[simp] theorem State.modRind_pending (s : State) (f : Rind → Rind) : (s.modRind f).pending = s.pending := rfl
@[simp] theorem State.modKeys_sys (s : State) (f : Keys → Keys) : (s.modKeys f).sys = s.sys := rfl
@[simp] theorem State.modKeys_time (s : State) (f : Keys → Keys) : (s.modKeys f).time = s.time := rfl
@[simp] theorem State.modKeys_host (s : State) (f : Keys → Keys) : (s.modKeys f).host = s.host := rfl
@[simp] theorem State.modKeys_conf (s : State) (f : Keys → Keys) : (s.modKeys f).conf = s.conf := rfl
@[simp] theorem State.modKeys_veh (s : State) (f : Keys → Keys) : (s.modKeys f).veh = s.veh := rfl
@[simp] theorem State.modKeys_ses (s : State) (f : Keys → Keys) : (s.modKeys f).ses = s.ses := rfl
@[simp] theorem State.modKeys_pwr (s : State) (f : Keys → Keys) : (s.modKeys f).pwr = s.pwr := rfl
@[simp] theorem State.modKeys_pm (s : State) (f : Keys → Keys) : (s.modKeys f).pm = s.pm := rfl
@[simp] theorem State.modKeys_lease (s : State) (f : Keys → Keys) : (s.modKeys f).lease = s.lease := rfl
@[simp] theorem State.modKeys_legal (s : State) (f : Keys → Keys) : (s.modKeys f).legal = s.legal := rfl
@[simp] theorem State.modKeys_sl (s : State) (f : Keys → Keys) : (s.modKeys f).sl = s.sl := rfl
@[simp] theorem State.modKeys_met (s : State) (f : Keys → Keys) : (s.modKeys f).met = s.met := rfl
@[simp] theorem State.modKeys_nrg (s : State) (f : Keys → Keys) : (s.modKeys f).nrg = s.nrg := rfl
@[simp] theorem State.modKeys_bil (s : State) (f : Keys → Keys) : (s.modKeys f).bil = s.bil := rfl
@[simp] theorem State.modKeys_pq (s : State) (f : Keys → Keys) : (s.modKeys f).pq = s.pq := rfl
@[simp] theorem State.modKeys_jnl (s : State) (f : Keys → Keys) : (s.modKeys f).jnl = s.jnl := rfl
@[simp] theorem State.modKeys_cave (s : State) (f : Keys → Keys) : (s.modKeys f).cave = s.cave := rfl
@[simp] theorem State.modKeys_rind (s : State) (f : Keys → Keys) : (s.modKeys f).rind = s.rind := rfl
@[simp] theorem State.modKeys_keys (s : State) (f : Keys → Keys) : (s.modKeys f).keys = f s.keys := rfl
@[simp] theorem State.modKeys_fw (s : State) (f : Keys → Keys) : (s.modKeys f).fw = s.fw := rfl
@[simp] theorem State.modKeys_saf (s : State) (f : Keys → Keys) : (s.modKeys f).saf = s.saf := rfl
@[simp] theorem State.modKeys_sp (s : State) (f : Keys → Keys) : (s.modKeys f).sp = s.sp := rfl
@[simp] theorem State.modKeys_brk (s : State) (f : Keys → Keys) : (s.modKeys f).brk = s.brk := rfl
@[simp] theorem State.modKeys_ls (s : State) (f : Keys → Keys) : (s.modKeys f).ls = s.ls := rfl
@[simp] theorem State.modKeys_lk (s : State) (f : Keys → Keys) : (s.modKeys f).lk = s.lk := rfl
@[simp] theorem State.modKeys_chn (s : State) (f : Keys → Keys) : (s.modKeys f).chn = s.chn := rfl
@[simp] theorem State.modKeys_msh (s : State) (f : Keys → Keys) : (s.modKeys f).msh = s.msh := rfl
@[simp] theorem State.modKeys_nfc (s : State) (f : Keys → Keys) : (s.modKeys f).nfc = s.nfc := rfl
@[simp] theorem State.modKeys_dsp (s : State) (f : Keys → Keys) : (s.modKeys f).dsp = s.dsp := rfl
@[simp] theorem State.modKeys_sent (s : State) (f : Keys → Keys) : (s.modKeys f).sent = s.sent := rfl
@[simp] theorem State.modKeys_free (s : State) (f : Keys → Keys) : (s.modKeys f).free = s.free := rfl
@[simp] theorem State.modKeys_pending (s : State) (f : Keys → Keys) : (s.modKeys f).pending = s.pending := rfl
@[simp] theorem State.modFw_sys (s : State) (f : Upd → Upd) : (s.modFw f).sys = s.sys := rfl
@[simp] theorem State.modFw_time (s : State) (f : Upd → Upd) : (s.modFw f).time = s.time := rfl
@[simp] theorem State.modFw_host (s : State) (f : Upd → Upd) : (s.modFw f).host = s.host := rfl
@[simp] theorem State.modFw_conf (s : State) (f : Upd → Upd) : (s.modFw f).conf = s.conf := rfl
@[simp] theorem State.modFw_veh (s : State) (f : Upd → Upd) : (s.modFw f).veh = s.veh := rfl
@[simp] theorem State.modFw_ses (s : State) (f : Upd → Upd) : (s.modFw f).ses = s.ses := rfl
@[simp] theorem State.modFw_pwr (s : State) (f : Upd → Upd) : (s.modFw f).pwr = s.pwr := rfl
@[simp] theorem State.modFw_pm (s : State) (f : Upd → Upd) : (s.modFw f).pm = s.pm := rfl
@[simp] theorem State.modFw_lease (s : State) (f : Upd → Upd) : (s.modFw f).lease = s.lease := rfl
@[simp] theorem State.modFw_legal (s : State) (f : Upd → Upd) : (s.modFw f).legal = s.legal := rfl
@[simp] theorem State.modFw_sl (s : State) (f : Upd → Upd) : (s.modFw f).sl = s.sl := rfl
@[simp] theorem State.modFw_met (s : State) (f : Upd → Upd) : (s.modFw f).met = s.met := rfl
@[simp] theorem State.modFw_nrg (s : State) (f : Upd → Upd) : (s.modFw f).nrg = s.nrg := rfl
@[simp] theorem State.modFw_bil (s : State) (f : Upd → Upd) : (s.modFw f).bil = s.bil := rfl
@[simp] theorem State.modFw_pq (s : State) (f : Upd → Upd) : (s.modFw f).pq = s.pq := rfl
@[simp] theorem State.modFw_jnl (s : State) (f : Upd → Upd) : (s.modFw f).jnl = s.jnl := rfl
@[simp] theorem State.modFw_cave (s : State) (f : Upd → Upd) : (s.modFw f).cave = s.cave := rfl
@[simp] theorem State.modFw_rind (s : State) (f : Upd → Upd) : (s.modFw f).rind = s.rind := rfl
@[simp] theorem State.modFw_keys (s : State) (f : Upd → Upd) : (s.modFw f).keys = s.keys := rfl
@[simp] theorem State.modFw_fw (s : State) (f : Upd → Upd) : (s.modFw f).fw = f s.fw := rfl
@[simp] theorem State.modFw_saf (s : State) (f : Upd → Upd) : (s.modFw f).saf = s.saf := rfl
@[simp] theorem State.modFw_sp (s : State) (f : Upd → Upd) : (s.modFw f).sp = s.sp := rfl
@[simp] theorem State.modFw_brk (s : State) (f : Upd → Upd) : (s.modFw f).brk = s.brk := rfl
@[simp] theorem State.modFw_ls (s : State) (f : Upd → Upd) : (s.modFw f).ls = s.ls := rfl
@[simp] theorem State.modFw_lk (s : State) (f : Upd → Upd) : (s.modFw f).lk = s.lk := rfl
@[simp] theorem State.modFw_chn (s : State) (f : Upd → Upd) : (s.modFw f).chn = s.chn := rfl
@[simp] theorem State.modFw_msh (s : State) (f : Upd → Upd) : (s.modFw f).msh = s.msh := rfl
@[simp] theorem State.modFw_nfc (s : State) (f : Upd → Upd) : (s.modFw f).nfc = s.nfc := rfl
@[simp] theorem State.modFw_dsp (s : State) (f : Upd → Upd) : (s.modFw f).dsp = s.dsp := rfl
@[simp] theorem State.modFw_sent (s : State) (f : Upd → Upd) : (s.modFw f).sent = s.sent := rfl
@[simp] theorem State.modFw_free (s : State) (f : Upd → Upd) : (s.modFw f).free = s.free := rfl
@[simp] theorem State.modFw_pending (s : State) (f : Upd → Upd) : (s.modFw f).pending = s.pending := rfl
@[simp] theorem State.modSaf_sys (s : State) (f : Saf → Saf) : (s.modSaf f).sys = s.sys := rfl
@[simp] theorem State.modSaf_time (s : State) (f : Saf → Saf) : (s.modSaf f).time = s.time := rfl
@[simp] theorem State.modSaf_host (s : State) (f : Saf → Saf) : (s.modSaf f).host = s.host := rfl
@[simp] theorem State.modSaf_conf (s : State) (f : Saf → Saf) : (s.modSaf f).conf = s.conf := rfl
@[simp] theorem State.modSaf_veh (s : State) (f : Saf → Saf) : (s.modSaf f).veh = s.veh := rfl
@[simp] theorem State.modSaf_ses (s : State) (f : Saf → Saf) : (s.modSaf f).ses = s.ses := rfl
@[simp] theorem State.modSaf_pwr (s : State) (f : Saf → Saf) : (s.modSaf f).pwr = s.pwr := rfl
@[simp] theorem State.modSaf_pm (s : State) (f : Saf → Saf) : (s.modSaf f).pm = s.pm := rfl
@[simp] theorem State.modSaf_lease (s : State) (f : Saf → Saf) : (s.modSaf f).lease = s.lease := rfl
@[simp] theorem State.modSaf_legal (s : State) (f : Saf → Saf) : (s.modSaf f).legal = s.legal := rfl
@[simp] theorem State.modSaf_sl (s : State) (f : Saf → Saf) : (s.modSaf f).sl = s.sl := rfl
@[simp] theorem State.modSaf_met (s : State) (f : Saf → Saf) : (s.modSaf f).met = s.met := rfl
@[simp] theorem State.modSaf_nrg (s : State) (f : Saf → Saf) : (s.modSaf f).nrg = s.nrg := rfl
@[simp] theorem State.modSaf_bil (s : State) (f : Saf → Saf) : (s.modSaf f).bil = s.bil := rfl
@[simp] theorem State.modSaf_pq (s : State) (f : Saf → Saf) : (s.modSaf f).pq = s.pq := rfl
@[simp] theorem State.modSaf_jnl (s : State) (f : Saf → Saf) : (s.modSaf f).jnl = s.jnl := rfl
@[simp] theorem State.modSaf_cave (s : State) (f : Saf → Saf) : (s.modSaf f).cave = s.cave := rfl
@[simp] theorem State.modSaf_rind (s : State) (f : Saf → Saf) : (s.modSaf f).rind = s.rind := rfl
@[simp] theorem State.modSaf_keys (s : State) (f : Saf → Saf) : (s.modSaf f).keys = s.keys := rfl
@[simp] theorem State.modSaf_fw (s : State) (f : Saf → Saf) : (s.modSaf f).fw = s.fw := rfl
@[simp] theorem State.modSaf_saf (s : State) (f : Saf → Saf) : (s.modSaf f).saf = f s.saf := rfl
@[simp] theorem State.modSaf_sp (s : State) (f : Saf → Saf) : (s.modSaf f).sp = s.sp := rfl
@[simp] theorem State.modSaf_brk (s : State) (f : Saf → Saf) : (s.modSaf f).brk = s.brk := rfl
@[simp] theorem State.modSaf_ls (s : State) (f : Saf → Saf) : (s.modSaf f).ls = s.ls := rfl
@[simp] theorem State.modSaf_lk (s : State) (f : Saf → Saf) : (s.modSaf f).lk = s.lk := rfl
@[simp] theorem State.modSaf_chn (s : State) (f : Saf → Saf) : (s.modSaf f).chn = s.chn := rfl
@[simp] theorem State.modSaf_msh (s : State) (f : Saf → Saf) : (s.modSaf f).msh = s.msh := rfl
@[simp] theorem State.modSaf_nfc (s : State) (f : Saf → Saf) : (s.modSaf f).nfc = s.nfc := rfl
@[simp] theorem State.modSaf_dsp (s : State) (f : Saf → Saf) : (s.modSaf f).dsp = s.dsp := rfl
@[simp] theorem State.modSaf_sent (s : State) (f : Saf → Saf) : (s.modSaf f).sent = s.sent := rfl
@[simp] theorem State.modSaf_free (s : State) (f : Saf → Saf) : (s.modSaf f).free = s.free := rfl
@[simp] theorem State.modSaf_pending (s : State) (f : Saf → Saf) : (s.modSaf f).pending = s.pending := rfl
@[simp] theorem State.modSp_sys (s : State) (i : Port) (f : SafPort → SafPort) : (s.modSp i f).sys = s.sys := rfl
@[simp] theorem State.modSp_time (s : State) (i : Port) (f : SafPort → SafPort) : (s.modSp i f).time = s.time := rfl
@[simp] theorem State.modSp_host (s : State) (i : Port) (f : SafPort → SafPort) : (s.modSp i f).host = s.host := rfl
@[simp] theorem State.modSp_conf (s : State) (i : Port) (f : SafPort → SafPort) : (s.modSp i f).conf = s.conf := rfl
@[simp] theorem State.modSp_veh (s : State) (i : Port) (f : SafPort → SafPort) : (s.modSp i f).veh = s.veh := rfl
@[simp] theorem State.modSp_ses (s : State) (i : Port) (f : SafPort → SafPort) : (s.modSp i f).ses = s.ses := rfl
@[simp] theorem State.modSp_pwr (s : State) (i : Port) (f : SafPort → SafPort) : (s.modSp i f).pwr = s.pwr := rfl
@[simp] theorem State.modSp_pm (s : State) (i : Port) (f : SafPort → SafPort) : (s.modSp i f).pm = s.pm := rfl
@[simp] theorem State.modSp_lease (s : State) (i : Port) (f : SafPort → SafPort) : (s.modSp i f).lease = s.lease := rfl
@[simp] theorem State.modSp_legal (s : State) (i : Port) (f : SafPort → SafPort) : (s.modSp i f).legal = s.legal := rfl
@[simp] theorem State.modSp_sl (s : State) (i : Port) (f : SafPort → SafPort) : (s.modSp i f).sl = s.sl := rfl
@[simp] theorem State.modSp_met (s : State) (i : Port) (f : SafPort → SafPort) : (s.modSp i f).met = s.met := rfl
@[simp] theorem State.modSp_nrg (s : State) (i : Port) (f : SafPort → SafPort) : (s.modSp i f).nrg = s.nrg := rfl
@[simp] theorem State.modSp_bil (s : State) (i : Port) (f : SafPort → SafPort) : (s.modSp i f).bil = s.bil := rfl
@[simp] theorem State.modSp_pq (s : State) (i : Port) (f : SafPort → SafPort) : (s.modSp i f).pq = s.pq := rfl
@[simp] theorem State.modSp_jnl (s : State) (i : Port) (f : SafPort → SafPort) : (s.modSp i f).jnl = s.jnl := rfl
@[simp] theorem State.modSp_cave (s : State) (i : Port) (f : SafPort → SafPort) : (s.modSp i f).cave = s.cave := rfl
@[simp] theorem State.modSp_rind (s : State) (i : Port) (f : SafPort → SafPort) : (s.modSp i f).rind = s.rind := rfl
@[simp] theorem State.modSp_keys (s : State) (i : Port) (f : SafPort → SafPort) : (s.modSp i f).keys = s.keys := rfl
@[simp] theorem State.modSp_fw (s : State) (i : Port) (f : SafPort → SafPort) : (s.modSp i f).fw = s.fw := rfl
@[simp] theorem State.modSp_saf (s : State) (i : Port) (f : SafPort → SafPort) : (s.modSp i f).saf = s.saf := rfl
@[simp] theorem State.modSp_sp (s : State) (i : Port) (f : SafPort → SafPort) : (s.modSp i f).sp = upd s.sp i f := rfl
@[simp] theorem State.modSp_spAt (s : State) (i : Port) (f : SafPort → SafPort) : (s.modSp i f).spAt i = f (s.spAt i) := by simp [State.modSp, State.spAt]
@[simp] theorem State.modSp_brk (s : State) (i : Port) (f : SafPort → SafPort) : (s.modSp i f).brk = s.brk := rfl
@[simp] theorem State.modSp_ls (s : State) (i : Port) (f : SafPort → SafPort) : (s.modSp i f).ls = s.ls := rfl
@[simp] theorem State.modSp_lk (s : State) (i : Port) (f : SafPort → SafPort) : (s.modSp i f).lk = s.lk := rfl
@[simp] theorem State.modSp_chn (s : State) (i : Port) (f : SafPort → SafPort) : (s.modSp i f).chn = s.chn := rfl
@[simp] theorem State.modSp_msh (s : State) (i : Port) (f : SafPort → SafPort) : (s.modSp i f).msh = s.msh := rfl
@[simp] theorem State.modSp_nfc (s : State) (i : Port) (f : SafPort → SafPort) : (s.modSp i f).nfc = s.nfc := rfl
@[simp] theorem State.modSp_dsp (s : State) (i : Port) (f : SafPort → SafPort) : (s.modSp i f).dsp = s.dsp := rfl
@[simp] theorem State.modSp_sent (s : State) (i : Port) (f : SafPort → SafPort) : (s.modSp i f).sent = s.sent := rfl
@[simp] theorem State.modSp_free (s : State) (i : Port) (f : SafPort → SafPort) : (s.modSp i f).free = s.free := rfl
@[simp] theorem State.modSp_pending (s : State) (i : Port) (f : SafPort → SafPort) : (s.modSp i f).pending = s.pending := rfl
@[simp] theorem State.modBrk_sys (s : State) (i : Fin 2) (f : Brake → Brake) : (s.modBrk i f).sys = s.sys := rfl
@[simp] theorem State.modBrk_time (s : State) (i : Fin 2) (f : Brake → Brake) : (s.modBrk i f).time = s.time := rfl
@[simp] theorem State.modBrk_host (s : State) (i : Fin 2) (f : Brake → Brake) : (s.modBrk i f).host = s.host := rfl
@[simp] theorem State.modBrk_conf (s : State) (i : Fin 2) (f : Brake → Brake) : (s.modBrk i f).conf = s.conf := rfl
@[simp] theorem State.modBrk_veh (s : State) (i : Fin 2) (f : Brake → Brake) : (s.modBrk i f).veh = s.veh := rfl
@[simp] theorem State.modBrk_ses (s : State) (i : Fin 2) (f : Brake → Brake) : (s.modBrk i f).ses = s.ses := rfl
@[simp] theorem State.modBrk_pwr (s : State) (i : Fin 2) (f : Brake → Brake) : (s.modBrk i f).pwr = s.pwr := rfl
@[simp] theorem State.modBrk_pm (s : State) (i : Fin 2) (f : Brake → Brake) : (s.modBrk i f).pm = s.pm := rfl
@[simp] theorem State.modBrk_lease (s : State) (i : Fin 2) (f : Brake → Brake) : (s.modBrk i f).lease = s.lease := rfl
@[simp] theorem State.modBrk_legal (s : State) (i : Fin 2) (f : Brake → Brake) : (s.modBrk i f).legal = s.legal := rfl
@[simp] theorem State.modBrk_sl (s : State) (i : Fin 2) (f : Brake → Brake) : (s.modBrk i f).sl = s.sl := rfl
@[simp] theorem State.modBrk_met (s : State) (i : Fin 2) (f : Brake → Brake) : (s.modBrk i f).met = s.met := rfl
@[simp] theorem State.modBrk_nrg (s : State) (i : Fin 2) (f : Brake → Brake) : (s.modBrk i f).nrg = s.nrg := rfl
@[simp] theorem State.modBrk_bil (s : State) (i : Fin 2) (f : Brake → Brake) : (s.modBrk i f).bil = s.bil := rfl
@[simp] theorem State.modBrk_pq (s : State) (i : Fin 2) (f : Brake → Brake) : (s.modBrk i f).pq = s.pq := rfl
@[simp] theorem State.modBrk_jnl (s : State) (i : Fin 2) (f : Brake → Brake) : (s.modBrk i f).jnl = s.jnl := rfl
@[simp] theorem State.modBrk_cave (s : State) (i : Fin 2) (f : Brake → Brake) : (s.modBrk i f).cave = s.cave := rfl
@[simp] theorem State.modBrk_rind (s : State) (i : Fin 2) (f : Brake → Brake) : (s.modBrk i f).rind = s.rind := rfl
@[simp] theorem State.modBrk_keys (s : State) (i : Fin 2) (f : Brake → Brake) : (s.modBrk i f).keys = s.keys := rfl
@[simp] theorem State.modBrk_fw (s : State) (i : Fin 2) (f : Brake → Brake) : (s.modBrk i f).fw = s.fw := rfl
@[simp] theorem State.modBrk_saf (s : State) (i : Fin 2) (f : Brake → Brake) : (s.modBrk i f).saf = s.saf := rfl
@[simp] theorem State.modBrk_sp (s : State) (i : Fin 2) (f : Brake → Brake) : (s.modBrk i f).sp = s.sp := rfl
@[simp] theorem State.modBrk_brk (s : State) (i : Fin 2) (f : Brake → Brake) : (s.modBrk i f).brk = upd s.brk i f := rfl
@[simp] theorem State.modBrk_brkAt (s : State) (i : Fin 2) (f : Brake → Brake) : (s.modBrk i f).brkAt i = f (s.brkAt i) := by simp [State.modBrk, State.brkAt]
@[simp] theorem State.modBrk_ls (s : State) (i : Fin 2) (f : Brake → Brake) : (s.modBrk i f).ls = s.ls := rfl
@[simp] theorem State.modBrk_lk (s : State) (i : Fin 2) (f : Brake → Brake) : (s.modBrk i f).lk = s.lk := rfl
@[simp] theorem State.modBrk_chn (s : State) (i : Fin 2) (f : Brake → Brake) : (s.modBrk i f).chn = s.chn := rfl
@[simp] theorem State.modBrk_msh (s : State) (i : Fin 2) (f : Brake → Brake) : (s.modBrk i f).msh = s.msh := rfl
@[simp] theorem State.modBrk_nfc (s : State) (i : Fin 2) (f : Brake → Brake) : (s.modBrk i f).nfc = s.nfc := rfl
@[simp] theorem State.modBrk_dsp (s : State) (i : Fin 2) (f : Brake → Brake) : (s.modBrk i f).dsp = s.dsp := rfl
@[simp] theorem State.modBrk_sent (s : State) (i : Fin 2) (f : Brake → Brake) : (s.modBrk i f).sent = s.sent := rfl
@[simp] theorem State.modBrk_free (s : State) (i : Fin 2) (f : Brake → Brake) : (s.modBrk i f).free = s.free := rfl
@[simp] theorem State.modBrk_pending (s : State) (i : Fin 2) (f : Brake → Brake) : (s.modBrk i f).pending = s.pending := rfl
@[simp] theorem State.modLs_sys (s : State) (f : Ls → Ls) : (s.modLs f).sys = s.sys := rfl
@[simp] theorem State.modLs_time (s : State) (f : Ls → Ls) : (s.modLs f).time = s.time := rfl
@[simp] theorem State.modLs_host (s : State) (f : Ls → Ls) : (s.modLs f).host = s.host := rfl
@[simp] theorem State.modLs_conf (s : State) (f : Ls → Ls) : (s.modLs f).conf = s.conf := rfl
@[simp] theorem State.modLs_veh (s : State) (f : Ls → Ls) : (s.modLs f).veh = s.veh := rfl
@[simp] theorem State.modLs_ses (s : State) (f : Ls → Ls) : (s.modLs f).ses = s.ses := rfl
@[simp] theorem State.modLs_pwr (s : State) (f : Ls → Ls) : (s.modLs f).pwr = s.pwr := rfl
@[simp] theorem State.modLs_pm (s : State) (f : Ls → Ls) : (s.modLs f).pm = s.pm := rfl
@[simp] theorem State.modLs_lease (s : State) (f : Ls → Ls) : (s.modLs f).lease = s.lease := rfl
@[simp] theorem State.modLs_legal (s : State) (f : Ls → Ls) : (s.modLs f).legal = s.legal := rfl
@[simp] theorem State.modLs_sl (s : State) (f : Ls → Ls) : (s.modLs f).sl = s.sl := rfl
@[simp] theorem State.modLs_met (s : State) (f : Ls → Ls) : (s.modLs f).met = s.met := rfl
@[simp] theorem State.modLs_nrg (s : State) (f : Ls → Ls) : (s.modLs f).nrg = s.nrg := rfl
@[simp] theorem State.modLs_bil (s : State) (f : Ls → Ls) : (s.modLs f).bil = s.bil := rfl
@[simp] theorem State.modLs_pq (s : State) (f : Ls → Ls) : (s.modLs f).pq = s.pq := rfl
@[simp] theorem State.modLs_jnl (s : State) (f : Ls → Ls) : (s.modLs f).jnl = s.jnl := rfl
@[simp] theorem State.modLs_cave (s : State) (f : Ls → Ls) : (s.modLs f).cave = s.cave := rfl
@[simp] theorem State.modLs_rind (s : State) (f : Ls → Ls) : (s.modLs f).rind = s.rind := rfl
@[simp] theorem State.modLs_keys (s : State) (f : Ls → Ls) : (s.modLs f).keys = s.keys := rfl
@[simp] theorem State.modLs_fw (s : State) (f : Ls → Ls) : (s.modLs f).fw = s.fw := rfl
@[simp] theorem State.modLs_saf (s : State) (f : Ls → Ls) : (s.modLs f).saf = s.saf := rfl
@[simp] theorem State.modLs_sp (s : State) (f : Ls → Ls) : (s.modLs f).sp = s.sp := rfl
@[simp] theorem State.modLs_brk (s : State) (f : Ls → Ls) : (s.modLs f).brk = s.brk := rfl
@[simp] theorem State.modLs_ls (s : State) (f : Ls → Ls) : (s.modLs f).ls = f s.ls := rfl
@[simp] theorem State.modLs_lk (s : State) (f : Ls → Ls) : (s.modLs f).lk = s.lk := rfl
@[simp] theorem State.modLs_chn (s : State) (f : Ls → Ls) : (s.modLs f).chn = s.chn := rfl
@[simp] theorem State.modLs_msh (s : State) (f : Ls → Ls) : (s.modLs f).msh = s.msh := rfl
@[simp] theorem State.modLs_nfc (s : State) (f : Ls → Ls) : (s.modLs f).nfc = s.nfc := rfl
@[simp] theorem State.modLs_dsp (s : State) (f : Ls → Ls) : (s.modLs f).dsp = s.dsp := rfl
@[simp] theorem State.modLs_sent (s : State) (f : Ls → Ls) : (s.modLs f).sent = s.sent := rfl
@[simp] theorem State.modLs_free (s : State) (f : Ls → Ls) : (s.modLs f).free = s.free := rfl
@[simp] theorem State.modLs_pending (s : State) (f : Ls → Ls) : (s.modLs f).pending = s.pending := rfl
@[simp] theorem State.modLk_sys (s : State) (i : Port) (f : Lk → Lk) : (s.modLk i f).sys = s.sys := rfl
@[simp] theorem State.modLk_time (s : State) (i : Port) (f : Lk → Lk) : (s.modLk i f).time = s.time := rfl
@[simp] theorem State.modLk_host (s : State) (i : Port) (f : Lk → Lk) : (s.modLk i f).host = s.host := rfl
@[simp] theorem State.modLk_conf (s : State) (i : Port) (f : Lk → Lk) : (s.modLk i f).conf = s.conf := rfl
@[simp] theorem State.modLk_veh (s : State) (i : Port) (f : Lk → Lk) : (s.modLk i f).veh = s.veh := rfl
@[simp] theorem State.modLk_ses (s : State) (i : Port) (f : Lk → Lk) : (s.modLk i f).ses = s.ses := rfl
@[simp] theorem State.modLk_pwr (s : State) (i : Port) (f : Lk → Lk) : (s.modLk i f).pwr = s.pwr := rfl
@[simp] theorem State.modLk_pm (s : State) (i : Port) (f : Lk → Lk) : (s.modLk i f).pm = s.pm := rfl
@[simp] theorem State.modLk_lease (s : State) (i : Port) (f : Lk → Lk) : (s.modLk i f).lease = s.lease := rfl
@[simp] theorem State.modLk_legal (s : State) (i : Port) (f : Lk → Lk) : (s.modLk i f).legal = s.legal := rfl
@[simp] theorem State.modLk_sl (s : State) (i : Port) (f : Lk → Lk) : (s.modLk i f).sl = s.sl := rfl
@[simp] theorem State.modLk_met (s : State) (i : Port) (f : Lk → Lk) : (s.modLk i f).met = s.met := rfl
@[simp] theorem State.modLk_nrg (s : State) (i : Port) (f : Lk → Lk) : (s.modLk i f).nrg = s.nrg := rfl
@[simp] theorem State.modLk_bil (s : State) (i : Port) (f : Lk → Lk) : (s.modLk i f).bil = s.bil := rfl
@[simp] theorem State.modLk_pq (s : State) (i : Port) (f : Lk → Lk) : (s.modLk i f).pq = s.pq := rfl
@[simp] theorem State.modLk_jnl (s : State) (i : Port) (f : Lk → Lk) : (s.modLk i f).jnl = s.jnl := rfl
@[simp] theorem State.modLk_cave (s : State) (i : Port) (f : Lk → Lk) : (s.modLk i f).cave = s.cave := rfl
@[simp] theorem State.modLk_rind (s : State) (i : Port) (f : Lk → Lk) : (s.modLk i f).rind = s.rind := rfl
@[simp] theorem State.modLk_keys (s : State) (i : Port) (f : Lk → Lk) : (s.modLk i f).keys = s.keys := rfl
@[simp] theorem State.modLk_fw (s : State) (i : Port) (f : Lk → Lk) : (s.modLk i f).fw = s.fw := rfl
@[simp] theorem State.modLk_saf (s : State) (i : Port) (f : Lk → Lk) : (s.modLk i f).saf = s.saf := rfl
@[simp] theorem State.modLk_sp (s : State) (i : Port) (f : Lk → Lk) : (s.modLk i f).sp = s.sp := rfl
@[simp] theorem State.modLk_brk (s : State) (i : Port) (f : Lk → Lk) : (s.modLk i f).brk = s.brk := rfl
@[simp] theorem State.modLk_ls (s : State) (i : Port) (f : Lk → Lk) : (s.modLk i f).ls = s.ls := rfl
@[simp] theorem State.modLk_lk (s : State) (i : Port) (f : Lk → Lk) : (s.modLk i f).lk = upd s.lk i f := rfl
@[simp] theorem State.modLk_lkAt (s : State) (i : Port) (f : Lk → Lk) : (s.modLk i f).lkAt i = f (s.lkAt i) := by simp [State.modLk, State.lkAt]
@[simp] theorem State.modLk_chn (s : State) (i : Port) (f : Lk → Lk) : (s.modLk i f).chn = s.chn := rfl
@[simp] theorem State.modLk_msh (s : State) (i : Port) (f : Lk → Lk) : (s.modLk i f).msh = s.msh := rfl
@[simp] theorem State.modLk_nfc (s : State) (i : Port) (f : Lk → Lk) : (s.modLk i f).nfc = s.nfc := rfl
@[simp] theorem State.modLk_dsp (s : State) (i : Port) (f : Lk → Lk) : (s.modLk i f).dsp = s.dsp := rfl
@[simp] theorem State.modLk_sent (s : State) (i : Port) (f : Lk → Lk) : (s.modLk i f).sent = s.sent := rfl
@[simp] theorem State.modLk_free (s : State) (i : Port) (f : Lk → Lk) : (s.modLk i f).free = s.free := rfl
@[simp] theorem State.modLk_pending (s : State) (i : Port) (f : Lk → Lk) : (s.modLk i f).pending = s.pending := rfl
@[simp] theorem State.modChn_sys (s : State) (f : Chn → Chn) : (s.modChn f).sys = s.sys := rfl
@[simp] theorem State.modChn_time (s : State) (f : Chn → Chn) : (s.modChn f).time = s.time := rfl
@[simp] theorem State.modChn_host (s : State) (f : Chn → Chn) : (s.modChn f).host = s.host := rfl
@[simp] theorem State.modChn_conf (s : State) (f : Chn → Chn) : (s.modChn f).conf = s.conf := rfl
@[simp] theorem State.modChn_veh (s : State) (f : Chn → Chn) : (s.modChn f).veh = s.veh := rfl
@[simp] theorem State.modChn_ses (s : State) (f : Chn → Chn) : (s.modChn f).ses = s.ses := rfl
@[simp] theorem State.modChn_pwr (s : State) (f : Chn → Chn) : (s.modChn f).pwr = s.pwr := rfl
@[simp] theorem State.modChn_pm (s : State) (f : Chn → Chn) : (s.modChn f).pm = s.pm := rfl
@[simp] theorem State.modChn_lease (s : State) (f : Chn → Chn) : (s.modChn f).lease = s.lease := rfl
@[simp] theorem State.modChn_legal (s : State) (f : Chn → Chn) : (s.modChn f).legal = s.legal := rfl
@[simp] theorem State.modChn_sl (s : State) (f : Chn → Chn) : (s.modChn f).sl = s.sl := rfl
@[simp] theorem State.modChn_met (s : State) (f : Chn → Chn) : (s.modChn f).met = s.met := rfl
@[simp] theorem State.modChn_nrg (s : State) (f : Chn → Chn) : (s.modChn f).nrg = s.nrg := rfl
@[simp] theorem State.modChn_bil (s : State) (f : Chn → Chn) : (s.modChn f).bil = s.bil := rfl
@[simp] theorem State.modChn_pq (s : State) (f : Chn → Chn) : (s.modChn f).pq = s.pq := rfl
@[simp] theorem State.modChn_jnl (s : State) (f : Chn → Chn) : (s.modChn f).jnl = s.jnl := rfl
@[simp] theorem State.modChn_cave (s : State) (f : Chn → Chn) : (s.modChn f).cave = s.cave := rfl
@[simp] theorem State.modChn_rind (s : State) (f : Chn → Chn) : (s.modChn f).rind = s.rind := rfl
@[simp] theorem State.modChn_keys (s : State) (f : Chn → Chn) : (s.modChn f).keys = s.keys := rfl
@[simp] theorem State.modChn_fw (s : State) (f : Chn → Chn) : (s.modChn f).fw = s.fw := rfl
@[simp] theorem State.modChn_saf (s : State) (f : Chn → Chn) : (s.modChn f).saf = s.saf := rfl
@[simp] theorem State.modChn_sp (s : State) (f : Chn → Chn) : (s.modChn f).sp = s.sp := rfl
@[simp] theorem State.modChn_brk (s : State) (f : Chn → Chn) : (s.modChn f).brk = s.brk := rfl
@[simp] theorem State.modChn_ls (s : State) (f : Chn → Chn) : (s.modChn f).ls = s.ls := rfl
@[simp] theorem State.modChn_lk (s : State) (f : Chn → Chn) : (s.modChn f).lk = s.lk := rfl
@[simp] theorem State.modChn_chn (s : State) (f : Chn → Chn) : (s.modChn f).chn = f s.chn := rfl
@[simp] theorem State.modChn_msh (s : State) (f : Chn → Chn) : (s.modChn f).msh = s.msh := rfl
@[simp] theorem State.modChn_nfc (s : State) (f : Chn → Chn) : (s.modChn f).nfc = s.nfc := rfl
@[simp] theorem State.modChn_dsp (s : State) (f : Chn → Chn) : (s.modChn f).dsp = s.dsp := rfl
@[simp] theorem State.modChn_sent (s : State) (f : Chn → Chn) : (s.modChn f).sent = s.sent := rfl
@[simp] theorem State.modChn_free (s : State) (f : Chn → Chn) : (s.modChn f).free = s.free := rfl
@[simp] theorem State.modChn_pending (s : State) (f : Chn → Chn) : (s.modChn f).pending = s.pending := rfl
@[simp] theorem State.modMsh_sys (s : State) (f : Msh → Msh) : (s.modMsh f).sys = s.sys := rfl
@[simp] theorem State.modMsh_time (s : State) (f : Msh → Msh) : (s.modMsh f).time = s.time := rfl
@[simp] theorem State.modMsh_host (s : State) (f : Msh → Msh) : (s.modMsh f).host = s.host := rfl
@[simp] theorem State.modMsh_conf (s : State) (f : Msh → Msh) : (s.modMsh f).conf = s.conf := rfl
@[simp] theorem State.modMsh_veh (s : State) (f : Msh → Msh) : (s.modMsh f).veh = s.veh := rfl
@[simp] theorem State.modMsh_ses (s : State) (f : Msh → Msh) : (s.modMsh f).ses = s.ses := rfl
@[simp] theorem State.modMsh_pwr (s : State) (f : Msh → Msh) : (s.modMsh f).pwr = s.pwr := rfl
@[simp] theorem State.modMsh_pm (s : State) (f : Msh → Msh) : (s.modMsh f).pm = s.pm := rfl
@[simp] theorem State.modMsh_lease (s : State) (f : Msh → Msh) : (s.modMsh f).lease = s.lease := rfl
@[simp] theorem State.modMsh_legal (s : State) (f : Msh → Msh) : (s.modMsh f).legal = s.legal := rfl
@[simp] theorem State.modMsh_sl (s : State) (f : Msh → Msh) : (s.modMsh f).sl = s.sl := rfl
@[simp] theorem State.modMsh_met (s : State) (f : Msh → Msh) : (s.modMsh f).met = s.met := rfl
@[simp] theorem State.modMsh_nrg (s : State) (f : Msh → Msh) : (s.modMsh f).nrg = s.nrg := rfl
@[simp] theorem State.modMsh_bil (s : State) (f : Msh → Msh) : (s.modMsh f).bil = s.bil := rfl
@[simp] theorem State.modMsh_pq (s : State) (f : Msh → Msh) : (s.modMsh f).pq = s.pq := rfl
@[simp] theorem State.modMsh_jnl (s : State) (f : Msh → Msh) : (s.modMsh f).jnl = s.jnl := rfl
@[simp] theorem State.modMsh_cave (s : State) (f : Msh → Msh) : (s.modMsh f).cave = s.cave := rfl
@[simp] theorem State.modMsh_rind (s : State) (f : Msh → Msh) : (s.modMsh f).rind = s.rind := rfl
@[simp] theorem State.modMsh_keys (s : State) (f : Msh → Msh) : (s.modMsh f).keys = s.keys := rfl
@[simp] theorem State.modMsh_fw (s : State) (f : Msh → Msh) : (s.modMsh f).fw = s.fw := rfl
@[simp] theorem State.modMsh_saf (s : State) (f : Msh → Msh) : (s.modMsh f).saf = s.saf := rfl
@[simp] theorem State.modMsh_sp (s : State) (f : Msh → Msh) : (s.modMsh f).sp = s.sp := rfl
@[simp] theorem State.modMsh_brk (s : State) (f : Msh → Msh) : (s.modMsh f).brk = s.brk := rfl
@[simp] theorem State.modMsh_ls (s : State) (f : Msh → Msh) : (s.modMsh f).ls = s.ls := rfl
@[simp] theorem State.modMsh_lk (s : State) (f : Msh → Msh) : (s.modMsh f).lk = s.lk := rfl
@[simp] theorem State.modMsh_chn (s : State) (f : Msh → Msh) : (s.modMsh f).chn = s.chn := rfl
@[simp] theorem State.modMsh_msh (s : State) (f : Msh → Msh) : (s.modMsh f).msh = f s.msh := rfl
@[simp] theorem State.modMsh_nfc (s : State) (f : Msh → Msh) : (s.modMsh f).nfc = s.nfc := rfl
@[simp] theorem State.modMsh_dsp (s : State) (f : Msh → Msh) : (s.modMsh f).dsp = s.dsp := rfl
@[simp] theorem State.modMsh_sent (s : State) (f : Msh → Msh) : (s.modMsh f).sent = s.sent := rfl
@[simp] theorem State.modMsh_free (s : State) (f : Msh → Msh) : (s.modMsh f).free = s.free := rfl
@[simp] theorem State.modMsh_pending (s : State) (f : Msh → Msh) : (s.modMsh f).pending = s.pending := rfl
@[simp] theorem State.modNfc_sys (s : State) (f : Nfc → Nfc) : (s.modNfc f).sys = s.sys := rfl
@[simp] theorem State.modNfc_time (s : State) (f : Nfc → Nfc) : (s.modNfc f).time = s.time := rfl
@[simp] theorem State.modNfc_host (s : State) (f : Nfc → Nfc) : (s.modNfc f).host = s.host := rfl
@[simp] theorem State.modNfc_conf (s : State) (f : Nfc → Nfc) : (s.modNfc f).conf = s.conf := rfl
@[simp] theorem State.modNfc_veh (s : State) (f : Nfc → Nfc) : (s.modNfc f).veh = s.veh := rfl
@[simp] theorem State.modNfc_ses (s : State) (f : Nfc → Nfc) : (s.modNfc f).ses = s.ses := rfl
@[simp] theorem State.modNfc_pwr (s : State) (f : Nfc → Nfc) : (s.modNfc f).pwr = s.pwr := rfl
@[simp] theorem State.modNfc_pm (s : State) (f : Nfc → Nfc) : (s.modNfc f).pm = s.pm := rfl
@[simp] theorem State.modNfc_lease (s : State) (f : Nfc → Nfc) : (s.modNfc f).lease = s.lease := rfl
@[simp] theorem State.modNfc_legal (s : State) (f : Nfc → Nfc) : (s.modNfc f).legal = s.legal := rfl
@[simp] theorem State.modNfc_sl (s : State) (f : Nfc → Nfc) : (s.modNfc f).sl = s.sl := rfl
@[simp] theorem State.modNfc_met (s : State) (f : Nfc → Nfc) : (s.modNfc f).met = s.met := rfl
@[simp] theorem State.modNfc_nrg (s : State) (f : Nfc → Nfc) : (s.modNfc f).nrg = s.nrg := rfl
@[simp] theorem State.modNfc_bil (s : State) (f : Nfc → Nfc) : (s.modNfc f).bil = s.bil := rfl
@[simp] theorem State.modNfc_pq (s : State) (f : Nfc → Nfc) : (s.modNfc f).pq = s.pq := rfl
@[simp] theorem State.modNfc_jnl (s : State) (f : Nfc → Nfc) : (s.modNfc f).jnl = s.jnl := rfl
@[simp] theorem State.modNfc_cave (s : State) (f : Nfc → Nfc) : (s.modNfc f).cave = s.cave := rfl
@[simp] theorem State.modNfc_rind (s : State) (f : Nfc → Nfc) : (s.modNfc f).rind = s.rind := rfl
@[simp] theorem State.modNfc_keys (s : State) (f : Nfc → Nfc) : (s.modNfc f).keys = s.keys := rfl
@[simp] theorem State.modNfc_fw (s : State) (f : Nfc → Nfc) : (s.modNfc f).fw = s.fw := rfl
@[simp] theorem State.modNfc_saf (s : State) (f : Nfc → Nfc) : (s.modNfc f).saf = s.saf := rfl
@[simp] theorem State.modNfc_sp (s : State) (f : Nfc → Nfc) : (s.modNfc f).sp = s.sp := rfl
@[simp] theorem State.modNfc_brk (s : State) (f : Nfc → Nfc) : (s.modNfc f).brk = s.brk := rfl
@[simp] theorem State.modNfc_ls (s : State) (f : Nfc → Nfc) : (s.modNfc f).ls = s.ls := rfl
@[simp] theorem State.modNfc_lk (s : State) (f : Nfc → Nfc) : (s.modNfc f).lk = s.lk := rfl
@[simp] theorem State.modNfc_chn (s : State) (f : Nfc → Nfc) : (s.modNfc f).chn = s.chn := rfl
@[simp] theorem State.modNfc_msh (s : State) (f : Nfc → Nfc) : (s.modNfc f).msh = s.msh := rfl
@[simp] theorem State.modNfc_nfc (s : State) (f : Nfc → Nfc) : (s.modNfc f).nfc = f s.nfc := rfl
@[simp] theorem State.modNfc_dsp (s : State) (f : Nfc → Nfc) : (s.modNfc f).dsp = s.dsp := rfl
@[simp] theorem State.modNfc_sent (s : State) (f : Nfc → Nfc) : (s.modNfc f).sent = s.sent := rfl
@[simp] theorem State.modNfc_free (s : State) (f : Nfc → Nfc) : (s.modNfc f).free = s.free := rfl
@[simp] theorem State.modNfc_pending (s : State) (f : Nfc → Nfc) : (s.modNfc f).pending = s.pending := rfl
@[simp] theorem State.modDsp_sys (s : State) (f : Dsp → Dsp) : (s.modDsp f).sys = s.sys := rfl
@[simp] theorem State.modDsp_time (s : State) (f : Dsp → Dsp) : (s.modDsp f).time = s.time := rfl
@[simp] theorem State.modDsp_host (s : State) (f : Dsp → Dsp) : (s.modDsp f).host = s.host := rfl
@[simp] theorem State.modDsp_conf (s : State) (f : Dsp → Dsp) : (s.modDsp f).conf = s.conf := rfl
@[simp] theorem State.modDsp_veh (s : State) (f : Dsp → Dsp) : (s.modDsp f).veh = s.veh := rfl
@[simp] theorem State.modDsp_ses (s : State) (f : Dsp → Dsp) : (s.modDsp f).ses = s.ses := rfl
@[simp] theorem State.modDsp_pwr (s : State) (f : Dsp → Dsp) : (s.modDsp f).pwr = s.pwr := rfl
@[simp] theorem State.modDsp_pm (s : State) (f : Dsp → Dsp) : (s.modDsp f).pm = s.pm := rfl
@[simp] theorem State.modDsp_lease (s : State) (f : Dsp → Dsp) : (s.modDsp f).lease = s.lease := rfl
@[simp] theorem State.modDsp_legal (s : State) (f : Dsp → Dsp) : (s.modDsp f).legal = s.legal := rfl
@[simp] theorem State.modDsp_sl (s : State) (f : Dsp → Dsp) : (s.modDsp f).sl = s.sl := rfl
@[simp] theorem State.modDsp_met (s : State) (f : Dsp → Dsp) : (s.modDsp f).met = s.met := rfl
@[simp] theorem State.modDsp_nrg (s : State) (f : Dsp → Dsp) : (s.modDsp f).nrg = s.nrg := rfl
@[simp] theorem State.modDsp_bil (s : State) (f : Dsp → Dsp) : (s.modDsp f).bil = s.bil := rfl
@[simp] theorem State.modDsp_pq (s : State) (f : Dsp → Dsp) : (s.modDsp f).pq = s.pq := rfl
@[simp] theorem State.modDsp_jnl (s : State) (f : Dsp → Dsp) : (s.modDsp f).jnl = s.jnl := rfl
@[simp] theorem State.modDsp_cave (s : State) (f : Dsp → Dsp) : (s.modDsp f).cave = s.cave := rfl
@[simp] theorem State.modDsp_rind (s : State) (f : Dsp → Dsp) : (s.modDsp f).rind = s.rind := rfl
@[simp] theorem State.modDsp_keys (s : State) (f : Dsp → Dsp) : (s.modDsp f).keys = s.keys := rfl
@[simp] theorem State.modDsp_fw (s : State) (f : Dsp → Dsp) : (s.modDsp f).fw = s.fw := rfl
@[simp] theorem State.modDsp_saf (s : State) (f : Dsp → Dsp) : (s.modDsp f).saf = s.saf := rfl
@[simp] theorem State.modDsp_sp (s : State) (f : Dsp → Dsp) : (s.modDsp f).sp = s.sp := rfl
@[simp] theorem State.modDsp_brk (s : State) (f : Dsp → Dsp) : (s.modDsp f).brk = s.brk := rfl
@[simp] theorem State.modDsp_ls (s : State) (f : Dsp → Dsp) : (s.modDsp f).ls = s.ls := rfl
@[simp] theorem State.modDsp_lk (s : State) (f : Dsp → Dsp) : (s.modDsp f).lk = s.lk := rfl
@[simp] theorem State.modDsp_chn (s : State) (f : Dsp → Dsp) : (s.modDsp f).chn = s.chn := rfl
@[simp] theorem State.modDsp_msh (s : State) (f : Dsp → Dsp) : (s.modDsp f).msh = s.msh := rfl
@[simp] theorem State.modDsp_nfc (s : State) (f : Dsp → Dsp) : (s.modDsp f).nfc = s.nfc := rfl
@[simp] theorem State.modDsp_dsp (s : State) (f : Dsp → Dsp) : (s.modDsp f).dsp = f s.dsp := rfl
@[simp] theorem State.modDsp_sent (s : State) (f : Dsp → Dsp) : (s.modDsp f).sent = s.sent := rfl
@[simp] theorem State.modDsp_free (s : State) (f : Dsp → Dsp) : (s.modDsp f).free = s.free := rfl
@[simp] theorem State.modDsp_pending (s : State) (f : Dsp → Dsp) : (s.modDsp f).pending = s.pending := rfl
@[simp] theorem State.modSent_sys (s : State) (f : List Out → List Out) : (s.modSent f).sys = s.sys := rfl
@[simp] theorem State.modSent_time (s : State) (f : List Out → List Out) : (s.modSent f).time = s.time := rfl
@[simp] theorem State.modSent_host (s : State) (f : List Out → List Out) : (s.modSent f).host = s.host := rfl
@[simp] theorem State.modSent_conf (s : State) (f : List Out → List Out) : (s.modSent f).conf = s.conf := rfl
@[simp] theorem State.modSent_veh (s : State) (f : List Out → List Out) : (s.modSent f).veh = s.veh := rfl
@[simp] theorem State.modSent_ses (s : State) (f : List Out → List Out) : (s.modSent f).ses = s.ses := rfl
@[simp] theorem State.modSent_pwr (s : State) (f : List Out → List Out) : (s.modSent f).pwr = s.pwr := rfl
@[simp] theorem State.modSent_pm (s : State) (f : List Out → List Out) : (s.modSent f).pm = s.pm := rfl
@[simp] theorem State.modSent_lease (s : State) (f : List Out → List Out) : (s.modSent f).lease = s.lease := rfl
@[simp] theorem State.modSent_legal (s : State) (f : List Out → List Out) : (s.modSent f).legal = s.legal := rfl
@[simp] theorem State.modSent_sl (s : State) (f : List Out → List Out) : (s.modSent f).sl = s.sl := rfl
@[simp] theorem State.modSent_met (s : State) (f : List Out → List Out) : (s.modSent f).met = s.met := rfl
@[simp] theorem State.modSent_nrg (s : State) (f : List Out → List Out) : (s.modSent f).nrg = s.nrg := rfl
@[simp] theorem State.modSent_bil (s : State) (f : List Out → List Out) : (s.modSent f).bil = s.bil := rfl
@[simp] theorem State.modSent_pq (s : State) (f : List Out → List Out) : (s.modSent f).pq = s.pq := rfl
@[simp] theorem State.modSent_jnl (s : State) (f : List Out → List Out) : (s.modSent f).jnl = s.jnl := rfl
@[simp] theorem State.modSent_cave (s : State) (f : List Out → List Out) : (s.modSent f).cave = s.cave := rfl
@[simp] theorem State.modSent_rind (s : State) (f : List Out → List Out) : (s.modSent f).rind = s.rind := rfl
@[simp] theorem State.modSent_keys (s : State) (f : List Out → List Out) : (s.modSent f).keys = s.keys := rfl
@[simp] theorem State.modSent_fw (s : State) (f : List Out → List Out) : (s.modSent f).fw = s.fw := rfl
@[simp] theorem State.modSent_saf (s : State) (f : List Out → List Out) : (s.modSent f).saf = s.saf := rfl
@[simp] theorem State.modSent_sp (s : State) (f : List Out → List Out) : (s.modSent f).sp = s.sp := rfl
@[simp] theorem State.modSent_brk (s : State) (f : List Out → List Out) : (s.modSent f).brk = s.brk := rfl
@[simp] theorem State.modSent_ls (s : State) (f : List Out → List Out) : (s.modSent f).ls = s.ls := rfl
@[simp] theorem State.modSent_lk (s : State) (f : List Out → List Out) : (s.modSent f).lk = s.lk := rfl
@[simp] theorem State.modSent_chn (s : State) (f : List Out → List Out) : (s.modSent f).chn = s.chn := rfl
@[simp] theorem State.modSent_msh (s : State) (f : List Out → List Out) : (s.modSent f).msh = s.msh := rfl
@[simp] theorem State.modSent_nfc (s : State) (f : List Out → List Out) : (s.modSent f).nfc = s.nfc := rfl
@[simp] theorem State.modSent_dsp (s : State) (f : List Out → List Out) : (s.modSent f).dsp = s.dsp := rfl
@[simp] theorem State.modSent_sent (s : State) (f : List Out → List Out) : (s.modSent f).sent = f s.sent := rfl
@[simp] theorem State.modSent_free (s : State) (f : List Out → List Out) : (s.modSent f).free = s.free := rfl
@[simp] theorem State.modSent_pending (s : State) (f : List Out → List Out) : (s.modSent f).pending = s.pending := rfl
@[simp] theorem State.modFree_sys (s : State) (f : Nat → Nat) : (s.modFree f).sys = s.sys := rfl
@[simp] theorem State.modFree_time (s : State) (f : Nat → Nat) : (s.modFree f).time = s.time := rfl
@[simp] theorem State.modFree_host (s : State) (f : Nat → Nat) : (s.modFree f).host = s.host := rfl
@[simp] theorem State.modFree_conf (s : State) (f : Nat → Nat) : (s.modFree f).conf = s.conf := rfl
@[simp] theorem State.modFree_veh (s : State) (f : Nat → Nat) : (s.modFree f).veh = s.veh := rfl
@[simp] theorem State.modFree_ses (s : State) (f : Nat → Nat) : (s.modFree f).ses = s.ses := rfl
@[simp] theorem State.modFree_pwr (s : State) (f : Nat → Nat) : (s.modFree f).pwr = s.pwr := rfl
@[simp] theorem State.modFree_pm (s : State) (f : Nat → Nat) : (s.modFree f).pm = s.pm := rfl
@[simp] theorem State.modFree_lease (s : State) (f : Nat → Nat) : (s.modFree f).lease = s.lease := rfl
@[simp] theorem State.modFree_legal (s : State) (f : Nat → Nat) : (s.modFree f).legal = s.legal := rfl
@[simp] theorem State.modFree_sl (s : State) (f : Nat → Nat) : (s.modFree f).sl = s.sl := rfl
@[simp] theorem State.modFree_met (s : State) (f : Nat → Nat) : (s.modFree f).met = s.met := rfl
@[simp] theorem State.modFree_nrg (s : State) (f : Nat → Nat) : (s.modFree f).nrg = s.nrg := rfl
@[simp] theorem State.modFree_bil (s : State) (f : Nat → Nat) : (s.modFree f).bil = s.bil := rfl
@[simp] theorem State.modFree_pq (s : State) (f : Nat → Nat) : (s.modFree f).pq = s.pq := rfl
@[simp] theorem State.modFree_jnl (s : State) (f : Nat → Nat) : (s.modFree f).jnl = s.jnl := rfl
@[simp] theorem State.modFree_cave (s : State) (f : Nat → Nat) : (s.modFree f).cave = s.cave := rfl
@[simp] theorem State.modFree_rind (s : State) (f : Nat → Nat) : (s.modFree f).rind = s.rind := rfl
@[simp] theorem State.modFree_keys (s : State) (f : Nat → Nat) : (s.modFree f).keys = s.keys := rfl
@[simp] theorem State.modFree_fw (s : State) (f : Nat → Nat) : (s.modFree f).fw = s.fw := rfl
@[simp] theorem State.modFree_saf (s : State) (f : Nat → Nat) : (s.modFree f).saf = s.saf := rfl
@[simp] theorem State.modFree_sp (s : State) (f : Nat → Nat) : (s.modFree f).sp = s.sp := rfl
@[simp] theorem State.modFree_brk (s : State) (f : Nat → Nat) : (s.modFree f).brk = s.brk := rfl
@[simp] theorem State.modFree_ls (s : State) (f : Nat → Nat) : (s.modFree f).ls = s.ls := rfl
@[simp] theorem State.modFree_lk (s : State) (f : Nat → Nat) : (s.modFree f).lk = s.lk := rfl
@[simp] theorem State.modFree_chn (s : State) (f : Nat → Nat) : (s.modFree f).chn = s.chn := rfl
@[simp] theorem State.modFree_msh (s : State) (f : Nat → Nat) : (s.modFree f).msh = s.msh := rfl
@[simp] theorem State.modFree_nfc (s : State) (f : Nat → Nat) : (s.modFree f).nfc = s.nfc := rfl
@[simp] theorem State.modFree_dsp (s : State) (f : Nat → Nat) : (s.modFree f).dsp = s.dsp := rfl
@[simp] theorem State.modFree_sent (s : State) (f : Nat → Nat) : (s.modFree f).sent = s.sent := rfl
@[simp] theorem State.modFree_free (s : State) (f : Nat → Nat) : (s.modFree f).free = f s.free := rfl
@[simp] theorem State.modFree_pending (s : State) (f : Nat → Nat) : (s.modFree f).pending = s.pending := rfl

end Sys2Proof.Machine
end

