-- ==== Sys2Proof/Laws/Ops.lean ====
section
/-! SUPPORT. The shared operations on interrupts, counters, violations and answers change the host's side and what is sent, and
nothing else. -/

namespace Sys2Proof.Machine

/-- Only the host's side and the outputs differ. -/
def OnHost (s t : State) : Prop := t = { s with host := t.host, sent := t.sent }

theorem OnHost.refl (s : State) : OnHost s s := rfl
theorem OnHost.trans {s t u : State} (h : OnHost s t) (k : OnHost t u) : OnHost s u := by
  unfold OnHost at *; rw [k, h]

theorem onHost_modHost (s : State) (f : HostSt → HostSt) : OnHost s (s.modHost f) := rfl
theorem onHost_modGuest (s : State) (g : Guest) (f : GuestSt → GuestSt) : OnHost s (s.modGuest g f) := rfl
theorem onHost_emit (s : State) (o : Out) : OnHost s (s.emit o) := rfl

theorem onHost_foldl {α : Type} (f : State → α → State) (hf : ∀ t a, OnHost t (f t a)) (l : List α) (s : State) :
    OnHost s (l.foldl f s) := by
  induction l generalizing s with
  | nil => exact .refl s
  | cons a l ih => exact (hf s a).trans (ih _)

theorem onHost_each {n : Nat} (s : State) (f : Fin n → State → State) (hf : ∀ i t, OnHost t (f i t)) : OnHost s (s.each f) :=
  onHost_foldl _ (fun t a => hf a t) _ _

theorem onHost_fireIrq (s : State) (g : Guest) (src : Nat) : OnHost s (s.fireIrq g src) := by
  unfold State.fireIrq
  simp only
  split
  · rfl
  · split <;> rfl

theorem onHost_setIrq (s : State) (g : Guest) (f : Irq → Irq) : OnHost s (s.setIrq g f) := by
  unfold State.setIrq
  extract_lets old new born s1 s2
  have h1 : OnHost s s1 := by
    refine (onHost_modGuest s g _).trans (onHost_foldl _ (fun t a => ?_) _ _)
    split
    · exact onHost_fireIrq t g a
    · rfl
  have h2 : OnHost s s2 := by
    refine h1.trans (onHost_foldl _ (fun t k => ?_) _ _)
    split <;> rfl
  split
  · exact h2.trans (onHost_fireIrq _ g 18)
  · exact h2

theorem onHost_irq (s : State) (g : Guest) (src : Nat) : OnHost s (s.irq g src) := onHost_setIrq s g _
theorem onHost_irqAll (s : State) (src : Nat) : OnHost s (s.irqAll src) := onHost_each s _ fun g t => onHost_irq t g src

theorem onHost_irqPort (s : State) (p : Port) : OnHost s (s.irqPort p) := by
  refine onHost_each s _ fun g t => ?_
  split
  · exact onHost_irq t g _
  · rfl

theorem onHost_count (s : State) (g : Guest) (code n : Nat) : OnHost s (s.count g code n) := by
  unfold State.count
  simp only
  split
  · rfl
  · exact (onHost_modGuest s g _).trans (onHost_irq _ g 18)

theorem onHost_countPort (s : State) (p : Port) (code n : Nat) : OnHost s (s.countPort p code n) := by
  refine onHost_each s _ fun g t => ?_
  split
  · exact onHost_count t g _ _
  · rfl

theorem onHost_countGroup (s : State) (bit code n : Nat) : OnHost s (s.countGroup bit code n) := by
  refine onHost_each s _ fun g t => ?_
  split
  · exact onHost_count t g _ _
  · rfl

theorem onHost_violation (s : State) (g : Guest) (a i t : Word) : OnHost s (s.violation g a i t) :=
  ((onHost_modGuest s g _).trans (onHost_count _ g _ _)).trans (onHost_irq _ g 17)

theorem onHost_answer (s : State) (r : Req) (code : Nat) (ws : List Word) : OnHost s (s.answer r code ws) := rfl
theorem onHost_accept (s : State) (r : Req) : OnHost s (s.accept r) := rfl
theorem onHost_final (s : State) (r : Req) (code : Nat) (ws : List Word) : OnHost s (s.final r code ws) := rfl
theorem onHost_finalOpt (s : State) (r : Option Req) (code : Nat) (ws : List Word) : OnHost s (s.finalOpt r code ws) := by
  cases r <;> rfl

theorem onHost_useRing (s : State) (r : Req) (ring code : Nat) (out : List Byte) : OnHost s (s.useRing r ring code out) := by
  unfold State.useRing
  split
  · extract_lets taken q s1 s2
    split
    · exact ((onHost_modGuest s2 _ _).trans (onHost_count _ _ _ _)).trans (onHost_irq _ _ _) |> (OnHost.trans (t := s2) rfl ·)
    · rfl
  · rfl

theorem onHost_endRing (s : State) (r : Req) (ring code : Nat) (ws : List Word) : OnHost s (s.endRing r ring code ws) :=
  (onHost_useRing s r ring code []).trans rfl

theorem onHost_answerRing (s : State) (r : Req) (ring : Nat) (bytes : List Byte) (ws : List Word) :
    OnHost s (s.answerRing r ring bytes ws) := by
  unfold State.answerRing
  extract_lets q
  split
  · exact (onHost_emit s _).trans ((onHost_useRing _ q ring _ _).trans rfl)
  · exact onHost_endRing s q ring _ _

theorem onHost_sysChanged (s : State) : OnHost s s.sysChanged := onHost_irqAll s _

theorem OnHost.sys {s t : State} (h : OnHost s t) : t.sys = s.sys := by rw [h]
theorem OnHost.time {s t : State} (h : OnHost s t) : t.time = s.time := by rw [h]
theorem OnHost.conf {s t : State} (h : OnHost s t) : t.conf = s.conf := by rw [h]
theorem OnHost.veh {s t : State} (h : OnHost s t) : t.veh = s.veh := by rw [h]
theorem OnHost.ses {s t : State} (h : OnHost s t) : t.ses = s.ses := by rw [h]
theorem OnHost.pwr {s t : State} (h : OnHost s t) : t.pwr = s.pwr := by rw [h]
theorem OnHost.pm {s t : State} (h : OnHost s t) : t.pm = s.pm := by rw [h]
theorem OnHost.lease {s t : State} (h : OnHost s t) : t.lease = s.lease := by rw [h]
theorem OnHost.legal {s t : State} (h : OnHost s t) : t.legal = s.legal := by rw [h]
theorem OnHost.sl {s t : State} (h : OnHost s t) : t.sl = s.sl := by rw [h]
theorem OnHost.met {s t : State} (h : OnHost s t) : t.met = s.met := by rw [h]
theorem OnHost.nrg {s t : State} (h : OnHost s t) : t.nrg = s.nrg := by rw [h]
theorem OnHost.bil {s t : State} (h : OnHost s t) : t.bil = s.bil := by rw [h]
theorem OnHost.pq {s t : State} (h : OnHost s t) : t.pq = s.pq := by rw [h]
theorem OnHost.jnl {s t : State} (h : OnHost s t) : t.jnl = s.jnl := by rw [h]
theorem OnHost.cave {s t : State} (h : OnHost s t) : t.cave = s.cave := by rw [h]
theorem OnHost.rind {s t : State} (h : OnHost s t) : t.rind = s.rind := by rw [h]
theorem OnHost.keys {s t : State} (h : OnHost s t) : t.keys = s.keys := by rw [h]
theorem OnHost.fw {s t : State} (h : OnHost s t) : t.fw = s.fw := by rw [h]
theorem OnHost.saf {s t : State} (h : OnHost s t) : t.saf = s.saf := by rw [h]
theorem OnHost.sp {s t : State} (h : OnHost s t) : t.sp = s.sp := by rw [h]
theorem OnHost.brk {s t : State} (h : OnHost s t) : t.brk = s.brk := by rw [h]
theorem OnHost.ls {s t : State} (h : OnHost s t) : t.ls = s.ls := by rw [h]
theorem OnHost.lk {s t : State} (h : OnHost s t) : t.lk = s.lk := by rw [h]
theorem OnHost.chn {s t : State} (h : OnHost s t) : t.chn = s.chn := by rw [h]
theorem OnHost.msh {s t : State} (h : OnHost s t) : t.msh = s.msh := by rw [h]
theorem OnHost.nfc {s t : State} (h : OnHost s t) : t.nfc = s.nfc := by rw [h]
theorem OnHost.dsp {s t : State} (h : OnHost s t) : t.dsp = s.dsp := by rw [h]
theorem OnHost.free {s t : State} (h : OnHost s t) : t.free = s.free := by rw [h]
theorem OnHost.pending {s t : State} (h : OnHost s t) : t.pending = s.pending := by rw [h]

@[simp] theorem State.irq_sys (s : State) (g : Guest) (src : Nat) : (s.irq g src).sys = s.sys := (onHost_irq s g src).sys
@[simp] theorem State.irq_time (s : State) (g : Guest) (src : Nat) : (s.irq g src).time = s.time := (onHost_irq s g src).time
@[simp] theorem State.irq_conf (s : State) (g : Guest) (src : Nat) : (s.irq g src).conf = s.conf := (onHost_irq s g src).conf
@[simp] theorem State.irq_veh (s : State) (g : Guest) (src : Nat) : (s.irq g src).veh = s.veh := (onHost_irq s g src).veh
@[simp] theorem State.irq_ses (s : State) (g : Guest) (src : Nat) : (s.irq g src).ses = s.ses := (onHost_irq s g src).ses
@[simp] theorem State.irq_pwr (s : State) (g : Guest) (src : Nat) : (s.irq g src).pwr = s.pwr := (onHost_irq s g src).pwr
@[simp] theorem State.irq_pm (s : State) (g : Guest) (src : Nat) : (s.irq g src).pm = s.pm := (onHost_irq s g src).pm
@[simp] theorem State.irq_lease (s : State) (g : Guest) (src : Nat) : (s.irq g src).lease = s.lease := (onHost_irq s g src).lease
@[simp] theorem State.irq_legal (s : State) (g : Guest) (src : Nat) : (s.irq g src).legal = s.legal := (onHost_irq s g src).legal
@[simp] theorem State.irq_sl (s : State) (g : Guest) (src : Nat) : (s.irq g src).sl = s.sl := (onHost_irq s g src).sl
@[simp] theorem State.irq_met (s : State) (g : Guest) (src : Nat) : (s.irq g src).met = s.met := (onHost_irq s g src).met
@[simp] theorem State.irq_nrg (s : State) (g : Guest) (src : Nat) : (s.irq g src).nrg = s.nrg := (onHost_irq s g src).nrg
@[simp] theorem State.irq_bil (s : State) (g : Guest) (src : Nat) : (s.irq g src).bil = s.bil := (onHost_irq s g src).bil
@[simp] theorem State.irq_pq (s : State) (g : Guest) (src : Nat) : (s.irq g src).pq = s.pq := (onHost_irq s g src).pq
@[simp] theorem State.irq_jnl (s : State) (g : Guest) (src : Nat) : (s.irq g src).jnl = s.jnl := (onHost_irq s g src).jnl
@[simp] theorem State.irq_cave (s : State) (g : Guest) (src : Nat) : (s.irq g src).cave = s.cave := (onHost_irq s g src).cave
@[simp] theorem State.irq_rind (s : State) (g : Guest) (src : Nat) : (s.irq g src).rind = s.rind := (onHost_irq s g src).rind
@[simp] theorem State.irq_keys (s : State) (g : Guest) (src : Nat) : (s.irq g src).keys = s.keys := (onHost_irq s g src).keys
@[simp] theorem State.irq_fw (s : State) (g : Guest) (src : Nat) : (s.irq g src).fw = s.fw := (onHost_irq s g src).fw
@[simp] theorem State.irq_saf (s : State) (g : Guest) (src : Nat) : (s.irq g src).saf = s.saf := (onHost_irq s g src).saf
@[simp] theorem State.irq_sp (s : State) (g : Guest) (src : Nat) : (s.irq g src).sp = s.sp := (onHost_irq s g src).sp
@[simp] theorem State.irq_brk (s : State) (g : Guest) (src : Nat) : (s.irq g src).brk = s.brk := (onHost_irq s g src).brk
@[simp] theorem State.irq_ls (s : State) (g : Guest) (src : Nat) : (s.irq g src).ls = s.ls := (onHost_irq s g src).ls
@[simp] theorem State.irq_lk (s : State) (g : Guest) (src : Nat) : (s.irq g src).lk = s.lk := (onHost_irq s g src).lk
@[simp] theorem State.irq_chn (s : State) (g : Guest) (src : Nat) : (s.irq g src).chn = s.chn := (onHost_irq s g src).chn
@[simp] theorem State.irq_msh (s : State) (g : Guest) (src : Nat) : (s.irq g src).msh = s.msh := (onHost_irq s g src).msh
@[simp] theorem State.irq_nfc (s : State) (g : Guest) (src : Nat) : (s.irq g src).nfc = s.nfc := (onHost_irq s g src).nfc
@[simp] theorem State.irq_dsp (s : State) (g : Guest) (src : Nat) : (s.irq g src).dsp = s.dsp := (onHost_irq s g src).dsp
@[simp] theorem State.irq_free (s : State) (g : Guest) (src : Nat) : (s.irq g src).free = s.free := (onHost_irq s g src).free
@[simp] theorem State.irq_pending (s : State) (g : Guest) (src : Nat) : (s.irq g src).pending = s.pending := (onHost_irq s g src).pending
@[simp] theorem State.irqAll_sys (s : State) (src : Nat) : (s.irqAll src).sys = s.sys := (onHost_irqAll s src).sys
@[simp] theorem State.irqAll_time (s : State) (src : Nat) : (s.irqAll src).time = s.time := (onHost_irqAll s src).time
@[simp] theorem State.irqAll_conf (s : State) (src : Nat) : (s.irqAll src).conf = s.conf := (onHost_irqAll s src).conf
@[simp] theorem State.irqAll_veh (s : State) (src : Nat) : (s.irqAll src).veh = s.veh := (onHost_irqAll s src).veh
@[simp] theorem State.irqAll_ses (s : State) (src : Nat) : (s.irqAll src).ses = s.ses := (onHost_irqAll s src).ses
@[simp] theorem State.irqAll_pwr (s : State) (src : Nat) : (s.irqAll src).pwr = s.pwr := (onHost_irqAll s src).pwr
@[simp] theorem State.irqAll_pm (s : State) (src : Nat) : (s.irqAll src).pm = s.pm := (onHost_irqAll s src).pm
@[simp] theorem State.irqAll_lease (s : State) (src : Nat) : (s.irqAll src).lease = s.lease := (onHost_irqAll s src).lease
@[simp] theorem State.irqAll_legal (s : State) (src : Nat) : (s.irqAll src).legal = s.legal := (onHost_irqAll s src).legal
@[simp] theorem State.irqAll_sl (s : State) (src : Nat) : (s.irqAll src).sl = s.sl := (onHost_irqAll s src).sl
@[simp] theorem State.irqAll_met (s : State) (src : Nat) : (s.irqAll src).met = s.met := (onHost_irqAll s src).met
@[simp] theorem State.irqAll_nrg (s : State) (src : Nat) : (s.irqAll src).nrg = s.nrg := (onHost_irqAll s src).nrg
@[simp] theorem State.irqAll_bil (s : State) (src : Nat) : (s.irqAll src).bil = s.bil := (onHost_irqAll s src).bil
@[simp] theorem State.irqAll_pq (s : State) (src : Nat) : (s.irqAll src).pq = s.pq := (onHost_irqAll s src).pq
@[simp] theorem State.irqAll_jnl (s : State) (src : Nat) : (s.irqAll src).jnl = s.jnl := (onHost_irqAll s src).jnl
@[simp] theorem State.irqAll_cave (s : State) (src : Nat) : (s.irqAll src).cave = s.cave := (onHost_irqAll s src).cave
@[simp] theorem State.irqAll_rind (s : State) (src : Nat) : (s.irqAll src).rind = s.rind := (onHost_irqAll s src).rind
@[simp] theorem State.irqAll_keys (s : State) (src : Nat) : (s.irqAll src).keys = s.keys := (onHost_irqAll s src).keys
@[simp] theorem State.irqAll_fw (s : State) (src : Nat) : (s.irqAll src).fw = s.fw := (onHost_irqAll s src).fw
@[simp] theorem State.irqAll_saf (s : State) (src : Nat) : (s.irqAll src).saf = s.saf := (onHost_irqAll s src).saf
@[simp] theorem State.irqAll_sp (s : State) (src : Nat) : (s.irqAll src).sp = s.sp := (onHost_irqAll s src).sp
@[simp] theorem State.irqAll_brk (s : State) (src : Nat) : (s.irqAll src).brk = s.brk := (onHost_irqAll s src).brk
@[simp] theorem State.irqAll_ls (s : State) (src : Nat) : (s.irqAll src).ls = s.ls := (onHost_irqAll s src).ls
@[simp] theorem State.irqAll_lk (s : State) (src : Nat) : (s.irqAll src).lk = s.lk := (onHost_irqAll s src).lk
@[simp] theorem State.irqAll_chn (s : State) (src : Nat) : (s.irqAll src).chn = s.chn := (onHost_irqAll s src).chn
@[simp] theorem State.irqAll_msh (s : State) (src : Nat) : (s.irqAll src).msh = s.msh := (onHost_irqAll s src).msh
@[simp] theorem State.irqAll_nfc (s : State) (src : Nat) : (s.irqAll src).nfc = s.nfc := (onHost_irqAll s src).nfc
@[simp] theorem State.irqAll_dsp (s : State) (src : Nat) : (s.irqAll src).dsp = s.dsp := (onHost_irqAll s src).dsp
@[simp] theorem State.irqAll_free (s : State) (src : Nat) : (s.irqAll src).free = s.free := (onHost_irqAll s src).free
@[simp] theorem State.irqAll_pending (s : State) (src : Nat) : (s.irqAll src).pending = s.pending := (onHost_irqAll s src).pending
@[simp] theorem State.irqPort_sys (s : State) (p : Port) : (s.irqPort p).sys = s.sys := (onHost_irqPort s p).sys
@[simp] theorem State.irqPort_time (s : State) (p : Port) : (s.irqPort p).time = s.time := (onHost_irqPort s p).time
@[simp] theorem State.irqPort_conf (s : State) (p : Port) : (s.irqPort p).conf = s.conf := (onHost_irqPort s p).conf
@[simp] theorem State.irqPort_veh (s : State) (p : Port) : (s.irqPort p).veh = s.veh := (onHost_irqPort s p).veh
@[simp] theorem State.irqPort_ses (s : State) (p : Port) : (s.irqPort p).ses = s.ses := (onHost_irqPort s p).ses
@[simp] theorem State.irqPort_pwr (s : State) (p : Port) : (s.irqPort p).pwr = s.pwr := (onHost_irqPort s p).pwr
@[simp] theorem State.irqPort_pm (s : State) (p : Port) : (s.irqPort p).pm = s.pm := (onHost_irqPort s p).pm
@[simp] theorem State.irqPort_lease (s : State) (p : Port) : (s.irqPort p).lease = s.lease := (onHost_irqPort s p).lease
@[simp] theorem State.irqPort_legal (s : State) (p : Port) : (s.irqPort p).legal = s.legal := (onHost_irqPort s p).legal
@[simp] theorem State.irqPort_sl (s : State) (p : Port) : (s.irqPort p).sl = s.sl := (onHost_irqPort s p).sl
@[simp] theorem State.irqPort_met (s : State) (p : Port) : (s.irqPort p).met = s.met := (onHost_irqPort s p).met
@[simp] theorem State.irqPort_nrg (s : State) (p : Port) : (s.irqPort p).nrg = s.nrg := (onHost_irqPort s p).nrg
@[simp] theorem State.irqPort_bil (s : State) (p : Port) : (s.irqPort p).bil = s.bil := (onHost_irqPort s p).bil
@[simp] theorem State.irqPort_pq (s : State) (p : Port) : (s.irqPort p).pq = s.pq := (onHost_irqPort s p).pq
@[simp] theorem State.irqPort_jnl (s : State) (p : Port) : (s.irqPort p).jnl = s.jnl := (onHost_irqPort s p).jnl
@[simp] theorem State.irqPort_cave (s : State) (p : Port) : (s.irqPort p).cave = s.cave := (onHost_irqPort s p).cave
@[simp] theorem State.irqPort_rind (s : State) (p : Port) : (s.irqPort p).rind = s.rind := (onHost_irqPort s p).rind
@[simp] theorem State.irqPort_keys (s : State) (p : Port) : (s.irqPort p).keys = s.keys := (onHost_irqPort s p).keys
@[simp] theorem State.irqPort_fw (s : State) (p : Port) : (s.irqPort p).fw = s.fw := (onHost_irqPort s p).fw
@[simp] theorem State.irqPort_saf (s : State) (p : Port) : (s.irqPort p).saf = s.saf := (onHost_irqPort s p).saf
@[simp] theorem State.irqPort_sp (s : State) (p : Port) : (s.irqPort p).sp = s.sp := (onHost_irqPort s p).sp
@[simp] theorem State.irqPort_brk (s : State) (p : Port) : (s.irqPort p).brk = s.brk := (onHost_irqPort s p).brk
@[simp] theorem State.irqPort_ls (s : State) (p : Port) : (s.irqPort p).ls = s.ls := (onHost_irqPort s p).ls
@[simp] theorem State.irqPort_lk (s : State) (p : Port) : (s.irqPort p).lk = s.lk := (onHost_irqPort s p).lk
@[simp] theorem State.irqPort_chn (s : State) (p : Port) : (s.irqPort p).chn = s.chn := (onHost_irqPort s p).chn
@[simp] theorem State.irqPort_msh (s : State) (p : Port) : (s.irqPort p).msh = s.msh := (onHost_irqPort s p).msh
@[simp] theorem State.irqPort_nfc (s : State) (p : Port) : (s.irqPort p).nfc = s.nfc := (onHost_irqPort s p).nfc
@[simp] theorem State.irqPort_dsp (s : State) (p : Port) : (s.irqPort p).dsp = s.dsp := (onHost_irqPort s p).dsp
@[simp] theorem State.irqPort_free (s : State) (p : Port) : (s.irqPort p).free = s.free := (onHost_irqPort s p).free
@[simp] theorem State.irqPort_pending (s : State) (p : Port) : (s.irqPort p).pending = s.pending := (onHost_irqPort s p).pending
@[simp] theorem State.count_sys (s : State) (g : Guest) (code n : Nat) : (s.count g code n).sys = s.sys := (onHost_count s g code n).sys
@[simp] theorem State.count_time (s : State) (g : Guest) (code n : Nat) : (s.count g code n).time = s.time := (onHost_count s g code n).time
@[simp] theorem State.count_conf (s : State) (g : Guest) (code n : Nat) : (s.count g code n).conf = s.conf := (onHost_count s g code n).conf
@[simp] theorem State.count_veh (s : State) (g : Guest) (code n : Nat) : (s.count g code n).veh = s.veh := (onHost_count s g code n).veh
@[simp] theorem State.count_ses (s : State) (g : Guest) (code n : Nat) : (s.count g code n).ses = s.ses := (onHost_count s g code n).ses
@[simp] theorem State.count_pwr (s : State) (g : Guest) (code n : Nat) : (s.count g code n).pwr = s.pwr := (onHost_count s g code n).pwr
@[simp] theorem State.count_pm (s : State) (g : Guest) (code n : Nat) : (s.count g code n).pm = s.pm := (onHost_count s g code n).pm
@[simp] theorem State.count_lease (s : State) (g : Guest) (code n : Nat) : (s.count g code n).lease = s.lease := (onHost_count s g code n).lease
@[simp] theorem State.count_legal (s : State) (g : Guest) (code n : Nat) : (s.count g code n).legal = s.legal := (onHost_count s g code n).legal
@[simp] theorem State.count_sl (s : State) (g : Guest) (code n : Nat) : (s.count g code n).sl = s.sl := (onHost_count s g code n).sl
@[simp] theorem State.count_met (s : State) (g : Guest) (code n : Nat) : (s.count g code n).met = s.met := (onHost_count s g code n).met
@[simp] theorem State.count_nrg (s : State) (g : Guest) (code n : Nat) : (s.count g code n).nrg = s.nrg := (onHost_count s g code n).nrg
@[simp] theorem State.count_bil (s : State) (g : Guest) (code n : Nat) : (s.count g code n).bil = s.bil := (onHost_count s g code n).bil
@[simp] theorem State.count_pq (s : State) (g : Guest) (code n : Nat) : (s.count g code n).pq = s.pq := (onHost_count s g code n).pq
@[simp] theorem State.count_jnl (s : State) (g : Guest) (code n : Nat) : (s.count g code n).jnl = s.jnl := (onHost_count s g code n).jnl
@[simp] theorem State.count_cave (s : State) (g : Guest) (code n : Nat) : (s.count g code n).cave = s.cave := (onHost_count s g code n).cave
@[simp] theorem State.count_rind (s : State) (g : Guest) (code n : Nat) : (s.count g code n).rind = s.rind := (onHost_count s g code n).rind
@[simp] theorem State.count_keys (s : State) (g : Guest) (code n : Nat) : (s.count g code n).keys = s.keys := (onHost_count s g code n).keys
@[simp] theorem State.count_fw (s : State) (g : Guest) (code n : Nat) : (s.count g code n).fw = s.fw := (onHost_count s g code n).fw
@[simp] theorem State.count_saf (s : State) (g : Guest) (code n : Nat) : (s.count g code n).saf = s.saf := (onHost_count s g code n).saf
@[simp] theorem State.count_sp (s : State) (g : Guest) (code n : Nat) : (s.count g code n).sp = s.sp := (onHost_count s g code n).sp
@[simp] theorem State.count_brk (s : State) (g : Guest) (code n : Nat) : (s.count g code n).brk = s.brk := (onHost_count s g code n).brk
@[simp] theorem State.count_ls (s : State) (g : Guest) (code n : Nat) : (s.count g code n).ls = s.ls := (onHost_count s g code n).ls
@[simp] theorem State.count_lk (s : State) (g : Guest) (code n : Nat) : (s.count g code n).lk = s.lk := (onHost_count s g code n).lk
@[simp] theorem State.count_chn (s : State) (g : Guest) (code n : Nat) : (s.count g code n).chn = s.chn := (onHost_count s g code n).chn
@[simp] theorem State.count_msh (s : State) (g : Guest) (code n : Nat) : (s.count g code n).msh = s.msh := (onHost_count s g code n).msh
@[simp] theorem State.count_nfc (s : State) (g : Guest) (code n : Nat) : (s.count g code n).nfc = s.nfc := (onHost_count s g code n).nfc
@[simp] theorem State.count_dsp (s : State) (g : Guest) (code n : Nat) : (s.count g code n).dsp = s.dsp := (onHost_count s g code n).dsp
@[simp] theorem State.count_free (s : State) (g : Guest) (code n : Nat) : (s.count g code n).free = s.free := (onHost_count s g code n).free
@[simp] theorem State.count_pending (s : State) (g : Guest) (code n : Nat) : (s.count g code n).pending = s.pending := (onHost_count s g code n).pending
@[simp] theorem State.countPort_sys (s : State) (p : Port) (code n : Nat) : (s.countPort p code n).sys = s.sys := (onHost_countPort s p code n).sys
@[simp] theorem State.countPort_time (s : State) (p : Port) (code n : Nat) : (s.countPort p code n).time = s.time := (onHost_countPort s p code n).time
@[simp] theorem State.countPort_conf (s : State) (p : Port) (code n : Nat) : (s.countPort p code n).conf = s.conf := (onHost_countPort s p code n).conf
@[simp] theorem State.countPort_veh (s : State) (p : Port) (code n : Nat) : (s.countPort p code n).veh = s.veh := (onHost_countPort s p code n).veh
@[simp] theorem State.countPort_ses (s : State) (p : Port) (code n : Nat) : (s.countPort p code n).ses = s.ses := (onHost_countPort s p code n).ses
@[simp] theorem State.countPort_pwr (s : State) (p : Port) (code n : Nat) : (s.countPort p code n).pwr = s.pwr := (onHost_countPort s p code n).pwr
@[simp] theorem State.countPort_pm (s : State) (p : Port) (code n : Nat) : (s.countPort p code n).pm = s.pm := (onHost_countPort s p code n).pm
@[simp] theorem State.countPort_lease (s : State) (p : Port) (code n : Nat) : (s.countPort p code n).lease = s.lease := (onHost_countPort s p code n).lease
@[simp] theorem State.countPort_legal (s : State) (p : Port) (code n : Nat) : (s.countPort p code n).legal = s.legal := (onHost_countPort s p code n).legal
@[simp] theorem State.countPort_sl (s : State) (p : Port) (code n : Nat) : (s.countPort p code n).sl = s.sl := (onHost_countPort s p code n).sl
@[simp] theorem State.countPort_met (s : State) (p : Port) (code n : Nat) : (s.countPort p code n).met = s.met := (onHost_countPort s p code n).met
@[simp] theorem State.countPort_nrg (s : State) (p : Port) (code n : Nat) : (s.countPort p code n).nrg = s.nrg := (onHost_countPort s p code n).nrg
@[simp] theorem State.countPort_bil (s : State) (p : Port) (code n : Nat) : (s.countPort p code n).bil = s.bil := (onHost_countPort s p code n).bil
@[simp] theorem State.countPort_pq (s : State) (p : Port) (code n : Nat) : (s.countPort p code n).pq = s.pq := (onHost_countPort s p code n).pq
@[simp] theorem State.countPort_jnl (s : State) (p : Port) (code n : Nat) : (s.countPort p code n).jnl = s.jnl := (onHost_countPort s p code n).jnl
@[simp] theorem State.countPort_cave (s : State) (p : Port) (code n : Nat) : (s.countPort p code n).cave = s.cave := (onHost_countPort s p code n).cave
@[simp] theorem State.countPort_rind (s : State) (p : Port) (code n : Nat) : (s.countPort p code n).rind = s.rind := (onHost_countPort s p code n).rind
@[simp] theorem State.countPort_keys (s : State) (p : Port) (code n : Nat) : (s.countPort p code n).keys = s.keys := (onHost_countPort s p code n).keys
@[simp] theorem State.countPort_fw (s : State) (p : Port) (code n : Nat) : (s.countPort p code n).fw = s.fw := (onHost_countPort s p code n).fw
@[simp] theorem State.countPort_saf (s : State) (p : Port) (code n : Nat) : (s.countPort p code n).saf = s.saf := (onHost_countPort s p code n).saf
@[simp] theorem State.countPort_sp (s : State) (p : Port) (code n : Nat) : (s.countPort p code n).sp = s.sp := (onHost_countPort s p code n).sp
@[simp] theorem State.countPort_brk (s : State) (p : Port) (code n : Nat) : (s.countPort p code n).brk = s.brk := (onHost_countPort s p code n).brk
@[simp] theorem State.countPort_ls (s : State) (p : Port) (code n : Nat) : (s.countPort p code n).ls = s.ls := (onHost_countPort s p code n).ls
@[simp] theorem State.countPort_lk (s : State) (p : Port) (code n : Nat) : (s.countPort p code n).lk = s.lk := (onHost_countPort s p code n).lk
@[simp] theorem State.countPort_chn (s : State) (p : Port) (code n : Nat) : (s.countPort p code n).chn = s.chn := (onHost_countPort s p code n).chn
@[simp] theorem State.countPort_msh (s : State) (p : Port) (code n : Nat) : (s.countPort p code n).msh = s.msh := (onHost_countPort s p code n).msh
@[simp] theorem State.countPort_nfc (s : State) (p : Port) (code n : Nat) : (s.countPort p code n).nfc = s.nfc := (onHost_countPort s p code n).nfc
@[simp] theorem State.countPort_dsp (s : State) (p : Port) (code n : Nat) : (s.countPort p code n).dsp = s.dsp := (onHost_countPort s p code n).dsp
@[simp] theorem State.countPort_free (s : State) (p : Port) (code n : Nat) : (s.countPort p code n).free = s.free := (onHost_countPort s p code n).free
@[simp] theorem State.countPort_pending (s : State) (p : Port) (code n : Nat) : (s.countPort p code n).pending = s.pending := (onHost_countPort s p code n).pending
@[simp] theorem State.countGroup_sys (s : State) (bit code n : Nat) : (s.countGroup bit code n).sys = s.sys := (onHost_countGroup s bit code n).sys
@[simp] theorem State.countGroup_time (s : State) (bit code n : Nat) : (s.countGroup bit code n).time = s.time := (onHost_countGroup s bit code n).time
@[simp] theorem State.countGroup_conf (s : State) (bit code n : Nat) : (s.countGroup bit code n).conf = s.conf := (onHost_countGroup s bit code n).conf
@[simp] theorem State.countGroup_veh (s : State) (bit code n : Nat) : (s.countGroup bit code n).veh = s.veh := (onHost_countGroup s bit code n).veh
@[simp] theorem State.countGroup_ses (s : State) (bit code n : Nat) : (s.countGroup bit code n).ses = s.ses := (onHost_countGroup s bit code n).ses
@[simp] theorem State.countGroup_pwr (s : State) (bit code n : Nat) : (s.countGroup bit code n).pwr = s.pwr := (onHost_countGroup s bit code n).pwr
@[simp] theorem State.countGroup_pm (s : State) (bit code n : Nat) : (s.countGroup bit code n).pm = s.pm := (onHost_countGroup s bit code n).pm
@[simp] theorem State.countGroup_lease (s : State) (bit code n : Nat) : (s.countGroup bit code n).lease = s.lease := (onHost_countGroup s bit code n).lease
@[simp] theorem State.countGroup_legal (s : State) (bit code n : Nat) : (s.countGroup bit code n).legal = s.legal := (onHost_countGroup s bit code n).legal
@[simp] theorem State.countGroup_sl (s : State) (bit code n : Nat) : (s.countGroup bit code n).sl = s.sl := (onHost_countGroup s bit code n).sl
@[simp] theorem State.countGroup_met (s : State) (bit code n : Nat) : (s.countGroup bit code n).met = s.met := (onHost_countGroup s bit code n).met
@[simp] theorem State.countGroup_nrg (s : State) (bit code n : Nat) : (s.countGroup bit code n).nrg = s.nrg := (onHost_countGroup s bit code n).nrg
@[simp] theorem State.countGroup_bil (s : State) (bit code n : Nat) : (s.countGroup bit code n).bil = s.bil := (onHost_countGroup s bit code n).bil
@[simp] theorem State.countGroup_pq (s : State) (bit code n : Nat) : (s.countGroup bit code n).pq = s.pq := (onHost_countGroup s bit code n).pq
@[simp] theorem State.countGroup_jnl (s : State) (bit code n : Nat) : (s.countGroup bit code n).jnl = s.jnl := (onHost_countGroup s bit code n).jnl
@[simp] theorem State.countGroup_cave (s : State) (bit code n : Nat) : (s.countGroup bit code n).cave = s.cave := (onHost_countGroup s bit code n).cave
@[simp] theorem State.countGroup_rind (s : State) (bit code n : Nat) : (s.countGroup bit code n).rind = s.rind := (onHost_countGroup s bit code n).rind
@[simp] theorem State.countGroup_keys (s : State) (bit code n : Nat) : (s.countGroup bit code n).keys = s.keys := (onHost_countGroup s bit code n).keys
@[simp] theorem State.countGroup_fw (s : State) (bit code n : Nat) : (s.countGroup bit code n).fw = s.fw := (onHost_countGroup s bit code n).fw
@[simp] theorem State.countGroup_saf (s : State) (bit code n : Nat) : (s.countGroup bit code n).saf = s.saf := (onHost_countGroup s bit code n).saf
@[simp] theorem State.countGroup_sp (s : State) (bit code n : Nat) : (s.countGroup bit code n).sp = s.sp := (onHost_countGroup s bit code n).sp
@[simp] theorem State.countGroup_brk (s : State) (bit code n : Nat) : (s.countGroup bit code n).brk = s.brk := (onHost_countGroup s bit code n).brk
@[simp] theorem State.countGroup_ls (s : State) (bit code n : Nat) : (s.countGroup bit code n).ls = s.ls := (onHost_countGroup s bit code n).ls
@[simp] theorem State.countGroup_lk (s : State) (bit code n : Nat) : (s.countGroup bit code n).lk = s.lk := (onHost_countGroup s bit code n).lk
@[simp] theorem State.countGroup_chn (s : State) (bit code n : Nat) : (s.countGroup bit code n).chn = s.chn := (onHost_countGroup s bit code n).chn
@[simp] theorem State.countGroup_msh (s : State) (bit code n : Nat) : (s.countGroup bit code n).msh = s.msh := (onHost_countGroup s bit code n).msh
@[simp] theorem State.countGroup_nfc (s : State) (bit code n : Nat) : (s.countGroup bit code n).nfc = s.nfc := (onHost_countGroup s bit code n).nfc
@[simp] theorem State.countGroup_dsp (s : State) (bit code n : Nat) : (s.countGroup bit code n).dsp = s.dsp := (onHost_countGroup s bit code n).dsp
@[simp] theorem State.countGroup_free (s : State) (bit code n : Nat) : (s.countGroup bit code n).free = s.free := (onHost_countGroup s bit code n).free
@[simp] theorem State.countGroup_pending (s : State) (bit code n : Nat) : (s.countGroup bit code n).pending = s.pending := (onHost_countGroup s bit code n).pending
@[simp] theorem State.violation_sys (s : State) (g : Guest) (a i t : Word) : (s.violation g a i t).sys = s.sys := (onHost_violation s g a i t).sys
@[simp] theorem State.violation_time (s : State) (g : Guest) (a i t : Word) : (s.violation g a i t).time = s.time := (onHost_violation s g a i t).time
@[simp] theorem State.violation_conf (s : State) (g : Guest) (a i t : Word) : (s.violation g a i t).conf = s.conf := (onHost_violation s g a i t).conf
@[simp] theorem State.violation_veh (s : State) (g : Guest) (a i t : Word) : (s.violation g a i t).veh = s.veh := (onHost_violation s g a i t).veh
@[simp] theorem State.violation_ses (s : State) (g : Guest) (a i t : Word) : (s.violation g a i t).ses = s.ses := (onHost_violation s g a i t).ses
@[simp] theorem State.violation_pwr (s : State) (g : Guest) (a i t : Word) : (s.violation g a i t).pwr = s.pwr := (onHost_violation s g a i t).pwr
@[simp] theorem State.violation_pm (s : State) (g : Guest) (a i t : Word) : (s.violation g a i t).pm = s.pm := (onHost_violation s g a i t).pm
@[simp] theorem State.violation_lease (s : State) (g : Guest) (a i t : Word) : (s.violation g a i t).lease = s.lease := (onHost_violation s g a i t).lease
@[simp] theorem State.violation_legal (s : State) (g : Guest) (a i t : Word) : (s.violation g a i t).legal = s.legal := (onHost_violation s g a i t).legal
@[simp] theorem State.violation_sl (s : State) (g : Guest) (a i t : Word) : (s.violation g a i t).sl = s.sl := (onHost_violation s g a i t).sl
@[simp] theorem State.violation_met (s : State) (g : Guest) (a i t : Word) : (s.violation g a i t).met = s.met := (onHost_violation s g a i t).met
@[simp] theorem State.violation_nrg (s : State) (g : Guest) (a i t : Word) : (s.violation g a i t).nrg = s.nrg := (onHost_violation s g a i t).nrg
@[simp] theorem State.violation_bil (s : State) (g : Guest) (a i t : Word) : (s.violation g a i t).bil = s.bil := (onHost_violation s g a i t).bil
@[simp] theorem State.violation_pq (s : State) (g : Guest) (a i t : Word) : (s.violation g a i t).pq = s.pq := (onHost_violation s g a i t).pq
@[simp] theorem State.violation_jnl (s : State) (g : Guest) (a i t : Word) : (s.violation g a i t).jnl = s.jnl := (onHost_violation s g a i t).jnl
@[simp] theorem State.violation_cave (s : State) (g : Guest) (a i t : Word) : (s.violation g a i t).cave = s.cave := (onHost_violation s g a i t).cave
@[simp] theorem State.violation_rind (s : State) (g : Guest) (a i t : Word) : (s.violation g a i t).rind = s.rind := (onHost_violation s g a i t).rind
@[simp] theorem State.violation_keys (s : State) (g : Guest) (a i t : Word) : (s.violation g a i t).keys = s.keys := (onHost_violation s g a i t).keys
@[simp] theorem State.violation_fw (s : State) (g : Guest) (a i t : Word) : (s.violation g a i t).fw = s.fw := (onHost_violation s g a i t).fw
@[simp] theorem State.violation_saf (s : State) (g : Guest) (a i t : Word) : (s.violation g a i t).saf = s.saf := (onHost_violation s g a i t).saf
@[simp] theorem State.violation_sp (s : State) (g : Guest) (a i t : Word) : (s.violation g a i t).sp = s.sp := (onHost_violation s g a i t).sp
@[simp] theorem State.violation_brk (s : State) (g : Guest) (a i t : Word) : (s.violation g a i t).brk = s.brk := (onHost_violation s g a i t).brk
@[simp] theorem State.violation_ls (s : State) (g : Guest) (a i t : Word) : (s.violation g a i t).ls = s.ls := (onHost_violation s g a i t).ls
@[simp] theorem State.violation_lk (s : State) (g : Guest) (a i t : Word) : (s.violation g a i t).lk = s.lk := (onHost_violation s g a i t).lk
@[simp] theorem State.violation_chn (s : State) (g : Guest) (a i t : Word) : (s.violation g a i t).chn = s.chn := (onHost_violation s g a i t).chn
@[simp] theorem State.violation_msh (s : State) (g : Guest) (a i t : Word) : (s.violation g a i t).msh = s.msh := (onHost_violation s g a i t).msh
@[simp] theorem State.violation_nfc (s : State) (g : Guest) (a i t : Word) : (s.violation g a i t).nfc = s.nfc := (onHost_violation s g a i t).nfc
@[simp] theorem State.violation_dsp (s : State) (g : Guest) (a i t : Word) : (s.violation g a i t).dsp = s.dsp := (onHost_violation s g a i t).dsp
@[simp] theorem State.violation_free (s : State) (g : Guest) (a i t : Word) : (s.violation g a i t).free = s.free := (onHost_violation s g a i t).free
@[simp] theorem State.violation_pending (s : State) (g : Guest) (a i t : Word) : (s.violation g a i t).pending = s.pending := (onHost_violation s g a i t).pending
@[simp] theorem State.answer_sys (s : State) (r : Req) (code : Nat) (ws : List Word) : (s.answer r code ws).sys = s.sys := (onHost_answer s r code ws).sys
@[simp] theorem State.answer_time (s : State) (r : Req) (code : Nat) (ws : List Word) : (s.answer r code ws).time = s.time := (onHost_answer s r code ws).time
@[simp] theorem State.answer_conf (s : State) (r : Req) (code : Nat) (ws : List Word) : (s.answer r code ws).conf = s.conf := (onHost_answer s r code ws).conf
@[simp] theorem State.answer_veh (s : State) (r : Req) (code : Nat) (ws : List Word) : (s.answer r code ws).veh = s.veh := (onHost_answer s r code ws).veh
@[simp] theorem State.answer_ses (s : State) (r : Req) (code : Nat) (ws : List Word) : (s.answer r code ws).ses = s.ses := (onHost_answer s r code ws).ses
@[simp] theorem State.answer_pwr (s : State) (r : Req) (code : Nat) (ws : List Word) : (s.answer r code ws).pwr = s.pwr := (onHost_answer s r code ws).pwr
@[simp] theorem State.answer_pm (s : State) (r : Req) (code : Nat) (ws : List Word) : (s.answer r code ws).pm = s.pm := (onHost_answer s r code ws).pm
@[simp] theorem State.answer_lease (s : State) (r : Req) (code : Nat) (ws : List Word) : (s.answer r code ws).lease = s.lease := (onHost_answer s r code ws).lease
@[simp] theorem State.answer_legal (s : State) (r : Req) (code : Nat) (ws : List Word) : (s.answer r code ws).legal = s.legal := (onHost_answer s r code ws).legal
@[simp] theorem State.answer_sl (s : State) (r : Req) (code : Nat) (ws : List Word) : (s.answer r code ws).sl = s.sl := (onHost_answer s r code ws).sl
@[simp] theorem State.answer_met (s : State) (r : Req) (code : Nat) (ws : List Word) : (s.answer r code ws).met = s.met := (onHost_answer s r code ws).met
@[simp] theorem State.answer_nrg (s : State) (r : Req) (code : Nat) (ws : List Word) : (s.answer r code ws).nrg = s.nrg := (onHost_answer s r code ws).nrg
@[simp] theorem State.answer_bil (s : State) (r : Req) (code : Nat) (ws : List Word) : (s.answer r code ws).bil = s.bil := (onHost_answer s r code ws).bil
@[simp] theorem State.answer_pq (s : State) (r : Req) (code : Nat) (ws : List Word) : (s.answer r code ws).pq = s.pq := (onHost_answer s r code ws).pq
@[simp] theorem State.answer_jnl (s : State) (r : Req) (code : Nat) (ws : List Word) : (s.answer r code ws).jnl = s.jnl := (onHost_answer s r code ws).jnl
@[simp] theorem State.answer_cave (s : State) (r : Req) (code : Nat) (ws : List Word) : (s.answer r code ws).cave = s.cave := (onHost_answer s r code ws).cave
@[simp] theorem State.answer_rind (s : State) (r : Req) (code : Nat) (ws : List Word) : (s.answer r code ws).rind = s.rind := (onHost_answer s r code ws).rind
@[simp] theorem State.answer_keys (s : State) (r : Req) (code : Nat) (ws : List Word) : (s.answer r code ws).keys = s.keys := (onHost_answer s r code ws).keys
@[simp] theorem State.answer_fw (s : State) (r : Req) (code : Nat) (ws : List Word) : (s.answer r code ws).fw = s.fw := (onHost_answer s r code ws).fw
@[simp] theorem State.answer_saf (s : State) (r : Req) (code : Nat) (ws : List Word) : (s.answer r code ws).saf = s.saf := (onHost_answer s r code ws).saf
@[simp] theorem State.answer_sp (s : State) (r : Req) (code : Nat) (ws : List Word) : (s.answer r code ws).sp = s.sp := (onHost_answer s r code ws).sp
@[simp] theorem State.answer_brk (s : State) (r : Req) (code : Nat) (ws : List Word) : (s.answer r code ws).brk = s.brk := (onHost_answer s r code ws).brk
@[simp] theorem State.answer_ls (s : State) (r : Req) (code : Nat) (ws : List Word) : (s.answer r code ws).ls = s.ls := (onHost_answer s r code ws).ls
@[simp] theorem State.answer_lk (s : State) (r : Req) (code : Nat) (ws : List Word) : (s.answer r code ws).lk = s.lk := (onHost_answer s r code ws).lk
@[simp] theorem State.answer_chn (s : State) (r : Req) (code : Nat) (ws : List Word) : (s.answer r code ws).chn = s.chn := (onHost_answer s r code ws).chn
@[simp] theorem State.answer_msh (s : State) (r : Req) (code : Nat) (ws : List Word) : (s.answer r code ws).msh = s.msh := (onHost_answer s r code ws).msh
@[simp] theorem State.answer_nfc (s : State) (r : Req) (code : Nat) (ws : List Word) : (s.answer r code ws).nfc = s.nfc := (onHost_answer s r code ws).nfc
@[simp] theorem State.answer_dsp (s : State) (r : Req) (code : Nat) (ws : List Word) : (s.answer r code ws).dsp = s.dsp := (onHost_answer s r code ws).dsp
@[simp] theorem State.answer_free (s : State) (r : Req) (code : Nat) (ws : List Word) : (s.answer r code ws).free = s.free := (onHost_answer s r code ws).free
@[simp] theorem State.answer_pending (s : State) (r : Req) (code : Nat) (ws : List Word) : (s.answer r code ws).pending = s.pending := (onHost_answer s r code ws).pending
@[simp] theorem State.accept_sys (s : State) (r : Req) : (s.accept r).sys = s.sys := (onHost_accept s r).sys
@[simp] theorem State.accept_time (s : State) (r : Req) : (s.accept r).time = s.time := (onHost_accept s r).time
@[simp] theorem State.accept_conf (s : State) (r : Req) : (s.accept r).conf = s.conf := (onHost_accept s r).conf
@[simp] theorem State.accept_veh (s : State) (r : Req) : (s.accept r).veh = s.veh := (onHost_accept s r).veh
@[simp] theorem State.accept_ses (s : State) (r : Req) : (s.accept r).ses = s.ses := (onHost_accept s r).ses
@[simp] theorem State.accept_pwr (s : State) (r : Req) : (s.accept r).pwr = s.pwr := (onHost_accept s r).pwr
@[simp] theorem State.accept_pm (s : State) (r : Req) : (s.accept r).pm = s.pm := (onHost_accept s r).pm
@[simp] theorem State.accept_lease (s : State) (r : Req) : (s.accept r).lease = s.lease := (onHost_accept s r).lease
@[simp] theorem State.accept_legal (s : State) (r : Req) : (s.accept r).legal = s.legal := (onHost_accept s r).legal
@[simp] theorem State.accept_sl (s : State) (r : Req) : (s.accept r).sl = s.sl := (onHost_accept s r).sl
@[simp] theorem State.accept_met (s : State) (r : Req) : (s.accept r).met = s.met := (onHost_accept s r).met
@[simp] theorem State.accept_nrg (s : State) (r : Req) : (s.accept r).nrg = s.nrg := (onHost_accept s r).nrg
@[simp] theorem State.accept_bil (s : State) (r : Req) : (s.accept r).bil = s.bil := (onHost_accept s r).bil
@[simp] theorem State.accept_pq (s : State) (r : Req) : (s.accept r).pq = s.pq := (onHost_accept s r).pq
@[simp] theorem State.accept_jnl (s : State) (r : Req) : (s.accept r).jnl = s.jnl := (onHost_accept s r).jnl
@[simp] theorem State.accept_cave (s : State) (r : Req) : (s.accept r).cave = s.cave := (onHost_accept s r).cave
@[simp] theorem State.accept_rind (s : State) (r : Req) : (s.accept r).rind = s.rind := (onHost_accept s r).rind
@[simp] theorem State.accept_keys (s : State) (r : Req) : (s.accept r).keys = s.keys := (onHost_accept s r).keys
@[simp] theorem State.accept_fw (s : State) (r : Req) : (s.accept r).fw = s.fw := (onHost_accept s r).fw
@[simp] theorem State.accept_saf (s : State) (r : Req) : (s.accept r).saf = s.saf := (onHost_accept s r).saf
@[simp] theorem State.accept_sp (s : State) (r : Req) : (s.accept r).sp = s.sp := (onHost_accept s r).sp
@[simp] theorem State.accept_brk (s : State) (r : Req) : (s.accept r).brk = s.brk := (onHost_accept s r).brk
@[simp] theorem State.accept_ls (s : State) (r : Req) : (s.accept r).ls = s.ls := (onHost_accept s r).ls
@[simp] theorem State.accept_lk (s : State) (r : Req) : (s.accept r).lk = s.lk := (onHost_accept s r).lk
@[simp] theorem State.accept_chn (s : State) (r : Req) : (s.accept r).chn = s.chn := (onHost_accept s r).chn
@[simp] theorem State.accept_msh (s : State) (r : Req) : (s.accept r).msh = s.msh := (onHost_accept s r).msh
@[simp] theorem State.accept_nfc (s : State) (r : Req) : (s.accept r).nfc = s.nfc := (onHost_accept s r).nfc
@[simp] theorem State.accept_dsp (s : State) (r : Req) : (s.accept r).dsp = s.dsp := (onHost_accept s r).dsp
@[simp] theorem State.accept_free (s : State) (r : Req) : (s.accept r).free = s.free := (onHost_accept s r).free
@[simp] theorem State.accept_pending (s : State) (r : Req) : (s.accept r).pending = s.pending := (onHost_accept s r).pending
@[simp] theorem State.final_sys (s : State) (r : Req) (code : Nat) (ws : List Word) : (s.final r code ws).sys = s.sys := (onHost_final s r code ws).sys
@[simp] theorem State.final_time (s : State) (r : Req) (code : Nat) (ws : List Word) : (s.final r code ws).time = s.time := (onHost_final s r code ws).time
@[simp] theorem State.final_conf (s : State) (r : Req) (code : Nat) (ws : List Word) : (s.final r code ws).conf = s.conf := (onHost_final s r code ws).conf
@[simp] theorem State.final_veh (s : State) (r : Req) (code : Nat) (ws : List Word) : (s.final r code ws).veh = s.veh := (onHost_final s r code ws).veh
@[simp] theorem State.final_ses (s : State) (r : Req) (code : Nat) (ws : List Word) : (s.final r code ws).ses = s.ses := (onHost_final s r code ws).ses
@[simp] theorem State.final_pwr (s : State) (r : Req) (code : Nat) (ws : List Word) : (s.final r code ws).pwr = s.pwr := (onHost_final s r code ws).pwr
@[simp] theorem State.final_pm (s : State) (r : Req) (code : Nat) (ws : List Word) : (s.final r code ws).pm = s.pm := (onHost_final s r code ws).pm
@[simp] theorem State.final_lease (s : State) (r : Req) (code : Nat) (ws : List Word) : (s.final r code ws).lease = s.lease := (onHost_final s r code ws).lease
@[simp] theorem State.final_legal (s : State) (r : Req) (code : Nat) (ws : List Word) : (s.final r code ws).legal = s.legal := (onHost_final s r code ws).legal
@[simp] theorem State.final_sl (s : State) (r : Req) (code : Nat) (ws : List Word) : (s.final r code ws).sl = s.sl := (onHost_final s r code ws).sl
@[simp] theorem State.final_met (s : State) (r : Req) (code : Nat) (ws : List Word) : (s.final r code ws).met = s.met := (onHost_final s r code ws).met
@[simp] theorem State.final_nrg (s : State) (r : Req) (code : Nat) (ws : List Word) : (s.final r code ws).nrg = s.nrg := (onHost_final s r code ws).nrg
@[simp] theorem State.final_bil (s : State) (r : Req) (code : Nat) (ws : List Word) : (s.final r code ws).bil = s.bil := (onHost_final s r code ws).bil
@[simp] theorem State.final_pq (s : State) (r : Req) (code : Nat) (ws : List Word) : (s.final r code ws).pq = s.pq := (onHost_final s r code ws).pq
@[simp] theorem State.final_jnl (s : State) (r : Req) (code : Nat) (ws : List Word) : (s.final r code ws).jnl = s.jnl := (onHost_final s r code ws).jnl
@[simp] theorem State.final_cave (s : State) (r : Req) (code : Nat) (ws : List Word) : (s.final r code ws).cave = s.cave := (onHost_final s r code ws).cave
@[simp] theorem State.final_rind (s : State) (r : Req) (code : Nat) (ws : List Word) : (s.final r code ws).rind = s.rind := (onHost_final s r code ws).rind
@[simp] theorem State.final_keys (s : State) (r : Req) (code : Nat) (ws : List Word) : (s.final r code ws).keys = s.keys := (onHost_final s r code ws).keys
@[simp] theorem State.final_fw (s : State) (r : Req) (code : Nat) (ws : List Word) : (s.final r code ws).fw = s.fw := (onHost_final s r code ws).fw
@[simp] theorem State.final_saf (s : State) (r : Req) (code : Nat) (ws : List Word) : (s.final r code ws).saf = s.saf := (onHost_final s r code ws).saf
@[simp] theorem State.final_sp (s : State) (r : Req) (code : Nat) (ws : List Word) : (s.final r code ws).sp = s.sp := (onHost_final s r code ws).sp
@[simp] theorem State.final_brk (s : State) (r : Req) (code : Nat) (ws : List Word) : (s.final r code ws).brk = s.brk := (onHost_final s r code ws).brk
@[simp] theorem State.final_ls (s : State) (r : Req) (code : Nat) (ws : List Word) : (s.final r code ws).ls = s.ls := (onHost_final s r code ws).ls
@[simp] theorem State.final_lk (s : State) (r : Req) (code : Nat) (ws : List Word) : (s.final r code ws).lk = s.lk := (onHost_final s r code ws).lk
@[simp] theorem State.final_chn (s : State) (r : Req) (code : Nat) (ws : List Word) : (s.final r code ws).chn = s.chn := (onHost_final s r code ws).chn
@[simp] theorem State.final_msh (s : State) (r : Req) (code : Nat) (ws : List Word) : (s.final r code ws).msh = s.msh := (onHost_final s r code ws).msh
@[simp] theorem State.final_nfc (s : State) (r : Req) (code : Nat) (ws : List Word) : (s.final r code ws).nfc = s.nfc := (onHost_final s r code ws).nfc
@[simp] theorem State.final_dsp (s : State) (r : Req) (code : Nat) (ws : List Word) : (s.final r code ws).dsp = s.dsp := (onHost_final s r code ws).dsp
@[simp] theorem State.final_free (s : State) (r : Req) (code : Nat) (ws : List Word) : (s.final r code ws).free = s.free := (onHost_final s r code ws).free
@[simp] theorem State.final_pending (s : State) (r : Req) (code : Nat) (ws : List Word) : (s.final r code ws).pending = s.pending := (onHost_final s r code ws).pending
@[simp] theorem State.finalOpt_sys (s : State) (r : Option Req) (code : Nat) (ws : List Word) : (s.finalOpt r code ws).sys = s.sys := (onHost_finalOpt s r code ws).sys
@[simp] theorem State.finalOpt_time (s : State) (r : Option Req) (code : Nat) (ws : List Word) : (s.finalOpt r code ws).time = s.time := (onHost_finalOpt s r code ws).time
@[simp] theorem State.finalOpt_conf (s : State) (r : Option Req) (code : Nat) (ws : List Word) : (s.finalOpt r code ws).conf = s.conf := (onHost_finalOpt s r code ws).conf
@[simp] theorem State.finalOpt_veh (s : State) (r : Option Req) (code : Nat) (ws : List Word) : (s.finalOpt r code ws).veh = s.veh := (onHost_finalOpt s r code ws).veh
@[simp] theorem State.finalOpt_ses (s : State) (r : Option Req) (code : Nat) (ws : List Word) : (s.finalOpt r code ws).ses = s.ses := (onHost_finalOpt s r code ws).ses
@[simp] theorem State.finalOpt_pwr (s : State) (r : Option Req) (code : Nat) (ws : List Word) : (s.finalOpt r code ws).pwr = s.pwr := (onHost_finalOpt s r code ws).pwr
@[simp] theorem State.finalOpt_pm (s : State) (r : Option Req) (code : Nat) (ws : List Word) : (s.finalOpt r code ws).pm = s.pm := (onHost_finalOpt s r code ws).pm
@[simp] theorem State.finalOpt_lease (s : State) (r : Option Req) (code : Nat) (ws : List Word) : (s.finalOpt r code ws).lease = s.lease := (onHost_finalOpt s r code ws).lease
@[simp] theorem State.finalOpt_legal (s : State) (r : Option Req) (code : Nat) (ws : List Word) : (s.finalOpt r code ws).legal = s.legal := (onHost_finalOpt s r code ws).legal
@[simp] theorem State.finalOpt_sl (s : State) (r : Option Req) (code : Nat) (ws : List Word) : (s.finalOpt r code ws).sl = s.sl := (onHost_finalOpt s r code ws).sl
@[simp] theorem State.finalOpt_met (s : State) (r : Option Req) (code : Nat) (ws : List Word) : (s.finalOpt r code ws).met = s.met := (onHost_finalOpt s r code ws).met
@[simp] theorem State.finalOpt_nrg (s : State) (r : Option Req) (code : Nat) (ws : List Word) : (s.finalOpt r code ws).nrg = s.nrg := (onHost_finalOpt s r code ws).nrg
@[simp] theorem State.finalOpt_bil (s : State) (r : Option Req) (code : Nat) (ws : List Word) : (s.finalOpt r code ws).bil = s.bil := (onHost_finalOpt s r code ws).bil
@[simp] theorem State.finalOpt_pq (s : State) (r : Option Req) (code : Nat) (ws : List Word) : (s.finalOpt r code ws).pq = s.pq := (onHost_finalOpt s r code ws).pq
@[simp] theorem State.finalOpt_jnl (s : State) (r : Option Req) (code : Nat) (ws : List Word) : (s.finalOpt r code ws).jnl = s.jnl := (onHost_finalOpt s r code ws).jnl
@[simp] theorem State.finalOpt_cave (s : State) (r : Option Req) (code : Nat) (ws : List Word) : (s.finalOpt r code ws).cave = s.cave := (onHost_finalOpt s r code ws).cave
@[simp] theorem State.finalOpt_rind (s : State) (r : Option Req) (code : Nat) (ws : List Word) : (s.finalOpt r code ws).rind = s.rind := (onHost_finalOpt s r code ws).rind
@[simp] theorem State.finalOpt_keys (s : State) (r : Option Req) (code : Nat) (ws : List Word) : (s.finalOpt r code ws).keys = s.keys := (onHost_finalOpt s r code ws).keys
@[simp] theorem State.finalOpt_fw (s : State) (r : Option Req) (code : Nat) (ws : List Word) : (s.finalOpt r code ws).fw = s.fw := (onHost_finalOpt s r code ws).fw
@[simp] theorem State.finalOpt_saf (s : State) (r : Option Req) (code : Nat) (ws : List Word) : (s.finalOpt r code ws).saf = s.saf := (onHost_finalOpt s r code ws).saf
@[simp] theorem State.finalOpt_sp (s : State) (r : Option Req) (code : Nat) (ws : List Word) : (s.finalOpt r code ws).sp = s.sp := (onHost_finalOpt s r code ws).sp
@[simp] theorem State.finalOpt_brk (s : State) (r : Option Req) (code : Nat) (ws : List Word) : (s.finalOpt r code ws).brk = s.brk := (onHost_finalOpt s r code ws).brk
@[simp] theorem State.finalOpt_ls (s : State) (r : Option Req) (code : Nat) (ws : List Word) : (s.finalOpt r code ws).ls = s.ls := (onHost_finalOpt s r code ws).ls
@[simp] theorem State.finalOpt_lk (s : State) (r : Option Req) (code : Nat) (ws : List Word) : (s.finalOpt r code ws).lk = s.lk := (onHost_finalOpt s r code ws).lk
@[simp] theorem State.finalOpt_chn (s : State) (r : Option Req) (code : Nat) (ws : List Word) : (s.finalOpt r code ws).chn = s.chn := (onHost_finalOpt s r code ws).chn
@[simp] theorem State.finalOpt_msh (s : State) (r : Option Req) (code : Nat) (ws : List Word) : (s.finalOpt r code ws).msh = s.msh := (onHost_finalOpt s r code ws).msh
@[simp] theorem State.finalOpt_nfc (s : State) (r : Option Req) (code : Nat) (ws : List Word) : (s.finalOpt r code ws).nfc = s.nfc := (onHost_finalOpt s r code ws).nfc
@[simp] theorem State.finalOpt_dsp (s : State) (r : Option Req) (code : Nat) (ws : List Word) : (s.finalOpt r code ws).dsp = s.dsp := (onHost_finalOpt s r code ws).dsp
@[simp] theorem State.finalOpt_free (s : State) (r : Option Req) (code : Nat) (ws : List Word) : (s.finalOpt r code ws).free = s.free := (onHost_finalOpt s r code ws).free
@[simp] theorem State.finalOpt_pending (s : State) (r : Option Req) (code : Nat) (ws : List Word) : (s.finalOpt r code ws).pending = s.pending := (onHost_finalOpt s r code ws).pending
@[simp] theorem State.useRing_sys (s : State) (r : Req) (ring code : Nat) (out : List Byte) : (s.useRing r ring code out).sys = s.sys := (onHost_useRing s r ring code out).sys
@[simp] theorem State.useRing_time (s : State) (r : Req) (ring code : Nat) (out : List Byte) : (s.useRing r ring code out).time = s.time := (onHost_useRing s r ring code out).time
@[simp] theorem State.useRing_conf (s : State) (r : Req) (ring code : Nat) (out : List Byte) : (s.useRing r ring code out).conf = s.conf := (onHost_useRing s r ring code out).conf
@[simp] theorem State.useRing_veh (s : State) (r : Req) (ring code : Nat) (out : List Byte) : (s.useRing r ring code out).veh = s.veh := (onHost_useRing s r ring code out).veh
@[simp] theorem State.useRing_ses (s : State) (r : Req) (ring code : Nat) (out : List Byte) : (s.useRing r ring code out).ses = s.ses := (onHost_useRing s r ring code out).ses
@[simp] theorem State.useRing_pwr (s : State) (r : Req) (ring code : Nat) (out : List Byte) : (s.useRing r ring code out).pwr = s.pwr := (onHost_useRing s r ring code out).pwr
@[simp] theorem State.useRing_pm (s : State) (r : Req) (ring code : Nat) (out : List Byte) : (s.useRing r ring code out).pm = s.pm := (onHost_useRing s r ring code out).pm
@[simp] theorem State.useRing_lease (s : State) (r : Req) (ring code : Nat) (out : List Byte) : (s.useRing r ring code out).lease = s.lease := (onHost_useRing s r ring code out).lease
@[simp] theorem State.useRing_legal (s : State) (r : Req) (ring code : Nat) (out : List Byte) : (s.useRing r ring code out).legal = s.legal := (onHost_useRing s r ring code out).legal
@[simp] theorem State.useRing_sl (s : State) (r : Req) (ring code : Nat) (out : List Byte) : (s.useRing r ring code out).sl = s.sl := (onHost_useRing s r ring code out).sl
@[simp] theorem State.useRing_met (s : State) (r : Req) (ring code : Nat) (out : List Byte) : (s.useRing r ring code out).met = s.met := (onHost_useRing s r ring code out).met
@[simp] theorem State.useRing_nrg (s : State) (r : Req) (ring code : Nat) (out : List Byte) : (s.useRing r ring code out).nrg = s.nrg := (onHost_useRing s r ring code out).nrg
@[simp] theorem State.useRing_bil (s : State) (r : Req) (ring code : Nat) (out : List Byte) : (s.useRing r ring code out).bil = s.bil := (onHost_useRing s r ring code out).bil
@[simp] theorem State.useRing_pq (s : State) (r : Req) (ring code : Nat) (out : List Byte) : (s.useRing r ring code out).pq = s.pq := (onHost_useRing s r ring code out).pq
@[simp] theorem State.useRing_jnl (s : State) (r : Req) (ring code : Nat) (out : List Byte) : (s.useRing r ring code out).jnl = s.jnl := (onHost_useRing s r ring code out).jnl
@[simp] theorem State.useRing_cave (s : State) (r : Req) (ring code : Nat) (out : List Byte) : (s.useRing r ring code out).cave = s.cave := (onHost_useRing s r ring code out).cave
@[simp] theorem State.useRing_rind (s : State) (r : Req) (ring code : Nat) (out : List Byte) : (s.useRing r ring code out).rind = s.rind := (onHost_useRing s r ring code out).rind
@[simp] theorem State.useRing_keys (s : State) (r : Req) (ring code : Nat) (out : List Byte) : (s.useRing r ring code out).keys = s.keys := (onHost_useRing s r ring code out).keys
@[simp] theorem State.useRing_fw (s : State) (r : Req) (ring code : Nat) (out : List Byte) : (s.useRing r ring code out).fw = s.fw := (onHost_useRing s r ring code out).fw
@[simp] theorem State.useRing_saf (s : State) (r : Req) (ring code : Nat) (out : List Byte) : (s.useRing r ring code out).saf = s.saf := (onHost_useRing s r ring code out).saf
@[simp] theorem State.useRing_sp (s : State) (r : Req) (ring code : Nat) (out : List Byte) : (s.useRing r ring code out).sp = s.sp := (onHost_useRing s r ring code out).sp
@[simp] theorem State.useRing_brk (s : State) (r : Req) (ring code : Nat) (out : List Byte) : (s.useRing r ring code out).brk = s.brk := (onHost_useRing s r ring code out).brk
@[simp] theorem State.useRing_ls (s : State) (r : Req) (ring code : Nat) (out : List Byte) : (s.useRing r ring code out).ls = s.ls := (onHost_useRing s r ring code out).ls
@[simp] theorem State.useRing_lk (s : State) (r : Req) (ring code : Nat) (out : List Byte) : (s.useRing r ring code out).lk = s.lk := (onHost_useRing s r ring code out).lk
@[simp] theorem State.useRing_chn (s : State) (r : Req) (ring code : Nat) (out : List Byte) : (s.useRing r ring code out).chn = s.chn := (onHost_useRing s r ring code out).chn
@[simp] theorem State.useRing_msh (s : State) (r : Req) (ring code : Nat) (out : List Byte) : (s.useRing r ring code out).msh = s.msh := (onHost_useRing s r ring code out).msh
@[simp] theorem State.useRing_nfc (s : State) (r : Req) (ring code : Nat) (out : List Byte) : (s.useRing r ring code out).nfc = s.nfc := (onHost_useRing s r ring code out).nfc
@[simp] theorem State.useRing_dsp (s : State) (r : Req) (ring code : Nat) (out : List Byte) : (s.useRing r ring code out).dsp = s.dsp := (onHost_useRing s r ring code out).dsp
@[simp] theorem State.useRing_free (s : State) (r : Req) (ring code : Nat) (out : List Byte) : (s.useRing r ring code out).free = s.free := (onHost_useRing s r ring code out).free
@[simp] theorem State.useRing_pending (s : State) (r : Req) (ring code : Nat) (out : List Byte) : (s.useRing r ring code out).pending = s.pending := (onHost_useRing s r ring code out).pending
@[simp] theorem State.answerRing_sys (s : State) (r : Req) (ring : Nat) (bytes : List Byte) (ws : List Word) : (s.answerRing r ring bytes ws).sys = s.sys := (onHost_answerRing s r ring bytes ws).sys
@[simp] theorem State.answerRing_time (s : State) (r : Req) (ring : Nat) (bytes : List Byte) (ws : List Word) : (s.answerRing r ring bytes ws).time = s.time := (onHost_answerRing s r ring bytes ws).time
@[simp] theorem State.answerRing_conf (s : State) (r : Req) (ring : Nat) (bytes : List Byte) (ws : List Word) : (s.answerRing r ring bytes ws).conf = s.conf := (onHost_answerRing s r ring bytes ws).conf
@[simp] theorem State.answerRing_veh (s : State) (r : Req) (ring : Nat) (bytes : List Byte) (ws : List Word) : (s.answerRing r ring bytes ws).veh = s.veh := (onHost_answerRing s r ring bytes ws).veh
@[simp] theorem State.answerRing_ses (s : State) (r : Req) (ring : Nat) (bytes : List Byte) (ws : List Word) : (s.answerRing r ring bytes ws).ses = s.ses := (onHost_answerRing s r ring bytes ws).ses
@[simp] theorem State.answerRing_pwr (s : State) (r : Req) (ring : Nat) (bytes : List Byte) (ws : List Word) : (s.answerRing r ring bytes ws).pwr = s.pwr := (onHost_answerRing s r ring bytes ws).pwr
@[simp] theorem State.answerRing_pm (s : State) (r : Req) (ring : Nat) (bytes : List Byte) (ws : List Word) : (s.answerRing r ring bytes ws).pm = s.pm := (onHost_answerRing s r ring bytes ws).pm
@[simp] theorem State.answerRing_lease (s : State) (r : Req) (ring : Nat) (bytes : List Byte) (ws : List Word) : (s.answerRing r ring bytes ws).lease = s.lease := (onHost_answerRing s r ring bytes ws).lease
@[simp] theorem State.answerRing_legal (s : State) (r : Req) (ring : Nat) (bytes : List Byte) (ws : List Word) : (s.answerRing r ring bytes ws).legal = s.legal := (onHost_answerRing s r ring bytes ws).legal
@[simp] theorem State.answerRing_sl (s : State) (r : Req) (ring : Nat) (bytes : List Byte) (ws : List Word) : (s.answerRing r ring bytes ws).sl = s.sl := (onHost_answerRing s r ring bytes ws).sl
@[simp] theorem State.answerRing_met (s : State) (r : Req) (ring : Nat) (bytes : List Byte) (ws : List Word) : (s.answerRing r ring bytes ws).met = s.met := (onHost_answerRing s r ring bytes ws).met
@[simp] theorem State.answerRing_nrg (s : State) (r : Req) (ring : Nat) (bytes : List Byte) (ws : List Word) : (s.answerRing r ring bytes ws).nrg = s.nrg := (onHost_answerRing s r ring bytes ws).nrg
@[simp] theorem State.answerRing_bil (s : State) (r : Req) (ring : Nat) (bytes : List Byte) (ws : List Word) : (s.answerRing r ring bytes ws).bil = s.bil := (onHost_answerRing s r ring bytes ws).bil
@[simp] theorem State.answerRing_pq (s : State) (r : Req) (ring : Nat) (bytes : List Byte) (ws : List Word) : (s.answerRing r ring bytes ws).pq = s.pq := (onHost_answerRing s r ring bytes ws).pq
@[simp] theorem State.answerRing_jnl (s : State) (r : Req) (ring : Nat) (bytes : List Byte) (ws : List Word) : (s.answerRing r ring bytes ws).jnl = s.jnl := (onHost_answerRing s r ring bytes ws).jnl
@[simp] theorem State.answerRing_cave (s : State) (r : Req) (ring : Nat) (bytes : List Byte) (ws : List Word) : (s.answerRing r ring bytes ws).cave = s.cave := (onHost_answerRing s r ring bytes ws).cave
@[simp] theorem State.answerRing_rind (s : State) (r : Req) (ring : Nat) (bytes : List Byte) (ws : List Word) : (s.answerRing r ring bytes ws).rind = s.rind := (onHost_answerRing s r ring bytes ws).rind
@[simp] theorem State.answerRing_keys (s : State) (r : Req) (ring : Nat) (bytes : List Byte) (ws : List Word) : (s.answerRing r ring bytes ws).keys = s.keys := (onHost_answerRing s r ring bytes ws).keys
@[simp] theorem State.answerRing_fw (s : State) (r : Req) (ring : Nat) (bytes : List Byte) (ws : List Word) : (s.answerRing r ring bytes ws).fw = s.fw := (onHost_answerRing s r ring bytes ws).fw
@[simp] theorem State.answerRing_saf (s : State) (r : Req) (ring : Nat) (bytes : List Byte) (ws : List Word) : (s.answerRing r ring bytes ws).saf = s.saf := (onHost_answerRing s r ring bytes ws).saf
@[simp] theorem State.answerRing_sp (s : State) (r : Req) (ring : Nat) (bytes : List Byte) (ws : List Word) : (s.answerRing r ring bytes ws).sp = s.sp := (onHost_answerRing s r ring bytes ws).sp
@[simp] theorem State.answerRing_brk (s : State) (r : Req) (ring : Nat) (bytes : List Byte) (ws : List Word) : (s.answerRing r ring bytes ws).brk = s.brk := (onHost_answerRing s r ring bytes ws).brk
@[simp] theorem State.answerRing_ls (s : State) (r : Req) (ring : Nat) (bytes : List Byte) (ws : List Word) : (s.answerRing r ring bytes ws).ls = s.ls := (onHost_answerRing s r ring bytes ws).ls
@[simp] theorem State.answerRing_lk (s : State) (r : Req) (ring : Nat) (bytes : List Byte) (ws : List Word) : (s.answerRing r ring bytes ws).lk = s.lk := (onHost_answerRing s r ring bytes ws).lk
@[simp] theorem State.answerRing_chn (s : State) (r : Req) (ring : Nat) (bytes : List Byte) (ws : List Word) : (s.answerRing r ring bytes ws).chn = s.chn := (onHost_answerRing s r ring bytes ws).chn
@[simp] theorem State.answerRing_msh (s : State) (r : Req) (ring : Nat) (bytes : List Byte) (ws : List Word) : (s.answerRing r ring bytes ws).msh = s.msh := (onHost_answerRing s r ring bytes ws).msh
@[simp] theorem State.answerRing_nfc (s : State) (r : Req) (ring : Nat) (bytes : List Byte) (ws : List Word) : (s.answerRing r ring bytes ws).nfc = s.nfc := (onHost_answerRing s r ring bytes ws).nfc
@[simp] theorem State.answerRing_dsp (s : State) (r : Req) (ring : Nat) (bytes : List Byte) (ws : List Word) : (s.answerRing r ring bytes ws).dsp = s.dsp := (onHost_answerRing s r ring bytes ws).dsp
@[simp] theorem State.answerRing_free (s : State) (r : Req) (ring : Nat) (bytes : List Byte) (ws : List Word) : (s.answerRing r ring bytes ws).free = s.free := (onHost_answerRing s r ring bytes ws).free
@[simp] theorem State.answerRing_pending (s : State) (r : Req) (ring : Nat) (bytes : List Byte) (ws : List Word) : (s.answerRing r ring bytes ws).pending = s.pending := (onHost_answerRing s r ring bytes ws).pending
@[simp] theorem State.sysChanged_sys (s : State) : (s.sysChanged).sys = s.sys := (onHost_sysChanged s).sys
@[simp] theorem State.sysChanged_time (s : State) : (s.sysChanged).time = s.time := (onHost_sysChanged s).time
@[simp] theorem State.sysChanged_conf (s : State) : (s.sysChanged).conf = s.conf := (onHost_sysChanged s).conf
@[simp] theorem State.sysChanged_veh (s : State) : (s.sysChanged).veh = s.veh := (onHost_sysChanged s).veh
@[simp] theorem State.sysChanged_ses (s : State) : (s.sysChanged).ses = s.ses := (onHost_sysChanged s).ses
@[simp] theorem State.sysChanged_pwr (s : State) : (s.sysChanged).pwr = s.pwr := (onHost_sysChanged s).pwr
@[simp] theorem State.sysChanged_pm (s : State) : (s.sysChanged).pm = s.pm := (onHost_sysChanged s).pm
@[simp] theorem State.sysChanged_lease (s : State) : (s.sysChanged).lease = s.lease := (onHost_sysChanged s).lease
@[simp] theorem State.sysChanged_legal (s : State) : (s.sysChanged).legal = s.legal := (onHost_sysChanged s).legal
@[simp] theorem State.sysChanged_sl (s : State) : (s.sysChanged).sl = s.sl := (onHost_sysChanged s).sl
@[simp] theorem State.sysChanged_met (s : State) : (s.sysChanged).met = s.met := (onHost_sysChanged s).met
@[simp] theorem State.sysChanged_nrg (s : State) : (s.sysChanged).nrg = s.nrg := (onHost_sysChanged s).nrg
@[simp] theorem State.sysChanged_bil (s : State) : (s.sysChanged).bil = s.bil := (onHost_sysChanged s).bil
@[simp] theorem State.sysChanged_pq (s : State) : (s.sysChanged).pq = s.pq := (onHost_sysChanged s).pq
@[simp] theorem State.sysChanged_jnl (s : State) : (s.sysChanged).jnl = s.jnl := (onHost_sysChanged s).jnl
@[simp] theorem State.sysChanged_cave (s : State) : (s.sysChanged).cave = s.cave := (onHost_sysChanged s).cave
@[simp] theorem State.sysChanged_rind (s : State) : (s.sysChanged).rind = s.rind := (onHost_sysChanged s).rind
@[simp] theorem State.sysChanged_keys (s : State) : (s.sysChanged).keys = s.keys := (onHost_sysChanged s).keys
@[simp] theorem State.sysChanged_fw (s : State) : (s.sysChanged).fw = s.fw := (onHost_sysChanged s).fw
@[simp] theorem State.sysChanged_saf (s : State) : (s.sysChanged).saf = s.saf := (onHost_sysChanged s).saf
@[simp] theorem State.sysChanged_sp (s : State) : (s.sysChanged).sp = s.sp := (onHost_sysChanged s).sp
@[simp] theorem State.sysChanged_brk (s : State) : (s.sysChanged).brk = s.brk := (onHost_sysChanged s).brk
@[simp] theorem State.sysChanged_ls (s : State) : (s.sysChanged).ls = s.ls := (onHost_sysChanged s).ls
@[simp] theorem State.sysChanged_lk (s : State) : (s.sysChanged).lk = s.lk := (onHost_sysChanged s).lk
@[simp] theorem State.sysChanged_chn (s : State) : (s.sysChanged).chn = s.chn := (onHost_sysChanged s).chn
@[simp] theorem State.sysChanged_msh (s : State) : (s.sysChanged).msh = s.msh := (onHost_sysChanged s).msh
@[simp] theorem State.sysChanged_nfc (s : State) : (s.sysChanged).nfc = s.nfc := (onHost_sysChanged s).nfc
@[simp] theorem State.sysChanged_dsp (s : State) : (s.sysChanged).dsp = s.dsp := (onHost_sysChanged s).dsp
@[simp] theorem State.sysChanged_free (s : State) : (s.sysChanged).free = s.free := (onHost_sysChanged s).free
@[simp] theorem State.sysChanged_pending (s : State) : (s.sysChanged).pending = s.pending := (onHost_sysChanged s).pending

end Sys2Proof.Machine
end

