-- ==== Sys2Proof/Laws/Word.lean ====
section
/-! SUPPORT. The byte and word helpers. -/

namespace Sys2Proof

@[simp] theorem length_leBytes (n x : Nat) : (leBytes n x).length = n := by
  induction n generalizing x with
  | zero => rfl
  | succ n ih => simp [leBytes, ih]

end Sys2Proof
end

