-- ==== Sys2Proof/Laws/Sensor.lean ====
section
/-! SUPPORT. A frame that a head sends (R228) decodes to what it carries. -/

namespace Sys2Proof

/-- The bytes of a number give it back, as far as they hold it. -/
theorem leNat_leBytes (n v : Nat) (h : v < 256 ^ n) : leNat (leBytes n v) = v := by
  induction n generalizing v with
  | zero => simp at h; simp [leBytes, leNat, h]
  | succ n ih =>
    have h' : v / 256 < 256 ^ n := by rw [Nat.div_lt_iff_lt_mul (by omega)]; rwa [pow_succ] at h
    simp only [leBytes, leNat, ih _ h', BitVec.toNat_ofNat]
    omega

namespace Machine

theorem mapM_symByte (l : List Byte) : (l.map UpSym.data).mapM symByte = some l := by
  induction l with
  | nil => rfl
  | cons b l ih => simp [List.mapM_cons, symByte, ih]

/-- A comma, S1 to S251 and their CRC make a frame that is taken for what it says. -/
theorem decodeUp_frame (b : List Byte) (h : b.length = 251) :
    decodeUp .comma (b.map UpSym.data) ((leBytes 4 (crc32 b)).map UpSym.data) =
      some { idx := (b.getD 1 0).toNat, status := (b.getD 2 0).toNat, data := (b.drop 3).take 144, rsp := leNat ((b.drop 147).take 4) } := by
  have hc : crc32 b < 256 ^ 4 := by unfold crc32; exact BitVec.isLt _
  simp only [decodeUp, mapM_symByte, leNat_leBytes _ _ hc]
  simp [h]

end Machine
end Sys2Proof
end

