-- ==== Sys2Proof/Laws/System.lean ====
section
/-! SUPPORT. What the operations of the system block do. -/

namespace Sys2Proof.Machine

/-- Writing the reference's state: that state, and nothing else but the host's notice. -/
@[simp] theorem State.setTref_tref (s : State) (t : Tref) : (s.setTref t).sys.tref = t := by
  unfold State.setTref
  simp only
  split <;> simp [State.modTref]

theorem onHost_setTref (s : State) (t : Tref) : OnHost (s.modTref fun _ => t) (s.setTref t) := by
  unfold State.setTref
  simp only
  split
  · rfl
  · exact onHost_sysChanged _

end Sys2Proof.Machine
end

