-- ==== Sys2Proof/Tests/States.lean ====
section
/-! SUPPORT. Small states for tests and witnesses, each a change of the reset state. -/

namespace Sys2Proof.Tests

open Sys2Proof.Machine

/-- A request with two bytes in its ring. -/
def ringed (r : Req) : Req := { r with descs := [{ own := true, last := true, toHost := false, irq := false, len := 2, data := [4, 5] }] }
/-- A request with n zero bytes in its ring. -/
def ringOf (r : Req) (n : Nat) : Req := { r with descs := [{
  own := true, last := true, toHost := false, irq := false, len := n, data := List.replicate n 0 }] }

/-- Every ring of a guest enabled, with 16 entries and one descriptor between HEAD and TAIL. -/
def ringOn (s : State) (g : Guest) : State := s.modGuest g fun x => { x with
  rings := vmap (fun q => { q with en := true, log2size := 4, tail := 1 }) x.rings }

/-- Reset, with the start-up sequence past step 10. -/
def up : State := (State.reset.modSys fun y => { y with steps := [1, 2, 3, 4, 5, 6, 7, 8, 9, 10], safetyRdy := true }).modHost fun h =>
  { h with rrs := false }

/-- A request of a guest: opcode, LEN 8, class 4, and its words from word 2 on. -/
def req (g : Guest) (opcode : Nat) (ws : List Word) : Req :=
  { guest := g, words := (pack [(31, 16, opcode), (15, 8, 8)]) :: (pack [(18, 16, 4), (15, 0, 7)]) :: (ws ++ List.replicate 6 0).take 6 }

/-- GET_DEVICE_INFO of the system guest in its mailbox 0. -/
def mailed : State := up.modGuest 0 fun x => { x with h2d := upd x.h2d 0 fun m => { m with
  full := true, mbd := upd (upd (upd m.mbd 0 fun _ => 0x01000800) 1 fun _ => 0x00040007) 2 fun _ => 0xFF } }

/-- That command admitted; started and answered; its response stored; its response in mailbox 0. -/
def queued : State := up.modHost fun h => { h with admitted := [{ req := req 0 0x0100 [0xFF], cost := 6, pool := .own }] }
def done : State := up.modHost fun h => { h with
  admitted := [{ req := req 0 0x0100 [0xFF], cost := 6, pool := .own, started := true }]
  answers := [{ req := req 0 0x0100 [0xFF], code := Code.done, words := [] }] }
def note : OutMsg := { kind := .response, path := .pcie, words := [1, 2] }
def stored : State := up.modGuest 0 fun x => { x with store := [note] }
def shown : State := up.modGuest 0 fun x => { x with d2h := upd x.d2h 0 fun _ => { msg := some note } }

/-- A final outcome whose ACCEPTED has been delivered. -/
def awaited : State := up.modHost fun h => { h with
  awaiting := [req 0 0x0185 [1000]], finals := [{ req := req 0 0x0185 [1000], code := Code.done, words := [] }] }

/-- GLN bound to G1. -/
def bound : State := up.modHost fun h => { h with gln := some 1 }

/-- G0 has an open transaction, without an item and with one. -/
def opened : State := up.setOpen 0 (some [])
def openedG3 : State := up.setOpen 3 (some [])
def treef : Item := { opcode := 0x0183, words := (req 0 0x0183 [0]).words }
def filled : State := up.setOpen 0 (some [treef])

/-- The 300 µs run of R38's example waits for ACCEPT_TREF_PHASE. -/
def trefFault : State := up.modTref fun t => { t with state := .fault, candRun := 8, faultPhase := some 300000 }

/-- G5 relays from mailbox 0. -/
def relaying : State := up.modGuest 5 fun x => { x with h2d := upd x.h2d 0 fun m => { m with full := true, relaying := true } }

/-- Safety and Legal run; VP7 is enabled for free sessions and idle. -/
def ready : State := (((up.modSaf fun x => { x with state := .run, serviceLost := false }).modLegal fun x => { x with
  state := .run }).modCfg fun c => { c with
    port := upd c.port 7 fun x => { x with enable := true }, ses := upd c.ses 7 fun x => { x with freeOk := true } }).modSes 7
      fun x => { x with state := .idle }

/-- VP7 in a state of its session engine, of its vehicle link, of its power delivery, of Safety. -/
def sesIn (x : SesState) : State := ready.modSes 7 fun y => { y with state := x }
def linkIn (x : LinkState) : State := ready.modVeh 7 fun y => { y with link := x }
def pwrIn (x : PwrState) : State := ready.modPwr 7 fun y => { y with state := x }
def safIn (x : PortState) : State := ready.modSp 7 fun y => { y with state := x }

/-- A billed session with 1000 Wh of credit, open on VP7 and charging. -/
def openRec : SesRec := {
  no := 1, run := 1, nOpen := 0, ivFirst := 0, ivPrev := [], calCount := 0, sealsOpen := 0, billed := true, creditE := 1000
  impOpen := Vector.replicate 8 0, expOpen := Vector.replicate 8 0, impTotOpen := 0, expTotOpen := 0 }
def charging : State := ((sesIn .charging).modSes 7 fun x => { x with sesOpen := true, sesNo := 1 }).modBil 7 fun x => { x with
  ses := some openRec, lastNo := 1 }

/-- VP7 with a DC record of the safety table, and brake 0; both outputs and inputs as the record says. -/
def testable : State := ready.modSaf fun x => { x with tables := vmap (fun y => { y with
  remoteReset := true
  ports := upd y.ports 7 fun r => { r with enable := true, connType := 1, brake := 0, group := 0xFF, uRef := 500, imdTrip := 100, cLimit := 1 }
  inputs := upd (upd y.inputs 0 fun r => { r with type := 2, pair := 1 }) 1 fun r => { r with type := 2, pair := 0 }
  brakes := upd y.brakes 0 fun r => { r with enable := true } }) x.tables }
def testing (x : PortTest) : State := testable.modSp 7 fun y => { y with test := some x }
def braking (x : BrakePhase) : State := testable.modBrk 0 fun y => { y with phase := some x }

def testable1 : State := testable.modSaf fun x => { x with tables := vmap (fun y => { y with
  brakes := upd y.brakes 0 fun r => { r with mode := 1 } }) x.tables }

/-- Ports 6 and 7 closed on bus group 0, the slot at port 6. -/
def grouped : State := (((testable.modSaf fun x => { x with
  injector := upd x.injector 0 fun _ => some 6
  tables := vmap (fun y => { y with
    ports := upd (upd y.ports 7 fun r => { r with group := 0 }) 6 fun r => { r with enable := true, connType := 1, group := 0 } }) x.tables }).modSp 6
      fun x => { x with state := .closed }).modSp 7 fun x => { x with state := .closed })

/-- Load switch 3 in mode ON, commanded on, otherwise as x. -/
def switched (x : LsCh) : State := (up.modCfg fun c => { c with ls := upd c.ls 3 fun k => { k with mode := 1 } }).modLs fun l => { l with
  ch := upd l.ch 3 fun _ => { x with commanded := true } }

/-- VP7 mapped to channel 7 of PM1, which is up, with an ENABLE that waits for its ACK. -/
def waiting : AckWait := { type := 5, w1 := 0, gen := 0, seqs := [0], at_ := 0 }
def mapped : State := ((ready.modCfg fun c => { c with pwr := upd c.pwr 7 fun x => { x with map := some (1, 7) } }).modPm 1 fun x => { x with
  state := .up }).modPwr 7 fun x => { x with acks := [waiting] }

/-- A member of a chain with address 254, and the head with address 1; both ports up. -/
def member : State := (ready.modCfg fun c => { c with chain := { c.chain with enable := true } }).modChn fun c => { c with
  addr := 254, headSerial := some 7, headAddr := 1, links := vmap (fun l => { l with state := .up, phys := true }) c.links }
def heading : State := member.modChn fun c => { c with
  addr := 1, head := true, headSerial := some 0, table := [(0, 1), (9, 254)] }

/-- A frame of unit 9 to all, in at CHW, and the same from the mesh. -/
def frame : ChHdr := { port := some 1, src := 9, seq := 1 }
def meshed : ChHdr := { port := none, src := 9, seq := 1, viaMesh := true }

/-- A frame of unit 9 to this unit, over the mesh's link and to all. -/
def mhdr : MHdr := { linkSrc := 9, linkDst := 254, src := 9, dst := 254, seq := 1 }
def mall : MHdr := { linkSrc := 9, linkDst := 255, src := 9, dst := 255, seq := 1 }
def meshing : State := member.modCfg fun c => { c with mesh := { c.mesh with enable := true } }

/-- The Cave in a state, on a 256 GiB drive; with a window of all heads that has ended. -/
def caved (x : CaveState) : State := ready.modCave fun c => { c with state := x, drive := some { size := 2 ^ 38, format := .own } }
def windowed : State := (caved .ready).modCave fun c => { c with open_ := [{ num := 1, source := 0xFF, trigger := 0, first := 0, last := 0 }] }

/-- The Cave ready, and the first head of VP0 in service. -/
def metering : State := (((caved .ready).modCfg fun c => { c with met := upd c.met 0 fun _ => some { ratedI := 0, phases := 1 } }).modSl 0 fun x => { x with
  state := .run, regs := { x.regs with serial := 5 } }).modMet 0 fun x => { x with bound := upd x.bound 0 fun _ => some 5 }

/-- Slot 16 with every guest, use and state, of an algorithm; a vault command of G3 that waits for T_FIX. -/
def keySlot (alg : Nat) : Slot := { attrA := 0xFFFF, attrB := pack [(3, 0, alg), (5, 4, 3), (8, 6, 7), (14, 10, 31), (18, 18, 1)], key := 5 }
def keyed (alg : Nat) : State := up.putSlot 16 (keySlot alg)
def vaulting : State := up.modKeys fun k => { k with ops := [{ req := req 3 0x7000 [], code := Code.done, slot := 16 }] }

/-- G3 may stage; an image of class SERVICE at its checks, an open activation of it, a commit, a swap. -/
def stager : State := up.modCfg fun c => { c with guests := upd c.guests 0 fun g => { g with staging := true } }
def checking : State := stager.modStg 0 fun g => { g with state := .checking, cmd := some (req 0 0x7180 []) }
def proposed : State := up.modAct fun a => { a with state := .proposed, cls := 0, digest := List.replicate 48 1 }
def committed : State := up.modAct fun a => { a with state := .committed, cls := 0 }
def swapping : State := up.modAct fun a => { a with state := .swapping, cls := 0 }
def banked : State := up.modIdleBank 0 fun b => { b with valid := true, digest := List.replicate 48 0 }

/-- The tag in an activation, with the application selected. -/
def tagged : State := up.modTag fun t => { t with phase := .proto, selected := true }
def card : CardInfo := { typeB := false, uid := [1, 2, 3, 4], isoDep := true, atqa := 4, sak := 0x20 }
def holding : State := up.modNfc fun n => { n with card := some card }

/-- VP7 matches RunID 5, with one sound of 20 dB heard. -/
def matching : State := (linkIn .matching).modVeh 7 fun x => { x with slac := { x.slac with run := some 5, sounds := [20] } }

/-- In SERVICE, with the audit right at G3. -/
def serviced : State := (ready.modRind fun r => { r with lifecycle := 3 }).modCfg fun c => { c with guests := upd c.guests 3 fun g => { g with
  audit := true } }

/-- A frame to all in the mesh's queue; a proposal that waits for nobody; a delay of a self test; a verified head. -/
def cast0 : MFrame := { src := 254, dst := 255, seq := 1, body := .delay 0 }
def prop : SiteProp := { epoch := 1, items := { siteId := 1, limit := 100, expect := 1 }, waiting := [] }
def due : State := (sesIn .charging).modSaf fun x => { x with tables := testable.saf.tables }
def upBody (i status : Byte) : List Byte := [0x21, i, status] ++ List.replicate 248 0xB5
theorem length_upBody (i status : Byte) : (upBody i status).length = 251 := by
  rw [upBody, List.length_append, List.length_replicate]; rfl
def upSyms (i status : Byte) : List UpSym := (upBody i status).map .data
def upCrc (i status : Byte) : List UpSym := (leBytes 4 (crc32 (upBody i status))).map .data

def goodHead : HeadRegs := { id := 0x2000, serial := 5 }
def meas0 : CalMeas := { req := req 3 0x2083 [7], mode := 0, pi := 0, force := 0, element := 0, path := 8, pulses := 1, const := 1, seconds := 0 }
def cross1 : Cross := { edges := 0 }

/-- Safety in its cycle, with nothing sensed amiss and the watchdog's question as given. -/
def cycling (q : Option Nat) : State := up.modSaf fun x => { x with state := .run, wires := true, question := q }
def goodCycle : CycleSense := {
  port := Vector.replicate 8 { aux := Vector.replicate 2 false, across := Vector.replicate 2 0, coil := Vector.replicate 2 0 }
  coils := 0, outs := 0, brakes := 0 }

/-- VP7 with a DC record whose close guards all hold. -/
def polar (s : State) : State := s.modSaf fun x => { x with
  tables := vmap (fun y => { y with ports := upd y.ports 7 fun r => { r with auxPol := 3 } }) x.tables }
def permitting : State := (polar testable).modSp 7 fun x => { x with peOk := true, pass := true }

/-- VP7 on AC, metered since sample 0, with 640 samples processed. -/
def acMetered : State := (((ready.modCfg fun c => { c with
  port := upd c.port 7 fun x => { x with connType := 0 }, met := upd c.met 7 fun _ => some { ratedI := 0, phases := 3 } }).modNrg 7
    fun x => { x with winFrom := some 0 }).modLegal fun l => { l with proc := 640 })

end Sys2Proof.Tests
end

