-- ==== Sys2Proof/Tests/Slice0.lean ====
section
/-! SUPPORT. Own tests: ill-formed commands that WellFormed refuses, worked examples and rules of the spec on fixed values, and
for every statement with hypotheses a theorem that shows states and operands which meet them. -/

set_option maxRecDepth 2000
set_option linter.unusedVariables false

open Sys2Proof Sys2Proof.Machine Sys2Proof.Tests

namespace Sys2Proof.Tests

/-! ### What WellFormed refuses, one term a check -/

def longMsg (n : Nat) : Req := { guest := 0, words := List.replicate n 0 }
theorem test_wf_message_of_7 : wellFormed (.echo (longMsg 7)) = false := by decide
theorem test_wf_message_of_17 : wellFormed (.echo (longMsg 17)) = false := by decide
theorem test_wf_message_of_8 : wellFormed (.echo (longMsg 8)) = true := by decide
theorem test_wf_descriptor_longer_than_len : wellFormed (.echo { longMsg 8 with descs := [{ len := 1, data := [1, 2] }] }) = false := by
  decide
theorem test_wf_offset : wellFormed (.registerWrite .pcie 0 0x11000 0) = false := by decide
theorem test_wf_byte_enables : wellFormed (.accessViolation .pcie 0 0 true 16 false) = false := by decide
theorem test_wf_queue : wellFormed (.commandStart 0 8192) = false := by decide
theorem test_wf_mac : wellFormed (.t1sFirstFrame 0 true (2 ^ 48)) = false := by decide
theorem test_wf_pm_seq : wellFormed (.pmAck 0 0 256 0 1) = false := by decide
theorem test_wf_upstream_frame : wellFormed (.upstreamFrame 0 .comma [] []) = false := by decide
theorem test_wf_log_entry : wellFormed (.logEntry [0]) = false := by decide
theorem test_wf_chain_level : wellFormed (.sleepReady { frame with level := 16 }) = false := by decide
theorem test_wf_chain_dst : wellFormed (.sleepReady { frame with dst := 256 }) = false := by decide
theorem test_wf_chain_src : wellFormed (.sleepReady { frame with src := 256 }) = false := by decide
theorem test_wf_chain_hops : wellFormed (.sleepReady { frame with hops := 256 }) = false := by decide
theorem test_wf_chain_seq : wellFormed (.sleepReady { frame with seq := 2 ^ 32 }) = false := by decide
theorem test_wf_chain_epoch : wellFormed (.sleepReady { frame with epoch := 2 ^ 32 }) = false := by decide
def chKey : ChKey := { role := 0, incumbent := false, west := false, serial := 0 }
theorem test_wf_key_role : wellFormed (.candidate frame { chKey with role := 256 }) = false := by decide
theorem test_wf_key_serial : wellFormed (.candidate frame { chKey with serial := 2 ^ 128 }) = false := by decide
def helloed : Hello := { serial := 0, addr := 0, head := none, key := chKey, port := 0, link := 0 }
theorem test_wf_hello_serial : wellFormed (.hello 0 { helloed with serial := 2 ^ 128 }) = false := by decide
theorem test_wf_hello_addr : wellFormed (.hello 0 { helloed with addr := 256 }) = false := by decide
def reported : ReportFrame := { serial := 0, demand := 0, held := 0, digest := 0 }
theorem test_wf_report_serial : wellFormed (.report frame { reported with serial := 2 ^ 128 }) = false := by decide
theorem test_wf_report_levels : wellFormed (.report frame { reported with levelMin := 2, levelMax := 1 }) = false := by decide
theorem test_wf_report_digest : wellFormed (.report frame { reported with digest := 2 ^ 32 }) = false := by decide
def granted (e : GrantEntry) (n : Nat) : GrantFrame := { epoch := 0, limit := 0, level := 3, entries := List.replicate n e }
theorem test_wf_grant_entries : wellFormed (.grant frame (granted { addr := 1, kw := 0 } 255)) = false := by decide
theorem test_wf_grant_addr : wellFormed (.grant frame (granted { addr := 255, kw := 0 } 1)) = false := by decide
theorem test_wf_grant_causes : wellFormed (.grant frame (granted { addr := 1, causes := 16, kw := 0 } 1)) = false := by decide
theorem test_wf_act_class : wellFormed (.actPropose frame { cls := 3, digest := 0 }) = false := by decide
theorem test_wf_act_digest : wellFormed (.actPropose frame { cls := 0, digest := 2 ^ 192 * 2 ^ 192 }) = false := by decide
theorem test_wf_act_unit : wellFormed (.actPropose frame { cls := 0, digest := 0, unit := 256 }) = false := by decide
theorem test_wf_link_down_unit : wellFormed (.linkDown frame 256 0) = false := by decide
theorem test_wf_assign_serial : wellFormed (.assign frame (2 ^ 128) 1) = false := by decide
theorem test_wf_mirror : wellFormed (.mirror frame (List.replicate 33 0)) = false := by decide
theorem test_wf_offer : wellFormed (.fwOffer frame []) = false := by decide
theorem test_wf_mesh_src : wellFormed (.msync { mhdr with linkSrc := 256 } 0 0) = false := by decide
theorem test_wf_mesh_dst : wellFormed (.msync { mhdr with linkDst := 256 } 0 0) = false := by decide
theorem test_wf_mesh_origin : wellFormed (.msync { mhdr with src := 256 } 0 0) = false := by decide
theorem test_wf_mesh_target : wellFormed (.msync { mhdr with dst := 256 } 0 0) = false := by decide
theorem test_wf_mesh_hops : wellFormed (.msync { mhdr with hops := 7 } 0 0) = false := by decide
theorem test_wf_mesh_route : wellFormed (.msync { mhdr with route := List.replicate 7 1 } 0 0) = false := by decide
theorem test_wf_mesh_index : wellFormed (.msync { mhdr with idx := 7 } 0 0) = false := by decide
theorem test_wf_mesh_seq : wellFormed (.msync { mhdr with seq := 2 ^ 16 } 0 0) = false := by decide
theorem test_wf_block : wellFormed (.caveStreamSamples { head := 0, num := 2 ^ 48 }) = false := by decide
theorem test_wf_card : wellFormed (.nfcPoll false [{ uid := List.replicate 11 0 }]) = false := by decide
theorem test_wf_drive : wellFormed (.caveInitDone (some { size := 0, format := 3 })) = false := by decide

/-! ### Worked examples of the spec -/

/-- Spec 00: −1 250 500 mA is 0xEC_EB3C in 24 bits, 0xFFEC_EB3C sign-extended in a register. -/
theorem test_int24_of_the_scope_example :
    fldInt 24 (-1250500) = 0xECEB3C ∧ sext 24 0xECEB3C = -1250500 ∧ wInt (-1250500) = 0xFFECEB3C := by decide
/-- Spec 06, example of R132: 20.0 A is 33.3 %, 63.0 A is 89.2 %. -/
theorem test_duty_of_20_A_and_63_A : dutyOf 200 = some 333 ∧ dutyOf 630 = some 892 := by decide
/-- Spec 08: VP0 at 2 000 A/s and 50 µs rises 100 mA a step; at 7 A/s a step of 0 leaves 350 µA in acc. -/
theorem test_step_of_100_mA : nextStep 2400000 2000000 0 false 2000 3000 50 = (2000100, 0, false, true) := by decide
theorem test_step_at_7_A_per_s : nextStep 10 5 700 false 7 7 50 = (6, 50, false, true) := by decide
/-- Spec 08, example of R207: a fall stops at zero before the rise the other way starts. -/
theorem test_step_stops_at_zero : (nextStep (-150000) 20 0 true 500 500 50).1 = 0 := by decide
/-- Spec 14, example of R373: U_REF 1 000 V, IMD_TRIP 100 Ω/V and C_LIMIT 10 give 100 kΩ and half-periods of 200 ms. -/
def exampleRec : PortRec := { up.portRec 0 with uRef := 1000, imdTrip := 100, cLimit := 10 }
theorem test_half_period_of_the_imd : exampleRec.rTrip = 100000 ∧ exampleRec.halfMs = 200 := by decide
/-- Spec 15, example of R399: 60.0 µs at 24.00 V nominal and 30.00 V is 38.4 µs, which is carried, not emitted. -/
theorem test_lamp_of_the_indicator : lampRequest true 600 20000 2400 3000 = (384, false) := by decide
theorem test_short_pulse_is_carried : emit 384 20000 500 500 0 = (0, 384) := by decide
/-- Spec 18: at 32 TiB the block part starts at 2.5 TiB + 66 MiB and has 7 918 829 056 slots. -/
def drive32 : Cave := { up.cave with drive := some { size := 2 ^ 45, format := .own } }
theorem test_slots_of_32_TiB : drive32.waveBase = 5 * 2 ^ 39 + 66 * 2 ^ 20 ∧ drive32.nslot = 7918829056 := by decide
/-- Spec 18 R491: 4 MiB, 8 MiB and 12 MiB of queue are the shed levels' bounds, with hysteresis. -/
theorem test_shed_levels : shedLevel 0 (8 * mib - 1) = 0 ∧ shedLevel 0 (8 * mib) = 1 ∧ shedLevel 1 (4 * mib) = 1 ∧
    shedLevel 1 (4 * mib - 1) = 0 ∧ shedLevel 0 (12 * mib) = 2 := by decide

/-! ### One step -/

/-- What a step's next state holds. -/
def after {α : Type} (r : Res) (f : State → α) : Option α :=
  match r with
  | .next t => some (f t)
  | _ => none

theorem test_reset_chip_is_cause_6 :
    after (exec (.resetChip (req 0 0x0186 [0x8128])) up) (fun t => (t.sys.chipCause, t.sys.chipResets)) = some (6, 1) := by decide
theorem test_reset_chip_needs_its_key :
    after (exec (.resetChip (req 0 0x0186 [0x8129])) up) (fun t => (t.sys.chipCause, t.host.answers.map (·.code))) =
      some (0, [Code.outOfRange]) := by decide
theorem test_msix_unmask_sends_the_held_vector :
    after (exec (.msixVectorUnmask 0 5) (up.modGuest 0 fun x => { x with irq := { x.irq with pba := 0x20 } }))
      (fun t => (t.guest 0).irq.pba) = some 0 := by decide
theorem test_irq_status_clear_keeps_the_others :
    after (exec (.irqStatusClear .pcie 0 4) (up.modGuest 0 fun x => { x with irq := { x.irq with status := 6 } }))
      (fun t => (t.guest 0).irq.status) = some 2 := by decide
theorem test_doorbell_of_another_guest :
    after (exec (.queDbH2d 0 1) up) (fun t => ((t.guest 0).dbH2d, (t.guest 4).dbH2d)) = some (1, 0) := by decide
theorem test_tamper_zeroises :
    after (exec (.tamperEvent 0) up) (fun t => (t.rind.rootPresent, t.legal.state, t.rind.lifecycle)) = some (false, .void, 2) := by
  set_option maxRecDepth 8000 in decide
theorem test_seal_loop_opens_service :
    after (exec (.sealLoopSample { ohm := 10001, gnd := 1000000 }) ((up.modLegal fun l => { l with state := .void }).modRind fun r => { r with loopRun := 1 }))
      (fun t => (t.rind.lifecycle, t.rind.sealCount, t.rind.sealDue)) = some (3, 1, true) := by
  set_option maxRecDepth 8000 in decide
theorem test_seal_loop_closed_stays_in_field :
    after (exec (.sealLoopSample { ohm := 10000, gnd := 100000 }) (up.modRind fun r => { r with loopRun := 1 })) (fun t => (t.rind.lifecycle, t.rind.sealCount)) = some (2, 0) := by decide
theorem test_permitted_close_energises_both_coils :
    after (exec (.closeReq 7) permitting) (fun t => (ix (t.spAt 7).coils 0, ix (t.spAt 7).coils 1, ix (t.spAt 6).coils 0)) =
      some (true, true, false) := by decide
theorem test_close_without_permit :
    after (exec (.closeReq 7) up) (fun t => ix (t.spAt 7).coils 0) = some false := by decide
theorem test_empty_queue_counts_time :
    after (step up) (fun t => t.time.safetyUs) = some (up.time.safetyUs + 1) := by decide
theorem test_frame_memory_overwrite : cellPut (cellPut [(3, 7)] 5 1) 3 0 = [(5, 1)] := by decide

/-! ### Hypotheses of the statements -/

/-- States and operands that meet the hypotheses of `Obligations.StepRunsTheFrontCommand`, clause by clause. -/
theorem test_step_runs_the_front_command_hypotheses :
    (let s : State := { up with pending := [.reqa .reqa, .chipReset] }
  s.pending = [.reqa .reqa, .chipReset]) :=
  by decide

/-- States and operands that meet the hypotheses of `Obligations.EmptyQueueLetsTimePass`, clause by clause. -/
theorem test_empty_queue_lets_time_pass_hypotheses :
    (up.pending = [] ∧ up.sys.power ≠ .dormant ∧ up.rind.counting = true) ∧
    (let s := up.modSys fun y => { y with power := .dormant }
  s.pending = [] ∧ s.sys.power = .dormant ∧ s.rind.counting = true) :=
  by
  refine ⟨by decide, ?_⟩
  decide

/-- States and operands that meet the hypotheses of `Obligations.CommandsWriteTheirPartsAlone`, clause by clause. -/
theorem test_commands_write_their_parts_alone_hypotheses :
    (∃ t, exec (.safeInEdge 0 true) up = .next t) ∧
    (∃ t, exec (.safeInEdge 0 true) up = .next t) :=
  by
  refine ⟨by exact ⟨_, rfl⟩, ?_⟩
  exact ⟨_, rfl⟩

/-- States and operands that meet the hypotheses of `Obligations.StepsKeepTheInvariant`, clause by clause. -/
theorem test_steps_keep_the_invariant_hypotheses :
    (State.reset.inv ∧ ∃ t, step State.reset = .next t) :=
  by exact ⟨by constructor <;> decide, _, rfl⟩

/-- States and operands that meet the hypotheses of `Obligations.LifeCycleMoves`, clause by clause. -/
theorem test_life_cycle_moves_hypotheses :
    (∃ t, step { serviced with pending := [.finalTest] } = .next t) :=
  by exact ⟨_, rfl⟩

/-- States and operands that meet the hypotheses of `Obligations.CountsNeverFall`, clause by clause. -/
theorem test_counts_never_fall_hypotheses :
    (State.reset.inv ∧ ∃ t, step State.reset = .next t) :=
  by exact ⟨by constructor <;> decide, _, rfl⟩

/-- States and operands that meet the hypotheses of `Obligations.ChipResetLeavesLegal`, clause by clause. -/
theorem test_chip_reset_leaves_legal_hypotheses :
    (up.sys.power ≠ .dormant) ∧
    (up.sys.power ≠ .dormant) :=
  by
  refine ⟨by decide, ?_⟩
  decide

/-- States and operands that meet the hypotheses of `Obligations.ResetCausesAndCounts`, clause by clause. -/
theorem test_reset_causes_and_counts_hypotheses :
    (up.sys.power ≠ .dormant) ∧
    ((req 0 0x0186 [0x8128]).fromSystem = true ∧ (req 0 0x0186 [0x8128]).word 2 = w32 0x8128) ∧
    (up.sys.power ≠ .dormant) ∧
    ((up.modSys fun y => { y with power := .dormant }).sys.power = .dormant) ∧
    (∃ t, exec (.guestReset 5) up = .next t) :=
  by
  iterate 4 refine ⟨by decide, ?_⟩
  exact ⟨_, rfl⟩

/-- States and operands that meet the hypotheses of `Obligations.BothCoilsCloseByPermitAlone`, clause by clause. -/
theorem test_both_coils_close_by_permit_alone_hypotheses :
    (let s : State := { permitting with pending := [.closeReq 7] }
  s.pending.head? = some (.closeReq 7) ∧ ({ s with pending := s.pending.tail }.heartbeat.permit 7 = true)) :=
  by decide

/-- States and operands that meet the hypotheses of `Obligations.TamperZeroisesTheRoot`, clause by clause. -/
theorem test_tamper_zeroises_the_root_hypotheses :
    (up.rind.armed = true ∧ up.retired = false ∧ up.rind.rootPresent = true ∧ up.sys.power ≠ .dormant) ∧
    (let s := up.modSys fun y => { y with power := .dormant }
  s.rind.armed = true ∧ s.retired = false ∧ s.rind.rootPresent = true ∧ s.sys.power = .dormant) ∧
    (let s := up.modRind fun r => { r with rootPresent := false }
  s.rind.armed = true ∧ s.retired = false ∧ s.rind.rootPresent = false) ∧
    ((up.modRind fun r => { r with armed := false }).rind.armed = false) :=
  by
  iterate 3 refine ⟨by decide, ?_⟩
  decide

/-- States and operands that meet the hypotheses of `Obligations.TagZeroisation`, clause by clause. -/
theorem test_tag_zeroisation_hypotheses :
    (up.rind.armed = true ∧ up.retired = false ∧ up.rind.rootPresent = true ∧ up.sys.power ≠ .dormant) :=
  by decide

/-- States and operands that meet the hypotheses of `Obligations.TagPasswordLock`, clause by clause. -/
theorem test_tag_password_lock_hypotheses :
    (∃ (pw : List Byte) (d : Nat), pwHash tagged.tag.salt pw ≠ d ∧ (tagged.modTag fun t => { t with pwDigest := some d }).tag.pwDigest = some d ∧
      tagged.tag.serving = true ∧ tagged.tag.selected = true ∧ tagged.tag.locked = false) ∧
    (let s := tagged.modTag fun t => { t with locked := true, pwDigest := some 1 }
  s.tag.serving = true ∧ s.tag.selected = true ∧ s.tag.pwDigest = some 1 ∧ s.tag.locked = true) ∧
    (let s := tagged.modTag fun t => { t with pwDigest := some (pwHash t.salt [1]) }
  s.tag.serving = true ∧ s.tag.selected = true ∧ s.tag.pwDigest = some (pwHash s.tag.salt [1]) ∧ s.tag.locked = false) ∧
    (∃ t, exec (.mutualAuth []) tagged = .next t) ∧
    (let s := tagged.modTag fun t => { t with locked := true }
  s.tag.locked = true ∧ ∃ t, exec .tagFieldLost s = .next t) :=
  by
  refine ⟨by exact ⟨[], pwHash tagged.tag.salt [] + 1, by omega, rfl, by decide, by decide, by decide⟩, ?_⟩
  refine ⟨by decide, ?_⟩
  refine ⟨by exact ⟨by decide, by decide, rfl, by decide⟩, ?_⟩
  refine ⟨by exact ⟨_, rfl⟩, ?_⟩
  exact ⟨by decide, _, rfl⟩

/-- States and operands that meet the hypotheses of `Obligations.AddCreditRaisesCreditOnly`, clause by clause. -/
theorem test_add_credit_raises_credit_only_hypotheses :
    (let r : Req := req 0 0x1182 [7, 5]
  ∃ b, (charging.bilAt r.port).ses = some b ∧ b.out = false ∧ (charging.sesAt r.port).sesOpen = true ∧
      (r.nat48 3 = 0 ∨ b.creditE ≠ 0) ∧ (r.fld 5 23 0 = 0 ∨ b.creditT ≠ 0) ∧ b.creditE + r.nat48 3 < 2 ^ 48 ∧ b.creditT + r.fld 5 23 0 ≤ 604800) ∧
    (let r : Req := req 0 0x1182 [7, 0, 0, 9]
  (charging.bilAt r.port).ses = some openRec ∧ (r.fld 5 23 0 ≠ 0 ∧ openRec.creditT = 0) ∧ openRec.out = false ∧ (charging.sesAt r.port).sesOpen = true) ∧
    (((charging.modBil 7 fun x => { x with ses := some { openRec with out := true } }).bilAt (req 0 0x1182 [7]).port).ses = some { openRec with out := true }) ∧
    ((charging.bilAt 7).ses = some openRec ∧ ∃ t, exec (.addCredit (req 0 0x1182 [7, 5])) charging = .next t ∧ ∃ b', (t.bilAt 7).ses = some b') :=
  by
  refine ⟨by exact ⟨openRec, by decide⟩, ?_⟩
  iterate 2 refine ⟨by decide, ?_⟩
  exact ⟨by decide, _, rfl, _, rfl⟩

/-- States and operands that meet the hypotheses of `Obligations.TripAdviceIsMirroredOnly`, clause by clause. -/
theorem test_trip_advice_is_mirrored_only_hypotheses :
    (member.takes frame (.tripAdvice 9 0 0 0 0) = true) ∧
    (let s := member.modCfg fun c => { c with chain := { c.chain with adviceOut := true } }
  s.chainOn = true ∧ s.cfg.chain.adviceOut = true ∧ (s.sesAt 7).insAsked = false) :=
  by
  refine ⟨by decide, ?_⟩
  decide

/-- States and operands that meet the hypotheses of `Obligations.GuestRowsLeaveOtherGuestsAlone`, clause by clause. -/
theorem test_guest_rows_leave_other_guests_alone_hypotheses :
    ((0 : Guest) ≠ 4 ∧ up.sys.sleep.phase ≠ .prepared ∧ up.sys.sleep.phase ≠ .committed ∧ ∃ t, exec (.irqArm .pcie 0) up = .next t) ∧
    (let s := up.modSleep fun x => { x with phase := .prepared }
  (0 : Guest) ≠ 4 ∧ ∃ t, exec (.irqArm .pcie 0) s = .next t) ∧
    (let s := up.modHost fun x => { x with gln := some 0 }
  (0 : Guest) ≠ 4 ∧ ∃ t, exec (.irqArm .gln 0) s = .next t) :=
  by
  refine ⟨by exact ⟨by decide, by decide, by decide, _, rfl⟩, ?_⟩
  refine ⟨by exact ⟨by decide, _, rfl⟩, ?_⟩
  exact ⟨by decide, _, rfl⟩

/-- States and operands that meet the hypotheses of `Obligations.PortLinkRowsLeaveOtherPortsAlone`, clause by clause. -/
theorem test_port_link_rows_leave_other_ports_alone_hypotheses :
    ((6 : Port) ≠ 7 ∧ ∃ t, exec (.linkRetryEnd 7) (linkIn .retry) = .next t) ∧
    ((6 : Port) ≠ 7 ∧ ∃ t, exec (.vehiclePause 7) (linkIn .connected) = .next t) :=
  by
  refine ⟨by exact ⟨by decide, _, rfl⟩, ?_⟩
  exact ⟨by decide, _, rfl⟩

/-- States and operands that meet the hypotheses of `Obligations.SystemCommandsOfOtherGuestsAreRefused`, clause by clause. -/
theorem test_system_commands_of_other_guests_are_refused_hypotheses :
    ((req 3 0x0186 [0x8128]).fromSystem = false) ∧
    ((req 3 0x7084 [0]).fromSystem = false) :=
  by
  refine ⟨by decide, ?_⟩
  decide

/-- States and operands that meet the hypotheses of `Obligations.DisplayMemoryReadsBack`, clause by clause. -/
theorem test_display_memory_reads_back_hypotheses :
    (cellsWf [(0, 1), (7, 2)] = true) ∧
    (cellsWf [(0, 1), (7, 2)] = true ∧ ∀ i : Fin 9, cellAt [(0, 1), (7, 2)] i.1 = cellAt [(0, 1), (7, 2)] i.1) :=
  by
  refine ⟨by decide, ?_⟩
  decide

/-- States and operands that meet the hypotheses of `Obligations.FrameBoundaryWritesItsRegionsAlone`, clause by clause. -/
theorem test_frame_boundary_writes_its_regions_alone_hypotheses :
    (up.cfg.dsp = up.dsp.cfg ∧ cellsWf up.dsp.frame = true ∧ ∃ t, exec .frameBoundary up = .next t) ∧
    (let q : Rect := { x := 0, y := 16, w := 1, h := 1, data := [9] }
  let s := up.modDsp fun d => { d with pending := upd d.pending 7 fun _ => some q }
  s.cfg.dsp = s.dsp.cfg ∧ ix s.dsp.pending 7 = some q ∧ (∀ l, l ≠ 7 → ix s.dsp.pending l = none) ∧ q.w ≤ s.dsp.cfg.width ∧ 0 < q.w * q.h) ∧
    (∃ t, exec .frameBoundary up = .next t) ∧
    (∃ t, exec .dozeEntry up = .next t) :=
  by
  refine ⟨by exact ⟨by decide, by decide, _, rfl⟩, ?_⟩
  refine ⟨by decide, ?_⟩
  refine ⟨by exact ⟨_, rfl⟩, ?_⟩
  exact ⟨_, rfl⟩

/-- States and operands that meet the hypotheses of `Obligations.GlnWithoutABinding`, clause by clause. -/
theorem test_gln_without_abinding_hypotheses :
    (let s := up.modHost fun h => { h with glnVio := true }
  s.host.glnVio = true ∧ s.host.gln = none ∧ 0x1FFE < 0x2000 ∧ 0x1FFE % 2 = 0) ∧
    (up.host.gln = none) ∧
    (up.host.gln = none ∧ ∃ t, exec (.accessViolation .gln 3 0x2000 true 3 false) up = .next t) ∧
    (up.sys.power ≠ .dormant) ∧
    (let s := up.modSys fun y => { y with power := .dormant }
  s.sys.power = .dormant ∧ ∃ t, exec .porRelease s = .next t) ∧
    (∃ t, exec (.setGlnBind (req 0 0x0283 [0])) opened = .next t) :=
  by
  iterate 2 refine ⟨by decide, ?_⟩
  refine ⟨by exact ⟨rfl, _, rfl⟩, ?_⟩
  refine ⟨by decide, ?_⟩
  refine ⟨by exact ⟨by decide, _, rfl⟩, ?_⟩
  exact ⟨_, rfl⟩

/-- States and operands that meet the hypotheses of `Obligations.SiteDigestIsOfItsItems`, clause by clause. -/
theorem test_site_digest_is_of_its_items_hypotheses :
    (leBytes 4 0x12345678 = [0x78, 0x56, 0x34, 0x12]) :=
  by decide

/-- States and operands that meet the hypotheses of `Obligations.RequestableOutputs`, clause by clause. -/
theorem test_requestable_outputs_hypotheses :
    (let s := (up.modSaf fun x => { x with state := .run, enable := true, wires := true, requests := 128, tables := vmap (fun y => { y with outputs := vmap (fun o => { o with type := 3 }) y.outputs }) x.tables })
  (ix s.table.outputs 7).type = 3 ∧ s.outsWanted / 2 ^ 7 % 2 = 1) :=
  by decide

/-- States and operands that meet the hypotheses of `Obligations.MailboxCommandsComplete`, clause by clause. -/
theorem test_mailbox_commands_complete_hypotheses :
    (up.canWrite .pcie 0 = true ∧ up.violKind .pcie 0 0x1740 true false = none ∧ (ix (up.guest 0).h2d 7).full = false) ∧
    (let s : State := mailed
  let m := ix (s.guest 0).h2d 0
  let s1 := s.modH2d 0 0 fun x => { x with full := false }
  let r := s.message 0 0
  m.full = true ∧ m.slot = .free ∧ m.relaying = false ∧ (s.guest 0).rstBusy = false ∧ s.sys.reached 8 = true ∧
  s.swapping = false ∧ s.headerFail 0 (ix m.mbd 0) (ix m.mbd 1) = none ∧ (opInfo ((ix m.mbd 0).fld 31 16)).map (·.opcode) = some 0x0100 ∧
  (opInfo 0x0100).map (fun op => (s1.capKind op r, s1.claimOk op r, decide (op.fastest ≤ r.cls), isRelay op,
    (s1.admits op r (s1.startLatency op r.modemPorts)).isSome)) = some (none, true, true, false, true)) ∧
    ((queued.onQueue 0 0).find? (! ·.started) = some { req := req 0 0x0100 [0xFF], cost := 6, pool := .own } ∧
  queued.itsTurn { req := req 0 0x0100 [0xFF], cost := 6, pool := .own } = true ∧
  (opInfo (req 0 0x0100 [0xFF]).opcode).map (fun op => queued.claimOk op (req 0 0x0100 [0xFF])) = some true) ∧
    ((done.onQueue 0 0).head? = some { req := req 0 0x0100 [0xFF], cost := 6, pool := .own, started := true } ∧
  done.host.answers.find? (·.req.same (req 0 0x0100 [0xFF])) = some { req := req 0 0x0100 [0xFF], code := Code.done, words := [] }) ∧
    ((stored.guest 0).store.find? (·.path == .pcie) = some note ∧
  (idx 8).find? (fun k => stored.mbxPath 0 k == .pcie && (ix (stored.guest 0).d2h k).msg.isNone) = some 0 ∧ note.kind = .response) ∧
    ((ix (shown.guest 0).d2h 0).msg = some note ∧ shown.canRead .pcie 0 = true ∧
  shown.violKind .pcie 0 (0x1800 + 4 * (note.words.length - 1)) false false = none) ∧
    ((ix (shown.guest 0).d2h 0).msg = some note ∧ shown.canRead .pcie 0 = true ∧ shown.violKind .pcie 0 0x1800 false false = none) ∧
    (up.canWrite .pcie 0 = true ∧ up.violKind .pcie 0 0x1740 true false = none) ∧
    (awaited.host.finals.find? (fun a => a.req.guest == 0 && awaited.host.awaiting.any a.req.same) =
    some { req := req 0 0x0185 [1000], code := Code.done, words := [] }) :=
  by
  iterate 8 refine ⟨by decide, ?_⟩
  decide

/-- States and operands that meet the hypotheses of `Obligations.HostRowsComplete`, clause by clause. -/
theorem test_host_rows_complete_hypotheses :
    (up.host.rrs = false ∧ up.host.vfEnable = false ∧ up.sys.romRecovery = false) ∧
    (up.host.rrs = false) ∧
    (up.host.rrs = false) ∧
    (let s := up.modHost fun h => { h with numVFs := 15, vfEnable := true }
  s.host.rrs = false ∧ s.canRead .pcie 15 = true ∧ (15 : Guest) ≠ 0) ∧
    (up.host.rrs = false) ∧
    ((up.modHost fun h => { h with rrs := true }).host.rrs = true) ∧
    (up.canWrite .pcie 0 = true) ∧
    (let s := (up.modGuest 15 fun x => { x with hbRunning := true }).modCfg fun c => { c with
    guests := upd c.guests 15 fun x => { x with hbMs := 10 } }
  (s.guest 15).hbRunning = true ∧ (s.gcfg 15).hbMs ≠ 0) ∧
    (((up.trigger 3 6).guest 3).rstBusy = true) ∧
    ((up.guest 3).rstBusy = false) ∧
    (up.holdsD0 .core = false ∧ up.sys.clocks.of .core = .running) ∧
    ((up.modSys fun y => { y with clocks := { y.clocks with starting := [.stor] } }).sys.clocks.starting.contains .stor = true) ∧
    (up.canWrite .pcie 0 = true) ∧
    (up.canWrite .pcie 0 = true) ∧
    (let s := up.modGuest 0 fun x => { x with irq := { x.irq with pba := 0x8000000000000000 } }
  s.canWrite .pcie 0 = true ∧ (s.guest 0).irq.pba.getLsbD 63 = true) ∧
    (up.canWrite .pcie 0 = true ∧ (up.guest 0).irq.pba.getLsbD 63 = false) ∧
    (up.canWrite .pcie 0 = true) ∧
    (up.canWrite .pcie 0 = true) ∧
    (up.canWrite .pcie 0 = true) ∧
    (up.canWrite .pcie 0 = true) ∧
    (up.canWrite .pcie 0 = true) ∧
    (up.canWrite .pcie 0 = true) ∧
    (up.canWrite .pcie 0 = true ∧ ((0x80 : Word) &&& 0xFF) ≠ 0) ∧
    (up.canWrite .pcie 0 = true) ∧
    (up.canWrite .pcie 0 = true ∧ (up.violKind .pcie 0 0x3098 true (0x3098 % 4 != 0)) = none ∧ inStaging 0x3098 = false) ∧
    (bound.canWrite .gln 1 = true ∧ (bound.violKind .gln 1 0x1604 true false) = none) ∧
    (up.canWrite .pcie 0 = true ∧ msixVector 0x103FC = some 63) ∧
    (up.canRead .pcie 0 = true ∧ pairLow 0x30B0 = true ∧ (up.violKind .pcie 0 0x30B0 false (0x30B0 % 4 != 0)) = none ∧
  unlatch (up.guest 0).latch 0x30B0 = none) ∧
    (let s := up.modGuest 0 fun x => { x with latch := [{ offset := 0x30B4, word := 9 }] }
  s.canRead .pcie 0 = true ∧ (pairLow 0x30B4 || (decide (4 ≤ 0x30B4) && pairLow (0x30B4 - 4))) = true ∧
  (s.violKind .pcie 0 0x30B4 false (0x30B4 % 4 != 0)) = none ∧ unlatch (s.guest 0).latch 0x30B4 = some (9, [])) ∧
    (bound.host.glnVio = true ∧ bound.host.gln = some 1 ∧ (bound.violKind .gln 1 0x1FFC false false) = none ∧
  unlatch (bound.guest 1).glnLatch 0x1FFC = none) ∧
    (let s := bound.modGuest 1 fun x => { x with glnLatch := [{ offset := 0x30, word := 9 }] }
  s.host.glnVio = true ∧ s.host.gln = some 1 ∧ (s.violKind .gln 1 0x30 false false) = none ∧
  unlatch (s.guest 1).glnLatch 0x30 = some (9, [])) ∧
    (bound.host.glnVio = true ∧ bound.host.gln = some 1 ∧ (bound.violKind .gln 1 0x1FFE false false) = none ∧
  unlatch (bound.guest 1).glnLatch 0x1FFE = none) ∧
    (up.canRead .pcie 0 = true ∧ up.violKind .pcie 0 0x2100 true (false || 15 != 0xF || 0x2100 % 4 != 0) = some 1) ∧
    (up.canRead .pcie 0 = true ∧ up.violKind .pcie 0 0xFFFC false (false || 15 != 0xF || 0xFFFC % 4 != 0) = some 9) :=
  by
  iterate 33 refine ⟨by decide, ?_⟩
  decide

/-- States and operands that meet the hypotheses of `Obligations.ConfigurationCommandsComplete`, clause by clause. -/
theorem test_configuration_commands_complete_hypotheses :
    ((req 0 0x0183 []).guest = 0 ∧ opened.legalVoid = false ∧ Req.txn { guest := 0, words := [0x01830801] } = true ∧
  ix opened.conf.opens 0 = some []) ∧
    (let r := req 0 0x0183 [0]
  let it : Item := { opcode := r.opcode, words := r.words }
  r.guest = 0 ∧ up.legalVoid = false ∧ r.txn = false ∧ up.txnFits (txnBytes [it]) = true ∧ up.itemReason up.projected it = none) ∧
    (openedG3.legalVoid = false ∧ Req.txn { guest := 3, words := [0x10820801] } = true ∧ ix openedG3.conf.opens 3 = some []) ∧
    (let r := req 3 0x2281 [7, 1, 0]
  let it : Item := { opcode := r.opcode, words := r.words }
  up.legalVoid = false ∧ r.txn = false ∧ up.txnFits (txnBytes [it]) = true ∧ up.itemReason up.projected it = none) ∧
    (Req.namesPort { guest := 3, words := [0x23800801, 0, 7] } = true) ∧
    (Req.target { guest := 3, words := [0x03820801, 0, 3] } = 3) ∧
    (let r := req 0 0x1089 [0xFF, 0x1000]
  let it : Item := { opcode := r.opcode, words := r.words }
  r.guest = 0 ∧ r.fld 3 5 0 ≤ 39 ∧ r.bit 3 12 = true ∧ r.txn = false ∧ up.txnFits (txnBytes [it]) = true ∧
  up.itemReason up.projected it = none) ∧
    (let r : Req := { guest := 0, words := [0x91810801], descs := [{}] }
  let s := ringOn opened 0
  r.txn = true ∧ (s.withRing r (r.fld 3 2 0)).ringOk = true ∧ ix s.conf.opens 0 = some []) ∧
    (ix up.conf.opens 15 = none) ∧
    (ix filled.conf.opens 0 = some [treef] ∧ filled.txnFits (txnBytes [treef]) = true ∧
  (filled.setOpen 0 none).firstFail (filled.setOpen 0 none).projected [treef] 0 = none) ∧
    (ix opened.conf.opens 0 = some []) :=
  by
  iterate 10 refine ⟨by decide, ?_⟩
  decide

/-- States and operands that meet the hypotheses of `Obligations.SystemCommandsComplete`, clause by clause. -/
theorem test_system_commands_complete_hypotheses :
    ((req 0 0x0101 [2]).fld 2 1 0 ≠ 3) ∧
    (trefFault.sys.tref.faultPhase = some 300000 ∧ trefFault.isHead = true ∧ trefFault.sys.tref.state = .fault ∧
  trefFault.sys.tref.rateFault = false) ∧
    (up.fenced = false ∧ inRange 200 60000 ((req 0 0x0185 [60000]).fld 2 23 0) = true ∧ up.sys.sleep.cmd = none ∧
  up.sys.sleep.asking = false ∧ up.isHead = true) ∧
    (inRange 200 60000 ((req 0 0x0185 [200]).fld 2 23 0) = true) ∧
    ((req 0 0x0186 [0x8128]).word 2 = w32 0x8128) ∧
    (((opInfo ((req 0 0x0200 [0x10000007]).fld 2 31 16)).map (·.opcode)) = some 0x1000 ∧ (req 0 0x0200 [0x10000007]).portField < 8) ∧
    ((req 0 0x0200 [0x010000FF]).portField = 0xFF) ∧
    ((up.gcfg 0).queFirst ≤ (req 0 0x0201 [511]).fld 2 12 0 ∧ (req 0 0x0201 [511]).fld 2 12 0 < (up.gcfg 0).queFirst + (up.gcfg 0).queCount) ∧
    ((req 3 0x0300 [3]).target = (req 3 0x0300 [3]).guest) ∧
    ((req 0 0x0384 [15]).target ≠ 0) ∧
    ((req 4 0x0384 [4]).target = (req 4 0x0384 [4]).guest) ∧
    ((up.gcfg (req 5 0x0385 [0]).target).query.bit 2 = true ∧ (relaying.modHost fun h => { h with
    admitted := [{ req := req 5 0x0385 [0], cost := 0, pool := .own }] }).relayLive (req 5 0x0385 [0]) = true) :=
  by
  iterate 11 refine ⟨by decide, ?_⟩
  decide

/-- States and operands that meet the hypotheses of `Obligations.PortAndSessionCommandsComplete`, clause by clause. -/
theorem test_port_and_session_commands_complete_hypotheses :
    (let s := up.modVeh 7 fun x => { x with cert := { x.cert with pending := true, replaced := true } }
  (s.vehAt 7).cert.pending = true ∧ (s.vehAt 7).cert.late = false ∧ (req 0 0x1003 [7]).port = 7) ∧
    ((req 3 0x1080 [7]).bit 3 0 = false ∧ ix up.host.claim (req 3 0x1080 [7]).port = none) ∧
    (let s := (up.modVeh 7 fun x => { x with link := .basic }).modCfg fun c => { c with port := upd c.port 7 fun x => { x with connType := 0 } }
  let r := req 3 0x1083 [7, 60]
  s.isAc r.port = true ∧ (s.vehAt r.port).link = .basic ∧ (60 ≤ r.fld 3 9 0 ∧ r.fld 3 9 0 ≤ 630)) ∧
    ((up.sesAt (req 3 0x1082 [7]).port).state.inSession = false ∧ (up.portCfg (req 3 0x1082 [7]).port).lockPresent = true ∧
  (up.vehAt (req 3 0x1082 [7]).port).lock.phase = .idle ∧ up.openOk (req 3 0x1082 [7]).port = true) ∧
    (let r : Req := req 0 0x1011 [7]
  let s : State := ready
  ((s.sesAt r.port).state.inSession = false)) ∧
    (((up.modSes 7 fun x => { x with state := .charging }).sesAt 7).state.inSession = true ∧ (req 3 0x1085 [7]).port = 7) ∧
    (let s := up.modVeh 7 fun x => { x with cert := { x.cert with pending := true } }
  let r := req 3 0x1087 [7, 0x100]
  (s.vehAt r.port).cert.pending = true ∧ (s.vehAt r.port).cert.replaced = false ∧ (s.vehAt r.port).cert.late = false ∧ r.bit 3 8 = true) ∧
    (let s := (ringOn up 3).modVeh 7 fun x => { x with cert := { x.cert with pending := true } }
  let r := ringed (req 3 0x1087 [7])
  let c := (s.vehAt r.port).cert
  let q := s.withRing r (r.fld 3 2 0)
  c.pending = true ∧ c.replaced = false ∧ c.late = false ∧ r.bit 3 8 = false ∧ q.ringOk = true ∧ q.ringIn.length ≤ 16384) ∧
    (let s := (ringOn up 3).modVeh 7 fun x => { x with cert := { x.cert with pending := true } }
  let r := ringOf (req 3 0x1087 [7]) 1
  let c := (s.vehAt r.port).cert
  c.pending = true ∧ c.replaced = false ∧ c.late = false ∧ r.bit 3 8 = false ∧ (s.withRing r (r.fld 3 2 0)).ringOk = true) ∧
    (let r := req 3 0x1180 [7, 0x101]
  let s := ready
  let p := r.port
  let d := s.decisionOf r
  p = 7 ∧ s.retired = false ∧ s.safetySwap = false ∧ s.saf.state ≠ .init ∧ s.legal.state ≠ .starting ∧ (s.portCfg p).enable = true ∧ (s.sesAt p).state = .idle ∧
  (s.vehAt p).link ≠ .basic ∧ (s.sesAt p).preauth = none ∧ (s.sesAt p).openReq = false ∧ d.badRange = false ∧ r.bit 3 8 = true ∧
  d.source ≠ 2 ∧ s.judge p (some d) = none) ∧
    (let r := req 3 0x1180 [7, 0x104, 0, 0, 1000]
  let s := (sesIn .authorising)
  let p := r.port
  let d := s.decisionOf r
  p = 7 ∧ (s.sesAt p).state = .authorising ∧ (s.sesAt p).preauth = none ∧ (s.sesAt p).openReq = false ∧ d.badRange = false ∧
  d.source = 4 ∧ r.bit 3 8 = true ∧ s.judge p (some d) = none) ∧
    (let r := req 3 0x1182 [7, 2 ^ 31, 0]
  let s := charging
  r.port = 7 ∧ (s.bilAt 7).ses = some openRec ∧ openRec.out = false ∧ (s.sesAt 7).sesOpen = true ∧
  (openRec.creditT = 0 → r.fld 5 23 0 = 0) ∧ openRec.creditE + r.nat48 3 < 2 ^ 48) ∧
    (((sesIn .paused).sesAt 7).state.inSession = true) ∧
    (let s := (sesIn .plugged).modSes 7 fun x => { x with preauth := some ({ source := 1, billed := true }, 3) }
  (s.sesAt 7).preauth = some ({ source := 1, billed := true }, 3) ∧ (s.sesAt 7).state.inSession = false) ∧
    (((sesIn .faulted).sesAt 7).state = .faulted ∧ (sesIn .faulted).blkContactor 7 = false) :=
  by
  iterate 14 refine ⟨by decide, ?_⟩
  decide

/-- States and operands that meet the hypotheses of `Obligations.PowerRowsComplete`, clause by clause. -/
theorem test_power_rows_complete_hypotheses :
    ((1 : PmIdx).1 = (req 3 0x1203 [0, 1]).fld 3 0 0) ∧
    ((req 3 0x1281 [7, 0xFFFFFF, 0, 0, 0]).bit 6 0 = false) ∧
    (let s := (linkIn .connected).modVeh 7 fun x => { x with protocol := 3, dynamic := true }
  (req 3 0x1281 [7, 0xFFFFFF, 0, 0x800000, 1]).bit 6 0 = true ∧ (s.vehAt 7).link = .connected ∧ (s.vehAt 7).protocol = 3 ∧
  (s.vehAt 7).dynamic = true) ∧
    (let x := ((pwrIn .active).modPwr 7 fun x => { x with enabled := true }).pwrAt 7
  x.enabled = true ∧ x.state = .active) ∧
    (let x := ((pwrIn .active).modPwr 7 fun x => { x with enabled := true, replan := true }).pwrAt 7
  x.enabled = true ∧ x.replan = true ∧ x.state = .active) ∧
    (nextRepeat (mapped.pwrAt 7).acks = some waiting ∧ (mapped.pwrCfg 7).map = some (1, 7)) ∧
    (nextRepeat [waiting] = some waiting) ∧
    ((mapped.pmLink 1).state ≠ .down ∧ mapped.portOfCh 1 (7 : Fin 8).1 = some 7) ∧
    (let l : PmIdx := 1
  let ch : Fin 8 := 7
  let p : Port := 7
  let s : State := mapped
  ((s.pmLink l).state ≠ .down) ∧ (s.portOfCh l ch.1 = some p)) ∧
    ((mapped.pmLink 1).state = .up ∧ mapped.portOfCh 1 7 = some 7 ∧ (((mapped.pmRx 1 0).modPmLink 1 fun k => { k with state := .up }).pwrAt 7).limits ≠ { vMax := 100000 } ∧
  (((mapped.pmRx 1 0).modPmLink 1 fun k => { k with state := .up }).pwrAt 7).enabled = false) ∧
    (let s := mapped.modPm 1 fun x => { x with state := .training }
  (s.pmLink 1).state = .training ∧ s.portOfCh 1 3 = none) ∧
    (let s := mapped.modPwr 7 fun x => { x with enabled := true }
  (s.pmLink 1).state ≠ .down ∧ s.portOfCh 1 7 = some 7 ∧ (s.pwrAt 7).enabled = true) ∧
    (let l : PmIdx := 1
  let s : State := mapped
  ((s.pmLink l).state ≠ .down)) ∧
    (let l : PmIdx := 1
  let s : State := mapped
  ((s.pmLink l).state = .training ∨ (s.pmLink l).state = .up)) ∧
    ((mapped.pwrAt 7).acks = [waiting] ∧ (mapped.pwrCfg 7).map = some (1, 7)) ∧
    (let s := mapped.modPm 1 fun x => { x with state := .fault }
  (s.pmLink 1).state = .fault) ∧
    (up.canRead .pcie 0 = true ∧ (up.violKind .pcie 0 0x06FC false false) = none) :=
  by
  iterate 16 refine ⟨by decide, ?_⟩
  decide

/-- States and operands that meet the hypotheses of `Obligations.LeaseRowsComplete`, clause by clause. -/
theorem test_lease_rows_complete_hypotheses :
    (let r := req 0 0x1283 [0, 0x0E10FFFF]
  let s := up.modCfg fun c => { c with siteLimit := 65535 }
  r.guest = 0 ∧ s.fenced = false ∧ r.fld 3 15 0 ≤ s.cfg.siteLimit ∧ r.fld 3 27 16 ≤ 3600 ∧ s.isHead = true) ∧
    (let r := req 0 0x1283 [0, 0x0E10FFFF]
  let s := member.modCfg fun c => { c with siteLimit := 65535 }
  s.fenced = false ∧ r.fld 3 15 0 ≤ s.cfg.siteLimit ∧ s.isHead = false ∧ r.fld 3 27 16 ≠ 0) ∧
    (member.chainOn = true ∧ member.chn.head = false ∧ member.chn.addr ≠ 0 ∧ member.act.pendingStart = false) ∧
    (let s := member.modAct fun a => { a with pendingStart := true }
  s.chainOn = true ∧ s.chn.head = false ∧ s.chn.addr ≠ 0 ∧ s.act.pendingStart = true) ∧
    (up.chainOn = false) ∧
    (heading.chainOn = true ∧ heading.chn.head = true) ∧
    (let s := heading.modChn fun c => { c with granted := [{ addr := 1, quorate := true, kw := 5, held := 5 }] }
  s.chn.granted.find? (·.addr == s.chn.addr) = some { addr := 1, quorate := true, kw := 5, held := 5 }) ∧
    (heading.takes frame (.report { serial := 9, demand := 1, held := 0, digest := 0 }) = true) ∧
    (heading.takes frame (.grant { epoch := 1, limit := 0, level := 1, entries := [] }) = true) ∧
    (member.takes frame (.reduce 0 1) = true ∧ member.takes meshed (.reduce 1000 1) = true) ∧
    (heading.takes frame (.reduceReq 10 0) = true) ∧
    (let s : State := heading
  (s.isHead = true)) ∧
    (heading.takes frame (.siteConfig 1 { siteId := 1, limit := 1, expect := 254 }) = true) ∧
    (heading.takes frame (.configAck 0) = true) ∧
    (let x : SiteProp := prop
  let s : State := heading.modChn fun c => { c with prop := some prop }
  (s.chn.prop = some x) ∧ (s.chn.head = true) ∧ (x.agreed = false) ∧ ((x.waiting = [] ∨ x.moves = 8))) ∧
    (let s := heading.modChn fun c => { c with prop := some { epoch := 1, items := { siteId := 0, limit := 0, expect := 1 }, waiting := [254] } }
  s.chn.prop.isSome = true) :=
  by
  iterate 15 refine ⟨by decide, ?_⟩
  decide

/-- States and operands that meet the hypotheses of `Obligations.TimeAndSleepRowsComplete`, clause by clause. -/
theorem test_time_and_sleep_rows_complete_hypotheses :
    (2 ≤ (up.modCfg fun c => { c with trefMode := 2 }).cfg.trefMode) ∧
    (let off : Int := 500
  let rate : Int := -200000
  let s : State := up.modCfg fun c => { c with trefMode := 2 }
  (2 ≤ s.cfg.trefMode) ∧ (-200000 ≤ rate) ∧ (rate ≤ 200000) ∧ (s.sys.tref.rateFault = false) ∧ (-500 ≤ off) ∧ (off ≤ 500)) ∧
    (let s := (up.modCfg fun c => { c with trefMode := 3 }).modTref fun t => { t with cand := some 300000, candRun := 7, prev := some 300100 }
  nearEdge s.sys.tref.prev 300100 = true ∧ s.sys.tref.rateFault = false ∧ s.sys.tref.cand = some 300000 ∧ s.sys.tref.candRun = 7 ∧ 100000 < (300000 : Int).natAbs) ∧
    ((up.modCfg fun c => { c with trefMode := 1 }).cfg.trefMode % 2 = 1) ∧
    (let rate : Int := 200000
  let s : State := up.modCfg fun c => { c with trefMode := 1 }
  (s.cfg.trefMode = 1) ∧ (-200000 ≤ rate) ∧ (rate ≤ 200000) ∧ (s.sys.tref.rateFault = false) ∧ (s.sys.tref.state ≠ .fault) ∧ (s.sys.tref.state ≠ .locked)) ∧
    (let s : State := up.modCfg fun c => { c with trefMode := 2 }
  (2 ≤ s.cfg.trefMode)) ∧
    (let s : State := up.modCfg fun c => { c with trefMode := 3 }
  (s.cfg.trefMode % 2 = 1)) ∧
    ((up.modTref fun t => { t with rateFault := true }).sys.tref.rateFault = true) ∧
    (let r := req 0 0x0185 [60000]
  r.guest = 0 ∧ up.fenced = false ∧ 200 ≤ r.fld 2 23 0 ∧ r.fld 2 23 0 ≤ 60000 ∧ up.sys.sleep.cmd = none ∧ up.sys.sleep.asking = false ∧
  up.isHead = true) ∧
    (member.fenced = false ∧ member.isHead = false ∧ member.sys.sleep.asking = false) ∧
    (let s := heading.modSleep fun x => { x with asking := true, phase := .prepared, ready := [254] }
  s.isHead = true ∧ s.sys.sleep.notReady = none ∧ s.sys.sleep.phase = .prepared ∧ s.unfencedUnits = [254]) ∧
    (let g : Nat := 6
  let a : Nat := 254
  let s : State := heading.modSleep fun y => { y with asking := true, notReady := some (6, 254) }
  (s.isHead = true) ∧ (s.sys.sleep.asking = true) ∧ (s.sys.sleep.notReady = some (g, a))) ∧
    (let s := up.modSleep fun x => { x with phase := .committed }
  s.sys.sleep.phase = .committed ∧ s.fenced = false ∧ s.sleepGuard = none) ∧
    (let s := (up.modSleep fun x => { x with phase := .committed }).modSes 7 fun x => { x with state := .charging }
  s.sys.sleep.phase = .committed ∧ s.fenced = false ∧ s.sleepGuard = some 1) ∧
    (let s := (heading.modSleep fun x => { x with phase := .committed }).modChn fun c => { c with fence := 1 }
  s.sys.sleep.phase = .committed ∧ s.fenced = true) ∧
    (let s := up.modSleep fun x => { x with phase := .pastTp }
  s.sys.power = .run ∧ s.sys.sleep.phase = .pastTp) ∧
    (let s := up.modSys fun y => { y with power := .doze }
  s.sys.power = .doze) ∧
    (member.takes frame (.sleep 1 1) = true) ∧
    (heading.takes frame (.sleep 2 0) = true) ∧
    (heading.takes frame (.sleep 3 6) = true) ∧
    (member.takes frame (.sleep 4 1) = true) ∧
    (member.takes frame (.sleep 5 0x103) = true) ∧
    (heading.takes frame (.sleep 6 0) = true) ∧
    (let s := heading.modSys fun y => { y with power := .doze }
  s.takes frame (.wake 3) = true) :=
  by
  iterate 23 refine ⟨by decide, ?_⟩
  decide

/-- States and operands that meet the hypotheses of `Obligations.ResetRowsComplete`, clause by clause. -/
theorem test_reset_rows_complete_hypotheses :
    ((req 0 0x0184 [0x8128]).word 2 = 0x8128) ∧
    (up.sys.clkFault = false ∧ up.sys.chipCause ≠ 5) ∧
    (let s := State.reset.modSys fun y => { y with chipCause := 5 }
  s.sys.clkFault = false ∧ s.sys.chipCause = 5 ∧ s.sys.reached 7 = false) ∧
    ((up.modSys fun y => { y with clkFault := true }).sys.clkFault = true) ∧
    (State.reset.sys.clkFault = false ∧ (State.reset.rootUsable = true ∨ State.reset.retired = true)) ∧
    (up.sys.clkFault = false ∧ (up.rootUsable = true ∨ up.retired = true)) ∧
    (let s := State.reset.modRind fun r => { r with rootPresent := false }
  s.sys.clkFault = false ∧ s.rootUsable = false ∧ s.retired = false) ∧
    (up.sys.power ≠ .dormant) ∧
    ((up.modSys fun y => { y with power := .dormant }).sys.power = .dormant) ∧
    (State.reset.legal.state = .starting ∧ State.reset.rootUsable = true) ∧
    (let s := State.reset.modSys fun y => { y with steps := [1, 2, 3, 4, 5, 6, 7] }
  s.sys.reached 7 = true ∧ s.sys.reached 8 = false ∧ s.sys.romRecovery = false) :=
  by
  iterate 10 refine ⟨by decide, ?_⟩
  decide

/-- States and operands that meet the hypotheses of `Obligations.ControlPilotAndLockRowsComplete`, clause by clause. -/
theorem test_control_pilot_and_lock_rows_complete_hypotheses :
    (let s := linkIn .plugged |>.modVeh 7 fun x => { x with cp := { x.cp with drive := .high, cand := .c, agree := 1 } }
  (s.vehAt 7).cp.drive ≠ .f ∧ cpClass 600 = .c ∧ (s.vehAt 7).cp.cand = .c ∧ (s.vehAt 7).cp.agree + 1 < (CpState.c).needs) ∧
    (let s := linkIn .plugged |>.modVeh 7 fun x => { x with cp := { x.cp with drive := .high, cand := .c, agree := 2, state := .b } }
  (s.vehAt 7).cp.drive ≠ .f ∧ cpClass 600 = .c ∧ (CpState.c).needs ≤ (s.vehAt 7).cp.agree + 1 ∧ (s.vehAt 7).cp.agree < 3 ∧ (s.vehAt 7).cp.state ≠ .c) ∧
    (let s := linkIn .plugged |>.modVeh 7 fun x => { x with cp := { x.cp with gap := true } }
  (s.vehAt 7).cp.gap = true ∧ (s.vehAt 7).cp.state ≠ .invalid ∧ (s.vehAt 7).link ≠ .off) ∧
    (let s := linkIn .plugged |>.modVeh 7 fun x => { x with pp := { x.pp with cand := .absent, agree := 4, code := .present } }
  (s.vehAt 7).pp.cand = s.ppClass 7 4501 ∧ (s.vehAt 7).pp.agree = 4 ∧ (s.vehAt 7).pp.code ≠ s.ppClass 7 4501) ∧
    (let s := ready.modVeh 7 fun x => { x with lock := { x.lock with phase := .pulse } }
  (s.lkAt 7).want = none ∧ (s.lkAt 7).failed = false ∧ (s.vehAt 7).lock.phase = .pulse ∧ (s.vehAt 7).lock.stopping = false ∧ s.fbLocked 7 = (s.vehAt 7).lock.target) ∧
    (let p : Port := 7
  let s : State := ready.modLock 7 fun x => { x with phase := .pulse, target := true }
  let k := (s.vehAt p).lock
  k.phase = .pulse ∧ (k.stopping = false) ∧ (s.lkAt p).want = none ∧ (s.lkAt p).failed = false ∧ (s.fbLocked p ≠ k.target)) ∧
    (let s := (ready.modLock 7 fun x => { x with phase := .pulse }).modLk 7 fun x => { x with failed := true }
  (s.vehAt 7).lock.phase = .pulse ∧ (s.vehAt 7).lock.stopping = false ∧ (s.lkAt 7).want = none ∧ (s.lkAt 7).failed = true) ∧
    (let p : Port := 7
  let s : State := ready.modLock 7 fun x => { x with phase := .pulse, stopping := true }
  ((s.vehAt p).lock.phase = .pulse) ∧ ((s.vehAt p).lock.stopping = true)) ∧
    (let s := ready.modVeh 7 fun x => { x with lock := { x.lock with phase := .feedback, attempt := 2 } }
  (s.vehAt 7).lock.phase = .feedback ∧ (s.vehAt 7).lock.attempt < 3) ∧
    (let p : Port := 7
  let s : State := ready.modLock 7 fun x => { x with phase := .feedback, attempt := 3 }
  ((s.vehAt p).lock.phase = .feedback) ∧ (3 ≤ (s.vehAt p).lock.attempt)) ∧
    (let p : Port := 7
  let s : State := ready.modLock 7 fun x => { x with phase := .pause }
  ((s.vehAt p).lock.phase = .pause)) ∧
    (let p : Port := 7
  let s : State := ready.modLock 7 fun x => { x with phase := .pulse }
  ((s.vehAt p).lock.phase = .pulse)) ∧
    (let p : Port := 7
  let s : State := ready
  let t := s.modLock p fun x => { x with fbClosed := closed }
  (s.vehAt p).lock.phase = .idle ∧ ((s.vehAt p).lock.state ≠ .fault)) :=
  by
  iterate 12 refine ⟨by decide, ?_⟩
  decide

/-- States and operands that meet the hypotheses of `Obligations.VehicleLinkRowsComplete`, clause by clause. -/
theorem test_vehicle_link_rows_complete_hypotheses :
    (let s := linkIn .plugged |>.modVeh 7 fun x => { x with cp := { x.cp with state := .b } }
  s.isT1s 7 = false ∧ (s.vehAt 7).slac.initOver = false ∧ (s.vehAt 7).cp.state = .b ∧ (s.vehAt 7).slac.refused ≠ some 0) ∧
    (matching.matching 7 5 = true) ∧
    (let p : Port := 7
  let run : Nat := 5
  let s : State := matching
  (s.matching p run = true)) ∧
    (let p : Port := 7
  let run : Nat := 5
  let s : State := matching.modCfg fun c => { c with port := upd c.port 7 fun x => { x with slacValidate := true } }
  (s.matching p run = true) ∧ (s.portCfg p).slacValidate = true) ∧
    (matching.matching 7 5 = true ∧ (∀ q, matching.matching q 5 = true ↔ q = 7) ∧ (matching.vehAt 7).slac.sounds ≠ [] ∧
  atMostDb (matching.vehAt 7).slac.avg (matching.portCfg 7).attenMax = true) ∧
    ((up.modCfg fun c => { c with port := upd c.port 7 fun x => { x with connType := 2 } }).isT1s 7 = true) ∧
    (let s := matching.modVeh 7 fun x => { x with slac := { x.slac with indSent := true } }
  s.isT1s 7 = false ∧ s.matching 7 5 = true ∧ (s.vehAt 7).slac.needValidate = false ∧ s.matchedElse 7 5 = false) ∧
    (let s := matching.modVeh 7 fun x => { x with slac := { x.slac with keySent := true } }
  (s.vehAt 7).slac.run = some 5 ∧ (s.vehAt 7).link = .matching ∧ s.matchedElse 7 5 = false) ∧
    (let p : Port := 7
  let s : State := matching
  ((s.vehAt p).link = .matching)) ∧
    (let s := linkIn .plugged
  (s.vehAt 7).fallback = false ∧ (s.vehAt 7).slac.initOver = false) ∧
    (((linkIn .retry).vehAt 7).link = .retry) ∧
    (let s := (linkIn .plugged).modVeh 7 fun x => { x with fallback := true }
  (s.vehAt 7).fallback = true ∧ (s.vehAt 7).link = .plugged) ∧
    (let s := (linkIn .plugged).modCfg fun c => { c with port := upd c.port 7 fun x => { x with connType := 2 } }
  s.isT1s 7 = true ∧ (s.vehAt 7).link = .plugged) ∧
    (((linkIn .linked).vehAt 7).link = .linked) ∧
    (let s := (linkIn .linked).modVeh 7 fun x => { x with sdp := true, tls := true }
  (s.vehAt 7).sdp = true ∧ (s.portCfg 7).priorityList.find? (fun k => [3].contains k && permits (s.portCfg 7).connType k &&
    tlsFits k (s.vehAt 7).tls) = some 3) ∧
    (let p : Port := 7
  let s : State := linkIn .connected
  ((s.vehAt p).link = .connected)) ∧
    (((charging.modSes 7 fun x => { x with linkLost := true }).sesAt 7).linkLost = true) ∧
    (let p : Port := 7
  let s : State := linkIn .connected
  ((s.vehAt p).link ≠ .off)) ∧
    (let s := (linkIn .connected |>.modVeh 7 fun x => { x with protocol := 2 }).modCfg fun c => { c with
    port := upd c.port 7 fun x => { x with pnc := true }
    trust := upd c.trust 39 fun _ => some { kind := 1, der := [1], keySlot := 0 } }
  (s.portCfg 7).pnc = true ∧ s.rootEntry 7 [1] = some 39) ∧
    (let s := linkIn .connected |>.modVeh 7 fun x => { x with contract := { x.contract with checking := true } }
  (s.vehAt 7).contract.checking = true) ∧
    (let p : Port := 7
  let s : State := linkIn .connected
  ((s.vehAt p).link = .connected)) ∧
    (let p : Port := 7
  let s : State := up.modVeh 7 fun v => { v with cert := { v.cert with pending := true } }
  ((s.vehAt p).cert.pending = true) ∧ ((s.vehAt p).cert.late = false)) ∧
    (let p : Port := 7
  let s : State := linkIn .connected
  ((s.vehAt p).link = .connected) ∧ ((s.sesAt p).state ≠ .authorising)) ∧
    (let p : Port := 7
  let s : State := (linkIn .connected).modSes 7 fun x => { x with state := .authorising }
  ((s.vehAt p).link = .connected) ∧ ((s.sesAt p).state = .authorising)) ∧
    (let s := (linkIn .connected).modSes 7 fun x => { x with state := .preparing }
  (s.sesAt 7).state = .preparing ∧ (s.vehAt 7).link = .connected) ∧
    (let p : Port := 7
  let s : State := linkIn .connected
  ((s.vehAt p).link = .connected)) ∧
    (let s := charging.modVeh 7 fun x => { x with link := .connected }
  (s.sesAt 7).state = .charging ∧ (s.sesAt 7).ending = false) ∧
    (let p : Port := 7
  let s : State := (linkIn .connected).modSes 7 fun x => { x with state := .paused }
  ((s.vehAt p).link = .connected) ∧ ((s.sesAt p).state = .paused)) ∧
    (let p : Port := 7
  let s : State := (linkIn .basic).modVeh 7 fun v => { v with cp := { v.cp with state := .b } }
  ((s.vehAt p).link = .basic) ∧ ((s.vehAt p).cp.state = .b)) ∧
    (let p : Port := 7
  let s : State := linkIn .connected
  ((s.vehAt p).link = .connected)) ∧
    (up.canRead .pcie 0 = true ∧ (up.violKind .pcie 0 0x04F4 false false) = none) :=
  by
  iterate 30 refine ⟨by decide, ?_⟩
  decide

/-- States and operands that meet the hypotheses of `Obligations.SessionRowsComplete`, clause by clause. -/
theorem test_session_rows_complete_hypotheses :
    (let s := (sesIn .authorising).modSes 7 fun x => { x with openReq := true, asked := some { source := 1, billed := true } }
  (s.sesAt 7).openReq = true ∧ (s.sesAt 7).asked = some { source := 1, billed := true } ∧ s.legalRun = true) ∧
    (((sesIn .authorising).sesAt 7).state = .authorising ∧ ((sesIn .authorising).sesAt 7).openReq = false) ∧
    ((((sesIn .plugged).modSes 7 fun x => { x with preauth := some ({ source := 1, billed := true }, 3) }).sesAt 7).preauth =
  some ({ source := 1, billed := true }, 3)) ∧
    (let s := (sesIn .preparing).modSes 7 fun x => { x with prep := .precharge }
  (s.sesAt 7).state = .preparing ∧ (s.sesAt 7).prep = .precharge) ∧
    (((sesIn .rampdown).sesAt 7).state = .rampdown) ∧
    (((sesIn .paused).sesAt 7).state = .paused) ∧
    (let s := ready.modSaf fun x => { x with tables := upd x.tables 0 fun t => { t with ports := upd t.ports 7 fun y => { y with enable := true, connType := 1, imdTrip := 100 } } }
  s.needsTest 7 2 = true ∧ (s.spAt 7).deferred = [] ∧ s.testAllowed 7 2 = true) ∧
    (let p : Port := 7
  let code : Nat := 2
  let s : State := due
  (s.needsTest p code = true) ∧ ((s.spAt p).deferred = []) ∧ (s.testAllowed p code = false)) ∧
    (up.avail 7 ≠ ((up.modSes 7 fun x => { x with availShown := 0 }).sesAt 7).availShown) ∧
    (let s := (sesIn .sealing).modSes 7 fun x => { x with sesOpen := true }
  (s.sesAt 7).state = .sealing ∧ (s.bilAt 7).ses = none) ∧
    (((charging.modNrg 7 fun x => { x with stopped := true }).nrgAt 7).stopped = true) ∧
    (let s := charging.modBil 7 fun x => { x with ses := some { openRec with out := true } }
  (s.bilAt 7).ses = some { openRec with out := true }) ∧
    (let p : Port := 7
  let s : State := ready
  ((s.bilAt p).ses = none) ∧ ((s.sesAt p).state ≠ .rampdown) ∧ (s.isAc p = false)) ∧
    (let s := sesIn .rampdown
  (s.bilAt 7).ses = none ∧ s.isAc 7 = false ∧ (s.metAt 7).regI.natAbs ≤ (s.sesAt 7).iEnd) ∧
    (let s := ready.modChn fun c => { c with mirLegal := 1 }
  (if s.legalVoid then 2 else if s.legalRun then 1 else 0) + 4 * s.rind.sealCount = s.chn.mirLegal) ∧
    (ready.legalVoid = false ∧ ready.legalRun = true ∧ ready.rind.sealCount = 0 ∧ ready.chn.mirLegal = 0) ∧
    (let s := ready.modChn fun c => { c with mirSite := 1 }
  s.saf.state = .run ∧ s.chn.mirSite = 1) ∧
    (let s : State := ready.modSaf fun x => { x with state := .safeHalt }
  (s.saf.state = .safeHalt)) ∧
    (let s : State := ready.modSaf fun x => { x with state := .degraded }
  (s.saf.state = .degraded)) ∧
    (let s := (sesIn .closing).modSp 7 fun x => { x with state := .closed }
  (s.sesAt 7).state = .closing ∧ (s.spAt 7).state = .closed) ∧
    (let s := sesIn .opening
  (s.sesAt 7).state = .opening ∧ (s.spAt 7).state ≠ .contactorFault ∧ s.openOk 7 = true) ∧
    ((charging.sesAt 7).state = .charging ∧ (charging.spAt 7).state ≠ .contactorFault ∧ (charging.spAt 7).state ≠ .closed) ∧
    (let p : Port := 7
  let s : State := safIn .closed
  (((s.sesAt p).state = .idle ∨ (s.sesAt p).state = .plugged ∨ (s.sesAt p).state = .ended)) ∧ ((s.spAt p).state = .closed)) ∧
    (member.chainOn = true ∧ member.cfg.chain.adviceOut = true) ∧
    (charging.chainOn = false ∧ (charging.sesAt 7).state ≠ .preparing) ∧
    (let p : Port := 7
  let s : State := (sesIn .preparing).modSes 7 fun x => { x with insAsked := true }
  (s.chainOn = false) ∧ ((s.sesAt p).state = .preparing) ∧ ((s.sesAt p).insAsked = true)) ∧
    (let s := ((sesIn .preparing).modSes 7 fun x => { x with insAsked := true }).modSp 7 fun x => { x with preFail := true }
  (s.sesAt 7).insAsked = true ∧ (s.spAt 7).pre = none ∧ (s.spAt 7).preFail = true) ∧
    (let p : Port := 7
  let s : State := ready
  ((s.spAt p).preFail = false)) ∧
    (let s := sesIn .closing
  (s.sesAt 7).state = .closing ∧ (s.sesAt 7).ending = false) ∧
    (up.canRead .pcie 0 = true ∧ (up.violKind .pcie 0 0x05EC false false) = none) :=
  by
  iterate 29 refine ⟨by decide, ?_⟩
  decide

/-- States and operands that meet the hypotheses of `Obligations.MetrologyRowsComplete`, clause by clause. -/
theorem test_metrology_rows_complete_hypotheses :
    (up.legalVoid = false) ∧
    ((req 3 0x2001 [7, 0x30]).pathAt 3 0 = some 6) ∧
    ((req 3 0x2001 [7, 0x132]).pathAt 3 0 = some 23) ∧
    (let r : Req := req 0 0x2012 [7, 1]
  let i : Fin 24 := 8
  let s : State := up
  let m := s.metAt r.port
  let v := ix m.path i
  s.legalVoid = false ∧ (r.pathAt 3 0 = some i) ∧ (8 ≤ i.1)) ∧
    ((req 3 0x2003 [7, 2]).fld 3 1 0 = (2 : Fin 3).1) ∧
    (let r : Req := req 0 0x2080 [7]
  let i : Fin 24 := 0
  let s : State := up
  let m := s.metAt r.port
  let c := ix m.coef i
  s.legalVoid = false ∧ (r.pathAt 3 0 = some i) ∧ (r.bit 3 12 = false)) ∧
    (let s := (sesIn .off).modRind fun r => { r with lifecycle := 3 }
  s.legalVoid = false ∧ s.inService = true ∧ (s.sesAt 7).state = .off ∧ (s.metAt 7).pendSet = none) ∧
    (let s := up.modMet 7 fun m => { m with pendSet := some m.coef }
  let r := req 3 0x2082 [7, 0x30, 5, 0x10000, 0x7FFF]
  (s.metAt r.port).pendSet = some (s.metAt 7).coef ∧ r.pathAt 3 0 = some 6 ∧ r.fld 6 15 0 ≠ 0x8000) ∧
    (let s := up.modMet 7 fun m => { m with pendSet := some m.coef }
  let r := req 3 0x2083 [7, 0x1320001, 0, 0, 600]
  (s.metAt r.port).pendSet.isSome = true ∧ (s.metAt r.port).meas = none ∧ r.fld 3 1 0 = 1 ∧
  r.fld 3 9 8 < 3 ∧ s.elementOk r.port (r.fld 3 13 12) = true ∧ r.pathAt 3 16 = some 23 ∧ r.fld 6 11 0 = 600) ∧
    (let s := up.modMet 7 fun m => { m with pendSet := some m.coef, calOvl := Vector.replicate 8 (some 200) }
  (s.metAt 7).pendSet.isSome = true ∧ (s.metAt 7).capture = none ∧ s.calFail 7 = none) ∧
    (let r : Req := req 0 0x2082 [7]
  let s : State := up.modMet 7 fun m => { m with pendSet := some m.coef }
  (s.legalVoid = false) ∧ ((s.metAt r.port).pendSet.isSome = true)) ∧
    (let s := (ready.modMet 7 fun m => { m with ended := some {} }).modLegal fun l => { l with proc := 51201 }
  (s.metAt 7).ended = some {} ∧ 0 + 1 = (s.legal.proc - 1) / 51200) ∧
    (let p : Port := 7
  let path : Fin 24 := 23
  let s : State := up.modMet 7 fun m => { m with path := upd m.path 23 fun v => { v with state := .suspended } }
  ((ix (s.metAt p).path path).state = .suspended)) ∧
    (100000 < (100001 : Int).natAbs ∧ ready.legal.clkBad = 0) ∧
    (let dev : Int := -100001
  let s : State := up.modLegal fun l => { l with clkBad := 1 }
  (100000 < dev.natAbs) ∧ (1 ≤ s.legal.clkBad) ∧ (s.legal.clkFault = false)) ∧
    (let dev : Int := -50000
  let s : State := up
  (dev.natAbs ≤ 50000)) ∧
    (let c : CalMeas := { req := req 3 0x2083 [7], mode := 1, pi := 0, force := 0, element := 0, path := 8, pulses := 0, const := 0, seconds := 1, n := 1 }
  let s := up.modMet 7 fun m => { m with meas := some c }
  (s.metAt 7).meas = some c ∧ c.n ≠ 0) ∧
    (let c : CalMeas := { req := req 3 0x2083 [7], mode := 2, pi := 0, force := 0, element := 0, path := 8, pulses := 0, const := 0, seconds := 1, n := 1, xx := 1 }
  let s := up.modMet 7 fun m => { m with meas := some c }
  (s.metAt 7).meas = some c ∧ 0 < c.xx) ∧
    (let p : Port := 7
  let c : CalMeas := meas0
  let s : State := up.modMet 7 fun m => { m with meas := some meas0 }
  ((s.metAt p).meas = some c) ∧ (c.mode = 0)) ∧
    (let s := (up.modCfg fun c => { c with port := upd c.port 7 fun x => { x with connType := 1 } }).modMet 7 fun m => { m with
    capture := some (req 3 0x2084 [7], 16), pendSet := some m.coef, path := Vector.replicate 24 { ratios := List.replicate 16 1 } }
  (s.metAt 7).capture = some (req 3 0x2084 [7], 16) ∧ (s.metAt 7).pendSet = some (s.metAt 7).coef ∧
  ∀ i, s.usedPath 7 i = true → 16 ≤ (ix (s.metAt 7).path i).ratios.length) ∧
    (let p : Port := 7
  let q : Req := req 3 0x2081 [7]
  let n : Nat := 1
  let s : State := up.modMet 7 fun m => { m with capture := some (req 3 0x2081 [7], 1) }
  ((s.metAt p).capture = some (q, n))) :=
  by
  iterate 20 refine ⟨by decide, ?_⟩
  decide

/-- States and operands that meet the hypotheses of `Obligations.SensorLinkRowsComplete`, clause by clause. -/
theorem test_sensor_link_rows_complete_hypotheses :
    (ready.legalClock = true) ∧
    (let s := (up.modSl 23 fun x => { x with state := .run, frame := 255 }).modLegal fun x => { x with idx := 258 }
  (decodeUp .comma (upSyms 255 0) (upCrc 255 0)).map (fun u => (u.idx, u.status)) = some ((s.slAt 23).frame % 256, 0) ∧
    (s.slAt 23).frame < s.legal.idx ∧ s.legal.idx ≤ (s.slAt 23).frame + 3) ∧
    (let s := (up.modSl 23 fun x => { x with state := .training, frame := 255 }).modLegal fun x => { x with idx := 258 }
  (decodeUp .comma (upSyms 0 0x20) (upCrc 0 0x20)).bind (fun u => (s.slAt 23).names s.legal.idx u.idx) = some 256) ∧
    (let l : SLink := 23
  let s : State := (up.modLegal fun x => { x with idx := 3 }).modSl 23 fun y => { y with state := .run }
  ((s.slAt l).state = .run) ∧ ((s.slAt l).frame < s.legal.idx) ∧ (s.legal.idx ≤ (s.slAt l).frame + 3) ∧ decodeUp .bad [] [] = none) ∧
    (let l : SLink := 23
  let s : State := (up.modLegal fun x => { x with idx := 4 }).modSl 23 fun y => { y with state := .run }
  ((s.slAt l).state = .run) ∧ ((s.slAt l).frame + 4 ≤ s.legal.idx)) ∧
    (let s := up.modSl 23 fun x => { x with state := .run, bad := 8 }
  (s.slAt 23).state = .run ∧ 8 ≤ (s.slAt 23).bad) ∧
    (let l : SLink := 23
  let s : State := up.modSl 23 fun y => { y with state := .training, good := 64 }
  ((s.slAt l).state = .training) ∧ (64 ≤ (s.slAt l).good)) ∧
    (let l : SLink := 23
  let s : State := up.modSl 23 fun y => { y with state := .stalled, good := 64 }
  ((s.slAt l).state = .stalled) ∧ (64 ≤ (s.slAt l).good) ∧ ((s.slAt l).reread = false)) ∧
    (let l : SLink := 23
  let s : State := up.modSl 23 fun y => { y with state := .training, good := 63 }
  ((s.slAt l).state = .training) ∧ ((s.slAt l).good < 64)) ∧
    (let l : SLink := 23
  let s : State := up.modSl 23 fun y => { y with state := .stalled }
  ((s.slAt l).state = .stalled)) ∧
    (let s := up.modSl 23 fun x => { x with state := .ident, buf := { id := 0x1000 } }
  (s.slAt 23).state = .ident ∧ (s.slAt 23).want = [] ∧ headTypeOk 23 (s.slAt 23).buf = false ∧ headTypeOk 23 { id := 0x2000 } = true) ∧
    (let s := up.modSl 23 fun x => { x with state := .ident, buf := goodHead }
  (s.slAt 23).state = .ident ∧ (s.slAt 23).want = [] ∧ headTypeOk 23 (s.slAt 23).buf = true) ∧
    (let s := up.modSl 23 fun x => { x with state := .stalled, reread := true, buf := goodHead }
  (s.slAt 23).state = .stalled ∧ (s.slAt 23).reread = true ∧ (s.slAt 23).want = [] ∧ headTypeOk 23 (s.slAt 23).buf = true) ∧
    (let s : State := up.modSl 23 fun y => { y with state := .run }
  (s.slAt 23).state = .run ∧ [14, 13, 0, 1, 2, 3, 4, 5, 6, 7, 8].isPerm [0, 1, 2, 3, 4, 5, 6, 7, 8, 13, 14] = true) ∧
    (up.canRead .pcie 0 = true ∧ (up.violKind .pcie 0 0x08FC false false) = none) :=
  by
  refine ⟨by decide, ?_⟩
  iterate 2 refine ⟨by intro s; rw [upSyms, upCrc, decodeUp_frame _ (length_upBody _ _)]; decide, ?_⟩
  iterate 11 refine ⟨by decide, ?_⟩
  decide

/-- States and operands that meet the hypotheses of `Obligations.EnergyRowsComplete`, clause by clause. -/
theorem test_energy_rows_complete_hypotheses :
    (up.legalVoid = false) ∧
    ((req 3 0x2101 [7, 2]).fld 3 1 0 ≠ 3) ∧
    (let r : Req := req 0 0x2100 [7]
  let s : State := up
  let x := s.nrgAt r.port
  let a := fldInt 96 x.aLatch
  let q := fldInt 64 x.pAcc
  s.legalVoid = false) ∧
    (let s := charging.modCfg fun c => { c with pulse := upd c.pulse 1 fun x => { x with role := 3, port := 7 } }
  (s.sourceOf 7).isSome = true ∧ s.atBoundary 7 = false) ∧
    (let s := up.modCfg fun c => { c with pulse := upd c.pulse 1 fun x => { x with role := 3, port := 7 } }
  (s.sourceOf 7).isSome = true ∧ s.atBoundary 7 = true) ∧
    (let s := up.modCfg fun c => { c with pulse := upd c.pulse 1 fun x => { x with role := 2 } }
  (req 0 0x2185 [0, 1]).fld 3 0 0 = (1 : Fin 2).1 ∧ (ix s.cfg.pulse 1).role = 2 ∧ (ix s.legal.pi 1).cross = none) ∧
    (ready.legalRun = true ∧ (ready.nrgAt 7).winFrom = none) ∧
    (let s := charging.modNrg 7 fun x => { x with winFrom := some 0 }
  (s.nrgAt 7).winFrom.isSome = true ∧ (s.nrgAt 7).winEnd = none ∧ s.serviceDown = false ∧ s.legalClock = true ∧ (s.sesAt 7).rebuild = false) ∧
    (let s := ready.modNrg 7 fun x => { x with due := [{ idx := 1024 }] }
  (s.nrgAt 7).due = [{ idx := 1024 }]) ∧
    (let s := (ready.modCfg fun c => { c with port := upd c.port 7 fun x => { x with connType := 0 } }).modLegal fun l => { l with proc := 1280 }
  s.isAc 7 = true ∧ (s.nrgAt 7).cycStart + 1280 ≤ s.legal.proc ∧ (s.nrgAt 7).inWindow 1280 = false) ∧
    (let s := ready.modLegal fun l => { l with proc := 1024 }
  s.isAc 7 = false ∧ s.siteRef = none ∧ (s.nrgAt 7).tickStart + 1024 ≤ s.legal.proc) ∧
    (let n : Nat := 9
  let p : Port := 7
  let s : State := ready.modNrg 7 fun x => { x with stopDue := some 9 }
  (s.legalRun = true) ∧ ((s.nrgAt p).stopDue = some n)) ∧
    (let s := ready.modLegal fun l => { l with idx := 1 }
  s.legalRun = true ∧ s.legalClock = true ∧ s.legal.proc < s.legal.idx ∧ s.siteRef = none ∧ s.samplesHeld s.legal.proc = true) ∧
    (let s := (((ready.modLegal fun l => { l with idx := 1 }).modCfg fun c => { c with met := upd c.met 7 fun _ => some { ratedI := 1, phases := 1 }, supply := { c.supply with siteRef := 7 } }).modSl (linkOf 7 0) fun y => { y with
    state := .run, frame := 1 }).modMet 7 fun m => { m with bound := Vector.replicate 3 (some 0) }
  s.legalRun = true ∧ s.legalClock = true ∧ s.legal.proc < s.legal.idx ∧ s.siteRef = some 7 ∧ s.samplesHeld s.legal.proc = true) ∧
    (let s := ready.modNrg 7 fun x => { x with pend := 1 }
  0 < (s.nrgAt 7).pend ∧ (s.nrgAt 7).lastEdge = none ∧ (s.nrgAt 7).ps = false) ∧
    (let s : State := ready.modInput 1 fun i => { i with level := true }
  s.legalRun = true ∧ (ix s.legal.pi 1).level = true) ∧
    (let k : Fin 2 := 1
  let s : State := ready
  (s.legalRun = true) ∧ ((ix s.legal.pi k).level = false) ∧ ((ix s.cfg.pulse k).role ≠ 2) ∧ ((ix s.cfg.pulse k).role ≠ 3)) ∧
    (let k : Fin 2 := 1
  let c : Cross := cross1
  let s : State := ready.modInput 1 fun i => { i with cross := some cross1 }
  ((ix s.legal.pi k).cross = some c)) ∧
    ((up.modCfg fun c => { c with supply := { c.supply with pfwEn := true } }).cfg.supply.pfwEn = true) ∧
    (let s : State := ready
  (s.cfg.supply.pfwEn = false)) ∧
    ((ready.modLegal fun l => { l with supply := { l.supply with saving := true } }).legal.supply.saving = true) ∧
    (let s := (up.modCfg fun c => { c with supply := { c.supply with pfwEn := true } }).modLegal fun l => { l with supply := { l.supply with pfw := true } }
  s.cfg.supply.pfwEn = true ∧ s.legal.supply.pfw = true ∧ s.legal.supply.tripped = false ∧ s.legal.supply.stuck = false) ∧
    (up.canRead .pcie 0 = true ∧ (up.violKind .pcie 0 0x0AFC false false) = none) :=
  by
  iterate 22 refine ⟨by decide, ?_⟩
  decide

/-- States and operands that meet the hypotheses of `Obligations.BillingRowsComplete`, clause by clause. -/
theorem test_billing_rows_complete_hypotheses :
    (up.legalVoid = false) ∧
    (let j : JRec := { type := 6, len := 1, src := 7, key := 1, data := [0x61] }
  let s := up.modJnl fun x => { x with legal := { x.legal with recs := [j] } }
  let r := req 3 0x2202 [7, 1, 0]
  r.word 3 ≠ 0 ∧ s.jnl.legal.recs.find? (fun j => j.type == 6 && j.src == r.port.1 && j.key == (r.word 3).toNat) = some j) ∧
    (charging.legalVoid = false ∧ charging.sesIsOpen 7 = true ∧ (charging.bilAt 7).pend = none) ∧
    (let r : Req := req 0 0x2281 [7]
  let q : Req := req 3 0x2281 [7]
  let n : Nat := 5
  let b : Bool := true
  let s : State := charging.modBil 7 fun b => { b with pend := some (req 3 0x2281 [7], 5, true) }
  (s.legalVoid = false) ∧ (s.sesIsOpen r.port = true) ∧ ((s.bilAt r.port).pend = some (q, n, b))) ∧
    (let r : Req := req 0 0x2283 [1]
  let s : State := ready
  (r.guest = 0) ∧ (s.legalVoid = false)) ∧
    (let s := serviced
  (s.rightsOf (req 3 0x2202 [])).audit = true ∧ s.legalVoid = false ∧ s.inService = true) ∧
    (let r : Req := ringOf { guest := 3, words := [0x22860801, 0, 7] } 152
  let s := ringOn serviced 3
  let q := s.withRing r (r.fld 3 2 0)
  (s.rightsOf r).audit = true ∧ s.legalVoid = false ∧ s.inService = true ∧ (∀ p, (s.metAt p).pendSet = none) ∧ q.ringOk = true ∧
  152 ≤ q.ringIn.length) ∧
    (let s := charging.modBil 7 fun x => { x with ses := some { openRec with sealDue := true } }
  (s.bilAt 7).ses = some { openRec with sealDue := true } ∧ s.legalRun = true ∧ (s.nrgAt 7).winFrom = none) ∧
    (up.rind.loopOpen = false ∧ up.rind.loopRun = 0) ∧
    (let s := up.modRind fun r => { r with loopRun := 1 }
  s.rind.lifecycle = 2 ∧ s.rind.loopRun ≠ 0) ∧
    (let x : LoopRead := { ohm := 999, gnd := 100000 }
  let s : State := serviced.modRind fun r => { r with loopOpen := true, loopRun := 1 }
  (s.rind.loopOpen = true) ∧ (x.ohm < 1000) ∧ (100000 ≤ x.gnd) ∧ (s.rind.loopRun ≠ 0) ∧ (s.rind.lifecycle = 3)) ∧
    (ready.legal.state ≠ .starting ∧ ready.cfg.opt.enable = true ∧ ready.legal.opt.state = 0) ∧
    (let s : State := ready
  (s.legal.state ≠ .starting)) ∧
    ((ready.modOpt fun o => { o with state := 1 }).legal.opt.state = 1) ∧
    (let z : Nat := 0
  let s : State := ready.modOpt fun o => { o with state := 2 }
  (s.legal.opt.state = 2) ∧ (z ≤ s.cfg.opt.maxBaud)) ∧
    (let z : Nat := 0
  let opt : Nat := 1
  let s : State := ready.modOpt fun o => { o with state := 2 }
  (s.legal.opt.state = 2) ∧ ((opt ≠ 0 ∨ s.cfg.opt.maxBaud < z))) ∧
    (let s : State := ready.modOpt fun o => { o with state := 2 }
  (s.legal.opt.state = 2)) ∧
    (let s : State := ready.modOpt fun o => { o with state := 3 }
  (s.legal.opt.state = 3)) ∧
    (let s : State := ready.modOpt fun o => { o with state := 4 }
  (s.legal.opt.state = 4)) ∧
    (up.canRead .pcie 0 = true ∧ (up.violKind .pcie 0 0x0CFC false false) = none) ∧
    (up.canRead .pcie 0 = true ∧ (up.violKind .pcie 0 0x0D20 false false) = none) :=
  by
  iterate 6 refine ⟨by decide, ?_⟩
  refine ⟨by set_option maxRecDepth 4000 in decide, ?_⟩
  iterate 13 refine ⟨by decide, ?_⟩
  decide

/-- States and operands that meet the hypotheses of `Obligations.QualityRowsComplete`, clause by clause. -/
theorem test_quality_rows_complete_hypotheses :
    (let r : Req := req 0 0x2380 [7]
  let s : State := up
  (s.legalVoid = false)) ∧
    ((req 3 0x2302 [7, 0x4000]).fld 3 14 8 = 64) ∧
    (let j : JRec := { type := 7, len := 1, src := 7, key := 1, data := [0x61] }
  let s := up.modJnl fun x => { x with legal := { x.legal with recs := [j] } }
  ((s.jnl.legal.recs.reverse.filter fun j => j.type == 7 && j.src == 7).take 16)[(req 3 0x2303 [7]).fld 3 3 0]? = some j) ∧
    (let src : Option Port := some 7
  let ch : Fin 3 := 2
  let r : PqRef := (ix acMetered.cfg.pq 7).acRef
  let channels : Nat := 3
  let s : State := acMetered.modDet (some 7) fun x => { x with ch := upd x.ch 2 fun y => { y with refresh := some 0 } }
  (s.acDetector src = some (r, channels)) ∧ (s.legalRun = true) ∧ (ch.1 < channels) ∧ (ix (s.detOf src).ch ch).refresh = some 0 ∧
      0 + 640 ≤ s.legal.proc ∧ ((s.detOf src).hist.length < 1280)) ∧
    (let s : State := acMetered.modDet (some 7) fun x => { x with
    hist := List.replicate 1280 (Vector.replicate 3 (some 0)), ch := upd x.ch 2 fun y => { y with refresh := some 0 } }
  s.acDetector (some 7) = some ((ix acMetered.cfg.pq 7).acRef, 3) ∧ s.legalRun = true ∧ (ix (s.detOf (some 7)).ch 2).refresh = some 0 ∧
    0 + 640 ≤ s.legal.proc ∧ 1280 ≤ (s.detOf (some 7)).hist.length ∧ (rmsOver (s.detOf (some 7)).hist 2 1280).isSome = true) ∧
    (let s := ready.modPq 7 fun q => q.setPersist 2 { bad := 51201 }
  ((s.pqAt 7).persist 2).active = false ∧ 51200 < ((s.pqAt 7).persist 2).bad) ∧
    (let p : Port := 7
  let s : State := ready.modPq 7 fun q => { q with bypass := { q.bypass with active := true, good := 5120 } }
  let c := (s.pqAt p).bypass
  s.legalRun = true ∧ (c.active = true) ∧ (5120 ≤ c.good)) ∧
    (up.canRead .pcie 0 = true ∧ (up.violKind .pcie 0 0x0EFC false false) = none) ∧
    (up.canRead .pcie 0 = true ∧ (up.violKind .pcie 0 0x0F0C false false) = none) :=
  by
  iterate 4 refine ⟨by decide, ?_⟩
  refine ⟨by intro s; have e : (s.detOf (some 7)).hist = List.replicate 1280 (Vector.replicate 3 (some 0)) := rfl; rw [e]; refine ⟨rfl, rfl, rfl, by show 0 + 640 ≤ acMetered.legal.proc; decide, (List.length_replicate ..).ge, ?_⟩; exact (show ∀ n : Nat, 0 < n → (rmsOver (List.replicate n (Vector.replicate 3 (some 0))) 2 n).isSome = true by intro n h; simp [rmsOver, ix, Nat.pos_iff_ne_zero.mp h]) 1280 (by decide), ?_⟩
  iterate 3 refine ⟨by decide, ?_⟩
  decide

/-- States and operands that meet the hypotheses of `Obligations.SafetyCommandsComplete`, clause by clause. -/
theorem test_safety_commands_complete_hypotheses :
    (1 ≤ (req 0 0x3002 [0, 0x0A00]).fld 3 16 8 ∧ (req 0 0x3002 [0, 0x0A00]).fld 3 16 8 ≤ 256) ∧
    (let s := (up.modSaf fun x => { x with state := .run, tables := vmap (fun y => { y with remoteReset := true }) x.tables }).modSp 7 fun x => { x with
    causes := 2 }
  let r := req 0 0x3080 [7]
  r.portOpt = some 7 ∧ r.namesPort = true ∧ s.saf.state ≠ .init ∧ s.table.remoteReset = true ∧ (s.spAt 7).causes ≠ 0) ∧
    (let r : Req := req 0 0x3081 [0xFF]
  let s : State := ready.modSaf fun x => { x with state := .safeStop }
  (r.fromSystem = true) ∧ (s.saf.state ≠ .init) ∧ (s.restartOk r.portOpt = true)) ∧
    (let r := req 0 0x3082 [0]
  r.fromSystem = true ∧ (up.modSaf fun x => { x with state := .run }).saf.state ≠ .init ∧ r.fld 3 7 0 &&& up.requestable = r.fld 3 7 0) ∧
    (let r : Req := req 0 0x3003 [7]
  let s : State := testable
  (s.groupOf r.port = none)) ∧
    (let s := testable
  let r := req 0 0x3181 [7]
  s.saf.state = .run ∧ s.needsTest r.port 2 = true ∧ s.testRunning r.port ≠ 2 ∧ (∀ d ∈ (s.spAt r.port).deferred, d.1 ≠ 2) ∧ s.testAllowed r.port 2 = true) ∧
    (let s := testing { code := 3 }
  let r := req 0 0x3181 [7]
  s.saf.state = .run ∧ s.needsTest r.port 2 = true ∧ s.testRunning r.port ≠ 2 ∧ (∀ d ∈ (s.spAt r.port).deferred, d.1 ≠ 2) ∧ s.testAllowed r.port 2 = false) ∧
    (let r := req 0 0x3284 [7]
  testable1.saf.state ≠ .init ∧ testable1.brakeOf r.port = some 0 ∧ (((testable1.askSafety 6 r.port.1 [w32 0]).heartbeat).requestRelease 0 none).2 = Code.accepted) ∧
    (let s := testable.modBrk 0 fun y => { y with passSince := true }
  let r := req 0 0x3284 [7]
  s.saf.state ≠ .init ∧ s.brakeOf r.port = some 0 ∧ (((s.askSafety 6 r.port.1 [w32 0]).heartbeat).requestRelease 0 none).2 = Code.done) ∧
    (testable.saf.state ≠ .init ∧ testable.brakeOf (req 0 0x3285 [7]).port = some 0) ∧
    (up.canRead .pcie 0 = true ∧ (up.violKind .pcie 0 0x02BC false false) = none) ∧
    (up.canRead .pcie 0 = true ∧ (up.violKind .pcie 0 0x021C false false) = none) :=
  by
  iterate 11 refine ⟨by decide, ?_⟩
  decide

/-- States and operands that meet the hypotheses of `Obligations.SafetyInputRowsComplete`, clause by clause. -/
theorem test_safety_input_rows_complete_hypotheses :
    (let k : Fin 16 := 15
  let level : Bool := false
  let s : State := up
  ((ix s.saf.inputs k).level = level)) ∧
    (let s := testable.modSaf fun x => { x with wires := true }
  (ix s.saf.inputs 0).level ≠ true ∧ s.saf.wires = true) ∧
    (let s := testable.modSaf fun x => { x with inputs := upd x.inputs 0 fun i => { i with level := true } }
  s.partner 0 = some 1 ∧ (ix s.saf.inputs 0).level ≠ (ix s.saf.inputs 1).level) ∧
    (let s := up.modSaf fun x => { x with tables := vmap (fun y => { y with inputs := upd y.inputs 0 fun r => { r with type := 1, testSrc := 3 } }) x.tables }
  (s.inRec 0).type = 1 ∧ 8 % 256 = 2 ^ (s.inRec 0).testSrc) ∧
    (let s := up.modSaf fun x => { x with tables := vmap (fun y => { y with inputs := upd y.inputs 0 fun r => { r with type := 1, testSrc := 3 } }) x.tables }
  (s.inRec 0).type = 1 ∧ 12 % 256 ≠ 2 ^ (s.inRec 0).testSrc) ∧
    ((up.modSaf fun x => { x with question := some 0 }).saf.question ≠ none) ∧
    (100 < 174 ∧ 100 < 169 ∧ 100 < 209) ∧
    (174 < 175 ∧ 175 ≤ 255) :=
  by
  iterate 7 refine ⟨by decide, ?_⟩
  decide

/-- States and operands that meet the hypotheses of `Obligations.SafetyCycleComplete`, clause by clause. -/
theorem test_safety_cycle_complete_hypotheses :
    (let c : CycleSense := { goodCycle with flow := false }
  let s : State := cycling none
  (s.sys.power ≠ .dormant) ∧ (s.saf.wires = true) ∧ (c.flow = false)) ∧
    (let c : CycleSense := goodCycle
  let s : State := cycling none
  (s.sys.power ≠ .dormant) ∧ (s.saf.wires = true) ∧ (c.flow = true) ∧ (s.saf.question = none)) ∧
    (let c : CycleSense := goodCycle
  let t : Nat := 0
  let s : State := (cycling (some 0)).modTime fun t => { t with safetyUs := 900 }
  (s.sys.power ≠ .dormant) ∧ (s.saf.wires = true) ∧ (c.flow = true) ∧ (s.saf.question = some t) ∧ (c.answer = true) ∧ (400 ≤ s.time.safetyUs - t) ∧ (s.time.safetyUs - t ≤ 900)) ∧
    (((safIn .closing).spAt 7).state = .closing) ∧
    (let s := (safIn .opening).modSp 7 fun x => { x with confirmed := false }
  (s.spAt 7).coil = false ∧ (s.spAt 7).confirmed = false ∧ (s.spAt 7).state ≠ .contactorFault) ∧
    (((safIn .closed).spAt 7).state = .closed) ∧
    (let s := up.modSp 7 fun x => { x with coils := #v[true, false] }
  (s.spAt 7).coil = true ∧ (s.spAt 7).test = none) ∧
    (let t : PortTest := { code := 3 }
  let s := up.modSp 7 fun x => { x with coils := #v[true, false], test := some t }
  (s.spAt 7).coil = true ∧ (s.spAt 7).test = some t ∧ t.code = 3) ∧
    (((up.modSp 7 fun x => { x with window := some none }).spAt 7).window ≠ none) ∧
    (let s : State := up.modSaf fun x => { x with state := .init, fails := Vector.replicate 2 none }
  s.saf.state = .init ∧ s.tableFails = none) ∧
    (let s : State := up.modSaf fun x => { x with state := .init }
  (s.saf.state = .init)) ∧
    (let s : State := up.modSaf fun x => { x with state := .init }
  s.saf.state = .init ∧ s.tableFails = some 0) ∧
    (let s : State := up.modSaf fun x => { x with state := .init, fails := Vector.replicate 2 none }
  s.saf.state = .init ∧ s.tableFails = none) ∧
    (up.saf.state = .init) ∧
    (let p : Port := 7
  let s : State := permitting
  (s.heartbeat.permit p = true)) ∧
    (let p : Port := 7
  let s : State := testable
  (s.heartbeat.permit p = false)) ∧
    (testable.heartbeat.table.remoteReset = true) ∧
    (testable.heartbeat.restartOk (some 7) = true) ∧
    (let r : Restart := { port := some 7, cmd := none }
  let p : Port := 7
  let s : State := ready.modSaf fun x => { x with restart := some { port := some 7, cmd := none } }
  (s.saf.restart = some r) ∧ (r.port = some p)) ∧
    ((up.modSaf fun x => { x with restart := some { port := none, cmd := none } }).saf.restart = some { port := none, cmd := none }) :=
  by
  iterate 19 refine ⟨by decide, ?_⟩
  decide

/-- States and operands that meet the hypotheses of `Obligations.EarthFaultRowsComplete`, clause by clause. -/
theorem test_earth_fault_rows_complete_hypotheses :
    (let s := up.modSp 7 fun y => { y with peOk := false, peRun := 2 }
  cpClass 900 = .b ∧ (s.spAt 7).peOk = false ∧ (s.spAt 7).peRun = 2) ∧
    (cpClass 1200 = .a ∧ (up.spAt 7).peOk = false) ∧
    (let s := (safIn .closed).modSp 7 fun y => { y with peOk := true, peRun := 2 }
  cpClass 0x7000 = .invalid ∧ (s.spAt 7).peOk = true ∧ (s.spAt 7).peRun = 2 ∧ (s.spAt 7).state = .closed) ∧
    (let s := testable.modSp 7 fun x => { x with contaminated := true, pass := true }
  s.injects 7 = true ∧ (s.spAt 7).contaminated = true ∧ (s.spAt 7).pre = none) ∧
    (let s := testable.modSp 7 fun x => { x with pass := true }
  s.injects 7 = true ∧ (s.spAt 7).contaminated = false ∧ s.groupOf 7 = none ∧
    (some 10000000 : Option Nat).filter (fun v => v ≤ 10000000) = some 10000000) ∧
    (10000000 < 12000000) ∧
    (let s := grouped
  ix s.saf.injector 0 = some 6 ∧ ((s.closedOf 0).find? fun k => (6 : Port) < k) = some 7) ∧
    (let s := ((safIn .closed).modSaf fun x => { x with
    tables := vmap (fun y => { y with ports := upd y.ports 7 fun r => { r with rcmMode := 1 } }) x.tables }).modSp 7 fun x => { x with
      sense := { x.sense with rcmDc := 30 } }
  s.residual 7 = true ∧ (s.spAt 7).state.active = true) ∧
    ((up.spAt 7).sense.rcmDc < 30 ∧ (up.spAt 7).sense.rcmAc < 150) ∧
    (let s := up.modSaf fun x => { x with tables := vmap (fun y => { y with ports := upd y.ports 7 fun r => { r with lockVerify := 2 } }) x.tables }
  (s.portRec 7).lockVerify ≠ 0 ∧ (s.spAt 7).sense.lockFb = ((s.portRec 7).lockVerify == 1)) ∧
    (let s := up.modSaf fun x => { x with tables := vmap (fun y => { y with ports := upd y.ports 7 fun r => { r with lockVerify := 1 } }) x.tables }
  (s.portRec 7).lockVerify ≠ 0 ∧ (s.spAt 7).sense.lockFb ≠ ((s.portRec 7).lockVerify == 1)) ∧
    (let s := testable.heartbeat
  (s.portRec 7).isDc = true ∧ s.saf.state = .run ∧ (s.spAt 7).state = .open_ ∧ s.openOk 7 = true ∧ s.testRunning 7 = 0) ∧
    (testable.heartbeat.needsTest 7 3 = true ∧ testable.heartbeat.testAllowed 7 3 = true) ∧
    (let p : Port := 7
  let kohm : Nat := 85
  let t : PortTest := { code := 2 }
  let s : State := testing { code := 2 }
  ((s.spAt p).test = some t) ∧ (t.code = 2) ∧ (85 ≤ kohm) ∧ (kohm ≤ 115)) ∧
    (((testing { code := 2 }).spAt 7).test = some { code := 2 } ∧ 85 ≤ 100 ∧ 100 ≤ 115) ∧
    (let p : Port := 7
  let t : PortTest := { code := 3 }
  let s : State := polar (testing { code := 3 })
  ((s.spAt p).test = some t) ∧ (t.code = 3) ∧ (t.weldPhase = .close) ∧ (s.mainClosed p t.weldK = false)) ∧
    (let p : Port := 7
  let t : PortTest := { code := 3, weldPhase := .open_ }
  let s : State := polar (testing { code := 3, weldPhase := .open_ })
  ((s.spAt p).test = some t) ∧ (t.code = 3) ∧ (t.weldPhase = .open_) ∧ (s.mainClosed p t.weldK = false) ∧ (s.mainClosed p (1 - t.weldK) = false) ∧ (t.weldK = 0)) ∧
    (let s := (testing { code := 3, weldK := 1, weldPhase := .open_ }).modSp 7 fun x => { x with sense := { x.sense with aux := #v[true, true] } }
  s.mainClosed 7 1 = false ∧ s.mainClosed 7 0 = false) ∧
    (((braking .settle).brkAt 0).phase = some .settle) ∧
    (let b : Fin 2 := 0
  let s : State := braking .torque
  ((s.brkAt b).phase = some .torque)) ∧
    (let b : Fin 2 := 0
  let s : State := braking .supervise
  ((s.brkAt b).phase = some .supervise)) ∧
    (let s := braking .release
  (s.brkAt 0).phase = some .release ∧ s.brakePort 0 = some 7 ∧ (s.brkAt 0).thenRelease = false) ∧
    (up.canRead .pcie 0 = true ∧ (up.violKind .pcie 0 0x03FC false false) = none) ∧
    (up.canRead .pcie 0 = true ∧ (up.violKind .pcie 0 0x02C8 false false) = none) :=
  by
  iterate 23 refine ⟨by decide, ?_⟩
  decide

/-- States and operands that meet the hypotheses of `Obligations.LoadSwitchRowsComplete`, clause by clause. -/
theorem test_load_switch_rows_complete_hypotheses :
    (let s := switched {}
  (s.lsCh 3).permitted = true ∧ (s.lsCfg 3).mode ≠ 0 ∧ s.ls.uv = false ∧ (s.lsCh 3).burst = false ∧ 0 < (s.lsCfg 3).retryMax) ∧
    (let s := switched { burst := true, windowOver := true }
  (s.lsCh 3).permitted = true ∧ (s.lsCfg 3).mode ≠ 0 ∧ s.ls.uv = false ∧ (s.lsCh 3).burst = true ∧ (s.lsCh 3).windowOver = true) ∧
    (let s := switched { burst := true, waiting := true }
  (s.lsCh 3).waiting = true ∧ (s.lsCh 3).commanded = true ∧ (s.lsCh 3).windowOver = false ∧ (s.lsCh 3).retries < (s.lsCfg 3).retryMax) ∧
    (let s := switched { burst := true, waiting := true, windowOver := true }
  (s.lsCh 3).waiting = true ∧ (s.lsCh 3).commanded = true ∧ (s.lsCh 3).windowOver = true) ∧
    (((switched { burst := true }).lsCh 3).burst = true ∧ ((switched { burst := true }).lsCh 3).waiting = false) ∧
    (((switched { burst := true }).lsCh 3).burst = true) ∧
    (let s := (switched {}).modCfg fun c => { c with ls := upd c.ls 3 fun k => { k with thermLatch := true } }
  (s.lsCfg 3).thermLatch = true) ∧
    (let s := switched {}
  (s.lsCfg 3).thermLatch = false ∧ (s.time.safetyUs :: (s.lsCh 3).trips.filter fun t => s.time.safetyUs < t + 60000000).length < 32) ∧
    (let s := switched { near := [(0, 40000)] }
  (if s.ls.shedding then 30000 else 32000) < s.loadNow ∧ s.shedNext = some 3) ∧
    ((switched {}).loadNow ≤ (if (switched {}).ls.shedding then 30000 else 32000)) ∧
    (up.lsOn 3 = false) ∧
    (let s := switched { olRun := 9 }
  s.ls.low = false ∧ s.ls.uv = false ∧ s.lsOn 3 = true ∧ (s.lsCfg 3).mode = 1 ∧ (s.lsCfg 3).olFine = false ∧ (s.lsCh 3).openLoad = false ∧
    (s.lsCh 3).olRun = 9) ∧
    (let s := up.modLs fun l => { l with pwm := upd l.pwm 3 fun x => { x with static := false } }
  (∀ c, (s.lsCfg c).mode ≠ 2) ∧ (ix s.ls.pwm 3).static = false) ∧
    ((req 3 0x4001 [0, 39]).fld 3 5 0 < 40) ∧
    (let s := switched {}
  let r := req 3 0x4080 [0, 8, 0, 8, 0]
  (∀ c, lsNamed r c = true → s.lsOwner r.guest c = true ∧ (s.lsCfg c).mode ≠ 0 ∧
    (lsValue r c = true → (s.lsCh c).overcurrent = false ∧ (s.lsCh c).thermal = false)) ∧
    s.nomSum (fun c => if lsNamed r c then lsValue r c else (s.lsCh c).commanded) ≤ 32000) ∧
    (let s := switched { overcurrent := true }
  let r := req 3 0x4081 [0, 8, 0]
  (∀ c, lsNamed r c = true → s.lsOwner r.guest c = true ∧ ((s.lsCh c).thermal = true → (s.lsCh c).hot = false)) ∧
    (∃ c, lsNamed r c = true ∧ ((s.lsCh c).overcurrent = true ∨ (s.lsCh c).thermal = true))) ∧
    (up.canRead .pcie 0 = true ∧ (up.violKind .pcie 0 0x0F3C false false) = none) :=
  by
  iterate 16 refine ⟨by decide, ?_⟩
  decide

/-- States and operands that meet the hypotheses of `Obligations.DriveSupplyRowsComplete`, clause by clause. -/
theorem test_drive_supply_rows_complete_hypotheses :
    (let s := up.modLk 7 fun x => { x with state := .lock }
  (s.lkAt 7).state.driving = true ∧ (s.lkAt 7).state = .lock) ∧
    (let s := (safIn .closed).modLk 7 fun x => { x with state := .unlock }
  (s.lkAt 7).state = .unlock ∧ s.unlockBlocked 7 = true) ∧
    (((up.modLk 7 fun x => { x with state := .braking, rest := true }).lkAt 7).rest = true) ∧
    (let s := up.modLk 7 fun x => { x with rest := true, want := some true }
  (s.lkAt 7).rest = true ∧ (s.lkAt 7).want = some true) ∧
    (let s := up.modLk 7 fun x => { x with state := .thermalWait }
  (s.lkAt 7).rest = false ∧ (s.lkAt 7).state = .thermalWait ∧ (s.lkAt 7).want = none) ∧
    (let s : State := up.modLs fun l => { l with uv := true }
  (s.ls.uv = true)) ∧
    (let s : State := up
  (s.ls.uv = false)) ∧
    ((up.modLs fun l => { l with restore := some 8 }).ls.restore = some 8) ∧
    ((up.modLs fun l => { l with uv := true }).ls.uv = true) :=
  by
  iterate 8 refine ⟨by decide, ?_⟩
  decide

/-- States and operands that meet the hypotheses of `Obligations.ChainLinkRowsComplete`, clause by clause. -/
theorem test_chain_link_rows_complete_hypotheses :
    (let s := member.modChLink 1 fun l => { l with state := .down }
  s.sys.power ≠ .doze ∧ s.chainOn = true ∧ (s.chLink 1).state = .down ∧ (s.chLink 1).phys = true) ∧
    (let s := member.modChLink 1 fun l => { l with state := .training }
  s.sys.power ≠ .doze ∧ s.chainOn = true ∧ (s.chLink 1).state = .training) ∧
    (((member.modChLink 1 fun l => { l with state := .training }).chLink 1).state = .training) ∧
    (member.sys.power ≠ .doze ∧ (member.chLink 1).state = .up) ∧
    (member.sys.power ≠ .doze ∧ (member.chLink 1).state = .up) ∧
    (((member.modChLink 1 fun l => { l with state := .degraded }).chLink 1).state = .degraded) ∧
    (let k : ChPort := 1
  let s : State := member
  s.sys.power ≠ .doze ∧ ((s.chLink k).state = .up)) ∧
    (let k : ChPort := 1
  let s : State := member.modChn fun c => { c with links := vmap (fun l => { l with state := .down }) c.links }
  (s.chainOn = true) ∧ ((s.chLink k).state = .down)) ∧
    (let k : ChPort := 1
  let s : State := member
  (s.chainOn = true)) ∧
    (let k : ChPort := 1
  let s : State := member
  ((s.chLink k).state = .up)) ∧
    (let k : ChPort := 1
  let s : State := member
  ((s.chLink k).state = .up)) ∧
    (let r : Nat × TxFrame := (0, member.newFrame 255 (.tripAdvice 254 0 0 0xFF 0))
  let s : State := member.modChn fun c => { c with repeats := [(0, member.newFrame 255 (.tripAdvice 254 0 0 0xFF 0))] }
  (s.chn.repeats = [r])) ∧
    (let s := heading.modChn fun c => { c with broken := true }
  s.chainOn = true ∧ s.chn.head = true ∧ s.chn.broken = true ∧ vall (·.state == .up) s.chn.links = true) :=
  by
  iterate 12 refine ⟨by decide, ?_⟩
  decide

/-- States and operands that meet the hypotheses of `Obligations.ChainFramesComplete`, clause by clause. -/
theorem test_chain_frames_complete_hypotheses :
    (member.takes frame (.tripAdvice 9 1 2 3 4) = true) ∧
    (heading.takes frame (.linkDown 9 0) = true) ∧
    (member.takes frame (.topology true true) = true) ∧
    (member.takes frame (.candidate { role := 1, incumbent := false, west := false, serial := 9 }) = true) ∧
    (member.takes frame (.headClaim { role := 1, incumbent := false, west := false, serial := 9 }) = true) ∧
    (member.takes frame (.walk 3) = true) ∧
    (heading.takes frame (.join 5) = true) ∧
    (member.takes frame (.assign 5 6) = true) ∧
    (member.takes frame (.table { first := 241, rows := [(0, 254)] }) = true) ∧
    (member.takes frame (.sync 5 0) = true) ∧
    (heading.takes frame (.mirror [1]) = true) ∧
    (member.takes frame (.fwOffer []) = true) ∧
    (member.takes frame (.fwBlock 1 0 []) = true) ∧
    (member.takes frame (.fwNack 1 0 1) = true) ∧
    (member.takes frame (.actPropose { cls := 0, digest := 0 }) = true) ∧
    (member.takes frame (.actCommit { cls := 0, digest := 0 }) = true) ∧
    (member.takes frame (.actQuery { cls := 0, digest := 0 } none) = true) ∧
    (let f : TxFrame := { level := 3, dst := 255, src := 1, seq := 0, epoch := 0, body := .fwReq }
  let s := member.modChLink 0 fun l => { l with busy := some f, queue := upd l.queue 3 fun _ => [f] }
  (s.chLink 0).busy.isSome = true ∧ (s.chLink 0).nextPrio = some 3 ∧ ix (s.chLink 0).queue 3 = f :: []) ∧
    (let s := member.modChLink 0 fun l => { l with busy := some { level := 3, dst := 255, src := 1, seq := 0, epoch := 0, body := .fwReq } }
  (s.chLink 0).busy.isSome = true ∧ (s.chLink 0).nextPrio = none) ∧
    ((member.chLink 0).state = .up ∧ member.sys.romRecovery = false ∧ member.sys.power ≠ .doze) ∧
    (let s := member.modSys fun y => { y with romRecovery := true }
  s.sys.romRecovery = true ∧ s.chainOn = true ∧ (s.stg 0).running = false ∧ (s.chLink che).state = .up) :=
  by
  iterate 20 refine ⟨by decide, ?_⟩
  decide

/-- States and operands that meet the hypotheses of `Obligations.ChainHeadRowsComplete`, clause by clause. -/
theorem test_chain_head_rows_complete_hypotheses :
    (member.sys.power ≠ .doze ∧ member.chainOn = true ∧ member.chn.head = false ∧ member.chn.electing = false ∧ member.msh.msyncAt = none) ∧
    (let s := member.modChn fun c => { c with electing := true, best := some { role := 1, incumbent := false, west := false, serial := 0 } }
  s.chainOn = true ∧ s.chn.electing = true ∧ s.chn.best = some { role := 1, incumbent := false, west := false, serial := 0 } ∧ 0 = s.sys.serial) ∧
    (heading.chainOn = true ∧ heading.chn.head = true ∧ heading.chn.walkWest = false) ∧
    (let s := heading.modChn fun c => { c with walkWest := true }
  s.chainOn = true ∧ s.chn.head = true ∧ s.chn.walkWest = true ∧ freeAddr s.dropRemoved.keepTable.chn.table = some 2) ∧
    (let s := member.modChn fun c => { c with addr := 0 }
  s.chainOn = true ∧ s.chn.head = false ∧ s.chn.addr = 0) ∧
    (up.sys.reached 8 = true ∧ up.chainOn = false) ∧
    (let s : State := heading
  (s.chainOn = true) ∧ (s.chn.head = true)) ∧
    (member.sys.power ≠ .doze ∧ member.chainOn = true ∧ member.chn.head = false ∧ member.chn.time ≠ .unsync) ∧
    (heading.chainOn = true ∧ heading.chn.head = true ∧ 1 ≤ (req 0 0x4100 [0, 0x40000]).fld 3 18 8 ∧ (req 0 0x4100 [0, 0x40000]).fld 3 18 8 ≤ 1024) ∧
    (let r := req 0 0x4180 [0, 9]
  r.fromSystem = true ∧ heading.chn.table.find? (·.1 == leNat (r.bytes 3 16)) = some (9, 254) ∧ heading.lease.reports = [] ∧ 254 ≠ heading.chn.addr) ∧
    (let r : Req := req 0 0x4085 [0]
  let s : State := heading
  (r.fromSystem = true) ∧ (s.chainOn = true)) ∧
    ((req 0 0x4182 [0, 1]).fromSystem = true ∧ (req 0 0x4182 [0, 1]).bit 3 0 = true ∧ (req 0 0x4182 [0, 1]).bit 3 1 = false) ∧
    ((req 0 0x4182 [0, 2]).fromSystem = true ∧ (req 0 0x4182 [0, 2]).bit 3 0 = false ∧ (req 0 0x4182 [0, 2]).bit 3 1 = true) ∧
    (up.canRead .pcie 0 = true ∧ (up.violKind .pcie 0 0x0B7C false false) = none) :=
  by
  iterate 13 refine ⟨by decide, ?_⟩
  decide

/-- States and operands that meet the hypotheses of `Obligations.MeshRowsComplete`, clause by clause. -/
theorem test_mesh_rows_complete_hypotheses :
    (meshing.meshTakes mall (.nbr []) = true) ∧
    (meshing.meshTakes mhdr (.tmap 0 0 { load := [] }) = true) ∧
    (meshing.meshTakes mhdr (.delay 0) = true) ∧
    (meshing.meshTakes mall (.phase { epoch := 0, t0 := 0, period := 0 }) = true) ∧
    (meshing.meshTakes mall (.msync 0 0) = true) ∧
    (meshing.meshTakes mhdr (.chain { level := 3, dst := 0, src := 0, hops := 255, viaMesh := true, seq := 0, epoch := 0, body := .fwReq }) = true) ∧
    (meshing.meshMember = true) ∧
    (let f : MFrame := cast0
  let s : State := meshing.modMsh fun m => { m with queue := [cast0] }
  (s.msh.queue = [f]) ∧ (s.msh.sleeping = false) ∧ (s.meshMember = true) ∧ (s.msh.air = none) ∧ (f.hop = 255)) ∧
    (let f : MFrame := { src := 254, dst := 9, route := [], seq := 0, body := .delay 1 }
  let s := meshing.modMsh fun m => { m with queue := [f] }
  s.msh.queue = [f] ∧ s.msh.sleeping = false ∧ s.meshMember = true ∧ s.msh.air = none ∧ f.hop ≠ 255) ∧
    (let f : MFrame := { src := 254, dst := 9, route := [], seq := 0, body := .delay 1 }
  (meshing.modMsh fun m => { m with air := some f }).msh.air = some f) ∧
    (let f : MFrame := { cast0 with tries := 3 }
  let s : State := meshing.modMsh fun m => { m with air := some { cast0 with tries := 3 } }
  (s.msh.air = some f) ∧ (f.tries < 4)) ∧
    (let f : MFrame := { src := 254, dst := 9, route := [], seq := 0, body := .delay 1, tries := 4 }
  let s := meshing.modMsh fun m => { m with air := some f }
  s.msh.air = some f ∧ 4 ≤ f.tries ∧ f.src = s.chn.addr) ∧
    (let s : State := meshing
  (s.meshMember = true)) ∧
    (let s := meshing.modMsh fun m => { m with nbrs := [{ addr := 9, since := 0 }] }
  s.msh.nbr 9 = some { addr := 9, since := 0 } ∧ s.meshMember = true) ∧
    (let s := meshing.modMsh fun m => { m with nbrs := [{ addr := 9, since := 0, gen := some 3 }] }
  s.msh.nbr 9 = some { addr := 9, since := 0, gen := some 3 }) ∧
    (heading.chainOn = true ∧ heading.chn.head = true) ∧
    (let s := meshing.modMsh fun m => { m with msyncAt := some 0 }
  s.meshMember = true ∧ s.chn.head = false ∧ s.msh.msyncAt = some 0) ∧
    (ix meshing.msh.zc 0 = none) ∧
    (let s : State := meshing
  (s.meshMember = true)) ∧
    ((linkIn .plugged).maskDue ≠ (linkIn .plugged).msh.mask) ∧
    (let n : MshNbr := { addr := 9, since := 0, rxSegs := [{ load := [], rate := 0 }] }
  (meshing.modMsh fun m => { m with nbrs := [n] }).msh.nbr ((req 0 0x4902 [0, 0x900]).fld 3 15 8) = some n ∧ n.rxSegs ≠ []) ∧
    ((req 0 0x4980 []).fromSystem = true) ∧
    (up.canRead .pcie 0 = true ∧ (up.violKind .pcie 0 0x0B9C false false) = none) :=
  by
  iterate 22 refine ⟨by decide, ?_⟩
  decide

/-- States and operands that meet the hypotheses of `Obligations.CaveRowsComplete`, clause by clause. -/
theorem test_cave_rows_complete_hypotheses :
    ((ready.modCfg fun c => { c with cave := { c.cave with trig := 1 } }).cfg.cave.trig / 2 ^ (0 : Fin 4).1 % 2 = 1) ∧
    (let s := windowed.modLegal fun l => { l with proc := 1 }
  s.cave.open_.find? (·.num == 1) = some { num := 1, source := 0xFF, trigger := 0, first := 0, last := 0 } ∧ 0 < s.legal.proc) ∧
    (let s := (((caved .ready).modCave fun c => { c with paused := true }).modCfg fun c => { c with cave := { c.cave with capture := true, enable := true } }).modLegal fun l => { l with proc := 2681 }
  s.cfg.cave.capture = true ∧ s.cfg.cave.enable = true ∧ s.legalVoid = false ∧ s.cave.state.usable = true ∧ 8 * (336 * 0 + 335) < s.legal.proc ∧
    s.notWritten = some 4) ∧
    (let s := metering.modLegal fun l => { l with proc := 2681 }
  s.cfg.cave.capture = true ∧ s.cfg.cave.enable = true ∧ s.legalVoid = false ∧ s.cave.state.usable = true ∧
    8 * (336 * 0 + 335) < s.legal.proc ∧ s.notWritten = none) ∧
    (let r : JRec := { type := 5, seq := 1, len := 0, held := true }
  let s := (caved .ready).modJnl fun j => { j with legal := { j.legal with recs := [r] } }
  s.cave.state = .ready ∧ s.jnl.heldRecs = [r] ∧ s.cave.legalSeq < r.seq ∧ s.cave.legalTop < r.seq ∧ s.cave.legalPart + r.toCave.size ≤ mib) ∧
    (let s := (caved .ready).modCave fun c => { c with offered := [{ kind := 12 }] }
  s.cave.state = .ready ∧ s.jnl.heldRecs = [] ∧ s.cave.offered = { kind := 12 } :: [] ∧ s.cave.otherPart + (20 + 4) ≤ mib) ∧
    (let s := (caved .ready).modCave fun c => { c with queue := [.other { kind := 12 }] }
  s.cave.state.usable = true ∧ s.cave.queue = .other { kind := 12 } :: []) ∧
    (let s := (caved .ready).modCave fun c => { c with queue := [.legal { kind := 1, legalSeq := 1 }] }
  s.cave.state.usable = true ∧ s.cave.queue = .legal { kind := 1, legalSeq := 1 } :: []) ∧
    (let s := (caved .ready).modCave fun c => { c with queue := [.block { head := 0, num := 0, first := 0, run := 0, gen := 0 }] }
  s.cave.state.usable = true ∧ s.cave.queue = .block { head := 0, num := 0, first := 0, run := 0, gen := 0 } :: []) ∧
    ((caved .ready).cave.state.usable = true ∧ (req 0 0x6002 [0, 13, 0, 0, 0, 1]).fld 3 3 0 = 13 ∧ 0 < (req 0 0x6002 [0, 13, 0, 0, 0, 1]).fld 7 7 0) ∧
    ((caved .ready).cave.state.usable = true ∧ (req 0 0x6002 [0, 1, 0, 0, 0, 255]).fld 3 3 0 = 1 ∧ 0 < (req 0 0x6002 [0, 1, 0, 0, 0, 255]).fld 7 7 0) ∧
    (let r := req 0 0x6002 [0, 11 + 65536 * 23, 0, 0, 0, 1]
  (caved .ready).cave.state.usable = true ∧ r.fld 3 3 0 = 11 ∧ r.fld 3 20 16 < 24 ∧ 0 < r.fld 7 7 0) ∧
    (let r := req 0 0x6003 [0, 2, 0, 0, 0, 1]
  (caved .ready).cave.state.usable = true ∧ 1 ≤ r.fld 7 10 0 ∧ r.fld 7 10 0 ≤ 1024 ∧ r.bit 3 1 = true) ∧
    (let r := req 0 0x6004 [0, 0, 0, 0, 1]
  let s := caved .ready
  r.fromSystem = true ∧ s.cave.state.usable = true ∧ ((r.word 4).toNat + 2 ^ 32 * (r.word 5).toNat) % 4096 = 0 ∧ 1 ≤ r.fld 6 12 0 ∧
    r.fld 6 12 0 ≤ 4096 ∧ (r.word 4).toNat + 2 ^ 32 * (r.word 5).toNat + 4096 * r.fld 6 12 0 ≤ s.cave.capacity) ∧
    ((req 0 0x6080 [0, 0xCA7E]).fromSystem = true ∧ (req 0 0x6080 [0, 0xCA7E]).word 3 = 0xCA7E ∧ (caved .blank).cave.state = .blank) ∧
    (let r := req 0 0x6080 [0, 0xCA7E, 1]
  let s := (caved .full).modRind fun m => { m with lifecycle := 3 }
  r.fromSystem = true ∧ r.word 3 = 0xCA7E ∧ s.cave.state = .full ∧ r.bit 4 0 = true ∧ s.inService = true) ∧
    (let s := (caved .ready).modCfg fun c => { c with cave := { c.cave with windows := true } }
  (req 0 0x6081 [7]).namesPort = true ∧ (s.startWin (req 0 0x6081 [7]).port.1 4).2 = some 1) :=
  by
  iterate 16 refine ⟨by decide, ?_⟩
  decide

/-- States and operands that meet the hypotheses of `Obligations.DriveRowsComplete`, clause by clause. -/
theorem test_drive_rows_complete_hypotheses :
    ((caved .ready).cave.state.usable = true) ∧
    (let s : State := caved .ready
  (s.cave.state.usable = true)) ∧
    (let s : State := caved .ready
  (s.cave.state.usable = true)) ∧
    ((caved .fault).cave.state = .fault) ∧
    ((caved .ready).cave.drive = some { size := 2 ^ 38, format := .own }) ∧
    (let s := (caved .init).modCfg fun c => { c with cave := { c.cave with enable := false } }
  s.cave.state = .init ∧ s.cfg.cave.enable = false) ∧
    (let s := (caved .init).modCfg fun c => { c with cave := { c.cave with enable := true } }
  s.cave.state = .init ∧ s.cfg.cave.enable = true) ∧
    (let s := (caved .init).modCfg fun c => { c with cave := { c.cave with enable := true } }
  128 * 1024 * mib ≤ (s.modCave fun c => { c with drive := some { size := 2 ^ 38, format := .own } }).cave.capacity) ∧
    (ready.legalRun = true) ∧
    ((up.modJnl fun j => { j with legal := { j.legal with run := some ([], 0) } }).jnl.legal.run = some ([], 0)) ∧
    (let x : List JRec × Nat := ([], 0)
  let s : State := up.modJnl fun j => { j with conf := { j.conf with run := some ([], 0) } }
  (s.jnl.conf.run = some x)) ∧
    (up.canRead .pcie 0 = true ∧ (up.violKind .pcie 0 0x0BB8 false false) = none) ∧
    (up.canRead .pcie 0 = true ∧ (up.violKind .pcie 0 0x0BFC false false) = none) :=
  by
  iterate 12 refine ⟨by decide, ?_⟩
  decide

/-- States and operands that meet the hypotheses of `Obligations.DeviceRowsComplete`, clause by clause. -/
theorem test_device_rows_complete_hypotheses :
    (up.rind.armed = true ∧ up.retired = false ∧ up.rind.rootPresent = true ∧ up.sys.power ≠ .dormant) ∧
    (let s := up.modSys fun y => { y with power := .dormant }
  s.rind.armed = true ∧ s.retired = false ∧ s.rind.rootPresent = true ∧ s.sys.power = .dormant) ∧
    (let s : State := up
  (s.rind.armed = true)) ∧
    (let s := up.modSys fun y => { y with power := .dormant }
  s.sys.power = .dormant ∧ s.rind.shipCopy = false) ∧
    (let s := up.modRind fun r => { r with alarmS := 1, rtcUs := 2000000 }
  s.rind.alarmS ≠ 0 ∧ s.rind.alarmS ≤ s.rind.rtc / 32768) ∧
    ((up.modRind fun r => { r with lifecycle := 0 }).rind.lifecycle = 0) ∧
    ((up.modRind fun r => { r with lifecycle := 1 }).rind.lifecycle = 1 ∧ up.rind.loopOpen = false) ∧
    ((up.setKeySes 3 2 (some { alg := 6, uses := 1, key := 5 })).keySes 3 2 = some { alg := 6, uses := 1, key := 5 }) ∧
    (vaulting.keys.ops.find? (·.req.guest == 3) = some { req := req 3 0x7000 [], code := Code.done, slot := 16 }) ∧
    (let o : VaultOp := { req := { req 3 0x7001 [] with descs := [{ own := true, last := true, toHost := true, irq := false, len := 8 }] }, code := Code.done, toRing := true, data := [1] }
  let s := (ringOn up 3).modKeys fun k => { k with ops := [o] }
  s.keys.ops.find? (·.req.guest == 3) = some o ∧ o.toRing = true) ∧
    (let r := req 3 0x708A [0, 0x100]
  (serviced.rightsOf r).audit = true ∧ serviced.inService = true ∧ 1 ≤ r.fld 3 18 8 ∧ r.fld 3 18 8 ≤ 1024) ∧
    (let r : Req := req 0 0x7083 [10]
  let s : State := up
  (r.fromSystem = true)) ∧
    (let s := serviced.modRind fun r => { r with rootPresent := false }
  let r := req 0 0x708C [0, 0x5EED]
  r.fromSystem = true ∧ s.rind.rootPresent = false ∧ s.inService = true ∧ (∀ a ∈ s.rind.alarm.toList, a = false) ∧ r.word 3 = 0x5EED) ∧
    (let r := req 3 0x708D [0, 0x8128DEAD]
  (serviced.rightsOf r).audit = true ∧ serviced.inService = true ∧ (∀ p, serviced.sesIsOpen p = false) ∧ r.word 3 = 0x8128DEAD) :=
  by
  iterate 13 refine ⟨by decide, ?_⟩
  decide

/-- States and operands that meet the hypotheses of `Obligations.VaultCommandsComplete`, clause by clause. -/
theorem test_vault_commands_complete_hypotheses :
    (let r := req 3 0x7080 [0, 16]
  (keyed 1).vaultDown = none ∧ (keyed 1).slotAt (r.fld 3 7 0) = some (keySlot 1) ∧ (keySlot 1).attrA.bit r.guest.1 = true) ∧
    ((match (keyed 1).slotFor 3 ((req 3 0x7081 [0, 16]).fld 3 7 0) none with
    | .ok k => k == keySlot 1
    | .error _ => false) = true ∧ isEc (keySlot 1).alg = true) ∧
    (up.vaultDown = none) ∧
    (let r := req 3 0x7084 [0, 17, 8, 0x31]
  up.vaultDown = none ∧ 16 ≤ r.fld 3 7 0 ∧ r.fld 3 7 0 ≤ 255 ∧ mayCreate r.guest (r.word 4) (r.word 5) = true ∧ up.slotAt (r.fld 3 7 0) = none ∧
    [1, 2, 3, 5, 6, 7, 8].contains ((r.word 5).fld 3 0) = true ∧ (r.word 5).bit 20 = false) ∧
    (let r := ringed (req 3 0x7085 [0, 0xFF11, 8, 0x100031])
  let s := ringOn up 3
  let q := s.withRing r (r.fld 3 18 16)
  q.ringOk = true ∧ q.ringIn.length ≤ 256 ∧ s.vaultDown = none ∧ 16 ≤ r.fld 3 7 0 ∧ mayCreate r.guest (r.word 4) (r.word 5) = true ∧
    s.slotAt (r.fld 3 7 0) = none ∧ r.fld 3 15 8 = 0xFF ∧ (r.word 5).bit 20 = true ∧ isEc ((r.word 5).fld 3 0) = true) ∧
    (let r := req 3 0x7086 [0, 0x1010]
  r.fld 3 15 8 ≠ 0xFF ∧ (match (keyed 6).slotFor 3 (r.fld 3 7 0) none, (keyed 6).slotFor 3 (r.fld 3 15 8) (some 3) with
    | .ok k, .ok w => k == keySlot 6 && w == keySlot 6 && k.attrB.bit 18
    | _, _ => false) = true) ∧
    (let r := req 3 0x7087 [0, 16]
  (keyed 1).vaultDown = none ∧ (keyed 1).slotAt (r.fld 3 7 0) = some (keySlot 1) ∧ 16 ≤ r.fld 3 7 0 ∧ (keySlot 1).attrA.bit r.guest.1 = true) ∧
    (let r := req 3 0x7082 [0, 16]
  r.bit 3 8 = false ∧ (match (keyed 1).slotFor 3 (r.fld 3 7 0) (some 0) with
    | .ok k => k == keySlot 1
    | .error _ => false) = true ∧ (keySlot 1).alg = 1) ∧
    (let r := ringed (req 3 0x7083 [0, 16])
  let s := ringOn (keyed 1) 3
  (s.withRing r (r.fld 3 10 8)).ringOk = true ∧ (match s.slotFor 3 (r.fld 3 7 0) (some 1) with
    | .ok k => k == keySlot 1
    | .error _ => false) = true) ∧
    (let r := req 3 0x7088 [0, 0x610, 4]
  (match (keyed 6).slotFor 3 (r.fld 3 7 0) (some 2) with
    | .ok k => k == keySlot 6
    | .error _ => false) = true ∧ r.fld 3 11 8 = 6 ∧ r.fld 4 5 0 ≤ 32 ∧ (idx 8).find? (fun i => ((keyed 6).keySes r.guest i).isNone) = some 0) ∧
    (let s := up.setKeySes 3 2 (some { alg := 6, uses := 1, key := 5 })
  s.vaultDown = none ∧ s.keySes 3 2 = some { alg := 6, uses := 1, key := 5 } ∧ (req 3 0x7089 [0, 2]).fld 3 2 0 = 2) ∧
    (up.canRead .pcie 0 = true ∧ (up.violKind .pcie 0 0x0D80 false false) = none) :=
  by
  iterate 11 refine ⟨by decide, ?_⟩
  decide

/-- States and operands that meet the hypotheses of `Obligations.UpdateRowsComplete`, clause by clause. -/
theorem test_update_rows_complete_hypotheses :
    (let r := req 0 0x7180 [0, 0]
  r.fromSystem = true ∧ r.fld 3 1 0 = 0 ∧ r.fld 3 5 4 = 0 ∧ (stager.rightsOf r).staging = true ∧ stager.stgBlocked (classOf 0) = none) ∧
    (checking.stg (classOf ((req 0 0x7181 [0, 0]).fld 3 1 0)) = checking.stg 0 ∧ (checking.stg 0).running = true) ∧
    (let s := (stager.modStg 0 fun g => { g with state := .header, cmd := some (req 0 0x7180 []) })
  s.canWrite .pcie 0 = true ∧ (s.gcfg 0).staging = true ∧ s.windowClass 0 = some 0) ∧
    (let s := up.modCfg fun c => { c with guests := upd c.guests 0 fun x => { x with staging := false } }
  inStaging 0x8000 = true ∧ s.canWrite .pcie 0 = true ∧ (s.gcfg 0).staging = false) ∧
    (let s := (ringOn stager 0).modStg 0 fun g => { g with source := 1, state := .header, cmd := some (req 0 0x7180 []) }
  let d : Desc := { own := true, last := true, toHost := false, irq := false, len := 2, data := [4, 5] }
  let g := s.stg 0
  let part := [4].take (d.data.length - g.got)
  let r := s.withRing { req 0 0x7180 [] with descs := [{ d with data := d.data.take (g.got + part.length) }] } g.ring
  let t := (s.stgFeed 0 part).modStg 0 fun x => { x with got := g.got + part.length }
  g.cmd = some (req 0 0x7180 []) ∧ g.source = 1 ∧ g.state = .header ∧ g.lastRead = false ∧ r.descs ≠ [] ∧ (t.stg 0).state ≠ .refused) ∧
    (((stager.modStg 0 fun g => { g with state := .header }).stg 0).state = .header) ∧
    ((checking.stg 0).state = .checking ∧ checking.sys.romRecovery = false) ∧
    (let r := req 0 0x7182 [0, 0x10, 0]
  let b := banked.otherBank (classOf 0)
  r.fromSystem = true ∧ r.fld 3 1 0 = 0 ∧ r.bit 3 4 = true ∧ b.valid = true ∧ tagBytes b.digest = r.word 4 ∧ banked.act.state = .none ∧
    banked.fenced = false ∧ (banked.chainOn = true → banked.chn.addr ≠ 0)) ∧
    ((req 0 0x7183 []).fromSystem = true ∧ proposed.act.state = .proposed) ∧
    (heading.isHead = true) ∧
    (committed.act.state = .committed ∧ committed.act.pendingStart = false ∧ committed.fenced = false ∧ committed.act.cls = 0) ∧
    (let s := serviced.modAct fun a => { a with state := .committed, cls := 1 }
  s.act.state = .committed ∧ s.act.pendingStart = false ∧ s.fenced = false ∧ s.act.cls = 1 ∧ s.inService = true ∧ s.saving = false) ∧
    (let s := ready.modAct fun a => { a with state := .committed, cls := 2 }
  s.act.state = .committed ∧ s.act.pendingStart = false ∧ s.fenced = false ∧ s.act.cls = 2 ∧ s.saf.state ≠ .tableFail) ∧
    (swapping.act.state = .swapping ∧ swapping.act.cls = 0) ∧
    (let s : State := up
  (s.sys.romRecovery = false)) ∧
    (up.canRead .pcie 0 = true ∧ (up.violKind .pcie 0 0x0DC0 false false) = none) :=
  by
  iterate 15 refine ⟨by decide, ?_⟩
  decide

/-- States and operands that meet the hypotheses of `Obligations.ContactlessRowsComplete`, clause by clause. -/
theorem test_contactless_rows_complete_hypotheses :
    (let s : State := up.modCfg fun c => { c with nfc := { c.nfc with reader := true } }
  (s.cfg.nfc.reader = true) ∧ (s.nfc.card = none) ∧ s.sys.power = .run ∧ s.sys.reached 7 = true ∧ s.sys.romRecovery = false) ∧
    (let s : State := up.modCfg fun c => { c with nfc := { c.nfc with reader := true } }
  (s.cfg.nfc.reader = true) ∧ (s.nfc.card = none) ∧ s.sys.power = .run ∧ s.sys.reached 7 = true ∧ s.sys.romRecovery = false) ∧
    (up.cfg.nfc.reader = true ∧ up.nfc.card = none ∧ up.nfc.released = none ∧ up.sys.power = .run ∧ up.sys.reached 7 = true ∧ up.sys.romRecovery = false) ∧
    (holding.nfc.card = some card) ∧
    (let r : Req := { req 0 0x5100 [] with descs := [{ own := true, last := true, data := [0, 0xA4, 4, 0] }] }
  let s := ringOn holding 0
  let q := s.withRing r (r.fld 3 2 0)
  s.readerOwner r = true ∧ s.nfc.card = some card ∧ card.isoDep = true ∧ q.ringOk = true ∧ 4 ≤ q.ringIn.length) ∧
    (let r : Req := req 0 0x7203 [0]
  let k : CardInfo := card
  let s : State := holding
  (s.readerOwner r = true) ∧ (s.nfc.card = some k)) ∧
    (let r : Req := req 0 0x7204 [0]
  let s : State := up
  (r.fromSystem = true)) ∧
    (let r := req 0 0x5183 [0, 0x801]
  r.fromSystem = true ∧ serviced.inService = true ∧ r.bit 3 0 = true ∧ 6 ≤ r.fld 3 12 8 ∧ r.fld 3 12 8 ≤ 16 ∧ r.bit 3 1 = false) ∧
    ((up.modTag fun t => { t with locked := true }).tag.locked = true) ∧
    (up.nfc.card = none ∧ up.cfg.nfc.tag = true ∧ up.shortGap = false) ∧
    (let s := up.modTag fun t => { t with lostAt := some up.rind.rtcUs }
  s.nfc.card = none ∧ s.cfg.nfc.tag = true ∧ s.shortGap = true) ∧
    (let s : State := up.modTag fun t => { t with phase := .idle }
  (s.tag.phase = .idle)) ∧
    (let s : State := up.modTag fun t => { t with phase := .ready }
  (s.tag.phase = .ready)) ∧
    ((up.modTag fun t => { t with phase := .active }).tag.phase = .active) ∧
    (tagged.tag.serving = true) ∧
    (let s : State := tagged
  (s.tag.serving = true) ∧ (s.tag.selected = true)) ∧
    (let s := tagged.modTag fun t => { t with secured := true }
  s.tag.serving = true ∧ s.tag.selected = true ∧ s.tag.secured = true) ∧
    (let s := tagged.modTag fun t => { t with pwDigest := some 5 }
  s.tag.serving = true ∧ s.tag.selected = true ∧ s.tag.pwDigest = some 5 ∧ s.tag.locked = false) ∧
    (tagged.tag.serving = true ∧ tagged.tag.selected = true) ∧
    (let s := tagged.modTag fun t => { t with key := some 5, challenge := some [1] }
  s.tag.serving = true ∧ s.tag.selected = true ∧ s.tag.key = some 5 ∧ s.tag.challenge = some [1]) ∧
    (let s : State := tagged
  (s.tag.serving = true)) ∧
    (up.sys.power = .run ∧ up.sys.reached 7 = true ∧ up.sys.romRecovery = false) :=
  by
  iterate 21 refine ⟨by decide, ?_⟩
  decide

/-- States and operands that meet the hypotheses of `Obligations.DisplayRowsComplete`, clause by clause. -/
theorem test_display_rows_complete_hypotheses :
    (up.sys.power = .run) ∧
    (up.sys.power = .run) ∧
    (up.sys.power = .run) ∧
    ((up.modSys fun y => { y with power := .doze }).sys.power ≠ .run) ∧
    (up.cfg.dsp = up.dsp.cfg ∧ up.dsp.pending = Vector.replicate 8 none ∧ up.dsp.cfg.od = false ∧ up.legalVoid = false) ∧
    (let q : Rect := { x := 0, y := 16, w := 1, h := 1, data := [5] }
  let s := up.modDsp fun d => { d with pending := upd d.pending 0 fun _ => some q }
  s.cfg.dsp = s.dsp.cfg ∧ s.dsp.pending = (upd (Vector.replicate 8 none) 0 fun _ => some q) ∧ s.dsp.cfg.od = false ∧ s.legalVoid = false) ∧
    ((up.modLegal fun l => { l with state := .void }).cfg.dsp = up.dsp.cfg ∧ up.dsp.pending = Vector.replicate 8 none ∧ up.dsp.cfg.od = false ∧
    (up.modLegal fun l => { l with state := .void }).legalVoid = true) ∧
    (let r := ringed (req 0 0x5200 [0, 0, 0x100000, 0x10001])
  let s := ringOn up 0
  let d := s.withRing r (r.fld 3 2 0)
  s.displayOwner r = true ∧ r.fld 4 22 16 = 16 ∧ r.fld 5 8 0 = 1 ∧ r.fld 5 22 16 = 1 ∧ d.ringOk = true ∧ 1 ≤ d.ringIn.length ∧
    s.dsp.cfg.legalRowsN ≤ 16 ∧ 17 ≤ s.dsp.cfg.height ∧ ix s.dsp.pending 0 = none) ∧
    (let r : Req := req 0 0x7280 [1]
  let s : State := up
  (s.displayOwner r = true)) ∧
    (let r := req 0 0x5280 [7, 1]
  up.displayOwner r = true ∧ up.sys.power = .run ∧ up.legal.state ≠ .void ∧ r.fld 3 1 0 = 1 ∧ r.namesPort = true) ∧
    (let r : Req := req 0 0x7281 [0xFF]
  let s : State := up
  (s.displayOwner r = true) ∧ s.sys.power = .run ∧ (s.legal.state ≠ .void) ∧ ((r.fld 3 1 0 = 0 ∨ r.fld 3 1 0 = 3)) ∧ (r.namesPort = false)) ∧
    (up.canRead .pcie 0 = true ∧ (up.violKind .pcie 0 0x073C false false) = none) ∧
    (up.canRead .pcie 0 = true ∧ (up.violKind .pcie 0 0x074C false false) = none) :=
  by
  iterate 12 refine ⟨by decide, ?_⟩
  decide

end Sys2Proof.Tests
end

section
/-! The system block, with the registers of reset causes and counts, after each kind of reset (spec 02 R34). -/

namespace Sys2Proof.Machine

variable {ps : List Part} {s t : State}

/-- An operation that may not change the system block keeps the causes and counts of resets. -/
theorem Only.sys_eq (h : Only ps s t) (hp : Part.sys ∉ ps) : t.sys = s.sys := h.same .sys hp

/-! ### The chip reset -/

/-- What a chip reset sets off after the reset itself: the Cave's lost spans, the seals that fall due and Service loss. -/
theorem afterChipReset_only (s : State) :
    Only [.ses, .sp, .cave, .host, .sent, .saf, .brk, .bil] s
      ((s.each (n := 24) fun h t => t.lostSpan h).each (n := 8) fun p t => t.sealOpen p).serviceLoss := by
  refine Only.step (State.serviceLoss_only _) rfl ?_
  refine Only.each (fun p _ h => Only.step (State.sealOpen_only _ p) rfl h) ?_
  exact Only.each (fun l _ h => Only.step (State.lostSpan_only _ l) rfl h) (Only.refl _ _)

/-- A chip reset outside Dormant resets the system block, and nothing it sets off changes that block again. -/
theorem State.chipReset_sys (cause : Nat) (h : s.sys.power ≠ .dormant) : (s.chipReset cause).sys = s.sys.chipReset cause := by
  unfold State.chipReset
  rw [if_neg (by simpa using h)]
  split
  · exact ((State.revert_only _).sys_eq (by decide)).trans ((afterChipReset_only _).sys_eq (by decide))
  · exact (afterChipReset_only _).sys_eq (by decide)

/-- RESET_CHIP of the system guest with its key is a chip reset of cause 6 (R120). -/
theorem execResetChip_of_key {r : Req} (hsys : r.fromSystem = true) (hkey : r.word 2 = w32 0x8128) :
    execResetChip r s = .next (s.chipReset 6) := by
  simp [execResetChip, hsys, hkey]

/-! ### The power-on reset and its release -/

/-- A power-on reset notes its cause; of the rest of the system block the power state alone changes (R23). -/
theorem execPowerOnReset_sys (cause : Fin 3) (h : s.sys.power ≠ .dormant) :
    ∃ t, execPowerOnReset cause s = .next t ∧ t.sys = { s.sys with power := .dormant, porCause := cause.1 } := by
  refine ⟨_, rfl, ?_⟩
  rw [if_neg (by simpa using h)]
  rfl

/-- What a start does about the ship copy, a lost battery and a missing root (R503, R504, R505). -/
theorem startOfRind_only (s : State) :
    Only [.jnl, .met, .host, .pq, .keys, .legal, .sent, .bil, .nrg, .rind, .nfc] s s.shipRestore.batteryStart.rootlessStart := by
  refine Only.step (State.rootlessStart_only _) rfl ?_
  refine Only.step (State.batteryStart_only _) rfl ?_
  exact (State.shipRestore_only s).mono rfl

/-- The release of a power-on reset keeps the cause it finds, counts one reset and starts the rest of the system block anew (R35). -/
theorem execPorRelease_sys (h : s.sys.power = .dormant) :
    ∃ t, execPorRelease s = .next t ∧ t.sys = {
      power := .run, porCause := s.sys.porCause, porResets := satInc 0xFFFF s.sys.porResets, serial := s.sys.serial
      fwMinor := s.sys.fwMinor, fwBuild := s.sys.fwBuild
      tref := { strap10M := s.sys.tref.strap10M, strapPps := s.sys.tref.strapPps } } := by
  unfold execPorRelease
  rw [if_neg (by simp [h])]
  exact ⟨_, rfl, (startOfRind_only _).sys_eq (by decide)⟩

/-! ### The guest reset -/

/-- A guest reset leaves the system block as it was (R76). -/
theorem execGuestReset_sys (g : Guest) (h : execGuestReset g s = .next t) : t.sys = s.sys :=
  ((execGuestReset_only g s).only t h).sys_eq (by decide)

/-- Settles O10, from the system block after each kind of reset. -/
theorem resetCausesAndCounts : Obligations.ResetCausesAndCounts := by
  refine ⟨fun k s h => ?_, fun r s hsys hkey => execResetChip_of_key hsys hkey, fun cause s h => ?_, fun s h => ?_,
    fun g s t h => execGuestReset_sys g h⟩
  · rw [State.chipReset_sys k h]
    exact ⟨rfl, rfl, rfl, rfl⟩
  · obtain ⟨t, hexec, hsys⟩ := execPowerOnReset_sys cause h
    exact ⟨t, hexec, by rw [hsys], by rw [hsys], by rw [hsys], by rw [hsys]⟩
  · obtain ⟨t, hexec, hsys⟩ := execPorRelease_sys h
    exact ⟨t, hexec, by rw [hsys], by rw [hsys], by rw [hsys], by rw [hsys]⟩

end Sys2Proof.Machine
end

section
/-! The binding of GLN that is in force (spec 03 R66). A chip reset or the release of a power-on reset takes it from the
configuration; each operation that they perform after that leaves it as it was, and so does SET_GLN_BIND. A lemma `f_gln` says so of
one operation f, by the lemmas of the operations that f is made of. -/

namespace Sys2Proof.Machine

variable {s t : State}

/-! ### How operations compose -/

/-- An operation that may not change the host's side keeps it. -/
theorem Only.host_eq {ps : List Part} (h : Only ps s t) (hp : Part.host ∉ ps) : t.host = s.host := h.same .host hp

@[simp] theorem ite_gln (c : Prop) [Decidable c] (t u : State) :
    (if c then t else u).host.gln = if c then t.host.gln else u.host.gln := apply_ite (·.host.gln) c t u

@[simp] theorem foldl_gln {α : Type} {f : State → α → State} (hf : ∀ t a, (f t a).host.gln = t.host.gln) (l : List α) (s : State) :
    (l.foldl f s).host.gln = s.host.gln := by
  induction l generalizing s with
  | nil => rfl
  | cons a l ih => exact (ih _).trans (hf s a)

@[simp] theorem State.each_gln {n : Nat} {f : Fin n → State → State} (hf : ∀ i t, (f i t).host.gln = t.host.gln) (s : State) :
    (s.each f).host.gln = s.host.gln := foldl_gln (fun t i => hf i t) _ s

@[simp] theorem State.whenB_gln {c : Bool} {f : State → State} (hf : ∀ t, (f t).host.gln = t.host.gln) (s : State) :
    (s.whenB c f).host.gln = s.host.gln := by
  simp [State.whenB, hf]

/-! ### Operations that leave the host's side as it was -/

@[simp] theorem State.emit_host (s : State) (o : Out) : (s.emit o).host = s.host := rfl
@[simp] theorem State.service_host (s : State) (kind source bits : Nat) : (s.service kind source bits).host = s.host :=
  (State.service_only ..).host_eq (by decide)
@[simp] theorem State.safeSend_host (s : State) (type subject : Nat) (ws : List Word) : (s.safeSend type subject ws).host = s.host :=
  (State.safeSend_only ..).host_eq (by decide)
@[simp] theorem State.tripLog_host (s : State) (kind source ports outs : Nat) : (s.tripLog kind source ports outs).host = s.host :=
  (State.tripLog_only ..).host_eq (by decide)
@[simp] theorem State.portMsg_host (s : State) (p : Port) : (s.portMsg p).host = s.host :=
  (State.portMsg_only ..).host_eq (by decide)
@[simp] theorem State.siteMsg_host (s : State) : s.siteMsg.host = s.host := (State.siteMsg_only ..).host_eq (by decide)
@[simp] theorem State.coilsOff_host (s : State) (p : Port) : (s.coilsOff p).host = s.host :=
  (State.coilsOff_only ..).host_eq (by decide)
@[simp] theorem State.writeOuts_host (s : State) : s.writeOuts.host = s.host := (State.writeOuts_only ..).host_eq (by decide)
@[simp] theorem State.appendLegal_host (s : State) (r : JRec) : (s.appendLegal r).host = s.host :=
  (State.appendLegal_only ..).host_eq (by decide)
@[simp] theorem State.auditRind_host (s : State) (kind cause : Nat) : (s.auditRind kind cause).host = s.host :=
  (State.auditRind_only ..).host_eq (by decide)
@[simp] theorem State.keyRaise_host (s : State) (bits : Word) : (s.keyRaise bits).host = s.host :=
  (State.keyRaise_only ..).host_eq (by decide)
@[simp] theorem State.creditAt_host (s : State) (p : Port) (n imported : Nat) : (s.creditAt p n imported).host = s.host :=
  (State.creditAt_only ..).host_eq (by decide)
@[simp] theorem State.setOpen_host (s : State) (g : Guest) (x : Option (List Item)) : (s.setOpen g x).host = s.host := rfl
@[simp] theorem State.ripenFor_host (s : State) (n : Nat) : (s.ripenFor n).host = s.host := (State.ripenFor_only ..).host_eq (by decide)
@[simp] theorem State.record_host (s : State) (items : List Item) : (s.record items).host = s.host :=
  (State.record_only ..).host_eq (by decide)
@[simp] theorem State.lostSpan_host (s : State) (h : SLink) : (s.lostSpan h).host = s.host := (State.lostSpan_only ..).host_eq (by decide)
@[simp] theorem State.sealOpen_host (s : State) (p : Port) : (s.sealOpen p).host = s.host := (State.sealOpen_only ..).host_eq (by decide)
@[simp] theorem State.revert_host (s : State) : s.revert.host = s.host := (State.revert_only ..).host_eq (by decide)
@[simp] theorem State.shipRestore_host (s : State) : s.shipRestore.host = s.host := (State.shipRestore_only ..).host_eq (by decide)
@[simp] theorem State.rootlessStart_host (s : State) : s.rootlessStart.host = s.host := (State.rootlessStart_only ..).host_eq (by decide)

/-! ### Guests, answers, interrupts and events -/

@[simp] theorem State.modGuest_gln (s : State) (g : Guest) (f : GuestSt → GuestSt) : (s.modGuest g f).host.gln = s.host.gln := rfl
@[simp] theorem State.answer_gln (s : State) (r : Req) (code : Nat) (ws : List Word) : (s.answer r code ws).host.gln = s.host.gln := rfl
@[simp] theorem State.final_gln (s : State) (r : Req) (code : Nat) (ws : List Word) : (s.final r code ws).host.gln = s.host.gln := rfl
@[simp] theorem State.finalOpt_gln (s : State) (r : Option Req) (code : Nat) (ws : List Word) :
    (s.finalOpt r code ws).host.gln = s.host.gln := by
  cases r <;> rfl

@[simp] theorem State.fireIrq_gln (s : State) (g : Guest) (src : Nat) : (s.fireIrq g src).host.gln = s.host.gln := by
  simp [State.fireIrq]

@[simp] theorem State.setIrq_gln (s : State) (g : Guest) (f : Irq → Irq) : (s.setIrq g f).host.gln = s.host.gln := by
  simp [State.setIrq]

@[simp] theorem State.irq_gln (s : State) (g : Guest) (src : Nat) : (s.irq g src).host.gln = s.host.gln := State.setIrq_gln s g _
@[simp] theorem State.irqAll_gln (s : State) (src : Nat) : (s.irqAll src).host.gln = s.host.gln := by simp [State.irqAll]
@[simp] theorem State.pendAll_gln (s : State) (src : Nat) (old : Vector Word 16) (bits : Word) :
    (s.pendAll src old bits).host.gln = s.host.gln := by simp [State.pendAll]
@[simp] theorem State.pendPort_gln (s : State) (p : Port) (old : Vector Word 16) (bits : Word) :
    (s.pendPort p old bits).host.gln = s.host.gln := by simp [State.pendPort]
@[simp] theorem State.irqSafe_gln (s : State) (p : Port) : (s.irqSafe p).host.gln = s.host.gln := by simp [State.irqSafe]

@[simp] theorem State.safRaise_gln (s : State) (bits : Word) : (s.safRaise bits).host.gln = s.host.gln := by simp [State.safRaise]
@[simp] theorem State.brkRaise_gln (s : State) (bits : Word) : (s.brkRaise bits).host.gln = s.host.gln := by simp [State.brkRaise]
@[simp] theorem State.sevRaise_gln (s : State) (p : Port) (bits : Word) : (s.sevRaise p bits).host.gln = s.host.gln := by
  simp [State.sevRaise]
@[simp] theorem State.imdRaise_gln (s : State) (p : Port) (bits : Word) : (s.imdRaise p bits).host.gln = s.host.gln := by
  simp [State.imdRaise]
@[simp] theorem State.sesRaise_gln (s : State) (p : Port) (bits : Word) : (s.sesRaise p bits).host.gln = s.host.gln := by
  simp [State.sesRaise]
@[simp] theorem State.nrgRaise_gln (s : State) (p : Port) (bits : Word) : (s.nrgRaise p bits).host.gln = s.host.gln := by
  simp [State.nrgRaise]
@[simp] theorem State.bilRaise_gln (s : State) (p : Port) (bits : Word) : (s.bilRaise p bits).host.gln = s.host.gln := by
  simp [State.bilRaise]
@[simp] theorem State.pqRaise_gln (s : State) (p : Port) (bits : Word) : (s.pqRaise p bits).host.gln = s.host.gln := by
  simp [State.pqRaise]
@[simp] theorem State.bilUnitRaise_gln (s : State) (bits : Word) : (s.bilUnitRaise bits).host.gln = s.host.gln := by
  simp [State.bilUnitRaise]

/-! ### Safety -/

@[simp] theorem State.availPoll_gln (s : State) (p : Port) : (s.availPoll p).host.gln = s.host.gln := by simp [State.availPoll]
@[simp] theorem State.testEnded_gln (s : State) (p : Port) (code result : Nat) : (s.testEnded p code result).host.gln = s.host.gln := by
  simp [State.testEnded]
@[simp] theorem State.testNotice_gln (s : State) (r : Option Req) (code measured : Nat) :
    (s.testNotice r code measured).host.gln = s.host.gln := by simp [State.testNotice]

@[simp] theorem State.abortBrake_gln (s : State) (b : Fin 2) : (s.abortBrake b).host.gln = s.host.gln := by
  unfold State.abortBrake
  split
  · rfl
  · extract_lets t t2
    split <;> simp [t2, t]

@[simp] theorem State.abortTests_gln (s : State) (p : Port) : (s.abortTests p).host.gln = s.host.gln := by
  unfold State.abortTests
  extract_lets s1 s2
  have h1 : s1.host.gln = s.host.gln := by unfold s1; split <;> rfl
  have h2 : s2.host.gln = s.host.gln := by unfold s2; split <;> simp [h1]
  split <;> simp [h2]

@[simp] theorem State.applyBrake_gln (s : State) (b : Fin 2) : (s.applyBrake b).host.gln = s.host.gln := by simp [State.applyBrake]
@[simp] theorem State.setPort_gln (s : State) (p : Port) (x : PortState) : (s.setPort p x).host.gln = s.host.gln := by
  simp [State.setPort]
@[simp] theorem State.settle_gln (s : State) (p : Port) : (s.settle p).host.gln = s.host.gln := by simp [State.settle]
@[simp] theorem State.clearCause_gln (s : State) (p : Port) (bit : Nat) : (s.clearCause p bit).host.gln = s.host.gln := by
  simp [State.clearCause]

@[simp] theorem State.tripPort_gln (s : State) (p : Port) (bit source outs : Nat) :
    (s.tripPort p bit source outs).host.gln = s.host.gln := by
  unfold State.tripPort
  extract_lets new s1 s2 s3
  have h1 : s1.host.gln = s.host.gln := by simp [s1]
  have h2 : s2.host.gln = s.host.gln := by unfold s2; split <;> simp [h1]
  have h3 : s3.host.gln = s.host.gln := by unfold s3; split <;> simp [h2]
  split <;> simp [h3]

@[simp] theorem State.portRows_gln (s : State) (p : Port) : (s.portRows p).host.gln = s.host.gln := by
  refine foldl_gln (fun t bit => ?_) _ s
  split <;> simp

@[simp] theorem State.evalRows_gln (s : State) : s.evalRows.host.gln = s.host.gln := by
  simp [State.evalRows]

@[simp] theorem State.siteTo_gln (s : State) (x : SiteState) : (s.siteTo x).host.gln = s.host.gln := by simp [State.siteTo]
@[simp] theorem State.checkStop_gln (s : State) : s.checkStop.host.gln = s.host.gln := by simp [State.checkStop]
@[simp] theorem State.openPort_gln (s : State) (p : Port) : (s.openPort p).host.gln = s.host.gln := by
  unfold State.openPort; split <;> simp
@[simp] theorem State.startWindow_gln (s : State) (p : Port) : (s.startWindow p).host.gln = s.host.gln := by
  unfold State.startWindow
  split
  · simp
  · split <;> simp
  · rfl
@[simp] theorem State.serviceLoss_gln (s : State) : s.serviceLoss.host.gln = s.host.gln := by simp [State.serviceLoss]

/-! ### Legal -/

@[simp] theorem State.closeInterval_gln (s : State) (p : Port) (n : Nat) (restored : Bool) :
    (s.closeInterval p n restored).host.gln = s.host.gln := by simp [State.closeInterval]

@[simp] theorem State.openInterval_gln (s : State) (p : Port) (n : Nat) : (s.openInterval p n).host.gln = s.host.gln := by
  unfold State.openInterval
  extract_lets b
  split
  · rfl
  · extract_lets t s1 s2 s3
    have h3 : s3.host.gln = s.host.gln := by unfold s3; split <;> rfl
    split <;> simp [h3]

@[simp] theorem State.tamperRecord_gln (s : State) (p : Port) (kind : Fin 5) (edge n : Nat) (v1 v2 : Int) (windowEnd restored : Bool) :
    (s.tamperRecord p kind edge n v1 v2 windowEnd restored).host.gln = s.host.gln := by
  simp [State.tamperRecord]

@[simp] theorem State.revExportAt_gln (s : State) (p : Port) (n : Nat) : (s.revExportAt p n).host.gln = s.host.gln := by
  unfold State.revExportAt; split <;> simp

@[simp] theorem State.latchAt_gln (s : State) (p : Port) (n : Nat) (periodic line subst restored : Bool) :
    (s.latchAt p n periodic line subst restored).host.gln = s.host.gln := by
  unfold State.latchAt
  extract_lets x early late x1 s1 cPi q inSes reg registered x2 s2 flags s3 s4 s5 s6 s7 s8
  have h4 : s4.host.gln = s.host.gln := by unfold s4 State.whenB; split <;> rfl
  have h6 : s6.host.gln = s.host.gln := by simp [s6, s5, h4]
  have h8 : s8.host.gln = s.host.gln := by simp [s8, s7, h6]
  split <;> exact h8

@[simp] theorem State.latchDue_gln (s : State) (p : Port) : (s.latchDue p).host.gln = s.host.gln := by simp [State.latchDue]
@[simp] theorem State.latchUpTo_gln (s : State) (p : Port) (n : Nat) : (s.latchUpTo p n).host.gln = s.host.gln := by
  simp [State.latchUpTo]
@[simp] theorem State.forcedLatch_gln (s : State) (p : Port) (n : Nat) : (s.forcedLatch p n).host.gln = s.host.gln := by
  simp [State.forcedLatch]
@[simp] theorem State.stopBilling_gln (s : State) (p : Port) (n : Nat) : (s.stopBilling p n).host.gln = s.host.gln := by
  simp [State.stopBilling]
@[simp] theorem State.holdStop_gln (s : State) : s.holdStop.host.gln = s.host.gln := by
  simp [State.holdStop, State.stopAllBilled]
@[simp] theorem State.sealBreak_gln (s : State) : s.sealBreak.host.gln = s.host.gln := by simp [State.sealBreak]
@[simp] theorem State.batteryStart_gln (s : State) : s.batteryStart.host.gln = s.host.gln := by simp [State.batteryStart]

/-! ### Configuration items -/

@[simp] theorem State.commit_gln (s : State) (r : Req) (items : List Item) : (s.commit r items).host.gln = s.host.gln := by
  unfold State.commit
  split
  · rfl
  · split
    · simp
    · split <;> simp

@[simp] theorem State.addItem_gln (s : State) (r : Req) (it : Item) : (s.addItem r it).host.gln = s.host.gln := by
  unfold State.addItem
  split
  · split <;> simp
  · simp

@[simp] theorem State.systemItem_gln (s : State) (r : Req) : (s.systemItem r).host.gln = s.host.gln := by
  simp [State.systemItem, State.plainItem]

/-! ### The resets -/

/-- A chip reset binds GLN as the configuration says once every committed transaction has applied (R66). -/
theorem State.chipReset_gln (cause : Nat) (h : s.sys.power ≠ .dormant) : (s.chipReset cause).host.gln = s.projected.glnBind := by
  unfold State.chipReset
  rw [if_neg (by simpa using h)]
  extract_lets cleared time conf s1 s2
  have h2 : s2.host.gln = s.projected.glnBind := by simp [s2, s1, State.hostReset]
  split <;> simp [h2]

/-- The release of a power-on reset binds GLN in the same way (R66). -/
theorem execPorRelease_gln (h : s.sys.power = .dormant) (hexec : execPorRelease s = .next t) :
    t.host.gln = s.projected.glnBind := by
  unfold execPorRelease at hexec
  rw [if_neg (by simp [h])] at hexec
  cases hexec
  simp

/-! ### Accesses over GLN while it is bound to no guest -/

/-- An access is answered with 0xFFFF where it is a read and the interface has its supply; the access itself never happens. -/
theorem State.access_of_unbound {g : Guest} {off be : Nat} {write shape : Bool} {f : State → State} (h : s.host.gln = none) :
    s.access .gln g off write be shape f = if s.host.glnVio && !write then s.emit .glnFFFF else s := by
  simp [State.access, h]

theorem execGlnLowWordRead_of_unbound {off : Nat} (hvio : s.host.glnVio = true) (h : s.host.gln = none) (hoff : off < 0x2000)
    (heven : off % 2 = 0) : execGlnLowWordRead off s = .next (s.emit .glnFFFF) := by
  simp [execGlnLowWordRead, State.access_of_unbound h, hvio, heven, Nat.not_le.mpr hoff]

theorem execRegisterWrite_of_unbound (g : Guest) (off : Nat) (v : Word) (h : s.host.gln = none) :
    execRegisterWrite .gln g off v s = .next s := by
  unfold execRegisterWrite
  cases msixVector off with
  | some k => rfl
  | none => simp [State.access_of_unbound h]

/-- What would be a violation of a bound guest is not logged: the answer alone may differ. -/
theorem execAccessViolation_of_unbound {g : Guest} {off be : Nat} {write shape : Bool} (h : s.host.gln = none)
    (hexec : execAccessViolation .gln g off write be shape s = .next t) : Only [.sent] s t := by
  simp only [execAccessViolation, State.access_of_unbound h] at hexec
  cases hexec
  exact Only.ite (Only.ite (State.emit_only ..) (Only.refl _ _)) (Only.refl _ _)

/-- Settles O24, from what an access does without a binding and from the operations that keep the binding. -/
theorem glnWithoutABinding : Obligations.GlnWithoutABinding := by
  refine ⟨fun off s hvio h hoff heven => ?_, fun g off v s h => ?_, fun g off be write shape s t h hexec => ?_,
    fun k s h => ?_, fun s t h hexec => ?_, fun r s t hexec => ?_⟩
  · exact execGlnLowWordRead_of_unbound hvio h hoff heven
  · exact execRegisterWrite_of_unbound g off v h
  · exact (execAccessViolation_of_unbound h hexec).same
  · exact State.chipReset_gln k h
  · exact execPorRelease_gln h hexec
  · cases hexec
    exact State.systemItem_gln s r

end Sys2Proof.Machine
end

section
/-! ADD_CREDIT (spec 07 R174): the session record with the credit added, and the answer in each case. Which cases are OUT_OF_RANGE and
WRONG_STATE, and the limits of 2^48 mWh and 604 800 s, are of R179 and R180; WRONG_STATE before OUT_OF_RANGE is the model's choice
(log 13). -/

namespace Sys2Proof.Machine

variable {s t : State} {r : Req} {b : SesRec}

/-! ### The record of an open session -/

/-- The record with the credit of an ADD_CREDIT on it, where `imp` is the energy used and `secs` the time. A warning is withdrawn where
less than 9/10 of the new credit is used (R174). -/
def SesRec.addCredit (b : SesRec) (r : Req) (imp secs : Nat) : SesRec :=
  { b with
    creditE := b.creditE + r.nat48 3
    creditT := b.creditT + r.fld 5 23 0
    warned := b.warned && 9 * (b.creditE + r.nat48 3) ≤ 10 * imp
    warnedT := b.warnedT && 9 * (b.creditT + r.fld 5 23 0) ≤ 10 * secs }

theorem SesRec.addCredit_warned (b : SesRec) (r : Req) (imp secs : Nat) :
    (b.addCredit r imp secs).warned = (b.warned && !decide (10 * imp < 9 * (b.creditE + r.nat48 3))) := by
  simp only [SesRec.addCredit, ← decide_not, not_lt]

theorem SesRec.addCredit_warnedT (b : SesRec) (r : Req) (imp secs : Nat) :
    (b.addCredit r imp secs).warnedT = (b.warnedT && !decide (10 * secs < 9 * (b.creditT + r.fld 5 23 0))) := by
  simp only [SesRec.addCredit, ← decide_not, not_lt]

/-- The credit asked for can be added: each kind is one that the session carries, and each total is in the range of
AUTHORISE_SESSION (R179, R180). -/
structure SesRec.TakesCredit (b : SesRec) (r : Req) : Prop where
  carriesE : r.nat48 3 = 0 ∨ b.creditE ≠ 0
  carriesT : r.fld 5 23 0 = 0 ∨ b.creditT ≠ 0
  limitE : b.creditE + r.nat48 3 < 2 ^ 48
  limitT : b.creditT + r.fld 5 23 0 ≤ 604800

/-- The test of `execAddCredit` for OUT_OF_RANGE. -/
theorem SesRec.not_takesCredit_iff : ¬ b.TakesCredit r ↔
    ((r.nat48 3 != 0 && b.creditE = 0) || (r.fld 5 23 0 != 0 && b.creditT = 0) || 2 ^ 48 ≤ b.creditE + r.nat48 3 ||
      604800 < b.creditT + r.fld 5 23 0) = true := by
  simp only [Bool.or_eq_true, Bool.and_eq_true, bne_iff_ne, decide_eq_true_eq]
  constructor
  · intro h
    by_contra hgood
    exact h ⟨by omega, by omega, by omega, by omega⟩
  · rintro hbad ⟨hE, hT, hlimE, hlimT⟩
    omega

/-- Legal's record with the added credit, and the session engine's copy of the warnings. -/
def State.raiseCredit (s : State) (r : Req) (b : SesRec) : State :=
  let b' := b.addCredit r (s.nrgAt r.port).sesImp ((s.legal.proc - b.nOpen) / 51200)
  (s.modBil r.port fun y => { y with ses := some b' }).modSes r.port fun y => { y with warnE := b'.warned, warnT := b'.warnedT }

@[simp] theorem State.answer_bilAt (s : State) (r : Req) (code : Nat) (ws : List Word) (p : Port) :
    (s.answer r code ws).bilAt p = s.bilAt p := rfl

@[simp] theorem State.modSes_bilAt (s : State) (i p : Port) (f : Ses → Ses) : (s.modSes i f).bilAt p = s.bilAt p := rfl

theorem State.raiseCredit_ses (s : State) (r : Req) (b : SesRec) :
    ((s.raiseCredit r b).bilAt r.port).ses =
      some (b.addCredit r (s.nrgAt r.port).sesImp ((s.legal.proc - b.nOpen) / 51200)) := by
  simp [State.raiseCredit]

/-! ### The answers -/

/-- After OUT, or with the session no longer open, nothing is added. -/
theorem execAddCredit_of_over (hses : (s.bilAt r.port).ses = some b)
    (hover : (b.out || !(s.sesAt r.port).sesOpen) = true) :
    execAddCredit r s = .next (s.answer r Code.wrongState) := by
  simp only [execAddCredit, hses, hover, if_true]

theorem execAddCredit_of_not_takes (hses : (s.bilAt r.port).ses = some b)
    (hover : (b.out || !(s.sesAt r.port).sesOpen) = false) (h : ¬ b.TakesCredit r) :
    execAddCredit r s = .next (s.answer r Code.outOfRange) := by
  simp only [execAddCredit, hses, hover, Bool.false_eq_true, if_false, if_pos (SesRec.not_takesCredit_iff.mp h)]

theorem execAddCredit_of_takes (hses : (s.bilAt r.port).ses = some b)
    (hover : (b.out || !(s.sesAt r.port).sesOpen) = false) (h : b.TakesCredit r) :
    let u := s.raiseCredit r b
    execAddCredit r s = .next (u.answer r Code.done (pair48 (u.creditLeft r.port).1 ++ [pack [(23, 0, (u.creditLeft r.port).2.1)]])) := by
  simp only [execAddCredit, hses, hover, Bool.false_eq_true, if_false, if_neg (SesRec.not_takesCredit_iff.not_right.mp h)]
  rfl

/-- What an ADD_CREDIT leaves of a session's record: the record as it was, or with the credit added. -/
theorem execAddCredit_ses (hses : (s.bilAt r.port).ses = some b) (hexec : execAddCredit r s = .next t) :
    (t.bilAt r.port).ses = some b ∨
      (t.bilAt r.port).ses = some (b.addCredit r (s.nrgAt r.port).sesImp ((s.legal.proc - b.nOpen) / 51200)) := by
  cases hover : b.out || !(s.sesAt r.port).sesOpen with
  | true =>
    cases (execAddCredit_of_over hses hover).symm.trans hexec
    exact .inl hses
  | false =>
    by_cases htakes : b.TakesCredit r
    · cases (execAddCredit_of_takes hses hover htakes).symm.trans hexec
      exact .inr (s.raiseCredit_ses r b)
    · cases (execAddCredit_of_not_takes hses hover htakes).symm.trans hexec
      exact .inl hses

/-- Settles O15, from the answer of ADD_CREDIT in each case and from what each leaves of the session's record. -/
theorem addCreditRaisesCreditOnly : Obligations.AddCreditRaisesCreditOnly := by
  refine ⟨fun r b s hses hout hopen hE hT hlimE hlimT => ?_, fun r b s hses hnot hout hopen => ?_, fun r b s hses hout => ?_,
    fun r b b' s t hses hexec hses' => ?_⟩
  · exact ⟨_, _, execAddCredit_of_takes hses (by simp [hout, hopen]) ⟨hE, hT, hlimE, hlimT⟩, s.raiseCredit_ses r b, rfl, rfl,
      SesRec.addCredit_warned .., SesRec.addCredit_warnedT ..⟩
  · refine execAddCredit_of_not_takes hses (by simp [hout, hopen]) fun h => ?_
    rcases hnot with ⟨hadd, hnone⟩ | ⟨hadd, hnone⟩
    · exact h.carriesE.elim hadd (· hnone)
    · exact h.carriesT.elim hadd (· hnone)
  · exact execAddCredit_of_over hses (by simp [hout])
  · rcases execAddCredit_ses hses hexec with hkept | hraised
    · cases hkept.symm.trans hses'
      exact ⟨le_rfl, le_rfl⟩
    · cases hraised.symm.trans hses'
      exact ⟨Nat.le_add_right .., Nat.le_add_right ..⟩

end Sys2Proof.Machine
end

section
/-! The frame of every command: what it may write is what `writes` names for it. -/

namespace Sys2Proof.Machine

theorem OnlyRes.mono {ps qs : List Part} {s : State} {r : Res} (h : OnlyRes qs s r) (hq : within qs ps = true) : OnlyRes ps s r :=
  ⟨fun t ht => (h.only t ht).mono hq⟩

/-- Every command writes the parts of `writes` alone. -/
theorem exec_only : (i : Instr) → (s : State) → OnlyRes (writes i) s (exec i s)
  | .mbxGo .., _ => (execMbxGo_only ..).mono rfl
  | .messageFetch .., _ => (execMessageFetch_only ..).mono rfl
  | .commandStart .., _ => (execCommandStart_only ..).mono rfl
  | .commandComplete .., _ => (execCommandComplete_only ..).mono rfl
  | .responseToMailbox .., _ => (execResponseToMailbox_only ..).mono rfl
  | .mbxResponseRead .., _ => (execMbxResponseRead_only ..).mono rfl
  | .mbxAbortClear .., _ => (execMbxAbortClear_only ..).mono rfl
  | .finalNotice .., _ => (execFinalNotice_only ..).mono rfl
  | .registerWrite .., _ => (execRegisterWrite_only ..).mono rfl
  | .pairLowRead .., _ => (execPairLowRead_only ..).mono rfl
  | .glnLowWordRead .., _ => (execGlnLowWordRead_only ..).mono rfl
  | .accessViolation .., _ => (execAccessViolation_only ..).mono rfl
  | .poisonedTlp .., _ => (execPoisonedTlp_only ..).mono rfl
  | .numvfsWrite .., _ => (execNumvfsWrite_only ..).mono rfl
  | .vfEnableClear, _ => (execVfEnableClear_only ..).mono rfl
  | .flr .., _ => (execFlr_only ..).mono rfl
  | .perstAssert, _ => (execPerstAssert_only ..).mono rfl
  | .hostLinkDown, _ => (execHostLinkDown_only ..).mono rfl
  | .hostLinkTrained, _ => (execHostLinkTrained_only ..).mono rfl
  | .sysGuestHbWrite .., _ => (execSysGuestHbWrite_only ..).mono rfl
  | .heartbeatExpiry .., _ => (execHeartbeatExpiry_only ..).mono rfl
  | .guestReset .., _ => (execGuestReset_only ..).mono rfl
  | .irqStatusClear .., _ => (execIrqStatusClear_only ..).mono rfl
  | .irqArm .., _ => (execIrqArm_only ..).mono rfl
  | .msixVectorUnmask .., _ => (execMsixVectorUnmask_only ..).mono rfl
  | .sysViolClr .., _ => (execSysViolClr_only ..).mono rfl
  | .pfcSnap .., _ => (execPfcSnap_only ..).mono rfl
  | .pfcChipSnap .., _ => (execPfcChipSnap_only ..).mono rfl
  | .pfcFreeze .., _ => (execPfcFreeze_only ..).mono rfl
  | .pfcPreset .., _ => (execPfcPreset_only ..).mono rfl
  | .pfcOvfClear .., _ => (execPfcOvfClear_only ..).mono rfl
  | .queDbH2d .., _ => (execQueDbH2d_only ..).mono rfl
  | .queDbD2hClear .., _ => (execQueDbD2hClear_only ..).mono rfl
  | .txnTimeout .., _ => (execTxnTimeout_only ..).mono rfl
  | .vpEventRead .., _ => (execVpEventRead_only ..).mono rfl
  | .sesEventRead .., _ => (execSesEventRead_only ..).mono rfl
  | .pwrEventRead .., _ => (execPwrEventRead_only ..).mono rfl
  | .metEventRead .., _ => (execMetEventRead_only ..).mono rfl
  | .nrgEventRead .., _ => (execNrgEventRead_only ..).mono rfl
  | .bilEventRead .., _ => (execBilEventRead_only ..).mono rfl
  | .bilUnitEventRead .., _ => (execBilUnitEventRead_only ..).mono rfl
  | .pqEventRead .., _ => (execPqEventRead_only ..).mono rfl
  | .pqSiteEventRead .., _ => (execPqSiteEventRead_only ..).mono rfl
  | .safSiteEventRead .., _ => (execSafSiteEventRead_only ..).mono rfl
  | .safEventRead .., _ => (execSafEventRead_only ..).mono rfl
  | .imdEventRead .., _ => (execImdEventRead_only ..).mono rfl
  | .brkEventRead .., _ => (execBrkEventRead_only ..).mono rfl
  | .lsEventRead .., _ => (execLsEventRead_only ..).mono rfl
  | .chnEventRead .., _ => (execChnEventRead_only ..).mono rfl
  | .mshEventRead .., _ => (execMshEventRead_only ..).mono rfl
  | .jnlEventRead .., _ => (execJnlEventRead_only ..).mono rfl
  | .cavEventRead .., _ => (execCavEventRead_only ..).mono rfl
  | .keyEventRead .., _ => (execKeyEventRead_only ..).mono rfl
  | .updEventRead .., _ => (execUpdEventRead_only ..).mono rfl
  | .nfcEventRead .., _ => (execNfcEventRead_only ..).mono rfl
  | .dspEventRead .., _ => (execDspEventRead_only ..).mono rfl
  | .getDeviceInfo .., _ => (execGetDeviceInfo_only ..).mono rfl
  | .getImageDigest .., _ => (execGetImageDigest_only ..).mono rfl
  | .echo .., _ => (execEcho_only ..).mono rfl
  | .getConfigState .., _ => (execGetConfigState_only ..).mono rfl
  | .beginConfig .., _ => (execBeginConfig_only ..).mono rfl
  | .commitConfig .., _ => (execCommitConfig_only ..).mono rfl
  | .abortConfig .., _ => (execAbortConfig_only ..).mono rfl
  | .setTrefMode .., _ => (execSetTrefMode_only ..).mono rfl
  | .acceptTrefPhase .., _ => (execAcceptTrefPhase_only ..).mono rfl
  | .requestSiteSleep .., _ => (execRequestSiteSleep_only ..).mono rfl
  | .resetChip .., _ => (execResetChip_only ..).mono rfl
  | .getCommandCost .., _ => (execGetCommandCost_only ..).mono rfl
  | .getQueueState .., _ => (execGetQueueState_only ..).mono rfl
  | .setQueueRange .., _ => (execSetQueueRange_only ..).mono rfl
  | .getGuestConfig .., _ => (execGetGuestConfig_only ..).mono rfl
  | .setGuestCaps .., _ => (execSetGuestCaps_only ..).mono rfl
  | .setGuestQos .., _ => (execSetGuestQos_only ..).mono rfl
  | .setGuestHeartbeat .., _ => (execSetGuestHeartbeat_only ..).mono rfl
  | .setGlnBind .., _ => (execSetGlnBind_only ..).mono rfl
  | .resetGuest .., _ => (execResetGuest_only ..).mono rfl
  | .relayMessage .., _ => (execRelayMessage_only ..).mono rfl
  | .getPortStatus .., _ => (execGetPortStatus_only ..).mono rfl
  | .getVehicleInfo .., _ => (execGetVehicleInfo_only ..).mono rfl
  | .getLinkStats .., _ => (execGetLinkStats_only ..).mono rfl
  | .getCertRequest .., _ => (execGetCertRequest_only ..).mono rfl
  | .claimPort .., _ => (execClaimPort_only ..).mono rfl
  | .releasePort .., _ => (execReleasePort_only ..).mono rfl
  | .setPortConfig .., _ => (execSetPortConfig_only ..).mono rfl
  | .setAcCurrent .., _ => (execSetAcCurrent_only ..).mono rfl
  | .driveLock .., _ => (execDriveLock_only ..).mono rfl
  | .resetPort .., _ => (execResetPort_only ..).mono rfl
  | .loadTrustAnchor .., _ => (execLoadTrustAnchor_only ..).mono rfl
  | .certExchangeReply .., _ => (execCertExchangeReply_only ..).mono rfl
  | .getSessionStatus .., _ => (execGetSessionStatus_only ..).mono rfl
  | .getSessionSummary .., _ => (execGetSessionSummary_only ..).mono rfl
  | .authoriseSession .., _ => (execAuthoriseSession_only ..).mono rfl
  | .addCredit .., _ => (execAddCredit_only ..).mono rfl
  | .stopSession .., _ => (execStopSession_only ..).mono rfl
  | .clearFault .., _ => (execClearFault_only ..).mono rfl
  | .setSessionConfig .., _ => (execSetSessionConfig_only ..).mono rfl
  | .getPowerStatus .., _ => (execGetPowerStatus_only ..).mono rfl
  | .getLeaseStatus .., _ => (execGetLeaseStatus_only ..).mono rfl
  | .getConverterLimits .., _ => (execGetConverterLimits_only ..).mono rfl
  | .getPmLinkStats .., _ => (execGetPmLinkStats_only ..).mono rfl
  | .setPowerConfig .., _ => (execSetPowerConfig_only ..).mono rfl
  | .setPortLimit .., _ => (execSetPortLimit_only ..).mono rfl
  | .setLeaseConfig .., _ => (execSetLeaseConfig_only ..).mono rfl
  | .setSitePower .., _ => (execSetSitePower_only ..).mono rfl
  | .setPmLinkConfig .., _ => (execSetPmLinkConfig_only ..).mono rfl
  | .reduceSitePower .., _ => (execReduceSitePower_only ..).mono rfl
  | .getMetrologyStatus .., _ => (execGetMetrologyStatus_only ..).mono rfl
  | .getChannelReading .., _ => (execGetChannelReading_only ..).mono rfl
  | .getVerification .., _ => (execGetVerification_only ..).mono rfl
  | .getHeadInfo .., _ => (execGetHeadInfo_only ..).mono rfl
  | .getCalCoeff .., _ => (execGetCalCoeff_only ..).mono rfl
  | .setMetrologyConfig .., _ => (execSetMetrologyConfig_only ..).mono rfl
  | .beginCalibration .., _ => (execBeginCalibration_only ..).mono rfl
  | .setCalCoeff .., _ => (execSetCalCoeff_only ..).mono rfl
  | .calMeasure .., _ => (execCalMeasure_only ..).mono rfl
  | .endCalibration .., _ => (execEndCalibration_only ..).mono rfl
  | .abortCalibration .., _ => (execAbortCalibration_only ..).mono rfl
  | .getEnergyStatus .., _ => (execGetEnergyStatus_only ..).mono rfl
  | .getRegisters .., _ => (execGetRegisters_only ..).mono rfl
  | .getAccumulator .., _ => (execGetAccumulator_only ..).mono rfl
  | .getSupplyStatus .., _ => (execGetSupplyStatus_only ..).mono rfl
  | .setEnergyConfig .., _ => (execSetEnergyConfig_only ..).mono rfl
  | .setPulseInput .., _ => (execSetPulseInput_only ..).mono rfl
  | .setSupplyConfig .., _ => (execSetSupplyConfig_only ..).mono rfl
  | .setPulseSource .., _ => (execSetPulseSource_only ..).mono rfl
  | .runCrossCheck .., _ => (execRunCrossCheck_only ..).mono rfl
  | .getBillingStatus .., _ => (execGetBillingStatus_only ..).mono rfl
  | .getChainHead .., _ => (execGetChainHead_only ..).mono rfl
  | .getSessionRecord .., _ => (execGetSessionRecord_only ..).mono rfl
  | .getSealStatus .., _ => (execGetSealStatus_only ..).mono rfl
  | .getLegalPubkey .., _ => (execGetLegalPubkey_only ..).mono rfl
  | .setBillingConfig .., _ => (execSetBillingConfig_only ..).mono rfl
  | .setTariffSchedule .., _ => (execSetTariffSchedule_only ..).mono rfl
  | .switchTariff .., _ => (execSwitchTariff_only ..).mono rfl
  | .setWallClock .., _ => (execSetWallClock_only ..).mono rfl
  | .getSealChallenge .., _ => (execGetSealChallenge_only ..).mono rfl
  | .reseal .., _ => (execReseal_only ..).mono rfl
  | .getOpticalStatus .., _ => (execGetOpticalStatus_only ..).mono rfl
  | .setOpticalConfig .., _ => (execSetOpticalConfig_only ..).mono rfl
  | .getPqStatus .., _ => (execGetPqStatus_only ..).mono rfl
  | .getTamperStatus .., _ => (execGetTamperStatus_only ..).mono rfl
  | .getPqEvents .., _ => (execGetPqEvents_only ..).mono rfl
  | .getTamperRecord .., _ => (execGetTamperRecord_only ..).mono rfl
  | .setPqConfig .., _ => (execSetPqConfig_only ..).mono rfl
  | .getSafetyStatus .., _ => (execGetSafetyStatus_only ..).mono rfl
  | .getPortSafety .., _ => (execGetPortSafety_only ..).mono rfl
  | .getTripLog .., _ => (execGetTripLog_only ..).mono rfl
  | .getSafetyTableInfo .., _ => (execGetSafetyTableInfo_only ..).mono rfl
  | .resetTrip .., _ => (execResetTrip_only ..).mono rfl
  | .requestSafetyRestart .., _ => (execRequestSafetyRestart_only ..).mono rfl
  | .requestSafeOut .., _ => (execRequestSafeOut_only ..).mono rfl
  | .getEarthStatus .., _ => (execGetEarthStatus_only ..).mono rfl
  | .getImdGroup .., _ => (execGetImdGroup_only ..).mono rfl
  | .runInsulationSelftest .., _ => (execRunInsulationSelftest_only ..).mono rfl
  | .getActuatorStatus .., _ => (execGetActuatorStatus_only ..).mono rfl
  | .runWeldTest .., _ => (execRunWeldTest_only ..).mono rfl
  | .runBrakeTest .., _ => (execRunBrakeTest_only ..).mono rfl
  | .releaseBrake .., _ => (execReleaseBrake_only ..).mono rfl
  | .applyBrake .., _ => (execApplyBrake_only ..).mono rfl
  | .getLsStatus .., _ => (execGetLsStatus_only ..).mono rfl
  | .getLsChannel .., _ => (execGetLsChannel_only ..).mono rfl
  | .getLkStatus .., _ => (execGetLkStatus_only ..).mono rfl
  | .setLsOutput .., _ => (execSetLsOutput_only ..).mono rfl
  | .clearLsFault .., _ => (execClearLsFault_only ..).mono rfl
  | .setLsConfig .., _ => (execSetLsConfig_only ..).mono rfl
  | .setLsSupplyConfig .., _ => (execSetLsSupplyConfig_only ..).mono rfl
  | .setLkConfig .., _ => (execSetLkConfig_only ..).mono rfl
  | .getChainStatus .., _ => (execGetChainStatus_only ..).mono rfl
  | .getChainMembers .., _ => (execGetChainMembers_only ..).mono rfl
  | .getLinkCounters .., _ => (execGetLinkCounters_only ..).mono rfl
  | .getMirroredEvents .., _ => (execGetMirroredEvents_only ..).mono rfl
  | .setChainConfig .., _ => (execSetChainConfig_only ..).mono rfl
  | .removeUnit .., _ => (execRemoveUnit_only ..).mono rfl
  | .sendTripAdvice .., _ => (execSendTripAdvice_only ..).mono rfl
  | .clearLinkCounters .., _ => (execClearLinkCounters_only ..).mono rfl
  | .getMeshStatus .., _ => (execGetMeshStatus_only ..).mono rfl
  | .getMeshNeighbours .., _ => (execGetMeshNeighbours_only ..).mono rfl
  | .getToneMap .., _ => (execGetToneMap_only ..).mono rfl
  | .getPhaseMap .., _ => (execGetPhaseMap_only ..).mono rfl
  | .setMeshConfig .., _ => (execSetMeshConfig_only ..).mono rfl
  | .setCoexMask .., _ => (execSetCoexMask_only ..).mono rfl
  | .clearMeshCounters .., _ => (execClearMeshCounters_only ..).mono rfl
  | .getJournalStatus .., _ => (execGetJournalStatus_only ..).mono rfl
  | .getCaveStatus .., _ => (execGetCaveStatus_only ..).mono rfl
  | .findCaveRecord .., _ => (execFindCaveRecord_only ..).mono rfl
  | .readWaveform .., _ => (execReadWaveform_only ..).mono rfl
  | .readCaveRaw .., _ => (execReadCaveRaw_only ..).mono rfl
  | .setCaveConfig .., _ => (execSetCaveConfig_only ..).mono rfl
  | .formatCave .., _ => (execFormatCave_only ..).mono rfl
  | .markWindow .., _ => (execMarkWindow_only ..).mono rfl
  | .getKeyStatus .., _ => (execGetKeyStatus_only ..).mono rfl
  | .getSlotInfo .., _ => (execGetSlotInfo_only ..).mono rfl
  | .getPublicKey .., _ => (execGetPublicKey_only ..).mono rfl
  | .getAttestation .., _ => (execGetAttestation_only ..).mono rfl
  | .getAuditLog .., _ => (execGetAuditLog_only ..).mono rfl
  | .generateKey .., _ => (execGenerateKey_only ..).mono rfl
  | .importKey .., _ => (execImportKey_only ..).mono rfl
  | .exportKey .., _ => (execExportKey_only ..).mono rfl
  | .deleteKey .., _ => (execDeleteKey_only ..).mono rfl
  | .signDigest .., _ => (execSignDigest_only ..).mono rfl
  | .verifySignature .., _ => (execVerifySignature_only ..).mono rfl
  | .openKeySession .., _ => (execOpenKeySession_only ..).mono rfl
  | .closeKeySession .., _ => (execCloseKeySession_only ..).mono rfl
  | .setRtcAlarm .., _ => (execSetRtcAlarm_only ..).mono rfl
  | .renewRoot .., _ => (execRenewRoot_only ..).mono rfl
  | .retireDevice .., _ => (execRetireDevice_only ..).mono rfl
  | .getUpdateStatus .., _ => (execGetUpdateStatus_only ..).mono rfl
  | .beginStaging .., _ => (execBeginStaging_only ..).mono rfl
  | .abortStaging .., _ => (execAbortStaging_only ..).mono rfl
  | .scheduleActivation .., _ => (execScheduleActivation_only ..).mono rfl
  | .cancelActivation .., _ => (execCancelActivation_only ..).mono rfl
  | .setUpdateConfig .., _ => (execSetUpdateConfig_only ..).mono rfl
  | .getNfcStatus .., _ => (execGetNfcStatus_only ..).mono rfl
  | .setNfcConfig .., _ => (execSetNfcConfig_only ..).mono rfl
  | .transceiveApdu .., _ => (execTransceiveApdu_only ..).mono rfl
  | .releaseCard .., _ => (execReleaseCard_only ..).mono rfl
  | .setTagPublic .., _ => (execSetTagPublic_only ..).mono rfl
  | .setTagSecrets .., _ => (execSetTagSecrets_only ..).mono rfl
  | .resetTagLock .., _ => (execResetTagLock_only ..).mono rfl
  | .getDisplayStatus .., _ => (execGetDisplayStatus_only ..).mono rfl
  | .setDisplayConfig .., _ => (execSetDisplayConfig_only ..).mono rfl
  | .loadOverdrive .., _ => (execLoadOverdrive_only ..).mono rfl
  | .updateRegion .., _ => (execUpdateRegion_only ..).mono rfl
  | .setPanelPower .., _ => (execSetPanelPower_only ..).mono rfl
  | .selectLegalView .., _ => (execSelectLegalView_only ..).mono rfl
  | .powerOnReset .., _ => (execPowerOnReset_only ..).mono rfl
  | .porRelease, _ => (execPorRelease_only ..).mono rfl
  | .safetyInitDone .., _ => (execSafetyInitDone_only ..).mono rfl
  | .legalStartDone .., _ => (execLegalStartDone_only ..).mono rfl
  | .serviceImageStart .., _ => (execServiceImageStart_only ..).mono rfl
  | .configJournalReplay .., _ => (execConfigJournalReplay_only ..).mono rfl
  | .chainJoinDone, _ => (execChainJoinDone_only ..).mono rfl
  | .chipReset, _ => (execChipReset_only ..).mono rfl
  | .serviceWatchdogExpiry, _ => (execServiceWatchdogExpiry_only ..).mono rfl
  | .eccUncorrectable, _ => (execEccUncorrectable_only ..).mono rfl
  | .clockDeviation, _ => (execClockDeviation_only ..).mono rfl
  | .sleepAnswerTimeout, _ => (execSleepAnswerTimeout_only ..).mono rfl
  | .sleepPointOfNoReturn, _ => (execSleepPointOfNoReturn_only ..).mono rfl
  | .dozeEntry, _ => (execDozeEntry_only ..).mono rfl
  | .dozeWake .., _ => (execDozeWake_only ..).mono rfl
  | .trefPpsEdge .., _ => (execTrefPpsEdge_only ..).mono rfl
  | .trefPpsTimeout, _ => (execTrefPpsTimeout_only ..).mono rfl
  | .tref10mLoss, _ => (execTref10mLoss_only ..).mono rfl
  | .rateFaultClear, _ => (execRateFaultClear_only ..).mono rfl
  | .cpPeriod .., _ => (execCpPeriod_only ..).mono rfl
  | .cpInvalidTimeout .., _ => (execCpInvalidTimeout_only ..).mono rfl
  | .ppMeasurement .., _ => (execPpMeasurement_only ..).mono rfl
  | .cmSlacParmReq .., _ => (execCmSlacParmReq_only ..).mono rfl
  | .cmStartAttenChar .., _ => (execCmStartAttenChar_only ..).mono rfl
  | .cmMnbcSound .., _ => (execCmMnbcSound_only ..).mono rfl
  | .soundingComplete .., _ => (execSoundingComplete_only ..).mono rfl
  | .cmValidate .., _ => (execCmValidate_only ..).mono rfl
  | .cmSlacMatchReq .., _ => (execCmSlacMatchReq_only ..).mono rfl
  | .cmSetKeyCnf .., _ => (execCmSetKeyCnf_only ..).mono rfl
  | .slacTimerExpiry .., _ => (execSlacTimerExpiry_only ..).mono rfl
  | .slacInitTimeout .., _ => (execSlacInitTimeout_only ..).mono rfl
  | .linkRetryEnd .., _ => (execLinkRetryEnd_only ..).mono rfl
  | .basicFallbackEnd .., _ => (execBasicFallbackEnd_only ..).mono rfl
  | .t1sFirstFrame .., _ => (execT1sFirstFrame_only ..).mono rfl
  | .sdpRequest .., _ => (execSdpRequest_only ..).mono rfl
  | .supportedAppProtocol .., _ => (execSupportedAppProtocol_only ..).mono rfl
  | .tcpClosed .., _ => (execTcpClosed_only ..).mono rfl
  | .protocolSequenceTimeout .., _ => (execProtocolSequenceTimeout_only ..).mono rfl
  | .authorizationReq .., _ => (execAuthorizationReq_only ..).mono rfl
  | .contractChainPresented .., _ => (execContractChainPresented_only ..).mono rfl
  | .contract .., _ => (execContract_only ..).mono rfl
  | .certInstallRequest .., _ => (execCertInstallRequest_only ..).mono rfl
  | .certReplyTimeout .., _ => (execCertReplyTimeout_only ..).mono rfl
  | .cableCheckReq .., _ => (execCableCheckReq_only ..).mono rfl
  | .vehicleTarget .., _ => (execVehicleTarget_only ..).mono rfl
  | .vehiclePause .., _ => (execVehiclePause_only ..).mono rfl
  | .vehicleResume .., _ => (execVehicleResume_only ..).mono rfl
  | .vehicleStop .., _ => (execVehicleStop_only ..).mono rfl
  | .lockPulseEnd .., _ => (execLockPulseEnd_only ..).mono rfl
  | .lockFeedbackTimeout .., _ => (execLockFeedbackTimeout_only ..).mono rfl
  | .lockAttemptTimer .., _ => (execLockAttemptTimer_only ..).mono rfl
  | .legalSessionOpen .., _ => (execLegalSessionOpen_only ..).mono rfl
  | .authTimeout .., _ => (execAuthTimeout_only ..).mono rfl
  | .preauthLapsed .., _ => (execPreauthLapsed_only ..).mono rfl
  | .prechargeTimeout .., _ => (execPrechargeTimeout_only ..).mono rfl
  | .rampTimeout .., _ => (execRampTimeout_only ..).mono rfl
  | .pauseLimit .., _ => (execPauseLimit_only ..).mono rfl
  | .linkLostGrace .., _ => (execLinkLostGrace_only ..).mono rfl
  | .selftestDue .., _ => (execSelftestDue_only ..).mono rfl
  | .selftestOverdue .., _ => (execSelftestOverdue_only ..).mono rfl
  | .sealedReport .., _ => (execSealedReport_only ..).mono rfl
  | .legalGap .., _ => (execLegalGap_only ..).mono rfl
  | .creditOut .., _ => (execCreditOut_only ..).mono rfl
  | .legalReading .., _ => (execLegalReading_only ..).mono rfl
  | .legalState, _ => (execLegalState_only ..).mono rfl
  | .stepInstant .., _ => (execStepInstant_only ..).mono rfl
  | .runAheadReplan .., _ => (execRunAheadReplan_only ..).mono rfl
  | .recallRepeat .., _ => (execRecallRepeat_only ..).mono rfl
  | .pmAck .., _ => (execPmAck_only ..).mono rfl
  | .pmStatus .., _ => (execPmStatus_only ..).mono rfl
  | .pmLimits .., _ => (execPmLimits_only ..).mono rfl
  | .pmFault l ch seq code off, s => (execPmFault_only l ch seq code off s).mono rfl
  | .pmBadFrame .., _ => (execPmBadFrame_only ..).mono rfl
  | .pmSyncSend .., _ => (execPmSyncSend_only ..).mono rfl
  | .pmRxSilence .., _ => (execPmRxSilence_only ..).mono rfl
  | .pmAckTimeout .., _ => (execPmAckTimeout_only ..).mono rfl
  | .pmLinkRetrain .., _ => (execPmLinkRetrain_only ..).mono rfl
  | .powerEpochStart, _ => (execPowerEpochStart_only ..).mono rfl
  | .reportSend, _ => (execReportSend_only ..).mono rfl
  | .grantCompute, _ => (execGrantCompute_only ..).mono rfl
  | .grantBroadcast, _ => (execGrantBroadcast_only ..).mono rfl
  | .report .., _ => (execReport_only ..).mono rfl
  | .grant .., _ => (execGrant_only ..).mono rfl
  | .reduce .., _ => (execReduce_only ..).mono rfl
  | .reduceReq .., _ => (execReduceReq_only ..).mono rfl
  | .reduceEnd, _ => (execReduceEnd_only ..).mono rfl
  | .sampleFrameSend, _ => (execSampleFrameSend_only ..).mono rfl
  | .upstreamFrame .., _ => (execUpstreamFrame_only ..).mono rfl
  | .upstreamFrameLate .., _ => (execUpstreamFrameLate_only ..).mono rfl
  | .slLostFramesLimit .., _ => (execSlLostFramesLimit_only ..).mono rfl
  | .slGoodFrameRun .., _ => (execSlGoodFrameRun_only ..).mono rfl
  | .slTrainingTimeout .., _ => (execSlTrainingTimeout_only ..).mono rfl
  | .slStallTimeout .., _ => (execSlStallTimeout_only ..).mono rfl
  | .headRegistersRead .., _ => (execHeadRegistersRead_only ..).mono rfl
  | .headPoll .., _ => (execHeadPoll_only ..).mono rfl
  | .sampleProcess .., _ => (execSampleProcess_only ..).mono rfl
  | .pqSubstitutedRefresh .., _ => (execPqSubstitutedRefresh_only ..).mono rfl
  | .tamperPersistence .., _ => (execTamperPersistence_only ..).mono rfl
  | .pilotWindowEnd .., _ => (execPilotWindowEnd_only ..).mono rfl
  | .verifySuspendTimeout .., _ => (execVerifySuspendTimeout_only ..).mono rfl
  | .legalClockWindow .., _ => (execLegalClockWindow_only ..).mono rfl
  | .calMeasureDurationEnd .., _ => (execCalMeasureDurationEnd_only ..).mono rfl
  | .calMeasureTimeout .., _ => (execCalMeasureTimeout_only ..).mono rfl
  | .pilotCaptureDone .., _ => (execPilotCaptureDone_only ..).mono rfl
  | .pilotCaptureTimeout .., _ => (execPilotCaptureTimeout_only ..).mono rfl
  | .latch .., _ => (execLatch_only ..).mono rfl
  | .substitutedCycle .., _ => (execSubstitutedCycle_only ..).mono rfl
  | .dcTickTimeout .., _ => (execDcTickTimeout_only ..).mono rfl
  | .closeNotice .., _ => (execCloseNotice_only ..).mono rfl
  | .openConfirmation .., _ => (execOpenConfirmation_only ..).mono rfl
  | .billingStop .., _ => (execBillingStop_only ..).mono rfl
  | .pulseOutputEmit .., _ => (execPulseOutputEmit_only ..).mono rfl
  | .pulseInputEdge .., _ => (execPulseInputEdge_only ..).mono rfl
  | .crossCheckTimeout .., _ => (execCrossCheckTimeout_only ..).mono rfl
  | .supplyFailTrip, _ => (execSupplyFailTrip_only ..).mono rfl
  | .pfwAssert, _ => (execPfwAssert_only ..).mono rfl
  | .earlyWarningSaveRepeat, _ => (execEarlyWarningSaveRepeat_only ..).mono rfl
  | .supplyRecovered, _ => (execSupplyRecovered_only ..).mono rfl
  | .pfwStuck, _ => (execPfwStuck_only ..).mono rfl
  | .pfwRelease, _ => (execPfwRelease_only ..).mono rfl
  | .sessionSeal .., _ => (execSessionSeal_only ..).mono rfl
  | .sealLoopSample .., _ => (execSealLoopSample_only ..).mono rfl
  | .signOn .., _ => (execSignOn_only ..).mono rfl
  | .optIdentification, _ => (execOptIdentification_only ..).mono rfl
  | .optAcknowledgement .., _ => (execOptAcknowledgement_only ..).mono rfl
  | .optAckTimeout, _ => (execOptAckTimeout_only ..).mono rfl
  | .optDataMessage, _ => (execOptDataMessage_only ..).mono rfl
  | .optDataMessageDone, _ => (execOptDataMessageDone_only ..).mono rfl
  | .safetyCycle .., _ => (execSafetyCycle_only ..).mono rfl
  | .safeInEdge .., _ => (execSafeInEdge_only ..).mono rfl
  | .discrepancyTimeout .., _ => (execDiscrepancyTimeout_only ..).mono rfl
  | .inputPatternCheck .., _ => (execInputPatternCheck_only ..).mono rfl
  | .safetyEccScrub .., _ => (execSafetyEccScrub_only ..).mono rfl
  | .tableDigestCheck .., _ => (execTableDigestCheck_only ..).mono rfl
  | .watchdogQuestion, _ => (execWatchdogQuestion_only ..).mono rfl
  | .watchdogWindowExpiry, _ => (execWatchdogWindowExpiry_only ..).mono rfl
  | .oscillatorFault, _ => (execOscillatorFault_only ..).mono rfl
  | .railFault, _ => (execRailFault_only ..).mono rfl
  | .comparatorSelftest .., _ => (execComparatorSelftest_only ..).mono rfl
  | .driverOffTest .., _ => (execDriverOffTest_only ..).mono rfl
  | .dieTempCheck .., _ => (execDieTempCheck_only ..).mono rfl
  | .serviceLossTimeout, _ => (execServiceLossTimeout_only ..).mono rfl
  | .heartbeat, _ => (execHeartbeat_only ..).mono rfl
  | .closeReq .., _ => (execCloseReq_only ..).mono rfl
  | .openReq .., _ => (execOpenReq_only ..).mono rfl
  | .rampDone p, s => (execRampDone_only p s).mono rfl
  | .selftestReq .., _ => (execSelftestReq_only ..).mono rfl
  | .brakeReleaseReq .., _ => (execBrakeReleaseReq_only ..).mono rfl
  | .outReq .., _ => (execOutReq_only ..).mono rfl
  | .resetReq .., _ => (execResetReq_only ..).mono rfl
  | .restartReq .., _ => (execRestartReq_only ..).mono rfl
  | .siteState, _ => (execSiteState_only ..).mono rfl
  | .portState .., _ => (execPortState_only ..).mono rfl
  | .trip .., _ => (execTrip_only ..).mono rfl
  | .feedback .., _ => (execFeedback_only ..).mono rfl
  | .readings .., _ => (execReadings_only ..).mono rfl
  | .logEntry .., _ => (execLogEntry_only ..).mono rfl
  | .answer .., _ => (execAnswer_only ..).mono rfl
  | .windowDeadline .., _ => (execWindowDeadline_only ..).mono rfl
  | .closeConfirmTimeout .., _ => (execCloseConfirmTimeout_only ..).mono rfl
  | .openConfirmTimeout .., _ => (execOpenConfirmTimeout_only ..).mono rfl
  | .contactDisagreeTimeout .., _ => (execContactDisagreeTimeout_only ..).mono rfl
  | .safetyRestartDone .., _ => (execSafetyRestartDone_only ..).mono rfl
  | .safetyCpPeriod .., _ => (execSafetyCpPeriod_only ..).mono rfl
  | .imdHalfPeriodEnd .., _ => (execImdHalfPeriodEnd_only ..).mono rfl
  | .imdSlotRotate .., _ => (execImdSlotRotate_only ..).mono rfl
  | .precloseTestEnd .., _ => (execPrecloseTestEnd_only ..).mono rfl
  | .rcmTrip .., _ => (execRcmTrip_only ..).mono rfl
  | .lockFilterExpiry .., _ => (execLockFilterExpiry_only ..).mono rfl
  | .coilCurrentFault .., _ => (execCoilCurrentFault_only ..).mono rfl
  | .brakeTestTimer .., _ => (execBrakeTestTimer_only ..).mono rfl
  | .weldTestTimer .., _ => (execWeldTestTimer_only ..).mono rfl
  | .insulationSelftestEnd .., _ => (execInsulationSelftestEnd_only ..).mono rfl
  | .lsOvercurrent .., _ => (execLsOvercurrent_only ..).mono rfl
  | .lsRetryTimer .., _ => (execLsRetryTimer_only ..).mono rfl
  | .lsBurstSuccess .., _ => (execLsBurstSuccess_only ..).mono rfl
  | .lsBurstWindowEnd .., _ => (execLsBurstWindowEnd_only ..).mono rfl
  | .lsThermalTrip .., _ => (execLsThermalTrip_only ..).mono rfl
  | .lsThermalCooled .., _ => (execLsThermalCooled_only ..).mono rfl
  | .lsShed, _ => (execLsShed_only ..).mono rfl
  | .vauxLow, _ => (execVauxLow_only ..).mono rfl
  | .vauxUv, _ => (execVauxUv_only ..).mono rfl
  | .vauxRecovered, _ => (execVauxRecovered_only ..).mono rfl
  | .vauxOvervoltage, _ => (execVauxOvervoltage_only ..).mono rfl
  | .lsRestoreGroup, _ => (execLsRestoreGroup_only ..).mono rfl
  | .lsOpenLoadSample .., _ => (execLsOpenLoadSample_only ..).mono rfl
  | .lspwmEdge .., _ => (execLspwmEdge_only ..).mono rfl
  | .lspwmStatic .., _ => (execLspwmStatic_only ..).mono rfl
  | .lkPeriod .., _ => (execLkPeriod_only ..).mono rfl
  | .lkDriveEnd .., _ => (execLkDriveEnd_only ..).mono rfl
  | .lkStall .., _ => (execLkStall_only ..).mono rfl
  | .lkThermal .., _ => (execLkThermal_only ..).mono rfl
  | .lkBrakeEnd .., _ => (execLkBrakeEnd_only ..).mono rfl
  | .helloSend .., _ => (execHelloSend_only ..).mono rfl
  | .hello .., _ => (execHello_only ..).mono rfl
  | .chainLinkTrained .., _ => (execChainLinkTrained_only ..).mono rfl
  | .chainBadFrame .., _ => (execChainBadFrame_only ..).mono rfl
  | .chainDegradedEnd .., _ => (execChainDegradedEnd_only ..).mono rfl
  | .chainLinkSilence .., _ => (execChainLinkSilence_only ..).mono rfl
  | .chainPhyUp .., _ => (execChainPhyUp_only ..).mono rfl
  | .chainPhyDown .., _ => (execChainPhyDown_only ..).mono rfl
  | .delayMeasure .., _ => (execDelayMeasure_only ..).mono rfl
  | .delayReq .., _ => (execDelayReq_only ..).mono rfl
  | .delayRsp .., _ => (execDelayRsp_only ..).mono rfl
  | .chainTxDone .., _ => (execChainTxDone_only ..).mono rfl
  | .p0Repeat, _ => (execP0Repeat_only ..).mono rfl
  | .tripAdvice .., _ => (execTripAdvice_only ..).mono rfl
  | .linkDown .., _ => (execLinkDown_only ..).mono rfl
  | .topology .., _ => (execTopology_only ..).mono rfl
  | .ringRestore, _ => (execRingRestore_only ..).mono rfl
  | .electionStart, _ => (execElectionStart_only ..).mono rfl
  | .candidate .., _ => (execCandidate_only ..).mono rfl
  | .headClaimTimer, _ => (execHeadClaimTimer_only ..).mono rfl
  | .headClaim .., _ => (execHeadClaim_only ..).mono rfl
  | .walk .., _ => (execWalk_only ..).mono rfl
  | .join .., _ => (execJoin_only ..).mono rfl
  | .assign .., _ => (execAssign_only ..).mono rfl
  | .table .., _ => (execTable_only ..).mono rfl
  | .tableBroadcast, _ => (execTableBroadcast_only ..).mono rfl
  | .joinRetry, _ => (execJoinRetry_only ..).mono rfl
  | .syncSend, _ => (execSyncSend_only ..).mono rfl
  | .sync .., _ => (execSync_only ..).mono rfl
  | .timeUnsync, _ => (execTimeUnsync_only ..).mono rfl
  | .siteConfig .., _ => (execSiteConfig_only ..).mono rfl
  | .configAck .., _ => (execConfigAck_only ..).mono rfl
  | .siteConfigDeadline, _ => (execSiteConfigDeadline_only ..).mono rfl
  | .actPropose .., _ => (execActPropose_only ..).mono rfl
  | .actCommit .., _ => (execActCommit_only ..).mono rfl
  | .actQuery .., _ => (execActQuery_only ..).mono rfl
  | .activationTime .., _ => (execActivationTime_only ..).mono rfl
  | .serviceSwapDone, _ => (execServiceSwapDone_only ..).mono rfl
  | .trialPassed, _ => (execTrialPassed_only ..).mono rfl
  | .activationWaitTimeout, _ => (execActivationWaitTimeout_only ..).mono rfl
  | .mirror .., _ => (execMirror_only ..).mono rfl
  | .fwOffer .., _ => (execFwOffer_only ..).mono rfl
  | .fwBlock .., _ => (execFwBlock_only ..).mono rfl
  | .fwNack .., _ => (execFwNack_only ..).mono rfl
  | .fwReq .., _ => (execFwReq_only ..).mono rfl
  | .romFwReq, _ => (execRomFwReq_only ..).mono rfl
  | .sleepPrepare .., _ => (execSleepPrepare_only ..).mono rfl
  | .sleepReady .., _ => (execSleepReady_only ..).mono rfl
  | .sleepNotReady .., _ => (execSleepNotReady_only ..).mono rfl
  | .sleepCommit .., _ => (execSleepCommit_only ..).mono rfl
  | .sleepAbort .., _ => (execSleepAbort_only ..).mono rfl
  | .sleepCancel .., _ => (execSleepCancel_only ..).mono rfl
  | .wake .., _ => (execWake_only ..).mono rfl
  | .meshChainFrame .., _ => (execMeshChainFrame_only ..).mono rfl
  | .msync .., _ => (execMsync_only ..).mono rfl
  | .msyncSend, _ => (execMsyncSend_only ..).mono rfl
  | .msyncLost, _ => (execMsyncLost_only ..).mono rfl
  | .nbr .., _ => (execNbr_only ..).mono rfl
  | .nbrSend, _ => (execNbrSend_only ..).mono rfl
  | .tmap .., _ => (execTmap_only ..).mono rfl
  | .tmapSend .., _ => (execTmapSend_only ..).mono rfl
  | .meshMapExpiry .., _ => (execMeshMapExpiry_only ..).mono rfl
  | .phase .., _ => (execPhase_only ..).mono rfl
  | .phaseSend, _ => (execPhaseSend_only ..).mono rfl
  | .phaseFrameTimeout .., _ => (execPhaseFrameTimeout_only ..).mono rfl
  | .meshDelay .., _ => (execMeshDelay_only ..).mono rfl
  | .meshDelaySend, _ => (execMeshDelaySend_only ..).mono rfl
  | .meshAck .., _ => (execMeshAck_only ..).mono rfl
  | .meshAckTimeout, _ => (execMeshAckTimeout_only ..).mono rfl
  | .meshBadFrame, _ => (execMeshBadFrame_only ..).mono rfl
  | .meshContention, _ => (execMeshContention_only ..).mono rfl
  | .splZcEdge .., _ => (execSplZcEdge_only ..).mono rfl
  | .splZcAbsent .., _ => (execSplZcAbsent_only ..).mono rfl
  | .coexMaskChange, _ => (execCoexMaskChange_only ..).mono rfl
  | .ripeningComplete .., _ => (execRipeningComplete_only ..).mono rfl
  | .halfZeroed .., _ => (execHalfZeroed_only ..).mono rfl
  | .caveAckWrite, _ => (execCaveAckWrite_only ..).mono rfl
  | .caveConfirm .., _ => (execCaveConfirm_only ..).mono rfl
  | .caveRecordTake, _ => (execCaveRecordTake_only ..).mono rfl
  | .caveStreamSamples .., _ => (execCaveStreamSamples_only ..).mono rfl
  | .nvmeWriteComplete, _ => (execNvmeWriteComplete_only ..).mono rfl
  | .caveFlush, _ => (execCaveFlush_only ..).mono rfl
  | .superblockWrite, _ => (execSuperblockWrite_only ..).mono rfl
  | .nvmeTimeout, _ => (execNvmeTimeout_only ..).mono rfl
  | .nvmeControllerFatal, _ => (execNvmeControllerFatal_only ..).mono rfl
  | .storLinkDown, _ => (execStorLinkDown_only ..).mono rfl
  | .caveFaultRetry .., _ => (execCaveFaultRetry_only ..).mono rfl
  | .caveWindowTrigger .., _ => (execCaveWindowTrigger_only ..).mono rfl
  | .caveWindowEnd .., _ => (execCaveWindowEnd_only ..).mono rfl
  | .tamperEvent .., _ => (execTamperEvent_only ..).mono rfl
  | .tamperSensorSample .., _ => (execTamperSensorSample_only ..).mono rfl
  | .batteryLoss, _ => (execBatteryLoss_only ..).mono rfl
  | .vbatLow, _ => (execVbatLow_only ..).mono rfl
  | .rtcAlarmExpiry, _ => (execRtcAlarmExpiry_only ..).mono rfl
  | .keySessionIdleExpiry .., _ => (execKeySessionIdleExpiry_only ..).mono rfl
  | .vaultFixedTime .., _ => (execVaultFixedTime_only ..).mono rfl
  | .stagingWindowWrite .., _ => (execStagingWindowWrite_only ..).mono rfl
  | .stagingBodyComplete .., _ => (execStagingBodyComplete_only ..).mono rfl
  | .stagingTimeout .., _ => (execStagingTimeout_only ..).mono rfl
  | .nfcPoll .., _ => (execNfcPoll_only ..).mono rfl
  | .nfcPresenceCheck .., _ => (execNfcPresenceCheck_only ..).mono rfl
  | .nfcHoldTimeout, _ => (execNfcHoldTimeout_only ..).mono rfl
  | .tagFieldOn, _ => (execTagFieldOn_only ..).mono rfl
  | .tagFieldLost, _ => (execTagFieldLost_only ..).mono rfl
  | .select .., _ => (execSelect_only ..).mono rfl
  | .readPage .., _ => (execReadPage_only ..).mono rfl
  | .verify .., _ => (execVerify_only ..).mono rfl
  | .getChallenge, _ => (execGetChallenge_only ..).mono rfl
  | .mutualAuth .., _ => (execMutualAuth_only ..).mono rfl
  | .deselect, _ => (execDeselect_only ..).mono rfl
  | .tagPageRewrite, _ => (execTagPageRewrite_only ..).mono rfl
  | .frameBoundary, _ => (execFrameBoundary_only ..).mono rfl
  | .legalViewRefresh, _ => (execLegalViewRefresh_only ..).mono rfl
  | .legalLineAlternate, _ => (execLegalLineAlternate_only ..).mono rfl
  | .legalViewCycle, _ => (execLegalViewCycle_only ..).mono rfl
  | .vfEnableSet, _ => (execVfEnableSet_only ..).mono rfl
  | .tref10mEdge .., _ => (execTref10mEdge_only ..).mono rfl
  | .vbatRestored, _ => (execVbatRestored_only ..).mono rfl
  | .glnVioLoss, _ => (execGlnVioLoss_only ..).mono rfl
  | .glnVioReturn, _ => (execGlnVioReturn_only ..).mono rfl
  | .vauxOvervoltageEnd, _ => (execVauxOvervoltageEnd_only ..).mono rfl
  | .offOpen .., _ => (execOffOpen_only ..).mono rfl
  | .driveWarning .., _ => (execDriveWarning_only ..).mono rfl
  | .caveInitDone .., _ => (execCaveInitDone_only ..).mono rfl
  | .stagingRingRead .., _ => (execStagingRingRead_only ..).mono rfl
  | .provisioning, _ => (execProvisioning_only ..).mono rfl
  | .finalTest, _ => (execFinalTest_only ..).mono rfl
  | .mbxMbd0Read .., _ => (execMbxMbd0Read_only ..).mono rfl
  | .clockGated .., _ => (execClockGated_only ..).mono rfl
  | .clockStarted .., _ => (execClockStarted_only ..).mono rfl
  | .lockFbChange .., _ => (execLockFbChange_only ..).mono rfl
  | .protocolError .., _ => (execProtocolError_only ..).mono rfl
  | .badChannelMessage .., _ => (execBadChannelMessage_only ..).mono rfl
  | .firewallAccess .., _ => (execFirewallAccess_only ..).mono rfl
  | .reqa .., _ => (execReqa_only ..).mono rfl

end Sys2Proof.Machine
end

section
/-! The counts that never fall: the seal count (spec 11 R301), the tamper counts (19 R503), the generation of the root (19 R520) and the
rollback floors (20 R529). `Rises s t` says that none falls from s to t. A lemma `Rises.f` adds an operation f to such a change, by the
lemmas of the operations that f is made of; what holds none of the counts is added by its frame, with `Rises.only`. -/

namespace Sys2Proof.Machine

variable {s t u : State}

/-! ### The relation -/

/-- The counts of Rind after a change are at least what they were, and those that stop at a width stay within it (R301, R503, R520). -/
structure Rind.Rises (r q : Rind) : Prop where
  sealCount : r.sealCount ≤ 0xFFFFFFFF → r.sealCount ≤ q.sealCount ∧ q.sealCount ≤ 0xFFFFFFFF
  tamper : ∀ k, ix r.tamper k ≤ 0xFFFF → ix r.tamper k ≤ ix q.tamper k ∧ ix q.tamper k ≤ 0xFFFF
  rootGen : r.rootGen ≤ q.rootGen

theorem Rind.Rises.of_rootGen {r q : Rind} (h : (q.sealCount, q.tamper) = (r.sealCount, r.tamper)) (hgen : r.rootGen ≤ q.rootGen) :
    r.Rises q := by
  obtain ⟨hseal, htamper⟩ := Prod.mk.inj h
  exact ⟨fun hr => by omega, fun k hr => by rw [htamper]; omega, hgen⟩

theorem Rind.Rises.of_eq {r q : Rind} (h : (q.sealCount, q.tamper, q.rootGen) = (r.sealCount, r.tamper, r.rootGen)) : r.Rises q := by
  simp only [Prod.mk.injEq] at h
  obtain ⟨hseal, htamper, hgen⟩ := h
  exact .of_rootGen (by rw [hseal, htamper]) hgen.ge

theorem Rind.Rises.trans {r q p : Rind} (h : r.Rises q) (k : q.Rises p) : r.Rises p where
  sealCount hr := by
    obtain ⟨hle, hq⟩ := h.sealCount hr
    obtain ⟨hle', hp⟩ := k.sealCount hq
    exact ⟨hle.trans hle', hp⟩
  tamper i hr := by
    obtain ⟨hle, hq⟩ := h.tamper i hr
    obtain ⟨hle', hp⟩ := k.tamper i hq
    exact ⟨hle.trans hle', hp⟩
  rootGen := h.rootGen.trans k.rootGen

/-- From s to t no count of Rind and no rollback floor falls (R301, R503, R520, R529). -/
structure Rises (s t : State) : Prop where
  rind : s.rind.Rises t.rind
  floor : ∀ c, ix s.fw.floor c ≤ ix t.fw.floor c

/-- Every next state that a meaning answers has its counts risen or kept. -/
structure RisesRes (s : State) (r : Res) : Prop where
  rises : ∀ t, r = .next t → Rises s t

/-- The parts that hold none of the counts. -/
def partsWithoutCounts : List Part :=
  [.sys, .time, .host, .conf, .veh, .ses, .pwr, .pm, .lease, .legal, .sl, .met, .nrg, .bil, .pq, .jnl, .cave, .keys, .saf, .sp, .brk,
    .ls, .lk, .chn, .msh, .nfc, .dsp, .sent, .free, .pending]

/-! ### How operations compose -/

theorem Rises.of_eq (hrind : t.rind = s.rind) (hfloor : t.fw.floor = s.fw.floor) : Rises s t :=
  ⟨by rw [hrind]; exact .of_eq rfl, fun c => by rw [hfloor]⟩

theorem Rises.refl (s : State) : Rises s s := .of_eq rfl rfl

theorem Rises.trans (h : Rises s t) (k : Rises t u) : Rises s u :=
  ⟨h.rind.trans k.rind, fun c => (h.floor c).trans (k.floor c)⟩

theorem Rises.ite {c : Prop} [Decidable c] (h : Rises s t) (k : Rises s u) : Rises s (if c then t else u) := by
  split <;> assumption

theorem Rises.foldl {α : Type} {f : State → α → State} {l : List α} (h : Rises s t) (k : ∀ u a, Rises s u → Rises s (f u a)) :
    Rises s (l.foldl f t) := by
  induction l generalizing t with
  | nil => exact h
  | cons a l ih => exact ih (k _ _ h)

theorem Rises.each {n : Nat} {f : Fin n → State → State} (h : Rises s t) (k : ∀ i u, Rises s u → Rises s (f i u)) :
    Rises s (t.each f) := h.foldl fun u i => k i u

theorem Only.rises {ps : List Part} (h : Only ps s t) (hps : within ps partsWithoutCounts = true) : Rises s t :=
  .of_eq (h.mono hps |>.same .rind (by decide)) (congrArg Upd.floor (h.mono hps |>.same .fw (by decide)))

/-- A further change, of parts that hold no count. -/
theorem Rises.only {ps : List Part} (h : Rises s t) (k : Only ps t u) (hps : within ps partsWithoutCounts = true) : Rises s u :=
  h.trans (k.rises hps)

theorem Rises.modFw {f : Upd → Upd} (h : Rises s t) (hf : (f t.fw).floor = t.fw.floor) : Rises s (t.modFw f) :=
  h.trans (.of_eq rfl hf)

theorem Rises.modRind {f : Rind → Rind} (h : Rises s t) (hf : t.rind.Rises (f t.rind)) : Rises s (t.modRind f) :=
  h.trans ⟨hf, fun _ => le_rfl⟩

theorem Rises.answer {r : Req} {code : Nat} {ws : List Word} (h : Rises s t) : Rises s (t.answer r code ws) :=
  h.only (State.answer_only ..) rfl

theorem RisesRes.next (h : Rises s t) : RisesRes s (.next t) := ⟨fun u hu => by cases hu; exact h⟩

theorem OnlyRes.rises {ps : List Part} {r : Res} (h : OnlyRes ps s r) (hps : within ps partsWithoutCounts = true) : RisesRes s r :=
  ⟨fun t ht => (h.only t ht).rises hps⟩

/-! ### Frames of the chain and the mesh, and accesses: what is done with them decides -/

theorem Rises.consume {h : ChHdr} {b : ChBody} {eat : State → State} (k : Rises s t) (heat : ∀ u, Rises s u → Rises s (eat u)) :
    Rises s (t.consume h b eat) := by
  unfold State.consume
  extract_lets
  refine .ite k ?_
  split
  · exact heat _ k
  · exact .ite k (heat _ (k.only (State.modChn_only ..) rfl))

theorem Rises.chainRx {h : ChHdr} {b : ChBody} {eat : State → State} (k : Rises s t) (heat : ∀ u, Rises s u → Rises s (eat u)) :
    Rises s (t.chainRx h b eat) := by
  unfold State.chainRx
  refine .ite k ?_
  split
  · exact k.consume heat
  · extract_lets s1 s2 s3
    have h1 : Rises s s1 := k.only (State.modChLink_only ..) rfl
    have h2 : Rises s s2 := by
      unfold s2
      split
      · exact h1
      · exact h1.only (State.forward_only ..) rfl
    have h3 : Rises s s3 := .ite (h2.only (State.meshSend_only ..) rfl) h2
    exact .ite k (.ite (k.only (State.badFrame_only ..) rfl) (h3.consume heat))

theorem Rises.meshRx {m : MHdr} {b : MBody} {eat : State → State} (k : Rises s t) (heat : ∀ u, Rises s u → Rises s (eat u)) :
    Rises s (t.meshRx m b eat) := by
  unfold State.meshRx
  extract_lets own s1 s2 live s3
  have h1 : Rises s s1 := (k.only (State.knowNbr_only ..) rfl).only (State.modMsh_only ..) rfl
  have h2 : Rises s s2 := .ite h1 (h1.only (State.emit_only ..) rfl)
  have h3 : Rises s s3 := h2.only (State.modMsh_only ..) rfl
  exact .ite k (.ite (.ite h2 ((heat _ h3).only (State.meshPass_only ..) rfl)) (.ite (heat _ h2) (h2.only (State.meshPass_only ..) rfl)))

theorem Rises.access {path : Path} {g : Guest} {off be : Nat} {write shape : Bool} {f : State → State} (k : Rises s t)
    (hf : ∀ u, Rises s u → Rises s (f u)) : Rises s (t.access path g off write be shape f) := by
  unfold State.access
  exact .ite (.ite (k.only (State.emit_only ..) rfl) k)
    (.only (.ite k (.ite (k.only (State.badAccess_only ..) rfl) (hf _ k))) (State.hostActive_only ..) rfl)

theorem Rises.unlessVoid {r : Req} {f : State → State} (k : Rises s t) (hf : Rises s (f t)) : Rises s (t.unlessVoid r f) :=
  .ite k.answer hf

/-! ### Firmware banks, staging and activation -/

theorem Rises.updRaise {bits : Word} (k : Rises s t) : Rises s (t.updRaise bits) := k.modFw rfl
theorem Rises.modAct {f : Act → Act} (k : Rises s t) : Rises s (t.modAct f) := k.modFw rfl
theorem Rises.modStg {c : Fin 3} {f : Stg → Stg} (k : Rises s t) : Rises s (t.modStg c f) := k.modFw rfl
theorem Rises.modIdleBank {c : Fin 3} {f : Bank → Bank} (k : Rises s t) : Rises s (t.modIdleBank c f) := k.trans (.of_eq rfl rfl)
theorem Rises.switchBank {c : Fin 3} (k : Rises s t) : Rises s (t.switchBank c) := k.modFw rfl
theorem Rises.rebind {p : Port} (k : Rises s t) : Rises s (t.rebind p) := k.modFw rfl
theorem Rises.openProposal {cls unit : Nat} {digest : List Byte} {cmd : Option Req} (k : Rises s t) :
    Rises s (t.openProposal cls unit digest cmd) := k.modAct

/-- A class that passes its trial raises its floor to its image's ROLLBACK, or keeps it where it is above (R529). -/
theorem Rises.passTrial {c : Fin 3} (k : Rises s t) : Rises s (t.passTrial c) := by
  unfold State.passTrial
  refine .ite (.updRaise (k.trans ⟨.of_eq rfl, fun i => ?_⟩)) k
  by_cases hi : c = i
  · subst hi
    simp
  · simp [ix_upd_ne _ _ _ _ hi]

theorem Rises.actEnd {code : Nat} {st : ActState} (k : Rises s t) : Rises s (t.actEnd code st) := by
  unfold State.actEnd
  extract_lets x
  have hx : Rises s x := k.modAct.only (State.finalOpt_only ..) rfl
  exact .ite (hx.only (State.mirrorEv_only ..) rfl) hx

theorem Rises.activated (k : Rises s t) : Rises s t.activated := k.actEnd.updRaise

theorem Rises.commitAct {at_ : Nat} (k : Rises s t) : Rises s (t.commitAct at_) :=
  (k.modAct.only (State.appendConf_only ..) rfl).updRaise

theorem Rises.dropProposal {code : Nat} (k : Rises s t) : Rises s (t.dropProposal code) := by
  unfold State.dropProposal
  extract_lets c g running s1
  have h1 : Rises s s1 := .ite ((k.modFw rfl).only (State.finalOpt_only ..) rfl) k
  exact .ite k h1.actEnd.modAct

theorem Rises.withdraw {code : Nat} (k : Rises s t) : Rises s (t.withdraw code) :=
  .ite k (k.dropProposal.only (State.originate_only ..) rfl)

theorem Rises.stgEnd {c : Fin 3} {st : StgState} {code reason : Nat} {detail : Word} (k : Rises s t) :
    Rises s (t.stgEnd c st code reason detail) := by
  unfold State.stgEnd
  extract_lets cmd s1 s2
  have h1 : Rises s s1 := k.modStg
  have h2 : Rises s s2 := .ite h1.updRaise h1
  exact h2.only (State.finalOpt_only ..) rfl

theorem Rises.stgCancel {c : Fin 3} (k : Rises s t) : Rises s (t.stgCancel c) := .ite k.stgEnd k

theorem Rises.stgBegin {c : Fin 3} {source : Nat} {owner : Guest} {ring : Nat} {cmd : Option Req} {tag : Nat} (k : Rises s t) :
    Rises s (t.stgBegin c source owner ring cmd tag) := k.modStg.modIdleBank

theorem Rises.stgFeed {c : Fin 3} {bytes : List Byte} (k : Rises s t) : Rises s (t.stgFeed c bytes) := by
  unfold State.stgFeed
  extract_lets +onlyGivenNames g h s1 rest judged
  have h1 : Rises s s1 := k.modStg
  refine .ite h1 ?_
  cases judged with
  | some _ => exact h1.stgEnd
  | none => exact h1.modStg

theorem Rises.serveFrom {tag off : Nat} (k : Rises s t) : Rises s (t.serveFrom tag off) := by
  unfold State.serveFrom
  split
  · exact .ite (k.modFw rfl) k
  · exact k

theorem Rises.serveBlock (k : Rises s t) : Rises s t.serveBlock := by
  unfold State.serveBlock
  split
  · exact k
  · exact (k.modFw rfl).only (State.originate_only ..) rfl

theorem Rises.offerImage {b : Bank} (k : Rises s t) : Rises s (t.offerImage b) :=
  .ite (k.only (State.originate_only ..) rfl).serveFrom.serveBlock k

theorem Rises.resumeActivation (k : Rises s t) : Rises s t.resumeActivation :=
  .ite (.ite k.modAct (k.modAct.only (State.originate_only ..) rfl)) k

theorem Rises.revert (k : Rises s t) : Rises s t.revert :=
  .ite ((k.modFw rfl).modAct.updRaise.only (State.mirrorEv_only ..) rfl) k

theorem Rises.safetyProven (k : Rises s t) : Rises s t.safetyProven := by
  unfold State.safetyProven
  extract_lets s1
  have h1 : Rises s s1 := (k.only (State.modKeys_only ..) rfl).passTrial
  exact .ite h1.activated h1

theorem Rises.safetyUnproven (k : Rises s t) : Rises s t.safetyUnproven := .ite k.actEnd k

theorem Rises.swapLegal (k : Rises s t) : Rises s t.swapLegal := by
  unfold State.swapLegal
  extract_lets old x
  have hx : Rises s x := (k.switchBank.modFw rfl).only (State.modKeys_only ..) rfl
  exact .ite (hx.only (State.modLegal_only ..) rfl) hx.passTrial

theorem Rises.tryCommit (k : Rises s t) : Rises s t.tryCommit := by
  unfold State.tryCommit
  extract_lets a asleep tag others here tAct s1
  have h1 : Rises s s1 := k.only (State.originate_only ..) rfl
  exact .ite k (.ite h1.commitAct h1.actEnd)

/-! ### Activation and images over the chain -/

theorem Rises.eatCommit {a : ActItem} (k : Rises s t) : Rises s (t.eatCommit a) := by
  unfold State.eatCommit
  extract_lets d s1
  have h1 : Rises s s1 := .ite k k.openProposal
  exact .ite k (.ite k.dropProposal (.ite k.dropProposal h1.commitAct))

theorem Rises.eatPropose {a : ActItem} (k : Rises s t) : Rises s (t.eatPropose a) := by
  unfold State.eatPropose
  extract_lets d open_ busy x
  have hx : Rises s x := k.dropProposal
  exact .ite (.ite (hx.only (State.originate_only ..) rfl) hx)
    (.ite k (.ite (.ite k (k.openProposal.only (State.originate_only ..) rfl)) (.ite k hx.openProposal)))

theorem Rises.keepCommit {a : ActItem} (k : Rises s t) : Rises s (t.keepCommit a) := by
  unfold State.keepCommit
  extract_lets d x
  have hx : Rises s x := k.dropProposal.openProposal
  exact .ite k (.ite hx.commitAct hx.actEnd)

theorem Rises.eatQuery {src : Nat} {a : ActItem} {answer : Option Bool} (k : Rises s t) : Rises s (t.eatQuery src a answer) := by
  unfold State.eatQuery
  split
  · exact .ite (k.only (State.originate_only ..) rfl) (.ite (k.only (State.originate_only ..) rfl) k)
  · exact .ite (.ite k.modAct k.actEnd) (.ite k.keepCommit k)

theorem Rises.eatOffer {header : List Byte} (k : Rises s t) : Rises s (t.eatOffer header) := by
  unfold State.eatOffer
  extract_lets
  exact .ite k.modStg.stgFeed (.ite k.stgBegin.stgFeed k)

theorem Rises.eatBlock {src tag off : Nat} {data : List Byte} (k : Rises s t) : Rises s (t.eatBlock src tag off data) := by
  unfold State.eatBlock
  split
  · exact k
  · exact .ite (k.only (State.originate_only ..) rfl) k.stgFeed

theorem Rises.eatNack {tag off : Nat} (k : Rises s t) : Rises s (t.eatNack tag off) := k.serveFrom.serveBlock

theorem Rises.endElection {key : ChKey} {addr : Nat} (k : Rises s t) : Rises s (t.endElection key addr) := by
  unfold State.endElection
  extract_lets mine s1
  have h1 : Rises s s1 := ((k.only (State.modChn_only ..) rfl).only (State.chnRaise_only ..) rfl).dropProposal
  exact .ite (h1.only (State.modLease_only ..) rfl) h1

theorem Rises.becomeHead {key : ChKey} (k : Rises s t) : Rises s (t.becomeHead key) := by
  unfold State.becomeHead
  extract_lets fresh addr s1 s2
  have h1 : Rises s s1 := k.endElection.only (State.modChn_only ..) rfl
  have h2 : Rises s s2 := (h1.modAct.only (State.originate_only ..) rfl).only (State.originate_only ..) rfl
  exact .ite (h2.only (State.sendWalk_only ..) rfl) h2

theorem Rises.renewFence (k : Rises s t) : Rises s t.renewFence := by
  unfold State.renewFence
  extract_lets new old s1 s2 s3
  have h1 : Rises s s1 := k.only (State.modChn_only ..) rfl
  have h2 : Rises s s2 := ((h1.only (State.chnRaise_only ..) rfl).only (State.service_only ..) rfl).only (State.mirrorEv_only ..) rfl
  have h3 : Rises s s3 := .ite h2.actEnd h2
  exact .ite h1 (.ite ((h3.only (State.stayAwake_only ..) rfl).only (State.finalOpt_only ..) rfl) h3)

/-- SLEEP acts by the kind of its message, and another kind does nothing. -/
theorem Rises.eatSleep {h : ChHdr} {x : Nat} (k : Rises s t) : (kind : Nat) → Rises s (t.eatFrame h (.sleep kind x))
  | 1 => k.only (State.eatPrepare_only ..) rfl
  | 2 => k.only (State.eatReady_only ..) rfl
  | 3 => k.only (State.eatNotReady_only ..) rfl
  | 4 => k.only (State.eatSleepCommit_only ..) rfl
  | 5 => k.only (State.eatAbort_only ..) rfl
  | 6 => k.only (State.eatCancel_only ..) rfl
  | 0 | _ + 7 => k

theorem Rises.eatFrame {h : ChHdr} {b : ChBody} (k : Rises s t) : Rises s (t.eatFrame h b) := by
  cases b
  case tripAdvice => exact k.only (State.eatAdvice_only ..) rfl
  case reduce => exact k.only (State.eatReduce_only ..) rfl
  case reduceReq => exact k.only (State.eatReduceReq_only ..) rfl
  case sync => exact k.only (State.eatSync_only ..) rfl
  case candidate => exact k.only (State.eatCandidate_only ..) rfl
  case headClaim => exact k.endElection
  case topology => exact k.only (State.eatTopology_only ..) rfl
  case linkDown => exact k.only (State.eatLinkDown_only ..) rfl
  case sleep => exact k.eatSleep _
  case wake => exact k.only (State.eatWake_only ..) rfl
  case report => exact k.only (State.eatReport_only ..) rfl
  case grant => exact k.only (State.eatGrant_only ..) rfl
  case join => exact k.only (State.eatJoin_only ..) rfl
  case assign => exact k.only (State.eatAssign_only ..) rfl
  case table => exact .ite k (k.only (State.eatTable_only ..) rfl)
  case siteConfig => exact k.only (State.eatSiteConfig_only ..) rfl
  case configAck => exact k.only (State.eatConfigAck_only ..) rfl
  case actPropose => exact k.eatPropose
  case actCommit => exact k.eatCommit
  case actQuery => exact k.eatQuery
  case mirror => exact k.only (State.eatMirror_only ..) rfl
  case fwOffer => exact k.eatOffer
  case fwBlock => exact k.eatBlock
  case fwNack => exact k.eatNack
  case hello | delayReq | delayRsp | walk | fwReq => exact k

/-! ### Legal -/

theorem Rises.sealSession {p : Port} {n : Nat} {restored : Bool} (k : Rises s t) : Rises s (t.sealSession p n restored) := by
  unfold State.sealSession
  refine .ite k ?_
  extract_lets +onlyGivenNames s1
  have h1 : Rises s s1 := k.only (State.closeInterval_only ..) rfl
  split
  · exact k
  · extract_lets r rec_ s2 s3 s4 s5 s6
    have h2 : Rises s s2 := h1.only (State.appendLegal_only ..) rfl
    have h3 : Rises s s3 := by
      unfold s3
      split
      · exact (h2.only (State.final_only ..) rfl).only (State.bilRaise_only ..) rfl
      · exact h2
    have h6 : Rises s s6 := ((h3.only (State.modBil_only ..) rfl).only (State.modNrg_only ..) rfl).only (State.modSes_only ..) rfl
    exact (h6.only (State.bilRaise_only ..) rfl).rebind.only (State.emit_only ..) rfl

theorem Rises.restorePort {p : Port} (k : Rises s t) : Rises s (t.restorePort p) := by
  unfold State.restorePort
  extract_lets v n q s1 s2 endOne s3 fresh s4 s5
  have h1 : Rises s s1 := (k.only (State.modNrg_only ..) rfl).only (State.modMet_only ..) rfl
  have h2 : Rises s s2 := .ite ((h1.only (State.modNrg_only ..) rfl).only (State.latchAt_only ..) rfl) h1
  have hend {u : State} {i : Fin 5} {c : Persist} {v1 v2 : Int} (h : Rises s u) : Rises s (endOne u i c v1 v2) :=
    .ite (h.only (State.tamperRecord_only ..) rfl) h
  have h3 : Rises s s3 := hend (hend (hend h2))
  have h5 : Rises s s5 := h3.only (State.modPq_only ..) rfl |>.only (State.modNrg_only ..) rfl
  exact (Rises.ite (h5.sealSession.only (State.nrgRaise_only ..) rfl) h5).only (State.applySource_only ..) rfl

theorem Rises.legalRecover (k : Rises s t) : Rises s t.legalRecover := by
  unfold State.legalRecover
  extract_lets saves newestRtc metering early kind open_ prev s1 rec_ s2 s3 s4
  have h1 : Rises s s1 := k.only (State.modLegal_only ..) rfl
  have h2 : Rises s s2 := h1.each fun _ _ h => h.restorePort
  have h3 : Rises s s3 := .ite (h2.only (State.appendLegal_only ..) rfl) h2
  have h4 : Rises s s4 := .ite ((h3.only (State.appendLegal_only ..) rfl).modRind (.of_eq rfl)) h3
  exact h4.foldl fun _ _ h => h.only (State.modInput_only ..) rfl

/-! ### The resets -/

theorem Rises.chipReset {cause : Nat} (k : Rises s t) : Rises s (t.chipReset cause) := by
  unfold State.chipReset
  extract_lets cleared time conf s1 s2
  have h1 : Rises s s1 := k.trans (.of_eq rfl rfl)
  have h2 : Rises s s2 := h1.only (afterChipReset_only _) rfl
  exact .ite k (.ite h2.revert h2)

theorem Rises.clearEvents {g : Guest} (k : Rises s t) : Rises s (t.clearEvents g) := by
  unfold State.clearEvents
  extract_lets s1 s2 s3
  have h1 : Rises s s1 := k.each fun p x h => h.only (State.modVeh_only ..) rfl |>.only (State.modSes_only ..) rfl
    |>.only (State.modPwr_only ..) rfl |>.only (State.modMet_only ..) rfl |>.only (State.modNrg_only ..) rfl
    |>.only (State.modBil_only ..) rfl |>.only (State.modPq_only ..) rfl |>.only (State.modSp_only ..) rfl
  have h2 : Rises s s2 := h1.only (State.modLegal_only ..) rfl |>.only (State.modSaf_only ..) rfl |>.only (State.modLs_only ..) rfl
    |>.only (State.modChn_only ..) rfl
  have h3 : Rises s s3 := h2.only (State.modMsh_only ..) rfl |>.only (State.modJnl_only ..) rfl |>.only (State.modCave_only ..) rfl
    |>.only (State.modKeys_only ..) rfl
  exact (h3.modFw rfl).only (State.modNfc_only ..) rfl |>.only (State.modDsp_only ..) rfl

theorem Rises.dropLeases {g : Guest} (k : Rises s t) : Rises s (t.dropLeases g) := by
  unfold State.dropLeases
  extract_lets +onlyGivenNames s1 s2 s3 s4
  have h1 : Rises s s1 := by
    refine k.each fun p x h => ?_
    extract_lets x1
    have hx : Rises s x1 := .ite (h.only (State.endClaim_only ..) rfl) h
    split
    · exact .ite (hx.only (State.modSes_only ..) rfl) hx
    · exact hx
  have h2 : Rises s s2 := h1.only (State.modKeys_only ..) rfl
  have h3 : Rises s s3 := h2.each fun c x h => .ite h.stgCancel h
  have h4 : Rises s s4 := .ite (h3.only (State.releaseHeld_only ..) rfl) h3
  exact h4.only (State.setOpen_only ..) rfl

/-! ### Rind -/

/-- A count that stops at its width does not fall and stays within it. -/
theorem le_satInc_le {m n : Nat} (h : n ≤ m) : n ≤ satInc m n ∧ satInc m n ≤ m := by
  unfold satInc
  split <;> omega

/-- A tamper event raises one of the counts (R503). -/
theorem Rind.Rises.of_tamper {r q : Rind} (i : Fin 6) (hseal : q.sealCount = r.sealCount)
    (htamper : q.tamper = upd r.tamper i (satInc 0xFFFF)) (hgen : q.rootGen = r.rootGen) : r.Rises q where
  sealCount h := by omega
  tamper j h := by
    rw [htamper]
    by_cases hij : i = j
    · subst hij
      simpa using le_satInc_le h
    · rw [ix_upd_ne _ _ _ _ hij]
      exact ⟨le_rfl, h⟩
  rootGen := hgen.ge

/-- A seal break counts one seal (R301). -/
theorem Rises.sealBreak (k : Rises s t) : Rises s t.sealBreak := by
  unfold State.sealBreak
  extract_lets s1 s2
  have h1 : Rises s s1 := k.modRind ⟨le_satInc_le, fun _ h => ⟨le_rfl, h⟩, le_rfl⟩
  have h2 : Rises s s2 := .ite (h1.only (State.appendLegal_only ..) rfl) (h1.modRind (.of_eq rfl))
  exact .ite k (((((h2.only (State.auditRind_only ..) rfl).only (State.keyRaise_only ..) rfl).only (State.bilUnitRaise_only ..) rfl).only
    (State.irqAll_only ..) rfl).only (State.holdStop_only ..) rfl)

theorem Rises.batteryStart (k : Rises s t) : Rises s t.batteryStart := by
  unfold State.batteryStart
  extract_lets s1
  have h1 : Rises s s1 := k.modRind (.of_tamper 5 rfl rfl rfl)
  exact .ite k (h1.only (State.auditRind_only ..) rfl).sealBreak

theorem Rises.rootLost (k : Rises s t) : Rises s t.rootLost := k.modRind (.of_eq rfl)

theorem Rises.shipRestore (k : Rises s t) : Rises s t.shipRestore := by
  unfold State.shipRestore
  extract_lets x
  have hx : Rises s x := k.modRind (.of_eq rfl)
  exact .ite (.ite (hx.rootLost.modRind (.of_eq rfl)) hx) k

theorem Rises.zeroise (k : Rises s t) : Rises s t.zeroise :=
  ((((k.rootLost.only (State.clearVault_only ..) rfl).only (State.dropTls_only ..) rfl).only (State.keyRaise_only ..) rfl).only
    (State.voidLegal_only ..) rfl).only (State.tagZeroise_only ..) rfl

theorem Rises.tamperEvent {i : Fin 5} (k : Rises s t) : Rises s (t.tamperEvent i) := by
  unfold State.tamperEvent
  extract_lets i6 s1 s2
  have h1 : Rises s s1 := k.modRind (.of_tamper i6 rfl rfl rfl)
  have h2 : Rises s s2 := h1.only (State.auditRind_only ..) rfl
  exact .ite k (.ite h2 (.ite h2.rootLost h2.zeroise))

theorem Rises.tamperSample {i : Fin 5} {bad : Bool} (k : Rises s t) : Rises s (t.tamperSample i bad) := by
  unfold State.tamperSample
  extract_lets n s1
  have h1 : Rises s s1 := k.modRind (.of_eq rfl)
  exact .ite (k.modRind (.of_eq rfl)) (.ite h1.tamperEvent h1)

theorem Rises.tick (k : Rises s t) : Rises s t.tick := by
  unfold State.tick
  extract_lets s1 s2
  have h1 : Rises s s1 := k.modRind (by split <;> exact .of_eq rfl)
  have h2 : Rises s s2 := h1.only (State.modTime_only ..) rfl
  exact .ite h1 ((h2.only (State.tickChain_only ..) rfl).only (State.tickCounters_only ..) rfl)

/-! ### Commands of staging and activation -/

theorem execBeginStaging_rises (r : Req) (s : State) : RisesRes s (execBeginStaging r s) := by
  have hs : Rises s s := .refl s
  unfold execBeginStaging
  extract_lets cls src c right
  refine .next (.ite hs.answer (.ite hs.answer ?_))
  split
  · exact hs.answer
  · exact hs.stgBegin.only (State.accept_only ..) rfl

theorem execAbortStaging_rises (r : Req) (s : State) : RisesRes s (execAbortStaging r s) := by
  have hs : Rises s s := .refl s
  exact .next (.ite (.ite hs.answer hs.answer) (.ite hs.answer hs.stgCancel.answer))

theorem execStagingWindowWrite_rises (g : Guest) (off : Nat) (bytes : List Byte) (s : State) :
    RisesRes s (execStagingWindowWrite g off bytes s) := by
  refine .next (.ite (.refl s) ((Rises.refl s).access fun x h => ?_))
  split
  · exact h
  · exact .ite h.stgFeed (h.only (State.modFree_only ..) rfl).stgFeed

theorem execStagingRingRead_rises (c : Fin 3) (bytes : List Byte) (d : Desc) (s : State) :
    RisesRes s (execStagingRingRead c bytes d s) := by
  unfold execStagingRingRead
  extract_lets +onlyGivenNames g
  refine .next ?_
  split
  · exact .refl s
  · extract_lets part r x y
    have hx : Rises s x := (Rises.refl s).stgFeed.modStg
    exact .ite (.refl s) (.ite (hx.only (State.useRing_only ..) rfl) (.ite (hx.modStg.only (State.useRing_only ..) rfl) hx))

theorem execStagingBodyComplete_rises (c : Fin 3) (readback : Bool) (s : State) : RisesRes s (execStagingBodyComplete c readback s) := by
  unfold execStagingBodyComplete
  extract_lets +onlyGivenNames g
  refine .next (.ite (.refl s) (.ite (Rises.refl s).stgEnd ?_))
  split
  · exact (Rises.refl s).stgEnd
  · extract_lets digest b s1 s2 s3
    have h1 : Rises s s1 := (Rises.refl s).modIdleBank
    have h2 : Rises s s2 := .ite (h1.only (State.modSaf_only ..) rfl) h1
    have h3 : Rises s s3 := h2.stgEnd.updRaise
    exact .ite (Rises.refl s).stgEnd (.ite (h3.switchBank.modFw rfl) h3)

theorem execStagingTimeout_rises (c : Fin 3) (s : State) : RisesRes s (execStagingTimeout c s) :=
  .next (.ite (Rises.refl s).stgEnd (.refl s))

theorem execScheduleActivation_rises (r : Req) (s : State) : RisesRes s (execScheduleActivation r s) := by
  have hs : Rises s s := .refl s
  unfold execScheduleActivation
  extract_lets cls c siteScope b open_ unit s1 s2
  have h1 : Rises s s1 := hs.openProposal.only (State.accept_only ..) rfl
  have h2 : Rises s s2 := .ite h1 (h1.only (State.originate_only ..) rfl)
  exact .next (.ite hs.answer (.ite hs.answer (.ite hs.answer (.ite h2.offerImage h2))))

theorem execCancelActivation_rises (r : Req) (s : State) : RisesRes s (execCancelActivation r s) := by
  have hs : Rises s s := .refl s
  exact .next (.ite hs.answer (.ite hs.withdraw.answer hs.answer))

theorem execActivationWaitTimeout_rises (s : State) : RisesRes s (execActivationWaitTimeout s) :=
  .next (.ite (Rises.refl s).withdraw (.refl s))

theorem execActivationTime_rises (intact : Bool) (s : State) : RisesRes s (execActivationTime intact s) := by
  have hs : Rises s s := .refl s
  unfold execActivationTime
  extract_lets a
  refine .next (.ite hs (.ite hs.actEnd (.ite hs.actEnd (.ite hs.actEnd ?_))))
  split
  · exact hs.modAct
  · exact .ite hs hs.swapLegal.activated
  · exact .ite hs.switchBank.activated (hs.modAct.switchBank.only (State.siteTo_only ..) rfl)

theorem execServiceSwapDone_rises (s : State) : RisesRes s (execServiceSwapDone s) :=
  .next (.ite ((Rises.refl s).switchBank.only (State.modKeys_only ..) rfl).activated (.refl s))

theorem execTrialPassed_rises (s : State) : RisesRes s (execTrialPassed s) := .next (.ite (.refl s) (Rises.refl s).passTrial)

theorem execSafetyInitDone_rises (outcome : InitOutcome) (s : State) : RisesRes s (execSafetyInitDone outcome s) := by
  unfold execSafetyInitDone
  split
  · exact .next (.refl s)
  · extract_lets s1 failed s2
    have h1 : Rises s s1 := (Rises.refl s).only (State.reach_only ..) rfl |>.only (State.reach_only ..) rfl
      |>.only (State.reach_only ..) rfl |>.only (State.modSaf_only ..) rfl
    have hfailed {off : Nat} : Rises s (failed off) := h1.safetyUnproven.only (State.modSaf_only ..) rfl
      |>.only (State.siteTo_only ..) rfl
    have h2 : Rises s s2 := (h1.only (State.modSys_only ..) rfl).safetyProven.only (State.siteTo_only ..) rfl
    refine .next ?_
    split
    · exact h1.safetyUnproven.only (State.execFault_only ..) rfl
    · exact hfailed
    · exact hfailed
    · exact h1.safetyUnproven.only (State.diagFault_only ..) rfl
    · exact h2.each fun _ _ h => h.only (State.checkBlocked_only ..) rfl

theorem execUpdEventRead_rises (path : Path) (g : Guest) (s : State) : RisesRes s (execUpdEventRead path g s) :=
  .next ((Rises.refl s).access fun _ h => (h.only (State.returnRead_only ..) rfl).modFw rfl)

/-! ### Commands of the chain and the mesh -/

theorem execActPropose_rises (h : ChHdr) (a : ActItem) (s : State) : RisesRes s (execActPropose h a s) :=
  .next ((Rises.refl s).chainRx fun _ k => k.eatPropose)

theorem execActCommit_rises (h : ChHdr) (a : ActItem) (s : State) : RisesRes s (execActCommit h a s) :=
  .next ((Rises.refl s).chainRx fun _ k => k.eatCommit)

theorem execActQuery_rises (h : ChHdr) (a : ActItem) (answer : Option Bool) (s : State) : RisesRes s (execActQuery h a answer s) :=
  .next ((Rises.refl s).chainRx fun _ k => k.eatQuery)

theorem execFwOffer_rises (h : ChHdr) (header : List Byte) (s : State) : RisesRes s (execFwOffer h header s) :=
  .next ((Rises.refl s).chainRx fun _ k => k.eatOffer)

theorem execFwBlock_rises (h : ChHdr) (tag off : Nat) (data : List Byte) (s : State) : RisesRes s (execFwBlock h tag off data s) :=
  .next ((Rises.refl s).chainRx fun _ k => k.eatBlock)

theorem execFwNack_rises (h : ChHdr) (tag off len : Nat) (s : State) : RisesRes s (execFwNack h tag off len s) :=
  .next ((Rises.refl s).chainRx fun _ k => k.eatNack)

theorem execFwReq_rises (k : ChPort) (s : State) : RisesRes s (execFwReq k s) := .next (.ite (Rises.refl s).offerImage (.refl s))

theorem execHeadClaim_rises (h : ChHdr) (key : ChKey) (s : State) : RisesRes s (execHeadClaim h key s) :=
  .next ((Rises.refl s).chainRx fun _ k => k.endElection)

theorem execHeadClaimTimer_rises (s : State) : RisesRes s (execHeadClaimTimer s) := by
  refine .next (.ite ?_ (.refl s))
  split
  · exact .ite (Rises.refl s).becomeHead (.refl s)
  · exact .refl s

theorem execMeshChainFrame_rises (m : MHdr) (h : ChHdr) (b : ChBody) (s : State) : RisesRes s (execMeshChainFrame m h b s) := by
  unfold execMeshChainFrame
  extract_lets f
  refine .next ((Rises.refl s).meshRx fun x hx => ?_)
  extract_lets x1
  have h1 : Rises s x1 := .ite (hx.only (State.queueFrame_only ..) rfl |>.only (State.queueFrame_only ..) rfl) hx
  exact h1.chainRx fun _ k => k.eatFrame

theorem execChainTxDone_rises (k : ChPort) (s : State) : RisesRes s (execChainTxDone k s) := by
  unfold execChainTxDone
  extract_lets l x
  have hx : Rises s x := (Rises.refl s).only (State.modChLink_only ..) rfl
  refine .next (.ite (.refl s) ?_)
  split
  · split
    · exact hx.only (State.modChLink_only ..) rfl |>.only (State.beginFrame_only ..) rfl
    · exact hx
  · exact hx.serveBlock

theorem execGrantBroadcast_rises (s : State) : RisesRes s (execGrantBroadcast s) := by
  unfold execGrantBroadcast
  split
  · exact .next (Rises.refl s).tryCommit
  · split
    · exact .next (.refl s)
    · extract_lets frame s1 s2
      have h1 : Rises s s1 := (Rises.refl s).foldl fun _ _ h => h.only (State.originate_only ..) rfl
      have h2 : Rises s s2 := by
        unfold s2
        split
        · exact h1.only (State.takeGrant_only ..) rfl
        · exact h1
      exact .next h2.tryCommit

theorem execPowerEpochStart_rises (s : State) : RisesRes s (execPowerEpochStart s) := by
  unfold execPowerEpochStart
  split
  · exact .next (.refl s)
  · extract_lets s1 s2 s3 s4
    have h1 : Rises s s1 := ((Rises.refl s).only (State.renewLease_only ..) rfl |>.only (State.modLease_only ..) rfl).renewFence
    have h2 : Rises s s2 := h1.only (State.modChn_only ..) rfl
    have h3 : Rises s s3 := .ite
      (h2.only (State.applyHeld_only ..) rfl |>.only (State.releaseSite_only ..) rfl |>.only (State.applyBoundary_only ..) rfl) h2
    have h4 : Rises s s4 := .ite h3 (h3.only (State.renewLease_only ..) rfl)
    exact .next (h4.only (State.propose_only ..) rfl |>.only (State.divide_only ..) rfl |>.only (State.availAll_only ..) rfl)

/-! ### Resets and starts -/

theorem execChipReset_rises (s : State) : RisesRes s (execChipReset s) := .next (Rises.refl s).chipReset
theorem execServiceWatchdogExpiry_rises (s : State) : RisesRes s (execServiceWatchdogExpiry s) := .next (Rises.refl s).chipReset
theorem execEccUncorrectable_rises (s : State) : RisesRes s (execEccUncorrectable s) := .next (Rises.refl s).chipReset

theorem execClockDeviation_rises (s : State) : RisesRes s (execClockDeviation s) :=
  .next (.ite (.refl s) (.ite ((Rises.refl s).only (State.modSys_only ..) rfl |>.only (State.enterRom_only ..) rfl)
    (Rises.refl s).chipReset))

theorem execResetChip_rises (r : Req) (s : State) : RisesRes s (execResetChip r s) := by
  have hs : Rises s s := .refl s
  exact .next (.ite hs.answer (.ite hs.answer hs.chipReset))

theorem execGuestReset_rises (g : Guest) (s : State) : RisesRes s (execGuestReset g s) := by
  unfold execGuestReset
  extract_lets cmds s1 s2 s3
  have h1 : Rises s s1 := (Rises.refl s).each fun _ _ h => .ite h (h.only (State.withdrawFrom_only ..) rfl)
  have h2 : Rises s s2 := (h1.only (State.abortTo_only ..) rfl |>.only (State.dropAdmitted_only ..) rfl).dropLeases
  have h3 : Rises s s3 := (h2.only (State.modGuest_only ..) rfl).clearEvents
  exact .next (.ite (.refl s) (h3.foldl fun _ _ h => h.answer))

theorem execServiceImageStart_rises (verified : Bool) (s : State) : RisesRes s (execServiceImageStart verified s) := by
  unfold execServiceImageStart
  extract_lets x
  have hx : Rises s x := ((Rises.refl s).modFw rfl).chipReset
  exact .next (.ite (.refl s) (.ite ((Rises.refl s).only (State.enterRom_only ..) rfl) (.ite
    (((Rises.refl s).modFw rfl).only (State.modSys_only ..) rfl |>.only (State.modHost_only ..) rfl |>.only (State.modKeys_only ..) rfl
      |>.only (State.reach_only ..) rfl)
    (.ite (hx.only (State.enterRom_only ..) rfl) hx))))

theorem execConfigJournalReplay_rises (candidate : Bool) (torn : Nat) (s : State) :
    RisesRes s (execConfigJournalReplay candidate torn s) := by
  unfold execConfigJournalReplay
  extract_lets s1 s2 s3 s4
  have h1 : Rises s s1 := (Rises.refl s).only (State.modJnl_only ..) rfl
  have h2 : Rises s s2 := (h1.only (State.bootOn_only ..) rfl).each fun _ _ h =>
    h.only (State.followEnable_only ..) rfl |>.only (State.rebuildPort_only ..) rfl
  have h3 : Rises s s3 := h2.each fun _ _ h => .ite (h.only (State.modPmLink_only ..) rfl) h
  have h4 : Rises s s4 := (h3.only (State.chainApplied_only ..) rfl).resumeActivation.only (State.reach_only ..) rfl
    |>.only (State.readSafety_only ..) rfl
  exact .next (.ite (.refl s) (.ite ((Rises.refl s).only (State.enterRom_only ..) rfl)
    ((Rises.ite h4 (h4.only (State.reach_only ..) rfl)).only (State.availAll_only ..) rfl)))

theorem execLegalStartDone_rises (verified candidate : Bool) (torn : Nat) (s : State) :
    RisesRes s (execLegalStartDone verified candidate torn s) := by
  unfold execLegalStartDone
  extract_lets s1 s2 s3
  have h1 : Rises s s1 := (Rises.refl s).only (State.reach_only ..) rfl
  have h2 : Rises s s2 := h1.only (State.modJnl_only ..) rfl |>.only (State.modLegal_only ..) rfl
  have h3 : Rises s s3 := h2.legalRecover.passTrial.only (State.modKeys_only ..) rfl
  exact .next (.ite (.refl s) (.ite (h3.only (State.irqAll_only ..) rfl |>.only (State.reach_only ..) rfl)
    (h1.only (State.modLegal_only ..) rfl |>.only (State.voidLegal_only ..) rfl |>.only (State.reach_only ..) rfl)))

theorem execPorRelease_rises (s : State) : RisesRes s (execPorRelease s) := by
  unfold execPorRelease
  split
  · exact .next (.refl s)
  · refine .next (Rises.only (Rises.batteryStart (Rises.shipRestore ?_)) (State.rootlessStart_only _) rfl)
    exact ⟨.of_eq rfl, fun _ => le_rfl⟩

/-! ### Commands of Legal and Rind -/

theorem execSessionSeal_rises (p : Port) (s : State) : RisesRes s (execSessionSeal p s) := by
  refine .next ?_
  split
  · exact .ite ((Rises.refl s).sealSession.only (State.holdStop_only ..) rfl) (.refl s)
  · exact .refl s

theorem execSealLoopSample_rises (x : LoopRead) (s : State) : RisesRes s (execSealLoopSample x s) := by
  unfold execSealLoopSample
  extract_lets r against s1
  have h1 : Rises s s1 := (Rises.refl s).modRind (.of_eq rfl)
  exact .next (.ite ((Rises.refl s).modRind (.of_eq rfl)) (.ite ((Rises.refl s).modRind (.of_eq rfl))
    (.ite ((h1.modRind (.of_eq rfl)).only (State.bilUnitRaise_only ..) rfl) (.ite h1.sealBreak h1))))

theorem execReseal_rises (r : Req) (s : State) : RisesRes s (execReseal r s) := by
  have hs : Rises s s := .refl s
  refine .next (.ite hs.answer (hs.unlessVoid ?_))
  extract_lets ring s2 q x s3 s4
  have h2 : Rises s s2 := hs.only (State.modLegal_only ..) rfl
  refine .ite h2.answer (.ite (h2.only (State.endRing_only ..) rfl) ?_)
  split
  · exact h2.answer
  · have h3 : Rises s s3 := (h2.only (State.useRing_only ..) rfl).each fun _ _ h => h.only (State.modBil_only ..) rfl
    have h4 : Rises s s4 := h3.modRind (.of_eq rfl)
    exact h4.only (State.appendLegal_only ..) rfl |>.only (State.auditRind_only ..) rfl |>.only (State.keyRaise_only ..) rfl
      |>.only (State.bilUnitRaise_only ..) rfl |>.only (State.irqAll_only ..) rfl |>.answer

theorem execTamperEvent_rises (sensor : Fin 5) (s : State) : RisesRes s (execTamperEvent sensor s) := .next (Rises.refl s).tamperEvent

theorem execTamperSensorSample_rises (mesh light temp lid : Bool) (s : State) :
    RisesRes s (execTamperSensorSample mesh light temp lid s) :=
  .next (.ite (.refl s) ((Rises.refl s).modRind (.of_eq rfl)).tamperSample.tamperSample.tamperSample)

theorem execBatteryLoss_rises (s : State) : RisesRes s (execBatteryLoss s) :=
  .next (.ite (.refl s) ((Rises.refl s).modRind (.of_eq rfl)))

theorem execVbatLow_rises (s : State) : RisesRes s (execVbatLow s) :=
  .next (((Rises.refl s).modRind (.of_eq rfl)).only (State.keyRaise_only ..) rfl)

theorem execVbatRestored_rises (s : State) : RisesRes s (execVbatRestored s) := .next ((Rises.refl s).modRind (.of_eq rfl))

theorem execProvisioning_rises (s : State) : RisesRes s (execProvisioning s) := by
  unfold execProvisioning
  extract_lets s1
  have h1 : Rises s s1 := ((Rises.refl s).modRind (.of_eq rfl)).only (State.useFree_only ..) rfl
  exact .next (.ite (.refl s) (h1.only (State.modKeys_only ..) rfl |>.only (State.auditRind_only ..) rfl
    |>.only (State.keyRaise_only ..) rfl))

/-- FINAL_TEST sets the seal count to 0, which it was before FIELD (R507). -/
theorem execFinalTest_rises (s : State) (hfresh : s.rind.lifecycle ≤ 1 → s.rind.sealCount = 0) : RisesRes s (execFinalTest s) := by
  unfold execFinalTest
  split
  case isTrue => exact .next (.refl s)
  case isFalse h =>
    have hseal : s.rind.sealCount = 0 := hfresh (by
      simp only [ne_eq, Bool.or_eq_true, decide_eq_true_eq, not_or, not_not] at h
      omega)
    exact .next ((Rises.refl s).modRind (.of_eq (by rw [hseal])) |>.only (State.auditRind_only ..) rfl
      |>.only (State.keyRaise_only ..) rfl)

theorem execSetRtcAlarm_rises (r : Req) (s : State) : RisesRes s (execSetRtcAlarm r s) :=
  .next (.ite (Rises.refl s).answer ((Rises.refl s).modRind (.of_eq rfl)).answer)

/-- RENEW_ROOT counts a generation of the root (R520). -/
theorem execRenewRoot_rises (r : Req) (s : State) : RisesRes s (execRenewRoot r s) := by
  unfold execRenewRoot
  extract_lets end_ s1
  have hend {x : State} {code : Nat} (h : Rises s x) : Rises s (end_ x code) :=
    h.answer.only (State.auditCmd_only ..) rfl
  have h1 : Rises s s1 := ((Rises.refl s).modRind (.of_rootGen rfl (Nat.le_succ _))).only (State.useFree_only ..) rfl
  exact .next (.ite (hend (.refl s)) (.ite (hend (.refl s)) (.ite (hend (.refl s)) (hend (h1.only (State.auditRind_only ..) rfl)))))

theorem execRetireDevice_rises (r : Req) (s : State) : RisesRes s (execRetireDevice r s) := by
  unfold execRetireDevice
  extract_lets end_ s1 s2
  have hend {x : State} {code : Nat} (h : Rises s x) : Rises s (end_ x code) :=
    h.answer.only (State.auditCmd_only ..) rfl
  have h1 : Rises s s1 := (Rises.refl s).modRind (.of_eq rfl)
  have h2 : Rises s s2 := h1.only (State.clearVault_only ..) rfl |>.only (State.modKeys_only ..) rfl |>.only (State.dropTls_only ..) rfl
  exact .next (.ite (hend (.refl s)) (.ite (hend (.refl s)) (.ite (hend (.refl s))
    (hend (h2.only (State.keyRaise_only ..) rfl |>.only (State.voidLegal_only ..) rfl |>.only (State.tagZeroise_only ..) rfl
      |>.only (State.auditRind_only ..) rfl)))))

/-! ### Every command and every step -/

/-- A command lets no count fall, from a state that counts no seal before FIELD. The commands that write Rind or the firmware banks have
each a lemma above; the others write neither. -/
theorem exec_rises (i : Instr) (s : State) (hfresh : s.rind.lifecycle ≤ 1 → s.rind.sealCount = 0) : RisesRes s (exec i s) := by
  cases i
  case beginStaging => exact execBeginStaging_rises ..
  case abortStaging => exact execAbortStaging_rises ..
  case stagingWindowWrite => exact execStagingWindowWrite_rises ..
  case stagingRingRead => exact execStagingRingRead_rises ..
  case stagingBodyComplete => exact execStagingBodyComplete_rises ..
  case stagingTimeout => exact execStagingTimeout_rises ..
  case scheduleActivation => exact execScheduleActivation_rises ..
  case cancelActivation => exact execCancelActivation_rises ..
  case activationWaitTimeout => exact execActivationWaitTimeout_rises ..
  case activationTime => exact execActivationTime_rises ..
  case serviceSwapDone => exact execServiceSwapDone_rises ..
  case trialPassed => exact execTrialPassed_rises ..
  case safetyInitDone => exact execSafetyInitDone_rises ..
  case updEventRead => exact execUpdEventRead_rises ..
  case actPropose => exact execActPropose_rises ..
  case actCommit => exact execActCommit_rises ..
  case actQuery => exact execActQuery_rises ..
  case fwOffer => exact execFwOffer_rises ..
  case fwBlock => exact execFwBlock_rises ..
  case fwNack => exact execFwNack_rises ..
  case fwReq => exact execFwReq_rises ..
  case headClaim => exact execHeadClaim_rises ..
  case headClaimTimer => exact execHeadClaimTimer_rises ..
  case meshChainFrame => exact execMeshChainFrame_rises ..
  case chainTxDone => exact execChainTxDone_rises ..
  case grantBroadcast => exact execGrantBroadcast_rises ..
  case powerEpochStart => exact execPowerEpochStart_rises ..
  case chipReset => exact execChipReset_rises ..
  case serviceWatchdogExpiry => exact execServiceWatchdogExpiry_rises ..
  case eccUncorrectable => exact execEccUncorrectable_rises ..
  case clockDeviation => exact execClockDeviation_rises ..
  case resetChip => exact execResetChip_rises ..
  case guestReset => exact execGuestReset_rises ..
  case serviceImageStart => exact execServiceImageStart_rises ..
  case configJournalReplay => exact execConfigJournalReplay_rises ..
  case legalStartDone => exact execLegalStartDone_rises ..
  case porRelease => exact execPorRelease_rises ..
  case sessionSeal => exact execSessionSeal_rises ..
  case sealLoopSample => exact execSealLoopSample_rises ..
  case reseal => exact execReseal_rises ..
  case tamperEvent => exact execTamperEvent_rises ..
  case tamperSensorSample => exact execTamperSensorSample_rises ..
  case batteryLoss => exact execBatteryLoss_rises ..
  case vbatLow => exact execVbatLow_rises ..
  case vbatRestored => exact execVbatRestored_rises ..
  case provisioning => exact execProvisioning_rises ..
  case finalTest => exact execFinalTest_rises _ hfresh
  case setRtcAlarm => exact execSetRtcAlarm_rises ..
  case renewRoot => exact execRenewRoot_rises ..
  case retireDevice => exact execRetireDevice_rises ..
  all_goals exact (exec_only _ s).rises rfl

/-- A step runs a command or lets time pass; either lets no count fall. -/
theorem step_rises (s : State) (hfresh : s.rind.lifecycle ≤ 1 → s.rind.sealCount = 0) : RisesRes s (step s) := by
  unfold step
  split
  · next i rest _ =>
    have hpending : Rises s { s with pending := rest } := .of_eq rfl rfl
    exact ⟨fun t ht => hpending.trans ((exec_rises i { s with pending := rest } hfresh).rises t ht)⟩
  · exact .next (Rises.refl s).tick

/-- Settles O8, from the counts' rise in a step and the widths that the invariant holds them in. -/
theorem countsNeverFall : Obligations.CountsNeverFall := by
  intro s t hinv hstep
  obtain ⟨hrind, hfloor⟩ := (step_rises s hinv.fresh).rises t hstep
  exact ⟨(hrind.sealCount hinv.sealCount).1, fun k => (hrind.tamper k (hinv.tamper k)).1, hrind.rootGen, hfloor⟩

end Sys2Proof.Machine
end

section
/-! The requestable SAFE_OUTs (spec 13 R348): bit k of the outputs that Safety commands on, and what OUT_REQ leaves. -/

namespace Sys2Proof.Machine

variable {s : State}

/-! ### Bits of a word of flags -/

theorem flagWord_bit (l : List Bool) (k : Nat) : flagWord l / 2 ^ k % 2 = b1 (l.getD k false) := by
  induction l generalizing k with
  | nil => simp [flagWord, b1]
  | cons b l ih =>
    cases k with
    | zero => cases b <;> simp [flagWord, b1]
    | succ k =>
      have htail : flagWord (b :: l) / 2 = flagWord l := by
        simp only [flagWord, b1]
        split <;> omega
      rw [pow_succ', ← Nat.div_div_eq_div_mul, htail, ih, List.getD_cons_succ]

theorem flagWord_idx_bit {n : Nat} (f : Fin n → Bool) (k : Fin n) : flagWord ((idx n).map f) / 2 ^ k.1 % 2 = 1 ↔ f k = true := by
  rw [flagWord_bit]
  simp [idx, b1]

/-! ### The outputs that Safety commands on -/

/-- Bit k can be on only by the case of type 3, which asks both of it (R348). -/
theorem State.outsWanted_requestable {k : Fin 8} (htype : (ix s.table.outputs k).type = 3) (hon : s.outsWanted / 2 ^ k.1 % 2 = 1) :
    s.saf.requests / 2 ^ k.1 % 2 = 1 ∧ ∀ n ∈ s.heldRows, (ix s.table.rows n).outs / 2 ^ k.1 % 2 = 0 := by
  unfold State.outsWanted at hon
  extract_lets named torque torqueOn on at hon
  have hk : on k = true := by
    split at hon
    · simp at hon
    · simp at hon
    · exact (flagWord_idx_bit on k).1 hon
  simp only [on, htype, Bool.and_eq_true, Bool.not_eq_true', beq_iff_eq] at hk
  obtain ⟨-, hnamed, hreq⟩ := hk
  refine ⟨hreq, fun n hn => ?_⟩
  have hrow := List.any_eq_false.1 hnamed n hn
  simpa using hrow

@[simp] theorem State.writeOuts_outs (s : State) : s.writeOuts.saf.outs = s.outsWanted := rfl
@[simp] theorem State.writeOuts_requests (s : State) : s.writeOuts.saf.requests = s.saf.requests := rfl
/-- What Safety wants does not depend on what it drives, so an output written once stays what is wanted. -/
@[simp] theorem State.writeOuts_outsWanted (s : State) : s.writeOuts.outsWanted = s.outsWanted := rfl

/-- Settles O26, from bit k of the outputs commanded on, and from the outputs that OUT_REQ writes after it has masked the request. -/
theorem requestableOutputs : Obligations.RequestableOutputs := by
  refine ⟨fun k s htype hon => State.outsWanted_requestable htype hon, fun m s => ?_⟩
  exact ⟨(s.heartbeat.modSaf fun x => { x with requests := m &&& s.requestable }).writeOuts, exec_outReq s m,
    by rw [State.writeOuts_outs, State.writeOuts_outsWanted], by rw [State.writeOuts_requests, State.modSaf_saf]⟩

end Sys2Proof.Machine
end

section
/-! The site digest (spec 16 R434), and trip advice, received and sent (R440). -/

namespace Sys2Proof.Machine

variable {s : State}

/-! ### The site digest -/

/-- The name that the site digest begins with, in the bytes that R434 counts. -/
theorem ascii_herrilSite : ascii "HERRIL-SITE" = [0x48, 0x45, 0x52, 0x52, 0x49, 0x4C, 0x2D, 0x53, 0x49, 0x54, 0x45] := by decide

/-- Settles O25, from the bytes of the name before the three items. -/
theorem siteDigestIsOfItsItems : Obligations.SiteDigestIsOfItsItems := by
  intro c
  rw [siteDigest, ascii_herrilSite]

/-! ### Trip advice -/

/-- Advice that this unit takes acts on what reception of its frame left. -/
theorem execTripAdvice_of_takes {h : ChHdr} {origin cause ports row time : Nat} (htakes : s.takes h (.tripAdvice origin cause ports row time) = true) :
    execTripAdvice h origin cause ports row time s =
      .next ((s.received h (.tripAdvice origin cause ports row time)).eatAdvice origin cause ports row time) := by
  rw [execTripAdvice, State.chainRx_takes _ htakes]

/-- Outside a pre-close insulation test a trip ends the session with cause 0x11; where the configuration asks it, the row named goes
out as advice (R205, R440). -/
theorem execTrip_sendsAdvice {p : Port} {cause row : Nat} (hon : s.chainOn = true) (hout : s.cfg.chain.adviceOut = true) (hrow : row < 64)
    (htest : (s.sesAt p).insAsked = false) :
    execTrip p cause row s =
      .next ((((if (s.sesAt p).state.inSession = true then s.halt p else s).endSession p 0x11).sendAdvice cause (2 ^ p.1) row).availPoll p) := by
  simp [execTrip, hon, hout, hrow, htest]

/-- Settles O16, from what advice taken leaves, from the parts that it may write, and from the advice that a trip sends. -/
theorem tripAdviceIsMirroredOnly : Obligations.TripAdviceIsMirroredOnly := by
  refine ⟨fun h origin cause ports row time s htakes => ?_, fun origin cause ports row time s => ?_,
    fun p cause row s hon hout hrow htest => ?_⟩
  · rw [exec_tripAdvice, execTripAdvice_of_takes htakes]
  · exact ((State.eatAdvice_only s origin cause ports row time).mono rfl).same
  · rw [exec_trip]
    exact execTrip_sendsAdvice hon hout hrow htest

end Sys2Proof.Machine
end

section
/-! The life cycle of the device (spec 19 R507). What a command leaves of Rind is said by a lemma `f_rind` or `f_lifecycle` of each
operation f that it is made of; `LifeMove` lists the arcs, each with the command that takes it. -/

namespace Sys2Proof.Machine

variable {s t : State}

/-! ### How operations compose -/

/-- An operation that may not change Rind keeps it. -/
theorem Only.rind_eq {ps : List Part} (h : Only ps s t) (hp : Part.rind ∉ ps) : t.rind = s.rind := h.same .rind hp

@[simp] theorem ite_lifecycle (c : Prop) [Decidable c] (t u : State) :
    (if c then t else u).rind.lifecycle = if c then t.rind.lifecycle else u.rind.lifecycle := apply_ite (·.rind.lifecycle) c t u

@[simp] theorem foldl_lifecycle {α : Type} {f : State → α → State} (hf : ∀ t a, (f t a).rind.lifecycle = t.rind.lifecycle) (l : List α)
    (s : State) : (l.foldl f s).rind.lifecycle = s.rind.lifecycle := by
  induction l generalizing s with
  | nil => rfl
  | cons a l ih => exact (ih _).trans (hf s a)

@[simp] theorem State.each_lifecycle {n : Nat} {f : Fin n → State → State} (hf : ∀ i t, (f i t).rind.lifecycle = t.rind.lifecycle)
    (s : State) : (s.each f).rind.lifecycle = s.rind.lifecycle := foldl_lifecycle (fun t i => hf i t) _ s

/-! ### Operations that leave Rind as it was -/

@[simp] theorem State.useFree_rind (s : State) : s.useFree.rind = s.rind := rfl
@[simp] theorem State.keyRaise_rind (s : State) (bits : Word) : (s.keyRaise bits).rind = s.rind := rfl
@[simp] theorem State.auditRind_rind (s : State) (kind reason : Nat) : (s.auditRind kind reason).rind = s.rind := rfl
@[simp] theorem State.auditCmd_rind (s : State) (r : Req) (slot result reason : Nat) : (s.auditCmd r slot result reason).rind = s.rind := rfl
@[simp] theorem State.clearVault_rind (s : State) : s.clearVault.rind = s.rind := rfl
@[simp] theorem State.tagZeroise_rind (s : State) : s.tagZeroise.rind = s.rind := rfl
@[simp] theorem State.modInput_rind (s : State) (k : Fin 2) (f : PulseIn → PulseIn) : (s.modInput k f).rind = s.rind := rfl
@[simp] theorem State.dropTls_rind (s : State) : s.dropTls.rind = s.rind := (State.dropTls_only _).rind_eq (by decide)
@[simp] theorem State.voidLegal_rind (s : State) : s.voidLegal.rind = s.rind := (State.voidLegal_only _).rind_eq (by decide)
@[simp] theorem State.appendLegal_rind (s : State) (r : JRec) : (s.appendLegal r).rind = s.rind :=
  (State.appendLegal_only ..).rind_eq (by decide)
@[simp] theorem State.bilUnitRaise_rind (s : State) (bits : Word) : (s.bilUnitRaise bits).rind = s.rind :=
  (State.bilUnitRaise_only ..).rind_eq (by decide)
@[simp] theorem State.holdStop_rind (s : State) : s.holdStop.rind = s.rind := (State.holdStop_only _).rind_eq (by decide)
@[simp] theorem State.endRing_rind (s : State) (r : Req) (ring code : Nat) (ws : List Word) :
    (s.endRing r ring code ws).rind = s.rind := (State.endRing_only ..).rind_eq (by decide)
@[simp] theorem State.restorePort_rind (s : State) (p : Port) : (s.restorePort p).rind = s.rind :=
  (State.restorePort_only ..).rind_eq (by decide)
@[simp] theorem State.passTrial_rind (s : State) (c : Fin 3) : (s.passTrial c).rind = s.rind := (State.passTrial_only ..).rind_eq (by decide)
@[simp] theorem State.reach_rind (s : State) (n : Nat) : (s.reach n).rind = s.rind := (State.reach_only ..).rind_eq (by decide)
@[simp] theorem State.rootlessStart_rind (s : State) : s.rootlessStart.rind = s.rind :=
  (State.rootlessStart_only _).rind_eq (by decide)
@[simp] theorem State.tickChain_rind (s : State) : s.tickChain.rind = s.rind := (State.tickChain_only _).rind_eq (by decide)
@[simp] theorem State.tickCounters_rind (s : State) : s.tickCounters.rind = s.rind := (State.tickCounters_only _).rind_eq (by decide)

/-! ### Operations that write Rind -/

@[simp] theorem State.rootLost_rind (s : State) :
    s.rootLost.rind = { s.rind with rootPresent := false, renewed := false, certified := false } := rfl

@[simp] theorem State.zeroise_rind (s : State) : s.zeroise.rind = s.rootLost.rind := by
  simp [State.zeroise]

@[simp] theorem State.tamperEvent_lifecycle (s : State) (k : Fin 5) : (s.tamperEvent k).rind.lifecycle = s.rind.lifecycle := by
  simp [State.tamperEvent]

@[simp] theorem State.tamperSample_lifecycle (s : State) (k : Fin 5) (bad : Bool) :
    (s.tamperSample k bad).rind.lifecycle = s.rind.lifecycle := by
  simp [State.tamperSample]

@[simp] theorem State.legalRecover_lifecycle (s : State) : s.legalRecover.rind.lifecycle = s.rind.lifecycle := by
  unfold State.legalRecover
  extract_lets saves newestRtc metering early kind open_ prev s1 rec_ s2 s3 s4
  have h1 : s1.rind = s.rind := rfl
  have h2 : s2.rind.lifecycle = s1.rind.lifecycle := by simp [s2]
  have h3 : s3.rind.lifecycle = s2.rind.lifecycle := by simp [s3]
  have h4 : s4.rind.lifecycle = s3.rind.lifecycle := by simp [s4]
  rw [foldl_lifecycle fun _ _ => by simp, h4, h3, h2, h1]

@[simp] theorem State.tick_lifecycle (s : State) : s.tick.rind.lifecycle = s.rind.lifecycle := by
  have hcount (r : Rind) : (if r.counting then { r with rtcUs := r.rtcUs + 1 } else r).lifecycle = r.lifecycle := by
    split <;> rfl
  simp [State.tick, hcount]

/-- A seal break takes FIELD to SERVICE (R301, R507). -/
@[simp] theorem State.sealBreak_lifecycle (s : State) :
    s.sealBreak.rind.lifecycle = if s.rind.lifecycle = 2 then 3 else s.rind.lifecycle := by
  unfold State.sealBreak
  by_cases h : s.rind.lifecycle = 2 <;> simp [h]

/-- A battery loss that the start finds is a seal break (R504). -/
theorem State.batteryStart_lifecycle (s : State) : s.batteryStart.rind.lifecycle =
    if s.rind.batteryLost = true ∧ s.rind.lifecycle = 2 then 3 else s.rind.lifecycle := by
  unfold State.batteryStart
  by_cases hlost : s.rind.batteryLost = true
  · simp only [hlost, true_and]
    exact State.sealBreak_lifecycle _
  · simp [hlost]

@[simp] theorem State.shipRestore_lifecycle (s : State) : s.shipRestore.rind.lifecycle = s.rind.lifecycle := by
  simp [State.shipRestore]

/-- The battery that a restored module calls lost was lost before, or its ship copy failed (R505). -/
theorem State.shipRestore_batteryLost (h : s.shipRestore.rind.batteryLost = true) :
    s.rind.batteryLost = true ∨ s.rind.shipCopy = true := by
  cases hcopy : s.rind.shipCopy with
  | true => exact .inr rfl
  | false => exact .inl (by simpa [State.shipRestore, hcopy] using h)

/-! ### The arcs -/

/-- The arcs of R507: the state of Rind that each asks, the command that takes it, and the life cycle it leads to. -/
inductive LifeMove (r : Rind) : Instr → Nat → Prop
  | provisioned (h : r.lifecycle = 0) : LifeMove r .provisioning 1
  | tested (h : r.lifecycle = 1) (hclosed : r.loopOpen = false) : LifeMove r .finalTest 2
  | sealOpened (x : LoopRead) (h : r.lifecycle = 2) (hopen : 10000 < x.ohm ∨ x.gnd < 100000) : LifeMove r (.sealLoopSample x) 3
  | batteryLost (h : r.lifecycle = 2) (hlost : r.batteryLost = true ∨ r.shipCopy = true) : LifeMove r .porRelease 3
  | resealed (q : Req) (h : r.lifecycle = 3) : LifeMove r (.reseal q) 2
  | retired (q : Req) (h : r.lifecycle = 3) : LifeMove r (.retireDevice q) 4

/-- Every next state that a meaning of command i answers keeps the life cycle or takes an arc of i. -/
structure LifeRes (s : State) (i : Instr) (r : Res) : Prop where
  moves : ∀ t, r = .next t → t.rind.lifecycle = s.rind.lifecycle ∨ LifeMove s.rind i t.rind.lifecycle

theorem LifeRes.next {i : Instr} (h : t.rind.lifecycle = s.rind.lifecycle ∨ LifeMove s.rind i t.rind.lifecycle) : LifeRes s i (.next t) :=
  ⟨fun u hu => by cases hu; exact h⟩

theorem LifeRes.kept {i : Instr} (h : t.rind.lifecycle = s.rind.lifecycle) : LifeRes s i (.next t) := .next (.inl h)

theorem OnlyRes.life {ps : List Part} {i : Instr} {r : Res} (h : OnlyRes ps s r) (hps : ps.contains .rind = false) : LifeRes s i r :=
  ⟨fun t ht => .inl (congrArg Rind.lifecycle ((h.only t ht).rind_eq (by simpa using hps)))⟩

/-- An arc is taken where it leads to the life cycle met. -/
theorem LifeRes.arc {i : Instr} {n : Nat} (h : LifeMove s.rind i n) (hn : t.rind.lifecycle = n) :
    t.rind.lifecycle = s.rind.lifecycle ∨ LifeMove s.rind i t.rind.lifecycle := .inr (hn ▸ h)

/-! ### Commands that write Rind and keep the life cycle -/

theorem execSetRtcAlarm_life (r : Req) (s : State) : LifeRes s (.setRtcAlarm r) (execSetRtcAlarm r s) := .kept (by simp)

theorem execRenewRoot_life (r : Req) (s : State) : LifeRes s (.renewRoot r) (execRenewRoot r s) := .kept (by simp)

theorem execLegalStartDone_life (verified candidate : Bool) (torn : Nat) (s : State) :
    LifeRes s (.legalStartDone verified candidate torn) (execLegalStartDone verified candidate torn s) := .kept (by simp)

theorem execTamperEvent_life (k : Fin 5) (s : State) : LifeRes s (.tamperEvent k) (execTamperEvent k s) := .kept (by simp)

theorem execTamperSensorSample_life (mesh light temp lid : Bool) (s : State) :
    LifeRes s (.tamperSensorSample mesh light temp lid) (execTamperSensorSample mesh light temp lid s) := .kept (by simp)

theorem execBatteryLoss_life (s : State) : LifeRes s .batteryLoss (execBatteryLoss s) := .kept (by simp)

theorem execVbatLow_life (s : State) : LifeRes s .vbatLow (execVbatLow s) := .kept rfl

theorem execVbatRestored_life (s : State) : LifeRes s .vbatRestored (execVbatRestored s) := .kept rfl

/-! ### Commands that take an arc -/

theorem execProvisioning_life (s : State) : LifeRes s .provisioning (execProvisioning s) := by
  refine .next ?_
  split
  · exact .inl rfl
  · next h => exact .inr (.provisioned (not_not.1 h))

theorem execFinalTest_life (s : State) : LifeRes s .finalTest (execFinalTest s) := by
  refine .next ?_
  split
  · exact .inl rfl
  · next h =>
    simp only [ne_eq, Bool.or_eq_true, decide_eq_true_eq, not_or, not_not, Bool.not_eq_true] at h
    obtain ⟨hfactory, hclosed⟩ := h
    exact .inr (.tested hfactory hclosed)

theorem execSealLoopSample_life (x : LoopRead) (s : State) : LifeRes s (.sealLoopSample x) (execSealLoopSample x s) := by
  unfold execSealLoopSample
  extract_lets r against s1
  refine .next ?_
  split
  · exact .inl rfl
  split
  · exact .inl rfl
  split
  · exact .inl (by simp [s1])
  split
  case isTrue hagainst _ _ hclosed =>
    by_cases hfield : s.rind.lifecycle = 2
    · have hopen : loopReadsOpen x = true := by
        have hr : r.loopOpen = false := by simpa using hclosed
        simpa [against, hr] using hagainst
      exact LifeRes.arc (.sealOpened x hfield (by simpa [loopReadsOpen] using hopen)) (by simp [s1, hfield])
    · exact .inl (by simp [s1, hfield])
  case isFalse => exact .inl rfl

theorem execPorRelease_life (s : State) : LifeRes s .porRelease (execPorRelease s) := by
  unfold execPorRelease
  split
  · exact .kept rfl
  · refine .next ?_
    rw [State.rootlessStart_rind, State.batteryStart_lifecycle, State.shipRestore_lifecycle]
    split
    · next h =>
      obtain ⟨hlost, hfield⟩ := h
      have hcause := State.shipRestore_batteryLost hlost
      exact .inr (.batteryLost hfield hcause)
    · exact .inl rfl

/-- RESEAL and RETIRE_DEVICE answer WRONG_STATE outside SERVICE. -/
theorem lifecycle_of_inService {busy : Bool} (h : ¬(!s.inService || busy) = true) : s.rind.lifecycle = 3 := by
  simp only [Bool.or_eq_true, Bool.not_eq_true', not_or, Bool.not_eq_false] at h
  obtain ⟨hservice, -⟩ := h
  simpa [State.inService] using hservice

theorem execReseal_life (r : Req) (s : State) : LifeRes s (.reseal r) (execReseal r s) := by
  refine .next ?_
  split
  · exact .inl (by simp)
  unfold State.unlessVoid
  split
  · exact .inl (by simp)
  beta_reduce
  extract_lets ring s2 q x s3 s4
  split
  · exact .inl (by simp [s2])
  next hready =>
  split
  · exact .inl (by simp [s2])
  split
  · exact .inl (by simp [s2])
  exact LifeRes.arc (.resealed r (lifecycle_of_inService hready)) (by simp [s4])

theorem execRetireDevice_life (r : Req) (s : State) : LifeRes s (.retireDevice r) (execRetireDevice r s) := by
  unfold execRetireDevice
  extract_lets end_ s1 s2
  refine .next ?_
  split
  · exact .inl rfl
  split
  · exact .inl rfl
  next hready =>
  split
  · exact .inl rfl
  exact LifeRes.arc (.retired r (lifecycle_of_inService hready)) (by simp [end_, s2, s1])

/-! ### Every command and every step -/

/-- A command keeps the life cycle or takes one of its arcs. The commands that write Rind have each a lemma above. -/
theorem exec_life (i : Instr) (s : State) : LifeRes s i (exec i s) := by
  cases i
  case porRelease => exact execPorRelease_life ..
  case legalStartDone => exact execLegalStartDone_life ..
  case sealLoopSample => exact execSealLoopSample_life ..
  case reseal => exact execReseal_life ..
  case tamperEvent => exact execTamperEvent_life ..
  case tamperSensorSample => exact execTamperSensorSample_life ..
  case batteryLoss => exact execBatteryLoss_life ..
  case vbatLow => exact execVbatLow_life ..
  case vbatRestored => exact execVbatRestored_life ..
  case provisioning => exact execProvisioning_life ..
  case finalTest => exact execFinalTest_life ..
  case setRtcAlarm => exact execSetRtcAlarm_life ..
  case renewRoot => exact execRenewRoot_life ..
  case retireDevice => exact execRetireDevice_life ..
  all_goals exact (exec_only _ s).life rfl

/-- Settles O7, from the arcs of the command that the step runs. -/
theorem lifeCycleMoves : Obligations.LifeCycleMoves := by
  intro s t hstep
  unfold step at hstep
  split at hstep
  · next i rest hqueue =>
    rcases (exec_life i { s with pending := rest }).moves t hstep with hkept | hmove
    · exact .inl hkept
    · have hhead : s.pending.head? = some i := by rw [hqueue]; rfl
      generalize t.rind.lifecycle = n at hmove ⊢
      cases hmove with
      | provisioned h => exact .inr (.inl ⟨h, rfl, hhead⟩)
      | tested h hclosed => exact .inr (.inr (.inl ⟨h, rfl, hhead, hclosed⟩))
      | sealOpened x h hopen => exact .inr (.inr (.inr (.inl ⟨h, rfl, x, hhead, hopen⟩)))
      | batteryLost h hlost => exact .inr (.inr (.inr (.inr (.inl ⟨h, rfl, hhead, hlost⟩))))
      | resealed r h => exact .inr (.inr (.inr (.inr (.inr (.inl ⟨h, rfl, r, hhead⟩)))))
      | retired r h => exact .inr (.inr (.inr (.inr (.inr (.inr ⟨h, rfl, r, hhead⟩)))))
  · cases hstep
    exact .inl (State.tick_lifecycle s)

end Sys2Proof.Machine
end

section
/-! A tamper event of an armed sensor (spec 19 R503): what it counts, and what goes with the root that it zeroes. -/

namespace Sys2Proof.Machine

variable {s : State}

/-! ### The count and its audit entry -/

/-- A tamper event is counted, named as the last cause, shown as an alarm and logged, before anything is zeroed (R503, R518). -/
def State.tamperCounted (s : State) (k : Fin 5) : State :=
  (s.modRind fun r => { r with
    tamper := upd r.tamper ⟨k.1, by omega⟩ (satInc 0xFFFF), lastCause := k.1 + 1, alarm := upd r.alarm k fun _ => true }).auditRind 2 (k.1 + 1)

theorem State.tamperCounted_only (s : State) (k : Fin 5) : Only [.rind, .keys] s (s.tamperCounted k) :=
  Only.step (State.auditRind_only ..) rfl ((State.modRind_only ..).mono rfl)

@[simp] theorem State.tamperCounted_rind (s : State) (k : Fin 5) : (s.tamperCounted k).rind =
    { s.rind with
      tamper := upd s.rind.tamper ⟨k.1, by omega⟩ (satInc 0xFFFF), lastCause := k.1 + 1, alarm := upd s.rind.alarm k fun _ => true } := rfl

@[simp] theorem State.tamperCounted_slots (s : State) (k : Fin 5) : (s.tamperCounted k).keys.slots = s.keys.slots := rfl

/-! ### What an event does, by arming, root and power state -/

theorem execTamperEvent_of_unarmed (k : Fin 5) (harmed : s.rind.armed = false) : execTamperEvent k s = .next s := by
  simp [execTamperEvent, State.tamperEvent, harmed]

section Armed

variable (k : Fin 5) (harmed : s.rind.armed = true) (hretired : s.retired = false)
include harmed hretired

/-- An event of an armed sensor is counted in any case; what else it does depends on the root and on the power state. -/
theorem State.tamperEvent_of_armed : s.tamperEvent k =
    if s.rind.rootPresent = false then s.tamperCounted k
    else if s.sys.power = .dormant then (s.tamperCounted k).rootLost else (s.tamperCounted k).zeroise := by
  simp [State.tamperEvent, State.tamperCounted, harmed, hretired]

theorem execTamperEvent_of_rootless (hroot : s.rind.rootPresent = false) : execTamperEvent k s = .next (s.tamperCounted k) := by
  rw [execTamperEvent, State.tamperEvent_of_armed k harmed hretired, if_pos hroot]

/-- In Dormant Rind alone has power: the root goes, and the vault keeps its slots until the next start. DEDUCED (log 229). -/
theorem execTamperEvent_of_dormant (hroot : s.rind.rootPresent = true) (hpower : s.sys.power = .dormant) :
    execTamperEvent k s = .next (s.tamperCounted k).rootLost := by
  rw [execTamperEvent, State.tamperEvent_of_armed k harmed hretired, if_neg (by simp [hroot]), if_pos hpower]

theorem execTamperEvent_of_root (hroot : s.rind.rootPresent = true) (hpower : s.sys.power ≠ .dormant) :
    execTamperEvent k s = .next (s.tamperCounted k).zeroise := by
  rw [execTamperEvent, State.tamperEvent_of_armed k harmed hretired, if_neg (by simp [hroot]), if_neg hpower]

end Armed

/-! ### Zeroisation -/

/-- Ending the TLS connections of a list of ports ends them at those ports and restores none at another. -/
theorem foldl_modVeh_tls (l : List Port) (s : State) (p : Port) (h : p ∈ l ∨ (s.vehAt p).tls = false) :
    ((l.foldl (fun t q => t.modVeh q fun v => { v with tls := false }) s).vehAt p).tls = false := by
  induction l generalizing s with
  | nil => simpa using h
  | cons q l ih =>
    refine ih _ ?_
    by_cases hpq : q = p
    · subst hpq
      exact .inr (by simp)
    · have hother : (s.modVeh q fun v => { v with tls := false }).vehAt p = s.vehAt p := ix_upd_ne _ _ _ _ hpq
      rw [hother]
      exact h.imp_left fun hmem => (List.mem_cons.1 hmem).resolve_left (Ne.symm hpq)

theorem State.dropTls_tls (s : State) (p : Port) : (s.dropTls.vehAt p).tls = false :=
  foldl_modVeh_tls _ _ p (.inl (List.mem_finRange p))

theorem State.voidLegal_state (s : State) : s.voidLegal.legal.state = .void := by
  unfold State.voidLegal
  split
  · next h => simpa using h
  · simp

/-- Of the vault zeroisation leaves what clearing it leaves, with the event raised (R503, R521). -/
theorem State.zeroise_keys (s : State) : s.zeroise.keys = (s.rootLost.clearVault.keyRaise 1).keys := by
  have hvoid : s.zeroise.keys = (s.rootLost.clearVault.dropTls.keyRaise 1).keys := (State.voidLegal_only _).same .keys (by decide)
  have hdrop : s.rootLost.clearVault.dropTls.keys = s.rootLost.clearVault.keys := (State.dropTls_only _).same .keys (by decide)
  rw [hvoid, State.keyRaise, State.modKeys_keys, hdrop, State.keyRaise, State.modKeys_keys]

theorem State.zeroise_slots (s : State) : s.zeroise.keys.slots = s.keys.slots.filter (·.2.publicOnly) := by
  rw [State.zeroise_keys]
  rfl

theorem State.zeroise_keySes (s : State) (g : Guest) (h : Fin 8) : s.zeroise.keySes g h = none := by
  have hsessions : s.zeroise.keys.sessions = Vector.replicate 16 (Vector.replicate 8 none) := by
    rw [State.zeroise_keys]
    rfl
  simp [State.keySes, hsessions]

theorem State.zeroise_legalState (s : State) : s.zeroise.legal.state = .void := State.voidLegal_state _

theorem State.zeroise_tls (s : State) (p : Port) : (s.zeroise.vehAt p).tls = false := by
  have hveh : s.zeroise.veh = s.rootLost.clearVault.dropTls.veh := (State.voidLegal_only _).same .veh (by decide)
  unfold State.vehAt
  rw [hveh]
  exact State.dropTls_tls _ p

theorem State.zeroise_tamperCounted_only (s : State) (k : Fin 5) :
    Only [.host, .veh, .legal, .met, .nrg, .bil, .pq, .jnl, .rind, .keys, .nfc, .sent] s (s.tamperCounted k).zeroise :=
  Only.step (State.zeroise_only _) rfl ((s.tamperCounted_only k).mono rfl)

theorem State.rootLost_tamperCounted_only (s : State) (k : Fin 5) : Only [.rind, .keys] s (s.tamperCounted k).rootLost :=
  Only.step (State.rootLost_only _) rfl (s.tamperCounted_only k)

/-- Settles O12, from the count, from what zeroisation leaves, and from the frames of both. That in Dormant an event zeroes the root
alone is the model's choice (log 229). -/
theorem tamperZeroisesTheRoot : Obligations.TamperZeroisesTheRoot := by
  refine ⟨fun k s harmed hretired hroot hpower => ?_, fun k s harmed hretired hroot hpower => ?_, fun k s harmed hretired hroot => ?_,
    fun k s harmed => execTamperEvent_of_unarmed k harmed⟩
  · exact ⟨(s.tamperCounted k).zeroise, execTamperEvent_of_root k harmed hretired hroot hpower, by simp, by simp, by simp, by simp,
      State.zeroise_slots _, State.zeroise_keySes _, State.zeroise_legalState _, State.zeroise_tls _,
      (s.zeroise_tamperCounted_only k).same⟩
  · exact ⟨(s.tamperCounted k).rootLost, execTamperEvent_of_dormant k harmed hretired hroot hpower, by simp, by simp, by simp,
      (s.rootLost_tamperCounted_only k).same⟩
  · exact ⟨s.tamperCounted k, execTamperEvent_of_rootless k harmed hretired hroot, rfl, hroot, (s.tamperCounted_only k).same⟩

end Sys2Proof.Machine
end

section
/-! The tag's password lock (spec 21 R560) and the operations that leave it as it was. `KeepsLock s t` says that from s to t the count of
wrong passwords and the lock stand. A lemma `KeepsLock.f` adds an operation f to such a change, by the lemmas of the operations that f is
made of; what does not touch the reader and the tag is added by its frame, with `KeepsLock.only`. -/

namespace Sys2Proof.Machine

variable {s t u : State}

/-! ### The relation -/

/-- The tag's count of wrong passwords and its lock are as they were (R560). -/
structure KeepsLock (s t : State) : Prop where
  fails : t.tag.fails = s.tag.fails
  locked : t.tag.locked = s.tag.locked

/-- Every next state that a meaning answers has the tag's count and lock as they were. -/
structure KeepsLockRes (s : State) (r : Res) : Prop where
  keeps : ∀ t, r = .next t → KeepsLock s t

/-! ### How operations compose -/

theorem KeepsLock.of_tag (h : t.tag = s.tag) : KeepsLock s t := ⟨congrArg Tag.fails h, congrArg Tag.locked h⟩

theorem KeepsLock.refl (s : State) : KeepsLock s s := .of_tag rfl

theorem KeepsLock.trans (h : KeepsLock s t) (k : KeepsLock t u) : KeepsLock s u :=
  ⟨k.fails.trans h.fails, k.locked.trans h.locked⟩

theorem KeepsLock.ite {c : Prop} [Decidable c] (h : KeepsLock s t) (k : KeepsLock s u) : KeepsLock s (if c then t else u) := by
  split <;> assumption

theorem KeepsLock.foldl {α : Type} {f : State → α → State} {l : List α} (h : KeepsLock s t)
    (k : ∀ u a, KeepsLock s u → KeepsLock s (f u a)) : KeepsLock s (l.foldl f t) := by
  induction l generalizing t with
  | nil => exact h
  | cons a l ih => exact ih (k _ _ h)

theorem KeepsLock.each {n : Nat} {f : Fin n → State → State} (h : KeepsLock s t) (k : ∀ i u, KeepsLock s u → KeepsLock s (f i u)) :
    KeepsLock s (t.each f) := h.foldl fun u i => k i u

theorem Only.keepsLock {ps : List Part} (h : Only ps s t) (hps : ps.contains .nfc = false) : KeepsLock s t :=
  .of_tag (congrArg Nfc.tag (h.same .nfc (by simpa using hps)))

/-- A further change, that leaves the reader and the tag as they were. -/
theorem KeepsLock.only {ps : List Part} (h : KeepsLock s t) (k : Only ps t u) (hps : ps.contains .nfc = false) :
    KeepsLock s u := h.trans (k.keepsLock hps)

theorem KeepsLock.modNfc {f : Nfc → Nfc} (h : KeepsLock s t) (hf : (f t.nfc).tag = t.tag) : KeepsLock s (t.modNfc f) :=
  h.trans (.of_tag hf)

theorem KeepsLock.modTag {f : Tag → Tag} (h : KeepsLock s t) (hf : ((f t.tag).fails, (f t.tag).locked) = (t.tag.fails, t.tag.locked)) :
    KeepsLock s (t.modTag f) := by
  obtain ⟨hfails, hlocked⟩ := Prod.mk.inj hf
  exact h.trans ⟨hfails, hlocked⟩

theorem KeepsLock.nfcRaise {bits : Word} (h : KeepsLock s t) : KeepsLock s (t.nfcRaise bits) := h.modNfc rfl

theorem KeepsLock.answer {r : Req} {code : Nat} {ws : List Word} (h : KeepsLock s t) : KeepsLock s (t.answer r code ws) :=
  h.only (State.answer_only ..) rfl

theorem KeepsLock.tagSays {b : List Byte} (h : KeepsLock s t) : KeepsLock s (t.tagSays b) := h.only (State.tagSays_only ..) rfl

theorem KeepsLock.selected {f : State → State} (h : KeepsLock s t) (hf : KeepsLock s (f t)) : KeepsLock s (t.selected f) :=
  .ite h (.ite h.tagSays hf)

theorem KeepsLock.access {path : Path} {g : Guest} {off be : Nat} {write shape : Bool} {f : State → State} (h : KeepsLock s t)
    (hf : KeepsLock s (f t)) : KeepsLock s (t.access path g off write be shape f) :=
  .ite (.ite (h.only (State.emit_only ..) rfl) h)
    ((KeepsLock.ite h (.ite (h.only (State.badAccess_only ..) rfl) hf)).only (State.hostActive_only ..) rfl)

theorem KeepsLockRes.next (h : KeepsLock s t) : KeepsLockRes s (.next t) := ⟨fun u hu => by cases hu; exact h⟩

theorem OnlyRes.keepsLock {ps : List Part} {r : Res} (h : OnlyRes ps s r) (hps : ps.contains .nfc = false) : KeepsLockRes s r :=
  ⟨fun t ht => (h.only t ht).keepsLock hps⟩

/-! ### The reader and the tag's field -/

theorem KeepsLock.tagPower (k : KeepsLock s t) : KeepsLock s t.tagPower :=
  .ite k (.ite (k.modTag rfl) ((k.only (State.modFree_only ..) rfl).modTag rfl))

theorem KeepsLock.dropCard (k : KeepsLock s t) : KeepsLock s t.dropCard := by
  unfold State.dropCard
  extract_lets x
  have hx : KeepsLock s x := (k.modNfc rfl).nfcRaise
  exact .ite (.ite hx.tagPower hx) k

theorem KeepsLock.releaseHeld (k : KeepsLock s t) : KeepsLock s t.releaseHeld := by
  unfold State.releaseHeld
  split
  · exact (k.modNfc rfl).dropCard
  · exact k

/-- Zeroisation takes the key and the pages, and leaves the password and its lock (R564). -/
theorem KeepsLock.tagZeroise (k : KeepsLock s t) : KeepsLock s t.tagZeroise := k.trans ⟨rfl, rfl⟩

/-! ### Configuration items -/

/-- Of the items NFC_CONFIG alone reaches the reader and the tag: the reader lets its card go, or the tag loses its field (R578). -/
theorem KeepsLock.itemEffect {was : Cfg} {it : Item} (k : KeepsLock s t) : KeepsLock s (t.itemEffect was it) := by
  unfold State.itemEffect
  split
  · exact .ite k (k.only (State.modTref_only ..) rfl |>.only (State.sysChanged_only ..) rfl)
  · exact k.each fun _ _ h => .ite (h.only (State.endClaim_only ..) rfl) h
  · exact .ite k (k.only (State.modGuest_only ..) rfl)
  · exact k.only (State.followEnable_only ..) rfl |>.only (State.refreshPwm_only ..) rfl |>.only (State.checkBlocked_only ..) rfl
  · exact .ite k (k.only (State.modPwr_only ..) rfl)
  · exact .ite k (k.only (State.modPmLink_only ..) rfl)
  · exact (k.foldl fun _ _ h => h.only (State.modSl_only ..) rfl).only (State.endMeasure_only ..) rfl
  · exact .ite k (k.only (State.cancelCross_only ..) rfl)
  · extract_lets a b x busy y
    have hy : KeepsLock s y := .ite k (.ite (k.only (State.modLsCh_only ..) rfl) (.ite (k.only (State.modLsCh_only ..) rfl)
      (k.only (State.modLsCh_only ..) rfl)))
    exact hy.only (State.lsSettle_only ..) rfl
  · exact k.only (State.chainApplied_only ..) rfl
  · exact .ite (k.only (State.setCave_only ..) rfl) (.ite (k.only (State.setCave_only ..) rfl) k)
  · extract_lets x
    have hx : KeepsLock s x := .ite k k.releaseHeld
    exact .ite hx (hx.modTag rfl)
  · exact k

theorem KeepsLock.applyItems {items : List Item} (k : KeepsLock s t) : KeepsLock s (t.applyItems items) :=
  k.foldl fun _ _ h => (h.only (State.modCfg_only ..) rfl).itemEffect

theorem KeepsLock.applyPort {p : Port} (k : KeepsLock s t) : KeepsLock s (t.applyPort p) := by
  unfold State.applyPort
  extract_lets ready items s1 s2
  have h1 : KeepsLock s s1 := k.applyItems.only (State.modConf_only ..) rfl
  have h2 : KeepsLock s s2 := h1.foldl fun _ _ h => h.only (State.appendConf_only ..) rfl
  exact .ite k (h2.only (State.dropApplied_only ..) rfl |>.only (State.vpRaise_only ..) rfl)

theorem KeepsLock.applyUnits {l : List Txn} (k : KeepsLock s t) : KeepsLock s (t.applyUnits l) := by
  induction l generalizing t with
  | nil => exact k
  | cons x l ih =>
    unfold State.applyUnits
    extract_lets s0 s1
    have h0 : KeepsLock s s0 := by
      unfold s0
      split
      · exact k.only (State.modCfg_only ..) rfl |>.only (State.chnRaise_only ..) rfl
      · exact k
    have h1 : KeepsLock s s1 := h0.applyItems.only (State.modConf_only ..) rfl
    exact .ite (ih k) (.ite k (ih (h1.only (State.appendConf_only ..) rfl)))

theorem KeepsLock.applyBoundary (k : KeepsLock s t) : KeepsLock s t.applyBoundary :=
  (k.applyUnits.each fun _ _ h => .ite h.applyPort h).only (State.dropApplied_only ..) rfl

/-! ### Sessions and ports -/

theorem KeepsLock.leaveSealing {p : Port} {sealed : Bool} (k : KeepsLock s t) : KeepsLock s (t.leaveSealing p sealed) := by
  unfold State.leaveSealing
  extract_lets x next bits s1 s2 s3 s4
  have h1 : KeepsLock s s1 := k.only (State.modSes_only ..) rfl |>.only (State.sesRaise_only ..) rfl
  have h2 : KeepsLock s s2 := h1.foldl fun _ _ h => h.only (State.final_only ..) rfl
  have h3 : KeepsLock s s3 := .ite ((h2.modNfc rfl).only (State.mirrorBody_only ..) rfl) h2
  have h4 : KeepsLock s s4 := .ite (h3.only (State.startLock_only ..) rfl) h3
  exact h4.applyPort.only (State.applySource_only ..) rfl |>.only (State.checkBlocked_only ..) rfl |>.only (State.runDeferred_only ..) rfl
    |>.only (State.divide_only ..) rfl |>.only (State.availPoll_only ..) rfl

theorem KeepsLock.portReset {p : Port} (k : KeepsLock s t) : KeepsLock s (t.portReset p) := k.only (State.portReset_only ..) rfl

theorem KeepsLock.sealCheck {p : Port} (k : KeepsLock s t) : KeepsLock s (t.sealCheck p) := by
  unfold State.sealCheck
  extract_lets s1
  have h1 : KeepsLock s s1 := .ite k.portReset k
  exact .ite k (.ite h1.leaveSealing h1)

theorem KeepsLock.toSealing {p : Port} (k : KeepsLock s t) : KeepsLock s (t.toSealing p) :=
  (k.only (State.sesTo_only ..) rfl |>.only (State.modBil_only ..) rfl |>.only (State.wantChanged_only ..) rfl).sealCheck

theorem KeepsLock.endAbrupt {p : Port} {cause : Nat} (k : KeepsLock s t) : KeepsLock s (t.endAbrupt p cause) := by
  unfold State.endAbrupt
  extract_lets s1 s2
  have h1 : KeepsLock s s1 := k.only (State.halt_only ..) rfl
  have h2 : KeepsLock s s2 := .ite (h1.only (State.stopLock_only ..) rfl |>.only (State.askSafety_only ..) rfl) h1
  exact .ite (h2.only (State.disable_only ..) rfl).toSealing
    (.ite h2.toSealing (h2.only (State.sesTo_only ..) rfl |>.only (State.wantChanged_only ..) rfl))

theorem KeepsLock.endStopped {p : Port} (k : KeepsLock s t) : KeepsLock s (((t.stopLock p).disable p).toSealing p) :=
  (k.only (State.stopLock_only ..) rfl |>.only (State.disable_only ..) rfl).toSealing

theorem KeepsLock.endDegraded {p : Port} (k : KeepsLock s t) : KeepsLock s (t.endDegraded p) := by
  unfold State.endDegraded
  split
  · exact k.endStopped
  · exact k.endStopped
  · exact k.only (State.ramp_only ..) rfl
  · exact k.only (State.ramp_only ..) rfl
  · exact k.only (State.ramp_only ..) rfl
  · exact k

theorem KeepsLock.endControlled {p : Port} (k : KeepsLock s t) : KeepsLock s (t.endControlled p) := by
  unfold State.endControlled
  extract_lets s1
  have h1 : KeepsLock s s1 := k.only (State.sayVehicle_only ..) rfl
  split
  · exact h1.endStopped
  · exact h1.endStopped
  · exact h1.only (State.ramp_only ..) rfl
  · exact h1

theorem KeepsLock.endSession {p : Port} {cause : Nat} (k : KeepsLock s t) : KeepsLock s (t.endSession p cause) := by
  unfold State.endSession
  extract_lets +onlyGivenNames x cls first worse s1
  have h1 : KeepsLock s s1 := k.only (State.modSes_only ..) rfl
  refine .ite k (.ite (.ite (h1.only (State.reseal_only ..) rfl) k) ?_)
  split
  · exact h1.endAbrupt
  · exact h1.endAbrupt
  · exact h1.endAbrupt
  · exact h1.endDegraded
  · exact h1.endControlled

theorem KeepsLock.attemptFailed {p : Port} (k : KeepsLock s t) : KeepsLock s (t.attemptFailed p) := by
  unfold State.attemptFailed
  extract_lets s1
  have h1 : KeepsLock s s1 := k.only (State.lockEnd_only ..) rfl
  exact .ite (k.only (State.modLock_only ..) rfl) (.ite h1.endSession h1)

theorem KeepsLock.confirmedOpen {p : Port} (k : KeepsLock s t) : KeepsLock s (t.confirmedOpen p) := by
  unfold State.confirmedOpen
  extract_lets s1
  have h1 : KeepsLock s s1 := k.only (State.sesRaise_only ..) rfl |>.only (State.disable_only ..) rfl
  exact .ite h1.toSealing (h1.only (State.sesTo_only ..) rfl |>.only (State.sesRaise_only ..) rfl |>.only (State.modVeh_only ..) rfl
    |>.only (State.refreshPwm_only ..) rfl |>.only (State.wantChanged_only ..) rfl)

theorem KeepsLock.openingFault {p : Port} (k : KeepsLock s t) : KeepsLock s (t.openingFault p) :=
  (k.only (State.modSes_only ..) rfl |>.only (State.halt_only ..) rfl).toSealing

theorem KeepsLock.openedOrWaiting {p : Port} (k : KeepsLock s t) :
    KeepsLock s (if t.openOk p then t.confirmedOpen p else t.wantChanged p) := .ite k.confirmedOpen (k.only (State.wantChanged_only ..) rfl)

theorem KeepsLock.followSafety {p : Port} (k : KeepsLock s t) : KeepsLock s (t.followSafety p) := by
  unfold State.followSafety
  extract_lets st
  have hlost : KeepsLock s ((if (t.pwrAt p).degraded then t else t.halt p).sesTo p .opening) :=
    (KeepsLock.ite k (k.only (State.halt_only ..) rfl)).only (State.sesTo_only ..) rfl
  split
  · exact .ite k.endSession (.ite (k.only (State.confirmedClosed_only ..) rfl) k)
  · exact .ite k.endSession (.ite k hlost.openedOrWaiting)
  · exact .ite k.endSession (.ite k hlost.openedOrWaiting)
  · exact .ite k.openingFault (.ite k.confirmedOpen k)
  · exact .ite (k.only (State.askSafety_only ..) rfl) k.sealCheck
  · exact .ite k.endSession (.ite (k.only (State.askSafety_only ..) rfl) k)
  · exact .ite k.endSession (.ite (k.only (State.askSafety_only ..) rfl) k)
  all_goals exact .ite (k.only (State.askSafety_only ..) rfl) k

theorem KeepsLock.sesUnplug {p : Port} (k : KeepsLock s t) : KeepsLock s (t.sesUnplug p) := by
  have hidle : KeepsLock s (((t.sesTo p .idle).runDeferred p).availPoll p) :=
    k.only (State.sesTo_only ..) rfl |>.only (State.runDeferred_only ..) rfl |>.only (State.availPoll_only ..) rfl
  unfold State.sesUnplug
  split
  · exact .ite k hidle
  · exact .ite k hidle
  · exact .ite k hidle
  · extract_lets s1
    have h1 : KeepsLock s s1 := by
      unfold s1
      split
      · exact k.answer
      · exact k
    exact h1.only (State.modSes_only ..) rfl |>.only (State.runDeferred_only ..) rfl
  · exact k.endSession

theorem KeepsLock.unplug {p : Port} (k : KeepsLock s t) : KeepsLock s (t.unplug p) := by
  unfold State.unplug
  extract_lets x
  have hx : KeepsLock s x := (k.only (State.voidNow_only ..) rfl |>.only (State.vpRaise_only ..) rfl |>.only (State.stopLock_only ..) rfl
    |>.only (State.clearIdle_only ..) rfl |>.only (State.linkTo_only ..) rfl |>.only (State.drive_only ..) rfl
    |>.only (State.modVeh_only ..) rfl).sesUnplug
  exact .ite (.ite (hx.only (State.linkFault_only ..) rfl) hx) k

/-- Of the control pilot's states A alone is an unplug, which may end the session. -/
theorem KeepsLock.cpAccept {p : Port} {state : CpState} (k : KeepsLock s t) : KeepsLock s (t.cpAccept p state) := by
  unfold State.cpAccept
  extract_lets was s1
  have h1 : KeepsLock s s1 := k.only (State.modVeh_only ..) rfl |>.only (State.vpRaise_only ..) rfl |>.only (State.wakeEvent_only ..) rfl
  have hplug : KeepsLock s (s1.plug p) := h1.only (State.plug_only ..) rfl
  cases state with
  | a => exact h1.unplug
  | e | invalid => exact h1.only (State.linkFault_only ..) rfl
  | b => exact .ite (hplug.only (State.pauseSes_only ..) rfl) hplug
  | c => exact (KeepsLock.ite (hplug.only (State.resumeSes_only ..) rfl) hplug).only (State.advance_only ..) rfl
  | d | f => exact hplug

theorem KeepsLock.cpSample {p : Port} {hi lo : Int} (k : KeepsLock s t) : KeepsLock s (t.cpSample p hi lo) := by
  unfold State.cpSample
  extract_lets x s1 cp s2
  have h1 : KeepsLock s s1 := k.only (State.modVeh_only ..) rfl
  have h2 : KeepsLock s s2 := h1.only (State.modVeh_only ..) rfl
  exact .ite k (.ite (k.only (State.modVeh_only ..) rfl) (.ite (h1.only (State.modVeh_only ..) rfl) (.ite h2.cpAccept h2)))

theorem KeepsLock.ppAccept {p : Port} {code : PpCode} (k : KeepsLock s t) : KeepsLock s (t.ppAccept p code) := by
  unfold State.ppAccept
  extract_lets inSes s1 s2 s3
  have h1 : KeepsLock s s1 := k.only (State.modVeh_only ..) rfl |>.only (State.vpRaise_only ..) rfl |>.only (State.wakeEvent_only ..) rfl
  have h2 : KeepsLock s s2 := h1.only (State.modSp_only ..) rfl
  have h3 : KeepsLock s s3 := .ite (h2.only (State.vpRaise_only ..) rfl).unplug
    (h2.only (State.vpRaise_only ..) rfl |>.only (State.linkFault_only ..) rfl).endSession
  exact .ite (h1.only (State.refreshPwm_only ..) rfl |>.only (State.plug_only ..) rfl)
    (.ite h3 (.ite h2.unplug (h2.only (State.linkFault_only ..) rfl)))

theorem KeepsLock.resetPort {p : Port} {cause : Nat} (k : KeepsLock s t) : KeepsLock s (t.resetPort p cause) :=
  .ite (k.only (State.modVeh_only ..) rfl).endSession.sealCheck k.portReset

theorem KeepsLock.pmFault {l : PmIdx} (k : KeepsLock s t) : KeepsLock s (t.pmFault l) :=
  .ite k ((k.only (State.modPmLink_only ..) rfl).foldl fun _ _ h =>
    (h.only (State.pwrRaise_only ..) rfl |>.only (State.modPwr_only ..) rfl).resetPort)

theorem KeepsLock.rebuildPort {p : Port} (k : KeepsLock s t) : KeepsLock s (t.rebuildPort p) := by
  unfold State.rebuildPort
  extract_lets x e s1 opening sealing st ended
  have h1 : KeepsLock s s1 := k.only (State.modSes_only ..) rfl
  have hopening : KeepsLock s opening := h1.only (State.modSes_only ..) rfl
  have hsealing : KeepsLock s sealing := h1.only (State.modSes_only ..) rfl
  have hended : KeepsLock s ended := h1.only (State.modSes_only ..) rfl |>.only (State.sesRaise_only ..) rfl
  exact .ite k (.ite (.ite hopening.toSealing (hopening.only (State.askSafety_only ..) rfl))
    (.ite (.ite hsealing.sealCheck (hsealing.only (State.askSafety_only ..) rfl))
      (hended.applyPort.only (State.applySource_only ..) rfl |>.only (State.dueUnlock_only ..) rfl)))

/-! ### Resets and power states -/

theorem KeepsLock.chipReset {cause : Nat} (k : KeepsLock s t) : KeepsLock s (t.chipReset cause) := by
  unfold State.chipReset
  extract_lets cleared time conf s1 s2
  have h1 : KeepsLock s s1 := k.trans (.of_tag rfl)
  have h2 : KeepsLock s s2 := h1.only (afterChipReset_only _) rfl
  exact .ite k (.ite (h2.only (State.revert_only _) rfl) h2)

theorem KeepsLock.clearEvents {g : Guest} (k : KeepsLock s t) : KeepsLock s (t.clearEvents g) := by
  unfold State.clearEvents
  extract_lets s1 s2 s3
  have h1 : KeepsLock s s1 := k.each fun _ _ h => h.only (State.modVeh_only ..) rfl |>.only (State.modSes_only ..) rfl
    |>.only (State.modPwr_only ..) rfl |>.only (State.modMet_only ..) rfl |>.only (State.modNrg_only ..) rfl
    |>.only (State.modBil_only ..) rfl |>.only (State.modPq_only ..) rfl |>.only (State.modSp_only ..) rfl
  have h2 : KeepsLock s s2 := h1.only (State.modLegal_only ..) rfl |>.only (State.modSaf_only ..) rfl |>.only (State.modLs_only ..) rfl
    |>.only (State.modChn_only ..) rfl
  have h3 : KeepsLock s s3 := h2.only (State.modMsh_only ..) rfl |>.only (State.modJnl_only ..) rfl |>.only (State.modCave_only ..) rfl
    |>.only (State.modKeys_only ..) rfl
  exact ((h3.only (State.modFw_only ..) rfl).modNfc rfl).only (State.modDsp_only ..) rfl

theorem KeepsLock.dropLeases {g : Guest} (k : KeepsLock s t) : KeepsLock s (t.dropLeases g) := by
  unfold State.dropLeases
  extract_lets +onlyGivenNames s1 s2 s3 s4
  have h1 : KeepsLock s s1 := by
    refine k.each fun p x h => ?_
    extract_lets x1
    have hx : KeepsLock s x1 := .ite (h.only (State.endClaim_only ..) rfl) h
    split
    · exact .ite (hx.only (State.modSes_only ..) rfl) hx
    · exact hx
  have h3 : KeepsLock s s3 := (h1.only (State.modKeys_only ..) rfl).each fun _ _ h => .ite (h.only (State.stgCancel_only ..) rfl) h
  have h4 : KeepsLock s s4 := .ite h3.releaseHeld h3
  exact h4.only (State.setOpen_only ..) rfl

theorem KeepsLock.loseSram (k : KeepsLock s t) : KeepsLock s t.loseSram := by
  unfold State.loseSram
  extract_lets kept
  exact ((k.only (State.modMsh_only ..) rfl |>.only (State.modCave_only ..) rfl).modNfc rfl).only (State.modChn_only ..) rfl

/-! ### Rind -/

theorem KeepsLock.rootlessStart (k : KeepsLock s t) : KeepsLock s t.rootlessStart :=
  .ite k (k.only (State.clearVault_only ..) rfl).tagZeroise

theorem KeepsLock.zeroise (k : KeepsLock s t) : KeepsLock s t.zeroise :=
  (k.only (State.rootLost_only ..) rfl |>.only (State.clearVault_only ..) rfl |>.only (State.dropTls_only ..) rfl
    |>.only (State.keyRaise_only ..) rfl |>.only (State.voidLegal_only ..) rfl).tagZeroise

theorem KeepsLock.tamperEvent {i : Fin 5} (k : KeepsLock s t) : KeepsLock s (t.tamperEvent i) := by
  unfold State.tamperEvent
  extract_lets i6 s1 s2
  have h2 : KeepsLock s s2 := k.only (State.modRind_only ..) rfl |>.only (State.auditRind_only ..) rfl
  exact .ite k (.ite h2 (.ite (h2.only (State.rootLost_only ..) rfl) h2.zeroise))

theorem KeepsLock.tamperSample {i : Fin 5} {bad : Bool} (k : KeepsLock s t) : KeepsLock s (t.tamperSample i bad) := by
  unfold State.tamperSample
  extract_lets n s1
  have h1 : KeepsLock s s1 := k.only (State.modRind_only ..) rfl
  exact .ite (k.only (State.modRind_only ..) rfl) (.ite h1.tamperEvent h1)

end Sys2Proof.Machine
end

section
/-! The commands and the tag's password lock (spec 21 R560): of all commands VERIFY alone counts and locks, and RESET_TAG_LOCK alone ends
the lock. -/

namespace Sys2Proof.Machine

variable {s : State}

/-! ### Commands of the sessions and the ports -/

theorem execAnswer_keepsLock (type : Nat) (p : Port) (granted : Bool) (s : State) : KeepsLockRes s (execAnswer type p granted s) := by
  unfold execAnswer
  extract_lets x
  have hx : KeepsLock s x := (KeepsLock.refl s).only (State.modSes_only ..) rfl
  exact .next (.ite (.refl s) (.ite (hx.only (State.halt_only ..) rfl |>.only (State.disable_only ..) rfl).toSealing
    (.ite ((KeepsLock.refl s).only (State.modSes_only ..) rfl) (.refl s))))

theorem execCpInvalidTimeout_keepsLock (p : Port) (s : State) : KeepsLockRes s (execCpInvalidTimeout p s) :=
  .next (.ite (KeepsLock.refl s).cpAccept (.refl s))

theorem execCpPeriod_keepsLock (p : Port) (hi lo : Int) (s : State) : KeepsLockRes s (execCpPeriod p hi lo s) :=
  .next ((KeepsLock.refl s).cpSample.only (State.modVeh_only ..) rfl)

theorem execCreditOut_keepsLock (p : Port) (s : State) : KeepsLockRes s (execCreditOut p s) := by
  refine .next ?_
  split
  · exact .ite ((KeepsLock.refl s).only (State.sesRaise_only ..) rfl).endSession (.refl s)
  · exact .refl s

theorem execLegalGap_keepsLock (p : Port) (s : State) : KeepsLockRes s (execLegalGap p s) :=
  .next (.ite (KeepsLock.refl s).endSession (.refl s))

theorem execLegalState_keepsLock (s : State) : KeepsLockRes s (execLegalState s) := by
  unfold execLegalState
  extract_lets s1 v x y s2
  have h1 : KeepsLock s s1 := (KeepsLock.refl s).each fun _ _ h => h.sealCheck
  have hx : KeepsLock s x := h1.only (State.modChn_only ..) rfl
  have hy : KeepsLock s y := .ite hx (hx.only (State.mirrorEv_only ..) rfl)
  have h2 : KeepsLock s s2 := .ite h1 (.ite hy (hy.only (State.mirrorEv_only ..) rfl))
  exact .next (h2.only (State.availAll_only ..) rfl)

theorem execLinkLostGrace_keepsLock (p : Port) (s : State) : KeepsLockRes s (execLinkLostGrace p s) :=
  .next (.ite ((KeepsLock.refl s).only (State.modSes_only ..) rfl).endSession (.refl s))

theorem execLockFeedbackTimeout_keepsLock (p : Port) (s : State) : KeepsLockRes s (execLockFeedbackTimeout p s) :=
  .next (.ite (.refl s) (KeepsLock.refl s).attemptFailed)

theorem execLockPulseEnd_keepsLock (p : Port) (s : State) : KeepsLockRes s (execLockPulseEnd p s) := by
  unfold execLockPulseEnd
  extract_lets lock s1
  have h1 : KeepsLock s s1 := (KeepsLock.refl s).only (State.endDrive_only ..) rfl
  split
  · exact .next (.refl s)
  · exact .next (.ite (.refl s) (.ite (h1.only (State.modLk_only ..) rfl |>.only (State.lockEnd_only ..) rfl)
      (.ite h1.attemptFailed (.ite (h1.only (State.lockDone_only ..) rfl) (h1.only (State.modLock_only ..) rfl)))))

theorem execPauseLimit_keepsLock (p : Port) (s : State) : KeepsLockRes s (execPauseLimit p s) :=
  .next (.ite (KeepsLock.refl s).endSession (.refl s))

theorem execPmAckTimeout_keepsLock (p : Port) (s : State) : KeepsLockRes s (execPmAckTimeout p s) := by
  refine .next ?_
  split
  · exact (KeepsLock.ite ((KeepsLock.refl s).only (State.pwrRaise_only ..) rfl) (.refl s)).pmFault
  · exact .refl s

theorem execPmBadFrame_keepsLock (l : PmIdx) (s : State) : KeepsLockRes s (execPmBadFrame l s) := by
  unfold execPmBadFrame
  extract_lets x bad s1
  have h1 : KeepsLock s s1 := (KeepsLock.refl s).only (State.modPmLink_only ..) rfl
  exact .next (.ite (.refl s) (.ite h1.pmFault h1))

theorem execPmFault_keepsLock (l : PmIdx) (ch : Fin 8) (seq code : Nat) (off : Bool) (s : State) :
    KeepsLockRes s (execPmFault l ch seq code off s) := by
  unfold execPmFault
  extract_lets s1
  have h1 : KeepsLock s s1 := (KeepsLock.refl s).only (State.pmRx_only ..) rfl
  refine .next (.ite (.refl s) ?_)
  split
  · exact h1
  · exact .ite h1.resetPort h1

theorem execPmRxSilence_keepsLock (l : PmIdx) (s : State) : KeepsLockRes s (execPmRxSilence l s) := .next (KeepsLock.refl s).pmFault

theorem execPortState_keepsLock (p : Port) (s : State) : KeepsLockRes s (execPortState p s) :=
  .next ((KeepsLock.refl s).followSafety.only (State.advance_only ..) rfl |>.only (State.dueUnlock_only ..) rfl
    |>.only (State.runDeferred_only ..) rfl |>.only (State.availPoll_only ..) rfl)

theorem execPpMeasurement_keepsLock (p : Port) (ohm : Nat) (s : State) : KeepsLockRes s (execPpMeasurement p ohm s) := by
  unfold execPpMeasurement
  extract_lets code s1
  have h1 : KeepsLock s s1 := (KeepsLock.refl s).only (State.modVeh_only ..) rfl
  exact .next (.ite h1.ppAccept h1)

theorem execPrechargeTimeout_keepsLock (p : Port) (s : State) : KeepsLockRes s (execPrechargeTimeout p s) :=
  .next (.ite (KeepsLock.refl s).endSession (.refl s))

theorem execProtocolError_keepsLock (p : Port) (s : State) : KeepsLockRes s (execProtocolError p s) :=
  .next (.ite (.refl s) (KeepsLock.refl s).resetPort)

theorem execReadings_keepsLock (p : Port) (s : State) : KeepsLockRes s (execReadings p s) :=
  .next (.ite (KeepsLock.refl s).endSession ((KeepsLock.refl s).only (State.advance_only ..) rfl))

theorem execResetPort_keepsLock (r : Req) (s : State) : KeepsLockRes s (execResetPort r s) :=
  .next (.ite ((KeepsLock.refl s).only (State.accept_only ..) rfl |>.only (State.modVeh_only ..) rfl).resetPort
    (KeepsLock.refl s).portReset.answer)

theorem execSealedReport_keepsLock (p : Port) (s : State) : KeepsLockRes s (execSealedReport p s) :=
  .next (.ite (KeepsLock.refl s).sealCheck.leaveSealing (.refl s))

theorem execSiteState_keepsLock (s : State) : KeepsLockRes s (execSiteState s) := by
  unfold execSiteState
  extract_lets s1 v s2
  have hend {cause : Nat} : KeepsLock s (s.each (n := 8) fun p t => t.endSession p cause) :=
    (KeepsLock.refl s).each fun _ _ h => h.endSession
  have h1 : KeepsLock s s1 := by
    unfold s1
    split
    · exact hend
    · exact hend
    · exact hend
    all_goals exact .refl s
  have h2 : KeepsLock s s2 := .ite h1 (h1.only (State.modChn_only ..) rfl |>.only (State.mirrorEv_only ..) rfl)
  exact .next (h2.only (State.availAll_only ..) rfl)

theorem execStopSession_keepsLock (r : Req) (s : State) : KeepsLockRes s (execStopSession r s) := by
  have hs : KeepsLock s s := .refl s
  unfold execStopSession
  extract_lets p x s1
  have h1 : KeepsLock s s1 := by
    unfold s1
    split
    · exact hs.answer
    · exact hs
  exact .next (.ite (hs.only (State.accept_only ..) rfl |>.only (State.modSes_only ..) rfl).endSession
    (.ite (h1.only (State.modSes_only ..) rfl |>.only (State.reject_only ..) rfl).answer
      (.ite (hs.only (State.modSes_only ..) rfl).answer hs.answer)))

theorem execTrip_keepsLock (p : Port) (cause row : Nat) (s : State) : KeepsLockRes s (execTrip p cause row s) := by
  unfold execTrip
  extract_lets test s0 s1
  have h1 : KeepsLock s s1 := (KeepsLock.ite ((KeepsLock.refl s).only (State.halt_only ..) rfl) (.refl s)).endSession
  exact .next ((KeepsLock.ite (h1.only (State.sendAdvice_only ..) rfl) h1).only (State.availPoll_only ..) rfl)

theorem execVehicleStop_keepsLock (p : Port) (s : State) : KeepsLockRes s (execVehicleStop p s) :=
  .next (.ite (KeepsLock.refl s).endSession (.refl s))

theorem execPowerEpochStart_keepsLock (s : State) : KeepsLockRes s (execPowerEpochStart s) := by
  unfold execPowerEpochStart
  split
  · exact .next (.refl s)
  · extract_lets s1 s2 s3 s4
    have h2 : KeepsLock s s2 := (KeepsLock.refl s).only (State.renewLease_only ..) rfl |>.only (State.modLease_only ..) rfl
      |>.only (State.renewFence_only ..) rfl |>.only (State.modChn_only ..) rfl
    have h3 : KeepsLock s s3 := .ite (h2.only (State.applyHeld_only ..) rfl |>.only (State.releaseSite_only ..) rfl).applyBoundary h2
    have h4 : KeepsLock s s4 := .ite h3 (h3.only (State.renewLease_only ..) rfl)
    exact .next (h4.only (State.propose_only ..) rfl |>.only (State.divide_only ..) rfl |>.only (State.availAll_only ..) rfl)

/-! ### Resets, starts and power states -/

theorem execChipReset_keepsLock (s : State) : KeepsLockRes s (execChipReset s) := .next (KeepsLock.refl s).chipReset
theorem execServiceWatchdogExpiry_keepsLock (s : State) : KeepsLockRes s (execServiceWatchdogExpiry s) :=
  .next (KeepsLock.refl s).chipReset
theorem execEccUncorrectable_keepsLock (s : State) : KeepsLockRes s (execEccUncorrectable s) := .next (KeepsLock.refl s).chipReset

theorem execClockDeviation_keepsLock (s : State) : KeepsLockRes s (execClockDeviation s) :=
  .next (.ite (.refl s) (.ite ((KeepsLock.refl s).only (State.modSys_only ..) rfl |>.only (State.enterRom_only ..) rfl)
    (KeepsLock.refl s).chipReset))

theorem execResetChip_keepsLock (r : Req) (s : State) : KeepsLockRes s (execResetChip r s) := by
  have hs : KeepsLock s s := .refl s
  exact .next (.ite hs.answer (.ite hs.answer hs.chipReset))

theorem execGuestReset_keepsLock (g : Guest) (s : State) : KeepsLockRes s (execGuestReset g s) := by
  unfold execGuestReset
  extract_lets cmds s1 s2 s3
  have h1 : KeepsLock s s1 := (KeepsLock.refl s).each fun _ _ h => .ite h (h.only (State.withdrawFrom_only ..) rfl)
  have h2 : KeepsLock s s2 := (h1.only (State.abortTo_only ..) rfl |>.only (State.dropAdmitted_only ..) rfl).dropLeases
  have h3 : KeepsLock s s3 := (h2.only (State.modGuest_only ..) rfl).clearEvents
  exact .next (.ite (.refl s) (h3.foldl fun _ _ h => h.answer))

theorem execServiceImageStart_keepsLock (verified : Bool) (s : State) : KeepsLockRes s (execServiceImageStart verified s) := by
  have hs : KeepsLock s s := .refl s
  unfold execServiceImageStart
  extract_lets x
  have hx : KeepsLock s x := (hs.only (State.modFw_only ..) rfl).chipReset
  exact .next (.ite hs (.ite (hs.only (State.enterRom_only ..) rfl) (.ite
    (hs.only (State.modFw_only ..) rfl |>.only (State.modSys_only ..) rfl |>.only (State.modHost_only ..) rfl
      |>.only (State.modKeys_only ..) rfl |>.only (State.reach_only ..) rfl)
    (.ite (hx.only (State.enterRom_only ..) rfl) hx))))

theorem execConfigJournalReplay_keepsLock (candidate : Bool) (torn : Nat) (s : State) :
    KeepsLockRes s (execConfigJournalReplay candidate torn s) := by
  have hs : KeepsLock s s := .refl s
  unfold execConfigJournalReplay
  extract_lets s1 s2 s3 s4
  have h2 : KeepsLock s s2 := (hs.only (State.modJnl_only ..) rfl |>.only (State.bootOn_only ..) rfl).each fun _ _ h =>
    (h.only (State.followEnable_only ..) rfl).rebuildPort
  have h3 : KeepsLock s s3 := h2.each fun _ _ h => .ite (h.only (State.modPmLink_only ..) rfl) h
  have h4 : KeepsLock s s4 := h3.only (State.chainApplied_only ..) rfl |>.only (State.resumeActivation_only ..) rfl
    |>.only (State.reach_only ..) rfl |>.only (State.readSafety_only ..) rfl
  exact .next (.ite hs (.ite (hs.only (State.enterRom_only ..) rfl)
    ((KeepsLock.ite h4 (h4.only (State.reach_only ..) rfl)).only (State.availAll_only ..) rfl)))

/-- The tag's MRAM outlives a power-on reset, and its release starts nothing that touches the lock (log 230). -/
theorem execPorRelease_keepsLock (s : State) : KeepsLockRes s (execPorRelease s) := by
  have hstart {x : State} (h : KeepsLock s x) : KeepsLock s x.shipRestore.batteryStart.rootlessStart :=
    (h.only (State.shipRestore_only ..) rfl |>.only (State.batteryStart_only ..) rfl).rootlessStart
  unfold execPorRelease
  split
  · exact .next (.refl s)
  · exact .next (hstart (.of_tag rfl))

theorem execDozeEntry_keepsLock (s : State) : KeepsLockRes s (execDozeEntry s) := by
  unfold execDozeEntry
  extract_lets off
  have hrest : KeepsLock s ((s.stopSite 8).linksRest.loseSram) :=
    ((KeepsLock.refl s).only (State.stopSite_only ..) rfl |>.only (State.linksRest_only ..) rfl).loseSram
  exact .next (.ite (.refl s) (hrest.only (State.modSys_only ..) rfl |>.only (State.modCave_only ..) rfl |>.only (State.modHost_only ..) rfl
    |>.only (State.sysChanged_only ..) rfl))

/-! ### Commands of Rind -/

theorem execTamperEvent_keepsLock (sensor : Fin 5) (s : State) : KeepsLockRes s (execTamperEvent sensor s) :=
  .next (KeepsLock.refl s).tamperEvent

theorem execTamperSensorSample_keepsLock (mesh light temp lid : Bool) (s : State) :
    KeepsLockRes s (execTamperSensorSample mesh light temp lid s) :=
  .next (.ite (.refl s) ((KeepsLock.refl s).only (State.modRind_only ..) rfl).tamperSample.tamperSample.tamperSample)

theorem execRetireDevice_keepsLock (r : Req) (s : State) : KeepsLockRes s (execRetireDevice r s) := by
  unfold execRetireDevice
  extract_lets end_ s1 s2
  have hend {x : State} {code : Nat} (h : KeepsLock s x) : KeepsLock s (end_ x code) :=
    h.answer.only (State.auditCmd_only ..) rfl
  have h2 : KeepsLock s s2 := (KeepsLock.refl s).only (State.modRind_only ..) rfl |>.only (State.clearVault_only ..) rfl
    |>.only (State.modKeys_only ..) rfl |>.only (State.dropTls_only ..) rfl
  exact .next (.ite (hend (.refl s)) (.ite (hend (.refl s)) (.ite (hend (.refl s))
    (hend ((h2.only (State.keyRaise_only ..) rfl |>.only (State.voidLegal_only ..) rfl).tagZeroise.only (State.auditRind_only ..) rfl)))))

/-! ### Commands of the reader and the tag -/

theorem execNfcEventRead_keepsLock (path : Path) (g : Guest) (s : State) : KeepsLockRes s (execNfcEventRead path g s) :=
  .next ((KeepsLock.refl s).access (((KeepsLock.refl s).only (State.returnRead_only ..) rfl).modNfc rfl))

theorem execNfcPoll_keepsLock (ext : Bool) (cards : List CardInfo) (s : State) : KeepsLockRes s (execNfcPoll ext cards s) := by
  have hs : KeepsLock s s := .refl s
  unfold execNfcPoll
  extract_lets a found x
  have hx : KeepsLock s x := hs.modNfc rfl
  refine .next (.ite hs (.ite (hs.modNfc rfl).nfcRaise ?_))
  clear_value x found
  match found with
  | [] => exact hx
  | [card] =>
    dsimp only
    split
    · exact .ite (hx.modNfc rfl) (hx.modNfc rfl).nfcRaise
    · exact (hx.modNfc rfl).nfcRaise
  | _ :: _ :: _ => exact hx.nfcRaise

theorem execNfcPresenceCheck_keepsLock (present : Bool) (s : State) : KeepsLockRes s (execNfcPresenceCheck present s) :=
  .next (.ite (.refl s) (KeepsLock.refl s).dropCard)

theorem execNfcHoldTimeout_keepsLock (s : State) : KeepsLockRes s (execNfcHoldTimeout s) := .next (KeepsLock.refl s).releaseHeld

theorem execReleaseCard_keepsLock (r : Req) (s : State) : KeepsLockRes s (execReleaseCard r s) := by
  have hs : KeepsLock s s := .refl s
  exact .next (.ite hs.answer (.ite hs.answer hs.releaseHeld.answer))

theorem execTagFieldOn_keepsLock (s : State) : KeepsLockRes s (execTagFieldOn s) := by
  unfold execTagFieldOn
  extract_lets s1
  have h1 : KeepsLock s s1 := (KeepsLock.refl s).modNfc rfl
  exact .next (.ite h1 (h1.tagPower.only (State.wakeEvent_only ..) rfl))

theorem execTagFieldLost_keepsLock (s : State) : KeepsLockRes s (execTagFieldLost s) :=
  .next (((KeepsLock.refl s).modNfc rfl).modTag rfl)

/-- A frame below the APDUs moves the phase, and closes an application that was open; neither is the lock. -/
theorem execReqa_keepsLock (f : TagFrame) (s : State) : KeepsLockRes s (execReqa f s) := by
  unfold execReqa
  extract_lets x go
  have hgo {phase : TagPhase} {b : List Byte} : KeepsLock s (go phase b) := ((KeepsLock.refl s).modTag rfl).only (State.emit_only ..) rfl
  have hidle : KeepsLock s (s.modTag fun x => { x with phase := .idle }) := (KeepsLock.refl s).modTag rfl
  refine .next ?_
  split
  case h_1 | h_2 | h_3 | h_4 | h_5 => exact hgo
  case h_6 => exact (KeepsLock.refl s).modTag rfl
  case h_14 => exact .refl s
  all_goals exact hidle

theorem execSelect_keepsLock (aid : List Byte) (s : State) : KeepsLockRes s (execSelect aid s) :=
  .next (.ite (.refl s) (.ite ((KeepsLock.refl s).modTag rfl).tagSays ((KeepsLock.refl s).only (State.modFree_only ..) rfl).tagSays))

theorem execReadPage_keepsLock (page : Nat) (s : State) : KeepsLockRes s (execReadPage page s) := by
  have hs : KeepsLock s s := .refl s
  exact .next (hs.selected (.ite hs.tagSays.nfcRaise (.ite (.ite (hs.modTag rfl).tagSays.nfcRaise hs.tagSays) hs.tagSays)))

theorem execGetChallenge_keepsLock (s : State) : KeepsLockRes s (execGetChallenge s) := by
  have hs : KeepsLock s s := .refl s
  exact .next (hs.selected ((hs.only (State.modFree_only ..) rfl).modTag rfl).tagSays)

/-- MUTUAL_AUTH counts no failure, so it neither locks the password nor unlocks it (R561). -/
theorem execMutualAuth_keepsLock (data : List Byte) (s : State) : KeepsLockRes s (execMutualAuth data s) := by
  have hs : KeepsLock s s := .refl s
  refine .next (hs.selected ?_)
  split
  · exact hs.tagSays
  · exact hs.tagSays
  · exact .ite ((hs.modTag rfl).modTag rfl).tagSays.nfcRaise (hs.modTag rfl).tagSays

theorem execDeselect_keepsLock (s : State) : KeepsLockRes s (execDeselect s) :=
  .next (.ite ((KeepsLock.refl s).modTag rfl) (.refl s))

theorem execTagPageRewrite_keepsLock (s : State) : KeepsLockRes s (execTagPageRewrite s) :=
  .next (.ite (.refl s) ((KeepsLock.refl s).modTag rfl))

theorem execSetTagPublic_keepsLock (r : Req) (s : State) : KeepsLockRes s (execSetTagPublic r s) :=
  .next (.ite (KeepsLock.refl s).answer ((KeepsLock.refl s).modTag rfl).answer)

/-- A new password leaves the lock of the old one standing. -/
theorem execSetTagSecrets_keepsLock (r : Req) (s : State) : KeepsLockRes s (execSetTagSecrets r s) := by
  have hs : KeepsLock s s := .refl s
  unfold execSetTagSecrets
  extract_lets setPw setKey pwLen a b ring q s0 key salt s1 s2
  have h0 : KeepsLock s s0 := .ite (hs.only (State.useRing_only ..) rfl) hs
  have h1 : KeepsLock s s1 := .ite ((h0.only (State.modFree_only ..) rfl).modTag rfl) h0
  have h2 : KeepsLock s s2 := by
    unfold s2
    clear_value setKey key
    split
    · exact (h1.only (State.putSlot_only ..) rfl).modTag rfl
    · exact h1
  exact .next (.ite hs.answer (.ite hs.answer (.ite hs.answer (.ite (hs.only (State.endRing_only ..) rfl) (.ite hs.answer h2.answer)))))

/-! ### VERIFY -/

@[simp] theorem State.nfcRaise_tag (s : State) (bits : Word) : (s.nfcRaise bits).tag = s.tag := rfl

theorem State.selected_of_selected {f : State → State} (hserving : s.tag.serving = true) (hselected : s.tag.selected = true) :
    s.selected f = f s := by
  simp [State.selected, hserving, hselected]

/-- A wrong password is counted, the fifth locks, and the answer tells how many are left (R560). -/
def State.wrongPassword (s : State) : State :=
  (s.modTag fun x => { x with fails := min 5 (s.tag.fails + 1), locked := decide (5 ≤ s.tag.fails + 1) }).tagSays
    [0x63, BitVec.ofNat 8 (0xC0 + (5 - (s.tag.fails + 1)))]

@[simp] theorem State.wrongPassword_tag (s : State) : s.wrongPassword.tag =
    { s.tag with fails := min 5 (s.tag.fails + 1), locked := decide (5 ≤ s.tag.fails + 1) } := rfl

section Verify

variable (pw : List Byte) {d : Nat} (hserving : s.tag.serving = true) (hselected : s.tag.selected = true)
  (hdigest : s.tag.pwDigest = some d)
include hserving hselected hdigest

/-- A locked tag refuses every password (R560). -/
theorem execVerify_of_locked (hlocked : s.tag.locked = true) : execVerify pw s = .next (s.tagSays [0x69, 0x83]) := by
  simp [execVerify, State.selected_of_selected hserving hselected, hdigest, hlocked]

/-- The right password clears the count and secures the tag (R560). -/
theorem execVerify_of_right (hlocked : s.tag.locked = false) (hpw : pwHash s.tag.salt pw = d) : execVerify pw s =
    .next (((s.modTag fun x => { x with fails := 0, secured := true }).tagSays [0x90, 0x00]).nfcRaise 0x10) := by
  simp [execVerify, State.selected_of_selected hserving hselected, hdigest, hlocked, hpw]

/-- A wrong password is counted, and the one that locks is an event (R560, R574). -/
theorem execVerify_of_wrong (hlocked : s.tag.locked = false) (hpw : pwHash s.tag.salt pw ≠ d) : execVerify pw s =
    .next (if 5 ≤ s.tag.fails + 1 then s.wrongPassword.nfcRaise 0x20 else s.wrongPassword) := by
  simp [execVerify, State.selected_of_selected hserving hselected, hdigest, hlocked, hpw, State.wrongPassword]

end Verify

/-- While the lock stands VERIFY only answers, whatever the password. -/
theorem execVerify_keepsLock (pw : List Byte) (hlocked : s.tag.locked = true) : KeepsLockRes s (execVerify pw s) := by
  have hs : KeepsLock s s := .refl s
  refine .next (hs.selected ?_)
  split
  · exact hs.tagSays
  · rw [if_pos hlocked]
    exact hs.tagSays

/-! ### Every command -/

/-- While the lock stands every command but RESET_TAG_LOCK leaves it standing. The commands that may touch the reader and the tag have each
a lemma above; the others do not write them. -/
theorem exec_keepsLock (i : Instr) (s : State) (hlocked : s.tag.locked = true) (hreset : ∀ r, i ≠ .resetTagLock r) :
    KeepsLockRes s (exec i s) := by
  cases i
  case resetTagLock r => exact absurd rfl (hreset r)
  case verify => exact execVerify_keepsLock _ hlocked
  case answer => exact execAnswer_keepsLock ..
  case cpInvalidTimeout => exact execCpInvalidTimeout_keepsLock ..
  case cpPeriod => exact execCpPeriod_keepsLock ..
  case creditOut => exact execCreditOut_keepsLock ..
  case legalGap => exact execLegalGap_keepsLock ..
  case legalState => exact execLegalState_keepsLock ..
  case linkLostGrace => exact execLinkLostGrace_keepsLock ..
  case lockFeedbackTimeout => exact execLockFeedbackTimeout_keepsLock ..
  case lockPulseEnd => exact execLockPulseEnd_keepsLock ..
  case pauseLimit => exact execPauseLimit_keepsLock ..
  case pmAckTimeout => exact execPmAckTimeout_keepsLock ..
  case pmBadFrame => exact execPmBadFrame_keepsLock ..
  case pmFault l ch seq code off => exact execPmFault_keepsLock l ch seq code off s
  case pmRxSilence => exact execPmRxSilence_keepsLock ..
  case portState => exact execPortState_keepsLock ..
  case ppMeasurement => exact execPpMeasurement_keepsLock ..
  case prechargeTimeout => exact execPrechargeTimeout_keepsLock ..
  case protocolError => exact execProtocolError_keepsLock ..
  case readings => exact execReadings_keepsLock ..
  case resetPort => exact execResetPort_keepsLock ..
  case sealedReport => exact execSealedReport_keepsLock ..
  case siteState => exact execSiteState_keepsLock ..
  case stopSession => exact execStopSession_keepsLock ..
  case trip => exact execTrip_keepsLock ..
  case vehicleStop => exact execVehicleStop_keepsLock ..
  case powerEpochStart => exact execPowerEpochStart_keepsLock ..
  case chipReset => exact execChipReset_keepsLock ..
  case serviceWatchdogExpiry => exact execServiceWatchdogExpiry_keepsLock ..
  case eccUncorrectable => exact execEccUncorrectable_keepsLock ..
  case clockDeviation => exact execClockDeviation_keepsLock ..
  case resetChip => exact execResetChip_keepsLock ..
  case guestReset => exact execGuestReset_keepsLock ..
  case serviceImageStart => exact execServiceImageStart_keepsLock ..
  case configJournalReplay => exact execConfigJournalReplay_keepsLock ..
  case porRelease => exact execPorRelease_keepsLock ..
  case dozeEntry => exact execDozeEntry_keepsLock ..
  case tamperEvent => exact execTamperEvent_keepsLock ..
  case tamperSensorSample => exact execTamperSensorSample_keepsLock ..
  case retireDevice => exact execRetireDevice_keepsLock ..
  case nfcEventRead => exact execNfcEventRead_keepsLock ..
  case nfcPoll => exact execNfcPoll_keepsLock ..
  case nfcPresenceCheck => exact execNfcPresenceCheck_keepsLock ..
  case nfcHoldTimeout => exact execNfcHoldTimeout_keepsLock ..
  case releaseCard => exact execReleaseCard_keepsLock ..
  case tagFieldOn => exact execTagFieldOn_keepsLock ..
  case tagFieldLost => exact execTagFieldLost_keepsLock ..
  case reqa => exact execReqa_keepsLock ..
  case select => exact execSelect_keepsLock ..
  case readPage => exact execReadPage_keepsLock ..
  case getChallenge => exact execGetChallenge_keepsLock ..
  case mutualAuth => exact execMutualAuth_keepsLock ..
  case deselect => exact execDeselect_keepsLock ..
  case tagPageRewrite => exact execTagPageRewrite_keepsLock ..
  case setTagPublic => exact execSetTagPublic_keepsLock ..
  case setTagSecrets => exact execSetTagSecrets_keepsLock ..
  all_goals exact (exec_only _ s).keepsLock rfl

/-- Settles O14, from what VERIFY does with a wrong, a right and a locked password, and from what every other command keeps. -/
theorem tagPasswordLock : Obligations.TagPasswordLock := by
  refine ⟨fun pw d s hserving hselected hdigest hlocked hpw => ?_,
    fun pw d s hserving hselected hdigest hlocked => execVerify_of_locked pw hserving hselected hdigest hlocked,
    fun pw s hserving hselected hdigest hlocked => ?_, fun data s t hexec => ?_, fun c s t hexec hlocked => ?_⟩
  · refine ⟨_, execVerify_of_wrong pw hserving hselected hdigest hlocked hpw, ?_⟩
    split <;> simp
  · exact ⟨_, execVerify_of_right pw hserving hselected hdigest hlocked rfl, rfl, rfl, hlocked⟩
  · obtain ⟨hfails, hlocked⟩ := (execMutualAuth_keepsLock data s).keeps t hexec
    exact ⟨hfails, hlocked⟩
  · by_cases hreset : ∃ r, c = .resetTagLock r
    · exact .inr hreset
    · have hkept := (exec_keepsLock c s hlocked (not_exists.1 hreset)).keeps t hexec
      exact .inl (hkept.locked.trans hlocked)

end Sys2Proof.Machine
end

section
/-! What zeroisation leaves of the tag (spec 21 R564): the key goes and every copy of both pages is marked, while the password stays. -/

namespace Sys2Proof.Machine

variable {s : State}

/-- Of the tag zeroisation leaves what the tag island's own zeroisation leaves. -/
theorem State.zeroise_tag (s : State) : s.zeroise.tag = s.tagZeroise.tag := by
  have hnfc : (s.rootLost.clearVault.dropTls.keyRaise 1).voidLegal.nfc = s.nfc := by
    have hvoid : (s.rootLost.clearVault.dropTls.keyRaise 1).voidLegal.nfc = s.rootLost.clearVault.dropTls.nfc :=
      (State.voidLegal_only _).same .nfc (by decide)
    exact hvoid.trans ((State.dropTls_only _).same .nfc (by decide))
  simp only [State.zeroise, State.tagZeroise, State.tag, State.modNfc_nfc, hnfc]

@[simp] theorem State.tamperCounted_tag (s : State) (k : Fin 5) : (s.tamperCounted k).tag = s.tag := rfl

@[simp] theorem State.tagZeroise_key (s : State) : s.tagZeroise.tag.key = none := rfl
@[simp] theorem State.tagZeroise_secured (s : State) : s.tagZeroise.tag.secured = false := rfl
@[simp] theorem State.tagZeroise_pwDigest (s : State) : s.tagZeroise.tag.pwDigest = s.tag.pwDigest := rfl
@[simp] theorem State.tagZeroise_page0 (s : State) (c : Fin 2) :
    ix s.tagZeroise.tag.page0 c = updAt (ix s.tag.page0 c) 1 (· ||| 8) := ix_vmap ..
@[simp] theorem State.tagZeroise_page1 (s : State) (c : Fin 2) :
    ix s.tagZeroise.tag.page1 c = updAt (ix s.tag.page1 c) 2 (· ||| 8) := ix_vmap ..

/-- Settles O13, from what the tag island clears and marks on zeroisation. -/
theorem tagZeroisation : Obligations.TagZeroisation := by
  intro k s harmed hretired hroot hpower
  refine ⟨(s.tamperCounted k).zeroise, execTamperEvent_of_root k harmed hretired hroot hpower, ?_⟩
  rw [State.zeroise_tag]
  simp

end Sys2Proof.Machine
end

section
/-! What an operation keeps: `Holds I s` says that a state has I. A lemma `Holds.f` says that the operation f keeps I, by the lemmas of
the operations that f is made of; a change of parts that I does not rest on keeps it by its frame (`RestsOn`, `Holds.only`). -/

namespace Sys2Proof.Machine

/-- I holds of the state. -/
structure Holds (I : State → Prop) (s : State) : Prop where
  of : I s

/-- I holds of every next state that a meaning answers. -/
structure HoldsRes (I : State → Prop) (r : Res) : Prop where
  of : ∀ t, r = .next t → I t

/-- I rests on the parts qs: it is the same of two states that agree on them. -/
structure RestsOn (qs : List Part) (I : State → Prop) : Prop where
  of : ∀ s t, (∀ q ∈ qs, sameAt s t q) → I s → I t

/-- No part of ps is one of qs. -/
def apart (ps qs : List Part) : Bool := ps.all fun p => !qs.contains p

variable {I : State → Prop} {ps qs : List Part} {s t u : State}

theorem Holds.ite {c : Prop} [Decidable c] (h : Holds I t) (k : Holds I u) : Holds I (if c then t else u) := by
  split <;> assumption

theorem Holds.foldl {α : Type} {f : State → α → State} {l : List α} (h : Holds I t) (k : ∀ u a, Holds I u → Holds I (f u a)) :
    Holds I (l.foldl f t) := by
  induction l generalizing t with
  | nil => exact h
  | cons a l ih => exact ih (k _ _ h)

theorem Holds.each {n : Nat} {f : Fin n → State → State} (h : Holds I t) (k : ∀ i u, Holds I u → Holds I (f i u)) :
    Holds I (t.each f) := h.foldl fun u i => k i u

theorem Holds.whenB {c : Bool} {f : State → State} (h : Holds I t) (k : ∀ u, Holds I u → Holds I (f u)) : Holds I (t.whenB c f) :=
  .ite (k _ h) h

/-- A change of parts that I does not rest on keeps I. -/
theorem Holds.only (h : Holds I t) (hI : RestsOn qs I) (k : Only ps t u) (hps : apart ps qs = true) : Holds I u := by
  refine ⟨hI.of t u (fun q hq => k.same q fun hmem => ?_) h.of⟩
  have happart := List.all_eq_true.1 hps q hmem
  simp [hq] at happart

theorem HoldsRes.next (h : Holds I t) : HoldsRes I (.next t) := ⟨fun u hu => by cases hu; exact h.of⟩

theorem HoldsRes.ite {c : Prop} [Decidable c] {x y : Res} (h : HoldsRes I x) (k : HoldsRes I y) : HoldsRes I (if c then x else y) := by
  split <;> assumption

theorem OnlyRes.holds {r : Res} (h : OnlyRes ps s r) (hs : Holds I s) (hI : RestsOn qs I) (hps : apart ps qs = true) : HoldsRes I r :=
  ⟨fun t ht => (hs.only hI (h.only t ht) hps).of⟩

/-! ### Accesses, and frames of the chain and the mesh: what is done with them decides -/

/-- The parts that an access to a register changes beside what it does (R71, R44). -/
def accessParts : List Part := [.sys, .host, .sent, .chn, .msh]

theorem Holds.access {path : Path} {g : Guest} {off be : Nat} {write shape : Bool} {f : State → State} (h : Holds I t)
    (hI : RestsOn qs I) (hqs : apart accessParts qs = true) (hf : ∀ u, Holds I u → Holds I (f u)) :
    Holds I (t.access path g off write be shape f) := by
  have honly {ps : List Part} {u v : State} (hu : Holds I u) (k : Only ps u v) (hps : within ps accessParts = true) : Holds I v :=
    hu.only hI (k.mono hps) hqs
  unfold State.access
  exact .ite (.ite (honly h (State.emit_only ..) rfl) h)
    (honly (.ite h (.ite (honly h (State.badAccess_only ..) rfl) (hf _ h))) (State.hostActive_only ..) rfl)

theorem Holds.readEvent {path : Path} {g : Guest} {off : Nat} {bits : Word} {f : State → State} (h : Holds I t)
    (hI : RestsOn qs I) (hqs : apart accessParts qs = true) (hf : ∀ u, Holds I u → Holds I (f u)) :
    Holds I (t.readEvent path g off bits f) :=
  h.access hI hqs fun _ hu => hf _ (hu.only hI ((State.returnRead_only ..).mono (ps := accessParts) rfl) hqs)

end Sys2Proof.Machine
end

section
/-! The basic statements about a step: which command it runs, that every command ends in a next state, and the reset state. That no
command ends in a fault or a refusal is the model's choice (log 6), and so is that no word spells a command (log 5). -/

namespace Sys2Proof.Machine

variable {s : State}

/-- Settles O1: so a step is defined where the queue is not empty. -/
theorem stepRunsTheFrontCommand : Obligations.StepRunsTheFrontCommand := by
  intro c rest s hqueue
  rw [step, hqueue]

/-- A meaning that tests a condition answers a next state where both its branches do. -/
theorem exists_next_ite {c : Prop} [Decidable c] {x y : Res} (hx : ∃ t, x = .next t) (hy : ∃ t, y = .next t) :
    ∃ t, (if c then x else y) = .next t := by
  split <;> assumption

theorem execCmSetKeyCnf_next (p : Port) (s : State) : ∃ t, execCmSetKeyCnf p s = .next t := by
  unfold execCmSetKeyCnf
  extract_lets
  split
  · exact ⟨_, rfl⟩
  · exact exists_next_ite ⟨_, rfl⟩ ⟨_, rfl⟩

/-- Settles O3: most meanings are a next state by definition, and the others are one in each branch of a test. -/
theorem everyCommandIsTaken : Obligations.EveryCommandIsTaken := by
  intro c s
  cases c
  case porRelease | safetyInitDone | vehicleTarget | lockPulseEnd | powerEpochStart | safeInEdge =>
    exact exists_next_ite ⟨_, rfl⟩ ⟨_, rfl⟩
  case grantCompute | grantBroadcast | safetyCycle | imdHalfPeriodEnd => exact exists_next_ite ⟨_, rfl⟩ (exists_next_ite ⟨_, rfl⟩ ⟨_, rfl⟩)
  case cmSetKeyCnf => exact execCmSetKeyCnf_next ..
  all_goals exact ⟨_, rfl⟩

/-- No command writes the queue. -/
theorem pending_not_written (c : Instr) : (writes c).contains .pending = false := by cases c <;> rfl

/-- Settles O4, from the parts that each command may write. -/
theorem commandsWriteTheirPartsAlone : Obligations.CommandsWriteTheirPartsAlone := by
  refine ⟨fun c s t hexec => ((exec_only c s).only t hexec).same, fun c s t hexec => ?_⟩
  exact ((exec_only c s).only t hexec).same .pending (by simpa using pending_not_written c)

/-- Settles O20, from the values of the state just after reset. -/
theorem resetState : Obligations.ResetState := by
  unfold Obligations.ResetState
  decide

/-- Settles O21: the table of commands gives no row any bits. -/
theorem noWordSpellsACommand : Obligations.NoWordSpellsACommand := fun _ _ _ => ⟨rfl, rfl⟩

/-- Settles O5: the display's memories are empty, and the counts and logs of the reset state lie within their bounds. -/
theorem invariantAtReset : Obligations.InvariantAtReset where
  frame := reset_cellsWf.1
  boost := reset_cellsWf.2
  lifecycle := by decide
  fresh := by decide
  sealCount := by decide
  tamper := by decide
  rindLog := by decide
  log := by decide

end Sys2Proof.Machine
end
namespace Sys2Proof.Machine

variable {s : State}

/-! ### The idle step -/

/-- Rind's counter after 1 µs: it runs from the first root on, with the module out of ship state and Rind supplied (R504 to R506). -/
theorem Rind.rtcUs_of_counting {r : Rind} (h : r.counting = true) :
    (if r.counting then { r with rtcUs := r.rtcUs + 1 } else r).rtcUs = r.rtcUs + 1 := by
  rw [if_pos h]

theorem State.tick_of_dormant (h : s.sys.power = .dormant) :
    s.tick = s.modRind fun r => if r.counting then { r with rtcUs := r.rtcUs + 1 } else r := by
  simp [State.tick, h]

theorem State.tick_of_awake (h : s.sys.power ≠ .dormant) :
    s.tick = ((s.modRind fun r => if r.counting then { r with rtcUs := r.rtcUs + 1 } else r).modTime fun t => { t with
      legalUs := t.legalUs + 1, safetyUs := t.safetyUs + 1 }).tickChain.tickCounters := by
  simp [State.tick, h]

@[simp] theorem State.tickCounters_time (s : State) : s.tickCounters.time = s.time := (State.tickCounters_only s).same .time (by decide)
@[simp] theorem State.tickChain_legalUs (s : State) : s.tickChain.time.legalUs = s.time.legalUs := rfl
@[simp] theorem State.tickChain_safetyUs (s : State) : s.tickChain.time.safetyUs = s.time.safetyUs := rfl

/-- Settles O2, from what 1 µs changes in Dormant and outside it; that an idle step lasts 1 µs is the model's choice (log 3). -/
theorem emptyQueueLetsTimePass : Obligations.EmptyQueueLetsTimePass := by
  refine ⟨fun s hqueue hpower => ⟨s.tick, by rw [step, hqueue], ?_⟩, fun s hqueue hpower => ⟨s.tick, by rw [step, hqueue], ?_⟩⟩
  · have hframe := ((State.tick_only s).mono (ps := [.sys, .time, .host, .rind, .chn, .sent]) rfl).same
    rw [State.tick_of_awake hpower] at hframe ⊢
    refine ⟨by simp, by simp, fun hcount => ?_, hframe⟩
    simpa using Rind.rtcUs_of_counting hcount
  · rw [State.tick_of_dormant hpower]
    exact ⟨(State.modRind_only ..).same, fun hcount => Rind.rtcUs_of_counting hcount⟩

end Sys2Proof.Machine

section
/-! The display's frame memory (spec 21 R569, R580): what a pixel reads after it is written, what a frame boundary writes, and which
commands change the memories. -/

namespace Sys2Proof.Machine

variable {s t u : State} {m n : List (Nat × Byte)}

/-! ### Reading a canonical memory -/

/-- Below its first address a canonical memory reads 0. -/
theorem cellAt_of_lt_head {i : Nat} (wf : cellsWf m = true) (h : ∀ d ∈ m.head?, i < d.1) : cellAt m i = 0 := by
  induction m with
  | nil => rfl
  | cons c cs ih =>
    obtain ⟨-, hhead, htail⟩ := (cellsWf_cons c cs).1 wf
    have hc : i < c.1 := h c (by simp)
    rw [cellAt, if_neg hc.ne']
    exact ih htail fun d hd => hc.trans (hhead d hd)

/-- A pixel written reads back, and every other one reads as before. -/
theorem cellAt_cellPut (wf : cellsWf m = true) (i j : Nat) (v : Byte) :
    cellAt (cellPut m i v) j = if j = i then v else cellAt m j := by
  induction m with
  | nil =>
    by_cases hv : v = 0
    · simp [cellPut, cellAt, hv]
    · rw [cellPut, if_neg hv, cellAt]
      exact if_congr eq_comm rfl rfl
  | cons c cs ih =>
    obtain ⟨-, hhead, htail⟩ := (cellsWf_cons c cs).1 wf
    rcases lt_trichotomy c.1 i with hlt | rfl | hgt
    · rw [cellPut, if_pos hlt, cellAt, ih htail, cellAt]
      split <;> split <;> simp_all
    · have hzero : cellAt cs c.1 = 0 := cellAt_of_lt_head htail hhead
      rw [cellPut, if_neg (lt_irrefl _), if_pos rfl, cellAt]
      by_cases hv : v = 0 <;> by_cases hj : j = c.1
      · rw [if_pos hv, if_pos hj, hj, hzero, hv]
      · rw [if_pos hv, if_neg hj, if_neg (Ne.symm hj)]
      · rw [if_neg hv, cellAt, if_pos hj.symm, if_pos hj]
      · rw [if_neg hv, cellAt, if_neg (Ne.symm hj), if_neg hj, if_neg (Ne.symm hj)]
    · have hzero : cellAt (c :: cs) i = 0 := cellAt_of_lt_head wf (by simpa using hgt)
      rw [cellPut, if_neg hgt.not_gt, if_neg hgt.ne']
      by_cases hv : v = 0 <;> by_cases hj : j = i
      · simp [hv, hj, hzero]
      · simp [hv, hj]
      · rw [if_neg hv, cellAt, if_pos hj.symm, if_pos hj]
      · rw [if_neg hv, cellAt, if_neg (Ne.symm hj), if_neg hj]

/-- Where two canonical memories read alike, the first address of one does not lie below the other's. -/
theorem not_head_lt {c d : Nat × Byte} (hm : cellsWf (c :: m) = true) (hn : cellsWf (d :: n) = true)
    (h : cellAt (c :: m) c.1 = cellAt (d :: n) c.1) : ¬ c.1 < d.1 := by
  intro hlt
  rw [cellAt_of_lt_head hn (by simpa using hlt)] at h
  exact ((cellsWf_cons c m).1 hm).1 (by simpa [cellAt] using h)

/-- Two canonical memories that read alike are equal. -/
theorem cells_ext (hm : cellsWf m = true) (hn : cellsWf n = true) (h : ∀ i, cellAt m i = cellAt n i) : m = n := by
  induction m generalizing n with
  | nil =>
    cases n with
    | nil => rfl
    | cons d n => exact absurd (h d.1).symm (by simpa [cellAt] using ((cellsWf_cons d n).1 hn).1)
  | cons c m ih =>
    cases n with
    | nil => exact absurd (h c.1) (by simpa [cellAt] using ((cellsWf_cons c m).1 hm).1)
    | cons d n =>
      have haddr : c.1 = d.1 := by
        have hle := not_head_lt hm hn (h c.1)
        have hge := not_head_lt hn hm (h d.1).symm
        omega
      have hlevel : c.2 = d.2 := by simpa [cellAt, haddr] using h c.1
      obtain ⟨-, hmhead, hmtail⟩ := (cellsWf_cons c m).1 hm
      obtain ⟨-, hnhead, hntail⟩ := (cellsWf_cons d n).1 hn
      have htails : ∀ i, cellAt m i = cellAt n i := by
        intro i
        by_cases hi : i = c.1
        · subst hi
          rw [cellAt_of_lt_head hmtail hmhead, cellAt_of_lt_head hntail (haddr ▸ hnhead)]
        · have hread := h i
          rwa [cellAt, cellAt, if_neg (Ne.symm hi), if_neg (by rw [← haddr]; exact Ne.symm hi)] at hread
      rw [Prod.ext haddr hlevel, ih hmtail hntail htails]

/-- Settles O22. -/
theorem displayMemoryReadsBack : Obligations.DisplayMemoryReadsBack :=
  ⟨fun _ i j v wf => cellAt_cellPut wf i j v, fun _ _ hm hn h => cells_ext hm hn h⟩

/-! ### Writing many pixels -/

/-- The memory after the pixels have been written in their order. -/
def cellPuts (m : List (Nat × Byte)) (cells : List (Nat × Byte)) : List (Nat × Byte) :=
  cells.foldl (fun m c => cellPut m c.1 c.2) m

theorem cellsWf_cellPuts (wf : cellsWf m = true) (cells : List (Nat × Byte)) : cellsWf (cellPuts m cells) = true :=
  cellPuts_wf Prod.fst Prod.snd cells m wf

theorem cellAt_cellPuts_of_ne {i : Nat} (wf : cellsWf m = true) (cells : List (Nat × Byte)) (h : ∀ x ∈ cells, x.1 ≠ i) :
    cellAt (cellPuts m cells) i = cellAt m i := by
  induction cells generalizing m with
  | nil => rfl
  | cons c cells ih =>
    have hc : i ≠ c.1 := (h c (by simp)).symm
    have hput : cellAt (cellPut m c.1 c.2) i = cellAt m i := by rw [cellAt_cellPut wf, if_neg hc]
    exact (ih (cellPut_wf m c.1 c.2 wf) fun x hx => h x (List.mem_cons_of_mem c hx)).trans hput

/-- A memory after N pixels at N different places reads each of them. -/
theorem cellAt_cellPuts_map {N k : Nat} {f : Nat → Nat} {g : Nat → Byte} (wf : cellsWf m = true)
    (hf : ∀ a b, f a = f b → a = b) (hk : k < N) : cellAt (cellPuts m ((List.range N).map fun i => (f i, g i))) (f k) = g k := by
  induction N with
  | zero => omega
  | succ N ih =>
    rw [List.range_succ, List.map_append, cellPuts, List.foldl_append]
    have hwf := cellsWf_cellPuts wf ((List.range N).map fun i => (f i, g i))
    refine (cellAt_cellPut hwf (f N) (f k) (g N)).trans ?_
    by_cases hlast : k = N
    · rw [hlast, if_pos rfl]
    · rw [if_neg fun heq => hlast (hf _ _ heq)]
      exact ih (by omega)

/-- Two pixels of a rectangle no wider than the panel lie at two places. -/
theorem Rect.place_injective {q : Rect} {width : Nat} (hw : q.w ≤ width) (hpos : 0 < q.w) (a b : Nat)
    (h : (q.y + a / q.w) * width + q.x + a % q.w = (q.y + b / q.w) * width + q.x + b % q.w) : a = b := by
  have hcol (i : Nat) : i % q.w < width := (Nat.mod_lt i hpos).trans_le hw
  have hsum : a % q.w + width * (q.y + a / q.w) = b % q.w + width * (q.y + b / q.w) := by
    rw [Nat.mul_comm width, Nat.mul_comm width]
    omega
  have hrow : a / q.w = b / q.w := by
    have hdiv := congrArg (· / width) hsum
    have hwidth : 0 < width := hpos.trans_le hw
    simp only [Nat.add_mul_div_left _ _ hwidth, Nat.div_eq_of_lt (hcol _), Nat.zero_add] at hdiv
    omega
  have hrem : a % q.w = b % q.w := by
    rw [hrow] at hsum
    omega
  rw [← Nat.div_add_mod a q.w, ← Nat.div_add_mod b q.w, hrow, hrem]

/-! ### The frame boundary -/

/-- The regions that wait for the next frame boundary, in ascending order (R569). -/
def Dsp.waiting (d : Dsp) : List Rect := d.pending.toList.filterMap id

theorem Dsp.mem_waiting {d : Dsp} {q : Rect} : q ∈ d.waiting ↔ ∃ k : Fin 8, ix d.pending k = some q := by
  simp only [Dsp.waiting, List.mem_filterMap, id, Vector.mem_toList_iff]
  constructor
  · rintro ⟨x, hx, rfl⟩
    obtain ⟨k, hk, hget⟩ := Vector.getElem_of_mem hx
    exact ⟨⟨k, hk⟩, hget⟩
  · rintro ⟨k, hk⟩
    exact ⟨_, hk ▸ Vector.getElem_mem k.2, rfl⟩

/-- The pixels that a frame boundary writes. -/
def State.boundaryCells (s : State) : List (Nat × Byte) := s.dsp.waiting.flatMap (·.cells s.dsp.cfg.width)

theorem State.takeGeometry_of_same (h : s.cfg.dsp = s.dsp.cfg) : s.takeGeometry = s := by
  simp [State.takeGeometry, h]

theorem State.takeGeometry_legalVoid (s : State) : s.takeGeometry.legalVoid = s.legalVoid := by
  have hlegal : s.takeGeometry.legal = s.legal := (State.takeGeometry_only s).same .legal (by decide)
  rw [State.legalVoid, State.legalVoid, hlegal]

theorem State.takeGeometry_next (s : State) : s.takeGeometry.dsp.next = s.dsp.next := by
  unfold State.takeGeometry
  extract_lets
  split
  · rfl
  · split <;> rfl

@[simp] theorem State.dspRaise_frame (s : State) (bits : Word) : (s.dspRaise bits).dsp.frame = s.dsp.frame := rfl
@[simp] theorem State.dspRaise_boost (s : State) (bits : Word) : (s.dspRaise bits).dsp.boost = s.dsp.boost := rfl
@[simp] theorem State.dspRaise_pending (s : State) (bits : Word) : (s.dspRaise bits).dsp.pending = s.dsp.pending := rfl
@[simp] theorem State.dspRaise_shown (s : State) (bits : Word) : (s.dspRaise bits).dsp.shown = s.dsp.shown := rfl

theorem execFrameBoundary_frame (hexec : execFrameBoundary s = .next t) :
    t.dsp.frame = cellPuts s.takeGeometry.dsp.frame s.takeGeometry.boundaryCells := by
  cases hexec
  split <;> rfl

theorem execFrameBoundary_pending (hexec : execFrameBoundary s = .next t) (k : Fin 8) : ix t.dsp.pending k = none := by
  cases hexec
  split <;> simp [ix]

theorem execFrameBoundary_shown (hexec : execFrameBoundary s = .next t) (h : s.legalVoid = false) : t.dsp.shown = s.dsp.next := by
  cases hexec
  split <;> simp [State.takeGeometry_legalVoid, State.takeGeometry_next, h]

/-- Of one pending region alone, that region waits. -/
theorem Dsp.waiting_of_lone {d : Dsp} {k : Fin 8} {q : Rect} (hk : ix d.pending k = some q)
    (hothers : ∀ l, l ≠ k → ix d.pending l = none) : d.waiting = [q] := by
  have hpending : d.pending = upd (Vector.replicate 8 none) k fun _ => some q := by
    refine Vector.ext fun i hi => ?_
    by_cases heq : k = ⟨i, hi⟩
    · subst heq
      exact hk.trans (ix_upd_same (Vector.replicate 8 none) ⟨i, hi⟩ fun _ => some q).symm
    · exact (hothers ⟨i, hi⟩ (Ne.symm heq)).trans (by
        rw [show (upd (Vector.replicate 8 none) k fun _ => some q)[i] = ix (upd (Vector.replicate 8 none) k fun _ => some q) ⟨i, hi⟩ from rfl,
          ix_upd_ne _ _ _ _ heq, ix_replicate])
  rw [Dsp.waiting, hpending]
  clear hk hothers hpending
  fin_cases k <;> rfl

/-- The regions' pixels that a boundary without a change of geometry writes (R569). -/
theorem execFrameBoundary_frame_of_same (h : s.cfg.dsp = s.dsp.cfg) (hexec : execFrameBoundary s = .next t) :
    t.dsp.frame = cellPuts s.dsp.frame s.boundaryCells := by
  rw [execFrameBoundary_frame hexec, State.takeGeometry_of_same h]

/-- A pixel that no pending region covers keeps its level. -/
theorem frameBoundary_leaves {i : Nat} (h : s.cfg.dsp = s.dsp.cfg) (wf : cellsWf s.dsp.frame = true)
    (hexec : execFrameBoundary s = .next t)
    (hout : ∀ k q, ix s.dsp.pending k = some q → ∀ x ∈ q.cells s.dsp.cfg.width, x.1 ≠ i) :
    cellAt t.dsp.frame i = cellAt s.dsp.frame i := by
  rw [execFrameBoundary_frame_of_same h hexec]
  refine cellAt_cellPuts_of_ne wf _ fun x hx => ?_
  obtain ⟨q, hq, hxq⟩ := List.mem_flatMap.1 hx
  obtain ⟨k, hk⟩ := Dsp.mem_waiting.1 hq
  exact hout k q hk x hxq

/-- A lone pending region lies in the frame after the boundary, row by row. -/
theorem frameBoundary_writes {k : Fin 8} {q : Rect} {n : Nat} (h : s.cfg.dsp = s.dsp.cfg) (wf : cellsWf s.dsp.frame = true)
    (hexec : execFrameBoundary s = .next t) (hk : ix s.dsp.pending k = some q)
    (hothers : ∀ l, l ≠ k → ix s.dsp.pending l = none) (hw : q.w ≤ s.dsp.cfg.width) (hn : n < q.w * q.h) :
    cellAt t.dsp.frame ((q.y + n / q.w) * s.dsp.cfg.width + q.x + n % q.w) = q.data.getD n 0 := by
  have hpos : 0 < q.w := Nat.pos_of_ne_zero fun hzero => by simp [hzero] at hn
  have hcells : s.boundaryCells = q.cells s.dsp.cfg.width := by
    rw [State.boundaryCells, Dsp.waiting_of_lone hk hothers, List.flatMap_singleton]
  rw [execFrameBoundary_frame_of_same h hexec, hcells]
  exact cellAt_cellPuts_map (f := fun i => (q.y + i / q.w) * s.dsp.cfg.width + q.x + i % q.w) (g := fun i => q.data.getD i 0) wf
    (Rect.place_injective hw hpos) hn

/-! ### The other commands -/

/-- The displayed frame and the overdrive are f and b. -/
def CellsAre (f b : List (Nat × Byte)) (s : State) : Prop := s.dsp.frame = f ∧ s.dsp.boost = b

theorem cellsAre_restsOn (f b : List (Nat × Byte)) : RestsOn [.dsp] (CellsAre f b) where
  of s t hsame h := by
    have hdsp : t.dsp = s.dsp := hsame .dsp (by decide)
    rwa [CellsAre, hdsp]

section
variable {f b : List (Nat × Byte)}

/-- A change of other parts. -/
theorem Holds.cells_only {ps : List Part} (h : Holds (CellsAre f b) t) (k : Only ps t u) (hps : apart ps [.dsp] = true) :
    Holds (CellsAre f b) u := h.only (cellsAre_restsOn f b) k hps

theorem Holds.cells_modDsp {g : Dsp → Dsp} (h : Holds (CellsAre f b) t)
    (hg : ((g t.dsp).frame, (g t.dsp).boost) = (t.dsp.frame, t.dsp.boost)) : Holds (CellsAre f b) (t.modDsp g) := by
  obtain ⟨hframe, hboost⟩ := Prod.mk.inj hg
  exact ⟨hframe.trans h.of.1, hboost.trans h.of.2⟩

theorem Holds.cells_answer {r : Req} {code : Nat} {ws : List Word} (h : Holds (CellsAre f b) t) :
    Holds (CellsAre f b) (t.answer r code ws) := h.cells_only (State.answer_only ..) rfl

theorem Holds.cells_drawLegal (h : Holds (CellsAre f b) t) : Holds (CellsAre f b) t.drawLegal := .ite (h.cells_modDsp rfl) h

/-- A chip reset empties the pending regions and leaves what is displayed (R30). -/
theorem Holds.cells_chipReset {cause : Nat} (h : Holds (CellsAre f b) t) : Holds (CellsAre f b) (t.chipReset cause) := by
  unfold State.chipReset
  extract_lets cleared time conf s1 s2
  have h1 : Holds (CellsAre f b) s1 := ⟨h.of⟩
  have h2 : Holds (CellsAre f b) s2 := h1.cells_only (afterChipReset_only _) rfl
  exact .ite h (.ite (h2.cells_only (State.revert_only _) rfl) h2)

theorem Holds.cells_clearEvents {g : Guest} (h : Holds (CellsAre f b) t) : Holds (CellsAre f b) (t.clearEvents g) := by
  unfold State.clearEvents
  extract_lets s1 s2 s3
  have h1 : Holds (CellsAre f b) s1 := h.each fun _ _ hu => hu.cells_only (State.modVeh_only ..) rfl
    |>.cells_only (State.modSes_only ..) rfl |>.cells_only (State.modPwr_only ..) rfl |>.cells_only (State.modMet_only ..) rfl
    |>.cells_only (State.modNrg_only ..) rfl |>.cells_only (State.modBil_only ..) rfl |>.cells_only (State.modPq_only ..) rfl
    |>.cells_only (State.modSp_only ..) rfl
  have h2 : Holds (CellsAre f b) s2 := h1.cells_only (State.modLegal_only ..) rfl |>.cells_only (State.modSaf_only ..) rfl
    |>.cells_only (State.modLs_only ..) rfl |>.cells_only (State.modChn_only ..) rfl
  have h3 : Holds (CellsAre f b) s3 := h2.cells_only (State.modMsh_only ..) rfl |>.cells_only (State.modJnl_only ..) rfl
    |>.cells_only (State.modCave_only ..) rfl |>.cells_only (State.modKeys_only ..) rfl
  exact (h3.cells_only (State.modFw_only ..) rfl |>.cells_only (State.modNfc_only ..) rfl).cells_modDsp rfl

theorem execGuestReset_cells (g : Guest) (h : Holds (CellsAre f b) s) : HoldsRes (CellsAre f b) (execGuestReset g s) := by
  unfold execGuestReset
  extract_lets cmds s1 s2 s3
  have h1 : Holds (CellsAre f b) s1 := h.each fun _ _ hu => .ite hu (hu.cells_only (State.withdrawFrom_only ..) rfl)
  have h2 : Holds (CellsAre f b) s2 := h1.cells_only (State.abortTo_only ..) rfl |>.cells_only (State.dropAdmitted_only ..) rfl
    |>.cells_only (State.dropLeases_only ..) rfl
  have h3 : Holds (CellsAre f b) s3 := (h2.cells_only (State.modGuest_only ..) rfl).cells_clearEvents
  exact .next (.ite h (h3.foldl fun _ _ hu => hu.cells_answer))

theorem execServiceImageStart_cells (verified : Bool) (h : Holds (CellsAre f b) s) :
    HoldsRes (CellsAre f b) (execServiceImageStart verified s) := by
  unfold execServiceImageStart
  extract_lets x
  have hx : Holds (CellsAre f b) x := (h.cells_only (State.modFw_only ..) rfl).cells_chipReset
  have hrom {u : State} (hu : Holds (CellsAre f b) u) : Holds (CellsAre f b) u.enterRom := hu.cells_only (State.enterRom_only ..) rfl
  exact .next (.ite h (.ite (hrom h) (.ite
    (h.cells_only (State.modFw_only ..) rfl |>.cells_only (State.modSys_only ..) rfl |>.cells_only (State.modHost_only ..) rfl
      |>.cells_only (State.modKeys_only ..) rfl |>.cells_only (State.reach_only ..) rfl)
    (.ite (hrom hx) hx))))

theorem execUpdateRegion_cells (r : Req) (h : Holds (CellsAre f b) s) : HoldsRes (CellsAre f b) (execUpdateRegion r s) := by
  unfold execUpdateRegion
  extract_lets c q n ring d full s2
  have h2 : Holds (CellsAre f b) s2 := (h.cells_only (State.useRing_only ..) rfl).cells_modDsp rfl
  exact .next (.ite h.cells_answer (.ite h.cells_answer (.ite (h.cells_only (State.endRing_only ..) rfl)
    (Holds.cells_answer (.ite (h2.cells_modDsp rfl) h2)))))

theorem execSetPanelPower_cells (r : Req) (h : Holds (CellsAre f b) s) : HoldsRes (CellsAre f b) (execSetPanelPower r s) := by
  unfold execSetPanelPower
  extract_lets on x
  have hx : Holds (CellsAre f b) x := h.cells_modDsp rfl
  exact .next (.ite h.cells_answer (Holds.cells_answer (.ite hx (hx.cells_modDsp rfl))))

theorem execSelectLegalView_cells (r : Req) (h : Holds (CellsAre f b) s) : HoldsRes (CellsAre f b) (execSelectLegalView r s) := by
  unfold execSelectLegalView
  extract_lets v wants x
  have hx : Holds (CellsAre f b) x := h.cells_modDsp rfl
  exact .next (.ite h.cells_answer (.ite h.cells_answer (.ite h.cells_answer (hx.cells_drawLegal.cells_modDsp rfl).cells_answer)))

/-- The display's memories change with a frame boundary and with the release of a power-on reset alone. -/
theorem exec_cells (c : Instr) (hboundary : c ≠ .frameBoundary) (hrelease : c ≠ .porRelease) (h : Holds (CellsAre f b) s) :
    HoldsRes (CellsAre f b) (exec c s) := by
  cases c
  case frameBoundary => exact absurd rfl hboundary
  case porRelease => exact absurd rfl hrelease
  case chipReset => exact .next h.cells_chipReset
  case serviceWatchdogExpiry => exact .next h.cells_chipReset
  case eccUncorrectable => exact .next h.cells_chipReset
  case clockDeviation =>
    exact .next (.ite h (.ite ((h.cells_only (State.modSys_only ..) rfl).cells_only (State.enterRom_only ..) rfl) h.cells_chipReset))
  case resetChip => exact .next (.ite h.cells_answer (.ite h.cells_answer h.cells_chipReset))
  case serviceImageStart => exact execServiceImageStart_cells _ h
  case guestReset => exact execGuestReset_cells _ h
  case dspEventRead =>
    exact .next (h.readEvent (cellsAre_restsOn f b) rfl fun _ hu => hu.cells_modDsp rfl)
  case legalViewRefresh => exact .next h.cells_drawLegal
  case legalLineAlternate => exact .next (h.cells_modDsp rfl).cells_drawLegal
  case legalViewCycle => exact .next (.ite (h.cells_modDsp rfl).cells_drawLegal (h.cells_modDsp rfl))
  case updateRegion => exact execUpdateRegion_cells _ h
  case setPanelPower => exact execSetPanelPower_cells _ h
  case selectLegalView => exact execSelectLegalView_cells _ h
  all_goals exact (exec_only _ s).holds h (cellsAre_restsOn f b) rfl

end

/-- Settles O23, from the frame after a boundary and from what the other commands leave of it. -/
theorem frameBoundaryWritesItsRegionsAlone : Obligations.FrameBoundaryWritesItsRegionsAlone := by
  refine ⟨fun s t i h wf hexec hout => frameBoundary_leaves h wf hexec hout,
    fun k q n s t h wf hexec hk hothers hw hn => frameBoundary_writes h wf hexec hk hothers hw hn, fun s t hexec => ?_,
    fun c s t hexec hboundary hrelease => ?_⟩
  · exact ⟨execFrameBoundary_pending hexec, execFrameBoundary_shown hexec⟩
  · exact ((exec_cells c hboundary hrelease ⟨rfl, rfl⟩).of t hexec).1

end Sys2Proof.Machine
end

section
/-! The machine's invariant (spec 19 R507, R518; 21): the seal count of a device that has not reached FIELD, the lengths of the audit
logs, and the display's memories across a frame boundary and a release. The bounds of the counts are `step_rises`, and the life cycle's
is `lifeCycleMoves`. -/

namespace Sys2Proof.Machine

variable {s t u : State}

/-! ### No seal count before FIELD -/

/-- A device that has not reached FIELD has counted no seal (R507). -/
def FreshUncounted (s : State) : Prop := s.rind.lifecycle ≤ 1 → s.rind.sealCount = 0

theorem freshUncounted_restsOn : RestsOn [.rind] FreshUncounted where
  of s t hsame h := by
    have hrind : t.rind = s.rind := hsame .rind (by decide)
    rwa [FreshUncounted, hrind]

theorem Holds.fresh_only {ps : List Part} (h : Holds FreshUncounted t) (k : Only ps t u) (hps : apart ps [.rind] = true) :
    Holds FreshUncounted u := h.only freshUncounted_restsOn k hps

theorem Holds.fresh_modRind {f : Rind → Rind} (h : Holds FreshUncounted t)
    (hf : ((f t.rind).lifecycle, (f t.rind).sealCount) = (t.rind.lifecycle, t.rind.sealCount)) : Holds FreshUncounted (t.modRind f) := by
  obtain ⟨hlife, hseal⟩ := Prod.mk.inj hf
  exact ⟨fun hfresh => hseal.trans (h.of (hlife ▸ hfresh))⟩

/-- From FIELD on nothing is asked of the seal count. -/
theorem Holds.fresh_of_field (h : 2 ≤ t.rind.lifecycle) : Holds FreshUncounted t := ⟨fun hfresh => by omega⟩

theorem Holds.fresh_answer {r : Req} {code : Nat} {ws : List Word} (h : Holds FreshUncounted t) :
    Holds FreshUncounted (t.answer r code ws) := h.fresh_only (State.answer_only ..) rfl

theorem Holds.fresh_sealBreak (h : Holds FreshUncounted t) : Holds FreshUncounted t.sealBreak := by
  by_cases hfield : t.rind.lifecycle = 2
  · exact .fresh_of_field (by rw [State.sealBreak_lifecycle, if_pos hfield]; omega)
  · rw [State.sealBreak, if_pos hfield]
    exact h

theorem Holds.fresh_batteryStart (h : Holds FreshUncounted t) : Holds FreshUncounted t.batteryStart := by
  unfold State.batteryStart
  extract_lets s1
  have h1 : Holds FreshUncounted s1 := h.fresh_modRind rfl
  exact .ite h (h1.fresh_only (State.auditRind_only ..) rfl).fresh_sealBreak

theorem Holds.fresh_rootLost (h : Holds FreshUncounted t) : Holds FreshUncounted t.rootLost := h.fresh_modRind rfl

theorem Holds.fresh_shipRestore (h : Holds FreshUncounted t) : Holds FreshUncounted t.shipRestore := by
  unfold State.shipRestore
  extract_lets x
  have hx : Holds FreshUncounted x := h.fresh_modRind rfl
  exact .ite (.ite (hx.fresh_rootLost.fresh_modRind rfl) hx) h

theorem Holds.fresh_zeroise (h : Holds FreshUncounted t) : Holds FreshUncounted t.zeroise :=
  ⟨by rw [FreshUncounted, State.zeroise_rind]; exact h.of⟩

theorem Holds.fresh_tamperEvent {i : Fin 5} (h : Holds FreshUncounted t) : Holds FreshUncounted (t.tamperEvent i) := by
  unfold State.tamperEvent
  extract_lets i6 s1 s2
  have h1 : Holds FreshUncounted s1 := h.fresh_modRind rfl
  have h2 : Holds FreshUncounted s2 := h1.fresh_only (State.auditRind_only ..) rfl
  exact .ite h (.ite h2 (.ite h2.fresh_rootLost h2.fresh_zeroise))

theorem Holds.fresh_tamperSample {i : Fin 5} {bad : Bool} (h : Holds FreshUncounted t) :
    Holds FreshUncounted (t.tamperSample i bad) := by
  unfold State.tamperSample
  extract_lets n s1
  have h1 : Holds FreshUncounted s1 := h.fresh_modRind rfl
  exact .ite (h.fresh_modRind rfl) (.ite h1.fresh_tamperEvent h1)

theorem Holds.fresh_legalRecover (h : Holds FreshUncounted t) : Holds FreshUncounted t.legalRecover := by
  unfold State.legalRecover
  extract_lets saves newestRtc metering early kind open_ prev s1 rec_ s2 s3 s4
  have h1 : Holds FreshUncounted s1 := h.fresh_only (State.modLegal_only ..) rfl
  have h2 : Holds FreshUncounted s2 := h1.each fun _ _ hu => hu.fresh_only (State.restorePort_only ..) rfl
  have h3 : Holds FreshUncounted s3 := .ite (h2.fresh_only (State.appendLegal_only ..) rfl) h2
  have h4 : Holds FreshUncounted s4 := .ite ((h3.fresh_only (State.appendLegal_only ..) rfl).fresh_modRind rfl) h3
  exact h4.foldl fun _ _ hu => hu.fresh_only (State.modInput_only ..) rfl

theorem Holds.fresh_tick (h : Holds FreshUncounted t) : Holds FreshUncounted t.tick := by
  unfold State.tick
  extract_lets s1 s2
  have h1 : Holds FreshUncounted s1 := h.fresh_modRind (by split <;> rfl)
  have h2 : Holds FreshUncounted s2 := h1.fresh_only (State.modTime_only ..) rfl
  exact .ite h1 (h2.fresh_only (State.tickChain_only ..) rfl |>.fresh_only (State.tickCounters_only ..) rfl)

theorem execLegalStartDone_fresh (verified candidate : Bool) (torn : Nat) (h : Holds FreshUncounted s) :
    HoldsRes FreshUncounted (execLegalStartDone verified candidate torn s) := by
  unfold execLegalStartDone
  extract_lets s1 s2 s3
  have h1 : Holds FreshUncounted s1 := h.fresh_only (State.reach_only ..) rfl
  have h2 : Holds FreshUncounted s2 := h1.fresh_only (State.modJnl_only ..) rfl |>.fresh_only (State.modLegal_only ..) rfl
  have h3 : Holds FreshUncounted s3 := h2.fresh_legalRecover.fresh_only (State.passTrial_only ..) rfl
    |>.fresh_only (State.modKeys_only ..) rfl
  exact .next (.ite h (.ite (h3.fresh_only (State.irqAll_only ..) rfl |>.fresh_only (State.reach_only ..) rfl)
    (h1.fresh_only (State.modLegal_only ..) rfl |>.fresh_only (State.voidLegal_only ..) rfl |>.fresh_only (State.reach_only ..) rfl)))

theorem execPorRelease_fresh (h : Holds FreshUncounted s) : HoldsRes FreshUncounted (execPorRelease s) := by
  unfold execPorRelease
  split
  · exact .next h
  · refine .next (Holds.fresh_only (Holds.fresh_batteryStart (Holds.fresh_shipRestore ?_)) (State.rootlessStart_only _) rfl)
    exact ⟨h.of⟩

theorem execSealLoopSample_fresh (x : LoopRead) (h : Holds FreshUncounted s) : HoldsRes FreshUncounted (execSealLoopSample x s) := by
  unfold execSealLoopSample
  extract_lets r against s1
  have h1 : Holds FreshUncounted s1 := h.fresh_modRind rfl
  exact .next (.ite (h.fresh_modRind rfl) (.ite (h.fresh_modRind rfl)
    (.ite ((h1.fresh_modRind rfl).fresh_only (State.bilUnitRaise_only ..) rfl) (.ite h1.fresh_sealBreak h1))))

/-- PROVISIONING leaves the factory without a seal counted. -/
theorem execProvisioning_fresh (h : Holds FreshUncounted s) : HoldsRes FreshUncounted (execProvisioning s) := by
  unfold execProvisioning
  extract_lets s1
  split
  case isTrue => exact .next h
  case isFalse hfactory =>
    have hseal : s.rind.sealCount = 0 := h.of (by omega)
    exact .next ⟨fun _ => hseal⟩

theorem execRenewRoot_fresh (r : Req) (h : Holds FreshUncounted s) : HoldsRes FreshUncounted (execRenewRoot r s) := by
  unfold execRenewRoot
  extract_lets end_ s1
  have hend {x : State} {code : Nat} (hx : Holds FreshUncounted x) : Holds FreshUncounted (end_ x code) :=
    hx.fresh_answer.fresh_only (State.auditCmd_only ..) rfl
  have h1 : Holds FreshUncounted s1 := (h.fresh_modRind rfl).fresh_only (State.useFree_only ..) rfl
  exact .next (.ite (hend h) (.ite (hend h) (.ite (hend h) (hend (h1.fresh_only (State.auditRind_only ..) rfl)))))

/-- RESEAL leads to FIELD. -/
theorem execReseal_fresh (r : Req) (h : Holds FreshUncounted s) : HoldsRes FreshUncounted (execReseal r s) := by
  refine .next (.ite h.fresh_answer (.ite h.fresh_answer ?_))
  beta_reduce
  extract_lets ring s2 q x s3 s4
  have h2 : Holds FreshUncounted s2 := h.fresh_only (State.modLegal_only ..) rfl
  refine .ite h2.fresh_answer (.ite (h2.fresh_only (State.endRing_only ..) rfl) ?_)
  split
  · exact h2.fresh_answer
  · exact .fresh_of_field (by simp [s4])

/-- RETIRE_DEVICE leads to RETIRED. -/
theorem execRetireDevice_fresh (r : Req) (h : Holds FreshUncounted s) : HoldsRes FreshUncounted (execRetireDevice r s) := by
  unfold execRetireDevice
  extract_lets end_ s1 s2
  have hend {x : State} {code : Nat} (hx : Holds FreshUncounted x) : Holds FreshUncounted (end_ x code) :=
    hx.fresh_answer.fresh_only (State.auditCmd_only ..) rfl
  exact .next (.ite (hend h) (.ite (hend h) (.ite (hend h) (hend (.fresh_of_field (by simp [s2, s1]))))))

/-- A command keeps the seal count of a device before FIELD at 0. The commands that write Rind are named; the others leave it. -/
theorem exec_fresh (c : Instr) (h : Holds FreshUncounted s) : HoldsRes FreshUncounted (exec c s) := by
  cases c
  case setRtcAlarm => exact .next (.ite h.fresh_answer (h.fresh_modRind rfl).fresh_answer)
  case renewRoot => exact execRenewRoot_fresh _ h
  case legalStartDone => exact execLegalStartDone_fresh _ _ _ h
  case tamperEvent => exact .next h.fresh_tamperEvent
  case tamperSensorSample =>
    exact .next (.ite h (h.fresh_modRind rfl).fresh_tamperSample.fresh_tamperSample.fresh_tamperSample)
  case batteryLoss => exact .next (.ite h (h.fresh_modRind rfl))
  case vbatLow => exact .next ((h.fresh_modRind rfl).fresh_only (State.keyRaise_only ..) rfl)
  case vbatRestored => exact .next (h.fresh_modRind rfl)
  case provisioning => exact execProvisioning_fresh h
  case finalTest => exact .next (.ite h ⟨fun _ => rfl⟩)
  case sealLoopSample => exact execSealLoopSample_fresh _ h
  case reseal => exact execReseal_fresh _ h
  case retireDevice => exact execRetireDevice_fresh _ h
  case porRelease => exact execPorRelease_fresh h
  all_goals exact (exec_only _ s).holds h freshUncounted_restsOn rfl

/-! ### The audit logs -/

/-- The logs of the vault and of Rind are no longer than they may be (R501, R518). -/
def LogsFit (s : State) : Prop := s.keys.rindLog.length ≤ 16 ∧ s.keys.log.length ≤ 1024

theorem logsFit_restsOn : RestsOn [.keys] LogsFit where
  of s t hsame h := by
    have hkeys : t.keys = s.keys := hsame .keys (by decide)
    rwa [LogsFit, hkeys]

theorem Holds.logs_only {ps : List Part} (h : Holds LogsFit t) (k : Only ps t u) (hps : apart ps [.keys] = true) : Holds LogsFit u :=
  h.only logsFit_restsOn k hps

theorem Holds.logs_modKeys {f : Keys → Keys} (h : Holds LogsFit t)
    (hf : ((f t.keys).rindLog, (f t.keys).log) = (t.keys.rindLog, t.keys.log)) : Holds LogsFit (t.modKeys f) := by
  obtain ⟨hrind, hlog⟩ := Prod.mk.inj hf
  refine ⟨?_, ?_⟩
  · rw [State.modKeys_keys, hrind]
    exact h.of.1
  · rw [State.modKeys_keys, hlog]
    exact h.of.2

theorem Holds.logs_answer {r : Req} {code : Nat} {ws : List Word} (h : Holds LogsFit t) : Holds LogsFit (t.answer r code ws) :=
  h.logs_only (State.answer_only ..) rfl

/-- A new entry pushes out the oldest of a full log (R518). -/
theorem Holds.logs_audit {a : Audit} (h : Holds LogsFit t) : Holds LogsFit (t.audit a) := by
  refine ⟨?_, List.length_take_le ..⟩
  rw [State.audit, State.modKeys_keys]
  split
  · exact List.length_take_le ..
  · exact h.of.1

theorem Holds.logs_auditRind {kind reason : Nat} (h : Holds LogsFit t) : Holds LogsFit (t.auditRind kind reason) := h.logs_audit
theorem Holds.logs_auditCmd {r : Req} {slot result reason : Nat} (h : Holds LogsFit t) :
    Holds LogsFit (t.auditCmd r slot result reason) := h.logs_audit
theorem Holds.logs_keyRaise {bits : Word} (h : Holds LogsFit t) : Holds LogsFit (t.keyRaise bits) := h.logs_modKeys rfl
theorem Holds.logs_clearVault (h : Holds LogsFit t) : Holds LogsFit t.clearVault := h.logs_modKeys rfl
theorem Holds.logs_setKeySes {g : Guest} {n : Fin 8} {x : Option KSes} (h : Holds LogsFit t) : Holds LogsFit (t.setKeySes g n x) :=
  h.logs_modKeys rfl
theorem Holds.logs_dropSlot {n : Nat} (h : Holds LogsFit t) : Holds LogsFit (t.dropSlot n) := h.logs_modKeys rfl
theorem Holds.logs_putSlot {n : Nat} {k : Slot} (h : Holds LogsFit t) : Holds LogsFit (t.putSlot n k) := h.logs_modKeys rfl
theorem Holds.logs_vault {o : VaultOp} (h : Holds LogsFit t) : Holds LogsFit (t.vault o) := h.logs_modKeys rfl
theorem Holds.logs_vaultDone {r : Req} {slot : Nat} {ws : List Word} (h : Holds LogsFit t) : Holds LogsFit (t.vaultDone r slot ws) :=
  h.logs_vault
theorem Holds.logs_vaultRefuse {r : Req} {slot reason : Nat} (h : Holds LogsFit t) : Holds LogsFit (t.vaultRefuse r slot reason) :=
  h.logs_vault
theorem Holds.logs_vaultRing {r : Req} {slot ring : Nat} {data : List Byte} {ws : List Word} (h : Holds LogsFit t) :
    Holds LogsFit (t.vaultRing r slot ring data ws) := h.logs_vault
theorem Holds.logs_useRing {d : Req} {ring code : Nat} (h : Holds LogsFit t) : Holds LogsFit (t.useRing d ring code) :=
  h.logs_only (State.useRing_only ..) rfl

theorem Holds.logs_zeroise (h : Holds LogsFit t) : Holds LogsFit t.zeroise :=
  (((h.logs_only (State.rootLost_only ..) rfl).logs_clearVault.logs_only (State.dropTls_only ..) rfl).logs_keyRaise.logs_only
    (State.voidLegal_only ..) rfl).logs_only (State.tagZeroise_only ..) rfl

theorem Holds.logs_tamperEvent {i : Fin 5} (h : Holds LogsFit t) : Holds LogsFit (t.tamperEvent i) := by
  unfold State.tamperEvent
  extract_lets i6 s1 s2
  have h1 : Holds LogsFit s1 := h.logs_only (State.modRind_only ..) rfl
  have h2 : Holds LogsFit s2 := h1.logs_auditRind
  exact .ite h (.ite h2 (.ite (h2.logs_only (State.rootLost_only ..) rfl) h2.logs_zeroise))

theorem Holds.logs_tamperSample {i : Fin 5} {bad : Bool} (h : Holds LogsFit t) : Holds LogsFit (t.tamperSample i bad) := by
  unfold State.tamperSample
  extract_lets n s1
  have h1 : Holds LogsFit s1 := h.logs_only (State.modRind_only ..) rfl
  exact .ite (h.logs_only (State.modRind_only ..) rfl) (.ite h1.logs_tamperEvent h1)

theorem Holds.logs_sealBreak (h : Holds LogsFit t) : Holds LogsFit t.sealBreak := by
  unfold State.sealBreak
  extract_lets s1 s2
  have h1 : Holds LogsFit s1 := h.logs_only (State.modRind_only ..) rfl
  have h2 : Holds LogsFit s2 := .ite (h1.logs_only (State.appendLegal_only ..) rfl) (h1.logs_only (State.modRind_only ..) rfl)
  exact .ite h (h2.logs_auditRind.logs_keyRaise.logs_only (State.bilUnitRaise_only ..) rfl |>.logs_only (State.irqAll_only ..) rfl
    |>.logs_only (State.holdStop_only ..) rfl)

theorem Holds.logs_batteryStart (h : Holds LogsFit t) : Holds LogsFit t.batteryStart := by
  unfold State.batteryStart
  extract_lets s1
  have h1 : Holds LogsFit s1 := h.logs_only (State.modRind_only ..) rfl
  exact .ite h h1.logs_auditRind.logs_sealBreak

theorem Holds.logs_rootlessStart (h : Holds LogsFit t) : Holds LogsFit t.rootlessStart :=
  .ite h (h.logs_clearVault.logs_only (State.tagZeroise_only ..) rfl)

/-- A chip reset empties the vault's log and leaves Rind's (R518). -/
theorem Holds.logs_chipReset {cause : Nat} (h : Holds LogsFit t) : Holds LogsFit (t.chipReset cause) := by
  unfold State.chipReset
  extract_lets cleared time conf s1 s2
  have h1 : Holds LogsFit s1 := ⟨h.of.1, Nat.zero_le _⟩
  have h2 : Holds LogsFit s2 := h1.logs_only (afterChipReset_only _) rfl
  exact .ite h (.ite (h2.logs_only (State.revert_only _) rfl) h2)

theorem Holds.logs_clearEvents {g : Guest} (h : Holds LogsFit t) : Holds LogsFit (t.clearEvents g) := by
  unfold State.clearEvents
  extract_lets s1 s2 s3
  have h1 : Holds LogsFit s1 := h.each fun _ _ hu => hu.logs_only (State.modVeh_only ..) rfl
    |>.logs_only (State.modSes_only ..) rfl |>.logs_only (State.modPwr_only ..) rfl |>.logs_only (State.modMet_only ..) rfl
    |>.logs_only (State.modNrg_only ..) rfl |>.logs_only (State.modBil_only ..) rfl |>.logs_only (State.modPq_only ..) rfl
    |>.logs_only (State.modSp_only ..) rfl
  have h2 : Holds LogsFit s2 := h1.logs_only (State.modLegal_only ..) rfl |>.logs_only (State.modSaf_only ..) rfl
    |>.logs_only (State.modLs_only ..) rfl |>.logs_only (State.modChn_only ..) rfl
  have h3 : Holds LogsFit s3 := (h2.logs_only (State.modMsh_only ..) rfl |>.logs_only (State.modJnl_only ..) rfl
    |>.logs_only (State.modCave_only ..) rfl).logs_modKeys rfl
  exact h3.logs_only (State.modFw_only ..) rfl |>.logs_only (State.modNfc_only ..) rfl |>.logs_only (State.modDsp_only ..) rfl

theorem Holds.logs_dropLeases {g : Guest} (h : Holds LogsFit t) : Holds LogsFit (t.dropLeases g) := by
  unfold State.dropLeases
  extract_lets +onlyGivenNames s1 s2 s3 s4
  have h1 : Holds LogsFit s1 := by
    refine h.each fun p x hu => ?_
    extract_lets x1
    have hx : Holds LogsFit x1 := .ite (hu.logs_only (State.endClaim_only ..) rfl) hu
    split
    · exact .ite (hx.logs_only (State.modSes_only ..) rfl) hx
    · exact hx
  clear_value s1
  have h2 : Holds LogsFit s2 := h1.logs_modKeys rfl
  have h3 : Holds LogsFit s3 := h2.each fun _ _ hu => .ite (hu.logs_only (State.stgCancel_only ..) rfl) hu
  have h4 : Holds LogsFit s4 := .ite (h3.logs_only (State.releaseHeld_only ..) rfl) h3
  exact h4.logs_only (State.setOpen_only ..) rfl

theorem Holds.logs_activated (h : Holds LogsFit t) : Holds LogsFit t.activated := h.logs_only (State.activated_only ..) rfl

theorem Holds.logs_safetyProven (h : Holds LogsFit t) : Holds LogsFit t.safetyProven := by
  unfold State.safetyProven
  extract_lets s1
  have h1 : Holds LogsFit s1 := (h.logs_modKeys rfl).logs_only (State.passTrial_only ..) rfl
  exact .ite h1.logs_activated h1

theorem Holds.logs_swapLegal (h : Holds LogsFit t) : Holds LogsFit t.swapLegal := by
  unfold State.swapLegal
  extract_lets old x
  have hx : Holds LogsFit x := (h.logs_only (State.switchBank_only ..) rfl |>.logs_only (State.modFw_only ..) rfl).logs_modKeys rfl
  exact .ite (hx.logs_only (State.modLegal_only ..) rfl) (hx.logs_only (State.passTrial_only ..) rfl)

/-! ### The audit logs: commands -/

theorem execGuestReset_logs (g : Guest) (h : Holds LogsFit s) : HoldsRes LogsFit (execGuestReset g s) := by
  unfold execGuestReset
  extract_lets cmds s1 s2 s3
  have h1 : Holds LogsFit s1 := h.each fun _ _ hu => .ite hu (hu.logs_only (State.withdrawFrom_only ..) rfl)
  have h2 : Holds LogsFit s2 := (h1.logs_only (State.abortTo_only ..) rfl |>.logs_only (State.dropAdmitted_only ..) rfl).logs_dropLeases
  have h3 : Holds LogsFit s3 := (h2.logs_only (State.modGuest_only ..) rfl).logs_clearEvents
  exact .next (.ite h (h3.foldl fun _ _ hu => hu.logs_answer))

theorem execServiceImageStart_logs (verified : Bool) (h : Holds LogsFit s) : HoldsRes LogsFit (execServiceImageStart verified s) := by
  unfold execServiceImageStart
  extract_lets x
  have hx : Holds LogsFit x := (h.logs_only (State.modFw_only ..) rfl).logs_chipReset
  have hrom {u : State} (hu : Holds LogsFit u) : Holds LogsFit u.enterRom := hu.logs_only (State.enterRom_only ..) rfl
  exact .next (.ite h (.ite (hrom h) (.ite
    (((h.logs_only (State.modFw_only ..) rfl |>.logs_only (State.modSys_only ..) rfl |>.logs_only (State.modHost_only ..) rfl)
      |>.logs_modKeys rfl).logs_only (State.reach_only ..) rfl)
    (.ite (hrom hx) hx))))

theorem execPorRelease_logs (h : Holds LogsFit s) : HoldsRes LogsFit (execPorRelease s) := by
  unfold execPorRelease
  split
  · exact .next h
  · refine .next (Holds.logs_rootlessStart (Holds.logs_batteryStart (Holds.logs_only ?_ (State.shipRestore_only _) rfl)))
    exact ⟨h.of.1, Nat.zero_le _⟩

theorem execLegalStartDone_logs (verified candidate : Bool) (torn : Nat) (h : Holds LogsFit s) :
    HoldsRes LogsFit (execLegalStartDone verified candidate torn s) := by
  unfold execLegalStartDone
  extract_lets s1 s2 s3
  have h1 : Holds LogsFit s1 := h.logs_only (State.reach_only ..) rfl
  have h2 : Holds LogsFit s2 := h1.logs_only (State.modJnl_only ..) rfl |>.logs_only (State.modLegal_only ..) rfl
  have h3 : Holds LogsFit s3 := (h2.logs_only (State.legalRecover_only ..) rfl |>.logs_only (State.passTrial_only ..) rfl).logs_modKeys rfl
  exact .next (.ite h (.ite (h3.logs_only (State.irqAll_only ..) rfl |>.logs_only (State.reach_only ..) rfl)
    (h1.logs_only (State.modLegal_only ..) rfl |>.logs_only (State.voidLegal_only ..) rfl |>.logs_only (State.reach_only ..) rfl)))

theorem execSafetyInitDone_logs (outcome : InitOutcome) (h : Holds LogsFit s) : HoldsRes LogsFit (execSafetyInitDone outcome s) := by
  unfold execSafetyInitDone
  split
  · exact .next h
  · extract_lets s1 failed s2
    have h1 : Holds LogsFit s1 := h.logs_only (State.reach_only ..) rfl |>.logs_only (State.reach_only ..) rfl
      |>.logs_only (State.reach_only ..) rfl |>.logs_only (State.modSaf_only ..) rfl
    have hunproven : Holds LogsFit s1.safetyUnproven := h1.logs_only (State.safetyUnproven_only ..) rfl
    have hfailed {off : Nat} : Holds LogsFit (failed off) := hunproven.logs_only (State.modSaf_only ..) rfl
      |>.logs_only (State.siteTo_only ..) rfl
    have h2 : Holds LogsFit s2 := (h1.logs_only (State.modSys_only ..) rfl).logs_safetyProven.logs_only (State.siteTo_only ..) rfl
    refine .next ?_
    split
    · exact hunproven.logs_only (State.execFault_only ..) rfl
    · exact hfailed
    · exact hfailed
    · exact hunproven.logs_only (State.diagFault_only ..) rfl
    · exact h2.each fun _ _ hu => hu.logs_only (State.checkBlocked_only ..) rfl

theorem execActivationTime_logs (intact : Bool) (h : Holds LogsFit s) : HoldsRes LogsFit (execActivationTime intact s) := by
  have hend {code : Nat} : Holds LogsFit (s.actEnd code) := h.logs_only (State.actEnd_only ..) rfl
  refine .next (.ite h (.ite hend (.ite hend (.ite hend ?_))))
  split
  · exact h.logs_only (State.modAct_only ..) rfl
  · exact .ite h h.logs_swapLegal.logs_activated
  · exact .ite (h.logs_only (State.switchBank_only ..) rfl).logs_activated
      (h.logs_only (State.modAct_only ..) rfl |>.logs_only (State.switchBank_only ..) rfl |>.logs_only (State.siteTo_only ..) rfl)

theorem execServiceSwapDone_logs (h : Holds LogsFit s) : HoldsRes LogsFit (execServiceSwapDone s) := by
  unfold execServiceSwapDone
  extract_lets x
  have hx : Holds LogsFit x := h.logs_only (State.switchBank_only ..) rfl
  exact .next (.ite (hx.logs_modKeys rfl).logs_activated h)

theorem execDozeWake_logs (src : Fin 6) (h : Holds LogsFit s) : HoldsRes LogsFit (execDozeWake src s) := by
  unfold execDozeWake
  extract_lets s1 s2 s3 s4
  have h1 : Holds LogsFit s1 := h.logs_only (State.modSys_only ..) rfl |>.logs_only (State.modSleep_only ..) rfl
  have h2 : Holds LogsFit s2 := (h1.logs_only (State.modCave_only ..) rfl |>.logs_only (State.modMsh_only ..) rfl
    |>.logs_only (State.modHost_only ..) rfl).logs_modKeys rfl
  have h3 : Holds LogsFit s3 := h2.each fun l u hu => by
    split
    · exact hu.logs_only (State.endAbsence_only ..) rfl
    · exact hu
  have h4 : Holds LogsFit s4 := .ite (h3.logs_only (State.originate_only ..) rfl) h3
  exact .next (.ite h (h4.logs_only (State.readSafety_only ..) rfl |>.logs_only (State.sysChanged_only ..) rfl))

theorem execReseal_logs (r : Req) (h : Holds LogsFit s) : HoldsRes LogsFit (execReseal r s) := by
  refine .next (.ite h.logs_answer (.ite h.logs_answer ?_))
  beta_reduce
  extract_lets ring s2 q x s3 s4
  have h2 : Holds LogsFit s2 := h.logs_only (State.modLegal_only ..) rfl
  refine .ite h2.logs_answer (.ite (h2.logs_only (State.endRing_only ..) rfl) ?_)
  split
  · exact h2.logs_answer
  · have h3 : Holds LogsFit s3 := h2.logs_useRing.each fun _ _ hu => hu.logs_only (State.modBil_only ..) rfl
    have h4 : Holds LogsFit s4 := h3.logs_only (State.modRind_only ..) rfl
    exact ((h4.logs_only (State.appendLegal_only ..) rfl).logs_auditRind.logs_keyRaise.logs_only (State.bilUnitRaise_only ..) rfl
      |>.logs_only (State.irqAll_only ..) rfl).logs_answer

theorem execSealLoopSample_logs (x : LoopRead) (h : Holds LogsFit s) : HoldsRes LogsFit (execSealLoopSample x s) := by
  have hmod {u : State} {f : Rind → Rind} (hu : Holds LogsFit u) : Holds LogsFit (u.modRind f) := hu.logs_only (State.modRind_only ..) rfl
  unfold execSealLoopSample
  extract_lets r against s1
  have h1 : Holds LogsFit s1 := hmod h
  exact .next (.ite (hmod h) (.ite (hmod h)
    (.ite ((hmod h1).logs_only (State.bilUnitRaise_only ..) rfl) (.ite h1.logs_sealBreak h1))))

theorem execRenewRoot_logs (r : Req) (h : Holds LogsFit s) : HoldsRes LogsFit (execRenewRoot r s) := by
  unfold execRenewRoot
  extract_lets end_ s1
  have hend {x : State} {code : Nat} (hx : Holds LogsFit x) : Holds LogsFit (end_ x code) := hx.logs_answer.logs_auditCmd
  have h1 : Holds LogsFit s1 := h.logs_only (State.modRind_only ..) rfl |>.logs_only (State.useFree_only ..) rfl
  exact .next (.ite (hend h) (.ite (hend h) (.ite (hend h) (hend h1.logs_auditRind))))

/-- RETIRE_DEVICE empties Rind's log (R507). -/
theorem execRetireDevice_logs (r : Req) (h : Holds LogsFit s) : HoldsRes LogsFit (execRetireDevice r s) := by
  unfold execRetireDevice
  extract_lets end_ s1 s2
  have hend {x : State} {code : Nat} (hx : Holds LogsFit x) : Holds LogsFit (end_ x code) := hx.logs_answer.logs_auditCmd
  have hempty : Holds LogsFit (s1.clearVault.modKeys fun k => { k with slots := [], rindLog := [] }) := ⟨Nat.zero_le _, h.of.2⟩
  have h2 : Holds LogsFit s2 := hempty.logs_only (State.dropTls_only ..) rfl
  exact .next (.ite (hend h) (.ite (hend h) (.ite (hend h) (hend
    (h2.logs_keyRaise.logs_only (State.voidLegal_only ..) rfl |>.logs_only (State.tagZeroise_only ..) rfl).logs_auditRind))))

theorem execProvisioning_logs (h : Holds LogsFit s) : HoldsRes LogsFit (execProvisioning s) := by
  unfold execProvisioning
  extract_lets s1
  have h1 : Holds LogsFit s1 := h.logs_only (State.modRind_only ..) rfl |>.logs_only (State.useFree_only ..) rfl
  exact .next (.ite h (h1.logs_modKeys rfl).logs_auditRind.logs_keyRaise)

/-! ### The audit logs: commands of the vault -/

theorem execVaultFixedTime_logs (g : Guest) (h : Holds LogsFit s) : HoldsRes LogsFit (execVaultFixedTime g s) := by
  refine .next ?_
  split
  · exact h
  · extract_lets s1 q ok
    have h1 : Holds LogsFit s1 := h.logs_modKeys rfl
    exact .ite (h1.logs_only (State.answerRing_only ..) rfl).logs_auditCmd h1.logs_answer.logs_auditCmd

theorem execGetSlotInfo_logs (r : Req) (h : Holds LogsFit s) : HoldsRes LogsFit (execGetSlotInfo r s) := by
  refine .next ?_
  split
  · exact h.logs_vaultRefuse
  · exact h.logs_vaultRefuse
  · exact .ite h.logs_vaultDone h.logs_vaultRefuse

theorem execGetPublicKey_logs (r : Req) (h : Holds LogsFit s) : HoldsRes LogsFit (execGetPublicKey r s) := by
  refine .next ?_
  split
  · exact h.logs_vaultRefuse
  · exact .ite h.logs_vaultRing h.logs_vaultRefuse

theorem execGetAttestation_logs (r : Req) (h : Holds LogsFit s) : HoldsRes LogsFit (execGetAttestation r s) := by
  refine .next ?_
  split
  · exact h.logs_vaultRefuse
  · exact h.logs_vaultRing

theorem execGenerateKey_logs (r : Req) (h : Holds LogsFit s) : HoldsRes LogsFit (execGenerateKey r s) := by
  refine .next ?_
  split
  · exact h.logs_vaultRefuse
  · exact .ite h.logs_vaultRefuse (.ite h.logs_vaultRefuse (.ite h.logs_vaultRefuse
      (h.logs_putSlot.logs_only (State.useFree_only ..) rfl).logs_vaultDone))

theorem execImportKey_logs (r : Req) (h : Holds LogsFit s) : HoldsRes LogsFit (execImportKey r s) := by
  have hrefuse {slot reason : Nat} : Holds LogsFit (s.vaultRefuse r slot reason) := h.logs_vaultRefuse
  have hput {d : Req} {ring code n : Nat} {k : Slot} : Holds LogsFit (((s.useRing d ring code).putSlot n k).vaultDone r n []) :=
    h.logs_useRing.logs_putSlot.logs_vaultDone
  refine .next ?_
  split
  · exact hrefuse
  · refine .ite h.logs_useRing.logs_vault (.ite (.ite hrefuse (.ite hrefuse (.ite hrefuse (.ite hrefuse hput))))
      (.ite hrefuse (.ite hrefuse (.ite (.ite hput hrefuse) ?_))))
    split
    · exact hrefuse
    · split
      · exact hrefuse
      · exact hput

theorem execExportKey_logs (r : Req) (h : Holds LogsFit s) : HoldsRes LogsFit (execExportKey r s) := by
  refine .next ?_
  split
  · exact h.logs_vaultRefuse
  · refine .ite h.logs_vaultRefuse (.ite (.ite h.logs_vaultRing h.logs_vaultRefuse) ?_)
    split
    · exact h.logs_vaultRefuse
    · exact (h.logs_only (State.useFree_only ..) rfl).logs_vaultRing

theorem execDeleteKey_logs (r : Req) (h : Holds LogsFit s) : HoldsRes LogsFit (execDeleteKey r s) := by
  refine .next ?_
  split
  · exact h.logs_vaultRefuse
  · exact h.logs_vaultRefuse
  · exact .ite h.logs_vaultRefuse h.logs_dropSlot.logs_vaultDone

theorem execSignDigest_logs (r : Req) (h : Holds LogsFit s) : HoldsRes LogsFit (execSignDigest r s) := by
  refine .next (.ite ?_ ?_)
  · split
    · exact h.logs_vaultRefuse
    · exact h.logs_vaultRefuse
    · exact .ite h.logs_vaultRing h.logs_vaultRefuse
  · split
    · exact h.logs_vaultRefuse
    · exact .ite h.logs_vaultRing h.logs_vaultRefuse

theorem execVerifySignature_logs (r : Req) (h : Holds LogsFit s) : HoldsRes LogsFit (execVerifySignature r s) := by
  refine .next ?_
  split
  · exact h.logs_vaultRefuse
  · exact .ite h.logs_useRing.logs_vault h.logs_useRing.logs_vaultDone

theorem execOpenKeySession_logs (r : Req) (h : Holds LogsFit s) : HoldsRes LogsFit (execOpenKeySession r s) := by
  refine .next ?_
  split
  · exact h.logs_vaultRefuse
  · refine .ite h.logs_vaultRefuse ?_
    split
    · exact h.logs_vaultRefuse
    · exact h.logs_setKeySes.logs_vaultDone

theorem execCloseKeySession_logs (r : Req) (h : Holds LogsFit s) : HoldsRes LogsFit (execCloseKeySession r s) := by
  refine .next ?_
  split
  · exact h.logs_vaultRefuse
  · exact h.logs_vaultRefuse
  · exact h.logs_setKeySes.logs_vaultDone

theorem execSetTagSecrets_logs (r : Req) (h : Holds LogsFit s) : HoldsRes LogsFit (execSetTagSecrets r s) := by
  unfold execSetTagSecrets
  extract_lets setPw setKey pwLen a b ring q s0 key salt s1 s2
  have h0 : Holds LogsFit s0 := .ite h.logs_useRing h
  have h1 : Holds LogsFit s1 := .ite (h0.logs_only (State.modFree_only ..) rfl |>.logs_only (State.modTag_only ..) rfl) h0
  have h2 : Holds LogsFit s2 := by
    unfold s2
    clear_value setKey key
    split
    · exact h1.logs_putSlot.logs_only (State.modTag_only ..) rfl
    · exact h1
  exact .next (.ite h.logs_answer (.ite h.logs_answer (.ite h.logs_answer (.ite (h.logs_only (State.endRing_only ..) rfl)
    (.ite h.logs_answer h2.logs_answer)))))

/-! ### The audit logs: every command -/

/-- A command keeps the audit logs within their lengths. The commands that write the vault are named; the others leave it. -/
theorem exec_logs (c : Instr) (h : Holds LogsFit s) : HoldsRes LogsFit (exec c s) := by
  cases c
  case activationTime => exact execActivationTime_logs _ h
  case chipReset => exact .next h.logs_chipReset
  case serviceWatchdogExpiry => exact .next h.logs_chipReset
  case eccUncorrectable => exact .next h.logs_chipReset
  case clockDeviation =>
    exact .next (.ite h (.ite ((h.logs_only (State.modSys_only ..) rfl).logs_only (State.enterRom_only ..) rfl) h.logs_chipReset))
  case resetChip => exact .next (.ite h.logs_answer (.ite h.logs_answer h.logs_chipReset))
  case serviceImageStart => exact execServiceImageStart_logs _ h
  case guestReset => exact execGuestReset_logs _ h
  case porRelease => exact execPorRelease_logs h
  case legalStartDone => exact execLegalStartDone_logs _ _ _ h
  case safetyInitDone => exact execSafetyInitDone_logs _ h
  case serviceSwapDone => exact execServiceSwapDone_logs h
  case dozeWake => exact execDozeWake_logs _ h
  case reseal => exact execReseal_logs _ h
  case sealLoopSample => exact execSealLoopSample_logs _ h
  case renewRoot => exact execRenewRoot_logs _ h
  case retireDevice => exact execRetireDevice_logs _ h
  case provisioning => exact execProvisioning_logs h
  case finalTest => exact .next (.ite h (h.logs_only (State.modRind_only ..) rfl).logs_auditRind.logs_keyRaise)
  case tamperEvent => exact .next h.logs_tamperEvent
  case tamperSensorSample =>
    exact .next (.ite h (h.logs_only (State.modRind_only ..) rfl).logs_tamperSample.logs_tamperSample.logs_tamperSample)
  case vbatLow => exact .next (h.logs_only (State.modRind_only ..) rfl).logs_keyRaise
  case rtcAlarmExpiry => exact .next (.ite (h.logs_keyRaise.logs_only (State.wakeEvent_only ..) rfl) h)
  case keyEventRead => exact .next (h.readEvent logsFit_restsOn rfl fun _ hu => hu.logs_modKeys rfl)
  case keySessionIdleExpiry => exact .next (.ite (h.logs_setKeySes.logs_modKeys rfl) h)
  case vaultFixedTime => exact execVaultFixedTime_logs _ h
  case getSlotInfo => exact execGetSlotInfo_logs _ h
  case getPublicKey => exact execGetPublicKey_logs _ h
  case getAttestation => exact execGetAttestation_logs _ h
  case generateKey => exact execGenerateKey_logs _ h
  case importKey => exact execImportKey_logs _ h
  case exportKey => exact execExportKey_logs _ h
  case deleteKey => exact execDeleteKey_logs _ h
  case signDigest => exact execSignDigest_logs _ h
  case verifySignature => exact execVerifySignature_logs _ h
  case openKeySession => exact execOpenKeySession_logs _ h
  case closeKeySession => exact execCloseKeySession_logs _ h
  case setTagSecrets => exact execSetTagSecrets_logs _ h
  all_goals exact (exec_only _ s).holds h logsFit_restsOn rfl

/-! ### The display's memories -/

/-- The displayed frame and the overdrive are canonical. -/
def CellsCanonical (s : State) : Prop := cellsWf s.dsp.frame = true ∧ cellsWf s.dsp.boost = true

/-- A fold that writes a pixel or none at each turn keeps the canonical form. -/
theorem foldl_cellsWf {α : Type} {f : List (Nat × Byte) → α → List (Nat × Byte)} (hf : ∀ m a, cellsWf m = true → cellsWf (f m a) = true)
    (l : List α) {m : List (Nat × Byte)} (wf : cellsWf m = true) : cellsWf (l.foldl f m) = true := by
  induction l generalizing m with
  | nil => exact wf
  | cons a l ih => exact ih (hf m a wf)

theorem State.takeGeometry_frame_wf (wf : cellsWf s.dsp.frame = true) : cellsWf s.takeGeometry.dsp.frame = true := by
  unfold State.takeGeometry
  extract_lets c resized n fresh x
  have hfresh : cellsWf fresh = true := cellPuts_wf id _ (List.range n) [] rfl
  have hx : cellsWf x.dsp.frame = true := by
    show cellsWf (if resized then fresh else s.dsp.frame) = true
    split <;> assumption
  split
  · exact wf
  · split <;> exact hx

theorem execFrameBoundary_boost_wf (hexec : execFrameBoundary s = .next t) : cellsWf t.dsp.boost = true := by
  unfold execFrameBoundary at hexec
  extract_lets s0 d rects cells frame boost s1 at hexec
  have hboost : cellsWf boost = true := by
    unfold boost
    split
    · refine foldl_cellsWf (fun m c wf => ?_) cells rfl
      extract_lets a b
      split
      · exact wf
      · exact cellPut_wf m _ _ wf
    · rfl
  cases hexec
  split <;> exact hboost

theorem execPorRelease_cells (h : CellsCanonical s) (hexec : execPorRelease s = .next t) : CellsCanonical t := by
  unfold execPorRelease at hexec
  split at hexec
  · cases hexec
    exact h
  · have hdsp (u : State) : u.shipRestore.batteryStart.rootlessStart.dsp = u.dsp := (startOfRind_only u).same .dsp (by decide)
    extract_lets at hexec
    cases hexec
    rw [CellsCanonical, hdsp]
    exact ⟨rfl, rfl⟩

theorem exec_cellsCanonical (c : Instr) (h : CellsCanonical s) (hexec : exec c s = .next t) : CellsCanonical t := by
  by_cases hboundary : c = .frameBoundary
  · subst hboundary
    refine ⟨?_, execFrameBoundary_boost_wf hexec⟩
    rw [execFrameBoundary_frame hexec]
    exact cellsWf_cellPuts (State.takeGeometry_frame_wf h.1) _
  by_cases hrelease : c = .porRelease
  · subst hrelease
    exact execPorRelease_cells h hexec
  obtain ⟨hframe, hboost⟩ := (exec_cells c hboundary hrelease (⟨⟨rfl, rfl⟩⟩ : Holds (CellsAre s.dsp.frame s.dsp.boost) s)).of t hexec
  rw [CellsCanonical, hframe, hboost]
  exact h

/-! ### Every step -/

/-- Settles O6, from what every command keeps of the display, of Rind and of the vault. -/
theorem stepsKeepTheInvariant : Obligations.StepsKeepTheInvariant := by
  intro s t hinv hstep
  have hcounts := ((step_rises s hinv.fresh).rises t hstep).rind
  have hlife : t.rind.lifecycle ≤ 4 := by
    have hold := hinv.lifecycle
    rcases lifeCycleMoves s t hstep with h | ⟨-, h, -⟩ | ⟨-, h, -⟩ | ⟨-, h, -⟩ | ⟨-, h, -⟩ | ⟨-, h, -⟩ | ⟨-, h, -⟩ <;> omega
  obtain ⟨⟨hframe, hboost⟩, hfresh, hrindLog, hlog⟩ : CellsCanonical t ∧ FreshUncounted t ∧ LogsFit t := by
    unfold step at hstep
    split at hstep
    · next c rest _ =>
      let u : State := { s with pending := rest }
      exact ⟨exec_cellsCanonical (s := u) c ⟨hinv.frame, hinv.boost⟩ hstep,
        (exec_fresh (s := u) c ⟨hinv.fresh⟩).of t hstep, (exec_logs (s := u) c ⟨hinv.rindLog, hinv.log⟩).of t hstep⟩
    · cases hstep
      have hdsp : s.tick.dsp = s.dsp := (State.tick_only s).same .dsp (by decide)
      have hkeys : s.tick.keys = s.keys := (State.tick_only s).same .keys (by decide)
      refine ⟨?_, (Holds.fresh_tick ⟨hinv.fresh⟩).of, ?_⟩
      · rw [CellsCanonical, hdsp]
        exact ⟨hinv.frame, hinv.boost⟩
      · rw [LogsFit, hkeys]
        exact ⟨hinv.rindLog, hinv.log⟩
  exact { frame := hframe, boost := hboost, lifecycle := hlife, fresh := hfresh, sealCount := (hcounts.sealCount hinv.sealCount).2
          tamper := fun k => (hcounts.tamper k (hinv.tamper k)).2, rindLog := hrindLog, log := hlog }

end Sys2Proof.Machine
end

section
/-! What the obligations about rows need of the operations that the rows share: accesses and configuration requests of the host (spec
03). -/

namespace Sys2Proof.Machine

variable {s : State} {g : Guest}

/-- The system guest may read its registers over PCIe whatever functions are enabled (R48). -/
@[simp] theorem State.canRead_pcie_zero (s : State) : s.canRead .pcie 0 = true := rfl

/-- A configuration request before the functions are ready is answered with a retry (R51). -/
theorem State.cfgRequest_retry {f : State → State} (h : s.host.rrs = true) :
    s.cfgRequest g f = (s.emit (.retryStatus g)).hostActive .pcie := by
  simp [State.cfgRequest, h]

/-- An access that violates has its violation logged and is answered as the path answers one (R71). -/
theorem State.access_violation {path : Path} {off be kind : Nat} {write shape : Bool} {f : State → State}
    (hmay : (if write then s.canWrite path g else s.canRead path g) = true) (hkind : s.violKind path g off write shape = some kind) :
    s.access path g off write be shape f = (((s.violation g (w32 off)
      (pack [(31, 28, kind), (27, 24, path.code), (20, 20, b1 write), (19, 16, if path = .gln then 3 else be), (3, 0, g.1)]) 0).violAnswer
        path g write kind).hostActive path) := by
  have hread : s.canRead path g = true := by
    cases write
    · exact hmay
    · exact State.canRead_of_canWrite hmay
  have hidle : (write && (s.guest g).rstBusy) = false := by
    cases write
    · rfl
    · simp only [if_true, State.canWrite, Bool.and_eq_true, Bool.not_eq_true'] at hmay
      simpa using hmay.1
  simp [State.access, State.gln_of_canRead hread, hmay, hkind, State.badAccess, hidle]

/-- An event register that may be read is read and cleared (R71). -/
theorem State.readEvent_of_allowed {path : Path} {off : Nat} {w : Word} {clear : State → State} (hmay : s.canRead path g = true)
    (hkind : s.violKind path g off false false = none) :
    s.readEvent path g off w clear = (clear (s.returnRead path g off w [])).hostActive path := State.access_read hmay hkind

/-- GLN reads for the guest that it is bound to, while the interface has its supply (R65). -/
theorem State.canRead_gln (hvio : s.host.glnVio = true) (hgln : s.host.gln = some g) : s.canRead .gln g = true := by
  simp [State.canRead, hvio, hgln]

/-- Only the value at the place matters to what an update there gives. -/
theorem upd_congr {α : Type} {n : Nat} {v : Vector α n} {i : Fin n} {f f' : α → α} (h : f (ix v i) = f' (ix v i)) :
    upd v i f = upd v i f' := by
  apply Vector.ext
  intro j hj
  have hcell := (by
    by_cases hij : i = ⟨j, hj⟩
    · subst hij
      rw [ix_upd_same, ix_upd_same, h]
    · rw [ix_upd_ne _ _ _ _ hij, ix_upd_ne _ _ _ _ hij] : ix (upd v i f) ⟨j, hj⟩ = ix (upd v i f') ⟨j, hj⟩)
  simpa [ix] using hcell

/-- While Legal is not VOID, a command that needs it is performed. -/
@[simp] theorem State.unlessVoid_of_live {r : Req} {f : State → State} (h : s.legalVoid = false) : s.unlessVoid r f = f s := by
  simp [State.unlessVoid, h]

/-- Only a port's own vehicle interface matters to what a change of it gives. -/
theorem State.modVeh_congr {p : Port} {f f' : Veh → Veh} (h : f (s.vehAt p) = f' (s.vehAt p)) : s.modVeh p f = s.modVeh p f' :=
  congrArg (fun v => { s with veh := v }) (upd_congr h)

/-- Only a port's own session engine matters to what a change of it gives. -/
theorem State.modSes_congr {p : Port} {f f' : Ses → Ses} (h : f (s.sesAt p) = f' (s.sesAt p)) : s.modSes p f = s.modSes p f' :=
  congrArg (fun v => { s with ses := v }) (upd_congr h)

/-- A command of guest 0 is the system guest's. -/
theorem Req.fromSystem_of_guest {r : Req} (h : r.guest = 0) : r.fromSystem = true := beq_iff_eq.mpr h

end Sys2Proof.Machine
end

section
/-! The rows of the mailboxes and the command queues (spec 04): where each completes and what it leaves. -/

namespace Sys2Proof.Machine

variable {s t : State}

/-- A message whose command is known, allowed and admitted is enrolled (R87, R103). -/
theorem State.verdict_of_admitted {n : Fin 8} {op : OpInfo} {r : Req} {pk : PoolKind} (goAt : Nat) (hcap : s.capKind op r = none)
    (hclaim : s.claimOk op r = true) (hclass : op.fastest ≤ r.cls) (hrelay : isRelay op = false)
    (hadmits : s.admits op r (s.startLatency op r.modemPorts) = some pk) :
    s.verdict n op r goAt = s.enrol op r pk (s.startLatency op r.modemPorts) goAt := by
  simp [State.verdict, hcap, hclaim, Nat.not_lt.mpr hclass, hrelay, hadmits]

/-- The message of a full mailbox, outside a guest reset and with no refusal or relay pending, is taken (R87). -/
theorem execMessageFetch_of_full {g : Guest} {n : Fin 8} {op : OpInfo} (hfull : (ix (s.guest g).h2d n).full = true)
    (hslot : (ix (s.guest g).h2d n).slot = .free) (hrelaying : (ix (s.guest g).h2d n).relaying = false)
    (hrst : (s.guest g).rstBusy = false) (hreached : s.sys.reached 8 = true) (hswapping : s.swapping = false)
    (hheader : s.headerFail g (ix (ix (s.guest g).h2d n).mbd 0) (ix (ix (s.guest g).h2d n).mbd 1) = none)
    (hop : opInfo ((ix (ix (s.guest g).h2d n).mbd 0).fld 31 16) = some op) :
    let t := (s.modH2d g n fun x => { x with full := false }).verdict n op (s.message g n) (ix (s.guest g).h2d n).goAt
    execMessageFetch g n s = .next (if (ix (t.guest g).h2d n).full then t else t.irq g (8 + n.1)) := by
  have hslot' : ((ix (s.guest g).h2d n).slot == .occupied) = false := by rw [hslot]; rfl
  simp only [execMessageFetch, hfull, hslot', hrelaying, hrst, hreached, hswapping, hheader, hop]
  rfl

/-- Settles O27, row by row: a row's guards settle under the clause's conditions, and the rest is its definition. Which
command's turn it is (log 178) and the path of the answers (log 11) are the model's choice. -/
theorem mailboxCommandsComplete : Obligations.MailboxCommandsComplete := by
  unfold Obligations.MailboxCommandsComplete
  and_intros
  · -- MBX_GO (R87)
    intro path g n s hcanWrite hviolKind hfull
    simp [execMbxGo, hcanWrite, hviolKind, hfull]
  · -- MESSAGE_FETCH (R87)
    intro g n op pk s m s1 r hfull hslot hrelaying hrst hreached hswapping hheader hop hcap hclaim hclass hrelay hadmits t
    have hverdict : s1.verdict n op r m.goAt = t := State.verdict_of_admitted m.goAt hcap hclaim hclass hrelay hadmits
    rw [← hverdict]
    exact execMessageFetch_of_full hfull hslot hrelaying hrst hreached hswapping hheader hop
  · -- COMMAND_START (R150)
    intro g q a op s hfind hitsTurn hopcode hclaimOk
    simp [execCommandStart, hfind, hitsTurn, hopcode, hclaimOk]
  · -- COMMAND_COMPLETE (R89)
    intro g q a ans s hhead hstarted horphan hfind hmore
    simp [execCommandComplete, hhead, hstarted, horphan, hfind, hmore]
  · -- RESPONSE_TO_MAILBOX (R88)
    intro path g n m s hfind hfind' hkind
    simp [execResponseToMailbox, hfind, hfind', hkind]
  · -- MBX_RESPONSE_READ (R84)
    intro path g n m s hmsg hcanRead hviolKind
    simp [execMbxResponseRead, hmsg, hcanRead, hviolKind]
  · -- MBX_MBD0_READ (R93)
    intro path g n m s hmsg hcanRead hviolKind
    simp [execMbxMbd0Read, hmsg, hcanRead, hviolKind]
  · -- MBX_ABORT_CLEAR (R83)
    intro path g n s hcanWrite hviolKind
    simp [execMbxAbortClear, hcanWrite, hviolKind]
  · -- FINAL_NOTICE (R118)
    intro g ans s hfind
    simp only [exec_finalNotice, execFinalNotice, hfind]
    exact ⟨_, rfl, rfl, rfl⟩

end Sys2Proof.Machine
end

section
/-! The rows of the host links and the guests' registers (spec 03): where each completes and what it leaves. -/

namespace Sys2Proof.Machine

/-- Settles O28, row by row: the shared laws of host accesses and configuration requests, then the row's own effect. VF Enable
and NumVFs kept at PERST# and FLR (log 202), writes over GLN that act on a half (log 34), the layout of the MSI-X table (log
180) and the accesses that count as activity (log 179) are the model's choice. -/
theorem hostRowsComplete : Obligations.HostRowsComplete := by
  unfold Obligations.HostRowsComplete
  and_intros
  · exact fun _ _ => rfl -- POISONED_TLP (R50)
  · -- NUMVFS_WRITE (R48)
    intro n s hrrs hvfEnable hromRecovery
    simp [execNumvfsWrite, hrrs, hvfEnable, hromRecovery]
  · -- VF_ENABLE_SET (R48)
    intro s hrrs
    simp [execVfEnableSet, hrrs]
  · -- VF_ENABLE_CLEAR (R75)
    intro s hrrs
    simp [execVfEnableClear, hrrs]
  · -- FLR (R75)
    intro g s hrrs hcanRead hg
    simp [execFlr, hrrs, hcanRead, hg]
  · -- FLR (R75)
    intro s hrrs
    simp [execFlr, hrrs]
  · -- NUMVFS_WRITE (R48), VF_ENABLE_SET (R48), VF_ENABLE_CLEAR (R75), FLR (R75)
    intro n g s hrrs
    simp [execNumvfsWrite, execVfEnableSet, execVfEnableClear, execFlr, State.cfgRequest_retry hrrs]
  · exact fun _ => rfl -- PERST_ASSERT (R75)
  · exact fun _ => rfl -- HOST_LINK_DOWN (R75)
  · exact fun _ => rfl -- HOST_LINK_TRAINED (R51)
  · -- SYS_GUEST_HB_WRITE (R62)
    intro path g s hcanWrite
    simp [execSysGuestHbWrite, hcanWrite]
  · -- HEARTBEAT_EXPIRY (R75)
    intro g s hhbRunning hhbMs
    simp [execHeartbeatExpiry, hhbRunning, hhbMs]
  · -- GUEST_RESET (R76)
    intro g s hrstBusy
    simp [execGuestReset, hrstBusy]
  · -- GUEST_RESET (R76)
    intro g cause s hrstBusy
    simp [State.trigger, hrstBusy]
  · exact fun _ => rfl -- GLN_VIO_LOSS (R592)
  · exact fun _ => rfl -- GLN_VIO_RETURN (R592)
  · -- CLOCK_GATED (R27)
    intro b s hholdsD0 hof
    simp [execClockGated, hholdsD0, hof]
  · -- CLOCK_STARTED (R102)
    intro b s hstarting
    rw [exec_clockStarted, execClockStarted, if_pos hstarting]
  · -- IRQ_STATUS_CLEAR (R70)
    intro path g bits s hcanWrite
    simp [execIrqStatusClear, hcanWrite]
  · -- IRQ_ARM (R78)
    intro path g s hcanWrite
    simp [execIrqArm, hcanWrite]
  · -- MSIX_VECTOR_UNMASK (R70)
    intro g v s hcanWrite hgetLsbD
    simp only [exec_msixVectorUnmask, execMsixVectorUnmask, State.hostWrite_may hcanWrite, State.maskVector, hgetLsbD]
    rfl
  · -- MSIX_VECTOR_UNMASK (R70)
    intro g v s hcanWrite hgetLsbD
    simp only [exec_msixVectorUnmask, execMsixVectorUnmask, State.hostWrite_may hcanWrite, State.maskVector, hgetLsbD]
    rfl
  · -- SYS_VIOL_CLR (R72)
    intro g s hcanWrite
    simp [execSysViolClr, hcanWrite]
  · -- PFC_SNAP (R79)
    intro g s hcanWrite
    simp [execPfcSnap, hcanWrite]
  · -- PFC_CHIP_SNAP (R79)
    intro s hcanWrite
    simp [execPfcChipSnap, hcanWrite]
  · -- PFC_FREEZE (R79)
    intro g on s hcanWrite
    simp [execPfcFreeze, hcanWrite]
  · -- PFC_PRESET (R79)
    intro g c v s hcanWrite
    simp [execPfcPreset, hcanWrite]
  · -- PFC_OVF_CLEAR (R80)
    intro g bits s hcanWrite
    simp [execPfcOvfClear, hcanWrite]
  · -- QUE_DB_H2D (R94)
    intro g bits s hcanWrite hxFF
    rw [exec_queDbH2d, execQueDbH2d, State.hostWrite_may hcanWrite, if_pos (by simpa using hxFF)]
  · -- QUE_DB_D2H_CLEAR (R94)
    intro g bits s hcanWrite
    simp [execQueDbD2hClear, hcanWrite]
  · -- REGISTER_WRITE (R8)
    intro g off v s hcanWrite hoff hviolKind hoff'
    have hvector : msixVector off = none := by simp [msixVector, inRange, Nat.not_le.mpr hoff]
    simp [execRegisterWrite, hvector, Nat.not_le.mpr hoff, State.access_write hcanWrite hviolKind, hoff']
  · -- REGISTER_WRITE (R8)
    intro g off v s hcanWrite hoff hviolKind
    have hvector : msixVector off = none := by
      simp [msixVector, inRange]
      omega
    simp [execRegisterWrite, hvector, Nat.not_le.mpr hoff, State.access_write hcanWrite hviolKind]
  · -- REGISTER_WRITE (R8)
    intro g off v k s hcanWrite hoff
    simp [execRegisterWrite, hcanWrite, hoff]
  · -- PAIR_LOW_READ (R6)
    intro g off s hcanRead hoff hviolKind hlatch
    simp [execPairLowRead, hcanRead, hoff, hviolKind, hlatch]
  · -- PAIR_LOW_READ (R6)
    intro g off w l s hcanRead hdecide hviolKind hlatch
    have hpair : ¬ (!pairLow off && !(decide (4 ≤ off) && pairLow (off - 4))) = true := by
      rwa [← Bool.not_or, Bool.not_eq_true', Bool.not_eq_false]
    simp only [exec_pairLowRead, execPairLowRead, if_neg hpair, State.access_read hcanRead hviolKind, hlatch]
  · -- GLN_LOW_WORD_READ (R65)
    intro g off s hglnVio hoff hoff' hgln hviolKind hglnLatch
    have heven : off % 2 = 0 := by omega
    simp [execGlnLowWordRead, hgln, Nat.not_le.mpr hoff, heven, State.access_read (State.canRead_gln hglnVio hgln) hviolKind, hglnLatch, hoff']
  · -- GLN_LOW_WORD_READ (R65)
    intro g off w l s hglnVio hoff hoff' hgln hviolKind hglnLatch
    simp [execGlnLowWordRead, hgln, Nat.not_le.mpr hoff, hoff', State.access_read (State.canRead_gln hglnVio hgln) hviolKind, hglnLatch]
  · -- GLN_LOW_WORD_READ (R65)
    intro g off s hglnVio hoff hoff' hgln hviolKind hglnLatch
    have heven : off % 2 = 0 := by omega
    simp [execGlnLowWordRead, hgln, Nat.not_le.mpr hoff, heven, State.access_read (State.canRead_gln hglnVio hgln) hviolKind, hglnLatch, hoff']
  · -- ACCESS_VIOLATION (R71)
    intro path g off be kind write shape s hoff hg hviolKind
    rw [exec_accessViolation, execAccessViolation, if_pos hoff, State.access_violation hg hviolKind]

end Sys2Proof.Machine
end

section
/-! The configuration commands and their transactions (spec 05): where each completes and what it leaves. -/

namespace Sys2Proof.Machine

variable {s t : State}

variable {r : Req} {l : List Item} {it : Item}

/-- An item of an open transaction waits for its commit (R123). -/
theorem State.addItem_of_open (htxn : r.txn = true) (hopen : ix s.conf.opens r.guest = some l) (hroom : l.length < 256) :
    s.addItem r it = (s.setOpen r.guest (some (l ++ [it]))).answer r Code.done := by
  simp [State.addItem, htxn, hopen, Nat.not_le.mpr hroom]

/-- A transaction that fits and of which no item fails is recorded, and the answer gives its epoch (R123, R124). -/
theorem State.commit_of_sound (hne : l ≠ []) (hfits : s.txnFits (txnBytes l) = true) (hsound : s.firstFail s.projected l 0 = none) :
    s.commit r l = (s.record l).answer r Code.done [pack [(30, 0, (s.record l).conf.commitEpoch)]] := by
  simp [State.commit, hne, hfits, hsound]

/-- An item outside a transaction is a transaction of its own (R123). -/
theorem State.addItem_of_alone (htxn : r.txn = false) (hfits : s.txnFits (txnBytes [it]) = true)
    (hsound : s.itemReason s.projected it = none) :
    s.addItem r it = (s.record [it]).answer r Code.done [pack [(30, 0, (s.record [it]).conf.commitEpoch)]] := by
  have hfirst : s.firstFail s.projected [it] 0 = none := by simp [State.firstFail, hsound]
  simp only [State.addItem, htxn, Bool.false_eq_true, if_false, State.commit_of_sound (List.cons_ne_nil it []) hfits hfirst]

/-- The configuration commands of the system guest add their item, while Legal is not VOID. -/
theorem exec_systemItem (hguest : r.guest = 0) (hvoid : s.legalVoid = false) {c : Req → Instr}
    (hc : c ∈ [Instr.setTrefMode, Instr.setQueueRange, Instr.setGuestCaps, Instr.setGuestQos, Instr.setGuestHeartbeat,
      Instr.setGlnBind, Instr.setLeaseConfig, Instr.setSitePower, Instr.setPmLinkConfig, Instr.setOpticalConfig,
      Instr.setLsConfig, Instr.setLsSupplyConfig, Instr.setChainConfig, Instr.setMeshConfig, Instr.setCoexMask,
      Instr.setCaveConfig, Instr.setUpdateConfig, Instr.setNfcConfig, Instr.setDisplayConfig, Instr.setPulseInput,
      Instr.setSupplyConfig, Instr.setPqConfig]) :
    exec (c r) s = .next (s.addItem r { opcode := r.opcode, words := r.words }) := by
  have hsystem : r.fromSystem = true := by simp [Req.fromSystem, hguest]
  have hplain {allowed : Bool} (h : allowed = true) : s.plainItem r allowed = s.addItem r { opcode := r.opcode, words := r.words } :=
    if_pos h
  have hitem : s.systemItem r = s.addItem r { opcode := r.opcode, words := r.words } := hplain hsystem
  have hlegal : s.legalSystemItem r = s.addItem r { opcode := r.opcode, words := r.words } := by
    simp [State.legalSystemItem, hsystem, State.unlessVoid, hvoid, hplain]
  fin_cases hc
  · exact congrArg _ hitem -- SET_TREF_MODE
  · exact congrArg _ hitem -- SET_QUEUE_RANGE
  · exact congrArg _ hitem -- SET_GUEST_CAPS
  · exact congrArg _ hitem -- SET_GUEST_QOS
  · exact congrArg _ (hplain (by simp [hsystem])) -- SET_GUEST_HEARTBEAT
  · exact congrArg _ hitem -- SET_GLN_BIND
  · exact congrArg _ hitem -- SET_LEASE_CONFIG
  · exact congrArg _ hitem -- SET_SITE_POWER
  · exact congrArg _ hitem -- SET_PM_LINK_CONFIG
  · exact congrArg _ hitem -- SET_OPTICAL_CONFIG
  · exact congrArg _ hitem -- SET_LS_CONFIG
  · exact congrArg _ hitem -- SET_LS_SUPPLY_CONFIG
  · exact congrArg _ hitem -- SET_CHAIN_CONFIG
  · exact congrArg _ hitem -- SET_MESH_CONFIG
  · exact congrArg _ hitem -- SET_COEX_MASK
  · exact congrArg _ hitem -- SET_CAVE_CONFIG
  · exact congrArg _ hitem -- SET_UPDATE_CONFIG
  · exact congrArg _ hitem -- SET_NFC_CONFIG
  · exact congrArg _ hitem -- SET_DISPLAY_CONFIG
  · exact congrArg _ hlegal -- SET_PULSE_INPUT
  · exact congrArg _ hlegal -- SET_SUPPLY_CONFIG
  · simp [execSetPqConfig, State.unlessVoid, hvoid, hplain, hlegal] -- SET_PQ_CONFIG

/-- The configuration commands of a port's owner add their item, while Legal is not VOID. -/
theorem exec_portItem (hvoid : s.legalVoid = false) {c : Req → Instr}
    (hc : c ∈ [Instr.setPortConfig, Instr.setSessionConfig, Instr.setPowerConfig, Instr.setLkConfig, Instr.setMetrologyConfig,
      Instr.setEnergyConfig, Instr.setBillingConfig, Instr.setTariffSchedule]) :
    exec (c r) s = .next (s.addItem r { opcode := r.opcode, words := r.words }) := by
  have hlegal : (s.unlessVoid r fun t => t.plainItem r true) = s.addItem r { opcode := r.opcode, words := r.words } := by
    rw [State.unlessVoid, hvoid]
    rfl
  fin_cases hc
  · rfl -- SET_PORT_CONFIG
  · rfl -- SET_SESSION_CONFIG
  · rfl -- SET_POWER_CONFIG
  · rfl -- SET_LK_CONFIG
  · exact congrArg _ hlegal -- SET_METROLOGY_CONFIG
  · exact congrArg _ hlegal -- SET_ENERGY_CONFIG
  · exact congrArg _ hlegal -- SET_BILLING_CONFIG
  · exact congrArg _ hlegal -- SET_TARIFF_SCHEDULE

/-- An item with data of an open transaction takes its descriptors (R96, R123). -/
theorem State.ringItem_of_open {ring : Nat} (hring : (s.withRing r ring).ringOk = true) (htxn : r.txn = true)
    (hopen : ix s.conf.opens r.guest = some l) (hroom : l.length < 256) :
    s.ringItem r ring = ((s.setOpen r.guest (some (l ++ [{ opcode := r.opcode, words := r.words, data := (s.withRing r ring).ringIn }]))).answer r
      Code.done).useRing (s.withRing r ring) ring Code.done := by
  have hdone (t : State) : (t.answer r Code.done).wasDone = true := by simp [State.wasDone, State.answer]
  simp only [State.ringItem, hring, hopen, State.addItem_of_open htxn hopen hroom, hdone]
  simp

/-- Settles O29, row by row: one law for the items of the system guest and one for those of a port's owner, then the three ways
of an item: held back in an open transaction, recorded at once, or taken with its data. -/
theorem configurationCommandsComplete : Obligations.ConfigurationCommandsComplete := by
  unfold Obligations.ConfigurationCommandsComplete
  and_intros
  · intro c hc r l s hguest hvoid htxn hopen hroom
    rw [exec_systemItem hguest hvoid hc, State.addItem_of_open htxn hopen hroom]
  · intro c hc r s it hguest hvoid htxn hfits hsound
    rw [exec_systemItem hguest hvoid hc, State.addItem_of_alone htxn hfits hsound]
  · intro c hc r l s hvoid htxn hopen hroom
    rw [exec_portItem hvoid hc, State.addItem_of_open htxn hopen hroom]
  · intro c hc r s it hvoid htxn hfits hsound
    rw [exec_portItem hvoid hc, State.addItem_of_alone htxn hfits hsound]
  · -- SET_PQ_CONFIG (R333)
    intro r l s hport hvoid htxn hopen hroom
    simp [execSetPqConfig, hport, State.unlessVoid, hvoid, State.plainItem, State.addItem_of_open htxn hopen hroom]
  · -- SET_GUEST_HEARTBEAT (R122)
    intro r l s htarget htxn hopen hroom
    simp [execSetGuestHeartbeat, htarget, State.plainItem, State.addItem_of_open htxn hopen hroom]
  · -- LOAD_TRUST_ANCHOR (R154)
    intro r s it hguest hslot hdelete htxn hfits hsound
    simp only [exec_loadTrustAnchor, execLoadTrustAnchor, Req.fromSystem, hguest, Nat.not_lt.mpr hslot, hdelete, State.plainItem]
    exact congrArg _ (State.addItem_of_alone htxn hfits hsound)
  · -- LOAD_OVERDRIVE (R570)
    intro r l s q hguest htxn hring hroom hopen
    have hopen' : ix s.conf.opens r.guest = some l := by rw [hguest, hopen]
    have hitem := State.ringItem_of_open hring htxn hopen' hroom
    rw [hguest] at hitem
    simp only [exec_loadOverdrive, execLoadOverdrive, Req.fromSystem, hguest, hitem]
    rfl
  · exact fun _ _ => ⟨_, rfl⟩ -- GET_CONFIG_STATE (R120)
  · -- BEGIN_CONFIG (R120)
    intro r s hguest
    simp [execBeginConfig, hguest]
  · -- COMMIT_CONFIG (R123)
    intro r l s hopen hne hfits hsound
    simp only [exec_commitConfig, execCommitConfig, hopen, hfits, Bool.or_true, if_true]
    rw [State.commit_of_sound hne ?_ hsound]
    exact hfits
  · -- ABORT_CONFIG (R120)
    intro r l s hguest
    simp [execAbortConfig, hguest]
  · exact fun _ _ => rfl -- TXN_TIMEOUT (R123)

end Sys2Proof.Machine
end

section
/-! The system commands (spec 05): where each completes and what it leaves. -/

namespace Sys2Proof.Machine

/-- Settles O30, row by row: each guard is one of the clause's conditions. The saturated answer of ACCEPT_TREF_PHASE (log 218)
and the reset of its own sender by RESET_GUEST (log 41) are the model's choice. -/
theorem systemCommandsComplete : Obligations.SystemCommandsComplete := by
  unfold Obligations.SystemCommandsComplete
  and_intros
  · exact fun _ _ => ⟨_, rfl⟩ -- GET_DEVICE_INFO (R120)
  · -- GET_IMAGE_DIGEST (R120)
    intro r s hfld
    simp [execGetImageDigest, hfld]
  · exact fun _ _ => rfl -- ECHO (R120)
  · -- ACCEPT_TREF_PHASE (R38)
    intro r c s hguest hfaultPhase hisHead hstate hrateFault
    simp [execAcceptTrefPhase, Req.fromSystem_of_guest hguest, hfaultPhase, hisHead, hstate, hrateFault, Tref.steer]
    rfl
  · -- REQUEST_SITE_SLEEP (R41)
    intro r s hguest hfenced hfld hcmd hasking hisHead
    simp [execRequestSiteSleep, Req.fromSystem_of_guest hguest, hfenced, hfld, hcmd, hasking, hisHead]
  · -- RESET_CHIP (R120)
    intro r s hguest hword
    exact execResetChip_of_key (Req.fromSystem_of_guest hguest) hword
  · -- GET_COMMAND_COST (R121)
    intro r op s hfld hportField
    have hport : ¬ (8 ≤ r.portField ∧ r.portField ≠ 255) := by omega
    simp [execGetCommandCost, hfld, hport]
  · -- GET_QUEUE_STATE (R121)
    intro r s hqueFirst hfld
    simp [execGetQueueState, hqueFirst, hfld]
  · -- GET_GUEST_CONFIG (R122)
    intro r s hguest
    have hown : (!r.fromSystem && r.target != r.guest) = false := by
      obtain h | h := hguest
      · simp [Req.fromSystem_of_guest h]
      · simp [h]
    exact ⟨_, congrArg Host.Outcome.next (if_neg (by simpa using hown))⟩
  · -- RESET_GUEST (R122)
    intro r s hguest htarget
    simp [execResetGuest, Req.fromSystem_of_guest hguest, hguest, htarget]
  · -- RESET_GUEST (R122)
    intro r s htarget
    simp [execResetGuest, htarget]
  · -- RELAY_MESSAGE (R92)
    intro r s hbit hrelayLive
    refine ⟨_, congrArg Host.Outcome.next ((if_neg ?_).trans (if_neg ?_)), rfl⟩
    · simp [hbit]
    · simp [hrelayLive]
  · exact fun _ => rfl -- BAD_CHANNEL_MESSAGE (R14)
  · exact fun _ => rfl -- BAD_CHANNEL_MESSAGE (R14)
  · exact fun _ => rfl -- BAD_CHANNEL_MESSAGE (R14)
  · exact fun _ => rfl -- FIREWALL_ACCESS (R16)
  · exact fun _ => rfl -- FIREWALL_ACCESS (R16)
  · exact fun _ => rfl -- FIREWALL_ACCESS (R16)

end Sys2Proof.Machine
end

section
/-! The commands to a port and its session (spec 06, 07): where each completes and what it leaves. -/

namespace Sys2Proof.Machine

/-- Settles O31, row by row: the guards are the clause's conditions. The answer to a reply above 16 KiB (log 68) and the time of
a link that is down (log 212) are the model's choice. -/
theorem portAndSessionCommandsComplete : Obligations.PortAndSessionCommandsComplete := by
  unfold Obligations.PortAndSessionCommandsComplete
  and_intros
  · exact fun _ _ => rfl -- GET_PORT_STATUS (R153)
  · exact fun _ _ => ⟨_, rfl⟩ -- GET_VEHICLE_INFO (R153)
  · -- GET_LINK_STATS (R153)
    intro r s t x up
    have htime : t.time = s.time := (State.updateStats_only s r.port).same .time (by decide)
    refine ⟨if s.isT1s r.port then 0 else Config.freeNat t.free % 256, ?_, ?_⟩
    · split
      · decide
      · exact Nat.mod_lt _ (by decide)
    · rw [htime]
      rfl
  · -- GET_CERT_REQUEST (R147)
    intro r s hpending hlate
    simp [execGetCertRequest, hpending, hlate]
  · -- CLAIM_PORT (R154)
    intro r s hbit hport
    simp [execClaimPort, hbit, hport]
    rfl
  · exact fun _ _ => rfl -- RELEASE_PORT (R150)
  · -- SET_AC_CURRENT (R134)
    intro r s c t hac hlink hrange
    have hrange' : (c != 0 && !inRange 60 630 c) = false := by
      obtain h | ⟨hlow, hhigh⟩ := hrange
      · simp [h]
      · simp [inRange, hlow, hhigh]
    exact congrArg Host.Outcome.next ((if_neg (by simp [hac, hlink])).trans (if_neg (by rw [hrange']; decide)))
  · -- DRIVE_LOCK (R148)
    intro r s hidle hpresent hphase hok
    have hallowed : (!r.bit 3 0 && !s.openOk r.port) = false := by
      obtain h | h := hok <;> simp [h]
    exact congrArg Host.Outcome.next ((if_neg (by simp [hidle, hpresent, hphase])).trans (if_neg (by simp [hallowed])))
  · -- RESET_PORT (R32)
    intro r s hinSession
    simp [execResetPort, hinSession]
  · -- RESET_PORT (R32)
    intro r s hinSession
    simp [execResetPort, hinSession]
  · -- CERT_EXCHANGE_REPLY (R147)
    intro r s c hpending hreplaced hlate hbit
    subst c
    simp [execCertExchangeReply, hpending, hreplaced, hlate, hbit]
  · -- CERT_EXCHANGE_REPLY (R147)
    intro r s c q hpending hreplaced hlate hbit hringOk hringIn
    subst q c
    simp [execCertExchangeReply, hpending, hreplaced, hlate, hbit, hringOk, hringIn]
  · -- CERT_EXCHANGE_REPLY (R147)
    intro r s c q hpending hreplaced hlate hbit hringOk hx
    subst q c
    simp [execCertExchangeReply, hpending, hreplaced, hlate, hbit, hringOk, hx]
  · exact fun _ _ => rfl -- GET_SESSION_STATUS (R179)
  · exact fun _ _ => ⟨_, rfl⟩ -- GET_SESSION_SUMMARY (R179)
  · -- AUTHORISE_SESSION (R159)
    intro r s p d hretired hsafetySwap hstate hstate' henable hstate'' hlink hpreauth hopenReq hbadRange hbit hsource hjudge
    subst d p
    simp [execAuthoriseSession, hretired, hsafetySwap, hstate, hstate', henable, hstate'', hlink, hpreauth, hopenReq, hbadRange, hbit, hjudge]
    intro hcontract hmissing
    simp [hsource hcontract] at hmissing
  · -- AUTHORISE_SESSION (R159)
    intro r s p d hretired hsafetySwap hstate hstate' henable hstate'' hpreauth hopenReq hbadRange hbit hsource hjudge
    subst d p
    simp [execAuthoriseSession, hretired, hsafetySwap, hstate, hstate', henable, hstate'', hpreauth, hopenReq, hbadRange, hbit, hjudge]
    intro hcontract hmissing
    simp [hsource hcontract] at hmissing
  · -- ADD_CREDIT (R174)
    intro r b s p e t hses hout hsesOpen hcreditE hcreditT he ht warned warnedT u
    subst u warnedT warned t e p
    simp [execAddCredit, hses, hout, hsesOpen]
    omega
  · -- STOP_SESSION (R180)
    intro r s hinSession
    simp [execStopSession, hinSession]
  · -- STOP_SESSION (R180)
    intro r x s hinSession hstate hpreauth
    simp [execStopSession, hinSession, hstate, hpreauth]
  · -- CLEAR_FAULT (R180)
    intro r s hstate hblkContactor
    simp [execClearFault, hstate, hblkContactor]

end Sys2Proof.Machine
end

section
/-! The rows of power delivery (spec 08): where each completes and what it leaves. -/

namespace Sys2Proof.Machine

variable {s t : State}

/-- A port delivers while its supply is enabled in precharge, charge or ramp-down (R197). -/
theorem State.delivers_of {p : Port} (henabled : (s.pwrAt p).enabled = true)
    (hstate : (s.pwrAt p).state = .precharge ∨ (s.pwrAt p).state = .active ∨ (s.pwrAt p).state = .rampdown) : s.delivers p = true := by
  obtain h | h | h := hstate <;> simp [State.delivers, henabled, h]

/-- A fold that keeps what it holds or takes the next element ends with what it held or with an element. -/
theorem foldl_keeps_or_takes {α : Type} {f : Option α → α → Option α} (hf : ∀ b x, f b x = b ∨ f b x = some x) (l : List α) (b : Option α) :
    l.foldl f b = b ∨ ∃ a ∈ l, l.foldl f b = some a := by
  induction l generalizing b with
  | nil => exact .inl rfl
  | cons x l ih =>
    rw [List.foldl_cons]
    obtain h | ⟨a, ha, h⟩ := ih (f b x)
    · rw [h]
      exact (hf b x).imp_right fun hx => ⟨x, List.mem_cons_self, hx⟩
    · exact .inr ⟨a, List.mem_cons_of_mem x ha, h⟩

/-- Such a fold from nothing ends with an element. -/
theorem mem_of_foldl_eq_some {α : Type} {f : Option α → α → Option α} {l : List α} {a : α} (hf : ∀ b x, f b x = b ∨ f b x = some x)
    (h : l.foldl f none = some a) : a ∈ l := by
  obtain hnone | ⟨x, hx, hsome⟩ := foldl_keeps_or_takes hf l none
  · cases hnone.symm.trans h
  · cases hsome.symm.trans h
    exact hx

/-- The next repeat is of a recall that waits, repeated fewer than three times (R184). -/
theorem nextRepeat_mem {a : AckWait} {l : List AckWait} (h : nextRepeat l = some a) : a ∈ l ∧ a.seqs.length < 3 := by
  have hmem : a ∈ l.filter (·.seqs.length < 3) := by
    refine mem_of_foldl_eq_some (fun b x => ?_) h
    cases b with
    | none => exact .inr rfl
    | some y =>
      dsimp only
      split
      · exact .inr rfl
      · exact .inl rfl
  simpa using hmem

/-- Raising events of a port's supply leaves everything else of it (R217). -/
@[simp] theorem State.pwrRaise_pwrAt (s : State) (p : Port) (bits : Word) :
    (s.pwrRaise p bits).pwrAt p = { s.pwrAt p with ev := raiseAll (s.pwrAt p).ev bits } := State.modPwr_pwrAt s p _

/-- Receiving a frame of the power link leaves the ports' supplies. -/
@[simp] theorem State.pmRx_pwrAt (s : State) (l : PmIdx) (seq : Nat) (p : Port) : (s.pmRx l seq).pwrAt p = s.pwrAt p := rfl

/-- Changing a power link leaves the ports' supplies. -/
@[simp] theorem State.modPmLink_pwrAt (s : State) (l : PmIdx) (f : PmLink → PmLink) (p : Port) :
    (s.modPmLink l f).pwrAt p = s.pwrAt p := rfl

/-- Settles O32, row by row: the guards of a row are the clause's conditions; receiving a frame leaves the ports' supplies, and
the next repeat is one that waits. A waiting precharge that PM_LIMITS starts (log 96) and the gaps of a converter that
GET_PM_LINK_STATS adds (log 187) are the model's choice. -/
theorem powerRowsComplete : Obligations.PowerRowsComplete := by
  unfold Obligations.PowerRowsComplete
  and_intros
  · exact fun _ _ => rfl -- GET_POWER_STATUS (R220)
  · exact fun _ _ => rfl -- GET_LEASE_STATUS (R220)
  · -- GET_CONVERTER_LIMITS (R220)
    intro r s x f
    simp [execGetConverterLimits]
    rfl
  · -- GET_PM_LINK_STATS (R220)
    intro r l s k hl
    subst k
    have hval : r.fld 3 0 0 % 2 = l.1 := by omega
    simp only [execGetPmLinkStats, exec_getPmLinkStats, hval]
  · -- SET_PORT_LIMIT (R221)
    intro r s p t u hbit
    simp [execSetPortLimit, hbit]
    rfl
  · -- SET_PORT_LIMIT (R221)
    intro r s p t u hbit hlink hprotocol hdynamic
    subst u t p
    simp [execSetPortLimit, hbit, hlink, hprotocol, hdynamic]
  · -- STEP_INSTANT (R197)
    intro p s henabled hstate
    exact congrArg _ (if_pos (State.delivers_of henabled hstate))
  · -- RUN_AHEAD_REPLAN (R199)
    intro p s henabled hreplan hstate
    simp [execRunAheadReplan, hreplan, State.delivers_of henabled hstate]
  · -- RECALL_REPEAT (R184)
    intro p a l ch s hacks hmap
    simp [execRecallRepeat, hacks, hmap]
    rfl
  · -- RECALL_REPEAT (R184)
    exact fun _ _ => nextRepeat_mem
  · -- PM_ACK (R187)
    intro l ch seq w1 w2 p s hstate hportOfCh
    simp [execPmAck, hstate, hportOfCh, AckWait.answeredBy]
  · -- PM_STATUS (R188)
    intro l ch seq st p s hstate hportOfCh
    simp [execPmStatus, hstate, hportOfCh]
  · -- PM_LIMITS (R187)
    intro l ch seq lim p s new a hstate hportOfCh hlimits henabled
    subst a new
    simp [execPmLimits, hstate, hportOfCh, State.modPmLink_pwrAt, State.pmRx_pwrAt] at hlimits henabled ⊢
    simp [hlimits, henabled]
  · -- PM_LIMITS (R187)
    intro l ch seq lim s hstate hportOfCh
    simp [execPmLimits, hstate, hportOfCh]
  · -- PM_FAULT (R206)
    intro l ch seq code off p s hstate hportOfCh henabled
    simp [execPmFault, hstate, hportOfCh, henabled]
  · -- PM_BAD_FRAME (R185)
    intro l s hstate bad t
    subst t bad
    simp [execPmBadFrame, hstate]
  · -- PM_SYNC_SEND (R188)
    intro l s hstate k w
    subst w k
    have hsends : (s.pmLink l).sends 3 = true := by
      obtain h | h := hstate <;> simp [PmLink.sends, h]
    simp [execPmSyncSend, State.pmSend, hsends, pmBytes]
  · exact fun _ _ => rfl -- PM_RX_SILENCE (R190)
  · -- PM_ACK_TIMEOUT (R202)
    intro p a as l ch s hacks hmap
    simp [execPmAckTimeout, hacks, hmap]
  · -- PM_LINK_RETRAIN (R190)
    intro l s hstate
    simp [execPmLinkRetrain, hstate]
  · -- PWR_EVENT_READ (R217)
    intro path g p s hcanRead hviolKind
    exact congrArg _ (State.readEvent_of_allowed hcanRead hviolKind)

end Sys2Proof.Machine
end

section
/-! The rows of the site's power leases (spec 08): where each completes and what it leaves. -/

namespace Sys2Proof.Machine

variable {s t : State}

/-- Taking minima one after another ends no higher than it began. -/
theorem foldl_min_le_init {α : Type} (g : α → Nat) (l : List α) (b : Nat) : l.foldl (fun a u => min a (g u)) b ≤ b := by
  induction l generalizing b with
  | nil => exact le_rfl
  | cons u l ih => exact (ih _).trans (min_le_left _ _)

/-- Entries that fit one frame are one frame. -/
theorem chunks_of_length_le {n f : Nat} {l : List GrantEntry} (hne : 0 < l.length) (hlen : l.length ≤ n) : chunks n (f + 2) l = [l] := by
  have hempty : l.isEmpty = false := by simpa using List.ne_nil_of_length_pos hne
  simp [chunks, hempty, List.take_of_length_le hlen, List.drop_eq_nil_of_le hlen]

/-- Settles O33, row by row: a frame that is taken does what its row says; the grants of the head agree with its quorum, and
entries that fit one frame go out as one. The floor of a unit that never reported (log 92) is the model's choice. -/
theorem leaseRowsComplete : Obligations.LeaseRowsComplete := by
  unfold Obligations.LeaseRowsComplete
  and_intros
  · -- REDUCE_SITE_POWER (R214)
    intro r s limit seconds hguest hfenced hlimit hseconds hisHead
    subst seconds limit
    simp [execReduceSitePower, Req.fromSystem_of_guest hguest, hfenced, hlimit, hseconds, hisHead]
  · -- REDUCE_SITE_POWER (R214)
    intro r s limit seconds hguest hfenced hlimit hseconds hisHead hseconds'
    subst seconds limit
    simp [execReduceSitePower, Req.fromSystem_of_guest hguest, hfenced, Nat.not_lt.mpr hlimit, Nat.not_lt.mpr hseconds, hisHead, hseconds']
  · -- POWER_EPOCH_START (R429)
    intro s
    simp [execPowerEpochStart]
  · -- REPORT_SEND (R429)
    intro s hchainOn hhead haddr hpendingStart
    simp [execReportSend, hchainOn, hhead, haddr, hpendingStart]
  · -- REPORT_SEND (R429)
    intro s hchainOn hhead haddr hpendingStart
    simp [execReportSend, hchainOn, hhead, haddr, hpendingStart]
  · -- GRANT_COMPUTE (R212)
    intro s hchainOn
    simp [execGrantCompute, hchainOn]
  · -- GRANT_COMPUTE (R212)
    intro s hon hhead
    refine ⟨_, (if_neg (by simp [hon])).trans (if_neg (by simp [hhead])), ?_, rfl, ⟨_, rfl, foldl_min_le_init _ _ _⟩, rfl, ?_⟩
    · intro e he
      obtain ⟨u, -, rfl⟩ := List.mem_map.mp he
      exact ⟨rfl, rfl⟩
    · refine congrArg (fun n => decide (s.siteL < n)) (congrArg List.sum ((List.map_map ..).trans (List.map_congr_left fun a _ => ?_)))
      simp only [Function.comp, State.grantUnit]
      cases (s.putReport s.chn.addr s.ownReport).lease.reports.find? (·.addr == a) <;> rfl
  · -- GRANT_BROADCAST (R429)
    intro e s hon hhead hpos hlen hfind
    obtain ⟨n, hn⟩ : ∃ n, s.chn.granted.length = n + 1 := ⟨_, (Nat.succ_pred_eq_of_pos hpos).symm⟩
    simp [execGrantBroadcast, hon, hhead, hfind, hn, chunks_of_length_le hpos hlen]
  · -- REPORT (R430)
    intro h rep s htakes
    exact congrArg Host.Outcome.next (State.chainRx_takes _ htakes)
  · -- GRANT (R209)
    intro h gr s htakes
    exact congrArg Host.Outcome.next (State.chainRx_takes _ htakes)
  · -- REDUCE (R214)
    intro h f seconds s htakes
    exact congrArg Host.Outcome.next (State.chainRx_takes _ htakes)
  · -- REDUCE_REQ (R421)
    intro h limit seconds s htakes
    exact congrArg Host.Outcome.next (State.chainRx_takes _ htakes)
  · -- REDUCE_END (R214)
    intro s hisHead
    simp [execReduceEnd, hisHead]
  · -- SITE_CONFIG (R431)
    intro h epoch x s htakes
    exact congrArg Host.Outcome.next (State.chainRx_takes _ htakes)
  · -- CONFIG_ACK (R431)
    intro h reason s htakes
    exact congrArg Host.Outcome.next (State.chainRx_takes _ htakes)
  · -- SITE_CONFIG_DEADLINE (R431)
    intro x s hprop hhead hagreed hwaiting
    simp [execSiteConfigDeadline, hprop, hhead, hagreed, hwaiting]
  · -- SITE_CONFIG_DEADLINE (R431)
    intro x s hprop hhead hagreed hwaiting hmoves y
    subst y
    simp [execSiteConfigDeadline, hprop, hhead, hagreed, hwaiting, hmoves]

end Sys2Proof.Machine
end

section
/-! The rows of the time reference and of sleep (spec 02): where each completes and what it leaves. -/

namespace Sys2Proof.Machine

variable {s t : State}

/-- A rate within 200 ppm is good (R37). -/
theorem rateBad_of_within {rate : Int} (hlow : -200000 ≤ rate) (hhigh : rate ≤ 200000) : rateBad rate = false := by
  simp [rateBad, hlow, hhigh]

/-- A rejected edge counts a glitch at most. -/
theorem Tref.reject_eq (x : Tref) (off : Int) : ∃ n, x.reject off = { x with glitchCnt := n } := by
  unfold Tref.reject
  split
  · exact ⟨_, rfl⟩
  · exact ⟨_, rfl⟩

/-- An edge within 500 ns locks the reference; the head takes its offset into the slew (R37). -/
theorem Tref.edge_of_close {x : Tref} {off : Int} {head : Bool} {now : Nat} (hclose : off.natAbs ≤ 500) :
    (x.edge off head now).state = .locked ∧ (x.edge off head now).phase = x.phase ∧ (x.edge off head now).rate = x.rate ∧
      (x.edge off head now).holdSince = none ∧ (x.edge off head now).slew = if head then x.slew + off else x.slew := by
  obtain ⟨n, hn⟩ := x.reject_eq off
  have hedge : x.edge off head now = ({ x with glitchCnt := n }.lock).steer head off := by simp [Tref.edge, hclose, hn]
  rw [hedge]
  cases head <;> exact ⟨rfl, rfl, rfl, rfl, rfl⟩

/-- The eighth edge that agrees on an offset beyond 100 us is the reference's fault (R37, log 147). -/
theorem Tref.edge_of_eighth {x : Tref} {off c : Int} {head : Bool} {now : Nat} (hcand : x.cand = some c) (hrun : x.candRun = 7)
    (hprev : nearEdge x.prev off = true) (hnear : (off - c).natAbs ≤ 100) (hfar : 100000 < c.natAbs) :
    (x.edge off head now).state = .fault ∧ (x.edge off head now).faultPhase = some c := by
  have hreject : x.reject off = x := by simp [Tref.reject, hprev]
  have hoff : ¬ off.natAbs ≤ 500 := by omega
  have hagree : nearEdge (some c) off = true := by simpa [nearEdge] using hnear
  simp [Tref.edge, hreject, hoff, hprev, hcand, hagree, Tref.agree, hrun, Nat.not_le.mpr hfar]

/-- Of the frames that wait for a chain link only those of the sleep outlast the SRAM (R23). -/
theorem State.loseSram_links {k : Fin 2} {n : Fin 8} {f : TxFrame} (h : f ∈ ix (ix s.loseSram.chn.links k).queue n) :
    f.body.type = 0x15 ∨ f.body.type = 0x16 := by
  have hlinks : ix s.loseSram.chn.links k = { ix s.chn.links k with
      queue := vmap (fun (q : List TxFrame) => q.filter fun f => f.body.type == 0x15 || f.body.type == 0x16) (ix s.chn.links k).queue } := ix_vmap ..
  rw [hlinks, ix_vmap, List.mem_filter] at h
  simpa using h.2

/-- Settles O34, row by row: the guards are the clause's conditions; what a clause says of the reference is a law of its edge,
and of Doze what its entry and its wake leave. The slew and agreement of an edge (log 181), its fault at the eighth (log 147)
and a fence that ends a committed sleep (log 97) are the model's choice. -/
theorem timeAndSleepRowsComplete : Obligations.TimeAndSleepRowsComplete := by
  unfold Obligations.TimeAndSleepRowsComplete
  and_intros
  · -- TREF_PPS_EDGE (R37)
    intro off rate s hmode hrate
    have hbad : rateBad rate = true := by
      simp only [rateBad, Bool.or_eq_true, decide_eq_true_eq]
      omega
    refine ⟨_, rfl, ?_⟩
    simp [State.trefPps, hmode, hbad, Tref.hold]
  · -- TREF_PPS_EDGE (R37)
    intro off rate s hmode hlow hhigh hrateFault hmin hmax
    refine ⟨_, rfl, ?_⟩
    simp only [State.trefPps, hmode, decide_true, Bool.not_true, Bool.false_eq_true, if_false, rateBad_of_within hlow hhigh, hrateFault,
      State.setTref_tref]
    exact Tref.edge_of_close (by omega)
  · -- TREF_PPS_EDGE (R37)
    intro off rate c s hmode hlow hhigh hrateFault hcand hcandRun hprev hnear hfar
    refine ⟨_, rfl, ?_⟩
    simp only [State.trefPps, hmode, decide_true, Bool.not_true, Bool.false_eq_true, if_false, rateBad_of_within hlow hhigh, hrateFault,
      State.setTref_tref]
    exact Tref.edge_of_eighth hcand hcandRun hprev hnear hfar
  · -- TREF_10M_EDGE (R37)
    intro rate s htrefMode
    simp [execTref10mEdge, State.tref10M, htrefMode, State.setTref, Tref.glitch]
    rfl
  · -- TREF_10M_EDGE (R37)
    intro rate s hmode hlow hhigh hrateFault hfault hlocked
    refine ⟨_, rfl, ?_⟩
    simp [State.tref10M, State.trefPps, hmode, rateBad_of_within hlow hhigh, hrateFault, hfault, hlocked, Tref.lock]
  · -- TREF_PPS_TIMEOUT (R39)
    intro s hmode
    exact ⟨_, congrArg Host.Outcome.next (if_pos (decide_eq_true hmode)), State.setTref_tref ..⟩
  · -- TREF_10M_LOSS (R39)
    intro s hmode
    exact ⟨_, congrArg Host.Outcome.next (if_pos (by simp [State.tref10M, hmode])), State.setTref_tref ..⟩
  · -- RATE_FAULT_CLEAR (R40)
    intro s hrateFault
    simp [execRateFaultClear, hrateFault]
  · -- REQUEST_SITE_SLEEP (R41)
    intro r s ms te hguest hfenced hx hms hcmd hasking hisHead
    subst te ms
    simp [execRequestSiteSleep, Req.fromSystem_of_guest hguest, hfenced, inRange, hx, hms, hcmd, hasking, hisHead]
  · -- REQUEST_SITE_SLEEP (R41)
    intro r s ms hguest hfenced hx hms hcmd hasking hisHead
    subst ms
    simp [execRequestSiteSleep, Req.fromSystem_of_guest hguest, hfenced, inRange, hx, hms, hcmd, hasking, hisHead]
  · -- SLEEP_ANSWER_TIMEOUT (R41)
    intro s hhead hasking hnotReady hphase hready
    have hall : s.chainOn = true → (s.unfencedUnits.filter fun a => !s.sys.sleep.ready.contains a).head? = none := by
      intro hon
      rw [List.head?_eq_none_iff, List.filter_eq_nil_iff]
      intro a ha
      rw [hready hon a ha]
      exact Bool.false_ne_true
    cases hon : s.chainOn
    · simp [execSleepAnswerTimeout, hhead, hasking, hnotReady, hphase, hon]
    · simp only [exec_sleepAnswerTimeout, execSleepAnswerTimeout, hhead, hasking, hnotReady, hphase, hon, hall hon]
      rfl
  · -- SLEEP_ANSWER_TIMEOUT (R41)
    intro g a s hisHead hasking hnotReady
    simp [execSleepAnswerTimeout, hisHead, hasking, hnotReady]
    rfl
  · -- SLEEP_POINT_OF_NO_RETURN (R23)
    intro s hphase hfenced hsleepGuard
    simp [execSleepPointOfNoReturn, hphase, hfenced, hsleepGuard]
    rfl
  · -- SLEEP_POINT_OF_NO_RETURN (R23)
    intro g s hphase hfenced hsleepGuard
    simp [execSleepPointOfNoReturn, hphase, hfenced, hsleepGuard]
  · -- SLEEP_POINT_OF_NO_RETURN (R23)
    intro s hphase hfenced
    simp [execSleepPointOfNoReturn, hphase, hfenced]
  · -- DOZE_ENTRY (R23)
    intro s hpower hphase
    refine ⟨_, rfl, ?_⟩
    simp [hpower, hphase]
    exact ⟨rfl, rfl, fun _ _ => State.loseSram_links, fun _ _ => State.loseSram_links⟩
  · -- DOZE_WAKE (R23)
    intro src s hpower
    refine ⟨_, congrArg Host.Outcome.next (if_neg (by simp [hpower])), ?_⟩
    extract_lets s1 s2 s3 s4
    have hlate : Only [.host, .saf, .msh, .sent, .chn] s3 (s4.readSafety).sysChanged := by
      refine Only.step (State.sysChanged_only ..) rfl (Only.step (State.readSafety_only ..) rfl ?_)
      exact Only.ite (Only.step (State.originate_only ..) rfl (Only.refl _ _)) (Only.refl _ _)
    have habsent : Only [.cave] s2 s3 := by
      refine Only.each (fun h u hu => ?_) (Only.refl _ _)
      split
      · exact Only.step (State.endAbsence_only ..) rfl hu
      · exact hu
    rw [hlate.sys_eq (by decide), habsent.sys_eq (by decide)]
    exact ⟨rfl, rfl, rfl, rfl, rfl⟩
  · -- SLEEP_PREPARE (R41)
    intro h te s htakes
    exact congrArg Host.Outcome.next (State.chainRx_takes _ htakes)
  · -- SLEEP_READY (R41)
    intro h s htakes
    exact congrArg Host.Outcome.next (State.chainRx_takes _ htakes)
  · -- SLEEP_NOT_READY (R41)
    intro h guard s htakes
    exact congrArg Host.Outcome.next (State.chainRx_takes _ htakes)
  · -- SLEEP_COMMIT (R41)
    intro h te s htakes
    exact congrArg Host.Outcome.next (State.chainRx_takes _ htakes)
  · -- SLEEP_ABORT (R42)
    intro h s htakes
    exact congrArg Host.Outcome.next (State.chainRx_takes _ htakes)
  · -- SLEEP_CANCEL (R42)
    intro h s htakes
    exact congrArg Host.Outcome.next (State.chainRx_takes _ htakes)
  · -- WAKE (R43)
    intro h src s htakes
    exact congrArg Host.Outcome.next (State.chainRx_takes _ htakes)

end Sys2Proof.Machine
end

section
/-! The rows of the resets and of start-up (spec 02): where each completes and what it leaves. -/

namespace Sys2Proof.Machine

variable {s t : State}

/-- Legal runs. -/
def LegalRuns (s : State) : Prop := s.legal.state = .run

theorem legalRuns_restsOn : RestsOn [.legal] LegalRuns := ⟨fun _ _ hsame h => (congrArg Legal.state (hsame .legal (by decide))).trans h⟩

/-- Recovering from the saves leaves Legal running (R278). -/
theorem Holds.legalRecover (h : Holds LegalRuns s) : Holds LegalRuns s.legalRecover := by
  unfold State.legalRecover
  extract_lets saves newestRtc metering early kind open_ prev s1 rec_ s2 s3 s4
  have h1 : Holds LegalRuns s1 := ⟨h.of⟩
  have h2 : Holds LegalRuns s2 := h1.each fun _ _ hu => hu.only legalRuns_restsOn (State.restorePort_only ..) rfl
  have h3 : Holds LegalRuns s3 := .ite (h2.only legalRuns_restsOn (State.appendLegal_only ..) rfl) h2
  have h4 : Holds LegalRuns s4 :=
    .ite ((h3.only legalRuns_restsOn (State.appendLegal_only ..) rfl).only legalRuns_restsOn (State.modRind_only ..) rfl) h3
  exact h4.foldl fun _ _ hu => ⟨hu.of⟩

/-- A start that is usable, or that a retired device makes, is not turned away (R542, log 200). -/
theorem startRefused_eq_false (h : s.rootUsable = true ∨ s.retired = true) : (!s.rootUsable && !s.retired) = false := by
  obtain h | h := h <;> simp [h]

/-- Settles O35, row by row: the resets that a row names; a release's start leaves what the release put anew, and recovering
from the saves leaves Legal running. A clock failure that stays (log 26), the start of a retired device (log 200), no candidate
entering recovery (log 25) and the training of links at step 8 (log 28) are the model's choice. -/
theorem resetRowsComplete : Obligations.ResetRowsComplete := by
  unfold Obligations.ResetRowsComplete
  and_intros
  · -- RESET_CHIP (R120)
    intro r s hguest hword
    exact execResetChip_of_key (Req.fromSystem_of_guest hguest) hword
  · -- CHIP_RESET (R30), SERVICE_WATCHDOG_EXPIRY (R30), ECC_UNCORRECTABLE (R30)
    exact fun _ => ⟨rfl, rfl, rfl⟩
  · -- CLOCK_DEVIATION (R29)
    intro s hclkFault hother
    have hhere : ¬ (s.sys.chipCause = 5 ∧ s.sys.reached 7 = false) := by
      rintro ⟨hcause, hreached⟩
      obtain h | h := hother
      · exact h hcause
      · simp [hreached] at h
    simp [execClockDeviation, hclkFault, hhere]
  · -- CLOCK_DEVIATION (R29)
    intro s hclkFault hchipCause hreached
    simp [execClockDeviation, hclkFault, hchipCause, hreached]
    rfl
  · -- CLOCK_DEVIATION (R29), SERVICE_IMAGE_START (R542)
    intro v s hclkFault
    simp [execClockDeviation, execServiceImageStart, hclkFault]
  · -- SERVICE_IMAGE_START (R542)
    intro s hclkFault hrootUsable
    simp only [exec_serviceImageStart, execServiceImageStart, hclkFault, startRefused_eq_false hrootUsable]
    rfl
  · -- SERVICE_IMAGE_START (R542)
    intro s hclkFault hrootUsable t
    simp only [exec_serviceImageStart, execServiceImageStart, hclkFault, startRefused_eq_false hrootUsable]
    rfl
  · -- SERVICE_IMAGE_START (R542)
    intro v s hclkFault hrootUsable hretired
    simp [execServiceImageStart, hclkFault, hrootUsable, hretired]
  · -- POWER_ON_RESET (R23)
    intro cause s hpower
    refine ⟨_, congrArg Host.Outcome.next (if_neg (by simpa using hpower)), rfl, rfl, rfl, rfl, ?_, ?_, ?_, ?_⟩
    · intro p k
      exact (congrArg (fun x : SafPort => ix x.coils k) (ix_vmap _ s.sp p)).trans (ix_replicate ..)
    · intro b
      exact congrArg Brake.released (ix_vmap _ s.brk b)
    · intro c
      exact congrArg LsCh.commanded (ix_replicate _ c)
    · intro p
      exact congrArg Lk.state (ix_replicate _ p)
  · -- POR_RELEASE (R35)
    intro s hpower
    have htime (u : State) : u.shipRestore.batteryStart.rootlessStart.time = u.time := (startOfRind_only u).same .time (by decide)
    have hveh (u : State) : u.shipRestore.batteryStart.rootlessStart.veh = u.veh := (startOfRind_only u).same .veh (by decide)
    refine ⟨_, if_neg (by simp [hpower]), ?_⟩
    extract_lets
    rw [(startOfRind_only _).sys_eq (by decide), htime]
    refine ⟨rfl, rfl, rfl, rfl, fun p => ?_⟩
    exact (congrArg (fun v => ix v p) (hveh _)).trans (ix_replicate ..)
  · -- LEGAL_START_DONE (R278)
    intro torn s hstate hrootUsable
    refine ⟨_, congrArg Host.Outcome.next (if_neg (by simp [hstate])), ?_⟩
    extract_lets s1 s2 s3
    rw [if_pos (by simpa using hrootUsable)]
    have h2 : Holds LegalRuns s2 := ⟨rfl⟩
    have h3 : Holds LegalRuns s3 :=
      (h2.legalRecover.only legalRuns_restsOn (State.passTrial_only ..) rfl).only legalRuns_restsOn (State.modKeys_only ..) rfl
    exact ((h3.only legalRuns_restsOn (State.irqAll_only ..) rfl).only legalRuns_restsOn (State.reach_only ..) rfl).of
  · -- CONFIG_JOURNAL_REPLAY (R127)
    intro torn s hreached hreached' hromRecovery a b c
    simp [execConfigJournalReplay, hreached, hreached', hromRecovery]
    rfl

end Sys2Proof.Machine
end

section
/-! The rows of the control pilot and the cable lock (spec 06): where each completes and what it leaves. -/

namespace Sys2Proof.Machine

variable {s t : State}

/-- A lock drive that ends keeps whether its attempt failed. -/
@[simp] theorem State.endDrive_failed (s : State) (p : Port) : ((s.endDrive p id).lkAt p).failed = (s.lkAt p).failed := by
  unfold State.endDrive
  split
  · simp [Lk.over]
  · rfl

/-- A change of the lock's record changes nothing else of the vehicle interface. -/
@[simp] theorem State.modLock_vehAt (s : State) (p : Port) (f : Lock → Lock) :
    (s.modLock p f).vehAt p = { s.vehAt p with lock := f (s.vehAt p).lock } := State.modVeh_vehAt ..

/-- The measure of the diode leaves the pilot's class as it stands and the run of samples for another (R131). -/
theorem Cp.diode_keeps (x : Cp) (lo : Int) :
    (x.diode lo).state = x.state ∧ (x.diode lo).cand = x.cand ∧ (x.diode lo).agree = x.agree := by
  unfold Cp.diode
  split
  · exact ⟨rfl, rfl, rfl⟩
  · split <;> exact ⟨rfl, rfl, rfl⟩

/-- A sample of the pilot's class that the run was for lengthens the run, and the class is taken when the run is long enough (R131). -/
theorem State.cpSample_of_cand {p : Port} {hi lo : Int} {k : CpState} (hlink : (s.vehAt p).link ≠ .off) (hdrive : (s.vehAt p).cp.drive ≠ .f)
    (hhi : cpClass hi = k) (hk : k ≠ .invalid) (hcand : (s.vehAt p).cp.cand = k) :
    s.cpSample p hi lo =
      let t := (s.modVeh p fun v => { v with cp := { (v.cp.diode lo) with hi } }).modVeh p fun v => { v with cp := v.cp.join k }
      if k.needs ≤ min 3 ((s.vehAt p).cp.agree + 1) && (s.vehAt p).cp.state != k then t.cpAccept p k else t := by
  obtain ⟨hstate, hcand', hagree⟩ := Cp.diode_keeps (s.vehAt p).cp lo
  simp [State.cpSample, hlink, hdrive, hhi, hk, Cp.join, hstate, hcand', hagree, hcand]

/-- Settles O36, row by row: a sample of the pilot lengthens its run, and the class is taken when the run is long enough; the
rest is each row under its guards. The grouping of a period's measures (log 188) is the model's choice. -/
theorem controlPilotAndLockRowsComplete : Obligations.ControlPilotAndLockRowsComplete := by
  unfold Obligations.ControlPilotAndLockRowsComplete
  and_intros
  · -- CP_PERIOD (R131)
    intro p hi lo k s hlink hdrive hhi hk hcand hagree
    have hshort : ¬ k.needs ≤ min 3 ((s.vehAt p).cp.agree + 1) := by omega
    simp [execCpPeriod, State.cpSample_of_cand hlink hdrive hhi hk hcand, hshort]
  · -- CP_PERIOD (R131)
    intro p hi lo k s hlink hdrive hhi hk hcand hneeds hagree hstate
    have hlong : k.needs ≤ min 3 ((s.vehAt p).cp.agree + 1) := by omega
    simp [execCpPeriod, State.cpSample_of_cand hlink hdrive hhi hk hcand, hlong, hstate]
  · -- CP_INVALID_TIMEOUT (R131)
    intro p s hgap hstate hlink
    simp [execCpInvalidTimeout, hgap, hstate, hlink]
  · -- PP_MEASUREMENT (R135)
    intro p ohm s hcand hagree hcode
    simp only [exec_ppMeasurement, execPpMeasurement]
    rw [State.modVeh_congr (f' := fun v => { v with pp := { v.pp with cand := s.ppClass p ohm, agree := 5 } }) (by simp [hcand, hagree])]
    simp [hcode]
  · -- LOCK_PULSE_END (R148)
    intro p s k hphase hstopping hwant hfailed hfbLocked
    subst k
    simp [execLockPulseEnd, hphase, hstopping, hwant, hfailed, hfbLocked]
  · -- LOCK_PULSE_END (R148)
    intro p s k hphase hstopping hwant hfailed hfbLocked
    subst k
    simp [execLockPulseEnd, hphase, hstopping, hwant, hfailed, hfbLocked]
  · -- LOCK_PULSE_END (R148)
    intro p s hphase hstopping hwant hfailed
    simp [execLockPulseEnd, hphase, hstopping, hwant, hfailed]
  · -- LOCK_PULSE_END (R148)
    intro p s hphase hstopping
    simp [execLockPulseEnd, hphase, hstopping]
  · -- LOCK_FEEDBACK_TIMEOUT (R148)
    intro p s hphase hattempt
    simp [execLockFeedbackTimeout, hphase, State.attemptFailed, hattempt]
  · -- LOCK_FEEDBACK_TIMEOUT (R148)
    intro p s hphase hx
    simp [execLockFeedbackTimeout, hphase, State.attemptFailed, Nat.not_lt.mpr hx]
  · -- LOCK_ATTEMPT_TIMER (R148)
    intro p s hphase
    simp [execLockAttemptTimer, hphase]
  · -- LOCK_FB_CHANGE (R148)
    intro p closed s hphase
    simp [execLockFbChange, hphase]
  · -- LOCK_FB_CHANGE (R148)
    intro p closed s t hphase hstate
    subst t
    simp [execLockFbChange, hphase, hstate]

end Sys2Proof.Machine
end

section
/-! The rows of the vehicle link and its protocols (spec 06, 07): where each completes and what it leaves. -/

namespace Sys2Proof.Machine

variable {s t : State}

/-- Where one index alone meets the condition, the filter gives it alone. -/
theorem filter_idx_eq_singleton {n : Nat} {f : Fin n → Bool} {i : Fin n} (h : ∀ j, f j = true ↔ j = i) : (idx n).filter f = [i] := by
  have hf : f = (· == i) := funext fun j => Bool.eq_iff_iff.mpr ((h j).trans beq_iff_eq.symm)
  rw [hf, List.filter_beq, idx, List.count_eq_one_of_mem (List.nodup_finRange n) (List.mem_finRange i)]
  rfl

/-- An attenuation is within any margin of itself. -/
theorem withinDb_self (a : Nat × Nat) (d : Nat) : withinDb a a d = true :=
  decide_eq_true (Nat.mul_le_mul_right _ (Nat.le_add_right _ _))

/-- What is said to a vehicle that is connected goes out (R145). -/
theorem State.sayVehicle_of_connected {p : Port} {kind v : Nat} (h : (s.vehAt p).link = .connected) :
    s.sayVehicle p kind v = s.emit (.toVehicle p kind v) := by
  simp [State.sayVehicle, h]

/-- Settles O37, row by row: the guards are the clause's conditions; a sounding that one port alone matches is heard of that
port. The flag of a replaced certificate request (logs 68, 211), a stop in BASIC (log 61) and the vehicle's identity taken on
MATCHING (log 66) are the model's choice. -/
theorem vehicleLinkRowsComplete : Obligations.VehicleLinkRowsComplete := by
  unfold Obligations.VehicleLinkRowsComplete
  and_intros
  · -- CM_SLAC_PARM_REQ (R141)
    intro p run mac s hT1s hinitOver hstate hlink hrefused
    simp [execCmSlacParmReq, hT1s, hinitOver, hstate, hlink, hrefused, CpState.present]
  · -- CM_START_ATTEN_CHAR (R140)
    intro p run s hmatching
    simp [execCmStartAttenChar, hmatching]
  · -- CM_MNBC_SOUND (R140)
    intro p run dB s hmatching
    simp [execCmMnbcSound, hmatching]
  · -- CM_VALIDATE (R140)
    intro p run ok s hmatching hslacValidate
    simp [execCmValidate, hmatching, hslacValidate]
  · -- SOUNDING_COMPLETE (R142)
    intro p run s hrun hsounds hindSent hattenMax
    have havg : ((s.vehAt p).slac.avg.2 != 0) = true := by simpa [Slac.avg] using hsounds
    have hheard : ((idx 8).filter fun q => s.matching q run && (s.vehAt q).slac.avg.2 != 0 && !(s.vehAt q).slac.indSent) = [p] := by
      refine filter_idx_eq_singleton fun q => ⟨fun h => ?_, fun h => ?_⟩
      · simp only [Bool.and_eq_true] at h
        exact (hrun q).1 h.1.1
      · subst h
        simp [(hrun q).2 rfl, havg, hindSent]
    simp only [exec_soundingComplete, execSoundingComplete, hheard]
    simp [withinDb_self, hattenMax]
  · -- CM_SLAC_MATCH_REQ (R142)
    intro p run s hisT1s
    simp [execCmSlacMatchReq, hisT1s]
  · -- CM_SLAC_MATCH_REQ (R142)
    intro p run s nmk nid hisT1s hmatching hindSent hneedValidate hmatchedElse
    simp [execCmSlacMatchReq, hisT1s, hmatching, hindSent, hneedValidate, hmatchedElse]
    rfl
  · -- CM_SET_KEY_CNF (R137)
    intro p run s x hrun hlink hkeySent hmatchedElse t
    subst t x
    simp [execCmSetKeyCnf, hrun, hlink, hkeySent, hmatchedElse]
  · -- SLAC_TIMER_EXPIRY (R137)
    intro p s hlink
    simp [execSlacTimerExpiry, hlink]
  · -- SLAC_INIT_TIMEOUT (R137)
    intro p s hfallback hinitOver hlink
    simp [execSlacInitTimeout, hfallback, hinitOver, hlink]
  · -- LINK_RETRY_END (R137)
    intro p s hlink
    simp [execLinkRetryEnd, hlink]
  · -- BASIC_FALLBACK_END (R137)
    intro p s hfallback hlink
    simp [execBasicFallbackEnd, hfallback, hlink]
  · -- T1S_FIRST_FRAME (R143)
    intro p mac s hisT1s hlink
    simp [execT1sFirstFrame, hisT1s, hlink]
  · -- SDP_REQUEST (R144)
    intro p tls s hlink on
    simp [execSdpRequest, hlink]
    rfl
  · -- SUPPORTED_APP_PROTOCOL (R145)
    intro p offers mode k dynamic s conn hlink hsdp hfind t
    simp only [exec_supportedAppProtocol, execSupportedAppProtocol, hlink, hsdp]
    rw [hfind]
    rfl
  · -- TCP_CLOSED (R137), PROTOCOL_SEQUENCE_TIMEOUT (R137)
    intro p s hlink t
    have hlost : s.protocolLost p = t := if_pos (by simp [hlink])
    exact ⟨congrArg Host.Outcome.next hlost, congrArg Host.Outcome.next hlost⟩
  · -- LINK_LOST_GRACE (R168)
    intro p s hlinkLost
    simp [execLinkLostGrace, hlinkLost]
  · -- PROTOCOL_ERROR (R168)
    intro p s hlink
    simp [execProtocolError, hlink]
  · -- CONTRACT_CHAIN_PRESENTED (R146)
    intro p chain emaid root chk k s hlink hpnc hprotocol hrootEntry
    have hprotocol' : ¬ (s.vehAt p).protocol < 2 := by omega
    simp [execContractChainPresented, hlink, hpnc, hprotocol', hrootEntry]
  · -- CONTRACT (R146)
    intro p s hchecking
    simp [execContract, hchecking]
  · -- CERT_INSTALL_REQUEST (R147)
    intro p body s hlink
    simp [execCertInstallRequest, hlink]
  · -- CERT_REPLY_TIMEOUT (R147)
    intro p s hpending hlate
    simp [execCertReplyTimeout, hpending, hlate]
  · -- AUTHORIZATION_REQ (R158)
    intro p s hlink hstate
    simp [execAuthorizationReq, hlink, hstate]
  · -- AUTHORIZATION_REQ (R158)
    intro p s hlink hstate
    simp [execAuthorizationReq, hlink, hstate, State.sayVehicle_of_connected]
  · -- CABLE_CHECK_REQ (R163)
    intro p s hstate hlink
    simp [execCableCheckReq, hstate, hlink]
  · -- VEHICLE_TARGET (R191)
    intro p g s hlink t
    simp [execVehicleTarget, hlink]
    rfl
  · -- VEHICLE_PAUSE (R162)
    intro p s hlink hstate hending
    simp [execVehiclePause, hlink, State.pauseSes, hstate, hending]
  · -- VEHICLE_RESUME (R162)
    intro p s hlink hstate
    simp [execVehicleResume, hlink, State.resumeSes, hstate]
  · -- VEHICLE_STOP (R168)
    intro p s hlink hstate
    simp [execVehicleStop, hlink, hstate]
  · -- VEHICLE_STOP (R168)
    intro p s hlink
    simp [execVehicleStop, hlink]
  · -- VP_EVENT_READ (R151)
    intro path g p s hcanRead hviolKind
    exact congrArg Host.Outcome.next (State.readEvent_of_allowed hcanRead hviolKind)

end Sys2Proof.Machine
end

section
/-! The rows of the session engine and of Safety's messages to it (spec 07): where each completes and what it leaves. -/

namespace Sys2Proof.Machine

/-- Settles O38, row by row: what Safety's state of a port does follows the session's state, and the rest is each row under its
guards. A port seen closed outside a session asking to open (log 58), the causes 0x12 and 0x11 of Safety's site state (log 71)
and a refused close ending with 0x11 (log 57) are the model's choice. -/
theorem sessionRowsComplete : Obligations.SessionRowsComplete := by
  unfold Obligations.SessionRowsComplete
  and_intros
  · -- LEGAL_SESSION_OPEN (R156)
    intro p d s hopenReq hasked hlegalRun t
    subst t
    simp [execLegalSessionOpen, hopenReq, hasked, hlegalRun]
  · -- AUTH_TIMEOUT (R159)
    intro p s hstate hopenReq
    simp [execAuthTimeout, hstate, hopenReq]
  · -- PREAUTH_LAPSED (R160)
    intro p x s hpreauth
    simp [execPreauthLapsed, hpreauth]
  · -- PRECHARGE_TIMEOUT (R162)
    intro p s hstate hprep
    simp [execPrechargeTimeout, hstate, hprep]
  · -- RAMP_TIMEOUT (R169)
    intro p s hstate
    simp [execRampTimeout, hstate]
  · -- PAUSE_LIMIT (R168)
    intro p s hstate
    simp [execPauseLimit, hstate]
  · -- SELFTEST_DUE (R176)
    intro p code s hneedsTest hdeferred htestAllowed
    simp [execSelftestDue, hneedsTest, hdeferred, htestAllowed]
  · -- SELFTEST_DUE (R176)
    intro p code s hneedsTest hdeferred htestAllowed
    simp [execSelftestDue, hneedsTest, hdeferred, htestAllowed]
  · -- SELFTEST_OVERDUE (R176)
    intro p s havail
    simp [execSelftestOverdue, State.availPoll, havail]
  · -- SEALED_REPORT (R162)
    intro p s hstate hsesOpen hses
    simp [execSealedReport, hstate, hsesOpen, hses]
  · -- LEGAL_GAP (R270)
    intro p s hstopped
    simp [execLegalGap, hstopped]
  · -- CREDIT_OUT (R173)
    intro p r s hses hout
    simp [execCreditOut, hses, hout]
  · -- LEGAL_READING (R14)
    intro p s hses hstate hisAc
    simp [execLegalReading, hses, hstate, hisAc]
  · -- LEGAL_READING (R14)
    intro p s hses hstate hisAc hnatAbs
    simp [execLegalReading, hses, hstate, hisAc, hnatAbs]
  · -- LEGAL_STATE (R14)
    intro s hsealCount
    simp [execLegalState, hsealCount]
  · -- LEGAL_STATE (R14)
    intro s v hlow hhigh
    have hne : v ≠ s.chn.mirLegal := fun h => hlow (congrArg (· % 4) h)
    refine congrArg (fun t : State => Host.Outcome.next t.availAll) ((if_neg hne).trans ?_)
    extract_lets t u
    have hu : u = t.mirrorEv 5 0xFF [v % 4] := if_neg hlow
    rw [if_pos hhigh, hu]
  · -- SITE_STATE (R349)
    intro s hstate hmirSite
    simp [execSiteState, hstate, hmirSite, SiteState.code]
  · -- SITE_STATE (R349)
    intro s hstate
    simp [execSiteState, hstate, SiteState.code, eq_comm]
  · -- SITE_STATE (R349)
    intro s hstate
    simp [execSiteState, hstate, SiteState.code, eq_comm]
  · -- PORT_STATE (R349)
    intro p s hstate hstate'
    simp [execPortState, State.followSafety, hstate, hstate']
  · -- PORT_STATE (R349)
    intro p s hstate hstate' hopenOk
    simp [execPortState, State.followSafety, hstate, hstate', hopenOk]
  · -- PORT_STATE (R349)
    intro p s hstate hstate' hstate'' t
    subst t
    simp [execPortState, State.followSafety, hstate, hstate', hstate'']
  · -- PORT_STATE (R349)
    intro p s hstate hstate'
    obtain h | h | h := hstate <;> simp [execPortState, State.followSafety, h, hstate']
  · -- TRIP (R205)
    intro p cause row s hchainOn hadviceOut hrow hcause t
    simp [execTrip, hchainOn, hadviceOut, hrow, hcause]
    rfl
  · -- TRIP (R205)
    intro p cause row s hchainOn hcause t
    subst t
    have htest : ¬ ((cause = 1 ∧ (s.sesAt p).state = .preparing) ∧ (s.sesAt p).insAsked = true) := fun h =>
      hcause.elim (· h.1.1) (· h.1.2)
    simp [execTrip, hchainOn, htest]
  · -- TRIP (R205)
    intro p row s hchainOn hstate hinsAsked t
    simp [execTrip, hchainOn, hstate, hinsAsked]
    rfl
  · exact fun _ _ => rfl -- FEEDBACK (R349)
  · -- READINGS (R349)
    intro p s hstate hinsAsked hpre hpreFail
    simp [execReadings, hstate, hinsAsked, hpre, hpreFail]
  · -- READINGS (R349)
    intro p s hpreFail
    simp [execReadings, hpreFail]
  · exact fun _ _ => rfl -- LOG_ENTRY (R360)
  · -- ANSWER (R354)
    intro p s hstate hending
    simp only [exec_answer, execAnswer]
    rw [State.modSes_congr (f' := fun x => { x with ending := true, endClass := 2, endCause := 0x11 }) (if_neg (by simp [hending]))]
    simp [hstate]
  · -- SES_EVENT_READ (R177)
    intro path g p s hcanRead hviolKind
    exact congrArg Host.Outcome.next (State.readEvent_of_allowed hcanRead hviolKind)

end Sys2Proof.Machine
end

section
/-! The rows of metrology and its verification (spec 09): where each completes and what it leaves. -/

namespace Sys2Proof.Machine

variable {s t : State}

/-- Raising events of a port's metrology leaves everything else of it (R257). -/
theorem State.metRaise_metAt (s : State) (p : Port) (bits : Word) :
    (s.metRaise p bits).metAt p = { s.metAt p with ev := raiseAll (s.metAt p).ev bits } :=
  (congrArg (fun v => ix v p) ((State.pendPort_only ..).same .met (by decide))).trans (State.modMet_metAt ..)

/-- A field of sixteen bits reads as the lowest integer for 0x8000 alone. -/
theorem sext_ne_lowest {x : Nat} (hx : x < 2 ^ 16) (hne : x ≠ 0x8000) : sext 16 x ≠ -32768 := by
  simp only [sext, Nat.mod_eq_of_lt hx]
  split <;> omega

/-- The calibration set that a capture ends with stands in the port's metrology when its record is written and the links are
cleared
(R249). -/
theorem State.metAt_of_captured (p : Port) (m : Met) (rec : JRec) (f : SLinkSt → SLinkSt) :
    ((((s.modMet p fun _ => m).appendLegal rec).each (n := 3) fun r t => t.modSl (linkOf p r) f).metRaise p 0x40).metAt p =
      { m with ev := raiseAll m.ev 0x40 } := by
  have hrec : Only [.jnl] (s.modMet p fun _ => m) ((s.modMet p fun _ => m).appendLegal rec) := State.appendLegal_only ..
  have hlinks : Only [.sl, .jnl] (s.modMet p fun _ => m)
      (((s.modMet p fun _ => m).appendLegal rec).each (n := 3) fun r t => t.modSl (linkOf p r) f) :=
    Only.each (fun _ _ hu => Only.step (State.modSl_only ..) rfl hu) (hrec.mono rfl)
  rw [State.metRaise_metAt, State.metAt, hlinks.same .met (by decide)]
  simp

/-- Settles O39, row by row: the guards are the clause's conditions; the calibration set that a capture ends with is what the
port's metrology then holds. -/
theorem metrologyRowsComplete : Obligations.MetrologyRowsComplete := by
  unfold Obligations.MetrologyRowsComplete
  and_intros
  · -- GET_METROLOGY_STATUS (R255)
    intro r s hlegalVoid
    simp [execGetMetrologyStatus, hlegalVoid]
  · -- GET_CHANNEL_READING (R255)
    intro r i s m a hlegalVoid hpathAt h1 hn
    subst a m
    simp [execGetChannelReading, hlegalVoid, hpathAt, h1, hn]
  · -- GET_CHANNEL_READING (R255)
    intro r i s m a amp hvoid hpath hcurrent hn
    subst amp a m
    simp [execGetChannelReading, hvoid, hpath, Nat.not_lt.mpr hcurrent, hn]
  · -- GET_VERIFICATION (R255)
    intro r i s m v hvoid hpath hcurrent
    subst v m
    simp [execGetVerification, hvoid, hpath, Nat.not_lt.mpr hcurrent]
  · -- GET_HEAD_INFO (R255)
    intro r k s hlegalVoid hfld x
    simp [execGetHeadInfo, hlegalVoid, hfld]
    rfl
  · -- GET_CAL_COEFF (R255)
    intro r i s m c hlegalVoid hpathAt hbit
    simp [execGetCalCoeff, hlegalVoid, hpathAt, hbit]
    rfl
  · -- BEGIN_CALIBRATION (R249)
    intro r s hlegalVoid hinService hstate hpendSet
    simp [execBeginCalibration, hlegalVoid, hinService, hstate, hpendSet]
  · -- SET_CAL_COEFF (R249)
    intro r v i s hvoid hpend hpath hphase hvoltage
    have hlowest : sext 16 (r.fld 6 15 0) ≠ -32768 := sext_ne_lowest (Nat.mod_lt _ (by decide)) hphase
    have hcurrent : ¬ 8 ≤ i.1 := by omega
    simp only [exec_setCalCoeff, execSetCalCoeff, State.unlessVoid_of_live hvoid, hpend, hpath, hlowest, hcurrent, if_false]
    rfl
  · -- CAL_MEASURE (R251)
    intro r i s hvoid hpend hmeas hmode hforce helement hpath hlow hhigh
    have hpend' := Option.isSome_iff_ne_none.mp hpend
    simp [execCalMeasure, hvoid, hpend', hmeas, hmode, hforce, helement, hpath, inRange, hlow, hhigh]
  · -- END_CALIBRATION (R249)
    intro r s hvoid hpend hcapture hfail
    have hpend' := Option.isSome_iff_ne_none.mp hpend
    simp [execEndCalibration, hvoid, hpend', hcapture, hfail]
  · -- ABORT_CALIBRATION (R250)
    intro r s hvoid hpend
    have hpend' := Option.isSome_iff_ne_none.mp hpend
    simp [execAbortCalibration, hvoid, hpend']
  · -- PILOT_WINDOW_END (R241)
    intro p k w s hended hk a
    simp [execPilotWindowEnd, hended, hk]
    rfl
  · -- VERIFY_SUSPEND_TIMEOUT (R243)
    intro p path s hstate
    simp [execVerifySuspendTimeout, hstate]
  · -- LEGAL_CLOCK_WINDOW (R248)
    intro dev s hfar hbad hfault
    simp [execLegalClockWindow, hfar, hfault, State.modLegal, hbad]
  · -- LEGAL_CLOCK_WINDOW (R248)
    intro dev s hfar hbad hfault
    simp [execLegalClockWindow, hfar, hfault, State.modLegal, hbad]
  · -- LEGAL_CLOCK_WINDOW (R248)
    intro dev s hnear
    have hnear' : ¬ 100000 < dev.natAbs := by omega
    simp [execLegalClockWindow, hnear, hnear']
  · -- CAL_MEASURE_DURATION_END (R255)
    intro p c s hmeas hmode hn
    simp [execCalMeasureDurationEnd, hmeas, hmode, hn]
  · -- CAL_MEASURE_DURATION_END (R255)
    intro p c s hmeas hmode hpower err
    subst err
    simp [execCalMeasureDurationEnd, hmeas, hmode, Int.not_le.mpr hpower]
  · -- CAL_MEASURE_TIMEOUT (R256)
    intro p c s hmeas hmode
    simp [execCalMeasureTimeout, hmeas, hmode, State.endMeasure]
  · -- PILOT_CAPTURE_DONE (R249)
    intro p q n v s hcapture hpend hratios
    have hready : (((idx 24).filter fun i => s.usedPath p i).all fun i => 16 ≤ (ix (s.metAt p).path i).ratios.length) = true := by
      rw [List.all_eq_true]
      exact fun i hi => decide_eq_true (hratios i (List.mem_filter.1 hi).2)
    refine ⟨_, by simp only [exec_pilotCaptureDone, execPilotCaptureDone, hcapture, hpend, hready, if_true]; rfl, ?_⟩
    rw [State.metAt_of_captured]
    exact ⟨rfl, rfl, rfl, rfl, fun i => by simp [ix]⟩
  · -- PILOT_CAPTURE_TIMEOUT (R256)
    intro p q n s hcapture
    simp [execPilotCaptureTimeout, hcapture]

end Sys2Proof.Machine
end

section
/-! The rows of the sensor links (spec 09): where each completes and what it leaves. -/

namespace Sys2Proof.Machine

variable {s t : State}

/-- Only a link's own state matters to what a change of it gives. -/
theorem State.modSl_congr {l : SLink} {f f' : SLinkSt → SLinkSt} (h : f (s.slAt l) = f' (s.slAt l)) : s.modSl l f = s.modSl l f' :=
  congrArg (fun v => { s with sl := v }) (upd_congr h)

/-- The low byte of the frame that is due names it, within three frame periods (R230, log 151). -/
theorem SLinkSt.names_due {y : SLinkSt} {now : Nat} (hafter : y.frame < now) (hwithin : now ≤ y.frame + 3) :
    y.names now (y.frame % 256) = some y.frame := by
  have hfits (k : Nat) (hlow : 1 ≤ k) (hhigh : k ≤ 3) :
      (k ≤ now && y.frame ≤ now - k && (now - k) % 256 == y.frame % 256) = decide (now = y.frame + k) := by
    by_cases h : now = y.frame + k
    · simp [h]
    · simp only [h, decide_false, Bool.and_eq_false_iff, decide_eq_false_iff_not, beq_eq_false_iff_ne]
      omega
  obtain h | h | h : now = y.frame + 1 ∨ now = y.frame + 2 ∨ now = y.frame + 3 := by omega
  all_goals
    simp only [SLinkSt.names, List.findSome?_cons, hfits 1 (by omega) (by omega), hfits 2 (by omega) (by omega), hfits 3 (by omega) le_rfl]
    simp [h]

/-- Taking the frame that is due loses none before it (R230). -/
theorem SLinkSt.take_due {y : SLinkSt} {u : UpMsg} (hplain : u.status.testBit 5 = false) :
    y.take y.frame u = { y with
      good := y.good + 1, bad := 0, frames := y.frames ++ [{ m := y.frame, status := u.status, data := u.data }], frame := y.frame + 1 } := by
  simp [SLinkSt.take, SLinkSt.loseTo, hplain]

/-- A link that polls no registers has no poll to end (R242). -/
theorem State.pollDone_of_not_polling {l : SLink} (h : (s.slAt l).poll = false) : s.pollDone l = s := by
  simp [State.pollDone, h]

/-- Settles O40, row by row: the frame that is due is named by its low byte within three frame periods and taken without loss.
How the byte names it (log 151) is the model's choice. -/
theorem sensorLinkRowsComplete : Obligations.SensorLinkRowsComplete := by
  unfold Obligations.SensorLinkRowsComplete
  and_intros
  · -- SAMPLE_FRAME_SEND (R226)
    intro s hclock
    refine ⟨_, congrArg Host.Outcome.next (if_neg (by simp [hclock])), ?_⟩
    extract_lets n named out s1
    have hlinks (f : SLink → SLinkSt → SLinkSt) : Only [.sl] s1 (s1.each (n := 24) fun l t => t.modSl l (f l)) :=
      Only.each (fun l u hu => Only.step (State.modSl_only ..) rfl hu) (Only.refl _ _)
    exact ⟨congrArg Legal.idx ((hlinks _).same .legal (by decide)), (hlinks _).same .sent (by decide)⟩
  · -- UPSTREAM_FRAME (R230)
    intro l first body crc u s y hrun hdecode hafter hwithin hidx hplain hpoll
    have htaken : (s.modSl l fun y => y.take y.frame u) = s.modSl l fun z => { z with
        good := z.good + 1, bad := 0, frames := z.frames ++ [{ m := y.frame, status := u.status, data := u.data }], frame := y.frame + 1 } :=
      State.modSl_congr (SLinkSt.take_due hplain)
    have hnow : (s.modSl l fun z => z.take y.frame u) = s.modSl l fun y => y.take y.frame u := State.modSl_congr rfl
    have hdone : ((s.modSl l fun z => { z with
        good := z.good + 1, bad := 0, frames := z.frames ++ [{ m := y.frame, status := u.status, data := u.data }]
        frame := y.frame + 1 }).toSafety l u).slAt l = { y with
        good := y.good + 1, bad := 0, frames := y.frames ++ [{ m := y.frame, status := u.status, data := u.data }], frame := y.frame + 1 } :=
      (congrArg (fun v => ix v l) ((State.toSafety_only ..).same .sl (by decide))).trans (State.modSl_slAt ..)
    subst y
    simp only [exec_upstreamFrame, execUpstreamFrame, hdecode, hidx, Option.bind_some, SLinkSt.names_due hafter hwithin, Option.map_some, hrun,
      hnow, htaken]
    exact congrArg Host.Outcome.next (State.pollDone_of_not_polling ((congrArg SLinkSt.poll hdone).trans hpoll))
  · -- UPSTREAM_FRAME (R230)
    intro l first body crc u m s hactive hcrc hnames
    simp [execUpstreamFrame, hactive, hcrc, hnames]
  · -- UPSTREAM_FRAME (R230)
    intro l first body crc s hrun hafter hwithin hnone
    have hnamed : ((decodeUp first body crc).bind fun u => ((s.slAt l).names s.legal.idx u.idx).map fun m => (m, u)) = none := by
      obtain h | ⟨u, h, hu⟩ := hnone
      · rw [h, Option.bind_none]
      · rw [h, Option.bind_some, hu, Option.map_none]
    simp [execUpstreamFrame, hrun, hnamed, hafter, hwithin, SlState.active]
  · -- UPSTREAM_FRAME_LATE (R230)
    intro l s hstate hframe
    simp [execUpstreamFrameLate, hstate, SlState.active, Nat.not_lt.mpr hframe]
  · -- SL_LOST_FRAMES_LIMIT (R232)
    intro l s hstate hx
    simp [execSlLostFramesLimit, hstate, hx]
  · -- SL_GOOD_FRAME_RUN (R232)
    intro l s hstate hx
    simp [execSlGoodFrameRun, hstate, hx]
  · -- SL_GOOD_FRAME_RUN (R232)
    intro l s hstate hx hreread
    simp [execSlGoodFrameRun, hstate, hx, hreread]
  · -- SL_TRAINING_TIMEOUT (R232)
    intro l s hstate hgood
    simp [execSlTrainingTimeout, hstate, hgood]
  · -- SL_STALL_TIMEOUT (R232)
    intro l s hstate
    simp [execSlStallTimeout, hstate]
  · -- HEAD_REGISTERS_READ (R232)
    intro l s hstate hwant hbuf
    simp [execHeadRegistersRead, hstate, hwant, hbuf]
  · -- HEAD_REGISTERS_READ (R232)
    intro l s hstate hwant hbuf
    simp [execHeadRegistersRead, hstate, hwant, hbuf]
  · -- HEAD_REGISTERS_READ (R232)
    intro l s hstate hreread hwant hbuf
    simp [execHeadRegistersRead, hstate, hreread, hwant, hbuf]
  · -- HEAD_POLL (R242)
    intro l order s hrun hperm
    exact congrArg Host.Outcome.next (if_pos (by simpa [hrun, polledRegs] using hperm))
  · -- MET_EVENT_READ (R253)
    intro path g p s hcanRead hviolKind
    exact congrArg Host.Outcome.next (State.readEvent_of_allowed hcanRead hviolKind)

end Sys2Proof.Machine
end

section
/-! The rows of the energy registers and the supply (spec 10): where each completes and what it leaves. -/

namespace Sys2Proof.Machine

/-- Settles O41, row by row: the guards are the clause's conditions. The state of PFW_EN with which a stuck warning counts (log
158) is the model's choice. -/
theorem energyRowsComplete : Obligations.EnergyRowsComplete := by
  unfold Obligations.EnergyRowsComplete
  and_intros
  · -- GET_ENERGY_STATUS (R285), GET_SUPPLY_STATUS (R285)
    intro r s hvoid
    exact ⟨congrArg Host.Outcome.next (State.unlessVoid_of_live hvoid), congrArg Host.Outcome.next (State.unlessVoid_of_live hvoid)⟩
  · -- GET_REGISTERS (R285)
    intro r s x hlegalVoid hfld
    simp [execGetRegisters, hlegalVoid, hfld]
    rfl
  · -- GET_ACCUMULATOR (R285)
    intro r s x a q hlegalVoid
    simp [execGetAccumulator, hlegalVoid]
    rfl
  · -- SET_PULSE_SOURCE (R276)
    intro r s hvoid hsource hinside
    have hsource' := Option.isSome_iff_ne_none.mp hsource
    have hinside' : (s.modNrg r.port fun x => { x with psNext := some (r.bit 3 0) }).atBoundary r.port = false := hinside
    simp [execSetPulseSource, hvoid, hsource', hinside']
  · -- SET_PULSE_SOURCE (R276)
    intro r s hvoid hsource hboundary
    have hsource' := Option.isSome_iff_ne_none.mp hsource
    have hboundary' : (s.modNrg r.port fun x => { x with psNext := some (r.bit 3 0) }).atBoundary r.port = true := hboundary
    simp [execSetPulseSource, hvoid, hsource', hboundary']
  · -- RUN_CROSS_CHECK (R275)
    intro r k s hguest hvoid hinput hrole hcross
    have hk : (⟨k.1 % 2, by omega⟩ : Fin 2) = k := Fin.ext (Nat.mod_eq_of_lt k.2)
    simp [execRunCrossCheck, Req.fromSystem_of_guest hguest, hvoid, hinput, hk, hrole, hcross]
  · -- CLOSE_NOTICE (R259)
    intro p s hlegalRun hwinFrom
    simp [execCloseNotice, hlegalRun, hwinFrom]
  · -- OPEN_CONFIRMATION (R259)
    intro p s hlegalClock hwinFrom hwinEnd hserviceDown hrebuild
    simp [execOpenConfirmation, hlegalClock, hwinFrom, hwinEnd, hserviceDown, hrebuild]
  · -- LATCH (R260)
    intro d ds p s hdue hlegalRun
    simp [execLatch, hdue, hlegalRun]
  · -- SUBSTITUTED_CYCLE (R265)
    intro p s x n hlegalRun hisAc hn hinWindow
    subst n x
    simp [execSubstitutedCycle, hlegalRun, hisAc, hn, hinWindow]
  · -- DC_TICK_TIMEOUT (R267)
    intro p s hlegalRun hisAc hsiteRef htickStart
    simp [execDcTickTimeout, hlegalRun, hisAc, hsiteRef, htickStart]
  · -- BILLING_STOP (R270)
    intro n p s hlegalRun hstopDue
    simp [execBillingStop, hlegalRun, hstopDue]
  · -- SAMPLE_PROCESS (R258)
    intro s hlegalRun hlegalClock hproc hsamplesHeld n xs crossed a hsiteRef
    subst a crossed xs n
    simp [execSampleProcess, hlegalRun, hlegalClock, hproc, hsamplesHeld, hsiteRef]
  · -- SAMPLE_PROCESS (R258)
    intro q s hlegalRun hlegalClock hproc hsamplesHeld n xs crossed site a hsiteRef
    subst a site crossed xs n
    simp [execSampleProcess, hlegalRun, hlegalClock, hproc, hsamplesHeld, hsiteRef]
  · -- PULSE_OUTPUT_EMIT (R272)
    intro p s hx hlastEdge hps
    simp [execPulseOutputEmit, hx, hlastEdge, hps]
  · -- PULSE_INPUT_EDGE (R274)
    intro k s hlegalRun hlevel
    simp [execPulseInputEdge, hlegalRun, hlevel]
  · -- PULSE_INPUT_EDGE (R274)
    intro k s hlegalRun hlevel hrole hrole'
    simp [execPulseInputEdge, hlegalRun, hlevel, hrole, hrole']
  · -- CROSS_CHECK_TIMEOUT (R286)
    intro k c s hcross
    simp [execCrossCheckTimeout, hcross]
  · exact fun _ => rfl -- SUPPLY_FAIL_TRIP (R280)
  · -- PFW_ASSERT (R280)
    intro s hpfwEn hstuck
    simp [execPfwAssert, hpfwEn, hstuck]
  · -- PFW_ASSERT (R280)
    intro s hpfwEn
    simp [execPfwAssert, hpfwEn]
  · -- EARLY_WARNING_SAVE_REPEAT (R280)
    intro s hsaving hlegalRun
    simp [execEarlyWarningSaveRepeat, hsaving, hlegalRun]
  · exact fun _ => rfl -- SUPPLY_RECOVERED (R281)
  · -- PFW_STUCK (R593)
    intro s hpfwEn hpfw htripped hstuck
    simp [execPfwStuck, hpfwEn, hpfw, htripped, hstuck]
  · exact fun _ => rfl -- PFW_RELEASE (R593)
  · -- NRG_EVENT_READ (R282)
    intro path g p s hcanRead hviolKind
    exact congrArg Host.Outcome.next (State.readEvent_of_allowed hcanRead hviolKind)

end Sys2Proof.Machine
end

section
/-! The rows of billing records, the seal and the optical port (spec 11): where each completes and what it leaves. -/

namespace Sys2Proof.Machine

/-- Settles O42, row by row: the guards are the clause's conditions, and the seal loop reads open or closed by the clause's
thresholds. -/
theorem billingRowsComplete : Obligations.BillingRowsComplete := by
  unfold Obligations.BillingRowsComplete
  and_intros
  · -- GET_BILLING_STATUS (R310), GET_CHAIN_HEAD (R310), GET_LEGAL_PUBKEY (R310)
    intro r s hvoid
    exact ⟨congrArg Host.Outcome.next (State.unlessVoid_of_live hvoid), congrArg Host.Outcome.next (State.unlessVoid_of_live hvoid),
      congrArg Host.Outcome.next (State.unlessVoid_of_live hvoid)⟩
  · -- GET_SEAL_STATUS (R310), GET_OPTICAL_STATUS (R313)
    intro r s
    simp [execGetSealStatus]
    rfl
  · -- GET_SESSION_RECORD (R311)
    intro r j s hvoid hword hfind
    simp only [exec_getSessionRecord, execGetSessionRecord, State.unlessVoid_of_live hvoid, if_neg hword, hfind]
  · -- SWITCH_TARIFF (R295)
    intro r s hlegalVoid hsesIsOpen hpend
    simp [execSwitchTariff, hlegalVoid, hsesIsOpen, hpend]
  · -- SWITCH_TARIFF (R295)
    intro r q n b s hlegalVoid hsesIsOpen hpend
    simp [execSwitchTariff, hlegalVoid, hsesIsOpen, hpend]
  · -- SET_WALL_CLOCK (R293)
    intro r s hguest hlegalVoid
    simp [execSetWallClock, Req.fromSystem_of_guest hguest, hlegalVoid]
  · -- GET_SEAL_CHALLENGE (R303)
    intro r s c haudit hlegalVoid hinService
    simp [execGetSealChallenge, haudit, hlegalVoid, hinService]
    rfl
  · -- RESEAL (R301)
    intro r s q t haudit hlegalVoid hinService hpendSet hringOk hx a b
    subst b a t
    have hready : (!s.inService || (idx 8).any fun p => (s.metAt p).pendSet.isSome) = false := by simp [hinService, hpendSet]
    have hfits : (!q.ringOk || decide (q.ringIn.length < 152)) = false := by simp [hringOk, hx]
    exact congrArg Host.Outcome.next ((if_neg (by simp [haudit])).trans ((State.unlessVoid_of_live hlegalVoid).trans
      ((if_neg (Bool.not_eq_true _ ▸ hready)).trans (if_neg (Bool.not_eq_true _ ▸ hfits)))))
  · -- SESSION_SEAL (R298)
    intro p b s hses hlegalRun hsealDue hwinFrom
    simp [execSessionSeal, hses, hlegalRun, hsealDue, hwinFrom]
  · -- SEAL_LOOP_SAMPLE (R300)
    intro x s hloop hread hrun
    have hopen : loopReadsOpen x = true := by simpa [loopReadsOpen] using hread
    simp [execSealLoopSample, hloop, hopen, hrun]
  · -- SEAL_LOOP_SAMPLE (R300)
    intro x s hloop hread hrun hlife
    have hopen : loopReadsOpen x = true := by simpa [loopReadsOpen] using hread
    simp [execSealLoopSample, hloop, hopen, hrun, hlife, State.modRind]
  · -- SEAL_LOOP_SAMPLE (R300)
    intro x s hloop hohm hgnd hrun hlife
    have hclosed : loopReadsClosed x = true := by simp [loopReadsClosed, hohm, hgnd]
    simp [execSealLoopSample, hloop, hclosed, hrun, hlife, State.modRind]
  · -- SIGN_ON (R304)
    intro s hstate henable hstate'
    simp [execSignOn, hstate, henable, hstate']
  · -- SIGN_ON (R304)
    intro s hstate
    simp [execSignOn, hstate]
  · -- OPT_IDENTIFICATION (R304)
    intro s hstate
    simp [execOptIdentification, hstate]
  · -- OPT_ACKNOWLEDGEMENT (R304)
    intro z s hstate hz
    simp [execOptAcknowledgement, hstate, hz]
  · -- OPT_ACKNOWLEDGEMENT (R304)
    intro z opt s hstate hrefused
    have hrefused' : ¬ (opt = 0 ∧ z ≤ s.cfg.opt.maxBaud) := by omega
    simp [execOptAcknowledgement, hstate, hrefused']
  · -- OPT_ACK_TIMEOUT (R304)
    intro s hstate
    simp [execOptAckTimeout, hstate]
  · -- OPT_DATA_MESSAGE (R306)
    intro s hstate
    simp [execOptDataMessage, hstate]
  · -- OPT_DATA_MESSAGE_DONE (R304)
    intro s hstate
    simp [execOptDataMessageDone, hstate]
  · -- BIL_EVENT_READ (R307)
    intro path g p s hcanRead hviolKind
    exact congrArg Host.Outcome.next (State.readEvent_of_allowed hcanRead hviolKind)
  · -- BIL_UNIT_EVENT_READ (R308)
    intro path g s hcanRead hviolKind
    exact congrArg Host.Outcome.next (State.readEvent_of_allowed hcanRead hviolKind)

end Sys2Proof.Machine
end

section
/-! The rows of power quality and tamper records (spec 12): where each completes and what it leaves. -/

namespace Sys2Proof.Machine

/-- Settles O43, row by row: the guards are the clause's conditions. -/
theorem qualityRowsComplete : Obligations.QualityRowsComplete := by
  unfold Obligations.QualityRowsComplete
  and_intros
  · -- GET_PQ_STATUS (R332), GET_TAMPER_STATUS (R332)
    intro r s hvoid
    exact ⟨congrArg Host.Outcome.next (State.unlessVoid_of_live hvoid), congrArg Host.Outcome.next (State.unlessVoid_of_live hvoid)⟩
  · -- GET_PQ_EVENTS (R333)
    intro r s n bytes hvoid hlow hhigh
    have hcount : ¬ (r.fld 3 14 8 = 0 ∨ 64 < r.fld 3 14 8) := by omega
    simp only [exec_getPqEvents, execGetPqEvents, State.unlessVoid_of_live hvoid, if_neg hcount]
    rfl
  · -- GET_TAMPER_RECORD (R333)
    intro r j s hvoid hrec
    simp only [exec_getTamperRecord, execGetTamperRecord, State.unlessVoid_of_live hvoid, hrec]
  · -- PQ_SUBSTITUTED_REFRESH (R315)
    intro src ch r channels s hacDetector hlegalRun h1 a hrefresh ha hhist
    simp [execPqSubstitutedRefresh, hacDetector, hlegalRun, h1, hrefresh, ha, hhist]
  · -- PQ_SUBSTITUTED_REFRESH (R315)
    intro src ch r channels a v s hdetector hrun hch hrefresh hdue hhist hrms t
    have hready : ¬ (channels ≤ ch.1 ∨ s.legal.proc < a + 640) := by omega
    simp [execPqSubstitutedRefresh, hdetector, hrun, hrefresh, hready, Nat.not_lt.mpr hhist, hrms]
    rfl
  · -- TAMPER_PERSISTENCE (R324)
    intro p kind s c hlegalRun hactive hx
    subst c
    simp [execTamperPersistence, hlegalRun, hactive, hx]
  · -- TAMPER_PERSISTENCE (R324)
    intro p s c hrun hactive hgood
    have hpersist : (s.pqAt p).persist 0 = c := rfl
    simp [execTamperPersistence, hrun, hpersist, hactive, hgood]
  · -- PQ_EVENT_READ (R329)
    intro path g p s hcanRead hviolKind
    exact congrArg Host.Outcome.next (State.readEvent_of_allowed hcanRead hviolKind)
  · -- PQ_SITE_EVENT_READ (R330)
    intro path g s hcanRead hviolKind
    exact congrArg Host.Outcome.next (State.readEvent_of_allowed hcanRead hviolKind)

end Sys2Proof.Machine
end

section
/-! The commands to Safety (spec 13, 14): where each completes and what it leaves. -/

namespace Sys2Proof.Machine

variable {s t : State}

/-- A self-test that is needed, does not run and is not put off starts at once where it is allowed (R389). -/
theorem State.runSelftest_of_allowed {r : Req} {code : Nat} (hrun : s.saf.state = .run) (hneeded : s.needsTest r.port code = true)
    (hidle : s.testRunning r.port ≠ code) (hnew : ∀ d ∈ (s.spAt r.port).deferred, d.1 ≠ code) (hallowed : s.testAllowed r.port code = true) :
    s.runSelftest r code = ((((s.accept r).askSafety 5 r.port.1 [w32 code]).heartbeat).startTest r.port code (some r)).safeAnswer r.port.1 5
      true := by
  simpa [State.runSelftest, hrun, hneeded, hidle, hallowed] using fun x hx => absurd rfl (hnew _ hx)

/-- Where it is not allowed yet it is put off (R389). -/
theorem State.runSelftest_of_deferred {r : Req} {code : Nat} (hrun : s.saf.state = .run) (hneeded : s.needsTest r.port code = true)
    (hidle : s.testRunning r.port ≠ code) (hnew : ∀ d ∈ (s.spAt r.port).deferred, d.1 ≠ code) (hlater : s.testAllowed r.port code = false) :
    s.runSelftest r code = (s.accept r).modSp r.port fun y => { y with deferred := y.deferred ++ [(code, some r)] } := by
  simpa [State.runSelftest, hrun, hneeded, hidle, hlater] using fun x hx => absurd rfl (hnew _ hx)

/-- Settles O44, row by row: one law for a self-test that starts at once and one for a test that is put off; the rest is each
row under its guards. Safety's request performed within the command (log 10) and what ends a brake's release (log 223) are the
model's choice. -/
theorem safetyCommandsComplete : Obligations.SafetyCommandsComplete := by
  unfold Obligations.SafetyCommandsComplete
  and_intros
  · exact fun _ _ => rfl -- GET_SAFETY_STATUS (R366)
  · exact fun _ _ => rfl -- GET_PORT_SAFETY (R366)
  · -- GET_TRIP_LOG (R367)
    intro r s hx hfld
    simp [execGetTripLog, inRange, hx, hfld]
  · exact fun _ _ => rfl -- GET_SAFETY_TABLE_INFO (R366)
  · -- RESET_TRIP (R347)
    intro r p s hportOpt hnamesPort hstate hremoteReset hcauses
    simp [execResetTrip, hportOpt, hnamesPort, hstate, hremoteReset, hcauses]
  · -- REQUEST_SAFETY_RESTART (R355)
    intro r s hfromSystem hstate hrestartOk
    simp [execRequestSafetyRestart, hfromSystem, hstate, hrestartOk]
  · -- REQUEST_SAFE_OUT (R348)
    intro r s hfromSystem hstate hfld
    simp [execRequestSafeOut, hfromSystem, hstate, hfld]
  · exact fun _ _ => rfl -- GET_EARTH_STATUS (R388)
  · -- GET_IMD_GROUP (R388)
    intro r s hgroupOf
    simp [execGetImdGroup, hgroupOf]
  · exact fun _ _ => ⟨_, rfl⟩ -- GET_IMD_GROUP (R388)
  · exact fun _ _ => rfl -- GET_ACTUATOR_STATUS (R388)
  · -- RUN_INSULATION_SELFTEST (R389), RUN_WELD_TEST (R389), RUN_BRAKE_TEST (R389)
    intro x hx r s hrun hneeded hidle hnew hallowed
    have hstart := State.runSelftest_of_allowed hrun hneeded hidle hnew hallowed
    fin_cases hx <;> exact congrArg Host.Outcome.next hstart
  · -- RUN_INSULATION_SELFTEST (R389), RUN_WELD_TEST (R389), RUN_BRAKE_TEST (R389)
    intro x hx r s hrun hneeded hidle hnew hlater
    have hdefer := State.runSelftest_of_deferred hrun hneeded hidle hnew hlater
    fin_cases hx <;> exact congrArg Host.Outcome.next hdefer
  · -- RELEASE_BRAKE (R381)
    intro r b s hstate hbrakeOf h2
    simp [execReleaseBrake, hstate, hbrakeOf, h2]
    rfl
  · -- RELEASE_BRAKE (R381)
    intro r b s hstate hbrakeOf h2
    simp [execReleaseBrake, hstate, hbrakeOf, h2]
    rfl
  · -- APPLY_BRAKE (R381)
    intro r b s hstate hbrakeOf
    simp [execApplyBrake, hstate, hbrakeOf]
  · -- SAF_EVENT_READ (R364)
    intro path g p s hcanRead hviolKind
    exact congrArg Host.Outcome.next (State.readEvent_of_allowed hcanRead hviolKind)
  · -- SAF_SITE_EVENT_READ (R363)
    intro path g s hcanRead hviolKind
    exact congrArg Host.Outcome.next (State.readEvent_of_allowed hcanRead hviolKind)

end Sys2Proof.Machine
end

section
/-! The rows of Safety's inputs and diagnostics (spec 13, 23): where each completes and what it leaves. -/

namespace Sys2Proof.Machine

/-- Settles O45, row by row: the guards are the clause's conditions. The fault at one refresh above 110 degrees (log 122) and a
ramp's end that acts as a heartbeat (log 121) are the model's choice. -/
theorem safetyInputRowsComplete : Obligations.SafetyInputRowsComplete := by
  unfold Obligations.SafetyInputRowsComplete
  and_intros
  · -- SAFE_IN_EDGE (R344)
    intro k level s hlevel
    simp [execSafeInEdge, hlevel]
  · -- SAFE_IN_EDGE (R344)
    intro k level s hlevel hwires
    simp [execSafeInEdge, hlevel, hwires]
  · -- DISCREPANCY_TIMEOUT (R344)
    intro k s a b hpartner hlevel
    subst b a
    simp [execDiscrepancyTimeout, hpartner, hlevel]
  · -- INPUT_PATTERN_CHECK (R344)
    intro k seen s htype hseen
    simp [execInputPatternCheck, htype, hseen]
  · -- INPUT_PATTERN_CHECK (R344)
    intro k seen s htype hseen
    have hbad : (seen % 256 == 2 ^ (s.inRec k).testSrc) = false := by simpa using hseen
    simp only [exec_inputPatternCheck, execInputPatternCheck, htype, hbad, Bool.not_false, Bool.false_eq_true, if_false, if_true]
  · exact fun _ _ => rfl -- SAFETY_ECC_SCRUB (R340)
  · exact fun _ _ => rfl -- SAFETY_ECC_SCRUB (R340)
  · exact fun _ _ => rfl -- TABLE_DIGEST_CHECK (R340)
  · exact fun _ _ => rfl -- COMPARATOR_SELFTEST (R340)
  · exact fun _ _ => rfl -- DRIVER_OFF_TEST (R340)
  · exact fun _ => rfl -- OSCILLATOR_FAULT (R340)
  · exact fun _ => rfl -- RAIL_FAULT (R336)
  · exact fun _ => rfl -- WATCHDOG_QUESTION (R340)
  · -- WATCHDOG_WINDOW_EXPIRY (R340)
    intro s hquestion
    simp [execWatchdogWindowExpiry, hquestion]
  · -- DIE_TEMP_CHECK (R603)
    intro main meas drive s hmain hmeas hdrive
    have hcool : ¬ 174 < meas := by omega
    simp [execDieTempCheck, Nat.not_le.mpr hmain, Nat.not_le.mpr hmeas, Nat.not_le.mpr hdrive, hcool, State.whenB,
      show min 255 main = main by omega, show min 255 meas = meas by omega, show min 255 drive = drive by omega]
  · -- DIE_TEMP_CHECK (R603)
    intro main meas drive s hhot hbyte
    have hwarm : 169 ≤ meas := by omega
    simp [execDieTempCheck, hhot, hwarm, Nat.min_eq_right hbyte]
  · exact fun _ => rfl -- SERVICE_LOSS_TIMEOUT (R350)
  · exact fun _ => rfl -- HEARTBEAT (R350)
  · exact fun _ _ => rfl -- RAMP_DONE (R349)

end Sys2Proof.Machine
end

section
/-! The rows of Safety's cycle and of Service's requests (spec 13): where each completes and what it leaves. -/

namespace Sys2Proof.Machine

/-- Settles O46, row by row: the guards are the clause's conditions. The wires and the enable at the end of Safety's start (log
117) and the end of a port's restart (log 125) are the model's choice. -/
theorem safetyCycleComplete : Obligations.SafetyCycleComplete := by
  unfold Obligations.SafetyCycleComplete
  and_intros
  · -- SAFETY_CYCLE (R338)
    intro c s hpower hwires hflow
    simp [execSafetyCycle, hpower, hwires, hflow]
  · -- SAFETY_CYCLE (R338)
    intro c s hpower hwires hflow hquestion
    simp [execSafetyCycle, hpower, hwires, hflow, hquestion, State.whenB]
  · -- SAFETY_CYCLE (R338)
    intro c t s hpower hwires hflow hquestion hanswer hlow hhigh
    simp [execSafetyCycle, hpower, hwires, hflow, hquestion, hanswer, inRange, hlow, hhigh, State.whenB]
  · -- CLOSE_CONFIRM_TIMEOUT (R165)
    intro p s hstate
    simp [execCloseConfirmTimeout, hstate]
  · -- OPEN_CONFIRM_TIMEOUT (R165)
    intro p s hcoil hconfirmed hstate
    simp [execOpenConfirmTimeout, hcoil, hconfirmed, hstate]
  · -- CONTACT_DISAGREE_TIMEOUT (R166)
    intro p s hstate
    simp [execContactDisagreeTimeout, hstate]
  · -- COIL_CURRENT_FAULT (R379)
    intro p s hcoil htest
    simp [execCoilCurrentFault, hcoil, htest]
  · -- COIL_CURRENT_FAULT (R379)
    intro p t s hcoil htest hcode
    simp [execCoilCurrentFault, hcoil, htest, hcode]
  · -- WINDOW_DEADLINE (R353)
    intro p s hwindow
    simp [execWindowDeadline, hwindow]
  · -- SAFETY_INIT_DONE (R351)
    intro s hstate htableFails
    simp [execSafetyInitDone, hstate, htableFails]
  · -- SAFETY_INIT_DONE (R351)
    intro s hstate
    simp [execSafetyInitDone, hstate]
  · -- SAFETY_INIT_DONE (R351)
    intro o s hstate htableFails
    simp [execSafetyInitDone, hstate, htableFails]
  · -- SAFETY_INIT_DONE (R351)
    intro c s hstate htableFails
    simp [execSafetyInitDone, hstate, htableFails]
  · -- SAFETY_INIT_DONE (R351)
    intro c s hstate
    simp [execSafetyInitDone, hstate]
  · -- CLOSE_REQ (R352)
    intro p s hpermit
    simp [execCloseReq, hpermit]
  · -- CLOSE_REQ (R352)
    intro p s hpermit
    simp [execCloseReq, hpermit]
  · exact fun _ _ => rfl -- OPEN_REQ (R352)
  · exact fun _ _ => rfl -- OUT_REQ (R348)
  · -- RESET_REQ (R347)
    intro q s hremoteReset
    simp [execResetReq, hremoteReset]
  · -- RESTART_REQ (R355)
    intro q s hrestartOk
    simp [execRestartReq, hrestartOk]
  · -- SAFETY_RESTART_DONE (R355)
    intro r p s hrestart hport
    simp [execSafetyRestartDone, hrestart, hport]
  · -- SAFETY_RESTART_DONE (R355)
    intro r item s hrestart hport
    simp [execSafetyRestartDone, hrestart, hport]

end Sys2Proof.Machine
end

section
/-! The rows of the earth fault monitors and their self-tests (spec 14): where each completes and what it leaves. -/

namespace Sys2Proof.Machine

variable {s t : State}

/-- Only a port's own Safety record matters to what a change of it gives. -/
theorem State.modSp_congr {p : Port} {f f' : SafPort → SafPort} (h : f (s.spAt p) = f' (s.spAt p)) : s.modSp p f = s.modSp p f' :=
  congrArg (fun v => { s with sp := v }) (upd_congr h)

/-- No residual current is seen below both limits; the mode of one limit heeds the direct current alone (R376). -/
theorem State.residual_eq_false {p : Port} (hdc : (s.spAt p).sense.rcmDc < 30)
    (hac : (s.spAt p).sense.rcmAc < 150 ∨ (s.portRec p).rcmMode = 1) : s.residual p = false := by
  simp only [State.residual]
  split
  case h_1 => rfl
  case h_2 => simpa using hdc
  case h_3 h =>
    have hac' := hac.resolve_right h
    simp [hdc, hac']

/-- Settles O47, row by row: the guards are the clause's conditions, with the bounds of 85 and 115 kOhm and of the residual
currents made explicit. Resistances above the range as one class (log 127) are the model's choice. -/
theorem earthFaultRowsComplete : Obligations.EarthFaultRowsComplete := by
  unfold Obligations.EarthFaultRowsComplete
  and_intros
  · -- SAFETY_CP_PERIOD (R371)
    intro p pwm hi lo s hhi hpwm hpeOk hpeRun
    simp [execSafetyCpPeriod, hhi, hpwm, hpeOk, hpeRun, show (CpState.b != CpState.a) = true from rfl]
  · -- SAFETY_CP_PERIOD (R371)
    intro p pwm hi lo s hhi hpeOk
    simp [execSafetyCpPeriod, hhi, hpeOk]
  · -- SAFETY_CP_PERIOD (R371)
    intro p pwm hi lo s hhi hpeOk hpeRun hstate
    have hbad : ((CpState.invalid == .b || CpState.invalid == .c || CpState.invalid == .d) && (!pwm || (-1300 ≤ lo && lo ≤ -1100))) = false := rfl
    simp only [exec_safetyCpPeriod, execSafetyCpPeriod, hhi, hbad, hpeOk, hpeRun, hstate, PortState.active]
    simp [show (CpState.invalid != CpState.a) = true from rfl, show (CpState.invalid == CpState.a) = false from rfl]
  · -- IMD_HALF_PERIOD_END (R372)
    intro p ohm ce s hinjects hdirty hpre
    have hclean : (s.modSp p fun x => { x with contaminated := false, pre := x.pre.map fun t => { t with extra := t.extra + b1 t.late } }) =
        s.modSp p fun x => { x with contaminated := false } := State.modSp_congr (by simp [hpre])
    simp only [exec_imdHalfPeriodEnd, execImdHalfPeriodEnd, hinjects, hdirty, hclean]
    simp [State.judgePreclose, hpre]
  · -- IMD_HALF_PERIOD_END (R372)
    intro p ohm ce s hinjects hcontaminated hgroupOf hfilter
    simp [execImdHalfPeriodEnd, hinjects, hcontaminated, State.network, hgroupOf, hfilter]
  · -- IMD_HALF_PERIOD_END (R372)
    intro p v ce s hv
    have hnone : (some v).filter (fun v => v ≤ 10000000) = none := by simp [Option.filter, Nat.not_le.mpr hv]
    simp only [exec_imdHalfPeriodEnd, execImdHalfPeriodEnd, hnone, Option.filter_none]
  · -- IMD_SLOT_ROTATE (R374)
    intro g i q s hg hfind
    have hne : q ≠ i := fun h => by simpa [h] using List.find?_some hfind
    simp [execImdSlotRotate, hg, hfind, hne]
  · exact fun _ _ => rfl -- PRECLOSE_TEST_END (R375)
  · -- RCM_TRIP (R376)
    intro p s hresidual hactive
    simp [execRcmTrip, hresidual, hactive]
  · -- RCM_TRIP (R376)
    intro p s hrcmDc hrcmAc
    simp [execRcmTrip, State.residual_eq_false hrcmDc hrcmAc]
  · -- LOCK_FILTER_EXPIRY (R380)
    intro p s hlockVerify hlockFb
    simp [execLockFilterExpiry, hlockVerify, hlockFb]
  · -- LOCK_FILTER_EXPIRY (R380)
    intro p s hlockVerify hlockFb
    simp [execLockFilterExpiry, hlockVerify, hlockFb]
  · -- SELFTEST_REQ (R383)
    intro p s hisDc hstate hstate' hopenOk htestRunning
    simp [execSelftestReq, hisDc, hstate, hstate', hopenOk, htestRunning]
  · -- SELFTEST_REQ (R383)
    intro p code s hcode hneedsTest htestAllowed
    simp [execSelftestReq, hcode, hneedsTest, htestAllowed]
  · -- INSULATION_SELFTEST_END (R383)
    intro p kohm t s htest hcode hlow hhigh
    have hgood : inRange 85 115 kohm = true := by simp [inRange, hlow, hhigh]
    simp [execInsulationSelftestEnd, htest, hcode, hgood]
  · -- INSULATION_SELFTEST_END (R383)
    intro p kohm t s htest hcode hout
    have hbad : inRange 85 115 kohm = false := by
      simp only [inRange, Bool.and_eq_false_iff, decide_eq_false_iff_not]
      omega
    simp [execInsulationSelftestEnd, htest, hcode, hbad]
  · -- WELD_TEST_TIMER (R383)
    intro p t s htest hcode hweldPhase hmainClosed
    simp [execWeldTestTimer, htest, hcode, hweldPhase, hmainClosed]
  · -- WELD_TEST_TIMER (R383)
    intro p t s htest hcode hphase hopen hother hk
    rw [hk] at hopen hother
    simp [execWeldTestTimer, htest, hcode, hphase, hk, hopen, show s.mainClosed p 1 = false from hother]
  · -- WELD_TEST_TIMER (R383)
    intro p t s htest hcode hphase hopen hother hk
    rw [hk] at hopen hother
    simp [execWeldTestTimer, htest, hcode, hphase, hk, hopen, show s.mainClosed p 0 = false from hother]
  · exact fun _ _ => rfl -- BRAKE_RELEASE_REQ (R381)
  · -- BRAKE_TEST_TIMER (R382)
    intro b s hphase
    simp [execBrakeTestTimer, hphase]
  · -- BRAKE_TEST_TIMER (R382)
    intro b s hphase
    simp [execBrakeTestTimer, hphase]
  · -- BRAKE_TEST_TIMER (R382)
    intro b s hphase
    simp [execBrakeTestTimer, hphase]
  · -- BRAKE_TEST_TIMER (R382)
    intro b p s hphase hbrakePort hthenRelease
    simp [execBrakeTestTimer, hphase, hbrakePort, hthenRelease]
  · -- IMD_EVENT_READ (R385)
    intro path g p s hcanRead hviolKind
    exact congrArg Host.Outcome.next (State.readEvent_of_allowed hcanRead hviolKind)
  · -- BRK_EVENT_READ (R386)
    intro path g s hcanRead hviolKind
    exact congrArg Host.Outcome.next (State.readEvent_of_allowed hcanRead hviolKind)

end Sys2Proof.Machine
end

section
/-! The rows of the load switches (spec 15): where each completes and what it leaves. -/

namespace Sys2Proof.Machine

variable {s t : State}

/-- Only a channel's own record matters to what a change of it gives. -/
theorem State.modLsCh_congr {c : LsIdx} {f f' : LsCh → LsCh} (h : f (s.lsCh c) = f' (s.lsCh c)) : s.modLsCh c f = s.modLsCh c f' :=
  congrArg (fun v => { s with ls := { s.ls with ch := v } }) (upd_congr h)

/-- Nothing that is done for each index is nothing. -/
theorem State.each_id {n : Nat} (s : State) : s.each (n := n) (fun _ u => u) = s := List.foldl_fixed _

/-- A command on named channels fails on none of them where no channel has a reason. -/
theorem findSome?_eq_none_of_named {r : Req} {why : LsIdx → Option Nat} (h : ∀ c, lsNamed r c = true → why c = none) :
    (((idx 40).filter (lsNamed r)).findSome? fun c => (why c).map fun k => (k, c.1)) = none := by
  rw [List.findSome?_eq_none_iff]
  intro c hc
  rw [h c (List.mem_filter.1 hc).2]
  rfl

/-- Settles O48, row by row: the guards are the clause's conditions; a command on named channels fails on none where no channel
has a reason. -/
theorem loadSwitchRowsComplete : Obligations.LoadSwitchRowsComplete := by
  unfold Obligations.LoadSwitchRowsComplete
  and_intros
  · -- LS_OVERCURRENT (R393)
    intro c s hpermitted hmode huv hburst hretry
    simp only [exec_lsOvercurrent, execLsOvercurrent, hpermitted, huv, hburst]
    rw [State.modLsCh_congr (f' := fun y => { y with burst := true, waiting := true, windowOver := false, carry := 0, pulse := 0, retries := 0
                                                     bursts := satInc 0xFFFF y.bursts }) (by simp [hburst])]
    simp [hmode, hretry]
  · -- LS_OVERCURRENT (R393)
    intro c s hpermitted hmode huv hburst hlast
    have hover : ¬ ((s.lsCh c).retries < (s.lsCfg c).retryMax ∧ (s.lsCh c).windowOver = false) := by
      rintro ⟨hretries, hwindow⟩
      obtain h | h := hlast
      · omega
      · simp [hwindow] at h
    simp [execLsOvercurrent, hpermitted, hmode, huv, hburst, hover]
  · -- LS_RETRY_TIMER (R393)
    intro c s hwaiting hcommanded hwindowOver hretries
    simp [execLsRetryTimer, hwaiting, hcommanded, hwindowOver, hretries]
  · -- LS_RETRY_TIMER (R393)
    intro c s hwaiting hcommanded hwindowOver
    simp [execLsRetryTimer, hwaiting, hcommanded, hwindowOver]
  · -- LS_BURST_SUCCESS (R393)
    intro c s hburst hwaiting
    simp [execLsBurstSuccess, hburst, hwaiting]
  · -- LS_BURST_WINDOW_END (R393)
    intro c s hburst
    simp [execLsBurstWindowEnd, hburst]
  · -- LS_THERMAL_TRIP (R394)
    intro c s recent hlatch
    exact congrArg Host.Outcome.next (if_pos (by
      rw [Bool.or_eq_true, decide_eq_true_eq]
      exact hlatch))
  · -- LS_THERMAL_TRIP (R394)
    intro c s recent hlatch hfew
    exact congrArg Host.Outcome.next (if_neg (by
      rw [hlatch, Bool.false_or, decide_eq_true_eq]
      exact Nat.not_le.mpr hfew))
  · exact fun _ _ => rfl -- LS_THERMAL_COOLED (R394)
  · -- LS_SHED (R395)
    intro c s helse hshedNext
    simp [execLsShed, helse, hshedNext]
  · -- LS_SHED (R395)
    intro s hloadNow
    simp [execLsShed, hloadNow]
  · -- LS_OPEN_LOAD_SAMPLE (R397)
    intro c mA s hoff
    exact congrArg Host.Outcome.next (if_pos (by simpa [or_assoc] using hoff))
  · -- LS_OPEN_LOAD_SAMPLE (R397)
    intro c mA s hlow huv hlsOn hmode holFine hmA hopenLoad holRun
    simp [execLsOpenLoadSample, hlow, huv, hlsOn, hmode, holFine, hmA, hopenLoad, holRun]
  · exact fun _ _ _ => rfl -- OFF_OPEN (R397)
  · exact fun _ _ _ => rfl -- LSPWM_STATIC (R398)
  · -- LSPWM_EDGE (R398)
    intro k t tIn v s hmode hstatic hlow hhigh
    have hvalid : inRange 5000 200000 t = true := by simp [inRange, hlow, hhigh]
    simp [execLspwmEdge, hmode, hstatic, hvalid, State.each_id]
  · exact fun _ _ => rfl -- GET_LS_STATUS (R409)
  · -- GET_LS_CHANNEL (R409)
    intro r h s c
    exact congrArg Host.Outcome.next (dif_pos h)
  · exact fun _ _ => rfl -- GET_LK_STATUS (R409)
  · -- SET_LS_OUTPUT (R391)
    intro r s hnamed hload
    simp only [exec_setLsOutput, execSetLsOutput]
    rw [findSome?_eq_none_of_named fun c hc => ?_]
    · simp [Nat.not_lt.mpr hload]
    · obtain ⟨howner, hmode, hfaults⟩ := hnamed c hc
      cases hon : lsValue r c
      · simp [firstReason, howner, hmode]
      · simp [firstReason, howner, hmode, hfaults hon]
  · -- CLEAR_LS_FAULT (R393)
    intro r s hnamed hlatched
    obtain ⟨c, hc, hfault⟩ := hlatched
    have hany : (((idx 40).filter (lsNamed r)).any fun c => (s.lsCh c).overcurrent || (s.lsCh c).thermal) = true :=
      List.any_eq_true.mpr ⟨c, List.mem_filter.2 ⟨List.mem_finRange c, hc⟩, by simpa using hfault⟩
    simp only [exec_clearLsFault, execClearLsFault]
    rw [findSome?_eq_none_of_named fun c hc => ?_]
    · simp [hany]
    · obtain ⟨howner, hcool⟩ := hnamed c hc
      cases hthermal : (s.lsCh c).thermal
      · simp [firstReason, howner]
      · simp [firstReason, howner, hcool hthermal]
  · -- LS_EVENT_READ (R405)
    intro path g s hcanRead hviolKind
    exact congrArg Host.Outcome.next (State.readEvent_of_allowed hcanRead hviolKind)

end Sys2Proof.Machine
end

section
/-! The rows of the lock bridges and of the load switches' supply (spec 15, 23): where each completes and what it leaves. -/

namespace Sys2Proof.Machine

/-- Settles O49, row by row: the guards are the clause's conditions. The end of a brake that also ends the wait for the bridge
to cool (log 129) is the model's choice. -/
theorem driveSupplyRowsComplete : Obligations.DriveSupplyRowsComplete := by
  unfold Obligations.DriveSupplyRowsComplete
  and_intros
  · -- LK_PERIOD (R401)
    intro p v mA s hdriving hfree
    have hfree' : ¬ ((s.lkAt p).state = .unlock ∧ s.unlockBlocked p = true) := by
      rintro ⟨hunlock, hblocked⟩
      obtain h | h := hfree
      · simp [hunlock] at h
      · simp [hblocked] at h
    simp [execLkPeriod, hdriving, hfree']
  · -- LK_PERIOD (R401)
    intro p v mA s hstate hunlockBlocked
    simp [execLkPeriod, hstate, hunlockBlocked, LkState.driving]
  · exact fun _ _ => rfl -- LK_DRIVE_END (R403)
  · exact fun _ _ => rfl -- LK_STALL (R403)
  · exact fun _ _ => rfl -- LK_THERMAL (R403)
  · -- LK_BRAKE_END (R403)
    intro p s hrest hwant
    simp [execLkBrakeEnd, hrest, hwant]
  · -- LK_BRAKE_END (R403)
    intro p d s hrest hwant
    simp [execLkBrakeEnd, hrest, hwant]
  · -- LK_BRAKE_END (R403)
    intro p s hrest hstate hwant
    simp [execLkBrakeEnd, hrest, hstate, hwant]
  · exact fun _ => rfl -- VAUX_LOW (R396)
  · exact fun _ => rfl -- VAUX_UV (R396)
  · exact fun _ => rfl -- VAUX_OVERVOLTAGE (R600)
  · -- VAUX_RECOVERED (R396)
    intro s huv
    simp [execVauxRecovered, huv]
  · -- VAUX_RECOVERED (R396)
    intro s huv
    simp [execVauxRecovered, huv]
  · -- LS_RESTORE_GROUP (R396)
    intro n s hrestore
    simp [execLsRestoreGroup, hrestore]
  · -- VAUX_OVERVOLTAGE_END (R600)
    intro s huv
    simp [execVauxOvervoltageEnd, huv]

end Sys2Proof.Machine
end

section
/-! The rows of the chain's links and its time (spec 16): where each completes and what it leaves. -/

namespace Sys2Proof.Machine

/-- Settles O50, row by row: the guards are the clause's conditions; a link that is up trains. HELLO on a link that is down
starting its training (log 79) and the course of a broken frame (log 225) are the model's choice. -/
theorem chainLinkRowsComplete : Obligations.ChainLinkRowsComplete := by
  unfold Obligations.ChainLinkRowsComplete
  and_intros
  · exact fun _ _ => rfl -- HELLO_SEND (R413)
  · -- HELLO (R421)
    intro k x s hpower hchainOn hstate hphys
    simp [execHello, hpower, hchainOn, hstate, hphys]
  · -- HELLO (R421)
    intro k x s hpower hchainOn hstate
    simp [execHello, hpower, hchainOn, hstate, ChLink.trains]
  · -- CHAIN_LINK_TRAINED (R413)
    intro k s hstate
    simp [execChainLinkTrained, hstate]
  · -- CHAIN_BAD_FRAME (R420)
    intro k symbol s hpower hstate
    simp [execChainBadFrame, hpower, hstate, ChLink.trains]
  · -- CHAIN_BAD_FRAME (R420)
    intro k b s hpower hstate
    simp [execChainBadFrame, hpower, hstate, ChLink.trains]
  · -- CHAIN_DEGRADED_END (R413)
    intro k s hstate
    simp [execChainDegradedEnd, hstate]
  · -- CHAIN_LINK_SILENCE (R413)
    intro k s hpower hstate
    simp [execChainLinkSilence, hpower, hstate, ChLink.trains, State.linkLost]
  · -- CHAIN_PHY_UP (R412)
    intro k s hchainOn hstate
    simp [execChainPhyUp, hchainOn, hstate]
  · -- CHAIN_PHY_UP (R412)
    intro k s hchainOn
    simp [execChainPhyUp, hchainOn]
  · -- CHAIN_PHY_DOWN (R413)
    intro k s hstate
    simp [execChainPhyDown, hstate]
  · exact fun _ _ => rfl -- DELAY_MEASURE (R414)
  · exact fun _ _ _ _ _ => rfl -- DELAY_REQ (R414)
  · -- DELAY_RSP (R414)
    intro k t1 t2 t3 t4 s hpower hstate
    simp [execDelayRsp, hpower, hstate, ChLink.trains]
  · -- P0_REPEAT (R424)
    intro r s hpower hrepeats
    simp [execP0Repeat, hpower, hrepeats, State.modChn]
  · -- RING_RESTORE (R415)
    intro s hchainOn hhead hbroken hlinks
    simp [execRingRestore, hchainOn, hhead, hbroken, hlinks]

end Sys2Proof.Machine
end

section
/-! The frames of the chain (spec 16, 20): where each is taken and what it leaves. -/

namespace Sys2Proof.Machine

/-- Settles O51, row by row: a frame that takes is received and then does what its row says (State.chainRx_takes). The table
sent in five frames (log 224) is the model's choice. -/
theorem chainFramesComplete : Obligations.ChainFramesComplete := by
  unfold Obligations.ChainFramesComplete
  and_intros
  · -- TRIP_ADVICE (R440)
    intro h o c p r t s htakes
    exact congrArg Host.Outcome.next (State.chainRx_takes _ htakes)
  · -- LINK_DOWN (R415)
    intro h u k s htakes
    exact congrArg Host.Outcome.next (State.chainRx_takes _ htakes)
  · -- TOPOLOGY (R421)
    intro h b c s htakes
    exact congrArg Host.Outcome.next (State.chainRx_takes _ htakes)
  · -- CANDIDATE (R416)
    intro h k s htakes
    exact congrArg Host.Outcome.next (State.chainRx_takes _ htakes)
  · -- HEAD_CLAIM (R416)
    intro h k s htakes
    exact congrArg Host.Outcome.next (State.chainRx_takes _ htakes)
  · -- WALK (R417)
    intro h n s htakes
    exact congrArg Host.Outcome.next (State.chainRx_takes _ htakes)
  · -- JOIN (R417)
    intro h serial s htakes
    exact congrArg Host.Outcome.next (State.chainRx_takes _ htakes)
  · -- ASSIGN (R417)
    intro h serial a s htakes
    exact congrArg Host.Outcome.next (State.chainRx_takes _ htakes)
  · -- TABLE (R417)
    intro h x s htakes
    exact congrArg Host.Outcome.next (State.chainRx_takes _ htakes)
  · -- SYNC (R426)
    intro h o c s htakes
    exact congrArg Host.Outcome.next (State.chainRx_takes _ htakes)
  · -- MIRROR (R439)
    intro h e s htakes
    exact congrArg Host.Outcome.next (State.chainRx_takes _ htakes)
  · -- FW_OFFER (R438)
    intro h x s htakes
    exact congrArg Host.Outcome.next (State.chainRx_takes _ htakes)
  · -- FW_BLOCK (R438)
    intro h tag off x s htakes
    exact congrArg Host.Outcome.next (State.chainRx_takes _ htakes)
  · -- FW_NACK (R438)
    intro h tag off len s htakes
    exact congrArg Host.Outcome.next (State.chainRx_takes _ htakes)
  · -- ACT_PROPOSE (R432)
    intro h a s htakes
    exact congrArg Host.Outcome.next (State.chainRx_takes _ htakes)
  · -- ACT_COMMIT (R432)
    intro h a s htakes
    exact congrArg Host.Outcome.next (State.chainRx_takes _ htakes)
  · -- ACT_QUERY (R543)
    intro h a x s htakes
    exact congrArg Host.Outcome.next (State.chainRx_takes _ htakes)
  · -- CHAIN_TX_DONE (R423)
    intro k f p rest s hbusy hnext hqueue
    have hbusy' := Option.isSome_iff_ne_none.mp hbusy
    simp [execChainTxDone, hbusy', hnext, hqueue]
  · -- CHAIN_TX_DONE (R423)
    intro k s hbusy hnext
    have hbusy' := Option.isSome_iff_ne_none.mp hbusy
    simp [execChainTxDone, hbusy', hnext]
  · -- FW_REQ (R438)
    intro k s hstate hromRecovery hpower
    simp [execFwReq, hstate, hromRecovery, hpower]
  · -- ROM_FW_REQ (R545)
    intro s hromRecovery hchainOn hrunning hstate
    simp [execRomFwReq, hromRecovery, hchainOn, hrunning, hstate]

end Sys2Proof.Machine
end

section
/-! The rows of the chain's head and of its commands (spec 16): where each completes and what it leaves. -/

namespace Sys2Proof.Machine

/-- Settles O52, row by row: the guards are the clause's conditions. The table sent in five frames (log 224) is the model's
choice. -/
theorem chainHeadRowsComplete : Obligations.ChainHeadRowsComplete := by
  unfold Obligations.ChainHeadRowsComplete
  and_intros
  · -- ELECTION_START (R416)
    intro s hpower hchainOn hhead helecting hmsyncAt
    simp [execElectionStart, hpower, hchainOn, hhead, helecting, hmsyncAt]
  · -- HEAD_CLAIM_TIMER (R416)
    intro k s hchainOn helecting hbest hserial
    simp [execHeadClaimTimer, hchainOn, helecting, hbest, hserial]
  · -- TABLE_BROADCAST (R417)
    intro s hchainOn hhead hwalkWest s1
    simp [execTableBroadcast, hchainOn, hhead, hwalkWest]
    rfl
  · -- TABLE_BROADCAST (R417)
    intro a s s1 hchainOn hhead hwalkWest htable
    subst s1
    simp [execTableBroadcast, hchainOn, hhead, hwalkWest, htable]
  · -- JOIN_RETRY (R418)
    intro s hchainOn hhead haddr
    simp [execJoinRetry, hchainOn, hhead, haddr]
  · -- CHAIN_JOIN_DONE (R35)
    intro s hreached hchainOn
    simp [execChainJoinDone, hreached, hchainOn]
  · -- SYNC_SEND (R426)
    intro s hchainOn hhead
    simp [execSyncSend, hchainOn, hhead]
  · -- TIME_UNSYNC (R427)
    intro s hpower hchainOn hhead htime
    simp [execTimeUnsync, hpower, hchainOn, hhead, htime]
  · exact fun _ _ => rfl -- GET_CHAIN_STATUS (R443)
  · -- GET_CHAIN_MEMBERS (R443)
    intro r s
    refine ⟨_, ?_, rfl⟩
    simp [List.length_flatMap, Nat.mul_comm]
  · -- GET_LINK_COUNTERS (R443)
    intro r s l
    simp [execGetLinkCounters]
    rfl
  · -- GET_MIRRORED_EVENTS (R444)
    intro r s hon hhead hlow hhigh
    exact congrArg Host.Outcome.next ((if_neg (by simp [hon, hhead])).trans (if_neg (by simp [inRange, hlow, hhigh])))
  · -- REMOVE_UNIT (R417)
    intro r x s hsystem hon hhead hfind hsilent hother
    have hquiet : (s.lease.reports.any (fun u => u.addr == x.2 && s.reporting u) || x.2 == s.chn.addr) = false := by
      simpa [hother] using fun u hu haddr => absurd haddr (hsilent u hu)
    simp [execRemoveUnit, hsystem, hon, hhead, hfind, hquiet]
  · -- SEND_TRIP_ADVICE (R440)
    intro r s hfromSystem hchainOn
    simp [execSendTripAdvice, hfromSystem, hchainOn]
  · -- CLEAR_LINK_COUNTERS (R444)
    intro r s hfromSystem hbit hbit'
    simp [execClearLinkCounters, hfromSystem, hbit, hbit']
  · -- CLEAR_LINK_COUNTERS (R444)
    intro r s hfromSystem hbit hbit'
    simp [execClearLinkCounters, hfromSystem, hbit, hbit']
  · -- CHN_EVENT_READ (R441)
    intro path g s hcanRead hviolKind
    exact congrArg Host.Outcome.next (State.readEvent_of_allowed hcanRead hviolKind)

end Sys2Proof.Machine
end

section
/-! The rows of the mesh (spec 17): where each completes and what it leaves. -/

namespace Sys2Proof.Machine

/-- Settles O53, row by row: a frame that takes is received and then does what its row says (State.meshRx_takes). The retries
and the course of a frame on the air (logs 100, 101, 105) are the model's choice. -/
theorem meshRowsComplete : Obligations.MeshRowsComplete := by
  unfold Obligations.MeshRowsComplete
  and_intros
  · -- NBR (R455)
    intro m l s hmeshTakes
    exact congrArg Host.Outcome.next (State.meshRx_takes _ hmeshTakes)
  · -- TMAP (R452)
    intro m gen seg x s hmeshTakes
    exact congrArg Host.Outcome.next (State.meshRx_takes _ hmeshTakes)
  · -- MESH_DELAY (R457)
    intro m t1 t2 t3 t4 s hmeshTakes
    exact congrArg Host.Outcome.next (State.meshRx_takes _ hmeshTakes)
  · -- PHASE (R460)
    intro m x s hmeshTakes
    exact congrArg Host.Outcome.next (State.meshRx_takes _ hmeshTakes)
  · -- MSYNC (R457)
    intro m origin corr s hmeshTakes
    exact ⟨_, congrArg Host.Outcome.next (State.meshRx_takes _ hmeshTakes)⟩
  · -- MESH_CHAIN_FRAME (R456)
    intro m h b s f hmeshTakes
    subst f
    exact congrArg Host.Outcome.next (State.meshRx_takes _ hmeshTakes)
  · -- MESH_BAD_FRAME (R450)
    intro s hmeshMember
    simp [execMeshBadFrame, hmeshMember]
  · -- MESH_CONTENTION (R454)
    intro f s hqueue hsleeping hmeshMember hair hhop
    simp [execMeshContention, hqueue, hsleeping, hmeshMember, hair, hhop, State.modMsh]
  · -- MESH_CONTENTION (R454)
    intro f s hqueue hsleeping hmeshMember hair hhop
    simp [execMeshContention, hqueue, hsleeping, hmeshMember, hair, hhop, State.modMsh]
  · -- MESH_ACK (R454)
    intro f s hair
    simp [execMeshAck, hair]
  · -- MESH_ACK_TIMEOUT (R454)
    intro f s hair htries
    simp [execMeshAckTimeout, hair, htries]
  · -- MESH_ACK_TIMEOUT (R454)
    intro f s hair hx hsrc
    simp [execMeshAckTimeout, hair, hx, hsrc]
  · -- NBR_SEND (R455)
    intro s hmeshMember
    simp [execNbrSend, hmeshMember]
  · -- TMAP_SEND (R452)
    intro a n segs s hnbr hmeshMember
    simp [execTmapSend, hnbr, hmeshMember]
  · -- MESH_MAP_EXPIRY (R452)
    intro a g n s hnbr hgen
    simp [execMeshMapExpiry, hnbr, hgen]
  · exact fun _ => rfl -- MESH_DELAY_SEND (R457)
  · -- MSYNC_SEND (R457)
    intro s hchainOn hhead
    simp [execMsyncSend, hchainOn, hhead]
  · -- MSYNC_LOST (R457)
    intro t s hmeshMember hhead hmsyncAt
    simp [execMsyncLost, hmeshMember, hhead, hmsyncAt]
  · -- SPL_ZC_EDGE (R447)
    intro k t s hedge
    obtain h | ⟨p, h, hp⟩ := hedge
    · simp [execSplZcEdge, h]
    · simp [execSplZcEdge, h, Nat.not_lt.mpr hp]
  · exact fun _ _ => rfl -- SPL_ZC_ABSENT (R447)
  · -- PHASE_SEND (R459)
    intro s hmeshMember
    simp [execPhaseSend, hmeshMember]
  · exact fun _ _ => rfl -- PHASE_FRAME_TIMEOUT (R451)
  · -- COEX_MASK_CHANGE (R453)
    intro s hmaskDue
    simp [execCoexMaskChange, hmaskDue]
  · exact fun _ _ => rfl -- GET_MESH_STATUS (R466)
  · -- GET_MESH_NEIGHBOURS (R466)
    intro r s
    refine ⟨_, ?_, rfl⟩
    simp [List.length_flatMap, Nat.mul_comm]
  · -- GET_TONE_MAP (R467)
    intro r n s hnbr hrxSegs
    simp [execGetToneMap, hnbr, hrxSegs]
  · -- GET_PHASE_MAP (R466)
    intro r s
    refine ⟨_, ?_, rfl⟩
    simp [List.length_flatMap, Nat.mul_comm]
  · -- CLEAR_MESH_COUNTERS (R466)
    intro r s hfromSystem
    simp [execClearMeshCounters, hfromSystem]
  · -- MSH_EVENT_READ (R464)
    intro path g s hcanRead hviolKind
    exact congrArg Host.Outcome.next (State.readEvent_of_allowed hcanRead hviolKind)

end Sys2Proof.Machine
end

section
/-! The rows of the Cave's capture and of its commands (spec 18): where each completes and what it leaves. -/

namespace Sys2Proof.Machine

/-- Settles O54, row by row: the guards are the clause's conditions. The chunk that a search reads (log 193) and the drive's
free bytes (log 139) are the model's choice. -/
theorem caveRowsComplete : Obligations.CaveRowsComplete := by
  unfold Obligations.CaveRowsComplete
  and_intros
  · -- CAVE_WINDOW_TRIGGER (R489)
    intro q k s htrig
    exact congrArg Host.Outcome.next (if_pos htrig)
  · -- CAVE_WINDOW_END (R489)
    intro num w s hfind hlast
    simp [execCaveWindowEnd, hfind, hlast]
  · -- CAVE_STREAM_SAMPLES (R485)
    intro b c s hcapture henable hvoid husable m0 hdone hnot
    subst m0
    obtain h | h := husable
    · simp [execCaveStreamSamples, hcapture, henable, hvoid, h, Nat.not_le.mpr hdone, hnot]
    · simp [execCaveStreamSamples, hcapture, henable, hvoid, h, CaveState.usable, Nat.not_le.mpr hdone, hnot]
  · -- CAVE_STREAM_SAMPLES (R485)
    intro b s hcapture henable hlegalVoid husable m0 hm0 hnotWritten l valid runs
    subst runs valid l m0
    simp [execCaveStreamSamples, hcapture, henable, hlegalVoid, husable, hm0, hnotWritten]
  · -- CAVE_RECORD_TAKE (R490)
    intro r s hstate hheldRecs hlegalSeq hlegalTop hlegalPart
    simp [execCaveRecordTake, hstate, hheldRecs, hlegalSeq, hlegalTop, hlegalPart]
  · -- CAVE_RECORD_TAKE (R490)
    intro r rest s hstate hheldRecs hoffered hotherPart
    simp [execCaveRecordTake, hstate, hheldRecs, hoffered, hotherPart]
  · -- NVME_WRITE_COMPLETE (R490)
    intro r rest s husable hqueue
    simp [execNvmeWriteComplete, husable, hqueue]
  · -- NVME_WRITE_COMPLETE (R490)
    intro r rest s husable hqueue
    simp [execNvmeWriteComplete, husable, hqueue]
  · -- NVME_WRITE_COMPLETE (R490)
    intro b rest s husable hqueue hwindow
    simp [execNvmeWriteComplete, husable, hqueue, hwindow]
    rfl
  · exact fun _ _ => rfl -- GET_JOURNAL_STATUS (R497)
  · exact fun _ _ => rfl -- GET_CAVE_STATUS (R497)
  · -- FIND_CAVE_RECORD (R484)
    intro r k s husable hkind hk hcount
    have hcount' : r.fld 7 7 0 ≠ 0 := by omega
    obtain rfl | rfl | rfl | rfl | rfl := hk <;> simp [execFindCaveRecord, husable, hkind, hcount']
  · -- FIND_CAVE_RECORD (R484)
    intro r s husable hkind hhead hcount
    have hcount' : r.fld 7 7 0 ≠ 0 := by omega
    simp [execFindCaveRecord, husable, hkind, Nat.not_le.mpr hhead, hcount']
  · -- READ_WAVEFORM (R487)
    intro r s husable hlow hhigh hheads
    have hsome : ((idx 3).filter fun k => r.bit 3 (1 + k.1)).isEmpty = false := by
      rw [List.isEmpty_eq_false_iff_exists_mem]
      obtain h | h | h := hheads
      · exact ⟨0, List.mem_filter.2 ⟨List.mem_finRange _, h⟩⟩
      · exact ⟨1, List.mem_filter.2 ⟨List.mem_finRange _, h⟩⟩
      · exact ⟨2, List.mem_filter.2 ⟨List.mem_finRange _, h⟩⟩
    exact ⟨_, _, _, congrArg Host.Outcome.next ((if_neg (by simp [husable])).trans (if_neg (by simp only [inRange, hlow, hhigh, hsome]; simp)))⟩
  · -- READ_CAVE_RAW (R497)
    intro r s hsystem husable off hsector hlow hhigh hfits
    have hin : (off % 4096 ≠ 0 || !inRange 1 4096 (r.fld 6 12 0) || s.cave.capacity < off + 4096 * r.fld 6 12 0) = false := by
      simp [inRange, hsector, hlow, hhigh, hfits]
    refine congrArg Host.Outcome.next ((if_neg (by simp [hsystem])).trans ((if_neg (by simp [husable])).trans (if_neg ?_)))
    rw [Bool.not_eq_true]
    exact hin
  · -- FORMAT_CAVE (R498)
    intro r s hfromSystem hword hstate
    simp [execFormatCave, hfromSystem, hword, hstate]
  · -- FORMAT_CAVE (R498)
    intro r s hsystem hword hstate hforce hservice
    obtain h | h | h := hstate <;> simp [execFormatCave, hsystem, hword, h, hforce, hservice]
  · -- MARK_WINDOW (R489)
    intro r n s hnamesPort h2
    simp [execMarkWindow, hnamesPort, h2]

end Sys2Proof.Machine
end

section
/-! The rows of the journals and of the drive (spec 18): where each completes and what it leaves. -/

namespace Sys2Proof.Machine

variable {s t : State}

/-- A journal's standby half that is clean ripens the half in use where it is ripe or its ripening waits: the two forms of the test
agree. -/
theorem State.ripen_test {c : Prop} [Decidable c] {b : Bool} {x y : State} :
    (if (c || b : Bool) then x else y) = if c ∨ b = true then x else y :=
  if_congr (by simp) rfl rfl

/-- Settles O55, row by row: the guards are the clause's conditions, and the two forms of a ripening's test agree. The state in
which a drive comes back (log 235) is the model's choice. -/
theorem driveRowsComplete : Obligations.DriveRowsComplete := by
  unfold Obligations.DriveRowsComplete
  and_intros
  · -- CAVE_FLUSH (R490)
    intro s husable
    simp [execCaveFlush, husable]
  · -- SUPERBLOCK_WRITE (R482)
    intro s husable
    simp [execSuperblockWrite, husable]
  · -- NVME_TIMEOUT (R492)
    intro s husable
    cases h : s.cave.state <;> simp [h, CaveState.usable] at husable
    all_goals simp [execNvmeTimeout, h]
  · exact fun _ => rfl -- NVME_CONTROLLER_FATAL (R492)
  · exact fun _ => rfl -- STOR_LINK_DOWN (R492)
  · -- CAVE_FAULT_RETRY (R492)
    intro ok s hstate
    exact congrArg Host.Outcome.next (if_neg (by simp [hstate]))
  · -- DRIVE_WARNING (R495)
    intro temp used w d s hdrive
    simp [execDriveWarning, hdrive]
  · -- CAVE_INIT_DONE (R493)
    intro s hstate henable
    simp [execCaveInitDone, hstate, henable]
  · -- CAVE_INIT_DONE (R493)
    intro s hstate henable
    simp [execCaveInitDone, hstate, henable]
  · -- CAVE_INIT_DONE (R493)
    intro d s hinit henable hformat t hsize
    have hown : (if d.format = 0 then DriveFormat.blank else if d.format = 1 then .own else .foreign) = .own := by simp [hformat]
    simp only [exec_caveInitDone, execCaveInitDone, hinit, henable, hown, bne_self_eq_false, Bool.not_true, Bool.false_eq_true, if_false]
    exact congrArg Host.Outcome.next (if_neg (Nat.not_lt.mpr hsize))
  · exact fun _ _ => rfl -- CAVE_CONFIRM (R477)
  · -- CAVE_ACK_WRITE (R477)
    intro s hlegalRun
    simp [execCaveAckWrite, hlegalRun]
  · -- RIPENING_COMPLETE (R474)
    intro x s hrun
    simp [execRipeningComplete, hrun]
  · -- RIPENING_COMPLETE (R474)
    intro x s hrun
    simp [execRipeningComplete, hrun]
  · -- HALF_ZEROED (R474)
    exact fun _ => congrArg Host.Outcome.next State.ripen_test
  · -- HALF_ZEROED (R474)
    exact fun _ => congrArg Host.Outcome.next State.ripen_test
  · -- JNL_EVENT_READ (R495)
    intro path g s hcanRead hviolKind
    exact congrArg Host.Outcome.next (State.readEvent_of_allowed hcanRead hviolKind)
  · -- CAV_EVENT_READ (R495)
    intro path g s hcanRead hviolKind
    exact congrArg Host.Outcome.next (State.readEvent_of_allowed hcanRead hviolKind)

end Sys2Proof.Machine
end

section
/-! The rows of tamper and of the device's life (spec 19): where each completes and what it leaves. -/

namespace Sys2Proof.Machine

/-- Settles O56, row by row: the guards are the clause's conditions. What a tamper event does in Dormant (log 229), a final test
without a root (log 160) and the order of the audit log (log 141) are the model's choices. -/
theorem deviceRowsComplete : Obligations.DeviceRowsComplete := by
  unfold Obligations.DeviceRowsComplete
  and_intros
  · -- TAMPER_EVENT (R503)
    intro k s harmed hretired hrootPresent hpower
    simp [execTamperEvent, State.tamperEvent, harmed, hretired, hrootPresent, hpower]
  · -- TAMPER_EVENT (R503)
    intro k s harmed hretired hrootPresent hpower
    simp [execTamperEvent, State.tamperEvent, harmed, hretired, hrootPresent, hpower]
  · -- TAMPER_SENSOR_SAMPLE (R502)
    intro mesh light temp lid s harmed
    simp [execTamperSensorSample, harmed]
  · -- BATTERY_LOSS (R504)
    intro s hpower hshipCopy
    simp [execBatteryLoss, hpower, hshipCopy]
  · exact fun _ => rfl -- VBAT_LOW (R500)
  · exact fun _ => rfl -- VBAT_RESTORED (R592)
  · -- RTC_ALARM_EXPIRY (R506)
    intro s halarmS halarmS'
    simp [execRtcAlarmExpiry, halarmS, halarmS']
  · -- PROVISIONING (R507)
    intro s hlifecycle
    simp [execProvisioning, hlifecycle]
  · -- FINAL_TEST (R507)
    intro s hlifecycle hloopOpen
    simp [execFinalTest, hlifecycle, hloopOpen]
  · -- KEY_SESSION_IDLE_EXPIRY (R515)
    intro g h x s hkeySes
    simp [execKeySessionIdleExpiry, hkeySes]
  · -- VAULT_FIXED_TIME (R516)
    intro g o s hfind htoRing
    simp [execVaultFixedTime, hfind, htoRing]
  · -- VAULT_FIXED_TIME (R516)
    intro g o s hfind htoRing
    simp [execVaultFixedTime, hfind, htoRing]
  · exact fun _ _ => rfl -- GET_KEY_STATUS (R523)
  · -- GET_AUDIT_LOG (R518)
    intro r s haudit hservice hlow hhigh
    exact congrArg Host.Outcome.next ((if_neg (by simp [haudit, hservice])).trans (if_neg (by simp [inRange, hlow, hhigh])))
  · -- SET_RTC_ALARM (R506)
    intro r s hfromSystem
    simp [execSetRtcAlarm, hfromSystem]
  · -- RENEW_ROOT (R520)
    intro r s hsystem hroot hservice halarms hword
    have hquiet : s.rind.alarm.toList.any id = false := by
      rw [List.any_eq_false]
      exact fun a ha => by simp [halarms a ha]
    simp only [exec_renewRoot, execRenewRoot, hsystem, hroot, hservice, hquiet, hword]
    rfl
  · -- RETIRE_DEVICE (R507)
    intro r s haudit hinService hp hword
    simp [execRetireDevice, haudit, hinService, hp, hword]

end Sys2Proof.Machine
end

section
/-! The commands to the key vault (spec 19): where each completes and what it leaves. -/

namespace Sys2Proof.Machine

/-- Settles O57, row by row: the guards are the clause's conditions. The lengths of the keys (log 199) are the model's choice.
-/
theorem vaultCommandsComplete : Obligations.VaultCommandsComplete := by
  unfold Obligations.VaultCommandsComplete
  and_intros
  · -- GET_SLOT_INFO (R523)
    intro r k s hvaultDown hslotAt hfromSystem
    simp [execGetSlotInfo, hvaultDown, hslotAt, hfromSystem]
  · -- GET_PUBLIC_KEY (R523)
    intro r k s hslotFor halg
    simp [execGetPublicKey, hslotFor, halg]
  · -- GET_ATTESTATION (R519)
    intro r s hvaultDown
    simp [execGetAttestation, hvaultDown]
  · -- GENERATE_KEY (R514)
    intro r s n hdown hlow hhigh hcreate hfree hkind hbit
    have hrange : inRange 16 255 (r.fld 3 7 0) = true := by simp [inRange, show 16 ≤ r.fld 3 7 0 from hlow, show r.fld 3 7 0 ≤ 255 from hhigh]
    simp only [exec_generateKey, execGenerateKey, hdown, hrange, hcreate, hkind, hbit, show s.slotAt (r.fld 3 7 0) = none from hfree]
    rfl
  · -- IMPORT_KEY (R514)
    intro r s n q hringOk hsize hdown hlow hcreate hfree hkek hbit hec
    subst q n
    have hordinary : inRange 5 9 (r.fld 3 7 0) = false := by
      simp only [inRange, Bool.and_eq_false_iff, decide_eq_false_iff_not]
      omega
    simp [execImportKey, hdown, hringOk, Nat.not_lt.mpr hsize, hordinary, Nat.not_lt.mpr hlow, hcreate, hfree, hkek, hbit, hec]
  · -- EXPORT_KEY (R523)
    intro r k w s hfld hslotFor hbit hslotFor'
    simp [execExportKey, hfld, hslotFor, hbit, hslotFor']
  · -- DELETE_KEY (R514)
    intro r k s hvaultDown hslotAt hx hfromSystem
    obtain h | h := hfromSystem <;> simp [execDeleteKey, hvaultDown, hslotAt, Nat.not_lt.mpr hx, h]
  · -- SIGN_DIGEST (R523)
    intro r k s hbit hslotFor halg
    simp [execSignDigest, hbit, hslotFor, halg]
    rfl
  · -- VERIFY_SIGNATURE (R523)
    intro r k s q hringOk hslotFor
    subst q
    simp [execVerifySignature, hringOk, hslotFor]
  · -- OPEN_KEY_SESSION (R515)
    intro r k h s hslot halg hlen hfree
    have hok : ¬ ((r.fld 3 11 8 ≠ 6 ∧ r.fld 3 11 8 ≠ 7) ∨ 32 < r.fld 4 5 0) := by omega
    simp only [exec_openKeySession, execOpenKeySession, hslot, if_neg hok, hfree]
  · -- CLOSE_KEY_SESSION (R515)
    intro r x s h hvaultDown hkeySes
    subst h
    simp [execCloseKeySession, hvaultDown, hkeySes]
  · -- KEY_EVENT_READ (R521)
    intro path g s hcanRead hviolKind
    exact congrArg Host.Outcome.next (State.readEvent_of_allowed hcanRead hviolKind)

end Sys2Proof.Machine
end

section
/-! The rows of the firmware update (spec 20): where each completes and what it leaves. -/

namespace Sys2Proof.Machine

/-- Settles O58, row by row: the guards are the clause's conditions. A staging ring read in parts, with its end (log 205), and
an activation scheduled on a unit without an address (log 226) are the model's choices. -/
theorem updateRowsComplete : Obligations.UpdateRowsComplete := by
  unfold Obligations.UpdateRowsComplete
  and_intros
  · -- BEGIN_STAGING (R531)
    intro r s hfromSystem hfld hfld' hstaging hstgBlocked
    simp [execBeginStaging, hfromSystem, hfld, hfld', hstaging, hstgBlocked]
  · -- ABORT_STAGING (R535)
    intro r s hcls hrunning hright
    obtain h | h := hright <;> simp [execAbortStaging, hcls, hrunning, h]
  · -- STAGING_WINDOW_WRITE (R532)
    intro g c bytes s hwrite hstaging hclass
    have hin : inStaging (0x8000 + (s.stg c).pos % 32768) = true := by
      simp only [inStaging, inRange, Bool.and_eq_true, decide_eq_true_eq]
      omega
    have hkind : s.violKind .pcie g (0x8000 + (s.stg c).pos % 32768) true false = none := by
      rw [State.violKind_staging hin, hstaging]
      rfl
    simp only [exec_stagingWindowWrite, execStagingWindowWrite, hin, State.access_write hwrite hkind, hclass]
    simp
  · -- STAGING_WINDOW_WRITE (R532)
    intro g off bytes s hin hwrite hstaging
    have hkind : s.violKind .pcie g off true false = some 4 := by
      rw [State.violKind_staging hin, hstaging]
      rfl
    refine ⟨?_, hkind⟩
    simp [execStagingWindowWrite, hin, State.access, hwrite, hkind]
  · -- STAGING_RING_READ (R531)
    intro c q bytes d s g part r t hcmd hsource hstate hlast hdescs hown hhost hgoes
    have hready : (g.source ≠ 1 || !(g.state == .header || g.state == .body) || g.lastRead || r.descs.isEmpty || !d.own || d.toHost) = false := by
      simp [hsource, hstate, hlast, hdescs, hown, hhost]
    simp only [exec_stagingRingRead, execStagingRingRead, show (s.stg c).cmd = some q from hcmd]
    refine congrArg Host.Outcome.next ((if_neg ?_).trans ((if_neg ?_).trans (if_congr ?_ rfl rfl)))
    · rw [Bool.not_eq_true]
      exact hready
    · rw [beq_iff_eq]
      exact hgoes
    · rw [Bool.or_eq_true, decide_eq_true_eq, beq_iff_eq]
  · -- STAGING_TIMEOUT (R532)
    intro c s hstate
    simp [execStagingTimeout, hstate]
  · -- STAGING_BODY_COMPLETE (R530)
    intro ok s hstate hromRecovery
    simp [execStagingBodyComplete, hstate, hromRecovery]
  · exact fun _ _ => rfl -- GET_UPDATE_STATUS (R549)
  · -- SCHEDULE_ACTIVATION (R536)
    intro r s b hsystem hcls hbit hvalid htag hact hfenced haddr
    subst b
    cases hon : s.chainOn
    · simp [execScheduleActivation, hsystem, hcls, hbit, hvalid, htag, hact, hfenced, hon]
    · simp [execScheduleActivation, hsystem, hcls, hbit, hvalid, htag, hact, hfenced, hon, haddr hon]
  · -- CANCEL_ACTIVATION (R550)
    intro r s hfromSystem hstate
    simp [execCancelActivation, hfromSystem, hstate]
  · -- ACTIVATION_WAIT_TIMEOUT (R536)
    intro s hisHead
    simp [execActivationWaitTimeout, hisHead]
  · -- ACTIVATION_TIME (R537)
    intro s hstate hpendingStart hfenced hcls
    simp [execActivationTime, hstate, hpendingStart, hfenced, hcls]
  · -- ACTIVATION_TIME (R537)
    intro s hstate hpendingStart hfenced hcls hinService hsaving
    simp [execActivationTime, hstate, hpendingStart, hfenced, hcls, hinService, hsaving]
  · -- ACTIVATION_TIME (R537)
    intro s hstate hpendingStart hfenced hcls hstate'
    simp [execActivationTime, hstate, hpendingStart, hfenced, hcls, hstate']
  · -- SERVICE_SWAP_DONE (R538)
    intro s hstate hcls
    simp [execServiceSwapDone, hstate, hcls]
  · -- TRIAL_PASSED (R542)
    intro s hromRecovery
    simp [execTrialPassed, hromRecovery]
  · -- UPD_EVENT_READ (R547)
    intro path g s hcanRead hviolKind
    exact congrArg Host.Outcome.next (State.readEvent_of_allowed hcanRead hviolKind)

end Sys2Proof.Machine
end

section
/-! The rows of the reader and of the tag (spec 21): where each completes and what it leaves. -/

namespace Sys2Proof.Machine

variable {s t : State}

/-- A field that comes back after a long gap powers the tag with a fresh identifier. -/
theorem State.tagPower_of_long_gap (htag : s.cfg.nfc.tag = true) (hgap : s.shortGap = false) :
    s.tagPower = (s.modFree (· + 3)).modTag fun t => { t.open_ with
      phase := .idle
      uid := [0x08, Config.freeByte s.free, Config.freeByte (s.free + 1), Config.freeByte (s.free + 2)] } := by
  simp [State.tagPower, htag, hgap]

/-- After a short gap the tag keeps its identifier. -/
theorem State.tagPower_of_short_gap (htag : s.cfg.nfc.tag = true) (hgap : s.shortGap = true) :
    s.tagPower = s.modTag fun t => { t.open_ with phase := .idle } := by
  simp [State.tagPower, htag, hgap]

/-- Settles O59, row by row: the tag serves where it is selected, and a field powers it with a fresh identifier but after a
short gap. Reading either page as a tag read (log 109), the bytes of a selection (log 113) and the length of a short gap (log
230) are the model's choices. -/
theorem contactlessRowsComplete : Obligations.ContactlessRowsComplete := by
  unfold Obligations.ContactlessRowsComplete
  and_intros
  · -- NFC_POLL (R554)
    intro cards s hreader hcard hpower hreached hromRecovery
    simp [execNfcPoll, hreader, hcard, hpower, hreached, hromRecovery]
  · -- NFC_POLL (R554)
    intro s hreader hcard hpower hreached hromRecovery
    simp [execNfcPoll, hreader, hcard, hpower, hreached, hromRecovery]
  · -- NFC_POLL (R554)
    intro k s hreader hcard hreleased hpower hreached hromRecovery
    have hfound : (if ([k].filter (! ·.typeB)).isEmpty then [k] else [k].filter (! ·.typeB)) = [k] := by
      cases htype : k.typeB <;> simp [htype]
    unfold exec execNfcPoll
    simp only [hfound]
    simp [hreader, hcard, hreleased, hpower, hreached, hromRecovery]
  · -- NFC_PRESENCE_CHECK (R555)
    intro k s hcard
    simp only [exec_nfcPresenceCheck, execNfcPresenceCheck, State.dropCard, hcard, Option.isSome_some, if_true, Bool.false_eq_true, if_false]
    rfl
  · exact fun _ => rfl -- NFC_PRESENCE_CHECK (R555)
  · exact fun _ => rfl -- NFC_HOLD_TIMEOUT (R555)
  · -- TRANSCEIVE_APDU (R578)
    intro r k b s q hreaderOwner hcard hisoDep hringOk hx
    subst q
    simp [execTransceiveApdu, hreaderOwner, hcard, hisoDep, hringOk, hx]
  · -- RELEASE_CARD (R555)
    intro r k s hreaderOwner hcard
    simp [execReleaseCard, hreaderOwner, hcard]
  · exact fun _ _ => rfl -- GET_NFC_STATUS (R577)
  · -- SET_TAG_PUBLIC (R578)
    intro r s hfromSystem
    simp [execSetTagPublic, hfromSystem]
  · -- SET_TAG_SECRETS (R578)
    intro r s hfromSystem hinService hbit hx hfld hbit'
    simp [execSetTagSecrets, inRange, hfromSystem, hinService, hbit, hx, hfld, hbit']
  · -- RESET_TAG_LOCK (R560)
    intro r s hfromSystem hlocked
    simp [execResetTagLock, hfromSystem, hlocked]
  · -- TAG_FIELD_ON (R558)
    intro s hcard htag hshortGap
    have hpowered := State.tagPower_of_long_gap (s := s.modNfc fun n => { n with ext := true, seen := true }) htag hshortGap
    simp only [exec_tagFieldOn, execTagFieldOn, hcard, hpowered]
    rfl
  · -- TAG_FIELD_ON (R558)
    intro s hcard htag hshortGap
    have hpowered := State.tagPower_of_short_gap (s := s.modNfc fun n => { n with ext := true, seen := true }) htag hshortGap
    simp only [exec_tagFieldOn, execTagFieldOn, hcard, hpowered]
    rfl
  · exact fun _ => rfl -- TAG_FIELD_LOST (R559)
  · -- REQA (R557)
    intro s hphase
    simp [execReqa, hphase]
  · -- REQA (R557)
    intro s hphase
    simp [execReqa, hphase]
  · -- REQA (R557)
    intro s hphase
    simp [execReqa, hphase]
  · -- SELECT (R559)
    intro s hserving
    simp [execSelect, hserving]
  · -- READ_PAGE (R563)
    intro s hserving hselected
    simp [execReadPage, State.selected_of_selected hserving hselected]
  · -- READ_PAGE (R563)
    intro s hserving hselected hsecured
    simp [execReadPage, State.selected_of_selected hserving hselected, hsecured]
  · -- VERIFY (R560)
    intro pw d s hserving hselected hpwDigest hlocked
    simp [execVerify, State.selected_of_selected hserving hselected, hpwDigest, hlocked]
  · -- GET_CHALLENGE (R559)
    intro s hserving hselected
    simp [execGetChallenge, State.selected_of_selected hserving hselected]
  · -- MUTUAL_AUTH (R561)
    intro data rnd k s hserving hselected hkey hchallenge
    simp [execMutualAuth, State.selected_of_selected hserving hselected, hkey, hchallenge]
  · -- DESELECT (R559)
    intro s hserving
    simp [execDeselect, hserving]
  · -- TAG_PAGE_REWRITE (R563)
    intro s hpower hreached hromRecovery
    simp [execTagPageRewrite, hpower, hreached, hromRecovery]

end Sys2Proof.Machine
end

section
/-! The rows of the display (spec 21): where each completes and what it leaves. -/

namespace Sys2Proof.Machine

variable {s t : State}

theorem State.modDsp_congr {f g : Dsp → Dsp} (h : f s.dsp = g s.dsp) : s.modDsp f = s.modDsp g := by
  rw [State.modDsp, State.modDsp, h]

/-- Legal's lines are drawn anew while the machine runs. -/
theorem State.drawLegal_of_run (hpower : s.sys.power = .run) :
    s.drawLegal = s.modDsp fun d => { d with next := s.fitLines s.legalLines } :=
  if_pos hpower

theorem State.drawLegal_of_not_run (hpower : s.sys.power ≠ .run) : s.drawLegal = s :=
  if_neg hpower

/-- A boundary with no region waiting shows the next lines and leaves the pixels. -/
theorem State.frameBoundary_of_none (hdsp : s.cfg.dsp = s.dsp.cfg) (hpending : s.dsp.pending = Vector.replicate 8 none)
    (hod : s.dsp.cfg.od = false) :
    execFrameBoundary s = .next (s.modDsp fun x => { x with
      boost := [], applied := satAdd 0xFFFF x.applied 0
      shown := if s.legalVoid then s.fitLines s.legalLines else x.next }) := by
  have hrects : s.dsp.pending.toList.filterMap id = [] := by rw [hpending]; rfl
  simp only [execFrameBoundary, State.takeGeometry_of_same hdsp, hrects, hod, List.isEmpty_nil, if_true]
  exact congrArg Host.Outcome.next (State.modDsp_congr (by simp [← hpending]))

/-- A boundary with one region waiting writes its pixels. -/
theorem State.frameBoundary_of_lone {q : Rect} (hdsp : s.cfg.dsp = s.dsp.cfg)
    (hpending : s.dsp.pending = upd (Vector.replicate 8 none) 0 fun _ => some q) (hod : s.dsp.cfg.od = false) :
    execFrameBoundary s = .next ((s.modDsp fun x => { x with
      frame := (q.cells x.cfg.width).foldl (fun m c => cellPut m c.1 c.2) x.frame, boost := [], pending := Vector.replicate 8 none
      applied := satAdd 0xFFFF x.applied 1
      shown := if s.legalVoid then s.fitLines s.legalLines else x.next }).dspRaise 1) := by
  have hrects : s.dsp.pending.toList.filterMap id = [q] := by rw [hpending]; rfl
  simp only [execFrameBoundary, State.takeGeometry_of_same hdsp, hrects, hod, List.isEmpty_cons, Bool.false_eq_true, if_false,
    List.flatMap_cons, List.flatMap_nil, List.append_nil, List.length_cons, List.length_nil]
  exact congrArg (fun u => Host.Outcome.next (State.dspRaise u 1)) (State.modDsp_congr rfl)

/-- Settles O60, row by row: one law for Legal's lines while the machine runs and one for a boundary with no region and with
one. The legal region as lines of text (log 110) is the model's choice. -/
theorem displayRowsComplete : Obligations.DisplayRowsComplete := by
  unfold Obligations.DisplayRowsComplete
  and_intros
  · -- LEGAL_VIEW_REFRESH (R568)
    intro s hpower
    exact congrArg Host.Outcome.next (State.drawLegal_of_run hpower)
  · -- LEGAL_LINE_ALTERNATE (R568)
    intro s hpower
    exact congrArg Host.Outcome.next (State.drawLegal_of_run hpower)
  · -- LEGAL_VIEW_CYCLE (R568)
    intro s hpower
    exact congrArg Host.Outcome.next (if_congr Iff.rfl (State.drawLegal_of_run hpower) rfl)
  · -- LEGAL_VIEW_REFRESH (R568)
    intro s hpower
    exact congrArg Host.Outcome.next (State.drawLegal_of_not_run hpower)
  · -- FRAME_BOUNDARY (R569)
    intro s hdsp hpending hod hlegalVoid
    rw [exec_frameBoundary, State.frameBoundary_of_none hdsp hpending hod]
    simp [hlegalVoid]
  · -- FRAME_BOUNDARY (R569)
    intro q s hdsp hpending hod hlegalVoid
    rw [exec_frameBoundary, State.frameBoundary_of_lone hdsp hpending hod]
    simp [hlegalVoid]
  · -- FRAME_BOUNDARY (R569)
    intro s hdsp hpending hod hlegalVoid
    rw [exec_frameBoundary, State.frameBoundary_of_none hdsp hpending hod]
    simp [hlegalVoid]
  · -- UPDATE_REGION (R569)
    intro r s c d q n hdisplayOwner hx hx' hx'' hy hlegalRowsN hringOk hw hn
    subst n q d c
    have hinside : (r.fld 5 8 0 = 0 || r.fld 5 22 16 = 0 || s.dsp.cfg.width < r.fld 4 8 0 + r.fld 5 8 0 ||
        s.dsp.cfg.height < r.fld 4 22 16 + r.fld 5 22 16 || r.fld 4 22 16 < s.dsp.cfg.legalRowsN : Bool) = false := by
      simp only [Bool.or_eq_false_iff, decide_eq_false_iff_not]
      dsimp only at hx hx' hx'' hy hlegalRowsN
      omega
    simp only [exec_updateRegion, execUpdateRegion, hdisplayOwner, hinside, hringOk, hn, Nat.not_lt.mpr hw]
    rfl
  · -- SET_PANEL_POWER (R571)
    intro r s hdisplayOwner
    simp [execSetPanelPower, hdisplayOwner]
  · -- SELECT_LEGAL_VIEW (R568)
    intro r s hdisplayOwner hpower hstate hfld hnamesPort
    simp [execSelectLegalView, hdisplayOwner, hstate, hfld, hnamesPort, State.drawLegal_of_run (s := s.modDsp _) hpower]
  · -- SELECT_LEGAL_VIEW (R568)
    intro r s hdisplayOwner hpower hstate hfld hnamesPort
    have hunit : (r.fld 3 1 0 == 1 || r.fld 3 1 0 == 2) = false := by
      rcases hfld with h | h <;> simp [h]
    simp [execSelectLegalView, hdisplayOwner, hstate, hunit, hnamesPort, State.drawLegal_of_run (s := s.modDsp _) hpower]
  · exact fun _ _ => rfl -- GET_DISPLAY_STATUS (R581)
  · -- NFC_EVENT_READ (R574)
    intro path g s hcanRead hviolKind
    exact congrArg Host.Outcome.next (State.readEvent_of_allowed hcanRead hviolKind)
  · -- DSP_EVENT_READ (R575)
    intro path g s hcanRead hviolKind
    exact congrArg Host.Outcome.next (State.readEvent_of_allowed hcanRead hviolKind)

end Sys2Proof.Machine
end

section
/-! What a chip reset leaves (spec 02 R30): Rind, the sensor links, the Legal journal and the records of the ports but for the copies of
their event registers. That these copies are cleared (log 15) and that the seal of an open session falls due (log 201) are the model's
choices. -/

namespace Sys2Proof.Machine

variable {s t u : State}

/-! ### Service counts as lost -/

/-- Safety holds Service for lost (R32). -/
def ServiceGone (s : State) : Prop := s.saf.serviceLost = true

theorem serviceGone_restsOn : RestsOn [.saf] ServiceGone where
  of s t hsame h := by
    have hsaf : t.saf = s.saf := hsame .saf (by decide)
    rwa [ServiceGone, hsaf]

theorem Holds.gone_only {ps : List Part} (h : Holds ServiceGone t) (k : Only ps t u) (hps : apart ps [.saf] = true) :
    Holds ServiceGone u := h.only serviceGone_restsOn k hps

theorem Holds.gone_modSaf {f : Saf → Saf} (h : Holds ServiceGone t) (hf : (f t.saf).serviceLost = t.saf.serviceLost) :
    Holds ServiceGone (t.modSaf f) := ⟨hf.trans h.of⟩

theorem Saf.put_serviceLost (x : Saf) (m : SafMsg) : (x.put m).serviceLost = x.serviceLost := by
  unfold Saf.put
  extract_lets l
  split
  · rfl
  · split <;> rfl

theorem Holds.gone_safRaise {bits : Word} (h : Holds ServiceGone t) : Holds ServiceGone (t.safRaise bits) :=
  h.gone_modSaf rfl |>.gone_only (State.pendAll_only ..) rfl

theorem Holds.gone_safeSend {type port : ℕ} {ws : List Word} (h : Holds ServiceGone t) :
    Holds ServiceGone (t.safeSend type port ws) := by
  unfold State.safeSend
  extract_lets _ t
  have ht : Holds ServiceGone t := h.gone_modSaf rfl
  exact .ite (ht.gone_only (State.emit_only ..) rfl) (ht.gone_modSaf (Saf.put_serviceLost ..))

theorem Holds.gone_portMsg {p : Port} (h : Holds ServiceGone t) : Holds ServiceGone (t.portMsg p) :=
  h.gone_only (State.modSp_only ..) rfl |>.gone_safeSend

theorem Holds.gone_setPort {p : Port} {x : PortState} (h : Holds ServiceGone t) : Holds ServiceGone (t.setPort p x) :=
  .ite h (h.gone_only (State.modSp_only ..) rfl |>.gone_only (State.irqSafe_only ..) rfl |>.gone_portMsg)

theorem Holds.gone_busChanged {p : Port} (h : Holds ServiceGone t) : Holds ServiceGone (t.busChanged p) := by
  unfold State.busChanged
  split
  · exact h.gone_only (State.modSp_only ..) rfl
  · extract_lets t _
    have ht : Holds ServiceGone t := h.foldl fun _ _ hu => hu.gone_only (State.modSp_only ..) rfl
    split
    · exact .ite ht (ht.gone_modSaf rfl)
    · exact ht.gone_modSaf rfl

theorem Holds.gone_coilsOff {p : Port} (h : Holds ServiceGone t) : Holds ServiceGone (t.coilsOff p) :=
  .ite h (h.gone_only (State.modSp_only ..) rfl |>.gone_busChanged)

theorem Holds.gone_openPort {p : Port} (h : Holds ServiceGone t) : Holds ServiceGone (t.openPort p) := by
  unfold State.openPort
  split
  · exact h.gone_coilsOff.gone_setPort
  · exact h.gone_coilsOff.gone_setPort
  · exact h

theorem Holds.gone_startWindow {p : Port} (h : Holds ServiceGone t) : Holds ServiceGone (t.startWindow p) := by
  unfold State.startWindow
  split
  · exact h.gone_openPort
  · split
    · exact .ite h.gone_openPort (h.gone_only (State.modSp_only ..) rfl |>.gone_portMsg)
    · exact h.gone_only (State.modSp_only ..) rfl |>.gone_portMsg
  · exact h

theorem Holds.gone_brkRaise {bits : Word} (h : Holds ServiceGone t) : Holds ServiceGone (t.brkRaise bits) :=
  h.gone_modSaf rfl |>.gone_only (State.pendAll_only ..) rfl

theorem Holds.gone_abortBrake {b : Fin 2} (h : Holds ServiceGone t) : Holds ServiceGone (t.abortBrake b) := by
  unfold State.abortBrake
  split
  · exact h
  · extract_lets t t2
    have ht : Holds ServiceGone t := h.gone_only (State.modBrk_only ..) rfl
    have ht2 : Holds ServiceGone t2 := ht.gone_only (State.testNotice_only ..) rfl
    split
    · exact ht2.gone_only (State.testEnded_only ..) rfl |>.gone_brkRaise
    · exact ht2

theorem Holds.gone_abortTests {p : Port} (h : Holds ServiceGone t) : Holds ServiceGone (t.abortTests p) := by
  unfold State.abortTests
  extract_lets s1 s2
  have h1 : Holds ServiceGone s1 := by
    unfold s1
    split
    · exact h.gone_only (State.modSp_only ..) rfl
    · exact h
  have h2 : Holds ServiceGone s2 := by
    unfold s2
    split
    · exact h1.gone_only (State.modSp_only ..) rfl |>.gone_only (State.testNotice_only ..) rfl
        |>.gone_only (State.testEnded_only ..) rfl
    · exact h1
  split
  · exact h2.gone_abortBrake
  · exact h2

theorem Holds.gone_tripLog {kind source ports outs : ℕ} (h : Holds ServiceGone t) :
    Holds ServiceGone (t.tripLog kind source ports outs) := by
  unfold State.tripLog
  extract_lets _
  exact h.gone_modSaf rfl |>.gone_safeSend

theorem Holds.gone_applyBrake {b : Fin 2} (h : Holds ServiceGone t) : Holds ServiceGone (t.applyBrake b) := by
  unfold State.applyBrake
  extract_lets _
  exact .ite h (h.gone_only (State.modBrk_only ..) rfl |>.whenB fun _ hu => hu.gone_brkRaise)

theorem Holds.gone_tripPort {p : Port} {bit source outs : ℕ} (h : Holds ServiceGone t) :
    Holds ServiceGone (t.tripPort p bit source outs) := by
  unfold State.tripPort
  extract_lets _ s1 s2 s3
  have h1 : Holds ServiceGone s1 := h.gone_abortTests.gone_only (State.modSp_only ..) rfl
  have h2 : Holds ServiceGone s2 := by
    unfold s2
    split
    · exact h1.gone_coilsOff.gone_setPort
    · exact h1.gone_coilsOff.gone_setPort
    · exact h1.gone_coilsOff.gone_setPort
    · exact h1.gone_setPort
    · exact h1.whenB fun _ hu => hu.gone_portMsg
    · exact h1.whenB fun _ hu => hu.gone_portMsg
    · exact h1.whenB fun _ hu => hu.gone_portMsg
  have h3 : Holds ServiceGone s3 := by
    unfold s3
    split
    · exact h2.gone_applyBrake
    · exact h2
  exact .ite (h3.gone_only (State.sevRaise_only ..) rfl |>.gone_tripLog.gone_safeSend) h3

theorem Holds.gone_settle {p : Port} (h : Holds ServiceGone t) : Holds ServiceGone (t.settle p) := by
  unfold State.settle
  extract_lets _
  exact .ite h.gone_setPort h

theorem Holds.gone_clearCause {p : Port} {bit : ℕ} (h : Holds ServiceGone t) : Holds ServiceGone (t.clearCause p bit) :=
  .ite h (h.gone_only (State.modSp_only ..) rfl |>.gone_only (State.sevRaise_only ..) rfl
    |>.gone_tripLog.gone_portMsg.gone_settle)

theorem Holds.gone_portRows {p : Port} (h : Holds ServiceGone t) : Holds ServiceGone (t.portRows p) := by
  unfold State.portRows
  refine Holds.foldl ?_ fun u _ hu => ?_
  · exact h
  · split
    · exact .ite hu hu.gone_tripPort
    · exact hu.gone_clearCause

theorem Holds.gone_writeOuts (h : Holds ServiceGone t) : Holds ServiceGone t.writeOuts := h.gone_modSaf rfl

theorem Holds.gone_siteMsg (h : Holds ServiceGone t) : Holds ServiceGone t.siteMsg := h.gone_modSaf rfl |>.gone_safeSend

theorem Holds.gone_evalRows (h : Holds ServiceGone t) : Holds ServiceGone t.evalRows := by
  unfold State.evalRows
  extract_lets _ _ s1 _ s1' s2 s3 _ s4
  have h1 : Holds ServiceGone s1 := h.gone_modSaf rfl
  have h1' : Holds ServiceGone s1' := by
    unfold s1'
    refine Holds.foldl ?_ fun u _ hu => ?_
    · exact h1
    · extract_lets _
      exact .ite hu.gone_tripLog hu
  have h2 : Holds ServiceGone s2 := h1'.each fun _ _ hu => hu.gone_portRows
  have h3 : Holds ServiceGone s3 := h2.each fun _ _ hu => .ite hu.gone_applyBrake hu
  have h4 : Holds ServiceGone s4 := h3.whenB fun _ hu => hu.gone_safRaise
  exact (h4.whenB fun _ hu => hu.gone_safRaise).gone_writeOuts.whenB fun _ hu => hu.gone_siteMsg

theorem Holds.gone_siteTo {x : SiteState} (h : Holds ServiceGone t) : Holds ServiceGone (t.siteTo x) := by
  unfold State.siteTo
  extract_lets s1 s2
  have h1 : Holds ServiceGone s1 := h.gone_modSaf rfl
  have h2 : Holds ServiceGone s2 := h1.gone_only (State.irqAll_only ..) rfl |>.gone_safRaise.gone_tripLog.gone_evalRows
  exact .ite h h2.gone_siteMsg

theorem Holds.gone_checkStop (h : Holds ServiceGone t) : Holds ServiceGone t.checkStop :=
  .ite (h.gone_siteTo.each fun _ _ hu => hu.gone_applyBrake) h

/-- After Service loss Service counts as lost, and before it where nothing happens. -/
theorem State.serviceLoss_gone (s : State) : Holds ServiceGone s.serviceLoss := by
  unfold State.serviceLoss
  extract_lets s1 s2
  have hlost : Holds ServiceGone (s.modSaf fun x => { x with serviceLost := true, requests := 0 }) := ⟨rfl⟩
  have h2 : Holds ServiceGone s2 := hlost.gone_safRaise.each fun _ _ hu => hu.gone_abortTests.gone_startWindow
  split
  case isTrue h => exact ⟨h⟩
  case isFalse => exact (h2.each fun _ _ hu => hu.gone_applyBrake).gone_evalRows.gone_siteMsg.gone_checkStop

/-! ### The seals that fall due -/

theorem State.sealOpen_bilAt_same (p : Port) : (s.sealOpen p).bilAt p = { s.bilAt p with
    ses := if s.legalRun && s.openOk p then (s.bilAt p).ses.map fun r => { r with sealDue := true } else (s.bilAt p).ses } := by
  unfold State.sealOpen
  split <;> simp [State.modBil, State.bilAt]

theorem State.sealOpen_bilAt_ne {p q : Port} (h : q ≠ p) : (s.sealOpen q).bilAt p = s.bilAt p := by
  unfold State.sealOpen
  split <;> simp [State.modBil, State.bilAt, ix_upd_ne _ _ _ _ h]

theorem State.sealOpen_sealOpen_bilAt {p q : Port} (h : q ≠ p) : ((s.sealOpen q).sealOpen p).bilAt p = (s.sealOpen p).bilAt p := by
  have hlegal : (s.sealOpen q).legalRun = s.legalRun := congrArg (·.state == .run) ((State.sealOpen_only ..).same .legal (by decide))
  have hsp : (s.sealOpen q).spAt p = s.spAt p := congrArg (ix · p) ((State.sealOpen_only ..).same .sp (by decide))
  rw [State.sealOpen_bilAt_same, State.sealOpen_bilAt_same, State.sealOpen_bilAt_ne h, hlegal, State.openOk, State.openOk, hsp]

theorem foldl_sealOpen_bilAt {p : Port} {l : List Port} (hl : l.Nodup) :
    (l.foldl (fun u q => u.sealOpen q) s).bilAt p = if p ∈ l then (s.sealOpen p).bilAt p else s.bilAt p := by
  induction l generalizing s with
  | nil => rfl
  | cons q l ih =>
    obtain ⟨hq, hl⟩ := List.nodup_cons.mp hl
    rw [List.foldl_cons, ih hl]
    by_cases hqp : q = p
    · subst hqp
      simp [hq]
    · simp [State.sealOpen_sealOpen_bilAt hqp, State.sealOpen_bilAt_ne hqp, Ne.symm hqp]

/-- Of every port the session whose contactors are confirmed open falls due. -/
theorem State.each_sealOpen_bilAt (p : Port) : (s.each (n := 8) fun q u => u.sealOpen q).bilAt p = (s.sealOpen p).bilAt p := by
  rw [State.each, idx, foldl_sealOpen_bilAt (List.nodup_finRange 8), if_pos (List.mem_finRange p)]

/-! ### The reset -/

/-- The state of a chip reset before what it sets off (State.chipReset). -/
def State.chipResetBase (s : State) (cause : Nat) : State :=
  { s.clearService with
    sys := s.sys.chipReset cause
    time := { s.time with chain := s.rind.rtcUs * 1000 }
    host := s.hostReset
    conf := { s.conf with opens := Vector.replicate 16 none }
    veh := Vector.ofFn fun p => (s.vehAt p).chipReset (s.lockShown p)
    ses := Vector.ofFn fun p => (s.sesAt p).chipReset (s.bilAt p).ses
    pwr := Vector.replicate 8 {}
    pm := vmap (fun (x : PmLink) => { faults := x.faults }) s.pm
    lease := s.startLease
    chn := { table := s.chn.table }
    msh := {}
    cave := s.cave.chipReset }

/-- What a chip reset sets off: the Cave's lost spans, the seals that fall due and Service loss. -/
def State.chipResetAfter (s : State) : State :=
  ((s.each (n := 24) fun h t => t.lostSpan h).each (n := 8) fun p t => t.sealOpen p).serviceLoss

theorem State.chipReset_one (h : s.sys.power ≠ .dormant) : s.chipReset 1 = (s.chipResetBase 1).chipResetAfter := by
  unfold State.chipReset
  extract_lets s1 s2
  rw [if_neg (by simpa using h), if_neg (by decide)]
  rfl

theorem State.chipResetAfter_bilAt (p : Port) : s.chipResetAfter.bilAt p = (s.sealOpen p).bilAt p := by
  have hspan : Only [.cave] s (s.each (n := 24) fun h t => t.lostSpan h) :=
    Only.each (fun l _ h => Only.step (State.lostSpan_only _ l) rfl h) (Only.refl _ _)
  have hloss : s.chipResetAfter.bilAt p = ((s.each (n := 24) fun h t => t.lostSpan h).each (n := 8) fun p t => t.sealOpen p).bilAt p :=
    congrArg (ix · p) ((State.serviceLoss_only _).same .bil (by decide))
  have hbil : (s.each (n := 24) fun h t => t.lostSpan h).bilAt p = s.bilAt p := congrArg (ix · p) (hspan.same .bil (by decide))
  have hlegal : (s.each (n := 24) fun h t => t.lostSpan h).legal = s.legal := hspan.same .legal (by decide)
  have hsp : (s.each (n := 24) fun h t => t.lostSpan h).spAt p = s.spAt p := congrArg (ix · p) (hspan.same .sp (by decide))
  rw [hloss, State.each_sealOpen_bilAt, State.sealOpen_bilAt_same, State.sealOpen_bilAt_same, hbil, State.legalRun, State.legalRun,
    hlegal, State.openOk, State.openOk, hsp]

section
variable (cause : Nat) (p : Port)

theorem State.chipResetBase_metAt : (s.chipResetBase cause).metAt p = { s.metAt p with ev := Vector.replicate 16 0 } := by
  simp only [State.metAt, State.chipResetBase, State.clearService, ix_vmap]

theorem State.chipResetBase_nrgAt : (s.chipResetBase cause).nrgAt p = { s.nrgAt p with ev := Vector.replicate 16 0 } := by
  simp only [State.nrgAt, State.chipResetBase, State.clearService, ix_vmap]

theorem State.chipResetBase_bilAt : (s.chipResetBase cause).bilAt p = { s.bilAt p with ev := Vector.replicate 16 0 } := by
  simp only [State.bilAt, State.chipResetBase, State.clearService, ix_vmap]

theorem State.chipResetBase_pqAt : (s.chipResetBase cause).pqAt p = { s.pqAt p with ev := Vector.replicate 16 0 } := by
  simp only [State.pqAt, State.chipResetBase, State.clearService, ix_vmap]


theorem State.chipResetBase_spAt : (s.chipResetBase cause).spAt p =
    { s.spAt p with ev := Vector.replicate 16 0, imdEv := Vector.replicate 16 0 } := by
  simp only [State.spAt, State.chipResetBase, State.clearService, ix_vmap]

theorem State.chipResetBase_openOk : (s.chipResetBase cause).openOk p = s.openOk p := by
  rw [State.openOk, State.chipResetBase_spAt]
  rfl

end

/-- The Legal side after a chip reset (R30). -/
theorem State.chipReset_legalSide (h : s.sys.power ≠ .dormant) :
    (s.chipReset 1).rind = s.rind ∧ (s.chipReset 1).sl = s.sl ∧ (s.chipReset 1).jnl.legal = s.jnl.legal ∧
      (s.chipReset 1).legal = { s.legal with bilEv := Vector.replicate 16 0, pqEv := Vector.replicate 16 0 } := by
  have hafter : Only _ (s.chipResetBase 1) (s.chipResetBase 1).chipResetAfter := afterChipReset_only _
  have hrind : _ = (s.chipResetBase 1).rind := hafter.same .rind (by decide)
  have hsl : _ = (s.chipResetBase 1).sl := hafter.same .sl (by decide)
  have hjnl : _ = (s.chipResetBase 1).jnl := hafter.same .jnl (by decide)
  have hlegal : _ = (s.chipResetBase 1).legal := hafter.same .legal (by decide)
  rw [State.chipReset_one h, hrind, hsl, hjnl, hlegal]
  exact ⟨rfl, rfl, rfl, rfl⟩

/-- The times and the display's pixels after a chip reset (R30). -/
theorem State.chipReset_time_frame (h : s.sys.power ≠ .dormant) :
    (s.chipReset 1).time.legalUs = s.time.legalUs ∧ (s.chipReset 1).time.safetyUs = s.time.safetyUs ∧
      (s.chipReset 1).dsp.frame = s.dsp.frame := by
  have hafter : Only _ (s.chipResetBase 1) (s.chipResetBase 1).chipResetAfter := afterChipReset_only _
  have htime : _ = (s.chipResetBase 1).time := hafter.same .time (by decide)
  have hdsp : _ = (s.chipResetBase 1).dsp := hafter.same .dsp (by decide)
  rw [State.chipReset_one h, htime, hdsp]
  exact ⟨rfl, rfl, rfl⟩

/-- The records of a port after a chip reset (R30, R64). -/
theorem State.chipReset_port (h : s.sys.power ≠ .dormant) (p : Port) :
    (s.chipReset 1).metAt p = { s.metAt p with ev := Vector.replicate 16 0 } ∧
      (s.chipReset 1).nrgAt p = { s.nrgAt p with ev := Vector.replicate 16 0 } ∧
      (s.chipReset 1).pqAt p = { s.pqAt p with ev := Vector.replicate 16 0 } := by
  have hafter : Only _ (s.chipResetBase 1) (s.chipResetBase 1).chipResetAfter := afterChipReset_only _
  have hmet : _ = (s.chipResetBase 1).metAt p := congrArg (ix · p) (hafter.same .met (by decide))
  have hnrg : _ = (s.chipResetBase 1).nrgAt p := congrArg (ix · p) (hafter.same .nrg (by decide))
  have hpq : _ = (s.chipResetBase 1).pqAt p := congrArg (ix · p) (hafter.same .pq (by decide))
  rw [State.chipReset_one h, ← State.chipResetBase_metAt 1, ← State.chipResetBase_nrgAt 1, ← State.chipResetBase_pqAt 1]
  exact ⟨hmet, hnrg, hpq⟩

theorem State.chipReset_bilAt (h : s.sys.power ≠ .dormant) (p : Port) : (s.chipReset 1).bilAt p = { s.bilAt p with
    ev := Vector.replicate 16 0
    ses := if s.legalRun && s.openOk p then (s.bilAt p).ses.map fun r => { r with sealDue := true } else (s.bilAt p).ses } := by
  have hlegal : (s.chipResetBase 1).legalRun = s.legalRun := rfl
  rw [State.chipReset_one h, State.chipResetAfter_bilAt, State.sealOpen_bilAt_same, State.chipResetBase_openOk, State.chipResetBase_bilAt,
    hlegal]

/-- Settles O9: what a chip reset clears it clears at once (`State.chipResetBase`); what it sets off (`afterChipReset_only`) leaves
Legal's parts but for the seals that fall due, and Service loss stands. -/
theorem chipResetLeavesLegal : Obligations.ChipResetLeavesLegal := by
  unfold Obligations.ChipResetLeavesLegal
  refine ⟨fun s hpower => ⟨_, rfl, ?_⟩, fun s hpower => ⟨_, rfl, ?_⟩⟩
  · obtain ⟨hrind, hsl, hjnl, hlegal⟩ := State.chipReset_legalSide hpower
    have hport := State.chipReset_port hpower
    exact ⟨hrind, hsl, hjnl, hlegal, fun p => (hport p).1, fun p => (hport p).2.1, State.chipReset_bilAt hpower, fun p => (hport p).2.2⟩
  · obtain ⟨hlegalUs, hsafetyUs, hframe⟩ := State.chipReset_time_frame hpower
    have hgone : Holds ServiceGone (s.chipReset 1) := State.chipReset_one hpower ▸ State.serviceLoss_gone _
    rw [State.chipReset_sys 1 hpower]
    exact ⟨rfl, rfl, rfl, rfl, hlegalUs, hsafetyUs, hframe, hgone.of⟩

end Sys2Proof.Machine
end

section
/-! The two coils of a port (spec 13 R352): of all that changes the port's actuators, a permitted CLOSE_REQ alone energises both. An
operation that changes them is shown to leave a port whose coils are not both energised so, by the operations that it is made of. -/

namespace Sys2Proof.Machine

variable {s t u : State} {w : Port}

/-! ### The coils of a port -/

/-- The two coils of port w are not both energised. -/
def CoilsApart (w : Port) (s : State) : Prop := ¬ (ix (s.spAt w).coils 0 = true ∧ ix (s.spAt w).coils 1 = true)

theorem coilsApart_restsOn : RestsOn [.sp] (CoilsApart w) where
  of s t hsame h := by
    have hsp : t.sp = s.sp := hsame .sp (by decide)
    rwa [CoilsApart, State.spAt, hsp]

theorem Holds.coil_only {ps : List Part} (h : Holds (CoilsApart w) t) (k : Only ps t u) (hps : apart ps [.sp] = true) :
    Holds (CoilsApart w) u := h.only coilsApart_restsOn k hps

theorem Holds.coil_modSp_ne {p : Port} {f : SafPort → SafPort} (h : Holds (CoilsApart w) t) (hp : p ≠ w) :
    Holds (CoilsApart w) (t.modSp p f) := by
  refine ⟨?_⟩
  rw [CoilsApart, State.spAt, State.modSp, ix_upd_ne _ _ _ _ hp]
  exact h.of

/-- A change of one port's record that does not energise both coils. -/
theorem Holds.coil_modSp_of {p : Port} {f : SafPort → SafPort} (h : Holds (CoilsApart w) t)
    (hf : ix (f (t.spAt p)).coils 0 = true → ix (f (t.spAt p)).coils 1 = true →
      ix (t.spAt p).coils 0 = true ∧ ix (t.spAt p).coils 1 = true) : Holds (CoilsApart w) (t.modSp p f) := by
  by_cases hp : p = w
  · subst hp
    refine ⟨fun hboth => h.of ?_⟩
    simp only [State.spAt, State.modSp, ix_upd_same] at hboth
    exact hf hboth.1 hboth.2
  · exact h.coil_modSp_ne hp

theorem Holds.coil_modSp {p : Port} {f : SafPort → SafPort} (h : Holds (CoilsApart w) t) (hf : (f (t.spAt p)).coils = (t.spAt p).coils) :
    Holds (CoilsApart w) (t.modSp p f) := h.coil_modSp_of (by rw [hf]; exact And.intro)

/-- A change that leaves one of the coils off. -/
theorem Holds.coil_modSp_off {p : Port} {f : SafPort → SafPort} (k : Fin 2) (h : Holds (CoilsApart w) t)
    (hf : ix (f (t.spAt p)).coils k = false) : Holds (CoilsApart w) (t.modSp p f) := by
  refine h.coil_modSp_of fun h0 h1 => ?_
  match k with
  | 0 => exact absurd h0 (by simp [hf])
  | 1 => exact absurd h1 (by simp [hf])

/-- A state with the same actuators, or with every coil off. -/
theorem Holds.coil_of_eq (h : Holds (CoilsApart w) t) (hsp : (u.spAt w).coils = (t.spAt w).coils) : Holds (CoilsApart w) u := by
  refine ⟨?_⟩
  rw [CoilsApart, hsp]
  exact h.of

theorem Holds.coil_of_off (hsp : (u.spAt w).coils = Vector.replicate 2 false) : Holds (CoilsApart w) u :=
  ⟨fun hboth => by simp [hsp] at hboth⟩

/-! ### The operations -/

theorem Holds.coil_imdRaise {p : Port} {bits : Word} (h : Holds (CoilsApart w) t) : Holds (CoilsApart w) (t.imdRaise p bits) :=
  h.coil_modSp rfl |>.coil_only (State.pendPort_only ..) rfl

theorem Holds.coil_testEnded {p : Port} {code result : Nat} (h : Holds (CoilsApart w) t) :
    Holds (CoilsApart w) (t.testEnded p code result) :=
  h.coil_modSp rfl |>.coil_imdRaise.coil_only (State.sesRaise_only ..) rfl |>.coil_only (State.availPoll_only ..) rfl

theorem Holds.coil_abortBrake {b : Fin 2} (h : Holds (CoilsApart w) t) : Holds (CoilsApart w) (t.abortBrake b) := by
  unfold State.abortBrake
  extract_lets t t2
  have ht : Holds (CoilsApart w) t := h.coil_only (State.modBrk_only ..) rfl
  have ht2 : Holds (CoilsApart w) t2 := ht.coil_only (State.testNotice_only ..) rfl
  split
  · exact h
  · split
    · exact ht2.coil_testEnded.coil_only (State.brkRaise_only ..) rfl
    · exact ht2

theorem Holds.coil_abortTests {p : Port} (h : Holds (CoilsApart w) t) : Holds (CoilsApart w) (t.abortTests p) := by
  unfold State.abortTests
  extract_lets s1 s2
  have h1 : Holds (CoilsApart w) s1 := by
    unfold s1
    split
    · exact h.coil_modSp rfl
    · exact h
  have h2 : Holds (CoilsApart w) s2 := by
    unfold s2
    split
    · next x _ =>
      have hoff : Holds (CoilsApart w) (s1.modSp p fun y => { y with
          test := none, coils := if x.code = 3 then Vector.replicate 2 false else y.coils }) :=
        h1.coil_modSp_of (by dsimp only; split <;> simp_all)
      exact hoff.coil_only (State.testNotice_only ..) rfl |>.coil_testEnded
    · exact h1
  split
  · exact h2.coil_abortBrake
  · exact h2

theorem Holds.coil_portMsg {p : Port} (h : Holds (CoilsApart w) t) : Holds (CoilsApart w) (t.portMsg p) :=
  h.coil_modSp rfl |>.coil_only (State.safeSend_only ..) rfl

theorem Holds.coil_setPort {p : Port} {x : PortState} (h : Holds (CoilsApart w) t) : Holds (CoilsApart w) (t.setPort p x) :=
  .ite h (h.coil_modSp rfl |>.coil_only (State.irqSafe_only ..) rfl |>.coil_portMsg)

theorem Holds.coil_busChanged {p : Port} (h : Holds (CoilsApart w) t) : Holds (CoilsApart w) (t.busChanged p) := by
  unfold State.busChanged
  split
  · exact h.coil_modSp rfl
  · extract_lets t _
    have ht : Holds (CoilsApart w) t := h.foldl fun _ _ hu => hu.coil_modSp rfl
    split
    · exact .ite ht (ht.coil_only (State.modSaf_only ..) rfl)
    · exact ht.coil_only (State.modSaf_only ..) rfl

theorem Holds.coil_coilsOff {p : Port} (h : Holds (CoilsApart w) t) : Holds (CoilsApart w) (t.coilsOff p) :=
  .ite h (h.coil_modSp_off 0 rfl |>.coil_busChanged)

theorem Holds.coil_sevRaise {p : Port} {bits : Word} (h : Holds (CoilsApart w) t) : Holds (CoilsApart w) (t.sevRaise p bits) :=
  h.coil_modSp rfl |>.coil_only (State.pendPort_only ..) rfl

theorem Holds.coil_tripPort {p : Port} {bit source outs : Nat} (h : Holds (CoilsApart w) t) :
    Holds (CoilsApart w) (t.tripPort p bit source outs) := by
  unfold State.tripPort
  extract_lets _ s1 s2 s3
  have h1 : Holds (CoilsApart w) s1 := h.coil_abortTests.coil_modSp rfl
  have h2 : Holds (CoilsApart w) s2 := by
    unfold s2
    split
    · exact h1.coil_coilsOff.coil_setPort
    · exact h1.coil_coilsOff.coil_setPort
    · exact h1.coil_coilsOff.coil_setPort
    · exact h1.coil_setPort
    · exact h1.whenB fun _ hu => hu.coil_portMsg
    · exact h1.whenB fun _ hu => hu.coil_portMsg
    · exact h1.whenB fun _ hu => hu.coil_portMsg
  have h3 : Holds (CoilsApart w) s3 := by
    unfold s3
    split
    · exact h2.coil_only (State.applyBrake_only ..) rfl
    · exact h2
  exact .ite (h3.coil_sevRaise.coil_only (State.tripLog_only ..) rfl |>.coil_only (State.safeSend_only ..) rfl) h3

theorem Holds.coil_settle {p : Port} (h : Holds (CoilsApart w) t) : Holds (CoilsApart w) (t.settle p) := by
  unfold State.settle
  extract_lets _
  exact .ite h.coil_setPort h

theorem Holds.coil_clearCause {p : Port} {bit : Nat} (h : Holds (CoilsApart w) t) : Holds (CoilsApart w) (t.clearCause p bit) :=
  .ite h (h.coil_modSp rfl |>.coil_sevRaise.coil_only (State.tripLog_only ..) rfl |>.coil_portMsg.coil_settle)

theorem Holds.coil_portRows {p : Port} (h : Holds (CoilsApart w) t) : Holds (CoilsApart w) (t.portRows p) := by
  unfold State.portRows
  refine Holds.foldl ?_ fun u _ hu => ?_
  · exact h
  · split
    · exact .ite hu hu.coil_tripPort
    · exact hu.coil_clearCause

theorem Holds.coil_evalRows (h : Holds (CoilsApart w) t) : Holds (CoilsApart w) t.evalRows := by
  unfold State.evalRows
  extract_lets _ _ s1 _ s1' s2 s3 _ s4
  have h1 : Holds (CoilsApart w) s1 := h.coil_only (State.modSaf_only ..) rfl
  have h1' : Holds (CoilsApart w) s1' := by
    unfold s1'
    refine Holds.foldl ?_ fun u _ hu => ?_
    · exact h1
    · extract_lets _
      exact .ite (hu.coil_only (State.tripLog_only ..) rfl) hu
  have h2 : Holds (CoilsApart w) s2 := h1'.each fun _ _ hu => hu.coil_portRows
  have h3 : Holds (CoilsApart w) s3 := h2.each fun _ _ hu => .ite (hu.coil_only (State.applyBrake_only ..) rfl) hu
  have h4 : Holds (CoilsApart w) s4 := h3.whenB fun _ hu => hu.coil_only (State.safRaise_only ..) rfl
  exact (h4.whenB fun _ hu => hu.coil_only (State.safRaise_only ..) rfl).coil_only (State.writeOuts_only ..) rfl
    |>.whenB fun _ hu => hu.coil_only (State.siteMsg_only ..) rfl

theorem Holds.coil_siteTo {x : SiteState} (h : Holds (CoilsApart w) t) : Holds (CoilsApart w) (t.siteTo x) := by
  unfold State.siteTo
  extract_lets s1 s2
  have h1 : Holds (CoilsApart w) s1 := h.coil_only (State.modSaf_only ..) rfl
  have h2 : Holds (CoilsApart w) s2 := h1.coil_only (State.irqAll_only ..) rfl |>.coil_only (State.safRaise_only ..) rfl
    |>.coil_only (State.tripLog_only ..) rfl |>.coil_evalRows
  exact .ite h (h2.coil_only (State.siteMsg_only ..) rfl)

theorem execActivationTime_coil {intact : Bool} (h : Holds (CoilsApart w) s) :
    HoldsRes (CoilsApart w) (execActivationTime intact s) := by
  unfold execActivationTime
  extract_lets _
  refine .next ?_
  refine .ite h (.ite (h.coil_only (State.actEnd_only ..) rfl) (.ite (h.coil_only (State.actEnd_only ..) rfl) (.ite (h.coil_only
    (State.actEnd_only ..) rfl) ?_)))
  split
  · exact h.coil_only (State.modAct_only ..) rfl
  · exact .ite h (h.coil_only (State.swapLegal_only ..) rfl |>.coil_only (State.activated_only ..) rfl)
  · exact .ite (h.coil_only (State.switchBank_only ..) rfl |>.coil_only (State.activated_only ..) rfl) (h.coil_only
      (State.modAct_only ..) rfl |>.coil_only (State.switchBank_only ..) rfl |>.coil_siteTo)

theorem Holds.coil_startBrakeTest {b : Fin 2} {cmd : Option Req} {thenRelease : Bool} (h : Holds (CoilsApart w) t) :
    Holds (CoilsApart w) (t.startBrakeTest b cmd thenRelease) := by
  unfold State.startBrakeTest
  extract_lets s1 s2
  have h1 : Holds (CoilsApart w) s1 := h.coil_only (State.applyBrake_only ..) rfl
  have h2 : Holds (CoilsApart w) s2 := h1.coil_only (State.testNotice_only ..) rfl
  refine .ite (h1.coil_only (State.modBrk_only ..) rfl) ?_
  split
  · exact h2.coil_testEnded
  · exact h2

theorem Holds.coil_startTest {p : Port} {code : Nat} {cmd : Option Req} (h : Holds (CoilsApart w) t) :
    Holds (CoilsApart w) (t.startTest p code cmd) := by
  unfold State.startTest
  split
  · exact h.coil_modSp rfl
  · exact h.coil_modSp_off 1 rfl
  · split
    · exact h.coil_startBrakeTest
    · exact h

theorem Holds.coil_runDeferred {p : Port} (h : Holds (CoilsApart w) t) : Holds (CoilsApart w) (t.runDeferred p) := by
  unfold State.runDeferred
  split
  · exact h
  · exact h.coil_modSp rfl |>.coil_startTest

theorem Holds.coil_toBlocked {p : Port} (h : Holds (CoilsApart w) t) : Holds (CoilsApart w) (t.toBlocked p) :=
  .ite (h.coil_modSp rfl |>.coil_setPort) h

theorem Holds.coil_checkBlocked {p : Port} (h : Holds (CoilsApart w) t) : Holds (CoilsApart w) (t.checkBlocked p) := by
  unfold State.checkBlocked
  extract_lets s1 _
  have h1 : Holds (CoilsApart w) s1 := h.coil_toBlocked.coil_modSp rfl
  exact .ite h1.coil_setPort h1

theorem Holds.coil_itemEffect {was : Cfg} {it : Item} (h : Holds (CoilsApart w) t) :
    Holds (CoilsApart w) (t.itemEffect was it) := by
  unfold State.itemEffect
  extract_lets _ s1 _ _ _ _ t t'
  have h1 : Holds (CoilsApart w) s1 := h.foldl fun _ _ hu => hu.coil_only (State.modSl_only ..) rfl
  have ht : Holds (CoilsApart w) t := .ite h (.ite (h.coil_only (State.modLsCh_only ..) rfl) (.ite (h.coil_only
    (State.modLsCh_only ..) rfl) (h.coil_only (State.modLsCh_only ..) rfl)))
  have ht' : Holds (CoilsApart w) t' := .ite h (h.coil_only (State.releaseHeld_only ..) rfl)
  split
  · exact .ite h (h.coil_only (State.modTref_only ..) rfl |>.coil_only (State.sysChanged_only ..) rfl)
  · exact h.each fun _ _ hu => .ite (hu.coil_only (State.endClaim_only ..) rfl) hu
  · exact .ite h (h.coil_only (State.modGuest_only ..) rfl)
  · exact h.coil_only (State.followEnable_only ..) rfl |>.coil_only (State.refreshPwm_only ..) rfl |>.coil_checkBlocked
  · exact .ite h (h.coil_only (State.modPwr_only ..) rfl)
  · exact .ite h (h.coil_only (State.modPmLink_only ..) rfl)
  · exact h1.coil_only (State.endMeasure_only ..) rfl
  · exact .ite h (h.coil_only (State.cancelCross_only ..) rfl)
  · exact ht.coil_only (State.lsSettle_only ..) rfl
  · exact h.coil_only (State.chainApplied_only ..) rfl
  · exact .ite (h.coil_only (State.setCave_only ..) rfl) (.ite (h.coil_only (State.setCave_only ..) rfl) h)
  · exact .ite ht' (ht'.coil_only (State.modTag_only ..) rfl)
  · exact h

theorem Holds.coil_applyItems {items : List Item} (h : Holds (CoilsApart w) t) : Holds (CoilsApart w) (t.applyItems items) :=
  h.foldl fun _ _ hu => hu.coil_only (State.modCfg_only ..) rfl |>.coil_itemEffect

theorem Holds.coil_applyPort {p : Port} (h : Holds (CoilsApart w) t) : Holds (CoilsApart w) (t.applyPort p) := by
  unfold State.applyPort
  extract_lets _ _ s1 s2
  have h1 : Holds (CoilsApart w) s1 := h.coil_applyItems.coil_only (State.modConf_only ..) rfl
  have h2 : Holds (CoilsApart w) s2 := h1.foldl fun _ _ hu => hu.coil_only (State.appendConf_only ..) rfl
  exact .ite h (h2.coil_only (State.dropApplied_only ..) rfl |>.coil_only (State.vpRaise_only ..) rfl)

theorem Holds.coil_leaveSealing {p : Port} {sealed : Bool} (h : Holds (CoilsApart w) t) :
    Holds (CoilsApart w) (t.leaveSealing p sealed) := by
  unfold State.leaveSealing
  extract_lets _ _ _ s1 s2 s3 s4
  have h1 : Holds (CoilsApart w) s1 := h.coil_only (State.modSes_only ..) rfl |>.coil_only (State.sesRaise_only ..) rfl
  have h2 : Holds (CoilsApart w) s2 := h1.foldl fun _ _ hu => hu.coil_only (State.final_only ..) rfl
  have h3 : Holds (CoilsApart w) s3 := .ite (h2.coil_only (State.modNfc_only ..) rfl
    |>.coil_only (State.mirrorBody_only ..) rfl) h2
  have h4 : Holds (CoilsApart w) s4 := .ite (h3.coil_only (State.startLock_only ..) rfl) h3
  exact h4.coil_applyPort.coil_only (State.applySource_only ..) rfl
    |>.coil_checkBlocked.coil_runDeferred.coil_only (State.divide_only ..) rfl |>.coil_only (State.availPoll_only ..) rfl

theorem Holds.coil_sealCheck {p : Port} (h : Holds (CoilsApart w) t) : Holds (CoilsApart w) (t.sealCheck p) := by
  unfold State.sealCheck
  extract_lets s1
  have h1 : Holds (CoilsApart w) s1 := .ite (h.coil_only (State.portReset_only ..) rfl) h
  exact .ite h (.ite h1.coil_leaveSealing h1)

theorem Holds.coil_toSealing {p : Port} (h : Holds (CoilsApart w) t) : Holds (CoilsApart w) (t.toSealing p) := by
  unfold State.toSealing
  extract_lets _ s1
  have h1 : Holds (CoilsApart w) s1 := h.coil_only (State.sesTo_only ..) rfl |>.coil_only (State.modBil_only ..) rfl
  exact h1.coil_only (State.wantChanged_only ..) rfl |>.coil_sealCheck

theorem execAnswer_coil {type : Nat} {p : Port} {granted : Bool} (h : Holds (CoilsApart w) s) :
    HoldsRes (CoilsApart w) (execAnswer type p granted s) := by
  unfold execAnswer
  extract_lets t
  have ht : Holds (CoilsApart w) t := h.coil_only (State.modSes_only ..) rfl
  exact .next (.ite h (.ite (ht.coil_only (State.halt_only ..) rfl |>.coil_only (State.disable_only ..) rfl
    |>.coil_toSealing) (.ite (h.coil_only (State.modSes_only ..) rfl) h)))

theorem Holds.coil_opened {p : Port} {no : Nat} {rec_ : Bool} (h : Holds (CoilsApart w) t) :
    Holds (CoilsApart w) (t.opened p no rec_) := by
  unfold State.opened
  extract_lets cmd s1 s1b s2
  have h1 : Holds (CoilsApart w) s1 := h.coil_only (State.modSes_only ..) rfl
  have h1b : Holds (CoilsApart w) s1b := h1.coil_modSp rfl
  have h2 : Holds (CoilsApart w) s2 := by
    unfold s2
    clear_value cmd
    split
    · exact h1b.coil_only (State.answer_only ..) rfl
    · exact h1b
  exact h2.coil_only (State.sesRaise_only ..) rfl |>.coil_only (State.sayVehicle_only ..) rfl
    |>.coil_only (State.modVeh_only ..) rfl |>.coil_only (State.refreshPwm_only ..) rfl |>.coil_only (State.startPrep_only ..) rfl

theorem Holds.coil_openWith {p : Port} {d : Decision} {cmd : Option Req} (h : Holds (CoilsApart w) t) :
    Holds (CoilsApart w) (t.openWith p d cmd) := by
  unfold State.openWith
  extract_lets s1
  have h1 : Holds (CoilsApart w) s1 := h.coil_only (State.modSes_only ..) rfl
  exact .ite h1.coil_opened (h1.coil_only (State.modSes_only ..) rfl |>.coil_only (State.emit_only ..) rfl)

theorem execAuthoriseSession_coil {r : Req} (h : Holds (CoilsApart w) s) :
    HoldsRes (CoilsApart w) (execAuthoriseSession r s) := by
  unfold execAuthoriseSession
  extract_lets _ _ _
  refine .next ?_
  refine .ite (h.coil_only (State.answer_only ..) rfl) (.ite (h.coil_only (State.answer_only ..) rfl) (.ite (h.coil_only
    (State.answer_only ..) rfl) (.ite (h.coil_only (State.answer_only ..) rfl) (.ite ((Holds.ite (h.coil_only
      (State.reject_only ..) rfl) h).coil_only (State.answer_only ..) rfl) (.ite (h.coil_only (State.answer_only ..) rfl) ?_)))))
  split
  · exact h.coil_only (State.answer_only ..) rfl
  · exact .ite h.coil_openWith (.ite (h.coil_only (State.sesTo_only ..) rfl |>.coil_only (State.sesRaise_only ..) rfl
      |>.coil_openWith) (h.coil_only (State.modSes_only ..) rfl |>.coil_only (State.answer_only ..) rfl))

theorem Holds.coil_identify {p : Port} (h : Holds (CoilsApart w) t) : Holds (CoilsApart w) (t.identify p) := by
  unfold State.identify
  extract_lets _ s1 d
  have h1 : Holds (CoilsApart w) s1 := h.coil_only (State.sesTo_only ..) rfl |>.coil_only (State.sesRaise_only ..) rfl
    |>.coil_only (State.sayVehicle_only ..) rfl
  refine .ite h (.ite (h.coil_only (State.refuseVehicle_only ..) rfl) ?_)
  clear_value d
  split
  · exact .ite (h1.coil_only (State.reject_only ..) rfl) h1.coil_openWith
  · exact h1

theorem Holds.coil_toBasic {p : Port} (h : Holds (CoilsApart w) t) : Holds (CoilsApart w) (t.toBasic p) :=
  h.coil_only (State.linkTo_only ..) rfl |>.coil_only (State.refreshPwm_only ..) rfl |>.coil_identify

theorem Holds.coil_requestRelease {b : Fin 2} {cmd : Option Req} (h : Holds (CoilsApart w) t) :
    Holds (CoilsApart w) (t.requestRelease b cmd).1 := by
  unfold State.requestRelease
  extract_lets idle
  clear_value idle
  split
  · exact h
  · split
    · split
      · exact h.coil_startBrakeTest
      · exact h
    · exact h.coil_only (State.releaseBrake_only ..) rfl

theorem Holds.coil_heartbeat (h : Holds (CoilsApart w) t) : Holds (CoilsApart w) t.heartbeat :=
  .ite (h.coil_only (State.modSaf_only ..) rfl |>.coil_evalRows.coil_only (State.siteMsg_only ..) rfl) h

theorem execBrakeReleaseReq_coil {b : Fin 2} (h : Holds (CoilsApart w) s) :
    HoldsRes (CoilsApart w) (execBrakeReleaseReq b s) := by
  unfold execBrakeReleaseReq
  extract_lets a
  have ha : Holds (CoilsApart w) a.1 := h.coil_heartbeat.coil_requestRelease
  exact .next (ha.coil_only (State.safeAnswer_only ..) rfl)

theorem execBrakeTestTimer_coil {b : Fin 2} (h : Holds (CoilsApart w) s) :
    HoldsRes (CoilsApart w) (execBrakeTestTimer b s) := by
  unfold execBrakeTestTimer
  extract_lets _ s1 s2 s3
  have h1 : Holds (CoilsApart w) s1 := h.coil_only (State.modBrk_only ..) rfl |>.coil_only (State.brkRaise_only ..) rfl
  have h2 : Holds (CoilsApart w) s2 := by
    unfold s2
    split
    · exact h1.coil_modSp rfl |>.coil_testEnded
    · exact h1
  have h3 : Holds (CoilsApart w) s3 := .ite (h2.coil_only (State.testNotice_only ..) rfl) (.ite (h2.coil_only
    (State.releaseBrake_only ..) rfl |>.coil_only (State.testNotice_only ..) rfl) (h2.coil_only (State.testNotice_only ..) rfl))
  refine .next ?_
  split
  · exact h
  · exact h.coil_only (State.modBrk_only ..) rfl |>.coil_only (State.writeOuts_only ..) rfl
  · exact h.coil_only (State.modBrk_only ..) rfl
  · exact h.coil_only (State.modBrk_only ..) rfl |>.coil_only (State.writeOuts_only ..) rfl
  · split
    · exact h3.coil_runDeferred
    · exact h3

theorem State.clearService_coils (s : State) : (s.clearService.spAt w).coils = (s.spAt w).coils := by
  simp only [State.clearService, State.spAt, ix_vmap]

theorem Holds.coil_openPort {p : Port} (h : Holds (CoilsApart w) t) : Holds (CoilsApart w) (t.openPort p) := by
  unfold State.openPort
  split
  · exact h.coil_coilsOff.coil_setPort
  · exact h.coil_coilsOff.coil_setPort
  · exact h

theorem Holds.coil_startWindow {p : Port} (h : Holds (CoilsApart w) t) : Holds (CoilsApart w) (t.startWindow p) := by
  unfold State.startWindow
  split
  · exact h.coil_openPort
  · split
    · exact .ite h.coil_openPort (h.coil_modSp rfl |>.coil_portMsg)
    · exact h.coil_modSp rfl |>.coil_portMsg
  · exact h

theorem Holds.coil_checkStop (h : Holds (CoilsApart w) t) : Holds (CoilsApart w) t.checkStop :=
  .ite (h.coil_siteTo.each fun _ _ hu => hu.coil_only (State.applyBrake_only ..) rfl) h

theorem Holds.coil_serviceLoss (h : Holds (CoilsApart w) t) : Holds (CoilsApart w) t.serviceLoss := by
  unfold State.serviceLoss
  extract_lets s1 s2
  have h1 : Holds (CoilsApart w) s1 := h.coil_only (State.modSaf_only ..) rfl |>.coil_only (State.safRaise_only ..) rfl
  have h2 : Holds (CoilsApart w) s2 := h1.each fun _ _ hu => hu.coil_abortTests.coil_startWindow
  exact .ite h ((h2.each fun _ _ hu => hu.coil_only (State.applyBrake_only ..) rfl).coil_evalRows.coil_only
    (State.siteMsg_only ..) rfl |>.coil_checkStop)

theorem Holds.coil_chipReset {cause : Nat} (h : Holds (CoilsApart w) t) : Holds (CoilsApart w) (t.chipReset cause) := by
  unfold State.chipReset
  extract_lets _ _ _ s1 s2
  have h1 : Holds (CoilsApart w) s1 := h.coil_of_eq (State.clearService_coils t)
  have h2 : Holds (CoilsApart w) s2 := ((h1.each fun _ _ hu => hu.coil_only (State.lostSpan_only ..) rfl).each
    fun _ _ hu => hu.coil_only (State.sealOpen_only ..) rfl).coil_serviceLoss
  exact .ite h (.ite (h2.coil_only (State.revert_only ..) rfl) h2)

theorem execClearFault_coil {r : Req} (h : Holds (CoilsApart w) s) :
    HoldsRes (CoilsApart w) (execClearFault r s) := by
  unfold execClearFault
  extract_lets _
  exact .next (.ite (h.coil_only (State.answer_only ..) rfl) (.ite (h.coil_only (State.answer_only ..) rfl) (h.coil_only
    (State.sesTo_only ..) rfl |>.coil_runDeferred.coil_only (State.availPoll_only ..) rfl
      |>.coil_only (State.answer_only ..) rfl)))

theorem Holds.coil_contactorFault {p : Port} (h : Holds (CoilsApart w) t) : Holds (CoilsApart w) (t.contactorFault p) := by
  unfold State.contactorFault
  extract_lets s1 s2
  have h1 : Holds (CoilsApart w) s1 := h.coil_abortTests.coil_coilsOff.coil_modSp rfl
  have h2 : Holds (CoilsApart w) s2 := by
    unfold s2
    split
    · exact h1.coil_only (State.applyBrake_only ..) rfl
    · exact h1
  exact .ite h (h2.coil_setPort.coil_sevRaise.coil_only (State.tripLog_only ..) rfl)

theorem Holds.coil_failWeld {p : Port} {t' : PortTest} {reason : Nat} (h : Holds (CoilsApart w) t) :
    Holds (CoilsApart w) (t.failWeld p t' reason) := by
  unfold State.failWeld
  extract_lets s1
  have h1 : Holds (CoilsApart w) s1 := h.coil_modSp_off 0 rfl
  exact h1.coil_only (State.testNotice_only ..) rfl |>.coil_testEnded.coil_contactorFault

theorem execCoilCurrentFault_coil {p : Port} (h : Holds (CoilsApart w) s) :
    HoldsRes (CoilsApart w) (execCoilCurrentFault p s) := by
  unfold execCoilCurrentFault
  refine .next ?_
  split
  · exact .ite h.coil_failWeld (.ite h.coil_contactorFault.coil_checkStop h)
  · exact .ite h.coil_contactorFault.coil_checkStop h

theorem Holds.coil_diagFault {code unit : Nat} (h : Holds (CoilsApart w) t) : Holds (CoilsApart w) (t.diagFault code unit) := by
  unfold State.diagFault
  extract_lets s1 s2
  have h1 : Holds (CoilsApart w) s1 := h.coil_only (State.recordFault_only ..) rfl |>.coil_only (State.modSaf_only ..) rfl
  have h2 : Holds (CoilsApart w) s2 := h1.coil_siteTo.each fun _ _ hu => hu.coil_abortTests.coil_startWindow
  split
  · exact .ite h1 (h1.coil_siteTo.each fun _ _ hu => hu.coil_only (State.applyBrake_only ..) rfl)
  · exact h2.coil_checkStop
  · exact h1.coil_only (State.failRestart_only ..) rfl |>.coil_siteTo.each fun _ _ hu => hu.coil_only
      (State.applyBrake_only ..) rfl
  · exact h1
  · exact h1
  · exact h1
  · exact h1

theorem execComparatorSelftest_coil {t' : ComparatorTest} (h : Holds (CoilsApart w) s) :
    HoldsRes (CoilsApart w) (execComparatorSelftest t' s) := by
  unfold execComparatorSelftest
  extract_lets _
  exact .next (.ite (h.coil_only (State.diagGone_only ..) rfl) h.coil_diagFault)

theorem Holds.coil_rebuildPort {p : Port} (h : Holds (CoilsApart w) t) : Holds (CoilsApart w) (t.rebuildPort p) := by
  unfold State.rebuildPort
  extract_lets _ _ s1 s2 s2' _ s2''
  have h1 : Holds (CoilsApart w) s1 := h.coil_only (State.modSes_only ..) rfl
  have h2 : Holds (CoilsApart w) s2 := h1.coil_only (State.modSes_only ..) rfl
  have h2' : Holds (CoilsApart w) s2' := h1.coil_only (State.modSes_only ..) rfl
  have h2'' : Holds (CoilsApart w) s2'' := h1.coil_only (State.modSes_only ..) rfl |>.coil_only (State.sesRaise_only ..) rfl
  exact .ite h (.ite (.ite h2.coil_toSealing (h2.coil_only (State.askSafety_only ..) rfl)) (.ite (.ite h2'.coil_sealCheck
    (h2'.coil_only (State.askSafety_only ..) rfl)) (h2''.coil_applyPort.coil_only (State.applySource_only ..) rfl
      |>.coil_only (State.dueUnlock_only ..) rfl)))

theorem execConfigJournalReplay_coil {candidate : Bool} {torn : Nat} (h : Holds (CoilsApart w) s) :
    HoldsRes (CoilsApart w) (execConfigJournalReplay candidate torn s) := by
  unfold execConfigJournalReplay
  extract_lets s1 s2 s3 s4
  have h1 : Holds (CoilsApart w) s1 := h.coil_only (State.modJnl_only ..) rfl
  have h2 : Holds (CoilsApart w) s2 := h1.coil_only (State.bootOn_only ..) rfl
    |>.each fun _ _ hu => hu.coil_only (State.followEnable_only ..) rfl |>.coil_rebuildPort
  have h3 : Holds (CoilsApart w) s3 := h2.each fun _ _ hu => .ite (hu.coil_only (State.modPmLink_only ..) rfl) hu
  have h4 : Holds (CoilsApart w) s4 := h3.coil_only (State.chainApplied_only ..) rfl
    |>.coil_only (State.resumeActivation_only ..) rfl |>.coil_only (State.reach_only ..) rfl
    |>.coil_only (State.readSafety_only ..) rfl
  exact .next (.ite h (.ite (h.coil_only (State.enterRom_only ..) rfl) ((Holds.ite h4 (h4.coil_only
    (State.reach_only ..) rfl)).coil_only (State.availAll_only ..) rfl)))

theorem Holds.coil_endAbrupt {p : Port} {cause : Nat} (h : Holds (CoilsApart w) t) :
    Holds (CoilsApart w) (t.endAbrupt p cause) := by
  unfold State.endAbrupt
  extract_lets s1 s2
  have h1 : Holds (CoilsApart w) s1 := h.coil_only (State.halt_only ..) rfl
  have h2 : Holds (CoilsApart w) s2 := .ite (h1.coil_only (State.stopLock_only ..) rfl
    |>.coil_only (State.askSafety_only ..) rfl) h1
  exact .ite (h2.coil_only (State.disable_only ..) rfl |>.coil_toSealing) (.ite h2.coil_toSealing (h2.coil_only
    (State.sesTo_only ..) rfl |>.coil_only (State.wantChanged_only ..) rfl))

theorem Holds.coil_endDegraded {p : Port} (h : Holds (CoilsApart w) t) : Holds (CoilsApart w) (t.endDegraded p) := by
  unfold State.endDegraded
  split
  · exact h.coil_only (State.stopLock_only ..) rfl |>.coil_only (State.disable_only ..) rfl |>.coil_toSealing
  · exact h.coil_only (State.stopLock_only ..) rfl |>.coil_only (State.disable_only ..) rfl |>.coil_toSealing
  · exact h.coil_only (State.ramp_only ..) rfl
  · exact h.coil_only (State.ramp_only ..) rfl
  · exact h.coil_only (State.ramp_only ..) rfl
  · exact h

theorem Holds.coil_endControlled {p : Port} (h : Holds (CoilsApart w) t) : Holds (CoilsApart w) (t.endControlled p) := by
  unfold State.endControlled
  extract_lets s1
  have h1 : Holds (CoilsApart w) s1 := h.coil_only (State.sayVehicle_only ..) rfl
  split
  · exact h1.coil_only (State.stopLock_only ..) rfl |>.coil_only (State.disable_only ..) rfl |>.coil_toSealing
  · exact h1.coil_only (State.stopLock_only ..) rfl |>.coil_only (State.disable_only ..) rfl |>.coil_toSealing
  · exact h1.coil_only (State.ramp_only ..) rfl
  · exact h1

theorem Holds.coil_endSession {p : Port} {cause : Nat} (h : Holds (CoilsApart w) t) :
    Holds (CoilsApart w) (t.endSession p cause) := by
  unfold State.endSession
  extract_lets _ _ _ _ s1
  have h1 : Holds (CoilsApart w) s1 := h.coil_only (State.modSes_only ..) rfl
  refine .ite h (.ite (.ite (h1.coil_only (State.reseal_only ..) rfl) h) ?_)
  split
  · exact h1.coil_endAbrupt
  · exact h1.coil_endAbrupt
  · exact h1.coil_endAbrupt
  · exact h1.coil_endDegraded
  · exact h1.coil_endControlled

theorem Holds.coil_sesUnplug {p : Port} (h : Holds (CoilsApart w) t) : Holds (CoilsApart w) (t.sesUnplug p) := by
  unfold State.sesUnplug
  extract_lets s1
  have h1 : Holds (CoilsApart w) s1 := by
    unfold s1
    split
    · exact h.coil_only (State.answer_only ..) rfl
    · exact h
  split
  · exact .ite h (h.coil_only (State.sesTo_only ..) rfl |>.coil_runDeferred.coil_only (State.availPoll_only ..) rfl)
  · exact .ite h (h.coil_only (State.sesTo_only ..) rfl |>.coil_runDeferred.coil_only (State.availPoll_only ..) rfl)
  · exact .ite h (h.coil_only (State.sesTo_only ..) rfl |>.coil_runDeferred.coil_only (State.availPoll_only ..) rfl)
  · exact h1.coil_only (State.modSes_only ..) rfl |>.coil_runDeferred
  · exact h.coil_endSession

theorem Holds.coil_unplug {p : Port} (h : Holds (CoilsApart w) t) : Holds (CoilsApart w) (t.unplug p) := by
  unfold State.unplug
  extract_lets t
  have ht : Holds (CoilsApart w) t := h.coil_only (State.voidNow_only ..) rfl |>.coil_only (State.vpRaise_only ..) rfl
    |>.coil_only (State.stopLock_only ..) rfl |>.coil_only (State.clearIdle_only ..) rfl |>.coil_only (State.linkTo_only ..) rfl
    |>.coil_only (State.drive_only ..) rfl |>.coil_only (State.modVeh_only ..) rfl |>.coil_sesUnplug
  exact .ite (.ite (ht.coil_only (State.linkFault_only ..) rfl) ht) h

theorem Holds.coil_plug {p : Port} (h : Holds (CoilsApart w) t) : Holds (CoilsApart w) (t.plug p) := by
  unfold State.plug
  extract_lets s1
  have h1 : Holds (CoilsApart w) s1 := h.coil_only (State.vpRaise_only ..) rfl |>.coil_only (State.modSes_only ..) rfl
  exact .ite h (.ite (h1.coil_only (State.linkTo_only ..) rfl |>.coil_only (State.drive_only ..) rfl) h1.coil_toBasic)

theorem Holds.coil_cpAccept {p : Port} {k : CpState} (h : Holds (CoilsApart w) t) : Holds (CoilsApart w) (t.cpAccept p k) := by
  unfold State.cpAccept
  extract_lets _ s1 s2
  have h1 : Holds (CoilsApart w) s1 := h.coil_only (State.modVeh_only ..) rfl |>.coil_only (State.vpRaise_only ..) rfl
    |>.coil_only (State.wakeEvent_only ..) rfl
  have h2 : Holds (CoilsApart w) s2 := h1.coil_plug
  split
  · exact h1.coil_unplug
  · exact h1.coil_only (State.linkFault_only ..) rfl
  · exact h1.coil_only (State.linkFault_only ..) rfl
  · exact .ite (h2.coil_only (State.pauseSes_only ..) rfl) h2
  · exact (Holds.ite (h2.coil_only (State.resumeSes_only ..) rfl) h2).coil_only (State.advance_only ..) rfl
  · exact h1.coil_plug
  · exact h1.coil_plug

theorem Holds.coil_cpSample {p : Port} {hi lo : ℤ} (h : Holds (CoilsApart w) t) : Holds (CoilsApart w) (t.cpSample p hi lo) := by
  unfold State.cpSample
  extract_lets _ s1 _ s2
  have h1 : Holds (CoilsApart w) s1 := h.coil_only (State.modVeh_only ..) rfl
  have h2 : Holds (CoilsApart w) s2 := h1.coil_only (State.modVeh_only ..) rfl
  exact .ite h (.ite (h.coil_only (State.modVeh_only ..) rfl) (.ite (h1.coil_only (State.modVeh_only ..) rfl)
    (.ite h2.coil_cpAccept h2)))

theorem execCreditOut_coil {p : Port} (h : Holds (CoilsApart w) s) :
    HoldsRes (CoilsApart w) (execCreditOut p s) := by
  unfold execCreditOut
  refine .next ?_
  split
  · exact .ite (h.coil_only (State.sesRaise_only ..) rfl |>.coil_endSession) h
  · exact h

theorem execDieTempCheck_coil {main meas drive : Nat} (h : Holds (CoilsApart w) s) :
    HoldsRes (CoilsApart w) (execDieTempCheck main meas drive s) := by
  unfold execDieTempCheck
  extract_lets _ s1 s2
  have h1 : Holds (CoilsApart w) s1 := h.coil_only (State.modSys_only ..) rfl
  have h2 : Holds (CoilsApart w) s2 := h1.whenB fun _ hu => hu.coil_only (State.irqAll_only ..) rfl
  exact .next (.ite h2.coil_diagFault (h2.coil_only (State.diagGone_only ..) rfl))

theorem execDiscrepancyTimeout_coil {k : Fin 8} (h : Holds (CoilsApart w) s) :
    HoldsRes (CoilsApart w) (execDiscrepancyTimeout k s) := by
  unfold execDiscrepancyTimeout
  extract_lets _ _
  exact .next (.ite (h.coil_only (State.inputFault_only ..) rfl |>.coil_only (State.inputFault_only ..) rfl
    |>.coil_only (State.inputCheck_only ..) rfl |>.coil_evalRows.coil_checkStop) h)

theorem Holds.coil_clearEvents {g : Guest} (h : Holds (CoilsApart w) t) : Holds (CoilsApart w) (t.clearEvents g) := by
  unfold State.clearEvents
  extract_lets s1 s2 s3
  have h1 : Holds (CoilsApart w) s1 := h.each fun _ _ hu => hu.coil_only (State.modVeh_only ..) rfl
    |>.coil_only (State.modSes_only ..) rfl |>.coil_only (State.modPwr_only ..) rfl |>.coil_only (State.modMet_only ..) rfl
    |>.coil_only (State.modNrg_only ..) rfl |>.coil_only (State.modBil_only ..) rfl |>.coil_only (State.modPq_only ..) rfl
    |>.coil_modSp rfl
  have h2 : Holds (CoilsApart w) s2 := h1.coil_only (State.modLegal_only ..) rfl |>.coil_only (State.modSaf_only ..) rfl
    |>.coil_only (State.modLs_only ..) rfl |>.coil_only (State.modChn_only ..) rfl
  have h3 : Holds (CoilsApart w) s3 := h2.coil_only (State.modMsh_only ..) rfl |>.coil_only (State.modJnl_only ..) rfl
    |>.coil_only (State.modCave_only ..) rfl |>.coil_only (State.modKeys_only ..) rfl
  exact h3.coil_only (State.modFw_only ..) rfl |>.coil_only (State.modNfc_only ..) rfl |>.coil_only (State.modDsp_only ..) rfl

theorem execGuestReset_coil {g : Guest} (h : Holds (CoilsApart w) s) :
    HoldsRes (CoilsApart w) (execGuestReset g s) := by
  unfold execGuestReset
  extract_lets _ s1 s2 s3
  have h1 : Holds (CoilsApart w) s1 := h.each fun _ _ hu => .ite hu (hu.coil_only (State.withdrawFrom_only ..) rfl)
  have h2 : Holds (CoilsApart w) s2 := h1.coil_only (State.abortTo_only ..) rfl |>.coil_only (State.dropAdmitted_only ..) rfl
    |>.coil_only (State.dropLeases_only ..) rfl
  have h3 : Holds (CoilsApart w) s3 := h2.coil_only (State.modGuest_only ..) rfl |>.coil_clearEvents
  exact .next (.ite h (h3.foldl fun _ _ hu => hu.coil_only (State.answer_only ..) rfl))

theorem execImdEventRead_coil {path : Path} {g : Guest} {p : Port} (h : Holds (CoilsApart w) s) :
    HoldsRes (CoilsApart w) (execImdEventRead path g p s) :=
  .next (h.readEvent coilsApart_restsOn rfl fun _ hu => hu.coil_modSp rfl)

theorem Holds.coil_imdTrip {p : Port} (h : Holds (CoilsApart w) t) : Holds (CoilsApart w) (t.imdTrip p) := by
  unfold State.imdTrip
  extract_lets _ _
  refine Holds.foldl ?_ fun u _ hu => ?_
  · exact h
  · extract_lets _ t1 t2
    have ht1 : Holds (CoilsApart w) t1 := by
      unfold t1
      split
      · exact hu.coil_modSp rfl |>.coil_imdRaise
      · exact hu
    have ht2 : Holds (CoilsApart w) t2 := .ite ht1 ht1.coil_imdRaise
    exact ht2.coil_modSp rfl |>.coil_tripPort

theorem Holds.coil_endPreclose {p : Port} {t' : PreClose} (h : Holds (CoilsApart w) t) :
    Holds (CoilsApart w) (t.endPreclose p t') := by
  unfold State.endPreclose
  extract_lets _ _
  exact .ite (h.coil_modSp rfl |>.coil_imdRaise) h.coil_imdTrip

theorem Holds.coil_judgePreclose {p : Port} (h : Holds (CoilsApart w) t) : Holds (CoilsApart w) (t.judgePreclose p) := by
  unfold State.judgePreclose
  split
  · exact h
  · exact .ite h.coil_endPreclose h

theorem Holds.coil_imdResult {q : Port} {r : Option Nat} {ce : Nat} (h : Holds (CoilsApart w) t) :
    Holds (CoilsApart w) (t.imdResult q r ce) := by
  unfold State.imdResult
  extract_lets _ _ _ _ _ _ s1 s2 s3
  have h1 : Holds (CoilsApart w) s1 := h.coil_modSp rfl
  have h2 : Holds (CoilsApart w) s2 := h1.whenB fun _ hu => hu.coil_imdRaise
  have h3 : Holds (CoilsApart w) s3 := h2.coil_modSp rfl
  exact .ite h2 (.ite (h3.coil_modSp rfl |>.coil_imdRaise) h3)

theorem Holds.coil_clearLatches {p : Port} {reset : Bool} (h : Holds (CoilsApart w) t) :
    Holds (CoilsApart w) (t.clearLatches p reset) := by
  unfold State.clearLatches
  extract_lets _ _ _ _ _ s1 s2
  have h1 : Holds (CoilsApart w) s1 := .ite (h.coil_clearCause.coil_modSp rfl) h
  have h2 : Holds (CoilsApart w) s2 := .ite h1.coil_clearCause h1
  exact .ite h (.ite h2.coil_clearCause.coil_clearCause h2)

theorem execImdHalfPeriodEnd_coil {p : Port} {ohm : Option Nat} {ce : Nat} (h : Holds (CoilsApart w) s) :
    HoldsRes (CoilsApart w) (execImdHalfPeriodEnd p ohm ce s) := by
  unfold execImdHalfPeriodEnd
  extract_lets _ _ _ s1 s2 s3 _ s4
  have h1 : Holds (CoilsApart w) s1 := h.coil_modSp rfl
  have h2 : Holds (CoilsApart w) s2 := h1.foldl fun _ _ hu => hu.coil_imdResult
  have h3 : Holds (CoilsApart w) s3 := by
    unfold s3
    split
    · exact .ite (h2.coil_only (State.modSaf_only ..) rfl) h2
    · exact h2
  have h4 : Holds (CoilsApart w) s4 := .ite h3.coil_imdTrip h3.coil_judgePreclose
  exact .ite (.next h) (.ite (.next h1.coil_judgePreclose) (.next h4.coil_clearLatches.coil_checkStop))

theorem execImdSlotRotate_coil {g : Fin 8} (h : Holds (CoilsApart w) s) :
    HoldsRes (CoilsApart w) (execImdSlotRotate g s) := by
  unfold execImdSlotRotate
  extract_lets _
  refine .next ?_
  split
  · exact h
  · split
    · exact h
    · extract_lets s1
      have h1 : Holds (CoilsApart w) s1 := h.coil_only (State.modSaf_only ..) rfl
      exact .ite h1 (h1.foldl fun _ _ hu => hu.coil_modSp rfl)

theorem execInputPatternCheck_coil {k : Fin 16} {seen : Nat} (h : Holds (CoilsApart w) s) :
    HoldsRes (CoilsApart w) (execInputPatternCheck k seen s) := by
  unfold execInputPatternCheck
  extract_lets _ _ s1
  have h1 : Holds (CoilsApart w) s1 := h.coil_only (State.modSaf_only ..) rfl
  exact .next (.ite ((Holds.ite h1 (h1.coil_only (State.inputFault_only ..) rfl)).coil_only (State.inputCheck_only ..) rfl
    |>.coil_evalRows.coil_checkStop) h)

theorem execInsulationSelftestEnd_coil {p : Port} {kohm : Nat} (h : Holds (CoilsApart w) s) :
    HoldsRes (CoilsApart w) (execInsulationSelftestEnd p kohm s) := by
  unfold execInsulationSelftestEnd
  extract_lets _ s1
  have h1 : Holds (CoilsApart w) s1 := h.coil_modSp rfl
  refine .next ?_
  split
  · exact .ite (h1.coil_only (State.testNotice_only ..) rfl |>.coil_testEnded.coil_runDeferred) h
  · exact h

theorem execLegalSessionOpen_coil {p : Port} (h : Holds (CoilsApart w) s) :
    HoldsRes (CoilsApart w) (execLegalSessionOpen p s) := by
  unfold execLegalSessionOpen
  extract_lets x bidir code t
  have ht : Holds (CoilsApart w) t := by
    unfold t
    split
    · exact h.coil_only (State.answer_only ..) rfl
    · exact h
  have hreject : Holds (CoilsApart w) ((t.modSes p fun y => { y with authCmd := none }).reject p) :=
    ht.coil_only (State.modSes_only ..) rfl |>.coil_only (State.reject_only ..) rfl
  refine .next ?_
  clear_value x bidir t
  split
  · exact .ite (h.coil_only (State.legalOpen_only ..) rfl).coil_opened hreject
  · exact h

theorem execLegalState_coil (h : Holds (CoilsApart w) s) :
    HoldsRes (CoilsApart w) (execLegalState s) := by
  unfold execLegalState
  extract_lets s1 _ t u s2
  have h1 : Holds (CoilsApart w) s1 := h.each fun _ _ hu => hu.coil_sealCheck
  have ht : Holds (CoilsApart w) t := h1.coil_only (State.modChn_only ..) rfl
  have hu : Holds (CoilsApart w) u := .ite ht (ht.coil_only (State.mirrorEv_only ..) rfl)
  have h2 : Holds (CoilsApart w) s2 := .ite h1 (.ite hu (hu.coil_only (State.mirrorEv_only ..) rfl))
  exact .next (h2.coil_only (State.availAll_only ..) rfl)

theorem Holds.coil_attemptFailed {p : Port} (h : Holds (CoilsApart w) t) : Holds (CoilsApart w) (t.attemptFailed p) := by
  unfold State.attemptFailed
  extract_lets s1
  have h1 : Holds (CoilsApart w) s1 := h.coil_only (State.lockEnd_only ..) rfl
  exact .ite (h.coil_only (State.modLock_only ..) rfl) (.ite h1.coil_endSession h1)

theorem execLockFeedbackTimeout_coil {p : Port} (h : Holds (CoilsApart w) s) :
    HoldsRes (CoilsApart w) (execLockFeedbackTimeout p s) := by
  unfold execLockFeedbackTimeout
  extract_lets _
  exact .next (.ite h h.coil_attemptFailed)

theorem execLockFilterExpiry_coil {p : Port} (h : Holds (CoilsApart w) s) :
    HoldsRes (CoilsApart w) (execLockFilterExpiry p s) := by
  unfold execLockFilterExpiry
  extract_lets _ s1
  have h1 : Holds (CoilsApart w) s1 := h.coil_modSp rfl
  exact .next (.ite h (.ite (h.coil_modSp rfl) (.ite h1.coil_imdRaise.coil_tripPort.coil_checkStop h1)))

theorem execLockPulseEnd_coil {p : Port} (h : Holds (CoilsApart w) s) :
    HoldsRes (CoilsApart w) (execLockPulseEnd p s) := by
  unfold execLockPulseEnd
  extract_lets _ s1
  have h1 : Holds (CoilsApart w) s1 := h.coil_only (State.endDrive_only ..) rfl
  exact .ite (.next h) (.next (.ite h (.ite (h1.coil_only (State.modLk_only ..) rfl
    |>.coil_only (State.lockEnd_only ..) rfl) (.ite h1.coil_attemptFailed (.ite (h1.coil_only (State.lockDone_only ..) rfl)
    (h1.coil_only (State.modLock_only ..) rfl))))))

theorem Holds.coil_confirmOpen {p : Port} (h : Holds (CoilsApart w) t) : Holds (CoilsApart w) (t.confirmOpen p) := by
  unfold State.confirmOpen
  extract_lets _ _ s1 s2 s3
  have h1 : Holds (CoilsApart w) s1 := h.coil_modSp rfl |>.coil_only (State.emit_only ..) rfl |>.coil_sevRaise
  have h2 : Holds (CoilsApart w) s2 := h1.whenB fun _ hu => hu.coil_imdRaise
  have h3 : Holds (CoilsApart w) s3 := .ite h2.coil_setPort h2
  exact h3.coil_busChanged.coil_modSp rfl |>.coil_settle.whenB fun _ hu => hu.coil_clearLatches

theorem execOpenConfirmTimeout_coil {p : Port} (h : Holds (CoilsApart w) s) :
    HoldsRes (CoilsApart w) (execOpenConfirmTimeout p s) := by
  unfold execOpenConfirmTimeout
  extract_lets _
  exact .next (.ite h (.ite h.coil_confirmOpen h.coil_contactorFault))

theorem Holds.coil_execFault {code : Nat} (h : Holds (CoilsApart w) t) : Holds (CoilsApart w) (t.execFault code) := by
  unfold State.execFault
  extract_lets s1 _ s2 s3
  have h1 : Holds (CoilsApart w) s1 := h.coil_only (State.recordFault_only ..) rfl |>.coil_only (State.modSaf_only ..) rfl
  have h2 : Holds (CoilsApart w) s2 := h1.coil_only (State.failRestart_only ..) rfl |>.coil_only (State.modSaf_only ..) rfl
  have h3 : Holds (CoilsApart w) s3 := h2.each fun _ _ hu => hu.coil_abortTests.coil_openPort.coil_coilsOff.coil_only
    (State.endDrive_only ..) rfl
  split
  · exact h1.coil_only (State.writeOuts_only ..) rfl
  · exact h1.coil_only (State.writeOuts_only ..) rfl
  · exact h3.coil_siteTo.each fun _ _ hu => hu.coil_only (State.applyBrake_only ..) rfl

theorem Holds.coil_resetPort {p : Port} {cause : Nat} (h : Holds (CoilsApart w) t) : Holds (CoilsApart w) (t.resetPort p cause) :=
  .ite (h.coil_only (State.modVeh_only ..) rfl |>.coil_endSession.coil_sealCheck) (h.coil_only (State.portReset_only ..) rfl)

theorem Holds.coil_pmFault {l : PmIdx} (h : Holds (CoilsApart w) t) : Holds (CoilsApart w) (t.pmFault l) := by
  unfold State.pmFault
  extract_lets s1
  have h1 : Holds (CoilsApart w) s1 := h.coil_only (State.modPmLink_only ..) rfl
  refine .ite h ?_
  refine Holds.foldl ?_ fun u _ hu => ?_
  · exact h1
  · extract_lets u
    have hu : Holds (CoilsApart w) u := hu.coil_only (State.pwrRaise_only ..) rfl |>.coil_only (State.modPwr_only ..) rfl
    exact hu.coil_resetPort

theorem execPmAckTimeout_coil {p : Port} (h : Holds (CoilsApart w) s) :
    HoldsRes (CoilsApart w) (execPmAckTimeout p s) := by
  unfold execPmAckTimeout
  refine .next ?_
  split
  · exact (Holds.ite (h.coil_only (State.pwrRaise_only ..) rfl) h).coil_pmFault
  · exact h

theorem execPmBadFrame_coil {l : PmIdx} (h : Holds (CoilsApart w) s) :
    HoldsRes (CoilsApart w) (execPmBadFrame l s) := by
  unfold execPmBadFrame
  extract_lets _ _ s1
  have h1 : Holds (CoilsApart w) s1 := h.coil_only (State.modPmLink_only ..) rfl
  exact .next (.ite h (.ite h1.coil_pmFault h1))

theorem execPmFault_coil {l : PmIdx} {ch : Fin 8} {seq : Nat} (code : Nat) (off : Bool) (h : Holds (CoilsApart w) s) :
    HoldsRes (CoilsApart w) (execPmFault l ch seq code off s) := by
  unfold execPmFault
  extract_lets s1
  have h1 : Holds (CoilsApart w) s1 := h.coil_only (State.pmRx_only ..) rfl
  refine .next (.ite h ?_)
  split
  · exact h1
  · exact .ite h1.coil_resetPort h1

theorem execPorRelease_coil (h : Holds (CoilsApart w) s) :
    HoldsRes (CoilsApart w) (execPorRelease s) := by
  unfold execPorRelease
  extract_lets c _ _ _ _ _ _ _ _ s1
  have h1 : Holds (CoilsApart w) s1 := .coil_of_off (by simp [s1, State.spAt])
  exact .ite (.next h) (.next (h1.coil_only (State.shipRestore_only ..) rfl |>.coil_only (State.batteryStart_only ..) rfl
    |>.coil_only (State.rootlessStart_only ..) rfl))

theorem Holds.coil_confirmedOpen {p : Port} (h : Holds (CoilsApart w) t) : Holds (CoilsApart w) (t.confirmedOpen p) := by
  unfold State.confirmedOpen
  extract_lets s1
  have h1 : Holds (CoilsApart w) s1 := h.coil_only (State.sesRaise_only ..) rfl |>.coil_only (State.disable_only ..) rfl
  exact .ite h1.coil_toSealing (h1.coil_only (State.sesTo_only ..) rfl |>.coil_only (State.sesRaise_only ..) rfl
    |>.coil_only (State.modVeh_only ..) rfl |>.coil_only (State.refreshPwm_only ..) rfl
    |>.coil_only (State.wantChanged_only ..) rfl)

theorem Holds.coil_openingFault {p : Port} (h : Holds (CoilsApart w) t) : Holds (CoilsApart w) (t.openingFault p) :=
  h.coil_only (State.modSes_only ..) rfl |>.coil_only (State.halt_only ..) rfl |>.coil_toSealing

theorem Holds.coil_followSafety {p : Port} (h : Holds (CoilsApart w) t) : Holds (CoilsApart w) (t.followSafety p) := by
  unfold State.followSafety
  extract_lets _ t
  have ht : Holds (CoilsApart w) t := (Holds.ite h (h.coil_only (State.halt_only ..) rfl)).coil_only (State.sesTo_only ..) rfl
  split
  · exact .ite h.coil_endSession (.ite (h.coil_only (State.confirmedClosed_only ..) rfl) h)
  · exact .ite h.coil_endSession (.ite h (.ite ht.coil_confirmedOpen (ht.coil_only (State.wantChanged_only ..) rfl)))
  · exact .ite h.coil_endSession (.ite h (.ite ht.coil_confirmedOpen (ht.coil_only (State.wantChanged_only ..) rfl)))
  · exact .ite h.coil_openingFault (.ite h.coil_confirmedOpen h)
  · exact .ite (h.coil_only (State.askSafety_only ..) rfl) h.coil_sealCheck
  · exact .ite h.coil_endSession (.ite (h.coil_only (State.askSafety_only ..) rfl) h)
  · exact .ite h.coil_endSession (.ite (h.coil_only (State.askSafety_only ..) rfl) h)
  · exact .ite (h.coil_only (State.askSafety_only ..) rfl) h
  · exact .ite (h.coil_only (State.askSafety_only ..) rfl) h
  · exact .ite (h.coil_only (State.askSafety_only ..) rfl) h
  · exact .ite (h.coil_only (State.askSafety_only ..) rfl) h
  · exact .ite (h.coil_only (State.askSafety_only ..) rfl) h
  · exact .ite (h.coil_only (State.askSafety_only ..) rfl) h

theorem Holds.coil_applyUnits {l : List Txn} (h : Holds (CoilsApart w) t) : Holds (CoilsApart w) (t.applyUnits l) := by
  induction l generalizing t with
  | nil => exact h
  | cons x l ih =>
    unfold State.applyUnits
    extract_lets s0 s1
    have h0 : Holds (CoilsApart w) s0 := by
      unfold s0
      split
      · exact h.coil_only (State.modCfg_only ..) rfl |>.coil_only (State.chnRaise_only ..) rfl
      · exact h
    have h1 : Holds (CoilsApart w) s1 := h0.coil_applyItems.coil_only (State.modConf_only ..) rfl
    exact .ite (ih h) (.ite h (ih (h1.coil_only (State.appendConf_only ..) rfl)))

theorem Holds.coil_applyBoundary (h : Holds (CoilsApart w) t) : Holds (CoilsApart w) t.applyBoundary := by
  unfold State.applyBoundary
  extract_lets s1 s2
  have h1 : Holds (CoilsApart w) s1 := h.coil_applyUnits
  have h2 : Holds (CoilsApart w) s2 := h1.each fun _ _ hu => .ite hu.coil_applyPort hu
  exact h2.coil_only (State.dropApplied_only ..) rfl

theorem execPowerEpochStart_coil (h : Holds (CoilsApart w) s) :
    HoldsRes (CoilsApart w) (execPowerEpochStart s) := by
  unfold execPowerEpochStart
  extract_lets s1 s2 s3 s4
  have h1 : Holds (CoilsApart w) s1 := h.coil_only (State.renewLease_only ..) rfl |>.coil_only (State.modLease_only ..) rfl
    |>.coil_only (State.renewFence_only ..) rfl
  have h2 : Holds (CoilsApart w) s2 := h1.coil_only (State.modChn_only ..) rfl
  have h3 : Holds (CoilsApart w) s3 := .ite (h2.coil_only (State.applyHeld_only ..) rfl
    |>.coil_only (State.releaseSite_only ..) rfl |>.coil_applyBoundary) h2
  have h4 : Holds (CoilsApart w) s4 := .ite h3 (h3.coil_only (State.renewLease_only ..) rfl)
  exact .ite (.next h) (.next (h4.coil_only (State.propose_only ..) rfl |>.coil_only (State.divide_only ..) rfl
    |>.coil_only (State.availAll_only ..) rfl))

theorem Holds.coil_outputsOff : Holds (CoilsApart w) t.outputsOff :=
  .coil_of_off (by simp only [State.outputsOff, State.spAt, ix_vmap])

theorem Holds.coil_ppAccept {p : Port} {c : PpCode} (h : Holds (CoilsApart w) t) : Holds (CoilsApart w) (t.ppAccept p c) := by
  unfold State.ppAccept
  extract_lets _ s1 s2 s3
  have h1 : Holds (CoilsApart w) s1 := h.coil_only (State.modVeh_only ..) rfl |>.coil_only (State.vpRaise_only ..) rfl
    |>.coil_only (State.wakeEvent_only ..) rfl
  have h2 : Holds (CoilsApart w) s2 := h1.coil_modSp rfl
  have h3 : Holds (CoilsApart w) s3 := .ite (h2.coil_only (State.vpRaise_only ..) rfl
    |>.coil_unplug) (h2.coil_only (State.vpRaise_only ..) rfl |>.coil_only (State.linkFault_only ..) rfl |>.coil_endSession)
  exact .ite (h1.coil_only (State.refreshPwm_only ..) rfl |>.coil_plug) (.ite h3 (.ite h2.coil_unplug (h2.coil_only
    (State.linkFault_only ..) rfl)))

theorem execPpMeasurement_coil {p : Port} {ohm : Nat} (h : Holds (CoilsApart w) s) :
    HoldsRes (CoilsApart w) (execPpMeasurement p ohm s) := by
  unfold execPpMeasurement
  extract_lets _ s1
  have h1 : Holds (CoilsApart w) s1 := h.coil_only (State.modVeh_only ..) rfl
  exact .next (.ite h1.coil_ppAccept h1)

theorem execReleaseBrake_coil {r : Req} (h : Holds (CoilsApart w) s) :
    HoldsRes (CoilsApart w) (execReleaseBrake r s) := by
  unfold execReleaseBrake
  refine .next ?_
  refine .ite (h.coil_only (State.answer_only ..) rfl) ?_
  split
  · exact h.coil_only (State.answer_only ..) rfl
  · extract_lets s1
    have h1 : Holds (CoilsApart w) s1 := h.coil_only (State.askSafety_only ..) rfl |>.coil_heartbeat
    split
    · exact (h1.coil_only (State.accept_only ..) rfl).coil_requestRelease.coil_only (State.safeAnswer_only ..) rfl
    · exact h1.coil_requestRelease.coil_only (State.safeAnswer_only ..) rfl |>.coil_only (State.answer_only ..) rfl

theorem execRequestSafeOut_coil {r : Req} (h : Holds (CoilsApart w) s) :
    HoldsRes (CoilsApart w) (execRequestSafeOut r s) := by
  unfold execRequestSafeOut
  extract_lets _ _ _ s1
  have h1 : Holds (CoilsApart w) s1 := h.coil_only (State.askSafety_only ..) rfl
    |>.coil_heartbeat.coil_only (State.modSaf_only ..) rfl |>.coil_only (State.writeOuts_only ..) rfl
    |>.coil_only (State.safeAnswer_only ..) rfl
  exact .next (.ite (h.coil_only (State.answer_only ..) rfl) (.ite (h.coil_only (State.answer_only ..) rfl) (.ite (h.coil_only
    (State.answer_only ..) rfl) (h1.coil_only (State.answer_only ..) rfl))))

theorem Holds.coil_startRestart {q : Option Port} {cmd : Option Req} (h : Holds (CoilsApart w) t) :
    Holds (CoilsApart w) (t.startRestart q cmd) := by
  unfold State.startRestart
  extract_lets s1
  have h1 : Holds (CoilsApart w) s1 := h.coil_only (State.modSaf_only ..) rfl
  split
  · exact h1.coil_only (State.modSaf_only ..) rfl |>.coil_siteTo
  · exact h1

theorem execResetPort_coil {r : Req} (h : Holds (CoilsApart w) s) :
    HoldsRes (CoilsApart w) (execResetPort r s) := by
  unfold execResetPort
  extract_lets _
  exact .next (.ite (h.coil_only (State.accept_only ..) rfl |>.coil_only (State.modVeh_only ..) rfl
    |>.coil_resetPort) (h.coil_only (State.portReset_only ..) rfl |>.coil_only (State.answer_only ..) rfl))

theorem Holds.coil_giveReset {q : Option Port} (h : Holds (CoilsApart w) t) : Holds (CoilsApart w) (t.giveReset q) := by
  unfold State.giveReset
  extract_lets _ _ _ _ s1 s2 s3
  have h1 : Holds (CoilsApart w) s1 := h.coil_only (State.modSaf_only ..) rfl
  have h2 : Holds (CoilsApart w) s2 := h1.coil_only (State.modSaf_only ..) rfl
  have h3 : Holds (CoilsApart w) s3 := h2.each fun _ _ hu => .ite hu.coil_clearLatches hu
  exact (h3.whenB fun _ hu => hu.coil_only (State.safRaise_only ..) rfl |>.coil_only (State.siteMsg_only ..) rfl).coil_evalRows

theorem execResetReq_coil {q : Option Port} (h : Holds (CoilsApart w) s) :
    HoldsRes (CoilsApart w) (execResetReq q s) := by
  unfold execResetReq
  extract_lets s1
  have h1 : Holds (CoilsApart w) s1 := h.coil_heartbeat
  exact .next (.ite (h1.coil_giveReset.coil_only (State.safeAnswer_only ..) rfl) (h1.coil_only (State.safeAnswer_only ..) rfl))

theorem execResetTrip_coil {r : Req} (h : Holds (CoilsApart w) s) :
    HoldsRes (CoilsApart w) (execResetTrip r s) := by
  unfold execResetTrip
  extract_lets _ s1
  have h1 : Holds (CoilsApart w) s1 := h.coil_only (State.askSafety_only ..) rfl
    |>.coil_heartbeat.coil_giveReset.coil_only (State.safeAnswer_only ..) rfl
  exact .next (.ite (h.coil_only (State.answer_only ..) rfl) (.ite (h.coil_only (State.answer_only ..) rfl) (.ite (h.coil_only
    (State.answer_only ..) rfl) (.ite (h.coil_only (State.answer_only ..) rfl) (h1.coil_only (State.answer_only ..) rfl)))))

theorem execRestartReq_coil {q : Option Port} (h : Holds (CoilsApart w) s) :
    HoldsRes (CoilsApart w) (execRestartReq q s) := by
  unfold execRestartReq
  extract_lets s1
  have h1 : Holds (CoilsApart w) s1 := h.coil_heartbeat
  exact .next (.ite (h1.coil_startRestart.coil_only (State.safeAnswer_only ..) rfl) (h1.coil_only (State.safeAnswer_only ..) rfl))

theorem Holds.coil_runSelftest {r : Req} {code : Nat} (h : Holds (CoilsApart w) t) :
    Holds (CoilsApart w) (t.runSelftest r code) := by
  unfold State.runSelftest
  extract_lets _
  exact .ite (h.coil_only (State.answer_only ..) rfl) (.ite (h.coil_only (State.answer_only ..) rfl) (.ite (h.coil_only
    (State.accept_only ..) rfl |>.coil_only (State.askSafety_only ..) rfl
      |>.coil_heartbeat.coil_startTest.coil_only (State.safeAnswer_only ..) rfl) (h.coil_only (State.accept_only ..) rfl
      |>.coil_modSp rfl)))

theorem execSafEventRead_coil {path : Path} {g : Guest} {p : Port} (h : Holds (CoilsApart w) s) :
    HoldsRes (CoilsApart w) (execSafEventRead path g p s) :=
  .next (h.readEvent coilsApart_restsOn rfl fun _ hu => hu.coil_modSp rfl)

theorem Holds.coil_failBrakeTest {b : Fin 2} (h : Holds (CoilsApart w) t) : Holds (CoilsApart w) (t.failBrakeTest b) := by
  unfold State.failBrakeTest
  extract_lets _ s1 s2
  have h1 : Holds (CoilsApart w) s1 := h.coil_only (State.modBrk_only ..) rfl |>.coil_only (State.brkRaise_only ..) rfl
  have h2 : Holds (CoilsApart w) s2 := h1.coil_only (State.testNotice_only ..) rfl
  refine Holds.coil_only ?_ (State.writeOuts_only ..) rfl
  split
  · exact h2.coil_testEnded
  · exact h2

theorem execSafeInEdge_coil {k : Fin 16} {level : Bool} (h : Holds (CoilsApart w) s) :
    HoldsRes (CoilsApart w) (execSafeInEdge k level s) := by
  unfold execSafeInEdge
  extract_lets _ _ s1 _ s2 _ s3 s4
  have h1 : Holds (CoilsApart w) s1 := h.coil_only (State.modSaf_only ..) rfl
  have h2 : Holds (CoilsApart w) s2 := h1.coil_only (State.inputCheck_only ..) rfl |>.coil_evalRows
  have h3 : Holds (CoilsApart w) s3 := h2.whenB fun _ hu => hu.coil_giveReset
  have h4 : Holds (CoilsApart w) s4 := h3.each fun _ _ hu => .ite hu.coil_failBrakeTest hu
  exact .ite (.next h1) (.next (h4.coil_checkStop.coil_only (State.wakeEvent_only ..) rfl))

theorem execSafetyCpPeriod_coil {p : Port} {pwm : Bool} {hi lo : ℤ} (h : Holds (CoilsApart w) s) :
    HoldsRes (CoilsApart w) (execSafetyCpPeriod p pwm hi lo s) := by
  unfold execSafetyCpPeriod
  extract_lets _ _ _ _ s1 s2
  have h1 : Holds (CoilsApart w) s1 := h.coil_modSp rfl
  have h2 : Holds (CoilsApart w) s2 := .ite h1.coil_imdRaise.coil_tripPort h1
  exact .next ((Holds.ite h2.coil_clearLatches h2).coil_checkStop)

theorem Holds.coil_refreshCurrent {p : Port} (h : Holds (CoilsApart w) t) : Holds (CoilsApart w) (t.refreshCurrent p) :=
  h.coil_modSp (by split <;> rfl)

theorem Holds.coil_weldMoved {p : Port} (h : Holds (CoilsApart w) t) : Holds (CoilsApart w) (t.weldMoved p) := by
  unfold State.weldMoved
  split
  · exact .ite h.coil_failWeld h
  · exact h

theorem Holds.coil_portCycle {p : Port} {i : PortSense} (h : Holds (CoilsApart w) t) :
    Holds (CoilsApart w) (t.portCycle p i) := by
  unfold State.portCycle
  extract_lets _ _ _ s1 s2 s2' _ _
  have h1 : Holds (CoilsApart w) s1 := h.coil_refreshCurrent.coil_modSp rfl
  have h2 : Holds (CoilsApart w) s2 := (Holds.ite h1.coil_imdRaise.coil_tripPort h1).coil_weldMoved
  have h2' : Holds (CoilsApart w) s2' := h2.coil_toBlocked
  refine .ite h2'.coil_setPort.coil_sevRaise (.ite h2'.coil_confirmOpen ?_)
  split
  · exact .ite h2'.coil_openPort h2'
  · exact h2'

theorem Holds.coil_sendChanges (h : Holds (CoilsApart w) t) : Holds (CoilsApart w) t.sendChanges :=
  (h.whenB fun _ hu => hu.coil_only (State.siteMsg_only ..) rfl).each fun _ _ hu => hu.whenB fun _ hu => hu.coil_portMsg

theorem Holds.coil_readBack {c : CycleSense} (h : Holds (CoilsApart w) t) : Holds (CoilsApart w) (t.readBack c) := by
  unfold State.readBack
  extract_lets _ _ _ _ _ _ s1 s2 s3 s4 s5
  have h1 : Holds (CoilsApart w) s1 := h.coil_only (State.modSaf_only ..) rfl
  have h2 : Holds (CoilsApart w) s2 := h1.each fun _ _ hu => hu.coil_modSp rfl
  have h3 : Holds (CoilsApart w) s3 := h2.each fun _ _ hu => hu.coil_only (State.modBrk_only ..) rfl
  have h4 : Holds (CoilsApart w) s4 := h3.foldl fun _ _ hu => hu.coil_openPort.coil_coilsOff
  have h5 : Holds (CoilsApart w) s5 := h4.foldl fun _ _ hu => hu.coil_only (State.applyBrake_only ..) rfl
  exact .ite (.ite (h5.coil_only (State.diagGone_only ..) rfl) h5) (h5.coil_only (State.safRaise_only ..) rfl
    |>.coil_only (State.tripLog_only ..) rfl |>.coil_only (State.writeOuts_only ..) rfl |>.coil_diagFault)

theorem Holds.coil_repeatStatus (h : Holds (CoilsApart w) t) : Holds (CoilsApart w) t.repeatStatus := by
  unfold State.repeatStatus
  refine Holds.each ?_ fun _ u hu => ?_
  · exact h.coil_only (State.modSaf_only ..) rfl |>.coil_only (State.siteMsg_only ..) rfl
  · extract_lets _
    exact hu.coil_portMsg.coil_only (State.safeSend_only ..) rfl |>.coil_only (State.safeSend_only ..) rfl

theorem execSafetyCycle_coil {c : CycleSense} (h : Holds (CoilsApart w) s) :
    HoldsRes (CoilsApart w) (execSafetyCycle c s) := by
  unfold execSafetyCycle
  extract_lets s1 _ s2 s3 s4 s5
  have h1 : Holds (CoilsApart w) s1 := .ite h (h.coil_only (State.reach_only ..) rfl |>.coil_only (State.reach_only ..) rfl
    |>.coil_only (State.modSaf_only ..) rfl)
  have h2 : Holds (CoilsApart w) s2 := h1.whenB fun _ hu => hu.coil_only (State.modSaf_only ..) rfl
  have h3 : Holds (CoilsApart w) s3 := h2.coil_evalRows
  have h4 : Holds (CoilsApart w) s4 := h3.each fun _ _ hu => hu.coil_portCycle
  have h5 : Holds (CoilsApart w) s5 := h4.coil_only (State.writeOuts_only ..) rfl |>.coil_readBack.coil_checkStop.coil_sendChanges
  exact .ite (.next h) (.ite (.next h1.coil_execFault) (.next (.ite h5.coil_repeatStatus h5)))

theorem execSafetyEccScrub_coil {corrected : Nat} {uncorrectable : Bool} (h : Holds (CoilsApart w) s) :
    HoldsRes (CoilsApart w) (execSafetyEccScrub corrected uncorrectable s) := by
  unfold execSafetyEccScrub
  extract_lets s1
  have h1 : Holds (CoilsApart w) s1 := h.coil_only (State.modSaf_only ..) rfl
  exact .next (.ite h1.coil_execFault h1)

theorem execSafetyInitDone_coil {outcome : InitOutcome} (h : Holds (CoilsApart w) s) :
    HoldsRes (CoilsApart w) (execSafetyInitDone outcome s) := by
  unfold execSafetyInitDone
  extract_lets s1 failed s2
  have h1 : Holds (CoilsApart w) s1 := h.coil_only (State.reach_only ..) rfl |>.coil_only (State.reach_only ..) rfl
    |>.coil_only (State.reach_only ..) rfl |>.coil_only (State.modSaf_only ..) rfl
  have hfailed (off : Nat) : Holds (CoilsApart w) (failed off) := h1.coil_only (State.safetyUnproven_only ..) rfl
    |>.coil_only (State.modSaf_only ..) rfl |>.coil_siteTo
  have h2 : Holds (CoilsApart w) s2 := h1.coil_only (State.modSys_only ..) rfl |>.coil_only (State.safetyProven_only ..) rfl
    |>.coil_siteTo
  refine .ite (.next h) ?_
  refine .next ?_
  split
  · exact h1.coil_only (State.safetyUnproven_only ..) rfl |>.coil_execFault
  · exact hfailed 0
  · exact hfailed _
  · exact h1.coil_only (State.safetyUnproven_only ..) rfl |>.coil_diagFault
  · exact h2.each fun _ _ hu => hu.coil_checkBlocked

theorem Holds.coil_leaveFault {p : Port} (h : Holds (CoilsApart w) t) : Holds (CoilsApart w) (t.leaveFault p) := by
  unfold State.leaveFault
  extract_lets s1 s2
  have h1 : Holds (CoilsApart w) s1 := h.coil_modSp rfl
  have h2 : Holds (CoilsApart w) s2 := .ite h1 h1.coil_confirmOpen
  exact .ite h2.coil_setPort (h.coil_modSp rfl)

theorem execSafetyRestartDone_coil {ok : Bool} {item : Nat} (h : Holds (CoilsApart w) s) :
    HoldsRes (CoilsApart w) (execSafetyRestartDone ok item s) := by
  unfold execSafetyRestartDone
  extract_lets s1 s2 t
  have h1 : Holds (CoilsApart w) s1 := h.coil_only (State.modSaf_only ..) rfl
  have h2 : Holds (CoilsApart w) s2 := h1.coil_only (State.modSaf_only ..) rfl |>.coil_only (State.safRaise_only ..) rfl
  have ht : Holds (CoilsApart w) t := h2.coil_only (State.modSaf_only ..) rfl
    |>.each fun _ _ hu => hu.coil_only (State.modBrk_only ..) rfl
  refine .next ?_
  split
  · exact h
  · extract_lets s3 s2
    have h3 : Holds (CoilsApart w) s3 := by
      unfold s3
      split
      · exact h2.coil_leaveFault.coil_checkBlocked
      · exact (ht.coil_siteTo.each fun _ _ hu => hu.coil_leaveFault).each fun _ _ hu => hu.coil_checkBlocked
    have h2 : Holds (CoilsApart w) s2 := by
      unfold s2
      split
      · exact h1
      · exact h1.coil_only (State.modSaf_only ..) rfl |>.coil_siteTo
    exact .ite (h3.coil_only (State.finalOpt_only ..) rfl) (h2.coil_only (State.finalOpt_only ..) rfl)

theorem execSelftestReq_coil {p : Port} {code : Nat} (h : Holds (CoilsApart w) s) :
    HoldsRes (CoilsApart w) (execSelftestReq p code s) := by
  unfold execSelftestReq
  extract_lets s1
  have h1 : Holds (CoilsApart w) s1 := h.coil_heartbeat
  exact .next (.ite (.ite (h1.coil_modSp rfl |>.coil_only (State.safeAnswer_only ..) rfl) (h1.coil_only
    (State.safeAnswer_only ..) rfl)) (.ite (h1.coil_startTest.coil_only (State.safeAnswer_only ..) rfl) (h1.coil_only
      (State.safeAnswer_only ..) rfl)))

theorem execServiceImageStart_coil {verified : Bool} (h : Holds (CoilsApart w) s) :
    HoldsRes (CoilsApart w) (execServiceImageStart verified s) := by
  unfold execServiceImageStart
  extract_lets t
  have ht : Holds (CoilsApart w) t := h.coil_only (State.modFw_only ..) rfl |>.coil_chipReset
  exact .next (.ite h (.ite (h.coil_only (State.enterRom_only ..) rfl) (.ite (h.coil_only (State.modFw_only ..) rfl
    |>.coil_only (State.modSys_only ..) rfl |>.coil_only (State.modHost_only ..) rfl |>.coil_only (State.modKeys_only ..) rfl
    |>.coil_only (State.reach_only ..) rfl) (.ite (ht.coil_only (State.enterRom_only ..) rfl) ht))))

theorem execSiteState_coil (h : Holds (CoilsApart w) s) :
    HoldsRes (CoilsApart w) (execSiteState s) := by
  unfold execSiteState
  extract_lets s1 _ s2
  have h1 : Holds (CoilsApart w) s1 := by
    unfold s1
    split
    · exact h.each fun _ _ hu => hu.coil_endSession
    · exact h.each fun _ _ hu => hu.coil_endSession
    · exact h.each fun _ _ hu => hu.coil_endSession
    · exact h
    · exact h
    · exact h
    · exact h
  have h2 : Holds (CoilsApart w) s2 := .ite h1 (h1.coil_only (State.modChn_only ..) rfl |>.coil_only (State.mirrorEv_only ..) rfl)
  exact .next (h2.coil_only (State.availAll_only ..) rfl)

theorem execStopSession_coil {r : Req} (h : Holds (CoilsApart w) s) :
    HoldsRes (CoilsApart w) (execStopSession r s) := by
  unfold execStopSession
  extract_lets _ _ s1
  have h1 : Holds (CoilsApart w) s1 := by
    unfold s1
    split
    · exact h.coil_only (State.answer_only ..) rfl
    · exact h
  exact .next (.ite (h.coil_only (State.accept_only ..) rfl |>.coil_only (State.modSes_only ..) rfl
    |>.coil_endSession) (.ite (h1.coil_only (State.modSes_only ..) rfl |>.coil_only (State.reject_only ..) rfl
    |>.coil_only (State.answer_only ..) rfl) (.ite (h.coil_only (State.modSes_only ..) rfl
    |>.coil_only (State.answer_only ..) rfl) (h.coil_only (State.answer_only ..) rfl))))

theorem execTrip_coil {p : Port} {cause row : Nat} (h : Holds (CoilsApart w) s) :
    HoldsRes (CoilsApart w) (execTrip p cause row s) := by
  unfold execTrip
  extract_lets _ s0 s1
  have h0 : Holds (CoilsApart w) s0 := .ite (h.coil_only (State.halt_only ..) rfl) h
  have h1 : Holds (CoilsApart w) s1 := h0.coil_endSession
  exact .next ((Holds.ite (h1.coil_only (State.sendAdvice_only ..) rfl) h1).coil_only (State.availPoll_only ..) rfl)

theorem Holds.coil_toSafety {l : SLink} {u' : UpMsg} (h : Holds (CoilsApart w) t) : Holds (CoilsApart w) (t.toSafety l u') :=
  .ite h (h.coil_modSp rfl)

theorem execUpstreamFrame_coil {l : SLink} {first : UpSym} {body crc : List UpSym} (h : Holds (CoilsApart w) s) :
    HoldsRes (CoilsApart w) (execUpstreamFrame l first body crc s) := by
  unfold execUpstreamFrame
  extract_lets _
  refine .next (.ite h ?_)
  split
  · exact h.coil_only (State.modSl_only ..) rfl |>.coil_toSafety.coil_only (State.pollDone_only ..) rfl
  · exact .ite (h.coil_only (State.modSl_only ..) rfl) h

theorem Holds.coil_auxLost (h : Holds (CoilsApart w) t) : Holds (CoilsApart w) t.auxLost := by
  unfold State.auxLost
  extract_lets s1
  have h1 : Holds (CoilsApart w) s1 := by
    unfold s1
    refine Holds.each ?_ fun _ u hu => ?_
    · exact h
    · refine .ite hu ?_
      split
      · exact .ite hu.coil_failWeld hu.coil_contactorFault
      · exact hu.coil_contactorFault
  exact (h1.each fun _ _ hu => .ite (hu.coil_only (State.applyBrake_only ..) rfl) hu).coil_only (State.writeOuts_only ..) rfl
    |>.coil_checkStop

theorem Holds.coil_underVoltage (h : Holds (CoilsApart w) t) : Holds (CoilsApart w) t.underVoltage := by
  unfold State.underVoltage
  extract_lets s1
  have h1 : Holds (CoilsApart w) s1 := h.coil_only (State.modLs_only ..) rfl |>.coil_only (State.lsRaise_only ..) rfl
  exact .ite h (h1.coil_auxLost.each fun _ _ hu => hu.coil_only (State.endDrive_only ..) rfl
    |>.coil_only (State.modLk_only ..) rfl)

theorem execVehicleStop_coil {p : Port} (h : Holds (CoilsApart w) s) :
    HoldsRes (CoilsApart w) (execVehicleStop p s) := by
  unfold execVehicleStop
  extract_lets _
  exact .next (.ite h.coil_endSession h)

theorem execWeldTestTimer_coil {p : Port} (h : Holds (CoilsApart w) s) :
    HoldsRes (CoilsApart w) (execWeldTestTimer p s) := by
  unfold execWeldTestTimer
  extract_lets _ s1
  have h1 : Holds (CoilsApart w) s1 := h.coil_modSp rfl
  refine .next ?_
  split
  · exact h
  · extract_lets _ _ _ _
    refine .ite h ?_
    split
    · exact .ite h.coil_failWeld (.ite h.coil_failWeld (.ite h.coil_failWeld (h.coil_modSp rfl)))
    · exact .ite h.coil_failWeld (.ite h.coil_failWeld (.ite h.coil_failWeld (h.coil_modSp_off 0 rfl)))
    · exact .ite h.coil_failWeld (.ite h.coil_failWeld (.ite (h.coil_modSp_off 0 rfl) (h1.coil_only (State.testNotice_only ..) rfl
        |>.coil_testEnded.coil_runDeferred)))

/-- CLOSE_REQ of another port leaves the coils of this one, and so does one without Safety's permit (R352). -/
theorem execCloseReq_coil {p : Port} (h : Holds (CoilsApart w) s) (hpermit : p = w → s.heartbeat.permit p = false) :
    HoldsRes (CoilsApart w) (execCloseReq p s) := by
  unfold execCloseReq
  extract_lets s1
  have h1 : Holds (CoilsApart w) s1 := h.coil_heartbeat
  refine .next ?_
  split
  case isTrue hgiven =>
    have hp : p ≠ w := fun hp => absurd (hpermit hp) (by simp [s1, hgiven])
    exact (h1.coil_only (State.emit_only ..) rfl |>.coil_modSp_ne hp).coil_setPort.coil_busChanged.coil_only
      (State.safeAnswer_only ..) rfl
  case isFalse => exact h1.coil_only (State.safeAnswer_only ..) rfl

/-! ### The commands -/

/-- Of all commands a permitted CLOSE_REQ of the port alone energises both its coils. The commands that write the ports' actuators are
named; the others leave them. -/
theorem exec_coil (c : Instr) (h : Holds (CoilsApart w) s) (hpermit : ∀ p, c = .closeReq p → p = w → s.heartbeat.permit p = false) :
    HoldsRes (CoilsApart w) (exec c s) := by
  cases c
  case activationTime => exact execActivationTime_coil h
  case answer => exact execAnswer_coil h
  case authoriseSession => exact execAuthoriseSession_coil h
  case authorizationReq => exact .next (.ite h (.ite (h.coil_only (State.sayVehicle_only ..) rfl) h.coil_identify))
  case basicFallbackEnd => exact .next (.ite (h.coil_only (State.modVeh_only ..) rfl |>.coil_toBasic) h)
  case brakeReleaseReq => exact execBrakeReleaseReq_coil h
  case brakeTestTimer => exact execBrakeTestTimer_coil h
  case chipReset => exact .next h.coil_chipReset
  case clearFault => exact execClearFault_coil h
  case clockDeviation => exact .next (.ite h (.ite (h.coil_only (State.modSys_only ..) rfl
    |>.coil_only (State.enterRom_only ..) rfl) h.coil_chipReset))
  case closeConfirmTimeout => exact .next (.ite h.coil_contactorFault.coil_checkStop h)
  case closeReq p => exact execCloseReq_coil h (hpermit p rfl)
  case coilCurrentFault => exact execCoilCurrentFault_coil h
  case comparatorSelftest => exact execComparatorSelftest_coil h
  case configJournalReplay => exact execConfigJournalReplay_coil h
  case contactDisagreeTimeout => exact .next (.ite h.coil_contactorFault.coil_checkStop h)
  case contract => exact .next (.ite (h.coil_only (State.modVeh_only ..) rfl |>.coil_only (State.vpRaise_only ..) rfl
    |>.coil_identify) h)
  case cpInvalidTimeout => exact .next (.ite h.coil_cpAccept h)
  case cpPeriod => exact .next (h.coil_cpSample.coil_only (State.modVeh_only ..) rfl)
  case creditOut => exact execCreditOut_coil h
  case dieTempCheck => exact execDieTempCheck_coil h
  case discrepancyTimeout => exact execDiscrepancyTimeout_coil h
  case driverOffTest => exact .next (.ite (h.coil_only (State.diagGone_only ..) rfl) (.ite h.coil_diagFault h))
  case eccUncorrectable => exact .next h.coil_chipReset
  case guestReset => exact execGuestReset_coil h
  case heartbeat => exact .next h.coil_heartbeat
  case imdEventRead => exact execImdEventRead_coil h
  case imdHalfPeriodEnd => exact execImdHalfPeriodEnd_coil h
  case imdSlotRotate => exact execImdSlotRotate_coil h
  case inputPatternCheck => exact execInputPatternCheck_coil h
  case insulationSelftestEnd => exact execInsulationSelftestEnd_coil h
  case legalGap => exact .next (.ite h.coil_endSession h)
  case legalSessionOpen => exact execLegalSessionOpen_coil h
  case legalState => exact execLegalState_coil h
  case linkLostGrace => exact .next (.ite (h.coil_only (State.modSes_only ..) rfl |>.coil_endSession) h)
  case lockFeedbackTimeout => exact execLockFeedbackTimeout_coil h
  case lockFilterExpiry => exact execLockFilterExpiry_coil h
  case lockPulseEnd => exact execLockPulseEnd_coil h
  case openConfirmTimeout => exact execOpenConfirmTimeout_coil h
  case openReq => exact .next (h.coil_heartbeat.coil_openPort.coil_checkStop.coil_only (State.safeAnswer_only ..) rfl)
  case oscillatorFault => exact .next h.coil_execFault
  case outReq => exact .next (h.coil_heartbeat.coil_only (State.modSaf_only ..) rfl |>.coil_only (State.writeOuts_only ..) rfl
    |>.coil_only (State.safeAnswer_only ..) rfl)
  case pauseLimit => exact .next (.ite h.coil_endSession h)
  case pmAckTimeout => exact execPmAckTimeout_coil h
  case pmBadFrame => exact execPmBadFrame_coil h
  case pmFault _ _ _ code off => exact execPmFault_coil code off h
  case pmRxSilence => exact .next h.coil_pmFault
  case porRelease => exact execPorRelease_coil h
  case portState => exact .next (h.coil_followSafety.coil_only (State.advance_only ..) rfl
    |>.coil_only (State.dueUnlock_only ..) rfl |>.coil_runDeferred.coil_only (State.availPoll_only ..) rfl)
  case powerEpochStart => exact execPowerEpochStart_coil h
  case powerOnReset => exact .next (.ite h (Holds.coil_outputsOff.coil_only (State.modLegal_only ..) rfl
    |>.coil_only (State.modSys_only ..) rfl))
  case ppMeasurement => exact execPpMeasurement_coil h
  case prechargeTimeout => exact .next (.ite h.coil_endSession h)
  case precloseTestEnd => exact .next (h.coil_modSp rfl |>.coil_judgePreclose)
  case protocolError => exact .next (.ite h h.coil_resetPort)
  case railFault => exact .next h.coil_execFault
  case rampDone => exact .next h.coil_heartbeat
  case rcmTrip => exact .next (.ite (h.coil_imdRaise.coil_modSp rfl |>.coil_tripPort.coil_checkStop) h)
  case readings => exact .next (.ite h.coil_endSession (h.coil_only (State.advance_only ..) rfl))
  case releaseBrake => exact execReleaseBrake_coil h
  case requestSafeOut => exact execRequestSafeOut_coil h
  case requestSafetyRestart => exact .next (.ite (h.coil_only (State.answer_only ..) rfl) (.ite (h.coil_only
    (State.answer_only ..) rfl) (.ite (h.coil_only (State.accept_only ..) rfl |>.coil_only (State.askSafety_only ..) rfl
      |>.coil_heartbeat.coil_startRestart.coil_only (State.safeAnswer_only ..) rfl) (h.coil_only (State.answer_only ..) rfl))))
  case resetChip => exact .next (.ite (h.coil_only (State.answer_only ..) rfl) (.ite (h.coil_only
    (State.answer_only ..) rfl) h.coil_chipReset))
  case resetPort => exact execResetPort_coil h
  case resetReq => exact execResetReq_coil h
  case resetTrip => exact execResetTrip_coil h
  case restartReq => exact execRestartReq_coil h
  case runBrakeTest => exact .next h.coil_runSelftest
  case runInsulationSelftest => exact .next h.coil_runSelftest
  case runWeldTest => exact .next h.coil_runSelftest
  case safEventRead => exact execSafEventRead_coil h
  case safeInEdge => exact execSafeInEdge_coil h
  case safetyCpPeriod => exact execSafetyCpPeriod_coil h
  case safetyCycle => exact execSafetyCycle_coil h
  case safetyEccScrub => exact execSafetyEccScrub_coil h
  case safetyInitDone => exact execSafetyInitDone_coil h
  case safetyRestartDone => exact execSafetyRestartDone_coil h
  case sealedReport => exact .next (.ite h.coil_sealCheck.coil_leaveSealing h)
  case selftestDue => exact .next (.ite h (.ite h.coil_startTest (h.coil_modSp rfl)))
  case selftestReq => exact execSelftestReq_coil h
  case serviceImageStart => exact execServiceImageStart_coil h
  case serviceLossTimeout => exact .next h.coil_serviceLoss
  case serviceWatchdogExpiry => exact .next h.coil_chipReset
  case siteState => exact execSiteState_coil h
  case stopSession => exact execStopSession_coil h
  case tableDigestCheck => exact .next (.ite (h.coil_only (State.diagGone_only ..) rfl) h.coil_diagFault)
  case trip => exact execTrip_coil h
  case upstreamFrame => exact execUpstreamFrame_coil h
  case vauxOvervoltage => exact .next h.coil_underVoltage
  case vauxUv => exact .next h.coil_underVoltage
  case vehicleStop => exact execVehicleStop_coil h
  case watchdogWindowExpiry => exact .next (.ite (h.coil_only (State.modSaf_only ..) rfl |>.coil_execFault) h)
  case weldTestTimer => exact execWeldTestTimer_coil h
  case windowDeadline => exact .next (.ite (h.coil_openPort.coil_modSp rfl |>.coil_only (State.modSaf_only ..) rfl
    |>.coil_sevRaise.coil_only (State.tripLog_only ..) rfl |>.coil_checkStop) h)
  all_goals exact (exec_only _ s).holds h coilsApart_restsOn rfl

/-- Settles O11: a step from a state in which the port's coils are not both energised leaves them so, but for a permitted CLOSE_REQ of
that port. -/
theorem bothCoilsCloseByPermitAlone : Obligations.BothCoilsCloseByPermitAlone := by
  unfold Obligations.BothCoilsCloseByPermitAlone
  intro s t p hstep h0 h1
  by_contra hnot
  obtain ⟨hapart, hpermit⟩ := not_or.mp hnot
  have hs : Holds (CoilsApart p) s := ⟨hapart⟩
  have ht : CoilsApart p t := by
    unfold step at hstep
    split at hstep
    next c rest hpending =>
      have hs' : Holds (CoilsApart p) { s with pending := rest } := ⟨hapart⟩
      refine (exec_coil c hs' fun q hc hq => ?_).of t hstep
      subst hc hq
      by_contra hgiven
      exact hpermit ⟨by rw [hpending]; rfl, by rw [hpending]; simpa using hgiven⟩
    next =>
      cases hstep
      exact (hs.coil_only (State.tick_only _) rfl).of
  exact ht ⟨h0, h1⟩

end Sys2Proof.Machine
end

section
/-! What one guest does in its register space (spec 03): it reaches that guest's own registers and the outputs, and over PCIe it may end
a sleep that is prepared or committed (R44). What counts as activity of the host is the model's choice (log 179). -/

namespace Sys2Proof.Machine

variable {g h : Guest} {path : Path} {s t u : State}

theorem Only.guest_eq {ps : List Part} (k : Only ps s t) (hps : Part.host ∉ ps) : t.guest h = s.guest h :=
  congrArg (fun x : HostSt => ix x.guests h) (k.same .host hps)

/-! ### A guest's own space -/

/-- t comes of s by changes to the registers of guest g, to outputs and to what the specification leaves free. -/
structure OwnSpace (g : Guest) (s t : State) : Prop where
  only : Only [.host, .sent, .free] s t
  others : ∀ h, g ≠ h → t.guest h = s.guest h

theorem OwnSpace.refl (g : Guest) (s : State) : OwnSpace g s s := ⟨Only.refl _ _, fun _ _ => rfl⟩

theorem OwnSpace.trans (h : OwnSpace g s t) (k : OwnSpace g t u) : OwnSpace g s u :=
  ⟨Only.step k.only rfl h.only, fun i hi => (k.others i hi).trans (h.others i hi)⟩

theorem OwnSpace.ite {c : Prop} [Decidable c] (h : OwnSpace g s t) (k : OwnSpace g s u) : OwnSpace g s (if c then t else u) := by
  split <;> assumption

theorem OwnSpace.dite {c : Prop} [Decidable c] {f : c → State} {f' : ¬c → State} (h : ∀ x, OwnSpace g s (f x))
    (k : ∀ x, OwnSpace g s (f' x)) : OwnSpace g s (if x : c then f x else f' x) := by
  split
  · exact h _
  · exact k _

theorem OwnSpace.foldl {α : Type} {f : State → α → State} {l : List α} (h : OwnSpace g s t)
    (k : ∀ u a, OwnSpace g s u → OwnSpace g s (f u a)) : OwnSpace g s (l.foldl f t) := by
  induction l generalizing t with
  | nil => exact h
  | cons a l ih => exact ih (k _ _ h)

theorem OwnSpace.modGuest {f : GuestSt → GuestSt} (k : OwnSpace g s t) : OwnSpace g s (t.modGuest g f) :=
  k.trans ⟨(State.modGuest_only ..).mono rfl, fun _ hne => ix_upd_ne _ _ _ _ hne⟩

/-- A change beside the host's side. -/
theorem OwnSpace.beside {ps : List Part} (k : OwnSpace g s t) (h : Only ps t u) (hps : within ps [.sent, .free] = true) :
    OwnSpace g s u := by
  have hsent : Only [.sent, .free] t u := h.mono hps
  exact k.trans ⟨hsent.mono rfl, fun i _ => hsent.guest_eq (by decide)⟩

theorem OwnSpace.emit {o : Out} (k : OwnSpace g s t) : OwnSpace g s (t.emit o) := k.beside (State.emit_only ..) rfl

theorem OwnSpace.useFree (k : OwnSpace g s t) : OwnSpace g s t.useFree := k.beside (State.useFree_only ..) rfl

/-! ### Interrupts and counters -/

theorem OwnSpace.fireIrq {src : Nat} (k : OwnSpace g s t) : OwnSpace g s (t.fireIrq g src) :=
  .ite k (.ite k.modGuest k.modGuest.emit)

theorem OwnSpace.setIrq {f : Irq → Irq} (k : OwnSpace g s t) : OwnSpace g s (t.setIrq g f) := by
  unfold State.setIrq
  extract_lets old new born s1 s2
  have h1 : OwnSpace g s s1 := k.modGuest.foldl fun _ _ hu => .ite hu.fireIrq hu
  have h2 : OwnSpace g s s2 := h1.foldl fun _ _ hu => .ite hu.modGuest hu
  exact .ite h2.fireIrq h2

theorem OwnSpace.irq {src : Nat} (k : OwnSpace g s t) : OwnSpace g s (t.irq g src) := k.setIrq

theorem OwnSpace.count {code n : Nat} (k : OwnSpace g s t) : OwnSpace g s (t.count g code n) := .ite k.modGuest k.modGuest.irq

theorem OwnSpace.modPfc {f : Pfc → Pfc} (k : OwnSpace g s t) : OwnSpace g s (t.modPfc g f) := k.modGuest

theorem OwnSpace.maskVector {v : Fin 64} {on : Bool} (k : OwnSpace g s t) : OwnSpace g s (t.maskVector g v on) :=
  .ite k.modGuest (.ite k.modGuest.emit.count k.modGuest)

/-! ### Writes to registers -/

theorem OwnSpace.modH2d {n : Fin 8} {f : H2D → H2D} (k : OwnSpace g s t) : OwnSpace g s (t.modH2d g n f) := k.modGuest

theorem OwnSpace.writeMbx {n : Fin 8} {o : Nat} {v mask : Word} (k : OwnSpace g s t) :
    OwnSpace g s (t.writeMbx path g n o v mask) := by
  unfold State.writeMbx
  extract_lets m b s1
  have h1 : OwnSpace g s s1 := .ite k.modH2d k
  split
  · exact .ite k.useFree.modH2d k.modH2d
  · exact .ite (.ite h1.modH2d h1) k

theorem OwnSpace.writeRing {r : Fin 8} {o : Nat} {v mask : Word} (k : OwnSpace g s t) :
    OwnSpace g s (t.writeRing g r o v mask) := by
  unfold State.writeRing
  extract_lets q set held
  have hset (f : RingRegs → RingRegs) {u : State} (hu : OwnSpace g s u) : OwnSpace g s (set f u) := hu.modGuest
  exact .ite (.ite (hset _ k.useFree) (hset _ k)) (.ite (.ite (hset _ k.useFree) (hset _ k))
    (.ite (.ite (hset _ k.useFree) (hset _ k)) (hset _ k)))

/-- The chip's snapshot is guest 0's own (R81). -/
theorem OwnSpace.writePfcCtrl {v mask : Word} (k : OwnSpace g s t) : OwnSpace g s (t.writePfcCtrl g v mask) := by
  unfold State.writePfcCtrl
  extract_lets w snap chip s1 s2
  have h2 : OwnSpace g s s2 := .ite k.modPfc.modPfc k.modPfc
  split
  case isTrue hchip =>
    have hg : g = 0 := by
      simp only [chip, Bool.and_eq_true, beq_iff_eq] at hchip
      exact hchip.2
    have hsnap : OwnSpace g s2 (s2.modHost fun x => { x with chipSnap := vmap (·.pfc.cnt) x.guests }) :=
      ⟨(State.modHost_only ..).mono rfl, fun _ _ => rfl⟩
    subst hg
    exact (h2.trans hsnap).modPfc
  case isFalse => exact h2

theorem OwnSpace.writeReg {off : Nat} {v mask : Word} (k : OwnSpace g s t) : OwnSpace g s (t.writeReg path g off v mask) := by
  unfold State.writeReg
  extract_lets b
  exact .ite k.modGuest (.ite k.setIrq (.ite k.setIrq (.ite k.setIrq (.dite (fun _ => k.setIrq) fun _ =>
    .ite k.writeMbx (.ite (.ite k.modGuest.count k) (.ite k.modGuest (.ite k.writeRing (.dite (fun _ => k.modPfc) fun _ =>
      .dite (fun _ => k.modPfc) fun _ =>
        .ite k.writePfcCtrl (.ite k.modPfc (.ite k.modPfc (.ite (.ite k.modGuest k) k)))))))))))

theorem OwnSpace.badAccess {off be : Nat} {write shape : Bool} (k : OwnSpace g s t) :
    OwnSpace g s (t.badAccess path g off write be shape) := by
  unfold State.badAccess
  split
  · exact k
  · exact .ite k (k.modGuest.count.irq.beside (State.violAnswer_only ..) rfl)

/-! ### Accesses -/

/-- t comes of s by what guest g does over the path in its register space, with or without the end of a sleep that this may mean. -/
def ByGuest (path : Path) (g : Guest) (s t : State) : Prop := ∃ u, OwnSpace g s u ∧ (t = u ∨ t = u.hostActive path)

theorem OwnSpace.byGuest (k : OwnSpace g s t) : ByGuest path g s t := ⟨t, k, .inl rfl⟩

theorem OwnSpace.byGuest_hostActive (k : OwnSpace g s t) : ByGuest path g s (t.hostActive path) := ⟨t, k, .inr rfl⟩

theorem State.hostWrite_byGuest {f : State → State} (hf : OwnSpace g s (f s)) : ByGuest path g s (s.hostWrite path g f) :=
  (OwnSpace.ite hf (.refl g s)).byGuest_hostActive

theorem State.access_byGuest {off be : Nat} {write shape : Bool} {f : State → State} (hf : OwnSpace g s (f s)) :
    ByGuest path g s (s.access path g off write be shape f) := by
  unfold State.access
  split
  · exact (OwnSpace.ite (OwnSpace.refl g s).emit (.refl g s)).byGuest
  · exact (OwnSpace.ite (.refl g s) (.ite (OwnSpace.refl g s).badAccess hf)).byGuest_hostActive

theorem execRegisterWrite_byGuest {off : Nat} {v : Word} (hexec : execRegisterWrite path g off v s = .next t) : ByGuest path g s t := by
  have hs : OwnSpace g s s := .refl g s
  cases hexec
  split
  · exact State.hostWrite_byGuest hs.maskVector
  · exact hs.byGuest
  · split
    · exact hs.byGuest_hostActive
    · exact State.access_byGuest (.ite hs hs.writeReg)
  · split
    · exact hs.byGuest
    · exact State.access_byGuest hs.writeReg

theorem execMbxGo_byGuest {n : Fin 8} (hexec : execMbxGo path g n s = .next t) : ByGuest path g s t := by
  cases hexec
  exact State.access_byGuest (.ite (.refl g s) (OwnSpace.refl g s).modH2d)

theorem execAccessViolation_byGuest {off be : Nat} {write shape : Bool}
    (hexec : execAccessViolation path g off write be shape s = .next t) : ByGuest path g s t := by
  cases hexec
  split
  · exact State.access_byGuest (.refl g s)
  · exact (OwnSpace.refl g s).byGuest

/-- A row that every guest has of its own, over either path. -/
theorem guestRow_byGuest {off be : Nat} {write shape : Bool} {v : Word} {n : Fin 8}
    (hrow : exec (.registerWrite path g off v) s = .next t ∨ exec (.irqStatusClear path g v) s = .next t ∨
      exec (.irqArm path g) s = .next t ∨ exec (.sysGuestHbWrite path g) s = .next t ∨ exec (.mbxGo path g n) s = .next t ∨
      exec (.mbxAbortClear path g n) s = .next t ∨ exec (.accessViolation path g off write be shape) s = .next t) :
    ByGuest path g s t := by
  have hs : OwnSpace g s s := .refl g s
  obtain hexec | hexec | hexec | hexec | hexec | hexec | hexec := hrow
  · exact execRegisterWrite_byGuest hexec
  · cases hexec
    exact State.hostWrite_byGuest hs.setIrq
  · cases hexec
    exact State.hostWrite_byGuest hs.setIrq
  · cases hexec
    exact State.hostWrite_byGuest hs.modGuest
  · exact execMbxGo_byGuest hexec
  · cases hexec
    exact State.access_byGuest hs.modH2d
  · exact execAccessViolation_byGuest hexec

/-- A row that a guest has over PCIe alone. -/
theorem pcieRow_byGuest {on : Bool} {v : Word} {k : Fin 64} {i : Fin 32}
    (hrow : exec (.msixVectorUnmask g k) s = .next t ∨ exec (.sysViolClr g) s = .next t ∨ exec (.pfcSnap g) s = .next t ∨
      exec (.pfcFreeze g on) s = .next t ∨ exec (.pfcPreset g i v) s = .next t ∨ exec (.pfcOvfClear g v) s = .next t ∨
      exec (.queDbH2d g v) s = .next t ∨ exec (.queDbD2hClear g v) s = .next t ∨ exec (.poisonedTlp g) s = .next t) :
    ByGuest .pcie g s t := by
  have hs : OwnSpace g s s := .refl g s
  obtain hexec | hexec | hexec | hexec | hexec | hexec | hexec | hexec | hexec := hrow <;> cases hexec
  · exact State.hostWrite_byGuest hs.maskVector
  · exact State.hostWrite_byGuest hs.modGuest
  · exact State.hostWrite_byGuest hs.modPfc
  · exact State.hostWrite_byGuest hs.modPfc
  · exact State.hostWrite_byGuest hs.modPfc
  · exact State.hostWrite_byGuest hs.modPfc
  · exact State.hostWrite_byGuest (.ite hs.modGuest.count hs)
  · exact State.hostWrite_byGuest hs.modGuest
  · exact hs.modGuest.emit.byGuest_hostActive

/-- A row that a guest has of its own. -/
theorem ownRow_byGuest {off be : Nat} {write shape on : Bool} {v : Word} {n : Fin 8} {k : Fin 64} {i : Fin 32}
    (hrow : exec (.registerWrite path g off v) s = .next t ∨ exec (.irqStatusClear path g v) s = .next t ∨
      exec (.irqArm path g) s = .next t ∨ exec (.msixVectorUnmask g k) s = .next t ∨ exec (.sysViolClr g) s = .next t ∨
      exec (.pfcSnap g) s = .next t ∨ exec (.pfcFreeze g on) s = .next t ∨ exec (.pfcPreset g i v) s = .next t ∨
      exec (.pfcOvfClear g v) s = .next t ∨ exec (.queDbH2d g v) s = .next t ∨ exec (.queDbD2hClear g v) s = .next t ∨
      exec (.sysGuestHbWrite path g) s = .next t ∨ exec (.mbxGo path g n) s = .next t ∨ exec (.mbxAbortClear path g n) s = .next t ∨
      exec (.poisonedTlp g) s = .next t ∨ exec (.accessViolation path g off write be shape) s = .next t) :
    ByGuest path g s t ∨ ByGuest .pcie g s t := by
  have hguest := guestRow_byGuest (path := path) (g := g) (off := off) (be := be) (write := write) (shape := shape) (v := v) (n := n)
    (s := s) (t := t)
  have hpcie := pcieRow_byGuest (g := g) (on := on) (v := v) (k := k) (i := i) (s := s) (t := t)
  tauto

/-! ### The end of a sleep -/

/-- Of guest h nothing but interrupts and counters differs. -/
def Interrupted (h : Guest) (s t : State) : Prop := t.guest h = { s.guest h with irq := (t.guest h).irq, pfc := (t.guest h).pfc }

theorem Interrupted.of_eq (k : t.guest h = s.guest h) : Interrupted h s t := by rw [Interrupted, k]

theorem Interrupted.trans (k : Interrupted h s t) (l : Interrupted h t u) : Interrupted h s u := by
  unfold Interrupted at *
  rw [l, k]

theorem Interrupted.ite {c : Prop} [Decidable c] (k : Interrupted h s t) (l : Interrupted h s u) :
    Interrupted h s (if c then t else u) := by
  split <;> assumption

theorem Interrupted.foldl {α : Type} {f : State → α → State} {l : List α} (k : Interrupted h s t)
    (hf : ∀ u a, Interrupted h s u → Interrupted h s (f u a)) : Interrupted h s (l.foldl f t) := by
  induction l generalizing t with
  | nil => exact k
  | cons a l ih => exact ih (hf _ _ k)

theorem Interrupted.modGuest {f : GuestSt → GuestSt} (k : Interrupted h s t)
    (hf : ∀ x, f x = { x with irq := (f x).irq, pfc := (f x).pfc }) : Interrupted h s (t.modGuest g f) := by
  refine k.trans ?_
  by_cases hg : g = h
  · subst hg
    have hguest : (t.modGuest g f).guest g = f (t.guest g) := ix_upd_same ..
    rw [Interrupted, hguest]
    exact hf _
  · exact .of_eq (ix_upd_ne _ _ _ _ hg)

theorem Interrupted.fireIrq {src : Nat} (k : Interrupted h s t) : Interrupted h s (t.fireIrq g src) :=
  .ite k (.ite (k.modGuest fun _ => rfl) ((k.modGuest fun _ => rfl).trans (.of_eq rfl)))

theorem Interrupted.irq {src : Nat} (k : Interrupted h s t) : Interrupted h s (t.irq g src) := by
  unfold State.irq State.setIrq
  extract_lets old new born s1 s2
  have h1 : Interrupted h s s1 := (k.modGuest fun _ => rfl).foldl fun _ _ hu => .ite hu.fireIrq hu
  have h2 : Interrupted h s s2 := h1.foldl fun _ _ hu => .ite (hu.modGuest fun _ => rfl) hu
  exact .ite h2.fireIrq h2

theorem Interrupted.sysChanged (k : Interrupted h s t) : Interrupted h s t.sysChanged := k.foldl fun _ _ hu => hu.irq

/-- A change beside the host's side. -/
theorem Interrupted.only {ps : List Part} (k : Interrupted h s t) (l : Only ps t u) (hps : Part.host ∉ ps) : Interrupted h s u :=
  k.trans (.of_eq (l.guest_eq hps))

theorem Interrupted.finalOpt {r : Option Req} {code : Nat} (k : Interrupted h s t) : Interrupted h s (t.finalOpt r code) := by
  unfold State.finalOpt
  split
  · exact k.trans (.of_eq rfl)
  · exact k

/-- A wake event interrupts every guest where it ends a sleep, and reaches no other register of a guest (R44). -/
theorem State.wakeEvent_interrupted (s : State) (src : Nat) : Interrupted h s (s.wakeEvent src) := by
  have hs : Interrupted h s s := .of_eq rfl
  have hsleep (f : Sleep → Sleep) : Interrupted h s (s.modSleep f) := hs.only (State.modSleep_only ..) (by decide)
  unfold State.wakeEvent
  extract_lets t
  have ht : Interrupted h s t := ((hsleep _).finalOpt.only (State.modMsh_only ..) (by decide)).sysChanged
  have hend : Interrupted h s (if s.isHead then t.originate 255 (.sleep 5 0) else t.originate s.chn.headAddr (.sleep 6 0)) :=
    .ite (ht.only (State.originate_only ..) (by decide)) (ht.only (State.originate_only ..) (by decide))
  clear_value t
  split
  · exact hs
  · exact hsleep _
  · split
    · exact hsleep _
    · exact hend
    · exact hend
    · exact hs

/-- Where no sleep is prepared or committed, activity of the host latches a wake source at most. -/
theorem State.hostActive_only_sys (hawake : s.sys.power ≠ .run ∨ (s.sys.sleep.phase ≠ .prepared ∧ s.sys.sleep.phase ≠ .committed)) :
    Only [.sys] s (s.hostActive path) := by
  have hsleep (f : Sleep → Sleep) : Only [.sys] s (s.modSleep f) := (State.modSleep_only ..).mono rfl
  refine .ite ?_ (Only.refl _ _)
  unfold State.wakeEvent
  extract_lets t
  clear_value t
  split
  case h_1 => exact Only.refl _ _
  case h_2 => exact hsleep _
  case h_3 hrun =>
    obtain hpower | ⟨hprepared, hcommitted⟩ := hawake
    · exact absurd hrun hpower
    · split
      case h_1 => exact hsleep _
      case h_2 hphase => exact absurd hphase hprepared
      case h_3 hphase => exact absurd hphase hcommitted
      case h_4 => exact Only.refl _ _

/-! ### What the rows leave -/

theorem ByGuest.gln (k : ByGuest .gln g s t) : OwnSpace g s t := by
  obtain ⟨u, hu, rfl | rfl⟩ := k <;> exact hu

theorem ByGuest.awake (k : ByGuest path g s t) (hne : g ≠ h)
    (hawake : s.sys.power ≠ .run ∨ (s.sys.sleep.phase ≠ .prepared ∧ s.sys.sleep.phase ≠ .committed)) :
    t.guest h = s.guest h ∧ s.sameBut [.sys, .host, .sent, .free] t := by
  obtain ⟨u, hu, rfl | rfl⟩ := k
  · exact ⟨hu.others h hne, (hu.only.mono rfl).same⟩
  · have hsys : u.sys = s.sys := hu.only.same .sys (by decide)
    have hactive : Only [.sys] u (u.hostActive path) := State.hostActive_only_sys (by rwa [hsys])
    exact ⟨(hactive.guest_eq (by decide)).trans (hu.others h hne), (Only.step hactive rfl (hu.only.mono rfl)).same⟩

theorem ByGuest.woken (k : ByGuest path g s t) (hne : g ≠ h) :
    t.guest h = { s.guest h with irq := (t.guest h).irq, pfc := (t.guest h).pfc } ∧
      s.sameBut [.sys, .host, .sent, .free, .msh, .chn] t := by
  obtain ⟨u, hu, rfl | rfl⟩ := k
  · exact ⟨Interrupted.of_eq (hu.others h hne), (hu.only.mono rfl).same⟩
  · have hown : Interrupted h s u := .of_eq (hu.others h hne)
    refine ⟨hown.trans (.ite (State.wakeEvent_interrupted ..) (.of_eq rfl)), ?_⟩
    exact (Only.step (State.hostActive_only ..) rfl (hu.only.mono rfl)).same

/-- Settles O17: every row is done in the guest's own space (`OwnSpace`); activity over PCIe may then end a sleep (`ByGuest`). -/
theorem guestRowsLeaveOtherGuestsAlone : Obligations.GuestRowsLeaveOtherGuestsAlone := by
  unfold Obligations.GuestRowsLeaveOtherGuestsAlone
  refine ⟨fun path g h off be write shape on v n k i s t hne hawake hrow => ?_,
    fun path g h off be write shape on v n k i s t hne hrow => ?_, fun g h off be write shape v n s t hne hrow => ?_⟩
  · obtain hrow | hrow := ownRow_byGuest hrow <;> exact hrow.awake hne hawake
  · obtain hrow | hrow := ownRow_byGuest hrow <;> exact hrow.woken hne
  · have hown : OwnSpace g s t := (guestRow_byGuest hrow).gln
    exact ⟨hown.others h hne, hown.only.same⟩

end Sys2Proof.Machine
end

section
/-! What happens on one port's vehicle link (spec 06): it reaches that port's vehicle interface and session engine alone. -/

namespace Sys2Proof.Machine

variable {p q : Port} {s t u : State}

/-! ### A port's own session engine -/

/-- t comes of s by changes that reach no session engine but port p's. -/
structure OwnSes (p : Port) (s t : State) : Prop where
  others : ∀ q, q ≠ p → t.sesAt q = s.sesAt q

theorem OwnSes.refl (p : Port) (s : State) : OwnSes p s s := ⟨fun _ _ => rfl⟩

theorem OwnSes.trans (h : OwnSes p s t) (k : OwnSes p t u) : OwnSes p s u :=
  ⟨fun q hq => (k.others q hq).trans (h.others q hq)⟩

theorem OwnSes.ite {c : Prop} [Decidable c] (h : OwnSes p s t) (k : OwnSes p s u) : OwnSes p s (if c then t else u) := by
  split <;> assumption

/-- A change that reaches no session engine. -/
theorem OwnSes.only {ps : List Part} (h : OwnSes p s t) (k : Only ps t u) (hps : Part.ses ∉ ps) : OwnSes p s u :=
  h.trans ⟨fun q _ => congrArg (fun x : Vector Ses 8 => ix x q) (k.same .ses hps)⟩

theorem OwnSes.modSes {f : Ses → Ses} (h : OwnSes p s t) : OwnSes p s (t.modSes p f) :=
  h.trans ⟨fun _ hq => ix_upd_ne _ _ _ _ hq.symm⟩

theorem OwnSes.ramp {degraded : Bool} (h : OwnSes p s t) : OwnSes p s (t.ramp p degraded) := by
  unfold State.ramp
  extract_lets s1 i s2
  have h1 : OwnSes p s s1 := h.only (State.rampDown_only ..) (by decide)
  have h2 : OwnSes p s s2 := h1.modSes.modSes
  exact .ite h1 (.ite ((h2.only (State.modVeh_only ..) (by decide)).only (State.refreshPwm_only ..) (by decide)) h2)

/-! ### A port's own link -/

/-- t comes of s by changes that reach no vehicle interface and no session engine but port p's. -/
structure OwnLink (p : Port) (s t : State) : Prop where
  veh : ∀ q, q ≠ p → t.vehAt q = s.vehAt q
  ses : OwnSes p s t

theorem OwnLink.refl (p : Port) (s : State) : OwnLink p s s := ⟨fun _ _ => rfl, .refl p s⟩

theorem OwnLink.trans (h : OwnLink p s t) (k : OwnLink p t u) : OwnLink p s u :=
  ⟨fun q hq => (k.veh q hq).trans (h.veh q hq), h.ses.trans k.ses⟩

theorem OwnLink.ite {c : Prop} [Decidable c] (h : OwnLink p s t) (k : OwnLink p s u) : OwnLink p s (if c then t else u) := by
  split <;> assumption

/-- A change that reaches no vehicle interface and no session engine. -/
theorem OwnLink.only {ps : List Part} (h : OwnLink p s t) (k : Only ps t u) (hps : apart ps [.veh, .ses] = true) : OwnLink p s u := by
  have hnot (x : Part) (hx : x ∈ [Part.veh, Part.ses]) : x ∉ ps := fun hmem => by
    have happart := List.all_eq_true.1 hps x hmem
    simp [hx] at happart
  exact h.trans ⟨fun q _ => congrArg (fun x : Vector Veh 8 => ix x q) (k.same .veh (hnot _ (by decide))),
    (OwnSes.refl p t).only k (hnot _ (by decide))⟩

theorem OwnLink.modVeh {f : Veh → Veh} (h : OwnLink p s t) : OwnLink p s (t.modVeh p f) :=
  h.trans ⟨fun _ hq => ix_upd_ne _ _ _ _ hq.symm, (OwnSes.refl p t).only (State.modVeh_only ..) (by decide)⟩

theorem OwnLink.modSes {f : Ses → Ses} (h : OwnLink p s t) : OwnLink p s (t.modSes p f) :=
  h.trans ⟨fun _ _ => rfl, (OwnSes.refl p t).modSes⟩

theorem OwnLink.emit {o : Out} (h : OwnLink p s t) : OwnLink p s (t.emit o) := h.only (State.emit_only ..) rfl

theorem OwnLink.vpRaise {bits : Word} (h : OwnLink p s t) : OwnLink p s (t.vpRaise p bits) :=
  h.modVeh.only (State.service_only ..) rfl |>.only (State.pendPort_only ..) rfl

theorem OwnLink.linkTo {l : LinkState} (h : OwnLink p s t) : OwnLink p s (t.linkTo p l) := .ite h.modVeh.vpRaise h.modVeh

theorem OwnLink.drive {d : CpDrive} (h : OwnLink p s t) : OwnLink p s (t.drive p d) := h.modVeh

theorem OwnLink.linkFailed (h : OwnLink p s t) : OwnLink p s (t.linkFailed p) :=
  .ite h.vpRaise.drive.linkTo.modVeh (.ite h.drive.modVeh h.vpRaise.linkTo)

theorem OwnLink.unmatch (h : OwnLink p s t) : OwnLink p s (t.unmatch p) := by
  unfold State.unmatch
  extract_lets s1
  have h1 : OwnLink p s s1 := h.modVeh.linkTo.modVeh
  exact .ite h1.linkFailed h1

theorem OwnLink.refreshPwm (h : OwnLink p s t) : OwnLink p s (t.refreshPwm p) := by
  unfold State.refreshPwm
  extract_lets x want
  refine .ite h ?_
  split
  · exact .ite h h.drive
  · exact h.emit
  · exact h

theorem OwnLink.protocolLost (h : OwnLink p s t) : OwnLink p s (t.protocolLost p) := .ite h.linkTo.modVeh.vpRaise.modSes h

/-! ### The rows -/

theorem execSlacInitTimeout_ownLink (hexec : execSlacInitTimeout p s = .next t) : OwnLink p s t := by
  have h : OwnLink p s s := .refl p s
  cases hexec
  refine .ite h ?_
  split
  · exact h.modVeh.linkFailed
  · exact h.modVeh
  · exact h

theorem execSupportedAppProtocol_ownLink {offers : List Nat} {mode : Nat} {dyn : Bool}
    (hexec : execSupportedAppProtocol p offers mode dyn s = .next t) : OwnLink p s t := by
  have h : OwnLink p s s := .refl p s
  cases hexec
  refine .ite h ?_
  split
  · exact h.linkTo.modVeh.modSes.emit.vpRaise.refreshPwm
  · exact h.emit.vpRaise.linkTo

theorem execCmSlacMatchReq_ownLink {run : Nat} (hexec : execCmSlacMatchReq p run s = .next t) : OwnLink p s t := by
  have h : OwnLink p s s := .refl p s
  cases hexec
  exact .ite h (.ite (h.modVeh.only (State.useFree_only ..) rfl).emit.emit (.ite h.emit h))

/-- A row of the matching, of the link or of the protocol of port p. -/
theorem linkRow_ownLink {run n mac mode : Nat} {ok dyn : Bool} {offers : List Nat} {a b d : List Byte} {x : ChainChecks}
    (hrow : exec (.cmSlacParmReq p run mac) s = .next t ∨ exec (.cmStartAttenChar p run) s = .next t ∨
      exec (.cmMnbcSound p run n) s = .next t ∨ exec (.cmValidate p run ok) s = .next t ∨ exec (.cmSlacMatchReq p run) s = .next t ∨
      exec (.slacTimerExpiry p) s = .next t ∨ exec (.slacInitTimeout p) s = .next t ∨ exec (.linkRetryEnd p) s = .next t ∨
      exec (.t1sFirstFrame p ok mac) s = .next t ∨ exec (.sdpRequest p ok) s = .next t ∨
      exec (.supportedAppProtocol p offers mode dyn) s = .next t ∨ exec (.tcpClosed p) s = .next t ∨
      exec (.protocolSequenceTimeout p) s = .next t ∨ exec (.contractChainPresented p a b d x) s = .next t ∨
      exec (.certInstallRequest p a) s = .next t ∨ exec (.certReplyTimeout p) s = .next t) :
    OwnLink p s t := by
  have h : OwnLink p s s := .refl p s
  obtain hexec | hexec | hexec | hexec | hexec | hexec | hexec | hexec | hexec | hexec | hexec | hexec | hexec | hexec | hexec | hexec :=
    hrow
  · cases hexec
    exact .ite h (.ite h.emit.linkTo.modVeh h.emit)
  · cases hexec
    exact .ite h.modVeh h
  · cases hexec
    exact .ite h.modVeh h
  · cases hexec
    exact .ite h.modVeh.emit h
  · exact execCmSlacMatchReq_ownLink hexec
  · cases hexec
    exact .ite h.unmatch h
  · exact execSlacInitTimeout_ownLink hexec
  · cases hexec
    exact .ite h.linkTo.drive.modVeh h
  · cases hexec
    exact .ite h.linkTo.modVeh.vpRaise h
  · cases hexec
    exact .ite h.modVeh.emit h
  · exact execSupportedAppProtocol_ownLink hexec
  · cases hexec
    exact h.protocolLost
  · cases hexec
    exact h.protocolLost
  · cases hexec
    exact .ite h h.modVeh
  · cases hexec
    exact .ite h.modVeh.vpRaise h
  · cases hexec
    exact .ite (h.modVeh.only (State.sayVehicle_only ..) rfl) h

/-- Settles O18: every row changes its own port's vehicle interface and session engine alone (`OwnLink`). -/
theorem portLinkRowsLeaveOtherPortsAlone : Obligations.PortLinkRowsLeaveOtherPortsAlone := by
  unfold Obligations.PortLinkRowsLeaveOtherPortsAlone
  refine ⟨fun p q run n mac mode ok dyn offers a b d x s t hne hrow => ?_, fun p q s t hne hexec => ?_⟩
  · have hlink : OwnLink p s t := linkRow_ownLink hrow
    exact ⟨hlink.veh q hne, hlink.ses.others q hne⟩
  · cases hexec
    have h : OwnSes p s s := .refl p s
    exact (OwnSes.ite (.ite h.ramp h) h).others q hne

end Sys2Proof.Machine
end
